-- ==== Sys2Proof/Word.lean ====
section
/-!
DEFINITION. The words of the machine: a byte and a 32-bit register word (R6).
-/

namespace Sys2Proof

/-- One byte of memory, of a packet or of a message. -/
abbrev Byte := BitVec 8

/-- One register word: register accesses are 32 bits wide (R6). -/
abbrev Word := BitVec 32

end Sys2Proof
end

