-- ==== Sys2Proof/Syntax.lean ====
section
/-!
DEFINITION. The commands of the block: one constructor of `Instr` per row of the table of operations and
events (spec/opcode_table.json), with the operands that reach the block with it. An operand is what the
outside supplies: what a host wrote, what a packet held, when a pulse began, what an engine delivered.
-/

namespace Sys2Proof

/-! ## Frames received on a port -/

/-- What the MAC of a port hands on with a frame (R208, R209, R221): the port (32 is the management port),
MAC addresses, VLAN identifier of the tag if there is one, length with FCS, EtherType, and for IPv4 whether
the header checksum is right, whether the total length fits, whether it is a fragment, the addresses and the
protocol, and for UDP the ports and whether a checksum that is not 0 is right. `macNs` is the device time of
the MAC timestamp, `skewNs` the lane skew that the PCS of a 100GBASE-R port measured. -/
structure RxHdr where
  port : Nat
  dstMac : Nat
  srcMac : Nat
  vlan : Option Nat
  len : Nat
  etype : Nat
  ipOk : Bool
  lenOk : Bool
  frag : Bool
  src : Nat
  dst : Nat
  proto : Nat
  sport : Nat
  dport : Nat
  sumOk : Bool
  macNs : Nat
  skewNs : Nat
  deriving DecidableEq, Repr

/-- A sample row data segment of ST 2110-20 (R217): line, offset in pixels, field bit and bytes. -/
structure Segment where
  line : Nat
  offset : Nat
  field : Bool
  data : List Byte
  deriving DecidableEq, Repr

/-- The RTP part of an ST 2110-20 packet (R217): version, 32-bit extended sequence number, timestamp,
marker bit and segments. -/
structure VideoPkt where
  version : Nat
  seq : Nat
  ts : Nat
  marker : Bool
  segs : List Segment
  deriving DecidableEq, Repr

/-- What a packet of a witness group holds (R231, R232): a stamp payload, or a video packet. -/
inductive WitPkt where
  | stamp (payload : List Byte)
  | video (pkt : VideoPkt)
  deriving DecidableEq, Repr

/-! ## Compressed sources -/

/-- What the active parameter set of a picture says (R153 to R156, R170, R174): the profile (general_profile_idc or
profile_idc), the general tier flag, the level (general_level_idc or level_idc), constraint_set1_flag, chroma_format_idc and
the bit depths, field_seq_flag, frame_mbs_only_flag, whether the pictures are coded as fields, whether a scalable,
multiview, 3D, range or screen content extension applies, the left and top cropping offsets, the coded size, the
conformance window, and the DPB it needs. -/
structure SeqHead where
  profile : Nat
  highTier : Bool
  level : Nat
  set1 : Bool
  chroma : Nat
  bitLuma : Nat
  bitChroma : Nat
  fieldSeq : Bool
  framesOnly : Bool
  extension : Bool
  cropLeft : Nat
  cropTop : Nat
  codedW : Nat
  codedH : Nat
  w : Nat
  h : Nat
  dpb : Nat
  deriving DecidableEq, Repr

/-- What a stream engine parses from the parameter sets, slice headers and SEI messages of an access unit
(R153 to R156, R169 to R174): the active parameter set, the type of its NAL units (nal_unit_type), nal_ref_idc, picture
order count, whether the order count starts afresh, pic_output_flag, the pictures it references, the pictures its reference
picture set or marking keeps, the recovery_poc_cnt, or the frame count implied by recovery_frame_cnt, of a recovery point
SEI, and whether every parameter set it names was received. -/
structure PicHead where
  sps : SeqHead
  nal : Nat
  refIdc : Nat
  poc : Int
  newSeq : Bool
  outFlag : Bool
  refs : List Int
  keep : List Int
  recovery : Option Int
  params : Bool
  deriving DecidableEq, Repr

/-- A table of program-specific information (R158): programs with the PID of their PMT, or a PMT's streams as
stream_type and PID. -/
inductive Psi where
  | pat (programs : List (Nat × Nat))
  | pmt (program : Nat) (streams : List (Nat × Nat))
  deriving DecidableEq, Repr

/-- One transport stream packet (R157, R158, R171): sync byte, PID, continuity counter,
transport_error_indicator, a table it completes, whether it starts an access unit, whether it holds the last
byte of a PES whose length is not 0, PTS bits [31:0] of a PES it starts, its elementary stream bytes apart from redundant
slices (R155), and the header parsed with them. -/
structure TsCell where
  sync : Nat
  pid : Nat
  cc : Nat
  tei : Bool
  psi : Option Psi
  auStart : Bool
  pesEnd : Bool
  pts : Option Nat
  data : List Byte
  head : Option PicHead
  deriving DecidableEq, Repr

/-- A packet of a compressed flow: RTP version, 16-bit sequence number, timestamp and marker (FORM 1 and 3); the NAL unit
type of its payload, whether it carries DONL fields, whether it ends a fragmentation unit that is truncated, whether it
holds only slices with redundant_pic_cnt above 0, elementary stream bytes and header parsed (FORM 1); and transport stream
packets (FORM 2 and 3). -/
structure StreamPkt where
  version : Nat
  seq : Nat
  ts : Nat
  marker : Bool
  nal : Nat
  donl : Bool
  truncated : Bool
  redundant : Bool
  data : List Byte
  head : Option PicHead
  cells : List TsCell
  deriving DecidableEq, Repr

/-- What a decode core delivers with a picture: whether the parser or the core found a value out of range or an overrun
(class SYNTAX of R171), the decoded picture hash that its SEI message carries, as kind and value, and the samples of luma,
Cb and Cr line by line, none where no slice was decoded. -/
structure DecResult where
  syntax_ : Bool
  hash : Option (Nat × Nat)
  luma : List (List (Option Nat))
  cb : List (List (Option Nat))
  cr : List (List (Option Nat))
  deriving DecidableEq, Repr

/-! ## Encoded feeds -/

/-- The sequence parameter set of a feed (R176, R181, R182, R198): profile, level and tier, sampling and bit depths, size,
reordering, block sizes as powers of two, tools, range and colour description of the VUI, and its timing information as units
in a picture and time scale. -/
structure SpsCode where
  profile : Nat
  level : Nat
  tier : Nat
  chroma : Nat
  bitLuma : Nat
  bitChroma : Nat
  w : Nat
  h : Nat
  reorder : Nat
  dpbMinus1 : Nat
  latencyPlus1 : Nat
  ctu : Nat
  minCu : Nat
  minTu : Nat
  maxTu : Nat
  sao : Bool
  amp : Bool
  temporalMvp : Bool
  scalingList : Bool
  pcm : Bool
  longTerm : Bool
  fullRange : Bool
  colour : Nat × Nat × Nat
  timing : Option (Nat × Nat)
  deriving DecidableEq, Repr

/-- The picture parameter set of a feed (R181): sign data hiding, transform skip, deblocking, weighted prediction, dependent
slices, tiles and wavefront substreams. -/
structure PpsCode where
  signHiding : Bool
  transformSkip : Bool
  deblocking : Bool
  weighted : Bool
  dependent : Bool
  tiles : Bool
  wavefront : Bool
  deriving DecidableEq, Repr

/-- What a non-VCL NAL unit of a feed says (R181, R188, R198): an access unit delimiter, a parameter set, a recovery point SEI
message with recovery_poc_cnt, exact_match_flag and broken_link_flag, or a decoded picture hash SEI message with its
hash_type and value. -/
inductive NalContent where
  | aud
  | vps (level tier : Nat)
  | sps (s : SpsCode)
  | pps (p : PpsCode)
  | recovery (cnt : Nat) (exact broken : Bool)
  | hash (kind value : Nat)
  deriving DecidableEq, Repr

/-- A block of a CTU that is predicted from the reference picture (R190): its luma position and size in the picture, and its
motion vector in quarter luma samples. -/
structure PredBlock where
  x : Nat
  y : Nat
  w : Nat
  h : Nat
  mvx : Int
  mvy : Int
  deriving DecidableEq, Repr

/-- What the core decides for a CTU: its bits at the QP of its row with the blocks that it predicts from the reference picture
(none: the CTU is intra-coded), its bits at the floor with the DC levels of its 32 x 32 luma transform blocks, and the column of
the rightmost luma sample that intra prediction uses in either (R187, R188, R190, R192). -/
structure CtuCode where
  bits : Nat
  blocks : List PredBlock
  floorBits : Nat
  floorDc : List Int
  intraRight : Option Nat
  deriving DecidableEq, Repr

/-- What an encode core delivers with a CTU row (R178, R181, R191, R198): the non-VCL NAL units it wrote before the slice (with
the first row of a picture, which also fixes the length of a hash SEI message that follows), the bits of slice header and end
of slice, its decisions for each CTU of the row, the NAL unit of the slice, the reconstructed lines of luma, Cb and Cr, and
with the last row the hash SEI message. -/
structure EncRow where
  nonVcl : List (NalContent × List Byte)
  hashLen : Nat
  hdrBits : Nat
  ctus : List CtuCode
  slice : List Byte
  luma : List (List Nat)
  cb : List (List Nat)
  cr : List (List Nat)
  hash : Option (NalContent × List Byte)
  deriving DecidableEq, Repr
/-! ## PTP messages (R256 to R260) -/

/-- The identity of a PTP port: clockIdentity and portNumber. -/
structure PtpId where
  clock : Nat
  port : Nat
  deriving DecidableEq, Repr

/-- An Announce message: domain, sender, logMessageInterval, the grandmaster's data set, stepsRemoved and the
UTC fields. -/
structure PtpAnnounce where
  domain : Nat
  sender : PtpId
  logInterval : Int
  gm : Nat
  prio1 : Nat
  cls : Nat
  accuracy : Nat
  variance : Nat
  prio2 : Nat
  steps : Nat
  utcOffset : Nat
  utcValid : Bool
  leap61 : Bool
  leap59 : Bool
  deriving DecidableEq, Repr

/-- A Sync or Follow_Up message: domain, sender, sequence number, two-step flag, origin timestamp in nanoseconds
and correctionField in units of 2^-16 ns. -/
structure PtpSync where
  domain : Nat
  sender : PtpId
  seq : Nat
  twoStep : Bool
  origin : Nat
  corr : Int
  deriving DecidableEq, Repr

/-- A Delay_Resp message: domain, sender, sequence number, whether the requesting port is this one, receive
timestamp, correctionField and logMessageInterval. -/
structure PtpDelayResp where
  domain : Nat
  sender : PtpId
  seq : Nat
  mine : Bool
  received : Nat
  corr : Int
  logInterval : Int
  deriving DecidableEq, Repr

/-! ## Memory -/

/-- The requesters of R324. -/
inductive Requester where
  | ingest | decCore (n : Nat) | encCore (n : Nat) | blend (n : Nat) | pager
  | path (entry path : Nat) | loop (entry path : Nat) | port (slot : Nat) | pair
  | engine (n : Nat) | scrub
  deriving DecidableEq, Repr

/-- What a burst belongs to, for its reader (R329). -/
inductive MemUse where
  | berth (n : Nat)
  | tile (output tile : Nat)
  | refPic (session : Nat)
  | encInput (session : Nat)
  | layoutRecord
  | desc (i : Nat)
  | lut (i : Nat)
  | coef (i : Nat)
  | image (i : Nat)
  | moored (output tile : Nat)
  | ring (session : Nat)
  | codedRing (session : Nat)
  | port (slot : Nat)
  | mirror
  | firmware (engine : Nat)
  | spill (seq : Nat)
  | other
  deriving DecidableEq, Repr


/-! ## Hosts and the pair (R278 to R312, R368 to R392) -/

/-- One entry of a slot's event queue (R381): block, bit, argument, tick, nanoseconds. -/
structure EvEntry where
  block : Nat
  bit : Nat
  arg : Nat
  tick : Nat
  ns : Nat
  deriving DecidableEq, Repr

/-- One touch key (R432 to R434): its state, learned baseline, scans in a row at or above THRESH, below the
release level, and below the baseline by more than THRESH; readings learned and their sum; whether this learning
makes the factory check, and whether it found the key SUSPECT; readings in a row near the factory baseline and
their sum; scans pressed; and scans towards the next drift step. -/
structure TouchKey where
  st : Nat
  base : Nat
  up : Nat
  down : Nat
  low : Nat
  n : Nat
  sum : Nat
  check : Bool
  suspect : Bool
  nearN : Nat
  nearSum : Nat
  held : Nat
  drift : Nat
  deriving DecidableEq, Repr

/-- A Fuhel session of a slot (R374, R375, R377): number, the port (32 management), address and UDP port of its
peer, the SEQ executed last with the response kept (OP, STATUS, body), when its last message came, and when the
last EVENT was sent (crystal nanoseconds). -/
structure FuhelSess where
  num : Nat
  port : Nat
  ip : Nat
  udp : Nat
  seq : Nat
  kept : Option (Nat × Nat × List Byte)
  lastNs : Nat
  eventNs : Option Nat
  deriving DecidableEq, Repr

/-- What a Fuhel request brings beside its body (R373): the frame, the UDP source port being that of `rx`,
SESSION, SEQ and SLOT. -/
structure FuhelHdr where
  rx : RxHdr
  session : Nat
  seq : Nat
  slot : Nat
  deriving DecidableEq, Repr

/-- What a debug access does (R389 to R392): choose the slot while debug is open without unlock, or read or
write a register, or read or write through a data-port target. -/
inductive DebugOp where
  | setSlot (slot : Nat)
  | regRead (addr : Nat)
  | regWrite (addr value : Nat)
  | dpRead (target addr len : Nat)
  | dpWrite (target addr : Nat) (data : List Byte)
  deriving DecidableEq, Repr

/-- The header of a tether frame as received (R283, R284): the lane T0 to T3 it came on, whether its CHECK is
correct, PROTO, SRC_UNIT, ALIVE, INDEX, TICK and EPOCH. -/
structure TetherHdr where
  lane : Nat
  crcOk : Bool
  proto : Nat
  unit : Nat
  alive : Nat
  index : Nat
  tick : Nat
  epoch : Nat
  deriving DecidableEq, Repr

/-- One item of the control state (R289), by section: the tick record (tick, epoch, layout in force, pending
layout request with whether it is prepared, mirror number issued); a write completed in the tick with its slot and its time after E(t);
freshness of a source; a transmit entry; an encode session; time; and for the hosts event queue, Fuhel session,
data-port pointer, berth pin and latches; touch keys and pending actions; and the owner of the update lock. -/
inductive CtlItem where
  | tick (num epoch : Nat) (layout : Option Nat) (request : Option (Nat × Bool)) (seq : Nat)
  | write (slot addr value after : Nat)
  | fresh (source st recov chg : Nat) (ack : Bool)
  | tx (entry ext stampSeq : Nat)
  | enc (session v p q : Nat) (hist : List (Nat × Nat)) (restart : Bool)
  | time (inUse : Nat) (relock : Option Nat) (due : Option (Nat × Nat))
  | evq (slot : Nat) (entries : List EvEntry)
  | fuhel (slot : Nat) (sess : Option FuhelSess)
  | dp (slot target addr : Nat)
  | pin (slot : Nat) (pinned : Bool) (berth : Nat)
  | latch (field inst bank value : Nat)
  | held (field inst bank value : Nat)
  | touch (key : Nat) (state : TouchKey)
  | actions (keys : List Nat)
  | owner (code : Nat)
  deriving DecidableEq, Repr

/-- A mirrored data-port write (R291): its number, target, address and bytes. -/
structure MirrorEntry where
  seq : Nat
  target : Nat
  addr : Nat
  data : List Byte
  deriving DecidableEq, Repr

/-- What a unit reports of its update state (R408, R409): VERIFY, VERIFY_ERR, selector state, PROTO and
OUTPUT_REV of its staged image, and OUTPUT_REV of the image it runs. -/
structure UnitReport where
  verify : Nat
  verifyErr : Nat
  selState : Nat
  proto : Nat
  rev : Nat
  runRev : Nat
  deriving DecidableEq, Repr

/-- A HEALTH message (R283, R300, R439): role, sync state, INCONSISTENT, health word, lease view, mirror number
acknowledged, resyncs begun, presses of the unit's own keys, and its update report. -/
structure HealthMsg where
  role : Nat
  sync : Nat
  inconsistent : Bool
  word : Nat
  lease : Nat
  ack : Option Nat
  resyncs : Nat
  presses : List Nat
  upd : UnitReport
  deriving DecidableEq, Repr

/-- A DIGEST payload (R296, R300): OUTPUT_ID, the flags, the layout, LAYER_OK, the input tags, the replaced
tiles, the records as CHECK and last byte, and the unit's health word. -/
structure Digest where
  id : Nat
  noFrame : Bool
  timeFloored : Bool
  refOk : Bool
  layout : Nat
  layerOk : List Bool
  tags : List Nat
  replaced : List Nat
  recs : List (Nat × Nat)
  word : Nat
  deriving DecidableEq, Repr

/-- The payload of a tether frame by its type (R283). -/
inductive TetherBody where
  | state (items : List CtlItem)
  | mirror (writes : List MirrorEntry)
  | stateEnd (frames : Nat)
  | sync (pages : List (Nat × List Byte)) (total : Nat) (endSeq : Option Nat)
  | health (msg : HealthMsg)
  | commit (edge : Nat)
  | revert
  | retrain (lane : Nat)
  | digest (dig : Digest)
  | decision (gives : Bool)
  deriving DecidableEq, Repr

/-- The commands, in the order of the table. -/
inductive Instr where
  /-- A host write to a register field that has no row of its own takes effect under its access code, or is dropped with CFG_DROPPED. (R11) -/
  | registerWrite (slot addr width value hwSet : Nat)
  /-- A read of an RC field returns its value and clears it, keeping any change made in the same cycle. (R11) -/
  | rcRead (slot addr inc : Nat)
  /-- A read of a _LO register latches the matching _HI value for the reading host slot. (R15) -/
  | loReadLatch (slot addr : Nat)
  /-- A write to a _LO register holds the value without applying it. (R16) -/
  | loWriteHold (slot addr value : Nat)
  /-- A write to a _HI register applies both halves together under the field's access code. (R16) -/
  | hiWriteApply (slot addr value : Nat)
  /-- At each tick edge of RUN, RWT values come into force, the layout is fixed, the input set is frozen and jobs are admitted. (R27) -/
  | tickEdge (errNs : Nat) (saved : Bool)
  /-- A request whose checks have not finished by E(AT) ends with LATE. (R97) -/
  | layoutLate
  /-- The tick engines finish building and publish the work list of the tick. (R30) -/
  | workListPublished
  /-- At 0.05 T the sentinel checks that the work list is published. (R30) -/
  | sentinelPublishCheck
  /-- At 0.85 T unfinished tiles are replaced, output berths are sealed and stamp records are fixed. (R29) -/
  | sealDeadline
  /-- The known-answer test run after the seal deadline completes and its result enters the health word. (R302) -/
  | katComplete (ok : Bool)
  /-- At 0.98 T the sentinel certifies the tick or raises TICK_SENTINEL_MISS. (R30) -/
  | sentinelCertify
  /-- A blend pipe completes a composition tile. (R104) -/
  | tileBlendComplete (output tile pipe : Nat)
  /-- A missing cache entry arrives and stalled tiles resume, or a wrong CHECK is handled. (R39) -/
  | pagerFetchComplete (cache index : Nat)
  /-- A control engine watchdog expires, the engine is held stopped and SYS_ENGINE_HUNG is raised. (R19) -/
  | engineWatchdogExpire (engine : Nat)
  /-- A write of FLUSH records a request to drop unpinned cache entries at the next edge. (R40) -/
  | tickPageFlush (slot : Nat)
  /-- The last tick before a step ends at E(t+1) without a tick edge and the step gap begins. (R25) -/
  | stepGapStart
  /-- Device time is stepped at E(t+1) + T/2 to remove the offset in full. (R266) -/
  | timeStepApply
  /-- At TRO the packetizer starts sending the berth sealed in the previous tick, or a NO_FRAME stamp is due. (R65) -/
  | outputFrameSendStart (output : Nat)
  /-- A video packet leaves at its scheduled time, or late with NET_TX_LATE. (R226) -/
  | videoPacketSend (entry lateNs : Nat)
  /-- After the last packet of a tile the checker compares the tile check with the sealed record. (R74) -/
  | loopbackTileCheck (output path tile : Nat) (bytes : List Byte)
  /-- A stamp of an output or feed is sent on each enabled path within 20 µs of its trigger. (R67) -/
  | stampSend (entry : Nat)
  /-- A write to FRS_ACK records an acknowledgement of one source for the next edge. (R53) -/
  | frsAckSource (slot source : Nat)
  /-- A write to FRS_ACK with ALL records an acknowledgement of every source for the next edge. (R53) -/
  | frsAckAll (slot : Nat)
  /-- A write to CMP_LAYOUT_SEL starts a layout request and runs its checks. (R95) -/
  | layoutRequest (slot index : Nat)
  /-- A write of CANCEL ends the slot's pending request with CANCELLED at the next edge. (R101) -/
  | layoutCancel (slot : Nat)
  /-- Flattening and paging prefetch of a request finish, so the switch may take place at the next edge. (R95) -/
  | layoutPrepareComplete
  /-- Steps 1 to 11 have not finished within TIMEOUT ticks and the request ends with TIMEOUT. (R95) -/
  | layoutTimeout
  /-- A spilled moored tile has been moved into a freed cache block. (R110) -/
  | moorSpillMoveComplete
  /-- A write to CMP_OUT_OWNER changes the owner or is dropped with CMP_OWNER_DENIED. (R103) -/
  | outOwnerWrite (slot output owner : Nat)
  /-- A write to CMP_BERTH_QUERY copies a berth record into the slot's record registers. (R119) -/
  | berthQuery (slot berth : Nat)
  /-- A pin of the newest sealed berth of a source. (R117) -/
  | berthPinSource (slot source : Nat)
  /-- A pin of the newest sealed berth of an output. (R117) -/
  | berthPinOutput (slot output : Nat)
  /-- The slot's pin is released. (R117) -/
  | berthPinRelease (slot : Nat)
  /-- A change of a pool's count, size or base returns its berths to FREE and keeps retirement by address. (R112) -/
  | poolConfigWrite (slot addr value : Nat)
  /-- A write to PIX_MAT_COMMIT copies the staged words for application at the next edge. (R138) -/
  | matCommit (slot index : Nat)
  /-- A write to PIX_MAT_QUERY copies a matrix entry into the read registers. (R152) -/
  | matQuery (slot index : Nat)
  /-- An ST 2110-20 packet of a flow is written into its frame's berth, and a complete frame is sealed. (R218) -/
  | ingestPacketReceive (hdr : RxHdr) (pkt : VideoPkt)
  /-- A frame without packets for SKEW_MS is discarded as incomplete. (R218) -/
  | ingestSkewTimeout (source ts : Nat)
  /-- A packet of a compressed flow enters its session ring, and an access unit may end. (R159) -/
  | streamPacketReceive (hdr : RxHdr) (pkt : StreamPkt)
  /-- An access unit closes at the first edge after a full tick without packets. (R159) -/
  | accessUnitIdleClose (session : Nat)
  /-- A decode core completes a picture, which is sealed or held. (R169) -/
  | decodePictureComplete (session : Nat) (result : DecResult)
  /-- A DEC_CMD OPEN checks and opens a decode session. (R163) -/
  | decOpen (slot session : Nat)
  /-- A DEC_CMD CLOSE checks and closes a decode session. (R165) -/
  | decClose (slot session : Nat)
  /-- A DEC_CMD RESYNC checks and resynchronises a decode session. (R166) -/
  | decResync (slot session : Nat)
  /-- An ENC_CMD OPEN checks and opens an encode session. (R183) -/
  | encOpen (slot session : Nat)
  /-- An ENC_CMD CLOSE checks and closes an encode session. (R185) -/
  | encClose (slot session : Nat)
  /-- An ENC_CMD REFRESH starts a new refresh period. (R189) -/
  | encRefresh (slot session : Nat)
  /-- A BIT_RATE write is dropped if it breaks the floor condition, otherwise it takes effect at the next edge. (R186) -/
  | encBitRateWrite (slot session bitRate bufPics : Nat)
  /-- In CTU-row mode a CTU row starts once every tile holding its lines is composed or replaced. (R195) -/
  | encCtuRowStart (session : Nat)
  /-- An encode core completes a CTU row, and with the last row the picture's rate control is closed. (R192) -/
  | encSliceComplete (session : Nat) (row : EncRow)
  /-- At the encode deadline every uncoded CTU is coded at floor and ENC_TIME_FLOOR is raised. (R196) -/
  | encDeadline (session coded : Nat) (rows : List EncRow)
  /-- An RTP packet of an HEVC feed leaves under the pacing rate. (R224) -/
  | feedPacketSend (session lateNs : Nat)
  /-- The loopback checker of a feed compares a slice CRC and stops the picture on a mismatch. (R203) -/
  | feedLoopbackCheck (session path slice : Nat) (bytes : List Byte)
  /-- A received frame that is malformed, fragmented, IPv6 or unmatched is dropped and counted. (R213) -/
  | mediaFrameDrop (hdr : RxHdr)
  /-- An ARP request for a unit or flow source address is answered. (R211) -/
  | arpRequestReceive (hdr : RxHdr) (senderMac senderIp targetIp : Nat)
  /-- An ARP reply fills the cache or reveals an address conflict. (R211) -/
  | arpReplyReceive (hdr : RxHdr) (senderMac senderIp targetIp : Nat)
  /-- An unanswered ARP request is repeated every 1 s and NET_ARP_UNRESOLVED is raised after three. (R211) -/
  | arpRetryTimer (port ip : Nat)
  /-- A cached entry is refreshed by request 60 s after it was learned. (R211) -/
  | arpRefreshTimer (port ip : Nat)
  /-- An ICMP echo request to a unit address is answered. (R209) -/
  | icmpEchoRequest (hdr : RxHdr) (payload : List Byte)
  /-- An IGMP query is answered, and an IGMPv2 query enters compatibility mode. (R212) -/
  | igmpQueryReceive (hdr : RxHdr) (version group : Nat)
  /-- A state-change report is sent a second time 1 s after the first. (R212) -/
  | igmpReportRepeat (port : Nat)
  /-- The Older Version Querier Present Timeout expires and IGMPv2 compatibility ends. (R212) -/
  | igmpV2Timeout (port : Nat)
  /-- A write of a receive flow's EN enables it after the conflict checks, or disables it, and updates IGMP joins. (R215) -/
  | rxFlowEnableWrite (slot flow word : Nat)
  /-- The witness accepts or discards a partner stamp or video packet. (R231) -/
  | witnessStampReceive (hdr : RxHdr) (pkt : WitPkt)
  /-- At E(k+2) + GRACE the witness gives its verdict for each watched output. (R232) -/
  | witnessVerdict
  /-- A write of NET_PORT_CFG.EN 1 starts bring-up of the port's lanes. (R242) -/
  | portEnable (slot port word : Nat)
  /-- A write of NET_PORT_CFG.EN 0 sends the lanes to OFF within 1 µs. (R242) -/
  | portDisable (slot port word : Nat)
  /-- Clause 73 auto-negotiation completes and training starts. (R242) -/
  | laneAnComplete (port : Nat)
  /-- Clause 72 link training completes and the hunt for lock starts. (R242) -/
  | laneTrainComplete (port : Nat) (inverted : List Bool)
  /-- A lane achieves lock and decides its polarity. (R243) -/
  | laneLockAcquired (lane normal inverted : Nat) (markers : Bool)
  /-- The four lanes of a 100GBASE-R port are aligned and deskewed, and the port enters UP. (R245) -/
  | laneAlignComplete (quad rxMap : Nat)
  /-- A lane loses lock, the port leaves UP and bring-up restarts. (R243) -/
  | laneLockLoss (lane : Nat)
  /-- A bring-up attempt's time runs out and the port goes DOWN and retries. (R246) -/
  | laneAttemptTimeout (port : Nat)
  /-- A reference stays outside its window for 20 µs and its lanes go to OFF. (R239) -/
  | refclkLoss (ref : Nat)
  /-- A reference has been back in its window for 1 ms and its lanes restart bring-up. (R239) -/
  | refclkRecover (ref : Nat)
  /-- Receive adaptation freezes on low transition density or idle. (R250) -/
  | adaptFreeze (lane : Nat) (signal : Bool)
  /-- Receive adaptation resumes from the held coefficients. (R250) -/
  | adaptResume (lane : Nat)
  /-- Every 100 ms a margin check starts on a media lane that is UP. (R251) -/
  | marginCheckTimer (lane : Nat)
  /-- A margin check ends, and a failure degrades a media lane or asks for a tether retrain. (R251) -/
  | marginCheckComplete (lane corners : Nat)
  /-- A write of LANE_TETHER_CFG.EN 1 starts tether training attempts. (R247) -/
  | tetherEnable (slot : Nat)
  /-- A write of LANE_TETHER_CFG.EN 0 sends all four tether lanes to OFF. (R255) -/
  | tetherDisable (slot : Nat)
  /-- A new tether attempt starts 100 ms after the previous one. (R248) -/
  | tetherAttemptStart
  /-- A receiver in WAIT detects partner training frames and an attempt starts within 100 µs. (R248) -/
  | tetherPartnerDetect
  /-- An attempt not UP within 10 ms ends, the lanes go to WAIT and LANE_TETHER_FAIL is raised. (R248) -/
  | tetherAttemptTimeout
  /-- Enough tether lanes are trained and confirmed by both ends and the tether is UP. (R247) -/
  | tetherUp (trained inverted : Nat)
  /-- Tether lanes leave electrical idle for a transmit window. (R249) -/
  | tetherWindowOpen (window unlocked : Nat)
  /-- Tether lanes enter electrical idle after their window. (R249) -/
  | tetherWindowClose (window : Nat)
  /-- A requested tether lane retrain starts in the lane's idle gap. (R252) -/
  | laneRetrainStart (lane : Nat)
  /-- A tether lane retrain finishes. (R252) -/
  | laneRetrainComplete (lane : Nat)
  /-- A retrain not finished 20 µs before the next window is abandoned. (R252) -/
  | laneRetrainAbandon (lane : Nat)
  /-- A write of LANE_SCAN_CTRL with START begins an eye-scan point. (R254) -/
  | scanStart (slot lane phase offset dwell : Nat)
  /-- An eye-scan point ends or aborts and LANE_SCAN_DONE is raised. (R254) -/
  | scanComplete (errors : Nat)
  /-- An Announce message updates foreign masters and master selection. (R257) -/
  | ptpAnnounceReceive (hdr : RxHdr) (msg : PtpAnnounce)
  /-- A Sync from the selected master yields an offset sample and a rate correction. (R260) -/
  | ptpSyncReceive (hdr : RxHdr) (msg : PtpSync)
  /-- A Follow_Up completes a two-step Sync measurement. (R256) -/
  | ptpFollowUpReceive (hdr : RxHdr) (msg : PtpSync)
  /-- A Delay_Resp yields a path delay sample. (R260) -/
  | ptpDelayRespReceive (hdr : RxHdr) (msg : PtpDelayResp)
  /-- The servo's randomised interval expires and a Delay_Req is sent. (R258) -/
  | ptpDelayReqSend (servo : Nat)
  /-- announceReceiptTimeout expires and the servo returns to LISTENING with TIME_SRV_LOSS. (R262) -/
  | ptpAnnounceTimeout (servo : Nat)
  /-- No Sync accepted for 2 s and the servo returns to LISTENING. (R262) -/
  | ptpSyncTimeout (servo : Nat)
  /-- A TIME_CMD RELOCK sets RELOCK_PENDING for a servo. (R266) -/
  | timeRelock (slot servo : Nat)
  /-- A TIME_CMD SELECT names a locked servo as the servo in use. (R264) -/
  | timeSelect (slot servo : Nat)
  /-- A TIME_CMD CANCEL clears a pending re-lock not yet due. (R266) -/
  | timeCancel (slot : Nat)
  /-- A read of TIME_NOW_NS latches the seconds registers for the slot. (R270) -/
  | timeNowRead (slot : Nat)
  /-- TICK_OUT goes active at an alignment point whose tick is a multiple of DIVIDE + 1. (R271) -/
  | tickOutPulseStart
  /-- TICK_OUT returns inactive after WIDTH µs. (R271) -/
  | tickOutPulseEnd
  /-- Enabling a trigger arms it or sets MISSED for a start time too soon. (R273) -/
  | trigEnableWrite (slot trig word : Nat)
  /-- A trigger pulse starts at its start or grid time. (R272) -/
  | trigPulseStart (trig : Nat)
  /-- A trigger pulse ends after WIDTH ns. (R272) -/
  | trigPulseEnd (trig : Nat)
  /-- An edge on TIME_CAP is timestamped and queued or dropped. (R275) -/
  | captureEdge (input : Nat) (rising : Bool)
  /-- A read of TIME_CAP_NS removes the oldest entry and latches its seconds and tag. (R276) -/
  | capturePop (slot input : Nat)
  /-- The renewal or RELEASE pulse width elapses and REIN_OUT is released. (R285) -/
  | reinOutRelease
  /-- The watch island sends the RELEASE pattern at a predicted tick after renewal stops. (R285) -/
  | reinReleasePattern
  /-- A low pulse on REIN_IN ends and is judged as renewal, RELEASE or ignored. (R287) -/
  | reinPulseReceive (startUs widthUs : Nat)
  /-- REIN_IN has been low for more than 1 ms and PAIR_REIN_STUCK is raised. (R470) -/
  | pairReinStuck
  /-- At 0.88 T the holder sends its control state, mirror or sync frames. (R289) -/
  | stateBurstStart
  /-- A STATE frame from the holder is received. (R289) -/
  | tetherStateReceive (hdr : TetherHdr) (items : List CtlItem)
  /-- A MIRROR frame carries mirrored data-port writes to the standby. (R291) -/
  | tetherMirrorReceive (hdr : TetherHdr) (writes : List MirrorEntry)
  /-- A STATE_END frame completes a burst, which is received if its CRC is correct. (R294) -/
  | tetherStateEndReceive (hdr : TetherHdr) (frames : Nat) (burstOk : Bool)
  /-- A SYNC frame carries resync pages into the standby's DRAM. (R303) -/
  | tetherSyncReceive (hdr : TetherHdr) (pages : List (Nat × List Byte)) (total : Nat) (endSeq : Option Nat)
  /-- A HEALTH frame gives the partner's role, health word, lease view and mirror acknowledgement. (R301) -/
  | tetherHealthReceive (hdr : TetherHdr) (msg : HealthMsg)
  /-- A COMMIT message names the edge at which the standby takes the halter. (R308) -/
  | leaseCommitReceive (hdr : TetherHdr) (edge : Nat)
  /-- A REVERT message asks the holder to start a planned handover. (R310) -/
  | leaseRevertReceive (hdr : TetherHdr)
  /-- A RETRAIN message asks for a tether lane retrain. (R252) -/
  | leaseRetrainReceive (hdr : TetherHdr) (lane : Nat)
  /-- A DIGEST frame of the partner is compared tile by tile with the unit's own. (R297) -/
  | tetherDigestReceive (hdr : TetherHdr) (dig : Digest)
  /-- A DECISION frame gives the holder's YIELD or KEEP. (R299) -/
  | tetherDecisionReceive (hdr : TetherHdr) (gives : Bool)
  /-- At 0.93 T each unit forms its health word. (R300) -/
  | healthWordForm
  /-- Between 0.95 T and 0.97 T each unit sends its DIGEST frames. (R296) -/
  | digestSend
  /-- With the mismatch count at K, both units reach a decision at 0.97 T. (R299) -/
  | pairDecision
  /-- No burst received for 3 ticks sends the standby to sync state STALE. (R294) -/
  | pairStateStale
  /-- A joining unit without partner lease or fresh witness after 4 or 8 ticks takes the halter. (R304) -/
  | joiningTimeout
  /-- A holder that released the halter and saw no partner renewal takes it back. (R309) -/
  | handoverTakeback
  /-- A write of PAIR_CTRL.EN outside RUN moves the unit between SOLO and JOINING. (R304) -/
  | pairEnWrite (slot word : Nat)
  /-- A PAIR_CMD HANDOVER starts a planned handover. (R308) -/
  | pairHandover (slot : Nat)
  /-- A PAIR_CMD RESYNC starts a resync, or ends FAULTED when no fault bit is set. (R303) -/
  | pairResync (slot : Nat)
  /-- The last page and the mirror from the end position are received and the standby enters SHADOW. (R303) -/
  | resyncComplete
  /-- A request reaches a channel controller queue or waits in the interconnect. (R321) -/
  | memRequest (addr : Nat) (write : Bool) (off : Nat) (data : List Byte) (who : Requester) (use : MemUse)
  /-- A read burst returns with ECC checked, correcting or poisoning its data. (R327) -/
  | memReadResponse (channel bits addrBits : Nat)
  /-- A bank's refresh interval expires and a per-bank refresh is scheduled. (R323) -/
  | memRefreshDue (channel bank : Nat)
  /-- A stack reports above 85 °C and the refresh interval halves. (R323) -/
  | memStackTempHigh (stack temp : Nat)
  /-- A scrub pass over every burst ends and MEM_SCRUB_DONE is raised. (R331) -/
  | memScrubPassEnd
  /-- Channel clocks lock during a rate change and the sequence completes. (R334) -/
  | memFchgLock
  /-- Clocks fail to lock within 2 ms and MEM_FCHG_FAIL is raised. (R334) -/
  | memFchgTimeout
  /-- A monitored supply falls below its threshold and power-on reset reaches every domain. (R338) -/
  | porAssert
  /-- Power-on reset is released 1 ms after both supplies are valid and PD0 starts. (R338) -/
  | porRelease (resetLow : Bool) (boot clkmode : Nat)
  /-- An accepted low on RESET_N resets every domain except PD0. (R339) -/
  | pinResetAssert (heldNs : Nat)
  /-- An accepted release of RESET_N latches the straps and starts domain release. (R341) -/
  | pinResetRelease (heldNs boot clkmode : Nat)
  /-- A domain clock reports lock and the domain is released 256 cycles later. (R343) -/
  | domainClockLock (pd : Nat)
  /-- A domain clock does not lock within 2 ms and RST_CLK_TIMEOUT is raised. (R344) -/
  | domainClockTimeout (pd : Nat)
  /-- The boot ROM verifies and loads an image and enters READY, or halts. (R349) -/
  | boot (trained octal : Bool) (flashSize : Nat)
  /-- A host-push data-port write supplies the next bytes of the boot image. (R351) -/
  | hostPushWrite (addr : Nat) (data : List Byte)
  /-- A SYS_PWR_CMD to WATCH switches off PD1 to PD11. (R357) -/
  | pwrCmdWatch (slot : Nat)
  /-- A SYS_PWR_CMD to STANDBY ends layouts and sessions and puts memory in self-refresh. (R356) -/
  | pwrCmdStandby (slot : Nat)
  /-- A SYS_PWR_CMD to READY leaves STANDBY or leaves RUN at the next edge. (R355) -/
  | pwrCmdReady (slot : Nat)
  /-- A SYS_PWR_CMD to RUN checks domains and pools and starts tick edges. (R355) -/
  | pwrCmdRun (slot : Nat)
  /-- A STATUS transaction returns the status byte. (R370) -/
  | spiStatus
  /-- An SPI REG_WRITE transaction writes a register. (R370) -/
  | spiRegWrite (addr value : Nat)
  /-- An SPI REG_READ transaction reads a register. (R370) -/
  | spiRegRead (addr : Nat)
  /-- An SPI DP_WRITE writes bytes through the slot's data port. (R378) -/
  | spiDpWrite (data : List Byte)
  /-- An SPI DP_FETCH starts a data-port read into the slot buffer and sets BUSY. (R371) -/
  | spiDpFetch (len : Nat)
  /-- The fetch buffer is filled and BUSY clears. (R371) -/
  | spiDpFetchComplete
  /-- An SPI DP_READ returns the bytes of the last fetch. (R371) -/
  | spiDpRead
  /-- A transaction with a reserved opcode or wrong clock count is discarded with FORMAT. (R371) -/
  | spiInvalidTransaction
  /-- A Fuhel OPEN opens or replaces a session of a slot. (R374) -/
  | fuhelOpen (hdr : FuhelHdr)
  /-- A Fuhel CLOSE closes the session. (R374) -/
  | fuhelClose (hdr : FuhelHdr)
  /-- A Fuhel REG_READ reads registers in order. (R376) -/
  | fuhelRegRead (hdr : FuhelHdr) (addrs : List Nat)
  /-- A Fuhel REG_WRITE writes registers in order before the next edge. (R376) -/
  | fuhelRegWrite (hdr : FuhelHdr) (writes : List (Nat × Nat))
  /-- A Fuhel DP_WRITE writes bytes to a data-port target. (R378) -/
  | fuhelDpWrite (hdr : FuhelHdr) (target addr : Nat) (data : List Byte)
  /-- A Fuhel DP_READ reads bytes from a data-port target. (R378) -/
  | fuhelDpRead (hdr : FuhelHdr) (target addr len : Nat)
  /-- An EVQ_ACK removes entries from the slot's event queue. (R377) -/
  | fuhelEvqAck (hdr : FuhelHdr) (count : Nat)
  /-- A KEEPALIVE keeps the session open. (R373) -/
  | fuhelKeepalive (hdr : FuhelHdr)
  /-- A request with a reserved OP is answered with FORMAT. (R373) -/
  | fuhelReservedOp (hdr : FuhelHdr) (op : Nat)
  /-- A non-empty event queue is sent in an EVENT message. (R377) -/
  | fuhelEventSend (slot : Nat)
  /-- An unacknowledged EVENT is repeated every 100 ms. (R377) -/
  | fuhelEventRepeat (slot : Nat)
  /-- A session without messages for TIMEOUT_S seconds closes. (R374) -/
  | fuhelSessionTimeout (slot : Nat)
  /-- A read of HOST_EVQ_POP0 removes the oldest event entry and latches its words. (R381) -/
  | evqPop (slot : Nat)
  /-- A HOST_LC_CMD OP 1 programs the PRODUCTION life-cycle state. (R388) -/
  | lcToProduction (slot : Nat)
  /-- A HOST_LC_CMD OP 2 programs the DECOMMISSIONED state while debug is unlocked. (R388) -/
  | lcToDecommissioned (slot : Nat)
  /-- A debug response signature unlocks debug for a slot or is rejected. (R389) -/
  | debugUnlockResponse (key signature : List Byte) (slot : Nat)
  /-- A debug access reaches the register map or data port, or is refused as DENIED. (R392) -/
  | debugAccess (op : DebugOp)
  /-- A UPD_CMD OPEN takes the update session lock. (R397) -/
  | updOpen (slot unit : Nat)
  /-- A UPD_CMD CLOSE releases the update session lock. (R398) -/
  | updClose (slot unit : Nat)
  /-- A UPD_CMD VERIFY starts checking the image in the inactive slot. (R402) -/
  | updVerify (slot unit : Nat)
  /-- Verification ends and UPD_VERIFY_DONE is raised. (R402) -/
  | updVerifyDone
  /-- A UPD_CMD ACTIVATE writes the inactive slot as PREFERRED with STATE TRIAL. (R404) -/
  | updActivate (slot unit : Nat)
  /-- A UPD_CMD SWAP starts a hitless swap or is refused. (R406) -/
  | updSwap (slot unit : Nat)
  /-- A UPD_CMD CONFIRM confirms the trial image and raises OTP SVNs. (R404) -/
  | updConfirm (slot unit : Nat)
  /-- A UPD_CMD REVERT writes the running image as PREFERRED and CONFIRMED. (R404) -/
  | updRevert (slot unit : Nat)
  /-- A write to the update window programs the inactive slot in rising order. (R401) -/
  | updWindowWrite (slot addr : Nat) (data : List Byte)
  /-- A write to the settings window changes the copy in the system region. (R405) -/
  | settingsWindowWrite (slot addr : Nat) (data : List Byte)
  /-- Changed settings sectors are programmed into flash and SETTINGS_DIRTY clears. (R405) -/
  | settingsProgramComplete
  /-- The changed sections are loaded and checked, and the swap edge is named. (R407) -/
  | swapLoadComplete
  /-- After 8 postponements the swap is abandoned with SWAP_TIMEOUT. (R407) -/
  | swapAbandon
  /-- 60 s without owner activity release the update lock with UPD_SESSION_LOST. (R398) -/
  | updSessionTimeout
  /-- A write to CHK_CH_DATA8 feeds one byte to a channel. (R413) -/
  | chkData8 (slot channel data : Nat)
  /-- A write to CHK_CH_DATA16 feeds two bytes to a channel. (R413) -/
  | chkData16 (slot channel data : Nat)
  /-- A write to CHK_CH_DATA32 feeds four bytes to a channel. (R413) -/
  | chkData32 (slot channel data : Nat)
  /-- OP INIT sets VALUE to INIT, abandoning any range. (R413) -/
  | chkInit (slot channel : Nat)
  /-- OP FINISH folds the alive byte, fixes RESULT and resets VALUE. (R412) -/
  | chkFinish (slot channel : Nat)
  /-- OP RANGE starts feeding LEN bytes from DRAM. (R414) -/
  | chkRange (slot channel : Nat)
  /-- A range ends and CHK_RANGE_DONE or CHK_RANGE_FAULT is raised. (R414) -/
  | chkRangeComplete
  /-- A PERF_CMD SNAP copies all counters into the snapshot bank. (R417) -/
  | perfSnap (slot : Nat) (edge : Bool)
  /-- A PERF_CMD START makes all counters count. (R417) -/
  | perfStart (slot : Nat) (edge : Bool)
  /-- A PERF_CMD STOP stops all counters. (R417) -/
  | perfStop (slot : Nat) (edge : Bool)
  /-- A PERF_CMD CLEAR sets all counters to 0. (R417) -/
  | perfClear (slot : Nat) (edge : Bool)
  /-- A bandwidth window ends and per-port byte counts are latched. (R419) -/
  | perfBwWindow
  /-- Every PERIOD-th sampleable occurrence places a sample word in the buffer. (R420) -/
  | perfSample (output row col unit : Nat)
  /-- A read of PERF_SAMPLE_POP removes the oldest sample word. (R420) -/
  | perfSamplePop (slot : Nat)
  /-- A staged event is written to the black box SRAM and spill ring, or freezes it on trigger. (R423) -/
  | bboxEntryWrite
  /-- A BBOX_CMD ARM clears FROZEN and TRIGGERED. (R424) -/
  | bboxArm (slot : Nat)
  /-- A write to BBOX_MARK records a host mark event. (R422) -/
  | bboxMark (slot value : Nat)
  /-- The scan of a key ends and its state machine, baseline and action are evaluated. (R432) -/
  | touchScan (key reading : Nat)
  /-- A TOUCH_CMD REBASE sends one key to LEARNING. (R434) -/
  | touchRebase (slot key : Nat)
  /-- A TOUCH_CMD REBASE with ALL sends every enabled key to LEARNING. (R434) -/
  | touchRebaseAll (slot : Nat)
  /-- A GAIN change re-baselines the key. (R431) -/
  | touchGainWrite (slot key word : Nat)
  /-- Enabling sensing or a key starts learning with the factory check. (R434) -/
  | touchEnWrite (slot : Nat) (ctrl : Bool) (word : Nat)
  /-- A change on a GPIO input sets GPIO_EDGE and raises GPIO_EDGE. (R458) -/
  | gpioInputEdge (pin : Nat) (level : Bool)
  /-- A sensor above 105 °C for 10 ms sets the THERMAL health bit. (R463) -/
  | thermalAlarm
  /-- Every sensor at 100 °C or lower clears the THERMAL health bit. (R463) -/
  | thermalClear
  /-- A channel controller acknowledges a write once every later request sees its data, and a producer whose writes are all acknowledged seals its berth. (R325) -/
  | memWriteAck (channel bits : Nat)
  /-- A stack again reports 85 °C or less, TEMP_HIGH clears and the normal refresh interval returns. (R323) -/
  | memStackTempNormal (stack temp : Nat)
  /-- A built-in self-test of an idle SRAM bank on a non-holding unit ends, and a failure sets the SRAM_BIST health bit. (R302) -/
  | sramBistComplete (ok : Bool)
  /-- The flash finishes erasing or programming for the update window or a selector record, so it is no longer busy and the pending command completes. (R401) -/
  | updFlashWriteComplete
  deriving DecidableEq, Repr

end Sys2Proof
end

