-- ==== Sys2Proof/Decode.lean ====
section
/-!
DEFINITION. The command a word spells. The block has no instruction encoding: the table of operations and
events gives no row any bits (R1 names host accesses, packets, pulses and times as what reaches it), so no word
spells a command.
-/

namespace Sys2Proof

/-- The command spelled by the `nbits` bits of `w`: none, as no row of the table has bits. -/
def decodeTableWord (nbits w : Nat) : Option Instr :=
  match nbits, w with
  | _, _ => none

end Sys2Proof
end

