-- ==== Sys2Proof/Config.lean ====
section
/-!
DEFINITION. The free values: constants without a body. Nothing can evaluate them, so a statement about one
holds for every value it might have.
-/

namespace Sys2Proof.Config

/-- How EOTF_PQ of BT.2100 at the signal v / w compares with n / m cd/m² (R143), from v, w, n and m. The spec names BT.2100
and does not print its curves (log entry 31). -/
opaque pqCompare : Nat → Nat → Nat → Nat → Ordering

/-- How the 6th power of the HLG inverse OETF of BT.2100 at the signal v / w compares with n / m (R143), from v, w, n and m
(log entry 31). -/
opaque hlgCompare : Nat → Nat → Nat → Nat → Ordering

/-- The compressed form of a moored tile, from its pixels (R108), which the spec does not give (log entry 32). -/
opaque moorBytes : List (Nat × Nat × Nat × Nat) → List Byte

/-- The pixels that bytes in the place of a compressed tile read as, where they are not the ones that were stored there
(log entry 32). -/
opaque moorPixels : List Byte → List (Nat × Nat × Nat × Nat)

/-- SHA-384 (R347, R349, R389): named and not given by the spec (log entry 33). -/
opaque sha384 : List Byte → BitVec 384

/-- The verdict of ECDSA P-384 on a public key, a signature and a digest (R347, R349, R389): named and not
given by the spec (log entry 33). -/
opaque ecdsaOk : List Byte → List Byte → BitVec 384 → Bool

/-- A fresh 32-byte number drawn by the device (R389), by the counter of draws (log entry 34). -/
opaque random : Nat → BitVec 256

/-- Which of several free berths an allocation takes (R114 does not say), by the counter of fresh values
(log entry 35). -/
opaque pick : Nat → Nat

/-- The payload bytes of a tether frame of a type whose payload the spec lists and does not lay out: every type but DIGEST (R283,
log entry 157). -/
opaque tetherPayload : TetherBody → List Byte

/-- The draw of a Delay_Req interval (R258), by the counter of fresh values (log entry 155). -/
opaque delayDraw : Nat → Nat

/-- The prediction of a servo for its next sample (R261), by kind (0 path delay, 1 offset) and the samples
accepted so far with their times: the spec does not say how a servo predicts (log entry 36). -/
opaque servoPrediction : Nat → List (Nat × Int) → Int

/-- The register entries that a CONFIG section holds, as address and value (R349): the spec does not print the
section's format (log entry 60). -/
opaque configEntries : List Byte → List (Nat × Nat)

/-- A CONFIG section agrees with a SCHEMA section (R349), whose format the spec does not print (log entry 60). -/
opaque schemaOk : List Byte → List Byte → Bool

/-- The settings of one format converted to another, or none where they cannot be (R405): from the old format,
the new format and the bytes (log entry 61). -/
opaque convertSettings : Nat → Nat → List (Nat × BitVec 8) → Option (List (Nat × BitVec 8))

/-- The decoded picture hash of a kind (0 MD5, 1 CRC, 2 checksum) over the samples of luma, Cb and Cr (R171, R181): named
and not given by the spec (log entry 138). -/
opaque pictureHash : Nat → List (List Nat) → List (List Nat) → List (List Nat) → Nat

end Sys2Proof.Config
end

