-- ==== Sys2Proof/Machine/Memory.lean ====
section
/-!
DEFINITION. DRAM and flash as lists of cells in one canonical form, byte order (R2, R3) and the check codes that the
spec computes over bytes (R59, R69, R283, R412).
-/

namespace Sys2Proof.Machine

/-- Bytes by address: those that differ from the fill byte `z` that every unlisted address reads as, by rising
address. -/
abbrev Cells := List Host.Cell

/-- The canonical form from an address on: addresses strictly rise, and no listed byte is the fill byte. -/
def Cells.wfFrom (z : Byte) (lo : Nat) : Cells → Bool
  | [] => true
  | (a, b) :: r => decide (lo ≤ a) && decide (b ≠ z) && Cells.wfFrom z (a + 1) r

/-- The byte at an address. -/
def Cells.read (z : Byte) (m : Cells) (a : Nat) : Byte :=
  match m with
  | [] => z
  | (a', b) :: r => if a' = a then b else if a < a' then z else Cells.read z r a

/-- Store one byte, keeping the canonical form. -/
def Cells.write (z : Byte) (m : Cells) (a : Nat) (v : Byte) : Cells :=
  match m with
  | [] => if v = z then [] else [(a, v)]
  | (a', b) :: r =>
    if a < a' then (if v = z then (a', b) :: r else (a, v) :: (a', b) :: r)
    else if a = a' then (if v = z then r else (a, v) :: r)
    else (a', b) :: Cells.write z r a v

/-- Store bytes at rising addresses. -/
def Cells.writeList (z : Byte) (m : Cells) (a : Nat) : List Byte → Cells
  | [] => m
  | b :: r => Cells.writeList z (Cells.write z m a b) (a + 1) r

/-- DRAM: a byte that is not listed reads as 0x00, as every byte does that was not written since the most recent
reset (R320). -/
abbrev Dram := Cells

/-- The canonical form of DRAM. -/
def Dram.wf (m : Dram) : Bool := Cells.wfFrom 0 0 m

/-- The byte at a DRAM address. -/
def Dram.read (m : Dram) (a : Nat) : Byte := Cells.read 0 m a

/-- Store one byte in DRAM. -/
def Dram.write (m : Dram) (a : Nat) (v : Byte) : Dram := Cells.write 0 m a v

/-- The flash and the settings copy: an unlisted byte is erased and reads as 0xFF. -/
abbrev Flash := Cells

/-- The canonical form of flash. -/
def Flash.wf (m : Flash) : Bool := Cells.wfFrom 0xFF 0 m

/-- The byte at a flash address. -/
def Flash.read (m : Flash) (a : Nat) : Byte := Cells.read 0xFF m a

/-- Program bytes at rising addresses. -/
def Flash.writeList (m : Flash) (a : Nat) (l : List Byte) : Flash := Cells.writeList 0xFF m a l

/-- Store bytes at rising addresses. -/
def Dram.writeList (m : Dram) (a : Nat) (l : List Byte) : Dram := Cells.writeList 0 m a l

/-- The `n` bytes from an address on. -/
def Dram.readList (m : Dram) (a n : Nat) : List Byte :=
  (List.range n).map (fun k => Dram.read m (a + k))

/-- The cells of the `n` bytes from an address on, and no others. -/
def Dram.slice (m : Dram) (a n : Nat) : Dram := m.filter (fun c => decide (a ≤ c.1) && decide (c.1 < a + n))

/-- The number that bytes spell, least significant byte first (R3). -/
def leNat : List Byte → Nat
  | [] => 0
  | b :: r => b.toNat + 256 * leNat r

/-- The number that bytes spell, most significant byte first (R2). -/
def beNat (l : List Byte) : Nat := l.foldl (fun n b => n * 256 + b.toNat) 0

/-- `n` bytes of a number, least significant first (R3). -/
def leBytes (n v : Nat) : List Byte := (List.range n).map (fun k => BitVec.ofNat 8 (v / 256 ^ k))

/-- `n` bytes of a number, most significant first (R2). -/
def beBytes (n v : Nat) : List Byte := (leBytes n v).reverse

/-- A little-endian number in DRAM (R3). -/
def Dram.le (m : Dram) (a n : Nat) : Nat := leNat (Dram.readList m a n)

/-- The parameters of a check code: width, generator, initial value, final XOR and reflections (R412). -/
structure CrcParam where
  width : Nat
  poly : Nat
  init : Nat
  xorOut : Nat
  refIn : Bool
  refOut : Bool
  deriving DecidableEq, Repr

/-- The `w` low bits of a number in reverse order. -/
def reverseBits (w v : Nat) : Nat :=
  (List.range w).foldl (fun r k => r * 2 + (v / 2 ^ k) % 2) 0

/-- One bit of the feed of R412. -/
def crcBit (w poly v : Nat) (bit : Bool) : Nat :=
  let top := xor (v.testBit (w - 1)) bit
  let v' := (v * 2) % 2 ^ w
  if top then v' ^^^ (poly % 2 ^ w) else v'

/-- The feed of one byte of R412. -/
def crcFeed (p : CrcParam) (v : Nat) (b : Byte) : Nat :=
  let n := if p.refIn then reverseBits 8 b.toNat else b.toNat
  [7, 6, 5, 4, 3, 2, 1, 0].foldl (fun v k => crcBit p.width p.poly v (n.testBit k)) v

/-- The result of R412 from the running register. -/
def crcOut (p : CrcParam) (v : Nat) : Nat :=
  ((if p.refOut then reverseBits p.width v else v) ^^^ p.xorOut) % 2 ^ p.width

/-- The check code of a list of bytes. -/
def crc (p : CrcParam) (l : List Byte) : Nat :=
  crcOut p (l.foldl (crcFeed p) (p.init % 2 ^ p.width))

/-- CRC-32C with the parameters of R69. -/
def crc32cParam : CrcParam := ⟨32, 0x1EDC6F41, 0xFFFFFFFF, 0xFFFFFFFF, true, true⟩

/-- CRC-16 with the parameters of R59. -/
def crc16Param : CrcParam := ⟨16, 0x1021, 0xFFFF, 0, false, false⟩

/-- CRC-64 with the parameters of R283. -/
def crc64Param : CrcParam :=
  ⟨64, 0x42F0E1EBA9EA3693, 0xFFFFFFFFFFFFFFFF, 0xFFFFFFFFFFFFFFFF, true, true⟩

/-- The tile and table check of R69. -/
def crc32c (l : List Byte) : Nat := crc crc32cParam l

/-- The region signature of R59 over its samples, each a 16-bit word most significant byte first. -/
def crc16Words (l : List Nat) : BitVec 16 :=
  BitVec.ofNat 16 (crc crc16Param (l.flatMap (fun v => beBytes 2 v)))

/-- The tether check of R283. -/
def crc64 (l : List Byte) : Nat := crc crc64Param l

end Sys2Proof.Machine
end

