-- ==== Sys2Proof/Machine/Tab.lean ====
section
/-!
DEFINITION. Tables: lists of key and value pairs, read and written by key. A key that is not listed reads
as the value its reader names (the reset value of a register field, an empty record of a berth).
-/

namespace Sys2Proof.Machine

/-- A table from keys to values. -/
abbrev Tab (κ α : Type) := List (κ × α)

/-- The value listed for a key. -/
def Tab.find {κ α : Type} [DecidableEq κ] (t : Tab κ α) (k : κ) : Option α :=
  match t with
  | [] => none
  | (k', v) :: r => if k' = k then some v else Tab.find r k

/-- The value listed for a key, or the default where the key is not listed. -/
def Tab.get {κ α : Type} [DecidableEq κ] (t : Tab κ α) (d : α) (k : κ) : α :=
  (Tab.find t k).getD d

/-- List a value for a key, in place of the one it had. -/
def Tab.set {κ α : Type} [DecidableEq κ] (t : Tab κ α) (k : κ) (v : α) : Tab κ α :=
  match t with
  | [] => [(k, v)]
  | (k', v') :: r => if k' = k then (k, v) :: r else (k', v') :: Tab.set r k v

/-- Take a key out of a table. -/
def Tab.del {κ α : Type} [DecidableEq κ] (t : Tab κ α) (k : κ) : Tab κ α :=
  match t with
  | [] => []
  | (k', v') :: r => if k' = k then Tab.del r k else (k', v') :: Tab.del r k

/-- Change the value of a key by a function, starting from a default. -/
def Tab.upd {κ α : Type} [DecidableEq κ] (t : Tab κ α) (d : α) (k : κ) (f : α → α) : Tab κ α :=
  Tab.set t k (f (Tab.get t d k))

end Sys2Proof.Machine
end

