-- ==== Sys2Proof/Machine/Pixel.lean ====
section
/-!
DEFINITION. The pixel arithmetic of chapter 4: unpacking (R124 to R126), scaling (R127 to R130), matrices
(R135 to R137), transfer curves (R139 to R143), alpha and blending (R144 to R146), and the output path
(R149 to R151), as integer functions of their inputs alone (R123).
-/

namespace Sys2Proof.Machine

/-- The formats of R85 and R124: pixels per group, bytes per group, depth, and whether the group is 4:2:2. -/
def fmtGroup : Nat → Nat × Nat × Nat × Bool
  | 0 => (2, 4, 8, true)
  | 1 => (2, 5, 10, true)
  | 2 => (2, 6, 12, true)
  | 3 => (4, 15, 10, false)
  | 4 => (2, 9, 12, false)
  | 5 => (1, 3, 8, false)
  | 6 => (4, 15, 10, false)
  | 7 => (2, 9, 12, false)
  | _ => (1, 1, 8, false)

/-- The pixel group size g of R68 and R85. -/
def fmtG (f : Nat) : Nat := (fmtGroup f).1

/-- Codes that R124 defines. -/
def fmtValid (f : Nat) : Bool := decide (f ≤ 9) || decide (f = 0x10) || decide (f = 0x11) || decide (f = 0x12)

/-- Bytes of one line of `w` pixels without padding (R85, R124). -/
def fmtLine (f w : Nat) : Nat :=
  if f ≤ 7 then let (g, b, _, _) := fmtGroup f; (w + g - 1) / g * b
  else if f = 8 then (w + 1) / 2 * 2
  else if f = 9 then (w + 1) / 2 * 4
  else if f = 0x11 then 8 * w
  else 4 * w

def roundUp (n m : Nat) : Nat := (n + m - 1) / m * m

/-- The line stride of R125. -/
def fmtStride (f w : Nat) : Nat := roundUp (fmtLine f w) 64

/-- The bytes a picture occupies under R125, the chroma plane of formats 0x08 and 0x09 included. -/
def picBytes (f h stride : Nat) : Nat :=
  if f = 8 ∨ f = 9 then stride * h + stride * ((h + 1) / 2) else stride * h

/-- Chroma is halved horizontally (R125). -/
def chromaH (f : Nat) : Bool := decide (f ≤ 2) || decide (f = 8) || decide (f = 9)

/-- Chroma is halved vertically (R125). -/
def chromaV (f : Nat) : Bool := decide (f = 8) || decide (f = 9)

/-- A format with alpha (R124). -/
def fmtAlpha (f : Nat) : Bool := decide (f = 0x10) || decide (f = 0x11)

/-- A picture in DRAM: address, format, size and stride. -/
structure Pic where
  addr : Nat
  fmt : Nat
  w : Nat
  h : Nat
  stride : Nat
  deriving DecidableEq, Repr

/-- The bytes of DRAM as numbers. -/
abbrev ByteAt := Nat → Nat

/-- Sample `s` of an `n`-bit pixel group of `bytes` bytes, most significant bit first. -/
def groupSample (rd : ByteAt) (a bytes n s : Nat) : Nat :=
  let v := (List.range bytes).foldl (fun v k => v * 256 + rd (a + k)) 0
  (v / 2 ^ (8 * bytes - (s + 1) * n)) % 2 ^ n

/-- R126: an `n`-bit colour sample as 16 bits. -/
def to16 (n v : Nat) : Nat := v * 2 ^ (16 - n)

/-- R126: an 8-bit alpha code repeated to 16 bits. -/
def alpha16 (a : Nat) : Nat := a * 257

/-- A 10-bit code repeated to 16 bits (R148). -/
def rep10 (v : Nat) : Nat := v * 64 + v / 16

/-- The 16-bit component `k` (0 to 2 colour, 3 alpha) of a picture at column `x` and line `y` of the
component's own plane (R124 to R126). -/
def Pic.comp (p : Pic) (rd : ByteAt) (k x y : Nat) : Nat :=
  let line := p.addr + p.stride * y
  if p.fmt ≤ 2 then
    let (_, b, n, _) := fmtGroup p.fmt
    if k = 3 then 65535
    else if k = 0 then to16 n (groupSample rd (line + x / 2 * b) b n (if x % 2 = 0 then 1 else 3))
    else to16 n (groupSample rd (line + x * b) b n (if k = 1 then 0 else 2))
  else if p.fmt ≤ 7 then
    let (g, b, n, _) := fmtGroup p.fmt
    if k = 3 then 65535
    else
      let pos := if p.fmt ≤ 4 then (if k = 0 then 1 else if k = 1 then 0 else 2) else k
      to16 n (groupSample rd (line + x / g * b) b n (x % g * 3 + pos))
  else if p.fmt = 8 then
    if k = 3 then 65535
    else if k = 0 then to16 8 (rd (line + x))
    else to16 8 (rd (p.addr + p.stride * p.h + p.stride * y + 2 * x + (k - 1)))
  else if p.fmt = 9 then
    let w (a : Nat) := (rd a + 256 * rd (a + 1)) % 1024
    if k = 3 then 65535
    else if k = 0 then to16 10 (w (line + 2 * x))
    else to16 10 (w (p.addr + p.stride * p.h + p.stride * y + 4 * x + 2 * (k - 1)))
  else if p.fmt = 0x10 then
    if k = 3 then alpha16 (rd (line + 4 * x + 3)) else to16 8 (rd (line + 4 * x + k))
  else if p.fmt = 0x11 then
    rd (line + 8 * x + 2 * k) + 256 * rd (line + 8 * x + 2 * k + 1)
  else
    let v := rd (line + 4 * x) + 256 * rd (line + 4 * x + 1) + 65536 * rd (line + 4 * x + 2)
      + 16777216 * rd (line + 4 * x + 3)
    if k = 3 then 65535 else to16 10 (v / 2 ^ (20 - 10 * k) % 1024)

/-! ## Scaling -/

/-- The decimation factor of R127, 0 where the ratio is not valid. -/
def decimation (wc wd : Nat) : Nat :=
  if wc ≤ 2 * wd then 1 else if wc ≤ 4 * wd then 2 else if wc ≤ 8 * wd then 4 else 8

/-- R127: a ratio is valid. -/
def ratioOk (wc wd : Nat) : Bool := decide (wc ≤ 16 * wd) && decide (wd ≤ 64 * wc)

/-- The filter position of R128: index and phase from numerator and denominator. -/
def phase (p : Int) (q : Int) : Int × Nat :=
  let i := p / q
  let r := p - i * q
  let ph := (64 * r + q / 2) / q
  if ph = 64 then (i + 1, 0) else (i, ph.toNat)

/-- Clamp an integer into [lo, hi]. -/
def clampI (lo hi x : Int) : Int := max lo (min hi x)

/-- One direction of one plane: crop start, valid region [lo, hi) in plane coordinates, decimation, filter
index and phase. -/
structure Axis where
  start : Int
  lo : Int
  hi : Int
  dec : Nat
  idx : Int
  ph : Nat
  deriving DecidableEq, Repr

/-- Decimated pixel `j` along an axis as the source coordinates it averages (R128), each replaced by the
nearest one inside the valid region (R129). -/
def Axis.taps (a : Axis) (j : Int) : List Nat :=
  let jlo := (a.lo - a.start) / a.dec
  let jhi := (a.hi - 1 - a.start) / a.dec
  let j := clampI jlo jhi j
  (List.range a.dec).map (fun k => (clampI a.lo (a.hi - 1) (a.start + a.dec * j + k)).toNat)

/-- floor((sum + D/2) / D) of R128. -/
def boxAvg (d : Nat) (l : List Nat) : Nat := (l.foldl (· + ·) 0 + d / 2) / d

/-- R130: the sum of taps rounded, shifted and clamped. -/
def filterOut (s : Int) : Nat := (clampI 0 65535 ((s + 8192) / 16384)).toNat

/-- Coefficient of tap `t` of phase `ph` of a set of 512 taps (R133). -/
def coefAt (c : List Int) (ph t : Nat) : Int := c.getD (8 * ph + t) 0

/-- Stages 2 and 3 for one component (R128 to R130). -/
def scaleComp (px : Nat → Nat → Nat) (h v : Axis) (ch cv : List Int) : Nat :=
  let dec (jl j : Int) : Nat :=
    boxAvg v.dec ((v.taps jl).map (fun y => boxAvg h.dec ((h.taps j).map (fun x => px x y))))
  let hf (jl : Int) : Nat :=
    filterOut ((List.range 8).foldl (fun s t => s + coefAt ch h.ph t * (dec jl (h.idx - 3 + t) : Nat)) 0)
  filterOut ([1, 2, 3, 4, 5, 6].foldl (fun s (t : Nat) => s + coefAt cv v.ph t * (hf (v.idx - 3 + t) : Nat)) 0)

/-- The axis of a plane for output coordinate `x` (R128, R129). `half` says that the plane is halved in
this direction, `mid` that its siting is the vertical siting of 4:2:0. -/
def mkAxis (crop cropLen frame : Nat) (x dst : Int) (wd : Nat) (half mid : Bool) : Axis :=
  let d := decimation cropLen wd
  let n : Int := (2 * (x - dst) + 1) * cropLen - wd
  let q : Int := if half then 4 * d * wd else 2 * d * wd
  let p : Int :=
    if !half then n - (d - 1) * wd
    else if mid then n - (2 * d - 1) * wd
    else n - 2 * (d - 1) * wd
  let (i, ph) := phase p q
  let s : Nat := if half then crop / 2 else crop
  let e : Nat := if half then (crop + cropLen + 1) / 2 else crop + cropLen
  let f : Nat := if half then (frame + 1) / 2 else frame
  ⟨s, s, min e f, d, i, ph⟩

/-- R129: the output pixel lies in the valid region in one direction. -/
def inValid (crop cropLen frame : Nat) (x dst : Int) (wd : Nat) : Bool :=
  let t : Int := (2 * (x - dst) + 1) * cropLen
  let u1 : Int := (min (crop + cropLen) frame : Nat) - (crop : Int)
  decide (0 ≤ t) && decide (t < 2 * wd * u1)

/-! ## Matrices -/

/-- A matrix of R135: nine coefficients in S3.12 and three offsets. -/
structure Mat where
  c : List Int
  o : List Int
  deriving DecidableEq, Repr

/-- A matrix entry (R136). -/
structure MatEntry where
  nl : Mat
  lin : Mat
  deriving DecidableEq, Repr

/-- R135. -/
def Mat.apply (m : Mat) (x : Nat × Nat × Nat) : Nat × Nat × Nat :=
  let row (i : Nat) : Nat :=
    let s := m.c.getD (3 * i) 0 * x.1 + m.c.getD (3 * i + 1) 0 * x.2.1 + m.c.getD (3 * i + 2) 0 * x.2.2
    (clampI 0 65535 ((s + 2048) / 4096 + m.o.getD i 0)).toNat
  (row 0, row 1, row 2)

def Mat.identity : Mat := ⟨[4096, 0, 0, 0, 4096, 0, 0, 0, 4096], [0, 0, 0]⟩

def MatEntry.identity : MatEntry := ⟨Mat.identity, Mat.identity⟩

/-- A signed field of `n` bits. -/
def signedOf (n v : Nat) : Int := if v % 2 ^ n < 2 ^ (n - 1) then ((v % 2 ^ n : Nat) : Int) else ((v % 2 ^ n : Nat) : Int) - 2 ^ n

/-- The two's complement code of a signed number in `n` bits. -/
def codeOf (n : Nat) (v : Int) : Nat := (v % (2 ^ n : Nat)).toNat

/-- A matrix from its eight words (R136). -/
def matOfWords (w : List Nat) : Mat :=
  ⟨(List.range 9).map (fun k => signedOf 16 (w.getD (k / 2) 0 / 2 ^ (16 * (k % 2)))),
   (List.range 3).map (fun k => signedOf 32 (w.getD (5 + k) 0))⟩

/-- The eight words of a matrix (R136). -/
def Mat.words (m : Mat) : List Nat :=
  (List.range 5).map (fun k => codeOf 16 (m.c.getD (2 * k) 0) + 65536 * codeOf 16 (m.c.getD (2 * k + 1) 0))
    ++ (List.range 3).map (fun k => codeOf 32 (m.o.getD k 0))

def entryOfWords (w : List Nat) : MatEntry := ⟨matOfWords w, matOfWords (w.drop 8)⟩

def MatEntry.words (e : MatEntry) : List Nat := e.nl.words ++ e.lin.words

/-- R138: the staged words of a commit are well formed. -/
def stageOk (w : List Nat) : Bool :=
  decide (w.getD 4 0 < 65536) && decide (w.getD 12 0 < 65536) &&
  ([5, 6, 7, 13, 14, 15].all (fun k => decide ((signedOf 32 (w.getD k 0)).natAbs ≤ 131071)))

/-- p / q rounded to the nearest integer, ties away from zero (R137). -/
def roundDiv (p : Int) (q : Nat) : Int :=
  if p < 0 then -(((2 * p.natAbs + q) / (2 * q) : Nat) : Int) else (((2 * p.natAbs + q) / (2 * q) : Nat) : Int)

/-- Narrow Y'CbCr to full R'G'B' for luma weights in units of 1/10,000 (R137). -/
def ycc2rgb (kr kb : Nat) : Mat :=
  let kg := 10000 - kr - kb
  let y := roundDiv (4096 * 65535) 56064
  let rv := roundDiv (4096 * 65535 * (2 * (10000 - kr))) (57344 * 10000)
  let bu := roundDiv (4096 * 65535 * (2 * (10000 - kb))) (57344 * 10000)
  let gu := roundDiv (-(4096 * 65535 * (2 * kb * (10000 - kb)) : Nat)) (57344 * 10000 * kg)
  let gv := roundDiv (-(4096 * 65535 * (2 * kr * (10000 - kr)) : Nat)) (57344 * 10000 * kg)
  ⟨[y, 0, rv, y, gu, gv, y, bu, 0], [-(y + 8 * rv), -(y + 8 * gu + 8 * gv), -(y + 8 * bu)]⟩

/-- Full R'G'B' to narrow Y'CbCr (R137). -/
def rgb2ycc (kr kb : Nat) : Mat :=
  let kg := 10000 - kr - kb
  let yc (k : Nat) := roundDiv (4096 * 56064 * k : Nat) (65535 * 10000)
  let cc (k : Int) (d : Nat) := roundDiv (4096 * 57344 * k) (65535 * 2 * d)
  ⟨[yc kr, yc kg, yc kb,
    cc (-kr) (10000 - kb), cc (-kg) (10000 - kb), cc (10000 - kb) (10000 - kb),
    cc (10000 - kr) (10000 - kr), cc (-kg) (10000 - kr), cc (-kb) (10000 - kr)],
   [4096, 32768, 32768]⟩

/-- A matrix in units of 1/10,000 without offset. -/
def matOf4 (l : List Int) : Mat := ⟨l.map (fun v => roundDiv (4096 * v) 10000), [0, 0, 0]⟩

/-- The BT.709 to BT.2020 primaries matrix of BT.2087. PRESUMED: the spec names BT.2087 and does not print
its coefficients (log entry 30). -/
def prim709to2020 : Mat := matOf4 [6274, 3293, 433, 691, 9195, 114, 164, 880, 8956]

/-- The BT.2020 to BT.709 primaries matrix. PRESUMED (log entry 30). -/
def prim2020to709 : Mat := matOf4 [16605, -5876, -728, -1246, 11329, -83, -182, -1006, 11187]

/-- The built-in entries 240 to 255 (R137). -/
def builtinMat : Nat → MatEntry
  | 0xF1 => ⟨ycc2rgb 2126 722, Mat.identity⟩
  | 0xF2 => ⟨ycc2rgb 2627 593, Mat.identity⟩
  | 0xF3 => ⟨ycc2rgb 2126 722, prim709to2020⟩
  | 0xF4 => ⟨Mat.identity, prim709to2020⟩
  | 0xF8 => ⟨rgb2ycc 2126 722, Mat.identity⟩
  | 0xF9 => ⟨rgb2ycc 2627 593, Mat.identity⟩
  | 0xFA => ⟨Mat.identity, prim2020to709⟩
  | 0xFB => ⟨⟨[roundDiv (4096 * 56064) 65535, 0, 0, 0, roundDiv (4096 * 56064) 65535, 0, 0, 0,
      roundDiv (4096 * 56064) 65535], [4096, 4096, 4096]⟩, Mat.identity⟩
  | _ => MatEntry.identity

/-! ## Transfer curves -/

/-- A LUT set as the pager holds it (R139). -/
structure LutSet where
  log2 : Bool
  shared : Bool
  c0 : List Nat
  c1 : List Nat
  c2 : List Nat
  deriving DecidableEq, Repr

/-- The input that entry `k` stands for (R140). -/
def lutInput (log2 : Bool) (k : Nat) : Nat :=
  if log2 then (if k < 128 then k else (64 + k % 64) * 2 ^ (k / 64 - 1)) else 64 * k

/-- R140: interpolation in a curve given by its entries. -/
def curveAt (log2 : Bool) (l : Nat → Nat) (x : Nat) : Nat :=
  let go (i s f : Nat) : Nat :=
    if s = 0 then l i
    else (((l i : Nat) : Int) + ((((l (i + 1) : Nat) : Int) - ((l i : Nat) : Int)) * f + 2 ^ (s - 1)) / 2 ^ s).toNat
  if !log2 then go (x / 64) 6 (x % 64)
  else if x < 64 then l x
  else
    let e := Nat.log2 x
    let s := e - 6
    go (64 * (e - 5) + x / 2 ^ s - 64) s (x % 2 ^ s)

/-- The largest y below 2^17 that satisfies a test which the smaller ones satisfy too, by bisection from bit 16 down. -/
def lastOk (ok : Nat → Bool) : Nat :=
  (List.range 17).foldl (fun y k => if ok (y + 2 ^ (16 - k)) then y + 2 ^ (16 - k) else y) 0

/-- The largest y below 2^17 with (2y − 1)^p × den ≤ 2^p × num: the p-th root of num/den rounded to the
nearest integer. -/
def rootRound (p num den : Nat) : Nat := lastOk (fun y => decide ((2 * y - 1) ^ p * den ≤ 2 ^ p * num))

/-- 65,535 × min(1, EOTF_PQ(v / 65,535) / 1,000), rounded (R143): y is reached where EOTF_PQ is at least
1,000 × (y − 1/2) / 65,535. -/
def pq1000 (v : Nat) : Nat :=
  lastOk (fun y => decide (y ≤ 65535) && decide (Config.pqCompare v 65535 (1000 * (2 * y - 1)) 131070 ≠ .lt))

/-- 65,535 × E^1.2 for the HLG inverse OETF E of v / 65,535, rounded (R143): y is reached where E^6 is at least
((y − 1/2) / 65,535)^5. -/
def hlg1000 (v : Nat) : Nat :=
  lastOk (fun y => decide (y ≤ 65535) && decide (Config.hlgCompare v 65535 ((2 * y - 1) ^ 5) (131070 ^ 5) ≠ .lt))

/-- 65,535 × the inverse EOTF_PQ of 1,000 × x / 65,535, rounded (R143). -/
def pq1000Inv (x : Nat) : Nat :=
  lastOk (fun y => decide (y ≤ 65535) && decide (Config.pqCompare (2 * y - 1) 131070 (1000 * x) 65535 ≠ .gt))

/-- 65,535 × the signal that HLG_1000 takes to x / 65,535, rounded (R143). -/
def hlg1000Inv (x : Nat) : Nat :=
  lastOk (fun y => decide (y ≤ 65535) && decide (Config.hlgCompare (2 * y - 1) 131070 (x ^ 5) (65535 ^ 5) ≠ .gt))

/-- Entry `k` of built-in set `n` (0 to 15) of R143. What the spec does not print of BT.2100 is a free value
(log entry 31); the reserved sets hold nothing. -/
def builtinEntry (n k : Nat) : Nat :=
  match n with
  | 0 => lutInput false k
  | 1 => rootRound 5 (lutInput false k ^ 12) (65535 ^ 7)
  | 2 => rootRound 5 (13304 ^ 5 * lutInput false k ^ 12) (65535 ^ 12)
  | 8 => rootRound 12 (65535 ^ 7 * lutInput true k ^ 5) 1
  | 9 => if 13304 ≤ lutInput true k then 65535
         else rootRound 12 (65535 ^ 12 * lutInput true k ^ 5) (13304 ^ 5)
  | 3 => pq1000 (lutInput false k)
  | 4 => hlg1000 (lutInput false k)
  | 10 => pq1000Inv (lutInput true k)
  | 11 => hlg1000Inv (lutInput true k)
  | _ => 0

/-- The built-in sets of R143 are LOG2 from 0xF008 on. -/
def builtinLog2 (n : Nat) : Bool := decide (8 ≤ n)

/-- Reserved values of PRE_LUT and BG_LUT (R141). -/
def lutReserved (v : Nat) : Bool :=
  !(decide (v ≤ 0xFFF) || (decide (0xF000 ≤ v) && decide (v ≤ 0xF004)) || (decide (0xF008 ≤ v) && decide (v ≤ 0xF00B)))

/-- A POST_LUT value as a PRE_LUT value (R141). -/
def postLut (b : Nat) : Nat := if b < 0xF0 then b else 0xF000 + (b - 0xF0)

/-- Component `k` of input `x` through a set that the pager holds (R139, R140). -/
def LutSet.at (s : LutSet) (k x : Nat) : Nat :=
  let c := if s.shared then s.c0 else if k = 0 then s.c0 else if k = 1 then s.c1 else s.c2
  curveAt s.log2 (fun i => c.getD i 0) x

/-- All three components through LUT set `v` (R141). -/
def lutApply (luts : Nat → LutSet) (v : Nat) (x : Nat × Nat × Nat) : Nat × Nat × Nat :=
  if v < 0xF000 then ((luts v).at 0 x.1, (luts v).at 1 x.2.1, (luts v).at 2 x.2.2)
  else
    let n := v - 0xF000
    let f (y : Nat) := curveAt (builtinLog2 n) (builtinEntry n) y
    (f x.1, f x.2.1, f x.2.2)

/-! ## Alpha, blending and the output path -/

/-- R145. -/
def mul16 (p q : Nat) : Nat := (p * q + 32767) / 65535

/-- A pixel of the blend domain (premultiplied colour and alpha). -/
abbrev Px := Nat × Nat × Nat × Nat

def Px.clear : Px := (0, 0, 0, 0)

/-- R144. -/
def premul (mode op a : Nat) (c : Nat × Nat × Nat) : Px :=
  match mode with
  | 0 => (mul16 c.1 op, mul16 c.2.1 op, mul16 c.2.2 op, op)
  | 1 => let a' := mul16 a op; (mul16 c.1 a', mul16 c.2.1 a', mul16 c.2.2 a', a')
  | _ => (mul16 c.1 op, mul16 c.2.1 op, mul16 c.2.2 op, mul16 a op)

/-- R146. -/
def blendOver (b l : Px) : Px :=
  let k := 65535 - l.2.2.2
  (min 65535 (l.1 + mul16 b.1 k), min 65535 (l.2.1 + mul16 b.2.1 k), min 65535 (l.2.2.1 + mul16 b.2.2.1 k),
    l.2.2.2 + mul16 b.2.2.2 k)

/-- R149: the output path of one pixel up to stage 11. -/
def outPath (m : MatEntry) (luts : Nat → LutSet) (lut : Nat) (p : Px) : Nat × Nat × Nat :=
  m.nl.apply (lutApply luts lut (m.lin.apply (p.1, p.2.1, p.2.2.1)))

/-- R151: a 16-bit value at depth `n`. -/
def packVal (n v : Nat) : Nat := min ((v + 2 ^ (15 - n)) / 2 ^ (16 - n)) (2 ^ n - 1)

/-- Samples of `n` bits as bytes, most significant bit first. -/
def packBits (n : Nat) (l : List Nat) : List Byte :=
  let v := l.foldl (fun a s => a * 2 ^ n + s) 0
  beBytes (n * l.length / 8) v

/-- The bytes of one line segment from `x0` to `x1` of an output in format `f`, given the component triples
of its canvas line (R85, R150, R151). The pair filter of R150 reads one pixel to each side, clamped to
the canvas by `at_`. -/
def packLine (f : Nat) (at_ : Int → Nat × Nat × Nat) (x0 x1 : Nat) : List Byte :=
  let (g, _, n, is422) := fmtGroup f
  (List.range ((x1 - x0) / g)).flatMap (fun k =>
    let x : Nat := x0 + g * k
    if is422 then
      let l := at_ ((x : Int) - 1)
      let c := at_ x
      let r := at_ (x + 1)
      let cb := (l.2.1 + 2 * c.2.1 + r.2.1 + 2) / 4
      let cr := (l.2.2 + 2 * c.2.2 + r.2.2 + 2) / 4
      packBits n [packVal n cb, packVal n c.1, packVal n cr, packVal n r.1]
    else
      packBits n ((List.range g).flatMap (fun j =>
        let c := at_ ((x + j : Nat) : Int)
        if f ≤ 4 then [packVal n c.2.1, packVal n c.1, packVal n c.2.2]
        else [packVal n c.1, packVal n c.2.1, packVal n c.2.2])))

/-- R68: the tile grid. -/
def tileY (h r : Nat) : Nat := r * h / 16

def tileX (w g c : Nat) : Nat := if c = 16 then w else g * (c * w / (16 * g))

end Sys2Proof.Machine
end

