-- ==== Sys2Proof/Machine/RegMap.lean ====
section
/-!
DEFINITION. The host register map (R5): every register and field of the block register tables
(R41 TICK, R83 FRS, R120 CMP, R152 PIX, R175 DEC, R205 ENC, R234 NET, R255 LANE, R277 TIME, R312 PAIR,
R336 MEM, R365 RST, R366 and R367 SYS, R393 HOST, R410 UPD, R427 CHK, R428 PERF, R429 BBOX, R440 TOUCH,
R465 GPIO), with its address, repetition, access code and reset value as those tables give them.
Where a table gives "Strap", "OTP" or "Boot" as the reset value, the value here is 0 until the strap is
latched, the OTP is programmed or boot step 8 writes it (log entry 3).
-/

namespace Sys2Proof.Machine

/-- The access codes of R11. -/
inductive Acc where
  | ro | rw | rwt | rws | w1c | wo | rc
  deriving DecidableEq, Repr

/-- One field of a register table: the address of instance 0 of its register, the lowest bit, the width,
the access code and the reset value. -/
structure Fld where
  base : Nat
  lo : Nat
  width : Nat
  acc : Acc
  reset : Nat
  deriving DecidableEq, Repr

/-- One register of a table: address of instance 0, distance between instances, number of instances,
whether each host slot has its own copy, and its fields. -/
structure RegRow where
  base : Nat
  stride : Nat
  count : Nat
  perSlot : Bool
  flds : List Fld
  deriving DecidableEq, Repr

/-- The number that names a field: the address of its lowest bit. -/
def Fld.id (f : Fld) : Nat := f.base * 32 + f.lo

/-- The block of R5 (0 to 19) that a field belongs to. -/
def Fld.block (f : Fld) : Nat := f.base / 65536

def F.SYS_ID_PART : Fld := ⟨0x0, 16, 16, .ro, 0x6432⟩
def F.SYS_ID_STEPPING : Fld := ⟨0x0, 8, 8, .ro, 1⟩
def F.SYS_ID_FAMILY : Fld := ⟨0x0, 0, 8, .ro, 0x4d⟩
def F.SYS_PWR_CMD_TARGET : Fld := ⟨0x10, 0, 3, .wo, 0⟩
def F.SYS_PWR_STATUS_REQ_SLOT : Fld := ⟨0x14, 16, 3, .ro, 0⟩
def F.SYS_PWR_STATUS_RESULT : Fld := ⟨0x14, 12, 4, .ro, 0⟩
def F.SYS_PWR_STATUS_BUSY : Fld := ⟨0x14, 8, 1, .ro, 0⟩
def F.SYS_PWR_STATUS_TARGET : Fld := ⟨0x14, 4, 3, .ro, 0⟩
def F.SYS_PWR_STATUS_STATE : Fld := ⟨0x14, 0, 3, .ro, 0⟩
def F.SYS_EVENTS_PWR_FAIL : Fld := ⟨0x18, 5, 1, .w1c, 0⟩
def F.SYS_EVENTS_PWR_REFUSED : Fld := ⟨0x18, 4, 1, .w1c, 0⟩
def F.SYS_EVENTS_PWR_DONE : Fld := ⟨0x18, 3, 1, .w1c, 0⟩
def F.SYS_EVENTS_READY : Fld := ⟨0x18, 2, 1, .w1c, 0⟩
def F.SYS_EVENTS_ENGINE_HUNG : Fld := ⟨0x18, 1, 1, .w1c, 0⟩
def F.SYS_EVENTS_CFG_DROPPED : Fld := ⟨0x18, 0, 1, .w1c, 0⟩
def F.SYS_CFG_DROP_SLOT : Fld := ⟨0x1C, 24, 3, .ro, 0⟩
def F.SYS_CFG_DROP_ADDR : Fld := ⟨0x1C, 0, 21, .ro, 0⟩
def F.SYS_ENGINE_STATUS_STOPPED : Fld := ⟨0x20, 0, 16, .ro, 0⟩
def F.SYS_BOOT_STATUS_SLOW : Fld := ⟨0x24, 19, 1, .ro, 0⟩
def F.SYS_BOOT_STATUS_PUSH : Fld := ⟨0x24, 18, 1, .ro, 0⟩
def F.SYS_BOOT_STATUS_FALLBACK : Fld := ⟨0x24, 17, 1, .ro, 0⟩
def F.SYS_BOOT_STATUS_ERROR_B : Fld := ⟨0x24, 12, 4, .ro, 0⟩
def F.SYS_BOOT_STATUS_ERROR_A : Fld := ⟨0x24, 8, 4, .ro, 0⟩
def F.SYS_BOOT_STATUS_IMAGE : Fld := ⟨0x24, 4, 2, .ro, 0⟩
def F.SYS_BOOT_STATUS_STEP : Fld := ⟨0x24, 0, 4, .ro, 0⟩
def F.SYS_ALARM_THERMAL : Fld := ⟨0x30, 5, 1, .ro, 0⟩
def F.SYS_ALARM_MEM_UE_SYSTEM : Fld := ⟨0x30, 4, 1, .ro, 0⟩
def F.SYS_ALARM_ENGINE : Fld := ⟨0x30, 3, 1, .ro, 0⟩
def F.SYS_ALARM_PWR_FAIL : Fld := ⟨0x30, 2, 1, .ro, 0⟩
def F.SYS_ALARM_CLK_TIMEOUT : Fld := ⟨0x30, 1, 1, .ro, 0⟩
def F.SYS_ALARM_BOOT_HALT : Fld := ⟨0x30, 0, 1, .ro, 0⟩
def F.SYS_ALARM_MASK_THERMAL : Fld := ⟨0x34, 5, 1, .rw, 0⟩
def F.SYS_ALARM_MASK_MEM_UE_SYSTEM : Fld := ⟨0x34, 4, 1, .rw, 0⟩
def F.SYS_ALARM_MASK_ENGINE : Fld := ⟨0x34, 3, 1, .rw, 0⟩
def F.RST_CAUSE_FROM_WATCH : Fld := ⟨0x10000, 2, 1, .w1c, 0⟩
def F.RST_CAUSE_PIN : Fld := ⟨0x10000, 1, 1, .w1c, 0⟩
def F.RST_CAUSE_POR : Fld := ⟨0x10000, 0, 1, .w1c, 1⟩
def F.RST_CLK_STATUS_TIMEOUT : Fld := ⟨0x10004, 16, 12, .w1c, 0⟩
def F.RST_CLK_STATUS_IN_RESET : Fld := ⟨0x10004, 0, 12, .ro, 0xffe⟩
def F.RST_STRAPS_CLKMODE : Fld := ⟨0x10008, 3, 2, .ro, 0⟩
def F.RST_STRAPS_BOOT : Fld := ⟨0x10008, 0, 3, .ro, 0⟩
def F.RST_LAST_COUNT : Fld := ⟨0x1000C, 3, 29, .ro, 0⟩
def F.RST_LAST_STATE : Fld := ⟨0x1000C, 0, 3, .ro, 0⟩
def F.RST_LAST_TICK_TICK : Fld := ⟨0x10010, 0, 32, .ro, 0⟩
def F.TICK_CTRL_RATE : Fld := ⟨0x20000, 0, 4, .rws, 9⟩
def F.TICK_STATUS_CERT : Fld := ⟨0x20004, 4, 1, .ro, 0⟩
def F.TICK_STATUS_RUNNING : Fld := ⟨0x20004, 3, 1, .ro, 0⟩
def F.TICK_STATUS_SRC : Fld := ⟨0x20004, 0, 2, .ro, 0⟩
def F.TICK_NUM_LO_NUM : Fld := ⟨0x20008, 0, 32, .ro, 0⟩
def F.TICK_NUM_HI_NUM : Fld := ⟨0x2000C, 0, 32, .ro, 0⟩
def F.TICK_PHASE_NS : Fld := ⟨0x20010, 0, 32, .ro, 0⟩
def F.TICK_DISCONT_DELTA_LO_DELTA : Fld := ⟨0x20018, 0, 32, .ro, 0⟩
def F.TICK_DISCONT_DELTA_HI_DELTA : Fld := ⟨0x2001C, 0, 32, .ro, 0⟩
def F.TICK_EVENTS_PAGE_STALL : Fld := ⟨0x20020, 4, 1, .w1c, 0⟩
def F.TICK_EVENTS_SEAL_MISS : Fld := ⟨0x20020, 3, 1, .w1c, 0⟩
def F.TICK_EVENTS_ADM_DEFER : Fld := ⟨0x20020, 2, 1, .w1c, 0⟩
def F.TICK_EVENTS_SENTINEL_MISS : Fld := ⟨0x20020, 1, 1, .w1c, 0⟩
def F.TICK_EVENTS_DISCONT : Fld := ⟨0x20020, 0, 1, .w1c, 0⟩
def F.TICK_ADM_MARGIN_PCT : Fld := ⟨0x20024, 0, 5, .rwt, 0⟩
def F.TICK_CAP_DEC_CAP : Fld := ⟨0x20030, 0, 16, .ro, 0⟩
def F.TICK_CAP_SCL_CAP : Fld := ⟨0x20034, 0, 16, .ro, 0⟩
def F.TICK_CAP_BLD_CAP : Fld := ⟨0x20038, 0, 16, .ro, 0⟩
def F.TICK_CAP_ENC_CAP : Fld := ⟨0x2003C, 0, 16, .ro, 0⟩
def F.TICK_CAP_MEM_CAP : Fld := ⟨0x20040, 0, 16, .ro, 0⟩
def F.TICK_USE_DEC_RESERVED_WU : Fld := ⟨0x20050, 16, 16, .ro, 0⟩
def F.TICK_USE_DEC_USED_WU : Fld := ⟨0x20050, 0, 16, .ro, 0⟩
def F.TICK_USE_SCL_RESERVED_WU : Fld := ⟨0x20054, 16, 16, .ro, 0⟩
def F.TICK_USE_SCL_USED_WU : Fld := ⟨0x20054, 0, 16, .ro, 0⟩
def F.TICK_USE_BLD_RESERVED_WU : Fld := ⟨0x20058, 16, 16, .ro, 0⟩
def F.TICK_USE_BLD_USED_WU : Fld := ⟨0x20058, 0, 16, .ro, 0⟩
def F.TICK_USE_ENC_RESERVED_WU : Fld := ⟨0x2005C, 16, 16, .ro, 0⟩
def F.TICK_USE_ENC_USED_WU : Fld := ⟨0x2005C, 0, 16, .ro, 0⟩
def F.TICK_USE_MEM_RESERVED_WU : Fld := ⟨0x20060, 16, 16, .ro, 0⟩
def F.TICK_USE_MEM_USED_WU : Fld := ⟨0x20060, 0, 16, .ro, 0⟩
def F.TICK_PAGE_FLUSH_FLUSH : Fld := ⟨0x20070, 0, 1, .wo, 0⟩
def F.TICK_SEAL_MISS_CNT_COUNT : Fld := ⟨0x20074, 0, 32, .rc, 0⟩
def F.TICK_ADM_DEFER_COUNT : Fld := ⟨0x20078, 0, 32, .rc, 0⟩
def F.FRS_LIMIT_DEFAULT_LIMIT : Fld := ⟨0x30000, 0, 8, .rwt, 3⟩
def F.FRS_MARK_STYLE_BORDER_PX : Fld := ⟨0x30004, 0, 5, .rwt, 8⟩
def F.FRS_MARK_RGB_RED : Fld := ⟨0x30008, 20, 10, .rwt, 0x3ff⟩
def F.FRS_MARK_RGB_GREEN : Fld := ⟨0x30008, 10, 10, .rwt, 0x200⟩
def F.FRS_MARK_RGB_BLUE : Fld := ⟨0x30008, 0, 10, .rwt, 0⟩
def F.FRS_LIVE_CTRL_STALE_OK : Fld := ⟨0x3000C, 0, 1, .rwt, 0⟩
def F.FRS_LIVE_MASK_MASK : Fld := ⟨0x30010, 0, 32, .rwt, 0xffffffff⟩
def F.FRS_IMG_TABLE_LO_ADDR_LO : Fld := ⟨0x30014, 6, 26, .rwt, 0⟩
def F.FRS_IMG_TABLE_HI_ADDR_HI : Fld := ⟨0x30018, 0, 8, .rwt, 0⟩
def F.FRS_EVENTS_LOOPBACK_FAIL : Fld := ⟨0x30020, 6, 1, .w1c, 0⟩
def F.FRS_EVENTS_NO_FRAME : Fld := ⟨0x30020, 5, 1, .w1c, 0⟩
def F.FRS_EVENTS_ACK_PENDING : Fld := ⟨0x30020, 4, 1, .w1c, 0⟩
def F.FRS_EVENTS_SRC_TRANSPORT : Fld := ⟨0x30020, 3, 1, .w1c, 0⟩
def F.FRS_EVENTS_SRC_FROZEN : Fld := ⟨0x30020, 2, 1, .w1c, 0⟩
def F.FRS_EVENTS_SRC_LIVE : Fld := ⟨0x30020, 1, 1, .w1c, 0⟩
def F.FRS_EVENTS_SRC_STALE : Fld := ⟨0x30020, 0, 1, .w1c, 0⟩
def F.FRS_LOOPBACK_STATUS_TILE : Fld := ⟨0x30024, 16, 8, .ro, 0⟩
def F.FRS_LOOPBACK_STATUS_REASON : Fld := ⟨0x30024, 8, 2, .ro, 0⟩
def F.FRS_LOOPBACK_STATUS_OUTPUT_ID : Fld := ⟨0x30024, 0, 6, .ro, 0⟩
def F.FRS_LOOPBACK_CNT_COUNT : Fld := ⟨0x30028, 0, 32, .rc, 0⟩
def F.FRS_NO_FRAME_CNT_COUNT : Fld := ⟨0x3002C, 0, 32, .rc, 0⟩
def F.FRS_ACK_ALL : Fld := ⟨0x30030, 31, 1, .wo, 0⟩
def F.FRS_ACK_SOURCE : Fld := ⟨0x30030, 0, 8, .wo, 0⟩
def F.FRS_ACK_PENDING_LATCHED : Fld := ⟨0x30040, 0, 32, .ro, 0⟩
def F.FRS_SRC_CFG_RECOVER : Fld := ⟨0x31000, 16, 8, .rwt, 2⟩
def F.FRS_SRC_CFG_LATCH : Fld := ⟨0x31000, 12, 1, .rwt, 0⟩
def F.FRS_SRC_CFG_DETECT : Fld := ⟨0x31000, 10, 2, .rwt, 0⟩
def F.FRS_SRC_CFG_TREAT : Fld := ⟨0x31000, 8, 2, .rwt, 0⟩
def F.FRS_SRC_CFG_LIMIT : Fld := ⟨0x31000, 0, 8, .rwt, 0⟩
def F.FRS_SRC_TIMER_LIVENESS_TICKS : Fld := ⟨0x31004, 16, 8, .rwt, 2⟩
def F.FRS_SRC_TIMER_FROZEN_TICKS : Fld := ⟨0x31004, 0, 16, .rwt, 0xb4⟩
def F.FRS_SRC_MASK_LO_MASK : Fld := ⟨0x31008, 0, 32, .rwt, 0⟩
def F.FRS_SRC_MASK_HI_MASK : Fld := ⟨0x3100C, 0, 32, .rwt, 0⟩
def F.FRS_SRC_IMG_CARD_IMG : Fld := ⟨0x31010, 8, 6, .rwt, 0⟩
def F.FRS_SRC_IMG_MARK_IMG : Fld := ⟨0x31010, 0, 6, .rwt, 0⟩
def F.FRS_SRC_STATE_AGE : Fld := ⟨0x31014, 16, 16, .ro, 0xffff⟩
def F.FRS_SRC_STATE_INCOMPLETE : Fld := ⟨0x31014, 9, 1, .ro, 0⟩
def F.FRS_SRC_STATE_SEQ_STALLED : Fld := ⟨0x31014, 8, 1, .ro, 0⟩
def F.FRS_SRC_STATE_NO_PACKETS : Fld := ⟨0x31014, 7, 1, .ro, 0⟩
def F.FRS_SRC_STATE_NO_FRAME_YET : Fld := ⟨0x31014, 6, 1, .ro, 1⟩
def F.FRS_SRC_STATE_FROZEN : Fld := ⟨0x31014, 5, 1, .ro, 0⟩
def F.FRS_SRC_STATE_AGED : Fld := ⟨0x31014, 4, 1, .ro, 0⟩
def F.FRS_SRC_STATE_STATE : Fld := ⟨0x31014, 0, 2, .ro, 1⟩
def F.FRS_SRC_CAPTURE_LO_CAPTURE : Fld := ⟨0x31018, 0, 32, .ro, 0⟩
def F.FRS_SRC_CAPTURE_HI_CAPTURE : Fld := ⟨0x3101C, 0, 32, .ro, 0⟩
def F.FRS_OUT_STATUS_STALE_COUNT : Fld := ⟨0x33000, 16, 9, .ro, 0⟩
def F.FRS_OUT_STATUS_FLAGS : Fld := ⟨0x33000, 8, 8, .ro, 0⟩
def F.FRS_OUT_STATUS_STATUS : Fld := ⟨0x33000, 0, 8, .ro, 2⟩
def F.FRS_OUT_SEQ_SEQ : Fld := ⟨0x33004, 0, 32, .ro, 0⟩
def F.FRS_OUT_TICK_LO_TICK : Fld := ⟨0x33008, 0, 32, .ro, 0⟩
def F.FRS_OUT_TICK_HI_TICK : Fld := ⟨0x3300C, 0, 32, .ro, 0⟩
def F.CMP_LAYOUT_TABLE_LO_ADDR_LO : Fld := ⟨0x40000, 12, 20, .rws, 0⟩
def F.CMP_LAYOUT_TABLE_HI_ADDR_HI : Fld := ⟨0x40004, 0, 8, .rws, 0⟩
def F.CMP_DESC_TABLE_LO_ADDR_LO : Fld := ⟨0x40008, 12, 20, .rws, 0⟩
def F.CMP_DESC_TABLE_HI_ADDR_HI : Fld := ⟨0x4000C, 0, 8, .rws, 0⟩
def F.CMP_LAYOUT_SEL_CANCEL : Fld := ⟨0x40010, 31, 1, .wo, 0⟩
def F.CMP_LAYOUT_SEL_INDEX : Fld := ⟨0x40010, 0, 8, .rw, 0⟩
def F.CMP_LAYOUT_STATUS_REQ_SLOT : Fld := ⟨0x40014, 24, 3, .ro, 0⟩
def F.CMP_LAYOUT_STATUS_RESULT : Fld := ⟨0x40014, 20, 4, .ro, 0⟩
def F.CMP_LAYOUT_STATUS_PENDING : Fld := ⟨0x40014, 17, 1, .ro, 0⟩
def F.CMP_LAYOUT_STATUS_VALID : Fld := ⟨0x40014, 16, 1, .ro, 0⟩
def F.CMP_LAYOUT_STATUS_PENDING_INDEX : Fld := ⟨0x40014, 8, 8, .ro, 0⟩
def F.CMP_LAYOUT_STATUS_CURRENT : Fld := ⟨0x40014, 0, 8, .ro, 0⟩
def F.CMP_LAYOUT_AT_LO_AT : Fld := ⟨0x40018, 0, 32, .rw, 0⟩
def F.CMP_LAYOUT_AT_HI_AT : Fld := ⟨0x4001C, 0, 32, .rw, 0⟩
def F.CMP_SWITCH_CFG_TIMEOUT : Fld := ⟨0x40020, 0, 16, .rwt, 0x78⟩
def F.CMP_TABLE_SIZE_DESCS : Fld := ⟨0x40024, 16, 15, .rws, 0⟩
def F.CMP_TABLE_SIZE_LAYOUTS : Fld := ⟨0x40024, 0, 9, .rws, 0⟩
def F.CMP_EVENTS_POOL_CFG : Fld := ⟨0x40028, 8, 1, .w1c, 0⟩
def F.CMP_EVENTS_MOOR_SPILL : Fld := ⟨0x40028, 7, 1, .w1c, 0⟩
def F.CMP_EVENTS_PIN_REFUSED : Fld := ⟨0x40028, 6, 1, .w1c, 0⟩
def F.CMP_EVENTS_BERTH_RETIRED : Fld := ⟨0x40028, 5, 1, .w1c, 0⟩
def F.CMP_EVENTS_POOL_EMPTY : Fld := ⟨0x40028, 4, 1, .w1c, 0⟩
def F.CMP_EVENTS_OWNER_DENIED : Fld := ⟨0x40028, 3, 1, .w1c, 0⟩
def F.CMP_EVENTS_DESC_CHECK : Fld := ⟨0x40028, 2, 1, .w1c, 0⟩
def F.CMP_EVENTS_SWITCH_REFUSED : Fld := ⟨0x40028, 1, 1, .w1c, 0⟩
def F.CMP_EVENTS_SWITCH_DONE : Fld := ⟨0x40028, 0, 1, .w1c, 0⟩
def F.CMP_MOOR_SPILL_LO_ADDR_LO : Fld := ⟨0x40030, 12, 20, .rws, 0⟩
def F.CMP_MOOR_SPILL_HI_ADDR_HI : Fld := ⟨0x40034, 0, 8, .rws, 0⟩
def F.CMP_MOOR_SPILL_SIZE_BLOCKS : Fld := ⟨0x40038, 0, 20, .rws, 0⟩
def F.CMP_MOOR_CACHE_USED_BLOCKS : Fld := ⟨0x4003C, 0, 20, .ro, 0⟩
def F.CMP_MOOR_SPILL_USED_BLOCKS : Fld := ⟨0x40040, 0, 20, .ro, 0⟩
def F.CMP_BERTH_QUERY_BERTH : Fld := ⟨0x40050, 0, 14, .rw, 0⟩
def F.CMP_BERTH_PIN_OP : Fld := ⟨0x40054, 30, 2, .wo, 0⟩
def F.CMP_BERTH_PIN_PINNED : Fld := ⟨0x40054, 29, 1, .ro, 0⟩
def F.CMP_BERTH_PIN_ID : Fld := ⟨0x40054, 14, 8, .wo, 0⟩
def F.CMP_BERTH_PIN_BERTH : Fld := ⟨0x40054, 0, 14, .ro, 0⟩
def F.CMP_BERTH_REC_WORD : Fld := ⟨0x40060, 0, 32, .ro, 0⟩
def F.CMP_POOL_BASE_LO_ADDR_LO : Fld := ⟨0x40100, 16, 16, .rws, 0⟩
def F.CMP_POOL_BASE_HI_ADDR_HI : Fld := ⟨0x40104, 0, 8, .rws, 0⟩
def F.CMP_POOL_CFG_COUNT : Fld := ⟨0x40108, 16, 15, .rws, 0⟩
def F.CMP_POOL_CFG_SIZE : Fld := ⟨0x40108, 0, 16, .rws, 0⟩
def F.CMP_POOL_STATUS_RESERVED : Fld := ⟨0x4010C, 16, 15, .ro, 0⟩
def F.CMP_POOL_STATUS_AVAIL : Fld := ⟨0x4010C, 0, 15, .ro, 0⟩
def F.CMP_POOL_EMPTY_CNT_COUNT : Fld := ⟨0x40180, 0, 32, .rc, 0⟩
def F.CMP_OUT_OWNER_SLOT : Fld := ⟨0x40200, 0, 4, .rw, 0xf⟩
def F.CMP_OUT_STATE_BERTH : Fld := ⟨0x40280, 18, 14, .ro, 0⟩
def F.CMP_OUT_STATE_REPLACED : Fld := ⟨0x40280, 8, 9, .ro, 0⟩
def F.CMP_OUT_STATE_NO_BERTH : Fld := ⟨0x40280, 2, 1, .ro, 0⟩
def F.CMP_OUT_STATE_GANGED : Fld := ⟨0x40280, 1, 1, .ro, 0⟩
def F.CMP_OUT_STATE_PRESENT : Fld := ⟨0x40280, 0, 1, .ro, 0⟩
def F.PIX_COEF_TABLE_LO_ADDR_LO : Fld := ⟨0x50000, 12, 20, .rws, 0⟩
def F.PIX_COEF_TABLE_HI_ADDR_HI : Fld := ⟨0x50004, 0, 8, .rws, 0⟩
def F.PIX_LUT_TABLE_LO_ADDR_LO : Fld := ⟨0x50008, 12, 20, .rws, 0⟩
def F.PIX_LUT_TABLE_HI_ADDR_HI : Fld := ⟨0x5000C, 0, 8, .rws, 0⟩
def F.PIX_LUT_COUNT_COUNT : Fld := ⟨0x50010, 0, 13, .rws, 0⟩
def F.PIX_EVENTS_MAT_COMMIT : Fld := ⟨0x50014, 2, 1, .w1c, 0⟩
def F.PIX_EVENTS_LUT_CHECK : Fld := ⟨0x50014, 1, 1, .w1c, 0⟩
def F.PIX_EVENTS_RATIO : Fld := ⟨0x50014, 0, 1, .w1c, 0⟩
def F.PIX_RATIO_CNT_COUNT : Fld := ⟨0x50018, 0, 32, .rc, 0⟩
def F.PIX_MAT_STAGE_WORD : Fld := ⟨0x50100, 0, 32, .rw, 0⟩
def F.PIX_MAT_COMMIT_INDEX : Fld := ⟨0x50140, 0, 8, .wo, 0⟩
def F.PIX_MAT_QUERY_INDEX : Fld := ⟨0x50144, 0, 8, .rw, 0⟩
def F.PIX_MAT_READ_WORD : Fld := ⟨0x50180, 0, 32, .ro, 0⟩
def F.PIX_OUT_CFG_BG_MATRIX : Fld := ⟨0x50200, 16, 8, .rwt, 0xf0⟩
def F.PIX_OUT_CFG_BG_LUT : Fld := ⟨0x50200, 0, 16, .rwt, 0xf001⟩
def F.DEC_BS_BASE_LO_ADDR_LO : Fld := ⟨0x60000, 16, 16, .rws, 0⟩
def F.DEC_BS_BASE_HI_ADDR_HI : Fld := ⟨0x60004, 0, 8, .rws, 0⟩
def F.DEC_BS_CFG_RING_MIB : Fld := ⟨0x60008, 0, 7, .rws, 4⟩
def F.DEC_EVENTS_STREAM_UNSUPPORTED : Fld := ⟨0x60010, 6, 1, .w1c, 0⟩
def F.DEC_EVENTS_RECOVERED : Fld := ⟨0x60010, 5, 1, .w1c, 0⟩
def F.DEC_EVENTS_PICTURE_DAMAGED : Fld := ⟨0x60010, 4, 1, .w1c, 0⟩
def F.DEC_EVENTS_SYNCED : Fld := ⟨0x60010, 3, 1, .w1c, 0⟩
def F.DEC_EVENTS_LATE : Fld := ⟨0x60010, 2, 1, .w1c, 0⟩
def F.DEC_EVENTS_CMD_REFUSED : Fld := ⟨0x60010, 1, 1, .w1c, 0⟩
def F.DEC_EVENTS_OPEN_DONE : Fld := ⟨0x60010, 0, 1, .w1c, 0⟩
def F.DEC_LATE_PICTURES_COUNT : Fld := ⟨0x60014, 0, 32, .rc, 0⟩
def F.DEC_CMD_OP : Fld := ⟨0x60020, 30, 2, .wo, 0⟩
def F.DEC_CMD_SESSION : Fld := ⟨0x60020, 0, 8, .wo, 0⟩
def F.DEC_CMD_STATUS_REQ_SLOT : Fld := ⟨0x60024, 20, 3, .ro, 0⟩
def F.DEC_CMD_STATUS_PENDING : Fld := ⟨0x60024, 16, 1, .ro, 0⟩
def F.DEC_CMD_STATUS_RESULT : Fld := ⟨0x60024, 12, 4, .ro, 0⟩
def F.DEC_CMD_STATUS_OP : Fld := ⟨0x60024, 10, 2, .ro, 0⟩
def F.DEC_CMD_STATUS_SESSION : Fld := ⟨0x60024, 0, 8, .ro, 0⟩
def F.DEC_SESS_CFG_RATE : Fld := ⟨0x61000, 24, 4, .rws, 9⟩
def F.DEC_SESS_CFG_DPB_MAX : Fld := ⟨0x61000, 16, 5, .rws, 6⟩
def F.DEC_SESS_CFG_SOURCE : Fld := ⟨0x61000, 8, 8, .rws, 0⟩
def F.DEC_SESS_CFG_HASH_CHECK : Fld := ⟨0x61000, 6, 1, .rws, 0⟩
def F.DEC_SESS_CFG_PRIORITY : Fld := ⟨0x61000, 4, 2, .rws, 0⟩
def F.DEC_SESS_CFG_TRANSPORT : Fld := ⟨0x61000, 2, 2, .rws, 0⟩
def F.DEC_SESS_CFG_CODEC : Fld := ⟨0x61000, 0, 2, .rws, 0⟩
def F.DEC_SESS_SIZE_MAX_HEIGHT : Fld := ⟨0x61004, 16, 16, .rws, 0x440⟩
def F.DEC_SESS_SIZE_MAX_WIDTH : Fld := ⟨0x61004, 0, 16, .rws, 0x780⟩
def F.DEC_SESS_TS_PROGRAM : Fld := ⟨0x61008, 16, 16, .rws, 0⟩
def F.DEC_SESS_TS_PID : Fld := ⟨0x61008, 0, 13, .rws, 0x1fff⟩
def F.DEC_SESS_STATE_DPB_USED : Fld := ⟨0x61010, 16, 5, .ro, 0⟩
def F.DEC_SESS_STATE_LAST_ERR : Fld := ⟨0x61010, 12, 4, .ro, 0⟩
def F.DEC_SESS_STATE_TEN_BIT : Fld := ⟨0x61010, 11, 1, .ro, 0⟩
def F.DEC_SESS_STATE_ENGINE : Fld := ⟨0x61010, 8, 3, .ro, 0⟩
def F.DEC_SESS_STATE_CORE : Fld := ⟨0x61010, 4, 3, .ro, 0⟩
def F.DEC_SESS_STATE_STATE : Fld := ⟨0x61010, 0, 3, .ro, 0⟩
def F.DEC_SESS_PIC_HEIGHT : Fld := ⟨0x61014, 16, 16, .ro, 0⟩
def F.DEC_SESS_PIC_WIDTH : Fld := ⟨0x61014, 0, 16, .ro, 0⟩
def F.DEC_SESS_RES_CLASS : Fld := ⟨0x61018, 21, 3, .ro, 0⟩
def F.DEC_SESS_RES_BERTHS : Fld := ⟨0x61018, 16, 5, .ro, 0⟩
def F.DEC_SESS_RES_RESERVED_WU : Fld := ⟨0x61018, 0, 16, .ro, 0⟩
def F.DEC_SESS_CNT_SEALED_COUNT : Fld := ⟨0x61020, 0, 32, .rc, 0⟩
def F.DEC_SESS_CNT_HELD_COUNT : Fld := ⟨0x61024, 0, 32, .rc, 0⟩
def F.DEC_SESS_CNT_NEVER_COUNT : Fld := ⟨0x61028, 0, 32, .rc, 0⟩
def F.DEC_SESS_CNT_LOSS_COUNT : Fld := ⟨0x6102C, 0, 32, .rc, 0⟩
def F.DEC_SESS_ERR_SEEN_CLASSES : Fld := ⟨0x61030, 1, 8, .rc, 0⟩
def F.ENC_BS_BASE_LO_ADDR_LO : Fld := ⟨0x70000, 16, 16, .rws, 0⟩
def F.ENC_BS_BASE_HI_ADDR_HI : Fld := ⟨0x70004, 0, 8, .rws, 0⟩
def F.ENC_EVENTS_REFRESH_RESTART : Fld := ⟨0x70010, 5, 1, .w1c, 0⟩
def F.ENC_EVENTS_NO_INPUT : Fld := ⟨0x70010, 4, 1, .w1c, 0⟩
def F.ENC_EVENTS_TIME_FLOOR : Fld := ⟨0x70010, 3, 1, .w1c, 0⟩
def F.ENC_EVENTS_RATE_FLOOR : Fld := ⟨0x70010, 2, 1, .w1c, 0⟩
def F.ENC_EVENTS_CMD_REFUSED : Fld := ⟨0x70010, 1, 1, .w1c, 0⟩
def F.ENC_EVENTS_OPEN_DONE : Fld := ⟨0x70010, 0, 1, .w1c, 0⟩
def F.ENC_CMD_OP : Fld := ⟨0x70020, 30, 2, .wo, 0⟩
def F.ENC_CMD_SESSION : Fld := ⟨0x70020, 0, 5, .wo, 0⟩
def F.ENC_CMD_STATUS_REQ_SLOT : Fld := ⟨0x70024, 20, 3, .ro, 0⟩
def F.ENC_CMD_STATUS_PENDING : Fld := ⟨0x70024, 16, 1, .ro, 0⟩
def F.ENC_CMD_STATUS_RESULT : Fld := ⟨0x70024, 12, 4, .ro, 0⟩
def F.ENC_CMD_STATUS_OP : Fld := ⟨0x70024, 10, 2, .ro, 0⟩
def F.ENC_CMD_STATUS_SESSION : Fld := ⟨0x70024, 0, 5, .ro, 0⟩
def F.ENC_SESS_CFG_HASH_SEI : Fld := ⟨0x71000, 25, 1, .rws, 0⟩
def F.ENC_SESS_CFG_STAMP : Fld := ⟨0x71000, 24, 1, .rws, 1⟩
def F.ENC_SESS_CFG_DIVISOR : Fld := ⟨0x71000, 20, 2, .rws, 0⟩
def F.ENC_SESS_CFG_COLOUR : Fld := ⟨0x71000, 16, 2, .rws, 0⟩
def F.ENC_SESS_CFG_ID : Fld := ⟨0x71000, 8, 8, .rws, 0⟩
def F.ENC_SESS_CFG_RC : Fld := ⟨0x71000, 4, 1, .rws, 0⟩
def F.ENC_SESS_CFG_HDR : Fld := ⟨0x71000, 3, 1, .rws, 0⟩
def F.ENC_SESS_CFG_PIPE : Fld := ⟨0x71000, 2, 1, .rws, 0⟩
def F.ENC_SESS_CFG_FOLLOW : Fld := ⟨0x71000, 0, 2, .rws, 0⟩
def F.ENC_SESS_ORIGIN_Y : Fld := ⟨0x71004, 16, 16, .rws, 0⟩
def F.ENC_SESS_ORIGIN_X : Fld := ⟨0x71004, 0, 16, .rws, 0⟩
def F.ENC_SESS_SIZE_H : Fld := ⟨0x71008, 16, 16, .rws, 0x438⟩
def F.ENC_SESS_SIZE_W : Fld := ⟨0x71008, 0, 16, .rws, 0x780⟩
def F.ENC_SESS_RATE_BUF_PICS : Fld := ⟨0x7100C, 20, 4, .rws, 2⟩
def F.ENC_SESS_RATE_BIT_RATE : Fld := ⟨0x7100C, 0, 18, .rwt, 0x4e20⟩
def F.ENC_SESS_GDR_PERIOD : Fld := ⟨0x71010, 0, 9, .rwt, 0x3c⟩
def F.ENC_SESS_QP_QP_INIT : Fld := ⟨0x71014, 16, 6, .rwt, 0x1e⟩
def F.ENC_SESS_QP_QP_MAX : Fld := ⟨0x71014, 8, 6, .rwt, 0x33⟩
def F.ENC_SESS_QP_QP_MIN : Fld := ⟨0x71014, 0, 6, .rwt, 0xa⟩
def F.ENC_SESS_SEI_LO_ADDR_LO : Fld := ⟨0x71018, 6, 26, .rwt, 0⟩
def F.ENC_SESS_SEI_HI_ADDR_HI : Fld := ⟨0x7101C, 0, 8, .rwt, 0⟩
def F.ENC_SESS_STATE_PERIOD_POS : Fld := ⟨0x71020, 24, 8, .ro, 0⟩
def F.ENC_SESS_STATE_LEVEL : Fld := ⟨0x71020, 16, 8, .ro, 0⟩
def F.ENC_SESS_STATE_TIER : Fld := ⟨0x71020, 7, 1, .ro, 0⟩
def F.ENC_SESS_STATE_CORE : Fld := ⟨0x71020, 4, 3, .ro, 0⟩
def F.ENC_SESS_STATE_OPEN : Fld := ⟨0x71020, 0, 1, .ro, 0⟩
def F.ENC_SESS_FULLNESS_BITS : Fld := ⟨0x71024, 0, 32, .ro, 0⟩
def F.ENC_SESS_LAST_BITS_BITS : Fld := ⟨0x71028, 0, 32, .ro, 0⟩
def F.ENC_SESS_RES_CLASS : Fld := ⟨0x7102C, 21, 3, .ro, 0⟩
def F.ENC_SESS_RES_BERTHS : Fld := ⟨0x7102C, 16, 5, .ro, 0⟩
def F.ENC_SESS_RES_RESERVED_WU : Fld := ⟨0x7102C, 0, 16, .ro, 0⟩
def F.ENC_SESS_CNT_CODED_COUNT : Fld := ⟨0x71030, 0, 32, .rc, 0⟩
def F.ENC_SESS_CNT_RATE_FLOOR_COUNT : Fld := ⟨0x71034, 0, 32, .rc, 0⟩
def F.ENC_SESS_CNT_TIME_FLOOR_COUNT : Fld := ⟨0x71038, 0, 32, .rc, 0⟩
def F.ENC_SESS_CNT_NO_INPUT_COUNT : Fld := ⟨0x7103C, 0, 32, .rc, 0⟩
def F.NET_MAC_BASE_LO_MAC_LO : Fld := ⟨0x80000, 0, 32, .rws, 0⟩
def F.NET_MAC_BASE_HI_MAC_HI : Fld := ⟨0x80004, 0, 16, .rws, 0⟩
def F.NET_EVENTS_WIT_CHANGE : Fld := ⟨0x80010, 8, 1, .w1c, 0⟩
def F.NET_EVENTS_TX_LATE : Fld := ⟨0x80010, 7, 1, .w1c, 0⟩
def F.NET_EVENTS_FLOW_CONFLICT : Fld := ⟨0x80010, 6, 1, .w1c, 0⟩
def F.NET_EVENTS_IGMP_V2 : Fld := ⟨0x80010, 5, 1, .w1c, 0⟩
def F.NET_EVENTS_ADDR_CONFLICT : Fld := ⟨0x80010, 4, 1, .w1c, 0⟩
def F.NET_EVENTS_ARP_UNRESOLVED : Fld := ⟨0x80010, 3, 1, .w1c, 0⟩
def F.NET_EVENTS_PORT_DOWN : Fld := ⟨0x80010, 1, 1, .w1c, 0⟩
def F.NET_EVENTS_PORT_UP : Fld := ⟨0x80010, 0, 1, .w1c, 0⟩
def F.NET_DROP_UNMATCHED_COUNT : Fld := ⟨0x80014, 0, 32, .rc, 0⟩
def F.NET_DROP_IPV6_COUNT : Fld := ⟨0x80018, 0, 32, .rc, 0⟩
def F.NET_DROP_MALFORMED_COUNT : Fld := ⟨0x8001C, 0, 32, .rc, 0⟩
def F.NET_DROP_FRAGMENT_COUNT : Fld := ⟨0x80020, 0, 32, .rc, 0⟩
def F.NET_IGMP_STATUS_V2_COMPAT : Fld := ⟨0x80024, 0, 28, .ro, 0⟩
def F.NET_WIT_CFG_EN : Fld := ⟨0x80030, 31, 1, .rwt, 1⟩
def F.NET_WIT_CFG_GRACE : Fld := ⟨0x80030, 0, 6, .rwt, 0xa⟩
def F.NET_WIT_MASK_MASK : Fld := ⟨0x80034, 0, 32, .rwt, 0xffffffff⟩
def F.NET_WIT_VIDEO_MASK : Fld := ⟨0x80038, 0, 32, .rwt, 0⟩
def F.NET_PORT_CFG_EN : Fld := ⟨0x80100, 31, 1, .rw, 0⟩
def F.NET_PORT_CFG_AN : Fld := ⟨0x80100, 3, 1, .rws, 0⟩
def F.NET_PORT_CFG_FEC : Fld := ⟨0x80100, 2, 1, .rws, 0⟩
def F.NET_PORT_CFG_MODE : Fld := ⟨0x80100, 0, 2, .rws, 1⟩
def F.NET_PORT_ADDR0_ADDR : Fld := ⟨0x80104, 0, 32, .rws, 0⟩
def F.NET_PORT_ADDR1_ADDR : Fld := ⟨0x80108, 0, 32, .rws, 0⟩
def F.NET_PORT_SUBNET_PREFIX : Fld := ⟨0x8010C, 0, 6, .rws, 0⟩
def F.NET_PORT_GW_GW : Fld := ⟨0x80110, 0, 32, .rws, 0⟩
def F.NET_PORT_VLAN_TX_TAG : Fld := ⟨0x80114, 16, 1, .rws, 0⟩
def F.NET_PORT_VLAN_PCP : Fld := ⟨0x80114, 13, 3, .rws, 4⟩
def F.NET_PORT_VLAN_VID : Fld := ⟨0x80114, 0, 12, .rws, 0⟩
def F.NET_PORT_DELAY_RX : Fld := ⟨0x80118, 16, 16, .rw, 0⟩
def F.NET_PORT_DELAY_TX : Fld := ⟨0x80118, 0, 16, .rw, 0⟩
def F.NET_PORT_STATUS_ADDR_CONFLICT : Fld := ⟨0x8011C, 3, 1, .ro, 0⟩
def F.NET_PORT_STATUS_STATE : Fld := ⟨0x8011C, 0, 2, .ro, 0⟩
def F.NET_SRC_CFG_SKEW_MS : Fld := ⟨0x81000, 16, 4, .rws, 0xa⟩
def F.NET_SRC_CFG_KIND : Fld := ⟨0x81000, 8, 2, .rws, 0⟩
def F.NET_SRC_CFG_FORMAT : Fld := ⟨0x81000, 0, 8, .rws, 1⟩
def F.NET_SRC_SIZE_HEIGHT : Fld := ⟨0x81004, 16, 16, .rws, 0x438⟩
def F.NET_SRC_SIZE_WIDTH : Fld := ⟨0x81004, 0, 16, .rws, 0x780⟩
def F.NET_SRC_CNT_FRAMES_COUNT : Fld := ⟨0x81008, 0, 32, .rc, 0⟩
def F.NET_SRC_CNT_DISCARD_COUNT : Fld := ⟨0x8100C, 0, 32, .rc, 0⟩
def F.NET_RX_FLOW_CFG_EN : Fld := ⟨0x82000, 31, 1, .rw, 0⟩
def F.NET_RX_FLOW_CFG_SEEN : Fld := ⟨0x82000, 30, 1, .ro, 0⟩
def F.NET_RX_FLOW_CFG_LEG : Fld := ⟨0x82000, 24, 1, .rws, 0⟩
def F.NET_RX_FLOW_CFG_PORT : Fld := ⟨0x82000, 16, 5, .rws, 0⟩
def F.NET_RX_FLOW_CFG_FORM : Fld := ⟨0x82000, 8, 2, .rws, 0⟩
def F.NET_RX_FLOW_CFG_SOURCE : Fld := ⟨0x82000, 0, 8, .rws, 0⟩
def F.NET_RX_FLOW_DST_VALUE : Fld := ⟨0x82004, 0, 32, .rws, 0⟩
def F.NET_RX_FLOW_UDP_PORT : Fld := ⟨0x82008, 0, 16, .rws, 0⟩
def F.NET_RX_FLOW_SRCIP_VALUE : Fld := ⟨0x8200C, 0, 32, .rws, 0⟩
def F.NET_TX_CFG_EN : Fld := ⟨0x84000, 31, 1, .rw, 0⟩
def F.NET_TX_CFG_TYPE : Fld := ⟨0x84000, 24, 1, .rws, 0⟩
def F.NET_TX_CFG_BURST : Fld := ⟨0x84000, 20, 3, .rws, 4⟩
def F.NET_TX_CFG_PT : Fld := ⟨0x84000, 8, 7, .rws, 0x60⟩
def F.NET_TX_SSRC_VALUE : Fld := ⟨0x84004, 0, 32, .rws, 0⟩
def F.NET_TX_SRCIP_VALUE : Fld := ⟨0x84008, 0, 32, .rws, 0⟩
def F.NET_TX_TIMING_TRO_OUT : Fld := ⟨0x8400C, 0, 20, .rwt, 0⟩
def F.NET_TX_PKT_PACE_MBPS : Fld := ⟨0x84010, 16, 16, .rws, 0⟩
def F.NET_TX_PKT_MAX_PAYLOAD : Fld := ⟨0x84010, 0, 11, .rws, 0x4b0⟩
def F.NET_TX_STAMP_UDP_PATH0 : Fld := ⟨0x84014, 16, 16, .rws, 0⟩
def F.NET_TX_STAMP_UDP_PATH1 : Fld := ⟨0x84014, 0, 16, .rws, 0⟩
def F.NET_TX_LATE_CNT_COUNT : Fld := ⟨0x84018, 0, 32, .rc, 0⟩
def F.NET_TX_STATUS_PATH1_UNRESOLVED : Fld := ⟨0x8401C, 3, 1, .ro, 0⟩
def F.NET_TX_STATUS_PATH0_UNRESOLVED : Fld := ⟨0x8401C, 2, 1, .ro, 0⟩
def F.NET_TX_STATUS_PATH1_DOWN : Fld := ⟨0x8401C, 1, 1, .ro, 0⟩
def F.NET_TX_STATUS_PATH0_DOWN : Fld := ⟨0x8401C, 0, 1, .ro, 0⟩
def F.NET_TX_PATH_CFG_0_EN : Fld := ⟨0x84020, 31, 1, .rws, 0⟩
def F.NET_TX_PATH_CFG_0_PORT : Fld := ⟨0x84020, 16, 5, .rws, 0⟩
def F.NET_TX_PATH_CFG_0_DSCP : Fld := ⟨0x84020, 8, 6, .rws, 0x22⟩
def F.NET_TX_PATH_CFG_0_TTL : Fld := ⟨0x84020, 0, 8, .rws, 0x40⟩
def F.NET_TX_PATH_DST_0_VALUE : Fld := ⟨0x84024, 0, 32, .rws, 0⟩
def F.NET_TX_PATH_UDP_0_DPORT : Fld := ⟨0x84028, 16, 16, .rws, 0⟩
def F.NET_TX_PATH_UDP_0_SPORT : Fld := ⟨0x84028, 0, 16, .rws, 0⟩
def F.NET_TX_PATH_STAMP_0_VALUE : Fld := ⟨0x8402C, 0, 32, .rws, 0⟩
def F.NET_TX_PATH_CFG_1_EN : Fld := ⟨0x84030, 31, 1, .rws, 0⟩
def F.NET_TX_PATH_CFG_1_PORT : Fld := ⟨0x84030, 16, 5, .rws, 0⟩
def F.NET_TX_PATH_CFG_1_DSCP : Fld := ⟨0x84030, 8, 6, .rws, 0x22⟩
def F.NET_TX_PATH_CFG_1_TTL : Fld := ⟨0x84030, 0, 8, .rws, 0x40⟩
def F.NET_TX_PATH_DST_1_VALUE : Fld := ⟨0x84034, 0, 32, .rws, 0⟩
def F.NET_TX_PATH_UDP_1_DPORT : Fld := ⟨0x84038, 16, 16, .rws, 0⟩
def F.NET_TX_PATH_UDP_1_SPORT : Fld := ⟨0x84038, 0, 16, .rws, 0⟩
def F.NET_TX_PATH_STAMP_1_VALUE : Fld := ⟨0x8403C, 0, 32, .rws, 0⟩
def F.NET_WIT_STATE_TICK : Fld := ⟨0x85000, 8, 24, .ro, 0⟩
def F.NET_WIT_STATE_VERDICT : Fld := ⟨0x85000, 0, 2, .ro, 0⟩
def F.NET_WIT_CNT_COUNT : Fld := ⟨0x85004, 0, 32, .rc, 0⟩
def F.LANE_REFCLK_STATUS_CLKMODE : Fld := ⟨0x90000, 9, 2, .ro, 0⟩
def F.LANE_REFCLK_STATUS_Q7_LOCK : Fld := ⟨0x90000, 8, 1, .ro, 0⟩
def F.LANE_REFCLK_STATUS_QUAD_LOCK : Fld := ⟨0x90000, 1, 7, .ro, 0⟩
def F.LANE_REFCLK_LOSS_SYS : Fld := ⟨0x90004, 2, 1, .ro, 0⟩
def F.LANE_REFCLK_LOSS_LANE1 : Fld := ⟨0x90004, 1, 1, .ro, 0⟩
def F.LANE_REFCLK_LOSS_LANE0 : Fld := ⟨0x90004, 0, 1, .ro, 0⟩
def F.LANE_EVENTS_SCAN_DONE : Fld := ⟨0x90008, 6, 1, .w1c, 0⟩
def F.LANE_EVENTS_TETHER_FAIL : Fld := ⟨0x90008, 5, 1, .w1c, 0⟩
def F.LANE_EVENTS_RETRAIN : Fld := ⟨0x90008, 4, 1, .w1c, 0⟩
def F.LANE_EVENTS_DEGRADED : Fld := ⟨0x90008, 3, 1, .w1c, 0⟩
def F.LANE_EVENTS_REVERSAL : Fld := ⟨0x90008, 2, 1, .w1c, 0⟩
def F.LANE_EVENTS_POLARITY : Fld := ⟨0x90008, 1, 1, .w1c, 0⟩
def F.LANE_EVENTS_REFCLK_LOSS : Fld := ⟨0x90008, 0, 1, .w1c, 0⟩
def F.LANE_MARGIN_MIN_HEIGHT : Fld := ⟨0x9000C, 16, 7, .rw, 0xc⟩
def F.LANE_MARGIN_MIN_WIDTH : Fld := ⟨0x9000C, 0, 5, .rw, 8⟩
def F.LANE_ADAPT_CFG_TD_MIN : Fld := ⟨0x90010, 0, 8, .rw, 0x20⟩
def F.LANE_TETHER_CFG_EN : Fld := ⟨0x90014, 0, 1, .rw, 0⟩
def F.LANE_TETHER_STATUS_ATTEMPTS : Fld := ⟨0x90018, 16, 16, .ro, 0⟩
def F.LANE_TETHER_STATUS_TRAINED : Fld := ⟨0x90018, 4, 4, .ro, 0⟩
def F.LANE_TETHER_STATUS_STATE : Fld := ⟨0x90018, 0, 2, .ro, 0⟩
def F.LANE_SCAN_CTRL_START : Fld := ⟨0x90020, 31, 1, .wo, 0⟩
def F.LANE_SCAN_CTRL_LANE : Fld := ⟨0x90020, 24, 5, .rw, 0⟩
def F.LANE_SCAN_CTRL_PHASE : Fld := ⟨0x90020, 16, 6, .rw, 0⟩
def F.LANE_SCAN_CTRL_OFFSET : Fld := ⟨0x90020, 8, 8, .rw, 0⟩
def F.LANE_SCAN_CTRL_DWELL : Fld := ⟨0x90020, 0, 4, .rw, 4⟩
def F.LANE_SCAN_RESULT_DONE : Fld := ⟨0x90024, 31, 1, .ro, 0⟩
def F.LANE_SCAN_RESULT_ABORTED : Fld := ⟨0x90024, 30, 1, .ro, 0⟩
def F.LANE_SCAN_RESULT_ERRORS : Fld := ⟨0x90024, 0, 24, .ro, 0⟩
def F.LANE_CFG_TX_POST : Fld := ⟨0x90100, 20, 4, .rws, 4⟩
def F.LANE_CFG_TX_PRE : Fld := ⟨0x90100, 16, 4, .rws, 2⟩
def F.LANE_CFG_TX_INVERT : Fld := ⟨0x90100, 8, 1, .rws, 0⟩
def F.LANE_CFG_RX_POL : Fld := ⟨0x90100, 4, 2, .rws, 0⟩
def F.LANE_STATUS_FAIL_CORNERS : Fld := ⟨0x90104, 12, 4, .ro, 0⟩
def F.LANE_STATUS_SIGNAL : Fld := ⟨0x90104, 7, 1, .ro, 0⟩
def F.LANE_STATUS_DEGRADED : Fld := ⟨0x90104, 6, 1, .ro, 0⟩
def F.LANE_STATUS_FROZEN : Fld := ⟨0x90104, 5, 1, .ro, 0⟩
def F.LANE_STATUS_POL_INV : Fld := ⟨0x90104, 4, 1, .ro, 0⟩
def F.LANE_STATUS_STATE : Fld := ⟨0x90104, 0, 4, .ro, 0⟩
def F.LANE_CNT_LOCK_COUNT : Fld := ⟨0x90108, 0, 32, .rc, 0⟩
def F.LANE_CNT_RETRAIN_COUNT : Fld := ⟨0x9010C, 0, 32, .rc, 0⟩
def F.LANE_CNT_MCHK_FAIL_COUNT : Fld := ⟨0x90110, 0, 32, .rc, 0⟩
def F.LANE_QUAD_CFG_TX_MAP : Fld := ⟨0x90600, 0, 2, .rws, 0⟩
def F.LANE_QUAD_STATUS_TX_REVERSED : Fld := ⟨0x90604, 8, 1, .ro, 0⟩
def F.LANE_QUAD_STATUS_RX_MAP : Fld := ⟨0x90604, 0, 8, .ro, 0xe4⟩
def F.TIME_CTRL_REVERT : Fld := ⟨0xA0000, 17, 1, .rwt, 0⟩
def F.TIME_CTRL_PREFER : Fld := ⟨0xA0000, 16, 1, .rwt, 0⟩
def F.TIME_CTRL_SLEW_PPM : Fld := ⟨0xA0000, 0, 10, .rwt, 0x64⟩
def F.TIME_STATUS_STEP_COUNT : Fld := ⟨0xA0004, 8, 8, .ro, 0⟩
def F.TIME_STATUS_PAIR_MISMATCH : Fld := ⟨0xA0004, 7, 1, .ro, 0⟩
def F.TIME_STATUS_RELOCK_PENDING : Fld := ⟨0xA0004, 6, 1, .ro, 0⟩
def F.TIME_STATUS_DIVERGED : Fld := ⟨0xA0004, 5, 1, .ro, 0⟩
def F.TIME_STATUS_IN_USE : Fld := ⟨0xA0004, 4, 1, .ro, 0⟩
def F.TIME_STATUS_SRC : Fld := ⟨0xA0004, 0, 2, .ro, 0⟩
def F.TIME_CMD_OP : Fld := ⟨0xA0008, 30, 2, .wo, 0⟩
def F.TIME_CMD_SERVO : Fld := ⟨0xA0008, 0, 1, .wo, 0⟩
def F.TIME_EVENTS_TRIG_MISSED : Fld := ⟨0xA000C, 7, 1, .w1c, 0⟩
def F.TIME_EVENTS_CAPTURE : Fld := ⟨0xA000C, 6, 1, .w1c, 0⟩
def F.TIME_EVENTS_SRV_LOSS : Fld := ⟨0xA000C, 5, 1, .w1c, 0⟩
def F.TIME_EVENTS_SRV_LOCK : Fld := ⟨0xA000C, 4, 1, .w1c, 0⟩
def F.TIME_EVENTS_HOLDOVER : Fld := ⟨0xA000C, 3, 1, .w1c, 0⟩
def F.TIME_EVENTS_SWITCH : Fld := ⟨0xA000C, 2, 1, .w1c, 0⟩
def F.TIME_EVENTS_STEP : Fld := ⟨0xA000C, 1, 1, .w1c, 0⟩
def F.TIME_EVENTS_DIVERGED : Fld := ⟨0xA000C, 0, 1, .w1c, 0⟩
def F.TIME_NOW_NS_VALUE : Fld := ⟨0xA0010, 0, 32, .ro, 0⟩
def F.TIME_NOW_SEC_LO_VALUE : Fld := ⟨0xA0014, 0, 32, .ro, 0⟩
def F.TIME_NOW_SEC_HI_VALUE : Fld := ⟨0xA0018, 0, 16, .ro, 0⟩
def F.TIME_RATE_PPB : Fld := ⟨0xA001C, 0, 32, .ro, 0⟩
def F.TIME_UTC_LEAP59 : Fld := ⟨0xA0020, 18, 1, .ro, 0⟩
def F.TIME_UTC_LEAP61 : Fld := ⟨0xA0020, 17, 1, .ro, 0⟩
def F.TIME_UTC_VALID : Fld := ⟨0xA0020, 16, 1, .ro, 0⟩
def F.TIME_UTC_OFFSET : Fld := ⟨0xA0020, 0, 16, .ro, 0⟩
def F.TIME_TICKOUT_CFG_EN : Fld := ⟨0xA0030, 31, 1, .rwt, 0⟩
def F.TIME_TICKOUT_CFG_POL : Fld := ⟨0xA0030, 30, 1, .rwt, 0⟩
def F.TIME_TICKOUT_CFG_DIVIDE : Fld := ⟨0xA0030, 16, 8, .rwt, 0⟩
def F.TIME_TICKOUT_CFG_WIDTH : Fld := ⟨0xA0030, 0, 16, .rwt, 0xa⟩
def F.TIME_SRV_CFG_EN : Fld := ⟨0xA0100, 31, 1, .rw, 0⟩
def F.TIME_SRV_CFG_DELAY_UNICAST : Fld := ⟨0xA0100, 30, 1, .rws, 0⟩
def F.TIME_SRV_CFG_PORT : Fld := ⟨0xA0100, 24, 5, .rws, 0⟩
def F.TIME_SRV_CFG_DOMAIN : Fld := ⟨0xA0100, 16, 7, .rws, 0x7f⟩
def F.TIME_SRV_CFG_BW : Fld := ⟨0xA0100, 4, 2, .rws, 1⟩
def F.TIME_SRV_CFG_ANN_TIMEOUT : Fld := ⟨0xA0100, 0, 4, .rws, 3⟩
def F.TIME_SRV_WINDOW_OUTLIER_US : Fld := ⟨0xA0104, 16, 16, .rwt, 0xa⟩
def F.TIME_SRV_WINDOW_WINDOW_NS : Fld := ⟨0xA0104, 0, 16, .rwt, 0x3e8⟩
def F.TIME_SRV_ASYM_ASYM : Fld := ⟨0xA0108, 0, 32, .rw, 0⟩
def F.TIME_SRV_STATE_MASTER_PORT : Fld := ⟨0xA010C, 16, 16, .ro, 0⟩
def F.TIME_SRV_STATE_STEPS_REMOVED : Fld := ⟨0xA010C, 8, 8, .ro, 0⟩
def F.TIME_SRV_STATE_STATE : Fld := ⟨0xA010C, 0, 3, .ro, 0⟩
def F.TIME_SRV_OFFSET_NS : Fld := ⟨0xA0110, 0, 32, .ro, 0⟩
def F.TIME_SRV_DELAY_NS : Fld := ⟨0xA0114, 0, 32, .ro, 0⟩
def F.TIME_SRV_GM_LO_ID : Fld := ⟨0xA0118, 0, 32, .ro, 0⟩
def F.TIME_SRV_GM_HI_ID : Fld := ⟨0xA011C, 0, 32, .ro, 0⟩
def F.TIME_SRV_MASTER_LO_ID : Fld := ⟨0xA0120, 0, 32, .ro, 0⟩
def F.TIME_SRV_MASTER_HI_ID : Fld := ⟨0xA0124, 0, 32, .ro, 0⟩
def F.TIME_SRV_CNT_OUTLIER_COUNT : Fld := ⟨0xA0128, 0, 32, .rc, 0⟩
def F.TIME_SRV_CNT_LOSS_COUNT : Fld := ⟨0xA012C, 0, 32, .rc, 0⟩
def F.TIME_TRIG_CFG_EN : Fld := ⟨0xA0200, 31, 1, .rw, 0⟩
def F.TIME_TRIG_CFG_POL : Fld := ⟨0xA0200, 30, 1, .rws, 0⟩
def F.TIME_TRIG_CFG_PERIODIC : Fld := ⟨0xA0200, 29, 1, .rws, 0⟩
def F.TIME_TRIG_CFG_LOCKED_ONLY : Fld := ⟨0xA0200, 28, 1, .rws, 1⟩
def F.TIME_TRIG_CFG_WIDTH : Fld := ⟨0xA0200, 0, 24, .rws, 0x3e8⟩
def F.TIME_TRIG_START_NS_VALUE : Fld := ⟨0xA0204, 0, 32, .rws, 0⟩
def F.TIME_TRIG_START_SEC_LO_VALUE : Fld := ⟨0xA0208, 0, 32, .rws, 0⟩
def F.TIME_TRIG_START_SEC_HI_VALUE : Fld := ⟨0xA020C, 0, 16, .rws, 0⟩
def F.TIME_TRIG_PERIOD_NS : Fld := ⟨0xA0210, 0, 32, .rws, 0xf42400⟩
def F.TIME_TRIG_STATUS_MISSED : Fld := ⟨0xA0214, 1, 1, .ro, 0⟩
def F.TIME_TRIG_STATUS_ACTIVE : Fld := ⟨0xA0214, 0, 1, .ro, 0⟩
def F.TIME_CAP_CFG_EN : Fld := ⟨0xA0300, 31, 1, .rw, 0⟩
def F.TIME_CAP_CFG_EDGE : Fld := ⟨0xA0300, 0, 2, .rws, 0⟩
def F.TIME_CAP_NS_NS : Fld := ⟨0xA0304, 0, 32, .rc, 0xffffffff⟩
def F.TIME_CAP_SEC_LO_SEC_LO : Fld := ⟨0xA0308, 0, 32, .ro, 0⟩
def F.TIME_CAP_SEC_HI_STEP : Fld := ⟨0xA030C, 24, 8, .ro, 0⟩
def F.TIME_CAP_SEC_HI_RISING : Fld := ⟨0xA030C, 16, 1, .ro, 0⟩
def F.TIME_CAP_SEC_HI_SEC_HI : Fld := ⟨0xA030C, 0, 16, .ro, 0⟩
def F.TIME_CAP_STATUS_COUNT : Fld := ⟨0xA0310, 0, 5, .ro, 0⟩
def F.TIME_CAP_DROP_COUNT : Fld := ⟨0xA0314, 0, 32, .rc, 0⟩
def F.PAIR_CTRL_K : Fld := ⟨0xB0000, 8, 4, .rwt, 2⟩
def F.PAIR_CTRL_REVERT : Fld := ⟨0xB0000, 3, 1, .rwt, 1⟩
def F.PAIR_CTRL_HOME : Fld := ⟨0xB0000, 2, 1, .rwt, 0⟩
def F.PAIR_CTRL_UNIT : Fld := ⟨0xB0000, 1, 1, .rws, 0⟩
def F.PAIR_CTRL_EN : Fld := ⟨0xB0000, 0, 1, .rws, 0⟩
def F.PAIR_SETTLE_TICKS : Fld := ⟨0xB0004, 0, 16, .rwt, 0x258⟩
def F.PAIR_STATUS_MISMATCH : Fld := ⟨0xB0008, 16, 4, .ro, 0⟩
def F.PAIR_STATUS_WIT_BLIND : Fld := ⟨0xB0008, 10, 1, .ro, 0⟩
def F.PAIR_STATUS_TICK_MISMATCH : Fld := ⟨0xB0008, 9, 1, .ro, 0⟩
def F.PAIR_STATUS_INCONSISTENT : Fld := ⟨0xB0008, 8, 1, .ro, 0⟩
def F.PAIR_STATUS_PARTNER_LEASE : Fld := ⟨0xB0008, 6, 2, .ro, 0⟩
def F.PAIR_STATUS_SYNC : Fld := ⟨0xB0008, 4, 2, .ro, 0⟩
def F.PAIR_STATUS_ROLE : Fld := ⟨0xB0008, 0, 3, .ro, 0⟩
def F.PAIR_EPOCH_EPOCH : Fld := ⟨0xB000C, 0, 32, .ro, 0⟩
def F.PAIR_CMD_OP : Fld := ⟨0xB0010, 30, 2, .wo, 0⟩
def F.PAIR_CMD_STATUS_REQ_SLOT : Fld := ⟨0xB0014, 16, 3, .ro, 0⟩
def F.PAIR_CMD_STATUS_PENDING : Fld := ⟨0xB0014, 12, 1, .ro, 0⟩
def F.PAIR_CMD_STATUS_RESULT : Fld := ⟨0xB0014, 8, 4, .ro, 0⟩
def F.PAIR_CMD_STATUS_OP : Fld := ⟨0xB0014, 0, 2, .ro, 0⟩
def F.PAIR_EVENTS_REIN_STUCK : Fld := ⟨0xB0018, 16, 1, .w1c, 0⟩
def F.PAIR_EVENTS_UNIT_CLASH : Fld := ⟨0xB0018, 15, 1, .w1c, 0⟩
def F.PAIR_EVENTS_TICK_MISMATCH : Fld := ⟨0xB0018, 14, 1, .w1c, 0⟩
def F.PAIR_EVENTS_PROTO_MISMATCH : Fld := ⟨0xB0018, 13, 1, .w1c, 0⟩
def F.PAIR_EVENTS_MIRROR_FULL : Fld := ⟨0xB0018, 12, 1, .w1c, 0⟩
def F.PAIR_EVENTS_SYNCED : Fld := ⟨0xB0018, 11, 1, .w1c, 0⟩
def F.PAIR_EVENTS_STATE_STALE : Fld := ⟨0xB0018, 10, 1, .w1c, 0⟩
def F.PAIR_EVENTS_DUAL_HOLDER : Fld := ⟨0xB0018, 9, 1, .w1c, 0⟩
def F.PAIR_EVENTS_HANDOVER_ABORTED : Fld := ⟨0xB0018, 8, 1, .w1c, 0⟩
def F.PAIR_EVENTS_TAKEOVER : Fld := ⟨0xB0018, 7, 1, .w1c, 0⟩
def F.PAIR_EVENTS_BOTH_FAULT : Fld := ⟨0xB0018, 6, 1, .w1c, 0⟩
def F.PAIR_EVENTS_STANDBY_FAULT : Fld := ⟨0xB0018, 5, 1, .w1c, 0⟩
def F.PAIR_EVENTS_YIELD : Fld := ⟨0xB0018, 4, 1, .w1c, 0⟩
def F.PAIR_EVENTS_DIVERGED : Fld := ⟨0xB0018, 3, 1, .w1c, 0⟩
def F.PAIR_EVENTS_REIN_FAULT : Fld := ⟨0xB0018, 2, 1, .w1c, 0⟩
def F.PAIR_EVENTS_TETHER_DOWN : Fld := ⟨0xB0018, 1, 1, .w1c, 0⟩
def F.PAIR_HEALTH_LO_HEALTH : Fld := ⟨0xB0020, 0, 32, .ro, 0⟩
def F.PAIR_HEALTH_HI_HEALTH : Fld := ⟨0xB0024, 0, 32, .ro, 0⟩
def F.PAIR_PARTNER_HEALTH_LO_HEALTH : Fld := ⟨0xB0028, 0, 32, .ro, 0⟩
def F.PAIR_PARTNER_HEALTH_HI_HEALTH : Fld := ⟨0xB002C, 0, 32, .ro, 0⟩
def F.PAIR_HEALTH_CFG_CE_MAX : Fld := ⟨0xB0030, 0, 16, .rwt, 0x40⟩
def F.PAIR_LAST_MISMATCH_TILE : Fld := ⟨0xB0034, 8, 8, .ro, 0⟩
def F.PAIR_LAST_MISMATCH_OUTPUT_ID : Fld := ⟨0xB0034, 0, 6, .ro, 0⟩
def F.PAIR_LAST_CHANGE_LO_TICK : Fld := ⟨0xB0038, 0, 32, .ro, 0⟩
def F.PAIR_LAST_CHANGE_HI_TICK : Fld := ⟨0xB003C, 0, 32, .ro, 0⟩
def F.PAIR_CNT_MISMATCH_COUNT : Fld := ⟨0xB0040, 0, 32, .rc, 0⟩
def F.PAIR_CNT_NEUTRAL_COUNT : Fld := ⟨0xB0044, 0, 32, .rc, 0⟩
def F.PAIR_CNT_REIN_MISS_COUNT : Fld := ⟨0xB0048, 0, 32, .rc, 0⟩
def F.PAIR_CNT_FRAME_ERR_COUNT : Fld := ⟨0xB004C, 0, 32, .rc, 0⟩
def F.PAIR_CNT_WRITE_REFUSED_COUNT : Fld := ⟨0xB0050, 0, 32, .rc, 0⟩
def F.PAIR_MIRROR_STATUS_PENDING_KIB : Fld := ⟨0xB0054, 0, 16, .ro, 0⟩
def F.PAIR_SYNC_PROGRESS_PAGES : Fld := ⟨0xB0058, 0, 32, .ro, 0⟩
def F.MEM_MAP_HASH : Fld := ⟨0xC0000, 6, 1, .ro, 0⟩
def F.MEM_MAP_ORDER : Fld := ⟨0xC0000, 4, 2, .ro, 0⟩
def F.MEM_MAP_GRAIN : Fld := ⟨0xC0000, 0, 4, .ro, 4⟩
def F.MEM_STATUS_TEMP_HIGH_B : Fld := ⟨0xC0004, 4, 1, .ro, 0⟩
def F.MEM_STATUS_TEMP_HIGH_A : Fld := ⟨0xC0004, 3, 1, .ro, 0⟩
def F.MEM_STATUS_FCHG_BUSY : Fld := ⟨0xC0004, 2, 1, .ro, 0⟩
def F.MEM_STATUS_TIMING : Fld := ⟨0xC0004, 0, 1, .ro, 0⟩
def F.MEM_EVENTS_FCHG_FAIL : Fld := ⟨0xC0008, 6, 1, .w1c, 0⟩
def F.MEM_EVENTS_FCHG_DONE : Fld := ⟨0xC0008, 5, 1, .w1c, 0⟩
def F.MEM_EVENTS_SCRUB_DONE : Fld := ⟨0xC0008, 4, 1, .w1c, 0⟩
def F.MEM_EVENTS_TEMP_HIGH : Fld := ⟨0xC0008, 3, 1, .w1c, 0⟩
def F.MEM_EVENTS_UE_SYSTEM : Fld := ⟨0xC0008, 2, 1, .w1c, 0⟩
def F.MEM_EVENTS_UE : Fld := ⟨0xC0008, 1, 1, .w1c, 0⟩
def F.MEM_EVENTS_CE : Fld := ⟨0xC0008, 0, 1, .w1c, 0⟩
def F.MEM_CE_CNT_COUNT : Fld := ⟨0xC000C, 0, 32, .rc, 0⟩
def F.MEM_UE_CNT_COUNT : Fld := ⟨0xC0010, 0, 32, .rc, 0⟩
def F.MEM_ERR_ADDR_LO_ADDR_LO : Fld := ⟨0xC0018, 5, 27, .ro, 0⟩
def F.MEM_ERR_ADDR_HI_ADDR_HI : Fld := ⟨0xC001C, 0, 8, .ro, 0⟩
def F.MEM_ERR_INFO_REGION : Fld := ⟨0xC0020, 12, 2, .ro, 0⟩
def F.MEM_ERR_INFO_SOURCE : Fld := ⟨0xC0020, 8, 4, .ro, 0⟩
def F.MEM_ERR_INFO_PC : Fld := ⟨0xC0020, 5, 1, .ro, 0⟩
def F.MEM_ERR_INFO_CHANNEL : Fld := ⟨0xC0020, 0, 5, .ro, 0⟩
def F.MEM_SCHED_CFG_RUN_MAX : Fld := ⟨0xC0024, 0, 6, .rw, 0x20⟩
def F.MEM_SCRUB_CFG_EN : Fld := ⟨0xC0028, 31, 1, .rw, 1⟩
def F.MEM_SCRUB_CFG_PERIOD_S : Fld := ⟨0xC0028, 0, 16, .rw, 0xe10⟩
def F.MEM_SCRUB_STATUS_PASSES : Fld := ⟨0xC002C, 16, 16, .ro, 0⟩
def F.MEM_SCRUB_STATUS_PERMILLE : Fld := ⟨0xC002C, 0, 16, .ro, 0⟩
def F.MEM_SR_STATUS_SR : Fld := ⟨0xC0030, 0, 32, .ro, 0⟩
def F.MEM_TEMP_STACK_B : Fld := ⟨0xC0034, 16, 8, .ro, 0⟩
def F.MEM_TEMP_STACK_A : Fld := ⟨0xC0034, 0, 8, .ro, 0⟩
def F.MEM_CH_STATUS_PEAK : Fld := ⟨0xC0100, 8, 7, .rc, 0⟩
def F.MEM_CH_STATUS_OCC : Fld := ⟨0xC0100, 0, 7, .ro, 0⟩
def F.MEM_CH_CE_COUNT : Fld := ⟨0xC0104, 0, 32, .rc, 0⟩
def F.HOST_SLOT_STATUS_FAULT_REASON : Fld := ⟨0xD0000, 8, 4, .ro, 0⟩
def F.HOST_SLOT_STATUS_SESSION : Fld := ⟨0xD0000, 7, 1, .ro, 0⟩
def F.HOST_SLOT_STATUS_ROUTE : Fld := ⟨0xD0000, 4, 3, .ro, 0⟩
def F.HOST_SLOT_STATUS_SLOT : Fld := ⟨0xD0000, 0, 3, .ro, 0⟩
def F.HOST_FAULT_ADDR_LO_ADDR_LO : Fld := ⟨0xD0004, 0, 32, .ro, 0⟩
def F.HOST_FAULT_ADDR_HI_TARGET : Fld := ⟨0xD0008, 8, 2, .ro, 0⟩
def F.HOST_FAULT_ADDR_HI_ADDR_HI : Fld := ⟨0xD0008, 0, 8, .ro, 0⟩
def F.HOST_DP_CTRL_INC : Fld := ⟨0xD0010, 4, 1, .rw, 1⟩
def F.HOST_DP_CTRL_TARGET : Fld := ⟨0xD0010, 0, 2, .rw, 0⟩
def F.HOST_DP_ADDR_LO_ADDR_LO : Fld := ⟨0xD0014, 0, 32, .rw, 0⟩
def F.HOST_DP_ADDR_HI_ADDR_HI : Fld := ⟨0xD0018, 0, 8, .rw, 0⟩
def F.HOST_EVQ_POP0_WORD : Fld := ⟨0xD0020, 0, 32, .rc, 0xffffffff⟩
def F.HOST_EVQ_POP1_WORD : Fld := ⟨0xD0024, 0, 32, .ro, 0⟩
def F.HOST_EVQ_POP2_WORD : Fld := ⟨0xD0028, 0, 32, .ro, 0⟩
def F.HOST_EVQ_POP3_WORD : Fld := ⟨0xD002C, 0, 32, .ro, 0⟩
def F.HOST_EVQ_STATUS_DROPPED : Fld := ⟨0xD0030, 16, 16, .rc, 0⟩
def F.HOST_EVQ_STATUS_OVERFLOW : Fld := ⟨0xD0030, 9, 1, .w1c, 0⟩
def F.HOST_EVQ_STATUS_COUNT : Fld := ⟨0xD0030, 0, 9, .ro, 0⟩
def F.HOST_EVQ_EN_MASK : Fld := ⟨0xD0040, 0, 32, .rw, 0⟩
def F.HOST_EVENTS_DBG_UNLOCK : Fld := ⟨0xD0100, 4, 1, .w1c, 0⟩
def F.HOST_EVENTS_EVQ_OVERFLOW : Fld := ⟨0xD0100, 3, 1, .w1c, 0⟩
def F.HOST_EVENTS_SESSION_CLOSED : Fld := ⟨0xD0100, 2, 1, .w1c, 0⟩
def F.HOST_EVENTS_SESSION_OPEN : Fld := ⟨0xD0100, 1, 1, .w1c, 0⟩
def F.HOST_EVENTS_FAULT : Fld := ⟨0xD0100, 0, 1, .w1c, 0⟩
def F.HOST_EVENT_PIN_SLOTS_1 : Fld := ⟨0xD0104, 8, 8, .rw, 0⟩
def F.HOST_EVENT_PIN_SLOTS_0 : Fld := ⟨0xD0104, 0, 8, .rw, 0⟩
def F.HOST_MGMT_ADDR0_ADDR : Fld := ⟨0xD0108, 0, 32, .rws, 0⟩
def F.HOST_MGMT_ADDR1_ADDR : Fld := ⟨0xD010C, 0, 32, .rws, 0⟩
def F.HOST_FUHEL_CFG_MGMT_EN : Fld := ⟨0xD0110, 31, 1, .rw, 0⟩
def F.HOST_FUHEL_CFG_PREFIX : Fld := ⟨0xD0110, 16, 6, .rws, 0x18⟩
def F.HOST_FUHEL_CFG_TIMEOUT_S : Fld := ⟨0xD0110, 0, 8, .rw, 0xa⟩
def F.HOST_CNT_UNBOUND_COUNT : Fld := ⟨0xD0114, 0, 32, .rc, 0⟩
def F.HOST_CNT_SEQ_DROP_COUNT : Fld := ⟨0xD0118, 0, 32, .rc, 0⟩
def F.HOST_LC_STATUS_DBG_UNLOCKED : Fld := ⟨0xD0120, 7, 1, .ro, 0⟩
def F.HOST_LC_STATUS_DBG_SLOT : Fld := ⟨0xD0120, 4, 3, .ro, 0⟩
def F.HOST_LC_STATUS_STATE : Fld := ⟨0xD0120, 0, 2, .ro, 0⟩
def F.HOST_LC_CMD_OP : Fld := ⟨0xD0124, 0, 2, .wo, 0⟩
def F.HOST_PROT_ROUTE_PORT : Fld := ⟨0xD0200, 8, 5, .ro, 0⟩
def F.HOST_PROT_ROUTE_ROUTE : Fld := ⟨0xD0200, 0, 3, .ro, 0⟩
def F.HOST_PROT_PEER_VALUE : Fld := ⟨0xD0204, 0, 32, .ro, 0⟩
def F.HOST_PROT_PERM_LOCKED : Fld := ⟨0xD0300, 31, 1, .ro, 0⟩
def F.HOST_PROT_PERM_PERM : Fld := ⟨0xD0300, 0, 16, .ro, 0⟩
def F.HOST_PROT_RGN_BASE_BASE : Fld := ⟨0xD0400, 0, 28, .ro, 0⟩
def F.HOST_PROT_RGN_SIZE_PAGES : Fld := ⟨0xD0404, 0, 28, .ro, 0⟩
def F.HOST_PROT_RGN_PERM_LOCKED : Fld := ⟨0xD0408, 31, 1, .ro, 0⟩
def F.HOST_PROT_RGN_PERM_PERM : Fld := ⟨0xD0408, 0, 16, .ro, 0⟩
def F.UPD_CMD_OP : Fld := ⟨0xE0000, 28, 4, .wo, 0⟩
def F.UPD_CMD_UNIT : Fld := ⟨0xE0000, 26, 2, .wo, 0⟩
def F.UPD_STATUS_RESULT : Fld := ⟨0xE0004, 28, 4, .ro, 0⟩
def F.UPD_STATUS_OP : Fld := ⟨0xE0004, 24, 4, .ro, 0⟩
def F.UPD_STATUS_OWNER : Fld := ⟨0xE0004, 20, 4, .ro, 0xf⟩
def F.UPD_STATUS_REQ_SLOT : Fld := ⟨0xE0004, 17, 3, .ro, 0⟩
def F.UPD_STATUS_PENDING : Fld := ⟨0xE0004, 16, 1, .ro, 0⟩
def F.UPD_STATUS_SEL_STATE : Fld := ⟨0xE0004, 12, 2, .ro, 0⟩
def F.UPD_STATUS_PREFERRED : Fld := ⟨0xE0004, 11, 1, .ro, 0⟩
def F.UPD_STATUS_ROLLBACK : Fld := ⟨0xE0004, 10, 1, .w1c, 0⟩
def F.UPD_STATUS_SETTINGS_DIRTY : Fld := ⟨0xE0004, 9, 1, .ro, 0⟩
def F.UPD_STATUS_SETTINGS_EMPTY : Fld := ⟨0xE0004, 8, 1, .ro, 0⟩
def F.UPD_STATUS_VERIFY_ERR : Fld := ⟨0xE0004, 4, 4, .ro, 0⟩
def F.UPD_STATUS_VERIFY : Fld := ⟨0xE0004, 2, 2, .ro, 0⟩
def F.UPD_STATUS_PROTO_CHANGE : Fld := ⟨0xE0004, 1, 1, .ro, 0⟩
def F.UPD_STATUS_OUTPUT_CHANGE : Fld := ⟨0xE0004, 0, 1, .ro, 0⟩
def F.UPD_EVENTS_CONFIRMED : Fld := ⟨0xE0008, 6, 1, .w1c, 0⟩
def F.UPD_EVENTS_ROLLBACK : Fld := ⟨0xE0008, 5, 1, .w1c, 0⟩
def F.UPD_EVENTS_SWAP_ABORTED : Fld := ⟨0xE0008, 4, 1, .w1c, 0⟩
def F.UPD_EVENTS_SWAP_DONE : Fld := ⟨0xE0008, 3, 1, .w1c, 0⟩
def F.UPD_EVENTS_VERIFY_DONE : Fld := ⟨0xE0008, 2, 1, .w1c, 0⟩
def F.UPD_EVENTS_SESSION_LOST : Fld := ⟨0xE0008, 1, 1, .w1c, 0⟩
def F.UPD_EVENTS_BUSY : Fld := ⟨0xE0008, 0, 1, .w1c, 0⟩
def F.UPD_WIN_POS_POS : Fld := ⟨0xE000C, 0, 29, .ro, 0⟩
def F.UPD_VERSION_RUN_VERSION : Fld := ⟨0xE0010, 0, 32, .ro, 0⟩
def F.UPD_VERSION_STAGED_VERSION : Fld := ⟨0xE0014, 0, 32, .ro, 0⟩
def F.UPD_PARTNER_PROTO : Fld := ⟨0xE0018, 24, 8, .ro, 0⟩
def F.UPD_PARTNER_OUTPUT_REV : Fld := ⟨0xE0018, 16, 8, .ro, 0⟩
def F.UPD_PARTNER_SEL_STATE : Fld := ⟨0xE0018, 12, 2, .ro, 0⟩
def F.UPD_PARTNER_VERIFY_ERR : Fld := ⟨0xE0018, 4, 4, .ro, 0⟩
def F.UPD_PARTNER_VERIFY : Fld := ⟨0xE0018, 2, 2, .ro, 0⟩
def F.UPD_OTP_SVN_SVN : Fld := ⟨0xE0100, 0, 6, .ro, 0⟩
def F.CHK_EVENTS_RANGE_FAULT : Fld := ⟨0xF0000, 1, 1, .w1c, 0⟩
def F.CHK_EVENTS_RANGE_DONE : Fld := ⟨0xF0000, 0, 1, .w1c, 0⟩
def F.CHK_CH_CFG_ALIVE_EN : Fld := ⟨0xF1000, 10, 1, .rws, 0⟩
def F.CHK_CH_CFG_REFOUT : Fld := ⟨0xF1000, 9, 1, .rws, 0⟩
def F.CHK_CH_CFG_REFIN : Fld := ⟨0xF1000, 8, 1, .rws, 0⟩
def F.CHK_CH_CFG_WIDTH : Fld := ⟨0xF1000, 0, 6, .rws, 0x1f⟩
def F.CHK_CH_ALIVE_ALIVE : Fld := ⟨0xF1004, 0, 8, .rw, 0⟩
def F.CHK_CH_POLY_LO_VALUE : Fld := ⟨0xF1008, 0, 32, .rws, 0⟩
def F.CHK_CH_POLY_HI_VALUE : Fld := ⟨0xF100C, 0, 32, .rws, 0⟩
def F.CHK_CH_INIT_LO_VALUE : Fld := ⟨0xF1010, 0, 32, .rws, 0⟩
def F.CHK_CH_INIT_HI_VALUE : Fld := ⟨0xF1014, 0, 32, .rws, 0⟩
def F.CHK_CH_XOROUT_LO_VALUE : Fld := ⟨0xF1018, 0, 32, .rws, 0⟩
def F.CHK_CH_XOROUT_HI_VALUE : Fld := ⟨0xF101C, 0, 32, .rws, 0⟩
def F.CHK_CH_VALUE_LO_VALUE : Fld := ⟨0xF1020, 0, 32, .rw, 0⟩
def F.CHK_CH_VALUE_HI_VALUE : Fld := ⟨0xF1024, 0, 32, .rw, 0⟩
def F.CHK_CH_RESULT_LO_RESULT : Fld := ⟨0xF1028, 0, 32, .ro, 0⟩
def F.CHK_CH_RESULT_HI_RESULT : Fld := ⟨0xF102C, 0, 32, .ro, 0⟩
def F.CHK_CH_DATA8_DATA : Fld := ⟨0xF1030, 0, 32, .wo, 0⟩
def F.CHK_CH_DATA16_DATA : Fld := ⟨0xF1034, 0, 32, .wo, 0⟩
def F.CHK_CH_DATA32_DATA : Fld := ⟨0xF1038, 0, 32, .wo, 0⟩
def F.CHK_CH_CMD_BUSY : Fld := ⟨0xF103C, 31, 1, .ro, 0⟩
def F.CHK_CH_CMD_LAST : Fld := ⟨0xF103C, 28, 3, .ro, 0⟩
def F.CHK_CH_CMD_OP : Fld := ⟨0xF103C, 0, 2, .wo, 0⟩
def F.CHK_CH_ADDR_LO_VALUE : Fld := ⟨0xF1040, 0, 32, .rw, 0⟩
def F.CHK_CH_ADDR_HI_VALUE : Fld := ⟨0xF1044, 0, 8, .rw, 0⟩
def F.CHK_CH_LEN_VALUE : Fld := ⟨0xF1048, 0, 32, .rw, 0⟩
def F.PERF_CTRL_SNAP_EDGE : Fld := ⟨0x100000, 1, 1, .rw, 0⟩
def F.PERF_CTRL_RUNNING : Fld := ⟨0x100000, 0, 1, .ro, 0⟩
def F.PERF_CMD_EDGE : Fld := ⟨0x100004, 8, 1, .wo, 0⟩
def F.PERF_CMD_OP : Fld := ⟨0x100004, 0, 3, .wo, 0⟩
def F.PERF_SNAP_TICK_LO_VALUE : Fld := ⟨0x100008, 0, 32, .ro, 0⟩
def F.PERF_SNAP_TICK_HI_VALUE : Fld := ⟨0x10000C, 0, 32, .ro, 0⟩
def F.PERF_SNAP_SEQ_VALUE : Fld := ⟨0x100010, 0, 32, .ro, 0⟩
def F.PERF_EVENTS_SAMPLE_OVERFLOW : Fld := ⟨0x100014, 2, 1, .w1c, 0⟩
def F.PERF_EVENTS_BW_WINDOW : Fld := ⟨0x100014, 1, 1, .w1c, 0⟩
def F.PERF_EVENTS_SNAP : Fld := ⟨0x100014, 0, 1, .w1c, 0⟩
def F.PERF_BW_CFG_WINDOW_MS : Fld := ⟨0x100020, 0, 10, .rw, 0x64⟩
def F.PERF_BW_SEQ_VALUE : Fld := ⟨0x100024, 0, 32, .ro, 0⟩
def F.PERF_SAMPLE_CFG_EN : Fld := ⟨0x100030, 31, 1, .rw, 0⟩
def F.PERF_SAMPLE_CFG_EVENT : Fld := ⟨0x100030, 16, 8, .rws, 3⟩
def F.PERF_SAMPLE_CFG_PERIOD : Fld := ⟨0x100030, 0, 16, .rws, 0x400⟩
def F.PERF_SAMPLE_POP_VALUE : Fld := ⟨0x100034, 0, 32, .rc, 0xffffffff⟩
def F.PERF_SAMPLE_STATUS_DROPPED : Fld := ⟨0x100038, 16, 16, .rc, 0⟩
def F.PERF_SAMPLE_STATUS_COUNT : Fld := ⟨0x100038, 0, 7, .ro, 0⟩
def F.PERF_SEL_QUAL : Fld := ⟨0x100100, 8, 8, .rws, 0xff⟩
def F.PERF_SEL_EVENT : Fld := ⟨0x100100, 0, 8, .rws, 0⟩
def F.PERF_CNT_LO_COUNT : Fld := ⟨0x100400, 0, 32, .ro, 0⟩
def F.PERF_CNT_HI_COUNT : Fld := ⟨0x100404, 0, 32, .ro, 0⟩
def F.PERF_BW_RX_UNITS : Fld := ⟨0x100800, 0, 32, .ro, 0⟩
def F.PERF_BW_TX_UNITS : Fld := ⟨0x100804, 0, 32, .ro, 0⟩
def F.BBOX_CFG_POST : Fld := ⟨0x110000, 16, 12, .rw, 0x40⟩
def F.BBOX_CFG_TRIG : Fld := ⟨0x110000, 0, 16, .rw, 0xe⟩
def F.BBOX_STATUS_FROZEN : Fld := ⟨0x110004, 31, 1, .ro, 0⟩
def F.BBOX_STATUS_TRIGGERED : Fld := ⟨0x110004, 30, 1, .ro, 0⟩
def F.BBOX_NEXT_SEQ_SEQ : Fld := ⟨0x110008, 0, 32, .ro, 0⟩
def F.BBOX_TRIG_SEQ_SEQ : Fld := ⟨0x11000C, 0, 32, .ro, 0⟩
def F.BBOX_LOST_COUNT : Fld := ⟨0x110010, 0, 32, .rc, 0⟩
def F.BBOX_CMD_ARM : Fld := ⟨0x110014, 0, 1, .wo, 0⟩
def F.BBOX_MARK_VALUE : Fld := ⟨0x110018, 0, 32, .wo, 0⟩
def F.BBOX_SPILL_FIRST_SEQ : Fld := ⟨0x11001C, 0, 32, .ro, 0⟩
def F.BBOX_EVENTS_FROZEN : Fld := ⟨0x110020, 0, 1, .w1c, 0⟩
def F.TOUCH_CTRL_EN : Fld := ⟨0x120000, 31, 1, .rw, 0⟩
def F.TOUCH_KEY_EN_EN : Fld := ⟨0x120004, 0, 32, .rws, 0⟩
def F.TOUCH_EVENTS_SELECT : Fld := ⟨0x120008, 6, 1, .w1c, 0⟩
def F.TOUCH_EVENTS_ACTION_FAIL : Fld := ⟨0x120008, 5, 1, .w1c, 0⟩
def F.TOUCH_EVENTS_REBASE : Fld := ⟨0x120008, 4, 1, .w1c, 0⟩
def F.TOUCH_EVENTS_SUSPECT : Fld := ⟨0x120008, 3, 1, .w1c, 0⟩
def F.TOUCH_EVENTS_HELD_EXPIRED : Fld := ⟨0x120008, 2, 1, .w1c, 0⟩
def F.TOUCH_EVENTS_RELEASE : Fld := ⟨0x120008, 1, 1, .w1c, 0⟩
def F.TOUCH_EVENTS_PRESS : Fld := ⟨0x120008, 0, 1, .w1c, 0⟩
def F.TOUCH_CMD_OP : Fld := ⟨0x12000C, 30, 2, .wo, 0⟩
def F.TOUCH_CMD_ALL : Fld := ⟨0x12000C, 29, 1, .wo, 0⟩
def F.TOUCH_CMD_KEY : Fld := ⟨0x12000C, 0, 5, .wo, 0⟩
def F.TOUCH_PRESSED_PRESSED : Fld := ⟨0x120010, 0, 32, .ro, 0⟩
def F.TOUCH_SELECT_SOURCE : Fld := ⟨0x120014, 0, 32, .ro, 0⟩
def F.TOUCH_KEY_CFG_GAIN : Fld := ⟨0x120100, 28, 1, .rw, 0⟩
def F.TOUCH_KEY_CFG_IND_PIN : Fld := ⟨0x120100, 16, 5, .rw, 0x1f⟩
def F.TOUCH_KEY_CFG_DEBOUNCE : Fld := ⟨0x120100, 0, 4, .rw, 3⟩
def F.TOUCH_KEY_THRESH_HYST : Fld := ⟨0x120104, 16, 16, .rw, 0x10⟩
def F.TOUCH_KEY_THRESH_THRESH : Fld := ⟨0x120104, 0, 16, .rw, 0x40⟩
def F.TOUCH_KEY_HOLD_HOLD_S : Fld := ⟨0x120108, 0, 16, .rw, 0x1e⟩
def F.TOUCH_KEY_ACTION_ACTION : Fld := ⟨0x12010C, 28, 4, .rw, 0⟩
def F.TOUCH_KEY_ACTION_SLOT : Fld := ⟨0x12010C, 24, 3, .rw, 0⟩
def F.TOUCH_KEY_ACTION_GROUP : Fld := ⟨0x12010C, 20, 2, .rw, 0⟩
def F.TOUCH_KEY_ACTION_ALL : Fld := ⟨0x12010C, 16, 1, .rw, 0⟩
def F.TOUCH_KEY_ACTION_ARG : Fld := ⟨0x12010C, 0, 16, .rw, 0⟩
def F.TOUCH_KEY_FACTORY_BASE : Fld := ⟨0x120110, 0, 16, .rws, 0⟩
def F.TOUCH_KEY_STATUS_STATE : Fld := ⟨0x120114, 0, 3, .ro, 0⟩
def F.TOUCH_KEY_READING_BASELINE : Fld := ⟨0x120118, 16, 16, .ro, 0⟩
def F.TOUCH_KEY_READING_READING : Fld := ⟨0x120118, 0, 16, .ro, 0⟩
def F.GPIO_OE_OE : Fld := ⟨0x130000, 0, 24, .rw, 0⟩
def F.GPIO_OUT_OUT : Fld := ⟨0x130004, 0, 24, .rw, 0⟩
def F.GPIO_IN_IN : Fld := ⟨0x130008, 0, 24, .ro, 0⟩
def F.GPIO_POL_POL : Fld := ⟨0x13000C, 0, 24, .rw, 0⟩
def F.GPIO_EDGE_EN_EN : Fld := ⟨0x130010, 0, 24, .rw, 0⟩
def F.GPIO_EDGE_EDGE : Fld := ⟨0x130014, 0, 24, .w1c, 0⟩
def F.GPIO_EVENTS_EDGE : Fld := ⟨0x130018, 0, 1, .w1c, 0⟩

def R.SYS_ID : RegRow := ⟨0x0, 4, 1, false, [F.SYS_ID_PART, F.SYS_ID_STEPPING, F.SYS_ID_FAMILY]⟩
def R.SYS_PWR_CMD : RegRow := ⟨0x10, 4, 1, false, [F.SYS_PWR_CMD_TARGET]⟩
def R.SYS_PWR_STATUS : RegRow := ⟨0x14, 4, 1, false, [F.SYS_PWR_STATUS_REQ_SLOT, F.SYS_PWR_STATUS_RESULT, F.SYS_PWR_STATUS_BUSY, F.SYS_PWR_STATUS_TARGET, F.SYS_PWR_STATUS_STATE]⟩
def R.SYS_EVENTS : RegRow := ⟨0x18, 4, 1, false, [F.SYS_EVENTS_PWR_FAIL, F.SYS_EVENTS_PWR_REFUSED, F.SYS_EVENTS_PWR_DONE, F.SYS_EVENTS_READY, F.SYS_EVENTS_ENGINE_HUNG, F.SYS_EVENTS_CFG_DROPPED]⟩
def R.SYS_CFG_DROP : RegRow := ⟨0x1C, 4, 1, false, [F.SYS_CFG_DROP_SLOT, F.SYS_CFG_DROP_ADDR]⟩
def R.SYS_ENGINE_STATUS : RegRow := ⟨0x20, 4, 1, false, [F.SYS_ENGINE_STATUS_STOPPED]⟩
def R.SYS_BOOT_STATUS : RegRow := ⟨0x24, 4, 1, false, [F.SYS_BOOT_STATUS_SLOW, F.SYS_BOOT_STATUS_PUSH, F.SYS_BOOT_STATUS_FALLBACK, F.SYS_BOOT_STATUS_ERROR_B, F.SYS_BOOT_STATUS_ERROR_A, F.SYS_BOOT_STATUS_IMAGE, F.SYS_BOOT_STATUS_STEP]⟩
def R.SYS_ALARM : RegRow := ⟨0x30, 4, 1, false, [F.SYS_ALARM_THERMAL, F.SYS_ALARM_MEM_UE_SYSTEM, F.SYS_ALARM_ENGINE, F.SYS_ALARM_PWR_FAIL, F.SYS_ALARM_CLK_TIMEOUT, F.SYS_ALARM_BOOT_HALT]⟩
def R.SYS_ALARM_MASK : RegRow := ⟨0x34, 4, 1, false, [F.SYS_ALARM_MASK_THERMAL, F.SYS_ALARM_MASK_MEM_UE_SYSTEM, F.SYS_ALARM_MASK_ENGINE]⟩
def R.RST_CAUSE : RegRow := ⟨0x10000, 4, 1, false, [F.RST_CAUSE_FROM_WATCH, F.RST_CAUSE_PIN, F.RST_CAUSE_POR]⟩
def R.RST_CLK_STATUS : RegRow := ⟨0x10004, 4, 1, false, [F.RST_CLK_STATUS_TIMEOUT, F.RST_CLK_STATUS_IN_RESET]⟩
def R.RST_STRAPS : RegRow := ⟨0x10008, 4, 1, false, [F.RST_STRAPS_CLKMODE, F.RST_STRAPS_BOOT]⟩
def R.RST_LAST : RegRow := ⟨0x1000C, 4, 1, false, [F.RST_LAST_COUNT, F.RST_LAST_STATE]⟩
def R.RST_LAST_TICK : RegRow := ⟨0x10010, 4, 1, false, [F.RST_LAST_TICK_TICK]⟩
def R.TICK_CTRL : RegRow := ⟨0x20000, 4, 1, false, [F.TICK_CTRL_RATE]⟩
def R.TICK_STATUS : RegRow := ⟨0x20004, 4, 1, false, [F.TICK_STATUS_CERT, F.TICK_STATUS_RUNNING, F.TICK_STATUS_SRC]⟩
def R.TICK_NUM_LO : RegRow := ⟨0x20008, 4, 1, false, [F.TICK_NUM_LO_NUM]⟩
def R.TICK_NUM_HI : RegRow := ⟨0x2000C, 4, 1, false, [F.TICK_NUM_HI_NUM]⟩
def R.TICK_PHASE : RegRow := ⟨0x20010, 4, 1, false, [F.TICK_PHASE_NS]⟩
def R.TICK_DISCONT_DELTA_LO : RegRow := ⟨0x20018, 4, 1, false, [F.TICK_DISCONT_DELTA_LO_DELTA]⟩
def R.TICK_DISCONT_DELTA_HI : RegRow := ⟨0x2001C, 4, 1, false, [F.TICK_DISCONT_DELTA_HI_DELTA]⟩
def R.TICK_EVENTS : RegRow := ⟨0x20020, 4, 1, false, [F.TICK_EVENTS_PAGE_STALL, F.TICK_EVENTS_SEAL_MISS, F.TICK_EVENTS_ADM_DEFER, F.TICK_EVENTS_SENTINEL_MISS, F.TICK_EVENTS_DISCONT]⟩
def R.TICK_ADM_MARGIN : RegRow := ⟨0x20024, 4, 1, false, [F.TICK_ADM_MARGIN_PCT]⟩
def R.TICK_CAP_DEC : RegRow := ⟨0x20030, 4, 1, false, [F.TICK_CAP_DEC_CAP]⟩
def R.TICK_CAP_SCL : RegRow := ⟨0x20034, 4, 1, false, [F.TICK_CAP_SCL_CAP]⟩
def R.TICK_CAP_BLD : RegRow := ⟨0x20038, 4, 1, false, [F.TICK_CAP_BLD_CAP]⟩
def R.TICK_CAP_ENC : RegRow := ⟨0x2003C, 4, 1, false, [F.TICK_CAP_ENC_CAP]⟩
def R.TICK_CAP_MEM : RegRow := ⟨0x20040, 4, 1, false, [F.TICK_CAP_MEM_CAP]⟩
def R.TICK_USE_DEC : RegRow := ⟨0x20050, 4, 1, false, [F.TICK_USE_DEC_RESERVED_WU, F.TICK_USE_DEC_USED_WU]⟩
def R.TICK_USE_SCL : RegRow := ⟨0x20054, 4, 1, false, [F.TICK_USE_SCL_RESERVED_WU, F.TICK_USE_SCL_USED_WU]⟩
def R.TICK_USE_BLD : RegRow := ⟨0x20058, 4, 1, false, [F.TICK_USE_BLD_RESERVED_WU, F.TICK_USE_BLD_USED_WU]⟩
def R.TICK_USE_ENC : RegRow := ⟨0x2005C, 4, 1, false, [F.TICK_USE_ENC_RESERVED_WU, F.TICK_USE_ENC_USED_WU]⟩
def R.TICK_USE_MEM : RegRow := ⟨0x20060, 4, 1, false, [F.TICK_USE_MEM_RESERVED_WU, F.TICK_USE_MEM_USED_WU]⟩
def R.TICK_PAGE_FLUSH : RegRow := ⟨0x20070, 4, 1, false, [F.TICK_PAGE_FLUSH_FLUSH]⟩
def R.TICK_SEAL_MISS_CNT : RegRow := ⟨0x20074, 4, 1, false, [F.TICK_SEAL_MISS_CNT_COUNT]⟩
def R.TICK_ADM_DEFER : RegRow := ⟨0x20078, 4, 1, false, [F.TICK_ADM_DEFER_COUNT]⟩
def R.FRS_LIMIT_DEFAULT : RegRow := ⟨0x30000, 4, 1, false, [F.FRS_LIMIT_DEFAULT_LIMIT]⟩
def R.FRS_MARK_STYLE : RegRow := ⟨0x30004, 4, 1, false, [F.FRS_MARK_STYLE_BORDER_PX]⟩
def R.FRS_MARK_RGB : RegRow := ⟨0x30008, 4, 1, false, [F.FRS_MARK_RGB_RED, F.FRS_MARK_RGB_GREEN, F.FRS_MARK_RGB_BLUE]⟩
def R.FRS_LIVE_CTRL : RegRow := ⟨0x3000C, 4, 1, false, [F.FRS_LIVE_CTRL_STALE_OK]⟩
def R.FRS_LIVE_MASK : RegRow := ⟨0x30010, 4, 1, false, [F.FRS_LIVE_MASK_MASK]⟩
def R.FRS_IMG_TABLE_LO : RegRow := ⟨0x30014, 4, 1, false, [F.FRS_IMG_TABLE_LO_ADDR_LO]⟩
def R.FRS_IMG_TABLE_HI : RegRow := ⟨0x30018, 4, 1, false, [F.FRS_IMG_TABLE_HI_ADDR_HI]⟩
def R.FRS_EVENTS : RegRow := ⟨0x30020, 4, 1, false, [F.FRS_EVENTS_LOOPBACK_FAIL, F.FRS_EVENTS_NO_FRAME, F.FRS_EVENTS_ACK_PENDING, F.FRS_EVENTS_SRC_TRANSPORT, F.FRS_EVENTS_SRC_FROZEN, F.FRS_EVENTS_SRC_LIVE, F.FRS_EVENTS_SRC_STALE]⟩
def R.FRS_LOOPBACK_STATUS : RegRow := ⟨0x30024, 4, 1, false, [F.FRS_LOOPBACK_STATUS_TILE, F.FRS_LOOPBACK_STATUS_REASON, F.FRS_LOOPBACK_STATUS_OUTPUT_ID]⟩
def R.FRS_LOOPBACK_CNT : RegRow := ⟨0x30028, 4, 1, false, [F.FRS_LOOPBACK_CNT_COUNT]⟩
def R.FRS_NO_FRAME_CNT : RegRow := ⟨0x3002C, 4, 1, false, [F.FRS_NO_FRAME_CNT_COUNT]⟩
def R.FRS_ACK : RegRow := ⟨0x30030, 4, 1, false, [F.FRS_ACK_ALL, F.FRS_ACK_SOURCE]⟩
def R.FRS_ACK_PENDING : RegRow := ⟨0x30040, 4, 8, false, [F.FRS_ACK_PENDING_LATCHED]⟩
def R.FRS_SRC_CFG : RegRow := ⟨0x31000, 0x20, 256, false, [F.FRS_SRC_CFG_RECOVER, F.FRS_SRC_CFG_LATCH, F.FRS_SRC_CFG_DETECT, F.FRS_SRC_CFG_TREAT, F.FRS_SRC_CFG_LIMIT]⟩
def R.FRS_SRC_TIMER : RegRow := ⟨0x31004, 0x20, 256, false, [F.FRS_SRC_TIMER_LIVENESS_TICKS, F.FRS_SRC_TIMER_FROZEN_TICKS]⟩
def R.FRS_SRC_MASK_LO : RegRow := ⟨0x31008, 0x20, 256, false, [F.FRS_SRC_MASK_LO_MASK]⟩
def R.FRS_SRC_MASK_HI : RegRow := ⟨0x3100C, 0x20, 256, false, [F.FRS_SRC_MASK_HI_MASK]⟩
def R.FRS_SRC_IMG : RegRow := ⟨0x31010, 0x20, 256, false, [F.FRS_SRC_IMG_CARD_IMG, F.FRS_SRC_IMG_MARK_IMG]⟩
def R.FRS_SRC_STATE : RegRow := ⟨0x31014, 0x20, 256, false, [F.FRS_SRC_STATE_AGE, F.FRS_SRC_STATE_INCOMPLETE, F.FRS_SRC_STATE_SEQ_STALLED, F.FRS_SRC_STATE_NO_PACKETS, F.FRS_SRC_STATE_NO_FRAME_YET, F.FRS_SRC_STATE_FROZEN, F.FRS_SRC_STATE_AGED, F.FRS_SRC_STATE_STATE]⟩
def R.FRS_SRC_CAPTURE_LO : RegRow := ⟨0x31018, 0x20, 256, false, [F.FRS_SRC_CAPTURE_LO_CAPTURE]⟩
def R.FRS_SRC_CAPTURE_HI : RegRow := ⟨0x3101C, 0x20, 256, false, [F.FRS_SRC_CAPTURE_HI_CAPTURE]⟩
def R.FRS_OUT_STATUS : RegRow := ⟨0x33000, 0x10, 32, false, [F.FRS_OUT_STATUS_STALE_COUNT, F.FRS_OUT_STATUS_FLAGS, F.FRS_OUT_STATUS_STATUS]⟩
def R.FRS_OUT_SEQ : RegRow := ⟨0x33004, 0x10, 32, false, [F.FRS_OUT_SEQ_SEQ]⟩
def R.FRS_OUT_TICK_LO : RegRow := ⟨0x33008, 0x10, 32, false, [F.FRS_OUT_TICK_LO_TICK]⟩
def R.FRS_OUT_TICK_HI : RegRow := ⟨0x3300C, 0x10, 32, false, [F.FRS_OUT_TICK_HI_TICK]⟩
def R.CMP_LAYOUT_TABLE_LO : RegRow := ⟨0x40000, 4, 1, false, [F.CMP_LAYOUT_TABLE_LO_ADDR_LO]⟩
def R.CMP_LAYOUT_TABLE_HI : RegRow := ⟨0x40004, 4, 1, false, [F.CMP_LAYOUT_TABLE_HI_ADDR_HI]⟩
def R.CMP_DESC_TABLE_LO : RegRow := ⟨0x40008, 4, 1, false, [F.CMP_DESC_TABLE_LO_ADDR_LO]⟩
def R.CMP_DESC_TABLE_HI : RegRow := ⟨0x4000C, 4, 1, false, [F.CMP_DESC_TABLE_HI_ADDR_HI]⟩
def R.CMP_LAYOUT_SEL : RegRow := ⟨0x40010, 4, 1, false, [F.CMP_LAYOUT_SEL_CANCEL, F.CMP_LAYOUT_SEL_INDEX]⟩
def R.CMP_LAYOUT_STATUS : RegRow := ⟨0x40014, 4, 1, false, [F.CMP_LAYOUT_STATUS_REQ_SLOT, F.CMP_LAYOUT_STATUS_RESULT, F.CMP_LAYOUT_STATUS_PENDING, F.CMP_LAYOUT_STATUS_VALID, F.CMP_LAYOUT_STATUS_PENDING_INDEX, F.CMP_LAYOUT_STATUS_CURRENT]⟩
def R.CMP_LAYOUT_AT_LO : RegRow := ⟨0x40018, 4, 1, false, [F.CMP_LAYOUT_AT_LO_AT]⟩
def R.CMP_LAYOUT_AT_HI : RegRow := ⟨0x4001C, 4, 1, false, [F.CMP_LAYOUT_AT_HI_AT]⟩
def R.CMP_SWITCH_CFG : RegRow := ⟨0x40020, 4, 1, false, [F.CMP_SWITCH_CFG_TIMEOUT]⟩
def R.CMP_TABLE_SIZE : RegRow := ⟨0x40024, 4, 1, false, [F.CMP_TABLE_SIZE_DESCS, F.CMP_TABLE_SIZE_LAYOUTS]⟩
def R.CMP_EVENTS : RegRow := ⟨0x40028, 4, 1, false, [F.CMP_EVENTS_POOL_CFG, F.CMP_EVENTS_MOOR_SPILL, F.CMP_EVENTS_PIN_REFUSED, F.CMP_EVENTS_BERTH_RETIRED, F.CMP_EVENTS_POOL_EMPTY, F.CMP_EVENTS_OWNER_DENIED, F.CMP_EVENTS_DESC_CHECK, F.CMP_EVENTS_SWITCH_REFUSED, F.CMP_EVENTS_SWITCH_DONE]⟩
def R.CMP_MOOR_SPILL_LO : RegRow := ⟨0x40030, 4, 1, false, [F.CMP_MOOR_SPILL_LO_ADDR_LO]⟩
def R.CMP_MOOR_SPILL_HI : RegRow := ⟨0x40034, 4, 1, false, [F.CMP_MOOR_SPILL_HI_ADDR_HI]⟩
def R.CMP_MOOR_SPILL_SIZE : RegRow := ⟨0x40038, 4, 1, false, [F.CMP_MOOR_SPILL_SIZE_BLOCKS]⟩
def R.CMP_MOOR_CACHE_USED : RegRow := ⟨0x4003C, 4, 1, false, [F.CMP_MOOR_CACHE_USED_BLOCKS]⟩
def R.CMP_MOOR_SPILL_USED : RegRow := ⟨0x40040, 4, 1, false, [F.CMP_MOOR_SPILL_USED_BLOCKS]⟩
def R.CMP_BERTH_QUERY : RegRow := ⟨0x40050, 4, 1, true, [F.CMP_BERTH_QUERY_BERTH]⟩
def R.CMP_BERTH_PIN : RegRow := ⟨0x40054, 4, 1, true, [F.CMP_BERTH_PIN_OP, F.CMP_BERTH_PIN_PINNED, F.CMP_BERTH_PIN_ID, F.CMP_BERTH_PIN_BERTH]⟩
def R.CMP_BERTH_REC : RegRow := ⟨0x40060, 4, 8, true, [F.CMP_BERTH_REC_WORD]⟩
def R.CMP_POOL_BASE_LO : RegRow := ⟨0x40100, 0x10, 8, false, [F.CMP_POOL_BASE_LO_ADDR_LO]⟩
def R.CMP_POOL_BASE_HI : RegRow := ⟨0x40104, 0x10, 8, false, [F.CMP_POOL_BASE_HI_ADDR_HI]⟩
def R.CMP_POOL_CFG : RegRow := ⟨0x40108, 0x10, 8, false, [F.CMP_POOL_CFG_COUNT, F.CMP_POOL_CFG_SIZE]⟩
def R.CMP_POOL_STATUS : RegRow := ⟨0x4010C, 0x10, 8, false, [F.CMP_POOL_STATUS_RESERVED, F.CMP_POOL_STATUS_AVAIL]⟩
def R.CMP_POOL_EMPTY_CNT : RegRow := ⟨0x40180, 4, 8, false, [F.CMP_POOL_EMPTY_CNT_COUNT]⟩
def R.CMP_OUT_OWNER : RegRow := ⟨0x40200, 4, 32, false, [F.CMP_OUT_OWNER_SLOT]⟩
def R.CMP_OUT_STATE : RegRow := ⟨0x40280, 4, 32, false, [F.CMP_OUT_STATE_BERTH, F.CMP_OUT_STATE_REPLACED, F.CMP_OUT_STATE_NO_BERTH, F.CMP_OUT_STATE_GANGED, F.CMP_OUT_STATE_PRESENT]⟩
def R.PIX_COEF_TABLE_LO : RegRow := ⟨0x50000, 4, 1, false, [F.PIX_COEF_TABLE_LO_ADDR_LO]⟩
def R.PIX_COEF_TABLE_HI : RegRow := ⟨0x50004, 4, 1, false, [F.PIX_COEF_TABLE_HI_ADDR_HI]⟩
def R.PIX_LUT_TABLE_LO : RegRow := ⟨0x50008, 4, 1, false, [F.PIX_LUT_TABLE_LO_ADDR_LO]⟩
def R.PIX_LUT_TABLE_HI : RegRow := ⟨0x5000C, 4, 1, false, [F.PIX_LUT_TABLE_HI_ADDR_HI]⟩
def R.PIX_LUT_COUNT : RegRow := ⟨0x50010, 4, 1, false, [F.PIX_LUT_COUNT_COUNT]⟩
def R.PIX_EVENTS : RegRow := ⟨0x50014, 4, 1, false, [F.PIX_EVENTS_MAT_COMMIT, F.PIX_EVENTS_LUT_CHECK, F.PIX_EVENTS_RATIO]⟩
def R.PIX_RATIO_CNT : RegRow := ⟨0x50018, 4, 1, false, [F.PIX_RATIO_CNT_COUNT]⟩
def R.PIX_MAT_STAGE : RegRow := ⟨0x50100, 4, 16, true, [F.PIX_MAT_STAGE_WORD]⟩
def R.PIX_MAT_COMMIT : RegRow := ⟨0x50140, 4, 1, false, [F.PIX_MAT_COMMIT_INDEX]⟩
def R.PIX_MAT_QUERY : RegRow := ⟨0x50144, 4, 1, false, [F.PIX_MAT_QUERY_INDEX]⟩
def R.PIX_MAT_READ : RegRow := ⟨0x50180, 4, 16, true, [F.PIX_MAT_READ_WORD]⟩
def R.PIX_OUT_CFG : RegRow := ⟨0x50200, 4, 32, false, [F.PIX_OUT_CFG_BG_MATRIX, F.PIX_OUT_CFG_BG_LUT]⟩
def R.DEC_BS_BASE_LO : RegRow := ⟨0x60000, 4, 1, false, [F.DEC_BS_BASE_LO_ADDR_LO]⟩
def R.DEC_BS_BASE_HI : RegRow := ⟨0x60004, 4, 1, false, [F.DEC_BS_BASE_HI_ADDR_HI]⟩
def R.DEC_BS_CFG : RegRow := ⟨0x60008, 4, 1, false, [F.DEC_BS_CFG_RING_MIB]⟩
def R.DEC_EVENTS : RegRow := ⟨0x60010, 4, 1, false, [F.DEC_EVENTS_STREAM_UNSUPPORTED, F.DEC_EVENTS_RECOVERED, F.DEC_EVENTS_PICTURE_DAMAGED, F.DEC_EVENTS_SYNCED, F.DEC_EVENTS_LATE, F.DEC_EVENTS_CMD_REFUSED, F.DEC_EVENTS_OPEN_DONE]⟩
def R.DEC_LATE_PICTURES : RegRow := ⟨0x60014, 4, 1, false, [F.DEC_LATE_PICTURES_COUNT]⟩
def R.DEC_CMD : RegRow := ⟨0x60020, 4, 1, false, [F.DEC_CMD_OP, F.DEC_CMD_SESSION]⟩
def R.DEC_CMD_STATUS : RegRow := ⟨0x60024, 4, 1, false, [F.DEC_CMD_STATUS_REQ_SLOT, F.DEC_CMD_STATUS_PENDING, F.DEC_CMD_STATUS_RESULT, F.DEC_CMD_STATUS_OP, F.DEC_CMD_STATUS_SESSION]⟩
def R.DEC_SESS_CFG : RegRow := ⟨0x61000, 0x40, 256, false, [F.DEC_SESS_CFG_RATE, F.DEC_SESS_CFG_DPB_MAX, F.DEC_SESS_CFG_SOURCE, F.DEC_SESS_CFG_HASH_CHECK, F.DEC_SESS_CFG_PRIORITY, F.DEC_SESS_CFG_TRANSPORT, F.DEC_SESS_CFG_CODEC]⟩
def R.DEC_SESS_SIZE : RegRow := ⟨0x61004, 0x40, 256, false, [F.DEC_SESS_SIZE_MAX_HEIGHT, F.DEC_SESS_SIZE_MAX_WIDTH]⟩
def R.DEC_SESS_TS : RegRow := ⟨0x61008, 0x40, 256, false, [F.DEC_SESS_TS_PROGRAM, F.DEC_SESS_TS_PID]⟩
def R.DEC_SESS_STATE : RegRow := ⟨0x61010, 0x40, 256, false, [F.DEC_SESS_STATE_DPB_USED, F.DEC_SESS_STATE_LAST_ERR, F.DEC_SESS_STATE_TEN_BIT, F.DEC_SESS_STATE_ENGINE, F.DEC_SESS_STATE_CORE, F.DEC_SESS_STATE_STATE]⟩
def R.DEC_SESS_PIC : RegRow := ⟨0x61014, 0x40, 256, false, [F.DEC_SESS_PIC_HEIGHT, F.DEC_SESS_PIC_WIDTH]⟩
def R.DEC_SESS_RES : RegRow := ⟨0x61018, 0x40, 256, false, [F.DEC_SESS_RES_CLASS, F.DEC_SESS_RES_BERTHS, F.DEC_SESS_RES_RESERVED_WU]⟩
def R.DEC_SESS_CNT_SEALED : RegRow := ⟨0x61020, 0x40, 256, false, [F.DEC_SESS_CNT_SEALED_COUNT]⟩
def R.DEC_SESS_CNT_HELD : RegRow := ⟨0x61024, 0x40, 256, false, [F.DEC_SESS_CNT_HELD_COUNT]⟩
def R.DEC_SESS_CNT_NEVER : RegRow := ⟨0x61028, 0x40, 256, false, [F.DEC_SESS_CNT_NEVER_COUNT]⟩
def R.DEC_SESS_CNT_LOSS : RegRow := ⟨0x6102C, 0x40, 256, false, [F.DEC_SESS_CNT_LOSS_COUNT]⟩
def R.DEC_SESS_ERR_SEEN : RegRow := ⟨0x61030, 0x40, 256, false, [F.DEC_SESS_ERR_SEEN_CLASSES]⟩
def R.ENC_BS_BASE_LO : RegRow := ⟨0x70000, 4, 1, false, [F.ENC_BS_BASE_LO_ADDR_LO]⟩
def R.ENC_BS_BASE_HI : RegRow := ⟨0x70004, 4, 1, false, [F.ENC_BS_BASE_HI_ADDR_HI]⟩
def R.ENC_EVENTS : RegRow := ⟨0x70010, 4, 1, false, [F.ENC_EVENTS_REFRESH_RESTART, F.ENC_EVENTS_NO_INPUT, F.ENC_EVENTS_TIME_FLOOR, F.ENC_EVENTS_RATE_FLOOR, F.ENC_EVENTS_CMD_REFUSED, F.ENC_EVENTS_OPEN_DONE]⟩
def R.ENC_CMD : RegRow := ⟨0x70020, 4, 1, false, [F.ENC_CMD_OP, F.ENC_CMD_SESSION]⟩
def R.ENC_CMD_STATUS : RegRow := ⟨0x70024, 4, 1, false, [F.ENC_CMD_STATUS_REQ_SLOT, F.ENC_CMD_STATUS_PENDING, F.ENC_CMD_STATUS_RESULT, F.ENC_CMD_STATUS_OP, F.ENC_CMD_STATUS_SESSION]⟩
def R.ENC_SESS_CFG : RegRow := ⟨0x71000, 0x40, 32, false, [F.ENC_SESS_CFG_HASH_SEI, F.ENC_SESS_CFG_STAMP, F.ENC_SESS_CFG_DIVISOR, F.ENC_SESS_CFG_COLOUR, F.ENC_SESS_CFG_ID, F.ENC_SESS_CFG_RC, F.ENC_SESS_CFG_HDR, F.ENC_SESS_CFG_PIPE, F.ENC_SESS_CFG_FOLLOW]⟩
def R.ENC_SESS_ORIGIN : RegRow := ⟨0x71004, 0x40, 32, false, [F.ENC_SESS_ORIGIN_Y, F.ENC_SESS_ORIGIN_X]⟩
def R.ENC_SESS_SIZE : RegRow := ⟨0x71008, 0x40, 32, false, [F.ENC_SESS_SIZE_H, F.ENC_SESS_SIZE_W]⟩
def R.ENC_SESS_RATE : RegRow := ⟨0x7100C, 0x40, 32, false, [F.ENC_SESS_RATE_BUF_PICS, F.ENC_SESS_RATE_BIT_RATE]⟩
def R.ENC_SESS_GDR : RegRow := ⟨0x71010, 0x40, 32, false, [F.ENC_SESS_GDR_PERIOD]⟩
def R.ENC_SESS_QP : RegRow := ⟨0x71014, 0x40, 32, false, [F.ENC_SESS_QP_QP_INIT, F.ENC_SESS_QP_QP_MAX, F.ENC_SESS_QP_QP_MIN]⟩
def R.ENC_SESS_SEI_LO : RegRow := ⟨0x71018, 0x40, 32, false, [F.ENC_SESS_SEI_LO_ADDR_LO]⟩
def R.ENC_SESS_SEI_HI : RegRow := ⟨0x7101C, 0x40, 32, false, [F.ENC_SESS_SEI_HI_ADDR_HI]⟩
def R.ENC_SESS_STATE : RegRow := ⟨0x71020, 0x40, 32, false, [F.ENC_SESS_STATE_PERIOD_POS, F.ENC_SESS_STATE_LEVEL, F.ENC_SESS_STATE_TIER, F.ENC_SESS_STATE_CORE, F.ENC_SESS_STATE_OPEN]⟩
def R.ENC_SESS_FULLNESS : RegRow := ⟨0x71024, 0x40, 32, false, [F.ENC_SESS_FULLNESS_BITS]⟩
def R.ENC_SESS_LAST_BITS : RegRow := ⟨0x71028, 0x40, 32, false, [F.ENC_SESS_LAST_BITS_BITS]⟩
def R.ENC_SESS_RES : RegRow := ⟨0x7102C, 0x40, 32, false, [F.ENC_SESS_RES_CLASS, F.ENC_SESS_RES_BERTHS, F.ENC_SESS_RES_RESERVED_WU]⟩
def R.ENC_SESS_CNT_CODED : RegRow := ⟨0x71030, 0x40, 32, false, [F.ENC_SESS_CNT_CODED_COUNT]⟩
def R.ENC_SESS_CNT_RATE_FLOOR : RegRow := ⟨0x71034, 0x40, 32, false, [F.ENC_SESS_CNT_RATE_FLOOR_COUNT]⟩
def R.ENC_SESS_CNT_TIME_FLOOR : RegRow := ⟨0x71038, 0x40, 32, false, [F.ENC_SESS_CNT_TIME_FLOOR_COUNT]⟩
def R.ENC_SESS_CNT_NO_INPUT : RegRow := ⟨0x7103C, 0x40, 32, false, [F.ENC_SESS_CNT_NO_INPUT_COUNT]⟩
def R.NET_MAC_BASE_LO : RegRow := ⟨0x80000, 4, 1, false, [F.NET_MAC_BASE_LO_MAC_LO]⟩
def R.NET_MAC_BASE_HI : RegRow := ⟨0x80004, 4, 1, false, [F.NET_MAC_BASE_HI_MAC_HI]⟩
def R.NET_EVENTS : RegRow := ⟨0x80010, 4, 1, false, [F.NET_EVENTS_WIT_CHANGE, F.NET_EVENTS_TX_LATE, F.NET_EVENTS_FLOW_CONFLICT, F.NET_EVENTS_IGMP_V2, F.NET_EVENTS_ADDR_CONFLICT, F.NET_EVENTS_ARP_UNRESOLVED, F.NET_EVENTS_PORT_DOWN, F.NET_EVENTS_PORT_UP]⟩
def R.NET_DROP_UNMATCHED : RegRow := ⟨0x80014, 4, 1, false, [F.NET_DROP_UNMATCHED_COUNT]⟩
def R.NET_DROP_IPV6 : RegRow := ⟨0x80018, 4, 1, false, [F.NET_DROP_IPV6_COUNT]⟩
def R.NET_DROP_MALFORMED : RegRow := ⟨0x8001C, 4, 1, false, [F.NET_DROP_MALFORMED_COUNT]⟩
def R.NET_DROP_FRAGMENT : RegRow := ⟨0x80020, 4, 1, false, [F.NET_DROP_FRAGMENT_COUNT]⟩
def R.NET_IGMP_STATUS : RegRow := ⟨0x80024, 4, 1, false, [F.NET_IGMP_STATUS_V2_COMPAT]⟩
def R.NET_WIT_CFG : RegRow := ⟨0x80030, 4, 1, false, [F.NET_WIT_CFG_EN, F.NET_WIT_CFG_GRACE]⟩
def R.NET_WIT_MASK : RegRow := ⟨0x80034, 4, 1, false, [F.NET_WIT_MASK_MASK]⟩
def R.NET_WIT_VIDEO : RegRow := ⟨0x80038, 4, 1, false, [F.NET_WIT_VIDEO_MASK]⟩
def R.NET_PORT_CFG : RegRow := ⟨0x80100, 0x20, 28, false, [F.NET_PORT_CFG_EN, F.NET_PORT_CFG_AN, F.NET_PORT_CFG_FEC, F.NET_PORT_CFG_MODE]⟩
def R.NET_PORT_ADDR0 : RegRow := ⟨0x80104, 0x20, 28, false, [F.NET_PORT_ADDR0_ADDR]⟩
def R.NET_PORT_ADDR1 : RegRow := ⟨0x80108, 0x20, 28, false, [F.NET_PORT_ADDR1_ADDR]⟩
def R.NET_PORT_SUBNET : RegRow := ⟨0x8010C, 0x20, 28, false, [F.NET_PORT_SUBNET_PREFIX]⟩
def R.NET_PORT_GW : RegRow := ⟨0x80110, 0x20, 28, false, [F.NET_PORT_GW_GW]⟩
def R.NET_PORT_VLAN : RegRow := ⟨0x80114, 0x20, 28, false, [F.NET_PORT_VLAN_TX_TAG, F.NET_PORT_VLAN_PCP, F.NET_PORT_VLAN_VID]⟩
def R.NET_PORT_DELAY : RegRow := ⟨0x80118, 0x20, 28, false, [F.NET_PORT_DELAY_RX, F.NET_PORT_DELAY_TX]⟩
def R.NET_PORT_STATUS : RegRow := ⟨0x8011C, 0x20, 28, false, [F.NET_PORT_STATUS_ADDR_CONFLICT, F.NET_PORT_STATUS_STATE]⟩
def R.NET_SRC_CFG : RegRow := ⟨0x81000, 0x10, 256, false, [F.NET_SRC_CFG_SKEW_MS, F.NET_SRC_CFG_KIND, F.NET_SRC_CFG_FORMAT]⟩
def R.NET_SRC_SIZE : RegRow := ⟨0x81004, 0x10, 256, false, [F.NET_SRC_SIZE_HEIGHT, F.NET_SRC_SIZE_WIDTH]⟩
def R.NET_SRC_CNT_FRAMES : RegRow := ⟨0x81008, 0x10, 256, false, [F.NET_SRC_CNT_FRAMES_COUNT]⟩
def R.NET_SRC_CNT_DISCARD : RegRow := ⟨0x8100C, 0x10, 256, false, [F.NET_SRC_CNT_DISCARD_COUNT]⟩
def R.NET_RX_FLOW_CFG : RegRow := ⟨0x82000, 0x10, 512, false, [F.NET_RX_FLOW_CFG_EN, F.NET_RX_FLOW_CFG_SEEN, F.NET_RX_FLOW_CFG_LEG, F.NET_RX_FLOW_CFG_PORT, F.NET_RX_FLOW_CFG_FORM, F.NET_RX_FLOW_CFG_SOURCE]⟩
def R.NET_RX_FLOW_DST : RegRow := ⟨0x82004, 0x10, 512, false, [F.NET_RX_FLOW_DST_VALUE]⟩
def R.NET_RX_FLOW_UDP : RegRow := ⟨0x82008, 0x10, 512, false, [F.NET_RX_FLOW_UDP_PORT]⟩
def R.NET_RX_FLOW_SRCIP : RegRow := ⟨0x8200C, 0x10, 512, false, [F.NET_RX_FLOW_SRCIP_VALUE]⟩
def R.NET_TX_CFG : RegRow := ⟨0x84000, 0x40, 64, false, [F.NET_TX_CFG_EN, F.NET_TX_CFG_TYPE, F.NET_TX_CFG_BURST, F.NET_TX_CFG_PT]⟩
def R.NET_TX_SSRC : RegRow := ⟨0x84004, 0x40, 64, false, [F.NET_TX_SSRC_VALUE]⟩
def R.NET_TX_SRCIP : RegRow := ⟨0x84008, 0x40, 64, false, [F.NET_TX_SRCIP_VALUE]⟩
def R.NET_TX_TIMING : RegRow := ⟨0x8400C, 0x40, 64, false, [F.NET_TX_TIMING_TRO_OUT]⟩
def R.NET_TX_PKT : RegRow := ⟨0x84010, 0x40, 64, false, [F.NET_TX_PKT_PACE_MBPS, F.NET_TX_PKT_MAX_PAYLOAD]⟩
def R.NET_TX_STAMP_UDP : RegRow := ⟨0x84014, 0x40, 64, false, [F.NET_TX_STAMP_UDP_PATH0, F.NET_TX_STAMP_UDP_PATH1]⟩
def R.NET_TX_LATE_CNT : RegRow := ⟨0x84018, 0x40, 64, false, [F.NET_TX_LATE_CNT_COUNT]⟩
def R.NET_TX_STATUS : RegRow := ⟨0x8401C, 0x40, 64, false, [F.NET_TX_STATUS_PATH1_UNRESOLVED, F.NET_TX_STATUS_PATH0_UNRESOLVED, F.NET_TX_STATUS_PATH1_DOWN, F.NET_TX_STATUS_PATH0_DOWN]⟩
def R.NET_TX_PATH_CFG_0 : RegRow := ⟨0x84020, 0x40, 64, false, [F.NET_TX_PATH_CFG_0_EN, F.NET_TX_PATH_CFG_0_PORT, F.NET_TX_PATH_CFG_0_DSCP, F.NET_TX_PATH_CFG_0_TTL]⟩
def R.NET_TX_PATH_DST_0 : RegRow := ⟨0x84024, 0x40, 64, false, [F.NET_TX_PATH_DST_0_VALUE]⟩
def R.NET_TX_PATH_UDP_0 : RegRow := ⟨0x84028, 0x40, 64, false, [F.NET_TX_PATH_UDP_0_DPORT, F.NET_TX_PATH_UDP_0_SPORT]⟩
def R.NET_TX_PATH_STAMP_0 : RegRow := ⟨0x8402C, 0x40, 64, false, [F.NET_TX_PATH_STAMP_0_VALUE]⟩
def R.NET_TX_PATH_CFG_1 : RegRow := ⟨0x84030, 0x40, 64, false, [F.NET_TX_PATH_CFG_1_EN, F.NET_TX_PATH_CFG_1_PORT, F.NET_TX_PATH_CFG_1_DSCP, F.NET_TX_PATH_CFG_1_TTL]⟩
def R.NET_TX_PATH_DST_1 : RegRow := ⟨0x84034, 0x40, 64, false, [F.NET_TX_PATH_DST_1_VALUE]⟩
def R.NET_TX_PATH_UDP_1 : RegRow := ⟨0x84038, 0x40, 64, false, [F.NET_TX_PATH_UDP_1_DPORT, F.NET_TX_PATH_UDP_1_SPORT]⟩
def R.NET_TX_PATH_STAMP_1 : RegRow := ⟨0x8403C, 0x40, 64, false, [F.NET_TX_PATH_STAMP_1_VALUE]⟩
def R.NET_WIT_STATE : RegRow := ⟨0x85000, 8, 32, false, [F.NET_WIT_STATE_TICK, F.NET_WIT_STATE_VERDICT]⟩
def R.NET_WIT_CNT : RegRow := ⟨0x85004, 8, 32, false, [F.NET_WIT_CNT_COUNT]⟩
def R.LANE_REFCLK_STATUS : RegRow := ⟨0x90000, 4, 1, false, [F.LANE_REFCLK_STATUS_CLKMODE, F.LANE_REFCLK_STATUS_Q7_LOCK, F.LANE_REFCLK_STATUS_QUAD_LOCK]⟩
def R.LANE_REFCLK_LOSS : RegRow := ⟨0x90004, 4, 1, false, [F.LANE_REFCLK_LOSS_SYS, F.LANE_REFCLK_LOSS_LANE1, F.LANE_REFCLK_LOSS_LANE0]⟩
def R.LANE_EVENTS : RegRow := ⟨0x90008, 4, 1, false, [F.LANE_EVENTS_SCAN_DONE, F.LANE_EVENTS_TETHER_FAIL, F.LANE_EVENTS_RETRAIN, F.LANE_EVENTS_DEGRADED, F.LANE_EVENTS_REVERSAL, F.LANE_EVENTS_POLARITY, F.LANE_EVENTS_REFCLK_LOSS]⟩
def R.LANE_MARGIN_MIN : RegRow := ⟨0x9000C, 4, 1, false, [F.LANE_MARGIN_MIN_HEIGHT, F.LANE_MARGIN_MIN_WIDTH]⟩
def R.LANE_ADAPT_CFG : RegRow := ⟨0x90010, 4, 1, false, [F.LANE_ADAPT_CFG_TD_MIN]⟩
def R.LANE_TETHER_CFG : RegRow := ⟨0x90014, 4, 1, false, [F.LANE_TETHER_CFG_EN]⟩
def R.LANE_TETHER_STATUS : RegRow := ⟨0x90018, 4, 1, false, [F.LANE_TETHER_STATUS_ATTEMPTS, F.LANE_TETHER_STATUS_TRAINED, F.LANE_TETHER_STATUS_STATE]⟩
def R.LANE_SCAN_CTRL : RegRow := ⟨0x90020, 4, 1, false, [F.LANE_SCAN_CTRL_START, F.LANE_SCAN_CTRL_LANE, F.LANE_SCAN_CTRL_PHASE, F.LANE_SCAN_CTRL_OFFSET, F.LANE_SCAN_CTRL_DWELL]⟩
def R.LANE_SCAN_RESULT : RegRow := ⟨0x90024, 4, 1, false, [F.LANE_SCAN_RESULT_DONE, F.LANE_SCAN_RESULT_ABORTED, F.LANE_SCAN_RESULT_ERRORS]⟩
def R.LANE_CFG : RegRow := ⟨0x90100, 0x20, 32, false, [F.LANE_CFG_TX_POST, F.LANE_CFG_TX_PRE, F.LANE_CFG_TX_INVERT, F.LANE_CFG_RX_POL]⟩
def R.LANE_STATUS : RegRow := ⟨0x90104, 0x20, 32, false, [F.LANE_STATUS_FAIL_CORNERS, F.LANE_STATUS_SIGNAL, F.LANE_STATUS_DEGRADED, F.LANE_STATUS_FROZEN, F.LANE_STATUS_POL_INV, F.LANE_STATUS_STATE]⟩
def R.LANE_CNT_LOCK : RegRow := ⟨0x90108, 0x20, 32, false, [F.LANE_CNT_LOCK_COUNT]⟩
def R.LANE_CNT_RETRAIN : RegRow := ⟨0x9010C, 0x20, 32, false, [F.LANE_CNT_RETRAIN_COUNT]⟩
def R.LANE_CNT_MCHK_FAIL : RegRow := ⟨0x90110, 0x20, 32, false, [F.LANE_CNT_MCHK_FAIL_COUNT]⟩
def R.LANE_QUAD_CFG : RegRow := ⟨0x90600, 0x10, 7, false, [F.LANE_QUAD_CFG_TX_MAP]⟩
def R.LANE_QUAD_STATUS : RegRow := ⟨0x90604, 0x10, 7, false, [F.LANE_QUAD_STATUS_TX_REVERSED, F.LANE_QUAD_STATUS_RX_MAP]⟩
def R.TIME_CTRL : RegRow := ⟨0xA0000, 4, 1, false, [F.TIME_CTRL_REVERT, F.TIME_CTRL_PREFER, F.TIME_CTRL_SLEW_PPM]⟩
def R.TIME_STATUS : RegRow := ⟨0xA0004, 4, 1, false, [F.TIME_STATUS_STEP_COUNT, F.TIME_STATUS_PAIR_MISMATCH, F.TIME_STATUS_RELOCK_PENDING, F.TIME_STATUS_DIVERGED, F.TIME_STATUS_IN_USE, F.TIME_STATUS_SRC]⟩
def R.TIME_CMD : RegRow := ⟨0xA0008, 4, 1, false, [F.TIME_CMD_OP, F.TIME_CMD_SERVO]⟩
def R.TIME_EVENTS : RegRow := ⟨0xA000C, 4, 1, false, [F.TIME_EVENTS_TRIG_MISSED, F.TIME_EVENTS_CAPTURE, F.TIME_EVENTS_SRV_LOSS, F.TIME_EVENTS_SRV_LOCK, F.TIME_EVENTS_HOLDOVER, F.TIME_EVENTS_SWITCH, F.TIME_EVENTS_STEP, F.TIME_EVENTS_DIVERGED]⟩
def R.TIME_NOW_NS : RegRow := ⟨0xA0010, 4, 1, false, [F.TIME_NOW_NS_VALUE]⟩
def R.TIME_NOW_SEC_LO : RegRow := ⟨0xA0014, 4, 1, false, [F.TIME_NOW_SEC_LO_VALUE]⟩
def R.TIME_NOW_SEC_HI : RegRow := ⟨0xA0018, 4, 1, false, [F.TIME_NOW_SEC_HI_VALUE]⟩
def R.TIME_RATE : RegRow := ⟨0xA001C, 4, 1, false, [F.TIME_RATE_PPB]⟩
def R.TIME_UTC : RegRow := ⟨0xA0020, 4, 1, false, [F.TIME_UTC_LEAP59, F.TIME_UTC_LEAP61, F.TIME_UTC_VALID, F.TIME_UTC_OFFSET]⟩
def R.TIME_TICKOUT_CFG : RegRow := ⟨0xA0030, 4, 1, false, [F.TIME_TICKOUT_CFG_EN, F.TIME_TICKOUT_CFG_POL, F.TIME_TICKOUT_CFG_DIVIDE, F.TIME_TICKOUT_CFG_WIDTH]⟩
def R.TIME_SRV_CFG : RegRow := ⟨0xA0100, 0x40, 2, false, [F.TIME_SRV_CFG_EN, F.TIME_SRV_CFG_DELAY_UNICAST, F.TIME_SRV_CFG_PORT, F.TIME_SRV_CFG_DOMAIN, F.TIME_SRV_CFG_BW, F.TIME_SRV_CFG_ANN_TIMEOUT]⟩
def R.TIME_SRV_WINDOW : RegRow := ⟨0xA0104, 0x40, 2, false, [F.TIME_SRV_WINDOW_OUTLIER_US, F.TIME_SRV_WINDOW_WINDOW_NS]⟩
def R.TIME_SRV_ASYM : RegRow := ⟨0xA0108, 0x40, 2, false, [F.TIME_SRV_ASYM_ASYM]⟩
def R.TIME_SRV_STATE : RegRow := ⟨0xA010C, 0x40, 2, false, [F.TIME_SRV_STATE_MASTER_PORT, F.TIME_SRV_STATE_STEPS_REMOVED, F.TIME_SRV_STATE_STATE]⟩
def R.TIME_SRV_OFFSET : RegRow := ⟨0xA0110, 0x40, 2, false, [F.TIME_SRV_OFFSET_NS]⟩
def R.TIME_SRV_DELAY : RegRow := ⟨0xA0114, 0x40, 2, false, [F.TIME_SRV_DELAY_NS]⟩
def R.TIME_SRV_GM_LO : RegRow := ⟨0xA0118, 0x40, 2, false, [F.TIME_SRV_GM_LO_ID]⟩
def R.TIME_SRV_GM_HI : RegRow := ⟨0xA011C, 0x40, 2, false, [F.TIME_SRV_GM_HI_ID]⟩
def R.TIME_SRV_MASTER_LO : RegRow := ⟨0xA0120, 0x40, 2, false, [F.TIME_SRV_MASTER_LO_ID]⟩
def R.TIME_SRV_MASTER_HI : RegRow := ⟨0xA0124, 0x40, 2, false, [F.TIME_SRV_MASTER_HI_ID]⟩
def R.TIME_SRV_CNT_OUTLIER : RegRow := ⟨0xA0128, 0x40, 2, false, [F.TIME_SRV_CNT_OUTLIER_COUNT]⟩
def R.TIME_SRV_CNT_LOSS : RegRow := ⟨0xA012C, 0x40, 2, false, [F.TIME_SRV_CNT_LOSS_COUNT]⟩
def R.TIME_TRIG_CFG : RegRow := ⟨0xA0200, 0x20, 4, false, [F.TIME_TRIG_CFG_EN, F.TIME_TRIG_CFG_POL, F.TIME_TRIG_CFG_PERIODIC, F.TIME_TRIG_CFG_LOCKED_ONLY, F.TIME_TRIG_CFG_WIDTH]⟩
def R.TIME_TRIG_START_NS : RegRow := ⟨0xA0204, 0x20, 4, false, [F.TIME_TRIG_START_NS_VALUE]⟩
def R.TIME_TRIG_START_SEC_LO : RegRow := ⟨0xA0208, 0x20, 4, false, [F.TIME_TRIG_START_SEC_LO_VALUE]⟩
def R.TIME_TRIG_START_SEC_HI : RegRow := ⟨0xA020C, 0x20, 4, false, [F.TIME_TRIG_START_SEC_HI_VALUE]⟩
def R.TIME_TRIG_PERIOD : RegRow := ⟨0xA0210, 0x20, 4, false, [F.TIME_TRIG_PERIOD_NS]⟩
def R.TIME_TRIG_STATUS : RegRow := ⟨0xA0214, 0x20, 4, false, [F.TIME_TRIG_STATUS_MISSED, F.TIME_TRIG_STATUS_ACTIVE]⟩
def R.TIME_CAP_CFG : RegRow := ⟨0xA0300, 0x20, 4, false, [F.TIME_CAP_CFG_EN, F.TIME_CAP_CFG_EDGE]⟩
def R.TIME_CAP_NS : RegRow := ⟨0xA0304, 0x20, 4, false, [F.TIME_CAP_NS_NS]⟩
def R.TIME_CAP_SEC_LO : RegRow := ⟨0xA0308, 0x20, 4, false, [F.TIME_CAP_SEC_LO_SEC_LO]⟩
def R.TIME_CAP_SEC_HI : RegRow := ⟨0xA030C, 0x20, 4, false, [F.TIME_CAP_SEC_HI_STEP, F.TIME_CAP_SEC_HI_RISING, F.TIME_CAP_SEC_HI_SEC_HI]⟩
def R.TIME_CAP_STATUS : RegRow := ⟨0xA0310, 0x20, 4, false, [F.TIME_CAP_STATUS_COUNT]⟩
def R.TIME_CAP_DROP : RegRow := ⟨0xA0314, 0x20, 4, false, [F.TIME_CAP_DROP_COUNT]⟩
def R.PAIR_CTRL : RegRow := ⟨0xB0000, 4, 1, false, [F.PAIR_CTRL_K, F.PAIR_CTRL_REVERT, F.PAIR_CTRL_HOME, F.PAIR_CTRL_UNIT, F.PAIR_CTRL_EN]⟩
def R.PAIR_SETTLE : RegRow := ⟨0xB0004, 4, 1, false, [F.PAIR_SETTLE_TICKS]⟩
def R.PAIR_STATUS : RegRow := ⟨0xB0008, 4, 1, false, [F.PAIR_STATUS_MISMATCH, F.PAIR_STATUS_WIT_BLIND, F.PAIR_STATUS_TICK_MISMATCH, F.PAIR_STATUS_INCONSISTENT, F.PAIR_STATUS_PARTNER_LEASE, F.PAIR_STATUS_SYNC, F.PAIR_STATUS_ROLE]⟩
def R.PAIR_EPOCH : RegRow := ⟨0xB000C, 4, 1, false, [F.PAIR_EPOCH_EPOCH]⟩
def R.PAIR_CMD : RegRow := ⟨0xB0010, 4, 1, false, [F.PAIR_CMD_OP]⟩
def R.PAIR_CMD_STATUS : RegRow := ⟨0xB0014, 4, 1, false, [F.PAIR_CMD_STATUS_REQ_SLOT, F.PAIR_CMD_STATUS_PENDING, F.PAIR_CMD_STATUS_RESULT, F.PAIR_CMD_STATUS_OP]⟩
def R.PAIR_EVENTS : RegRow := ⟨0xB0018, 4, 1, false, [F.PAIR_EVENTS_REIN_STUCK, F.PAIR_EVENTS_UNIT_CLASH, F.PAIR_EVENTS_TICK_MISMATCH, F.PAIR_EVENTS_PROTO_MISMATCH, F.PAIR_EVENTS_MIRROR_FULL, F.PAIR_EVENTS_SYNCED, F.PAIR_EVENTS_STATE_STALE, F.PAIR_EVENTS_DUAL_HOLDER, F.PAIR_EVENTS_HANDOVER_ABORTED, F.PAIR_EVENTS_TAKEOVER, F.PAIR_EVENTS_BOTH_FAULT, F.PAIR_EVENTS_STANDBY_FAULT, F.PAIR_EVENTS_YIELD, F.PAIR_EVENTS_DIVERGED, F.PAIR_EVENTS_REIN_FAULT, F.PAIR_EVENTS_TETHER_DOWN]⟩
def R.PAIR_HEALTH_LO : RegRow := ⟨0xB0020, 4, 1, false, [F.PAIR_HEALTH_LO_HEALTH]⟩
def R.PAIR_HEALTH_HI : RegRow := ⟨0xB0024, 4, 1, false, [F.PAIR_HEALTH_HI_HEALTH]⟩
def R.PAIR_PARTNER_HEALTH_LO : RegRow := ⟨0xB0028, 4, 1, false, [F.PAIR_PARTNER_HEALTH_LO_HEALTH]⟩
def R.PAIR_PARTNER_HEALTH_HI : RegRow := ⟨0xB002C, 4, 1, false, [F.PAIR_PARTNER_HEALTH_HI_HEALTH]⟩
def R.PAIR_HEALTH_CFG : RegRow := ⟨0xB0030, 4, 1, false, [F.PAIR_HEALTH_CFG_CE_MAX]⟩
def R.PAIR_LAST_MISMATCH : RegRow := ⟨0xB0034, 4, 1, false, [F.PAIR_LAST_MISMATCH_TILE, F.PAIR_LAST_MISMATCH_OUTPUT_ID]⟩
def R.PAIR_LAST_CHANGE_LO : RegRow := ⟨0xB0038, 4, 1, false, [F.PAIR_LAST_CHANGE_LO_TICK]⟩
def R.PAIR_LAST_CHANGE_HI : RegRow := ⟨0xB003C, 4, 1, false, [F.PAIR_LAST_CHANGE_HI_TICK]⟩
def R.PAIR_CNT_MISMATCH : RegRow := ⟨0xB0040, 4, 1, false, [F.PAIR_CNT_MISMATCH_COUNT]⟩
def R.PAIR_CNT_NEUTRAL : RegRow := ⟨0xB0044, 4, 1, false, [F.PAIR_CNT_NEUTRAL_COUNT]⟩
def R.PAIR_CNT_REIN_MISS : RegRow := ⟨0xB0048, 4, 1, false, [F.PAIR_CNT_REIN_MISS_COUNT]⟩
def R.PAIR_CNT_FRAME_ERR : RegRow := ⟨0xB004C, 4, 1, false, [F.PAIR_CNT_FRAME_ERR_COUNT]⟩
def R.PAIR_CNT_WRITE_REFUSED : RegRow := ⟨0xB0050, 4, 1, false, [F.PAIR_CNT_WRITE_REFUSED_COUNT]⟩
def R.PAIR_MIRROR_STATUS : RegRow := ⟨0xB0054, 4, 1, false, [F.PAIR_MIRROR_STATUS_PENDING_KIB]⟩
def R.PAIR_SYNC_PROGRESS : RegRow := ⟨0xB0058, 4, 1, false, [F.PAIR_SYNC_PROGRESS_PAGES]⟩
def R.MEM_MAP : RegRow := ⟨0xC0000, 4, 1, false, [F.MEM_MAP_HASH, F.MEM_MAP_ORDER, F.MEM_MAP_GRAIN]⟩
def R.MEM_STATUS : RegRow := ⟨0xC0004, 4, 1, false, [F.MEM_STATUS_TEMP_HIGH_B, F.MEM_STATUS_TEMP_HIGH_A, F.MEM_STATUS_FCHG_BUSY, F.MEM_STATUS_TIMING]⟩
def R.MEM_EVENTS : RegRow := ⟨0xC0008, 4, 1, false, [F.MEM_EVENTS_FCHG_FAIL, F.MEM_EVENTS_FCHG_DONE, F.MEM_EVENTS_SCRUB_DONE, F.MEM_EVENTS_TEMP_HIGH, F.MEM_EVENTS_UE_SYSTEM, F.MEM_EVENTS_UE, F.MEM_EVENTS_CE]⟩
def R.MEM_CE_CNT : RegRow := ⟨0xC000C, 4, 1, false, [F.MEM_CE_CNT_COUNT]⟩
def R.MEM_UE_CNT : RegRow := ⟨0xC0010, 4, 1, false, [F.MEM_UE_CNT_COUNT]⟩
def R.MEM_ERR_ADDR_LO : RegRow := ⟨0xC0018, 4, 1, false, [F.MEM_ERR_ADDR_LO_ADDR_LO]⟩
def R.MEM_ERR_ADDR_HI : RegRow := ⟨0xC001C, 4, 1, false, [F.MEM_ERR_ADDR_HI_ADDR_HI]⟩
def R.MEM_ERR_INFO : RegRow := ⟨0xC0020, 4, 1, false, [F.MEM_ERR_INFO_REGION, F.MEM_ERR_INFO_SOURCE, F.MEM_ERR_INFO_PC, F.MEM_ERR_INFO_CHANNEL]⟩
def R.MEM_SCHED_CFG : RegRow := ⟨0xC0024, 4, 1, false, [F.MEM_SCHED_CFG_RUN_MAX]⟩
def R.MEM_SCRUB_CFG : RegRow := ⟨0xC0028, 4, 1, false, [F.MEM_SCRUB_CFG_EN, F.MEM_SCRUB_CFG_PERIOD_S]⟩
def R.MEM_SCRUB_STATUS : RegRow := ⟨0xC002C, 4, 1, false, [F.MEM_SCRUB_STATUS_PASSES, F.MEM_SCRUB_STATUS_PERMILLE]⟩
def R.MEM_SR_STATUS : RegRow := ⟨0xC0030, 4, 1, false, [F.MEM_SR_STATUS_SR]⟩
def R.MEM_TEMP : RegRow := ⟨0xC0034, 4, 1, false, [F.MEM_TEMP_STACK_B, F.MEM_TEMP_STACK_A]⟩
def R.MEM_CH_STATUS : RegRow := ⟨0xC0100, 8, 32, false, [F.MEM_CH_STATUS_PEAK, F.MEM_CH_STATUS_OCC]⟩
def R.MEM_CH_CE : RegRow := ⟨0xC0104, 8, 32, false, [F.MEM_CH_CE_COUNT]⟩
def R.HOST_SLOT_STATUS : RegRow := ⟨0xD0000, 4, 1, true, [F.HOST_SLOT_STATUS_FAULT_REASON, F.HOST_SLOT_STATUS_SESSION, F.HOST_SLOT_STATUS_ROUTE, F.HOST_SLOT_STATUS_SLOT]⟩
def R.HOST_FAULT_ADDR_LO : RegRow := ⟨0xD0004, 4, 1, true, [F.HOST_FAULT_ADDR_LO_ADDR_LO]⟩
def R.HOST_FAULT_ADDR_HI : RegRow := ⟨0xD0008, 4, 1, true, [F.HOST_FAULT_ADDR_HI_TARGET, F.HOST_FAULT_ADDR_HI_ADDR_HI]⟩
def R.HOST_DP_CTRL : RegRow := ⟨0xD0010, 4, 1, true, [F.HOST_DP_CTRL_INC, F.HOST_DP_CTRL_TARGET]⟩
def R.HOST_DP_ADDR_LO : RegRow := ⟨0xD0014, 4, 1, true, [F.HOST_DP_ADDR_LO_ADDR_LO]⟩
def R.HOST_DP_ADDR_HI : RegRow := ⟨0xD0018, 4, 1, true, [F.HOST_DP_ADDR_HI_ADDR_HI]⟩
def R.HOST_EVQ_POP0 : RegRow := ⟨0xD0020, 4, 1, true, [F.HOST_EVQ_POP0_WORD]⟩
def R.HOST_EVQ_POP1 : RegRow := ⟨0xD0024, 4, 1, true, [F.HOST_EVQ_POP1_WORD]⟩
def R.HOST_EVQ_POP2 : RegRow := ⟨0xD0028, 4, 1, true, [F.HOST_EVQ_POP2_WORD]⟩
def R.HOST_EVQ_POP3 : RegRow := ⟨0xD002C, 4, 1, true, [F.HOST_EVQ_POP3_WORD]⟩
def R.HOST_EVQ_STATUS : RegRow := ⟨0xD0030, 4, 1, true, [F.HOST_EVQ_STATUS_DROPPED, F.HOST_EVQ_STATUS_OVERFLOW, F.HOST_EVQ_STATUS_COUNT]⟩
def R.HOST_EVQ_EN : RegRow := ⟨0xD0040, 4, 20, true, [F.HOST_EVQ_EN_MASK]⟩
def R.HOST_EVENTS : RegRow := ⟨0xD0100, 4, 1, false, [F.HOST_EVENTS_DBG_UNLOCK, F.HOST_EVENTS_EVQ_OVERFLOW, F.HOST_EVENTS_SESSION_CLOSED, F.HOST_EVENTS_SESSION_OPEN, F.HOST_EVENTS_FAULT]⟩
def R.HOST_EVENT_PIN : RegRow := ⟨0xD0104, 4, 1, false, [F.HOST_EVENT_PIN_SLOTS_1, F.HOST_EVENT_PIN_SLOTS_0]⟩
def R.HOST_MGMT_ADDR0 : RegRow := ⟨0xD0108, 4, 1, false, [F.HOST_MGMT_ADDR0_ADDR]⟩
def R.HOST_MGMT_ADDR1 : RegRow := ⟨0xD010C, 4, 1, false, [F.HOST_MGMT_ADDR1_ADDR]⟩
def R.HOST_FUHEL_CFG : RegRow := ⟨0xD0110, 4, 1, false, [F.HOST_FUHEL_CFG_MGMT_EN, F.HOST_FUHEL_CFG_PREFIX, F.HOST_FUHEL_CFG_TIMEOUT_S]⟩
def R.HOST_CNT_UNBOUND : RegRow := ⟨0xD0114, 4, 1, false, [F.HOST_CNT_UNBOUND_COUNT]⟩
def R.HOST_CNT_SEQ_DROP : RegRow := ⟨0xD0118, 4, 1, false, [F.HOST_CNT_SEQ_DROP_COUNT]⟩
def R.HOST_LC_STATUS : RegRow := ⟨0xD0120, 4, 1, false, [F.HOST_LC_STATUS_DBG_UNLOCKED, F.HOST_LC_STATUS_DBG_SLOT, F.HOST_LC_STATUS_STATE]⟩
def R.HOST_LC_CMD : RegRow := ⟨0xD0124, 4, 1, false, [F.HOST_LC_CMD_OP]⟩
def R.HOST_PROT_ROUTE : RegRow := ⟨0xD0200, 8, 8, false, [F.HOST_PROT_ROUTE_PORT, F.HOST_PROT_ROUTE_ROUTE]⟩
def R.HOST_PROT_PEER : RegRow := ⟨0xD0204, 8, 8, false, [F.HOST_PROT_PEER_VALUE]⟩
def R.HOST_PROT_PERM : RegRow := ⟨0xD0300, 4, 24, false, [F.HOST_PROT_PERM_LOCKED, F.HOST_PROT_PERM_PERM]⟩
def R.HOST_PROT_RGN_BASE : RegRow := ⟨0xD0400, 0x10, 64, false, [F.HOST_PROT_RGN_BASE_BASE]⟩
def R.HOST_PROT_RGN_SIZE : RegRow := ⟨0xD0404, 0x10, 64, false, [F.HOST_PROT_RGN_SIZE_PAGES]⟩
def R.HOST_PROT_RGN_PERM : RegRow := ⟨0xD0408, 0x10, 64, false, [F.HOST_PROT_RGN_PERM_LOCKED, F.HOST_PROT_RGN_PERM_PERM]⟩
def R.UPD_CMD : RegRow := ⟨0xE0000, 4, 1, false, [F.UPD_CMD_OP, F.UPD_CMD_UNIT]⟩
def R.UPD_STATUS : RegRow := ⟨0xE0004, 4, 1, false, [F.UPD_STATUS_RESULT, F.UPD_STATUS_OP, F.UPD_STATUS_OWNER, F.UPD_STATUS_REQ_SLOT, F.UPD_STATUS_PENDING, F.UPD_STATUS_SEL_STATE, F.UPD_STATUS_PREFERRED, F.UPD_STATUS_ROLLBACK, F.UPD_STATUS_SETTINGS_DIRTY, F.UPD_STATUS_SETTINGS_EMPTY, F.UPD_STATUS_VERIFY_ERR, F.UPD_STATUS_VERIFY, F.UPD_STATUS_PROTO_CHANGE, F.UPD_STATUS_OUTPUT_CHANGE]⟩
def R.UPD_EVENTS : RegRow := ⟨0xE0008, 4, 1, false, [F.UPD_EVENTS_CONFIRMED, F.UPD_EVENTS_ROLLBACK, F.UPD_EVENTS_SWAP_ABORTED, F.UPD_EVENTS_SWAP_DONE, F.UPD_EVENTS_VERIFY_DONE, F.UPD_EVENTS_SESSION_LOST, F.UPD_EVENTS_BUSY]⟩
def R.UPD_WIN_POS : RegRow := ⟨0xE000C, 4, 1, false, [F.UPD_WIN_POS_POS]⟩
def R.UPD_VERSION_RUN : RegRow := ⟨0xE0010, 4, 1, false, [F.UPD_VERSION_RUN_VERSION]⟩
def R.UPD_VERSION_STAGED : RegRow := ⟨0xE0014, 4, 1, false, [F.UPD_VERSION_STAGED_VERSION]⟩
def R.UPD_PARTNER : RegRow := ⟨0xE0018, 4, 1, false, [F.UPD_PARTNER_PROTO, F.UPD_PARTNER_OUTPUT_REV, F.UPD_PARTNER_SEL_STATE, F.UPD_PARTNER_VERIFY_ERR, F.UPD_PARTNER_VERIFY]⟩
def R.UPD_OTP_SVN : RegRow := ⟨0xE0100, 4, 19, false, [F.UPD_OTP_SVN_SVN]⟩
def R.CHK_EVENTS : RegRow := ⟨0xF0000, 4, 1, false, [F.CHK_EVENTS_RANGE_FAULT, F.CHK_EVENTS_RANGE_DONE]⟩
def R.CHK_CH_CFG : RegRow := ⟨0xF1000, 0x80, 64, false, [F.CHK_CH_CFG_ALIVE_EN, F.CHK_CH_CFG_REFOUT, F.CHK_CH_CFG_REFIN, F.CHK_CH_CFG_WIDTH]⟩
def R.CHK_CH_ALIVE : RegRow := ⟨0xF1004, 0x80, 64, false, [F.CHK_CH_ALIVE_ALIVE]⟩
def R.CHK_CH_POLY_LO : RegRow := ⟨0xF1008, 0x80, 64, false, [F.CHK_CH_POLY_LO_VALUE]⟩
def R.CHK_CH_POLY_HI : RegRow := ⟨0xF100C, 0x80, 64, false, [F.CHK_CH_POLY_HI_VALUE]⟩
def R.CHK_CH_INIT_LO : RegRow := ⟨0xF1010, 0x80, 64, false, [F.CHK_CH_INIT_LO_VALUE]⟩
def R.CHK_CH_INIT_HI : RegRow := ⟨0xF1014, 0x80, 64, false, [F.CHK_CH_INIT_HI_VALUE]⟩
def R.CHK_CH_XOROUT_LO : RegRow := ⟨0xF1018, 0x80, 64, false, [F.CHK_CH_XOROUT_LO_VALUE]⟩
def R.CHK_CH_XOROUT_HI : RegRow := ⟨0xF101C, 0x80, 64, false, [F.CHK_CH_XOROUT_HI_VALUE]⟩
def R.CHK_CH_VALUE_LO : RegRow := ⟨0xF1020, 0x80, 64, false, [F.CHK_CH_VALUE_LO_VALUE]⟩
def R.CHK_CH_VALUE_HI : RegRow := ⟨0xF1024, 0x80, 64, false, [F.CHK_CH_VALUE_HI_VALUE]⟩
def R.CHK_CH_RESULT_LO : RegRow := ⟨0xF1028, 0x80, 64, false, [F.CHK_CH_RESULT_LO_RESULT]⟩
def R.CHK_CH_RESULT_HI : RegRow := ⟨0xF102C, 0x80, 64, false, [F.CHK_CH_RESULT_HI_RESULT]⟩
def R.CHK_CH_DATA8 : RegRow := ⟨0xF1030, 0x80, 64, false, [F.CHK_CH_DATA8_DATA]⟩
def R.CHK_CH_DATA16 : RegRow := ⟨0xF1034, 0x80, 64, false, [F.CHK_CH_DATA16_DATA]⟩
def R.CHK_CH_DATA32 : RegRow := ⟨0xF1038, 0x80, 64, false, [F.CHK_CH_DATA32_DATA]⟩
def R.CHK_CH_CMD : RegRow := ⟨0xF103C, 0x80, 64, false, [F.CHK_CH_CMD_BUSY, F.CHK_CH_CMD_LAST, F.CHK_CH_CMD_OP]⟩
def R.CHK_CH_ADDR_LO : RegRow := ⟨0xF1040, 0x80, 64, false, [F.CHK_CH_ADDR_LO_VALUE]⟩
def R.CHK_CH_ADDR_HI : RegRow := ⟨0xF1044, 0x80, 64, false, [F.CHK_CH_ADDR_HI_VALUE]⟩
def R.CHK_CH_LEN : RegRow := ⟨0xF1048, 0x80, 64, false, [F.CHK_CH_LEN_VALUE]⟩
def R.PERF_CTRL : RegRow := ⟨0x100000, 4, 1, false, [F.PERF_CTRL_SNAP_EDGE, F.PERF_CTRL_RUNNING]⟩
def R.PERF_CMD : RegRow := ⟨0x100004, 4, 1, false, [F.PERF_CMD_EDGE, F.PERF_CMD_OP]⟩
def R.PERF_SNAP_TICK_LO : RegRow := ⟨0x100008, 4, 1, false, [F.PERF_SNAP_TICK_LO_VALUE]⟩
def R.PERF_SNAP_TICK_HI : RegRow := ⟨0x10000C, 4, 1, false, [F.PERF_SNAP_TICK_HI_VALUE]⟩
def R.PERF_SNAP_SEQ : RegRow := ⟨0x100010, 4, 1, false, [F.PERF_SNAP_SEQ_VALUE]⟩
def R.PERF_EVENTS : RegRow := ⟨0x100014, 4, 1, false, [F.PERF_EVENTS_SAMPLE_OVERFLOW, F.PERF_EVENTS_BW_WINDOW, F.PERF_EVENTS_SNAP]⟩
def R.PERF_BW_CFG : RegRow := ⟨0x100020, 4, 1, false, [F.PERF_BW_CFG_WINDOW_MS]⟩
def R.PERF_BW_SEQ : RegRow := ⟨0x100024, 4, 1, false, [F.PERF_BW_SEQ_VALUE]⟩
def R.PERF_SAMPLE_CFG : RegRow := ⟨0x100030, 4, 1, false, [F.PERF_SAMPLE_CFG_EN, F.PERF_SAMPLE_CFG_EVENT, F.PERF_SAMPLE_CFG_PERIOD]⟩
def R.PERF_SAMPLE_POP : RegRow := ⟨0x100034, 4, 1, false, [F.PERF_SAMPLE_POP_VALUE]⟩
def R.PERF_SAMPLE_STATUS : RegRow := ⟨0x100038, 4, 1, false, [F.PERF_SAMPLE_STATUS_DROPPED, F.PERF_SAMPLE_STATUS_COUNT]⟩
def R.PERF_SEL : RegRow := ⟨0x100100, 4, 128, false, [F.PERF_SEL_QUAL, F.PERF_SEL_EVENT]⟩
def R.PERF_CNT_LO : RegRow := ⟨0x100400, 8, 128, false, [F.PERF_CNT_LO_COUNT]⟩
def R.PERF_CNT_HI : RegRow := ⟨0x100404, 8, 128, false, [F.PERF_CNT_HI_COUNT]⟩
def R.PERF_BW_RX : RegRow := ⟨0x100800, 8, 28, false, [F.PERF_BW_RX_UNITS]⟩
def R.PERF_BW_TX : RegRow := ⟨0x100804, 8, 28, false, [F.PERF_BW_TX_UNITS]⟩
def R.BBOX_CFG : RegRow := ⟨0x110000, 4, 1, false, [F.BBOX_CFG_POST, F.BBOX_CFG_TRIG]⟩
def R.BBOX_STATUS : RegRow := ⟨0x110004, 4, 1, false, [F.BBOX_STATUS_FROZEN, F.BBOX_STATUS_TRIGGERED]⟩
def R.BBOX_NEXT_SEQ : RegRow := ⟨0x110008, 4, 1, false, [F.BBOX_NEXT_SEQ_SEQ]⟩
def R.BBOX_TRIG_SEQ : RegRow := ⟨0x11000C, 4, 1, false, [F.BBOX_TRIG_SEQ_SEQ]⟩
def R.BBOX_LOST : RegRow := ⟨0x110010, 4, 1, false, [F.BBOX_LOST_COUNT]⟩
def R.BBOX_CMD : RegRow := ⟨0x110014, 4, 1, false, [F.BBOX_CMD_ARM]⟩
def R.BBOX_MARK : RegRow := ⟨0x110018, 4, 1, false, [F.BBOX_MARK_VALUE]⟩
def R.BBOX_SPILL_FIRST : RegRow := ⟨0x11001C, 4, 1, false, [F.BBOX_SPILL_FIRST_SEQ]⟩
def R.BBOX_EVENTS : RegRow := ⟨0x110020, 4, 1, false, [F.BBOX_EVENTS_FROZEN]⟩
def R.TOUCH_CTRL : RegRow := ⟨0x120000, 4, 1, false, [F.TOUCH_CTRL_EN]⟩
def R.TOUCH_KEY_EN : RegRow := ⟨0x120004, 4, 1, false, [F.TOUCH_KEY_EN_EN]⟩
def R.TOUCH_EVENTS : RegRow := ⟨0x120008, 4, 1, false, [F.TOUCH_EVENTS_SELECT, F.TOUCH_EVENTS_ACTION_FAIL, F.TOUCH_EVENTS_REBASE, F.TOUCH_EVENTS_SUSPECT, F.TOUCH_EVENTS_HELD_EXPIRED, F.TOUCH_EVENTS_RELEASE, F.TOUCH_EVENTS_PRESS]⟩
def R.TOUCH_CMD : RegRow := ⟨0x12000C, 4, 1, false, [F.TOUCH_CMD_OP, F.TOUCH_CMD_ALL, F.TOUCH_CMD_KEY]⟩
def R.TOUCH_PRESSED : RegRow := ⟨0x120010, 4, 1, false, [F.TOUCH_PRESSED_PRESSED]⟩
def R.TOUCH_SELECT : RegRow := ⟨0x120014, 4, 1, false, [F.TOUCH_SELECT_SOURCE]⟩
def R.TOUCH_KEY_CFG : RegRow := ⟨0x120100, 0x20, 32, false, [F.TOUCH_KEY_CFG_GAIN, F.TOUCH_KEY_CFG_IND_PIN, F.TOUCH_KEY_CFG_DEBOUNCE]⟩
def R.TOUCH_KEY_THRESH : RegRow := ⟨0x120104, 0x20, 32, false, [F.TOUCH_KEY_THRESH_HYST, F.TOUCH_KEY_THRESH_THRESH]⟩
def R.TOUCH_KEY_HOLD : RegRow := ⟨0x120108, 0x20, 32, false, [F.TOUCH_KEY_HOLD_HOLD_S]⟩
def R.TOUCH_KEY_ACTION : RegRow := ⟨0x12010C, 0x20, 32, false, [F.TOUCH_KEY_ACTION_ACTION, F.TOUCH_KEY_ACTION_SLOT, F.TOUCH_KEY_ACTION_GROUP, F.TOUCH_KEY_ACTION_ALL, F.TOUCH_KEY_ACTION_ARG]⟩
def R.TOUCH_KEY_FACTORY : RegRow := ⟨0x120110, 0x20, 32, false, [F.TOUCH_KEY_FACTORY_BASE]⟩
def R.TOUCH_KEY_STATUS : RegRow := ⟨0x120114, 0x20, 32, false, [F.TOUCH_KEY_STATUS_STATE]⟩
def R.TOUCH_KEY_READING : RegRow := ⟨0x120118, 0x20, 32, false, [F.TOUCH_KEY_READING_BASELINE, F.TOUCH_KEY_READING_READING]⟩
def R.GPIO_OE : RegRow := ⟨0x130000, 4, 1, false, [F.GPIO_OE_OE]⟩
def R.GPIO_OUT : RegRow := ⟨0x130004, 4, 1, false, [F.GPIO_OUT_OUT]⟩
def R.GPIO_IN : RegRow := ⟨0x130008, 4, 1, false, [F.GPIO_IN_IN]⟩
def R.GPIO_POL : RegRow := ⟨0x13000C, 4, 1, false, [F.GPIO_POL_POL]⟩
def R.GPIO_EDGE_EN : RegRow := ⟨0x130010, 4, 1, false, [F.GPIO_EDGE_EN_EN]⟩
def R.GPIO_EDGE : RegRow := ⟨0x130014, 4, 1, false, [F.GPIO_EDGE_EDGE]⟩
def R.GPIO_EVENTS : RegRow := ⟨0x130018, 4, 1, false, [F.GPIO_EVENTS_EDGE]⟩

def regMapSys0 : List RegRow := [R.SYS_ID, R.SYS_PWR_CMD, R.SYS_PWR_STATUS, R.SYS_EVENTS,
  R.SYS_CFG_DROP, R.SYS_ENGINE_STATUS, R.SYS_BOOT_STATUS, R.SYS_ALARM,
  R.SYS_ALARM_MASK]
/-- The registers of the SYS block. -/
def regMapSys : List RegRow := regMapSys0
def regMapRst0 : List RegRow := [R.RST_CAUSE, R.RST_CLK_STATUS, R.RST_STRAPS, R.RST_LAST,
  R.RST_LAST_TICK]
/-- The registers of the RST block. -/
def regMapRst : List RegRow := regMapRst0
def regMapTick0 : List RegRow := [R.TICK_CTRL, R.TICK_STATUS, R.TICK_NUM_LO, R.TICK_NUM_HI,
  R.TICK_PHASE, R.TICK_DISCONT_DELTA_LO, R.TICK_DISCONT_DELTA_HI, R.TICK_EVENTS,
  R.TICK_ADM_MARGIN, R.TICK_CAP_DEC, R.TICK_CAP_SCL, R.TICK_CAP_BLD,
  R.TICK_CAP_ENC, R.TICK_CAP_MEM, R.TICK_USE_DEC, R.TICK_USE_SCL,
  R.TICK_USE_BLD, R.TICK_USE_ENC, R.TICK_USE_MEM, R.TICK_PAGE_FLUSH,
  R.TICK_SEAL_MISS_CNT, R.TICK_ADM_DEFER]
/-- The registers of the TICK block. -/
def regMapTick : List RegRow := regMapTick0
def regMapFrs0 : List RegRow := [R.FRS_LIMIT_DEFAULT, R.FRS_MARK_STYLE, R.FRS_MARK_RGB, R.FRS_LIVE_CTRL,
  R.FRS_LIVE_MASK, R.FRS_IMG_TABLE_LO, R.FRS_IMG_TABLE_HI, R.FRS_EVENTS,
  R.FRS_LOOPBACK_STATUS, R.FRS_LOOPBACK_CNT, R.FRS_NO_FRAME_CNT, R.FRS_ACK,
  R.FRS_ACK_PENDING, R.FRS_SRC_CFG, R.FRS_SRC_TIMER, R.FRS_SRC_MASK_LO,
  R.FRS_SRC_MASK_HI, R.FRS_SRC_IMG, R.FRS_SRC_STATE, R.FRS_SRC_CAPTURE_LO,
  R.FRS_SRC_CAPTURE_HI, R.FRS_OUT_STATUS, R.FRS_OUT_SEQ, R.FRS_OUT_TICK_LO]
def regMapFrs1 : List RegRow := [R.FRS_OUT_TICK_HI]
/-- The registers of the FRS block. -/
def regMapFrs : List RegRow := regMapFrs0 ++ regMapFrs1
def regMapCmp0 : List RegRow := [R.CMP_LAYOUT_TABLE_LO, R.CMP_LAYOUT_TABLE_HI, R.CMP_DESC_TABLE_LO, R.CMP_DESC_TABLE_HI,
  R.CMP_LAYOUT_SEL, R.CMP_LAYOUT_STATUS, R.CMP_LAYOUT_AT_LO, R.CMP_LAYOUT_AT_HI,
  R.CMP_SWITCH_CFG, R.CMP_TABLE_SIZE, R.CMP_EVENTS, R.CMP_MOOR_SPILL_LO,
  R.CMP_MOOR_SPILL_HI, R.CMP_MOOR_SPILL_SIZE, R.CMP_MOOR_CACHE_USED, R.CMP_MOOR_SPILL_USED,
  R.CMP_BERTH_QUERY, R.CMP_BERTH_PIN, R.CMP_BERTH_REC, R.CMP_POOL_BASE_LO,
  R.CMP_POOL_BASE_HI, R.CMP_POOL_CFG, R.CMP_POOL_STATUS, R.CMP_POOL_EMPTY_CNT]
def regMapCmp1 : List RegRow := [R.CMP_OUT_OWNER, R.CMP_OUT_STATE]
/-- The registers of the CMP block. -/
def regMapCmp : List RegRow := regMapCmp0 ++ regMapCmp1
def regMapPix0 : List RegRow := [R.PIX_COEF_TABLE_LO, R.PIX_COEF_TABLE_HI, R.PIX_LUT_TABLE_LO, R.PIX_LUT_TABLE_HI,
  R.PIX_LUT_COUNT, R.PIX_EVENTS, R.PIX_RATIO_CNT, R.PIX_MAT_STAGE,
  R.PIX_MAT_COMMIT, R.PIX_MAT_QUERY, R.PIX_MAT_READ, R.PIX_OUT_CFG]
/-- The registers of the PIX block. -/
def regMapPix : List RegRow := regMapPix0
def regMapDec0 : List RegRow := [R.DEC_BS_BASE_LO, R.DEC_BS_BASE_HI, R.DEC_BS_CFG, R.DEC_EVENTS,
  R.DEC_LATE_PICTURES, R.DEC_CMD, R.DEC_CMD_STATUS, R.DEC_SESS_CFG,
  R.DEC_SESS_SIZE, R.DEC_SESS_TS, R.DEC_SESS_STATE, R.DEC_SESS_PIC,
  R.DEC_SESS_RES, R.DEC_SESS_CNT_SEALED, R.DEC_SESS_CNT_HELD, R.DEC_SESS_CNT_NEVER,
  R.DEC_SESS_CNT_LOSS, R.DEC_SESS_ERR_SEEN]
/-- The registers of the DEC block. -/
def regMapDec : List RegRow := regMapDec0
def regMapEnc0 : List RegRow := [R.ENC_BS_BASE_LO, R.ENC_BS_BASE_HI, R.ENC_EVENTS, R.ENC_CMD,
  R.ENC_CMD_STATUS, R.ENC_SESS_CFG, R.ENC_SESS_ORIGIN, R.ENC_SESS_SIZE,
  R.ENC_SESS_RATE, R.ENC_SESS_GDR, R.ENC_SESS_QP, R.ENC_SESS_SEI_LO,
  R.ENC_SESS_SEI_HI, R.ENC_SESS_STATE, R.ENC_SESS_FULLNESS, R.ENC_SESS_LAST_BITS,
  R.ENC_SESS_RES, R.ENC_SESS_CNT_CODED, R.ENC_SESS_CNT_RATE_FLOOR, R.ENC_SESS_CNT_TIME_FLOOR,
  R.ENC_SESS_CNT_NO_INPUT]
/-- The registers of the ENC block. -/
def regMapEnc : List RegRow := regMapEnc0
def regMapNet0 : List RegRow := [R.NET_MAC_BASE_LO, R.NET_MAC_BASE_HI, R.NET_EVENTS, R.NET_DROP_UNMATCHED,
  R.NET_DROP_IPV6, R.NET_DROP_MALFORMED, R.NET_DROP_FRAGMENT, R.NET_IGMP_STATUS,
  R.NET_WIT_CFG, R.NET_WIT_MASK, R.NET_WIT_VIDEO, R.NET_PORT_CFG,
  R.NET_PORT_ADDR0, R.NET_PORT_ADDR1, R.NET_PORT_SUBNET, R.NET_PORT_GW,
  R.NET_PORT_VLAN, R.NET_PORT_DELAY, R.NET_PORT_STATUS, R.NET_SRC_CFG,
  R.NET_SRC_SIZE, R.NET_SRC_CNT_FRAMES, R.NET_SRC_CNT_DISCARD, R.NET_RX_FLOW_CFG]
def regMapNet1 : List RegRow := [R.NET_RX_FLOW_DST, R.NET_RX_FLOW_UDP, R.NET_RX_FLOW_SRCIP, R.NET_TX_CFG,
  R.NET_TX_SSRC, R.NET_TX_SRCIP, R.NET_TX_TIMING, R.NET_TX_PKT,
  R.NET_TX_STAMP_UDP, R.NET_TX_LATE_CNT, R.NET_TX_STATUS, R.NET_TX_PATH_CFG_0,
  R.NET_TX_PATH_DST_0, R.NET_TX_PATH_UDP_0, R.NET_TX_PATH_STAMP_0, R.NET_TX_PATH_CFG_1,
  R.NET_TX_PATH_DST_1, R.NET_TX_PATH_UDP_1, R.NET_TX_PATH_STAMP_1, R.NET_WIT_STATE,
  R.NET_WIT_CNT]
/-- The registers of the NET block. -/
def regMapNet : List RegRow := regMapNet0 ++ regMapNet1
def regMapLane0 : List RegRow := [R.LANE_REFCLK_STATUS, R.LANE_REFCLK_LOSS, R.LANE_EVENTS, R.LANE_MARGIN_MIN,
  R.LANE_ADAPT_CFG, R.LANE_TETHER_CFG, R.LANE_TETHER_STATUS, R.LANE_SCAN_CTRL,
  R.LANE_SCAN_RESULT, R.LANE_CFG, R.LANE_STATUS, R.LANE_CNT_LOCK,
  R.LANE_CNT_RETRAIN, R.LANE_CNT_MCHK_FAIL, R.LANE_QUAD_CFG, R.LANE_QUAD_STATUS]
/-- The registers of the LANE block. -/
def regMapLane : List RegRow := regMapLane0
def regMapTime0 : List RegRow := [R.TIME_CTRL, R.TIME_STATUS, R.TIME_CMD, R.TIME_EVENTS,
  R.TIME_NOW_NS, R.TIME_NOW_SEC_LO, R.TIME_NOW_SEC_HI, R.TIME_RATE,
  R.TIME_UTC, R.TIME_TICKOUT_CFG, R.TIME_SRV_CFG, R.TIME_SRV_WINDOW,
  R.TIME_SRV_ASYM, R.TIME_SRV_STATE, R.TIME_SRV_OFFSET, R.TIME_SRV_DELAY,
  R.TIME_SRV_GM_LO, R.TIME_SRV_GM_HI, R.TIME_SRV_MASTER_LO, R.TIME_SRV_MASTER_HI,
  R.TIME_SRV_CNT_OUTLIER, R.TIME_SRV_CNT_LOSS, R.TIME_TRIG_CFG, R.TIME_TRIG_START_NS]
def regMapTime1 : List RegRow := [R.TIME_TRIG_START_SEC_LO, R.TIME_TRIG_START_SEC_HI, R.TIME_TRIG_PERIOD, R.TIME_TRIG_STATUS,
  R.TIME_CAP_CFG, R.TIME_CAP_NS, R.TIME_CAP_SEC_LO, R.TIME_CAP_SEC_HI,
  R.TIME_CAP_STATUS, R.TIME_CAP_DROP]
/-- The registers of the TIME block. -/
def regMapTime : List RegRow := regMapTime0 ++ regMapTime1
def regMapPair0 : List RegRow := [R.PAIR_CTRL, R.PAIR_SETTLE, R.PAIR_STATUS, R.PAIR_EPOCH,
  R.PAIR_CMD, R.PAIR_CMD_STATUS, R.PAIR_EVENTS, R.PAIR_HEALTH_LO,
  R.PAIR_HEALTH_HI, R.PAIR_PARTNER_HEALTH_LO, R.PAIR_PARTNER_HEALTH_HI, R.PAIR_HEALTH_CFG,
  R.PAIR_LAST_MISMATCH, R.PAIR_LAST_CHANGE_LO, R.PAIR_LAST_CHANGE_HI, R.PAIR_CNT_MISMATCH,
  R.PAIR_CNT_NEUTRAL, R.PAIR_CNT_REIN_MISS, R.PAIR_CNT_FRAME_ERR, R.PAIR_CNT_WRITE_REFUSED,
  R.PAIR_MIRROR_STATUS, R.PAIR_SYNC_PROGRESS]
/-- The registers of the PAIR block. -/
def regMapPair : List RegRow := regMapPair0
def regMapMem0 : List RegRow := [R.MEM_MAP, R.MEM_STATUS, R.MEM_EVENTS, R.MEM_CE_CNT,
  R.MEM_UE_CNT, R.MEM_ERR_ADDR_LO, R.MEM_ERR_ADDR_HI, R.MEM_ERR_INFO,
  R.MEM_SCHED_CFG, R.MEM_SCRUB_CFG, R.MEM_SCRUB_STATUS, R.MEM_SR_STATUS,
  R.MEM_TEMP, R.MEM_CH_STATUS, R.MEM_CH_CE]
/-- The registers of the MEM block. -/
def regMapMem : List RegRow := regMapMem0
def regMapHost0 : List RegRow := [R.HOST_SLOT_STATUS, R.HOST_FAULT_ADDR_LO, R.HOST_FAULT_ADDR_HI, R.HOST_DP_CTRL,
  R.HOST_DP_ADDR_LO, R.HOST_DP_ADDR_HI, R.HOST_EVQ_POP0, R.HOST_EVQ_POP1,
  R.HOST_EVQ_POP2, R.HOST_EVQ_POP3, R.HOST_EVQ_STATUS, R.HOST_EVQ_EN,
  R.HOST_EVENTS, R.HOST_EVENT_PIN, R.HOST_MGMT_ADDR0, R.HOST_MGMT_ADDR1,
  R.HOST_FUHEL_CFG, R.HOST_CNT_UNBOUND, R.HOST_CNT_SEQ_DROP, R.HOST_LC_STATUS,
  R.HOST_LC_CMD, R.HOST_PROT_ROUTE, R.HOST_PROT_PEER, R.HOST_PROT_PERM]
def regMapHost1 : List RegRow := [R.HOST_PROT_RGN_BASE, R.HOST_PROT_RGN_SIZE, R.HOST_PROT_RGN_PERM]
/-- The registers of the HOST block. -/
def regMapHost : List RegRow := regMapHost0 ++ regMapHost1
def regMapUpd0 : List RegRow := [R.UPD_CMD, R.UPD_STATUS, R.UPD_EVENTS, R.UPD_WIN_POS,
  R.UPD_VERSION_RUN, R.UPD_VERSION_STAGED, R.UPD_PARTNER, R.UPD_OTP_SVN]
/-- The registers of the UPD block. -/
def regMapUpd : List RegRow := regMapUpd0
def regMapChk0 : List RegRow := [R.CHK_EVENTS, R.CHK_CH_CFG, R.CHK_CH_ALIVE, R.CHK_CH_POLY_LO,
  R.CHK_CH_POLY_HI, R.CHK_CH_INIT_LO, R.CHK_CH_INIT_HI, R.CHK_CH_XOROUT_LO,
  R.CHK_CH_XOROUT_HI, R.CHK_CH_VALUE_LO, R.CHK_CH_VALUE_HI, R.CHK_CH_RESULT_LO,
  R.CHK_CH_RESULT_HI, R.CHK_CH_DATA8, R.CHK_CH_DATA16, R.CHK_CH_DATA32,
  R.CHK_CH_CMD, R.CHK_CH_ADDR_LO, R.CHK_CH_ADDR_HI, R.CHK_CH_LEN]
/-- The registers of the CHK block. -/
def regMapChk : List RegRow := regMapChk0
def regMapPerf0 : List RegRow := [R.PERF_CTRL, R.PERF_CMD, R.PERF_SNAP_TICK_LO, R.PERF_SNAP_TICK_HI,
  R.PERF_SNAP_SEQ, R.PERF_EVENTS, R.PERF_BW_CFG, R.PERF_BW_SEQ,
  R.PERF_SAMPLE_CFG, R.PERF_SAMPLE_POP, R.PERF_SAMPLE_STATUS, R.PERF_SEL,
  R.PERF_CNT_LO, R.PERF_CNT_HI, R.PERF_BW_RX, R.PERF_BW_TX]
/-- The registers of the PERF block. -/
def regMapPerf : List RegRow := regMapPerf0
def regMapBbox0 : List RegRow := [R.BBOX_CFG, R.BBOX_STATUS, R.BBOX_NEXT_SEQ, R.BBOX_TRIG_SEQ,
  R.BBOX_LOST, R.BBOX_CMD, R.BBOX_MARK, R.BBOX_SPILL_FIRST,
  R.BBOX_EVENTS]
/-- The registers of the BBOX block. -/
def regMapBbox : List RegRow := regMapBbox0
def regMapTouch0 : List RegRow := [R.TOUCH_CTRL, R.TOUCH_KEY_EN, R.TOUCH_EVENTS, R.TOUCH_CMD,
  R.TOUCH_PRESSED, R.TOUCH_SELECT, R.TOUCH_KEY_CFG, R.TOUCH_KEY_THRESH,
  R.TOUCH_KEY_HOLD, R.TOUCH_KEY_ACTION, R.TOUCH_KEY_FACTORY, R.TOUCH_KEY_STATUS,
  R.TOUCH_KEY_READING]
/-- The registers of the TOUCH block. -/
def regMapTouch : List RegRow := regMapTouch0
def regMapGpio0 : List RegRow := [R.GPIO_OE, R.GPIO_OUT, R.GPIO_IN, R.GPIO_POL,
  R.GPIO_EDGE_EN, R.GPIO_EDGE, R.GPIO_EVENTS]
/-- The registers of the GPIO block. -/
def regMapGpio : List RegRow := regMapGpio0

/-- The rows of one block of R5. -/
def regBlock : Nat → List RegRow
  | 0 => regMapSys
  | 1 => regMapRst
  | 2 => regMapTick
  | 3 => regMapFrs
  | 4 => regMapCmp
  | 5 => regMapPix
  | 6 => regMapDec
  | 7 => regMapEnc
  | 8 => regMapNet
  | 9 => regMapLane
  | 10 => regMapTime
  | 11 => regMapPair
  | 12 => regMapMem
  | 13 => regMapHost
  | 14 => regMapUpd
  | 15 => regMapChk
  | 16 => regMapPerf
  | 17 => regMapBbox
  | 18 => regMapTouch
  | 19 => regMapGpio
  | _ => []

/-- The row and instance that an aligned address of the register map names (R5, R8). -/
def findReg (addr : Nat) : Option (RegRow × Nat) :=
  match (regBlock (addr / 65536)).find? (fun r =>
      r.base ≤ addr ∧ addr < r.base + r.stride * r.count ∧ (addr - r.base) % r.stride = 0) with
  | some r => some (r, (addr - r.base) / r.stride)
  | none => none

end Sys2Proof.Machine
end

