-- ==== Sys2Proof/Machine/State.lean ====
section
/-!
DEFINITION. The state of the block as plain data: every register (in `Device.regs`, by field), DRAM, flash
and OTP (`Memory`), the queues, engines and sequencers of the chapters, and the queue of waiting commands.
`State.reset` is the block right after power-on reset is released with RESET_N high (R338, R341).
-/

namespace Sys2Proof.Machine

/-! ## Registers, time and events -/

/-- The key of one field instance: the field's number (`Fld.id`), the instance, and the bank (0 for a
register the slots share, slot + 1 for a register held per slot). -/
abbrev Key := Nat × Nat × Nat

/-- The power states of R353, with the states SYS_PWR_STATUS.STATE adds (R366). -/
inductive Pwr where
  | off | boot | halted | watch | standby | ready | run | failed
  deriving DecidableEq, Repr

/-- One event of the black box before it has a sequence number (R421, R422). -/
structure BbEvent where
  code : Nat
  source : Nat
  tick : Nat
  ns : Nat
  arg0 : Nat
  arg1 : Nat
  deriving DecidableEq, Repr

/-- One entry of the black box (R421). -/
structure BbEntry where
  seq : Nat
  ev : BbEvent
  trigger : Bool
  deriving DecidableEq, Repr

/-- The black box (R421 to R426): SRAM entries by offset index, staging queue, next sequence number, the
events still to record after a trigger, and the spill ring by index. -/
structure BBox where
  sram : Tab Nat BbEntry
  staging : List BbEvent
  post : Option Nat
  spill : Tab Nat BbEntry
  spillOn : Bool
  deriving DecidableEq, Repr

/-- An occurrence at which a sample is due (R420): output and tile, the blend pipe where one took part, the tick. -/
structure SampleDue where
  output : Nat
  tile : Nat
  pipe : Option Nat
  tick : Nat
  deriving DecidableEq, Repr

/-- The performance counters (R416 to R420): running counters, snapshot bank, the commands waiting for the
next edge, the sample buffer, the occurrences since the last sample, the samples due, and the byte counts of the window. -/
structure Perf where
  cnt : Tab Nat Nat
  snap : Tab Nat Nat
  atEdge : List Nat
  samples : List Nat
  occ : Nat
  due : List SampleDue
  rxBytes : Tab Nat Nat
  txBytes : Tab Nat Nat
  windowStart : Option Nat
  deriving DecidableEq, Repr

/-- A range that the shared reader of R414 has still to end: channel, slot, address and length. -/
structure ChkRange where
  chan : Nat
  slot : Nat
  addr : Nat
  len : Nat
  deriving DecidableEq, Repr

/-! ## Berths (R112 to R119) -/

/-- The states of R114; READING is SEALED with a reference count above 0. -/
inductive BerthSt where
  | free | filling | sealed
  deriving DecidableEq, Repr

/-- Who holds a reference to a berth (R114); a path or checker of a frame that began before the tick has a name of
its own. -/
inductive Holder where
  | comp
  | path (entry path : Nat)
  | loop (entry path : Nat)
  | tailPath (entry path : Nat)
  | tailLoop (entry path : Nat)
  | enc (session : Nat)
  | dec (session poc : Nat)
  | pin (slot : Nat)
  deriving DecidableEq, Repr

/-- One berth: state, the fields of its record (R119), its region signatures (R59), its references, the
producer's writes not yet acknowledged (R325), whether the producer has finished, and the tick numbering in which its
capture tick counts (`Tick.scale`), and the place of a decoded picture in output order (R43). -/
structure Berth where
  st : BerthSt
  kind : Nat
  prod : Nat
  corrupt : Bool
  width : Nat
  height : Nat
  stride : Nat
  format : Nat
  capture : Nat
  sealTick : Nat
  sealGap : Bool
  rtpTs : Nat
  sigs : List (BitVec 16)
  refs : List Holder
  unacked : Nat
  done : Bool
  scale : Nat
  order : Option (Nat × Int)
  deriving DecidableEq, Repr

def Berth.empty : Berth :=
  ⟨.free, 0, 0, false, 0, 0, 0, 0, 0, 0, false, 0, [], [], 0, false, 0, none⟩

/-! ## Sources (R42 to R63) -/

/-- What the device keeps for a source beside its registers: newest and fallback berth (R115), the berth of
the input set of the tick, recovery count, change tick, the signatures and size of the frame sealed last,
the RTP timestamp sealed last (R43), the transport counters of R58, whether it was referenced, and the tick numbering
in which the change tick counts. -/
structure Src where
  newest : Option Nat
  fallback : Option Nat
  input : Option Nat
  recov : Nat
  chg : Nat
  prevSigs : List (BitVec 16)
  prevW : Nat
  prevH : Nat
  lastTs : Option Nat
  pktSeen : Bool
  advSeen : Bool
  quiet : Nat
  stall : Nat
  lastIncomplete : Bool
  referenced : Bool
  chgScale : Nat
  deriving DecidableEq, Repr

def Src.empty : Src :=
  ⟨none, none, none, 0, 0, [], 0, 0, none, false, false, 255, 255, false, false, 0⟩

/-! ## Layouts (R84 to R111) -/

/-- An output record of a layout (R89). -/
structure OutRec where
  out : Nat
  shape : Nat
  format : Nat
  width : Nat
  height : Nat
  postMatrix : Nat
  postLut : Nat
  background : Nat
  layerCount : Nat
  layers : List Nat
  deriving DecidableEq, Repr

/-- A layer descriptor (R92). -/
structure Desc where
  kind : Nat
  enable : Bool
  moor : Bool
  source : Nat
  imgAddr : Nat
  imgFormat : Nat
  imgW : Nat
  imgH : Nat
  imgStride : Nat
  cropX : Nat
  cropY : Nat
  cropW : Nat
  cropH : Nat
  dstX : Int
  dstY : Int
  dstW : Nat
  dstH : Nat
  clipX : Nat
  clipY : Nat
  clipW : Nat
  clipH : Nat
  opacity : Nat
  alphaMode : Nat
  scalerH : Nat
  scalerV : Nat
  preLut : Nat
  matrix : Nat
  deriving DecidableEq, Repr

/-- How a moored tile is stored (R108, R109): EMPTY, SOLID, in cache blocks, or in numbered blocks of the spill region. -/
inductive MoorStore where
  | empty
  | solid (p : Px)
  | cache (blocks : Nat) (px : List Px)
  | spill (blocks : List Nat) (px : List Px)
  deriving DecidableEq, Repr

/-- A moored stack: the output record it belongs to, the position of its lowest layer, its descriptor
indices, and its 256 tiles (R107 to R109). -/
structure MoorStack where
  orec : OutRec
  member : Nat
  pos : Nat
  descs : List Nat
  tiles : List MoorStore
  deriving DecidableEq, Repr

/-- A layout as read from DRAM (R88, R89) with its reservations (R106, R115), its moored stacks, and the descriptors that
its layers name, as the checks of R95 read them. -/
structure Layout where
  index : Nat
  outs : List OutRec
  scl : Nat
  bld : Nat
  memWu : Nat
  berths : List Nat
  moored : List MoorStack
  named : Tab Nat Desc
  deriving DecidableEq, Repr

/-- A layout request that is pending (R95): its slot, its tick, the layout checked, and how far it is. -/
structure LayoutReq where
  slot : Nat
  index : Nat
  at_ : Nat
  layout : Layout
  same : Bool
  prepared : Bool
  cancel : Bool
  edges : Nat
  deriving DecidableEq, Repr

/-! ## Outputs and their stamps (R64 to R81) -/

/-- One record of a stamp (R71). -/
structure TileRec where
  check : BitVec 32
  stale : Bool
  coarse : Bool
  age : Nat
  deriving DecidableEq, Repr

/-- What an output sealed in a tick: the tick, the berth, the records fixed at the seal deadline, the LAYOUT
flag, the output record, and for the digest exchange (R296) the tiles replaced, LAYER_OK and the input tags by
position in the stack. -/
structure SealedOut where
  tick : Nat
  berth : Option Nat
  recs : List TileRec
  layoutFlag : Bool
  orec : OutRec
  repl : List Nat
  layerOk : List Bool
  tags : List Nat
  deriving DecidableEq, Repr

/-- What holds at a tick edge for the stamps that cover its tick (R70): number, device time, TICK_STATUS.SRC,
domain and grandmaster. -/
structure TickInfo where
  num : Nat
  ns : Nat
  src : Nat
  domain : Nat
  gm : Nat
  deriving DecidableEq, Repr

/-- What an output still sends of a frame whose schedule runs past a tick edge, or past the step gap in which it began
(R25, R226, R355): the frame; whether its times count from the start of the gap by the crystal, and that start, or else
the number of the tick in which it began; the transmit offset; the extended sequence number of its next packet, all of whose
numbers are taken (R225); the paths, packets and checks as in `OutSt`; whether its
stamp is due, whether its berth was found corrupt; the stamp's sequence number, its DISCONT and HANDOVER bits and its
state of time; and whether it is sent because the unit was sending when it left RUN. -/
structure OutTail where
  frame : SealedOut
  gapped : Bool
  base : Nat
  tro : Nat
  ext : Nat
  paths : List Nat
  npk : Nat
  sentPk : Nat
  checked : List (Nat × Nat)
  failed : Bool
  stampDue : Bool
  gone : Bool
  seq : Nat
  marks : Nat
  info : TickInfo
  leaving : Bool
  deriving DecidableEq, Repr

/-- What the device keeps for an output slot: the berth taken in the tick, the records of the tiles blended,
what was sealed in the tick before (PREVIOUS, R115), what is being sent, the stamp state, and what is left of a frame
that began before the tick. -/
structure OutSt where
  berth : Option Nat
  tiles : Tab Nat TileRec
  prev : Option SealedOut
  sending : Option SealedOut
  started : Bool
  paths : List Nat
  npk : Nat
  sentPk : Nat
  checked : List (Nat × Nat)
  failed : Bool
  stampDue : Bool
  stampDone : Bool
  seq : Nat
  lastTick : Option Nat
  discont : Bool
  layoutFirst : Bool
  handover : Bool
  stampSent : Bool
  stampStatus : Nat
  tail : Option OutTail
  deriving DecidableEq, Repr

def OutSt.empty : OutSt :=
  ⟨none, [], none, none, false, [], 0, 0, [], false, false, false, 0, none, false, false, false, false, 2, none⟩

/-! ## The tick (R20 to R40) -/

/-- The scheduler, the sentinel and the pager: whether a tick is in progress, whether RUN has had an edge,
the numbers of the edge asserted last and of the one before, what is known of them; whether the work list is
published, was published by 0.05 T (`early`) and was found so by the sentinel, whether the seal ran, whether the sentinel
has judged the tick, the certifications of this tick and the one before, the heartbeats of R30; flush and
acknowledgements for the next edge; the caches, their entries from the least to the most recently used, the tiles of the
work list that are not blended in its order (R105), the moored stacks as they stand at the next edge (R110), and the tiles
stalled; how often the numbering of ticks has changed (by a step, or by leaving RUN), whether every step has been reported
(R268), whether any edge has been made, and whether the last one was a discontinuity. -/
structure Tick where
  running : Bool
  inTick : Bool
  gap : Bool
  everEdge : Bool
  num : Nat
  last : Nat
  afterGap : Bool
  info : TickInfo
  infos : List TickInfo
  edgeNow : Nat
  edgeErr : Nat
  runAccept : Nat
  leave : Bool
  published : Bool
  publishedOk : Bool
  sealRan : Bool
  cert : Bool
  prevCert : Bool
  early : Bool
  judged : Bool
  sysBeat : Option Nat
  watchBeat : Option Nat
  flush : Bool
  acks : List Nat
  ackAll : Bool
  descs : Tab Nat (Option Desc)
  luts : Tab Nat (Option LutSet)
  coefs : Tab Nat (Option (List Int))
  marks : Tab Nat (Option (Pic × Dram))
  lru : List (Nat × Nat)
  work : List (Nat × Nat)
  moving : Option (List MoorStack)
  stalled : List (Nat × Nat × Nat)
  ratio : List (Nat × Nat)
  abandoned : List (Nat × Nat)
  scale : Nat
  told : Bool
  had : Bool
  jumped : Bool
  deriving DecidableEq, Repr

/-! ## Memory controllers (R313 to R334) -/

/-- One request of one burst (R321): its address, whether it writes, the bytes it writes from an offset in
the burst, its requester, its use. -/
structure MemReq where
  addr : Nat
  write : Bool
  off : Nat
  data : List Byte
  by_ : Requester
  use : MemUse
  deriving DecidableEq, Repr

/-- One channel controller (R321 to R323): its queue, the requests waiting in the interconnect, the open
rows by bank with their run lengths, and the refreshes each bank has postponed. -/
structure Channel where
  queue : List MemReq
  waiting : List MemReq
  open_ : Tab Nat (Nat × Nat)
  postponed : Tab Nat Nat
  deriving DecidableEq, Repr

def Channel.empty : Channel := ⟨[], [], [], []⟩

/-- The stages of a rate change of channels 0 and 16 (R334). -/
inductive Fchg where
  | toStandby | toReady
  deriving DecidableEq, Repr

def Tick.reset : Tick :=
  ⟨false, false, false, false, 0, 0, false, ⟨0, 0, 0, 0, 0⟩, [], 0, 0, 0, false, false, false, false, false, false, false, false, none, none,
    false, [], false, [], [], [], [], [], [], none, [], [], [], 0, true, false, false⟩

/-! ## What a command sends out -/

/-- The headers of a datagram sent on a port: VLAN tag (VID and PCP), MAC addresses, IPv4 addresses, TTL,
DSCP, UDP ports, whether the UDP checksum is computed (R208, R223), and the device time of its MAC timestamp: a frame
leaves the interface later by the transmit correction (R221). -/
structure TxHdr where
  port : Nat
  tag : Option (Nat × Nat)
  dstMac : Nat
  srcMac : Nat
  src : Nat
  dst : Nat
  ttl : Nat
  dscp : Nat
  sport : Nat
  dport : Nat
  checksum : Bool
  macNs : Int
  deriving DecidableEq, Repr

/-- What the block hands to the outside in the course of a command: the result and data of a host access
(R379), a value read, a datagram or frame on a media port or the management port (port 32), or a frame on
the tether with the type its payload says. -/
inductive Out where
  | result (slot code : Nat) (data : List Byte)
  | value (v : Nat)
  | datagram (h : TxHdr) (payload : List Byte)
  | arp (port : Nat) (tag : Option (Nat × Nat)) (op senderMac senderIp targetMac targetIp : Nat)
  | icmpReply (port : Nat) (tag : Option (Nat × Nat)) (dstIp srcIp : Nat) (payload : List Byte)
  | igmp (port : Nat) (tag : Option (Nat × Nat)) (src : Nat) (v2 : Bool) (records : List (Nat × Nat × List Nat))
  | tether (hdr : TetherHdr) (body : TetherBody) (bytes : List Byte)
  | fuhel (port : Nat) (tag : Option (Nat × Nat)) (src ip udp op session seq slot status : Nat) (body bytes : List Byte)
  | pulse (pin : Nat)
  | ptpDelayReq (servo port : Nat) (tag : Option (Nat × Nat)) (seq src dst ttl : Nat)
  | advertise (port mode : Nat) (fec : Bool)
  deriving DecidableEq, Repr
/-! ## Media ports and flows (R206 to R234) -/

/-- An entry of the ARP cache (R211), the most recently used one last in its list. -/
structure ArpEntry where
  port : Nat
  ip : Nat
  mac : Nat
  learned : Nat
  deriving DecidableEq, Repr

/-- A next hop asked for and not answered: requests sent, and when the last one was. -/
structure ArpWait where
  port : Nat
  ip : Nat
  tries : Nat
  lastNs : Nat
  deriving DecidableEq, Repr

/-- A state-change report to send a second time (R212). -/
structure IgmpRepeat where
  port : Nat
  due : Nat
  records : List (Nat × Nat × List Nat)
  deriving DecidableEq, Repr

/-- A frame that ingest is filling (R218): RTP timestamp, its berth, its capture tick, the pixel groups written
of each line as a bit mask, when its last packet came, and the tick numbering of its capture tick. A frame that found no berth has none (R118). -/
structure Filling where
  ts : Nat
  berth : Option Nat
  capture : Nat
  rows : Tab Nat Nat
  lastNs : Nat
  scale : Nat
  deriving DecidableEq, Repr

/-- Ingest of one source: frames in FILLING, oldest first; the sequence numbers seen of recent frames (R220);
the largest sequence number; and the frame discarded last under R43. -/
structure Ingest where
  filling : List Filling
  seen : List (Nat × List Nat)
  maxSeq : Option Nat
  dropped : Option Nat
  deriving DecidableEq, Repr

def Ingest.empty : Ingest := ⟨[], [], none, none⟩

/-- The witness of one output (R231, R232): accepted stamps by tick with status and whether the video test
held, the timestamps of video packets that came, the tick of the stamp accepted last, whether each accepted
stamp advanced, and the verdicts given by tick. -/
structure WitOut where
  stamps : List (Nat × Nat × Bool × Bool)
  video : List Nat
  lastTick : Option Nat
  first : Bool
  verdicts : List (Nat × Nat)
  deriving DecidableEq, Repr

def WitOut.empty : WitOut := ⟨[], [], none, true, []⟩

/-- The media side beside the registers. `txOn` are the transmit entries enabled at the edge, `txExt` the next
sequence number of each entry (R223), `flowsNow` and `flowsLast` the flows that matched in this tick and the
one before. -/
structure Net where
  arp : List ArpEntry
  arpWait : List ArpWait
  igmpRepeat : List IgmpRepeat
  igmpV2 : Tab Nat Nat
  ingest : Tab Nat Ingest
  wit : Tab Nat WitOut
  witEpoch : Option Nat
  txOn : List Nat
  txExt : Tab Nat Nat
  flowsNow : List Nat
  flowsLast : List Nat
  deriving DecidableEq, Repr

/-! ## Decode sessions (R153 to R175) -/

/-- An access unit (R159): RTP timestamp, capture tick (R42) with the numbering it counts in, extended sequence numbers,
bytes, the header parsed, the error classes found, whether it overflowed its ring, whether its first packet carried a
header and a packet its marker bit, and the tick edge in progress when it ended. -/
structure AccessUnit where
  ts : Nat
  capture : Nat
  scale : Nat
  seqs : List Nat
  size : Nat
  head : Option PicHead
  errs : List Nat
  overflow : Bool
  start : Bool
  marked : Bool
  ended : Option Nat
  deriving DecidableEq, Repr

/-- A decode job (R160): its place among the session's access units, header, capture tick with the numbering it counts
in, RTP timestamp, ring bytes, errors so far, whether an edge did not admit it (R36); once admitted, its berth, the tick of admission and whether it has
started. -/
structure DecJob where
  no : Nat
  head : PicHead
  capture : Nat
  scale : Nat
  ts : Nat
  size : Nat
  errs : List Nat
  deferred : Bool
  berth : Option Nat
  admitted : Nat
  started : Bool
  deriving DecidableEq, Repr

/-- A picture of the DPB: order, berth, whether it is clean (R169), and its place among the session's access units. -/
structure DpbPic where
  poc : Int
  berth : Nat
  clean : Bool
  index : Nat
  deriving DecidableEq, Repr

/-- A decode session beside its registers: access units in order, jobs waiting and running, DPB, write position in the
ring, merged sequence state, largest sequence number of the last access unit and whether it had its marker bit, whether no packet came since the last edge
and none in the tick before it (R159), transport stream state (continuity counters, program and PID of its PMT, elementary
stream PID), coded video sequence and order of the picture sealed last, access units numbered so far, gradual refreshes in
progress (target, first access unit), the access units with a fault of their own, and RASL skipping. -/
structure DecSess where
  aus : List AccessUnit
  jobs : List DecJob
  running : List DecJob
  dpb : List DpbPic
  ringPos : Nat
  maxSeq : Option Nat
  seen : List Nat
  lastEnd : Option (Nat × Bool)
  quiet : Bool
  idle : Bool
  cc : Tab Nat Nat
  pmtPid : Option (Nat × Nat)
  esPid : Option Nat
  cvs : Nat
  lastOut : Option (Nat × Int)
  index : Nat
  refresh : List (Int × Nat)
  faults : List Nat
  skipRasl : Bool
  deriving DecidableEq, Repr

def DecSess.empty : DecSess :=
  ⟨[], [], [], [], 0, none, [], none, false, false, [], none, none, 0, none, 0, [], [], false⟩

/-- A command of the decode or encode block that waits for the tick edge: operation, session, slot. -/
structure SessCmd where
  op : Nat
  sess : Nat
  slot : Nat
  deriving DecidableEq, Repr

/-! ## Encode sessions (R176 to R205) -/

/-- A picture to be coded (R177 to R179, R187, R192 to R202), in order: its input tick, mode, whether its input is missing, the
edge of its admission, whether its rate control has begun and whether it has started; the next CTU row and the rows whose
tiles are ready; spent bits, floor modes (by budget, by time, by a memory error), CAP, T and B; its period position, whether
it is an IDR picture and whether it starts a period; the berth it reads as a picture with the one it holds, whether the input
is black; the age and STALE flag of a followed source, or the frame of a followed output that it shows; the bits and QP of its
rows; the CTUs coded at floor; its NAL units; the lines of its input and of its reconstruction; the length of its hash SEI
message; the host's SEI NAL unit; and the ratio by which the pacing rate is raised (R194). -/
structure EncJob where
  tick : Nat
  ctuRow : Bool
  missing : Bool
  admitted : Nat
  begun : Bool
  started : Bool
  row : Nat
  ready : Nat
  spent : Nat
  floorMode : Bool
  timeFloor : Bool
  memFloor : Bool
  cap : Nat
  target : Int
  b : Nat
  pos : Nat
  idr : Bool
  starts : Bool
  pic : Option Pic
  input : Option Nat
  black : Bool
  age : Nat
  stale : Bool
  shown : Option SealedOut
  hist : List (Nat × Nat)
  coarse : List Nat
  nals : List (List Byte)
  slices : List (List Byte)
  srcY : List (List Nat)
  srcCb : List (List Nat)
  srcCr : List (List Nat)
  luma : List (List Nat)
  cb : List (List Nat)
  cr : List (List Nat)
  hashLen : Nat
  sei : List Byte
  pace : Nat × Nat
  deriving DecidableEq, Repr

/-- A coded picture on its way out (R195, R199, R203, R224): its tick, whether the input was missing, the edge
from which it is sent, the NAL units left and the bytes sent of the first, the check codes of its slices, whether
every slice is in, its records, how the pacing rate is raised, whether its first packet has left, the slices checked by path,
and whether a check has failed. -/
structure Feed where
  tick : Nat
  missing : Bool
  startEdge : Nat
  nals : List (List Byte)
  off : Nat
  crcs : List (BitVec 32)
  whole : Bool
  recs : List TileRec
  pace : Nat × Nat
  begun : Bool
  checked : List (Nat × Nat)
  dead : Bool
  deriving DecidableEq, Repr

/-- What the digest exchange says of a coded picture (R296, R297): the tick in which its coding completed, its
input tick, its records, whether it was time-floored, whether it is an IDR picture, and the tag of its source. -/
structure FeedCheck where
  done : Nat
  tick : Nat
  recs : List TileRec
  timeFloored : Bool
  idr : Bool
  tag : Nat
  deriving DecidableEq, Repr

/-- An encode session beside its registers: buffer fullness V, the numbers p and q of R187, whether the next
picture starts a period, the rows of the picture coded last, pictures being coded and sent, when the next packet may leave
(R224), the two reconstruction berths, the position in its ring, and the checks of the pictures coded last for the digest
exchange and the ticks in which the picture was comparable and equal. -/
structure EncSess where
  v : Nat
  p : Nat
  q : Nat
  restart : Bool
  hist : List (Nat × Nat)
  jobs : List EncJob
  feeds : List Feed
  nextNs : Nat
  rec0 : Option Nat
  rec1 : Option Nat
  ringPos : Nat
  checks : List FeedCheck
  confirmed : List Nat
  deriving DecidableEq, Repr

def EncSess.empty : EncSess := ⟨0, 0, 1, false, [], [], [], 0, none, none, 0, [], []⟩


/-! ## Serial lanes (R235 to R255) -/

/-- One lane beside LANE_STATUS: whether it holds lock in this hunt, when its step began, whether a window of
1 µs showed too few transitions (R250), whether a margin check runs and how many passed in a row (R253), when
the next check is due, whether the lane is unusable in the window (R249) and until when that lasts, how far a retrain of R252 is:
0 none, 1 to be asked for, 2 agreed, 3 running, by when that must have finished, and whether the next window is lost to it. -/
structure LaneX where
  locked : Bool
  since : Nat
  lowTd : Bool
  checking : Bool
  passes : Nat
  checkAt : Nat
  unusable : Bool
  winEnd : Nat
  retrain : Nat
  retrainBy : Nat
  skip : Bool
  deriving DecidableEq, Repr

def LaneX.empty : LaneX := ⟨false, 0, false, false, 0, 0, false, 0, 0, 0, false⟩

/-- The lanes: lanes by number, the ports that have been UP and those whose attempt failed since EN was set
(R241), when the tether attempt began, and the lane of the eye scan that runs (R254). -/
structure Lanes where
  lane : Tab Nat LaneX
  everUp : List Nat
  failed : List Nat
  attempt : Nat
  scan : Option Nat
  deriving DecidableEq, Repr


/-! ## Time (R256 to R277) -/

/-- A foreign master of a servo: its last Announce, the address that it came from, and when the last ones came. -/
structure Foreign where
  msg : PtpAnnounce
  ip : Nat
  times : List Nat
  deriving DecidableEq, Repr

/-- A servo (R257 to R263) beside its registers. Times and offsets are in units of 2^-16 ns where they carry a
correctionField: foreign masters, the selected one, when its last Announce came, when the last Sync was accepted,
the Sync waiting for its Follow_Up, the receive time of the last Sync that was not discarded, the last Delay_Req that waits for
its answer (sequence number, departure), the latest answered one (t3, t4 and correction), the nominal interval and when the
next Delay_Req is due, the last 16 accepted offset samples with their times and the last 16 path delay samples, the offset of
the last accepted sample, rejections in a row of each kind, what acquisition has (samples, delay samples, first
time), runs of samples inside WINDOW_NS, outside it and beyond 1 s, the integral I, and the tick edges it has
been TRACKING. -/
structure Servo where
  foreign : List Foreign
  master : Option PtpAnnounce
  annAt : Nat
  syncAt : Nat
  waitFollow : Option (Nat × Nat × Int)
  syncRx : Option Nat
  reqSeq : Nat
  reqAt : Option (Nat × Int)
  pair : Option (Int × Nat × Int)
  reqLog : Option Int
  reqNext : Nat
  offs : List (Nat × Int)
  delays : List Int
  lastO : Int
  rejO : Nat
  rejD : Nat
  acqN : Nat
  acqD : Nat
  acqAt : Nat
  inWin : Nat
  outWin : Nat
  far : Nat
  integ : Int
  tracked : Nat
  deriving DecidableEq, Repr

def Servo.empty : Servo :=
  ⟨[], none, 0, 0, none, none, 0, none, none, none, 0, [], [], 0, 0, 0, 0, 0, 0, 0, 0, 0, 0, 0⟩

/-- A trigger (R272, R273): the device time of its next pulse and the end of the pulse in progress. -/
structure Trig where
  next : Option Nat
  stop : Option Nat
  deriving DecidableEq, Repr

/-- A capture (R275): device time in nanoseconds, rising edge, STEP_COUNT. -/
structure Capture where
  ns : Nat
  rising : Bool
  step : Nat
  deriving DecidableEq, Repr

/-- Time beside its registers: servos, whether device time was stepped and a servo was locked since the time
began, the servo a SELECT named, the servo of the re-lock pending, the servo and tick of the step that is due,
whether the re-lock has become due, whether the integral of the stepping servo is preset at the step, by servo the rate
corrections of its last locked spans as the servo in use with their lengths, when the present span began, triggers, capture queues, the TICK_OUT pulse in progress and the tick number of
the last one. -/
structure TimeX where
  servos : Tab Nat Servo
  stepped : Bool
  everLocked : Bool
  select : Option Nat
  relock : Option Nat
  due : Option (Nat × Nat)
  relockDue : Bool
  dueFresh : Bool
  spans : Tab Nat (List (Nat × Int))
  spanAt : Nat
  trigs : Tab Nat Trig
  caps : Tab Nat (List Capture)
  pulse : Option Nat
  pulsed : Option Nat
  deriving DecidableEq, Repr

def TimeX.empty : TimeX := ⟨[], false, false, none, none, none, false, false, [], 0, [], [], none, none⟩


/-! ## Console keys (R430 to R440) -/

def TouchKey.empty : TouchKey := ⟨0, 0, 0, 0, 0, 0, 0, false, false, 0, 0, 0, 0⟩

/-- The keys, the holder's keys as received (R439), presses to send to the holder and presses received from the
partner, the key whose layout recall is pending (R437), and the keys whose next learning makes the factory check (R434). -/
structure TouchX where
  keys : Tab Nat TouchKey
  recv : Tab Nat TouchKey
  toSend : List Nat
  toDo : List Nat
  recallKey : Option Nat
  fresh : List Nat
  deriving DecidableEq, Repr

/-! ## Reset, boot and update (R337 to R410) -/

/-- What is known of an image (R347, R395): version, tether protocol, output revision, HITLESS, settings format,
SVN and hash of each of the 19 components, and the register entries of its CONFIG section. -/
structure Image where
  version : Nat
  proto : Nat
  rev : Nat
  hitless : Nat
  schema : Nat
  svns : List Nat
  hashes : List Nat
  entries : List (Nat × Nat)
  deriving DecidableEq, Repr

def Image.empty : Image := ⟨0, 0, 0, 0, 0, [], [], []⟩

/-- The boot ROM at work (R349, R351): whether BOOT has begun, what the outside says of memory training and of
the switch to octal mode, the flash size, the images that have failed (0 A, 1 B, 2 host push), the image in
hand, the bytes of a host push, whether memory has been trained and zeroed, whether the selector record in force
was TRIAL or TRIED, and whether the ROM rolled back. -/
structure BootX where
  begun : Bool
  trained : Bool
  octal : Bool
  failed : List Nat
  image : Nat
  push : List Byte
  zeroed : Bool
  wasTrial : Bool
  rolled : Bool
  deriving DecidableEq, Repr

def BootX.empty : BootX := ⟨false, false, false, [], 0, [], false, false, false⟩

/-- A power-state change in progress (R355, R356). -/
inductive PwrChange where
  | toStandby | toReady
  deriving DecidableEq, Repr

/-- What the flash is busy with (R401, R403): a window write, or a selector record for a command. -/
inductive FlashJob where
  | window
  | selector (preferred state : Nat) (command : Nat)
  deriving DecidableEq, Repr

/-- A swap in progress (R407): still loading, or named for an edge after a number of postponements. -/
structure Swap where
  edge : Option Nat
  tries : Nat
  deriving DecidableEq, Repr

/-- Field update beside its registers: the running image and its slot (2 for a host push), the image that passed
VERIFY, the device time of the owner's last activity, the end of the sectors erased in this session, what the
flash is busy with, the swap, the settings copy and its sectors to program, which settings slot is in use, and on a
standby the owner code received in the state copy (R398). -/
structure UpdX where
  run : Image
  slot : Nat
  staged : Image
  activeAt : Nat
  erased : Nat
  job : Option FlashJob
  swap : Option Swap
  settings : Flash
  dirty : List Nat
  half : Nat
  heir : Nat
  deriving DecidableEq, Repr

def UpdX.empty : UpdX := ⟨Image.empty, 0, Image.empty, 0, 0, none, none, [], [], 0, 15⟩

/-- The OTP fuses (R349, R388, R389, R394): hash of the owner key, hash of the debug key, minimum SVN of each
component, life-cycle state. -/
structure Otp where
  owner : BitVec 384
  debug : BitVec 384
  svns : List Nat
  lc : Nat
  deriving DecidableEq, Repr

/-! ## Hosts (R368 to R392) -/

/-- The SPI control port (R370, R371): result of the transaction before, whether a fetch is in progress, what it
asked for (length), and the bytes of the last fetch that no DP_READ has taken. -/
structure SpiX where
  last : Nat
  fetching : Option Nat
  buffer : Option (List Byte)
  deriving DecidableEq, Repr

/-- Hosts beside their registers: the SPI port, Fuhel sessions by slot, those received in the state copy, the
number of the session opened last, the challenge of the reset (R389), until when debug attempts are refused, and the
register messages of Fuhel that wait for the next edge (R376). -/
structure HostX where
  spi : SpiX
  sess : Tab Nat FuhelSess
  sessRecv : Tab Nat FuhelSess
  sessNum : Nat
  challenge : Nat
  debugWait : Nat
  late : List Instr
  deriving DecidableEq, Repr

def HostX.empty : HostX := ⟨⟨0, none, none⟩, [], [], 0, 0, 0, []⟩

/-! ## The redundant pair (R278 to R312) -/

/-- The rein driver and the REIN_IN sampler (R285 to R288). Driver: the tick renewed last, the pulse scheduled or
in progress as start and end on the crystal, renewals since the halter was taken, the last edge on the crystal
with the period then, and whether a RELEASE is owed to predicted edges. Sampler: tick and m of the last valid
renewal, the tick of a RELEASE with no renewal after it, whether the low period in progress was found stuck. -/
structure Rein where
  renewed : Option Nat
  pulse : Option (Nat × Nat)
  count : Nat
  edge : Nat
  period : Nat
  owed : Bool
  valid : Option Nat
  m : Nat
  release : Option Nat
  stuck : Bool
  deriving DecidableEq, Repr

def Rein.empty : Rein := ⟨none, none, 0, 0, 0, false, none, 0, none, false⟩

/-- The mirror (R291, R303). Holder: entries not acknowledged, number issued last, number sent last, pages for the
next resync, pages still to send of the resync in progress with the mirror position at which the copy ends and the number of
pages it has, the
partner's count of resyncs it answers, and the number a pending layout request waits for (R295). Standby: number
received in order, the pages of the copy received, whether it is whole, and the number a command waits for (R293). -/
structure Mirror where
  queue : List MirrorEntry
  issued : Nat
  sent : Nat
  pages : List Nat
  copy : Option (List Nat × Nat × Nat)
  copied : Nat
  layoutSeq : Nat
  recv : Option Nat
  whole : Bool
  need : Option Nat
  deriving DecidableEq, Repr

def Mirror.empty : Mirror := ⟨[], 0, 0, [], none, 0, 0, none, false, none⟩

/-- The comparison of digests (R297, R298): in the tick in progress, the digests of the partner that came, whether
tiles were comparable, the first that was not equal, outputs with different LAYOUT; of the tick before those
outputs, and by output the tiles comparable and equal with their tick; the ticks MISMATCHED, latest first; the
ticks excluded by R293; SETTLE; the tick at whose edge the standby was in SHADOW; and the tick judged last. -/
structure Compare where
  seen : List Nat
  some_ : Bool
  first : Option (Nat × Nat)
  differ : List Nat
  differBefore : List Nat
  equal : Tab (Nat × Nat) (List Nat)
  bad : List Nat
  excluded : List Nat
  settle : Nat
  shadowTick : Option Nat
  judged : Option Nat
  deriving DecidableEq, Repr

def Compare.empty : Compare := ⟨[], false, none, [], [], [], [], [], 0, none, none⟩

/-- The pair beside its registers: rein lines, mirror, comparison; the ticks of the last edges, latest first; edges
since RUN began; the highest partner epoch seen; ALIVE of the frames sent and of those valid last, by type and
lane; T2 and T3 frames accepted in the tick; tick of the last valid HEALTH and its message; STATE frames of the
burst in progress, the burst received whole with its tick, ticks without one; writes completed in the tick; ticks
of decisions and messages (own YIELD, own fault, YIELD received, COMMIT sent and received, halter given); handover
asked for (tick, slot), command pending (operation, slot), RESYNC asked for; a second holder seen; REIN_FAULT
in progress; the tether was UP at the edge before; ticks the unit held the halter; resyncs begun; rounds of
known-answer tests; and whether the state of this edge brought a standby in step (R303). -/
structure PairX where
  rein : Rein
  mirror : Mirror
  cmp : Compare
  edges : List Nat
  since : Nat
  seenEpoch : Nat
  txAlive : Tab (Nat × Nat) Nat
  rxAlive : Tab (Nat × Nat) Nat
  got : List (Nat × Nat)
  healthTick : Option Nat
  partner : Option HealthMsg
  burst : List (Nat × List CtlItem)
  ready : Option (Nat × List CtlItem)
  missed : Nat
  log : List CtlItem
  yieldAt : Option Nat
  faultAt : Option Nat
  yieldRx : Option Nat
  commitTx : Option Nat
  commitRx : Option Nat
  gave : Option Nat
  handover : Option (Nat × Option Nat)
  cmd : Option (Nat × Nat)
  resync : Bool
  dual : Bool
  reinFault : Bool
  tetherWas : Bool
  heldTicks : List Nat
  resyncs : Nat
  kat : Nat
  inStep : Bool
  deriving DecidableEq, Repr

def PairX.empty : PairX :=
  ⟨Rein.empty, Mirror.empty, Compare.empty, [], 0, 0, [], [], [], none, none, [], none, 0, [], none, none, none, none, none, none, none, none,
   false, false, false, false, [], 0, 0, false⟩

/-! ## The whole -/

/-- DRAM with its poisoned bursts (R329, R330), the flash, the OTP fuses and the mirror of each (R394). -/
structure Memory where
  dram : Dram
  poison : List Nat
  flash : Flash
  otp : Otp
  deriving DecidableEq, Repr

/-- Everything the block holds beside its memories and the queue. `out`, `free` are the model's own: what
the last command sent, and the counter of fresh free values. -/
structure Device where
  out : List Out
  regs : Tab Key Nat
  rwt : Tab Key Nat
  latch : Tab Key Nat
  held : Tab Key Nat
  deferred : List (Nat × Nat × Nat)
  free : Nat
  now : Nat
  devNs : Nat
  devFrac : Nat
  pwr : Pwr
  evq : Tab Nat (List EvEntry)
  evqRecv : Tab Nat (List EvEntry)
  bb : BBox
  perf : Perf
  chkRanges : List ChkRange
  berths : Tab Nat Berth
  retiredAt : List (Nat × Nat)
  pinWait : List (Nat × Nat × Nat)
  srcs : Tab Nat Src
  layout : Option Layout
  layoutReq : Option LayoutReq
  layoutPrev : Option Layout
  outs : Tab Nat OutSt
  tick : Tick
  chans : Tab Nat Channel
  fchg : Option Fchg
  scrubStart : Nat
  scrubDone : Nat
  ceAt : List (Nat × Nat)
  mats : Tab Nat (List Nat)
  matWait : Tab Nat (List Nat)
  net : Net
  edges : Nat
  healthAt : Tab Nat Nat
  decs : Tab Nat DecSess
  decCmd : Option SessCmd
  encs : Tab Nat EncSess
  encCmd : Option SessCmd
  lanes : Lanes
  time : TimeX
  heldAfterTimeout : List Nat
  touch : TouchX
  boot : BootX
  pinLow : Bool
  porLow : Bool
  clkWait : List Nat
  change : Option PwrChange
  flashSize : Nat
  upd : UpdX
  host : HostX
  pair : PairX
  liveOut : Bool
  staleLow : Bool
  deriving DecidableEq, Repr

/-- The block. -/
structure Chip where
  mem : Memory
  dev : Device
  deriving DecidableEq, Repr

/-- The state of the model: the commands that wait, first in first out, and the block. -/
structure State where
  pending : List Instr
  chip : Chip
  deriving DecidableEq, Repr

/-- Why a run stops. No command of this block ends in a fault: an access fault of the spec (R379, R380) is a
result that the host sees, and a next state. The constructor stands for a command queue that names nothing;
nobody raises it. Safe. -/
inductive Fault where
  | none
  deriving DecidableEq, Repr

/-- Why a command has no meaning. -/
inductive Refusal where
  /-- A command whose meaning is not modelled, by its mnemonic; raised by its arm of `exec`. Safe. -/
  | notModelled (mnemonic : String)
  deriving DecidableEq, Repr

/-- DRAM zeroed (R320), flash erased, no burst poisoned, no fuse blown. -/
def Memory.reset : Memory := ⟨[], [], [], ⟨0, 0, [], 0⟩⟩

/-- The device after power-on reset. -/
def Device.reset : Device where
  out := []
  regs := []
  rwt := []
  latch := []
  held := []
  deferred := []
  free := 0
  now := 0
  devNs := 0
  devFrac := 0
  pwr := .boot
  evq := []
  evqRecv := []
  bb := ⟨[], [⟨1, 31, 0, 0, 1, 0⟩], none, [], false⟩
  perf := ⟨[], [], [], [], 0, [], [], [], none⟩
  chkRanges := []
  berths := []
  retiredAt := []
  pinWait := []
  srcs := []
  layout := none
  layoutReq := none
  layoutPrev := none
  outs := []
  tick := Tick.reset
  chans := []
  fchg := none
  scrubStart := 0
  scrubDone := 0
  ceAt := []
  mats := []
  matWait := []
  net := ⟨[], [], [], [], [], [], none, [], [], [], []⟩
  edges := 0
  healthAt := []
  decs := []
  decCmd := none
  encs := []
  encCmd := none
  lanes := ⟨[], [], [], 0, none⟩
  time := TimeX.empty
  heldAfterTimeout := []
  touch := ⟨[], [], [], [], none, []⟩
  boot := BootX.empty
  pinLow := false
  porLow := false
  clkWait := [1]
  change := none
  flashSize := 0
  upd := UpdX.empty
  host := HostX.empty
  pair := PairX.empty
  liveOut := false
  staleLow := false

/-- The block after power-on reset. -/
def Chip.reset : Chip := ⟨Memory.reset, Device.reset⟩

/-- The machine right after reset: nothing waits. -/
def State.reset : State := ⟨[], Chip.reset⟩

end Sys2Proof.Machine
end

