-- ==== Sys2Proof/Machine/Ops.lean ====
section
/-!
DEFINITION. The named operations every family uses: a register field read and written (R11), time (R20 to
R27), pins of bits, the allocation of fresh free values, and the shape of a meaning.
-/

namespace Sys2Proof.Machine

/-! ## Register fields -/

/-- The value of a field of a shared register, in force: as many bits as the field has. -/
def Device.get (d : Device) (f : Fld) (i : Nat := 0) : Nat := Tab.get d.regs f.reset (f.id, i, 0) % 2 ^ f.width

/-- Give a field of a shared register a value; bits beyond the field are lost. -/
def Device.put (d : Device) (f : Fld) (i : Nat) (v : Nat) : Device :=
  { d with regs := Tab.set d.regs (f.id, i, 0) (v % 2 ^ f.width) }

/-- The value of a field of a slot's own copy of a register. -/
def Device.getS (d : Device) (f : Fld) (slot : Nat) (i : Nat := 0) : Nat :=
  Tab.get d.regs f.reset (f.id, i, slot + 1) % 2 ^ f.width

/-- Give a field of a slot's own copy a value. -/
def Device.putS (d : Device) (f : Fld) (slot i v : Nat) : Device :=
  { d with regs := Tab.set d.regs (f.id, i, slot + 1) (v % 2 ^ f.width) }

/-- A one-bit field as a truth value. -/
def Device.on (d : Device) (f : Fld) (i : Nat := 0) : Bool := decide (d.get f i ≠ 0)

/-- Set or clear a one-bit field. -/
def Device.flag (d : Device) (f : Fld) (i : Nat) (b : Bool) : Device := d.put f i (if b then 1 else 0)

/-- Count in a saturating counter field. -/
def Device.bump (d : Device) (f : Fld) (i n : Nat) : Device := d.put f i (min (d.get f i + n) (2 ^ f.width - 1))

/-- A 64-bit quantity in two registers (R15). -/
def Device.get2 (d : Device) (lo hi : Fld) (i : Nat := 0) : Nat := d.get lo i + 2 ^ 32 * d.get hi i

def Device.put2 (d : Device) (lo hi : Fld) (i v : Nat) : Device := (d.put lo i v).put hi i (v / 2 ^ 32)

/-- A 40-bit DRAM address whose low field starts at bit `lo.lo`. -/
def Device.addr40 (d : Device) (lo hi : Fld) (i : Nat := 0) : Nat := d.get lo i * 2 ^ lo.lo + 2 ^ 32 * d.get hi i

/-- Fold a function over the numbers below `n`. -/
def forN {α : Type} (n : Nat) (f : Nat → α → α) (a : α) : α := (List.range n).foldl (fun a k => f k a) a

/-- Fold a function over a list. -/
def forL {α β : Type} (l : List β) (f : β → α → α) (a : α) : α := l.foldl (fun a b => f b a) a

/-! ## Ticks and time -/

/-- N and D of R20. -/
def rateND : Nat → Nat × Nat
  | 0 => (24000, 1001) | 1 => (24, 1) | 2 => (25, 1) | 3 => (30000, 1001) | 4 => (30, 1)
  | 5 => (48000, 1001) | 6 => (48, 1) | 7 => (50, 1) | 8 => (60000, 1001) | 9 => (60, 1)
  | 10 => (100, 1) | 11 => (120000, 1001) | 12 => (120, 1) | _ => (60, 1)

/-- N and D of the rate in force. -/
def Device.nd (d : Device) : Nat × Nat := rateND (d.get F.TICK_CTRL_RATE)

/-- The device time in nanoseconds of the edge of tick `t` plus `p` hundredths of T, rounded down (R21). -/
def Device.pointNs (d : Device) (t p : Nat) : Nat :=
  ((100 * t + p) * d.nd.2 * 1000000000) / (100 * d.nd.1)

/-- How many ticks lie between a tick number and a later one; numbers wrap at 2^64, and one that is not later counts 0
(R24, R44). -/
def ticksSince (t c : Nat) : Nat :=
  let a := (t + 2 ^ 64 - c % 2 ^ 64) % 2 ^ 64
  if a < 2 ^ 63 then a else 0

/-- The first nanosecond of device time at or after the edge of tick `t` (R21). -/
def Device.edgeNs (d : Device) (t : Nat) : Nat := (t * d.nd.2 * 1000000000 + d.nd.1 - 1) / d.nd.1

/-- T in nanoseconds, rounded down. -/
def Device.periodNs (d : Device) : Nat := d.nd.2 * 1000000000 / d.nd.1

/-- The tick number of a device time (R21). -/
def Device.tickOf (d : Device) (ns : Nat) : Nat := ns * d.nd.1 / (d.nd.2 * 1000000000)

/-- The rate correction in parts per 10^9, signed (TIME_RATE). -/
def Device.ppb (d : Device) : Int := signedOf 32 (d.get F.TIME_RATE_PPB)

/-- The occurrence matches the selection of counter `i` (R416). -/
def Device.perfMatch (d : Device) (ev unit i : Nat) : Bool :=
  decide (d.get F.PERF_SEL_EVENT i = ev) &&
  (decide (d.get F.PERF_SEL_QUAL i = 0xFF) || decide (d.get F.PERF_SEL_QUAL i = unit))

/-- `n` occurrences of event `ev` at a unit: every counter that selects them adds them while the counters
count (R416). -/
def Device.count (d : Device) (ev unit n : Nat) : Device :=
  if d.on F.PERF_CTRL_RUNNING then
    let add (i : Nat) (t : Tab Nat Nat) := if d.perfMatch ev unit i then Tab.upd t 0 i (fun c => (c + n) % 2 ^ 64) else t
    { d with perf := { d.perf with cnt := forN 128 add d.perf.cnt } }
  else d

/-- The sampler counts `n` occurrences of event `ev` at a tile; with each PERIOD-th of them a sample is due (R420). -/
def Device.sampled (d : Device) (ev n o tile : Nat) (pipe : Option Nat) : Device :=
  if d.on F.PERF_SAMPLE_CFG_EN && decide (d.get F.PERF_SAMPLE_CFG_EVENT = ev) then
    let period := max 1 (d.get F.PERF_SAMPLE_CFG_PERIOD)
    let t := d.perf.occ + n
    { d with perf := { d.perf with
        occ := t % period, due := d.perf.due ++ List.replicate (t / period) ⟨o, tile, pipe, if d.tick.running then d.tick.num else 0⟩ } }
  else d

/-- `n` occurrences of a sampleable event at a unit, for a tile that a pipe has in hand (R416, R420). -/
def Device.countTile (d : Device) (ev unit n o tile : Nat) (pipe : Option Nat) : Device := (d.count ev unit n).sampled ev n o tile pipe

/-- The core loop runs: the domains it feeds are on in READY and RUN (R337). -/
def Device.coreOn (d : Device) : Bool := decide (d.pwr = .ready) || decide (d.pwr = .run)

/-- PD1 is on: neither in OFF or WATCH, nor before the domain's release (R337). -/
def Device.pd1On (d : Device) : Bool :=
  match d.pwr with
  | .off | .watch => false
  | _ => !(d.get F.RST_CLK_STATUS_IN_RESET).testBit 1

/-- `n` cycles of the core clock pass: those of the clock itself, of each tile that is set aside on a miss, and of each decode
core that is busy are counted (events 0x01, 0x06 and 0x0A of R416). -/
def Device.cycles (d : Device) (n : Nat) : Device :=
  let cores := ((d.decs.filter (fun p => p.2.running.any (fun j => j.started))).map (fun p => d.get F.DEC_SESS_STATE_CORE p.1)).dedup
  let aside := if d.tick.inTick && !d.tick.sealRan then d.tick.stalled else []
  forL aside (fun s (d : Device) => d.countTile 0x06 s.2.2 n s.1 s.2.1 (some s.2.2))
    (forL cores (fun c (d : Device) => d.count 0x0A c n) (d.count 0x01 0 n))

/-- Let `n` nanoseconds of the watch island's crystal pass; device time follows at its corrected rate while PD1 is on
(R259), and the core clock makes a cycle in each. -/
def Device.elapse (d : Device) (n : Nat) : Device :=
  let total := d.devFrac + (if d.pd1On then n * (1000000000 + d.ppb).toNat else 0)
  let d : Device := { d with now := d.now + n, devNs := d.devNs + total / 1000000000, devFrac := total % 1000000000 }
  if d.coreOn then d.cycles n else d

/-- Let time pass until the device time is at least `t`; a time already reached changes nothing. -/
def Device.waitUntil (d : Device) (t : Nat) : Device :=
  let r := (1000000000 + d.ppb).toNat
  if t ≤ d.devNs ∨ r = 0 then d
  else d.elapse (((t - d.devNs) * 1000000000 - d.devFrac + r - 1) / r)

/-- Let time pass until the crystal's count is at least `t`. -/
def Device.waitNow (d : Device) (t : Nat) : Device := if t ≤ d.now then d else d.elapse (t - d.now)

/-- Nanoseconds of device time within the second (R270). -/
def Device.nsPart (d : Device) : Nat := d.devNs % 1000000000

/-- Ticks are being made: RUN has had its first edge and has not been left (TICK_STATUS.RUNNING). -/
def Device.ticking (d : Device) : Bool := d.tick.running

/-- The tick number in progress, 0 while no tick edges are generated (R421). -/
def Device.tickNow (d : Device) : Nat := if d.tick.running then d.tick.num else 0

/-! ## Lists of tables -/

def Device.src (d : Device) (s : Nat) : Src := Tab.get d.srcs Src.empty s
def Device.setSrc (d : Device) (s : Nat) (v : Src) : Device := { d with srcs := Tab.set d.srcs s v }
def Device.outp (d : Device) (o : Nat) : OutSt := Tab.get d.outs OutSt.empty o
def Device.setOut (d : Device) (o : Nat) (v : OutSt) : Device := { d with outs := Tab.set d.outs o v }
def Device.berth (d : Device) (n : Nat) : Berth := Tab.get d.berths Berth.empty n
def Device.setBerth (d : Device) (n : Nat) (v : Berth) : Device := { d with berths := Tab.set d.berths n v }
def Device.chan (d : Device) (c : Nat) : Channel := Tab.get d.chans Channel.empty c
def Device.setChan (d : Device) (c : Nat) (v : Channel) : Device := { d with chans := Tab.set d.chans c v }

def Device.dec (d : Device) (n : Nat) : DecSess := Tab.get d.decs DecSess.empty n
def Device.setDec (d : Device) (n : Nat) (v : DecSess) : Device := { d with decs := Tab.set d.decs n v }

/-- Hand something to the outside. -/
def Device.emit (d : Device) (o : Out) : Device := { d with out := d.out ++ [o] }

/-! ## The shape of a meaning -/

/-- What the command before sent is cleared. -/
def Device.quiet (d : Device) : Device := { d with out := [] }

/-- The block with what the command before sent cleared. -/
def Chip.quiet (c : Chip) : Chip := { c with dev := c.dev.quiet }

/-- A meaning that changes only the device: memory and the queue stay. -/
def onDev (f : Device → Device) (s : State) : Host.Outcome State Fault Refusal :=
  .next { s with chip := { s.chip with dev := f s.chip.dev.quiet } }

/-- A meaning that changes the device and reads memory. -/
def onDevM (f : Memory → Device → Device) (s : State) : Host.Outcome State Fault Refusal :=
  onDev (f s.chip.mem) s

/-- A meaning that changes the whole block: the queue stays. -/
def onChip (f : Chip → Chip) (s : State) : Host.Outcome State Fault Refusal :=
  .next { s with chip := f s.chip.quiet }

/-- A change of the device as a change of the block. -/
def Chip.mapDev (f : Device → Device) (c : Chip) : Chip := { c with dev := f c.dev }

/-- What a block does whose queue is empty: a nanosecond of the crystal passes (log entry 1). -/
def Chip.idle (c : Chip) : Chip := c.mapDev (fun (d : Device) => d.quiet.elapse 1)

end Sys2Proof.Machine
end

