-- ==== Sys2Proof/Machine/Flags.lean ====
section
/-!
DEFINITION. What a block raises: event bits and event queues (R381), black-box events (R421 to R424), and
the occurrences that performance counters count (R416, R420).
-/

namespace Sys2Proof.Machine

/-- The permission of a slot on a peripheral (R385). -/
def Device.perm (d : Device) (slot per : Nat) : Nat := d.get F.HOST_PROT_PERM_PERM per / 4 ^ slot % 4

/-- The slot may read the peripheral (R385). -/
def Device.mayRead (d : Device) (slot per : Nat) : Bool :=
  decide (d.perm slot per = 1) || decide (d.perm slot per = 2)

/-- The slot may write the peripheral (R385). -/
def Device.mayWrite (d : Device) (slot per : Nat) : Bool := decide (d.perm slot per = 2)

/-- The queue of a slot (R381). -/
def Device.queue (d : Device) (slot : Nat) : List EvEntry := Tab.get d.evq [] slot

/-- Offer an entry to the queue of one slot: it enters when the slot enables the event and may read the
block, and is dropped when the queue is full (R381). The flag says that it was dropped. -/
def Device.offer (d : Device) (e : EvEntry) (slot : Nat) : Device × Bool :=
  if (d.getS F.HOST_EVQ_EN_MASK slot e.block).testBit e.bit && d.mayRead slot e.block then
    if (d.queue slot).length < 256 then
      ({ d with evq := Tab.set d.evq slot (d.queue slot ++ [e]) }, false)
    else
      let n := d.getS F.HOST_EVQ_STATUS_DROPPED slot
      ((d.putS F.HOST_EVQ_STATUS_OVERFLOW slot 0 1).putS F.HOST_EVQ_STATUS_DROPPED slot 0 (min (n + 1) 0xFFFF), true)
  else (d, false)

/-- Offer an entry to all eight slots. -/
def Device.offerAll (d : Device) (e : EvEntry) : Device × Bool :=
  (List.range 8).foldl (fun p slot => let q := p.1.offer e slot; (q.1, p.2 || q.2)) (d, false)

/-- The queue entry of an event (R381). -/
def Device.entry (d : Device) (f : Fld) (arg : Nat) : EvEntry :=
  ⟨f.block, f.lo, arg, d.tickNow, d.nsPart⟩

/-- An event is raised: its bit in the block's EVENTS register is set and it enters the event queues. An
event dropped on a full queue raises HOST_EVQ_OVERFLOW in turn (R381). -/
def Device.raise (d : Device) (f : Fld) (arg : Nat := 0) : Device :=
  let p := (d.put f 0 1).offerAll (d.entry f arg)
  if p.2 then ((p.1.put F.HOST_EVENTS_EVQ_OVERFLOW 0 1).offerAll (p.1.entry F.HOST_EVENTS_EVQ_OVERFLOW 0)).1
  else p.1

/-- An event reaches the black box's staging queue, or is lost (R423, R424). -/
def Device.record (d : Device) (code source arg0 arg1 : Nat) : Device :=
  if d.on F.BBOX_STATUS_FROZEN then d.bump F.BBOX_LOST_COUNT 0 1
  else if d.bb.staging.length < 16 then
    { d with bb := { d.bb with staging := d.bb.staging ++
        [⟨code, source, d.tickNow, if d.pd1On then d.nsPart else 0, arg0, arg1⟩] } }
  else d.bump F.BBOX_LOST_COUNT 0 1

/-- A sample word is placed in the buffer, or dropped (R420). -/
def Device.placeSample (d : Device) (word : Nat) : Device :=
  if d.perf.samples.length < 64 then { d with perf := { d.perf with samples := d.perf.samples ++ [word] } }
  else (d.bump F.PERF_SAMPLE_STATUS_DROPPED 0 1).raise F.PERF_EVENTS_SAMPLE_OVERFLOW

/-- A power domain's bit in RST_CLK_STATUS.IN_RESET. -/
def Device.inReset (d : Device) (pd : Nat) : Bool := (d.get F.RST_CLK_STATUS_IN_RESET).testBit pd

/-- The bit of a 32-bit word set or cleared. -/
def setBit (w n : Nat) (b : Bool) : Nat :=
  if b then (if w.testBit n then w else w + 2 ^ n) else (if w.testBit n then w - 2 ^ n else w)

/-- SYS_ALARM as it reads: each bit shows its condition (R367). -/
def Device.alarmWord (d : Device) : Nat :=
  (if d.pwr = .halted then 1 else 0) + (if d.heldAfterTimeout.isEmpty then 0 else 2)
  + (if d.pwr = .failed then 4 else 0) + (if d.get F.SYS_ENGINE_STATUS_STOPPED = 0 then 0 else 8)
  + (if d.on F.MEM_EVENTS_UE_SYSTEM then 16 else 0) + (if d.on F.SYS_ALARM_THERMAL then 32 else 0)

/-- ALARM_N is pulled low (R367). -/
def Device.alarm (d : Device) : Bool :=
  let w := d.alarmWord
  decide (w % 8 ≠ 0)
  || (w.testBit 3 && !d.on F.SYS_ALARM_MASK_ENGINE)
  || (w.testBit 4 && !d.on F.SYS_ALARM_MASK_MEM_UE_SYSTEM)
  || (w.testBit 5 && !d.on F.SYS_ALARM_MASK_THERMAL)

/-- EVENT_N[k] is pulled low (R382, R363). -/
def Device.eventPin (d : Device) (k : Nat) : Bool :=
  let m := d.get (if k = 0 then F.HOST_EVENT_PIN_SLOTS_0 else F.HOST_EVENT_PIN_SLOTS_1)
  d.pd1On && (List.range 8).any (fun h => m.testBit h && !(d.queue h).isEmpty)

end Sys2Proof.Machine
end

