-- ==== Sys2Proof/Machine/Operands.lean ====
section
/-!
DEFINITION. The operand forms of a host access: the word of a register and its fields (R9, R11), the
reserved encodings of every field (R10), when an RWS field's owner is idle (R466), and the pairs of registers
that hold a 64-bit quantity (R15, R16).
-/

namespace Sys2Proof.Machine

/-- The bits of a field in a register word. -/
def Fld.of (f : Fld) (w : Nat) : Nat := w / 2 ^ f.lo % 2 ^ f.width

/-- A value at the bits of a field. -/
def Fld.at (f : Fld) (v : Nat) : Nat := v % 2 ^ f.width * 2 ^ f.lo

/-- A register word from the values of its fields; reserved bits are 0 (R9). -/
def RegRow.word (r : RegRow) (get : Fld → Nat) : Nat :=
  r.flds.foldl (fun (w : Nat) (f : Fld) => w + f.at (get f)) 0

/-- The field in force: a slot's own copy, or the shared one. -/
def Device.fieldOf (d : Device) (r : RegRow) (slot i : Nat) (f : Fld) : Nat :=
  if r.perSlot then d.getS f slot i else d.get f i

/-- Give a field a value in the copy that the slot reaches. -/
def Device.putField (d : Device) (r : RegRow) (slot i : Nat) (f : Fld) (v : Nat) : Device :=
  if r.perSlot then d.putS f slot i v else d.put f i v

/-- The low and high registers of a 64-bit quantity: the high one lies 4 bytes above (R15). -/
def loRows : List RegRow := [
  R.TICK_NUM_LO, R.TICK_DISCONT_DELTA_LO, R.FRS_IMG_TABLE_LO, R.FRS_SRC_MASK_LO, R.FRS_SRC_CAPTURE_LO,
  R.FRS_OUT_TICK_LO, R.CMP_LAYOUT_TABLE_LO, R.CMP_DESC_TABLE_LO, R.CMP_LAYOUT_AT_LO, R.CMP_MOOR_SPILL_LO,
  R.CMP_POOL_BASE_LO, R.PIX_COEF_TABLE_LO, R.PIX_LUT_TABLE_LO, R.DEC_BS_BASE_LO, R.ENC_BS_BASE_LO,
  R.ENC_SESS_SEI_LO, R.NET_MAC_BASE_LO, R.TIME_NOW_SEC_LO, R.TIME_SRV_GM_LO, R.TIME_SRV_MASTER_LO,
  R.TIME_TRIG_START_SEC_LO, R.TIME_CAP_SEC_LO, R.PAIR_HEALTH_LO, R.PAIR_PARTNER_HEALTH_LO, R.PAIR_LAST_CHANGE_LO,
  R.MEM_ERR_ADDR_LO, R.HOST_FAULT_ADDR_LO, R.HOST_DP_ADDR_LO, R.CHK_CH_POLY_LO, R.CHK_CH_INIT_LO,
  R.CHK_CH_XOROUT_LO, R.CHK_CH_VALUE_LO, R.CHK_CH_RESULT_LO, R.CHK_CH_ADDR_LO, R.PERF_SNAP_TICK_LO,
  R.PERF_CNT_LO]

/-- The row is the low register of a pair. -/
def RegRow.isLo (r : RegRow) : Bool := loRows.any (fun (l : RegRow) => decide (l.base = r.base))

/-- The low register of the pair whose high register the row is. -/
def RegRow.lowOf (r : RegRow) : Option RegRow := loRows.find? (fun (l : RegRow) => decide (l.base + 4 = r.base))

/-- The high register of the pair whose low register the row is. -/
def RegRow.highOf (r : RegRow) : Option RegRow :=
  if r.isLo then
    match findReg (r.base + 4) with
    | some p => some p.1
    | none => none
  else none

/-! ## Reserved encodings (R10) -/

/-- The values a field admits, as ranges, for every field that reserves some. DESIGN CHOICE: TIME_TRIG_START_NS, whose range the
spec gives without a word on other values, reserves those above it (log entry 139). -/
def allowed : List (Fld × List (Nat × Nat)) := [
  (F.SYS_PWR_CMD_TARGET, [(0, 4)]), (F.TICK_CTRL_RATE, [(0, 12)]), (F.TICK_ADM_MARGIN_PCT, [(0, 25)]),
  (F.FRS_LIMIT_DEFAULT_LIMIT, [(1, 255)]), (F.FRS_SRC_CFG_RECOVER, [(1, 255)]), (F.FRS_SRC_CFG_DETECT, [(0, 2)]),
  (F.FRS_SRC_CFG_TREAT, [(0, 2)]), (F.FRS_SRC_TIMER_LIVENESS_TICKS, [(1, 255)]),
  (F.FRS_SRC_TIMER_FROZEN_TICKS, [(4, 65535)]), (F.CMP_SWITCH_CFG_TIMEOUT, [(1, 65535)]),
  (F.CMP_TABLE_SIZE_DESCS, [(0, 16384)]), (F.CMP_TABLE_SIZE_LAYOUTS, [(0, 256)]),
  (F.CMP_POOL_CFG_COUNT, [(0, 16384)]), (F.CMP_OUT_OWNER_SLOT, [(0, 7), (15, 15)]),
  (F.PIX_LUT_COUNT_COUNT, [(0, 4096)]),
  (F.PIX_OUT_CFG_BG_LUT, [(0, 0xFFF), (0xF000, 0xF004), (0xF008, 0xF00B)]), (F.DEC_BS_CFG_RING_MIB, [(1, 64)])] ++ [
  (F.DEC_SESS_CFG_RATE, [(0, 12)]), (F.DEC_SESS_CFG_DPB_MAX, [(1, 16)]), (F.DEC_SESS_CFG_TRANSPORT, [(0, 2)]),
  (F.DEC_SESS_CFG_CODEC, [(0, 1)]), (F.DEC_SESS_SIZE_MAX_HEIGHT, [(64, 2304)]),
  (F.DEC_SESS_SIZE_MAX_WIDTH, [(64, 4096)]), (F.DEC_SESS_TS_PID, [(0x10, 0x1FFF)]),
  (F.ENC_SESS_CFG_FOLLOW, [(0, 1)]), (F.ENC_SESS_RATE_BUF_PICS, [(1, 8)]),
  (F.ENC_SESS_RATE_BIT_RATE, [(1000, 200000)]), (F.ENC_SESS_GDR_PERIOD, [(2, 256)]),
  (F.ENC_SESS_QP_QP_INIT, [(0, 51)]), (F.ENC_SESS_QP_QP_MAX, [(0, 51)]), (F.ENC_SESS_QP_QP_MIN, [(0, 51)]),
  (F.NET_WIT_CFG_GRACE, [(1, 50)]), (F.NET_PORT_VLAN_VID, [(0, 0xFFE)]), (F.NET_PORT_CFG_MODE, [(0, 2)]), (F.NET_PORT_SUBNET_PREFIX, [(0, 30)]),
  (F.NET_SRC_CFG_SKEW_MS, [(1, 10)]), (F.NET_SRC_CFG_KIND, [(0, 2)]), (F.NET_SRC_CFG_FORMAT, [(0, 7)]),
  (F.NET_SRC_SIZE_HEIGHT, [(72, 2160)]), (F.NET_SRC_SIZE_WIDTH, [(128, 3840)]),
  (F.NET_RX_FLOW_CFG_PORT, [(0, 27)]), (F.NET_TX_CFG_BURST, [(1, 7)]), (F.NET_TX_CFG_PT, [(96, 127)])] ++ [
  (F.NET_TX_PKT_MAX_PAYLOAD, [(256, 1428)]), (F.NET_TX_PATH_CFG_0_PORT, [(0, 27)]),
  (F.NET_TX_PATH_CFG_0_TTL, [(1, 255)]), (F.NET_TX_PATH_CFG_1_PORT, [(0, 27)]),
  (F.NET_TX_PATH_CFG_1_TTL, [(1, 255)]), (F.LANE_MARGIN_MIN_HEIGHT, [(1, 127)]),
  (F.LANE_MARGIN_MIN_WIDTH, [(1, 31)]), (F.LANE_ADAPT_CFG_TD_MIN, [(1, 255)]),
  (F.LANE_SCAN_CTRL_OFFSET, [(0, 127), (129, 255)]), (F.LANE_CFG_RX_POL, [(0, 2)]),
  (F.LANE_QUAD_CFG_TX_MAP, [(0, 2)]), (F.TIME_CTRL_SLEW_PPM, [(10, 1000)]), (F.TIME_TICKOUT_CFG_WIDTH, [(1, 65535)]),
  (F.TIME_SRV_CFG_PORT, [(0, 27)]), (F.TIME_SRV_CFG_ANN_TIMEOUT, [(2, 10)]),
  (F.TIME_SRV_WINDOW_OUTLIER_US, [(1, 65535)]), (F.TIME_SRV_WINDOW_WINDOW_NS, [(10, 65535)]),
  (F.TIME_TRIG_CFG_WIDTH, [(10, 16777215)]), (F.TIME_TRIG_START_NS_VALUE, [(0, 999999999)]),
  (F.TIME_TRIG_PERIOD_NS, [(100, 4294967295)]), (F.TIME_CAP_CFG_EDGE, [(0, 2)]), (F.PAIR_CTRL_K, [(1, 15)]),
  (F.PAIR_SETTLE_TICKS, [(1, 65535)]), (F.PAIR_CMD_OP, [(0, 2)]), (F.MEM_SCHED_CFG_RUN_MAX, [(1, 63)])] ++ [
  (F.MEM_SCRUB_CFG_PERIOD_S, [(60, 65535)]), (F.HOST_FUHEL_CFG_PREFIX, [(1, 30)]),
  (F.HOST_FUHEL_CFG_TIMEOUT_S, [(1, 255)]), (F.HOST_LC_CMD_OP, [(0, 2)]), (F.UPD_CMD_OP, [(0, 7)]),
  (F.UPD_CMD_UNIT, [(0, 2)]), (F.CHK_CH_LEN_VALUE, [(1, 16777216)]), (F.PERF_CMD_OP, [(0, 4)]),
  (F.PERF_BW_CFG_WINDOW_MS, [(1, 1000)]), (F.PERF_SAMPLE_CFG_EVENT, [(3, 8)]),
  (F.PERF_SAMPLE_CFG_PERIOD, [(1, 65535)]), (F.PERF_SEL_EVENT, [(0, 0x16)]), (F.BBOX_CFG_POST, [(0, 2048)]),
  (F.TOUCH_CMD_OP, [(0, 1)]), (F.TOUCH_KEY_CFG_IND_PIN, [(0, 23), (31, 31)]),
  (F.TOUCH_KEY_CFG_DEBOUNCE, [(1, 15)]), (F.TOUCH_KEY_THRESH_THRESH, [(1, 65535)]),
  (F.TOUCH_KEY_ACTION_ACTION, [(0, 3)])]

/-- A value of a field is a reserved encoding by itself. -/
def Fld.bad (f : Fld) (v : Nat) : Bool :=
  match allowed.find? (fun (p : Fld × List (Nat × Nat)) => decide (p.1 = f)) with
  | some p => !p.2.any (fun (r : Nat × Nat) => decide (r.1 ≤ v ∧ v ≤ r.2))
  | none => false

/-- The units an event of R416 tells apart. -/
def perfUnits (ev : Nat) : Nat :=
  if ev ≤ 2 then 0
  else match ev with
    | 4 => 32 | 5 => 4 | 0xB => 4 | 0xC => 4
    | 0xD => 32 | 0xE => 32 | 0xF => 32 | 0x10 => 32 | 0x11 => 32
    | 0x12 => 28 | 0x13 => 28 | 0x14 => 28
    | _ => 8

/-- Fields of one write that reserve a value together (R175, R205, R277, R440, R416). -/
def Device.badTogether (d : Device) (r : RegRow) (i w : Nat) : Bool :=
  if r.base = R.DEC_SESS_SIZE.base then
    decide (F.DEC_SESS_SIZE_MAX_WIDTH.of w % 8 ≠ 0) || decide (F.DEC_SESS_SIZE_MAX_HEIGHT.of w % 8 ≠ 0)
    || decide (F.DEC_SESS_SIZE_MAX_WIDTH.of w * F.DEC_SESS_SIZE_MAX_HEIGHT.of w > 8912896)
  else if r.base = R.ENC_SESS_QP.base then decide (F.ENC_SESS_QP_QP_MIN.of w > F.ENC_SESS_QP_QP_MAX.of w)
  else if r.base = R.NET_SRC_SIZE.base then decide (F.NET_SRC_SIZE_HEIGHT.of w % 2 ≠ 0)
  else if r.base = R.TIME_TRIG_CFG.base then
    decide (F.TIME_TRIG_CFG_PERIODIC.of w = 1) && decide (F.TIME_TRIG_CFG_WIDTH.of w ≥ d.get F.TIME_TRIG_PERIOD_NS i)
  else if r.base = R.TOUCH_KEY_THRESH.base then
    decide (F.TOUCH_KEY_THRESH_HYST.of w ≥ F.TOUCH_KEY_THRESH_THRESH.of w)
  else if r.base = R.TOUCH_KEY_ACTION.base then decide (F.TOUCH_KEY_ACTION_ARG.of w > 255)
  else if r.base = R.PERF_SEL.base then
    let q := F.PERF_SEL_QUAL.of w
    decide (q ≠ 0xFF) && decide (q ≥ perfUnits (F.PERF_SEL_EVENT.of w))
  else false

/-- The write places a reserved encoding into some field of the register (R10). -/
def Device.reservedWrite (d : Device) (r : RegRow) (i w : Nat) : Bool :=
  r.flds.any (fun (f : Fld) => !(decide (f.acc = .ro) || decide (f.acc = .rc)) && f.bad (f.of w)) || d.badTogether r i w

/-! ## Idle (R466) -/

/-- No receive flow that is enabled names the source (R216). -/
def Device.sourceIdle (d : Device) (s : Nat) : Bool :=
  (List.range 512).all (fun f => !(d.on F.NET_RX_FLOW_CFG_EN f && decide (d.get F.NET_RX_FLOW_CFG_SOURCE f = s)))

/-- Every session of the block is CLOSED. -/
def Device.allClosed (d : Device) (f : Fld) (n : Nat) : Bool :=
  (List.range n).all (fun s => decide (d.get f s = 0))

/-- The block that owns the RWS fields of the register is idle (R466 with R120, R152, R175, R205, R216, R234,
R255, R277, R312, R393, R415, R417, R420, R440). -/
def Device.idle (d : Device) (r : RegRow) (i : Nat) : Bool :=
  let b := r.base / 65536
  if b = 2 ∨ b = 4 ∨ b = 5 ∨ b = 11 then decide (d.pwr ≠ .run)
  else if b = 6 then
    if r.base ≥ 0x61000 then decide (d.get F.DEC_SESS_STATE_STATE i = 0) else d.allClosed F.DEC_SESS_STATE_STATE 256
  else if b = 7 then
    if r.base ≥ 0x71000 then decide (d.get F.ENC_SESS_STATE_OPEN i = 0) else d.allClosed F.ENC_SESS_STATE_OPEN 32
  else if b = 8 then
    if r.base < 0x80100 then (List.range 28).all (fun p => !d.on F.NET_PORT_CFG_EN p)
    else if r.base < 0x81000 then !d.on F.NET_PORT_CFG_EN i
    else if r.base < 0x82000 then d.sourceIdle i
    else if r.base < 0x84000 then !d.on F.NET_RX_FLOW_CFG_EN i
    else !d.on F.NET_TX_CFG_EN i
  else if b = 9 then
    if r.base ≥ 0x90600 then (List.range 4).all (fun k => !d.on F.NET_PORT_CFG_EN (4 * i + k))
    else if i ≥ 28 then !d.on F.LANE_TETHER_CFG_EN
    else
      let p := if d.get F.NET_PORT_CFG_MODE (i / 4 * 4) = 2 then i / 4 * 4 else i
      !d.on F.NET_PORT_CFG_EN p
  else if b = 10 then
    if r.base < 0xA0200 then !d.on F.TIME_SRV_CFG_EN i
    else if r.base < 0xA0300 then !d.on F.TIME_TRIG_CFG_EN i
    else !d.on F.TIME_CAP_CFG_EN i
  else if b = 13 then !d.on F.HOST_FUHEL_CFG_MGMT_EN
  else if b = 15 then !d.on F.CHK_CH_CMD_BUSY i
  else if b = 16 then
    if r.base = R.PERF_SEL.base then !d.on F.PERF_CTRL_RUNNING else !d.on F.PERF_SAMPLE_CFG_EN
  else if b = 18 then !d.on F.TOUCH_CTRL_EN
  else true

/-- The write would change an RWS field whose owner is not idle (R466). -/
def Device.busyWrite (d : Device) (r : RegRow) (slot i w : Nat) : Bool :=
  !d.idle r i && r.flds.any (fun (f : Fld) => decide (f.acc = .rws) && decide (f.of w ≠ d.fieldOf r slot i f))

/-! ## What a write stores (R11, R12) -/

/-- Store the word of a write in the fields by their access codes: RWT fields wait for the tick edge while tick
edges are generated or awaited in RUN. -/
def Device.storeWord (d : Device) (r : RegRow) (slot i w : Nat) : Device :=
  forL r.flds (fun (f : Fld) (d : Device) => match f.acc with
    | .ro => d
    | .rc => d
    | .wo => d
    | .rw => d.putField r slot i f (f.of w)
    | .rws => d.putField r slot i f (f.of w)
    | .w1c =>
      let old := d.fieldOf r slot i f
      d.putField r slot i f (old - (old &&& f.of w))
    | .rwt =>
      if d.pwr = .run then { d with rwt := Tab.set d.rwt (f.id, i, 0) (f.of w) }
      else { d.put f i (f.of w) with rwt := Tab.del d.rwt (f.id, i, 0) }) d

/-- Every RWT write that waits takes effect (R12). -/
def Device.applyRwt (d : Device) : Device :=
  let d' : Device := { d with rwt := [] }
  forL d.rwt (fun (p : Key × Nat) (d : Device) => { d with regs := Tab.set d.regs p.1 p.2 }) d'

/-- A field as a read returns it where nothing but the store holds it: an RWT field returns the value written
most recently (R11). -/
def Device.stored (d : Device) (r : RegRow) (slot i : Nat) (f : Fld) : Nat :=
  match f.acc with
  | .wo => 0
  | .rwt => (Tab.find d.rwt (f.id, i, 0)).getD (d.get f i)
  | _ => d.fieldOf r slot i f

/-- Clear the RC fields of a register that was read, of which `inc` counts came in the same cycle (R11, R14). -/
def Device.clearRc (d : Device) (r : RegRow) (slot i inc : Nat) : Device :=
  forL r.flds (fun (f : Fld) (d : Device) =>
    if f.acc = .rc then d.putField r slot i f inc else d) d

end Sys2Proof.Machine
end

