-- ==== Sys2Proof/Machine/Prot.lean ====
section
/-!
DEFINITION. Protection and the results of an access (R315, R379, R380, R385 to R387, R391).
-/

namespace Sys2Proof.Machine

/-- The results of R379. -/
def resOk : Nat := 0
def resFault : Nat := 1
def resRole : Nat := 2
def resBusy : Nat := 3
def resPoison : Nat := 4
def resSession : Nat := 5
def resFormat : Nat := 6
def resDenied : Nat := 7

/-- The fault reasons of R380. -/
def whyAlign : Nat := 1
def whyRange : Nat := 2
def whyPerm : Nat := 3
def whyState : Nat := 4
def whyBoot : Nat := 5

/-- Where the system region begins, and where DRAM ends (R315). -/
def sysBase : Nat := 0x7E0000000
def dramEnd : Nat := 0x800000000

/-- The first byte of every 4 KiB piece of an access of `n` bytes at `a` (R387). -/
def pieces (a n : Nat) : List Nat :=
  (List.range ((a % 4096 + n + 4095) / 4096)).map (fun k => if k = 0 then a else a - a % 4096 + 4096 * k)

/-- The permission code `p` allows a write, or a read (R385). -/
def permits (p : Nat) (write : Bool) : Bool := decide (p = 2) || (decide (p = 1) && !write)

/-- The address lies in entry `r` of the region table (R386). -/
def Device.inRegion (d : Device) (r a : Nat) : Bool :=
  let b := d.get F.HOST_PROT_RGN_BASE_BASE r * 4096
  decide (b ≤ a ∧ a < b + d.get F.HOST_PROT_RGN_SIZE_PAGES r * 4096)

/-- Some entry of the region table that holds the byte grants the slot what it needs (R386). -/
def Device.regionGrants (d : Device) (slot a : Nat) (write : Bool) : Bool :=
  (List.range 64).any (fun r => d.inRegion r a && permits (d.get F.HOST_PROT_RGN_PERM_PERM r / 4 ^ slot % 4) write)

/-- The first piece of a DRAM access that the region table refuses (R387). -/
def Device.refusedPiece (d : Device) (slot a n : Nat) (write : Bool) : Option Nat :=
  (pieces a n).find? (fun p => !d.regionGrants slot p write)

/-- An access fault is recorded for the slot and raised (R380); a register access has target 0. -/
def Device.fault (d : Device) (slot reason target addr : Nat) : Device :=
  let d := (d.putS F.HOST_SLOT_STATUS_FAULT_REASON slot 0 reason).putS F.HOST_FAULT_ADDR_LO_ADDR_LO slot 0 addr
  let d := (d.putS F.HOST_FAULT_ADDR_HI_TARGET slot 0 target).putS F.HOST_FAULT_ADDR_HI_ADDR_HI slot 0 (addr / 2 ^ 32)
  d.raise F.HOST_EVENTS_FAULT 0

/-- A write is dropped and the drop is recorded (R10, SYS_CFG_DROP). -/
def Device.dropWrite (d : Device) (slot addr : Nat) : Device :=
  ((d.put F.SYS_CFG_DROP_SLOT 0 slot).put F.SYS_CFG_DROP_ADDR 0 addr).raise F.SYS_EVENTS_CFG_DROPPED 0

/-- How many bytes a data-port window of R378 offers at an offset, if any: the black box's SRAM and spill ring
(R426). The update and settings windows are asked elsewhere. -/
def inBlackBox (off n : Nat) : Bool :=
  decide (off + n ≤ 0x20000) || (decide (0x100000 ≤ off) && decide (off + n ≤ 0x200000))

/-- Why a data-port read or write of DRAM is refused, with the address that shows it: outside what the port
reaches, asleep in STANDBY, or not permitted (R380). -/
def Device.dramRefused (d : Device) (slot a n : Nat) (write : Bool) : Option (Nat × Nat) :=
  if a + n > sysBase then some (whyRange, max a sysBase)
  else if d.pwr = .standby then some (whyState, a)
  else match d.refusedPiece slot a n write with
    | some p => some (whyPerm, p)
    | none => none

/-- A DRAM burst of 32 bytes is poisoned (R329, R330). -/
def Memory.burstBad (m : Memory) (a : Nat) : Bool := m.poison.contains (a / 32 * 32)

/-- The first addresses of the bursts an access touches. -/
def bursts (a n : Nat) : List Nat := if n = 0 then [] else (List.range ((a + n - 1) / 32 - a / 32 + 1)).map (fun k => 32 * (a / 32 + k))

/-- A read of DRAM: its bytes, those of poisoned bursts as 0x00, and whether one was met (R379). -/
def Memory.readPort (m : Memory) (a n : Nat) : List Byte × Bool :=
  ((List.range n).map (fun k => if m.burstBad (a + k) then (0 : Byte) else Dram.read m.dram (a + k)),
   (bursts a n).any (fun b => m.poison.contains b))

/-- A write of bytes: bursts it covers whole are no longer poisoned; a burst that it covers in part stays so,
and the flag says that one was met (R330). -/
def Memory.writePort (m : Memory) (a : Nat) (bytes : List Byte) : Memory × Bool :=
  let n := bytes.length
  let whole (b : Nat) : Bool := decide (a ≤ b ∧ b + 32 ≤ a + n)
  ({ m with dram := Dram.writeList m.dram a bytes, poison := m.poison.filter (fun b => !whole b) },
   (bursts a n).any (fun b => m.poison.contains b && !whole b))

/-! ## What debug may not touch (R391) -/

/-- A permission word grants something to a slot other than the one named. -/
def grantsOther (word slot : Nat) : Bool :=
  (List.range 8).any (fun h => decide (h ≠ slot) && decide (word / 4 ^ h % 4 = 1 ∨ word / 4 ^ h % 4 = 2))

/-- Peripheral `n` is LOCKED toward a debug session bound to a slot. -/
def Device.perLocked (d : Device) (n slot : Nat) : Bool :=
  d.on F.HOST_PROT_PERM_LOCKED n || grantsOther (d.get F.HOST_PROT_PERM_PERM n) slot

/-- A region entry that holds the byte is LOCKED toward debug. -/
def Device.rgnLocked (d : Device) (a slot : Nat) : Bool :=
  (List.range 64).any (fun r => d.inRegion r a &&
    (d.on F.HOST_PROT_RGN_PERM_LOCKED r || grantsOther (d.get F.HOST_PROT_RGN_PERM_PERM r) slot))

end Sys2Proof.Machine
end

