-- ==== Sys2Proof/Machine/Image.lean ====
section
/-!
DEFINITION. Oponian images (R347), the manifest (R394, R395), the boot ROM's checks (R349), the boot selector
(R403) and the settings slots (R405). An image is read through a function from its byte offsets.
-/

namespace Sys2Proof.Machine

/-- `n` bytes from an offset. -/
def bytesAt (rd : Nat → Byte) (a n : Nat) : List Byte := (List.range n).map (fun k => rd (a + k))

/-- A little-endian number (R3). -/
def leAt (rd : Nat → Byte) (a n : Nat) : Nat := leNat (bytesAt rd a n)

/-- All bytes of a range are 0. -/
def zeroAt (rd : Nat → Byte) (a n : Nat) : Bool := (List.range n).all (fun k => decide (rd (a + k) = 0))

/-- One entry of the section table (R347). -/
structure Sect where
  ty : Nat
  index : Nat
  svn : Nat
  off : Nat
  len : Nat
  hash : Nat
  deriving DecidableEq, Repr

/-- Entry `k` of the section table. -/
def readSect (rd : Nat → Byte) (k : Nat) : Sect :=
  let a := 2304 + 96 * k
  ⟨leAt rd a 2, leAt rd (a + 2) 2, leAt rd (a + 4) 4, leAt rd (a + 8) 8, leAt rd (a + 16) 8, beNat (bytesAt rd (a + 48) 48)⟩

/-- The sections of an image. -/
def sects (rd : Nat → Byte) : List Sect := (List.range (leAt rd 6 2)).map (readSect rd)

/-- The component of a section (R394). -/
def Sect.component (x : Sect) : Nat := if x.ty = 1 then x.index else x.ty + 14

/-- The section of a component. -/
def sectOf (rd : Nat → Byte) (k : Nat) : Option Sect := (sects rd).find? (fun x => decide (x.component = k))

/-- A section lies within the container, at a multiple of 4 KiB after the header, with its reserved bytes 0 and
its type and index defined (R347). -/
def sectOk (rd : Nat → Byte) (size k : Nat) : Bool :=
  let x := readSect rd k
  decide (1 ≤ x.ty ∧ x.ty ≤ 4) && (if x.ty = 1 then decide (x.index < 16) else decide (x.index = 0))
  && decide (x.off % 4096 = 0 ∧ 8192 ≤ x.off ∧ x.off + x.len ≤ size) && zeroAt rd (2304 + 96 * k + 24) 24

/-- The container has the form of R347: one ENGINE section for each engine, one each of the others. -/
def headerOk (rd : Nat → Byte) : Bool :=
  let n := leAt rd 6 2
  let size := leAt rd 16 8
  decide (leAt rd 0 4 = 0x4E4F504F) && decide (leAt rd 4 2 = 1) && decide (1 ≤ n ∧ n ≤ 32)
  && decide (8192 ≤ size ∧ size ≤ 268435456) && decide (leAt rd 12 4 < 128 ∧ leAt rd 12 4 % 16 ≤ 8)
  && zeroAt rd 216 40 && zeroAt rd 5376 2816 && zeroAt rd (2304 + 96 * n) (3072 - 96 * n)
  && (List.range n).all (sectOk rd size)
  && (List.range 19).all (fun k => decide (((sects rd).filter (fun x => decide (x.component = k))).length = 1))

/-- The error codes of SYS_BOOT_STATUS (R366). -/
def errStrap : Nat := 1
def errFlash : Nat := 2
def errHeader : Nat := 3
def errKey : Nat := 4
def errSignature : Nat := 5
def errSvn : Nat := 6
def errHash : Nat := 7
def errConfig : Nat := 8
def errMemory : Nat := 9
def errPush : Nat := 10

/-- The minimum SVN that OTP holds for a component (R394). -/
def Otp.svn (o : Otp) (k : Nat) : Nat := o.svns.getD k 0

/-- Step 4 of R349: the error of a header, 0 where it passes. A DECOMMISSIONED key store reads as erased (R388). -/
def headerErr (o : Otp) (lc : Nat) (rd : Nat → Byte) : Nat :=
  if !headerOk rd then errHeader
  else if lc = 2 || Config.sha384 (bytesAt rd 24 96) ≠ o.owner then errKey
  else if !Config.ecdsaOk (bytesAt rd 24 96) (bytesAt rd 120 96) (Config.sha384 (bytesAt rd 0 120 ++ bytesAt rd 216 7976)) then errSignature
  else if (sects rd).any (fun x => decide (x.svn < o.svn x.component) || decide (x.svn > 63)) then errSvn
  else 0

/-- The bytes of the section of a component. -/
def sectBytes (rd : Nat → Byte) (k : Nat) : List Byte :=
  match sectOf rd k with
  | some x => bytesAt rd x.off x.len
  | none => []

/-- The register entry lies in the protection set-up (R350, R391). -/
def inProt (a : Nat) : Bool := decide (0xD0200 ≤ a ∧ a < 0xD0800)

/-- The entry of the protection set-up holds no reserved code: a permission of 3 or a route of 4 to 7 (R368,
R385). -/
def protOk (a v : Nat) : Bool :=
  if a < 0xD0240 then decide (a % 8 ≠ 0) || decide (v % 8 ≤ 3)
  else if a < 0xD0400 then (List.range 8).all (fun h => decide (v / 4 ^ h % 4 ≠ 3))
  else if a % 16 = 8 then (List.range 8).all (fun h => decide (v / 4 ^ h % 4 ≠ 3))
  else true

/-- A CONFIG entry names a register, keeps to its access class and holds no reserved encoding (R349). -/
def Device.entryOk (d : Device) (e : Nat × Nat) : Bool :=
  if e.1 % 4 ≠ 0 then false
  else match findReg e.1 with
    | none => false
    | some p =>
      if inProt e.1 then protOk e.1 e.2
      else p.1.flds.any (fun (f : Fld) => decide (f.acc = .rw ∨ f.acc = .rwt ∨ f.acc = .rws)) && !d.reservedWrite p.1 p.2 e.2

/-- Step 7 of R349: the error of the sections, 0 where they pass. -/
def Device.sectionsErr (d : Device) (rd : Nat → Byte) : Nat :=
  if (sects rd).any (fun x => decide ((Config.sha384 (bytesAt rd x.off x.len)).toNat ≠ x.hash)) then errHash
  else if (Config.configEntries (sectBytes rd 16)).all (fun e => d.entryOk e) && Config.schemaOk (sectBytes rd 16) (sectBytes rd 17)
  then 0 else errConfig

/-- What an image holds (R347, R394, R395). -/
def readImage (rd : Nat → Byte) : Image :=
  let p := sectBytes rd 18
  { version := leAt rd 8 4, proto := (p.getD 0 0).toNat, rev := (p.getD 1 0).toNat, hitless := leNat ((p.drop 4).take 4),
    schema := leNat ((sectBytes rd 17).take 4),
    svns := (List.range 19).map (fun k => match sectOf rd k with | some x => x.svn | none => 0),
    hashes := (List.range 19).map (fun k => match sectOf rd k with | some x => x.hash | none => 0),
    entries := Config.configEntries (sectBytes rd 16) }

/-- The reserved bytes and bits of TETHER_PROTO are 0 (R395, R402). -/
def protoOk (rd : Nat → Byte) : Bool :=
  let p := sectBytes rd 18
  decide (p.length = 16) && decide (leNat ((p.drop 2).take 2) = 0) && decide (leNat (p.drop 8) = 0)
  && decide (leNat ((p.drop 4).take 4) % 65536 < 16384) && decide (leNat ((p.drop 4).take 4) / 65536 ≤ 1)

/-! ## Flash -/

/-- The byte at a flash address; erased flash reads as 0xFF. -/
def Memory.flashRd (m : Memory) (a : Nat) : Byte := Flash.read m.flash a

/-- Program bytes. -/
def Memory.flashWr (m : Memory) (a : Nat) (l : List Byte) : Memory :=
  { m with flash := Flash.writeList m.flash a l }

/-- Erase the 64 KiB sector that holds an address. -/
def Memory.flashErase (m : Memory) (a : Nat) : Memory :=
  { m with flash := m.flash.filter (fun (p : Nat × Byte) => decide (p.1 / 65536 ≠ a / 65536)) }

/-- Where image A or B starts (R348), and how long its slot is (R400). -/
def imageBase (f k : Nat) : Nat := if k = 0 then 0 else f / 2
def imageSpan (f k : Nat) : Nat := min (if k = 0 then f / 2 else f / 2 - 4194304) 268435456

/-- An image slot as a reader. -/
def Memory.imageRd (m : Memory) (f k : Nat) : Nat → Byte := fun a => m.flashRd (imageBase f k + a)

/-! ## The boot selector (R403) -/

/-- Where the settings store starts (R348). -/
def storeBase (f : Nat) : Nat := f - 4194304

/-- The bytes of a record. -/
def selBytes (generation preferred state : Nat) : List Byte :=
  let l := leBytes 4 0x53454C31 ++ leBytes 4 generation ++ leBytes 1 preferred ++ leBytes 1 state ++ List.replicate 50 (0 : Byte)
  l ++ leBytes 4 (crc32c l)

/-- A record at an address, when it is valid: generation, preferred, state. -/
def Memory.selAt (m : Memory) (a : Nat) : Option (Nat × Nat × Nat) :=
  let l := bytesAt m.flashRd a 64
  if leNat (l.take 4) = 0x53454C31 ∧ leNat (l.drop 60) = crc32c (l.take 60) then
    some (leNat ((l.drop 4).take 4), (l.getD 8 0).toNat % 2, (l.getD 9 0).toNat)
  else none

/-- The record in force with its place: the valid one with the highest generation. A place whose first byte is
erased holds none. -/
def Memory.selector (m : Memory) (f : Nat) : Option (Nat × Nat × Nat × Nat) :=
  (List.range 2048).foldl (fun (best : Option (Nat × Nat × Nat × Nat)) k =>
    let a := storeBase f + 64 * k
    if m.flashRd a = 0xFF then best
    else match m.selAt a, best with
      | some r, some b => if b.2.1 < r.1 then some (k, r) else best
      | some r, none => some (k, r)
      | none, _ => best) none

/-- PREFERRED and STATE in force; image A CONFIRMED where no record is valid. -/
def Memory.selected (m : Memory) (f : Nat) : Nat × Nat :=
  match m.selector f with
  | some r => (r.2.2.1, r.2.2.2)
  | none => (0, 0)

/-- Write the next record; the other sector is erased before a record that would overflow (R403). -/
def Memory.writeSel (m : Memory) (f preferred state : Nat) : Memory :=
  match m.selector f with
  | none => (m.flashErase (storeBase f)).flashWr (storeBase f) (selBytes 1 preferred state)
  | some r =>
    let k := r.1 + 1
    let g := r.2.1 + 1
    if k % 1024 = 0 then
      let a := storeBase f + 64 * (k % 2048)
      (m.flashErase a).flashWr a (selBytes g preferred state)
    else m.flashWr (storeBase f + 64 * k) (selBytes g preferred state)

/-- The selector as UPD_STATUS shows it. -/
def Device.showSel (d : Device) (preferred state : Nat) : Device :=
  (d.put F.UPD_STATUS_PREFERRED 0 preferred).put F.UPD_STATUS_SEL_STATE 0 state

/-! ## Settings slots (R405) -/

/-- The bytes of a settings slot, and where slot `h` starts. -/
def slotBytes : Nat := 1966080
def settingsBase (f h : Nat) : Nat := storeBase f + 131072 + slotBytes * h

/-- The settings format that a slot names in its header. -/
def Memory.slotFormat (m : Memory) (f h : Nat) : Nat := leAt m.flashRd (settingsBase f h) 4

/-- The bytes of a settings slot that differ from erased flash, by offset in the window. -/
def Memory.slotData (m : Memory) (f h : Nat) : Flash :=
  (m.flash.filter (fun (p : Nat × Byte) => decide (settingsBase f h + 4096 ≤ p.1 ∧ p.1 < settingsBase f h + slotBytes))).map
    (fun (p : Nat × Byte) => (p.1 - settingsBase f h - 4096, p.2))

/-- Erase a settings slot. -/
def Memory.eraseSlot (m : Memory) (f h : Nat) : Memory :=
  { m with flash := m.flash.filter (fun (p : Nat × Byte) =>
      !decide (settingsBase f h ≤ p.1 ∧ p.1 < settingsBase f h + slotBytes)) }

/-- A settings slot takes a format and data. -/
def Memory.fillSlot (m : Memory) (f h format : Nat) (t : Flash) : Memory :=
  let m := (m.eraseSlot f h).flashWr (settingsBase f h) (leBytes 4 format)
  { m with flash := t.foldl (fun (l : Flash) (p : Nat × Byte) => Cells.write 0xFF l (settingsBase f h + 4096 + p.1) p.2) m.flash }

/-- The settings slot of the running image before SYS_READY: the one of its format; else the slot of the other
image converted into the other; else an empty one. The flag says that no slot could be converted. -/
def Memory.openSettings (m : Memory) (f format older : Nat) : Memory × Nat × Bool :=
  if m.slotFormat f 0 = format then (m, 0, false)
  else if m.slotFormat f 1 = format then (m, 1, false)
  else
    let src := if m.slotFormat f 0 = older then some 0 else if m.slotFormat f 1 = older then some 1 else none
    match src with
    | none =>
      let h := if m.slotFormat f 0 = 0xFFFFFFFF then 0 else 1
      (m.fillSlot f h format [], h, true)
    | some h =>
      match Config.convertSettings older format (m.slotData f h) with
      | some t => (m.fillSlot f (1 - h) format t, 1 - h, false)
      | none => (m.fillSlot f (1 - h) format [], 1 - h, true)

end Sys2Proof.Machine
end

