-- ==== Sys2Proof/Machine/Berths.lean ====
section
/-!
DEFINITION. Berths (R112 to R119): pools, allocation against reservations, sealing, references, retirement,
pins and the berth record.
-/

namespace Sys2Proof.Machine

/-! ## Pools (R112) -/

def Device.poolCount (d : Device) (c : Nat) : Nat := d.get F.CMP_POOL_CFG_COUNT c
def Device.poolSize (d : Device) (c : Nat) : Nat := d.get F.CMP_POOL_CFG_SIZE c * 65536
def Device.poolBase (d : Device) (c : Nat) : Nat :=
  d.addr40 F.CMP_POOL_BASE_LO_ADDR_LO F.CMP_POOL_BASE_HI_ADDR_HI c

/-- The number of the first berth of class `c` (R112). -/
def Device.poolFirst (d : Device) (c : Nat) : Nat := forN c (fun k n => n + d.poolCount k) 0

/-- All berths configured. -/
def Device.berthTotal (d : Device) : Nat := d.poolFirst 8

/-- The class of a berth number (R112). -/
def Device.classOf (d : Device) (n : Nat) : Nat :=
  ((List.range 8).find? (fun c => decide (n < d.poolFirst (c + 1)))).getD 0

/-- The address of a berth (R112). -/
def Device.berthAddr (d : Device) (n : Nat) : Nat :=
  let c := d.classOf n
  d.poolBase c + (n - d.poolFirst c) * d.poolSize c

/-- R112: the pools pass the check of the RUN command. -/
def Device.poolsOk (d : Device) : Bool :=
  let live := (List.range 8).filter (fun c => decide (d.poolCount c ≠ 0) && decide (d.poolSize c ≠ 0))
  decide (d.berthTotal ≤ 16384) &&
  live.all (fun c => live.all (fun e => decide (c = e) ||
    decide (d.poolBase c + d.poolCount c * d.poolSize c ≤ d.poolBase e) ||
    decide (d.poolBase e + d.poolCount e * d.poolSize e ≤ d.poolBase c)))

/-- The class that holds `bytes` (R113): the smallest berth size that holds them, the lowest number among
equals. -/
def Device.classFor (d : Device) (bytes : Nat) : Option Nat :=
  (List.range 8).foldl (fun best c =>
    if d.poolCount c = 0 ∨ d.poolSize c = 0 ∨ d.poolSize c < bytes then best
    else match best with
      | none => some c
      | some b => if d.poolSize c < d.poolSize b then some c else best) none

/-- A berth is retired: a byte of it lies in a region retired since reset (R112, R116). -/
def Device.retired (d : Device) (n : Nat) : Bool :=
  let a := d.berthAddr n
  let z := d.poolSize (d.classOf n)
  d.retiredAt.any (fun r => decide (r.1 < a + z) && decide (a < r.1 + r.2))

/-- The berth numbers of a class. -/
def Device.berthsOf (d : Device) (c : Nat) : List Nat :=
  (List.range (d.poolCount c)).map (fun k => d.poolFirst c + k)

/-- The free berths of a class. -/
def Device.freeOf (d : Device) (c : Nat) : List Nat :=
  (d.berthsOf c).filter (fun n => decide ((d.berth n).st = .free) && !d.retired n)

/-! ## Reservations (R96, R115, R117) -/

/-- The frame bytes of an uncompressed source (R216). -/
def Device.srcBytes (d : Device) (s : Nat) : Nat :=
  let f := d.get F.NET_SRC_CFG_FORMAT s
  let w := d.get F.NET_SRC_SIZE_WIDTH s
  picBytes f (d.get F.NET_SRC_SIZE_HEIGHT s) (fmtStride f w)

/-- The bytes of an output berth (R85). -/
def OutRec.bytes (o : OutRec) : Nat := fmtStride o.format o.width * o.height

/-- The sources that the enabled and disabled source layers of a layout name, each once. -/
def Layout.sources (l : Layout) (desc : Nat → Option Desc) : List Nat :=
  (l.outs.flatMap (fun o => o.layers.filterMap (fun i =>
    match desc i with
    | some x => if x.kind = 0 then some x.source else none
    | none => none))).dedup

/-- The layout reservation of a class: that of the layout in force, or the larger of it and of the pending
layout's (R96). -/
def Device.layoutRes (d : Device) (c : Nat) : Nat :=
  let a := match d.layout with
    | some l => l.berths.getD c 0
    | none => 0
  let b := match d.layoutReq with
    | some r => r.layout.berths.getD c 0
    | none => 0
  max a b

/-- The berths that pins reserve in a class (R117). -/
def Device.pinRes (d : Device) (c : Nat) : Nat :=
  ((List.range 8).filter (fun h => decide (d.getS F.CMP_BERTH_PIN_PINNED h ≠ 0) &&
    decide (d.classOf (d.getS F.CMP_BERTH_PIN_BERTH h) = c))).length

/-- The berths that open decode sessions reserve in a class (R164). -/
def Device.decRes (d : Device) (c : Nat) : Nat :=
  forN 256 (fun n t => if d.get F.DEC_SESS_RES_CLASS n = c then t + d.get F.DEC_SESS_RES_BERTHS n else t) 0

/-- The berths that open encode sessions reserve in a class. -/
def Device.encRes (d : Device) (c : Nat) : Nat :=
  forN 32 (fun n t => if d.get F.ENC_SESS_RES_CLASS n = c then t + d.get F.ENC_SESS_RES_BERTHS n else t) 0

/-- The berths reserved in a class (CMP_POOL_STATUS.RESERVED). -/
def Device.reservedOf (d : Device) (c : Nat) : Nat := d.layoutRes c + d.decRes c + d.encRes c + d.pinRes c

/-- The berths of a class that are not retired (CMP_POOL_STATUS.AVAIL). -/
def Device.availOf (d : Device) (c : Nat) : Nat := ((d.berthsOf c).filter (fun n => !d.retired n)).length

/-- The berths of a class that a producer holds. -/
def Device.usedBy (d : Device) (kind prod c : Nat) : Nat :=
  (d.berths.filter (fun p => decide (p.2.st ≠ .free) && decide (p.2.kind = kind) && decide (p.2.prod = prod) &&
    decide (d.classOf p.1 = c))).length

/-- What a producer's purpose reserves in a class: 3 for a present output, 4 for an uncompressed source of
the layout, the berths of its session for a decode session (kind 2) or an encode session (kind 0) (R115, R164, R185). -/
def Device.purposeRes (d : Device) (kind prod c : Nat) : Nat :=
  let ls := (match d.layout with | some l => [l] | none => []) ++
    (match d.layoutReq with | some r => [r.layout] | none => [])
  if kind = 3 then
    if ls.any (fun l => l.outs.any (fun o => decide (o.out = prod) && decide (d.classFor o.bytes = some c))) then 3 else 0
  else if kind = 1 then
    if (d.src prod).referenced && decide (d.classFor (d.srcBytes prod) = some c) then 4 else 0
  else if kind = 2 then
    if d.get F.DEC_SESS_RES_CLASS prod = c then d.get F.DEC_SESS_RES_BERTHS prod else 0
  else if d.get F.ENC_SESS_RES_CLASS prod = c then d.get F.ENC_SESS_RES_BERTHS prod
  else 0

/-- The producers that hold berths. -/
def Device.producers (d : Device) : List (Nat × Nat) :=
  ((d.berths.filter (fun p => decide (p.2.st ≠ .free))).map (fun p => (p.2.kind, p.2.prod))).dedup

/-- The part of the reservations of a class that nothing fills yet. -/
def Device.unusedRes (d : Device) (c : Nat) : Nat :=
  d.reservedOf c - d.producers.foldl (fun t p => t + min (d.usedBy p.1 p.2 c) (d.purposeRes p.1 p.2 c)) 0

/-- A free berth of a class: a free value picks among several (R114). -/
def Device.pickFree (d : Device) (c : Nat) : Option Nat :=
  match d.freeOf c with
  | [] => none
  | [n] => some n
  | l => l[Config.pick d.free % l.length]?

/-- Take a berth of class `c` for a producer, from its reservation first (R115), and record what it is for.
Without a berth, CMP_POOL_EMPTY is raised and counted (R118). -/
def Device.alloc (d : Device) (c kind prod : Nat) : Device × Option Nat :=
  let d := d.count 0x15 c 1
  let fail : Device := ((d.bump F.CMP_POOL_EMPTY_CNT_COUNT c 1).count 0x16 c 1).raise F.CMP_EVENTS_POOL_EMPTY prod
  let within := decide (d.usedBy kind prod c < d.purposeRes kind prod c)
  if within || decide (d.unusedRes c < (d.freeOf c).length) then
    match d.pickFree c with
    | some n =>
      ({ d with free := d.free + 1 }.setBerth n { Berth.empty with st := .filling, kind := kind, prod := prod }, some n)
    | none => (fail, none)
  else (fail, none)

/-- A berth for a picture of `bytes` bytes (R113). PRESUMED: where no class holds the picture, CMP_POOL_EMPTY is raised and
no class counts the failure (log entry 130). -/
def Device.allocFor (d : Device) (bytes kind prod : Nat) : Device × Option Nat :=
  match d.classFor bytes with
  | some c => d.alloc c kind prod
  | none => (d.raise F.CMP_EVENTS_POOL_EMPTY prod, none)

/-! ## Roles, references and release (R114 to R116) -/

/-- A sealed berth without the CORRUPT flag holds a retention role (R115). -/
def Device.hasRole (d : Device) (n : Nat) : Bool :=
  !(d.berth n).corrupt &&
  (d.srcs.any (fun p => decide (p.2.newest = some n) || decide (p.2.fallback = some n)) ||
   d.outs.any (fun p => match p.2.prev with
     | some q => decide (q.berth = some n)
     | none => false))

/-- A CORRUPT berth that nothing holds is retired by its address (R112, R116). -/
def Device.retire (d : Device) (n : Nat) : Device :=
  ({ d with retiredAt := d.retiredAt ++ [(d.berthAddr n, d.poolSize (d.classOf n))],
            berths := Tab.del d.berths n }).raise F.CMP_EVENTS_BERTH_RETIRED n

/-- Let a sealed berth go when nothing holds it: back to FREE (R114), or retired when it is CORRUPT (R116). -/
def Device.settle (d : Device) (n : Nat) : Device :=
  let b := d.berth n
  if b.st = .sealed ∧ b.refs = [] then
    if b.corrupt then d.retire n
    else if d.hasRole n then d
    else { d with berths := Tab.del d.berths n }
  else d

/-- Take a reference. -/
def Device.hold (d : Device) (n : Nat) (h : Holder) : Device :=
  let b := d.berth n
  d.setBerth n { b with refs := b.refs ++ [h] }

/-- Release a reference, then let the berth go if nothing holds it. -/
def Device.release (d : Device) (n : Nat) (h : Holder) : Device :=
  let b := d.berth n
  (d.setBerth n { b with refs := b.refs.erase h }).settle n

/-- Release every reference that satisfies a test, over all berths. -/
def Device.releaseAll (d : Device) (p : Holder → Bool) : Device :=
  forL (d.berths.map Prod.fst) (fun n d =>
    let b := d.berth n
    (d.setBerth n { b with refs := b.refs.filter (fun h => !p h) }).settle n) d

/-- A berth in FILLING whose frame is discarded returns to FREE (R114), or is retired when it is CORRUPT (R116). -/
def Device.discard (d : Device) (n : Nat) : Device :=
  if (d.berth n).corrupt then d.retire n else { d with berths := Tab.del d.berths n }

/-- The tick number that a seal records (R119): that of the tick in progress, 0 outside ticks. -/
def Device.sealTick (d : Device) : Nat := if d.tick.inTick then d.tick.num % 2 ^ 32 else 0

/-- Region `j` is watched (R60). -/
def Device.watched (d : Device) (s j : Nat) : Bool :=
  let bit := (d.get2 F.FRS_SRC_MASK_LO_MASK F.FRS_SRC_MASK_HI_MASK s).testBit j
  match d.get F.FRS_SRC_CFG_DETECT s with
  | 1 => !bit
  | 2 => bit
  | _ => false

/-- R60: a frame changes. -/
def Device.frameChanges (d : Device) (s : Nat) (b : Berth) : Bool :=
  let x := d.src s
  x.prevSigs.isEmpty || decide (x.prevW ≠ b.width) || decide (x.prevH ≠ b.height) ||
  (List.range 64).any (fun j => d.watched s j && decide (x.prevSigs[j]? ≠ b.sigs[j]?))

/-- `a` is later than `b` under 32-bit serial-number arithmetic. -/
def serialLater (a b : Nat) : Bool :=
  decide (a ≠ b) && decide ((a + 2 ^ 32 - b % 2 ^ 32) % 2 ^ 32 < 2 ^ 31)

/-- A frame of the same source that is sealed already is as late as this one, or later: an RTP timestamp for ingest, a
place in output order for a decode session (R43). -/
def Device.outOfOrder (d : Device) (n s : Nat) : Bool :=
  let b := d.berth n
  if b.kind = 2 then
    match b.order, (d.dec b.prod).lastOut with
    | some (v, poc), some (w, last) => decide (v < w) || (decide (v = w) && decide (poc ≤ last))
    | _, _ => false
  else match (d.src s).lastTs with
    | some t => !serialLater b.rtpTs t
    | none => false

/-- What is kept of the frame sealed last, to order the next one (R43). -/
def Device.orderNote (d : Device) (n s : Nat) : Device :=
  let b := d.berth n
  if b.kind = 2 then
    (match b.order with
     | some o => d.setDec b.prod { d.dec b.prod with lastOut := some o }
     | none => d)
  else d.setSrc s { d.src s with lastTs := some b.rtpTs }

/-- A finished berth of source `s` is sealed: it becomes NEWEST and the one before it FALLBACK (R115), and
its signatures are compared with those of the frame before it (R60, R61). A CORRUPT one takes no role (R116). -/
def Device.sealRole (d : Device) (n s : Nat) : Device :=
  let b := d.berth n
  let x := d.src s
  let chg := d.frameChanges s b
  let x := { x with chg := if chg then b.capture else x.chg, chgScale := if chg then b.scale else x.chgScale,
                    prevSigs := b.sigs, prevW := b.width, prevH := b.height, lastIncomplete := false }
  let d := d.setBerth n { b with st := .sealed, sealTick := d.sealTick, done := true }
  if b.corrupt then (d.setSrc s x).settle n
  else
    let d := d.setSrc s { x with newest := some n, fallback := x.newest }
    match x.fallback with
    | some f => d.settle f
    | none => d

/-- A finished frame that is out of order leaves (R43): it is counted and changes no age. A decode session that keeps the
picture as a reference holds its berth on (R169). -/
def Device.dropLate (d : Device) (n s : Nat) : Device :=
  let b := d.berth n
  let d := d.bump F.NET_SRC_CNT_DISCARD_COUNT s 1
  if b.kind = 2 ∧ b.refs ≠ [] then d.setBerth n { b with done := false, refs := [] } else d.discard n

/-- The seal of a source's frame, when its writes are acknowledged (R43, R114, R218, R169). -/
def Device.sealSource (d : Device) (n s : Nat) : Device :=
  if d.outOfOrder n s then d.dropLate n s
  else
    let b := d.berth n
    let d := ((d.orderNote n s).sealRole n s).bump F.NET_SRC_CNT_FRAMES_COUNT s 1
    if b.kind = 2 then d.bump F.DEC_SESS_CNT_SEALED_COUNT b.prod 1 else d

/-- The producer of a source's berth has finished it: it is sealed once every write is acknowledged
(R114, R325). -/
def Device.finishSource (d : Device) (n s : Nat) : Device :=
  let b := d.berth n
  if b.unacked = 0 then d.sealSource n s else d.setBerth n { b with done := true }

/-- The source that a berth of ingest or of a decode session belongs to. -/
def Device.berthSource (d : Device) (n : Nat) : Nat :=
  let b := d.berth n
  if b.kind = 2 then d.get F.DEC_SESS_CFG_SOURCE b.prod else b.prod

/-- R116: a berth is marked CORRUPT. It loses its role at once; a former FALLBACK becomes NEWEST. -/
def Device.corrupt (d : Device) (n : Nat) : Device :=
  let b := d.berth n
  if b.st = .free then d
  else
    let d := d.setBerth n { b with corrupt := true }
    let fix (x : Src) : Src :=
      if x.newest = some n then { x with newest := x.fallback, fallback := none }
      else if x.fallback = some n then { x with fallback := none } else x
    let cut (q : SealedOut) : SealedOut := if q.berth = some n then { q with berth := none } else q
    ({ d with srcs := d.srcs.map (fun (p : Nat × Src) => (p.1, fix p.2)),
              outs := d.outs.map (fun (p : Nat × OutSt) => (p.1, { p.2 with prev := p.2.prev.map cut })) }).settle n

/-! ## Pins (R117) -/

/-- The newest sealed berth without the CORRUPT flag of an output: the one sealed last. -/
def Device.outNewest (d : Device) (o : Nat) : Option Nat :=
  match (d.outp o).prev with
  | some q => match q.berth with
    | some n => if (d.berth n).corrupt then none else some n
    | none => none
  | none => none

/-- The output is present in the layout in force. -/
def Device.present (d : Device) (o : Nat) : Bool :=
  match d.layout with
  | some l => l.outs.any (fun r => decide (r.out = o))
  | none => false

/-- Release the pin of a slot. -/
def Device.unpin (d : Device) (slot : Nat) : Device :=
  if d.getS F.CMP_BERTH_PIN_PINNED slot = 0 then d
  else
    let n := d.getS F.CMP_BERTH_PIN_BERTH slot
    ((d.putS F.CMP_BERTH_PIN_PINNED slot 0 0).putS F.CMP_BERTH_PIN_BERTH slot 0 0).release n (.pin slot)

/-- Carry out a pin operation of R117 (1 source, 2 output, 3 release). A refused pin leaves the slot's
earlier pin; one that succeeds releases it. -/
def Device.pinAct (d : Device) (slot op id : Nat) : Device :=
  if op = 3 then d.unpin slot
  else
    let target := if op = 1 then (d.src id).newest else if d.present id then d.outNewest id else none
    match target with
    | some n =>
      let c := d.classOf n
      if d.unusedRes c < (d.freeOf c).length then
        let d := (d.hold n (.pin slot)).unpin slot
        (d.putS F.CMP_BERTH_PIN_PINNED slot 0 1).putS F.CMP_BERTH_PIN_BERTH slot 0 n
      else d.raise F.CMP_EVENTS_PIN_REFUSED id
    | none => d.raise F.CMP_EVENTS_PIN_REFUSED id

/-- A pin operation: at the next tick edge in RUN, at once outside RUN (R117). -/
def Device.pinWrite (d : Device) (slot op id : Nat) : Device :=
  if d.pwr = .run then { d with pinWait := d.pinWait ++ [(slot, op, id)] } else d.pinAct slot op id

/-- The pin operations that wait act at the edge. -/
def Device.pinEdge (d : Device) : Device :=
  forL d.pinWait (fun (p : Nat × Nat × Nat) (d : Device) => d.pinAct p.1 p.2.1 p.2.2) { d with pinWait := [] }

/-! ## The record and the pool registers (R112, R119) -/

/-- The eight words of a berth's record (R119). -/
def Device.berthRecord (d : Device) (n : Nat) : List Nat :=
  if d.berthTotal ≤ n then List.replicate 8 0
  else
    let b := d.berth n
    let r := b.refs.length
    let st := match b.st with
      | .free => 0
      | .filling => 1
      | .sealed => if r = 0 then 2 else 3
    [r % 4096 * 2 ^ 20 + b.kind * 2 ^ 16 + b.prod % 256 * 256 + (if d.retired n then 128 else 0)
        + d.classOf n * 16 + (if b.corrupt || d.retired n then 4 else 0) + st,
     d.berthAddr n / 4096 % 2 ^ 28,
     b.height % 65536 * 65536 + b.width % 65536,
     b.stride % 2 ^ 24 * 256 + b.format % 256,
     b.capture % 2 ^ 32, b.capture / 2 ^ 32 % 2 ^ 32, b.sealTick % 2 ^ 32, b.rtpTs % 2 ^ 32]

/-- A write to CMP_BERTH_QUERY copies the record into the slot's registers (R119). -/
def Device.berthQuery (d : Device) (slot n : Nat) : Device :=
  let w := d.berthRecord n
  forN 8 (fun k d => d.putS F.CMP_BERTH_REC_WORD slot k (w.getD k 0)) (d.putS F.CMP_BERTH_QUERY_BERTH slot 0 n)

/-- Give berths other numbers: a berth to which `f` gives none is gone, with every role, reference and use of it. -/
def Device.renumber (d : Device) (f : Nat → Option Nat) : Device :=
  let f' (o : Option Nat) : Option Nat := o.bind f
  let fq (q : SealedOut) : SealedOut := { q with berth := f' q.berth }
  let d := forN 8 (fun h d =>
    if d.getS F.CMP_BERTH_PIN_PINNED h = 0 then d
    else match f (d.getS F.CMP_BERTH_PIN_BERTH h) with
      | some k => d.putS F.CMP_BERTH_PIN_BERTH h 0 k
      | none => (d.putS F.CMP_BERTH_PIN_PINNED h 0 0).putS F.CMP_BERTH_PIN_BERTH h 0 0) d
  let use (r : MemReq) : MemReq := match r.use with
    | .berth n => (match f n with
      | some k => { r with use := .berth k }
      | none => { r with use := .other })
    | _ => r
  { d with
    berths := d.berths.filterMap (fun (p : Nat × Berth) => (f p.1).map (fun k => (k, p.2)))
    srcs := d.srcs.map (fun (p : Nat × Src) => (p.1, { p.2 with newest := f' p.2.newest, fallback := f' p.2.fallback, input := f' p.2.input }))
    outs := d.outs.map (fun (p : Nat × OutSt) => (p.1, { p.2 with
      prev := p.2.prev.map fq, berth := f' p.2.berth, sending := p.2.sending.map fq
      tail := (p.2.tail.filter (fun t => decide (t.frame.berth.isNone ∨ (f' t.frame.berth).isSome))).map (fun t => { t with frame := fq t.frame }) }))
    net := { d.net with ingest := d.net.ingest.map (fun (p : Nat × Ingest) => (p.1, { p.2 with
      filling := p.2.filling.map (fun x => { x with berth := f' x.berth }) })) }
    decs := d.decs.map (fun (p : Nat × DecSess) => (p.1, { p.2 with
      dpb := p.2.dpb.filterMap (fun x => (f x.berth).map (fun k => { x with berth := k }))
      running := p.2.running.map (fun x => { x with berth := f' x.berth }) }))
    encs := d.encs.map (fun (p : Nat × EncSess) => (p.1, { p.2 with
      rec0 := f' p.2.rec0, rec1 := f' p.2.rec1, jobs := p.2.jobs.map (fun x => { x with input := f' x.input }) }))
    chans := d.chans.map (fun (p : Nat × Channel) => (p.1, { p.2 with queue := p.2.queue.map use, waiting := p.2.waiting.map use })) }

/-- What R112 lists for a change of COUNT, SIZE or the base of class `c`, `old` being the device before it: the berths of
the class are gone, and those of the higher classes are numbered anew. Nothing else happens where no value changes. -/
def Device.poolChanged (d old : Device) (c : Nat) : Device :=
  if d.poolCount c = old.poolCount c ∧ d.poolSize c = old.poolSize c ∧ d.poolBase c = old.poolBase c then d
  else d.renumber (fun n =>
    if n < old.poolFirst c then some n
    else if n < old.poolFirst (c + 1) then none
    else some (n - old.poolCount c + d.poolCount c))

end Sys2Proof.Machine
end

