-- ==== Sys2Proof/Machine/Frs.lean ====
section
/-!
DEFINITION. The freshness block at a tick edge (R42 to R63, R467): ages, frozen-content detection, the stale
state machine, acknowledgements and the transport flags.
-/

namespace Sys2Proof.Machine

/-- The staleness limit of a source (R50). -/
def Device.limit (d : Device) (s : Nat) : Nat :=
  let l := d.get F.FRS_SRC_CFG_LIMIT s
  if l = 0 then d.get F.FRS_LIMIT_DEFAULT_LIMIT else l

/-- The age of source `s` at tick `t` from its input berth (R44); none is an age without bound. -/
def Device.age (d : Device) (s t : Nat) : Option Nat :=
  match (d.src s).input with
  | some n => some (ticksSince t (d.berth n).capture)
  | none => none

/-- A source watches no region (R62). -/
def Device.watchesNone (d : Device) (s : Nat) : Bool :=
  (List.range 64).all (fun j => !d.watched s j)

/-- Source `s` is frozen at tick `t` (R61, R62). -/
def Device.frozen (d : Device) (s t : Nat) : Bool :=
  let m := d.get F.FRS_SRC_CFG_DETECT s
  (decide (m = 1) || decide (m = 2)) && !d.watchesNone s &&
  decide (d.get F.FRS_SRC_TIMER_FROZEN_TICKS s ≤ ticksSince t (d.src s).chg)

/-- The age of a source is above its limit at tick `t` (R50). -/
def Device.aged (d : Device) (s t : Nat) : Bool :=
  match d.age s t with
  | some a => decide (d.limit s < a)
  | none => true

/-- The stale state machine of R51: state and recovery count from state and recovery count (0 LIVE, 1 STALE,
2 LATCHED), and the event raised. -/
def staleNext (st recov : Nat) (viol : Bool) (recover : Nat) (latch ack : Bool) : Nat × Nat × Option Fld :=
  if viol then (1, 0, if st = 0 then some F.FRS_EVENTS_SRC_STALE else none)
  else if st = 0 then (0, recov, none)
  else if st = 1 then
    if recov + 1 < recover then (1, recov + 1, none)
    else if latch then (2, 0, some F.FRS_EVENTS_ACK_PENDING)
    else (0, 0, some F.FRS_EVENTS_SRC_LIVE)
  else if ack then (0, 0, some F.FRS_EVENTS_SRC_LIVE)
  else (2, recov, none)

/-- Raise an event if there is one. -/
def Device.raiseOpt (d : Device) (f : Option Fld) (arg : Nat) : Device :=
  match f with
  | some e => d.raise e arg
  | none => d

/-- The update of a referenced source at E(t) (R51 to R53, R61). `fresh` says that detection starts at this
edge, `entered` that the source enters the layout. -/
def Device.staleUpdate (d : Device) (s t : Nat) (entered fresh ack : Bool) : Device :=
  let x := d.src s
  let x := if entered || fresh then { x with chg := t, chgScale := d.tick.scale } else x
  let x := if entered then { x with recov := 0 } else x
  let d := d.setSrc s x
  let st := if entered then 1 else d.get F.FRS_SRC_STATE_STATE s
  let aged := d.aged s t
  let frozen := d.frozen s t
  let wasFrozen := d.on F.FRS_SRC_STATE_FROZEN s
  let r := staleNext st x.recov (aged || frozen) (d.get F.FRS_SRC_CFG_RECOVER s)
    (d.on F.FRS_SRC_CFG_LATCH s) ack
  let d := d.setSrc s { x with recov := r.2.1, referenced := true }
  let d := ((d.put F.FRS_SRC_STATE_STATE s r.1).flag F.FRS_SRC_STATE_AGED s aged).flag F.FRS_SRC_STATE_FROZEN s frozen
  let d := d.raiseOpt r.2.2 s
  if frozen && !wasFrozen then d.raise F.FRS_EVENTS_SRC_FROZEN s else d

/-- A source that no layer of the layout references (R467). -/
def Device.staleOutside (d : Device) (s : Nat) : Device :=
  let d := d.setSrc s { d.src s with referenced := false, recov := 0 }
  ((d.put F.FRS_SRC_STATE_STATE s 1).put F.FRS_SRC_STATE_AGED s 0).put F.FRS_SRC_STATE_FROZEN s 0

/-- The transport flags of a source at an edge (R58), from the packets since the edge before. A flag that is set stays set
until its own packet or frame comes, whatever LIVENESS_TICKS becomes. -/
def Device.transport (d : Device) (s : Nat) : Device :=
  let x := d.src s
  let l := d.get F.FRS_SRC_TIMER_LIVENESS_TICKS s
  let quiet := if x.pktSeen then 0 else x.quiet + 1
  let stall := if x.advSeen then 0 else x.stall + 1
  let noPk := !x.pktSeen && (decide (l ≤ quiet) || d.on F.FRS_SRC_STATE_NO_PACKETS s)
  let seq := !x.advSeen && ((decide (l ≤ stall) && !noPk) || d.on F.FRS_SRC_STATE_SEQ_STALLED s)
  let inc := x.lastIncomplete
  let up := (noPk && !d.on F.FRS_SRC_STATE_NO_PACKETS s) || (seq && !d.on F.FRS_SRC_STATE_SEQ_STALLED s)
    || (inc && !d.on F.FRS_SRC_STATE_INCOMPLETE s)
  let d := d.setSrc s { x with quiet := quiet, stall := stall, pktSeen := false, advSeen := false }
  let d := ((d.flag F.FRS_SRC_STATE_NO_PACKETS s noPk).flag F.FRS_SRC_STATE_SEQ_STALLED s seq).flag
    F.FRS_SRC_STATE_INCOMPLETE s inc
  if up then d.raise F.FRS_EVENTS_SRC_TRANSPORT s else d

/-- The transport flags of a source whose KIND is NONE read 0, and no packet of it is counted (R58). -/
def Device.transportOff (d : Device) (s : Nat) : Device :=
  let x := d.src s
  let d := d.setSrc s { x with quiet := 255, stall := 255, pktSeen := false, advSeen := false, lastIncomplete := false }
  ((d.put F.FRS_SRC_STATE_NO_PACKETS s 0).put F.FRS_SRC_STATE_SEQ_STALLED s 0).put F.FRS_SRC_STATE_INCOMPLETE s 0

/-- AGE, NO_FRAME_YET and the capture registers at an edge (R44, R467). -/
def Device.ageRegs (d : Device) (s t : Nat) : Device :=
  let a := match d.age s t with
    | some a => min a 0xFFFF
    | none => 0xFFFF
  let d := (d.put F.FRS_SRC_STATE_AGE s a).flag F.FRS_SRC_STATE_NO_FRAME_YET s ((d.src s).newest.isNone)
  match (d.src s).newest with
  | some n => d.put2 F.FRS_SRC_CAPTURE_LO_CAPTURE F.FRS_SRC_CAPTURE_HI_CAPTURE s (d.berth n).capture
  | none => d

/-- A transport flag of a source is set. -/
def Device.transportFlag (d : Device) (s : Nat) : Bool :=
  d.on F.FRS_SRC_STATE_NO_PACKETS s || d.on F.FRS_SRC_STATE_SEQ_STALLED s || d.on F.FRS_SRC_STATE_INCOMPLETE s

/-- The sources that the edge looks at: declared, referenced, referenced at the edge before, or with a transport flag set. -/
def Device.liveSources (d : Device) (refs : List Nat) : List Nat :=
  (List.range 256).filter (fun s => decide (d.get F.NET_SRC_CFG_KIND s ≠ 0) || decide (s ∈ refs) || (d.src s).referenced ||
    d.transportFlag s)

/-- The freshness block at E(t): the input set is frozen (R28), then every source is updated. `refs` are the
sources of the layout for tick t, `restart` those whose DETECT or mask took a new value at this edge. -/
def Device.frsEdge (d : Device) (t : Nat) (refs restart : List Nat) : Device :=
  let acks := d.tick.acks
  let all := d.tick.ackAll
  let d := { d with tick := { d.tick with acks := [], ackAll := false } }
  forL (d.liveSources refs) (fun s d =>
    let x := d.src s
    let d := d.setSrc s { x with input := x.newest }
    let d :=
      if s ∈ refs then d.staleUpdate s t (!x.referenced) (decide (s ∈ restart)) (all || decide (s ∈ acks))
      else d.staleOutside s
    if d.get F.NET_SRC_CFG_KIND s ≠ 0 then (d.ageRegs s t).transport s
    else if s ∈ refs then (d.ageRegs s t).transportOff s
    else d.transportOff s) d

/-- A tick number in the numbering `n` of ticks, moved to the numbering in force: by the difference of a discontinuity, modulo
2^64, unless it counts in that numbering already (log entry 108). -/
def Device.shifted (d : Device) (delta : Int) (t n : Nat) : Nat :=
  if n < d.tick.scale then (((t : Int) + delta) % 2 ^ 64).toNat else t

/-- R24: the capture ticks of berths and the tick-valued timers of the freshness block move by the difference of a
discontinuity, and with them those of frames and pictures that no berth holds sealed yet (log entry 108). -/
def Device.shiftTicks (d : Device) (delta : Int) : Device :=
  let n := d.tick.scale
  { d with
    berths := d.berths.map (fun (p : Nat × Berth) => (p.1,
      if p.2.st = .sealed ∨ p.2.done = true then { p.2 with capture := d.shifted delta p.2.capture p.2.scale, scale := n } else p.2))
    srcs := d.srcs.map (fun (p : Nat × Src) => (p.1, { p.2 with chg := d.shifted delta p.2.chg p.2.chgScale, chgScale := n }))
    net := { d.net with ingest := d.net.ingest.map (fun (p : Nat × Ingest) => (p.1, { p.2 with
      filling := p.2.filling.map (fun x => { x with capture := d.shifted delta x.capture x.scale, scale := n }) })) }
    decs := d.decs.map (fun (p : Nat × DecSess) => (p.1, { p.2 with
      aus := p.2.aus.map (fun x => { x with capture := d.shifted delta x.capture x.scale, scale := n })
      jobs := p.2.jobs.map (fun x => { x with capture := d.shifted delta x.capture x.scale, scale := n })
      running := p.2.running.map (fun x => { x with capture := d.shifted delta x.capture x.scale, scale := n }) })) }

/-- A source is shown in its stale treatment (R51). -/
def Device.treated (d : Device) (s : Nat) : Bool := decide (d.get F.FRS_SRC_STATE_STATE s ≠ 0)

/-- Bit b of FRS_ACK_PENDING_k: source 32k + b is LATCHED. -/
def Device.ackPendingWord (d : Device) (k : Nat) : Nat :=
  forN 32 (fun b w => if d.get F.FRS_SRC_STATE_STATE (32 * k + b) = 2 then w + 2 ^ b else w) 0

/-- An acknowledgement is recorded for the next edge (R53). -/
def Device.ackSource (d : Device) (s : Nat) : Device :=
  { d with tick := { d.tick with acks := d.tick.acks ++ [s] } }

/-- An acknowledgement of every source is recorded (R53). -/
def Device.ackAllSources (d : Device) : Device := { d with tick := { d.tick with ackAll := true } }

end Sys2Proof.Machine
end

