-- ==== Sys2Proof/Machine/Layout.lean ====
section
/-!
DEFINITION. Layouts (R84 to R111): reading and checking the layout record, the descriptors and the tables
they name, admission costs, the mooring cache, and the request that leads to a switch.
-/

namespace Sys2Proof.Machine

/-! ## Reading DRAM -/

/-- The byte of DRAM at an address as a number. -/
def Memory.rd (m : Memory) (a : Nat) : Nat := (m.dram.read a).toNat

/-- A little-endian number in DRAM (R3). -/
def Memory.le (m : Memory) (a n : Nat) : Nat := m.dram.le a n

/-- A byte range holds a poisoned burst (R329, R330). -/
def Memory.poisoned (m : Memory) (a n : Nat) : Bool :=
  m.poison.any (fun p => decide (p < a + n) && decide (a < p + 32))

/-- All bytes of a range are 0. -/
def Memory.zero (m : Memory) (a n : Nat) : Bool := (List.range n).all (fun k => decide (m.rd (a + k) = 0))

/-! ## The layout record (R88, R89) -/

def Device.layoutTable (d : Device) : Nat := d.addr40 F.CMP_LAYOUT_TABLE_LO_ADDR_LO F.CMP_LAYOUT_TABLE_HI_ADDR_HI
def Device.descTable (d : Device) : Nat := d.addr40 F.CMP_DESC_TABLE_LO_ADDR_LO F.CMP_DESC_TABLE_HI_ADDR_HI

/-- The results of CMP_LAYOUT_STATUS.RESULT (R120). -/
inductive LayoutResult where
  | none | done | busy | range | check | format | descriptor | owner | cache | admission | berths
  | moorSpace | late | timeout | cancelled
  deriving DecidableEq, Repr

def LayoutResult.code : LayoutResult → Nat
  | .none => 0 | .done => 1 | .busy => 2 | .range => 3 | .check => 4 | .format => 5 | .descriptor => 6
  | .owner => 7 | .cache => 8 | .admission => 9 | .berths => 10 | .moorSpace => 11 | .late => 12
  | .timeout => 13 | .cancelled => 14

/-- MAGIC, INDEX and CHECK of a record are correct and no burst of it is poisoned (step 3, R469). -/
def recordOk (m : Memory) (a idx : Nat) : Bool :=
  decide (m.le a 4 = 0x4C41594F) && decide (m.le (a + 4) 2 = idx) && !m.poisoned a 2112 &&
  decide (m.le (a + 60) 4 = crc32c (m.dram.readList a 60 ++ m.dram.readList (a + 64) 2048))

/-- The output record at an address. -/
def readOutRec (m : Memory) (a o : Nat) : OutRec :=
  let n := m.rd (a + 12)
  ⟨o, m.rd a % 4, m.rd (a + 1), m.le (a + 2) 2, m.le (a + 4) 2, m.rd (a + 6), m.rd (a + 7), m.le (a + 8) 4, n,
    (List.range n).map (fun k => m.le (a + 16 + 2 * k) 2)⟩

/-- The output records present, by rising output number. -/
def readOuts (m : Memory) (a : Nat) : List OutRec :=
  ((List.range 32).filter (fun o => (m.le (a + 8) 4).testBit o)).map (fun o => readOutRec m (a + 64 + 64 * o) o)

/-- The members of the gang that output `o` belongs to under shape `sh` (R86). -/
def gangMembers (sh o : Nat) : List Nat :=
  match sh with
  | 0 => [o]
  | 3 => (List.range 4).map (fun k => o / 4 * 4 + k)
  | _ => [o / 2 * 2, o / 2 * 2 + 1]

/-- The lead of the gang of an output. -/
def gangLead (sh o : Nat) : Nat := (gangMembers sh o).headD o

/-- Columns and rows of the canvas in members (R86). -/
def gangGrid : Nat → Nat × Nat
  | 1 => (2, 1) | 2 => (1, 2) | 3 => (2, 2) | _ => (1, 1)

/-- Column and row of a member. -/
def gangPos (sh o : Nat) : Nat × Nat :=
  match sh with
  | 1 => (o % 2, 0) | 2 => (0, o % 2) | 3 => (o % 2, o % 4 / 2) | _ => (0, 0)

/-- An output record is valid by itself (R84, R85, R89). -/
def outRecOk (m : Memory) (a : Nat) (r : OutRec) : Bool :=
  decide (m.rd a < 4) && decide (r.format ≤ 7) &&
  decide (128 ≤ r.width) && decide (r.width ≤ 3840) && decide (r.width % 8 = 0) &&
  decide (72 ≤ r.height) && decide (r.height ≤ 2160) && decide (r.height % 2 = 0) &&
  decide (r.background < 2 ^ 30) && decide (r.layerCount ≤ 24) && m.zero (a + 13) 3 &&
  (List.range 24).all (fun k => decide (k < r.layerCount) || decide (m.le (a + 16 + 2 * k) 2 = 0xFFFF))

/-- The gang rules of R86 for one record among all. -/
def gangOk (outs : List OutRec) (r : OutRec) : Bool :=
  (gangMembers r.shape r.out).all (fun o => outs.any (fun q => decide (q.out = o) && decide (q.shape = r.shape) &&
    decide (q.format = r.format) && decide (q.width = r.width) && decide (q.height = r.height) &&
    decide (q.background = r.background) && decide (q.postMatrix = r.postMatrix) && decide (q.postLut = r.postLut)))
  && (decide (gangLead r.shape r.out = r.out) || decide (r.layerCount = 0))

/-- Step 4 of R95. -/
def formatOk (m : Memory) (a : Nat) (outs : List OutRec) : Bool :=
  m.zero (a + 6) 2 && m.zero (a + 12) 48 &&
  outs.all (fun r => outRecOk m (a + 64 + 64 * r.out) r) && outs.all (gangOk outs)

/-! ## Descriptors (R92) -/

/-- The descriptor at an address. -/
def readDesc (m : Memory) (a : Nat) : Desc :=
  { kind := m.rd a, enable := (m.rd (a + 1)).testBit 0, moor := (m.rd (a + 1)).testBit 1, source := m.le (a + 2) 2,
    imgAddr := m.le (a + 4) 5, imgFormat := m.rd (a + 9), imgW := m.le (a + 10) 2, imgH := m.le (a + 12) 2,
    imgStride := m.le (a + 16) 4, cropX := m.le (a + 20) 2, cropY := m.le (a + 22) 2, cropW := m.le (a + 24) 2,
    cropH := m.le (a + 26) 2, dstX := signedOf 16 (m.le (a + 28) 2), dstY := signedOf 16 (m.le (a + 30) 2),
    dstW := m.le (a + 32) 2, dstH := m.le (a + 34) 2, clipX := m.le (a + 36) 2, clipY := m.le (a + 38) 2,
    clipW := m.le (a + 40) 2, clipH := m.le (a + 42) 2, opacity := m.le (a + 44) 2, alphaMode := m.rd (a + 46),
    scalerH := m.rd (a + 48), scalerV := m.rd (a + 49), preLut := m.le (a + 50) 2, matrix := m.le (a + 52) 2 }

/-- CHECK of a descriptor is correct and no burst of it is poisoned. -/
def descCheckOk (m : Memory) (a : Nat) : Bool :=
  decide (m.le (a + 252) 4 = crc32c (m.dram.readList a 252)) && !m.poisoned a 256

/-- The descriptor that the pager fetches: none where its CHECK is wrong (R121). -/
def fetchDesc (m : Memory) (a : Nat) : Option Desc := if descCheckOk m a then some (readDesc m a) else none

/-- Reserved bytes and encodings of a descriptor (R92), apart from ratios and tables. -/
def descFieldsOk (m : Memory) (a : Nat) (x : Desc) : Bool :=
  decide (x.kind ≤ 1) && decide (m.rd (a + 1) < 4) && (!x.moor || decide (x.kind = 1)) &&
  (if x.kind = 0 then decide (x.source < 256) else
    decide (x.source = 0) && decide (x.imgAddr % 64 = 0) && fmtValid x.imgFormat &&
    decide (1 ≤ x.imgW) && decide (x.imgW ≤ 7680) && decide (1 ≤ x.imgH) && decide (x.imgH ≤ 4320) &&
    decide (x.imgStride % 64 = 0) &&
    (!chromaH x.imgFormat || decide (x.cropX % 2 = 0)) && (!chromaV x.imgFormat || decide (x.cropY % 2 = 0))) &&
  m.zero (a + 14) 2 && decide (1 ≤ x.dstW) && decide (x.dstW ≤ 7680) && decide (1 ≤ x.dstH) &&
  decide (x.dstH ≤ 4320) && decide (x.alphaMode ≤ 2) && m.zero (a + 47) 1 && decide (x.scalerH ≤ 15) &&
  decide (x.scalerV ≤ 15) && decide (x.matrix < 256) && m.zero (a + 54) 10 && m.zero (a + 96) 156

/-- The crop of a layer in a frame of a given size: a size of 0 reaches to the edge (R92, R93). -/
def cropLen (crop len frame : Nat) : Nat := if len = 0 then frame - crop else len

/-- The open decode session bound to a source. -/
def Device.sessionOf (d : Device) (s : Nat) : Option Nat :=
  (List.range 256).find? (fun n => decide (d.get F.DEC_SESS_STATE_STATE n ≠ 0) && decide (d.get F.DEC_SESS_CFG_SOURCE n = s))

/-- The declared largest frame of a source: format and size (R106, R127, R216). -/
def Device.declaredFrame (d : Device) (s : Nat) : Option (Nat × Nat × Nat) :=
  match d.get F.NET_SRC_CFG_KIND s with
  | 1 => some (d.get F.NET_SRC_CFG_FORMAT s, d.get F.NET_SRC_SIZE_WIDTH s, d.get F.NET_SRC_SIZE_HEIGHT s)
  | 2 => (d.sessionOf s).map (fun n => (9, d.get F.DEC_SESS_SIZE_MAX_WIDTH n, d.get F.DEC_SESS_SIZE_MAX_HEIGHT n))
  | _ => none

/-- The largest frame that a layer draws from. -/
def Device.layerFrame (d : Device) (x : Desc) : Option (Nat × Nat × Nat) :=
  if x.kind = 0 then d.declaredFrame x.source else some (x.imgFormat, x.imgW, x.imgH)

/-- The ratios of a layer for a frame of a given size are valid (R127). -/
def ratiosOk (x : Desc) (w h : Nat) : Bool :=
  ratioOk (cropLen x.cropX x.cropW w) x.dstW && ratioOk (cropLen x.cropY x.cropH h) x.dstH

/-! ## Tables: LUT sets, coefficient sets, stale images -/

def Device.lutTable (d : Device) : Nat := d.addr40 F.PIX_LUT_TABLE_LO_ADDR_LO F.PIX_LUT_TABLE_HI_ADDR_HI
def Device.coefTable (d : Device) : Nat := d.addr40 F.PIX_COEF_TABLE_LO_ADDR_LO F.PIX_COEF_TABLE_HI_ADDR_HI
def Device.imgTable (d : Device) : Nat := d.addr40 F.FRS_IMG_TABLE_LO_ADDR_LO F.FRS_IMG_TABLE_HI_ADDR_HI

/-- A LUT set has a correct CHECK (R139, R142). -/
def lutCheckOk (m : Memory) (a : Nat) : Bool :=
  decide (m.le (a + 0x1FFC) 4 = crc32c (m.dram.readList a 0x1FFC)) && !m.poisoned a 8192

/-- A LUT set in DRAM may be referenced (R141). -/
def lutSetOk (m : Memory) (a : Nat) : Bool :=
  lutCheckOk m a && decide (m.rd (a + 0x1E00) ≤ 1) && decide (m.rd (a + 0x1E01) ≤ 1)

/-- The LUT set that the pager fetches (R139). DESIGN CHOICE: a set paged in RUN with a correct CHECK is used whatever MODE
and FLAGS hold, a MODE other than 1 as UNIFORM (log entry 145). -/
def fetchLut (m : Memory) (a : Nat) : Option LutSet :=
  if lutCheckOk m a then
    let curve (o : Nat) := (List.range 1025).map (fun k => m.le (a + o + 2 * k) 2)
    some ⟨decide (m.rd (a + 0x1E00) = 1), (m.rd (a + 0x1E01)).testBit 0, curve 0, curve 0xA00, curve 0x1400⟩
  else none

/-- A LUT index in the encoding of PRE_LUT may be referenced (R141). -/
def Device.lutIndexOk (d : Device) (m : Memory) (v : Nat) : Bool :=
  !lutReserved v && (decide (0xF000 ≤ v) || (decide (v < d.get F.PIX_LUT_COUNT_COUNT) && lutSetOk m (d.lutTable + 8192 * v)))

/-- The coefficient set that the pager fetches: 64 phases of 8 taps (R133). -/
def fetchCoef (m : Memory) (a : Nat) : Option (List Int) :=
  if m.poisoned a 1024 then none
  else some ((List.range 512).map (fun k => signedOf 16 (m.le (a + 2 * k) 2)))

/-- An entry of the stale image table as a picture, with its validity (R55). -/
def Device.staleImage (d : Device) (m : Memory) (i : Nat) : Option Pic :=
  let a := d.imgTable + 16 * i
  let w := m.le (a + 8) 2
  let h := m.le (a + 10) 2
  let f := m.rd (a + 12)
  let ad := m.le a 5
  if m.zero (a + 5) 3 && m.zero (a + 13) 3 && decide (ad % 64 = 0) && decide (1 ≤ w) && decide (w ≤ 3840)
      && decide (1 ≤ h) && decide (h ≤ 2160) && fmtValid f && !m.poisoned a 16 then
    some ⟨ad, f, w, h, fmtStride f w⟩
  else none

/-- The stale image that a source's TREAT in force names (R54, R55). -/
def Device.dueImage (d : Device) (s : Nat) : Option Nat :=
  match d.get F.FRS_SRC_CFG_TREAT s with
  | 0 => some (d.get F.FRS_SRC_IMG_MARK_IMG s)
  | 1 => some (d.get F.FRS_SRC_IMG_CARD_IMG s)
  | _ => none

/-- The bytes of a picture. -/
def Pic.bytes (p : Pic) : Nat := picBytes p.fmt p.h p.stride

/-- The granules of 64 KiB of a stale image (R55). -/
def Pic.granules (p : Pic) : Nat := (p.bytes + 65535) / 65536

/-- What the pager fetches of a stale image whose table entry is valid: the picture and its bytes; none where a burst of it is
poisoned (R37, R329). -/
def fetchImage (m : Memory) (p : Pic) : Option (Pic × Dram) :=
  if m.poisoned p.addr p.bytes then none else some (p, m.dram.slice p.addr p.bytes)

/-! ## Geometry (R93) and costs (R106) -/

/-- A rectangle as left, top, right, bottom, empty where right ≤ left or bottom ≤ top. -/
abbrev Rect := Int × Int × Int × Int

def Rect.inter (a b : Rect) : Rect := (max a.1 b.1, max a.2.1 b.2.1, min a.2.2.1 b.2.2.1, min a.2.2.2 b.2.2.2)

def Rect.empty? (a : Rect) : Bool := decide (a.2.2.1 ≤ a.1) || decide (a.2.2.2 ≤ a.2.1)

def Rect.area (a : Rect) : Nat := if a.empty? then 0 else ((a.2.2.1 - a.1) * (a.2.2.2 - a.2.1)).toNat

/-- The canvas of a gang. -/
def OutRec.canvas (r : OutRec) : Nat × Nat :=
  let g := gangGrid r.shape
  (r.width * g.1, r.height * g.2)

/-- The region of the canvas that an output shows (R86). -/
def OutRec.window (r : OutRec) : Rect :=
  let p := gangPos r.shape r.out
  ((p.1 * r.width : Nat), (p.2 * r.height : Nat), ((p.1 + 1) * r.width : Nat), ((p.2 + 1) * r.height : Nat))

/-- The clipped destination of a layer on a canvas (R93). -/
def Desc.clipped (x : Desc) (canvas : Nat × Nat) : Rect :=
  let dst : Rect := (x.dstX, x.dstY, x.dstX + x.dstW, x.dstY + x.dstH)
  let cv : Rect := (0, 0, canvas.1, canvas.2)
  let r := Rect.inter dst cv
  if x.clipW ≠ 0 ∧ x.clipH ≠ 0 then
    Rect.inter r ((x.clipX : Nat), (x.clipY : Nat), (x.clipX + x.clipW : Nat), (x.clipY + x.clipH : Nat))
  else r

/-- A layer is drawn: enabled and not fully transparent (R46, R106). -/
def Desc.drawn (x : Desc) : Bool := x.enable && decide (x.opacity ≠ 0)

/-- The stack that an output shows: that of the lead of its gang (R86). -/
def stackOf (outs : List OutRec) (r : OutRec) : List Nat :=
  match outs.find? (fun q => decide (q.out = gangLead r.shape r.out)) with
  | some q => q.layers
  | none => []

/-- A stack cut into single layers and moored stacks (R107), each with its position. -/
def splitStack (desc : Nat → Option Desc) : Nat → List Nat → List (Nat × Bool × List Nat)
  | _, [] => []
  | p, i :: r =>
    let moored := match desc i with
      | some x => x.moor && decide (x.kind = 1)
      | none => false
    match splitStack desc (p + 1) r with
    | (q, true, l) :: t => if moored && decide (q = p + 1) then (p, true, i :: l) :: t else (p, moored, [i]) :: (q, true, l) :: t
    | t => (p, moored, [i]) :: t

def ceilDiv (a b : Nat) : Nat := (a + b - 1) / b

/-- Merge sorted intervals and sum their lengths. -/
def unionLen : Int → List (Int × Int) → Nat
  | _, [] => 0
  | e, (a, b) :: r => (b - max a e).toNat + unionLen (max e b) r

/-- The pixels in the union of rectangles (R106). -/
def unionArea (rs : List Rect) (h0 h1 : Nat) : Nat :=
  forN (h1 - h0) (fun k t =>
    let y : Int := h0 + k
    let xs := (rs.filter (fun r => decide (r.2.1 ≤ y) && decide (y < r.2.2.2) && decide (r.1 < r.2.2.1))).map (fun r => (r.1, r.2.2.1))
    t + unionLen (-(2 ^ 40)) (xs.mergeSort (fun a b => decide (a.1 ≤ b.1)))) 0

/-- Bytes of a crop in a frame of a format (R106): its lines without padding, chroma plane included. -/
def cropBytes (f w h : Nat) : Nat :=
  if chromaV f then fmtLine f w * h + fmtLine f w * ((h + 1) / 2) else fmtLine f w * h

/-- The SCL, BLD (without moored stacks) and MEM bytes of one layer of one output (R106). -/
def Device.layerCost (d : Device) (r : OutRec) (x : Desc) : Nat × Nat :=
  let a := (Rect.inter (x.clipped r.canvas) r.window).area
  if !x.drawn || decide (a = 0) then (0, 0)
  else
    let b := match d.layerFrame x with
      | some (f, w, h) => cropBytes f (min (cropLen x.cropX x.cropW w) (w - x.cropX)) (min (cropLen x.cropY x.cropH h) (h - x.cropY))
      | none => 0
    (ceilDiv a 65536, b)

/-- The capacity of a class in WU for the rate and margin in force (R33): 0 DEC, 1 SCL, 2 BLD, 3 ENC, 4 MEM. -/
def Device.unitCap (d : Device) (cls : Nat) : Nat :=
  let u (rate per : Nat) := rate * d.nd.2 / (d.nd.1 * per)
  match cls with
  | 0 => u 2075000000 65536 | 1 => u 2000000000 65536 | 2 => u 8000000000 65536 | 3 => u 1037500000 65536
  | _ => u 1100000000000 1048576

def Device.margin (d : Device) : Nat := 100 - d.get F.TICK_ADM_MARGIN_PCT

/-- The capacity of one decode or encode core after the margin (R33). -/
def Device.coreCap (d : Device) (cls : Nat) : Nat := d.unitCap cls * d.margin / 100

/-- The class capacity (R33). -/
def Device.classCap (d : Device) (cls : Nat) : Nat :=
  match cls with
  | 0 => d.coreCap 0 * 8
  | 1 => d.unitCap 1 * 32 * d.margin / 100
  | 2 => d.unitCap 2 * 8 * d.margin / 100
  | 3 => d.coreCap 3 * 4
  | _ => d.unitCap 4 * d.margin / 100

/-- The berths that a layout reserves in each class (R115), or none where a class is missing. -/
def Device.layoutBerths (d : Device) (outs : List OutRec) (srcs : List Nat) : Option (List Nat) :=
  let want := outs.map (fun o => (o.bytes, 3)) ++
    (srcs.filter (fun s => decide (d.get F.NET_SRC_CFG_KIND s = 1))).map (fun s => (d.srcBytes s, 4))
  want.foldl (fun acc p => match acc, d.classFor p.1 with
    | some l, some c => some (l.set c (l.getD c 0 + p.2))
    | _, _ => none) (some (List.replicate 8 0))

/-! ## Mooring (R107 to R110) -/

/-- The cache blocks of a tile. -/
def MoorStore.cacheBlocks : MoorStore → Nat
  | .cache b _ => b
  | _ => 0

/-- The spill blocks of a tile. -/
def MoorStore.spillBlocks : MoorStore → List Nat
  | .spill b _ => b
  | _ => []

def MoorStack.cacheUsed (s : MoorStack) : Nat := s.tiles.foldl (fun t x => t + x.cacheBlocks) 0

def stacksCache (l : List MoorStack) : Nat := l.foldl (fun t s => t + s.cacheUsed) 0

/-- The spill blocks that stacks use. -/
def stacksSpill (l : List MoorStack) : List Nat := l.flatMap (fun s => s.tiles.flatMap MoorStore.spillBlocks)

/-- A moored stack of the layout in force serves a new one (R109). -/
def MoorStack.matches (a b : MoorStack) : Bool :=
  decide (a.orec.out = b.orec.out) && decide (a.orec.format = b.orec.format) && decide (a.orec.width = b.orec.width) &&
  decide (a.orec.height = b.orec.height) && decide (a.orec.shape = b.orec.shape) && decide (a.descs = b.descs)

/-- A moored tile in raw form: 8 bytes a pixel (R108). PRESUMED: R, G, B and A of each pixel as 16-bit words (log entry 32). -/
def moorRaw (px : List Px) : List Byte :=
  px.flatMap (fun p => leBytes 2 p.1 ++ leBytes 2 p.2.1 ++ leBytes 2 p.2.2.1 ++ leBytes 2 p.2.2.2)

/-- The bytes that a moored tile is kept as: its compressed form, or the raw form when compression would not save a block
(R108). -/
def moorForm (px : List Px) : List Byte :=
  let c := Config.moorBytes px
  if max 1 (ceilDiv c.length 1024) < ceilDiv (8 * px.length) 1024 then c else moorRaw px

/-- The blocks that a tile takes when it is kept as pixels (R108). -/
def moorSize (px : List Px) : Nat := max 1 (ceilDiv (moorForm px).length 1024)

/-- Where the placement of step 10 stands: the cache blocks and the spill blocks still free, whether the cache has run out for
this placement, and whether a tile found no place. -/
structure Placing where
  cache : Nat
  spill : List Nat
  out : Bool
  full : Bool
  deriving DecidableEq, Repr

/-- Where one flattened tile goes (R108, R109). -/
def placeTile (px : List Px) (p : Placing) : MoorStore × Placing :=
  match px with
  | [] => (.empty, p)
  | c :: r =>
    if px.all (fun q => decide (q.2.2.2 = 0)) then (.empty, p)
    else if r.all (fun q => decide (q = c)) then (.solid c, p)
    else
      let b := moorSize px
      if !p.out && decide (b ≤ p.cache) then (.cache b px, { p with cache := p.cache - b })
      else if b ≤ p.spill.length then (.spill (p.spill.take b) px, { p with spill := p.spill.drop b, out := true })
      else (.empty, { p with out := true, full := true })

/-- Place the tiles of a stack in order. -/
def placeTiles : List (List Px) → Placing → List MoorStore × Placing
  | [], p => ([], p)
  | px :: r, p =>
    let q := placeTile px p
    let z := placeTiles r q.2
    (q.1 :: z.1, z.2)

/-- Step 10 of R95: place the stacks that no stack in force serves, each with its flattened tiles. -/
def placeStacks (old : List MoorStack) : List (MoorStack × List (List Px)) → Placing → List MoorStack × Placing
  | [], p => ([], p)
  | (s, px) :: r, p =>
    match old.find? (fun q => q.matches s) with
    | some q =>
      let z := placeStacks old r p
      ({ s with tiles := q.tiles } :: z.1, z.2)
    | none =>
      let q := placeTiles px p
      let z := placeStacks old r q.2
      ({ s with tiles := q.1 } :: z.1, z.2)

/-- A spilled tile in placement order (R110). -/
def firstSpill (l : List MoorStack) : Option (List Nat × List Px) :=
  l.findSome? (fun s => s.tiles.findSome? (fun t => match t with
    | .spill b px => some (b, px)
    | _ => none))

/-- Put a tile into the cache, in place of the first spilled one. -/
def moveTile (px : List Px) : List MoorStore → List MoorStore
  | [] => []
  | .spill b _ :: r => .cache b.length px :: r
  | t :: r => t :: moveTile px r

/-- The same over the stacks, in placement order. -/
def moveStack (px : List Px) : List MoorStack → List MoorStack
  | [] => []
  | s :: r => if (s.tiles.flatMap MoorStore.spillBlocks).isEmpty then s :: moveStack px r else { s with tiles := moveTile px s.tiles } :: r

/-- The moored stacks of the layout in force. -/
def Device.stacksNow (d : Device) : List MoorStack := match d.layout with | some l => l.moored | none => []

/-- The stacks that are only in a pending layout: no stack in force serves them. -/
def Device.stacksNew (d : Device) : List MoorStack :=
  match d.layoutReq with
  | some r => r.layout.moored.filter (fun s => !d.stacksNow.any (fun q => q.matches s))
  | none => []

/-- The cache blocks in use (CMP_MOOR_CACHE_USED): by the layout in force with the tiles moved in this tick, and by what a
pending request has placed beside it. -/
def Device.moorCacheUsed (d : Device) : Nat := stacksCache (d.tick.moving.getD d.stacksNow) + stacksCache d.stacksNew

/-- The spill blocks in use, by number. -/
def Device.moorSpilled (d : Device) : List Nat := stacksSpill d.stacksNow ++ stacksSpill d.stacksNew

/-- CMP_MOOR_SPILL_USED. -/
def Device.moorSpillUsed (d : Device) : Nat := d.moorSpilled.length

/-- The address of a block of the spill region (R109). -/
def Device.spillAddr (d : Device) (b : Nat) : Nat := d.addr40 F.CMP_MOOR_SPILL_LO_ADDR_LO F.CMP_MOOR_SPILL_HI_ADDR_HI + 1024 * b

/-- Write bytes into blocks of the spill region, 1,024 in each. -/
def Device.spillWrite (d : Device) (m : Dram) : List Nat → List Byte → Dram
  | [], _ => m
  | b :: r, l => d.spillWrite (m.writeList (d.spillAddr b) (l.take 1024)) r (l.drop 1024)

/-- The bytes that blocks of the spill region hold. -/
def Device.spillRead (d : Device) (m : Dram) (bs : List Nat) (n : Nat) : List Byte :=
  (bs.flatMap (fun b => m.readList (d.spillAddr b) 1024)).take n

/-- The pixels that raw bytes hold. -/
def moorUnraw : Nat → List Byte → List Px
  | 0, _ => []
  | n + 1, l => (leNat (l.take 2), leNat ((l.drop 2).take 2), leNat ((l.drop 4).take 2), leNat ((l.drop 6).take 2)) :: moorUnraw n (l.drop 8)

/-- The pixels of a spilled tile as DRAM holds them: those that were stored, unless other bytes stand there now. -/
def Device.spillPixels (d : Device) (m : Dram) (bs : List Nat) (px : List Px) : List Px :=
  let f := moorForm px
  let l := d.spillRead m bs f.length
  if l = f then px else if f = moorRaw px then moorUnraw px.length l else Config.moorPixels l

/-- The tiles that step 10 placed in the spill region are written there when they are flattened. -/
def Device.spillAll (d : Device) (m : Dram) (l : List MoorStack) : Dram :=
  (l.flatMap MoorStack.tiles).foldl (fun m t => match t with
    | .spill bs px => d.spillWrite m bs (moorForm px)
    | _ => m) m

end Sys2Proof.Machine
end

