-- ==== Sys2Proof/Machine/Compose.lean ====
section
/-!
DEFINITION. Composing tiles (R46 to R48, R54 to R57, R87, R93, R94, R104, R107, R122, R131, R147 to R151) and
running a layout request through the checks of R95.
-/

namespace Sys2Proof.Machine

/-- The tables that composition reads: descriptors, LUT sets and coefficient sets by index. -/
structure Tables where
  descs : Tab Nat (Option Desc)
  luts : Tab Nat (Option LutSet)
  coefs : Tab Nat (Option (List Int))
  deriving DecidableEq, Repr

/-- The pager's caches as tables (R37). A descriptor that is not there, or was fetched with a wrong CHECK, still says what the
layout was checked with: which sources it references and where its layers lie. -/
def Device.tables (d : Device) : Tables :=
  ⟨d.tick.descs.filter (fun p => p.2.isSome) ++ (match d.layout with
     | some l => l.named.map (fun p => (p.1, some p.2))
     | none => []), d.tick.luts, d.tick.coefs⟩

def Tables.desc (t : Tables) (i : Nat) : Option Desc := (Tab.find t.descs i).join

def Tables.lut (t : Tables) (i : Nat) : LutSet := ((Tab.find t.luts i).join).getD ⟨false, true, [], [], []⟩

def Tables.coef (t : Tables) (i : Nat) : List Int := ((Tab.find t.coefs i).join).getD []

/-- Entry `i` of the matrix store in force (R137). -/
def Device.mat (d : Device) (i : Nat) : MatEntry :=
  if 240 ≤ i then builtinMat i else entryOfWords (Tab.get d.mats MatEntry.identity.words i)

/-- Stages 4 to 6 (R122). -/
def Device.colour (d : Device) (t : Tables) (matrix lut : Nat) (c : Nat × Nat × Nat) : Nat × Nat × Nat :=
  let e := d.mat matrix
  e.lin.apply (lutApply t.lut lut (e.nl.apply c))

/-- A 10-bit R'G'B' value in the blend domain of an output (R56, R148). -/
def Device.bgColour (d : Device) (t : Tables) (lead v : Nat) : Nat × Nat × Nat :=
  d.colour t (d.get F.PIX_OUT_CFG_BG_MATRIX lead) (d.get F.PIX_OUT_CFG_BG_LUT lead)
    (rep10 (v / 2 ^ 20 % 1024), rep10 (v / 1024 % 1024), rep10 (v % 1024))

/-- The marker border colour as one value (FRS_MARK_RGB). -/
def Device.markRgb (d : Device) : Nat :=
  d.get F.FRS_MARK_RGB_RED * 2 ^ 20 + d.get F.FRS_MARK_RGB_GREEN * 1024 + d.get F.FRS_MARK_RGB_BLUE

/-- Stages 1 to 3 for one canvas position: components and alpha, or none where the pixel is transparent
(R126 to R130). -/
def scaledPixel (rd : ByteAt) (t : Tables) (x : Desc) (p : Pic) (crX crY wc hc : Nat) (cx cy : Int) :
    Option ((Nat × Nat × Nat) × Nat) :=
  if inValid crX wc p.w cx x.dstX x.dstW && inValid crY hc p.h cy x.dstY x.dstH then
    let ch := t.coef x.scalerH
    let cv := t.coef x.scalerV
    let h := mkAxis crX wc p.w cx x.dstX x.dstW false false
    let v := mkAxis crY hc p.h cy x.dstY x.dstH false false
    let hh := mkAxis crX wc p.w cx x.dstX x.dstW (chromaH p.fmt) false
    let vv := mkAxis crY hc p.h cy x.dstY x.dstH (chromaV p.fmt) (chromaV p.fmt)
    let luma (k : Nat) := scaleComp (fun a b => p.comp rd k a b) h v ch cv
    let chroma (k : Nat) := scaleComp (fun a b => p.comp rd k a b) hh vv ch cv
    some ((luma 0, chroma 1, chroma 2), if fmtAlpha p.fmt then luma 3 else 65535)
  else none

/-- A picture's pixel unscaled (R54): the components of position (a, b). -/
def plainPixel (rd : ByteAt) (p : Pic) (a b : Nat) : (Nat × Nat × Nat) × Nat :=
  let ca := if chromaH p.fmt then a / 2 else a
  let cb := if chromaV p.fmt then b / 2 else b
  ((p.comp rd 0 a b, p.comp rd 1 ca cb, p.comp rd 2 ca cb), p.comp rd 3 a b)

/-- The picture that a berth holds. -/
def Device.berthPic (d : Device) (n : Nat) : Pic :=
  let b := d.berth n
  ⟨d.berthAddr n, b.format, b.width, b.height, b.stride⟩

/-- The layer drawn from a picture and a crop: through the whole path (R122), transparent where the ratio is
not valid (R131). -/
def Device.picLayer (d : Device) (rd : ByteAt) (t : Tables) (x : Desc) (p : Pic) (crX crY crW crH : Nat) (cx cy : Int) : Px :=
  let wc := cropLen crX crW p.w
  let hc := cropLen crY crH p.h
  if ratioOk wc x.dstW && ratioOk hc x.dstH then
    match scaledPixel rd t x p crX crY wc hc cx cy with
    | some (c, a) => premul x.alphaMode x.opacity a (d.colour t x.matrix x.preLut c)
    | none => Px.clear
  else Px.clear

/-- Black at stage 7 (R147). -/
def Desc.black (x : Desc) : Px := premul x.alphaMode x.opacity 65535 (0, 0, 0)

/-- A stale image as the marker cache holds it, with the bytes it was fetched with; none where its table entry is not valid
(R37, R55). -/
def Device.heldImage (d : Device) (i : Nat) : Option (Pic × Dram) := (Tab.find d.tick.marks i).join

/-- The bytes of a fetched image. -/
def imageAt (q : Dram) : ByteAt := fun a => (q.read a).toNat

/-- The content of a source's newest berth in a layer (R54, R63). -/
def Device.berthLayer (d : Device) (m : Memory) (t : Tables) (x : Desc) (none_ : Px) (cx cy : Int) : Px :=
  match (d.src x.source).input with
  | some n => d.picLayer m.rd t x (d.berthPic n) x.cropX x.cropY x.cropW x.cropH cx cy
  | none => none_

/-- A FREEZE_MARKED layer `(dx, dy)` from the top left corner of its destination: the marker image, the border and the
berth (R54). DESIGN CHOICE: where the berth makes the ratio invalid, only the part that the berth fills is transparent (R131,
log entry 144). -/
def Device.markedLayer (d : Device) (m : Memory) (t : Tables) (lead : Nat) (x : Desc) (img : Pic × Dram) (cx cy : Int) : Px :=
  let b : Int := d.get F.FRS_MARK_STYLE_BORDER_PX
  let dx := cx - x.dstX
  let dy := cy - x.dstY
  if b ≤ dx ∧ dx < b + img.1.w ∧ b ≤ dy ∧ dy < b + img.1.h then
    let q := plainPixel (imageAt img.2) img.1 (dx - b).toNat (dy - b).toNat
    premul x.alphaMode x.opacity q.2 (d.colour t x.matrix x.preLut q.1)
  else if dx < b ∨ dy < b ∨ (x.dstW : Int) - b ≤ dx ∨ (x.dstH : Int) - b ≤ dy then
    premul x.alphaMode x.opacity 65535 (d.bgColour t lead d.markRgb)
  else d.berthLayer m t x x.black cx cy

/-- A source layer in its stale treatment (R54, R147). -/
def Device.staleLayer (d : Device) (m : Memory) (t : Tables) (lead : Nat) (x : Desc) (cx cy : Int) : Px :=
  match d.get F.FRS_SRC_CFG_TREAT x.source with
  | 0 => match d.heldImage (d.get F.FRS_SRC_IMG_MARK_IMG x.source) with
    | some q => d.markedLayer m t lead x q cx cy
    | none => x.black
  | 1 => match d.heldImage (d.get F.FRS_SRC_IMG_CARD_IMG x.source) with
    | some q =>
      if ratioOk q.1.w x.dstW && ratioOk q.1.h x.dstH then d.picLayer (imageAt q.2) t x q.1 0 0 0 0 cx cy else x.black
    | none => x.black
  | _ => x.black

/-- One layer at one canvas position (stages 1 to 7). -/
def Device.layerPx (d : Device) (m : Memory) (t : Tables) (lead : Nat) (x : Desc) (canvas : Nat × Nat) (cx cy : Int) : Px :=
  let r := x.clipped canvas
  if !x.drawn || !(decide (r.1 ≤ cx) && decide (cx < r.2.2.1) && decide (r.2.1 ≤ cy) && decide (cy < r.2.2.2)) then Px.clear
  else if x.kind = 1 then
    d.picLayer m.rd t x ⟨x.imgAddr, x.imgFormat, x.imgW, x.imgH, x.imgStride⟩ x.cropX x.cropY x.cropW x.cropH cx cy
  else if d.treated x.source then d.staleLayer m t lead x cx cy
  else d.berthLayer m t x Px.clear cx cy

/-- Layers blended over a pixel, from the bottom up (R146). -/
def Device.blendDescs (d : Device) (m : Memory) (t : Tables) (lead : Nat) (ids : List Nat) (canvas : Nat × Nat) (cx cy : Int) (b : Px) : Px :=
  ids.foldl (fun b i => match t.desc i with
    | some x => blendOver b (d.layerPx m t lead x canvas cx cy)
    | none => b) b

/-- The rectangle of tile `i` of an output in canvas coordinates (R68, R86). -/
def OutRec.tileRect (r : OutRec) (i : Nat) : Rect :=
  let w := r.window
  let g := fmtG r.format
  (w.1 + tileX r.width g (i % 16), w.2.1 + tileY r.height (i / 16),
   w.1 + tileX r.width g (i % 16 + 1), w.2.1 + tileY r.height (i / 16 + 1))

/-- The canvas positions of a tile, line by line. -/
def Rect.pixels (r : Rect) : List (Int × Int) :=
  (List.range (r.2.2.2 - r.2.1).toNat).flatMap (fun (y : Nat) =>
    (List.range (r.2.2.1 - r.1).toNat).map (fun (x : Nat) => (r.1 + (x : Int), r.2.1 + (y : Int))))

/-- A tile of a moored stack flattened from transparent black (R107, R146). -/
def Device.flatten (d : Device) (m : Memory) (t : Tables) (r : OutRec) (lead : Nat) (ids : List Nat) (tile : Nat) : List Px :=
  (r.tileRect tile).pixels.map (fun p => d.blendDescs m t lead ids r.canvas p.1 p.2 Px.clear)

/-- The pixel of a stored moored tile at offset `k` of the tile; a spilled one is read from DRAM (R107, R109). -/
def Device.moorPx (d : Device) (m : Memory) (s : MoorStore) (k : Nat) : Px :=
  match s with
  | .empty => Px.clear
  | .solid p => p
  | .cache _ l => l.getD k Px.clear
  | .spill bs l => (d.spillPixels m.dram bs l).getD k Px.clear

/-- The tile and the offset in it of a canvas position of an output. -/
def OutRec.locate (r : OutRec) (cx cy : Int) : Nat × Nat :=
  match (List.range 256).find? (fun i =>
      let q := r.tileRect i
      decide (q.1 ≤ cx) && decide (cx < q.2.2.1) && decide (q.2.1 ≤ cy) && decide (cy < q.2.2.2)) with
  | some i =>
    let q := r.tileRect i
    (i, ((cy - q.2.1) * (q.2.2.1 - q.1) + (cx - q.1)).toNat)
  | none => (0, 0)

/-- The member of a gang that shows a canvas position. -/
def memberAt (outs : List OutRec) (r : OutRec) (cx cy : Int) : OutRec :=
  ((outs.filter (fun q => decide (q.shape = r.shape) && decide (gangLead q.shape q.out = gangLead r.shape r.out))).find? (fun q =>
    let w := q.window
    decide (w.1 ≤ cx) && decide (cx < w.2.2.1) && decide (w.2.1 ≤ cy) && decide (cy < w.2.2.2))).getD r

/-- The blended pixel of an output's canvas at a position (R94, R107, R146): background, then each layer or
moored stack. -/
def Device.canvasPx (d : Device) (m : Memory) (t : Tables) (l : Layout) (r : OutRec) (cx cy : Int) : Px :=
  let lead := gangLead r.shape r.out
  let q := memberAt l.outs r cx cy
  let bg := d.bgColour t lead r.background
  (splitStack t.desc 0 (stackOf l.outs r)).foldl (fun b e =>
    if e.2.1 then
      match l.moored.find? (fun s => decide (s.orec.out = q.out) && decide (s.pos = e.1)) with
      | some s => let p := q.locate cx cy
                  blendOver b (d.moorPx m (s.tiles.getD p.1 .empty) p.2)
      | none => b
    else d.blendDescs m t lead e.2.2 r.canvas cx cy b) (bg.1, bg.2.1, bg.2.2, 65535)

/-- The bytes of one line of a tile of an output (R149 to R151). -/
def Device.tileLine (d : Device) (m : Memory) (t : Tables) (l : Layout) (r : OutRec) (tile : Nat) (line : Nat) : List Byte :=
  let w := r.window
  let q := r.tileRect tile
  let cw : Int := r.canvas.1
  let e := d.mat r.postMatrix
  let px (x : Int) : Nat × Nat × Nat :=
    outPath e t.lut (postLut r.postLut) (d.canvasPx m t l r (clampI 0 (cw - 1) (w.1 + x)) (q.2.1 + line))
  packLine r.format px (q.1 - w.1).toNat (q.2.2.1 - w.1).toNat

/-- All lines of a tile as sent (R69, R85). -/
def Device.tileLines (d : Device) (m : Memory) (t : Tables) (l : Layout) (r : OutRec) (tile : Nat) : List (List Byte) :=
  let q := r.tileRect tile
  (List.range (q.2.2.2 - q.2.1).toNat).map (fun k => d.tileLine m t l r tile k)

/-- Bytes of the lines of a tile stored into an output berth (R85). -/
def writeLines (dram : Dram) (a stride : Nat) : List (List Byte) → Dram
  | [] => dram
  | l :: r => writeLines (dram.writeList a l) (a + stride) stride r

/-- The address of a tile's first byte in an output berth. -/
def OutRec.tileAddr (r : OutRec) (base tile : Nat) : Nat :=
  let (g, b, _, _) := fmtGroup r.format
  base + fmtStride r.format r.width * tileY r.height (tile / 16) + tileX r.width g (tile % 16) / g * b

/-- A tile's bytes as a berth holds them. -/
def OutRec.readTile (r : OutRec) (m : Memory) (base tile : Nat) : List Byte :=
  let (g, b, _, _) := fmtGroup r.format
  let n := (tileX r.width g (tile % 16 + 1) - tileX r.width g (tile % 16)) / g * b
  (List.range (tileY r.height (tile / 16 + 1) - tileY r.height (tile / 16))).flatMap (fun k =>
    m.dram.readList (r.tileAddr base tile + fmtStride r.format r.width * k) n)

/-! ## What a tile says of its sources (R46 to R48) -/

/-- The source layers that contribute to a tile (R46, R87). -/
def contributors (desc : Nat → Option Desc) (outs : List OutRec) (r : OutRec) (tile : Nat) : List Desc :=
  (stackOf outs r).filterMap (fun i => match desc i with
    | some x =>
      if x.kind = 0 ∧ x.drawn ∧ (Rect.inter (x.clipped r.canvas) (r.tileRect tile)).area ≠ 0 then some x else none
    | none => none)

/-- The age of a tile (R47), 65,535 standing for an age without bound. -/
def Device.tileAge (d : Device) (l : List Desc) (t : Nat) : Nat :=
  l.foldl (fun a x => max a ((d.age x.source t).getD 65535)) 0

/-- The STALE flag of a tile (R48). -/
def Device.tileStale (d : Device) (l : List Desc) : Bool := l.any (fun x => d.treated x.source)

/-! ## Running a request through R95 -/

/-- The descriptor, LUT and coefficient indices that outputs reference, with the BG_LUT in force of each
output or gang lead (R141). -/
def lutRefs (d : Device) (desc : Nat → Option Desc) (outs : List OutRec) : List Nat :=
  ((outs.flatMap (fun o => o.layers.filterMap (fun i => (desc i).map (fun x => x.preLut)))) ++
   outs.map (fun o => postLut o.postLut) ++
   outs.map (fun o => d.get F.PIX_OUT_CFG_BG_LUT (gangLead o.shape o.out))).dedup

def coefRefs (desc : Nat → Option Desc) (outs : List OutRec) : List Nat :=
  (outs.flatMap (fun o => o.layers.flatMap (fun i => match desc i with
    | some x => [x.scalerH, x.scalerV]
    | none => []))).dedup

def descRefs (outs : List OutRec) : List Nat := (outs.flatMap (fun o => o.layers)).dedup

/-- The tables that a set of outputs references, read from DRAM. -/
def Device.readTables (d : Device) (m : Memory) (outs : List OutRec) : Tables :=
  let descs : Tab Nat (Option Desc) := (descRefs outs).map (fun i => (i, fetchDesc m (d.descTable + 256 * i)))
  let desc (i : Nat) : Option Desc := (Tab.find descs i).join
  ⟨descs, ((lutRefs d desc outs).filter (fun v => decide (v < 0xF000))).map (fun v => (v, fetchLut m (d.lutTable + 8192 * v))),
   (coefRefs desc outs).map (fun k => (k, fetchCoef m (d.coefTable + 1024 * k)))⟩

/-- The stale images that a layout's sources contribute (R55). -/
def Device.imageRefs (d : Device) (srcs : List Nat) : List Nat := (srcs.filterMap d.dueImage).dedup

/-- Step 5 of R95 for one descriptor. -/
def Device.descOk (d : Device) (m : Memory) (i : Nat) : Bool :=
  let a := d.descTable + 256 * i
  let x := readDesc m a
  decide (i < d.get F.CMP_TABLE_SIZE_DESCS) && descCheckOk m a && descFieldsOk m a x &&
  (match d.layerFrame x with
   | some (_, w, h) => ratiosOk x w h
   | none => false) &&
  d.lutIndexOk m x.preLut &&
  (fetchCoef m (d.coefTable + 1024 * x.scalerH)).isSome && (fetchCoef m (d.coefTable + 1024 * x.scalerV)).isSome &&
  (if x.kind = 1 then !m.poisoned x.imgAddr (picBytes x.imgFormat x.imgH x.imgStride)
   else if d.get F.FRS_SRC_CFG_TREAT x.source = 1 then
     match d.staleImage m (d.get F.FRS_SRC_IMG_CARD_IMG x.source) with
     | some p => ratioOk p.w x.dstW && ratioOk p.h x.dstH
     | none => false
   else true)

/-- Step 5 of R95. -/
def Device.step5 (d : Device) (m : Memory) (outs : List OutRec) (srcs : List Nat) : Bool :=
  (descRefs outs).all (d.descOk m) &&
  outs.all (fun o => d.lutIndexOk m (postLut o.postLut) && d.lutIndexOk m (d.get F.PIX_OUT_CFG_BG_LUT (gangLead o.shape o.out))) &&
  (d.imageRefs srcs).all (fun i => match d.staleImage m i with
    | some p => !m.poisoned p.addr (picBytes p.fmt p.h p.stride)
    | none => false)

/-- R102: a switch changes output `o`. -/
def changesOut (old new : List OutRec) (o : Nat) : Bool :=
  match old.find? (fun r => decide (r.out = o)), new.find? (fun r => decide (r.out = o)) with
  | none, none => false
  | some a, some b => decide (a ≠ b) || decide (stackOf old a ≠ stackOf new b)
  | _, _ => true

/-- Step 6 of R95 (R102). -/
def Device.step6 (d : Device) (slot : Nat) (outs : List OutRec) : Bool :=
  let old := match d.layout with | some l => l.outs | none => []
  (List.range 32).all (fun o => !changesOut old outs o ||
    decide (d.get F.CMP_OUT_OWNER_SLOT o = slot) || decide (d.get F.CMP_OUT_OWNER_SLOT o = 0xF))

/-- Step 7 of R95 (R38). -/
def Device.step7 (d : Device) (m : Memory) (t : Tables) (outs : List OutRec) (srcs : List Nat) : Bool :=
  let gran := (d.imageRefs srcs).foldl (fun n i => n + ((d.staleImage m i).map Pic.granules).getD 0) 0
  decide ((descRefs outs).length ≤ 1024) && decide (t.luts.length ≤ 96) && decide (t.coefs.length ≤ 16) && decide (gran ≤ 64)

/-- The moored stacks of a layout, each with the tiles it would have when flattened afresh (R107, R109). -/
def Device.stacksOf (d : Device) (m : Memory) (t : Tables) (outs : List OutRec) : List (MoorStack × List (List Px)) :=
  outs.flatMap (fun r =>
    ((splitStack t.desc 0 (stackOf outs r)).filter (fun e => e.2.1)).map (fun e =>
      (⟨r, r.out - gangLead r.shape r.out, e.1, e.2.2, []⟩,
       (List.range 256).map (fun i => d.flatten m t r (gangLead r.shape r.out) e.2.2 i))))

/-- SCL, BLD and MEM of a layout, given its placed moored stacks (R106). -/
def Device.layoutCost (d : Device) (t : Tables) (outs : List OutRec) (moored : List MoorStack) : Nat × Nat × Nat :=
  let parts := outs.flatMap (fun r => ((splitStack t.desc 0 (stackOf outs r)).filter (fun e => !e.2.1)).flatMap (fun e =>
    e.2.2.filterMap (fun i => (t.desc i).map (fun x => d.layerCost r x))))
  let scl := parts.foldl (fun n p => n + p.1) 0
  let moorArea := outs.foldl (fun n r => ((splitStack t.desc 0 (stackOf outs r)).filter (fun e => e.2.1)).foldl (fun n e =>
    let rs := (e.2.2.filterMap t.desc).filter Desc.drawn |>.map (fun x => Rect.inter (x.clipped r.canvas) r.window)
    n + ceilDiv (unionArea rs r.window.2.1.toNat r.window.2.2.2.toNat) 65536) n) 0
  let bytes := parts.foldl (fun n p => n + p.2) 0 + (stacksSpill moored).length * 1024 + outs.foldl (fun n o => n + 2 * o.bytes) 0
  (scl, scl + moorArea, ceilDiv bytes 1048576)

/-- The verdict of steps 2 to 10 on a request: the layout to switch to, or the first failing result. The flag says that step 10
sent tiles to the spill region. -/
inductive Verdict where
  | refused (r : LayoutResult) (spilled : Bool)
  | same
  | accepted (l : Layout) (spilled : Bool)
  deriving DecidableEq, Repr

/-- Steps 7 to 10 of R95 for the outputs of a layout that has passed the earlier ones, whose tables are `t`. They run together:
what step 10 places counts for the costs of step 8, and the lowest failing step names the result. -/
def Device.judgeSpace (d : Device) (m : Memory) (index : Nat) (outs : List OutRec) (t : Tables) (srcs : List Nat) : Verdict :=
  let old := d.stacksNow
  let used := d.moorSpilled
  let spill := (List.range (d.get F.CMP_MOOR_SPILL_SIZE_BLOCKS)).filter (fun b => !decide (b ∈ used))
  let placed := placeStacks old (d.stacksOf m t outs) ⟨65536 - d.moorCacheUsed, spill, false, false⟩
  let spilled := decide (placed.2.spill.length < spill.length)
  let c := d.layoutCost t outs placed.1
  let fits (b : List Nat) : Bool := (List.range 8).all (fun k =>
    decide (max (d.layoutRes k) (b.getD k 0) + d.decRes k + d.encRes k + d.pinRes k ≤ d.availOf k))
  let named := t.descs.filterMap (fun p => p.2.map (fun x => (p.1, x)))
  if !d.step7 m t outs srcs then .refused .cache spilled
  else if d.classCap 1 < c.1 ∨ d.classCap 2 < c.2.1 ∨ d.classCap 4 < c.2.2 then .refused .admission spilled
  else match d.layoutBerths outs srcs with
    | none => .refused .berths spilled
    | some b =>
      if !fits b then .refused .berths spilled
      else if placed.2.full then .refused .moorSpace spilled
      else .accepted ⟨index, outs, c.1, c.2.1, c.2.2, b, placed.1, named⟩ spilled

/-- Steps 2 to 10 of R95 (R99 for the layout in force). -/
def Device.judge (d : Device) (m : Memory) (slot index : Nat) : Verdict :=
  let a := d.layoutTable + 4096 * index
  if d.get F.CMP_TABLE_SIZE_LAYOUTS ≤ index then .refused .range false
  else if !recordOk m a index then .refused .check false
  else if (match d.layout with | some l => decide (l.index = index) | none => false) then .same
  else
    let outs := readOuts m a
    if !formatOk m a outs then .refused .format false
    else
      let t := d.readTables m outs
      let srcs := (Layout.sources ⟨index, outs, 0, 0, 0, [], [], []⟩ t.desc)
      if !d.step5 m outs srcs then .refused .descriptor false
      else if !d.step6 slot outs then .refused .owner false
      else d.judgeSpace m index outs t srcs

/-- A request ends: PENDING clears, RESULT shows how, and any result but DONE raises CMP_SWITCH_REFUSED, and
TOUCH_ACTION_FAIL where a key made the request (R437). -/
def Device.endRequest (d : Device) (r : LayoutResult) : Device :=
  let d := ({ d with layoutReq := none }.put F.CMP_LAYOUT_STATUS_PENDING 0 0).put F.CMP_LAYOUT_STATUS_RESULT 0 r.code
  let key := d.touch.recallKey
  let d : Device := { d with touch := { d.touch with recallKey := none } }
  if r = .done then d.raise F.CMP_EVENTS_SWITCH_DONE
  else
    let d := d.raise F.CMP_EVENTS_SWITCH_REFUSED
    match key with
    | some k => d.raise F.TOUCH_EVENTS_ACTION_FAIL k
    | none => d

/-- A write to CMP_LAYOUT_SEL, or a recall from a key, starts a request (R95, R102). -/
def Device.requestLayout (d : Device) (m : Memory) (slot index : Nat) : Device :=
  let d := (d.put F.CMP_LAYOUT_SEL_INDEX 0 index).put F.CMP_LAYOUT_STATUS_REQ_SLOT 0 slot
  match d.layoutReq with
  | some _ => (d.put F.CMP_LAYOUT_STATUS_RESULT 0 LayoutResult.busy.code).raise F.CMP_EVENTS_SWITCH_REFUSED
  | none =>
    let at_ := d.get2 F.CMP_LAYOUT_AT_LO_AT F.CMP_LAYOUT_AT_HI_AT
    let pend (l : Layout) (same : Bool) : Device :=
      ((({ d with layoutReq := some ⟨slot, index, at_, l, same, same, false, 0⟩ }.put F.CMP_LAYOUT_STATUS_PENDING 0 1).put
        F.CMP_LAYOUT_STATUS_PENDING_INDEX 0 index).put F.CMP_LAYOUT_STATUS_RESULT 0 0)
    let say (spilled : Bool) (d : Device) : Device := if spilled then d.raise F.CMP_EVENTS_MOOR_SPILL else d
    match d.judge m slot index with
    | .refused r spilled => say spilled (d.endRequest r)
    | .same => pend (d.layout.getD ⟨index, [], 0, 0, 0, [], [], []⟩) true
    | .accepted l spilled => say spilled (pend l false)

/-- A cancel from the slot of the pending request is kept for the next edge; any other is ignored (R101). -/
def Device.cancelLayout (d : Device) (slot : Nat) : Device :=
  match d.layoutReq with
  | some r => if r.slot = slot then { d with layoutReq := some { r with cancel := true } } else d
  | none => d

/-- The sources that the layout in force references, from the descriptors the pager holds. -/
def Device.layoutSources (d : Device) : List Nat :=
  match d.layout with
  | some l => l.sources d.tables.desc
  | none => []

/-! ## The pager's caches (R37, R40) -/

/-- The layout in force references an entry, by cache (0 descriptors, 1 LUT sets, 2 coefficient sets, 3 images) and index. -/
def Device.referencedEntry (d : Device) (k : Nat × Nat) : Bool :=
  match d.layout with
  | some l =>
    (match k.1 with
     | 0 => decide (k.2 ∈ descRefs l.outs)
     | 1 => decide (k.2 ∈ lutRefs d d.tables.desc l.outs)
     | 2 => decide (k.2 ∈ coefRefs d.tables.desc l.outs)
     | _ => decide (k.2 ∈ d.imageRefs d.layoutSources))
  | none => false

/-- The work list of the tick in progress references an entry, so that it is pinned: of the images, those of sources that are
shown in their stale treatment (R37). -/
def Device.pinnedEntry (d : Device) (k : Nat × Nat) : Bool :=
  d.tick.inTick && d.referencedEntry k &&
  (decide (k.1 ≠ 3) || decide (k.2 ∈ d.imageRefs (d.layoutSources.filter d.treated)))

/-- The entries that a cache holds, with the size of each: a granule of 64 KiB of an image, or 1. -/
def Tick.held (k : Tick) (cache : Nat) : List (Nat × Nat) :=
  match cache with
  | 0 => k.descs.map (fun p => (p.1, 1))
  | 1 => k.luts.map (fun p => (p.1, 1))
  | 2 => k.coefs.map (fun p => (p.1, 1))
  | _ => k.marks.map (fun p => (p.1, match p.2 with
    | some q => q.1.granules
    | none => 0))

/-- The capacity of a cache in entries, or in granules (R37). -/
def cacheCap : Nat → Nat
  | 0 => 1024 | 1 => 96 | 2 => 16 | _ => 64

/-- What a cache holds in all. -/
def Tick.heldSize (k : Tick) (cache : Nat) : Nat := ((k.held cache).map Prod.snd).foldl (· + ·) 0

/-- An entry leaves its cache. -/
def Tick.drop (k : Tick) (e : Nat × Nat) : Tick :=
  let k : Tick := { k with lru := k.lru.erase e }
  match e.1 with
  | 0 => { k with descs := Tab.del k.descs e.2 }
  | 1 => { k with luts := Tab.del k.luts e.2 }
  | 2 => { k with coefs := Tab.del k.coefs e.2 }
  | _ => { k with marks := Tab.del k.marks e.2 }

/-- An entry is used: it is the most recently used one. -/
def Tick.touch (k : Tick) (e : Nat × Nat) : Tick := { k with lru := k.lru.erase e ++ [e] }

/-- Entries that are not pinned leave a cache, the least recently used first, until `n` more fit (R37). -/
def Device.evict (d : Device) (cache n : Nat) : Device :=
  forL (d.tick.lru.filter (fun e => decide (e.1 = cache))) (fun e (d : Device) =>
    if d.tick.heldSize cache + n ≤ cacheCap cache || d.pinnedEntry e then d else { d with tick := d.tick.drop e }) d

/-- An entry arrives in its cache, if it fits beside the pinned ones (R37, R39, R55). -/
def Device.fill (d : Device) (cache i size : Nat) (put : Tick → Tick) : Device :=
  let d := d.evict cache size
  if d.tick.heldSize cache + size ≤ cacheCap cache then { d with tick := (put d.tick).touch (cache, i) } else d

def Device.fillDesc (d : Device) (i : Nat) (x : Option Desc) : Device :=
  d.fill 0 i 1 (fun k => { k with descs := Tab.set k.descs i x })
def Device.fillLut (d : Device) (i : Nat) (x : Option LutSet) : Device :=
  d.fill 1 i 1 (fun k => { k with luts := Tab.set k.luts i x })
def Device.fillCoef (d : Device) (i : Nat) (x : Option (List Int)) : Device :=
  d.fill 2 i 1 (fun k => { k with coefs := Tab.set k.coefs i x })
def Device.fillImage (d : Device) (i : Nat) (p : Pic) (x : Option (Pic × Dram)) : Device :=
  d.fill 3 i p.granules (fun k => { k with marks := Tab.set k.marks i x })

/-- Every entry that a test does not keep leaves the caches. -/
def Device.keepEntries (d : Device) (keep : Nat × Nat → Bool) : Device :=
  forL ([0, 1, 2, 3].flatMap (fun c => (d.tick.held c).map (fun p => (c, p.1)))) (fun e (d' : Device) =>
    if keep e then d' else { d' with tick := d'.tick.drop e }) d

/-- R40: at a switch, entries that the layout in force does not reference leave the caches. -/
def Device.dropUnreferenced (d : Device) : Device := d.keepEntries d.referencedEntry

/-- A recorded flush drops every entry that is not pinned (R40). -/
def Device.flushEdge (d : Device) : Device :=
  if d.tick.flush then
    let d : Device := { d with tick := { d.tick with flush := false } }
    d.keepEntries d.pinnedEntry
  else d

/-- The pager fetches what a pending layout references and does not hold yet, as far as it fits beside what is pinned
(step 11, R38, R134). -/
def Device.prefetch (d : Device) (m : Memory) (t : Tables) (imgs : List Nat) : Device :=
  let d := forL t.descs (fun p (d : Device) => if (Tab.find d.tick.descs p.1).isSome then d else d.fillDesc p.1 p.2) d
  let d := forL t.luts (fun p (d : Device) => if (Tab.find d.tick.luts p.1).isSome then d else d.fillLut p.1 p.2) d
  let d := forL t.coefs (fun p (d : Device) => if (Tab.find d.tick.coefs p.1).isSome then d else d.fillCoef p.1 p.2) d
  forL imgs (fun i (d : Device) => match d.staleImage m i with
    | some p => if (Tab.find d.tick.marks i).isSome then d else d.fillImage i p (fetchImage m p)
    | none => d) d

/-- What step 11 reads is whole: no descriptor, LUT set, coefficient set or image has a wrong CHECK or a poisoned burst (R469). -/
def Device.prefetchOk (d : Device) (m : Memory) (t : Tables) (imgs : List Nat) : Bool :=
  t.descs.all (fun p => p.2.isSome) && t.luts.all (fun p => p.2.isSome) && t.coefs.all (fun p => p.2.isSome) &&
  imgs.all (fun i => match d.staleImage m i with
    | some p => (fetchImage m p).isSome
    | none => !m.poisoned (d.imgTable + 16 * i) 16) &&
  t.descs.all (fun p => match p.2 with
    | some x => decide (x.kind = 0) || !m.poisoned x.imgAddr (picBytes x.imgFormat x.imgH x.imgStride)
    | none => true)

/-- Step 11 is done: the moored stacks are flattened, with the tiles that step 10 placed in the spill region written there, and
the entries that the new layout references are fetched. A request whose tick has passed ends with LATE, one whose time has run
out with TIMEOUT, one whose structures cannot be read with DESCRIPTOR (R95, R97, R101, R469). -/
def Chip.prepared (c : Chip) : Chip :=
  let d := c.dev
  match d.layoutReq with
  | some r =>
    if r.same || r.prepared then c
    else if (decide (r.at_ ≠ 0) && d.tick.inTick && decide (r.at_ ≤ d.tick.num)) then
      if r.cancel then c else { c with dev := d.endRequest .late }
    else if d.get F.CMP_SWITCH_CFG_TIMEOUT ≤ r.edges then (if r.cancel then c else { c with dev := d.endRequest .timeout })
    else
      let t := d.readTables c.mem r.layout.outs
      let imgs := d.imageRefs (r.layout.sources t.desc)
      if !d.prefetchOk c.mem t imgs then { c with dev := d.endRequest .descriptor }
      else
        let d : Device := { d with layoutReq := some { r with prepared := true } }
        { c with mem := { c.mem with dram := d.spillAll c.mem.dram d.stacksNew }, dev := d.prefetch c.mem t imgs }
  | none => c

/-! ## Outputs that leave, and the switch (R97, R98) -/

/-- The references of a frame that began before the tick end. -/
def Device.freeTail (d : Device) (o : Nat) : Device :=
  d.releaseAll (fun h => match h with
    | .tailPath e _ => decide (e = o)
    | .tailLoop e _ => decide (e = o)
    | _ => false)

/-- What an output holds of earlier frames is released without being sent (R98). -/
def Device.letFrameGo (d : Device) (o : Nat) : Device :=
  let x := d.outp o
  let d := (d.setOut o { x with prev := none, sending := none, stampDue := false, started := false, tail := none }).freeTail o
  match x.prev with
  | some q => match q.berth with
    | some n => d.settle n
    | none => d
  | none => d

/-- An output leaves the wall: nothing of it is sent any more (R98). -/
def Device.removeOut (d : Device) (o : Nat) : Device :=
  let d := d.letFrameGo o
  d.setOut o { d.outp o with discont := false, layoutFirst := false }

/-- An output of the new layout: the first stamp that covers a frame composed from now on carries LAYOUT (R70, R98). -/
def Device.startOut (d : Device) (o : Nat) : Device :=
  let x := d.outp o
  d.setOut o { x with layoutFirst := true, prev := x.prev.map (fun q => { q with layoutFlag := false }),
                      tail := x.tail.map (fun t => { t with frame := { t.frame with layoutFlag := false } }) }

/-- The size and shape of an output differ between two layouts (R98). -/
def formatChanged (a b : OutRec) : Bool :=
  decide (a.format ≠ b.format) || decide (a.width ≠ b.width) || decide (a.height ≠ b.height) || decide (a.shape ≠ b.shape)

/-- The switch of R97 and R98 at E(s): the new layout is in force. -/
def Device.switchLayout (d : Device) (r : LayoutReq) : Device :=
  let old := match d.layout with | some l => l.outs | none => []
  let new := r.layout.outs
  let d := { d with layout := some r.layout }
  let d := forN 32 (fun o d =>
    match old.find? (fun q => decide (q.out = o)), new.find? (fun q => decide (q.out = o)) with
    | none, none => d
    | some _, none => d.removeOut o
    | none, some _ => (d.removeOut o).startOut o
    | some a, some b => if formatChanged a b then (d.removeOut o).startOut o else d.startOut o) d
  let d := forN 32 (fun o d =>
    match new.find? (fun q => decide (q.out = o)) with
    | some b => (d.put F.CMP_OUT_STATE_PRESENT o 1).flag F.CMP_OUT_STATE_GANGED o (decide (b.shape ≠ 0))
    | none => (d.put F.CMP_OUT_STATE_PRESENT o 0).put F.CMP_OUT_STATE_GANGED o 0) d
  (((d.dropUnreferenced.put F.CMP_LAYOUT_STATUS_VALID 0 1).put F.CMP_LAYOUT_STATUS_CURRENT 0 r.index).endRequest .done)

/-- The tiles moved into the cache in the tick before are read from there, in the layout in force and where a pending layout has
the same stack (R110). -/
def Device.movesEdge (d : Device) : Device :=
  match d.tick.moving with
  | none => d
  | some l =>
    let again (s : MoorStack) : MoorStack := match l.find? (fun q => q.matches s) with
      | some q => { s with tiles := q.tiles }
      | none => s
    { d with
      tick := { d.tick with moving := none }
      layout := d.layout.map (fun x => { x with moored := l })
      layoutReq := d.layoutReq.map (fun r => { r with layout := { r.layout with moored := r.layout.moored.map again } }) }

/-- A pending layout request waits for the standby's acknowledgement of the mirror (R295). -/
def Device.mirrorBlocks (d : Device) : Bool :=
  decide (d.pwr = .run) && decide (d.get F.PAIR_STATUS_ROLE = 2) &&
  (match d.pair.partner with
   | some h => decide (h.role = 3) && decide (h.sync = 2) && decide (h.ack.getD 0 < d.pair.mirror.layoutSeq)
   | none => false)

/-- What the edge of tick `t` does with a pending request (R95, R97, R99, R100, R101). One that the mirror holds back at
E(AT) switches at the first edge that the mirror allows (R295). At the edge with which TIMEOUT ticks have passed since the
request, one whose steps 1 to 11 have not finished ends with TIMEOUT. -/
def Device.layoutEdge (d : Device) (t : Nat) : Device :=
  match d.layoutReq with
  | none => d
  | some r =>
    if r.same then d.endRequest .done
    else if r.prepared && (decide (r.at_ = 0) || decide (r.at_ = t)) && !d.mirrorBlocks then d.switchLayout r
    else if r.cancel then d.endRequest .cancelled
    else if r.prepared && decide (r.at_ ≠ 0) && decide (r.at_ < t) then d.endRequest .late
    else if (!r.prepared || d.mirrorBlocks) && decide (d.get F.CMP_SWITCH_CFG_TIMEOUT ≤ r.edges + 1) then d.endRequest .timeout
    else { d with layoutReq := some { r with edges := r.edges + 1, at_ := if r.prepared ∧ r.at_ = t then 0 else r.at_ } }

/-- LAYOUT_LATE: E(AT) has come and the checks have not finished (R97, R101). -/
def Device.layoutLate (d : Device) : Device :=
  match d.layoutReq with
  | some r =>
    if !r.same ∧ !r.prepared ∧ r.at_ ≠ 0 ∧ d.tick.running ∧ r.at_ ≤ d.tick.num then
      d.endRequest (if r.cancel then .cancelled else .late)
    else d
  | none => d

/-- LAYOUT_TIMEOUT: TIMEOUT ticks have passed and steps 1 to 11 have not finished (R95, R101). -/
def Device.layoutTimeout (d : Device) : Device :=
  match d.layoutReq with
  | some r =>
    if !r.same && (!r.prepared || d.mirrorBlocks) && decide (d.get F.CMP_SWITCH_CFG_TIMEOUT ≤ r.edges) then
      d.endRequest (if r.cancel then .cancelled else .timeout)
    else d
  | none => d

/-- MOOR_SPILL_MOVE_COMPLETE: the first spilled tile of the layout in force, in placement order, has been copied into free cache
blocks; it is read from there from the next edge on (R110). -/
def Device.moorMove (d : Device) (m : Memory) : Device :=
  let l := d.tick.moving.getD d.stacksNow
  match firstSpill l with
  | some (bs, px) =>
    if d.moorCacheUsed + bs.length ≤ 65536 then
      { d with tick := { d.tick with moving := some (moveStack (d.spillPixels m.dram bs px) l) } }
    else d
  | none => d

/-- A write to CMP_OUT_OWNER_o (R103); the flag says that it was accepted. -/
def Device.ownerWrite (d : Device) (slot o v : Nat) : Device :=
  let cur := d.get F.CMP_OUT_OWNER_SLOT o
  if cur = slot ∨ cur = 0xF then d.put F.CMP_OUT_OWNER_SLOT o v else d.raise F.CMP_EVENTS_OWNER_DENIED o

/-- PIX_MAT_QUERY copies an entry as in force into the slot's read registers (R152). -/
def Device.matQuery (d : Device) (slot i : Nat) : Device :=
  let w := (d.mat i).words
  forN 16 (fun k d => d.putS F.PIX_MAT_READ_WORD slot k (w.getD k 0)) (d.put F.PIX_MAT_QUERY_INDEX 0 i)

/-- The staged words of a slot. -/
def Device.staged (d : Device) (slot : Nat) : List Nat :=
  (List.range 16).map (fun k => d.getS F.PIX_MAT_STAGE_WORD slot k)

/-- A commit waits for the edge, or applies at once while no edges are made (R12, R138). -/
def Device.matCommit (d : Device) (slot i : Nat) : Device :=
  if d.pwr = .run then { d with matWait := Tab.set d.matWait i (d.staged slot) }
  else { d with mats := Tab.set d.mats i (d.staged slot) }

/-- The commits that wait are applied at the edge (R138). DESIGN CHOICE: moored tiles keep the colours they were flattened with
(R107, R109, log entry 143). -/
def Device.matEdge (d : Device) : Device :=
  forL d.matWait (fun (p : Nat × List Nat) (d : Device) =>
    { d with mats := Tab.set d.mats p.1 p.2 }.raise F.PIX_EVENTS_MAT_COMMIT p.1) { d with matWait := [] }

end Sys2Proof.Machine
end

