-- ==== Sys2Proof/Machine/Send.lean ====
section
/-!
DEFINITION. The IPv4 side of a port (R206 to R212): addresses, next hops, ARP, group membership, and a datagram
sent.
-/

namespace Sys2Proof.Machine

/-! ## Roles and addresses -/

/-- The role of the unit (R279): 0 SOLO, 1 JOINING, 2 ACTIVE, 3 STANDBY, 4 FAULTED. -/
def Device.role (d : Device) : Nat := d.get F.PAIR_STATUS_ROLE

/-- The unit holds the halter or runs SOLO. -/
def Device.sends (d : Device) : Bool := decide (d.role = 0) || decide (d.role = 2)

/-! ## The partner and the mirror queue (R291) -/

def Device.setPair (d : Device) (f : PairX → PairX) : Device := { d with pair := f d.pair }
def Device.setMirror (d : Device) (f : Mirror → Mirror) : Device := d.setPair (fun (p : PairX) => { p with mirror := f p.mirror })

/-- The unit holds the halter (R279). -/
def Device.holds (d : Device) : Bool := decide (d.role = 2)

/-- The partner is a STANDBY in SHADOW, and in SYNCING, by its last HEALTH message. -/
def Device.partnerSync (d : Device) : Nat :=
  match d.pair.partner with
  | some h => if h.role = 3 then h.sync else 0
  | none => 0

/-- The bytes in the mirror queue. -/
def Device.mirrorBytes (d : Device) : Nat := (d.pair.mirror.queue.map (fun (e : MirrorEntry) => e.data.length)).sum

/-- PAIR_MIRROR_STATUS follows the queue. -/
def Device.mirrorShow (d : Device) : Device := d.put F.PAIR_MIRROR_STATUS_PENDING_KIB 0 (min 32768 ((d.mirrorBytes + 1023) / 1024))

/-- The holder begins to copy every page it keeps, for resync `n` of its partner (R303). -/
def Device.beginCopy (d : Device) (n : Nat) : Device :=
  (d.setMirror (fun (m : Mirror) => { m with copy := some (m.pages, m.issued, m.pages.length), copied := n, queue := [] })).mirrorShow

/-- The mirror queue of a holder whose partner follows it has met an uncorrectable error: it is given up, and the pages it held go
with a resync (R303, R329, log entry 162). -/
def Device.mirrorBroken (d : Device) : Device :=
  if d.holds && (decide (d.partnerSync = 1) || decide (d.partnerSync = 2)) then d.beginCopy d.pair.mirror.copied else d

/-- A standby whose state copies have stopped (R294): sync state STALE, its mirror position dropped. -/
def Device.stateStale (d : Device) : Device :=
  let s := d.get F.PAIR_STATUS_SYNC
  if d.role = 3 ∧ (s = 1 ∨ s = 2) then
    let p := d.pair
    let d := { d with pair := { p with
      cmp := { p.cmp with settle := 0, shadowTick := none }
      mirror := { p.mirror with recv := none, whole := false, need := none }
      burst := [], ready := none, missed := 0 } }
    ((d.put F.PAIR_STATUS_SYNC 0 3).put F.PAIR_STATUS_INCONSISTENT 0 0).raise F.PAIR_EVENTS_STATE_STALE
  else d

/-- The tether has left UP: what the partner said of itself no longer holds, so that it counts as in no sync state and nothing is
queued for it (R291). A unit of a pair in RUN raises PAIR_TETHER_DOWN, and a standby goes STALE (R294, R306). -/
def Device.tetherDown (d : Device) : Device :=
  let d := (d.setPair (fun (p : PairX) => { p with partner := none, mirror := { p.mirror with queue := [], copy := none } })).mirrorShow
  if d.pwr = .run ∧ 2 ≤ d.role then (d.raise F.PAIR_EVENTS_TETHER_DOWN).stateStale else d

/-- The number of the unit, 0 when SOLO (R70, R210). -/
def Device.unitNo (d : Device) : Nat := if d.role = 0 then 0 else d.get F.PAIR_CTRL_UNIT

/-- Port `p` exists: it is not hidden by 100GBASE-R mode on the first port of its quad (R206). -/
def Device.portExists (d : Device) (p : Nat) : Bool :=
  decide (p < 28) && (decide (p % 4 = 0) || decide (d.get F.NET_PORT_CFG_MODE (p / 4 * 4) ≠ 2))

/-- Port `p` is UP. -/
def Device.portUp (d : Device) (p : Nat) : Bool := d.portExists p && decide (d.get F.NET_PORT_STATUS_STATE p = 2)

/-- The MAC address of port `p` (R208). -/
def Device.portMac (d : Device) (p : Nat) : Nat :=
  (d.get2 F.NET_MAC_BASE_LO_MAC_LO F.NET_MAC_BASE_HI_MAC_HI + p) % 2 ^ 48

/-- The unit address of a port (R210, R372). Port 32 is the management port. -/
def Device.unitAddr (d : Device) (p : Nat) : Nat :=
  if p = 32 then (if d.unitNo = 0 then d.get F.HOST_MGMT_ADDR0_ADDR else d.get F.HOST_MGMT_ADDR1_ADDR)
  else if d.unitNo = 0 then d.get F.NET_PORT_ADDR0_ADDR p else d.get F.NET_PORT_ADDR1_ADDR p

/-- An IPv4 multicast address. -/
def isMulticast (ip : Nat) : Bool := decide (ip / 2 ^ 28 = 14)

/-- The MAC address of a multicast group. PRESUMED: the mapping of RFC 1112 (log entry 40). -/
def groupMac (ip : Nat) : Nat := 0x01005E000000 + ip % 2 ^ 23

/-- The fields of path `k` of a transmit entry. -/
def pathF (k : Nat) (f0 f1 : Fld) : Fld := if k = 0 then f0 else f1

def Device.pathEn (d : Device) (e k : Nat) : Bool := d.on (pathF k F.NET_TX_PATH_CFG_0_EN F.NET_TX_PATH_CFG_1_EN) e
def Device.pathPort (d : Device) (e k : Nat) : Nat := d.get (pathF k F.NET_TX_PATH_CFG_0_PORT F.NET_TX_PATH_CFG_1_PORT) e
def Device.pathDst (d : Device) (e k : Nat) : Nat := d.get (pathF k F.NET_TX_PATH_DST_0_VALUE F.NET_TX_PATH_DST_1_VALUE) e
def Device.pathStamp (d : Device) (e k : Nat) : Nat := d.get (pathF k F.NET_TX_PATH_STAMP_0_VALUE F.NET_TX_PATH_STAMP_1_VALUE) e
def Device.pathDport (d : Device) (e k : Nat) : Nat := d.get (pathF k F.NET_TX_PATH_UDP_0_DPORT F.NET_TX_PATH_UDP_1_DPORT) e
def Device.pathSport (d : Device) (e k : Nat) : Nat := d.get (pathF k F.NET_TX_PATH_UDP_0_SPORT F.NET_TX_PATH_UDP_1_SPORT) e
def Device.pathStampPort (d : Device) (e k : Nat) : Nat := d.get (pathF k F.NET_TX_STAMP_UDP_PATH0 F.NET_TX_STAMP_UDP_PATH1) e

/-- The entry is enabled, and was at the tick edge (R222, NET_TX_CFG.EN). -/
def Device.txOn (d : Device) (e : Nat) : Bool := d.on F.NET_TX_CFG_EN e && decide (e ∈ d.net.txOn)

/-- The enabled paths of an entry. -/
def Device.paths (d : Device) (e : Nat) : List Nat := [0, 1].filter (fun k => d.pathEn e k)

/-! ## Next hops and ARP (R211) -/

/-- The address to resolve for a destination on a port: the destination on the subnet, else the gateway, if the port has
one (NET_PORT_GW 0 is no gateway). -/
def Device.nextHop (d : Device) (p dst : Nat) : Option Nat :=
  let n := d.get F.NET_PORT_SUBNET_PREFIX p
  let on := if p = 32 then true else decide (dst / 2 ^ (32 - n) = d.unitAddr p / 2 ^ (32 - n))
  if on then some dst else if d.get F.NET_PORT_GW_GW p = 0 then none else some (d.get F.NET_PORT_GW_GW p)

/-- The cached MAC address of a next hop. -/
def Device.arpFind (d : Device) (p ip : Nat) : Option Nat :=
  (d.net.arp.find? (fun e => decide (e.port = p) && decide (e.ip = ip))).map (fun e => e.mac)

/-- The MAC address a datagram to `dst` is sent to, when it is known. -/
def Device.resolve (d : Device) (p dst : Nat) : Option Nat :=
  if isMulticast dst then some (groupMac dst) else (d.nextHop p dst).bind (d.arpFind p)

/-- The VLAN tag of frames sent on a port (R208). -/
def Device.txTag (d : Device) (p : Nat) : Option (Nat × Nat) :=
  if p < 28 && d.on F.NET_PORT_VLAN_TX_TAG p then some (d.get F.NET_PORT_VLAN_VID p, d.get F.NET_PORT_VLAN_PCP p) else none

/-- An entry is used: it moves to the end of the list. -/
def Device.arpTouch (d : Device) (p ip : Nat) : Device :=
  match d.net.arp.find? (fun e => decide (e.port = p) && decide (e.ip = ip)) with
  | some e => { d with net := { d.net with arp := d.net.arp.erase e ++ [e] } }
  | none => d

/-- Send an ARP request for an address. -/
def Device.arpRequest (d : Device) (p ip : Nat) : Device :=
  d.emit (.arp p (d.txTag p) 1 (d.portMac p) (d.unitAddr p) 0 ip)

/-- A next hop that is not in the cache is asked for at once, unless it is being asked for (R211). -/
def Device.arpNeed (d : Device) (p ip : Nat) : Device :=
  if d.net.arpWait.any (fun w => decide (w.port = p) && decide (w.ip = ip)) then d
  else ({ d with net := { d.net with arpWait := d.net.arpWait ++ [ArpWait.mk p ip 1 d.now] } }).arpRequest p ip

/-- Fill the cache: 256 entries, the least recently used replaced first. -/
def Device.arpLearn (d : Device) (p ip mac : Nat) : Device :=
  let l := d.net.arp.filter (fun e => !(decide (e.port = p) && decide (e.ip = ip)))
  let l := if l.length < 256 then l else l.drop 1
  { d with net := { d.net with
      arp := l ++ [⟨p, ip, mac, d.now⟩]
      arpWait := d.net.arpWait.filter (fun w => !(decide (w.port = p) && decide (w.ip = ip))) } }

/-! ## Sending -/

/-- The bytes of a frame from the destination address to the FCS (R419). -/
def frameLen (tag : Bool) (payload : Nat) : Nat := max 64 (14 + (if tag then 4 else 0) + 28 + payload + 4)

/-- Count a frame sent on a media port. -/
def Device.countTx (d : Device) (p n : Nat) : Device :=
  let d := d.count 0x13 p 1
  { d with perf := { d.perf with txBytes := Tab.upd d.perf.txBytes 0 p (fun c => c + n) } }

/-- The transmit correction of a port (R221). -/
def Device.txCorr (d : Device) (p : Nat) : Int :=
  (match d.get F.NET_PORT_CFG_MODE p with
   | 0 => 34
   | 1 => if d.on F.NET_PORT_CFG_FEC p then 119 else 20
   | _ => 96) + signedOf 16 (d.get F.NET_PORT_DELAY_TX p)

/-- The next hop of a unicast destination is asked for where it is not known (R211). -/
def Device.hopNeed (d : Device) (p dst : Nat) : Device :=
  if isMulticast dst || decide (dst = 0) || (d.resolve p dst).isSome then d
  else match d.nextHop p dst with
    | some ip => d.arpNeed p ip
    | none => d

/-- Every unicast destination of the enabled paths of the enabled entries has its next hop asked for, on ports that are UP,
in either unit of a pair (R211). -/
def Device.hopScan (d : Device) : Device :=
  forN 64 (fun (e : Nat) (d : Device) =>
    if !d.on F.NET_TX_CFG_EN e then d
    else forL (d.paths e) (fun (k : Nat) (d : Device) =>
      if d.portUp (d.pathPort e k) then (d.hopNeed (d.pathPort e k) (d.pathDst e k)).hopNeed (d.pathPort e k) (d.pathStamp e k) else d) d) d

/-- Send a datagram on a port that is UP to a resolved next hop; otherwise it is discarded at the MAC, and an
unresolved next hop is asked for (R211, R229). -/
def Device.sendUdp (d : Device) (p src dst ttl dscp sport dport : Nat) (checksum : Bool) (payload : List Byte) : Device :=
  if !(d.portUp p || decide (p = 32)) then d
  else match d.resolve p dst with
    | some mac =>
      let tag := d.txTag p
      let d := if p = 32 then d else d.countTx p (frameLen tag.isSome payload.length)
      let at_ : Int := (d.devNs : Int) - (if p = 32 then 0 else d.txCorr p)
      (d.arpTouch p ((d.nextHop p dst).getD 0)).emit (.datagram ⟨p, tag, mac, d.portMac p, src, dst, ttl, dscp, sport, dport, checksum, at_⟩ payload)
    | none => d.hopNeed p dst

/-- One gratuitous ARP for each flow source address on each port its paths use (R211). -/
def Device.gratuitousArp (d : Device) : Device :=
  let l := ((List.range 64).flatMap (fun e => (d.paths e).map (fun k => (d.pathPort e k, d.get F.NET_TX_SRCIP_VALUE e)))).dedup
  forL l (fun (q : Nat × Nat) (d : Device) =>
    if d.portUp q.1 then d.emit (.arp q.1 (d.txTag q.1) 1 (d.portMac q.1) q.2 0 q.2) else d) d

/-! ## Group membership (R212, R231) -/

/-- The witness is active (R231). -/
def Device.witOn (d : Device) : Bool := d.on F.NET_WIT_CFG_EN && decide (d.role ≠ 0)

/-- Output `o` is selected for the witness, and for its video test. -/
def Device.witMask (d : Device) (o : Nat) : Bool := (d.get F.NET_WIT_MASK_MASK).testBit o
def Device.witVideo (d : Device) (o : Nat) : Bool := (d.get F.NET_WIT_VIDEO_MASK).testBit o

/-- The witness groups on a port (R231). -/
def Device.witGroups (d : Device) (p : Nat) : List Nat :=
  if d.witOn then
    ((List.range 32).filter d.witMask).flatMap (fun o =>
      ((d.paths o).filter (fun k => decide (d.pathPort o k = p))).map (d.pathStamp o) ++
      (if d.witVideo o && d.pathEn o 0 && decide (d.pathPort o 0 = p) then [d.pathDst o 0] else []))
  else []

/-- A servo that runs listens on the port (R257). -/
def Device.ptpOn (d : Device) (p : Nat) : Bool :=
  [0, 1].any (fun v => d.on F.TIME_SRV_CFG_EN v && decide (d.get F.TIME_SRV_CFG_PORT v = p))

/-- The PTP multicast groups. PRESUMED: 224.0.1.129 and 224.0.0.107 of IEEE 1588 (log entry 42). -/
def isPtpGroup (ip : Nat) : Bool := decide (ip = 0xE0000181) || decide (ip = 0xE000006B)

/-- The groups whose frames a port accepts beside those it reports: the PTP groups where a servo listens, and that of every
host, to which general queries go (PRESUMED, log entries 41 and 42). -/
def Device.quietGroups (d : Device) (p : Nat) : List Nat :=
  0xE0000001 :: (if d.ptpOn p then [0xE0000181, 0xE000006B] else [])

/-- What the port has joined: group and the sources of INCLUDE mode, an empty list standing for EXCLUDE mode
with no source (R212). -/
def Device.joined (d : Device) (p : Nat) : List (Nat × List Nat) :=
  let flows := ((List.range 512).filter (fun f => d.on F.NET_RX_FLOW_CFG_EN f && decide (d.get F.NET_RX_FLOW_CFG_PORT f = p))).map
    (fun f => (d.get F.NET_RX_FLOW_DST_VALUE f, d.get F.NET_RX_FLOW_SRCIP_VALUE f))
  let all := (flows ++ (d.witGroups p).map (fun g => (g, 0))).filter (fun (q : Nat × Nat) => isMulticast q.1)
  (all.map Prod.fst).dedup.map (fun g =>
    let s := (all.filter (fun (q : Nat × Nat) => decide (q.1 = g))).map Prod.snd
    (g, if s.any (fun x => decide (x = 0)) then [] else s.dedup))

/-- The records of a state-change report between two memberships of a group. PRESUMED: the record types of
RFC 3376, which the spec names (log entry 41). -/
def igmpChange (a b : Option (List Nat)) (g : Nat) : List (Nat × Nat × List Nat) :=
  match a, b with
  | none, none => []
  | none, some [] => [(4, g, [])]
  | none, some s => [(5, g, s)]
  | some [], none => [(3, g, [])]
  | some s, none => [(6, g, s)]
  | some [], some [] => []
  | some [], some s => [(3, g, s)]
  | some _, some [] => [(4, g, [])]
  | some s, some t =>
    (if t.any (fun x => !decide (x ∈ s)) then [(5, g, t.filter (fun x => !decide (x ∈ s)))] else []) ++
    (if s.any (fun x => !decide (x ∈ t)) then [(6, g, s.filter (fun x => !decide (x ∈ t)))] else [])

/-- A report leaves a port that is UP from its unit address (R210, R212). -/
def Device.igmpSend (d : Device) (p : Nat) (r : List (Nat × Nat × List Nat)) : Device :=
  if d.portUp p || decide (p = 32) then
    d.emit (.igmp p (d.txTag p) (d.unitAddr p) ((d.get F.NET_IGMP_STATUS_V2_COMPAT).testBit p) r)
  else d

/-- A state-change report is sent, and kept for its repeat one second later; a port that is not UP reports when it is
(R212). -/
def Device.igmpReport (d : Device) (p : Nat) (r : List (Nat × Nat × List Nat)) : Device :=
  if d.portUp p then
    let d := d.igmpSend p r
    { d with net := { d.net with igmpRepeat := d.net.igmpRepeat ++ [⟨p, d.now + 1000000000, r⟩] } }
  else d

/-- Report what changed between the memberships before and those now, and keep the report for its repeat one
second later (R212). -/
def Device.igmpUpdate (d : Device) (before : Nat → List (Nat × List Nat)) : Device :=
  forN 28 (fun p d =>
    let a := before p
    let b := d.joined p
    let look (l : List (Nat × List Nat)) (g : Nat) := (l.find? (fun q => decide (q.1 = g))).map Prod.snd
    let r := ((a ++ b).map Prod.fst).dedup.flatMap (fun g => igmpChange (look a g) (look b g) g)
    if r.isEmpty then d else d.igmpReport p r) d

/-- A port reaches UP: it reports every group it has joined, as a change from none (R212). -/
def Device.igmpJoin (d : Device) (p : Nat) : Device :=
  let r := (d.joined p).flatMap (fun q => igmpChange none (some q.2) q.1)
  if r.isEmpty then d else d.igmpReport p r

/-- The membership of every port now. -/
def Device.memberships (d : Device) : List (List (Nat × List Nat)) := (List.range 28).map d.joined

/-- Change the device and report what it changes of the memberships. -/
def Device.withIgmp (d : Device) (f : Device → Device) : Device :=
  let m := d.memberships
  (f d).igmpUpdate (fun p => m.getD p [])

end Sys2Proof.Machine
end

