-- ==== Sys2Proof/Machine/Outputs.lean ====
section
/-!
DEFINITION. Outputs from tile to stamp: blending a tile and paging (R37 to R39, R104, R121, R131, R142), the
seal deadline (R29, R64), sending a sealed frame (R65, R222 to R229), the loopback check (R74, R75) and the
stamp (R66 to R73).
-/

namespace Sys2Proof.Machine

/-- Note a condition of the health word in the tick in progress (R301). -/
def Device.note (d : Device) (k : Nat) : Device := { d with healthAt := Tab.set d.healthAt k d.edges }

/-- A control engine is held stopped (R19). -/
def Device.stopped (d : Device) (n : Nat) : Bool := (d.get F.SYS_ENGINE_STATUS_STOPPED).testBit n

/-- A tick of RUN is in progress. -/
def Device.inTick (d : Device) : Bool := d.tick.inTick

/-- The device time of the tick in progress reaches `p` hundredths of T. -/
def Device.waitPoint (d : Device) (p : Nat) : Device := d.waitUntil (d.pointNs d.tick.num p)

/-! ## The pager (R37 to R39) -/

/-- The stale image of an index as a picture: as it is cached, or as its table entry in DRAM says; none where the entry is not
valid (R55). -/
def Device.imageOf (d : Device) (m : Memory) (i : Nat) : Option Pic :=
  match d.heldImage i with
  | some q => some q.1
  | none => d.staleImage m i

/-- The cache entries that a layer needs in a tile (R37), by cache and index. -/
def Device.layerKeys (d : Device) (m : Memory) (r : OutRec) (tile i : Nat) : List (Nat × Nat) :=
  (0, i) :: (match d.tables.desc i with
    | none => []
    | some x =>
      if x.drawn ∧ (Rect.inter (x.clipped r.canvas) (r.tileRect tile)).area ≠ 0 then
        (if x.preLut < 0xF000 then [(1, x.preLut)] else []) ++ [(2, x.scalerH), (2, x.scalerV)] ++
        (if x.kind = 0 ∧ d.treated x.source then
          match d.dueImage x.source with
          | some k => if (d.imageOf m k).isSome then [(3, k)] else []
          | none => []
         else [])
      else [])

/-- The cache entries that a tile of an output needs. DESIGN CHOICE: an entry that only the neighbouring pixel of its chroma
filter uses (R150) is not needed; a LUT or coefficient set missing there reads as zeros (log entry 146). -/
def Device.tileKeys (d : Device) (m : Memory) (l : Layout) (r : OutRec) (tile : Nat) : List (Nat × Nat) :=
  let luts := [postLut r.postLut, d.get F.PIX_OUT_CFG_BG_LUT (gangLead r.shape r.out)]
  (((splitStack d.tables.desc 0 (stackOf l.outs r)).filter (fun e => !e.2.1)).flatMap (fun e =>
    e.2.2.flatMap (d.layerKeys m r tile))) ++ (luts.filter (fun v => decide (v < 0xF000))).map (fun v => (1, v))

/-- An entry is in its cache, good or with a wrong CHECK. -/
def Device.cached (d : Device) (k : Nat × Nat) : Bool :=
  match k.1 with
  | 0 => (Tab.find d.tick.descs k.2).isSome
  | 1 => (Tab.find d.tick.luts k.2).isSome
  | 2 => (Tab.find d.tick.coefs k.2).isSome
  | _ => (Tab.find d.tick.marks k.2).isSome

/-- An entry was fetched with a wrong CHECK or from a poisoned burst, and is not used (R121, R142, R329). -/
def Device.badEntry (d : Device) (k : Nat × Nat) : Bool :=
  match k.1 with
  | 0 => decide (Tab.find d.tick.descs k.2 = some none)
  | 1 => decide (Tab.find d.tick.luts k.2 = some none)
  | 2 => decide (Tab.find d.tick.coefs k.2 = some none)
  | _ => decide (Tab.find d.tick.marks k.2 = some none)

/-- An entry arrives in its cache (R39, R121, R142). -/
def Device.pagerFill (d : Device) (m : Memory) (cache i : Nat) : Device :=
  if d.cached (cache, i) then d
  else match cache with
    | 0 =>
      let x := fetchDesc m (d.descTable + 256 * i)
      let d := d.fillDesc i x
      if x.isNone && d.layout.isSome then d.raise F.CMP_EVENTS_DESC_CHECK i else d
    | 1 =>
      let x := fetchLut m (d.lutTable + 8192 * i)
      let d := d.fillLut i x
      if x.isNone && d.layout.isSome then d.raise F.PIX_EVENTS_LUT_CHECK i else d
    | 2 =>
      let x := fetchCoef m (d.coefTable + 1024 * i)
      let d := d.fillCoef i x
      if x.isNone && d.layout.isSome then d.raise F.CMP_EVENTS_DESC_CHECK i else d
    | 3 => (match d.staleImage m i with
      | some p =>
        let x := fetchImage m p
        let d := d.fillImage i p x
        if x.isNone && d.layout.isSome then d.raise F.CMP_EVENTS_DESC_CHECK i else d
      | none => d)
    | _ => d

/-- A stalled tile of the layout misses an entry still. -/
def Device.stillMisses (d : Device) (m : Memory) (l : Layout) (s : Nat × Nat × Nat) : Bool :=
  match l.outs.find? (fun r => decide (r.out = s.1)) with
  | some r => (d.tileKeys m l r s.2.1).any (fun k => !d.cached k)
  | none => false

/-- PAGER_FETCH_COMPLETE: the entry arrives, and the tiles that miss nothing any more are taken next, after those that the eight
pipes have in hand (R39, R105). -/
def Device.pagerFetch (d : Device) (m : Memory) (cache i : Nat) : Device :=
  let d := d.pagerFill m cache i
  match d.layout with
  | some l =>
    let k := d.tick
    let back := (k.stalled.filter (fun s => !d.stillMisses m l s)).map (fun s => (s.1, s.2.1))
    { d with tick := { k with
        stalled := k.stalled.filter (fun s => d.stillMisses m l s), work := k.work.take 8 ++ back ++ k.work.drop 8 } }
  | none => d

/-- R121: what was fetched with a wrong CHECK is fetched afresh in each following tick. -/
def Device.dropBad (d : Device) : Device :=
  let k := d.tick
  { d with tick := { k with
      descs := k.descs.filter (fun p => p.2.isSome)
      luts := k.luts.filter (fun p => p.2.isSome)
      coefs := k.coefs.filter (fun p => p.2.isSome)
      marks := k.marks.filter (fun p => p.2.isSome) } }

/-! ## Blending a tile (R104, R131) -/

/-- What a source layer draws makes its ratio invalid: the input berth (R131), or the card that is due (R57). -/
def Device.badRatio (d : Device) (x : Desc) : Bool :=
  let own := match (d.src x.source).input with
    | some n => !ratiosOk x (d.berth n).width (d.berth n).height
    | none => false
  if !d.treated x.source then own
  else match d.get F.FRS_SRC_CFG_TREAT x.source with
    | 0 => (d.heldImage (d.get F.FRS_SRC_IMG_MARK_IMG x.source)).isSome && own
    | 1 => match d.heldImage (d.get F.FRS_SRC_IMG_CARD_IMG x.source) with
      | some q => !(ratioOk q.1.w x.dstW && ratioOk q.1.h x.dstH)
      | none => false
    | _ => false

/-- The source layers of a tile with an invalid ratio, by position in the stack and source. -/
def Device.badRatios (d : Device) (l : Layout) (r : OutRec) (tile : Nat) : List (Nat × Nat) :=
  ((stackOf l.outs r).zipIdx).filterMap (fun p => match d.tables.desc p.1 with
    | some x =>
      if decide (x.kind = 0) && x.drawn && decide ((Rect.inter (x.clipped r.canvas) (r.tileRect tile)).area ≠ 0) && d.badRatio x
      then some (p.2, x.source) else none
    | none => none)

/-- PIX_RATIO is raised and counted, once per layer and tick; the layers of a gang are its lead's (R57, R91, R131). -/
def Device.ratioNote (d : Device) (r : OutRec) (ids : List (Nat × Nat)) : Device :=
  let lead := gangLead r.shape r.out
  forL ids (fun q d =>
    if (lead, q.1) ∈ d.tick.ratio then d
    else
      let d : Device := { d with tick := { d.tick with ratio := d.tick.ratio ++ [(lead, q.1)] } }
      (d.raise F.PIX_EVENTS_RATIO q.2).bump F.PIX_RATIO_CNT_COUNT 0 1) d

/-- A source layer of the tile draws from a berth that has been marked CORRUPT. -/
def Device.tileCorrupt (d : Device) (l : Layout) (r : OutRec) (tile : Nat) : Bool :=
  (contributors d.tables.desc l.outs r tile).any (fun x => match (d.src x.source).input with
    | some n => (d.berth n).corrupt
    | none => false)

/-- The tile leaves the work list: a pipe has finished it, set it aside, or cannot compose it. -/
def Device.workDone (d : Device) (o tile : Nat) : Device :=
  { d with tick := { d.tick with work := d.tick.work.erase (o, tile) } }

/-- A pipe has the tile in hand: the eight pipes take the tiles of the work list in order (R105). -/
def Device.inHand (d : Device) (o tile : Nat) : Bool := decide ((o, tile) ∈ d.tick.work.take 8)

/-- What the blending of a tile reads of its moored stacks: cache blocks, and tiles in the spill region (R108, R109). -/
def Layout.moorReads (l : Layout) (o tile : Nat) : Nat × Nat :=
  let t := (l.moored.filter (fun s => decide (s.orec.out = o))).map (fun s => s.tiles.getD tile .empty)
  ((t.map MoorStore.cacheBlocks).sum, (t.filter (fun x => !x.spillBlocks.isEmpty)).length)

/-- The tile is composed whole: its bytes, its record, and what it says of its sources (R46 to R48, R69). -/
def Chip.composeTile (c : Chip) (l : Layout) (r : OutRec) (n tile pipe : Nat) (keys : List (Nat × Nat)) : Chip :=
  let d := c.dev
  let o := r.out
  let lines := d.tileLines c.mem d.tables l r tile
  let who := contributors d.tables.desc l.outs r tile
  let x := d.outp o
  let trec : TileRec := ⟨BitVec.ofNat 32 (crc32c lines.flatten), d.tileStale who, false, d.tileAge who d.tick.num⟩
  let d := (d.setOut o { x with tiles := Tab.set x.tiles tile trec }).workDone o tile
  let d : Device := { d with tick := keys.foldl Tick.touch d.tick }
  let q := l.moorReads o tile
  let d := (d.ratioNote r (d.badRatios l r tile)).countTile 0x03 pipe 1 o tile (some pipe)
  let d := (d.countTile 0x07 pipe q.1 o tile (some pipe)).countTile 0x08 pipe q.2 o tile (some pipe)
  { c with mem := { c.mem with dram := writeLines c.mem.dram (r.tileAddr (d.berthAddr n) tile) (fmtStride r.format r.width) lines }
           dev := d }

/-- TILE_BLEND_COMPLETE: a tile of a present output that took a berth is composed whole and its record fixed,
unless the seal deadline has passed. A tile that misses an entry stalls; one that needs a bad entry or a corrupt
berth, or was abandoned for an uncorrectable error, is left for the seal deadline. -/
def Chip.tileBlend (c : Chip) (o tile pipe : Nat) : Chip :=
  let d := c.dev
  match d.layout with
  | none => c
  | some l =>
    match l.outs.find? (fun r => decide (r.out = o)), (d.outp o).berth with
    | some r, some n =>
      if !d.inTick || !d.tick.published || d.tick.sealRan || !d.inHand o tile then c
      else
        let keys := d.tileKeys c.mem l r tile
        let miss := keys.filter (fun k => !d.cached k)
        if !miss.isEmpty then
          let d := forL miss.dedup (fun k (d : Device) => d.countTile 0x05 k.1 1 o tile (some pipe)) (d.workDone o tile)
          { c with dev := { d with tick := { d.tick with stalled := d.tick.stalled ++ [(o, tile, pipe)] } } }
        else if keys.any d.badEntry || d.tileCorrupt l r tile || decide ((o, tile) ∈ d.tick.abandoned) then
          { c with dev := d.workDone o tile }
        else c.composeTile l r n tile pipe keys
    | _, _ => c

/-! ## The seal deadline (R29, R64) -/

/-- The opaque black tile of R64: black of the blend domain through the output's path. -/
def Device.blackTile (d : Device) (r : OutRec) (tile : Nat) : List (List Byte) :=
  let e := d.mat r.postMatrix
  let px (_ : Int) : Nat × Nat × Nat := outPath e d.tables.lut (postLut r.postLut) (0, 0, 0, 65535)
  let q := r.tileRect tile
  let w := r.window
  (List.range (q.2.2.2 - q.2.1).toNat).map (fun _ => packLine r.format px (q.1 - w.1).toNat (q.2.2.1 - w.1).toNat)

/-- The frame of an output that tile replacement uses: the one sealed in the tick before, if its berth is not
CORRUPT (R64). -/
def Device.replaceFrom (d : Device) (o : Nat) : Option SealedOut :=
  match (d.outp o).prev with
  | some q => match q.berth with
    | some n => if q.tick = d.tick.last ∧ !(d.berth n).corrupt then some q else none
    | none => none
  | none => none

/-- The lines of a tile in a berth. -/
def OutRec.readLines (r : OutRec) (m : Memory) (base tile : Nat) : List (List Byte) :=
  let (g, b, _, _) := fmtGroup r.format
  let n := (tileX r.width g (tile % 16 + 1) - tileX r.width g (tile % 16)) / g * b
  (List.range (tileY r.height (tile / 16 + 1) - tileY r.height (tile / 16))).map (fun k =>
    m.dram.readList (r.tileAddr base tile + fmtStride r.format r.width * k) n)

/-- R64: the lines and the record of a replaced tile. -/
def Device.replaced (d : Device) (m : Memory) (l : Layout) (r : OutRec) (tile : Nat) : List (List Byte) × TileRec :=
  match d.replaceFrom r.out with
  | some q =>
    let lines := r.readLines m (d.berthAddr (q.berth.getD 0)) tile
    let p := q.recs.getD tile ⟨0, true, false, 63⟩
    let age := min (p.age + 1) 65535
    let lims := (contributors d.tables.desc l.outs r tile).map (fun x => d.limit x.source)
    let stale := p.stale || lims.any (fun v => decide (v < age))
    (lines, ⟨BitVec.ofNat 32 (crc32c lines.flatten), stale, false, age⟩)
  | none =>
    let lines := d.blackTile r tile
    (lines, ⟨BitVec.ofNat 32 (crc32c lines.flatten), true, false, 63⟩)

/-- The records of an output at the seal deadline, the DRAM with its replaced tiles, and how many there are. -/
def Device.sealTiles (d : Device) (m : Memory) (l : Layout) (r : OutRec) (n : Nat) : List TileRec × Dram × Nat :=
  (List.range 256).foldl (fun acc i =>
    match Tab.find (d.outp r.out).tiles i with
    | some t => (acc.1 ++ [t], acc.2.1, acc.2.2)
    | none =>
      let q := d.replaced m l r i
      (acc.1 ++ [q.2], writeLines acc.2.1 (r.tileAddr (d.berthAddr n) i) (fmtStride r.format r.width) q.1, acc.2.2 + 1))
    ([], m.dram, 0)

/-- The tag of a berth as input of a source in its presented state (R296). -/
def Device.berthTag (d : Device) (s n : Nat) : Nat :=
  let b := d.berth n
  let shown := if d.treated s then 1 + d.get F.FRS_SRC_CFG_TREAT s else 0
  crc32c (beBytes 8 b.capture ++ beBytes 4 b.rtpTs ++ (List.range 64).flatMap (fun j => beBytes 2 (b.sigs.getD j 0).toNat) ++ beBytes 1 shown)

/-- LAYER_OK of the layers of an output by position (R296). -/
def Device.layersOk (d : Device) (l : Layout) (r : OutRec) : List Bool :=
  (stackOf l.outs r).map (fun i => match d.tables.desc i with
    | some x => decide (x.kind ≠ 0) || (d.src x.source).input.isSome
    | none => false)

/-- The input tags of the layers of an output by position (R296). -/
def Device.inputTags (d : Device) (l : Layout) (r : OutRec) : List Nat :=
  (stackOf l.outs r).map (fun i => match d.tables.desc i with
    | some x => if x.kind ≠ 0 then 0 else match (d.src x.source).input with
      | some n => d.berthTag x.source n
      | none => 0
    | none => 0)

/-- The tiles of an output that the seal deadline replaces. -/
def OutSt.missing (x : OutSt) : List Nat := (List.range 256).filter (fun i => (Tab.find x.tiles i).isNone)

/-- The seal of one output: its berth is sealed and becomes PREVIOUS, and the PREVIOUS before it lets go of that
role (R114, R115). -/
def Chip.sealOut (c : Chip) (l : Layout) (o : Nat) : Chip :=
  let d := c.dev
  let x := d.outp o
  let old := x.prev
  let drop (d : Device) : Device := match old with
    | some q => match q.berth with
      | some b => d.settle b
      | none => d
    | none => d
  match l.outs.find? (fun r => decide (r.out = o)), x.berth with
  | some r, some n =>
    let s := d.sealTiles c.mem l r n
    let b := d.berth n
    let d := d.setBerth n { b with st := .sealed, width := r.width, height := r.height, stride := fmtStride r.format r.width,
                                   format := r.format, capture := d.tick.num, sealTick := d.sealTick, done := true, scale := d.tick.scale }
    let d := d.setOut o { x with berth := none, tiles := [],
                                 prev := some ⟨d.tick.num, some n, s.1, x.layoutFirst, r, x.missing, d.layersOk l r, d.inputTags l r⟩ }
    let d := (forL x.missing (fun i (d : Device) => d.countTile 0x04 o 1 o i none) (drop d)).put F.CMP_OUT_STATE_REPLACED o s.2.2
    { c with mem := { c.mem with dram := s.2.1 }, dev := d }
  | _, _ => { c with dev := (drop (d.setOut o { x with berth := none, tiles := [], prev := none })).put F.CMP_OUT_STATE_REPLACED o 0 }

/-- The berth that an output took for the tick in progress, before and after its seal (CMP_OUT_STATE). -/
def Device.takenBerth (d : Device) (o : Nat) : Option Nat :=
  if !d.tick.inTick then none
  else match (d.outp o).berth, (d.outp o).prev with
    | some n, _ => some n
    | none, some q => if q.tick = d.tick.num then q.berth else none
    | none, none => none

/-- How many tiles of present outputs with a berth are not blended. -/
def Device.unblended (d : Device) : Nat :=
  match d.layout with
  | some l => (l.outs.map (fun r => if (d.outp r.out).berth.isSome then 256 - (d.outp r.out).tiles.length else 0)).foldl (· + ·) 0
  | none => 0

/-- SEAL_DEADLINE, at 0.85 T (R29). -/
def Chip.sealDeadline (c : Chip) : Chip :=
  if !c.dev.inTick || c.dev.tick.sealRan then c
  else
    let d := c.dev.waitPoint 85
    let lost := d.unblended
    let d := if d.tick.stalled.isEmpty then d else d.raise F.TICK_EVENTS_PAGE_STALL
    let d := if lost = 0 then d else (d.raise F.TICK_EVENTS_SEAL_MISS).bump F.TICK_SEAL_MISS_CNT_COUNT 0 1
    let c : Chip := match d.layout with
      | some l => (l.outs.map (fun r => r.out)).foldl (fun c o => c.sealOut l o) { c with dev := d }
      | none => { c with dev := d }
    let d := c.dev.releaseAll (fun h => decide (h = .comp))
    { c with dev := { d with tick := { d.tick with sealRan := true, stalled := [], abandoned := [], work := [] } } }

/-! ## Sending (R65, R222 to R229) -/

/-- The transmit offset of an output in nanoseconds (R226). -/
def Device.tro (d : Device) (e : Nat) : Nat :=
  let (n, k) := d.nd
  let w := d.get F.NET_TX_TIMING_TRO_OUT e
  if w = 0 then 43 * k * 1000000000 / (1125 * n) else min w (5 * k * 1000000000 / (100 * n))

/-- Wait until `off` nanoseconds after the edge, or after the start of the step gap by a timer that the step does
not change (R25). -/
def Device.waitBase (d : Device) (off : Nat) : Device :=
  if d.tick.gap then (if d.now < d.tick.edgeNow + off then d.elapse (d.tick.edgeNow + off - d.now) else d)
  else d.waitUntil (d.pointNs d.tick.num 0 + off)

/-- The tick that the stamps of this moment cover: the one before, or in the step gap the last one (R25, R70). -/
def Device.covered (d : Device) : Nat := if d.tick.gap then d.tick.num else d.tick.num - 1

/-- The frame that an output sends in this tick, or in the step gap (R25, R65). -/
def Device.frameDue (d : Device) (o : Nat) : Option SealedOut :=
  match (d.outp o).prev with
  | some q => match q.berth with
    | some n =>
      if (d.berth n).corrupt || (d.tick.afterGap && !d.tick.gap) then none
      else if q.tick = (if d.tick.gap then d.tick.num else d.tick.last) then some q else none
    | none => none
  | none => none

/-- Pixel groups per packet and packets per line of an output entry (R223). -/
def Device.pktGeom (d : Device) (e : Nat) (r : OutRec) : Nat × Nat :=
  let (g, b, _, _) := fmtGroup r.format
  let p := max 1 (d.get F.NET_TX_PKT_MAX_PAYLOAD e / b)
  (p, (r.width / g + p - 1) / p)

/-- What a loopback failure shows, counts, raises and records (R74, R75): reason 1 CRC, 2 TICK. -/
def Device.loopbackShow (d : Device) (id reason tile : Nat) : Device :=
  let d := ((d.put F.FRS_LOOPBACK_STATUS_OUTPUT_ID 0 id).put F.FRS_LOOPBACK_STATUS_REASON 0 reason).put F.FRS_LOOPBACK_STATUS_TILE 0 tile
  let d := (d.bump F.FRS_LOOPBACK_CNT_COUNT 0 1).raise F.FRS_EVENTS_LOOPBACK_FAIL id
  (d.record 0x0020 3 (tile * 65536 + reason * 256 + id) 0).note 0

/-- A loopback failure of an output or feed (R74, R75). -/
def Device.loopbackFail (d : Device) (id reason tile : Nat) : Device :=
  let x := d.outp id
  let d := d.setOut id { x with failed := true, stampDue := true }
  (d.loopbackShow id reason tile).releaseAll (fun h => match h with
    | .path e _ => decide (e = id)
    | .loop e _ => decide (e = id)
    | _ => false)

/-- OUTPUT_FRAME_SEND_START, at TRO (R27, R65, R74). -/
def Device.sendStart (d : Device) (o : Nat) : Device :=
  if !(d.inTick || d.tick.gap) || !d.present o || (d.outp o).started then d
  else
    let d := d.waitBase (d.tro o)
    let x := d.outp o
    match d.frameDue o with
    | none => d.setOut o { x with started := true, sending := none, stampDue := true, paths := [] }
    | some q =>
      let ps := if d.txOn o then d.paths o else []
      let g := d.pktGeom o q.orec
      let d := d.setOut o { x with started := true, sending := some q, paths := ps, npk := g.2 * q.orec.height, sentPk := 0,
                                   checked := [], failed := false, stampDue := ps.isEmpty }
      if ps.isEmpty then d
      else if (match x.lastTick with | some t => decide (q.tick ≤ t) | none => false) then d.loopbackFail o 2 0
      else match q.berth with
        | some n => forL ps (fun k (d : Device) => (d.hold n (.path o k)).hold n (.loop o k)) d
        | none => d

/-- The nominal rate of a port in Gbit/s (R206). -/
def Device.portGbps (d : Device) (p : Nat) : Nat :=
  match d.get F.NET_PORT_CFG_MODE p with
  | 0 => 10 | 1 => 25 | _ => 100

/-- The scheduled time of packet `k` of a frame after its edge, with a transmit offset (R226). In type W the packets
of a group follow each other at the rate of the first path's port. -/
def Device.schedule (d : Device) (tro e npk k : Nat) : Nat :=
  let (n, t) := d.nd
  let trs (j : Nat) := j * 1080 * t * 1000000000 / (1125 * npk * n)
  if d.get F.NET_TX_CFG_TYPE e = 0 then tro + trs k
  else
    let b := max 1 (d.get F.NET_TX_CFG_BURST e)
    let wire := (d.get F.NET_TX_PKT_MAX_PAYLOAD e + 86) * 8 / d.portGbps (d.pathPort e ((d.paths e).headD 0))
    tro + trs (k / b * b) + k % b * wire

/-- The scheduled time of packet `k` with the transmit offset in force. -/
def Device.pktTime (d : Device) (e npk k : Nat) : Nat := d.schedule (d.tro e) e npk k

/-- The RTP header (R223): version 2, marker, payload type, sequence number, timestamp and SSRC. -/
def rtpHeader (marker : Bool) (pt seq ts ssrc : Nat) : List Byte :=
  beBytes 1 0x80 ++ beBytes 1 ((if marker then 128 else 0) + pt) ++ beBytes 2 seq ++ beBytes 4 ts ++ beBytes 4 ssrc

/-- The RTP timestamp of a frame composed in tick `c` (R223). -/
def Device.videoTs (d : Device) (c : Nat) : Nat := c * d.nd.2 * 90000 / d.nd.1 % 2 ^ 32

/-- Packet `k` of a frame: RTP header, extended sequence number, one sample row data header and the pixel groups
(R223). -/
def Device.videoPacket (d : Device) (m : Memory) (e : Nat) (q : SealedOut) (npk k ext : Nat) : List Byte :=
  let r := q.orec
  let (g, b, _, _) := fmtGroup r.format
  let (p, ppl) := d.pktGeom e r
  let line := k / ppl
  let first := k % ppl * p
  let n := min p (r.width / g - first)
  let base := d.berthAddr (q.berth.getD 0) + fmtStride r.format r.width * line + first * b
  rtpHeader (decide (k + 1 = npk)) (d.get F.NET_TX_CFG_PT e) (ext % 65536) (d.videoTs q.tick) (d.get F.NET_TX_SSRC_VALUE e) ++
  beBytes 2 (ext / 65536) ++ beBytes 2 (n * b) ++ beBytes 2 line ++ beBytes 2 (first * g) ++ m.dram.readList base (n * b)

/-- Send a payload of an entry on path `k` to its video destination. -/
def Device.sendVideo (d : Device) (e k : Nat) (payload : List Byte) : Device :=
  d.sendUdp (d.pathPort e k) (d.get F.NET_TX_SRCIP_VALUE e) (d.pathDst e k)
    (d.get (pathF k F.NET_TX_PATH_CFG_0_TTL F.NET_TX_PATH_CFG_1_TTL) e)
    (d.get (pathF k F.NET_TX_PATH_CFG_0_DSCP F.NET_TX_PATH_CFG_1_DSCP) e) (d.pathSport e k) (d.pathDport e k) false payload

/-- A packet leaves late (R227). -/
def Device.lateNote (d : Device) (e lateNs : Nat) : Device :=
  if lateNs ≤ 100 then d
  else
    let d := (d.bump F.NET_TX_LATE_CNT_COUNT e 1).raise F.NET_EVENTS_TX_LATE e
    forL (d.paths e) (fun k (d : Device) => d.count 0x14 (d.pathPort e k) 1) d

/-- The extended sequence number of the next packet of an entry. -/
def Device.txExt (d : Device) (e : Nat) : Nat := Tab.get d.net.txExt 0 e
def Device.setExt (d : Device) (e v : Nat) : Device := { d with net := { d.net with txExt := Tab.set d.net.txExt e (v % 2 ^ 32) } }

/-- Packet `k` of a frame, with extended sequence number `ext`, leaves on its paths, if `go` says that the unit sends (R223,
R228). -/
def Device.sendPacket (d : Device) (m : Memory) (e : Nat) (q : SealedOut) (paths : List Nat) (npk k ext lateNs : Nat) (go : Bool) : Device :=
  let pkt := d.videoPacket m e q npk k ext
  let d := if go && d.txOn e then forL paths (fun k (d : Device) => d.sendVideo e k pkt) d else d
  d.lateNote e lateNs

/-- The next packet of the frame of this tick leaves on every path of the frame (R226 to R229). The last one lets go
of the paths' references (R114). -/
def Device.frameSend (d : Device) (m : Memory) (e lateNs : Nat) : Device :=
  let x := d.outp e
  match x.sending with
  | none => d
  | some q =>
    if x.failed || decide (x.npk ≤ x.sentPk) || x.paths.isEmpty || !(d.inTick || d.tick.gap) then d
    else
      let d := (d.waitBase (d.pktTime e x.npk x.sentPk)).elapse lateNs
      let ext := d.txExt e
      let d := ((d.sendPacket m e q x.paths x.npk x.sentPk ext lateNs d.sends).setExt e (ext + 1)).setOut e { x with sentPk := x.sentPk + 1 }
      if x.sentPk + 1 = x.npk then
        match q.berth with
        | some n => forL x.paths (fun k (d : Device) => d.release n (.path e k)) d
        | none => d
      else d

/-! ## Frames that run past an edge (R25, R226, R355) -/

/-- Wait until `off` nanoseconds after the start of a frame that began before the tick: its edge, or the start of the
step gap by a timer that the step does not change (R25). -/
def Device.tailWait (d : Device) (t : OutTail) (off : Nat) : Device :=
  if t.gapped then d.waitNow (t.base + off) else d.waitUntil (d.pointNs t.base 0 + off)

/-- Change what is left of such a frame. -/
def Device.setTail (d : Device) (o : Nat) (t : Option OutTail) : Device := d.setOut o { d.outp o with tail := t }

/-- No further packet of such a frame is sent: the numbers taken for them are free again, unless a packet of the next frame has
left. -/
def Device.tailBack (d : Device) (o : Nat) (t : OutTail) : Device :=
  if d.txExt o = (t.ext + (t.npk - t.sentPk)) % 2 ^ 32 then d.setExt o t.ext else d

/-- Such a frame has packets to send. -/
def OutTail.sends (t : OutTail) : Bool := !t.failed && !t.gone && decide (t.sentPk < t.npk)

/-- The next packet of such a frame leaves. -/
def Device.tailSend (d : Device) (m : Memory) (e lateNs : Nat) (t : OutTail) : Device :=
  let d := (d.tailWait t (d.schedule t.tro e t.npk t.sentPk)).elapse lateNs
  let d := (d.sendPacket m e t.frame t.paths t.npk t.sentPk t.ext lateNs (d.sends || t.leaving)).setTail e
    (some { t with sentPk := t.sentPk + 1, ext := (t.ext + 1) % 2 ^ 32 })
  if t.sentPk + 1 = t.npk then
    match t.frame.berth with
    | some n => forL t.paths (fun k (d : Device) => d.release n (.tailPath e k)) d
    | none => d
  else d

/-- VIDEO_PACKET_SEND of an output entry: a frame that began before the tick goes first. -/
def Device.videoSend (d : Device) (m : Memory) (e lateNs : Nat) : Device :=
  match (d.outp e).tail with
  | some t => if t.sends then d.tailSend m e lateNs t else d.frameSend m e lateNs
  | none => d.frameSend m e lateNs

/-- The packet that holds the last bytes of a tile (R74). -/
def Device.tileLastPacket (d : Device) (e : Nat) (r : OutRec) (tile : Nat) : Nat :=
  let g := fmtG r.format
  let (p, ppl) := d.pktGeom e r
  (tileY r.height (tile / 16 + 1) - 1) * ppl + (tileX r.width g (tile % 16 + 1) / g - 1) / p

/-- The bytes of a tile of the frame of this tick that passed the checker of a path are compared with the record
fixed at the seal deadline (R74, R75). The last check of a path lets go of the checker's reference. When every
check has passed, the stamp is due (R67). -/
def Device.frameCheck (d : Device) (o path tile : Nat) (bytes : List Byte) : Device :=
  let x := d.outp o
  match x.sending with
  | none => d
  | some q =>
    if x.failed || !decide (path ∈ x.paths) || decide (256 ≤ tile) || decide ((path, tile) ∈ x.checked) ||
        decide (x.sentPk ≤ d.tileLastPacket o q.orec tile) then d
    else if BitVec.ofNat 32 (crc32c bytes) = (q.recs.getD tile ⟨0, true, false, 63⟩).check then
      let x := { x with checked := x.checked ++ [(path, tile)] }
      let all := decide (x.checked.length = 256 * x.paths.length) && decide (x.sentPk = x.npk)
      let d := d.setOut o { x with stampDue := x.stampDue || all }
      if (x.checked.filter (fun p => decide (p.1 = path))).length = 256 then
        match q.berth with
        | some n => d.release n (.loop o path)
        | none => d
      else d
    else d.loopbackFail o 1 tile

/-- The checker of a path has a tile of a frame that began before the tick still to compare. -/
def Device.tailChecks (d : Device) (o path tile : Nat) (t : OutTail) : Bool :=
  !t.failed && !t.gone && decide (path ∈ t.paths) && decide (tile < 256) && !decide ((path, tile) ∈ t.checked) &&
  decide (d.tileLastPacket o t.frame.orec tile < t.sentPk)

/-- It compares the tile. -/
def Device.tailCheck (d : Device) (o path tile : Nat) (bytes : List Byte) (t : OutTail) : Device :=
  if BitVec.ofNat 32 (crc32c bytes) = (t.frame.recs.getD tile ⟨0, true, false, 63⟩).check then
    let t := { t with checked := t.checked ++ [(path, tile)] }
    let all := decide (t.checked.length = 256 * t.paths.length) && decide (t.sentPk = t.npk)
    let d := d.setTail o (some { t with stampDue := t.stampDue || all })
    if (t.checked.filter (fun p => decide (p.1 = path))).length = 256 then
      match t.frame.berth with
      | some n => d.release n (.tailLoop o path)
      | none => d
    else d
  else (((d.tailBack o t).setTail o (some { t with failed := true, stampDue := true })).loopbackShow o 1 tile).freeTail o

/-- LOOPBACK_TILE_CHECK: a frame that began before the tick goes first. -/
def Device.loopbackCheck (d : Device) (o path tile : Nat) (bytes : List Byte) : Device :=
  match (d.outp o).tail with
  | some t => if d.tailChecks o path tile t then d.tailCheck o path tile bytes t else d.frameCheck o path tile bytes
  | none => d.frameCheck o path tile bytes

/-- A berth that is being sent is found corrupt: the frame's video stops there, and its stamp carries NO_FRAME
(R65). -/
def Device.stopCorrupt (d : Device) (n : Nat) : Device :=
  forN 32 (fun o d =>
    let d := match (d.outp o).tail with
      | some t =>
        if t.frame.berth = some n ∧ !t.failed ∧ !t.gone then
          ((d.tailBack o t).setTail o (some { t with gone := true, stampDue := true })).freeTail o else d
      | none => d
    let x := d.outp o
    match x.sending with
    | some q =>
      if q.berth = some n ∧ !x.stampDone ∧ !x.failed then
        (d.setOut o { x with sending := none, stampDue := true }).releaseAll (fun h => match h with
          | .path e _ => decide (e = o)
          | .loop e _ => decide (e = o)
          | _ => false)
      else d
    | none => d) d

/-! ## The stamp (R66 to R73) -/

/-- What a stamp says: status, width and height, RTP timestamp, flags and records. -/
structure StampBody where
  status : Nat
  width : Nat
  height : Nat
  rtpTs : Nat
  flags : Nat
  recs : List TileRec
  deriving DecidableEq, Repr

/-- The five bytes of a record (R71, R72). -/
def TileRec.bytes (r : TileRec) : List Byte :=
  beBytes 4 r.check.toNat ++ beBytes 1 ((if r.stale then 128 else 0) + (if r.coarse then 64 else 0) + min r.age 63)

/-- The record of a NO_FRAME stamp (R72): check 0 and the byte 0xBF. -/
def TileRec.none_ : TileRec := ⟨0, true, false, 63⟩

def staleCount (l : List TileRec) : Nat := (l.filter (fun r => r.stale)).length
def coarseCount (l : List TileRec) : Nat := (l.filter (fun r => r.coarse)).length

/-- The state of time at the edge of a tick, for the stamp that covers it (R70). -/
def Device.infoAt (d : Device) (t : Nat) : TickInfo :=
  ((d.tick.info :: d.tick.infos).find? (fun i => decide (i.num = t))).getD { d.tick.info with num := t, ns := d.pointNs t 0 }

/-- The 60 bytes of the header before PAYLOAD_CHECK (R70); `i` is the state of time of the tick that it covers. -/
def Device.stampHeader (d : Device) (i : TickInfo) (id t : Nat) (b : StampBody) (seq : Nat) : List Byte :=
  let paired := decide (d.role ≠ 0)
  beBytes 4 0x53544D50 ++ beBytes 1 1 ++ beBytes 1 id ++ beBytes 1 b.status ++ beBytes 1 b.flags ++ beBytes 8 t ++
  beBytes 6 (i.ns / 1000000000) ++ beBytes 4 (i.ns % 1000000000) ++ beBytes 1 i.src ++ beBytes 1 i.domain ++ beBytes 8 i.gm ++
  beBytes 1 (if paired then 1 else 0) ++ beBytes 1 d.unitNo ++ beBytes 1 (d.get F.TICK_CTRL_RATE) ++ beBytes 1 0 ++
  beBytes 4 (if paired then d.get F.PAIR_EPOCH_EPOCH else 0) ++ beBytes 4 seq ++ beBytes 2 b.width ++ beBytes 2 b.height ++
  beBytes 2 (staleCount b.recs) ++ beBytes 2 (coarseCount b.recs) ++ beBytes 4 b.rtpTs

/-- The 1,344 bytes of a stamp (R66, R70, R71). -/
def Device.stampPayload (d : Device) (i : TickInfo) (id t : Nat) (b : StampBody) (seq : Nat) : List Byte :=
  let h := d.stampHeader i id t b seq
  let r := b.recs.flatMap TileRec.bytes
  h ++ beBytes 4 (crc32c (h ++ r)) ++ r

/-- Show a stamp of an output in the FRS registers, and send it on each enabled path of the entry where `sent` says
so (R66, R222). -/
def Device.emitStamp (d : Device) (id t : Nat) (b : StampBody) (seq : Nat) (payload : List Byte) (sent : Bool) : Device :=
  let d := if id < 32 then
      ((((d.put F.FRS_OUT_STATUS_STATUS id b.status).put F.FRS_OUT_STATUS_FLAGS id b.flags).put F.FRS_OUT_STATUS_STALE_COUNT id
        (staleCount b.recs)).put F.FRS_OUT_SEQ_SEQ id seq).put2 F.FRS_OUT_TICK_LO_TICK F.FRS_OUT_TICK_HI_TICK id t
    else d
  if sent then
    let d := if b.status = 2 then (d.bump F.FRS_NO_FRAME_CNT_COUNT 0 1).raise F.FRS_EVENTS_NO_FRAME id else d
    forL (d.paths id) (fun k (d : Device) =>
      d.sendUdp (d.pathPort id k) (d.get F.NET_TX_SRCIP_VALUE id) (d.pathStamp id k)
        (d.get (pathF k F.NET_TX_PATH_CFG_0_TTL F.NET_TX_PATH_CFG_1_TTL) id)
        (d.get (pathF k F.NET_TX_PATH_CFG_0_DSCP F.NET_TX_PATH_CFG_1_DSCP) id) (d.pathSport id k) (d.pathStampPort id k) true payload) d
  else d

/-- A stamp of this output or feed is sent while the unit sends (R66). -/
def Device.stampGoes (d : Device) (id : Nat) : Bool := d.sends && d.txOn id && !(d.paths id).isEmpty

/-- Form a stamp of an output or feed, with the next sequence number and what the output has to mark (R66). -/
def Device.formStamp (d : Device) (id t : Nat) (b : StampBody) : Device :=
  let x := d.outp id
  let sent := d.stampGoes id
  let b := { b with flags := b.flags + (if x.discont then 1 else 0) + (if x.handover && sent then 4 else 0) }
  let payload := d.stampPayload (d.infoAt t) id t b x.seq
  let d := d.setOut id { x with stampDue := false, stampDone := true, seq := (x.seq + 1) % 2 ^ 32, lastTick := some t,
                                discont := false, handover := x.handover && !sent, stampSent := sent, stampStatus := b.status }
  d.emitStamp id t b x.seq payload sent

/-- The STATUS of the stamp of a frame (R72): LOOPBACK_FAIL, STALE_PRESENT or LIVE. -/
def SealedOut.status (q : SealedOut) (failed : Bool) : Nat := if failed then 3 else if q.recs.any (fun r => r.stale) then 1 else 0

/-- The stamp of a frame that began before the tick (R25, R67). Where it covers no frame after all, the next one carries LAYOUT
in its place. -/
def Device.tailStamp (d : Device) (o : Nat) (t : OutTail) : Device :=
  let q := t.frame
  let b : StampBody :=
    if t.gone then ⟨2, q.orec.width, q.orec.height, 0, t.marks, List.replicate 256 TileRec.none_⟩
    else ⟨q.status t.failed, q.orec.width, q.orec.height, d.videoTs q.tick, t.marks + (if q.layoutFlag then 2 else 0),
      if t.failed then q.recs.map (fun r => { r with stale := true }) else q.recs⟩
  let payload := d.stampPayload t.info o q.tick b t.seq
  let d := if t.gone && q.layoutFlag then d.setOut o { d.outp o with layoutFirst := true } else d
  ((d.setTail o none).freeTail o).emitStamp o q.tick b t.seq payload ((d.sends || t.leaving) && d.txOn o)

/-- A reference of an output's frame as that of a frame that began before the tick. -/
def Holder.asTail (o : Nat) : Holder → Holder
  | .path e k => if e = o then .tailPath e k else .path e k
  | .loop e k => if e = o then .tailLoop e k else .loop e k
  | h => h

/-- What an output has not sent of its frame at the end of a tick, or of a step gap, is sent in the time that follows:
its stamp keeps its place in the sequence and counts as sent if the schedule still allows it. What was left of an
earlier frame ends. -/
def Device.markTail (leaving : Bool) (o : Nat) (d : Device) : Device :=
  let d := match (d.outp o).tail with
    | some t => ((if t.failed || t.gone then d else d.tailBack o t).setTail o none).freeTail o
    | none => d
  let x := d.outp o
  match x.sending with
  | none => d
  | some q =>
    if x.stampDone || x.paths.isEmpty then d
    else
      let goes := d.stampGoes o
      let base := if d.tick.gap then d.tick.edgeNow else d.tick.num
      let t : OutTail := ⟨{ q with layoutFlag := q.layoutFlag && x.layoutFirst }, d.tick.gap, base, d.tro o, d.txExt o, x.paths, x.npk, x.sentPk, x.checked, x.failed, x.stampDue, false, x.seq,
        (if x.discont then 1 else 0) + (if x.handover && goes then 4 else 0), d.infoAt q.tick, leaving && d.sends⟩
      let last := d.schedule t.tro o x.npk (x.npk - 1) + 20000
      let inTime := if d.tick.gap then decide (d.now ≤ base + last) else decide (d.devNs ≤ d.pointNs base 0 + last)
      let d := match q.berth with
        | some n =>
          let b := d.berth n
          d.setBerth n { b with refs := b.refs.map (Holder.asTail o) }
        | none => d
      let d := d.setExt o (d.txExt o + (if x.failed then 0 else x.npk - x.sentPk))
      d.setOut o { x with sending := none, stampDue := false, stampDone := inTime, stampSent := inTime && goes, stampStatus := q.status x.failed,
                          seq := (x.seq + 1) % 2 ^ 32, lastTick := some q.tick, discont := false, handover := x.handover && !goes,
                          layoutFirst := x.layoutFirst && !q.layoutFlag, tail := some t }

/-- The same of every output. -/
def Device.markTails (leaving : Bool) (d : Device) : Device := forN 32 (Device.markTail leaving) d

/-- STAMP_SEND of the frame of this tick: NO_FRAME, LOOPBACK_FAIL, STALE_PRESENT or LIVE (R66, R67, R72). -/
def Device.frameStamp (d : Device) (o : Nat) : Device :=
  let x := d.outp o
  let size : Nat × Nat := match d.layout with
    | some l => match l.outs.find? (fun r => decide (r.out = o)) with
      | some r => (r.width, r.height)
      | none => (0, 0)
    | none => (0, 0)
  if !x.stampDue then d
  else match x.sending with
    | none => d.formStamp o d.covered ⟨2, size.1, size.2, 0, 0, List.replicate 256 TileRec.none_⟩
    | some q =>
      let first := q.layoutFlag && x.layoutFirst
      let fl := if first then 2 else 0
      let ts := d.videoTs q.tick
      let d := if first then d.setOut o { x with layoutFirst := false } else d
      if x.failed then d.formStamp o q.tick ⟨3, q.orec.width, q.orec.height, ts, fl, q.recs.map (fun r => { r with stale := true })⟩
      else
        d.formStamp o q.tick ⟨if q.recs.any (fun r => r.stale) then 1 else 0, q.orec.width, q.orec.height, ts, fl, q.recs⟩

/-- STAMP_SEND of an output: a stamp that is due of a frame that began before the tick goes first. -/
def Device.stampOut (d : Device) (o : Nat) : Device :=
  match (d.outp o).tail with
  | some t => if t.stampDue then d.tailStamp o t else d.frameStamp o
  | none => d.frameStamp o

end Sys2Proof.Machine
end

