-- ==== Sys2Proof/Machine/Net.lean ====
section
/-!
DEFINITION. What the media ports receive (R208 to R221, R468, R471): classification, ARP, ICMP, IGMP, the receive
flow table, ST 2110-20 ingest with ST 2022-7 merging, and the witness (R231 to R233).
-/

namespace Sys2Proof.Machine

/-! ## Classification (R208, R209, R213) -/

/-- What a received frame is handled as (R213). -/
inductive RxClass where
  | ignored | arp | ipv6 | malformed | fragment | igmp | icmp | ptp | fuhel | flow (f : Nat) | witness | unmatched
  deriving DecidableEq, Repr

/-- The port accepts the frame (R208); the management port when it is enabled (R372, R393). -/
def Device.accepts (d : Device) (h : RxHdr) : Bool :=
  (if h.port = 32 then d.pd1On && d.on F.HOST_FUHEL_CFG_MGMT_EN else d.portUp h.port) &&
  decide (h.len ≤ 9216) &&
  !((List.range 28).any (fun p => decide (h.srcMac = d.portMac p))) &&
  (decide (h.dstMac = d.portMac h.port) || decide (h.dstMac = 2 ^ 48 - 1) ||
   (d.joined h.port).any (fun q => decide (groupMac q.1 = h.dstMac)) ||
   (d.quietGroups h.port).any (fun g => decide (groupMac g = h.dstMac))) &&
  (match h.vlan with
   | none => true
   | some v => decide (v = 0) || decide (v = d.get F.NET_PORT_VLAN_VID h.port))

/-- Flow `f` matches a UDP packet (R214). -/
def Device.flowMatches (d : Device) (f : Nat) (h : RxHdr) : Bool :=
  d.on F.NET_RX_FLOW_CFG_EN f && decide (d.get F.NET_RX_FLOW_CFG_PORT f = h.port) &&
  decide (d.get F.NET_RX_FLOW_DST_VALUE f = h.dst) && decide (d.get F.NET_RX_FLOW_UDP_PORT f = h.dport) &&
  (decide (d.get F.NET_RX_FLOW_SRCIP_VALUE f = 0) || decide (d.get F.NET_RX_FLOW_SRCIP_VALUE f = h.src))

/-- The class of a frame that the port accepts, by the first row of R213 that matches. -/
def Device.classify (d : Device) (h : RxHdr) : RxClass :=
  if !d.accepts h || decide (h.etype = 0x8808) then .ignored
  else if h.etype = 0x0806 then .arp
  else if h.etype = 0x86DD then .ipv6
  else if h.etype ≠ 0x0800 then .unmatched
  else if h.frag then .fragment
  else if !h.ipOk || !h.lenOk then .malformed
  else if h.proto = 2 then .igmp
  else if h.proto = 1 then .icmp
  else if h.proto ≠ 17 then .unmatched
  else if !h.sumOk then .malformed
  else if (h.dport = 319 ∨ h.dport = 320) ∧ (h.dst = d.unitAddr h.port ∨ isPtpGroup h.dst) then .ptp
  else if h.dport = 48920 ∧ h.dst = d.unitAddr h.port then .fuhel
  else match (List.range 512).find? (fun f => d.flowMatches f h) with
    | some f => .flow f
    | none => if h.dst ∈ d.witGroups h.port then .witness else .unmatched

/-- A frame that nothing takes is dropped, and counted as R209 and R213 say. -/
def Device.dropFrame (d : Device) (c : RxClass) : Device :=
  match c with
  | .ipv6 => d.bump F.NET_DROP_IPV6_COUNT 0 1
  | .malformed => d.bump F.NET_DROP_MALFORMED_COUNT 0 1
  | .fragment => d.bump F.NET_DROP_FRAGMENT_COUNT 0 1
  | .unmatched => d.bump F.NET_DROP_UNMATCHED_COUNT 0 1
  | _ => d

/-- Count a frame received on a media port (R416, R419). -/
def Device.countRx (d : Device) (h : RxHdr) : Device :=
  if d.portUp h.port then
    let d := d.count 0x12 h.port 1
    { d with perf := { d.perf with rxBytes := Tab.upd d.perf.rxBytes 0 h.port (fun c => c + h.len) } }
  else d

/-- Receive a frame: the handler is asked with its class, and a frame that it leaves is dropped. -/
def Device.receive (d : Device) (h : RxHdr) (k : RxClass → Option (Device → Device)) : Device :=
  let d := d.countRx h
  let c := d.classify h
  match k c with
  | some f => f d
  | none => d.dropFrame c

/-- The receive timestamp of a frame (R221). -/
def Device.rxTime (d : Device) (h : RxHdr) : Nat :=
  let corr : Int := match d.get F.NET_PORT_CFG_MODE h.port with
    | 0 => 49
    | 1 => if d.on F.NET_PORT_CFG_FEC h.port then 262 else 27
    | _ => 189
  let skew : Int := if d.get F.NET_PORT_CFG_MODE h.port = 2 then h.skewNs else 0
  ((h.macNs : Int) - corr - signedOf 16 (d.get F.NET_PORT_DELAY_RX h.port) + skew).toNat

/-! ## ARP, ICMP (R209, R211, R372) -/

/-- A claim of a unit address by another MAC address (R211). -/
def Device.arpClaim (d : Device) (p mac ip : Nat) : Device :=
  if p < 28 ∧ ip = d.unitAddr p ∧ ip ≠ 0 ∧ mac ≠ d.portMac p then
    (d.put F.NET_PORT_STATUS_ADDR_CONFLICT p 1).raise F.NET_EVENTS_ADDR_CONFLICT p
  else d

/-- The device answers an ARP request for an address on a port (R211, R372). -/
def Device.arpAnswers (d : Device) (p ip : Nat) : Bool :=
  decide (ip ≠ 0) && (decide (ip = d.unitAddr p) ||
  (d.sends && (List.range 64).any (fun e => decide (d.get F.NET_TX_SRCIP_VALUE e = ip) &&
    (d.paths e).any (fun k => decide (d.pathPort e k = p)))))

/-- ARP_REQUEST_RECEIVE. -/
def Device.arpRequestIn (d : Device) (h : RxHdr) (mac sip tip : Nat) : Device :=
  d.receive h (fun c => match c with
    | .arp => some (fun d =>
        let d := d.arpClaim h.port mac sip
        if d.arpAnswers h.port tip then d.emit (.arp h.port (d.txTag h.port) 2 (d.portMac h.port) tip mac sip) else d)
    | _ => none)

/-- ARP_REPLY_RECEIVE. -/
def Device.arpReplyIn (d : Device) (h : RxHdr) (mac sip tip : Nat) : Device :=
  d.receive h (fun c => match c with
    | .arp => some (fun d =>
        let d := d.arpClaim h.port mac sip
        if tip = d.unitAddr h.port ∧ sip ≠ d.unitAddr h.port then d.arpLearn h.port sip mac else d)
    | _ => none)

/-- ARP_RETRY_TIMER: an unanswered request is repeated one second after it, and the third one left unanswered
raises NET_ARP_UNRESOLVED (R211). On a port that is not UP nothing is sent or counted. -/
def Device.arpRetry (d : Device) (p ip : Nat) : Device :=
  match d.net.arpWait.find? (fun w => decide (w.port = p) && decide (w.ip = ip)) with
  | some w =>
    let d := d.elapse (w.lastNs + 1000000000 - d.now)
    let up := d.portUp p || decide (p = 32)
    let upd (v : ArpWait) : ArpWait := if v.port = p ∧ v.ip = ip then { v with tries := if up then v.tries + 1 else v.tries, lastNs := d.now } else v
    let d : Device := { d with net := { d.net with arpWait := d.net.arpWait.map upd } }
    if !up then d
    else
      let d := if w.tries = 3 then d.raise F.NET_EVENTS_ARP_UNRESOLVED p else d
      d.arpRequest p ip
  | none => d

/-- ARP_REFRESH_TIMER: an entry is refreshed by a request 60 s after it was learned (R211). -/
def Device.arpRefresh (d : Device) (p ip : Nat) : Device :=
  match d.net.arp.find? (fun e => decide (e.port = p) && decide (e.ip = ip)) with
  | some e =>
    let d := d.elapse (e.learned + 60000000000 - d.now)
    if d.portUp p || decide (p = 32) then d.arpRequest p ip else d
  | none => d

/-- ICMP_ECHO_REQUEST to a unit address (R209, R372). -/
def Device.icmpEcho (d : Device) (h : RxHdr) (payload : List Byte) : Device :=
  d.receive h (fun c => match c with
    | .icmp => some (fun d => if h.dst = d.unitAddr h.port then d.emit (.icmpReply h.port (d.txTag h.port) h.src h.dst payload) else d)
    | _ => none)

/-! ## IGMP (R212) -/

/-- The current-state records that answer a query for a group, or for every group. PRESUMED: record types of
RFC 3376 (log entry 41). -/
def Device.igmpAnswer (d : Device) (p group : Nat) : List (Nat × Nat × List Nat) :=
  ((d.joined p).filter (fun q => decide (group = 0) || decide (q.1 = group))).map (fun q =>
    (if q.2.isEmpty then 2 else 1, q.1, q.2))

/-- IGMP_QUERY_RECEIVE: an IGMPv1 query is ignored, an IGMPv2 query enters compatibility for the Older Version
Querier Present Timeout, 260 s with the default values of RFC 3376 (PRESUMED, log entry 41). -/
def Device.igmpQuery (d : Device) (h : RxHdr) (version group : Nat) : Device :=
  d.receive h (fun c => match c with
    | .igmp => some (fun d =>
        if version = 2 ∨ version = 3 then
          let p := h.port
          let w := d.get F.NET_IGMP_STATUS_V2_COMPAT
          let d := if version = 2 ∧ p < 28 then
              let d : Device := { d with net := { d.net with igmpV2 := Tab.set d.net.igmpV2 p (d.now + 260000000000) } }
              if w.testBit p then d else (d.put F.NET_IGMP_STATUS_V2_COMPAT 0 (setBit w p true)).raise F.NET_EVENTS_IGMP_V2 p
            else d
          let r := d.igmpAnswer p group
          if r.isEmpty then d else d.igmpSend p r
        else d)
    | _ => none)

/-- IGMP_REPORT_REPEAT: the oldest report of a port is sent a second time, one second after the first. -/
def Device.igmpRepeat (d : Device) (p : Nat) : Device :=
  match d.net.igmpRepeat.find? (fun r => decide (r.port = p)) with
  | some r =>
    let d := d.elapse (r.due - d.now)
    let d : Device := { d with net := { d.net with igmpRepeat := d.net.igmpRepeat.erase r } }
    d.igmpSend p r.records
  | none => d

/-- IGMP_V2_TIMEOUT: compatibility ends. -/
def Device.igmpV2End (d : Device) (p : Nat) : Device :=
  match Tab.find d.net.igmpV2 p with
  | some t =>
    let d := d.elapse (t - d.now)
    let d : Device := { d with net := { d.net with igmpV2 := Tab.del d.net.igmpV2 p } }
    d.put F.NET_IGMP_STATUS_V2_COMPAT 0 (setBit (d.get F.NET_IGMP_STATUS_V2_COMPAT) p false)
  | none => d

/-! ## The receive flow table (R214, R215) -/

/-- Two source filters overlap (R215). -/
def filtersOverlap (a b : Nat) : Bool := decide (a = 0) || decide (b = 0) || decide (a = b)

/-- Enabling flow `f` with these fields is refused by R215. -/
def Device.flowConflict (d : Device) (f port leg form src : Nat) : Bool :=
  let kind := d.get F.NET_SRC_CFG_KIND src
  (List.range 512).any (fun g => decide (g ≠ f) && d.on F.NET_RX_FLOW_CFG_EN g &&
    ((decide (d.get F.NET_RX_FLOW_CFG_PORT g = port) && decide (d.get F.NET_RX_FLOW_DST_VALUE g = d.get F.NET_RX_FLOW_DST_VALUE f) &&
      decide (d.get F.NET_RX_FLOW_UDP_PORT g = d.get F.NET_RX_FLOW_UDP_PORT f) &&
      filtersOverlap (d.get F.NET_RX_FLOW_SRCIP_VALUE g) (d.get F.NET_RX_FLOW_SRCIP_VALUE f)) ||
     (decide (d.get F.NET_RX_FLOW_CFG_SOURCE g = src) &&
      (decide (d.get F.NET_RX_FLOW_CFG_LEG g = leg) || decide (d.get F.NET_RX_FLOW_CFG_FORM g ≠ form))))) ||
  !(if form = 0 then decide (kind = 1) else decide (kind = 2)) ||
  (decide (kind = 1) && decide (d.get F.NET_SRC_SIZE_WIDTH src % fmtG (d.get F.NET_SRC_CFG_FORMAT src) ≠ 0))

/-! ## Region signatures (R59) -/

/-- The samples of one pixel in the component order of the berth, as codes. DEDUCED: in a subsampled format a
chroma sample goes with the pixel that the order of the pixel group puts beside it, and for 4:2:0 with the even
pixel of the even line (log entry 43). -/
def pixelSamples (rd : ByteAt) (p : Pic) (x y : Nat) : List Nat :=
  let line := p.addr + p.stride * y
  if p.fmt ≤ 2 then
    let (_, b, n, _) := fmtGroup p.fmt
    let a := line + x / 2 * b
    if x % 2 = 0 then [groupSample rd a b n 0, groupSample rd a b n 1] else [groupSample rd a b n 2, groupSample rd a b n 3]
  else if p.fmt ≤ 7 then
    let (g, b, n, _) := fmtGroup p.fmt
    (List.range 3).map (fun k => groupSample rd (line + x / g * b) b n (x % g * 3 + k))
  else
    let w (a : Nat) := rd a + 256 * rd (a + 1)
    let plane := p.addr + p.stride * p.h + p.stride * (y / 2)
    if p.fmt = 8 then rd (line + x) :: (if x % 2 = 0 ∧ y % 2 = 0 then [rd (plane + x), rd (plane + x + 1)] else [])
    else w (line + 2 * x) :: (if x % 2 = 0 ∧ y % 2 = 0 then [w (plane + 2 * x), w (plane + 2 * x + 2)] else [])

/-- The 64 region signatures of a picture (R59). -/
def picSigs (rd : ByteAt) (p : Pic) : List (BitVec 16) :=
  (List.range 64).map (fun j =>
    let r := j / 8
    let c := j % 8
    let ys := (List.range ((r + 1) * p.h / 8 - r * p.h / 8)).map (fun k => r * p.h / 8 + k)
    let xs := (List.range ((c + 1) * p.w / 8 - c * p.w / 8)).map (fun k => c * p.w / 8 + k)
    crc16Words (ys.flatMap (fun y => xs.flatMap (fun x => pixelSamples rd p x y))))

/-! ## Ingest (R217 to R220) -/

def Device.ing (d : Device) (s : Nat) : Ingest := Tab.get d.net.ingest Ingest.empty s
def Device.setIng (d : Device) (s : Nat) (v : Ingest) : Device := { d with net := { d.net with ingest := Tab.set d.net.ingest s v } }

/-- R217 for one segment of a source: format `f`, width and height. -/
def segOk (f w h : Nat) (s : Segment) : Bool :=
  let (g, b, _, _) := fmtGroup f
  !s.field && decide (s.line < h) && decide (s.data.length % b = 0) && decide (s.offset + s.data.length / b * g ≤ w)

/-- The header checks of FORM 0 (R217, R468). -/
def Device.videoOk (d : Device) (s : Nat) (p : VideoPkt) : Bool :=
  decide (p.version = 2) && decide (p.segs.length ≤ 3) &&
  p.segs.all (segOk (d.get F.NET_SRC_CFG_FORMAT s) (d.get F.NET_SRC_SIZE_WIDTH s) (d.get F.NET_SRC_SIZE_HEIGHT s))

/-- A frame that ends incomplete or out of order leaves ingest (R43, R218); a packet of it that still comes changes
nothing. -/
def Device.dropFilling (d : Device) (s : Nat) (f : Filling) (incomplete : Bool) : Device :=
  let i := d.ing s
  let d := d.setIng s { i with filling := i.filling.erase f, dropped := some f.ts }
  match f.berth with
  | some n =>
    let d := (d.discard n).bump F.NET_SRC_CNT_DISCARD_COUNT s 1
    if incomplete then d.setSrc s { d.src s with lastIncomplete := true } else d
  | none => d

/-- The groups of a line that a segment covers, as a mask. -/
def segMask (f : Nat) (s : Segment) : Nat :=
  let (g, b, _, _) := fmtGroup f
  (2 ^ (s.data.length / b) - 1) * 2 ^ (s.offset / g)

/-- Every pixel group of every line has been written. -/
def rowsDone (f w h : Nat) (rows : Tab Nat Nat) : Bool :=
  (List.range h).all (fun y => decide (Tab.get rows 0 y = 2 ^ (w / fmtG f) - 1))

/-- Open a frame for a new RTP timestamp: the third frame of a source ends the older of the two that are filling,
and the new one takes a berth (R114, R118, R218). -/
def Device.openFrame (d : Device) (s ts capture : Nat) : Device :=
  let held := (d.ing s).filling.filter (fun f => f.berth.isSome)
  let d := match held with
    | a :: b :: _ => d.dropFilling s (if serialLater b.ts a.ts then a else b) true
    | _ => d
  let r := d.allocFor (d.srcBytes s) 1 s
  let i := r.1.ing s
  r.1.setIng s { i with filling := (i.filling.filter (fun f => f.berth.isSome)) ++ [⟨ts, r.2, capture, [], d.now, d.tick.scale⟩] }

/-- Store the segments of a packet into the berth of its frame. -/
def storeSegs (dram : Dram) (base f w : Nat) : List Segment → Dram
  | [] => dram
  | s :: r =>
    let (g, b, _, _) := fmtGroup f
    storeSegs (dram.writeList (base + fmtStride f w * s.line + s.offset / g * b) s.data) base f w r

/-- A complete frame: its record is fixed, and it is sealed once its writes are acknowledged, unless its timestamp is not
later than that of the last frame sealed (R43, R59, R218, R325). -/
def Chip.closeFrame (c : Chip) (s : Nat) (f : Filling) (n : Nat) : Chip :=
  let d := c.dev
  let fm := d.get F.NET_SRC_CFG_FORMAT s
  let w := d.get F.NET_SRC_SIZE_WIDTH s
  let h := d.get F.NET_SRC_SIZE_HEIGHT s
  let p : Pic := ⟨d.berthAddr n, fm, w, h, fmtStride fm w⟩
  let d := d.setBerth n { d.berth n with width := w, height := h, stride := fmtStride fm w, format := fm, capture := f.capture, scale := f.scale,
                                         rtpTs := f.ts, sigs := picSigs c.mem.rd p }
  let i := d.ing s
  { c with dev := (d.setIng s { i with filling := i.filling.erase f }).finishSource n s }

/-- Ingest has the frame of a timestamp whole and waits for its acknowledgements (R325). -/
def Device.frameWhole (d : Device) (s ts : Nat) : Bool :=
  d.berths.any (fun p => decide (p.2.kind = 1) && decide (p.2.prod = s) && decide (p.2.st = .filling) && p.2.done && decide (p.2.rtpTs = ts))

/-- A packet that ingest takes: stored into its frame, which is sealed when it is complete. -/
def Chip.storePacket (c : Chip) (s : Nat) (p : VideoPkt) : Chip :=
  let d := c.dev
  match (d.ing s).filling.find? (fun f => decide (f.ts = p.ts)) with
  | none => c
  | some f =>
    let fm := d.get F.NET_SRC_CFG_FORMAT s
    let w := d.get F.NET_SRC_SIZE_WIDTH s
    let rows := p.segs.foldl (fun (t : Tab Nat Nat) g => Tab.upd t 0 g.line (fun v => v ||| segMask fm g)) f.rows
    let f' := { f with rows := rows, lastNs := d.now }
    let i := d.ing s
    let d := d.setIng s { i with filling := i.filling.map (fun x => if x = f then f' else x) }
    match f.berth with
    | none => { c with dev := d }
    | some n =>
      let c : Chip := { c with mem := { c.mem with dram := storeSegs c.mem.dram (d.berthAddr n) fm w p.segs }, dev := d }
      if rowsDone fm w (d.get F.NET_SRC_SIZE_HEIGHT s) rows then c.closeFrame s f' n else c

/-- The merged stream of a source sees a sequence number (R58, R220): what is kept of it, and whether it is the
first copy. -/
def Device.mergeSeq (d : Device) (s : Nat) (ts seq : Nat) : Device × Bool :=
  let i := d.ing s
  if i.seen.any (fun q => decide (seq ∈ q.2)) then (d.setSrc s { d.src s with pktSeen := true }, false)
  else
    let seen := match i.seen.find? (fun q => decide (q.1 = ts)) with
      | some q => i.seen.map (fun r => if r = q then (ts, q.2 ++ [seq]) else r)
      | none => (i.seen ++ [(ts, [seq])]).drop (i.seen.length - 3)
    let adv := match i.maxSeq with
      | some m => serialLater seq m
      | none => true
    let x := d.src s
    let d := d.setIng s { i with seen := seen, maxSeq := if adv then some seq else i.maxSeq }
    (d.setSrc s { x with pktSeen := true, advSeen := x.advSeen || adv }, true)

/-- A packet of a frame came again, on another leg: SKEW_MS counts from it (R218). -/
def Device.frameSeen (d : Device) (s ts : Nat) : Device :=
  let i := d.ing s
  d.setIng s { i with filling := i.filling.map (fun x => if x.ts = ts then { x with lastNs := d.now } else x) }

/-- A flow matched in this tick (NET_RX_FLOW_CFG.SEEN). -/
def Device.flowSeen (d : Device) (f : Nat) : Device :=
  if f ∈ d.net.flowsNow then d else { d with net := { d.net with flowsNow := d.net.flowsNow ++ [f] } }

/-- The bytes that ingest has still to write of the sources whose flows come in on a port. -/
def Device.ingestPending (d : Device) (port : Nat) : Nat :=
  let src (s : Nat) : Bool := (List.range 512).any (fun f =>
    d.on F.NET_RX_FLOW_CFG_EN f && decide (d.get F.NET_RX_FLOW_CFG_PORT f = port) && decide (d.get F.NET_RX_FLOW_CFG_SOURCE f = s))
  let mine (r : MemReq) : Bool := r.write && decide (r.by_ = .ingest) && (match r.use with
    | .berth n => decide ((d.berth n).kind = 1) && src (d.berth n).prod
    | _ => false)
  32 * (d.chans.map (fun p => ((p.2.queue ++ p.2.waiting).filter mine).length)).sum

/-- Ingest takes no further packet of a port: 2 ms of writes are pending (R335). -/
def Device.ingestFull (d : Device) (port : Nat) : Bool := decide (250000 * d.portGbps port < d.ingestPending port)

/-- INGEST_PACKET_RECEIVE on a flow of FORM 0 (R217 to R220). -/
def Chip.ingest (c : Chip) (h : RxHdr) (f : Nat) (p : VideoPkt) : Chip :=
  let d := c.dev.flowSeen f
  let s := d.get F.NET_RX_FLOW_CFG_SOURCE f
  if !d.videoOk s p then { c with dev := d.bump F.NET_DROP_MALFORMED_COUNT 0 1 }
  else
    let q := d.mergeSeq s p.ts p.seq
    let d := q.1
    if !q.2 then { c with dev := d.frameSeen s p.ts }
    else
      let known := (d.ing s).filling.any (fun x => decide (x.ts = p.ts))
      let late := match (d.src s).lastTs with
        | some t => !serialLater p.ts t
        | none => false
      let i := d.ing s
      if !known && (decide (i.dropped = some p.ts) || d.frameWhole s p.ts) then { c with dev := d }
      else if !known && late then
        { c with dev := (d.setIng s { i with dropped := some p.ts }).bump F.NET_SRC_CNT_DISCARD_COUNT s 1 }
      else
        let d := if known then d else d.openFrame s p.ts (d.tickOf (d.rxTime h))
        if d.ingestFull h.port then { c with dev := d } else ({ c with dev := d }).storePacket s p

/-- INGEST_SKEW_TIMEOUT: no packet of a frame for SKEW_MS (R218). -/
def Device.skewTimeout (d : Device) (s ts : Nat) : Device :=
  match (d.ing s).filling.find? (fun f => decide (f.ts = ts)) with
  | some f => (d.elapse (f.lastNs + d.get F.NET_SRC_CFG_SKEW_MS s * 1000000 - d.now)).dropFilling s f true
  | none => d

/-! ## The witness (R231 to R233) -/

def Device.wit (d : Device) (o : Nat) : WitOut := Tab.get d.net.wit WitOut.empty o
def Device.setWit (d : Device) (o : Nat) (v : WitOut) : Device := { d with net := { d.net with wit := Tab.set d.net.wit o v } }

/-- The number that the bytes from `a` on spell. -/
def beAt (l : List Byte) (a n : Nat) : Nat := beNat ((l.drop a).take n)

/-- A stamp payload is whole: MAGIC, VERSION and PAYLOAD_CHECK (R70, R231). -/
def stampIntact (l : List Byte) : Bool :=
  decide (l.length = 1344) && decide (beAt l 0 4 = 0x53544D50) && decide (beAt l 4 1 = 1) &&
  decide (beAt l 60 4 = crc32c (l.take 60 ++ l.drop 64))

/-- The outputs whose stamp group on a port a destination is, with the stamp port of that path. -/
def Device.witStampOuts (d : Device) (h : RxHdr) : List Nat :=
  (List.range 32).filter (fun o => d.witMask o && (d.paths o).any (fun k => decide (d.pathPort o k = h.port) && decide (d.pathStamp o k = h.dst) &&
    decide (d.pathStampPort o k = h.dport)))

/-- The outputs whose video group on a port a destination is. -/
def Device.witVideoOuts (d : Device) (h : RxHdr) : List Nat :=
  (List.range 32).filter (fun o => d.witMask o && d.witVideo o && d.pathEn o 0 && decide (d.pathPort o 0 = h.port) && decide (d.pathDst o 0 = h.dst))

/-- The witness takes a stamp of an output (R231, R232). -/
def Device.witStamp (d : Device) (o : Nat) (l : List Byte) : Device :=
  if stampIntact l && decide (beAt l 5 1 = o) && decide (beAt l 36 1 = 1) && decide (beAt l 37 1 = 1 - d.unitNo) then
    let x := d.wit o
    let t := beAt l 8 8
    let adv := match x.lastTick with
      | some u => decide (u < t)
      | none => true
    let seen := !d.witVideo o || decide (beAt l 56 4 ∈ x.video)
    let stamps := if x.stamps.any (fun q => decide (q.1 = t)) then x.stamps else (x.stamps ++ [(t, beAt l 6 1, seen, adv)]).drop (x.stamps.length - 7)
    let d := d.setWit o { x with stamps := stamps, lastTick := some t }
    { d with net := { d.net with witEpoch := some (max (d.net.witEpoch.getD 0) (beAt l 40 4)) } }
  else d

/-- The witness sees a video packet of a partner's output. -/
def Device.witVideoIn (d : Device) (o ts : Nat) : Device :=
  let x := d.wit o
  if ts ∈ x.video then d else d.setWit o { x with video := (x.video ++ [ts]).drop (x.video.length - 7) }

/-- The witness takes a packet of a group it has joined (R231). -/
def Device.witnessIn (d : Device) (h : RxHdr) (p : WitPkt) : Device :=
  match p with
  | .stamp l => forL (d.witStampOuts h) (fun (o : Nat) (d : Device) => d.witStamp o l) d
  | .video q => forL (d.witVideoOuts h) (fun (o : Nat) (d : Device) => d.witVideoIn o q.ts) d

/-- The payload of an RTP video packet behind its RTP header: the high half of the sequence number, the sample row data
headers and the bytes of the segments (R217, R468). -/
def videoPayload (p : VideoPkt) : List Byte :=
  let n := p.segs.length
  let head (k : Nat) (g : Segment) : List Byte :=
    beBytes 2 g.data.length ++ beBytes 2 ((if g.field then 32768 else 0) + g.line % 32768) ++
    beBytes 2 ((if k + 1 < n then 32768 else 0) + g.offset % 32768)
  beBytes 2 (p.seq / 65536) ++ (p.segs.zipIdx.flatMap (fun q => head q.2 q.1)) ++ p.segs.flatMap (fun g => g.data)

/-- A video packet as a compressed flow of FORM 1 reads it: its payload in place of NAL units, with no header of a picture
in it (R468). A transport stream it is not. -/
def videoAsStream (p : VideoPkt) (codec : Nat) : StreamPkt :=
  let b := (((videoPayload p).headD 0)).toNat
  ⟨p.version, p.seq % 65536, p.ts, p.marker, if codec = 0 then b / 2 % 64 else b % 32, false, false, false, videoPayload p, none, []⟩

/-- The verdict on tick `k` of a watched output (R232): 1 FRESH, 2 STALE, 3 ABSENT. -/
def WitOut.verdict (x : WitOut) (k : Nat) : Nat :=
  match x.stamps.find? (fun q => decide (q.1 = k)) with
  | none => 3
  | some (_, st, video, adv) =>
    if st = 2 ∨ st = 3 ∨ !adv then 2
    else if st = 0 ∨ st = 1 then (if video then 1 else 3)
    else 3

/-- A watched output of the witness: selected, with an enabled path (R231). -/
def Device.watchedOut (d : Device) (o : Nat) : Bool := d.witMask o && !(d.paths o).isEmpty

/-- WITNESS_VERDICT, at E(k + 2) + GRACE (R232). -/
def Device.witnessVerdict (d : Device) : Device :=
  if !d.inTick || !d.witOn || decide (d.tick.num < 2) then d
  else
    let d := d.waitPoint (d.get F.NET_WIT_CFG_GRACE)
    let k := d.tick.num - 2
    forN 32 (fun o d =>
      let x := d.wit o
      if !d.watchedOut o || x.verdicts.any (fun q => decide (q.1 = k)) then d
      else
        let v := x.verdict k
        let before := d.get F.NET_WIT_STATE_VERDICT o
        let d := d.setWit o { x with first := false, verdicts := (x.verdicts ++ [(k, v)]).drop (x.verdicts.length - 7) }
        let d := (d.put F.NET_WIT_STATE_VERDICT o v).put F.NET_WIT_STATE_TICK o (k % 2 ^ 24)
        let d := if v = 1 then d else d.bump F.NET_WIT_CNT_COUNT o 1
        if !x.first && decide (before ≠ v) then d.raise F.NET_EVENTS_WIT_CHANGE o else d) d

/-- A verdict given on a tick. -/
def Device.verdictOf (d : Device) (o k : Nat) : Option Nat :=
  ((d.wit o).verdicts.find? (fun q => decide (q.1 = k))).map Prod.snd

/-! ## Meanings -/

/-- TILE_BLEND_COMPLETE. -/
def execTileBlendComplete (output tile pipe : Nat) (s : State) : Host.Outcome State Fault Refusal :=
  onChip (fun c => c.tileBlend output tile pipe) s

/-- PAGER_FETCH_COMPLETE. -/
def execPagerFetchComplete (cache index : Nat) (s : State) : Host.Outcome State Fault Refusal :=
  onDevM (fun m d => d.pagerFetch m cache index) s

/-- SEAL_DEADLINE. -/
def execSealDeadline (s : State) : Host.Outcome State Fault Refusal := onChip Chip.sealDeadline s

/-- OUTPUT_FRAME_SEND_START. -/
def execOutputFrameSendStart (output : Nat) (s : State) : Host.Outcome State Fault Refusal :=
  onDev (fun d => d.sendStart output) s

/-- VIDEO_PACKET_SEND. -/
def execVideoPacketSend (entry lateNs : Nat) (s : State) : Host.Outcome State Fault Refusal :=
  onDevM (fun m d => d.videoSend m entry lateNs) s

/-- LOOPBACK_TILE_CHECK. -/
def execLoopbackTileCheck (output path tile : Nat) (bytes : List Byte) (s : State) : Host.Outcome State Fault Refusal :=
  onDev (fun d => d.loopbackCheck output path tile bytes) s

/-- INGEST_SKEW_TIMEOUT. -/
def execIngestSkewTimeout (source ts : Nat) (s : State) : Host.Outcome State Fault Refusal :=
  onDev (fun d => d.skewTimeout source ts) s

/-- MEDIA_FRAME_DROP: a frame that no flow, service or witness takes (R208, R209, R213). -/
def execMediaFrameDrop (hdr : RxHdr) (s : State) : Host.Outcome State Fault Refusal :=
  onDev (fun d => d.receive hdr (fun _ => none)) s

/-- ARP_REQUEST_RECEIVE. -/
def execArpRequestReceive (hdr : RxHdr) (senderMac senderIp targetIp : Nat) (s : State) : Host.Outcome State Fault Refusal :=
  onDev (fun d => d.arpRequestIn hdr senderMac senderIp targetIp) s

/-- ARP_REPLY_RECEIVE. -/
def execArpReplyReceive (hdr : RxHdr) (senderMac senderIp targetIp : Nat) (s : State) : Host.Outcome State Fault Refusal :=
  onDev (fun d => d.arpReplyIn hdr senderMac senderIp targetIp) s

/-- ARP_RETRY_TIMER. -/
def execArpRetryTimer (port ip : Nat) (s : State) : Host.Outcome State Fault Refusal := onDev (fun d => d.arpRetry port ip) s

/-- ARP_REFRESH_TIMER. -/
def execArpRefreshTimer (port ip : Nat) (s : State) : Host.Outcome State Fault Refusal := onDev (fun d => d.arpRefresh port ip) s

/-- ICMP_ECHO_REQUEST. -/
def execIcmpEchoRequest (hdr : RxHdr) (payload : List Byte) (s : State) : Host.Outcome State Fault Refusal :=
  onDev (fun d => d.icmpEcho hdr payload) s

/-- IGMP_QUERY_RECEIVE. -/
def execIgmpQueryReceive (hdr : RxHdr) (version group : Nat) (s : State) : Host.Outcome State Fault Refusal :=
  onDev (fun d => d.igmpQuery hdr version group) s

/-- IGMP_REPORT_REPEAT. -/
def execIgmpReportRepeat (port : Nat) (s : State) : Host.Outcome State Fault Refusal := onDev (fun d => d.igmpRepeat port) s

/-- IGMP_V2_TIMEOUT. -/
def execIgmpV2Timeout (port : Nat) (s : State) : Host.Outcome State Fault Refusal := onDev (fun d => d.igmpV2End port) s

end Sys2Proof.Machine
end

