-- ==== Sys2Proof/Machine/Dec.lean ====
section
/-!
DEFINITION. Decoding compressed sources (R153 to R175): packets into access units, access units into jobs, the
admission of jobs (R36), decoded pictures sealed or held, and the session commands.
-/

namespace Sys2Proof.Machine

/-- The state of a session (R162): 0 CLOSED, 1 SYNCING, 2 RUNNING, 3 RECOVERING. -/
def Device.decState (d : Device) (n : Nat) : Nat := d.get F.DEC_SESS_STATE_STATE n

/-- The source of a session. -/
def Device.decSource (d : Device) (n : Nat) : Nat := d.get F.DEC_SESS_CFG_SOURCE n

/-- The codec of a session: 0 HEVC, 1 H.264. -/
def Device.codec (d : Device) (n : Nat) : Nat := d.get F.DEC_SESS_CFG_CODEC n

/-! ## Faults (R171, R172) -/

/-- A session records a fault of a class (R171). -/
def Device.decErr (d : Device) (n cls : Nat) : Device :=
  let d := d.put F.DEC_SESS_STATE_LAST_ERR n cls
  let d := d.put F.DEC_SESS_ERR_SEEN_CLASSES n (d.get F.DEC_SESS_ERR_SEEN_CLASSES n ||| 2 ^ (cls - 1))
  if cls = 1 then d.bump F.DEC_SESS_CNT_LOSS_COUNT n 1 else d

/-- A picture is damaged, or an access unit never received, that a later picture may reference or not (R162). -/
def Device.decDamaged (d : Device) (n : Nat) (referable : Bool) : Device :=
  if d.decState n = 2 then
    let d := d.raise F.DEC_EVENTS_PICTURE_DAMAGED n
    if referable then d.put F.DEC_SESS_STATE_STATE n 3 else d
  else d

/-- The access unit numbered `k` has a fault of its own or is treated as never received (R173). -/
def DecSess.faulty (x : DecSess) (k : Nat) : DecSess := { x with faults := if k ∈ x.faults then x.faults else x.faults ++ [k] }

/-- The access unit numbered `k` is treated as never received (R171, R172). -/
def Device.decNever (d : Device) (n k : Nat) (referable : Bool) : Device :=
  let d := d.setDec n ((d.dec n).faulty k)
  (d.bump F.DEC_SESS_CNT_NEVER_COUNT n 1).decDamaged n referable

/-! ## The DPB -/

/-- The DPB lets go of a picture: a held one returns to FREE, one that is sealed or waits for its seal loses its reference
(R169). -/
def Device.dpbRelease (d : Device) (n : Nat) (p : DpbPic) : Device :=
  let b := d.berth p.berth
  if b.st = .filling ∧ !b.done then d.discard p.berth else d.release p.berth (.dec n p.index)

/-- Berths in the DPB. -/
def Device.dpbCount (d : Device) (n : Nat) : Device := d.put F.DEC_SESS_STATE_DPB_USED n (d.dec n).dpb.length

/-- The running jobs of a session stop and their pictures are discarded; DPB and ring are emptied (R165, R166,
R167). -/
def Device.decClear (d : Device) (n : Nat) : Device :=
  let x := d.dec n
  let d := forL x.running (fun (j : DecJob) (d : Device) => match j.berth with
    | some b => d.discard b
    | none => d) d
  let d := forL x.dpb (fun (p : DpbPic) (d : Device) => d.dpbRelease n p) d
  (d.setDec n { x with aus := [], jobs := [], running := [], dpb := [], refresh := [], faults := [], lastEnd := none, skipRasl := false,
                       ringPos := 0 }).dpbCount n

/-- A session enters SYNCING with nothing in hand (R166, R167; for class UNSUPPORTED log entry 131). -/
def Device.decSync (d : Device) (n : Nat) : Device := (d.decClear n).put F.DEC_SESS_STATE_STATE n 1

/-- CLOSE takes effect (R165): what the session has not sealed is discarded, and its berths lose their roles. -/
def Device.decCloseNow (d : Device) (n : Nat) : Device :=
  let s := d.decSource n
  let d := d.decClear n
  let mine (b : Nat) : Bool := decide ((d.berth b).kind = 2) && decide ((d.berth b).prod = n)
  let drop (o : Option Nat) : Option Nat := o.filter (fun b => !mine b)
  let own := (d.berths.map Prod.fst).filter mine
  let x := d.src s
  let d := d.setSrc s { x with newest := drop x.newest, fallback := drop x.fallback }
  let d := forL own (fun (b : Nat) (d : Device) => if (d.berth b).st = .filling then d.discard b else d.settle b) d
  let d := ((d.put F.DEC_SESS_STATE_STATE n 0).put F.DEC_SESS_RES_BERTHS n 0).put F.DEC_SESS_RES_RESERVED_WU n 0
  d.setDec n DecSess.empty

/-! ## Commands (R163, R164) -/

/-- The DEC work units that sessions reserve on a core. -/
def Device.decCoreUse (d : Device) (core : Nat) : Nat :=
  forN 256 (fun n t => if d.get F.DEC_SESS_STATE_CORE n = core then t + d.get F.DEC_SESS_RES_RESERVED_WU n else t) 0

/-- The work units that a session would reserve (R35, R164). -/
def Device.decNeed (d : Device) (n : Nat) : Nat :=
  let r := rateND (d.get F.DEC_SESS_CFG_RATE n)
  let t := d.nd
  ceilDiv (d.get F.DEC_SESS_SIZE_MAX_WIDTH n * d.get F.DEC_SESS_SIZE_MAX_HEIGHT n) 65536 * ceilDiv (r.1 * t.2) (r.2 * t.1)

/-- The lowest-numbered core that holds a reservation (R35). -/
def Device.decPlace (d : Device) (wu : Nat) : Option Nat :=
  if d.classCap 0 < (List.range 8).foldl (fun t c => t + d.decCoreUse c) 0 + wu then none
  else (List.range 8).find? (fun c => decide (d.decCoreUse c + wu ≤ d.coreCap 0))

/-- The bytes of a coded picture in format 8 or 9 (R170). -/
def codedBytes (fmt w h : Nat) : Nat := fmtStride fmt w * (h + (h + 1) / 2)

/-- Step 3 of R163. -/
def Device.decFormatOk (d : Device) (n : Nat) : Bool :=
  let w := d.get F.DEC_SESS_SIZE_MAX_WIDTH n
  let h := d.get F.DEC_SESS_SIZE_MAX_HEIGHT n
  let r := rateND (d.get F.DEC_SESS_CFG_RATE n)
  let pid := d.get F.DEC_SESS_TS_PID n
  decide (d.get F.DEC_SESS_CFG_RATE n ≤ 12) && decide (1 ≤ d.get F.DEC_SESS_CFG_DPB_MAX n) && decide (d.get F.DEC_SESS_CFG_DPB_MAX n ≤ 16) &&
  decide (d.get F.DEC_SESS_CFG_TRANSPORT n < 3) && decide (d.get F.DEC_SESS_CFG_CODEC n < 2) && decide (16 ≤ pid) &&
  decide (w * h * r.1 ≤ (if d.get F.DEC_SESS_CFG_CODEC n = 0 then 534773760 else 251658240) * r.2)

/-- Step 4 of R163. -/
def Device.decSourceOk (d : Device) (n : Nat) : Bool :=
  let s := d.decSource n
  decide (d.get F.NET_SRC_CFG_KIND s = 2) &&
  (List.range 512).any (fun f => d.on F.NET_RX_FLOW_CFG_EN f && decide (d.get F.NET_RX_FLOW_CFG_SOURCE f = s) &&
    decide (d.get F.NET_RX_FLOW_CFG_FORM f = d.get F.DEC_SESS_CFG_TRANSPORT n + 1)) &&
  !((List.range 256).any (fun k => decide (k ≠ n) && decide (d.decState k ≠ 0) && decide (d.decSource k = s)))

/-- An OPEN takes effect: the session enters SYNCING (R162, R163). -/
def Device.decOpenNow (d : Device) (n : Nat) : Device :=
  let d := (d.setDec n DecSess.empty).put F.DEC_SESS_STATE_STATE n 1
  (d.put F.DEC_SESS_STATE_ENGINE n (n % 8)).raise F.DEC_EVENTS_OPEN_DONE n

/-- A decode command takes effect. -/
def Device.decEffect (d : Device) (c : SessCmd) : Device :=
  match c.op with
  | 1 => d.decOpenNow c.sess
  | 2 => d.decCloseNow c.sess
  | _ => d.decSync c.sess

/-- The command that waits takes effect at the edge (R163). -/
def Device.decEdgeCmd (d : Device) : Device :=
  match d.decCmd with
  | some c => ({ d with decCmd := none }.put F.DEC_CMD_STATUS_PENDING 0 0).decEffect c
  | none => d

/-- The reservations that an OPEN makes: core and work units, class and berths; or the failing result. -/
def Device.decReserve (d : Device) (n : Nat) : Except Nat (Nat × Nat × Nat × Nat) :=
  let wu := d.decNeed n
  let need := d.get F.DEC_SESS_CFG_DPB_MAX n + 3
  match d.decPlace wu with
  | none => .error 6
  | some core =>
    match d.classFor (codedBytes 9 (d.get F.DEC_SESS_SIZE_MAX_WIDTH n) (d.get F.DEC_SESS_SIZE_MAX_HEIGHT n)) with
    | none => .error 7
    | some c => if d.reservedOf c + need ≤ d.availOf c then .ok (core, wu, c, need) else .error 7

/-- The result of the checks of R163: 0 when every check passes. -/
def Device.decCheck (d : Device) (op n : Nat) : Nat :=
  if d.decCmd.isSome then 2
  else if (op = 1 ∧ d.decState n ≠ 0) ∨ (op ≠ 1 ∧ d.decState n = 0) then 3
  else if op ≠ 1 then 0
  else if !d.decFormatOk n then 4
  else if !d.decSourceOk n then 5
  else match d.decReserve n with
    | .error r => r
    | .ok _ => 0

/-- A write to DEC_CMD with an operation (R163). DESIGN CHOICE: the reservation of an OPEN that waits for its edge holds from
the end of its checks (log entry 132). -/
def Device.decCommand (d : Device) (slot op n : Nat) : Device :=
  let r := d.decCheck op n
  let d := (((d.put F.DEC_CMD_STATUS_REQ_SLOT 0 slot).put F.DEC_CMD_STATUS_OP 0 op).put F.DEC_CMD_STATUS_SESSION 0 n).put
    F.DEC_CMD_STATUS_RESULT 0 (if r = 0 then 1 else r)
  if r ≠ 0 then d.raise F.DEC_EVENTS_CMD_REFUSED n
  else
    let d := if op = 1 then match d.decReserve n with
        | .ok (core, wu, c, k) => (((d.put F.DEC_SESS_STATE_CORE n core).put F.DEC_SESS_RES_RESERVED_WU n wu).put F.DEC_SESS_RES_CLASS n c).put
            F.DEC_SESS_RES_BERTHS n k
        | .error _ => d
      else d
    if d.pwr = .run then { d with decCmd := some ⟨op, n, slot⟩ }.put F.DEC_CMD_STATUS_PENDING 0 1
    else d.decEffect ⟨op, n, slot⟩

/-! ## Packets into access units (R157 to R161) -/

/-- The ring of a session (R161): base address and bytes. -/
def Device.ringBase (d : Device) (n : Nat) : Nat :=
  d.addr40 F.DEC_BS_BASE_LO_ADDR_LO F.DEC_BS_BASE_HI_ADDR_HI + n * (d.get F.DEC_BS_CFG_RING_MIB * 1048576)

def Device.ringSize (d : Device) : Nat := d.get F.DEC_BS_CFG_RING_MIB * 1048576

/-- The bytes that a session's ring holds. -/
def DecSess.ringUsed (x : DecSess) : Nat :=
  x.aus.foldl (fun t a => if a.overflow then t else t + a.size) 0 + (x.jobs ++ x.running).foldl (fun t j => t + j.size) 0

/-- Store bytes into a ring from a position on, wrapping at its end. -/
def ringWrite (dram : Dram) (base size : Nat) : Nat → List Byte → Dram
  | _, [] => dram
  | p, b :: r => ringWrite (dram.write (base + p % size) b) base size (p + 1) r

/-- The 16-bit sequence number extended by counting wraps (R220). -/
def extendSeq (m : Option Nat) (seq : Nat) : Nat :=
  match m with
  | none => 65536 + seq
  | some m =>
    let k := (seq + 65536 - m % 65536) % 65536
    if k < 32768 then m + k else m + k - 65536

/-- The access units with every open one ended in the tick edge interval `e`. -/
def endOpen (e : Nat) (l : List AccessUnit) : List AccessUnit :=
  l.map (fun a => if a.ended.isNone then { a with ended := some e } else a)

/-- Bytes would overflow an access unit: it would exceed half its ring, or finds too little free space (R161). -/
def Device.auFull (d : Device) (x : DecSess) (a : AccessUnit) (n : Nat) : Bool :=
  decide (d.ringSize < 2 * (a.size + n)) || decide (d.ringSize < x.ringUsed + n)

/-- Bytes and a header of a packet join the access unit that `sel` names, with the error classes found and the sequence
number. An access unit that overflows is discarded whole, with class OVERFLOW (R161, R171). DESIGN CHOICE: bytes lie in the
ring in the order of their arrival (log entry 133). -/
def Chip.auPut (c : Chip) (n : Nat) (sel : AccessUnit → Bool) (data : List Byte) (head : Option PicHead) (errs : List Nat)
    (seq : Option Nat) : Chip :=
  let d := c.dev
  let x := d.dec n
  match x.aus.find? sel with
  | none => c
  | some a =>
    let o := a.overflow || d.auFull x a data.length
    let a' := { a with size := if o then 0 else a.size + data.length, overflow := o, head := a.head <|> head, errs := a.errs ++ errs,
                       seqs := a.seqs ++ seq.toList }
    let y := { x with aus := x.aus.map (fun b => if sel b then a' else b), ringPos := if o then x.ringPos else x.ringPos + data.length }
    let d := d.setDec n y
    let d := if o && !a.overflow then d.decErr n 8 else d
    { c with mem := if o then c.mem else { c.mem with dram := ringWrite c.mem.dram (d.ringBase n) d.ringSize x.ringPos data }, dev := d }

/-- The state of a source's transport flags after a packet (R58). -/
def Device.streamSeen (d : Device) (s : Nat) (adv : Bool) : Device :=
  let x := d.src s
  d.setSrc s { x with pktSeen := true, advSeen := x.advSeen || adv }

/-- The payloads that TRANSPORT 0 accepts, by NAL unit type (R157; the numbers are those of RFC 6184 and RFC 7798, log
entry 134). -/
def rtpAccepts (codec : Nat) (p : StreamPkt) : Bool :=
  if codec = 0 then !p.donl && decide (p.nal ≤ 49)
  else decide (1 ≤ p.nal ∧ p.nal ≤ 24) || decide (p.nal = 28)

/-- An RTP packet of a session with TRANSPORT 0 (R157, R159). One of an unsupported type is discarded and counted as
loss; one that holds only redundant slices adds nothing (R155). -/
def Chip.rtpUnit (c : Chip) (n : Nat) (p : StreamPkt) (ext capture : Nat) : Chip :=
  let d := c.dev
  let x := d.dec n
  if (match x.lastEnd with | some e => decide (ext ≤ e.1) | none => false) then c
  else
    let take := rtpAccepts (d.get F.DEC_SESS_CFG_CODEC n) p
    let known := x.aus.any (fun a => decide (a.ts = p.ts))
    let aus := if known then x.aus
      else endOpen d.edges x.aus ++ [⟨p.ts, capture, d.tick.scale, [], 0, none, [], false, take && p.head.isSome, false, none⟩]
    let sel (a : AccessUnit) : Bool := decide (a.ts = p.ts)
    let use := take && !(p.redundant && decide (d.get F.DEC_SESS_CFG_CODEC n = 1))
    let c := ({ c with dev := d.setDec n { x with aus := aus } }).auPut n sel (if use then p.data else []) (if use then p.head else none)
      (if take && !p.truncated then [] else [1]) (some ext)
    c.mapDev (fun (d : Device) =>
      let y := d.dec n
      if p.marker then d.setDec n { y with aus := y.aus.map (fun a => if sel a then { a with marked := true, ended := a.ended <|> some d.edges } else a) }
      else d)

/-- The PID that a session takes (R158). -/
def Device.tsPid (d : Device) (n : Nat) : Option Nat :=
  let p := d.get F.DEC_SESS_TS_PID n
  if p ≠ 0x1FFF then some p else (d.dec n).esPid

/-- PAT and PMT tables (R158). A program that the PAT moves or drops takes its elementary stream with it. -/
def Device.tsPsi (d : Device) (n : Nat) (pid : Nat) (t : Psi) : Device :=
  let x := d.dec n
  match t with
  | .pat l =>
    let prog := d.get F.DEC_SESS_TS_PROGRAM n
    let pm := if prog = 0 then l.head? else l.find? (fun q => decide (q.1 = prog))
    if pid ≠ 0 ∨ pm = x.pmtPid then d else d.setDec n { x with pmtPid := pm, esPid := none }
  | .pmt prog l =>
    let want := if d.get F.DEC_SESS_CFG_CODEC n = 0 then 0x24 else 0x1B
    if x.pmtPid = some (prog, pid) then d.setDec n { x with esPid := (l.find? (fun q => decide (q.1 = want))).map Prod.snd } else d

/-- Two enabled flows feed a source (R220). -/
def Device.twoLegs (d : Device) (s : Nat) : Bool :=
  decide (1 < ((List.range 512).filter (fun f => d.on F.NET_RX_FLOW_CFG_EN f && decide (d.get F.NET_RX_FLOW_CFG_SOURCE f = s))).length)

/-- How a cell's continuity counter follows the one before it on its PID: how many steps on. A step of 0, and in a pair of
legs one of more than 8, is a copy of a cell that came (R220; DEDUCED, log entry 135). -/
def Device.ccStep (d : Device) (n : Nat) (t : TsCell) : Nat :=
  match Tab.find (d.dec n).cc t.pid with
  | some v => (t.cc + 16 - v % 16) % 16
  | none => 1

/-- A cell of the stream that came already. -/
def Device.ccCopy (d : Device) (n : Nat) (t : TsCell) : Bool :=
  let k := d.ccStep n t
  !t.data.isEmpty && (decide (k = 0) || (decide (8 < k) && d.twoLegs (d.decSource n)))

/-- One transport stream packet (R157 to R159, R171, R220). `gap` says that RTP packets before it were lost. A loss before
the start of an access unit damages the open one; where none is open, it damages the unit that starts. PRESUMED: the RTP_TS
of an access unit whose PES carries no PTS is 0 (log entry 136). -/
def Chip.tsCell (c : Chip) (n capture rtpTs : Nat) (gap : Bool) (t : TsCell) : Chip :=
  let d := match t.psi with
    | some p => c.dev.tsPsi n t.pid p
    | none => c.dev
  if d.tsPid n ≠ some t.pid ∨ d.ccCopy n t then { c with dev := d }
  else
    let lost := gap || (!t.data.isEmpty && decide (d.ccStep n t ≠ 1))
    let x := d.dec n
    let isOpen (a : AccessUnit) : Bool := a.ended.isNone
    let opened := x.aus.any isOpen
    let ts := if d.get F.DEC_SESS_CFG_TRANSPORT n = 2 then rtpTs else t.pts.getD 0
    let fresh := t.auStart || (!opened && !t.data.isEmpty)
    let hurt (a : AccessUnit) : AccessUnit := if isOpen a && lost then { a with errs := a.errs ++ [1] } else a
    let aus := if fresh then endOpen d.edges (x.aus.map hurt) ++ [⟨ts, capture, d.tick.scale, [], 0, none, [], false, false, false, none⟩] else x.aus
    let errs := (if t.tei then [1] else []) ++ (if lost && !(fresh && opened) then [1] else [])
    let d := d.setDec n { x with aus := aus, cc := if t.data.isEmpty then x.cc else Tab.set x.cc t.pid (t.cc % 16) }
    let c := ({ c with dev := d }).auPut n isOpen t.data t.head errs none
    c.mapDev (fun (d : Device) => if t.pesEnd then d.setDec n { d.dec n with aus := endOpen d.edges (d.dec n).aus } else d)

/-- The transport stream check of R468. -/
def cellsOk (l : List TsCell) : Bool := decide (1 ≤ l.length) && decide (l.length ≤ 7) && l.all (fun t => decide (t.sync = 0x47))

/-- The header checks of a compressed flow by its FORM (R468). -/
def streamOk (p : StreamPkt) (form : Nat) : Bool :=
  match form with
  | 1 => decide (p.version = 2)
  | 2 => cellsOk p.cells
  | 3 => decide (p.version = 2) && cellsOk p.cells
  | _ => false

/-- The cells of a datagram, in order. -/
def Chip.tsCells (c : Chip) (n cap ts : Nat) : Bool → List TsCell → Chip
  | _, [] => c
  | gap, t :: r => (c.tsCell n cap ts gap t).tsCells n cap ts (gap && decide (c.dev.tsPid n ≠ some t.pid)) r

/-- A packet of a compressed flow for source `s` (R220, R468). -/
def Chip.stream (c : Chip) (h : RxHdr) (f : Nat) (p : StreamPkt) : Chip :=
  let d := c.dev.flowSeen f
  let s := d.get F.NET_RX_FLOW_CFG_SOURCE f
  let form := d.get F.NET_RX_FLOW_CFG_FORM f
  if !streamOk p form then { c with dev := d.bump F.NET_DROP_MALFORMED_COUNT 0 1 }
  else
    let cap := d.tickOf (d.rxTime h)
    match d.sessionOf s with
    | none => { c with dev := d.streamSeen s true }
    | some n =>
      let x := d.dec n
      let ext := extendSeq x.maxSeq p.seq
      if form ≠ 2 ∧ ext ∈ x.seen then { c with dev := (d.setDec n { x with quiet := false, idle := false }).streamSeen s false }
      else
        let adv := match x.maxSeq with
          | some m => decide (m < ext) || decide (form = 2)
          | none => true
        let gap := match x.maxSeq with
          | some m => decide (form = 3) && decide (m + 1 < ext)
          | none => false
        let x := { x with seen := if form = 2 then [] else (x.seen ++ [ext]).drop (x.seen.length - 1023),
                          maxSeq := if form = 2 then none else if adv then some ext else x.maxSeq, quiet := false, idle := false }
        let d := (d.setDec n x).streamSeen s adv
        if d.stopped (n % 8) || decide (d.decState n = 0) then { c with dev := d }
        else if form = 1 then ({ c with dev := d }).rtpUnit n p ext cap
        else ({ c with dev := d }).tsCells n cap p.ts gap p.cells

/-- STREAM_PACKET_RECEIVE. -/
def Chip.streamRx (c : Chip) (h : RxHdr) (p : StreamPkt) : Chip :=
  let d := c.dev.countRx h
  match d.classify h with
  | .flow f => ({ c with dev := d }).stream h f p
  | k => { c with dev := d.dropFrame k }

/-- A video packet on a flow, read as the flow's FORM (R468). -/
def Chip.videoOnFlow (c : Chip) (h : RxHdr) (f : Nat) (p : VideoPkt) : Chip :=
  let d := c.dev
  if d.get F.NET_RX_FLOW_CFG_FORM f = 0 then c.ingest h f p
  else c.stream h f (videoAsStream p (match d.sessionOf (d.get F.NET_RX_FLOW_CFG_SOURCE f) with | some n => d.codec n | none => 0))

/-- INGEST_PACKET_RECEIVE of a frame on a port: to its flow, or to the witness whose video group it is for. -/
def Chip.ingestRx (c : Chip) (h : RxHdr) (p : VideoPkt) : Chip :=
  let d := c.dev.countRx h
  match d.classify h with
  | .flow f => ({ c with dev := d }).videoOnFlow h f p
  | .witness => { c with dev := d.witnessIn h (.video p) }
  | k => { c with dev := d.dropFrame k }

/-- WITNESS_STAMP_RECEIVE of a frame on a port: to the witness, unless a flow takes it (R233); a stamp fails the header
checks of every FORM, for its first byte is 0x53 (R468). -/
def Chip.witnessRx (c : Chip) (h : RxHdr) (p : WitPkt) : Chip :=
  let d := c.dev.countRx h
  match d.classify h with
  | .witness => { c with dev := d.witnessIn h p }
  | .flow f => (match p with
    | .video q => ({ c with dev := d }).videoOnFlow h f q
    | .stamp _ => { c with dev := (d.flowSeen f).bump F.NET_DROP_MALFORMED_COUNT 0 1 })
  | k => { c with dev := d.dropFrame k }

/-- ACCESS_UNIT_IDLE_CLOSE: at an edge at which no packet came for one full tick, the open access unit ends (R159). -/
def Device.idleClose (d : Device) (n : Nat) : Device :=
  let x := d.dec n
  if x.idle && d.inTick then d.setDec n { x with aus := endOpen d.edges x.aus } else d

/-! ## What a header says (R153 to R156, R172, R173) -/

/-- The stream is one that R153 and R155 accept for HEVC. -/
def seqHevcOk (q : SeqHead) : Bool :=
  !q.highTier && decide (q.level ≤ 153) && !q.fieldSeq && decide (q.chroma = 1) &&
  ((decide (q.profile = 1) && decide (q.bitLuma = 8) && decide (q.bitChroma = 8)) ||
   (decide (q.profile = 2) && (decide (q.bitLuma = 8) || decide (q.bitLuma = 10)) && (decide (q.bitChroma = 8) || decide (q.bitChroma = 10))))

/-- The stream is one that R154 and R155 accept for H.264. -/
def seqAvcOk (q : SeqHead) : Bool :=
  decide (q.level ≤ 51) && q.framesOnly && decide (q.bitLuma = 8) && decide (q.bitChroma = 8) &&
  ((decide (q.profile = 66) && q.set1 && decide (q.chroma = 1)) || (decide (q.profile = 77) && decide (q.chroma = 1)) ||
   (decide (q.profile = 100) && decide (q.chroma ≤ 1)))

/-- The active parameter set is one that R153 to R156 accept for the session, and its DPB fits (R171). -/
def Device.headOk (d : Device) (n : Nat) (h : PicHead) : Bool :=
  let q := h.sps
  (if d.get F.DEC_SESS_CFG_CODEC n = 0 then seqHevcOk q else seqAvcOk q) &&
  !q.extension && decide (q.cropLeft = 0) && decide (q.cropTop = 0) &&
  decide (q.codedW ≤ d.get F.DEC_SESS_SIZE_MAX_WIDTH n) && decide (q.codedH ≤ d.get F.DEC_SESS_SIZE_MAX_HEIGHT n) &&
  decide (q.dpb ≤ d.get F.DEC_SESS_CFG_DPB_MAX n)

/-- A later picture may reference the picture (R172): not an H.264 picture with nal_ref_idc 0, nor an HEVC picture of type
TRAIL_N, TSA_N, STSA_N, RADL_N or RASL_N (their numbers are those of the HEVC standard, log entry 134). -/
def picReferable (h : PicHead) (codec : Nat) : Bool :=
  if codec = 0 then !decide (h.nal ∈ [0, 2, 4, 6, 8]) else decide (h.refIdc ≠ 0)

/-- An IRAP picture: an HEVC IDR, CRA or BLA picture, or an H.264 IDR picture (R173). -/
def picIrap (h : PicHead) (codec : Nat) : Bool :=
  if codec = 0 then decide (16 ≤ h.nal) && decide (h.nal ≤ 21) else decide (h.nal = 5)

/-- An HEVC CRA or BLA picture. -/
def picCra (h : PicHead) (codec : Nat) : Bool := decide (codec = 0) && (decide (h.nal = 21) || (decide (16 ≤ h.nal) && decide (h.nal ≤ 18)))

/-- An HEVC RASL picture. -/
def picRasl (h : PicHead) (codec : Nat) : Bool := decide (codec = 0) && (decide (h.nal = 8) || decide (h.nal = 9))

/-! ## Access units into jobs (R160, R171) -/

/-- The lowest and the highest sequence number of an access unit. -/
def AccessUnit.lo (a : AccessUnit) : Option Nat := match a.seqs with | [] => none | q :: r => some (r.foldl min q)
def AccessUnit.hi (a : AccessUnit) : Option Nat := match a.seqs with | [] => none | q :: r => some (r.foldl max q)

/-- An access unit lost a packet (R171): inside it, at its start, or at its end, `next` being the first sequence number of
the access unit after it. DEDUCED: a gap between two access units is at the end of the first where its marker bit is
missing, and at the start of the second where the first has its marker bit or the second begins without a header (log entry
137). -/
def AccessUnit.lost (a : AccessUnit) (lastEnd : Option (Nat × Bool)) (next : Option Nat) : Bool :=
  match a.lo, a.hi with
  | some lo, some hi =>
    decide (hi + 1 - lo ≠ a.seqs.length) ||
    (match lastEnd with
     | some e => decide (e.1 + 1 < lo) && (e.2 || !a.start)
     | none => false) ||
    (match next with
     | some k => !a.marked && decide (hi + 1 < k)
     | none => false)
  | _, _ => false

/-- A RASL picture that is not decoded: it follows the CRA or BLA at which the session synchronises (R169), whether that
picture is done or still waits. -/
def Device.raslSkipped (d : Device) (n : Nat) : Bool :=
  let x := d.dec n
  match (x.running ++ x.jobs).filter (fun j => picIrap j.head (d.codec n)) with
  | [] => x.skipRasl
  | [j] => picCra j.head (d.codec n) && decide (d.decState n = 1)
  | _ => false

/-- An ended access unit becomes a decode job, or is treated as never received (R160, R171). -/
def Device.auJob (d : Device) (n : Nat) (a : AccessUnit) (next : Option Nat) : Device :=
  let x := d.dec n
  let lost := a.lost x.lastEnd next || decide (1 ∈ a.errs)
  let no := x.index
  let x := { x with index := no + 1, lastEnd := match a.hi with | some k => some (k, a.marked) | none => x.lastEnd }
  let d := d.setDec n x
  let d := if lost then d.decErr n 1 else d
  if a.overflow then d.decNever n no ((a.head.map (fun h => picReferable h (d.codec n))).getD true)
  else match a.head with
    | none => d.decNever n no true
    | some h =>
      if !h.params then (d.decErr n 4).decNever n no (picReferable h (d.codec n))
      else if !d.headOk n h then ((d.decErr n 7).decSync n).raise F.DEC_EVENTS_STREAM_UNSUPPORTED n
      else if picRasl h (d.codec n) && d.raslSkipped n then d
      else
        let x := d.dec n
        d.setDec n { x with jobs := x.jobs ++ [⟨no, h, a.capture, a.scale, a.ts, a.size, if lost then [1] else [], false, none, 0, false⟩] }

/-- The access units that ended become jobs in order, each with the first sequence number of the one after it. -/
def Device.auJobs (d : Device) (n : Nat) (rest : List AccessUnit) : List AccessUnit → Device
  | [] => d
  | a :: r => (d.auJob n a (((r ++ rest).head?).bind AccessUnit.lo)).auJobs n rest r

/-- At an edge: the access units that ended before it become jobs, and it is known whether a packet came in the tick that
ends (R159, R160). -/
def Device.decUnitsEdge (d : Device) (n : Nat) : Device :=
  let x := d.dec n
  let done := x.aus.filter (fun a => match a.ended with | some e => decide (e < d.edges) | none => false)
  let rest := x.aus.filter (fun a => match a.ended with | some e => !decide (e < d.edges) | none => true)
  let back := (x.running.filter (fun j => !j.started)).map (fun j => { j with berth := none })
  let d := forL (x.running.filter (fun j => !j.started)) (fun (j : DecJob) (d : Device) => match j.berth with
    | some b => d.discard b
    | none => d) d
  let stop := d.stopped (n % 8)
  let d := d.setDec n { x with aus := if stop then x.aus else rest, quiet := true, idle := x.quiet, jobs := back ++ x.jobs,
                               running := x.running.filter (fun j => j.started) }
  if stop then d else d.auJobs n rest done

/-! ## Admission (R36) -/

/-- The cost of a picture in WU (R32). -/
def headCost (h : PicHead) : Nat := ceilDiv (h.sps.codedW * h.sps.codedH) 65536

/-- The format a picture is decoded into (R156): 9 where a bit depth is above 8. -/
def headFmt (h : PicHead) : Nat := if h.sps.bitLuma = 8 ∧ h.sps.bitChroma = 8 then 8 else 9

/-- The first waiting job of a session takes its berth and is admitted, or finds none (R114, R118, R174). -/
def Device.decStart (d : Device) (n : Nat) : Device × Bool :=
  let x := d.dec n
  match x.jobs with
  | [] => (d, false)
  | j :: r =>
    let q := d.allocFor (codedBytes (headFmt j.head) j.head.sps.codedW j.head.sps.codedH) 2 n
    match q.2 with
    | some b => (q.1.setDec n { x with jobs := r, running := x.running ++ [{ j with berth := some b, admitted := d.edges, started := false }] }, true)
    | none => (q.1, false)

/-- The admission of one session at an edge: what is left of its reservation, of the unreserved capacity of its core, the
work admitted, and whether a job found no berth. -/
structure DecBudget where
  own : Nat
  core : Nat
  used : Nat
  stuck : Bool
  deriving DecidableEq, Repr

/-- Admit the jobs of a session in order while its reservation, or the unreserved capacity, holds them. A job that an
earlier edge deferred takes unreserved capacity only. -/
def Device.decAdmit (d : Device) (n : Nat) : Nat → DecBudget → Device × DecBudget
  | 0, b => (d, b)
  | k + 1, b =>
    match (d.dec n).jobs with
    | [] => (d, b)
    | j :: _ =>
      let c := headCost j.head
      let own := !j.deferred && decide (c ≤ b.own)
      if b.stuck || !(own || decide (c ≤ b.core)) then (d, b)
      else
        let q := d.decStart n
        if q.2 then q.1.decAdmit n k ⟨if own then b.own - c else b.own, if own then b.core else b.core - c, b.used + c, false⟩
        else (q.1, { b with stuck := true })

/-- The open sessions in the order of R36: priority, then number. -/
def Device.decOrder (d : Device) : List Nat :=
  (List.range 4).flatMap (fun p => (List.range 256).filter (fun n => decide (d.decState n ≠ 0) && decide (d.get F.DEC_SESS_CFG_PRIORITY n = p)))

/-- Items 3 and 4 of R36: decode jobs within reservations, then late remainders and the rest from what no
session reserves on the home core. -/
def Device.decAdmission (d : Device) : Device :=
  let order := d.decOrder
  let first := order.foldl (fun (a : Device × Tab Nat DecBudget) n =>
    let q := a.1.decAdmit n (a.1.dec n).jobs.length ⟨a.1.get F.DEC_SESS_RES_RESERVED_WU n, 0, 0, false⟩
    (q.1, Tab.set a.2 n q.2)) (d, [])
  let late (c : Nat) : Nat := order.foldl (fun t n => if d.get F.DEC_SESS_STATE_CORE n = c then
    ((d.dec n).running.filter (fun j => j.started)).foldl (fun t j => t + headCost j.head) t else t) 0
  let free (c : Nat) : Nat := d.coreCap 0 - d.decCoreUse c
  let rest := order.foldl (fun (a : Device × List Nat × Nat) n =>
    let c := d.get F.DEC_SESS_STATE_CORE n
    let q := a.1.decAdmit n (a.1.dec n).jobs.length { Tab.get first.2 ⟨0, 0, 0, true⟩ n with core := a.2.1.getD c 0 }
    (q.1, a.2.1.set c q.2.core, a.2.2 + q.2.used)) (first.1, (List.range 8).map (fun c => free c - late c), 0)
  let d := rest.1
  let lateAll := (List.range 8).foldl (fun t c => t + late c) 0
  let d := d.put F.TICK_USE_DEC_USED_WU 0 (rest.2.2 + lateAll)
  let left := order.foldl (fun t n => t + (d.dec n).jobs.length) 0
  let d : Device := { d with decs := d.decs.map (fun (p : Nat × DecSess) =>
    (p.1, { p.2 with jobs := p.2.jobs.map (fun j => { j with deferred := true }) })) }
  if left = 0 then d else (d.bump F.TICK_ADM_DEFER_COUNT 0 left).raise F.TICK_EVENTS_ADM_DEFER

/-- The work list is published: the jobs admitted at the edge start (R30). -/
def Device.decPublish (d : Device) : Device :=
  { d with decs := d.decs.map (fun (p : Nat × DecSess) => (p.1, { p.2 with running := p.2.running.map (fun j => { j with started := true }) })) }

/-! ## A picture is done (R169 to R173) -/

/-- The samples of a plane, grey where no slice was decoded (R171): `w` to a line, `h` lines. -/
def greyPlane (depth w h : Nat) (l : List (List (Option Nat))) : List (List Nat) :=
  (List.range h).map (fun y => (List.range w).map (fun x => (((l.getD y []).getD x none).getD (2 ^ (depth - 1))) % 2 ^ depth))

/-- Luma, Cb and Cr of a decoded picture at its coded size; a monochrome stream has grey chroma (R154). -/
def decPlanes (r : DecResult) (q : SeqHead) : List (List Nat) × List (List Nat) × List (List Nat) :=
  let cw := (q.codedW + 1) / 2
  let ch := (q.codedH + 1) / 2
  let side (l : List (List (Option Nat))) := greyPlane q.bitChroma cw ch (if q.chroma = 0 then [] else l)
  (greyPlane q.bitLuma q.codedW q.codedH r.luma, side r.cb, side r.cr)

/-- A line of samples as a berth holds it: bytes in format 8, words in format 9 (R124). -/
def sampleLine (fmt : Nat) (l : List Nat) : List Byte := l.flatMap (fun v => leBytes (if fmt = 8 then 1 else 2) v)

/-- The lines of a decoded picture in the order of R170: luma and chroma of the conformance window, then the luma and chroma
lines below it. -/
def decLines (r : DecResult) (h : PicHead) : List (List Byte) :=
  let p := decPlanes r h.sps
  let f := headFmt h
  let luma := p.1.map (sampleLine f)
  let chroma := (List.zip p.2.1 p.2.2).map (fun q => sampleLine f ((List.zip q.1 q.2).flatMap (fun v => [v.1, v.2])))
  let ch := (h.sps.h + 1) / 2
  luma.take h.sps.h ++ chroma.take ch ++ luma.drop h.sps.h ++ chroma.drop ch

/-- The decoded picture hash SEI disagrees with the picture (R171). The hashes are named and not given (log entry 138). -/
def decHashBad (r : DecResult) (q : SeqHead) : Bool :=
  match r.hash with
  | some (kind, v) => decide (Config.pictureHash kind (decPlanes r q).1 (decPlanes r q).2.1 (decPlanes r q).2.2 ≠ v)
  | none => false

/-- The error classes of a job's own (R171): those found so far, SYNTAX, a missing reference, a corrupt reference, and HASH
where it is checked. -/
def Device.ownErrs (d : Device) (n : Nat) (j : DecJob) (r : DecResult) : List Nat :=
  let x := d.dec n
  let hash := d.on F.DEC_SESS_CFG_HASH_CHECK n && decide (d.codec n = 0)
  j.errs ++ (if r.syntax_ then [2] else []) ++
  (if j.head.refs.any (fun p => !x.dpb.any (fun q => decide (q.poc = p))) then [3] else []) ++
  (if hash && decHashBad r j.head.sps then [5] else []) ++
  (if j.head.refs.any (fun p => x.dpb.any (fun q => decide (q.poc = p) && (d.berth q.berth).corrupt)) then [6] else [])

/-- The DPB after a picture: what its header keeps stays, and it joins when a later picture may reference it. A picture that
is not sealed and not kept goes (R169). -/
def Device.dpbUpdate (d : Device) (n : Nat) (j : DecJob) (b : Nat) (clean sealed : Bool) : Device :=
  let x := d.dec n
  let gone := x.dpb.filter (fun p => j.head.newSeq || !decide (p.poc ∈ j.head.keep))
  let d := forL gone (fun (p : DpbPic) (d : Device) => d.dpbRelease n p) d
  let x := d.dec n
  let keep := x.dpb.filter (fun p => !(j.head.newSeq || !decide (p.poc ∈ j.head.keep)))
  if picReferable j.head (d.codec n) then
    let d := if sealed then d.hold b (.dec n j.no) else d
    d.setDec n { x with dpb := keep ++ [⟨j.head.poc, b, clean, j.no⟩] }
  else
    let d := d.setDec n { x with dpb := keep }
    if sealed then d else d.discard b

/-- A recovery point ends here: an IRAP picture or the target of a gradual refresh without a fault from its SEI picture on;
the first access unit that then counts as clean (R173). -/
def recoveryFrom (x : DecSess) (codec : Nat) (j : DecJob) (own : Bool) : Option Nat :=
  if !own then none
  else if picIrap j.head codec then some j.no
  else (x.refresh.find? (fun r => decide (r.1 = j.head.poc) && !x.faults.any (fun f => decide (r.2 ≤ f) && decide (f ≤ j.no)))).map (fun r => r.2)

/-- The session's own state after a picture: refreshes, faults, cleanness of the DPB, RASL skipping. -/
def DecSess.pictureDone (x : DecSess) (codec st : Nat) (j : DecJob) (own : Bool) (rest : List DecJob) : DecSess × Option Nat :=
  let x := if own then x else x.faulty j.no
  let x := { x with running := rest, refresh := match j.head.recovery with
                                                | some v => x.refresh ++ [(j.head.poc + v, j.no)]
                                                | none => x.refresh }
  let rp := recoveryFrom x codec j own
  ({ x with
      cvs := if j.head.newSeq then x.cvs + 1 else x.cvs
      refresh := x.refresh.filter (fun q => !decide (q.1 = j.head.poc))
      faults := x.faults.filter (fun f => decide (j.no < f) || x.refresh.any (fun q => decide (q.2 ≤ f)))
      dpb := match rp with
        | some k => x.dpb.map (fun p => if k ≤ p.index then { p with clean := true } else p)
        | none => x.dpb
      skipRasl := if picIrap j.head codec then picCra j.head codec && decide (st = 1) && own else x.skipRasl }, rp)

/-- DECODE_PICTURE_COMPLETE: the first running job of a session is done (R169 to R173). -/
def Chip.decodeDone (c : Chip) (n : Nat) (r : DecResult) : Chip :=
  let d := c.dev
  let x := d.dec n
  match x.running with
  | [] => c
  | j :: rest =>
    match j.berth with
    | none => c
    | some b =>
      if !j.started then c
      else
        let errs := d.ownErrs n j r
        let own := errs.isEmpty
        let d := forL errs (fun (e : Nat) (d : Device) => if e = 1 then d else d.decErr n e) d
        let refsOk := j.head.refs.all (fun p => x.dpb.any (fun q => decide (q.poc = p) && q.clean))
        let st := d.decState n
        let q := x.pictureDone (d.codec n) st j own rest
        let rp := q.2
        let clean := own && (refsOk || rp.isSome)
        let d := d.setDec n q.1
        let d := if rp.isSome ∧ st = 1 then (d.put F.DEC_SESS_STATE_STATE n 2).raise F.DEC_EVENTS_SYNCED n
          else if rp.isSome ∧ st = 3 then (d.put F.DEC_SESS_STATE_STATE n 2).raise F.DEC_EVENTS_RECOVERED n
          else if clean then d else d.decDamaged n (picReferable j.head (d.codec n))
        let s := d.decSource n
        let h := j.head.sps
        let fmt := headFmt j.head
        let stride := fmtStride fmt h.codedW
        let base := d.berthAddr b
        let m := { c.mem with dram := writeLines c.mem.dram base stride (decLines r j.head) }
        let p : Pic := ⟨base, fmt, h.w, h.h, stride⟩
        let d := d.setBerth b { d.berth b with width := h.w, height := h.h, stride := stride, format := fmt, capture := j.capture, scale := j.scale,
                                               rtpTs := j.ts, sigs := picSigs m.rd p, order := some (q.1.cvs, j.head.poc) }
        let shown := clean && decide (d.decState n = 2) && j.head.outFlag
        let seals := shown && !d.outOfOrder b s
        let d := if shown ∧ !seals then d.bump F.NET_SRC_CNT_DISCARD_COUNT s 1 else d
        let lateJob := decide (j.admitted < d.edges) || (decide (j.admitted = d.edges) && d.tick.sealRan)
        let d := if lateJob then (d.bump F.DEC_LATE_PICTURES_COUNT 0 1).raise F.DEC_EVENTS_LATE n else d
        let d := ((d.flag F.DEC_SESS_STATE_TEN_BIT n (decide (fmt = 9))).put F.DEC_SESS_PIC_WIDTH n h.w).put F.DEC_SESS_PIC_HEIGHT n h.h
        let d := if seals then d.count 0x09 (d.get F.DEC_SESS_STATE_CORE n) 1 else d.bump F.DEC_SESS_CNT_HELD_COUNT n 1
        let d := (d.dpbUpdate n j b clean seals).dpbCount n
        { c with mem := m, dev := if seals then d.finishSource b s else d }

/-! ## Meanings -/

/-- INGEST_PACKET_RECEIVE. -/
def execIngestPacketReceive (hdr : RxHdr) (pkt : VideoPkt) (s : State) : Host.Outcome State Fault Refusal :=
  onChip (fun c => c.ingestRx hdr pkt) s

/-- WITNESS_STAMP_RECEIVE. -/
def execWitnessStampReceive (hdr : RxHdr) (pkt : WitPkt) (s : State) : Host.Outcome State Fault Refusal :=
  onChip (fun c => c.witnessRx hdr pkt) s

/-- STREAM_PACKET_RECEIVE. -/
def execStreamPacketReceive (hdr : RxHdr) (pkt : StreamPkt) (s : State) : Host.Outcome State Fault Refusal :=
  onChip (fun c => c.streamRx hdr pkt) s

/-- ACCESS_UNIT_IDLE_CLOSE. -/
def execAccessUnitIdleClose (session : Nat) (s : State) : Host.Outcome State Fault Refusal := onDev (fun d => d.idleClose session) s

/-- DECODE_PICTURE_COMPLETE. -/
def execDecodePictureComplete (session : Nat) (result : DecResult) (s : State) : Host.Outcome State Fault Refusal :=
  onChip (fun c => c.decodeDone session result) s

end Sys2Proof.Machine
end

