-- ==== Sys2Proof/Machine/Enc.lean ====
section
/-!
DEFINITION. Encoding console feeds (R176 to R205): session commands, the pictures of a tick, rate control by CTU
row, deadlines, the packets and the stamps of a feed.
-/

namespace Sys2Proof.Machine

def Device.enc (d : Device) (n : Nat) : EncSess := Tab.get d.encs EncSess.empty n
def Device.setEnc (d : Device) (n : Nat) (v : EncSess) : Device := { d with encs := Tab.set d.encs n v }

/-- The session is OPEN (R183). -/
def Device.encOpened (d : Device) (n : Nat) : Bool := d.on F.ENC_SESS_STATE_OPEN n

/-! ## Sizes, budget and level (R182, R191, R192) -/

def Device.encW (d : Device) (n : Nat) : Nat := d.get F.ENC_SESS_SIZE_W n
def Device.encH (d : Device) (n : Nat) : Nat := d.get F.ENC_SESS_SIZE_H n

/-- CTU columns and rows of a picture. -/
def ctuCols (w : Nat) : Nat := ceilDiv w 64
def ctuRows (h : Nat) : Nat := ceilDiv h 64

/-- FLOOR(k) of R191. -/
def floorFrom (w h k : Nat) : Nat :=
  128 * (ctuCols w * ctuRows h - k) + 320 * (ctuRows h - ceilDiv k (ctuCols w))

/-- V_OH of R191. -/
def Device.encOverhead (d : Device) (n : Nat) : Nat := if d.on F.ENC_SESS_CFG_HDR n then 12288 else 4096

/-- B of R192 for a bit rate in kbit/s. -/
def Device.encBudget (d : Device) (n rate : Nat) : Nat :=
  rate * 1000 * d.nd.2 * (d.get F.ENC_SESS_CFG_DIVISOR n + 1) / d.nd.1

/-- The floor condition of R192. -/
def Device.encFloorOk (d : Device) (n rate : Nat) : Bool :=
  decide (d.encOverhead n + floorFrom (d.encW n) (d.encH n) 0 ≤ d.encBudget n rate)

/-- The rows of the level table (R182): level, MaxLumaPs, largest dimension, MaxLumaSr, MaxBR of Main and High. -/
def levelRows : List (Nat × Nat × Nat × Nat × Nat × Nat) :=
  [(93, 983040, 2804, 33177600, 10000, 0), (120, 2228224, 4222, 66846720, 12000, 30000),
   (123, 2228224, 4222, 133693440, 20000, 50000), (150, 8912896, 8444, 267386880, 25000, 100000),
   (153, 8912896, 8444, 534773760, 40000, 160000), (156, 8912896, 8444, 1069547520, 60000, 240000)]

/-- The lowest level and tier of R182. -/
def Device.encLevel (d : Device) (n rate : Nat) : Nat × Nat :=
  let w := d.encW n
  let h := d.encH n
  let k := d.get F.ENC_SESS_CFG_DIVISOR n + 1
  let fits := levelRows.flatMap (fun (l, ps, dim, sr, m, hi) =>
    if w * h ≤ ps ∧ w ≤ dim ∧ h ≤ dim ∧ w * h * d.nd.1 ≤ sr * d.nd.2 * k then
      (if 10 * rate ≤ 11 * m then [(l, 0)] else []) ++ (if 10 * rate ≤ 11 * hi then [(l, 1)] else [])
    else [])
  fits.headD (156, 1)

/-! ## Commands (R183 to R185) -/

/-- The ENC work units reserved on a core. -/
def Device.encCoreUse (d : Device) (core : Nat) : Nat :=
  forN 32 (fun n t => if d.get F.ENC_SESS_STATE_CORE n = core then t + d.get F.ENC_SESS_RES_RESERVED_WU n else t) 0

/-- Another session in CTU-row mode has the core as its home (R184). -/
def Device.encRowCore (d : Device) (n core : Nat) : Bool :=
  (List.range 32).any (fun k => decide (k ≠ n) && decide (d.get F.ENC_SESS_RES_RESERVED_WU k ≠ 0) && d.on F.ENC_SESS_CFG_PIPE k &&
    decide (d.get F.ENC_SESS_STATE_CORE k = core))

/-- The core that a session is placed on (R35, R184). -/
def Device.encPlace (d : Device) (n : Nat) : Option Nat :=
  let wu := ceilDiv (d.encW n * d.encH n) 65536
  if d.classCap 3 < (List.range 4).foldl (fun t c => t + d.encCoreUse c) 0 + wu then none
  else (List.range 4).find? (fun c => decide (d.encCoreUse c + wu ≤ d.coreCap 3) && !(d.on F.ENC_SESS_CFG_PIPE n && d.encRowCore n c))

/-- Step 3 of R183. -/
def Device.encFormatOk (d : Device) (n : Nat) : Bool :=
  let w := d.encW n
  let h := d.encH n
  let f := d.get F.ENC_SESS_CFG_FOLLOW n
  decide (f ≤ 1) && decide (128 ≤ w) && decide (w ≤ 3840) && decide (w % 8 = 0) && decide (72 ≤ h) && decide (h ≤ 2160) && decide (h % 8 = 0) &&
  (decide (f = 1) || decide (d.get F.ENC_SESS_CFG_ID n < 32)) && (decide (f = 0) || !d.on F.ENC_SESS_CFG_PIPE n) &&
  decide (1 ≤ d.get F.ENC_SESS_RATE_BUF_PICS n) && decide (d.get F.ENC_SESS_RATE_BUF_PICS n ≤ 8)

/-- The reservations of an OPEN: core, work units and class; or the failing result. -/
def Device.encReserve (d : Device) (n : Nat) : Except Nat (Nat × Nat × Nat) :=
  match d.encPlace n with
  | none => .error 6
  | some core =>
    match d.classFor (picBytes 9 (d.encH n) (fmtStride 9 (d.encW n))) with
    | none => .error 7
    | some c => if d.reservedOf c + 2 ≤ d.availOf c then .ok (core, ceilDiv (d.encW n * d.encH n) 65536, c) else .error 7

/-- The result of the checks of R183: 0 when every check passes. -/
def Device.encCheck (d : Device) (op n : Nat) : Nat :=
  if d.encCmd.isSome then 2
  else if (op = 1 ∧ d.encOpened n) ∨ (op ≠ 1 ∧ !d.encOpened n) then 3
  else if op ≠ 1 then 0
  else if !d.encFormatOk n then 4
  else if !d.encFloorOk n (d.get F.ENC_SESS_RATE_BIT_RATE n) then 5
  else match d.encReserve n with
    | .error r => r
    | .ok _ => 0

/-- The jobs of a session stop; the berths they read lose their references (R185). -/
def Device.encStop (d : Device) (n : Nat) : Device :=
  let d := d.releaseAll (fun h => decide (h = .enc n))
  d.setEnc n { d.enc n with jobs := [], feeds := [] }

/-- An OPEN takes effect: V is 0, two berths are taken (R183, R185, R192). -/
def Device.encOpenNow (d : Device) (n : Nat) : Device :=
  let c := d.get F.ENC_SESS_RES_CLASS n
  let a := d.alloc c 0 n
  let b := a.1.alloc c 0 n
  let lv := d.encLevel n (d.get F.ENC_SESS_RATE_BIT_RATE n)
  let d := (b.1.setEnc n { EncSess.empty with rec0 := a.2, rec1 := b.2 }).put F.ENC_SESS_STATE_OPEN n 1
  let d := ((d.put F.ENC_SESS_STATE_LEVEL n lv.1).put F.ENC_SESS_STATE_TIER n lv.2).put F.ENC_SESS_FULLNESS_BITS n 0
  d.raise F.ENC_EVENTS_OPEN_DONE n

/-- A CLOSE takes effect: the berths and the reservations go (R185). -/
def Device.encCloseNow (d : Device) (n : Nat) : Device :=
  let x := d.enc n
  let d := d.encStop n
  let d := [x.rec0, x.rec1].foldl (fun (d : Device) o => match o with
    | some b => d.discard b
    | none => d) d
  (((d.setEnc n EncSess.empty).put F.ENC_SESS_STATE_OPEN n 0).put F.ENC_SESS_RES_BERTHS n 0).put F.ENC_SESS_RES_RESERVED_WU n 0

/-- An encode command takes effect. -/
def Device.encEffect (d : Device) (c : SessCmd) : Device :=
  match c.op with
  | 1 => d.encOpenNow c.sess
  | 2 => d.encCloseNow c.sess
  | _ => d.setEnc c.sess { d.enc c.sess with restart := true }

/-- The command that waits takes effect at the edge (R183). -/
def Device.encEdgeCmd (d : Device) : Device :=
  match d.encCmd with
  | some c => ({ d with encCmd := none }.put F.ENC_CMD_STATUS_PENDING 0 0).encEffect c
  | none => d

/-- A write to ENC_CMD with an operation (R183). -/
def Device.encCommand (d : Device) (slot op n : Nat) : Device :=
  let r := d.encCheck op n
  let d := (((d.put F.ENC_CMD_STATUS_REQ_SLOT 0 slot).put F.ENC_CMD_STATUS_OP 0 op).put F.ENC_CMD_STATUS_SESSION 0 n).put
    F.ENC_CMD_STATUS_RESULT 0 (if r = 0 then 1 else r)
  if r ≠ 0 then d.raise F.ENC_EVENTS_CMD_REFUSED n
  else
    let d := if op = 1 then match d.encReserve n with
        | .ok (core, wu, c) => (((d.put F.ENC_SESS_STATE_CORE n core).put F.ENC_SESS_RES_RESERVED_WU n wu).put F.ENC_SESS_RES_CLASS n c).put
            F.ENC_SESS_RES_BERTHS n 2
        | .error _ => d
      else d
    if d.pwr = .run then { d with encCmd := some ⟨op, n, slot⟩ }.put F.ENC_CMD_STATUS_PENDING 0 1
    else d.encEffect ⟨op, n, slot⟩

/-- The device leaves RUN: each open session stops its job, and its next picture is an IDR picture (R185). -/
def Device.encLeaveRun (d : Device) : Device :=
  forN 32 (fun n d => if d.encOpened n then
    let d := d.encStop n
    d.setEnc n { d.enc n with p := 0, q := 1, restart := false }
  else d) d

/-! ## The pictures of a tick (R177 to R180, R199) -/

/-- The output record of an output of the layout in force. -/
def Device.outRec? (d : Device) (o : Nat) : Option OutRec :=
  match d.layout with
  | some l => l.outs.find? (fun r => decide (r.out = o))
  | none => none

/-- What a session follows at an edge (R177, R179, R202): the picture, the berth that holds it, whether black is encoded in its
place, the age and STALE flag of a source, and the frame of an output that is sealed already. -/
structure EncInput where
  pic : Option Pic
  berth : Option Nat
  black : Bool
  age : Nat
  stale : Bool
  shown : Option SealedOut
  deriving DecidableEq, Repr

/-- The input of a session at the edge of tick `t`: its input tick, and what it follows, or nothing where the input is missing
(R177, R179, R199). -/
def Device.encInput (d : Device) (n t : Nat) : Nat × Option EncInput :=
  let id := d.get F.ENC_SESS_CFG_ID n
  if d.get F.ENC_SESS_CFG_FOLLOW n = 0 then
    let picOf (b : Nat) (r : OutRec) : Pic := ⟨d.berthAddr b, r.format, r.width, r.height, fmtStride r.format r.width⟩
    if d.on F.ENC_SESS_CFG_PIPE n then
      (t, match (d.outp id).berth, d.outRec? id with
          | some b, some r => if r.format ≤ 4 then some ⟨some (picOf b r), some b, false, 0, false, none⟩ else none
          | _, _ => none)
    else
      (t - 1, match (d.outp id).prev with
          | some q => match q.berth with
            | some b => if q.tick = d.tick.last ∧ !(d.berth b).corrupt ∧ q.orec.format ≤ 4 ∧ d.present id ∧ !d.tick.afterGap then
                some ⟨some (picOf b q.orec), some b, false, 0, false, some q⟩ else none
            | none => none
          | none => none)
  else
    let a := min ((d.age id t).getD 63) 63
    (t, match (d.src id).input with
        | some b => let f := (d.berth b).format
                    if 5 ≤ f ∧ f ≤ 7 then none else some ⟨some (d.berthPic b), some b, d.treated id, a, d.treated id, none⟩
        | none => some ⟨none, none, true, a, true, none⟩)

/-- The host's SEI NAL unit of a picture in FIRMWARE mode, and whether its length is too large (R198). -/
def Device.hostSei (d : Device) (m : Memory) (n : Nat) : List Byte × Bool :=
  if d.on F.ENC_SESS_CFG_HDR n then
    let a := d.addr40 F.ENC_SESS_SEI_LO_ADDR_LO F.ENC_SESS_SEI_HI_ADDR_HI n
    let l := m.le a 2
    if l ≤ 1020 then (m.dram.readList (a + 4) l, false) else ([], true)
  else ([], false)

/-- The refresh period K of R187. -/
def Device.encK (d : Device) (n : Nat) : Nat := max 2 (d.get F.ENC_SESS_GDR_PERIOD n)

/-- The period of picture p (R187, R189): position, period start, and whether the start is not regular. -/
def Device.encPeriod (d : Device) (n : Nat) : Nat × Nat × Bool :=
  let x := d.enc n
  if x.p = 0 then (0, 1, false)
  else
    let j := (x.p - x.q) % d.encK n
    if x.restart then (0, x.p, decide (j ≠ 0)) else (j, if j = 0 then x.p else x.q, false)

/-- The refreshed CTU columns of a picture at period position `j` (R187). -/
def gdrBand (w k j : Nat) : Nat × Nat := (j * ctuCols w / k, (j + 1) * ctuCols w / k)

/-- A picture that waits for its rate control: what it follows in the tick of its admission. -/
def EncJob.waiting (tick admitted : Nat) (ctuRow missing : Bool) (e : EncInput) : EncJob :=
  { tick := tick, ctuRow := ctuRow, missing := missing, admitted := admitted, begun := false, started := false, row := 0, ready := 0, spent := 0,
    floorMode := false, timeFloor := false, memFloor := false, cap := 0, target := 0, b := 0, pos := 0, idr := false, starts := false,
    pic := e.pic, input := e.berth, black := e.black, age := e.age, stale := e.stale, shown := e.shown, hist := [], coarse := [],
    nals := [], slices := [], srcY := [], srcCb := [], srcCr := [], luma := [], cb := [], cr := [], hashLen := 0, sei := [], pace := (1, 1) }

/-- The rate control of a picture begins, with V as the picture before left it (R192, R194): CAP, T and B are fixed, and its
place in the period (R187, R189). -/
def Device.encBegin (d : Device) (m : Memory) (n : Nat) (j : EncJob) : Device :=
  let x := d.enc n
  let b := d.encBudget n (d.get F.ENC_SESS_RATE_BIT_RATE n)
  let s := b * d.get F.ENC_SESS_RATE_BUF_PICS n
  let se := max s (x.v + b)
  let cap := se - x.v
  let lo : Int := d.encOverhead n + floorFrom (d.encW n) (d.encH n) 0
  let t : Int := max lo (min (cap : Int) ((b : Int) + (((s / 2 : Nat) : Int) - x.v) / 4))
  let per := d.encPeriod n
  let sei := d.hostSei m n
  let job : EncJob := { j with begun := true, cap := cap, target := t, b := b, pos := per.1, idr := decide (x.p = 0),
                               starts := decide (x.p ≠ 0) && decide (per.1 = 0), sei := sei.1, pace := (se, s) }
  let d := d.setEnc n { x with jobs := job :: x.jobs.tail, q := per.2.1, restart := false }
  let d := if per.2.2 then d.raise F.ENC_EVENTS_REFRESH_RESTART n else d
  if sei.2 then d.raise F.SYS_EVENTS_CFG_DROPPED else d

/-- The turn of a tick whose input is missing comes: V falls, and a NO_FRAME stamp is due (R199). -/
def Device.encMissing (d : Device) (n : Nat) (j : EncJob) : Device :=
  let x := d.enc n
  let v := x.v - d.encBudget n (d.get F.ENC_SESS_RATE_BIT_RATE n)
  let feed : Feed := ⟨j.tick, true, if j.ctuRow then j.admitted else j.admitted + 1, [], 0, [], true, [], (1, 1), false, [], false⟩
  (d.setEnc n { x with v := v, jobs := x.jobs.tail, feeds := x.feeds ++ [feed] }).put F.ENC_SESS_FULLNESS_BITS n v

/-- The first pictures of a session that wait have their turn: ticks without input up to the next picture, whose rate control
begins. -/
def Device.encTurn (d : Device) (m : Memory) (n : Nat) : Nat → Device
  | 0 => d
  | k + 1 => match (d.enc n).jobs with
    | [] => d
    | j :: _ =>
      if j.begun then d
      else if j.missing then (d.encMissing n j).encTurn m n k
      else d.encBegin m n j

/-- A tick of a session: its picture, or its missing input, takes its place behind the picture that is being coded (R180, R195,
R199). -/
def Device.encTick (d : Device) (m : Memory) (n tick : Nat) (inp : Option EncInput) : Device :=
  let x := d.enc n
  let row := d.on F.ENC_SESS_CFG_PIPE n
  let j := EncJob.waiting tick d.edges row inp.isNone (inp.getD ⟨none, none, true, 0, true, none⟩)
  let d := d.setEnc n { x with jobs := x.jobs ++ [j] }
  let d := match j.input with
    | some k => d.hold k (.enc n)
    | none => d
  let d := if inp.isNone then (d.bump F.ENC_SESS_CNT_NO_INPUT_COUNT n 1).raise F.ENC_EVENTS_NO_INPUT n else d
  d.encTurn m n (x.jobs.length + 1)

/-- What the edge of tick `t` does for the encode sessions: a picture starts, or its input is missing, in the
ticks that R180 gives. -/
def Device.encEdge (d : Device) (m : Memory) (t : Nat) : Device :=
  forN 32 (fun n d =>
    if !d.encOpened n then d
    else
      let q := d.encInput n t
      if q.1 % (d.get F.ENC_SESS_CFG_DIVISOR n + 1) ≠ 0 then d else d.encTick m n q.1 q.2) d

/-- The ENC work admitted in a tick. -/
def Device.encUsed (d : Device) : Nat :=
  forN 32 (fun n t => if ((d.enc n).jobs.any (fun j => decide (j.admitted = d.edges) && !j.missing)) then
    t + d.get F.ENC_SESS_RES_RESERVED_WU n else t) 0

/-- The work list is published: the pictures admitted at the edge start. -/
def Device.encPublish (d : Device) : Device :=
  { d with encs := d.encs.map (fun (p : Nat × EncSess) => (p.1, { p.2 with jobs := p.2.jobs.map (fun j => { j with started := true }) })) }

/-! ## The input picture (R177 to R179) -/

/-- Bits of a sample of a format (R124). -/
def sampleBits (f : Nat) : Nat := if f ≤ 7 then (fmtGroup f).2.2.1 else if f = 8 then 8 else 10

/-- A sample of a picture in 10 bits (R178). -/
def Pic.ten (p : Pic) (rd : ByteAt) (k x y : Nat) : Nat :=
  let n := sampleBits p.fmt
  let v := p.comp rd k x y / 2 ^ (16 - n)
  if n = 8 then 4 * v else if n = 12 then min ((v + 2) / 4) 1023 else v

/-- Luma of a pixel of the picture, black outside it. -/
def Pic.tenLuma (p : Pic) (rd : ByteAt) (x y : Nat) : Nat := if x < p.w ∧ y < p.h then p.ten rd 0 x y else 64

/-- Chroma of the pixel pair that starts at a pixel, in its own line: black outside the picture (R178). -/
def Pic.tenChroma (p : Pic) (rd : ByteAt) (k x y : Nat) : Nat :=
  if p.w ≤ x ∨ p.h ≤ y then 512
  else if p.fmt = 3 ∨ p.fmt = 4 then
    (p.ten rd k (x - 1) y + 2 * p.ten rd k x y + p.ten rd k (min (x + 1) (p.w - 1)) y + 2) / 4
  else if p.fmt ≤ 2 then p.ten rd k (x / 2) y
  else p.ten rd k (x / 2) (y / 2)

/-- Chroma of lines y and y + 1: the mean of both, or the sample of a 4:2:0 picture (R178). -/
def Pic.tenPair (p : Pic) (rd : ByteAt) (k x y : Nat) : Nat :=
  if p.fmt ≤ 4 then (p.tenChroma rd k x y + p.tenChroma rd k x (y + 1) + 1) / 2 else p.tenChroma rd k x y

/-- The lines of a job's input that CTU row `r` codes: luma, Cb and Cr of the rectangle at ORIGIN (R177). Black stands in the
place of a source shown in its stale treatment (R179). -/
def Device.encSource (d : Device) (m : Memory) (n : Nat) (j : EncJob) (r : Nat) : List (List Nat) × List (List Nat) × List (List Nat) :=
  let w := d.encW n
  let h := min 64 (d.encH n - 64 * r)
  let ox := d.get F.ENC_SESS_ORIGIN_X n
  let oy := d.get F.ENC_SESS_ORIGIN_Y n + 64 * r
  let plane (w h : Nat) (f : Nat → Nat → Nat) := (List.range h).map (fun y => (List.range w).map (fun x => f x y))
  match if j.black then none else j.pic with
  | some p =>
    (plane w h (fun x y => p.tenLuma (imageAt m.dram) (ox + x) (oy + y)), plane (w / 2) (h / 2) (fun x y => p.tenPair (imageAt m.dram) 1 (ox + 2 * x) (oy + 2 * y)),
     plane (w / 2) (h / 2) (fun x y => p.tenPair (imageAt m.dram) 2 (ox + 2 * x) (oy + 2 * y)))
  | none => (plane w h (fun _ _ => 64), plane (w / 2) (h / 2) (fun _ _ => 512), plane (w / 2) (h / 2) (fun _ _ => 512))

/-! ## Rate control (R192) -/

/-- QL(x) of R192. -/
def qlOf (x : Int) : Int := if x < 1 then 0 else (Nat.log2 (x.toNat ^ 6) : Nat)

/-- w(r) of R192. DEDUCED: the exponent qp / 6 is an integer division (log entry 46). -/
def rowWeight (h : Nat × Nat) : Nat := max 1 (h.1 * 2 ^ (h.2 / 6))

/-- The weight of row `r`: from the picture coded last, 1 without history. -/
def histWeight (h : List (Nat × Nat)) (r : Nat) : Nat :=
  match h[r]? with
  | some e => rowWeight e
  | none => 1

/-- qp(r) of R192. -/
def Device.rowQp (d : Device) (n : Nat) (j : EncJob) (r : Nat) : Nat :=
  let w := d.encW n
  let h := d.encH n
  let hist := (d.enc n).hist
  match hist[r]? with
  | none => d.get F.ENC_SESS_QP_QP_INIT n
  | some (bp, qp) =>
    let first := r * ctuCols w
    let sum := (List.range (ctuRows h - r)).foldl (fun t k => t + histWeight hist (r + k)) 0
    let a : Int := (128 * ctuCols w + 320 : Nat) + ((j.target - j.spent - floorFrom w h first) * histWeight hist r) / sum
    let step := clampI (-6) 6 (qlOf bp - qlOf a)
    (clampI (d.get F.ENC_SESS_QP_QP_MIN n) (d.get F.ENC_SESS_QP_QP_MAX n) (qp + step)).toNat

/-- Code the CTUs of a row from CTU `k` on, given their bits at the row's QP and at the floor: spent bits, floor mode, the CTUs
coded at floor (R192). From CTU `stop` of the picture on every CTU is coded at floor (R196). -/
def codeCtus (w h cap stop : Nat) : Nat → Nat → Bool → List Nat → List (Nat × Nat) → Nat × Bool × List Nat
  | _, spent, fm, co, [] => (spent, fm, co)
  | k, spent, fm, co, (bq, bf) :: r =>
    if fm || decide (stop ≤ k) then codeCtus w h cap stop (k + 1) (spent + bf) fm (co ++ [k]) r
    else if cap < spent + bq + floorFrom w h (k + 1) then codeCtus w h cap stop (k + 1) (spent + bf) true (co ++ [k]) r
    else codeCtus w h cap stop (k + 1) (spent + bq) fm co r

/-! ## What a core can deliver (R181, R187, R188, R190, R191, R198) -/

/-- The colour description of the VUI (R181). -/
def colourCodes : Nat → Nat × Nat × Nat
  | 0 => (1, 1, 1) | 1 => (9, 16, 9) | 2 => (9, 18, 9) | _ => (2, 2, 2)

/-- The sequence parameter set of a session (R176, R181, R182, R198). DEDUCED: timing information gives the picture rate of R180
(log entry 151). -/
def Device.encSps (d : Device) (n : Nat) : SpsCode where
  profile := 2
  level := d.get F.ENC_SESS_STATE_LEVEL n
  tier := d.get F.ENC_SESS_STATE_TIER n
  chroma := 1
  bitLuma := 10
  bitChroma := 10
  w := d.encW n
  h := d.encH n
  reorder := 0
  dpbMinus1 := 1
  latencyPlus1 := 0
  ctu := 6
  minCu := 3
  minTu := 2
  maxTu := 5
  sao := true
  amp := true
  temporalMvp := false
  scalingList := false
  pcm := false
  longTerm := false
  fullRange := false
  colour := colourCodes (d.get F.ENC_SESS_CFG_COLOUR n)
  timing := if d.on F.ENC_SESS_CFG_HDR n then some (d.nd.2 * (d.get F.ENC_SESS_CFG_DIVISOR n + 1), d.nd.1) else none

/-- The picture parameter set of every session (R181). -/
def encPps : PpsCode := ⟨true, true, true, false, false, false, false⟩

/-- The non-VCL NAL units before the slices of a picture (R181, R188): a delimiter in every one, parameter sets in the IDR picture
and in the first picture of a period, which carries a recovery point too. -/
def Device.encUnits (d : Device) (n : Nat) (j : EncJob) : List NalContent :=
  [.aud] ++
  (if j.idr || j.starts then [.vps (d.get F.ENC_SESS_STATE_LEVEL n) (d.get F.ENC_SESS_STATE_TIER n), .sps (d.encSps n), .pps encPps] else []) ++
  (if j.starts then [.recovery (d.encK n - 1) true false] else [])

/-- The NAL unit type in the header of a NAL unit. -/
def nalType (b : List Byte) : Nat := (b.getD 0 0).toNat / 2 % 64

/-- The NAL unit type of a slice (R181): IDR_N_LP or TRAIL_R (log entry 134). -/
def EncJob.sliceType (j : EncJob) : Nat := if j.idr then 20 else 1

/-- The last sample of the reference picture that predicting `n` samples from `a` on uses, with interpolation taps: `per` steps of
the motion vector to a sample, `right` taps to the right of a fractional position. -/
def refLast (a n : Nat) (mv per right : Int) : Int := a + n - 1 + mv / per + (if mv % per = 0 then 0 else right)

/-- The first one, with `left` taps to its left. -/
def refFirst (a : Nat) (mv per left : Int) : Int := a + mv / per - (if mv % per = 0 then 0 else left)

/-- A block of the CTU at luma position (x0, y0) is predicted within the ranges of R190: the motion vector, the search window, and
the block within the CTU. -/
def blockInWindow (b : PredBlock) (x0 y0 : Nat) : Bool :=
  decide (x0 ≤ b.x) && decide (b.x + b.w ≤ x0 + 64) && decide (y0 ≤ b.y) && decide (b.y + b.h ≤ y0 + 64) &&
  decide (-512 ≤ b.mvx) && decide (b.mvx ≤ 508) && decide (-256 ≤ b.mvy) && decide (b.mvy ≤ 252) &&
  decide ((x0 : Int) - 132 ≤ refFirst b.x b.mvx 4 3) && decide (refLast b.x b.w b.mvx 4 4 ≤ x0 + 195) &&
  decide ((y0 : Int) - 68 ≤ refFirst b.y b.mvy 4 3) && decide (refLast b.y b.h b.mvy 4 4 ≤ y0 + 131)

/-- A block of the clean region is predicted from luma at x ≤ 64 × b(j) − 12, and from the matching chroma (R188). -/
def blockClean (b : PredBlock) (edge : Nat) : Bool :=
  decide (refLast b.x b.w b.mvx 4 4 ≤ 64 * edge - 12) && decide (refLast (b.x / 2) (b.w / 2) b.mvx 8 2 ≤ (64 * edge - 12) / 2)

/-- The core may code CTU `k` of a picture as it says (R187, R188, R190, R191): `fl` says that the CTU is coded at floor. The IDR
picture and the refreshed columns are intra-coded, and the latter use no sample to their right. -/
def ctuAllowed (c : CtuCode) (j : EncJob) (w kk k : Nat) (fl : Bool) : Bool :=
  let cx := k % ctuCols w
  let band := gdrBand w kk j.pos
  let inBand := !j.idr && decide (band.1 ≤ cx) && decide (cx < band.2)
  decide (c.floorBits ≤ 128) && decide (c.floorDc.length ≤ 4) && c.floorDc.all (fun v => decide (v.natAbs ≤ 15)) &&
  (fl || !(j.idr || inBand) || c.blocks.isEmpty) &&
  (fl || c.blocks.all (fun b => blockInWindow b (64 * cx) (64 * (k / ctuCols w)) && (decide (band.1 ≤ cx) || blockClean b band.1))) &&
  (!inBand || (match c.intraRight with
    | some x => decide (x < 64 * band.2)
    | none => true))

/-- Lines of a plane have their length and hold 10-bit samples. -/
def planeOk (w h : Nat) (p : List (List Nat)) : Bool :=
  decide (p.length = h) && p.all (fun l => decide (l.length = w) && l.all (fun v => decide (v < 1024)))

/-- The hash SEI message of a picture (R181): with the last row where HASH_SEI asks for it, over the reconstruction. The hash is
named and not given (log entry 138). -/
def Device.encHashOk (d : Device) (n : Nat) (j : EncJob) (last : Bool) (e : EncRow) : Bool :=
  if last && d.on F.ENC_SESS_CFG_HASH_SEI n then
    match e.hash with
    | some (c, b) => decide (c = .hash 1 (Config.pictureHash 1 j.luma j.cb j.cr)) && decide (b.length = j.hashLen)
    | none => false
  else e.hash.isNone

/-- A CTU row of a picture is coded (R192), from what the core delivers for it; none where no core can deliver that. -/
def Device.encRow (d : Device) (m : Memory) (n : Nat) (j : EncJob) (e : EncRow) (stop : Nat) : Option EncJob :=
  let w := d.encW n
  let h := d.encH n
  let rows := min 64 (h - 64 * j.row)
  let first := decide (j.row = 0)
  let nonVcl := if first then e.nonVcl.map Prod.snd ++ (if j.sei.isEmpty then [] else [j.sei]) else []
  let ovh := 8 * (nonVcl.flatten.length + (if first then e.hashLen else 0))
  let s0 := j.spent + ovh
  let qp := d.rowQp n { j with spent := s0 } j.row
  let k0 := j.row * ctuCols w
  let r := codeCtus w h j.cap stop k0 (s0 + e.hdrBits) j.floorMode j.coarse (e.ctus.map (fun c => (c.bits, c.floorBits)))
  let src := d.encSource m n j j.row
  let hash := match e.hash with
    | some q => [q.2]
    | none => []
  let j' : EncJob :=
    { j with row := j.row + 1, spent := r.1, floorMode := r.2.1, coarse := r.2.2, hist := j.hist ++ [(r.1 - s0, qp)],
             nals := j.nals ++ nonVcl ++ [e.slice] ++ hash, slices := j.slices ++ [e.slice], hashLen := if first then e.hashLen else j.hashLen,
             srcY := j.srcY ++ src.1, srcCb := j.srcCb ++ src.2.1, srcCr := j.srcCr ++ src.2.2,
             luma := j.luma ++ e.luma, cb := j.cb ++ e.cb, cr := j.cr ++ e.cr }
  if decide (e.nonVcl.map Prod.fst = if first then d.encUnits n j else []) && (first || decide (e.hashLen = 0)) &&
     (!first || (d.on F.ENC_SESS_CFG_HASH_SEI n) || decide (e.hashLen = 0)) &&
     (!first || decide (ovh ≤ d.encOverhead n)) && decide (e.hdrBits ≤ 320) && decide (e.ctus.length = ctuCols w) &&
     (e.ctus.zipIdx).all (fun q => ctuAllowed q.1 j w (d.encK n) (k0 + q.2) (decide (k0 + q.2 ∈ r.2.2))) &&
     decide (8 * e.slice.length = r.1 - s0) && decide (nalType e.slice = j.sliceType) &&
     planeOk w rows e.luma && planeOk (w / 2) (rows / 2) e.cb && planeOk (w / 2) (rows / 2) e.cr &&
     d.encHashOk n j' (decide (ctuRows h ≤ j'.row)) e then some j'
  else none

/-! ## Records of a coded picture (R201, R202) -/

/-- Y(r) of R201. -/
def feedY (h r : Nat) : Nat := 2 * (r * h / 32)

/-- The first and last line of tile row `r`. -/
def feedRows (h r : Nat) : Nat × Nat := (feedY h r, if r = 15 then h else feedY h (r + 1))

/-- Samples of a region of a plane as bytes. -/
def planeBytes (p : List (List Nat)) (x0 x1 y0 y1 : Nat) : List Byte :=
  (List.range (y1 - y0)).flatMap (fun k => (List.range (x1 - x0)).flatMap (fun i => beBytes 2 ((p.getD (y0 + k) []).getD (x0 + i) 0)))

/-- The check of tile `i` (R201). -/
def EncJob.tileCheck (j : EncJob) (w h i : Nat) : BitVec 32 :=
  let x0 := tileX w 2 (i % 16)
  let x1 := tileX w 2 (i % 16 + 1)
  let y := feedRows h (i / 16)
  BitVec.ofNat 32 (crc32c (planeBytes j.luma x0 x1 y.1 y.2 ++ planeBytes j.cb (x0 / 2) (x1 / 2) (y.1 / 2) (y.2 / 2) ++
    planeBytes j.cr (x0 / 2) (x1 / 2) (y.1 / 2) (y.2 / 2)))

/-- COARSE of tile `i`: a pixel of it lies in a CTU coded at floor (R201). -/
def EncJob.tileCoarse (j : EncJob) (w h i : Nat) : Bool :=
  let x0 := tileX w 2 (i % 16)
  let x1 := tileX w 2 (i % 16 + 1)
  let y := feedRows h (i / 16)
  j.coarse.any (fun k =>
    let cx := k % ctuCols w * 64
    let cy := k / ctuCols w * 64
    decide (cx < x1) && decide (x0 < cx + 64) && decide (cy < y.2) && decide (y.1 < cy + 64))

/-- Age and STALE of tile `i` in OUTPUT mode: over the records of the followed output's tiles that hold a pixel of it (R202). -/
def outputAge (r : OutRec) (rec : Nat → Option TileRec) (ox oy w h i : Nat) : Nat × Bool :=
  let x0 := ox + tileX w 2 (i % 16)
  let x1 := ox + tileX w 2 (i % 16 + 1)
  let y0 := oy + (feedRows h (i / 16)).1
  let y1 := oy + (feedRows h (i / 16)).2
  let g := fmtG r.format
  let hit := (List.range 256).filter (fun t =>
    decide (tileX r.width g (t % 16) < x1) && decide (x0 < tileX r.width g (t % 16 + 1)) &&
    decide (tileY r.height (t / 16) < y1) && decide (y0 < tileY r.height (t / 16 + 1)))
  hit.foldl (fun a t => match rec t with
    | some q => (max a.1 q.age, a.2 || q.stale)
    | none => a) (0, false)

/-- The frame of the followed output that a picture shows, with its records: the frame sealed in tick c, or in CTU-row mode
before its seal the tiles composed so far (R202). -/
def Device.shownFrame (d : Device) (n : Nat) (j : EncJob) : Option (OutRec × (Nat → Option TileRec)) :=
  let o := d.get F.ENC_SESS_CFG_ID n
  let fromSeal (q : SealedOut) : OutRec × (Nat → Option TileRec) := (q.orec, fun t => q.recs[t]?)
  match j.shown with
  | some q => some (fromSeal q)
  | none =>
    match (d.outp o).prev.filter (fun q => decide (q.tick = j.tick)) with
    | some q => some (fromSeal q)
    | none => (d.outRec? o).map (fun r => (r, fun t => Tab.find (d.outp o).tiles t))

/-- The 256 records of a coded picture. -/
def Device.feedRecs (d : Device) (n : Nat) (j : EncJob) : List TileRec :=
  let w := d.encW n
  let h := d.encH n
  let shown := d.shownFrame n j
  (List.range 256).map (fun i =>
    let a : Nat × Bool := if d.get F.ENC_SESS_CFG_FOLLOW n = 0 then
        match shown with
        | some q => outputAge q.1 q.2 (d.get F.ENC_SESS_ORIGIN_X n) (d.get F.ENC_SESS_ORIGIN_Y n) w h i
        | none => (63, true)
      else (j.age, j.stale)
    ⟨j.tileCheck w h i, a.2, j.tileCoarse w h i, a.1⟩)

/-! ## A row and a picture are done -/

/-- The reconstruction of a picture in its berth, in format 0x09 (R124, R185). -/
def reconWrite (dram : Dram) (base w h : Nat) (j : EncJob) : Dram :=
  let stride := fmtStride 9 w
  let line (l : List Nat) : List Byte := l.flatMap (fun v => leBytes 2 v)
  let lum := (List.range h).foldl (fun (m : Dram) y => m.writeList (base + stride * y) (line (j.luma.getD y []))) dram
  (List.range (h / 2)).foldl (fun (m : Dram) y =>
    m.writeList (base + stride * h + stride * y) ((List.range (w / 2)).flatMap (fun x =>
      leBytes 2 ((j.cb.getD y []).getD x 0) ++ leBytes 2 ((j.cr.getD y []).getD x 0)))) lum

/-- The tag of the source that a picture shows, 0 where the session follows an output (R296). -/
def Device.jobTag (d : Device) (n : Nat) (j : EncJob) : Nat :=
  if d.get F.ENC_SESS_CFG_FOLLOW n = 0 then 0
  else match j.input with
    | some b => d.berthTag (d.get F.ENC_SESS_CFG_ID n) b
    | none => 0

/-- Filler data of a number of bits (R192). PRESUMED: one NAL unit of whole bytes of the filler data type of H.265, none where
it has no room (log entry 149). -/
def fillerNal (bits : Nat) : List (List Byte) :=
  if bits / 8 < 3 then [] else [[0x4C, 0x01] ++ List.replicate (bits / 8 - 3) 0xFF ++ [0x80]]

/-- NAL units pass into the session's ring. -/
def Chip.encRing (c : Chip) (n : Nat) (nals : List (List Byte)) : Chip :=
  let d := c.dev
  let x := d.enc n
  let base := d.addr40 F.ENC_BS_BASE_LO_ADDR_LO F.ENC_BS_BASE_HI_ADDR_HI + n * 16777216
  let bytes := nals.flatten
  { c with mem := { c.mem with dram := ringWrite c.mem.dram base 16777216 x.ringPos bytes }
           dev := d.setEnc n { x with ringPos := (x.ringPos + bytes.length) % 16777216 } }

/-- NAL units of a picture that is still being coded join what is sent of it: no more of one whose check has failed (R195,
R203). -/
def feedMore (feeds : List Feed) (j : EncJob) (nals : List (List Byte)) (crcs : List (BitVec 32)) : List Feed :=
  if feeds.any (fun f => !f.whole) then
    feeds.map (fun f => if f.whole then f else { f with nals := if f.dead then [] else f.nals ++ nals, crcs := f.crcs ++ crcs })
  else feeds ++ [⟨j.tick, false, j.admitted, nals, 0, crcs, false, [], j.pace, false, [], false⟩]

/-- The feed of a coded picture: the whole of it in frame mode, the rest of it in CTU-row mode. -/
def feedWhole (feeds : List Feed) (j : EncJob) (filler : List (List Byte)) (recs : List TileRec) : List Feed :=
  if j.ctuRow then (feedMore feeds j filler []).map (fun f => if f.whole then f else { f with whole := true, recs := recs })
  else feeds ++ [⟨j.tick, false, j.admitted + 1, j.nals ++ filler, 0, j.slices.map (fun s => BitVec.ofNat 32 (crc32c s)), true, recs, j.pace,
    false, [], false⟩]

/-- The first picture of a session is complete: rate control closes (R192 to R196), its records are made, it goes out, and the
rate control of the next picture begins. -/
def Chip.encClose (c : Chip) (n : Nat) (j : EncJob) : Chip :=
  let x := c.dev.enc n
  let fill := if c.dev.get F.ENC_SESS_CFG_RC n = 0 then j.b - x.v - j.spent else 0
  let p := j.spent + fill
  let v := x.v + p - j.b
  let c := c.encRing n (fillerNal fill)
  let d := c.dev
  let x := d.enc n
  let recs := d.feedRecs n j
  let dram := match x.rec1 with
    | some b => reconWrite c.mem.dram (d.berthAddr b) (d.encW n) (d.encH n) j
    | none => c.mem.dram
  let d := d.setEnc n { x with v := v, p := x.p + 1, hist := j.hist, jobs := x.jobs.tail, feeds := feedWhole x.feeds j (fillerNal fill) recs,
                               rec0 := x.rec1, rec1 := x.rec0,
                               checks := (x.checks ++ [FeedCheck.mk d.tick.num j.tick recs j.timeFloor j.idr (d.jobTag n j)]).drop (x.checks.length - 3) }
  let d := match j.input with
    | some b => d.release b (.enc n)
    | none => d
  let d := ((d.put F.ENC_SESS_FULLNESS_BITS n v).put F.ENC_SESS_LAST_BITS_BITS n p).put F.ENC_SESS_STATE_PERIOD_POS n j.pos
  let d := d.bump F.ENC_SESS_CNT_CODED_COUNT n 1
  let d := if j.floorMode then (d.bump F.ENC_SESS_CNT_RATE_FLOOR_COUNT n 1).raise F.ENC_EVENTS_RATE_FLOOR n else d
  let d := if j.timeFloor then (d.bump F.ENC_SESS_CNT_TIME_FLOOR_COUNT n 1).raise F.ENC_EVENTS_TIME_FLOOR n else d
  let m : Memory := { c.mem with dram := dram }
  { c with mem := m, dev := d.encTurn m n x.jobs.length }

/-- What a row adds: its bytes in the session's ring, the performance counts, and in CTU-row mode its packets. -/
def Chip.encRowOut (c : Chip) (n : Nat) (old j : EncJob) (e : EncRow) : Chip :=
  let new := j.nals.drop old.nals.length
  let c := c.encRing n new
  let d := c.dev
  let x := d.enc n
  let core := d.get F.ENC_SESS_STATE_CORE n
  let feeds := if j.ctuRow then feedMore x.feeds j new [BitVec.ofNat 32 (crc32c e.slice)] else x.feeds
  let d := (d.count 0x0B core e.ctus.length).count 0x0C core (j.coarse.length - old.coarse.length)
  { c with dev := d.setEnc n { x with jobs := j :: x.jobs.tail, feeds := feeds } }

/-- Code one row of the first picture of a session, and close the picture with its last row; none where no core can deliver the
row. -/
def Chip.encDo (c : Chip) (n : Nat) (e : EncRow) (stop : Nat) : Option Chip :=
  match (c.dev.enc n).jobs with
  | [] => none
  | j :: _ => (c.dev.encRow c.mem n j e (if j.memFloor then 0 else stop)).map (fun j' =>
      let c := c.encRowOut n j j' e
      if ctuRows (c.dev.encH n) ≤ j'.row then c.encClose n j' else c)

/-- The first picture of a session has begun and, in CTU-row mode, its next row has started (R195). -/
def Device.encReady (d : Device) (n : Nat) : Bool :=
  match (d.enc n).jobs with
  | j :: _ => j.begun && j.started && (!j.ctuRow || decide (j.row < j.ready))
  | [] => false

/-- A row of the first picture may be coded: on a core, rows of a CTU-row session go before jobs of a frame-mode session
(R195). -/
def Device.encMay (d : Device) (n : Nat) : Bool :=
  d.encReady n &&
  (d.on F.ENC_SESS_CFG_PIPE n ||
    !(List.range 32).any (fun k => d.encOpened k && d.on F.ENC_SESS_CFG_PIPE k && d.encReady k &&
      decide (d.get F.ENC_SESS_STATE_CORE k = d.get F.ENC_SESS_STATE_CORE n)))

/-- ENC_SLICE_COMPLETE. A row that no core can deliver is no event of the device, and has no effect (log entry 152). -/
def Chip.encSlice (c : Chip) (n : Nat) (e : EncRow) : Chip :=
  if c.dev.encMay n then (c.encDo n e (2 ^ 32)).getD c else c

/-- ENC_CTU_ROW_START: every tile of the followed output that holds a line of the next row is composed or
replaced (R195). -/
def Device.encRowStart (d : Device) (n : Nat) : Device :=
  let x := d.enc n
  match x.jobs.find? (fun j => j.ctuRow && !j.missing && decide (j.ready < ctuRows (d.encH n))) with
  | none => d
  | some j =>
    let o := d.get F.ENC_SESS_CFG_ID n
    match d.outRec? o with
    | none => d
    | some r =>
      let oy := d.get F.ENC_SESS_ORIGIN_Y n
      let y0 := oy + 64 * j.ready
      let y1 := oy + min (64 * (j.ready + 1)) (d.encH n)
      let done := j.admitted < d.edges ∨ d.tick.sealRan
      let tiles := (List.range 256).filter (fun t => decide (tileY r.height (t / 16) < y1) && decide (y0 < tileY r.height (t / 16 + 1)))
      if j.started ∧ (done ∨ tiles.all (fun t => (Tab.find (d.outp o).tiles t).isSome)) then
        d.setEnc n { x with jobs := x.jobs.map (fun k => if k = j then { j with ready := j.ready + 1 } else k) }
      else d

/-- The deadline of the first picture of a session has come: all its rows may be coded, and the core is marked late (R196). -/
def Device.deadlineStart (d : Device) (n : Nat) (j : EncJob) : Device :=
  let d := if j.ctuRow then d.waitUntil (d.pointNs j.tick 110) else d.waitPoint 85
  d.setEnc n { d.enc n with jobs := { j with timeFloor := true, ready := ctuRows (d.encH n) } :: (d.enc n).jobs.tail }

/-- The rows that a picture has left, coded one after the other; none where no core can deliver one of them. -/
def Chip.encLeft (c : Chip) (n stop : Nat) (rows : List EncRow) : Option Chip :=
  rows.foldl (fun (o : Option Chip) e => o.bind (fun c => c.encDo n e stop)) (some c)

/-- ENC_DEADLINE: every CTU not yet coded is coded at floor (R196). `coded` CTUs of the row in progress were coded before it;
`rows` are all the rows that are left. Rows that no core can deliver have no effect (log entry 152). -/
def Chip.encDeadline (c : Chip) (n coded : Nat) (rows : List EncRow) : Chip :=
  match (c.dev.enc n).jobs with
  | [] => c
  | j :: _ =>
    if !(j.begun && j.started) || decide (rows.length ≠ ctuRows (c.dev.encH n) - j.row) then c
    else
      let cols := ctuCols (c.dev.encW n)
      ((c.mapDev (fun (d : Device) => d.deadlineStart n j)).encLeft n (j.row * cols + min coded cols) rows).getD c

/-- A BIT_RATE that takes effect sets level and tier anew (R182, R186). -/
def Device.encRateEdge (d : Device) (n : Nat) : Device :=
  let lv := d.encLevel n (d.get F.ENC_SESS_RATE_BIT_RATE n)
  (d.put F.ENC_SESS_STATE_LEVEL n lv.1).put F.ENC_SESS_STATE_TIER n lv.2

/-- A PERIOD write that takes effect starts a new period at the next coded picture (R189). -/
def Device.encPeriodEdge (d : Device) (n : Nat) : Device :=
  if d.encOpened n then d.setEnc n { d.enc n with restart := true } else d

/-! ## Feeds on the wire (R200, R203, R224) -/

/-- The next packet of a NAL unit: its payload, and the bytes of the NAL unit then sent. PRESUMED: the payload
header and FU header of RFC 7798, which the spec names (log entry 47). -/
def nalPacket (mx : Nat) (nal : List Byte) (off : Nat) : List Byte × Nat :=
  if nal.length ≤ mx then (nal, nal.length)
  else
    let b0 := (nal.getD 0 0).toNat
    let b1 := (nal.getD 1 0).toNat
    let off := max off 2
    let n := min (mx - 3) (nal.length - off)
    let t := b0 / 2 % 64
    (beBytes 1 (b0 / 128 * 128 + 49 * 2 + b0 % 2) ++ beBytes 1 b1 ++
      beBytes 1 ((if off = 2 then 128 else 0) + (if off + n = nal.length then 64 else 0) + t) ++ (nal.drop off).take n, off + n)

/-- The pacing rate of a feed in Mbit/s, as a numerator and denominator; none at line rate (R194, R224). -/
def Device.feedRate (d : Device) (n : Nat) (f : Feed) : Option (Nat × Nat) :=
  let pm := d.get F.NET_TX_PKT_PACE_MBPS (32 + n)
  if pm = 0 then none
  else
    let r := max pm (ceilDiv (d.get F.ENC_SESS_RATE_BUF_PICS n * d.get F.ENC_SESS_RATE_BIT_RATE n) 1000)
    some (r * f.pace.1, max 1 f.pace.2)

/-- The time that a packet of a feed keeps the wire: by the pacing rate over its UDP payload, or at the line rate of its slowest
port over the whole frame (R224). PRESUMED: 20 bytes of preamble and gap. -/
def Device.feedGap (d : Device) (n : Nat) (f : Feed) (ps : List Nat) (len : Nat) : Nat :=
  match d.feedRate n f with
  | some r => ceilDiv (8 * len * 1000 * r.2) (max 1 r.1)
  | none => (ps.map (fun k => let p := d.pathPort (32 + n) k
                              ceilDiv (8 * (frameLen (d.txTag p).isSome len + 20)) (d.portGbps p))).foldl max 0

/-- The first picture of a session on its way out. -/
def Device.feedHead (d : Device) (n : Nat) : Option Feed := (d.enc n).feeds.head?

/-- Replace the first picture on its way out. -/
def Device.setFeed (d : Device) (n : Nat) (f : Feed) : Device :=
  let x := d.enc n
  d.setEnc n { x with feeds := f :: x.feeds.tail }

/-- Every packet of the picture has left and every check has passed (R203). -/
def Device.feedDone (d : Device) (n : Nat) (f : Feed) : Bool :=
  let ps := if d.txOn (32 + n) then d.paths (32 + n) else []
  f.whole && (ps.isEmpty || (f.nals.isEmpty && decide (f.checked.length = f.crcs.length * ps.length)))

/-- A loopback failure of a feed: no further packet, and the next coded picture starts a period (R189, R203). -/
def Device.feedFail (d : Device) (n reason : Nat) (f : Feed) : Device :=
  let d := d.setFeed n { f with nals := [], dead := true }
  let x := d.enc n
  (d.setEnc n { x with restart := true }).loopbackFail (32 + n) reason 0

/-- FEED_PACKET_SEND: the next packet of a feed leaves on each path (R195, R224). -/
def Device.feedSend (d : Device) (n lateNs : Nat) : Device :=
  let e := 32 + n
  let ps := if d.txOn e then d.paths e else []
  match d.feedHead n with
  | none => d
  | some f =>
    let x := d.outp e
    if f.missing || ps.isEmpty || x.failed || decide (d.edges < f.startEdge) || !(d.inTick || d.tick.gap) then d
    else if !f.begun && (match x.lastTick with | some t => decide (f.tick ≤ t) | none => false) then d.feedFail n 2 { f with begun := true }
    else match f.nals with
      | [] => d
      | nal :: rest =>
        let d := (d.elapse ((d.enc n).nextNs - d.now)).elapse lateNs
        let q := nalPacket (d.get F.NET_TX_PKT_MAX_PAYLOAD e) nal f.off
        let whole := decide (nal.length ≤ q.2)
        let last := whole && rest.isEmpty && f.whole
        let ext := d.txExt e
        let pkt := rtpHeader last (d.get F.NET_TX_CFG_PT e) (ext % 65536) (d.videoTs f.tick) (d.get F.NET_TX_SSRC_VALUE e) ++ q.1
        let d := if d.sends then forL ps (fun k (d : Device) => d.sendVideo e k pkt) d else d
        let d := d.setExt e (ext + 1)
        let d := d.lateNote e lateNs
        let d := d.setFeed n { f with begun := true, nals := if whole then rest else f.nals, off := if whole then 0 else q.2 }
        d.setEnc n { d.enc n with nextNs := d.now + d.feedGap n f ps pkt.length }

/-- The packets of NAL units that leave by the crystal's time `until_`, the first not before `at_`, with the time that the next one
may leave and whether all have left. -/
def Device.nalsAhead (d : Device) (n : Nat) (f : Feed) (ps : List Nat) (until_ : Nat) : Nat → Nat → List (List Byte) → Nat → Nat × Nat × Bool
  | 0, at_, l, _ => (0, at_, l.isEmpty)
  | _ + 1, at_, [], _ => (0, at_, true)
  | k + 1, at_, nal :: rest, off =>
    if until_ < at_ then (0, at_, false)
    else
      let q := nalPacket (d.get F.NET_TX_PKT_MAX_PAYLOAD (32 + n)) nal off
      let next := at_ + d.feedGap n f ps (12 + q.1.length)
      let r := if nal.length ≤ q.2 then d.nalsAhead n f ps until_ k next rest 0 else d.nalsAhead n f ps until_ k next (nal :: rest) q.2
      (r.1 + 1, r.2)

/-- The packets and stamps that the pictures of a session on their way out still send by the end of the tick (R224, R289). -/
def Device.feedsAhead (d : Device) (n : Nat) : Nat × Nat :=
  let ps := if d.txOn (32 + n) then d.paths (32 + n) else []
  let until_ := d.now + (d.edgeNs (d.tick.num + 1) - d.devNs)
  let r := (d.enc n).feeds.foldl (fun (a : Nat × Nat × Nat × Bool) f =>
    if !a.2.2.2 || decide (d.edges < f.startEdge) then (a.1, a.2.1, a.2.2.1, false)
    else if f.missing then (a.1, a.2.1 + 1, a.2.2)
    else
      let q := if ps.isEmpty || f.dead then (0, a.2.2.1, true)
        else d.nalsAhead n f ps until_ ((f.nals.map (fun l => l.length + 1)).sum) a.2.2.1 f.nals f.off
      (a.1 + q.1, a.2.1 + (if q.2.2 && f.whole then 1 else 0), q.2.1, q.2.2 && f.whole)) (0, 0, max d.now (d.enc n).nextNs, true)
  (r.1, r.2.1)

/-- FEED_LOOPBACK_CHECK: the bytes of a slice that passed the checker of a path (R203). -/
def Device.feedCheck (d : Device) (n path slice : Nat) (bytes : List Byte) : Device :=
  match d.feedHead n with
  | none => d
  | some f =>
    if f.missing || !f.begun || (d.outp (32 + n)).failed || decide ((path, slice) ∈ f.checked) || !decide (path ∈ d.paths (32 + n)) then d
    else match f.crcs[slice]? with
      | none => d
      | some v => if BitVec.ofNat 32 (crc32c bytes) = v then d.setFeed n { f with checked := f.checked ++ [(path, slice)] } else d.feedFail n 1 f

/-- The first picture on its way out is gone. -/
def Device.feedPop (d : Device) (n : Nat) : Device :=
  let x := d.enc n
  let d := d.setEnc n { x with feeds := x.feeds.tail }
  d.setOut (32 + n) { d.outp (32 + n) with failed := false, stampDue := false }

/-- STAMP_SEND of a feed (R199, R200): after a failed check, when the picture is whole. -/
def Device.stampFeed (d : Device) (n : Nat) : Device :=
  match d.feedHead n with
  | none => d
  | some f =>
    let w := d.encW n
    let h := d.encH n
    let want := d.on F.ENC_SESS_CFG_STAMP n
    let ts := d.videoTs f.tick
    let go (b : StampBody) : Device := (if want then d.formStamp (32 + n) f.tick b else d).feedPop n
    if f.missing then (if f.startEdge ≤ d.edges then go ⟨2, w, h, 0, 8, List.replicate 256 TileRec.none_⟩ else d)
    else if (d.outp (32 + n)).failed then
      (if f.whole then go ⟨3, w, h, ts, 8, f.recs.map (fun r => { r with stale := true })⟩ else d)
    else if d.feedDone n f then go ⟨if f.recs.any (fun r => r.stale) then 1 else 0, w, h, ts, 8, f.recs⟩
    else d

/-! ## Meanings -/

/-- STAMP_SEND of an output (entry below 32) or of the feed of session entry − 32. -/
def execStampSend (entry : Nat) (s : State) : Host.Outcome State Fault Refusal :=
  onDev (fun d => if entry < 32 then d.stampOut entry else d.stampFeed (entry - 32)) s

/-- ENC_CTU_ROW_START. -/
def execEncCtuRowStart (session : Nat) (s : State) : Host.Outcome State Fault Refusal := onDev (fun d => d.encRowStart session) s

/-- ENC_SLICE_COMPLETE. -/
def execEncSliceComplete (session : Nat) (row : EncRow) (s : State) : Host.Outcome State Fault Refusal := onChip (fun c => c.encSlice session row) s

/-- ENC_DEADLINE. -/
def execEncDeadline (session coded : Nat) (rows : List EncRow) (s : State) : Host.Outcome State Fault Refusal :=
  onChip (fun c => c.encDeadline session coded rows) s

/-- FEED_PACKET_SEND. -/
def execFeedPacketSend (session lateNs : Nat) (s : State) : Host.Outcome State Fault Refusal := onDev (fun d => d.feedSend session lateNs) s

/-- FEED_LOOPBACK_CHECK. -/
def execFeedLoopbackCheck (session path slice : Nat) (bytes : List Byte) (s : State) : Host.Outcome State Fault Refusal :=
  onDev (fun d => d.feedCheck session path slice bytes) s

end Sys2Proof.Machine
end

