-- ==== Sys2Proof/Machine/Time.lean ====
section
/-!
DEFINITION. Time (R256 to R277): PTP messages, the two servos, steering by rate, steps, the servo in use and
holdover, TICK_OUT, triggers and captures.
-/

namespace Sys2Proof.Machine

def Device.servo (d : Device) (v : Nat) : Servo := Tab.get d.time.servos Servo.empty v
def Device.setServo (d : Device) (v : Nat) (x : Servo) : Device :=
  { d with time := { d.time with servos := Tab.set d.time.servos v x } }

/-- The state of a servo (R262). -/
def Device.srvSt (d : Device) (v : Nat) : Nat := d.get F.TIME_SRV_STATE_STATE v

/-- A servo is locked in SLEWING or TRACKING (R262). -/
def Device.srvLocked (d : Device) (v : Nat) : Bool := decide (d.srvSt v = 3) || decide (d.srvSt v = 4)

/-- The servo in use. -/
def Device.inUse (d : Device) : Nat := d.get F.TIME_STATUS_IN_USE

/-- One second in units of 2^-16 ns. -/
def secQ : Int := 1000000000 * 65536

/-! ## Rate correction (R263, R265) -/

/-- The loop bandwidth as a fraction of 1 Hz. -/
def bwFrac : Nat → Int × Int
  | 0 => (1, 20) | 1 => (1, 10) | 2 => (1, 4) | _ => (1, 1)

/-- ω in units of 10^-15 rad/s times the denominator of the bandwidth, with π to 15 decimals (log entry 53). -/
def omega (bw : Nat) : Int × Int := (2 * 3141592653589793 * (bwFrac bw).1, 1000000000000000 * (bwFrac bw).2)

/-- 2ζω·o + ω²·I in parts per 10^9, rounded down, from o in 2^-16 ns and I in 2^-16 ns times ns. -/
def steer (bw : Nat) (o i : Int) : Int :=
  let (n, m) := omega bw
  (2 * n * o * m * 1000000000 + n * n * i) / (m * m * 65536 * 1000000000)

/-- The slope of samples against time in parts per 10^9 by least squares (R263). -/
def slope (l : List (Nat × Int)) : Int :=
  let n : Int := l.length
  let st : Int := (l.map (fun (p : Nat × Int) => (p.1 : Int))).sum
  let so : Int := (l.map (fun (p : Nat × Int) => p.2)).sum
  let sto : Int := (l.map (fun (p : Nat × Int) => (p.1 : Int) * p.2)).sum
  let stt : Int := (l.map (fun (p : Nat × Int) => (p.1 : Int) * p.1)).sum
  let den := n * stt - st * st
  if den = 0 then 0 else (n * sto - st * so) * 1000000000 / (den * 65536)

/-- The offset of a servo's last accepted sample. -/
def Device.offsetQ (d : Device) (v : Nat) : Int := (d.servo v).lastO

/-- The integral at which the correction equals the servo's own frequency estimate (R263, R264). -/
def Device.presetI (d : Device) (v : Nat) : Device :=
  let x := d.servo v
  let r := d.ppb - slope x.offs
  let (n, m) := omega (d.get F.TIME_SRV_CFG_BW v)
  d.setServo v { x with integ := (-r * m * m * 65536 * 1000000000 - 2 * n * d.offsetQ v * m * 1000000000) / (n * n) }

/-- Spans, the latest first, of at most 16 s together (R265). -/
def spans16 : Nat → List (Nat × Int) → List (Nat × Int)
  | _, [] => []
  | left, (n, r) :: l => if left ≤ n then [(left, r)] else (n, r) :: spans16 (left - n) l

/-- The present span of rate correction ends: it counts for the servo in use, if that is locked (R265). -/
def Device.rateSpan (d : Device) : Device :=
  let n := d.now - d.time.spanAt
  let d : Device := { d with time := { d.time with spanAt := d.now } }
  if d.srvLocked d.inUse && decide (n ≠ 0) then
    { d with time := { d.time with spans := Tab.upd d.time.spans [] d.inUse (fun l => spans16 16000000000 ((n, d.ppb) :: l)) } }
  else d

/-- A rate correction comes into force. -/
def Device.setRate (d : Device) (r : Int) : Device := d.rateSpan.put F.TIME_RATE_PPB 0 (r % 2 ^ 32).toNat

/-- The largest rate correction, in parts per 10^9. -/
def Device.slew (d : Device) : Int := d.get F.TIME_CTRL_SLEW_PPM * 1000

/-- A correction within the slew limit. -/
def Device.slewed (d : Device) (r : Int) : Int := max (-d.slew) (min d.slew r)

/-- The correction in force obeys the slew limit in force (R263). -/
def Device.clampRate (d : Device) : Device := if d.slewed d.ppb = d.ppb then d else d.setRate (d.slewed d.ppb)

/-- The correction of a servo from its offset and integral comes into force. -/
def Device.rateNow (d : Device) (v : Nat) : Device :=
  d.setRate (d.slewed (-(steer (d.get F.TIME_SRV_CFG_BW v) (d.offsetQ v) (d.servo v).integ)))

/-- The servo in use steers device time at an accepted Sync: `dt` is the time since the one before. -/
def Device.steerBy (d : Device) (v dt : Nat) : Device :=
  let x := d.servo v
  let o := d.offsetQ v
  let bw := d.get F.TIME_SRV_CFG_BW v
  let i := x.integ + o * dt
  let r := -(steer bw o i)
  if d.slewed r = r then (d.setServo v { x with integ := i }).setRate r else d.rateNow v

/-- The mean correction of the servo last in use over its last 16 s locked (R265), weighted by time. -/
def Device.meanRate (d : Device) : Int :=
  let l := Tab.get d.time.spans [] d.inUse
  let tot : Int := (l.map (fun (p : Nat × Int) => (p.1 : Int))).sum
  if tot = 0 then d.ppb else (l.map (fun (p : Nat × Int) => (p.1 : Int) * p.2)).sum / tot

/-! ## The source and the servo in use (R22, R264, R265) -/

/-- TIME_STATUS and TICK_STATUS.SRC follow the servos; entering HOLDOVER fixes the rate. -/
def Device.srcUpdate (d : Device) : Device :=
  let lock := d.srvLocked 0 || d.srvLocked 1
  let d := { d with time := { d.time with everLocked := d.time.everLocked || lock } }
  let was := d.get F.TIME_STATUS_SRC
  let src := if lock then 1 else if d.time.everLocked then 2 else 0
  let d := ((d.put F.TIME_STATUS_SRC 0 src).put F.TICK_STATUS_SRC 0 src).flag F.TIME_STATUS_DIVERGED 0
    (decide (d.srvSt 0 = 5) || decide (d.srvSt 1 = 5))
  if src = 2 ∧ was ≠ 2 then (d.setRate d.meanRate).raise F.TIME_EVENTS_HOLDOVER d.inUse else d

/-- TIME_UTC is that of the selected master of the servo in use. -/
def Device.utcUpdate (d : Device) : Device :=
  match (d.servo d.inUse).master with
  | some m =>
    (((d.put F.TIME_UTC_OFFSET 0 m.utcOffset).flag F.TIME_UTC_VALID 0 m.utcValid).flag F.TIME_UTC_LEAP61 0 m.leap61).flag
      F.TIME_UTC_LEAP59 0 m.leap59
  | none => d

/-- The servo in use changes, without a step. -/
def Device.useServo (d : Device) (v : Nat) : Device :=
  if d.inUse = v then d
  else (((d.rateSpan.put F.TIME_STATUS_IN_USE 0 v).presetI v).raise F.TIME_EVENTS_SWITCH v).utcUpdate

/-- A standby in SHADOW makes the choice that its holder made (R269). -/
def Device.timeFollows (d : Device) : Bool := decide (d.role = 3) && decide (d.get F.PAIR_STATUS_SYNC = 2)

/-- The cases of R264 in which the servo in use changes. A standby in SHADOW does not return to the preferred servo of its own
accord. -/
def Device.servoSwitch (d : Device) : Device :=
  let cur := d.inUse
  let oth := 1 - cur
  let sel := d.time.select
  let d := { d with time := { d.time with select := none } }
  match sel.filter d.srvLocked with
  | some v => d.useServo v
  | none =>
    if !d.srvLocked cur && d.srvLocked oth then d.useServo oth
    else if !d.timeFollows && d.srvLocked cur && decide (d.srvSt oth = 4) && d.on F.TIME_CTRL_REVERT &&
        decide (d.get F.TIME_CTRL_PREFER = oth) && decide ((d.servo oth).tracked ≥ 600) then d.useServo oth
    else d

/-- What a change of a servo leads to: at once while no tick edges are generated, else at the edge. -/
def Device.afterServo (d : Device) : Device := (if d.ticking then d else d.servoSwitch.clampRate).srcUpdate.utcUpdate

/-- The servo side of a tick edge. -/
def Device.servoEdge (d : Device) : Device :=
  let count (v : Nat) (d : Device) : Device :=
    let x := d.servo v
    d.setServo v { x with tracked := if d.srvSt v = 4 then x.tracked + 1 else 0 }
  (count 1 (count 0 d)).clampRate.servoSwitch.srcUpdate.utcUpdate

/-- The domain and grandmaster that a stamp carries (R70). -/
def Device.timeInfo (d : Device) : Nat × Nat :=
  if d.get F.TIME_STATUS_SRC = 0 then (0, 0)
  else (d.get F.TIME_SRV_CFG_DOMAIN d.inUse, d.get2 F.TIME_SRV_GM_LO_ID F.TIME_SRV_GM_HI_ID d.inUse)

/-! ## Servo states (R262) -/

/-- A servo enters a state; entering SLEWING or TRACKING from another one raises TIME_SRV_LOCK. -/
def Device.srvTo (d : Device) (v st : Nat) : Device :=
  let was := d.srvLocked v
  let diverges := decide (st = 5) && decide (d.srvSt v ≠ 5)
  let d := d.rateSpan.put F.TIME_SRV_STATE_STATE v st
  let d := if (st = 3 ∨ st = 4) ∧ !was then d.raise F.TIME_EVENTS_SRV_LOCK v else d
  if diverges then d.raise F.TIME_EVENTS_DIVERGED v else d

/-- Collection of samples starts again; the offset of the last accepted sample stays. -/
def Servo.fresh (x : Servo) : Servo :=
  { x with
    waitFollow := none, syncRx := none, reqAt := none, pair := none, reqLog := none, reqNext := 0, offs := [], delays := [],
    rejO := 0, rejD := 0, acqN := 0, acqD := 0, inWin := 0, outWin := 0, far := 0, tracked := 0 }

/-- Servos run while EN is 1 and their port is UP (R257). -/
def Device.servosRefresh (d : Device) : Device :=
  (forN 2 (fun v (d : Device) =>
    let run := d.on F.TIME_SRV_CFG_EN v && d.portUp (d.get F.TIME_SRV_CFG_PORT v)
    if run && decide (d.srvSt v = 0) then (d.setServo v Servo.empty).srvTo v 1
    else if !run && decide (d.srvSt v ≠ 0) then (d.setServo v { Servo.empty with lastO := (d.servo v).lastO }).srvTo v 0
    else d) d).afterServo

/-- The selected master is lost (R262). -/
def Device.servoLoss (d : Device) (v : Nat) : Device :=
  let x := d.servo v
  let x := { x.fresh with master := none, foreign := x.foreign.filter (fun f => some f.msg.sender ≠ x.master.map (fun m => m.sender)) }
  ((((d.setServo v x).srvTo v 1).bump F.TIME_SRV_CNT_LOSS_COUNT v 1).raise F.TIME_EVENTS_SRV_LOSS v).afterServo

/-! ## Steps (R266 to R269) -/

/-- Samples and times of a servo move with a step of `o`. -/
def Servo.shift (x : Servo) (o : Int) : Servo :=
  let ns := o / 65536
  { x with
    offs := x.offs.map (fun (p : Nat × Int) => (((p.1 : Int) - ns).toNat, p.2 - o))
    lastO := x.lastO - o
    acqAt := ((x.acqAt : Int) - ns).toNat
    syncRx := x.syncRx.map (fun t => ((t : Int) - ns).toNat)
    pair := x.pair.map (fun (p : Int × Nat × Int) => (p.1 - ns, p.2))
    waitFollow := x.waitFollow.map (fun (p : Nat × Nat × Int) => (p.1, ((p.2.1 : Int) - ns).toNat, p.2.2))
    reqAt := x.reqAt.map (fun (p : Nat × Int) => (p.1, p.2 - ns)) }

/-- The first grid time of a periodic trigger at or after a time. -/
def gridAfter (s p t : Nat) : Nat := if t ≤ s then s else s + (t - s + p - 1) / p * p

/-- The start time of a trigger. -/
def Device.trigStart (d : Device) (k : Nat) : Nat :=
  (d.get F.TIME_TRIG_START_SEC_LO_VALUE k + 2 ^ 32 * d.get F.TIME_TRIG_START_SEC_HI_VALUE k) * 1000000000 +
    d.get F.TIME_TRIG_START_NS_VALUE k

def Device.trig (d : Device) (k : Nat) : Trig := Tab.get d.time.trigs ⟨none, none⟩ k
def Device.setTrig (d : Device) (k : Nat) (x : Trig) : Device :=
  { d with time := { d.time with trigs := Tab.set d.time.trigs k x } }

/-- A one-shot trigger missed its start time. -/
def Device.trigMissed (d : Device) (k : Nat) : Device :=
  (d.put F.TIME_TRIG_STATUS_MISSED k 1).raise F.TIME_EVENTS_TRIG_MISSED k

/-- Triggers after a step by `ns` from the device time `old` (R273): pulses complete on the old scale, one-shots
that were jumped over are missed, periodic ones go on with their grid. -/
def Device.trigStep (d : Device) (ns : Int) : Device :=
  forN 4 (fun k (d : Device) =>
    let x := d.trig k
    let x := { x with stop := x.stop.map (fun t => ((t : Int) - ns).toNat) }
    match x.next with
    | none => d.setTrig k x
    | some t =>
      if d.on F.TIME_TRIG_CFG_PERIODIC k then
        d.setTrig k { x with next := some (gridAfter (d.trigStart k) (d.get F.TIME_TRIG_PERIOD_NS k) (d.devNs + 1)) }
      else if t < d.devNs then (d.setTrig k { x with next := none }).trigMissed k
      else d.setTrig k x) d

/-- Device time is stepped to remove the offset of a servo in full (R266): that of its last accepted sample, also where it has
lost its master since the step became due (log entry 154). `fresh` says that it has come from ACQUIRING or DIVERGED, so that its
integral is preset at the step (R263). -/
def Device.stepNow (d : Device) (v : Nat) (fresh : Bool) : Device :=
  let o := d.offsetQ v
  let total : Int := (d.devNs : Int) * 1000000000 + d.devFrac - o * 1000000000 / 65536
  let d := { d with devNs := total.toNat / 1000000000, devFrac := total.toNat % 1000000000 }
  let d := (d.setServo 0 ((d.servo 0).shift o)).setServo 1 ((d.servo 1).shift o)
  let d := { d with time := { d.time with
      stepped := true, relock := none, due := none, relockDue := false, dueFresh := false
      pulse := d.time.pulse.map (fun t => ((t : Int) - o / 65536).toNat) } }
  let d := (d.put F.TIME_STATUS_STEP_COUNT 0 (d.get F.TIME_STATUS_STEP_COUNT + 1)).put F.TIME_STATUS_RELOCK_PENDING 0 0
  let d := if d.srvSt v = 0 then d else d.srvTo v 4
  let d := d.useServo v
  let d := (if fresh then d.presetI v else d).trigStep (o / 65536)
  let d : Device := { d with tick := { d.tick with told := false, scale := d.tick.scale + 1 } }
  let d := d.raise F.TIME_EVENTS_STEP v
  (d.record 0x60 10 v (d.get2 F.TICK_DISCONT_DELTA_LO_DELTA F.TICK_DISCONT_DELTA_HI_DELTA)).srcUpdate.utcUpdate

/-- A step becomes due: made at once while no tick edges are generated, else noted with the tick it is due in.
In a pair a re-lock due after 0.85 T counts as due in the next tick (R269). One step is made. -/
def Device.stepDue (d : Device) (v : Nat) (fresh : Bool) : Device :=
  if !d.ticking then d.stepNow v fresh
  else
    let d : Device := { d with time := { d.time with relockDue := d.time.relockDue || decide (d.time.relock = some v) } }
    match d.time.due with
    | some _ => d
    | none =>
      let late := d.time.stepped && decide (d.role ≠ 0) && decide (d.devNs > d.pointNs d.tick.num 85)
      { d with time := { d.time with dueFresh := fresh, due := some (v, if late then d.tick.num + 1 else d.tick.num) } }

/-- No tick edges are generated any more: a step that is due is made at once (R266). -/
def Device.stepLeft (d : Device) : Device :=
  match d.time.due with
  | some (v, _) => d.stepNow v d.time.dueFresh
  | none => d

/-- A unit in STANDBY follows its holder in a re-lock and does not make it of its own accord (R269). -/
def Device.relockOwn (d : Device) : Bool := decide (d.role ≠ 3) && decide (d.role ≠ 4)

/-- A servo completes ACQUIRING (R262, R266, R267). -/
def Device.acquired (d : Device) (v : Nat) : Device :=
  let x := d.servo v
  let o := d.offsetQ v
  let win : Int := d.get F.TIME_SRV_WINDOW_WINDOW_NS v * 65536
  let step := !d.time.stepped || (decide (d.time.relock = some v) && d.relockOwn)
  if !step && decide (o.natAbs > secQ.toNat) then d.srvTo v 5
  else
    let tracks := decide (x.offs.length = 16) && x.offs.all (fun p => decide (p.2.natAbs ≤ win.toNat))
    let d := (d.srvTo v (if tracks then 4 else 3)).presetI v
    let d := if d.inUse = v then d.rateNow v else d
    if step then d.stepDue v true else d

/-- The states of a locked servo after an accepted sample (R262, R267). -/
def Device.tracking (d : Device) (v : Nat) : Device :=
  let x := d.servo v
  let st := d.srvSt v
  if decide (x.far ≥ 16) && d.time.due.isNone then (d.setServo v { x with far := 0 }).srvTo v 5
  else if st = 3 ∧ x.inWin ≥ 16 then d.srvTo v 4
  else if st = 4 ∧ x.outWin ≥ 16 then d.srvTo v 3
  else d

/-! ## Samples (R260, R261) -/

/-- The mean path delay. -/
def Servo.meanDelay (x : Servo) : Int := if x.delays.isEmpty then 0 else x.delays.sum / x.delays.length

/-- The path delay sample of a Sync and a request pair. -/
def pathDelay (t1 t2 : Nat) (cs : Int) (t3 : Int) (t4 : Nat) (cd : Int) : Int :=
  ((((t2 : Int) - t1) * 65536 - cs) + (((t4 : Int) - t3) * 65536 - cd)) / 2

/-- A sample is accepted when it is the first of its kind, within OUTLIER_US of the prediction, or the next one
after eight rejections in a row; the last restarts the filter. -/
def sampleOk (limit rej : Nat) (pred s : Int) (none_ : Bool) : Bool × Bool :=
  if none_ then (true, false)
  else if rej ≥ 8 then (true, true)
  else (decide ((s - pred).natAbs ≤ limit), false)

/-- The last 16 of a list. -/
def last16 {α : Type} (l : List α) : List α := l.drop (l.length - 16)

def Device.outlierQ (d : Device) (v : Nat) : Nat := d.get F.TIME_SRV_WINDOW_OUTLIER_US v * 1000 * 65536

/-- A path delay sample. -/
def Device.delaySample (d : Device) (v : Nat) (s : Int) : Device :=
  let x := d.servo v
  let (ok, again) := sampleOk (d.outlierQ v) x.rejD (Config.servoPrediction 0 (x.delays.map (fun y => (0, y)))) s x.delays.isEmpty
  if ok then
    let x := { x with delays := last16 (if again then [s] else x.delays ++ [s]), rejD := 0, acqD := x.acqD + 1 }
    (d.setServo v x).put F.TIME_SRV_DELAY_NS v ((x.meanDelay / 65536) % 2 ^ 32).toNat
  else (d.setServo v { x with rejD := x.rejD + 1 }).bump F.TIME_SRV_CNT_OUTLIER_COUNT v 1

/-- The offset register saturates at ±(2^31 − 1) ns. -/
def offsetReg (o : Int) : Nat := ((max (-2147483647) (min 2147483647 (o / 65536))) % 2 ^ 32).toNat

/-- An offset sample at receive time `t2`, then what the servo makes of it. -/
def Device.offsetSample (d : Device) (v t2 : Nat) (o : Int) : Device :=
  let x := d.servo v
  let (ok, again) := sampleOk (d.outlierQ v) x.rejO (Config.servoPrediction 1 x.offs) o x.offs.isEmpty
  if !ok then (d.setServo v { x with rejO := x.rejO + 1 }).bump F.TIME_SRV_CNT_OUTLIER_COUNT v 1
  else
    let win := d.get F.TIME_SRV_WINDOW_WINDOW_NS v * 65536
    let dt := match x.offs.getLast? with | some p => t2 - p.1 | none => 0
    let n := if again then 0 else x.acqN
    let x := { x with
      offs := last16 (if again then [(t2, o)] else x.offs ++ [(t2, o)])
      lastO := o
      rejO := 0
      acqN := n + 1
      acqAt := if n = 0 then t2 else x.acqAt
      inWin := if o.natAbs ≤ win then x.inWin + 1 else 0
      outWin := if o.natAbs ≤ win then 0 else x.outWin + 1
      far := if o.natAbs > secQ.toNat then x.far + 1 else 0 }
    let d := (d.setServo v x).put F.TIME_SRV_OFFSET_NS v (offsetReg o)
    if d.srvSt v = 2 then
      (if x.acqN ≥ 16 ∧ t2 ≥ x.acqAt + 1000000000 ∧ x.acqD ≥ 4 then d.acquired v else d).afterServo
    else if d.srvLocked v then
      let d := if d.inUse = v then d.steerBy v dt else d
      (d.tracking v).afterServo
    else d

/-- A Sync is complete: it counts as accepted, and yields a path delay sample with the latest Delay_Req and Delay_Resp pair,
and an offset once a path delay is known (R260). -/
def Device.syncDone (d : Device) (v t1 t2 : Nat) (cs : Int) : Device :=
  let d := d.setServo v { d.servo v with syncAt := d.now, waitFollow := none }
  let d := match (d.servo v).pair with
    | some (t3, t4, cd) => d.delaySample v (pathDelay t1 t2 cs t3 t4 cd)
    | none => d
  let x := d.servo v
  if x.delays.isEmpty then d
  else d.offsetSample v t2 (((t2 : Int) - t1) * 65536 - cs - (x.meanDelay + signedOf 32 (d.get F.TIME_SRV_ASYM_ASYM v) * 65536))

/-! ## Messages (R256 to R258) -/

/-- The servos that listen to a message: its port and its domain. -/
def Device.listeners (d : Device) (h : RxHdr) (domain : Nat) : List Nat :=
  [0, 1].filter (fun v => decide (d.srvSt v ≠ 0) && decide (d.get F.TIME_SRV_CFG_PORT v = h.port) &&
    decide (d.get F.TIME_SRV_CFG_DOMAIN v = domain))

/-- A PTP message reaches the servos that listen to it. -/
def Device.ptp (d : Device) (h : RxHdr) (domain : Nat) (f : Nat → Device → Device) : Device :=
  d.receive h (fun c => match c with
    | .ptp => some (fun d => forL (d.listeners h domain) f d)
    | _ => none)

/-- 2 to the power of a log interval, in nanoseconds. -/
def logNs (k : Int) : Nat := if k ≥ 0 then 1000000000 * 2 ^ k.toNat else 1000000000 / 2 ^ (-k).toNat

/-- A foreign master's data qualify it (R256, R257). -/
def Foreign.fit (f : Foreign) : Bool :=
  decide (f.msg.steps < 255) && decide (-3 ≤ f.msg.logInterval) && decide (f.msg.logInterval ≤ 1)

/-- A foreign master is qualified (R256, R257). -/
def Device.qualified (d : Device) (f : Foreign) : Bool :=
  f.fit && decide ((f.times.filter (fun t => d.now ≤ t + 4 * logNs f.msg.logInterval)).length ≥ 2)

/-- The data set comparison: the first master is better. PRESUMED: the order of IEEE 1588 9.3.4 (log entry 51). -/
def betterMaster (a b : PtpAnnounce) : Bool :=
  let key (m : PtpAnnounce) : List Nat :=
    [m.prio1, m.cls, m.accuracy, m.variance, m.prio2, m.gm, m.steps, m.sender.clock, m.sender.port]
  decide (key a < key b)

/-- The registers of the selected master. -/
def Device.masterRegs (d : Device) (v : Nat) (m : PtpAnnounce) : Device :=
  ((((d.put2 F.TIME_SRV_GM_LO_ID F.TIME_SRV_GM_HI_ID v m.gm).put2 F.TIME_SRV_MASTER_LO_ID F.TIME_SRV_MASTER_HI_ID v m.sender.clock).put
    F.TIME_SRV_STATE_MASTER_PORT v m.sender.port).put F.TIME_SRV_STATE_STEPS_REMOVED v (min m.steps 255)).utcUpdate

/-- The best qualified master is selected; a change takes the servo to ACQUIRING (R262). The selected master stays one until its
announceReceiptTimeout expires, or its data no longer qualify it: with no other, the servo then loses it (log entry 153). -/
def Device.selectMaster (d : Device) (v : Nat) : Device :=
  let x := d.servo v
  let cand := (x.foreign.filter (fun f => d.qualified f || (f.fit && decide (some f.msg.sender = x.master.map (fun m => m.sender))))).map (fun f => f.msg)
  match cand with
  | [] => if x.master.isSome then d.servoLoss v else d
  | a :: r =>
    let best := r.foldl (fun b m => if betterMaster m b then m else b) a
    let same := decide (some best.sender = x.master.map (fun m => m.sender))
    let last := ((x.foreign.find? (fun f => decide (f.msg.sender = best.sender))).bind (fun f => f.times.getLast?)).getD d.now
    let d := d.setServo v { (if same then x else { x.fresh with syncAt := d.now, annAt := last }) with master := some best }
    let d := if same then d else d.srvTo v 2
    (d.masterRegs v best).afterServo

/-- PTP_ANNOUNCE_RECEIVE. -/
def Device.announce (d : Device) (h : RxHdr) (m : PtpAnnounce) : Device :=
  d.ptp h m.domain (fun v d =>
    let x := d.servo v
    let old := x.foreign.find? (fun f => decide (f.msg.sender = m.sender))
    let times := match old with | some f => (f.times ++ [d.now]).drop (f.times.length + 1 - 8) | none => [d.now]
    let x := { x with
      foreign := x.foreign.filter (fun f => f.msg.sender ≠ m.sender) ++ [⟨m, h.src, times⟩]
      annAt := if x.master.map (fun y => y.sender) = some m.sender then d.now else x.annAt }
    (d.setServo v x).selectMaster v)

/-- PTP_SYNC_RECEIVE: from the selected master, at least 7.8 ms after the one before (R256, R257, R260). -/
def Device.sync (d : Device) (h : RxHdr) (m : PtpSync) : Device :=
  let t2 := d.rxTime h
  d.ptp h m.domain (fun v d =>
    let x := d.servo v
    let near := match x.syncRx with | some t => decide (t2 < t + 7800000) | none => false
    if x.master.map (fun y => y.sender) ≠ some m.sender || near then d
    else if m.twoStep then d.setServo v { x with syncRx := some t2, waitFollow := some (m.seq, t2, m.corr) }
    else (d.setServo v { x with syncRx := some t2 }).syncDone v m.origin t2 m.corr)

/-- PTP_FOLLOW_UP_RECEIVE. -/
def Device.followUp (d : Device) (h : RxHdr) (m : PtpSync) : Device :=
  d.ptp h m.domain (fun v d =>
    let x := d.servo v
    match x.waitFollow with
    | some (seq, t2, c) =>
      if x.master.map (fun y => y.sender) = some m.sender ∧ seq = m.seq then d.syncDone v m.origin t2 (c + m.corr) else d
    | none => d)

/-- The address of the selected master: that its last Announce came from. -/
def Servo.masterIp (x : Servo) : Nat :=
  match x.foreign.find? (fun f => decide (some f.msg.sender = x.master.map (fun m => m.sender))) with
  | some f => f.ip
  | none => 0

/-- The nominal interval of Delay_Req (R258): that of the latest Delay_Resp, 125 ms before the first. -/
def Servo.reqNs (x : Servo) : Nat :=
  match x.reqLog with
  | some k => logNs k
  | none => 125000000

/-- PTP_DELAY_REQ_SEND (R258): when the interval drawn before has passed; the next one is drawn from 0 to twice the nominal
interval. -/
def Device.delayReq (d : Device) (v : Nat) : Device :=
  let p := d.get F.TIME_SRV_CFG_PORT v
  if d.srvSt v < 2 || !d.portUp p then d
  else
    let d := d.waitNow (d.servo v).reqNext
    let x := d.servo v
    let seq := (x.reqSeq + 1) % 65536
    let uni := d.on F.TIME_SRV_CFG_DELAY_UNICAST v
    let tag := d.txTag p
    let next := d.now + Config.delayDraw d.free % (2 * x.reqNs + 1)
    let d : Device := { d with free := d.free + 1 }
    let d := d.setServo v { x with reqSeq := seq, reqAt := some (seq, (d.devNs : Int) + d.txCorr p), reqNext := next }
    (d.countTx p (frameLen tag.isSome 44)).emit
      (.ptpDelayReq v p tag seq (d.unitAddr p) (if uni then x.masterIp else 0xE0000181) (if uni then 64 else 1))

/-- PTP_DELAY_RESP_RECEIVE: the answer to the last Delay_Req makes the pair that the Syncs after it use (R260). -/
def Device.delayResp (d : Device) (h : RxHdr) (m : PtpDelayResp) : Device :=
  d.ptp h m.domain (fun v d =>
    let x := d.servo v
    if x.master.map (fun y => y.sender) ≠ some m.sender || !m.mine then d
    else match x.reqAt with
      | some (seq, t3) =>
        if seq ≠ m.seq then d
        else d.setServo v { x with reqAt := none, reqLog := some m.logInterval, pair := some (t3, m.received, m.corr) }
      | none => d)

/-- PTP_ANNOUNCE_TIMEOUT. -/
def Device.announceTimeout (d : Device) (v : Nat) : Device :=
  if d.srvSt v < 2 then d
  else match (d.servo v).master with
    | some m => (d.waitNow ((d.servo v).annAt + d.get F.TIME_SRV_CFG_ANN_TIMEOUT v * logNs m.logInterval)).servoLoss v
    | none => d

/-- PTP_SYNC_TIMEOUT: no Sync accepted for 2 s. -/
def Device.syncTimeout (d : Device) (v : Nat) : Device :=
  if d.srvSt v < 2 then d else (d.waitNow ((d.servo v).syncAt + 2000000000)).servoLoss v

/-! ## Commands of TIME_CMD (R264, R266) -/

/-- RELOCK: applied at once to a servo that is SLEWING, TRACKING or DIVERGED. -/
def Device.relockCmd (d : Device) (v : Nat) : Device :=
  let d := { d with time := { d.time with relock := some v } }.put F.TIME_STATUS_RELOCK_PENDING 0 1
  if d.relockOwn && (d.srvLocked v || decide (d.srvSt v = 5)) then d.stepDue v (decide (d.srvSt v = 5)) else d

/-- SELECT of a locked servo takes effect at the edge, or at once while there are none. -/
def Device.selectCmd (d : Device) (v : Nat) : Device :=
  if d.srvLocked v then { d with time := { d.time with select := some v } }.afterServo else d

/-- CANCEL of a re-lock that is not yet due. -/
def Device.cancelCmd (d : Device) : Device :=
  if d.time.relockDue then d else { d with time := { d.time with relock := none } }.put F.TIME_STATUS_RELOCK_PENDING 0 0

/-- A write of TIME_CMD. -/
def Device.timeCmd (d : Device) (op v : Nat) : Device :=
  match op with
  | 1 => d.relockCmd v
  | 2 => d.selectCmd v
  | 3 => d.cancelCmd
  | _ => d

/-- TIME_STEP_APPLY: half a tick after E(t+1) on the old scale, t the tick in which the step became due. -/
def Device.stepApply (d : Device) : Device :=
  match d.time.due with
  | some (v, t) => if d.tick.gap then (d.waitUntil (d.pointNs (t + 1) 50)).stepNow v d.time.dueFresh else d
  | none => d

/-! ## TICK_OUT, triggers and captures (R271 to R276) -/

/-- The level of TICK_OUT: active while a pulse is in progress. -/
def Device.tickOutPin (d : Device) : Bool := xor d.time.pulse.isSome (d.on F.TIME_TICKOUT_CFG_POL)

/-- TICK_OUT goes active at the next alignment point whose tick number is a multiple of DIVIDE + 1. -/
def Device.tickOutStart (d : Device) : Device :=
  if !d.on F.TIME_TICKOUT_CFG_EN || !d.pd1On || d.time.pulse.isSome then d
  else
    let m := d.get F.TIME_TICKOUT_CFG_DIVIDE + 1
    let t := d.tickOf (d.devNs + d.periodNs)
    let first := if d.edgeNs (d.tickOf d.devNs) = d.devNs ∧ d.time.pulsed ≠ some (d.tickOf d.devNs) then d.tickOf d.devNs
      else if d.edgeNs t ≤ d.devNs then t + 1 else t
    let k := (first + m - 1) / m * m
    let d := d.waitUntil (d.edgeNs k)
    let w := min (d.get F.TIME_TICKOUT_CFG_WIDTH * 1000) (d.periodNs / 2)
    { d with time := { d.time with pulse := some (d.edgeNs k + w), pulsed := some k } }.emit (.pulse 0)

def Device.tickOutEnd (d : Device) : Device :=
  match d.time.pulse with
  | some t =>
    let d := d.waitUntil t
    { d with time := { d.time with pulse := none } }
  | none => d

/-- A trigger is enabled: armed, or missed (R273). -/
def Device.trigEnable (d : Device) (k : Nat) : Device :=
  let d := d.put F.TIME_TRIG_STATUS_MISSED k 0
  let s := d.trigStart k
  if d.on F.TIME_TRIG_CFG_PERIODIC k then
    d.setTrig k ⟨some (if s ≥ d.devNs + 1000 then s else gridAfter s (d.get F.TIME_TRIG_PERIOD_NS k) (d.devNs + 1)), none⟩
  else if s < d.devNs + 1000 then (d.setTrig k ⟨none, none⟩).trigMissed k
  else d.setTrig k ⟨some s, none⟩

/-- A trigger is disabled: no pulse is produced any more. -/
def Device.trigDisable (d : Device) (k : Nat) : Device :=
  (d.setTrig k ⟨none, none⟩).put F.TIME_TRIG_STATUS_ACTIVE k 0

/-- A pulse is due: it starts unless LOCKED_ONLY keeps it back. -/
def Device.trigFire (d : Device) (k : Nat) : Device :=
  match (d.trig k).next with
  | none => d
  | some t =>
    let d := d.waitUntil t
    let x := d.trig k
    let next := if d.on F.TIME_TRIG_CFG_PERIODIC k then some (t + d.get F.TIME_TRIG_PERIOD_NS k) else none
    if d.on F.TIME_TRIG_CFG_LOCKED_ONLY k && decide (d.get F.TIME_STATUS_SRC ≠ 1) then d.setTrig k { x with next := next }
    else
      let d := (d.setTrig k ⟨next, some (t + d.get F.TIME_TRIG_CFG_WIDTH k)⟩).put F.TIME_TRIG_STATUS_ACTIVE k 1
      if d.sends then d.emit (.pulse (1 + k)) else d

def Device.trigStop (d : Device) (k : Nat) : Device :=
  match (d.trig k).stop with
  | some t =>
    let d := d.waitUntil t
    (d.setTrig k { d.trig k with stop := none }).put F.TIME_TRIG_STATUS_ACTIVE k 0
  | none => d

/-- The level of TIME_TRIG[k]: driven while the unit holds the halter or runs SOLO (R274). -/
def Device.trigPin (d : Device) (k : Nat) : Bool :=
  xor (d.sends && d.on F.TIME_TRIG_STATUS_ACTIVE k) (d.on F.TIME_TRIG_CFG_POL k)

/-- The queue of a capture input. -/
def Device.caps (d : Device) (k : Nat) : List Capture := Tab.get d.time.caps [] k
def Device.setCaps (d : Device) (k : Nat) (l : List Capture) : Device :=
  { d with time := { d.time with caps := Tab.set d.time.caps k l } }

/-- An edge on TIME_CAP[k]: its timestamp lies within 5 ns of device time, as an open value has it (R275, log entry 160). -/
def Device.capture (d : Device) (k : Nat) (rising : Bool) : Device :=
  let e := d.get F.TIME_CAP_CFG_EDGE k
  if !d.on F.TIME_CAP_CFG_EN k || (decide (e = 0) && !rising) || (decide (e = 1) && rising) then d
  else
    let q := d.caps k
    if q.length < 16 then
      let at_ := d.devNs + Config.pick d.free % 11 - 5
      let d := ({ d with free := d.free + 1 } : Device).setCaps k (q ++ [⟨at_, rising, d.get F.TIME_STATUS_STEP_COUNT⟩])
      if q.isEmpty then d.raise F.TIME_EVENTS_CAPTURE k else d
    else d.bump F.TIME_CAP_DROP_COUNT k 1

/-! ## The commands of time -/

def execPtpAnnounceReceive (hdr : RxHdr) (msg : PtpAnnounce) (s : State) := onDev (fun d => d.announce hdr msg) s
def execPtpSyncReceive (hdr : RxHdr) (msg : PtpSync) (s : State) := onDev (fun d => d.sync hdr msg) s
def execPtpFollowUpReceive (hdr : RxHdr) (msg : PtpSync) (s : State) := onDev (fun d => d.followUp hdr msg) s
def execPtpDelayRespReceive (hdr : RxHdr) (msg : PtpDelayResp) (s : State) := onDev (fun d => d.delayResp hdr msg) s
def execPtpDelayReqSend (servo : Nat) (s : State) := onDev (fun d => d.delayReq servo) s
def execPtpAnnounceTimeout (servo : Nat) (s : State) := onDev (fun d => d.announceTimeout servo) s
def execPtpSyncTimeout (servo : Nat) (s : State) := onDev (fun d => d.syncTimeout servo) s
def execTimeStepApply (s : State) := onDev Device.stepApply s
def execTickOutPulseStart (s : State) := onDev Device.tickOutStart s
def execTickOutPulseEnd (s : State) := onDev Device.tickOutEnd s
def execTrigPulseStart (trig : Nat) (s : State) := onDev (fun d => d.trigFire trig) s
def execTrigPulseEnd (trig : Nat) (s : State) := onDev (fun d => d.trigStop trig) s
def execCaptureEdge (input : Nat) (rising : Bool) (s : State) := onDev (fun d => d.capture input rising) s

end Sys2Proof.Machine
end

