-- ==== Sys2Proof/Machine/Lane.lean ====
section
/-!
DEFINITION. The serial lanes (R235 to R255): bring-up of a media port, loss of lock, references, receive
adaptation, margin checks, the tether's attempts and windows, retraining and the eye scan. What a receiver sees
on the wire (a finished training, lock, a margin point that fails) comes with the command.
-/

namespace Sys2Proof.Machine

def Device.laneX (d : Device) (l : Nat) : LaneX := Tab.get d.lanes.lane LaneX.empty l
def Device.setLaneX (d : Device) (l : Nat) (x : LaneX) : Device :=
  { d with lanes := { d.lanes with lane := Tab.set d.lanes.lane l x } }

/-! ## Which lane belongs to what (R206, R235, R236) -/

/-- The media port that lane `l` serves. -/
def Device.lanePort (d : Device) (l : Nat) : Nat := if d.get F.NET_PORT_CFG_MODE (l / 4 * 4) = 2 then l / 4 * 4 else l

/-- The lanes of a media port: four on port 4q in 100GBASE-R mode. DESIGN CHOICE: a port that is not the first of
its quad keeps its one lane in that mode (log entry 126). -/
def Device.portLanes (d : Device) (p : Nat) : List Nat :=
  if d.get F.NET_PORT_CFG_MODE p = 2 ∧ p % 4 = 0 then [p, p + 1, p + 2, p + 3] else [p]

/-- The power domain of a lane. -/
def laneDomain (l : Nat) : Nat := if l < 16 then 8 else if l < 28 then 9 else 10

/-- The reference of a lane: 0 REFCLK_LANE0, 1 REFCLK_LANE1, 2 REFCLK_SYS. -/
def Device.laneRef (d : Device) (l : Nat) : Nat :=
  if l ≥ 28 || decide (d.get F.RST_STRAPS_CLKMODE = 2) then 2 else if l < 16 then 0 else 1

/-- The bit of LANE_REFCLK_LOSS of a reference. -/
def lossFld : Nat → Fld
  | 0 => F.LANE_REFCLK_LOSS_LANE0
  | 1 => F.LANE_REFCLK_LOSS_LANE1
  | _ => F.LANE_REFCLK_LOSS_SYS

/-- The lane has its domain and its reference. -/
def Device.laneAlive (d : Device) (l : Nat) : Bool :=
  !d.inReset (laneDomain l) && d.pd1On && !d.on (lossFld (d.laneRef l))

/-- Both loops of a quad are locked (LANE_REFCLK_STATUS). -/
def Device.quadLock (d : Device) (q : Nat) : Bool := d.laneAlive (4 * q)

/-! ## Lane and port states (R240, R241) -/

def Device.laneSt (d : Device) (l : Nat) : Nat := d.get F.LANE_STATUS_STATE l

/-- The tether is UP. -/
def Device.tetherIsUp (d : Device) : Bool := decide (d.get F.LANE_TETHER_STATUS_STATE = 3)

/-- A lane counts as UP for the eye scan: a media lane in UP, a tether lane that is trained, outside a retrain, while the
tether is UP. -/
def Device.scanLaneUp (d : Device) (l : Nat) : Bool :=
  if l < 28 then decide (d.laneSt l = 5)
  else d.tetherIsUp && (d.get F.LANE_TETHER_STATUS_TRAINED).testBit (l - 28) && (decide (d.laneSt l = 5) || decide (d.laneSt l = 6))

/-- The scan engine ends its point (R254). -/
def Device.scanEnd (d : Device) (aborted : Bool) (errors : Nat) : Device :=
  let d := { d with lanes := { d.lanes with scan := none } }
  (((d.put F.LANE_SCAN_RESULT_DONE 0 1).flag F.LANE_SCAN_RESULT_ABORTED 0 aborted).put
    F.LANE_SCAN_RESULT_ERRORS 0 (min errors 0xFFFFFF)).raise F.LANE_EVENTS_SCAN_DONE

/-- A scan whose lane has left UP is aborted. -/
def Device.scanGuard (d : Device) : Device :=
  match d.lanes.scan with
  | some l => if d.scanLaneUp l then d else d.scanEnd true 0
  | none => d

/-- The freeze of R250 follows the state of the lane and its transition density. -/
def Device.laneFreeze (d : Device) (l : Nat) : Device :=
  d.flag F.LANE_STATUS_FROZEN l (decide (d.laneSt l = 6) || decide (d.laneSt l = 7) || (d.laneX l).lowTd)

/-- A lane enters a state: it has no lock yet, and its step begins now. A lane that is off or in electrical idle detects no
signal; one that has completed a step of its bring-up does (log entry 156). -/
def Device.setLane (d : Device) (l st : Nat) : Device :=
  let x := d.laneX l
  let d := d.setLaneX l { x with locked := false, since := d.now, checking := false, lowTd := x.lowTd && decide (st ≠ 0), unusable := false }
  let d := if st = 0 ∨ st = 6 ∨ st = 7 then d.put F.LANE_STATUS_SIGNAL l 0 else d
  ((d.put F.LANE_STATUS_STATE l st).laneFreeze l).scanGuard

/-- The receiver of a lane detects a signal. -/
def Device.heard (d : Device) (l : Nat) : Device := d.put F.LANE_STATUS_SIGNAL l 1

/-- NET_PORT_STATUS.STATE by R241. -/
def Device.portState (d : Device) (p : Nat) : Nat :=
  if !d.on F.NET_PORT_CFG_EN p || !d.portExists p then 0
  else if (d.portLanes p).all (fun l => decide (d.laneSt l = 5)) then 2
  else if decide (p ∈ d.lanes.everUp) || decide (p ∈ d.lanes.failed) then 3
  else 1

/-- The port's state follows its lanes; entering and leaving UP raise their events. A port that enters UP joins its groups and asks
for the next hops of its paths (R211, R212). -/
def Device.portRefresh (d : Device) (p : Nat) : Device :=
  let was := d.get F.NET_PORT_STATUS_STATE p
  let st := d.portState p
  let d := d.put F.NET_PORT_STATUS_STATE p st
  if st = 2 ∧ was ≠ 2 then
    ((({ d with lanes := { d.lanes with everUp := insert p d.lanes.everUp } }.raise F.NET_EVENTS_PORT_UP p).servosRefresh).igmpJoin p).hopScan
  else if st ≠ 2 ∧ was = 2 then (d.raise F.NET_EVENTS_PORT_DOWN p).servosRefresh
  else d

/-! ## Media bring-up (R242 to R246) -/

/-- Auto-negotiation runs on the port. -/
def Device.portAn (d : Device) (p : Nat) : Bool :=
  d.on F.NET_PORT_CFG_AN p && decide (d.get F.NET_PORT_CFG_MODE p ≠ 0)

/-- The lanes of a port start bring-up from its first step, those with domain and reference; the others are
off. Auto-negotiation advertises the technology of the port's mode only: 25GBASE-CR, with the RS-FEC ability where FEC is 1, or
100GBASE-CR4. -/
def Device.portStart (d : Device) (p : Nat) : Device :=
  let d := (forL (d.portLanes p) (fun l (d : Device) =>
    d.setLane l (if d.laneAlive l then (if d.portAn p then 1 else 3) else 0)) d).portRefresh p
  if d.laneSt p = 1 then
    d.emit (.advertise p (d.get F.NET_PORT_CFG_MODE p) (decide (d.get F.NET_PORT_CFG_MODE p = 1) && d.on F.NET_PORT_CFG_FEC p))
  else d

/-- EN goes from 0 to 1. -/
def Device.portUpStart (d : Device) (p : Nat) : Device :=
  { d with lanes := { d.lanes with everUp := d.lanes.everUp.filter (· ≠ p), failed := d.lanes.failed.filter (· ≠ p) } }.portStart p

/-- EN goes from 1 to 0: the lanes go to OFF. -/
def Device.portOff (d : Device) (p : Nat) : Device :=
  (forL (d.portLanes p) (fun l (d : Device) => d.setLane l 0) d).portRefresh p

/-- Every lane of the port is in a state. -/
def Device.portAll (d : Device) (p st : Nat) : Bool := (d.portLanes p).all (fun l => decide (d.laneSt l = st))

/-- Step 1 ends and training starts. -/
def Device.anComplete (d : Device) (p : Nat) : Device :=
  if d.portExists p && d.portAll p 1 then (forL (d.portLanes p) (fun l (d : Device) => (d.setLane l 2).heard l) d).portRefresh p else d

/-- The polarity in use by a decision of AUTO or by RX_POL (R244). -/
def Device.setPolarity (d : Device) (l : Nat) (inverted : Bool) : Device :=
  match d.get F.LANE_CFG_RX_POL l with
  | 0 =>
    let d := d.flag F.LANE_STATUS_POL_INV l inverted
    if inverted then d.raise F.LANE_EVENTS_POLARITY l else d
  | v => d.flag F.LANE_STATUS_POL_INV l (decide (v = 2))

/-- Step 2 ends: the frame marker decides the polarity, and the hunt begins. -/
def Device.trainComplete (d : Device) (p : Nat) (inv : List Bool) : Device :=
  if d.portExists p && d.portAll p 2 then
    (forL (d.portLanes p) (fun l (d : Device) => ((d.setPolarity l (inv.getD (l - p) false)).setLane l 3).heard l) d).portRefresh p
  else d

/-- The port decodes RS-FEC (R206). -/
def Device.portFec (d : Device) (p : Nat) : Bool :=
  decide (d.get F.NET_PORT_CFG_MODE p = 2) || (decide (d.get F.NET_PORT_CFG_MODE p = 1) && d.on F.NET_PORT_CFG_FEC p)

/-- The polarity a lane decides at lock, or none where the hunt goes on (R244): with RS-FEC by whether the markers arrive
inverted, which a fixed RX_POL of the other kind never locks to; without FEC by training where it ran, else by the counts of
valid control blocks in both interpretations. DEDUCED (log entry 50). -/
def Device.decide244 (d : Device) (l p normal inverted : Nat) (markers : Bool) : Option Bool :=
  if d.portFec p then
    (if d.get F.LANE_CFG_RX_POL l = 0 ∨ markers = decide (d.get F.LANE_CFG_RX_POL l = 2) then some markers else none)
  else if d.portAn p then some (d.on F.LANE_STATUS_POL_INV l)
  else if d.get F.LANE_CFG_RX_POL l ≠ 0 then some (decide (d.get F.LANE_CFG_RX_POL l = 2))
  else if normal > inverted ∧ normal ≥ 8 then some false
  else if inverted > normal ∧ inverted ≥ 8 then some true
  else none

/-- A lane has lock and a polarity; when every lane of the port has, alignment begins or the port is UP. -/
def Device.lockAcquired (d : Device) (l normal inverted : Nat) (markers : Bool) : Device :=
  let p := d.lanePort l
  if !decide (l < 28) || !decide (d.laneSt l = 3) || (d.laneX l).locked then d
  else match d.decide244 l p normal inverted markers with
    | none => d
    | some inv =>
      let d := if d.portAn p && decide (inv = d.on F.LANE_STATUS_POL_INV l) then d else d.setPolarity l inv
      let d := (d.setLaneX l { d.laneX l with locked := true }).heard l
      if (d.portLanes p).all (fun k => (d.laneX k).locked && decide (d.laneSt k = 3)) then
        let st := if d.get F.NET_PORT_CFG_MODE p = 2 then 4 else 5
        (forL (d.portLanes p) (fun k (d : Device) =>
          let d := d.setLane k st
          d.setLaneX k { d.laneX k with locked := true, checkAt := d.now + 100000000 }) d).portRefresh p
      else d

/-- The four lanes of a 100GBASE-R port are aligned: the map, the transmit order, and UP (R245). -/
def Device.alignComplete (d : Device) (q map : Nat) : Device :=
  let p := 4 * q
  if !(decide (d.get F.NET_PORT_CFG_MODE p = 2)) || !d.portAll p 4 then d
  else
    let was := d.on F.LANE_QUAD_STATUS_TX_REVERSED q
    let mode := d.get F.LANE_QUAD_CFG_TX_MAP q
    let rev := if mode = 0 then decide (map = 0x1B) else decide (mode = 2)
    let d := (d.put F.LANE_QUAD_STATUS_RX_MAP q map).flag F.LANE_QUAD_STATUS_TX_REVERSED q rev
    let d := if mode = 0 ∧ rev ≠ was then d.raise F.LANE_EVENTS_REVERSAL p else d
    (forL (d.portLanes p) (fun k (d : Device) =>
      let d := d.setLane k 5
      d.setLaneX k { d.laneX k with locked := true, checkAt := d.now + 100000000 }) d).portRefresh p

/-- An attempt's time runs out (R246): after training 500 ms, in the hunt without AN 100 ms, in alignment 10 ms;
the Clause 73 timers and the hunt after training have no time in the spec. -/
def Device.attemptTimeout (d : Device) (p : Nat) : Device :=
  let st := d.laneSt p
  if !d.portExists p || !d.on F.NET_PORT_CFG_EN p || decide (st = 0) || d.portAll p 5 then d
  else
    let limit := if st = 2 then 500000000 else if st = 3 ∧ !d.portAn p then 100000000 else if st = 4 then 10000000 else 0
    let d := d.waitNow ((d.laneX p).since + limit)
    { d with lanes := { d.lanes with failed := insert p d.lanes.failed } }.portStart p

/-! ## The tether (R247 to R249) -/

/-- Tether lanes 28 to 31. -/
def tetherLanes : List Nat := [28, 29, 30, 31]

/-- The lanes of the tether that a mask of R247 suffices for: T0, T1 and one of T2, T3. -/
def tetherEnough (m : Nat) : Bool := m.testBit 0 && m.testBit 1 && (m.testBit 2 || m.testBit 3)

/-- A training attempt on all four lanes begins: each has its margin check to pass (R247). -/
def Device.tetherTry (d : Device) : Device :=
  if d.on F.LANE_TETHER_CFG_EN && d.laneAlive 28 then
    let d := forL tetherLanes (fun l (d : Device) => (d.setLane l 2).setLaneX l { d.laneX l with retrain := 0, skip := false, locked := false, since := d.now, checking := true }) d
    let d := ((d.bump F.LANE_TETHER_STATUS_ATTEMPTS 0 1).put F.LANE_TETHER_STATUS_TRAINED 0 0).put F.LANE_TETHER_STATUS_STATE 0 1
    { d with lanes := { d.lanes with attempt := d.now } }.scanGuard
  else
    let d := forL tetherLanes (fun l (d : Device) => d.setLane l 0) d
    ((d.put F.LANE_TETHER_STATUS_TRAINED 0 0).put F.LANE_TETHER_STATUS_STATE 0 0).scanGuard

/-- EN goes to 1: attempts are counted from here. -/
def Device.tetherOn (d : Device) : Device := (d.put F.LANE_TETHER_STATUS_ATTEMPTS 0 0).tetherTry

/-- The tether leaves UP because its lanes no longer suffice: LANE_TETHER_FAIL, PAIR_TETHER_DOWN, and a new attempt
at once (R248). -/
def Device.tetherLost (d : Device) : Device :=
  (d.raise F.LANE_EVENTS_TETHER_FAIL).tetherDown.tetherTry

/-- EN goes to 0 or the domain is switched off: all four lanes off. -/
def Device.tetherOff (d : Device) : Device :=
  let was := d.tetherIsUp
  let d := forL tetherLanes (fun l (d : Device) => d.setLane l 0) d
  let d := ((d.put F.LANE_TETHER_STATUS_TRAINED 0 0).put F.LANE_TETHER_STATUS_STATE 0 0).scanGuard
  if was then d.tetherDown else d

/-- An attempt ends without UP 10 ms after its start (R248). -/
def Device.tetherTimeout (d : Device) : Device :=
  if d.get F.LANE_TETHER_STATUS_STATE ≠ 1 then d
  else
    let d := d.waitNow (d.lanes.attempt + 10000000)
    ((forL tetherLanes (fun l (d : Device) => d.setLane l 7) d).put F.LANE_TETHER_STATUS_STATE 0 2).raise F.LANE_EVENTS_TETHER_FAIL

/-- The next attempt, 100 ms after the start of the failed one, or at once when the partner is heard. -/
def Device.tetherAgain (d : Device) (heard : Bool) : Device :=
  if d.get F.LANE_TETHER_STATUS_STATE ≠ 2 then d
  else (if heard then d else d.waitNow (d.lanes.attempt + 100000000)).tetherTry

/-- The lanes of a mask whose margin check in this attempt is passed. -/
def Device.tetherPassed (d : Device) (m : Nat) : Nat :=
  tetherLanes.foldl (fun t l => if m.testBit (l - 28) && !(d.laneX l).checking then setBit t (l - 28) true else t) 0

/-- Lanes are trained and confirmed by both ends, those that have passed their margin check (R247). With enough of them the tether
is UP, and a lane that is not among them waits in electrical idle. -/
def Device.tetherConfirmed (d : Device) (trained inverted : Nat) : Device :=
  if d.get F.LANE_TETHER_STATUS_STATE ≠ 1 then d
  else
    let m := d.tetherPassed trained
    let d := d.put F.LANE_TETHER_STATUS_TRAINED 0 m
    if !tetherEnough m then d
    else
      let d := forL tetherLanes (fun l (d : Device) =>
        if m.testBit (l - 28) then (d.setPolarity l (inverted.testBit (l - 28))).setLane l 6 else d.setLane l 7) d
      d.put F.LANE_TETHER_STATUS_STATE 0 3

/-- The lanes, opening and closing points of the windows of R249. -/
def tetherWindow : Nat → List Nat × Nat × Nat
  | 0 => ([30, 31], 0, 2)
  | 1 => ([28, 29], 88, 95)
  | _ => ([30, 31], 95, 98)

/-- A lane that the window in progress serves: the partner may send on it until the window ends. -/
def Device.tetherHears (d : Device) (l : Nat) : Bool :=
  d.tetherIsUp && (decide (d.laneSt l = 5) || decide (d.laneSt l = 6)) && !(d.laneX l).unusable && decide (d.devNs ≤ (d.laneX l).winEnd)

/-- A lane that carries frames of this unit in the window in progress. -/
def Device.tetherUsable (d : Device) (l : Nat) : Bool := d.tetherHears l && decide (d.laneSt l = 5)

/-- A lane is unusable for its window. -/
def Device.laneUnusable (d : Device) (l : Nat) : Device :=
  (d.setLaneX l { d.laneX l with unusable := true }).bump F.LANE_CNT_LOCK_COUNT l 1

/-- A retrain ends without success: the lane's next window is lost, and the retrain is asked for again (R252). -/
def Device.retrainEnd (d : Device) (l : Nat) : Device :=
  let d := d.setLane l 6
  d.setLaneX l { d.laneX l with retrain := 1, skip := true }

/-- The lanes of a window leave electrical idle; one that does not regain lock in the burst, or whose retrain did not finish in
time, is unusable for the window. A resumption from freeze starts a margin check (R251). -/
def Device.windowOpen (d : Device) (w unlocked : Nat) : Device :=
  if !d.tetherIsUp then d
  else
    let (ls, at_, end_) := tetherWindow w
    let d := d.waitUntil (d.pointNs d.tick.num at_)
    forL ls (fun l (d : Device) =>
      if !(d.get F.LANE_TETHER_STATUS_TRAINED).testBit (l - 28) then d
      else
        let d := if d.laneSt l = 2 then d.retrainEnd l else d
        let late := (d.laneX l).skip
        let d := d.setLane l 5
        let d := d.setLaneX l { d.laneX l with winEnd := d.pointNs d.tick.num end_, skip := false }
        if late || unlocked.testBit (l - 28) then d.laneUnusable l
        else (d.setLaneX l { d.laneX l with locked := true, checking := true }).heard l) d

/-- The lanes of a window go back to electrical idle: after the last frame, and at the end of the window at the latest. Frames of
the state burst that are still to be sent keep its lanes until then. -/
def Device.windowClose (d : Device) (w : Nat) : Device :=
  let (ls, _, at_) := tetherWindow w
  let d := if w = 1 ∧ !d.pair.burst.isEmpty then d.waitUntil (d.pointNs d.tick.num at_) else d
  forL ls (fun l (d : Device) =>
    if d.laneSt l = 5 then
      let u := (d.laneX l).unusable
      let d := d.setLane l 6
      d.setLaneX l { d.laneX l with unusable := u }
    else d) d

/-! ## Loss of lock, references, adaptation -/

/-- A lane loses lock (R243, R248). -/
def Device.lockLoss (d : Device) (l : Nat) : Device :=
  if l < 28 then
    let p := d.lanePort l
    if decide (d.laneSt l = 5) || decide (d.laneSt l = 4) || (decide (d.laneSt l = 3) && (d.laneX l).locked) then
      (d.bump F.LANE_CNT_LOCK_COUNT l 1).portStart p
    else d
  else if d.tetherIsUp && (d.get F.LANE_TETHER_STATUS_TRAINED).testBit (l - 28) then
    let d := (d.bump F.LANE_CNT_LOCK_COUNT l 1).put F.LANE_TETHER_STATUS_TRAINED 0 (setBit (d.get F.LANE_TETHER_STATUS_TRAINED) (l - 28) false)
    let d := (d.setLane l 7).scanGuard
    if tetherEnough (d.get F.LANE_TETHER_STATUS_TRAINED) then d else d.tetherLost
  else d

/-- Lanes whose domain or reference came or went start again or go to OFF. -/
def Device.lanesAgain (d : Device) (f : Nat → Bool) : Device :=
  let d := forL ((List.range 28).filter (fun p => d.portExists p && d.on F.NET_PORT_CFG_EN p && f p)) (fun p (d : Device) => d.portStart p) d
  if f 28 && d.on F.LANE_TETHER_CFG_EN then
    (if d.laneAlive 28 then (if d.get F.LANE_TETHER_STATUS_STATE = 0 then d.tetherTry else d)
     else (if d.tetherIsUp then d.raise F.LANE_EVENTS_TETHER_FAIL else d).tetherOff)
  else d

/-- A reference has been outside its window for 20 µs (R239). -/
def Device.refLoss (d : Device) (r : Nat) : Device :=
  let used := if d.get F.RST_STRAPS_CLKMODE = 2 then decide (r = 2) else decide (r ≤ 2)
  if !used || d.on (lossFld r) then d
  else ((d.put (lossFld r) 0 1).raise F.LANE_EVENTS_REFCLK_LOSS).lanesAgain (fun l => decide (d.laneRef l = r))

/-- A reference has been back inside its window for 1 ms (R239). -/
def Device.refBack (d : Device) (r : Nat) : Device :=
  if !d.on (lossFld r) then d
  else (d.put (lossFld r) 0 0).lanesAgain (fun l => decide (d.laneRef l = r))

/-- A window of 1 µs showed too few transitions (R250). -/
def Device.adaptOff (d : Device) (l : Nat) (signal : Bool) : Device :=
  if d.laneSt l = 0 then d
  else ((d.setLaneX l { d.laneX l with lowTd := true }).flag F.LANE_STATUS_SIGNAL l signal).laneFreeze l

/-- A margin check takes the offset sampler of a lane (R251). -/
def Device.checkStart (d : Device) (l : Nat) : Device :=
  d.setLaneX l { d.laneX l with checking := true, checkAt := d.now + 100000000 }

/-- The signal is worth adapting to again: a media lane is checked; a tether lane is at the start of its next window (R250,
R251). -/
def Device.adaptOn (d : Device) (l : Nat) : Device :=
  if d.laneSt l = 0 then d
  else
    let was := d.on F.LANE_STATUS_FROZEN l
    let d := ((d.setLaneX l { d.laneX l with lowTd := false }).flag F.LANE_STATUS_SIGNAL l true).laneFreeze l
    if was && !d.on F.LANE_STATUS_FROZEN l && decide (l < 28) then d.checkStart l else d

/-- 100 ms are over since the last check of a media lane that is UP. -/
def Device.checkTimer (d : Device) (l : Nat) : Device :=
  if decide (l < 28) && decide (d.laneSt l = 5) then (d.waitNow (d.laneX l).checkAt).checkStart l else d

/-- A check ends: no failing corner passes it (R251 to R253). In a training attempt a check that failed is made again (R247). -/
def Device.checkDone (d : Device) (l corners : Nat) : Device :=
  let x := d.laneX l
  if !x.checking then d
  else
    let d := d.setLaneX l { x with checking := false }
    if corners = 0 then
      let d := d.setLaneX l { d.laneX l with passes := x.passes + 1 }
      if x.passes + 1 ≥ 3 then d.put F.LANE_STATUS_DEGRADED l 0 else d
    else
      let d := ((d.setLaneX l { d.laneX l with passes := 0 }).put F.LANE_STATUS_FAIL_CORNERS l corners).bump F.LANE_CNT_MCHK_FAIL_COUNT l 1
      if l < 28 then (d.put F.LANE_STATUS_DEGRADED l 1).raise F.LANE_EVENTS_DEGRADED l
      else if !d.tetherIsUp then d.setLaneX l { d.laneX l with checking := true }
      else if x.retrain = 0 then d.setLaneX l { d.laneX l with retrain := 1 } else d

/-! ## Retraining a tether lane (R252) -/

/-- Both units know that a lane is to be retrained. -/
def Device.retrainAgreed (d : Device) (l : Nat) : Device :=
  if decide (l ≥ 28) && decide (l < 32) && decide ((d.laneX l).retrain < 2) then d.setLaneX l { d.laneX l with retrain := 2 } else d

/-- The device time of the next window of a tether lane (R249). -/
def Device.nextWindow (d : Device) (l : Nat) : Nat :=
  let t := d.tick.num
  let l := if l < 30 then [d.pointNs t 88, d.pointNs (t + 1) 88] else [d.pointNs t 0, d.pointNs t 95, d.pointNs (t + 1) 0]
  (l.find? (fun x => decide (d.devNs < x))).getD (l.getLastD 0)

/-- The retrain starts in the gap in which the lane is idle, and has until 20 µs before the lane's next window (R252). -/
def Device.retrainStart (d : Device) (l : Nat) : Device :=
  let by_ := d.nextWindow l - 20000
  if d.tetherIsUp && decide (d.laneSt l = 6) && decide ((d.laneX l).retrain = 2) && decide (d.devNs < by_) &&
      !decide (d.devNs ≤ (d.laneX l).winEnd) then
    let d := d.setLane l 2
    ((d.setLaneX l { d.laneX l with retrain := 3, retrainBy := by_ }).bump F.LANE_CNT_RETRAIN_COUNT l 1).raise F.LANE_EVENTS_RETRAIN l
  else d

/-- A retrain runs on the lane. -/
def Device.retrains (d : Device) (l : Nat) : Bool := decide ((d.laneX l).retrain = 3) && decide (d.laneSt l = 2)

/-- A retrain finishes in time: within 10 ms (R248), and 20 µs before the lane's next window. -/
def Device.retrainDone (d : Device) (l : Nat) : Device :=
  if d.retrains l && decide (d.devNs ≤ (d.laneX l).retrainBy) && decide (d.now ≤ (d.laneX l).since + 10000000) then
    let d := d.setLane l 6
    d.setLaneX l { d.laneX l with retrain := 0 }
  else d

/-- A retrain that has not finished after 10 ms, or 20 µs before the lane's window, is abandoned: that window is unusable on the
lane, and the retrain is asked for again (R248, R252). -/
def Device.retrainAbandon (d : Device) (l : Nat) : Device :=
  if d.retrains l then
    let x := d.laneX l
    let d := if x.since + 10000000 ≤ d.now + (x.retrainBy - d.devNs) then d.waitNow (x.since + 10000000) else d.waitUntil x.retrainBy
    d.retrainEnd l
  else d

/-! ## Eye scan (R254) -/

/-- A point begins: it is aborted at once on a lane that is not UP. -/
def Device.scanBegin (d : Device) : Device :=
  let l := d.get F.LANE_SCAN_CTRL_LANE
  let d := ((d.put F.LANE_SCAN_RESULT_DONE 0 0).put F.LANE_SCAN_RESULT_ABORTED 0 0).put F.LANE_SCAN_RESULT_ERRORS 0 0
  { d with lanes := { d.lanes with scan := some l } }.scanGuard

/-- The point has counted its length; a frozen lane and one under a margin check have still to count. -/
def Device.scanDone (d : Device) (errors : Nat) : Device :=
  match d.lanes.scan with
  | some l => if d.on F.LANE_STATUS_FROZEN l || (d.laneX l).checking then d else d.scanEnd false errors
  | none => d

/-! ## The commands of the lanes -/

def execLaneAnComplete (port : Nat) (s : State) := onDev (fun d => d.anComplete port) s
def execLaneTrainComplete (port : Nat) (inverted : List Bool) (s : State) := onDev (fun d => d.trainComplete port inverted) s
def execLaneLockAcquired (lane normal inverted : Nat) (markers : Bool) (s : State) :=
  onDev (fun d => d.lockAcquired lane normal inverted markers) s
def execLaneAlignComplete (quad rxMap : Nat) (s : State) := onDev (fun d => d.alignComplete quad rxMap) s
def execLaneLockLoss (lane : Nat) (s : State) := onDev (fun d => d.lockLoss lane) s
def execLaneAttemptTimeout (port : Nat) (s : State) := onDev (fun d => d.attemptTimeout port) s
def execRefclkLoss (ref : Nat) (s : State) := onDev (fun d => d.refLoss ref) s
def execRefclkRecover (ref : Nat) (s : State) := onDev (fun d => d.refBack ref) s
def execAdaptFreeze (lane : Nat) (signal : Bool) (s : State) := onDev (fun d => d.adaptOff lane signal) s
def execAdaptResume (lane : Nat) (s : State) := onDev (fun d => d.adaptOn lane) s
def execMarginCheckTimer (lane : Nat) (s : State) := onDev (fun d => d.checkTimer lane) s
def execMarginCheckComplete (lane corners : Nat) (s : State) := onDev (fun d => d.checkDone lane corners) s
def execTetherAttemptStart (s : State) := onDev (fun d => d.tetherAgain false) s
def execTetherPartnerDetect (s : State) := onDev (fun d => d.tetherAgain true) s
def execTetherAttemptTimeout (s : State) := onDev Device.tetherTimeout s
def execTetherWindowClose (window : Nat) (s : State) := onDev (fun d => d.windowClose window) s
def execLaneRetrainStart (lane : Nat) (s : State) := onDev (fun d => d.retrainStart lane) s
def execLaneRetrainAbandon (lane : Nat) (s : State) := onDev (fun d => d.retrainAbandon lane) s
def execScanComplete (errors : Nat) (s : State) := onDev (fun d => d.scanDone errors) s

end Sys2Proof.Machine
end

