-- ==== Sys2Proof/Machine/Check.lean ====
section
/-!
DEFINITION. Check-value channels (R411 to R415), performance counters (R416 to R420) and the black box (R421
to R426).
-/

namespace Sys2Proof.Machine

/-! ## Check-value channels -/

/-- The parameters of a channel (R412). -/
def Device.chkParam (d : Device) (c : Nat) : CrcParam :=
  let w := d.get F.CHK_CH_CFG_WIDTH c + 1
  { width := w, poly := d.get2 F.CHK_CH_POLY_LO_VALUE F.CHK_CH_POLY_HI_VALUE c % 2 ^ w,
    init := d.get2 F.CHK_CH_INIT_LO_VALUE F.CHK_CH_INIT_HI_VALUE c % 2 ^ w,
    xorOut := d.get2 F.CHK_CH_XOROUT_LO_VALUE F.CHK_CH_XOROUT_HI_VALUE c % 2 ^ w,
    refIn := d.on F.CHK_CH_CFG_REFIN c, refOut := d.on F.CHK_CH_CFG_REFOUT c }

/-- The running register of a channel; bits at or above W are ignored (R412). -/
def Device.chkValue (d : Device) (c : Nat) : Nat :=
  d.get2 F.CHK_CH_VALUE_LO_VALUE F.CHK_CH_VALUE_HI_VALUE c % 2 ^ (d.chkParam c).width

def Device.setChkValue (d : Device) (c v : Nat) : Device :=
  d.put2 F.CHK_CH_VALUE_LO_VALUE F.CHK_CH_VALUE_HI_VALUE c v

/-- Bytes are fed to a channel (R412). -/
def Device.chkFeed (d : Device) (c : Nat) (l : List Byte) : Device :=
  d.setChkValue c (l.foldl (crcFeed (d.chkParam c)) (d.chkValue c))

/-- The finish of R412. -/
def Device.chkFinish (d : Device) (c : Nat) : Device :=
  let p := d.chkParam c
  let alive := d.on F.CHK_CH_CFG_ALIVE_EN c
  let a := d.get F.CHK_CH_ALIVE_ALIVE c
  let d := if alive then d.chkFeed c [BitVec.ofNat 8 a] else d
  let d := d.put2 F.CHK_CH_RESULT_LO_RESULT F.CHK_CH_RESULT_HI_RESULT c (crcOut p (d.chkValue c))
  let d := d.setChkValue c p.init
  if alive then d.put F.CHK_CH_ALIVE_ALIVE c (a + 1) else d

/-- A range of a channel ends with a result (R414). -/
def Device.chkRangeEnd (d : Device) (c result : Nat) : Device :=
  let d := (d.put F.CHK_CH_CMD_BUSY c 0).put F.CHK_CH_CMD_LAST c result
  let d := { d with chkRanges := d.chkRanges.filter (fun (r : ChkRange) => r.chan ≠ c) }
  if result = resOk then d.raise F.CHK_EVENTS_RANGE_DONE c else d.raise F.CHK_EVENTS_RANGE_FAULT c

/-- OP INIT: a range in progress is abandoned (R413, R415). -/
def Device.chkInit (d : Device) (c : Nat) : Device :=
  let d := if d.on F.CHK_CH_CMD_BUSY c then d.chkRangeEnd c resFault else d
  d.setChkValue c (d.chkParam c).init

/-- OP RANGE: the range is checked as one data-port read of the slot and queued for the shared reader (R414). -/
def Device.chkRange (d : Device) (slot c : Nat) : Device :=
  let a := d.get2 F.CHK_CH_ADDR_LO_VALUE F.CHK_CH_ADDR_HI_VALUE c
  let n := d.get F.CHK_CH_LEN_VALUE c
  match d.dramRefused slot a n false with
  | some w => (d.fault slot w.1 0 w.2).chkRangeEnd c resFault
  | none =>
    let d := d.put F.CHK_CH_CMD_BUSY c 1
    { d with chkRanges := d.chkRanges ++ [ChkRange.mk c slot a n] }

/-- A command or data write to a channel while BUSY is dropped, but for INIT (R415). -/
def Device.chkBusy (d : Device) (c : Nat) : Bool := d.on F.CHK_CH_CMD_BUSY c

/-! ## Performance counters -/

/-- A snapshot (R417, R418). -/
def Device.perfSnap (d : Device) : Device :=
  let d := { d with perf := { d.perf with snap := d.perf.cnt } }
  let d := d.put2 F.PERF_SNAP_TICK_LO_VALUE F.PERF_SNAP_TICK_HI_VALUE 0 d.tickNow
  (d.put F.PERF_SNAP_SEQ_VALUE 0 (d.get F.PERF_SNAP_SEQ_VALUE + 1)).raise F.PERF_EVENTS_SNAP

/-- START, STOP or CLEAR acts on all counters (R417). -/
def Device.perfAct (d : Device) (op : Nat) : Device :=
  match op with
  | 2 => d.put F.PERF_CTRL_RUNNING 0 1
  | 3 => d.put F.PERF_CTRL_RUNNING 0 0
  | 4 => { d with perf := { d.perf with cnt := [] } }
  | _ => d

/-- A write to PERF_CMD: at once, or at the next tick edge (R417). -/
def Device.perfCmd (d : Device) (op : Nat) (edge : Bool) : Device :=
  if op = 0 then d
  else if edge && d.tick.running then { d with perf := { d.perf with atEdge := d.perf.atEdge ++ [op] } }
  else if op = 1 then d.perfSnap else d.perfAct op

/-- The tick edge: one snapshot where one is asked for, then the commands that waited, then the edge itself is
counted (R417). -/
def Device.perfEdge (d : Device) : Device :=
  let ops := d.perf.atEdge
  let d := { d with perf := { d.perf with atEdge := [] } }
  let d := if ops.contains 1 || d.on F.PERF_CTRL_SNAP_EDGE then d.perfSnap else d
  (forL ops (fun (op : Nat) (d : Device) => d.perfAct op) d).count 0x02 0 1

/-- The bytes of a window in units of 64 for a port; the hidden ports of a 100GBASE-R quad read 0 (R419). -/
def Device.perfUnitsOf (d : Device) (t : Tab Nat Nat) (p : Nat) : Nat :=
  if d.get F.NET_PORT_CFG_MODE (p / 4 * 4) = 2 ∧ p % 4 ≠ 0 then 0 else Tab.get t 0 p / 64

/-- A bandwidth window ends: the counts are latched and the next window starts (R419). -/
def Device.perfBwWindow (d : Device) : Device :=
  match d.perf.windowStart with
  | none => d
  | some t =>
    let stop := t + d.get F.PERF_BW_CFG_WINDOW_MS * 1000000
    let d := d.waitUntil stop
    let latch (p : Nat) (e : Device) : Device :=
      (e.put F.PERF_BW_RX_UNITS p (d.perfUnitsOf d.perf.rxBytes p)).put F.PERF_BW_TX_UNITS p (d.perfUnitsOf d.perf.txBytes p)
    let d := forN 28 latch d
    let d := { d with perf := { d.perf with rxBytes := [], txBytes := [], windowStart := some stop } }
    (d.put F.PERF_BW_SEQ_VALUE 0 (d.get F.PERF_BW_SEQ_VALUE + 1)).raise F.PERF_EVENTS_BW_WINDOW

def execPerfBwWindow (s : State) : Host.Outcome State Fault Refusal := onDev Device.perfBwWindow s

/-- Writing WINDOW_MS starts the first window afresh (R419). -/
def Device.perfBwStart (d : Device) : Device :=
  { d with perf := { d.perf with rxBytes := [], txBytes := [], windowStart := some d.devNs } }

/-- The sample word of R420. -/
def sampleWord (output row col unit tick : Nat) : Nat :=
  output % 32 * 2 ^ 27 + row % 16 * 2 ^ 23 + col % 16 * 2 ^ 19 + unit % 8 * 2 ^ 16 + tick % 65536

/-- A sample may carry the tile: at most two rows after that of the occurrence, and the very tile in its own row; of the pipe
concerned, where one took part (R420). -/
def SampleDue.admits (q : SampleDue) (output row col unit : Nat) : Bool :=
  let r := q.tile / 16
  decide (r ≤ row ∧ row ≤ r + 2 ∧ row < 16) && (decide (row ≠ r) || (decide (output = q.output) && decide (col = q.tile % 16))) &&
  (match q.pipe with
   | some p => decide (unit = p)
   | none => true)

/-- The first sample that is due is taken: a sample word enters the buffer, or is dropped (R420). -/
def Device.perfSample (output row col unit : Nat) (d : Device) : Device :=
  match d.perf.due with
  | q :: rest =>
    if q.admits output row col unit then
      ({ d with perf := { d.perf with due := rest } } : Device).placeSample (sampleWord output row col unit q.tick)
    else d
  | [] => d

def execPerfSample (output row col unit : Nat) (s : State) : Host.Outcome State Fault Refusal :=
  onDev (Device.perfSample output row col unit) s

/-- A read of PERF_SAMPLE_POP (R420). -/
def Device.samplePop (d : Device) : Device × Nat :=
  match d.perf.samples with
  | [] => (d, 0xFFFFFFFF)
  | w :: r => ({ d with perf := { d.perf with samples := r } }, w)

/-! ## The black box -/

/-- An entry of the black box as it is read (R421). -/
def BbEntry.bytes (e : BbEntry) : List Byte :=
  leBytes 4 e.seq ++ leBytes 2 e.ev.code ++ leBytes 1 e.ev.source ++ leBytes 1 (if e.trigger then 3 else 1)
  ++ leBytes 8 e.ev.tick ++ leBytes 4 e.ev.ns ++ leBytes 4 e.ev.arg0 ++ leBytes 8 e.ev.arg1

/-- The system engine copies recorded events to the spill ring: it runs once READY has been reached (R425). -/
def Device.spilling (d : Device) : Bool :=
  (decide (d.pwr = .standby) || decide (d.pwr = .ready) || decide (d.pwr = .run))
  && !(d.get F.SYS_ENGINE_STATUS_STOPPED).testBit 14

/-- A recorded entry goes to the spill ring, which restarts with it after a reset (R425). -/
def Device.spill (d : Device) (e : BbEntry) : Device :=
  if d.spilling then
    let d := if d.bb.spillOn then d
      else { d.put F.BBOX_SPILL_FIRST_SEQ 0 e.seq with bb := { d.bb with spill := [], spillOn := true } }
    let d := { d with bb := { d.bb with spill := Tab.set d.bb.spill (e.seq % 32768) e } }
    let span := (e.seq + 2 ^ 32 - d.get F.BBOX_SPILL_FIRST_SEQ) % 2 ^ 32
    if span ≥ 32768 then d.put F.BBOX_SPILL_FIRST_SEQ 0 (e.seq + 2 ^ 32 - 32767) else d
  else d

/-- The black box freezes: the events still staged are not recorded (R424). -/
def Device.freeze (d : Device) : Device :=
  let n := d.bb.staging.length
  let d := { d with bb := { d.bb with staging := [], post := none } }
  ((d.put F.BBOX_STATUS_FROZEN 0 1).bump F.BBOX_LOST_COUNT 0 n).raise F.BBOX_EVENTS_FROZEN

/-- One more event was recorded: the freeze comes with the last of the POST events (R424). -/
def Device.postStep (d : Device) (trigger : Bool) : Device :=
  if trigger then
    let n := d.get F.BBOX_CFG_POST
    let d := (d.put F.BBOX_STATUS_TRIGGERED 0 1).put F.BBOX_TRIG_SEQ_SEQ 0 (d.get F.BBOX_NEXT_SEQ_SEQ + 2 ^ 32 - 1)
    if n = 0 then d.freeze else { d with bb := { d.bb with post := some n } }
  else match d.bb.post with
    | none => d
    | some n => if n ≤ 1 then d.freeze else { d with bb := { d.bb with post := some (n - 1) } }

/-- The event at the head of the staging queue is written to the SRAM and the spill ring (R421, R423, R424). -/
def Device.bbWrite (d : Device) : Device :=
  match d.bb.staging with
  | [] => d
  | ev :: rest =>
    let d := (d.elapse 40)
    let d := { d with bb := { d.bb with staging := rest } }
    let seq := d.get F.BBOX_NEXT_SEQ_SEQ
    let trig := !d.on F.BBOX_STATUS_TRIGGERED && (d.get F.BBOX_CFG_TRIG).testBit (ev.code / 16 % 16)
    let e : BbEntry := ⟨seq, ev, trig⟩
    let d := { d with bb := { d.bb with sram := Tab.set d.bb.sram (seq % 4096) e } }
    ((d.put F.BBOX_NEXT_SEQ_SEQ 0 (seq + 1)).spill e).postStep trig

def execBboxEntryWrite (s : State) : Host.Outcome State Fault Refusal := onDev Device.bbWrite s

/-- A write of ARM (R424). -/
def Device.bbArm (d : Device) : Device :=
  let d := (d.put F.BBOX_STATUS_FROZEN 0 0).put F.BBOX_STATUS_TRIGGERED 0 0
  { d with bb := { d.bb with post := none } }

/-- A byte of the black-box window: the SRAM from 0x0_0000, the spill ring from 0x10_0000 (R426). -/
def Device.bbByte (d : Device) (off : Nat) : Byte :=
  let e := if off < 0x100000 then Tab.find d.bb.sram (off / 32) else Tab.find d.bb.spill ((off - 0x100000) / 32)
  match e with
  | some e => e.bytes.getD (off % 32) 0
  | none => 0

end Sys2Proof.Machine
end

