-- ==== Sys2Proof/Machine/Mem.lean ====
section
/-!
DEFINITION. The memory controllers: the address map (R315 to R319), queues and open rows (R321 to R323),
acknowledged writes (R325), error correction (R327 to R330), the scrubber (R331), stack temperature (R323) and
the stop of a control engine (R19).
-/

namespace Sys2Proof.Machine

/-! ## The address map -/

/-- Entry `n` of the channel list of R317. -/
def highChannel (n : Nat) : Nat := if n < 15 then n + 1 else n + 2

/-- g of R316. -/
def Device.grain (d : Device) : Nat := d.get F.MEM_MAP_GRAIN + 8

/-- The channel and channel-local address of a data-port address (R316 to R318). -/
def Device.translate (d : Device) (a : Nat) : Nat × Nat :=
  let g := d.grain
  if a < 0x600000000 then
    let u := a / 2 ^ g
    let c := if d.on F.MEM_MAP_HASH then ((u % 32) ^^^ (u / 32 % 32)) ^^^ (u / 1024 % 32) else u % 32
    (c, u / 32 * 2 ^ g + a % 2 ^ g)
  else if a < sysBase then
    let u := (a - 0x600000000) / 2 ^ g
    (highChannel (u % 30), 0x30000000 + u / 30 * 2 ^ g + a % 2 ^ g)
  else
    let u := (a - sysBase) / 2 ^ g
    (if u % 2 = 0 then 0 else 16, 0x30000000 + u / 2 * 2 ^ g + a % 2 ^ g)

/-- Bits `hi` to `lo` of a number. -/
def bitsOf (v hi lo : Nat) : Nat := v / 2 ^ lo % 2 ^ (hi - lo + 1)

/-- The pseudo-channel of a channel-local address (R319). -/
def Device.pcOf (d : Device) (l : Nat) : Nat :=
  match d.get F.MEM_MAP_ORDER with
  | 1 => bitsOf l 12 12
  | 2 => bitsOf l 7 7
  | _ => bitsOf l 10 10

/-- The bank of a channel-local address, as one number from pseudo-channel, SID, bank group and bank (R319). -/
def Device.bankOf (d : Device) (l : Nat) : Nat :=
  let p := match d.get F.MEM_MAP_ORDER with
    | 0 => (bitsOf l 15 15, bitsOf l 12 11, bitsOf l 14 13)
    | 1 => (bitsOf l 15 15, bitsOf l 11 10, bitsOf l 14 13)
    | 2 => (bitsOf l 15 15, bitsOf l 9 8, bitsOf l 14 13)
    | _ => (bitsOf l 29 29, bitsOf l 26 25, bitsOf l 28 27)
  d.pcOf l * 32 + p.1 * 16 + p.2.1 * 4 + p.2.2

/-- The row of a channel-local address (R319). -/
def Device.rowOf (d : Device) (l : Nat) : Nat :=
  if d.get F.MEM_MAP_ORDER = 3 then bitsOf l 24 11 else bitsOf l 29 16

/-! ## Queues (R321, R322) -/

/-- The memory is powered and holds data (R332). -/
def Device.memOn (d : Device) : Bool := decide (d.pwr = .standby) || d.coreOn

/-- The requests of a channel are held: its rate changes, or it is in self-refresh with its controller's clock stopped (R332,
R334). -/
def Device.chanHeld (d : Device) (c : Nat) : Bool :=
  (d.fchg.isSome && (decide (c = 0) || decide (c = 16))) || (d.get F.MEM_SR_STATUS_SR).testBit c

/-- A request joins the queue, whose highest occupancy is kept. -/
def Device.enqueue (d : Device) (c : Nat) (r : MemReq) : Device :=
  let x := d.chan c
  let d := d.setChan c { x with queue := x.queue ++ [r] }
  d.put F.MEM_CH_STATUS_PEAK c (max (d.get F.MEM_CH_STATUS_PEAK c) (x.queue.length + 1))

/-- Requests that wait in the interconnect move into the queue while it has room. -/
def Device.refill (d : Device) (c : Nat) : Device :=
  match (d.chan c).waiting with
  | [] => d
  | r :: rest =>
    if d.chanHeld c || decide ((d.chan c).queue.length ≥ 64) then d
    else (d.setChan c { d.chan c with waiting := rest }).enqueue c r

/-- A request of one burst reaches its channel; a write to a berth being filled is one more to acknowledge. -/
def Device.memRequest (addr : Nat) (write : Bool) (off : Nat) (data : List Byte) (who : Requester) (use : MemUse)
    (d : Device) : Device :=
  if d.memOn && decide (addr < dramEnd) then
    let a := addr / 32 * 32
    let c := (d.translate a).1
    let r : MemReq := ⟨a, write, off % 32, data.take (32 - off % 32), who, use⟩
    let d := match use with
      | .berth n =>
        let b := d.berth n
        if write && decide (b.st = BerthSt.filling) then d.setBerth n { b with unacked := b.unacked + 1 } else d
      | _ => d
    if d.chanHeld c || decide ((d.chan c).queue.length ≥ 64) then
      d.setChan c { d.chan c with waiting := (d.chan c).waiting ++ [r] }
    else d.enqueue c r
  else d

def execMemRequest (addr : Nat) (write : Bool) (off : Nat) (data : List Byte) (who : Requester) (use : MemUse)
    (s : State) : Host.Outcome State Fault Refusal := onDev (Device.memRequest addr write off data who use) s

/-- The bank and row that a request needs. -/
def Device.place (d : Device) (r : MemReq) : Nat × Nat :=
  let l := (d.translate r.addr).2
  (d.bankOf l, d.rowOf l)

/-- The request is a row hit. -/
def Device.rowHit (d : Device) (c : Nat) (r : MemReq) : Bool :=
  match Tab.find (d.chan c).open_ (d.place r).1 with
  | some o => decide (o.1 = (d.place r).2)
  | none => false

/-- The request that the controller issues next: the oldest row hit, else the oldest (R321). -/
def Device.nextReq (d : Device) (c : Nat) : Option MemReq :=
  match (d.chan c).queue.find? (fun r => d.rowHit c r) with
  | some r => some r
  | none => (d.chan c).queue.head?

/-- Take the first occurrence of a request out of a queue. -/
def dropReq (l : List MemReq) (r : MemReq) : List MemReq := l.erase r

/-- The column command of a request: activate or row hit, open row or auto-precharge (R322), and the counts of
R416. A bank that is left without a request sends the refreshes it postponed (R323). -/
def Device.issue (d : Device) (c : Nat) (r : MemReq) : Device :=
  let hit := d.rowHit c r
  let p := d.place r
  let x := d.chan c
  let q := dropReq x.queue r
  let run := if hit then (match Tab.find x.open_ p.1 with | some o => o.2 + 1 | none => 1) else 1
  let more := q.any (fun k => decide (d.place k = p))
  let keep := more && decide (run < d.get F.MEM_SCHED_CFG_RUN_MAX)
  let open' := if keep then Tab.set x.open_ p.1 (p.2, run) else Tab.del x.open_ p.1
  let busy := q.any (fun k => decide ((d.place k).1 = p.1))
  let late := if busy then x.postponed else Tab.del x.postponed p.1
  let d := d.setChan c { x with queue := q, open_ := open', postponed := late }
  let d := if hit then d.count 0x10 c 1 else d.count 0x0F c 1
  (d.count (if r.write then 0x0E else 0x0D) c 1).refill c

/-! ## Engines that stop (R19) -/

/-- A control engine is held stopped (R19). -/
def Device.engineStop (d : Device) (n : Nat) : Device :=
  let w := d.get F.SYS_ENGINE_STATUS_STOPPED
  ((d.put F.SYS_ENGINE_STATUS_STOPPED 0 (setBit w n true)).raise F.SYS_EVENTS_ENGINE_HUNG n).record 0x0010 0 n 0

def execEngineWatchdogExpire (engine : Nat) (s : State) : Host.Outcome State Fault Refusal :=
  onDev (fun d => d.engineStop (engine % 16)) s

/-! ## Errors (R328 to R330) -/

/-- The code of a requester in MEM_ERR_INFO.SOURCE (R336). -/
def sourceCode : Requester → Nat
  | .ingest => 0 | .decCore _ => 1 | .encCore _ => 2 | .blend _ => 3 | .pager => 3
  | .path _ _ => 4 | .loop _ _ => 4 | .port _ => 5 | .pair => 6 | .engine _ => 7 | .scrub => 8

/-- A correctable error (R328). -/
def Device.correctable (d : Device) (c : Nat) : Device :=
  let d := ((d.bump F.MEM_CE_CNT_COUNT 0 1).bump F.MEM_CH_CE_COUNT c 1).count 0x11 c 1
  let d : Device := { d with ceAt := Tab.upd d.ceAt 0 d.edges (· + 1) }
  d.raise F.MEM_EVENTS_CE

/-- The berth in use whose memory holds an address. -/
def Device.berthAt (d : Device) (a : Nat) : Option Nat :=
  (d.berths.find? (fun p => decide (p.2.st ≠ .free) && decide (d.berthAddr p.1 ≤ a) &&
    decide (a < d.berthAddr p.1 + d.poolSize (d.classOf p.1)))).map (fun p => p.1)

/-- A pending request whose steps 1 to 11 have not finished reads an entry, by cache (0 descriptors, 1 LUT sets, 2 coefficient
sets, 3 images) and index. -/
def Device.requestReads (d : Device) (k : Nat × Nat) : Bool :=
  match d.layoutReq with
  | some r =>
    let desc (i : Nat) : Option Desc := Tab.find r.layout.named i
    !r.same && !r.prepared &&
    (match k.1 with
     | 0 => decide (k.2 ∈ descRefs r.layout.outs)
     | 1 => decide (k.2 ∈ lutRefs d desc r.layout.outs)
     | 2 => decide (k.2 ∈ coefRefs desc r.layout.outs)
     | _ => decide (k.2 ∈ d.imageRefs (r.layout.sources desc)))
  | none => false

/-- The pager meets an uncorrectable error in an entry: a request that reads it ends with DESCRIPTOR (R469), and while a layout is
in force the entry is as one whose CHECK is wrong (R121, R142, R329). -/
def Device.poisonedEntry (d : Device) (cache i : Nat) : Device :=
  let d := if d.requestReads (cache, i) then d.endRequest .descriptor else d
  if d.layout.isNone then d
  else
    let k := d.tick
    match cache with
    | 0 => ({ d with tick := { k with descs := Tab.set k.descs i none } } : Device).raise F.CMP_EVENTS_DESC_CHECK i
    | 1 => ({ d with tick := { k with luts := Tab.set k.luts i none } } : Device).raise F.PIX_EVENTS_LUT_CHECK i
    | 2 => ({ d with tick := { k with coefs := Tab.set k.coefs i none } } : Device).raise F.CMP_EVENTS_DESC_CHECK i
    | _ => ({ d with tick := { k with marks := Tab.set k.marks i none } } : Device).raise F.CMP_EVENTS_DESC_CHECK i

/-- A decode core meets an uncorrectable error in a session's ring: the access unit of the running job, or the first one that
waits, is treated as never received (R171, R329). -/
def Device.poisonedRing (d : Device) (n : Nat) : Device :=
  let x := d.dec n
  match x.running, x.jobs, x.aus with
  | j :: r, _, _ =>
    let d := d.setDec n { x with running := r }
    let d := match j.berth with
      | some b => d.discard b
      | none => d
    d.decNever n j.no (picReferable j.head (d.codec n))
  | [], j :: r, _ => (d.setDec n { x with jobs := r }).decNever n j.no (picReferable j.head (d.codec n))
  | [], [], a :: r =>
    (d.setDec n { x with aus := r, index := x.index + 1 }).decNever n x.index
      ((a.head.map (fun h => picReferable h (d.codec n))).getD true)
  | [], [], [] => d

/-- What the reader of poisoned data does (R329). -/
def Device.poisonedUse (d : Device) (who : Requester) (use : MemUse) : Device :=
  match use with
  | .tile o t => { d with tick := { d.tick with abandoned := d.tick.abandoned ++ [(o, t)] } }
  | .moored o t => { d with tick := { d.tick with abandoned := d.tick.abandoned ++ [(o, t)] } }
  | .refPic _ => d
  | .encInput n =>
    let x := d.enc n
    d.setEnc n { x with jobs := match x.jobs with
      | [] => []
      | j :: r => { j with memFloor := true, timeFloor := true } :: r }
  | .layoutRecord => if d.layoutReq.isSome then d.endRequest .check else d
  | .desc i => d.poisonedEntry 0 i
  | .lut i => d.poisonedEntry 1 i
  | .coef i => d.poisonedEntry 2 i
  | .image i => d.poisonedEntry 3 i
  | .ring n => d.poisonedRing n
  | .codedRing n =>
    match (d.enc n).feeds with
    | f :: _ => d.feedFail n 1 f
    | [] => d
  | .mirror => d.mirrorBroken
  | .firmware e =>
    let d := d.raise F.MEM_EVENTS_UE_SYSTEM
    match who with
    | .engine n => d.engineStop n
    | _ => d.engineStop e
  | .spill s => { d with bb := { d.bb with spill := Tab.del d.bb.spill (s % 32768) } }
  | .berth _ => d
  | .port _ => d
  | .other => d

/-- An uncorrectable error: what is recorded, counted and raised, the berth that holds the byte, and the reader
(R329). -/
def Device.uncorrectable (d : Device) (r : MemReq) : Device :=
  let a := r.addr
  let t := d.translate a
  let d := (d.put F.MEM_ERR_ADDR_LO_ADDR_LO 0 (a / 32)).put F.MEM_ERR_ADDR_HI_ADDR_HI 0 (a / 2 ^ 32)
  let region := if a < 0x600000000 then 0 else if a < sysBase then 1 else 2
  let d := ((d.put F.MEM_ERR_INFO_REGION 0 region).put F.MEM_ERR_INFO_SOURCE 0 (sourceCode r.by_))
  let d := ((d.put F.MEM_ERR_INFO_PC 0 (d.pcOf t.2)).put F.MEM_ERR_INFO_CHANNEL 0 t.1)
  let info := R.MEM_ERR_INFO.word (fun f => d.get f)
  let d := ((d.bump F.MEM_UE_CNT_COUNT 0 1).raise F.MEM_EVENTS_UE).note 4
  let d := d.record (if region = 2 then 0x0031 else 0x0030) 12 info a
  let d := match d.berthAt a with
    | some n => (d.stopCorrupt n).corrupt n
    | none => d
  d.poisonedUse r.by_ r.use

/-- Every error in the bits of a burst that a read meets: `bits` wrong in the data and check bits, `addrBits` in
the address that the code covers (R327), or a burst poisoned before (R330). -/
def Memory.badRead (m : Memory) (a bits addrBits : Nat) : Bool :=
  decide (bits ≥ 2) || decide (addrBits ≠ 0) || m.burstBad a

/-- MEM_READ_RESPONSE: the burst of the read that the controller issues comes back checked (R327 to R329). -/
def Chip.memRead (channel bits addrBits : Nat) (c : Chip) : Chip :=
  let ch := channel % 32
  match c.dev.nextReq ch with
  | none => c
  | some r =>
    if r.write || c.dev.chanHeld ch then c
    else
      let d := c.dev.issue ch r
      if c.mem.badRead r.addr bits addrBits then
        let p := if bits ≥ 2 ∧ !c.mem.burstBad r.addr then c.mem.poison ++ [r.addr] else c.mem.poison
        { c with mem := { c.mem with poison := p }, dev := d.uncorrectable r }
      else { c with dev := if bits = 1 then d.correctable ch else d }

def execMemReadResponse (channel bits addrBits : Nat) (s : State) : Host.Outcome State Fault Refusal :=
  onChip (Chip.memRead channel bits addrBits) s

/-- A write to a berth is acknowledged; the last one seals a berth whose producer has finished (R325). -/
def Device.ackBerth (d : Device) (use : MemUse) : Device :=
  match use with
  | .berth n =>
    let b := d.berth n
    if b.st = .filling ∧ b.unacked ≠ 0 then
      let d := d.setBerth n { b with unacked := b.unacked - 1 }
      if b.unacked = 1 ∧ b.done then d.sealSource n (d.berthSource n) else d
    else d
  | _ => d

/-- MEM_WRITE_ACK: the write that the controller issues is in place and acknowledged. A write of less than a
burst reads and merges, so that an uncorrectable error leaves the burst poisoned (R325, R330). -/
def Chip.memAck (channel bits : Nat) (c : Chip) : Chip :=
  let ch := channel % 32
  match c.dev.nextReq ch with
  | none => c
  | some r =>
    if !r.write || c.dev.chanHeld ch then c
    else
      let d := c.dev.issue ch r
      let whole := decide (r.data.length = 32)
      let bad := !whole && c.mem.badRead r.addr bits 0
      let fixed := !whole && !bad && decide (bits = 1)
      let p := if bad ∧ !c.mem.burstBad r.addr then c.mem.poison ++ [r.addr]
        else if whole then c.mem.poison.filter (· ≠ r.addr) else c.mem.poison
      let m := { c.mem with dram := Dram.writeList c.mem.dram (r.addr + r.off) r.data, poison := p }
      let d := if bad then d.uncorrectable r else if fixed then d.correctable ch else d
      { c with mem := m, dev := d.ackBerth r.use }

def execMemWriteAck (channel bits : Nat) (s : State) : Host.Outcome State Fault Refusal :=
  onChip (Chip.memAck channel bits) s

/-! ## Check ranges (R414) -/

/-- The poisoned bursts that a read meets. -/
def Memory.badOf (m : Memory) (a n : Nat) : List Nat := (bursts a n).filter (fun b => m.poison.contains b)

/-- Bursts that hold an uncorrectable error are met by a data port: each is recorded (R329). -/
def Device.portErrs (d : Device) (slot : Nat) (bad : List Nat) (write : Bool) : Device :=
  forL bad (fun (b : Nat) (d : Device) => d.uncorrectable ⟨b, write, 0, [], .port slot, .port slot⟩) d

/-- The shared reader ends the range at the head of its line: the bytes are fed in rising address order, or
VALUE stays as it was where an uncorrectable error was met (R329, R414). -/
def Device.chkRangeComplete (m : Memory) (d : Device) : Device :=
  match d.chkRanges with
  | [] => d
  | r :: _ =>
    let p := m.readPort r.addr r.len
    if p.2 then (d.portErrs r.slot (m.badOf r.addr r.len) false).chkRangeEnd r.chan resPoison
    else (d.chkFeed r.chan p.1).chkRangeEnd r.chan resOk

def execChkRangeComplete (s : State) : Host.Outcome State Fault Refusal := onDevM Device.chkRangeComplete s

/-! ## Refresh and temperature (R323) -/

/-- A bank's refresh falls due: it is sent to a bank without a request, with those it postponed; a bank with
requests postpones up to 8, and then sends one before every request. -/
def Device.refreshDue (channel bank : Nat) (d : Device) : Device :=
  let ch := channel % 32
  let b := bank % 64
  let x := d.chan ch
  if d.chanHeld ch then d
  else if !x.queue.any (fun r => decide ((d.place r).1 = b)) then
    d.setChan ch { x with open_ := Tab.del x.open_ b, postponed := Tab.del x.postponed b }
  else if Tab.get x.postponed 0 b < 8 then d.setChan ch { x with postponed := Tab.upd x.postponed 0 b (· + 1) }
  else d.setChan ch { x with open_ := Tab.del x.open_ b }

def execMemRefreshDue (channel bank : Nat) (s : State) : Host.Outcome State Fault Refusal :=
  onDev (Device.refreshDue channel bank) s

/-- A stack reports its temperature: above 85 °C TEMP_HIGH is set, and raised when it changes to 1. -/
def Device.stackTemp (stack temp : Nat) (d : Device) : Device :=
  let f := if stack % 2 = 0 then F.MEM_STATUS_TEMP_HIGH_A else F.MEM_STATUS_TEMP_HIGH_B
  let d := d.put (if stack % 2 = 0 then F.MEM_TEMP_STACK_A else F.MEM_TEMP_STACK_B) 0 temp
  if temp > 85 then (if d.on f then d else (d.put f 0 1).raise F.MEM_EVENTS_TEMP_HIGH) else d.put f 0 0

def execMemStackTempHigh (stack temp : Nat) (s : State) : Host.Outcome State Fault Refusal :=
  onDev (Device.stackTemp stack temp) s

def execMemStackTempNormal (stack temp : Nat) (s : State) : Host.Outcome State Fault Refusal :=
  onDev (fun d => d.stackTemp stack temp) s

/-! ## The scrubber (R331) -/

/-- The length of a pass in seconds. -/
def Device.scrubSeconds (d : Device) : Nat :=
  let p := d.get F.MEM_SCRUB_CFG_PERIOD_S
  if d.sends then p else min p 600

/-- The scrubber reads every channel: it is enabled, and no channel is in self-refresh or changes its rate (R331, R334). -/
def Device.scrubOn (d : Device) : Bool := d.on F.MEM_SCRUB_CFG_EN && d.coreOn && d.fchg.isNone

/-- A pass of the scrubber ends and the next begins. -/
def Device.scrubEnd (d : Device) : Device :=
  if d.scrubOn then
    let d := d.waitNow (d.scrubStart + (d.scrubSeconds * 1000000000 - d.scrubDone))
    let d : Device := { d with scrubStart := d.now, scrubDone := 0 }
    (d.put F.MEM_SCRUB_STATUS_PASSES 0 (d.get F.MEM_SCRUB_STATUS_PASSES + 1)).raise F.MEM_EVENTS_SCRUB_DONE
  else d

def execMemScrubPassEnd (s : State) : Host.Outcome State Fault Refusal := onDev Device.scrubEnd s

/-- How long the pass has run, its pauses left out. -/
def Device.scrubElapsed (d : Device) : Nat := d.scrubDone + if d.scrubOn then d.now - d.scrubStart else 0

/-- The progress of the pass in thousandths. -/
def Device.scrubPermille (d : Device) : Nat :=
  if d.on F.MEM_SCRUB_CFG_EN then min 1000 (d.scrubElapsed / (d.scrubSeconds * 1000000)) else 0

/-- The scrubber pauses: the position of the pass is kept (R331, R334). -/
def Device.scrubPause (d : Device) : Device := { d with scrubDone := d.scrubElapsed }

/-! ## What a rate change does to the channels (R334) -/

/-- Every queued request of a channel completes. -/
def Chip.drain (ch : Nat) (c : Chip) : Chip :=
  ((c.dev.chan ch).queue.foldl (fun (c : Chip) (r : MemReq) =>
    let d := c.dev.setChan ch { c.dev.chan ch with queue := dropReq (c.dev.chan ch).queue r }
    if r.write then
      { c with mem := { c.mem with dram := Dram.writeList c.mem.dram (r.addr + r.off) r.data }, dev := d.ackBerth r.use }
    else { c with dev := d }) c).mapDev (fun d => d.setChan ch { d.chan ch with open_ := [], postponed := [] })

/-- The requests that were held go to the queue, as far as it has room (R334). -/
def Device.releaseHeld (d : Device) (ch : Nat) : Device := forN 64 (fun (_ : Nat) (d : Device) => d.refill ch) d

end Sys2Proof.Machine
end

