-- ==== Sys2Proof/Machine/Touch.lean ====
section
/-!
DEFINITION. Console touch keys (R430 to R440), the general pins (R458) and the THERMAL condition (R463).
-/

namespace Sys2Proof.Machine

def Device.touchKey (d : Device) (k : Nat) : TouchKey := Tab.get d.touch.keys TouchKey.empty k

/-- Keep a key, and show its state, whether it is PRESSED, and its baseline. -/
def Device.setTouchKey (d : Device) (k : Nat) (v : TouchKey) : Device :=
  let d : Device := { d with touch := { d.touch with keys := Tab.set d.touch.keys k v } }
  let d := (d.put F.TOUCH_KEY_STATUS_STATE k v.st).put F.TOUCH_KEY_READING_BASELINE k v.base
  d.put F.TOUCH_PRESSED_PRESSED 0 (setBit (d.get F.TOUCH_PRESSED_PRESSED) k (decide (v.st = 3)))

/-- Sensing runs: PD11 is on and EN is 1 (R430). -/
def Device.sensing (d : Device) : Bool := d.coreOn && !d.inReset 11 && d.on F.TOUCH_CTRL_EN

/-- Key `k` is enabled. -/
def Device.keyOn (d : Device) (k : Nat) : Bool := (d.get F.TOUCH_KEY_EN_EN).testBit k

/-- The key enters a state with its counters cleared. -/
def enterKey (q : TouchKey) (st : Nat) : TouchKey :=
  { q with st := st, up := 0, down := 0, low := 0, n := 0, sum := 0, check := false, nearN := 0, nearSum := 0, held := 0, drift := 0 }

/-- The key enters LEARNING (R434); it reports a release where it leaves PRESSED (R435). -/
def Device.learn (d : Device) (k : Nat) (check : Bool) : Device :=
  let q := d.touchKey k
  let d := d.setTouchKey k { enterKey q 1 with check := check, suspect := false }
  if q.st = 3 then d.raise F.TOUCH_EVENTS_RELEASE k else d

/-- Sensing of the key stops (R432, R435). -/
def Device.keyOff (d : Device) (k : Nat) : Device :=
  let q := d.touchKey k
  let d := d.setTouchKey k ({ enterKey q 0 with suspect := false })
  if q.st = 3 then d.raise F.TOUCH_EVENTS_RELEASE k else d

/-- A REBASE command or a GAIN change re-baselines an enabled key while sensing runs (R431, R434). -/
def Device.rebase (d : Device) (k : Nat) : Device :=
  if d.sensing && d.keyOn k then (d.learn k false).raise F.TOUCH_EVENTS_REBASE k else d

/-- REBASE with ALL: every enabled key. -/
def Device.rebaseAll (d : Device) : Device := forN 32 (fun (k : Nat) (d : Device) => d.rebase k) d

/-- The first learning of a key after EN or its enable bit has become 1, `old` the device before, makes the factory check
(R434). -/
def Device.touchFresh (d old : Device) : Device :=
  let on (d : Device) (k : Nat) : Bool := d.on F.TOUCH_CTRL_EN && d.keyOn k
  { d with touch := { d.touch with fresh := (d.touch.fresh ++ (List.range 32).filter (fun k => on d k && !on old k)).dedup } }

/-- Sensing or the enables have changed: keys start learning or stop (R434). -/
def Device.touchRefresh (d : Device) : Device :=
  forN 32 (fun (k : Nat) (d : Device) =>
    let q := d.touchKey k
    if d.sensing && d.keyOn k then
      (if q.st = 0 then
        ({ d with touch := { d.touch with fresh := d.touch.fresh.erase k } } : Device).learn k (decide (k ∈ d.touch.fresh)) else d)
    else if q.st = 0 then d else d.keyOff k) d

/-! ## Actions (R436, R437) -/

/-- The action of a key is carried out. -/
def Device.touchAction (m : Memory) (d : Device) (k : Nat) : Device :=
  let arg := d.get F.TOUCH_KEY_ACTION_ARG k
  match d.get F.TOUCH_KEY_ACTION_ACTION k with
  | 1 =>
    let slot := d.get F.TOUCH_KEY_ACTION_SLOT k
    if d.layoutReq.isSome then (d.requestLayout m slot arg).raise F.TOUCH_EVENTS_ACTION_FAIL k
    else ({ d with touch := { d.touch with recallKey := some k } } : Device).requestLayout m slot arg
  | 2 => if d.on F.TOUCH_KEY_ACTION_ALL k then d.ackAllSources else d.ackSource (arg % 256)
  | 3 =>
    let g := d.get F.TOUCH_KEY_ACTION_GROUP k
    let w := d.get F.TOUCH_SELECT_SOURCE
    let w' := w - w / 2 ^ (8 * g) % 256 * 2 ^ (8 * g) + arg % 256 * 2 ^ (8 * g)
    (d.put F.TOUCH_SELECT_SOURCE 0 w').raise F.TOUCH_EVENTS_SELECT k
  | _ => d

/-- A press: the event, and its action, which a unit that does not hold the halter leaves to the holder (R280,
R439). -/
def Device.press (m : Memory) (d : Device) (k : Nat) : Device :=
  let d := d.raise F.TOUCH_EVENTS_PRESS k
  if decide (d.pwr ≠ .run) || d.sends then d.touchAction m k
  else { d with touch := { d.touch with toSend := d.touch.toSend ++ [k] } }

/-! ## The scan (R432 to R434) -/

/-- Count a condition that has to hold in scans on end. -/
def tally (n : Nat) (b : Bool) : Nat := if b then n + 1 else 0

/-- The mean of readings, rounded down. -/
def meanOf (sum n : Nat) : Nat := sum / n

/-- The scan of a key in LEARNING. -/
def Device.scanLearning (d : Device) (k x : Nat) : Device :=
  let q := d.touchKey k
  let f := d.get F.TOUCH_KEY_FACTORY_BASE k
  let limit := 3 * d.get F.TOUCH_KEY_THRESH_THRESH k
  let far := decide (x > f + limit) || decide (x + limit < f)
  let sus := q.suspect || (q.check && decide (q.n = 0) && decide (f ≠ 0) && far)
  if q.n + 1 < 32 then d.setTouchKey k { q with n := q.n + 1, sum := q.sum + x, suspect := sus }
  else
    let b := meanOf (q.sum + x) 32
    if sus then (d.setTouchKey k { enterKey q 5 with base := b, suspect := false }).raise F.TOUCH_EVENTS_SUSPECT k
    else d.setTouchKey k { enterKey q 2 with base := b }

/-- The scan of a key in SUSPECT. -/
def Device.scanSuspect (d : Device) (k x : Nat) : Device :=
  let q := d.touchKey k
  let f := d.get F.TOUCH_KEY_FACTORY_BASE k
  let t := d.get F.TOUCH_KEY_THRESH_THRESH k
  let near := decide (x ≤ f + 3 * t) && decide (f ≤ x + 3 * t)
  let n := tally q.nearN near
  let s := if near then q.nearSum + x else 0
  let low := tally q.low (decide (x + t < q.base))
  if n ≥ 32 then d.setTouchKey k { enterKey q 2 with base := meanOf s 32 }
  else if low ≥ 50 then (d.learn k false).raise F.TOUCH_EVENTS_REBASE k
  else d.setTouchKey k { q with nearN := n, nearSum := s, low := low }

/-- The scan of a key in IDLE. -/
def Device.scanIdle (m : Memory) (d : Device) (k x : Nat) : Device :=
  let q := d.touchKey k
  let t := d.get F.TOUCH_KEY_THRESH_THRESH k
  let h := d.get F.TOUCH_KEY_THRESH_HYST k
  let up := tally q.up (decide (x ≥ q.base + t))
  let low := tally q.low (decide (x + t < q.base))
  if up ≥ d.get F.TOUCH_KEY_CFG_DEBOUNCE k then (d.setTouchKey k (enterKey q 3)).press m k
  else if low ≥ 50 then (d.learn k false).raise F.TOUCH_EVENTS_REBASE k
  else
    let drift := (q.drift + 1) % 16
    let inside := decide (q.base ≤ x + t) && decide (x + h ≤ q.base + t)
    let b := if drift = 0 ∧ inside then (if x > q.base then q.base + 1 else if x < q.base then q.base - 1 else q.base)
      else q.base
    d.setTouchKey k { q with up := up, low := low, drift := drift, base := b }

/-- The scan of a key in PRESSED. -/
def Device.scanPressed (d : Device) (k x : Nat) : Device :=
  let q := d.touchKey k
  let t := d.get F.TOUCH_KEY_THRESH_THRESH k
  let h := d.get F.TOUCH_KEY_THRESH_HYST k
  let hold := d.get F.TOUCH_KEY_HOLD_HOLD_S k
  let down := tally q.down (decide (x + h < q.base + t))
  if down ≥ d.get F.TOUCH_KEY_CFG_DEBOUNCE k then (d.setTouchKey k (enterKey q 2)).raise F.TOUCH_EVENTS_RELEASE k
  else if hold ≠ 0 ∧ q.held + 1 ≥ 250 * hold then
    (d.setTouchKey k { enterKey q 4 with base := x }).raise F.TOUCH_EVENTS_HELD_EXPIRED k
  else d.setTouchKey k { q with down := down, held := q.held + 1 }

/-- The scan of a key in EXPIRED. -/
def Device.scanExpired (d : Device) (k x : Nat) : Device :=
  let q := d.touchKey k
  let t := d.get F.TOUCH_KEY_THRESH_THRESH k
  let h := d.get F.TOUCH_KEY_THRESH_HYST k
  let down := tally q.down (decide (x + t < q.base + h))
  if down ≥ d.get F.TOUCH_KEY_CFG_DEBOUNCE k then d.learn k false else d.setTouchKey k { q with down := down }

/-- The scan of a key ends (R430, R432). -/
def Device.touchScan (key reading : Nat) (m : Memory) (d : Device) : Device :=
  let k := key % 32
  let x := reading % 65536
  if d.sensing && d.keyOn k then
    let d := d.put F.TOUCH_KEY_READING_READING k x
    match (d.touchKey k).st with
    | 1 => d.scanLearning k x
    | 2 => d.scanIdle m k x
    | 3 => d.scanPressed k x
    | 4 => d.scanExpired k x
    | 5 => d.scanSuspect k x
    | _ => d
  else d

def execTouchScan (key reading : Nat) (s : State) : Host.Outcome State Fault Refusal :=
  onDevM (Device.touchScan key reading) s

/-- The tick edge: the holder carries out the presses received (R439). -/
def Device.touchEdge (m : Memory) (d : Device) : Device :=
  let l := d.touch.toDo
  let d : Device := { d with touch := { d.touch with toDo := [] } }
  if d.sends then forL l (fun (k : Nat) (d : Device) => d.touchAction m k) d else d

/-- A unit that takes the halter continues the hold timers of the received keys (R439). -/
def Device.touchTake (d : Device) : Device :=
  let l := d.touch.recv
  let d : Device := { d with touch := { d.touch with recv := [], toSend := [] } }
  forL l (fun (p : Nat × TouchKey) (d : Device) =>
    if p.2.st = 3 then d.setTouchKey p.1 { d.touchKey p.1 with st := 3, held := p.2.held, up := 0, down := 0 } else d) d

/-! ## General pins (R458) -/

/-- What drives pin k: nothing, or a level (R438, R458). -/
def Device.gpioDrive (d : Device) (k : Nat) : Option Bool :=
  if !d.coreOn || (decide (d.pwr = .run) && !d.sends) then none
  else
    let keys := (List.range 32).filter (fun i => d.keyOn i && decide (d.get F.TOUCH_KEY_CFG_IND_PIN i = k))
    if keys.isEmpty then
      if (d.get F.GPIO_OE_OE).testBit k then some ((d.get F.GPIO_OUT_OUT).testBit k) else none
    else some (xor (keys.any (fun i => decide ((d.touchKey i).st = 3))) ((d.get F.GPIO_POL_POL).testBit k))

/-- A level held on a pin changes (R458). -/
def Device.gpioEdge (pin : Nat) (level : Bool) (d : Device) : Device :=
  let k := pin % 24
  let w := d.get F.GPIO_IN_IN
  if w.testBit k = level then d
  else
    let d := d.put F.GPIO_IN_IN 0 (setBit w k level)
    if (d.get F.GPIO_EDGE_EN_EN).testBit k then
      (d.put F.GPIO_EDGE_EDGE 0 (setBit (d.get F.GPIO_EDGE_EDGE) k true)).raise F.GPIO_EVENTS_EDGE k
    else d

def execGpioInputEdge (pin : Nat) (level : Bool) (s : State) : Host.Outcome State Fault Refusal :=
  onDev (Device.gpioEdge pin level) s

/-! ## Temperature (R463) -/

def execThermalAlarm (s : State) : Host.Outcome State Fault Refusal :=
  onDev (fun d => d.put F.SYS_ALARM_THERMAL 0 1) s

def execThermalClear (s : State) : Host.Outcome State Fault Refusal :=
  onDev (fun d => d.put F.SYS_ALARM_THERMAL 0 0) s

end Sys2Proof.Machine
end

