-- ==== Sys2Proof/Machine/PairCore.lean ====
section
/-!
DEFINITION. The redundant pair (R278 to R312): roles and the halter, the rein lines, the validity of tether
frames, the mirror queue, and what a unit without the halter refuses. What the units send each other and what
they do at a tick edge stands in PairSync.
-/

namespace Sys2Proof.Machine

/-! ## Roles and the halter (R278 to R282) -/

def Device.setRein (d : Device) (f : Rein → Rein) : Device := d.setPair (fun (p : PairX) => { p with rein := f p.rein })
def Device.setCmp (d : Device) (f : Compare → Compare) : Device := d.setPair (fun (p : PairX) => { p with cmp := f p.cmp })

/-- The device is in RUN. -/
def Device.inRun (d : Device) : Bool := decide (d.pwr = .run)

/-- The sync state of a STANDBY unit (R279): 0 NONE, 1 SYNCING, 2 SHADOW, 3 STALE. -/
def Device.syncSt (d : Device) : Nat := d.get F.PAIR_STATUS_SYNC

/-- A health word with a fault bit set (R301). -/
def faulty (w : Nat) : Bool := decide (w % 65536 ≠ 0)

/-- The unit's own health word, and the partner's most recent one (R300). -/
def Device.health (d : Device) : Nat := d.get2 F.PAIR_HEALTH_LO_HEALTH F.PAIR_HEALTH_HI_HEALTH
def Device.partnerHealth (d : Device) : Nat := d.get2 F.PAIR_PARTNER_HEALTH_LO_HEALTH F.PAIR_PARTNER_HEALTH_HI_HEALTH

def Device.partnerShadow (d : Device) : Bool := decide (d.partnerSync = 2)

/-- The level of the pin ROLE (R311). -/
def Device.rolePin (d : Device) : Bool := d.inRun && d.holds

/-- The unit enters a role (R304): the time of the change is shown and the black box records it. -/
def Device.setRole (d : Device) (r : Nat) : Device :=
  let old := d.role
  if old = r then d
  else
    let d := (d.put F.PAIR_STATUS_ROLE 0 r).put2 F.PAIR_LAST_CHANGE_LO_TICK F.PAIR_LAST_CHANGE_HI_TICK 0 d.tickNow
    d.record 0x0040 11 (old * 256 + r) (d.get F.PAIR_EPOCH_EPOCH)

/-- The unit enters a sync state. -/
def Device.setSync (d : Device) (s : Nat) : Device :=
  let d := d.put F.PAIR_STATUS_SYNC 0 s
  if s = 2 then d else d.setCmp (fun (c : Compare) => { c with settle := 0, shadowTick := none })

/-- A partner epoch is seen in a tether frame (R282). -/
def Device.seeEpoch (d : Device) (e : Nat) : Device := d.setPair (fun (p : PairX) => { p with seenEpoch := max p.seenEpoch e })

/-! ## The rein driver (R285, R286) -/

/-- The pulse of this tick is placed: it starts at a tenth of T after the edge and lasts `us` microseconds. -/
def Rein.drive (r : Rein) (us : Nat) : Rein :=
  let t := r.edge + r.period / 10
  { r with pulse := some (t, t + us * 1000) }

/-- A renewal in tick `t`. -/
def Device.renew (d : Device) (t : Nat) : Device :=
  (d.setRein (fun (r : Rein) => { r.drive (10 * (1 + r.count % 4)) with renewed := some t, count := r.count + 1 })).setPair
    (fun (p : PairX) => { p with heldTicks := (t :: p.heldTicks).take 8 })

/-- The edge of tick `t`, `u` the tick of the edge before: a unit that holds the halter renews, one that has
renewed in the tick before and does not now sends RELEASE. -/
def Device.reinEdge (d : Device) (t u : Nat) : Device :=
  let d := d.setRein (fun (r : Rein) => { r with edge := d.now, period := d.periodNs, owed := false })
  if d.holds then d.renew t
  else if d.pair.rein.renewed = some u then d.setRein (fun (r : Rein) => { r.drive 200 with renewed := none })
  else d.setRein (fun (r : Rein) => { r with renewed := none })

/-- Renewal stops at once, outside a tick edge (R286, R339): a renewal that has not started is not sent, and
RELEASE is owed after the tick renewed. -/
def Device.reinStop (d : Device) : Device :=
  let r := d.pair.rein
  let early := match r.pulse with
    | some p => decide (d.now < p.1)
    | none => false
  if r.renewed.isSome then
    d.setRein (fun (r : Rein) => { r with owed := true, renewed := none, pulse := if early then none else r.pulse })
  else d

/-- REIN_OUT is pulled low at this moment. -/
def Device.reinLow (d : Device) : Bool :=
  match d.pair.rein.pulse with
  | some p => decide (p.1 ≤ d.now)
  | none => false

/-- REIN_OUT_RELEASE: the pulse in hand has lasted its width. -/
def Device.reinRelease (d : Device) : Device :=
  match d.pair.rein.pulse with
  | some p => (d.waitNow p.2).setRein (fun (r : Rein) => { r with pulse := none })
  | none => d

/-- REIN_RELEASE_PATTERN: 200 µs low at the next predicted tick whose start time has not passed (R285). -/
def Device.reinPattern (d : Device) : Device :=
  let r := d.pair.rein
  if !r.owed || decide (r.period = 0) then d
  else
    let first := r.edge + r.period / 10
    let n := if d.now ≤ first then 0 else (d.now - first + r.period - 1) / r.period
    let t := first + n * r.period
    (d.waitNow t).setRein (fun (r : Rein) => { r with owed := false, pulse := some (t, t + 200000) })

def execReinOutRelease (s : State) : Host.Outcome State Fault Refusal := onDev Device.reinRelease s
def execReinReleasePattern (s : State) : Host.Outcome State Fault Refusal := onDev Device.reinPattern s

/-! ## The REIN_IN sampler (R287, R288, R470) -/

/-- A second holder is seen (R307). -/
def Device.dualSeen (d : Device) : Device :=
  if d.pair.dual then d
  else
    let d := (d.setPair (fun (p : PairX) => { p with dual := true })).raise F.PAIR_EVENTS_DUAL_HOLDER
    d.record 0x0042 11 d.pair.seenEpoch (d.get F.PAIR_EPOCH_EPOCH)

/-- The start of a pulse, in whole microseconds after E(t), lies from 0.05 T to 0.15 T, ends included. -/
def Device.inWindow (d : Device) (us : Nat) : Bool :=
  let t := d.nd.2 * 1000000
  decide (5 * t ≤ 100 * d.nd.1 * us) && decide (100 * d.nd.1 * us ≤ 15 * t)

/-- The m of a renewal of a given width, among those that may come. -/
def renewalOf (expect : Option Nat) (w : Nat) : Option Nat :=
  (match expect with | some m => [m] | none => [0, 1, 2, 3]).find? (fun m => decide (10 * (1 + m) ≤ w + 2 ∧ w ≤ 10 * (1 + m) + 2))

/-- REIN_PULSE_RECEIVE: a low pulse has ended, `us` microseconds after E(t) it began, and lasted `w` microseconds
(R287). A line fault counts as neither. -/
def Device.reinPulse (us w : Nat) (d : Device) : Device :=
  let d := d.setRein (fun (r : Rein) => { r with stuck := false })
  let r := d.pair.rein
  let t := d.tick.num
  if decide (d.role = 0) || !d.inRun || !d.ticking || decide (w > 1000) then d
  else if !d.inWindow us then d.bump F.PAIR_CNT_REIN_MISS_COUNT 0 1
  else if 190 ≤ w ∧ w ≤ 210 then d.setRein (fun (r : Rein) => { r with release := some t })
  else
    let recent := match r.valid with
      | some v => decide (v ∈ d.pair.edges.take 4)
      | none => false
    match renewalOf (if recent then some ((r.m + 1) % 4) else none) w with
    | some m =>
      let d := d.setRein (fun (r : Rein) => { r with valid := some t, m := m, release := none })
      if d.holds && decide (r.renewed = some t) then d.dualSeen else d
    | none => d.bump F.PAIR_CNT_REIN_MISS_COUNT 0 1

def execReinPulseReceive (startUs widthUs : Nat) (s : State) : Host.Outcome State Fault Refusal :=
  onDev (Device.reinPulse startUs widthUs) s

/-- PAIR_REIN_STUCK: the line passes 1 ms low. It is raised once in a low period, and ignored while SOLO (R311, R470). -/
def Device.reinStuck (d : Device) : Device :=
  if decide (d.role = 0) || d.pair.rein.stuck then d
  else (d.setRein (fun (r : Rein) => { r with stuck := true })).raise F.PAIR_EVENTS_REIN_STUCK

def execPairReinStuck (s : State) : Host.Outcome State Fault Refusal := onDev Device.reinStuck s

/-- The view of the partner's lease at E(t) (R288): 0 NONE, 1 VALID, 2 RELEASED, 3 EXPIRED. `pair.edges` begins
with t. -/
def Device.leaseView (d : Device) : Nat :=
  let r := d.pair.rein
  let before := d.pair.edges.drop 1
  if r.release.isSome ∧ r.release = before.head? then 2
  else match r.valid with
    | some v => if v ∈ before.take 3 then 1 else 3
    | none => 0

def Device.lease (d : Device) : Nat := d.get F.PAIR_STATUS_PARTNER_LEASE

/-! ## The witness and the three conditions (R305) -/

/-- No watched output is present in the layout in force. -/
def Device.witBlind (d : Device) : Bool := !(List.range 32).any (fun o => d.witMask o && d.present o)

/-- A selected output had a FRESH verdict for tick `k`. -/
def Device.freshAt (d : Device) (k : Nat) : Bool :=
  (List.range 32).any (fun o => d.witMask o && decide (d.verdictOf o k = some 1))

/-- The tether condition at E(t), `u` the tick of the edge before. -/
def Device.tetherCond (d : Device) (u : Nat) : Bool :=
  !d.tetherIsUp || decide (d.pair.healthTick ≠ some u) || faulty d.partnerHealth

/-- The witness condition: not FRESH for the fourth and third edges before this one. -/
def Device.witCond (d : Device) : Bool :=
  d.witBlind || !((d.pair.edges.drop 3).take 2).any d.freshAt

/-- The verdicts show a second holder: FRESH or STALE for a tick whose frame this unit itself sent (R307). -/
def Device.witDual (d : Device) : Device :=
  if d.holds && (List.range 32).any (fun o => d.watchedOut o && (d.wit o).verdicts.any (fun q =>
      decide (q.2 = 1 ∨ q.2 = 2) && decide (q.1 + 1 ∈ d.pair.heldTicks))) then d.dualSeen else d

def execWitnessVerdict (s : State) : Host.Outcome State Fault Refusal :=
  onDev (fun d => d.witnessVerdict.witDual) s

/-! ## Taking the halter (R282, R304, R383) -/

/-- The queues of every slot become the received ones, with the unit's own entries after them (R383). -/
def Device.evqTake (d : Device) : Device :=
  let got := d.evqRecv
  let d := { d with evqRecv := [] }
  forL got (fun (p : Nat × List EvEntry) (d : Device) =>
    let all := p.2 ++ d.queue p.1
    let lost := all.length - 256
    let d := { d with evq := Tab.set d.evq p.1 (all.take 256) }
    if lost = 0 then d
    else
      let n := d.getS F.HOST_EVQ_STATUS_DROPPED p.1
      ((d.putS F.HOST_EVQ_STATUS_OVERFLOW p.1 0 1).putS F.HOST_EVQ_STATUS_DROPPED p.1 0 (min (n + lost) 0xFFFF)).raise
        F.HOST_EVENTS_EVQ_OVERFLOW 0) d

/-- The sessions received in the state copy become the unit's own. -/
def Device.sessTake (d : Device) : Device :=
  let got := d.host.sessRecv
  let d := { d with host := { d.host with sessRecv := [] } }
  forL got (fun (p : Nat × FuhelSess) (d : Device) =>
    ({ d with host := { d.host with sess := Tab.set d.host.sess p.1 { p.2 with lastNs := d.now } } } : Device).putS
      F.HOST_SLOT_STATUS_SESSION p.1 0 1) d

/-- Encode sessions whose checks were not comparable and equal in both ticks before start a new refresh period
(R204). -/
def Device.encTake (d : Device) : Device :=
  let last := (d.pair.edges.drop 1).take 2
  forN 32 (fun (n : Nat) (d : Device) =>
    if d.encOpened n && !(last.all (fun t => decide (t ∈ (d.enc n).confirmed)) && decide (last.length = 2)) then
      d.setEnc n { d.enc n with restart := true }
    else d) d

/-- The unit keeps the update session of its predecessor, with the same owner (R398). -/
def Device.updTake (d : Device) : Device :=
  if d.get F.UPD_STATUS_OWNER = 8 then
    ({ d with upd := { d.upd with activeAt := d.now, heir := 15 } } : Device).put F.UPD_STATUS_OWNER 0 d.upd.heir
  else d

/-- The unit takes the halter (R282, R304). -/
def Device.take (d : Device) : Device :=
  let e := 1 + max (max (d.get F.PAIR_EPOCH_EPOCH) d.pair.seenEpoch) (d.net.witEpoch.getD 0)
  let d := (d.put F.PAIR_EPOCH_EPOCH 0 e).setRole 2
  let d := d.setPair (fun (p : PairX) => { p with
    commitRx := none, gave := none, yieldRx := none, rein := { p.rein with count := 0 }
    mirror := { p.mirror with issued := max p.mirror.issued (p.mirror.recv.getD 0), queue := [], copy := none, recv := none, whole := false, need := none } })
  let d := d.put F.PAIR_STATUS_INCONSISTENT 0 0
  let d := d.evqTake.sessTake.encTake.touchTake.updTake
  let d := forN 64 (fun (e : Nat) (d : Device) =>
    if d.on F.NET_TX_CFG_EN e then d.setOut e { d.outp e with handover := true } else d) d
  d.gratuitousArp.raise F.PAIR_EVENTS_TAKEOVER

/-! ## Frames of the tether (R283, R284) -/

/-- The type of a frame by its payload (R283). -/
def frameType : TetherBody → Nat
  | .state _ => 0x01 | .mirror _ => 0x02 | .stateEnd _ => 0x03 | .sync _ _ _ => 0x04
  | .health _ => 0x10 | .commit _ => 0x11 | .revert => 0x11 | .retrain _ => 0x11
  | .digest _ => 0x20 | .decision _ => 0x21

/-- The bits of a list as bytes, bit 0 in the last of `n` bytes. -/
def maskBytes (n : Nat) (bits : List Nat) : List Byte := beBytes n (bits.foldl (fun t b => setBit t b true) 0)

/-- The payload of a DIGEST frame (R296). DESIGN CHOICE: the health word of R300, which has no place in the table, follows the
records (log entry 157). -/
def digestBytes (g : Digest) : List Byte :=
  beBytes 1 g.id ++
  beBytes 1 (1 + (if g.noFrame then 2 else 0) + (if g.timeFloored then 4 else 0) + (if g.refOk then 8 else 0)) ++
  beBytes 2 g.layout ++
  maskBytes 4 ((List.range g.layerOk.length).filter (fun j => g.layerOk.getD j false)) ++
  (List.range 24).flatMap (fun j => beBytes 4 (g.tags.getD j 0)) ++
  maskBytes 32 g.replaced ++
  g.recs.flatMap (fun r => beBytes 4 r.1 ++ beBytes 1 r.2) ++ beBytes 8 g.word

/-- The payload of a frame. -/
def payloadBytes (b : TetherBody) : List Byte :=
  match b with
  | .digest g => digestBytes g
  | _ => Config.tetherPayload b

/-- The bytes of a frame (R2, R283): the header, the payload and the CRC-64 over both. -/
def tetherBytes (h : TetherHdr) (b : TetherBody) : List Byte :=
  let p := payloadBytes b
  let l := beBytes 1 (frameType b) ++ beBytes 1 h.proto ++ beBytes 1 h.unit ++ beBytes 1 h.alive ++ beBytes 2 h.index ++ beBytes 2 p.length ++
    beBytes 8 h.tick ++ beBytes 4 h.epoch ++ List.replicate 12 0 ++ p
  l ++ beBytes 8 (crc64 l)

/-- Send a frame on lane `T lane` with its ALIVE counter, unless the lane is unusable. -/
def Device.sendFrame (d : Device) (lane index : Nat) (b : TetherBody) : Device :=
  if !d.tetherUsable (28 + lane) then d
  else
    let k := (frameType b, lane)
    let a := (Tab.get d.pair.txAlive 0 k + 1) % 256
    let d := d.setPair (fun (p : PairX) => { p with txAlive := Tab.set p.txAlive k a })
    let h : TetherHdr := ⟨lane, true, d.upd.run.proto, d.get F.PAIR_CTRL_UNIT, a, index, d.tick.num, d.get F.PAIR_EPOCH_EPOCH⟩
    d.emit (.tether h b (tetherBytes h b))

/-- Send a frame of a message window on T2 and T3 (R284). -/
def Device.sendBoth (d : Device) (index : Nat) (b : TetherBody) : Device := (d.sendFrame 2 index b).sendFrame 3 index b

/-- A frame is discarded and counted. -/
def Device.frameErr (d : Device) (n : Nat) : Device := d.bump F.PAIR_CNT_FRAME_ERR_COUNT 0 n

/-- The judgement of a frame of type `ty` (R284): the device with what the judgement leaves, and whether the frame
is taken. A second copy on T2 and T3 is valid and not taken again. -/
def Device.frameIn (d : Device) (ty : Nat) (h : TetherHdr) : Device × Bool :=
  if decide (d.role = 0) || !d.inRun || !d.ticking || d.tick.gap || !d.tetherHears (28 + h.lane % 4) then (d, false)
  else
    let own := d.get F.PAIR_CTRL_UNIT
    if !h.crcOk then (d.frameErr 1, false)
    else if h.proto ≠ d.upd.run.proto then ((d.raise F.PAIR_EVENTS_PROTO_MISMATCH).frameErr 1, false)
    else if h.unit = own then ((d.raise F.PAIR_EVENTS_UNIT_CLASH).frameErr 1, false)
    else if h.unit ≠ 1 - own then (d.frameErr 1, false)
    else if h.tick ≠ d.tick.num then
      let d := if d.on F.PAIR_STATUS_TICK_MISMATCH then d else d.raise F.PAIR_EVENTS_TICK_MISMATCH
      ((d.put F.PAIR_STATUS_TICK_MISMATCH 0 1).frameErr 1, false)
    else
      let d := d.put F.PAIR_STATUS_TICK_MISMATCH 0 0
      let k := (ty, h.lane)
      let diff := match Tab.find d.pair.rxAlive k with
        | some a => (h.alive + 256 - a) % 256
        | none => 1
      if diff = 0 ∨ diff > 128 then (d.frameErr 1, false)
      else
        let d := if diff > 1 then d.frameErr (diff - 1) else d
        let d := (d.setPair (fun (p : PairX) => { p with rxAlive := Tab.set p.rxAlive k h.alive })).seeEpoch h.epoch
        if h.lane < 2 then (d, true)
        else if (ty, h.index) ∈ d.pair.got then (d, false)
        else (d.setPair (fun (p : PairX) => { p with got := (ty, h.index) :: p.got }), true)

/-- The tether enters UP, or lane `l` has finished a retrain: the next frame of each type is accepted without the
ALIVE test (R284). -/
def Device.aliveAfresh (d : Device) (lanes : List Nat) : Device :=
  d.setPair (fun (p : PairX) => { p with rxAlive := p.rxAlive.filter (fun (q : (Nat × Nat) × Nat) => !decide (q.1.2 ∈ lanes)) })

def execTetherUp (trained inverted : Nat) (s : State) : Host.Outcome State Fault Refusal :=
  onDev (fun d =>
    let was := d.tetherIsUp
    let d := d.tetherConfirmed trained inverted
    if d.tetherIsUp && !was then d.aliveAfresh [0, 1, 2, 3] else d) s

def execLaneRetrainComplete (lane : Nat) (s : State) : Host.Outcome State Fault Refusal :=
  onDev (fun d =>
    let was := decide ((d.laneX lane).retrain = 3)
    let d := d.retrainDone lane
    if was && decide ((d.laneX lane).retrain = 0) then d.aliveAfresh [lane - 28] else d) s

/-! ## What a unit without the halter refuses (R281, R291, R292) -/

/-- Writes to a register of block `b` are refused by role (R281); `own` says that it is an event queue register
of the writing slot. -/
def Device.roleRefuses (d : Device) (b : Nat) (own : Bool) : Bool :=
  d.inRun && decide (d.role ≠ 0) && !d.holds && !(decide (b = 11 ∨ b = 9 ∨ b = 16 ∨ b = 17) || own)

/-- A write refused by role is counted. -/
def Device.refuseWrite (d : Device) : Device := d.bump F.PAIR_CNT_WRITE_REFUSED_COUNT 0 1

/-- The mirror queue has no room for `n` bytes (R291). -/
def Device.mirrorFull (d : Device) (n : Nat) : Bool :=
  d.inRun && d.holds && decide (d.partnerSync = 1 ∨ d.partnerSync = 2) && decide (d.mirrorBytes + n > 33554432)

/-- The 4 KiB pages of a range. -/
def pagesOf (a n : Nat) : List Nat := if n = 0 then [] else (List.range ((a + n - 1) / 4096 - a / 4096 + 1)).map (fun k => a / 4096 + k)

/-- DRAM pages written through the data port, kept for the next resync (R291, R303). -/
def Device.pageNote (d : Device) (target a n : Nat) : Device :=
  if target = 0 then d.setMirror (fun (m : Mirror) => { m with pages := (m.pages ++ pagesOf a n).dedup }) else d

/-- A data-port write that the device completed: the pages it touches are kept (R303), and a holder numbers it,
and queues it while its partner is in SHADOW or SYNCING (R291). -/
def Device.mirrorWrite (d : Device) (target a : Nat) (l : List Byte) : Device :=
  if d.inRun && d.holds then
    let n := d.pair.mirror.issued + 1
    let d := (d.setMirror (fun (m : Mirror) => { m with issued := n })).pageNote target a l.length
    if d.partnerSync = 1 ∨ d.partnerSync = 2 then
      (d.setMirror (fun (m : Mirror) => { m with queue := m.queue ++ [MirrorEntry.mk n target a l] })).mirrorShow
    else d
  else d.pageNote target a l.length

/-- A holder completes register writes after 0.85 T at the next edge while its standby is in SHADOW (R292). -/
def Device.defers (d : Device) : Bool :=
  d.inRun && d.holds && d.partnerShadow && d.inTick && decide (d.devNs > d.pointNs d.tick.num 85)

/-- Writes to the register travel in the state burst: not those to PAIR, LANE, PERF and BBOX (R293), nor those to
CHK (R415). -/
def carried (addr : Nat) : Bool :=
  let b := addr / 65536
  !(decide (b = 9) || decide (b = 11) || decide (b = 15) || decide (b = 16) || decide (b = 17))

/-- A write that the holder completed travels in the state burst (R289, R293). -/
def Device.logWrite (d : Device) (slot addr value : Nat) : Device :=
  if d.inRun && d.holds && carried addr then
    d.setPair (fun (p : PairX) => { p with log := p.log ++ [CtlItem.write slot addr value (d.devNs - d.edgeNs d.tick.num)] })
  else d

/-- A write touches an RW or RWS field of a block whose arithmetic the pair compares (R293). -/
def excludes (addr : Nat) : Bool :=
  decide (3 ≤ addr / 65536 ∧ addr / 65536 ≤ 8) &&
  (match findReg addr with
   | some p => p.1.flds.any (fun (f : Fld) => decide (f.acc = .rw ∨ f.acc = .rws))
   | none => false)

/-! ## Commands (R303, R304, R308) -/

/-- A write to PAIR_CMD: 1 HANDOVER, 2 RESYNC. Both wait for the tick to act. -/
def Device.pairCmd (slot op : Nat) (d : Device) : Device :=
  if op = 0 then d
  else
    let busy := d.pair.cmd.isSome || d.pair.handover.isSome
    let d := (d.put F.PAIR_CMD_STATUS_OP 0 op).put F.PAIR_CMD_STATUS_REQ_SLOT 0 slot
    let wait (d : Device) : Device := ((d.setPair (fun (p : PairX) => { p with cmd := some (op, slot) })).put
      F.PAIR_CMD_STATUS_PENDING 0 1).put F.PAIR_CMD_STATUS_RESULT 0 0
    if busy then d.put F.PAIR_CMD_STATUS_RESULT 0 2
    else if op = 1 && d.inRun && d.holds then
      wait (d.setPair (fun (p : PairX) => { p with handover := some (d.tick.num, some slot) }))
    else if op = 2 && d.inRun && decide (d.role = 3) then wait (d.setPair (fun (p : PairX) => { p with resync := true }))
    else if op = 2 && d.inRun && decide (d.role = 4) then
      if faulty d.health then d.put F.PAIR_CMD_STATUS_RESULT 0 5
      else wait (d.setPair (fun (p : PairX) => { p with resync := true }))
    else d.put F.PAIR_CMD_STATUS_RESULT 0 3

end Sys2Proof.Machine
end

