-- ==== Sys2Proof/Machine/Power.lean ====
section
/-!
DEFINITION. Reset sources and the release sequencer (R338 to R346), the boot ROM (R349 to R352) and the power
states (R353 to R359) with the rate change of R334.
-/

namespace Sys2Proof.Machine

/-- A word of a register of block SYS, RST and so on, from the fields in force. -/
def Device.wordOf (d : Device) (r : RegRow) : Nat := r.word (fun (f : Fld) => d.get f)

/-- SYS_PWR_STATUS.STATE (R366); WATCH and OFF have no code, and the register is off in them. -/
def Pwr.code : Pwr → Nat
  | .halted => 1 | .standby => 2 | .ready => 3 | .run => 4 | .failed => 5 | _ => 0

/-- The codes of SYS_PWR_CMD.TARGET, which black-box event 0x0005 uses for the states (R366, R422). -/
def Pwr.target : Pwr → Nat
  | .watch => 1 | .standby => 2 | .ready => 3 | .run => 4 | _ => 0

/-! ## Reset (R338 to R346) -/

/-- The key belongs to a register that a pin reset leaves as it is: RST, the black box, the halter epoch (R339,
R365, R425). -/
def keptKey (k : Key) : Bool :=
  let b := k.1 / 2097152
  decide (b = 1) || decide (b = 17) || decide (k.1 = F.PAIR_EPOCH_EPOCH.id)

/-- What stays when PD1 to PD11 are reset or switched off: the watch island (R339, R357, R425). -/
def Device.island (d : Device) : Device :=
  let stopped := (d.get F.SYS_ENGINE_STATUS_STOPPED).testBit 15
  let hot := d.on F.SYS_ALARM_THERMAL
  let r := d.pair.rein
  let w : Device := { Device.reset with
    regs := d.regs.filter (fun (p : Key × Nat) => keptKey p.1), free := d.free, now := d.now,
    bb := { d.bb with spill := [], spillOn := false }, clkWait := [], pinLow := d.pinLow,
    pair := { PairX.empty with rein := { r with valid := none, m := 0, release := none } },
    tick := { Tick.reset with watchBeat := d.tick.watchBeat } }
  ((w.put F.SYS_ENGINE_STATUS_STOPPED 0 (if stopped then 32768 else 0)).flag F.SYS_ALARM_THERMAL 0 hot).put
    F.RST_CLK_STATUS_IN_RESET 0 0xFFE

/-- DRAM holds nothing any more (R320, R332). -/
def Memory.dramLost (m : Memory) : Memory := { m with dram := [], poison := [] }

/-- POR_ASSERT (R338): nothing is left but flash and fuses. -/
def Chip.porAssert (c : Chip) : Chip :=
  { mem := c.mem.dramLost
    dev := { Device.reset with
      free := c.dev.free, now := c.dev.now, bb := ⟨[], [], none, [], false⟩, clkWait := [], pwr := .off, porLow := true,
      pinLow := c.dev.pinLow } }

def execPorAssert (s : State) : Host.Outcome State Fault Refusal := onChip Chip.porAssert s

/-- The effective reset is released: the straps are latched (R346), a challenge is drawn (R389), and the clock of
PD1 starts (R343). -/
def Device.released (boot clkmode : Nat) (d : Device) : Device :=
  let d : Device := { d with free := d.free + 1, clkWait := [1], host := { d.host with challenge := d.free + 1 } }
  (d.put F.RST_STRAPS_BOOT 0 boot).put F.RST_STRAPS_CLKMODE 0 clkmode

/-- POR_RELEASE: PD0 starts; the rest follows when RESET_N is high (R341, R345). -/
def Device.porRelease (resetLow : Bool) (boot clkmode : Nat) (d : Device) : Device :=
  if !d.porLow then d
  else
    let d : Device := { d with porLow := false, pwr := .boot, pinLow := resetLow }
    let d := if resetLow then d.put F.RST_CAUSE_PIN 0 1 else d.released boot clkmode
    d.record 0x0001 31 (d.wordOf R.RST_CAUSE) 0

def execPorRelease (resetLow : Bool) (boot clkmode : Nat) (s : State) : Host.Outcome State Fault Refusal :=
  onDev (Device.porRelease resetLow boot clkmode) s

/-- The filter of RESET_N accepts a level held for a time: not below 4 µs, always from 6 µs, and between them as
an open value has it (R340). -/
def Device.accepted (d : Device) (heldNs : Nat) : Bool :=
  decide (heldNs ≥ 6000) || (decide (heldNs ≥ 4000) && decide (Config.pick d.free % 2 = 1))

/-- The filter of RESET_N judges a change of level. -/
def Device.filtered (d : Device) (heldNs : Nat) (f : Device → Device) : Device :=
  let d' : Device := if 4000 ≤ heldNs ∧ heldNs < 6000 then { d with free := d.free + 1 } else d
  if d.accepted heldNs then f d' else d'

/-- A pin reset takes effect (R339, R345, R365). -/
def Device.pinReset (d : Device) : Device :=
  if d.pinLow || d.porLow then { d with pinLow := true }
  else
    let from' := d.pwr
    let tick := d.tickNow
    let n := d.get F.RST_LAST_COUNT + 1
    let d := (if d.inRun then d.reinStop else d).island
    let d := { d with pinLow := true }
    let d := d.put F.RST_CAUSE_PIN 0 1
    let d := if from' = .watch then d.put F.RST_CAUSE_FROM_WATCH 0 1 else d
    let d := ((d.put F.RST_LAST_COUNT 0 n).put F.RST_LAST_STATE 0 from'.code).put F.RST_LAST_TICK_TICK 0 tick
    d.record 0x0002 31 (d.wordOf R.RST_LAST) (d.get F.RST_LAST_TICK_TICK)

/-- PIN_RESET_ASSERT. DRAM does not survive an accepted one. -/
def Chip.pinAssert (heldNs : Nat) (c : Chip) : Chip :=
  { mem := if c.dev.accepted heldNs then c.mem.dramLost else c.mem, dev := c.dev.filtered heldNs Device.pinReset }

def execPinResetAssert (heldNs : Nat) (s : State) : Host.Outcome State Fault Refusal := onChip (Chip.pinAssert heldNs) s

/-- PIN_RESET_RELEASE (R341, R346). -/
def Device.pinRelease (heldNs boot clkmode : Nat) (d : Device) : Device :=
  d.filtered heldNs (fun (d : Device) =>
    if !d.pinLow then d
    else
      let d := { d with pinLow := false }
      if d.porLow then d else d.released boot clkmode)

def execPinResetRelease (heldNs boot clkmode : Nat) (s : State) : Host.Outcome State Fault Refusal :=
  onDev (Device.pinRelease heldNs boot clkmode) s

/-! ## The boot ROM (R349 to R352) -/

/-- Boot halts (R352). -/
def Device.bootHalt (d : Device) : Device :=
  let d := ({ d with pwr := .halted, clkWait := [] } : Device).put F.RST_CLK_STATUS_IN_RESET 0 0xFFC
  d.record 0x0003 0 (d.wordOf R.SYS_BOOT_STATUS) 0

/-- An attempt at an image has failed; a push uses the field of image A (R366). -/
def Device.bootFail (d : Device) (k e : Nat) : Device :=
  ({ d with boot := { d.boot with failed := k :: d.boot.failed } } : Device).put
    (if k = 1 then F.SYS_BOOT_STATUS_ERROR_B else F.SYS_BOOT_STATUS_ERROR_A) 0 e

/-- The image in hand as a reader: 0 A, 1 B, 2 the bytes pushed. -/
def Chip.bootRd (c : Chip) (k : Nat) : Nat → Byte :=
  if k = 2 then fun a => c.dev.boot.push.getD a 0 else c.mem.imageRd c.dev.flashSize k

/-- Step 5: MEM_MAP from the header (R319, R320). -/
def Device.setMap (d : Device) (w : Nat) : Device :=
  forL R.MEM_MAP.flds (fun (f : Fld) (d : Device) => d.put f 0 (f.of w)) d

/-- The entries of the CONFIG section of one kind go to their registers; a register held per slot takes them in
every slot (R350). -/
def Device.pokeAll (d : Device) (prot : Bool) (l : List (Nat × Nat)) : Device :=
  forL l (fun (e : Nat × Nat) (d : Device) =>
    if inProt e.1 ≠ prot then d
    else match findReg e.1 with
      | none => d
      | some p =>
        if prot then forL p.1.flds (fun (f : Fld) (d : Device) => d.put f p.2 (f.of e.2)) d
        else if p.1.perSlot then forN 8 (fun (h : Nat) (d : Device) => d.storeWord p.1 h p.2 e.2) d
        else d.storeWord p.1 0 p.2 e.2) d

/-- Step 8, and the start of step 9 (R350, R343). -/
def Chip.bootLoad (k : Nat) (c : Chip) : Chip :=
  let img := readImage (c.bootRd k)
  let d := c.dev.pokeAll true img.entries
  let d : Device := { d with clkWait := [4, 5, 6, 7, 8, 9, 10, 11], boot := { d.boot with image := k },
                             upd := { d.upd with run := img, slot := k } }
  { c with dev := d.put F.SYS_BOOT_STATUS_STEP 0 9 }

/-- Steps 6 and 7 once the memory clocks run: the failure of the image, where there is one. -/
def Chip.sectionsOf (c : Chip) (k : Nat) : Nat := c.dev.sectionsErr (c.bootRd k)

/-- Step 6: training has gone well and every burst is zeroed. -/
def Chip.bootZero (c : Chip) : Chip :=
  { mem := c.mem.dramLost, dev := ({ c.dev with boot := { c.dev.boot with zeroed := true } } : Device).put F.SYS_BOOT_STATUS_STEP 0 7 }

/-- Steps 3 to 8 with image `k` of the flash, and with the other one after a failure while `fuel` allows it. -/
def Chip.bootImage : Nat → Nat → Chip → Chip
  | 0, _, c => c.mapDev Device.bootHalt
  | n + 1, k, c =>
    let c := c.mapDev (fun (d : Device) =>
      (if d.boot.failed.isEmpty then d else d.put F.SYS_BOOT_STATUS_FALLBACK 0 1).put F.SYS_BOOT_STATUS_STEP 0 4)
    let rd := c.bootRd k
    let e := headerErr c.mem.otp c.mem.otp.lc rd
    if e ≠ 0 then Chip.bootImage n (1 - k) (c.mapDev (fun (d : Device) => d.bootFail k e))
    else
      let c := c.mapDev (fun (d : Device) =>
        ({ d.setMap (leAt rd 12 4) with boot := { d.boot with image := k } } : Device).put F.SYS_BOOT_STATUS_STEP 0 6)
      if !c.dev.boot.zeroed then c.mapDev (fun (d : Device) => { d with clkWait := [2, 3] })
      else
        let e := c.bootZero.sectionsOf k
        if e ≠ 0 then Chip.bootImage n (1 - k) (c.bootZero.mapDev (fun (d : Device) => d.bootFail k e))
        else c.bootZero.bootLoad k

/-- Steps 6 to 8 once PD2 and PD3 have been released. A push goes on when its last byte has come. -/
def Chip.bootClocked (c : Chip) : Chip :=
  let k := c.dev.boot.image
  if !c.dev.boot.trained then c.mapDev (fun (d : Device) => (d.bootFail k errMemory).bootHalt)
  else
    let c := c.bootZero
    if k = 2 ∧ c.dev.boot.push.length < leAt (c.bootRd 2) 16 8 then c
    else
      let e := c.sectionsOf k
      if e = 0 then c.bootLoad k
      else
        let c := c.mapDev (fun (d : Device) => d.bootFail k e)
        if k = 2 then c.mapDev Device.bootHalt
        else Chip.bootImage (if (1 - k) ∈ c.dev.boot.failed then 0 else 1) (1 - k) c

/-- The boot selector before step 3 (R403): the image to boot, with what the ROM writes and remembers. -/
def Chip.bootSelect (c : Chip) : Chip × Nat :=
  let f := c.dev.flashSize
  let p := c.mem.selected f
  let was (rolled : Bool) (d : Device) : Device := { d with boot := { d.boot with wasTrial := decide (p.2 ≠ 0), rolled := rolled } }
  match p.2 with
  | 1 => ({ mem := c.mem.writeSel f p.1 2, dev := was false c.dev }, p.1)
  | 2 => ({ mem := c.mem.writeSel f (1 - p.1) 0, dev := was true c.dev }, 1 - p.1)
  | _ => (c.mapDev (was false), p.1)

/-- BOOT: steps 1 to 3 after PD1 is released, and as far as they lead without waiting. -/
def Chip.bootStart (trained octal : Bool) (flashSize : Nat) (c : Chip) : Chip :=
  let d := c.dev
  if d.pwr ≠ .boot || d.boot.begun || d.inReset 1 || d.pinLow || d.porLow then c
  else
    let d : Device := { d with flashSize := flashSize, boot := { BootX.empty with begun := true, trained := trained, octal := octal } }
    let d := d.put F.SYS_BOOT_STATUS_STEP 0 1
    let src := d.get F.RST_STRAPS_BOOT
    if src ≥ 3 ∨ d.get F.RST_STRAPS_CLKMODE = 3 then { c with dev := (d.bootFail 0 errStrap).bootHalt }
    else
      let d := (d.put F.SYS_BOOT_STATUS_STEP 0 2).flag F.SYS_BOOT_STATUS_SLOW 0 (decide (src = 0) && !octal)
      if src = 2 then
        { c with dev := ({ d with boot := { d.boot with image := 2 } } : Device).put F.SYS_BOOT_STATUS_PUSH 0 1 |>.put F.SYS_BOOT_STATUS_STEP 0 3 }
      else if flashSize = 0 then { c with dev := ((d.bootFail 0 errFlash).bootFail 1 errFlash).bootHalt }
      else
        let p := Chip.bootSelect { c with dev := d }
        Chip.bootImage 2 p.2 p.1

def execBoot (trained octal : Bool) (flashSize : Nat) (s : State) : Host.Outcome State Fault Refusal :=
  onChip (Chip.bootStart trained octal flashSize) s

/-- HOST_PUSH_WRITE (R351): the next bytes of the container. Bytes out of order fail the image; while a step is in
progress the port is busy. -/
def Chip.bootPush (addr : Nat) (data : List Byte) (c : Chip) : Chip :=
  let d := c.dev
  let said (d : Device) (r : Nat) : Device := { d with host := { d.host with spi := { d.host.spi with last := r } } }
  if d.pwr ≠ .boot || !d.on F.SYS_BOOT_STATUS_PUSH then c
  else if !d.clkWait.isEmpty || decide (d.get F.SYS_BOOT_STATUS_STEP ≥ 8) then { c with dev := said d resBusy }
  else
    let old := d.boot.push
    let all := old ++ data
    let size := leAt (fun a => all.getD a 0) 16 8
    if addr ≠ old.length ∨ (all.length > 8192 ∧ all.length > size) then
      { c with dev := said ((d.bootFail 2 errPush).bootHalt) resFormat }
    else
      let c : Chip := { c with dev := said { d with boot := { d.boot with push := all } } resOk }
      if all.length < 8192 then c
      else if old.length < 8192 then
        let e := headerErr c.mem.otp c.mem.otp.lc (c.bootRd 2)
        if e ≠ 0 then c.mapDev (fun (d : Device) => (d.bootFail 2 e).bootHalt)
        else c.mapDev (fun (d : Device) =>
          ({ d.setMap (leAt (c.bootRd 2) 12 4) with clkWait := [2, 3] } : Device).put F.SYS_BOOT_STATUS_STEP 0 6)
      else if all.length < size then c
      else
        let e := c.sectionsOf 2
        if e ≠ 0 then c.mapDev (fun (d : Device) => (d.bootFail 2 e).bootHalt) else c.bootLoad 2

def execHostPushWrite (addr : Nat) (data : List Byte) (s : State) : Host.Outcome State Fault Refusal :=
  onChip (Chip.bootPush addr data) s

/-- What starts when the domains PD4 to PD11 have come up: ports and tether with EN 1, keys, servos, triggers. -/
def Device.coreUp (d : Device) : Device :=
  let d := forN 28 (fun (p : Nat) (d : Device) => if d.on F.NET_PORT_CFG_EN p then d.portStart p else d) d
  let d := if d.on F.LANE_TETHER_CFG_EN then d.tetherTry else d
  d.touchRefresh.servosRefresh

/-- The settings store before SYS_READY (R405). -/
def Chip.settingsUp (c : Chip) : Chip :=
  let f := c.dev.flashSize
  let put (empty : Bool) (u : UpdX) : Device := ({ c.dev with upd := u } : Device).flag F.UPD_STATUS_SETTINGS_EMPTY 0 empty
  if f = 0 then { c with dev := put true { c.dev.upd with settings := [], dirty := [] } }
  else
    let k := c.dev.upd.slot
    let older := (readImage (c.mem.imageRd f (if k = 0 then 1 else 0))).schema
    let q := c.mem.openSettings f c.dev.upd.run.schema older
    { mem := q.1, dev := put q.2.2 { c.dev.upd with settings := q.1.slotData f q.2.1, half := q.2.1, dirty := [] } }

/-- Steps 10 and 11: engines, the settings of CONFIG, READY (R349). -/
def Chip.bootFinish (c : Chip) : Chip :=
  let k := c.dev.boot.image
  let m := if k ≠ 2 && c.dev.on F.SYS_BOOT_STATUS_FALLBACK && c.dev.boot.wasTrial then c.mem.writeSel c.dev.flashSize k 0 else c.mem
  let c := { c with mem := m }
  let d := (c.dev.put F.SYS_ENGINE_STATUS_STOPPED 0 0).pokeAll false c.dev.upd.run.entries
  let d := (((d.put F.SYS_BOOT_STATUS_IMAGE 0 k).put F.SYS_BOOT_STATUS_PUSH 0 0).put F.SYS_BOOT_STATUS_STEP 0 0).put
    F.UPD_VERSION_RUN_VERSION 0 d.upd.run.version
  let sel := if d.flashSize = 0 then (0, 0) else c.mem.selected d.flashSize
  let d := d.showSel sel.1 sel.2
  let c := Chip.settingsUp { c with dev := d }
  let d : Device := { c.dev with pwr := .ready, scrubStart := c.dev.now, scrubDone := 0 }
  let d := if d.boot.rolled then
      ((d.put F.UPD_STATUS_ROLLBACK 0 1).raise F.UPD_EVENTS_ROLLBACK).record 0x0070 14 k 0 else d
  let d := (d.raise F.SYS_EVENTS_READY).record 0x0004 0 (d.wordOf R.SYS_BOOT_STATUS) d.upd.run.version
  let d := if d.on F.PAIR_CTRL_EN then d.put F.PAIR_STATUS_ROLE 0 1 else d
  let d := forN 4 (fun (j : Nat) (d : Device) => if d.on F.TIME_TRIG_CFG_EN j then d.trigEnable j else d) d
  { c with dev := (d.touchFresh Device.reset).coreUp }

/-! ## Power states (R353 to R359) -/

/-- A command or change ends with a result. -/
def Device.pwrEnd (d : Device) (r : Nat) : Device :=
  ({ d with change := none } : Device).put F.SYS_PWR_STATUS_RESULT 0 r |>.put F.SYS_PWR_STATUS_BUSY 0 0

/-- A command is refused (R354). -/
def Device.pwrRefuse (d : Device) (r : Nat) : Device :=
  (d.put F.SYS_PWR_STATUS_RESULT 0 r).raise F.SYS_EVENTS_PWR_REFUSED

/-- The device enters another power state, and the change ends with DONE (R355). -/
def Device.enter (d : Device) (p : Pwr) : Device :=
  let old := d.pwr.target
  ((({ d with pwr := p } : Device).pwrEnd 1).record 0x0005 0 (old * 256 + p.target) 0).raise F.SYS_EVENTS_PWR_DONE

/-- READY to RUN: edges start at the first alignment point of R26; a paired unit enters JOINING (R279). -/
def Device.enterRun (d : Device) : Device :=
  let p := d.pair
  let d : Device := { d with
    pair := { PairX.empty with
      rein := { p.rein with valid := none, m := 0, release := none }, seenEpoch := p.seenEpoch, txAlive := p.txAlive, kat := p.kat,
      mirror := { Mirror.empty with pages := p.mirror.pages } }
    evqRecv := [], host := { d.host with sessRecv := [] }
    tick := { d.tick with running := false, inTick := false, gap := false, everEdge := false, runAccept := d.devNs, leave := false, cert := false, prevCert := false } }
  let d := (d.put F.PAIR_STATUS_ROLE 0 (if d.on F.PAIR_CTRL_EN then 1 else 0)).put F.PAIR_STATUS_SYNC 0 0
  let d := ((d.put F.PAIR_STATUS_PARTNER_LEASE 0 0).put F.PAIR_STATUS_MISMATCH 0 0).put F.PAIR_STATUS_INCONSISTENT 0 0
  let d := d.put F.PAIR_STATUS_TICK_MISMATCH 0 0
  d.enter .run

/-- The edge at which the device leaves RUN for READY (R355, R358). The numbering of the ticks ends there (log entry 108). DESIGN
CHOICE: the sources of the layout that stays selected (R100) keep their stale state, count and change tick (R52, log entry 141). -/
def Device.leaveRun (d : Device) : Device :=
  let d := forN 256 (fun (n : Nat) (d : Device) => if d.decState n = 0 then d else d.decSync n) d
  let d := d.encLeaveRun.reinStop
  let d := if d.on F.PAIR_CTRL_EN then d.setRole 1 else d.setRole 0
  let d := (d.put F.PAIR_STATUS_SYNC 0 0).put F.PAIR_STATUS_PARTNER_LEASE 0 0
  let d := if d.get F.UPD_STATUS_OWNER = 8 then d.put F.UPD_STATUS_OWNER 0 0xF else d
  let d := if d.pair.cmd.isSome then (d.put F.PAIR_CMD_STATUS_PENDING 0 0).put F.PAIR_CMD_STATUS_RESULT 0 0 else d
  let d : Device := { d with
    staleLow := false, pair := { d.pair with cmd := none, handover := none, resync := false }
    tick := { d.tick with leave := false, running := false, gap := false, published := false, publishedOk := false, work := [],
                          scale := d.tick.scale + 1 } }
  d.stepLeft.enter .ready

/-- The layout, requests, sessions, pins and berths end (R356). -/
def Device.dropWork (d : Device) : Device :=
  let d := if d.layoutReq.isSome then d.endRequest .cancelled else d
  let d := forN 256 (fun (n : Nat) (d : Device) => if d.decState n = 0 then d else d.decCloseNow n) d
  let d := forN 32 (fun (n : Nat) (d : Device) => if d.encOpened n then d.encCloseNow n else d) d
  let d := forN 8 (fun (h : Nat) (d : Device) => d.unpin h) d
  let d := forN 32 (fun (o : Nat) (d : Device) =>
    let d := ((d.put F.CMP_OUT_STATE_PRESENT o 0).put F.CMP_OUT_STATE_GANGED o 0).removeOut o
    if (d.outp o).tail.isSome then d.setOut o { d.outp o with tail := none } else d) d
  let d : Device := { d with
    layout := none, layoutPrev := none, berths := [], pinWait := [],
    srcs := d.srcs.map (fun (p : Nat × Src) => (p.1, { p.2 with newest := none, fallback := none, input := none })),
    net := { d.net with ingest := [] },
    tick := { d.tick with descs := [], luts := [], coefs := [], marks := [], lru := [], work := [], moving := none, stalled := [] } }
  let d := forN 256 (fun (s : Nat) (d : Device) => if (d.src s).referenced then d.staleOutside s else d) d
  d.put F.CMP_LAYOUT_STATUS_VALID 0 0

/-- READY to STANDBY begins (R356): everything ends, the ports go down, and the rate change of R334 starts. -/
def Chip.toStandby (c : Chip) : Chip :=
  let d := c.dev.dropWork.scrubPause
  let d := forN 28 (fun (p : Nat) (d : Device) => d.portOff p) d
  let d := (d.tetherOff.servosRefresh.put F.SYS_PWR_STATUS_BUSY 0 1).put F.SYS_PWR_STATUS_RESULT 0 0
  let c := forN 32 (fun (k : Nat) (c : Chip) => c.drain k) { c with dev := { d with change := some .toStandby, fchg := some .toStandby } }
  c.mapDev (fun (d : Device) => (d.put F.MEM_STATUS_FCHG_BUSY 0 1).put F.MEM_SR_STATUS_SR 0 0xFFFFFFFF)

/-- STANDBY to READY begins: the domains are released through R343 and the channels change rate. -/
def Chip.toReady (c : Chip) : Chip :=
  let d := (c.dev.put F.SYS_PWR_STATUS_BUSY 0 1).put F.SYS_PWR_STATUS_RESULT 0 0
  let d : Device := { d with heldAfterTimeout := [], clkWait := [4, 5, 6, 7, 8, 9, 10, 11], change := some .toReady, fchg := some .toReady }
  ((Chip.drain 0 { c with dev := d }).drain 16).mapDev (fun (d : Device) => (d.put F.MEM_STATUS_FCHG_BUSY 0 1).put F.MEM_SR_STATUS_SR 0 0xFFFFFFFF)

/-- READY or STANDBY to WATCH (R357): PD1 to PD11 are switched off at once. LIVE_OUT keeps its level (R363). -/
def Chip.toWatch (c : Chip) : Chip :=
  let d := c.dev.record 0x0005 0 (c.dev.pwr.target * 256 + 1) 0
  { mem := c.mem.dramLost, dev := { d.island with pwr := .watch, liveOut := d.liveOut } }

/-- A write to SYS_PWR_CMD (R354, R355). -/
def Chip.pwrCmd (slot target : Nat) (c : Chip) : Chip :=
  if target = 0 ∨ target > 4 then c
  else
    let d := (c.dev.put F.SYS_PWR_STATUS_TARGET 0 target).put F.SYS_PWR_STATUS_REQ_SLOT 0 slot
    let c := { c with dev := d }
    let say (f : Device → Device) : Chip := { c with dev := f d }
    if d.change.isSome || d.tick.leave then say (fun (d : Device) => d.pwrRefuse 2)
    else if d.pwr.target = target then say (fun (d : Device) => d.put F.SYS_PWR_STATUS_RESULT 0 1)
    else match d.pwr, target with
      | .ready, 4 =>
        say (fun (d : Device) =>
          if !d.heldAfterTimeout.isEmpty then d.pwrRefuse 5 else if !d.poolsOk then (d.pwrRefuse 4).raise F.CMP_EVENTS_POOL_CFG
          else d.enterRun)
      | .run, 3 =>
        say (fun (d : Device) => (({ d with tick := { d.tick with leave := true } } : Device).put F.SYS_PWR_STATUS_BUSY 0 1).put
          F.SYS_PWR_STATUS_RESULT 0 0)
      | .ready, 2 => c.toStandby
      | .standby, 3 => c.toReady
      | .ready, 1 => c.toWatch
      | .standby, 1 => c.toWatch
      | _, _ => say (fun (d : Device) => d.pwrRefuse 3)

/-- A change goes on when the clocks or the channels are ready, and ends when both are (R355, R356). -/
def Device.pwrProgress (d : Device) : Device :=
  match d.change with
  | some .toStandby =>
    if d.fchg.isSome then d
    else (((d.enter .standby).put F.RST_CLK_STATUS_IN_RESET 0 0xFF0).lanesAgain (fun _ => true)).touchRefresh
  | some .toReady => if d.fchg.isSome || !d.clkWait.isEmpty then d else (({ d with scrubStart := d.now } : Device).enter .ready).coreUp
  | none => d

/-- MEM_FCHG_LOCK: steps 6 and 7 of R334. -/
def Device.fchgLock (d : Device) : Device :=
  match d.fchg with
  | none => d
  | some k =>
    if d.pwr = .failed then d
    else
      let d := (({ d with fchg := none } : Device).put F.MEM_STATUS_TIMING 0 (if k = .toStandby then 1 else 0)).put
        F.MEM_SR_STATUS_SR 0 (if k = .toStandby then 0xFFFEFFFE else 0)
      let d := forN 32 (fun (ch : Nat) (d : Device) => d.releaseHeld ch) d
      ((d.put F.MEM_STATUS_FCHG_BUSY 0 0).raise F.MEM_EVENTS_FCHG_DONE).pwrProgress

def execMemFchgLock (s : State) : Host.Outcome State Fault Refusal := onDev Device.fchgLock s

/-- MEM_FCHG_TIMEOUT: the channels stay in self-refresh and the device stops in FAILED (R334, R359). -/
def Device.fchgTimeout (d : Device) : Device :=
  if d.fchg.isNone || decide (d.pwr = .failed) then d
  else
    let d := ({ d with pwr := .failed } : Device).pwrEnd 6
    (d.raise F.MEM_EVENTS_FCHG_FAIL).raise F.SYS_EVENTS_PWR_FAIL

def execMemFchgTimeout (s : State) : Host.Outcome State Fault Refusal := onDev Device.fchgTimeout s

/-! ## Domain clocks (R343, R344) -/

/-- A domain whose clock was started has come up, or is held: what waits for it goes on. -/
def Chip.clocksGo (c : Chip) : Chip :=
  let d := c.dev
  if !d.clkWait.isEmpty then c
  else if d.pwr = .boot then
    (if d.get F.SYS_BOOT_STATUS_STEP = 6 then c.bootClocked
     else if d.get F.SYS_BOOT_STATUS_STEP = 9 then c.bootFinish else c)
  else { c with dev := d.pwrProgress }

/-- The clock of a domain is awaited: PD2 and PD3 in either order, the others in number order. -/
def Device.awaits (d : Device) (pd : Nat) : Bool :=
  decide (pd ∈ d.clkWait) && (decide (pd < 4) || decide (d.clkWait.head? = some pd))

/-- PD1 leaves reset: the registers that show fuses hold them (R388, R410). -/
def Chip.fuses (c : Chip) : Chip :=
  let d := c.dev.put F.HOST_LC_STATUS_STATE 0 c.mem.otp.lc
  { c with dev := forN 19 (fun (i : Nat) (d : Device) => d.put F.UPD_OTP_SVN_SVN i (c.mem.otp.svn i)) d }

/-- DOMAIN_CLOCK_LOCK: the domain leaves reset. -/
def Chip.clockLock (pd : Nat) (c : Chip) : Chip :=
  let d := c.dev
  if !d.awaits pd then c
  else
    let d : Device := { d with clkWait := d.clkWait.erase pd }
    let c := { c with dev := d.put F.RST_CLK_STATUS_IN_RESET 0 (setBit (d.get F.RST_CLK_STATUS_IN_RESET) pd false) }
    (if pd = 1 then c.fuses else c).clocksGo

def execDomainClockLock (pd : Nat) (s : State) : Host.Outcome State Fault Refusal := onChip (Chip.clockLock pd) s

/-- DOMAIN_CLOCK_TIMEOUT: the domain stays in reset (R344). -/
def Chip.clockTimeout (pd : Nat) (c : Chip) : Chip :=
  let d := c.dev
  if !d.awaits pd then c
  else
    let d : Device := { d with clkWait := d.clkWait.erase pd, heldAfterTimeout := d.heldAfterTimeout ++ [pd] }
    let d := d.put F.RST_CLK_STATUS_TIMEOUT 0 (setBit (d.get F.RST_CLK_STATUS_TIMEOUT) pd true)
    let d := d.record 0x0012 1 (d.wordOf R.RST_CLK_STATUS) 0
    if pd = 1 then { c with dev := { d with pwr := .halted, clkWait := [] } }
    else if pd < 4 then { c with dev := (d.bootFail d.boot.image errMemory).bootHalt }
    else Chip.clocksGo { c with dev := d }

def execDomainClockTimeout (pd : Nat) (s : State) : Host.Outcome State Fault Refusal := onChip (Chip.clockTimeout pd) s

end Sys2Proof.Machine
end

