-- ==== Sys2Proof/Machine/Upd.lean ====
section
/-!
DEFINITION. Field update (R394 to R409): the session lock, the update window, VERIFY, the boot selector, the
settings window and the hitless swap.
-/

namespace Sys2Proof.Machine

/-- The results of UPD_STATUS (R410). -/
def updDone : Nat := 1
def updBusy : Nat := 2
def updState : Nat := 3
def updUnverified : Nat := 5
def updNotHitless : Nat := 6
def updTimeout : Nat := 7
def updRole : Nat := 8

def Device.setUpd (d : Device) (f : UpdX → UpdX) : Device := { d with upd := f d.upd }

def Device.owner (d : Device) : Nat := d.get F.UPD_STATUS_OWNER

/-- A command ends. -/
def Device.updEnd (d : Device) (r : Nat) : Device := (d.put F.UPD_STATUS_RESULT 0 r).put F.UPD_STATUS_PENDING 0 0

/-- A command goes on. -/
def Device.updPend (d : Device) : Device := (d.put F.UPD_STATUS_RESULT 0 0).put F.UPD_STATUS_PENDING 0 1

/-- The lock is held by another: UPD_BUSY names the owner (R397, R398). -/
def Device.updLocked (d : Device) : Device := d.raise F.UPD_EVENTS_BUSY d.owner

/-- The lock is given up. -/
def Device.unlock (d : Device) (lost : Bool) : Device :=
  let d := d.put F.UPD_STATUS_OWNER 0 0xF
  if lost then d.raise F.UPD_EVENTS_SESSION_LOST else d

/-- The slot that the selector does not prefer (R400). -/
def Device.inactive (d : Device) : Nat := 1 - d.get F.UPD_STATUS_PREFERRED

/-! ## The update window (R400, R401) -/

/-- How many bytes the update window maps. -/
def Device.updSpan (d : Device) : Nat := imageSpan d.flashSize d.inactive

/-- The sectors of the inactive slot from `a` on, below `b`, are erased. -/
def Memory.eraseTo (m : Memory) (base a b : Nat) : Memory :=
  { m with flash := m.flash.filter (fun (p : Nat × Byte) => !decide (base + a ≤ p.1 ∧ p.1 < base + b)) }

/-- A write that the window accepts: sectors not reached before are erased, and the result of VERIFY is void. -/
def Chip.winStore (off : Nat) (l : List Byte) (c : Chip) : Chip :=
  let d := c.dev
  let base := imageBase d.flashSize d.inactive
  let stop := (off + l.length + 65535) / 65536 * 65536
  let m := if d.upd.erased < stop then c.mem.eraseTo base d.upd.erased stop else c.mem
  let d := if d.get F.UPD_STATUS_VERIFY = 1 then d.updEnd 0 else d
  let d := (d.put F.UPD_STATUS_VERIFY 0 0).put F.UPD_WIN_POS_POS 0 (off + l.length)
  { mem := m.flashWr (base + off) l
    dev := d.setUpd (fun (u : UpdX) => { u with erased := max u.erased stop, job := some .window, activeAt := d.now }) }

/-- A write to the update window by a slot, inside the window: the result of R379. -/
def Chip.winWrite (slot off : Nat) (l : List Byte) (c : Chip) : Chip × Nat :=
  let d := c.dev
  if d.owner ≠ slot then (c.mapDev Device.updLocked, resBusy)
  else
    let c := c.mapDev (fun (d : Device) => d.setUpd (fun (u : UpdX) => { u with activeAt := d.now }))
    if off < d.get F.UPD_WIN_POS_POS then (c, resFormat)
    else if d.upd.job.isSome then (c, resBusy)
    else (c.winStore off l, resOk)

/-- A read of the update window: the flash as it is. -/
def Chip.winRead (off n : Nat) (c : Chip) : List Byte :=
  bytesAt (fun a => c.mem.flashRd (imageBase c.dev.flashSize c.dev.inactive + a)) off n

/-! ## The settings window (R405) -/

def settingsSpan : Nat := 1961984

/-- A write to the copy; its sectors are to be programmed. -/
def Device.setWrite (d : Device) (off : Nat) (l : List Byte) : Device :=
  let t := Flash.writeList d.upd.settings off l
  let s := if l.isEmpty then [] else (List.range ((off + 4096 + l.length - 1) / 65536 - (off + 4096) / 65536 + 1)).map (fun k => (off + 4096) / 65536 + k)
  (d.setUpd (fun (u : UpdX) => { u with settings := t, dirty := (u.dirty ++ s).dedup })).put F.UPD_STATUS_SETTINGS_DIRTY 0 1

def Device.setRead (d : Device) (off n : Nat) : List Byte := (List.range n).map (fun k => Flash.read d.upd.settings (off + k))

/-- SETTINGS_PROGRAM_COMPLETE: the changed sectors are in the flash. -/
def Chip.settingsDone (c : Chip) : Chip :=
  let d := c.dev
  if d.upd.dirty.isEmpty || decide (d.flashSize = 0) || !d.pd1On then c
  else
    { mem := c.mem.fillSlot d.flashSize d.upd.half d.upd.run.schema d.upd.settings
      dev := (d.setUpd (fun (u : UpdX) => { u with dirty := [] })).put F.UPD_STATUS_SETTINGS_DIRTY 0 0 }

def execSettingsProgramComplete (s : State) : Host.Outcome State Fault Refusal := onChip Chip.settingsDone s

/-! ## VERIFY (R402) -/

/-- The error of the image in the inactive slot, 0 where it passes. -/
def Chip.verifyErr (c : Chip) : Nat :=
  let d := c.dev
  let rd := c.mem.imageRd d.flashSize d.inactive
  let e := headerErr c.mem.otp (d.get F.HOST_LC_STATUS_STATE) rd
  if e ≠ 0 then e
  else if leAt rd 16 8 > d.updSpan then errHeader
  else
    let e := d.sectionsErr rd
    if e ≠ 0 then e else if protoOk rd then 0 else errConfig

/-- UPD_VERIFY_DONE. -/
def Chip.verifyDone (c : Chip) : Chip :=
  let d := c.dev
  if d.get F.UPD_STATUS_VERIFY ≠ 1 then c
  else
    let e := c.verifyErr
    let img := readImage (c.mem.imageRd d.flashSize d.inactive)
    let d := (d.put F.UPD_STATUS_VERIFY 0 (if e = 0 then 2 else 3)).put F.UPD_STATUS_VERIFY_ERR 0 e
    let d := (d.flag F.UPD_STATUS_PROTO_CHANGE 0 (decide (e = 0 ∧ img.proto ≠ d.upd.run.proto))).flag
      F.UPD_STATUS_OUTPUT_CHANGE 0 (decide (e = 0 ∧ img.rev ≠ d.upd.run.rev))
    let d := if e = 0 then
        (d.setUpd (fun (u : UpdX) => { u with staged := img })).put F.UPD_VERSION_STAGED_VERSION 0 img.version else d
    { c with dev := (d.updEnd updDone).raise F.UPD_EVENTS_VERIFY_DONE }

def execUpdVerifyDone (s : State) : Host.Outcome State Fault Refusal := onChip Chip.verifyDone s

/-! ## The swap (R406, R407) -/

/-- The entries of one CONFIG section that the other does not hold. -/
def newEntries (new old : List (Nat × Nat)) : List (Nat × Nat) := new.filter (fun e => !decide (e ∈ old))

/-- An entry names an RWS field. -/
def namesRws (e : Nat × Nat) : Bool :=
  match findReg e.1 with
  | some p => p.1.flds.any (fun (f : Fld) => decide (f.acc = .rws))
  | none => false

/-- Component `k` may change in a hitless swap (R394). TETHER_PROTO does not count on a single device. -/
def Image.capable (i : Image) (k : Nat) : Bool :=
  if k ≤ 13 ∨ k = 16 then i.hitless.testBit k else decide (k = 18)

/-- The staged image may replace the running one (R406). -/
def Device.hitlessOk (d : Device) : Bool :=
  let a := d.upd.staged
  let b := d.upd.run
  decide (d.get F.UPD_STATUS_VERIFY = 2)
  && (List.range 19).all (fun k => decide (a.hashes.getD k 0 = b.hashes.getD k 0) || a.capable k)
  && !(newEntries a.entries b.entries ++ newEntries b.entries a.entries).any namesRws

/-- The staged image runs, and the selector follows (step 5 of R407). -/
def Device.swapImage (d : Device) : Device :=
  let a := d.upd.staged
  let n := d.inactive
  let d := d.setUpd (fun (u : UpdX) => { u with run := a, slot := n, swap := none, job := some (.selector n 2 5) })
  (d.put F.UPD_VERSION_RUN_VERSION 0 a.version).put F.SYS_BOOT_STATUS_IMAGE 0 n

/-- SWAP_ABANDON: 8 postponements have passed. -/
def Device.swapAbandon (d : Device) : Device :=
  match d.upd.swap with
  | some ⟨_, n⟩ =>
    if n < 8 then d
    else ((d.setUpd (fun (u : UpdX) => { u with swap := none })).updEnd updTimeout).raise F.UPD_EVENTS_SWAP_ABORTED
  | none => d

def execSwapAbandon (s : State) : Host.Outcome State Fault Refusal := onDev Device.swapAbandon s

/-! ## Commands (R397 to R409) -/

/-- What a command does on the unit itself, the lock already checked: 3 VERIFY, 4 ACTIVATE, 5 SWAP, 6 CONFIRM,
7 REVERT (R402, R404, R406). -/
def Device.updAct (d : Device) (op : Nat) : Device :=
  let st := d.get F.UPD_STATUS_SEL_STATE
  let write (d : Device) (p s : Nat) : Device := d.updPend.setUpd (fun (u : UpdX) => { u with job := some (.selector p s op) })
  match op with
  | 3 => d.updPend.put F.UPD_STATUS_VERIFY 0 1
  | 4 => if d.get F.UPD_STATUS_VERIFY = 2 then write d d.inactive 1 else d.updEnd updUnverified
  | 5 =>
    if d.inRun && d.on F.PAIR_CTRL_EN then d.updEnd updState
    else if d.hitlessOk then d.updPend.setUpd (fun (u : UpdX) => { u with swap := some ⟨none, 0⟩ })
    else d.updEnd updNotHitless
  | 6 => if d.get F.UPD_STATUS_PREFERRED = d.upd.slot ∧ st = 2 then write d d.upd.slot 0 else d.updEnd updState
  | 7 => if (st = 1 ∨ st = 2) ∧ d.upd.slot ≤ 1 then write d d.upd.slot 0 else d.updEnd updState
  | _ => d

/-- The partner is a STANDBY in SHADOW of a holder in RUN. -/
def Device.hasShadow (d : Device) : Bool := d.inRun && d.holds && d.partnerShadow

/-- ACTIVATE on the partner would install another tether protocol (R409). -/
def Device.otherProto (d : Device) (unit : Nat) : Bool :=
  decide (d.get F.UPD_PARTNER_PROTO ≠ d.upd.run.proto) || (decide (unit = 2) && d.on F.UPD_STATUS_PROTO_CHANGE)

/-- A write to UPD_CMD: `unit` 0 THIS, 1 PARTNER, 2 BOTH. -/
def Device.updCmd (slot op unit : Nat) (d : Device) : Device :=
  if op = 0 then d
  else
    let pending := d.on F.UPD_STATUS_PENDING
    let d := (d.put F.UPD_STATUS_OP 0 op).put F.UPD_STATUS_REQ_SLOT 0 slot
    if op = 1 then
      if d.owner ≠ 0xF then (d.put F.UPD_STATUS_RESULT 0 updBusy).updLocked
      else if unit ≠ 0 && !d.hasShadow then d.put F.UPD_STATUS_RESULT 0 updRole
      else
        let d := ((d.put F.UPD_STATUS_OWNER 0 slot).put F.UPD_WIN_POS_POS 0 0).put F.UPD_STATUS_RESULT 0 updDone
        d.setUpd (fun (u : UpdX) => { u with activeAt := d.now, erased := 0 })
    else if d.owner ≠ slot then (d.put F.UPD_STATUS_RESULT 0 updBusy).updLocked
    else
      let d := d.setUpd (fun (u : UpdX) => { u with activeAt := d.now })
      if unit ≠ 0 && !d.hasShadow then d.put F.UPD_STATUS_RESULT 0 updRole
      else if pending then d.put F.UPD_STATUS_RESULT 0 updBusy
      else if op = 2 then (d.put F.UPD_STATUS_RESULT 0 updDone).unlock false
      else if op = 4 ∧ unit ≠ 0 ∧ d.get F.UPD_PARTNER_VERIFY ≠ 2 then d.updEnd updUnverified
      else if op = 4 && unit ≠ 0 && d.otherProto unit then d.updEnd updNotHitless
      else if unit = 1 then d.updEnd updDone
      else d.updAct op

/-- What CONFIRM does beside the selector (R404): OTP values rise, the settings slot of any other format is erased. -/
def Chip.confirmed (c : Chip) : Chip :=
  let f := c.dev.flashSize
  let o := c.mem.otp
  let svns := (List.range 19).map (fun k => max (o.svn k) (c.dev.upd.run.svns.getD k 0))
  let h := 1 - c.dev.upd.half
  let m : Memory := { c.mem with otp := { o with svns := svns } }
  let m := if m.slotFormat f h ≠ c.dev.upd.run.schema then m.eraseSlot f h else m
  let d := forN 19 (fun (i : Nat) (d : Device) => d.put F.UPD_OTP_SVN_SVN i (svns.getD i 0)) c.dev
  { mem := m, dev := (d.raise F.UPD_EVENTS_CONFIRMED).record 0x0071 14 d.upd.run.version 0 }

/-- UPD_FLASH_WRITE_COMPLETE: the flash has done what it was busy with. -/
def Chip.flashDone (c : Chip) : Chip :=
  match c.dev.upd.job with
  | none => c
  | some .window => c.mapDev (fun (d : Device) => d.setUpd (fun (u : UpdX) => { u with job := none }))
  | some (.selector p st cmd) =>
    let e := if c.dev.get F.UPD_STATUS_PREFERRED = p then c.dev.upd.erased else 0
    let d := ((c.dev.setUpd (fun (u : UpdX) => { u with job := none, erased := e })).showSel p st).updEnd updDone
    let c : Chip := { mem := c.mem.writeSel d.flashSize p st, dev := d }
    if cmd = 6 then c.confirmed
    else if cmd = 5 then c.mapDev (fun (d : Device) => d.raise F.UPD_EVENTS_SWAP_DONE)
    else c

def execUpdFlashWriteComplete (s : State) : Host.Outcome State Fault Refusal := onChip Chip.flashDone s

/-- UPD_SESSION_TIMEOUT: 60 s without a command or access of the owner (R398). -/
def Device.updTimeoutNow (d : Device) : Device :=
  if d.owner ≤ 7 && d.pd1On then (d.waitNow (d.upd.activeAt + 60000000000)).unlock true else d

def execUpdSessionTimeout (s : State) : Host.Outcome State Fault Refusal := onDev Device.updTimeoutNow s

end Sys2Proof.Machine
end

