-- ==== Sys2Proof/Machine/Bus.lean ====
section
/-!
DEFINITION. Register accesses of hosts (R6 to R16, R281, R292, R350, R351, R380, R385, R466): what a read returns,
what a write does, and in which order an access is judged.
-/

namespace Sys2Proof.Machine

/-! ## What a read shows -/

/-- Bits of a mask that a test picks. -/
def maskOf (n : Nat) (p : Nat → Bool) : Nat := forN n (fun (k : Nat) (w : Nat) => if p k then w + 2 ^ k else w) 0

/-- The device has been READY since its reset. -/
def Device.booted (d : Device) : Bool :=
  match d.pwr with
  | .standby | .ready | .run | .failed => true
  | _ => false

/-- The amount of a layout in class 1 SCL, 2 BLD or 4 MEM. -/
def Layout.units (l : Layout) (cls : Nat) : Nat := if cls = 1 then l.scl else if cls = 2 then l.bld else l.memWu

/-- WU reserved in a class: 0 DEC, 1 SCL, 2 BLD, 3 ENC, 4 MEM (R35); while a request that has passed its checks
waits, the larger of the amounts of the old and new layouts (R96). -/
def Device.classUse (d : Device) (cls : Nat) : Nat :=
  match cls with
  | 0 => ((List.range 256).map (fun n => if d.decState n = 0 then 0 else d.get F.DEC_SESS_RES_RESERVED_WU n)).sum
  | 3 => ((List.range 32).map (fun n => if d.encOpened n then d.get F.ENC_SESS_RES_RESERVED_WU n else 0)).sum
  | k =>
    let old := match d.layout with
      | some l => l.units k
      | none => 0
    match d.layoutReq with
    | some r => if r.same then old else max old (r.layout.units k)
    | none => old

/-- A destination of a path still waits for the address of its next hop (R211). -/
def Device.pathOpen (d : Device) (e k : Nat) : Bool :=
  d.pathEn e k && ((d.resolve (d.pathPort e k) (d.pathDst e k)).isNone || (d.resolve (d.pathPort e k) (d.pathStamp e k)).isNone)

/-- A 64-bit parameter of a check channel without its bits at or above W (R412). -/
def Device.chkMasked (d : Device) (lo hi : Fld) (i : Nat) : Nat := d.get2 lo hi i % 2 ^ (d.chkParam i).width

/-- A field that the state holds elsewhere, as it reads: none where the register store has it. -/
def Device.view (d : Device) (f : Fld) (slot i : Nat) : Option Nat :=
  if f = F.SYS_PWR_STATUS_STATE then some d.pwr.code
  else if f.base = R.SYS_ALARM.base then some (f.of d.alarmWord)
  else if f.base = R.TICK_NUM_LO.base then some (d.tick.num % 2 ^ 32)
  else if f.base = R.TICK_NUM_HI.base then some (d.tick.num / 2 ^ 32)
  else if f = F.TICK_PHASE_NS then some (if d.tick.inTick then d.devNs - d.edgeNs d.tick.num else 0)
  else if f = F.TICK_STATUS_RUNNING then some (if d.tick.running then 1 else 0)
  else if f.base ≥ R.TICK_CAP_DEC.base ∧ f.base ≤ R.TICK_CAP_MEM.base then
    some (if d.booted then d.classCap ((f.base - R.TICK_CAP_DEC.base) / 4) else 0)
  else if f.base ≥ R.TICK_USE_DEC.base ∧ f.base ≤ R.TICK_USE_MEM.base ∧ f.lo = 16 then
    some (d.classUse ((f.base - R.TICK_USE_DEC.base) / 4))
  else if f = F.FRS_ACK_PENDING_LATCHED then some (d.ackPendingWord i)
  else if f = F.CMP_MOOR_CACHE_USED_BLOCKS then some d.moorCacheUsed
  else if f = F.CMP_MOOR_SPILL_USED_BLOCKS then some d.moorSpillUsed
  else if f = F.CMP_OUT_STATE_BERTH then some ((d.takenBerth i).getD 0)
  else if f = F.CMP_OUT_STATE_NO_BERTH then some (if d.tick.inTick && d.present i && (d.takenBerth i).isNone then 1 else 0)
  else if f = F.CMP_POOL_STATUS_RESERVED then some (d.reservedOf i)
  else if f = F.CMP_POOL_STATUS_AVAIL then some (d.availOf i)
  else if f = F.NET_RX_FLOW_CFG_SEEN then some (if i ∈ d.net.flowsLast then 1 else 0)
  else if f = F.NET_TX_STATUS_PATH1_UNRESOLVED then some (if d.pathOpen i 1 then 1 else 0)
  else if f = F.NET_TX_STATUS_PATH0_UNRESOLVED then some (if d.pathOpen i 0 then 1 else 0)
  else if f = F.NET_TX_STATUS_PATH1_DOWN then some (if d.pathEn i 1 && !d.portUp (d.pathPort i 1) then 1 else 0)
  else if f = F.NET_TX_STATUS_PATH0_DOWN then some (if d.pathEn i 0 && !d.portUp (d.pathPort i 0) then 1 else 0)
  else if f = F.LANE_REFCLK_STATUS_CLKMODE then some (d.get F.RST_STRAPS_CLKMODE)
  else if f = F.LANE_REFCLK_STATUS_Q7_LOCK then some (if d.quadLock 7 then 1 else 0)
  else if f = F.LANE_REFCLK_STATUS_QUAD_LOCK then some (maskOf 7 d.quadLock)
  else if f = F.TIME_NOW_NS_VALUE then some d.nsPart
  else if f = F.TIME_NOW_SEC_LO_VALUE then some (d.devNs / 1000000000 % 2 ^ 32)
  else if f = F.TIME_NOW_SEC_HI_VALUE then some (d.devNs / 1000000000 / 2 ^ 32)
  else if f = F.TIME_CAP_STATUS_COUNT then some (d.caps i).length
  else if f = F.MEM_SCRUB_STATUS_PERMILLE then some d.scrubPermille
  else if f = F.MEM_CH_STATUS_OCC then some (d.chan i).queue.length
  else if f = F.HOST_SLOT_STATUS_SLOT then some slot
  else if f = F.HOST_SLOT_STATUS_ROUTE then some (d.get F.HOST_PROT_ROUTE_ROUTE slot)
  else if f = F.HOST_EVQ_STATUS_COUNT then some (d.queue slot).length
  else if f = F.CHK_CH_POLY_LO_VALUE then some (d.chkMasked F.CHK_CH_POLY_LO_VALUE F.CHK_CH_POLY_HI_VALUE i)
  else if f = F.CHK_CH_POLY_HI_VALUE then some (d.chkMasked F.CHK_CH_POLY_LO_VALUE F.CHK_CH_POLY_HI_VALUE i / 2 ^ 32)
  else if f = F.CHK_CH_INIT_LO_VALUE then some (d.chkMasked F.CHK_CH_INIT_LO_VALUE F.CHK_CH_INIT_HI_VALUE i)
  else if f = F.CHK_CH_INIT_HI_VALUE then some (d.chkMasked F.CHK_CH_INIT_LO_VALUE F.CHK_CH_INIT_HI_VALUE i / 2 ^ 32)
  else if f = F.CHK_CH_XOROUT_LO_VALUE then some (d.chkMasked F.CHK_CH_XOROUT_LO_VALUE F.CHK_CH_XOROUT_HI_VALUE i)
  else if f = F.CHK_CH_XOROUT_HI_VALUE then some (d.chkMasked F.CHK_CH_XOROUT_LO_VALUE F.CHK_CH_XOROUT_HI_VALUE i / 2 ^ 32)
  else if f = F.CHK_CH_VALUE_LO_VALUE then some (d.chkValue i)
  else if f = F.CHK_CH_VALUE_HI_VALUE then some (d.chkValue i / 2 ^ 32)
  else if f = F.PERF_SAMPLE_STATUS_COUNT then some d.perf.samples.length
  else if f = F.PERF_CNT_LO_COUNT then some (Tab.get d.perf.snap 0 i)
  else if f = F.PERF_CNT_HI_COUNT then some (Tab.get d.perf.snap 0 i / 2 ^ 32)
  else none

/-- A register of channels 0 to 15 of CHK (R411), or of a port that the quad's mode hides (R206). -/
def Device.hidden (d : Device) (r : RegRow) (i : Nat) : Bool :=
  (decide (r.base ≥ R.CHK_CH_CFG.base) && decide (r.base ≤ R.CHK_CH_LEN.base) && decide (i < 16)) ||
  (decide (r.base ≥ R.NET_PORT_CFG.base) && decide (r.base ≤ R.NET_PORT_STATUS.base) && !d.portExists i)

/-- The word of a register as a slot reads it, before any effect of the read (R9, R11). -/
def Device.readWord (d : Device) (r : RegRow) (slot i : Nat) : Nat :=
  if d.hidden r i then 0
  else r.word (fun (f : Fld) => (d.view f slot i).getD (d.stored r slot i f))

/-- The key of a register's word in the latches and holds of a slot (R15, R16). -/
def RegRow.key (r : RegRow) (slot i : Nat) : Key := (r.base * 32, i, slot + 1)

def Device.latchWord (d : Device) (r : RegRow) (slot i w : Nat) : Device :=
  { d with latch := Tab.set d.latch (r.key slot i) w }

/-! ## Reads with an effect of their own -/

/-- HOST_EVQ_POP0: the oldest entry leaves the slot's queue; words 1 to 3 are latched (R381). -/
def Device.evqPop (d : Device) (slot : Nat) : Device × Nat :=
  match d.queue slot with
  | [] => (d, 0xFFFFFFFF)
  | e :: rest =>
    let d := { d with evq := Tab.set d.evq slot rest }
    let d := ((d.putS F.HOST_EVQ_POP1_WORD slot 0 (e.tick % 2 ^ 32)).putS F.HOST_EVQ_POP2_WORD slot 0 (e.tick / 2 ^ 32)).putS
      F.HOST_EVQ_POP3_WORD slot 0 e.ns
    (d, e.block * 2 ^ 27 + e.bit * 2 ^ 22 + e.arg % 2 ^ 16)

/-- TIME_NOW_NS: the seconds are latched for the slot (R270). -/
def Device.nowRead (d : Device) (slot : Nat) : Device × Nat :=
  let s := d.devNs / 1000000000
  ((d.latchWord R.TIME_NOW_SEC_LO slot 0 (s % 2 ^ 32)).latchWord R.TIME_NOW_SEC_HI slot 0 (s / 2 ^ 32 % 2 ^ 16), d.nsPart)

/-- TIME_CAP_NS: the oldest entry leaves the queue, its seconds and tag are latched for the slot (R276). -/
def Device.capPop (d : Device) (slot k : Nat) : Device × Nat :=
  match d.caps k with
  | [] => (d, 0xFFFFFFFF)
  | e :: rest =>
    let s := e.ns / 1000000000
    let tag := e.step % 256 * 2 ^ 24 + (if e.rising then 65536 else 0) + s / 2 ^ 32 % 2 ^ 16
    (((d.setCaps k rest).latchWord R.TIME_CAP_SEC_LO slot k (s % 2 ^ 32)).latchWord R.TIME_CAP_SEC_HI slot k tag, e.ns % 1000000000)

/-- The registers that another read latches for the slot. -/
def latchedBy (r : RegRow) : Bool :=
  decide (r.base = R.TIME_NOW_SEC_LO.base) || decide (r.base = R.TIME_NOW_SEC_HI.base) ||
  decide (r.base = R.TIME_CAP_SEC_LO.base) || decide (r.base = R.TIME_CAP_SEC_HI.base)

/-- A read of register `r`, instance `i`, with `inc` changes of its RC fields in the same cycle (R14). -/
def Device.regRead (d : Device) (r : RegRow) (slot i inc : Nat) : Device × Nat :=
  let w := d.readWord r slot i
  if d.hidden r i then (d, 0)
  else if r.base = R.HOST_EVQ_POP0.base then d.evqPop slot
  else if r.base = R.PERF_SAMPLE_POP.base then d.samplePop
  else if r.base = R.TIME_NOW_NS.base then d.nowRead slot
  else if r.base = R.TIME_CAP_NS.base then d.capPop slot i
  else if latchedBy r then (d, (Tab.find d.latch (r.key slot i)).getD w)
  else
    let d' := match r.highOf with
      | some h => d.latchWord h slot i (d.readWord h slot i)
      | none => d
    let v := match r.lowOf with
      | some _ => (Tab.find d.latch (r.key slot i)).getD w
      | none => w
    (d'.clearRc r slot i inc, v)

/-! ## What a write does beside storing its fields -/

/-- SYS: the power commands. -/
def Chip.sysWrite (slot : Nat) (r : RegRow) (w : Nat) (c : Chip) : Chip :=
  if r.base = R.SYS_PWR_CMD.base then c.pwrCmd slot (F.SYS_PWR_CMD_TARGET.of w) else c

/-- TICK: the flush of the pager (R40), and a tick rate, which the level of every open encode session follows (R182). -/
def Device.tickWrite (r : RegRow) (w : Nat) (d : Device) : Device :=
  if r.base = R.TICK_PAGE_FLUSH.base ∧ F.TICK_PAGE_FLUSH_FLUSH.of w = 1 then { d with tick := { d.tick with flush := true } }
  else if r.base = R.TICK_CTRL.base then forN 32 (fun (n : Nat) (d : Device) => if d.encOpened n then d.encRateEdge n else d) d
  else d

/-- ENC: a command; a bit rate and a period that take effect at once outside RUN (R12, R182, R189). -/
def Device.encWrite (slot : Nat) (r : RegRow) (i w : Nat) (d : Device) : Device :=
  if r.base = R.ENC_CMD.base then
    (if F.ENC_CMD_OP.of w = 0 then d else d.encCommand slot (F.ENC_CMD_OP.of w) (F.ENC_CMD_SESSION.of w))
  else if d.pwr = .run ∨ !d.encOpened i then d
  else if r.base = R.ENC_SESS_RATE.base then d.encRateEdge i
  else if r.base = R.ENC_SESS_GDR.base then d.encPeriodEdge i
  else d

/-- FRS: acknowledgements (R56). -/
def Device.frsWrite (r : RegRow) (w : Nat) (d : Device) : Device :=
  if r.base = R.FRS_ACK.base then
    (if F.FRS_ACK_ALL.of w = 1 then d.ackAllSources else d.ackSource (F.FRS_ACK_SOURCE.of w))
  else d

/-- CMP: layout requests, owners, berth queries and pins, pools. `old` is the device before the write. -/
def Chip.cmpWrite (slot : Nat) (r : RegRow) (i w : Nat) (old : Device) (c : Chip) : Chip :=
  if r.base = R.CMP_LAYOUT_SEL.base then
    if F.CMP_LAYOUT_SEL_CANCEL.of w = 1 then { c with dev := old.cancelLayout slot }
    else
      let fresh := c.dev.layoutReq.isNone
      let c := { c with dev := old.requestLayout c.mem slot (F.CMP_LAYOUT_SEL_INDEX.of w) }
      if fresh then c.mapDev (fun (d : Device) => d.setMirror (fun (m : Mirror) => { m with layoutSeq := m.issued })) else c
  else if r.base = R.CMP_BERTH_QUERY.base then c.mapDev (fun (d : Device) => d.berthQuery slot (F.CMP_BERTH_QUERY_BERTH.of w))
  else if r.base = R.CMP_BERTH_PIN.base then
    if F.CMP_BERTH_PIN_OP.of w = 0 then c
    else c.mapDev (fun (d : Device) => d.pinWrite slot (F.CMP_BERTH_PIN_OP.of w) (F.CMP_BERTH_PIN_ID.of w))
  else if r.base = R.CMP_OUT_OWNER.base then { c with dev := old.ownerWrite slot i (F.CMP_OUT_OWNER_SLOT.of w) }
  else c

/-- PIX: matrix entries (R138, R152). A commit to a built-in entry, or of words that are not well formed, is dropped. -/
def Device.pixWrite (slot : Nat) (r : RegRow) (w : Nat) (d : Device) : Device :=
  if r.base = R.PIX_MAT_COMMIT.base then
    let i := F.PIX_MAT_COMMIT_INDEX.of w
    if 240 ≤ i ∨ stageOk (d.staged slot) = false then d.dropWrite slot r.base else d.matCommit slot i
  else if r.base = R.PIX_MAT_QUERY.base then d.matQuery slot (F.PIX_MAT_QUERY_INDEX.of w)
  else d

/-- NET: ports and the entries that IGMP follows. -/
def Device.netWrite (r : RegRow) (i : Nat) (d old : Device) : Device :=
  if r.base = R.NET_PORT_CFG.base then
    if d.on F.NET_PORT_CFG_EN i && !old.on F.NET_PORT_CFG_EN i then d.portUpStart i
    else if !d.on F.NET_PORT_CFG_EN i && old.on F.NET_PORT_CFG_EN i then d.portOff i
    else d
  else d

/-- LANE: the tether and the eye scan. -/
def Device.laneWrite (r : RegRow) (w : Nat) (d old : Device) : Device :=
  if r.base = R.LANE_TETHER_CFG.base then
    if d.on F.LANE_TETHER_CFG_EN && !old.on F.LANE_TETHER_CFG_EN then d.tetherOn
    else if !d.on F.LANE_TETHER_CFG_EN && old.on F.LANE_TETHER_CFG_EN then d.tetherOff
    else d
  else if r.base = R.LANE_SCAN_CTRL.base ∧ F.LANE_SCAN_CTRL_START.of w = 1 then d.scanBegin
  else d

/-- TIME: commands, servos, triggers. -/
def Device.timeWrite (r : RegRow) (i w : Nat) (d old : Device) : Device :=
  if r.base = R.TIME_CMD.base then d.timeCmd (F.TIME_CMD_OP.of w) (F.TIME_CMD_SERVO.of w)
  else if r.base = R.TIME_SRV_CFG.base then d.servosRefresh
  else if r.base = R.TIME_CTRL.base then d.afterServo
  else if r.base = R.TIME_TRIG_CFG.base then
    if d.on F.TIME_TRIG_CFG_EN i && !old.on F.TIME_TRIG_CFG_EN i then d.trigEnable i
    else if !d.on F.TIME_TRIG_CFG_EN i && old.on F.TIME_TRIG_CFG_EN i then d.trigDisable i
    else d
  else d

/-- PAIR: SOLO and JOINING outside RUN, and the commands (R304). -/
def Device.pairWrite (slot : Nat) (r : RegRow) (w : Nat) (d old : Device) : Device :=
  if r.base = R.PAIR_CTRL.base then
    if d.on F.PAIR_CTRL_EN = old.on F.PAIR_CTRL_EN then d
    else d.setRole (if d.on F.PAIR_CTRL_EN then 1 else 0)
  else if r.base = R.PAIR_CMD.base then d.pairCmd slot (F.PAIR_CMD_OP.of w)
  else d

/-- HOST_LC_CMD: the fuses of the next life-cycle state are blown; it applies from the next reset (R388). -/
def Chip.lcCmd (op : Nat) (c : Chip) : Chip :=
  let st := c.dev.get F.HOST_LC_STATUS_STATE
  if (op = 1 ∧ st = 0) ∨ (op = 2 ∧ st = 1 ∧ c.dev.on F.HOST_LC_STATUS_DBG_UNLOCKED = true) then
    { c with mem := { c.mem with otp := { c.mem.otp with lc := max c.mem.otp.lc op } } }
  else c

/-- CHK: data and commands of a channel (R413, R414). -/
def Device.chkWrite (slot : Nat) (r : RegRow) (i w : Nat) (d : Device) : Device :=
  if r.base = R.CHK_CH_DATA8.base then d.chkFeed i [BitVec.ofNat 8 w]
  else if r.base = R.CHK_CH_DATA16.base then d.chkFeed i (beBytes 2 w)
  else if r.base = R.CHK_CH_DATA32.base then d.chkFeed i (beBytes 4 w)
  else if r.base = R.CHK_CH_CMD.base then
    match F.CHK_CH_CMD_OP.of w with
    | 1 => d.chkInit i
    | 2 => d.chkFinish i
    | 3 => d.chkRange slot i
    | _ => d
  else d

/-- PERF: commands, the bandwidth window, sampling (R417, R419, R420). -/
def Device.perfWrite (r : RegRow) (w : Nat) (d old : Device) : Device :=
  if r.base = R.PERF_CMD.base then d.perfCmd (F.PERF_CMD_OP.of w) (decide (F.PERF_CMD_EDGE.of w = 1))
  else if r.base = R.PERF_BW_CFG.base then d.perfBwStart
  else if r.base = R.PERF_SAMPLE_CFG.base && d.on F.PERF_SAMPLE_CFG_EN && !old.on F.PERF_SAMPLE_CFG_EN then
    { d with perf := { d.perf with occ := 0, due := [] } }
  else d

/-- BBOX: re-arming and host marks (R422, R424). -/
def Device.bboxWrite (slot : Nat) (r : RegRow) (w : Nat) (d : Device) : Device :=
  if r.base = R.BBOX_CMD.base then (if F.BBOX_CMD_ARM.of w = 1 then d.bbArm else d)
  else if r.base = R.BBOX_MARK.base then d.record 0x00F0 17 w slot
  else d

/-- TOUCH: sensing, keys, gain (R431, R434). -/
def Device.touchWrite (r : RegRow) (i w : Nat) (d old : Device) : Device :=
  if r.base = R.TOUCH_CTRL.base ∨ r.base = R.TOUCH_KEY_EN.base then (d.touchFresh old).touchRefresh
  else if r.base = R.TOUCH_CMD.base then
    if F.TOUCH_CMD_OP.of w = 1 then (if F.TOUCH_CMD_ALL.of w = 1 then d.rebaseAll else d.rebase (F.TOUCH_CMD_KEY.of w)) else d
  else if r.base = R.TOUCH_KEY_CFG.base ∧ d.get F.TOUCH_KEY_CFG_GAIN i ≠ old.get F.TOUCH_KEY_CFG_GAIN i then d.rebase i
  else d

/-- What a write that is carried out does beside storing its fields. -/
def Chip.writeEffect (slot : Nat) (r : RegRow) (i w : Nat) (old : Device) (c : Chip) : Chip :=
  match r.base / 65536 with
  | 0 => c.sysWrite slot r w
  | 2 => c.mapDev (Device.tickWrite r w)
  | 3 => c.mapDev (Device.frsWrite r w)
  | 4 => c.cmpWrite slot r i w old
  | 5 => c.mapDev (Device.pixWrite slot r w)
  | 6 =>
    if r.base = R.DEC_CMD.base ∧ F.DEC_CMD_OP.of w ≠ 0 then
      c.mapDev (fun (d : Device) => d.decCommand slot (F.DEC_CMD_OP.of w) (F.DEC_CMD_SESSION.of w))
    else c
  | 7 => c.mapDev (Device.encWrite slot r i w)
  | 8 => c.mapDev (fun (d : Device) => d.netWrite r i old)
  | 9 => c.mapDev (fun (d : Device) => d.laneWrite r w old)
  | 10 => c.mapDev (fun (d : Device) => d.timeWrite r i w old)
  | 11 => c.mapDev (fun (d : Device) => d.pairWrite slot r w old)
  | 12 =>
    if r.base = R.MEM_SCRUB_CFG.base && c.dev.on F.MEM_SCRUB_CFG_EN && !old.on F.MEM_SCRUB_CFG_EN then
      c.mapDev (fun (d : Device) => { d with scrubStart := d.now, scrubDone := 0 })
    else c
  | 13 => if r.base = R.HOST_LC_CMD.base then c.lcCmd (F.HOST_LC_CMD_OP.of w) else c
  | 14 => if r.base = R.UPD_CMD.base then c.mapDev (Device.updCmd slot (F.UPD_CMD_OP.of w) (F.UPD_CMD_UNIT.of w)) else c
  | 15 => c.mapDev (Device.chkWrite slot r i w)
  | 16 => c.mapDev (fun (d : Device) => d.perfWrite r w old)
  | 17 => c.mapDev (Device.bboxWrite slot r w)
  | 18 => c.mapDev (fun (d : Device) => d.touchWrite r i w old)
  | _ => c

/-! ## Writes (R10, R11, R16, R466) -/

/-- The write is dropped by a rule of its own block: a hidden register, a busy check channel (R415), a scan that
runs (R254), a flow that conflicts (R215), a bit rate below the floor, of an open or a closed session (R186). The second flag says that a flow
conflicts. -/
def Device.ownDrop (d : Device) (r : RegRow) (i w : Nat) : Bool × Bool :=
  if d.hidden r i then (true, false)
  else if r.base ≥ R.CHK_CH_CFG.base ∧ r.base ≤ R.CHK_CH_LEN.base then
    let fed := decide (r.base = R.CHK_CH_DATA8.base) || decide (r.base = R.CHK_CH_DATA16.base) ||
      decide (r.base = R.CHK_CH_DATA32.base) || decide (r.base = R.CHK_CH_VALUE_LO.base) ||
      decide (r.base = R.CHK_CH_VALUE_HI.base) || decide (r.base = R.CHK_CH_ALIVE.base) ||
      (decide (r.base = R.CHK_CH_CMD.base) && decide (F.CHK_CH_CMD_OP.of w ≥ 2))
    (d.chkBusy i && fed, false)
  else if r.base = R.LANE_SCAN_CTRL.base then (d.lanes.scan.isSome && decide (F.LANE_SCAN_CTRL_START.of w = 1), false)
  else if r.base = R.NET_RX_FLOW_CFG.base then
    let bad := decide (F.NET_RX_FLOW_CFG_EN.of w = 1) && !d.on F.NET_RX_FLOW_CFG_EN i &&
      d.flowConflict i (F.NET_RX_FLOW_CFG_PORT.of w) (F.NET_RX_FLOW_CFG_LEG.of w) (F.NET_RX_FLOW_CFG_FORM.of w) (F.NET_RX_FLOW_CFG_SOURCE.of w)
    (bad, bad)
  else if r.base = R.ENC_SESS_RATE.base then
    (!d.encFloorOk i (F.ENC_SESS_RATE_BIT_RATE.of w), false)
  else (false, false)

/-- The registers that a write reaches, with their words: the half held before its high half, then the register
itself (R16). -/
def Device.writeWords (d : Device) (r : RegRow) (slot i w : Nat) : List (RegRow × Nat) :=
  match r.lowOf with
  | some l => match Tab.find d.held (l.key slot i) with
    | some v => [(l, v), (r, w)]
    | none => [(r, w)]
  | none => [(r, w)]

/-- The half that was held is used up. -/
def Device.unhold (d : Device) (r : RegRow) (slot i : Nat) : Device :=
  match r.lowOf with
  | some l => { d with held := Tab.del d.held (l.key slot i) }
  | none => d

/-- W1C bits that hardware sets in the same cycle stay set (R13). -/
def Device.setAgain (d : Device) (r : RegRow) (slot i hwSet : Nat) : Device :=
  forL r.flds (fun (f : Fld) (d : Device) =>
    if f.acc = .w1c then d.putField r slot i f (d.fieldOf r slot i f ||| f.of hwSet) else d) d

/-- The words of a write are stored; a berth class whose place, size or count they change is formed anew (R112). -/
def Device.storeWords (d : Device) (words : List (RegRow × Nat)) (r : RegRow) (slot i : Nat) : Device :=
  let d' := words.foldl (fun (d : Device) (q : RegRow × Nat) => d.storeWord q.1 slot i q.2) d
  if r.base = R.CMP_POOL_BASE_HI.base ∨ r.base = R.CMP_POOL_CFG.base then d'.poolChanged d i else d'

/-- A write to a register that the unit carries out, drops or holds (R8, R10, R16, R466). -/
def Chip.regWrite (slot addr w hwSet : Nat) (c : Chip) : Chip :=
  match findReg addr with
  | none => c
  | some p =>
    let r := p.1
    let i := p.2
    let d := c.dev
    let drop := d.ownDrop r i w
    if drop.1 then
      c.mapDev (fun (d : Device) =>
        let d := (d.unhold r slot i).dropWrite slot addr
        if drop.2 then d.raise F.NET_EVENTS_FLOW_CONFLICT i else d)
    else if r.isLo then c.mapDev (fun (d : Device) => { d with held := Tab.set d.held (r.key slot i) w })
    else
      let words := d.writeWords r slot i w
      let old := d.unhold r slot i
      if words.any (fun (q : RegRow × Nat) => d.reservedWrite q.1 i q.2 || d.busyWrite q.1 slot i q.2) then
        { c with dev := old.dropWrite slot addr }
      else
        let c := { c with dev := old.storeWords words r slot i }
        let c := c.writeEffect slot r i w old
        let c := c.mapDev (fun (d : Device) => d.setAgain r slot i hwSet)
        let joined := old.memberships
        let c := if r.base / 65536 = 8 ∨ r.base / 65536 = 11 then
          c.mapDev (fun (d : Device) => (d.igmpUpdate (fun p => joined.getD p [])).hopScan) else c
        c.mapDev (fun (d : Device) => words.foldl (fun (d : Device) (q : RegRow × Nat) =>
          d.logWrite slot (q.1.base + q.1.stride * i) q.2) d)

/-! ## The hitless swap (R407) -/

/-- A differing CONFIG entry is written as by a host, in every slot where it is held per slot; RWT fields are in force at the
swap edge (step 4). -/
def Chip.swapEntry (e : Nat × Nat) (c : Chip) : Chip :=
  match findReg e.1 with
  | none => c
  | some p =>
    if inProt e.1 then c
    else
      let put (h : Nat) (c : Chip) : Chip :=
        ({ c with dev := c.dev.storeWord p.1 h p.2 e.2 } : Chip).writeEffect h p.1 p.2 e.2 c.dev
      if p.1.perSlot then forN 8 put c else put 0 c

/-- The swap takes place (steps 4 and 5). -/
def Chip.swapNow (c : Chip) : Chip :=
  (forL (newEntries c.dev.upd.staged.entries c.dev.upd.run.entries) Chip.swapEntry c).mapDev Device.swapImage

/-- SWAP_LOAD_COMPLETE: the swap edge is the first at least 2 T later; while no edges are made, the swap is now (step 2). -/
def Chip.swapLoaded (c : Chip) : Chip :=
  match c.dev.upd.swap with
  | some ⟨none, n⟩ =>
    if !c.dev.ticking then c.swapNow
    else c.mapDev (fun (d : Device) =>
      let x := d.devNs + d.pointNs 2 0
      let t := d.tickOf x
      d.setUpd (fun (u : UpdX) => { u with swap := some ⟨some (if d.edgeNs t ≥ x then t else t + 1), n⟩ }))
  | _ => c

def execSwapLoadComplete (s : State) : Host.Outcome State Fault Refusal := onChip Chip.swapLoaded s

/-- The edge of tick `t`: the named edge swaps when every engine has saved its state, and is postponed otherwise, at
most 8 times. -/
def Chip.swapEdge (t : Nat) (saved : Bool) (c : Chip) : Chip :=
  match c.dev.upd.swap with
  | some ⟨some e, n⟩ =>
    if t < e then c
    else if saved ∧ n < 8 then c.swapNow
    else if n < 8 then c.mapDev (fun (d : Device) => d.setUpd (fun (u : UpdX) => { u with swap := some ⟨some (t + 1), n + 1⟩ }))
    else c
  | _ => c

/-! ## The judgement of an access -/

/-- The reason of an access fault of a register access (R351, R6, R7, R385). A slot always reaches its own copies
of registers held per slot. DESIGN CHOICE: an access that is misaligned and lies at or above 0x14_0000 has reason ALIGN (log
entry 140). -/
def Device.regFault (d : Device) (slot addr width : Nat) (write : Bool) : Option Nat :=
  let b := addr / 65536
  let own := match findReg addr with
    | some p => p.1.perSlot
    | none => false
  if (d.pwr = .boot ∨ d.pwr = .halted) ∧ (write = true ∨ b > 1) then some whyBoot
  else if width ≠ 32 ∨ addr % 4 ≠ 0 then some whyAlign
  else if addr ≥ 0x140000 then some whyRange
  else if d.pwr = .boot ∨ d.pwr = .halted then none
  else if own then none
  else if (if write then d.mayWrite slot b else d.mayRead slot b) then none
  else some whyPerm

/-- An event queue register of the writing slot (R281). -/
def isEvq (addr : Nat) : Bool := decide (0xD0020 ≤ addr ∧ addr < 0xD0090)

/-- A host's register write, with its result; a write that the holder completes at the next edge has none yet
(R292, R379). -/
def Chip.hostWrite (slot addr width w hwSet : Nat) (c : Chip) : Chip × Option Nat :=
  let d := c.dev
  match d.regFault slot addr width true with
  | some why => ({ c with dev := d.fault slot why 0 addr }, some resFault)
  | none =>
    if d.roleRefuses (addr / 65536) (isEvq addr) then ({ c with dev := d.refuseWrite }, some resRole)
    else if d.defers && carried addr then ({ c with dev := { d with deferred := d.deferred ++ [(slot, addr, w)] } }, none)
    else (c.regWrite slot addr w hwSet, some resOk)

/-- A host's register read: result and value (R379). -/
def Chip.hostRead (slot addr width inc : Nat) (c : Chip) : Chip × Nat × Nat :=
  let d := c.dev
  match d.regFault slot addr width false with
  | some why => ({ c with dev := d.fault slot why 0 addr }, resFault, 0)
  | none => match findReg addr with
    | none => (c, resOk, 0)
    | some p =>
      let q := d.regRead p.1 slot p.2 inc
      ({ c with dev := q.1 }, resOk, q.2)

/-- The result of an access is handed to the host. -/
def Chip.answer (slot code : Nat) (data : List Byte) (c : Chip) : Chip := c.mapDev (fun (d : Device) => d.emit (.result slot code data))

/-- A write command of a slot; nothing answers while PD1 is off. -/
def Chip.doWrite (slot addr width w hwSet : Nat) (c : Chip) : Chip :=
  if !c.dev.pd1On then c
  else
    let p := c.hostWrite (slot % 8) addr width (w % 2 ^ 32) hwSet
    match p.2 with
    | some r => p.1.answer (slot % 8) r []
    | none => p.1

/-- A read command of a slot. -/
def Chip.doRead (slot addr width inc : Nat) (c : Chip) : Chip :=
  if !c.dev.pd1On then c
  else
    let p := c.hostRead (slot % 8) addr width inc
    p.1.answer (slot % 8) p.2.1 (beBytes 4 p.2.2)




def execRegisterWrite (slot addr width value hwSet : Nat) (s : State) : Host.Outcome State Fault Refusal :=
  onChip (Chip.doWrite slot addr width value hwSet) s
def execRcRead (slot addr inc : Nat) (s : State) : Host.Outcome State Fault Refusal := onChip (Chip.doRead slot addr 32 inc) s
def execLoReadLatch (slot addr : Nat) (s : State) : Host.Outcome State Fault Refusal := onChip (Chip.doRead slot addr 32 0) s
def execLoWriteHold (slot addr value : Nat) (s : State) : Host.Outcome State Fault Refusal :=
  onChip (Chip.doWrite slot addr 32 value 0) s
def execHiWriteApply (slot addr value : Nat) (s : State) : Host.Outcome State Fault Refusal :=
  onChip (Chip.doWrite slot addr 32 value 0) s

/-! ## Commands that are one register access -/

/-- A write to register `r`, instance `i`. -/
def writeTo (slot : Nat) (r : RegRow) (i w : Nat) (s : State) : Host.Outcome State Fault Refusal :=
  onChip (Chip.doWrite slot (r.base + r.stride * i) 32 w 0) s

/-- A read of register `r`, instance `i`. -/
def readFrom (slot : Nat) (r : RegRow) (i : Nat) (s : State) : Host.Outcome State Fault Refusal :=
  onChip (Chip.doRead slot (r.base + r.stride * i) 32 0) s

def execTickPageFlush (slot : Nat) (s : State) : Host.Outcome State Fault Refusal := writeTo slot R.TICK_PAGE_FLUSH 0 1 s
def execFrsAckSource (slot source : Nat) (s : State) : Host.Outcome State Fault Refusal :=
  writeTo slot R.FRS_ACK 0 (F.FRS_ACK_SOURCE.at source) s
def execFrsAckAll (slot : Nat) (s : State) : Host.Outcome State Fault Refusal := writeTo slot R.FRS_ACK 0 (F.FRS_ACK_ALL.at 1) s
def execLayoutRequest (slot index : Nat) (s : State) : Host.Outcome State Fault Refusal :=
  writeTo slot R.CMP_LAYOUT_SEL 0 (F.CMP_LAYOUT_SEL_INDEX.at index) s
def execLayoutCancel (slot : Nat) (s : State) : Host.Outcome State Fault Refusal :=
  writeTo slot R.CMP_LAYOUT_SEL 0 (F.CMP_LAYOUT_SEL_CANCEL.at 1) s
def execOutOwnerWrite (slot output owner : Nat) (s : State) : Host.Outcome State Fault Refusal :=
  writeTo slot R.CMP_OUT_OWNER (output % 32) (F.CMP_OUT_OWNER_SLOT.at owner) s
def execBerthQuery (slot berth : Nat) (s : State) : Host.Outcome State Fault Refusal :=
  writeTo slot R.CMP_BERTH_QUERY 0 (F.CMP_BERTH_QUERY_BERTH.at berth) s
def execBerthPinSource (slot source : Nat) (s : State) : Host.Outcome State Fault Refusal :=
  writeTo slot R.CMP_BERTH_PIN 0 (F.CMP_BERTH_PIN_OP.at 1 + F.CMP_BERTH_PIN_ID.at source) s
def execBerthPinOutput (slot output : Nat) (s : State) : Host.Outcome State Fault Refusal :=
  writeTo slot R.CMP_BERTH_PIN 0 (F.CMP_BERTH_PIN_OP.at 2 + F.CMP_BERTH_PIN_ID.at output) s
def execBerthPinRelease (slot : Nat) (s : State) : Host.Outcome State Fault Refusal :=
  writeTo slot R.CMP_BERTH_PIN 0 (F.CMP_BERTH_PIN_OP.at 3) s
def execPoolConfigWrite (slot addr value : Nat) (s : State) : Host.Outcome State Fault Refusal :=
  onChip (Chip.doWrite slot addr 32 value 0) s
def execMatCommit (slot index : Nat) (s : State) : Host.Outcome State Fault Refusal :=
  writeTo slot R.PIX_MAT_COMMIT 0 (F.PIX_MAT_COMMIT_INDEX.at index) s
def execMatQuery (slot index : Nat) (s : State) : Host.Outcome State Fault Refusal :=
  writeTo slot R.PIX_MAT_QUERY 0 (F.PIX_MAT_QUERY_INDEX.at index) s
def execRxFlowEnableWrite (slot flow word : Nat) (s : State) : Host.Outcome State Fault Refusal :=
  writeTo slot R.NET_RX_FLOW_CFG (flow % 512) word s

/-- The word of DEC_CMD, and of ENC_CMD. -/
def decWord (op n : Nat) : Nat := F.DEC_CMD_OP.at op + F.DEC_CMD_SESSION.at n
def encWord (op n : Nat) : Nat := F.ENC_CMD_OP.at op + F.ENC_CMD_SESSION.at n

def execDecOpen (slot session : Nat) (s : State) : Host.Outcome State Fault Refusal := writeTo slot R.DEC_CMD 0 (decWord 1 session) s
def execDecClose (slot session : Nat) (s : State) : Host.Outcome State Fault Refusal := writeTo slot R.DEC_CMD 0 (decWord 2 session) s
def execDecResync (slot session : Nat) (s : State) : Host.Outcome State Fault Refusal := writeTo slot R.DEC_CMD 0 (decWord 3 session) s
def execEncOpen (slot session : Nat) (s : State) : Host.Outcome State Fault Refusal := writeTo slot R.ENC_CMD 0 (encWord 1 session) s
def execEncClose (slot session : Nat) (s : State) : Host.Outcome State Fault Refusal := writeTo slot R.ENC_CMD 0 (encWord 2 session) s
def execEncRefresh (slot session : Nat) (s : State) : Host.Outcome State Fault Refusal := writeTo slot R.ENC_CMD 0 (encWord 3 session) s
def execEncBitRateWrite (slot session bitRate bufPics : Nat) (s : State) : Host.Outcome State Fault Refusal :=
  writeTo slot R.ENC_SESS_RATE (session % 32) (F.ENC_SESS_RATE_BIT_RATE.at bitRate + F.ENC_SESS_RATE_BUF_PICS.at bufPics) s

/-- A word with the enable bit at a value, whatever it says there. -/
def enWord (f : Fld) (w v : Nat) : Nat := w - f.at (f.of w) + f.at v

def execPortEnable (slot port word : Nat) (s : State) : Host.Outcome State Fault Refusal :=
  writeTo slot R.NET_PORT_CFG (port % 28) (enWord F.NET_PORT_CFG_EN word 1) s
def execPortDisable (slot port word : Nat) (s : State) : Host.Outcome State Fault Refusal :=
  writeTo slot R.NET_PORT_CFG (port % 28) (enWord F.NET_PORT_CFG_EN word 0) s
def execTetherEnable (slot : Nat) (s : State) : Host.Outcome State Fault Refusal :=
  writeTo slot R.LANE_TETHER_CFG 0 (F.LANE_TETHER_CFG_EN.at 1) s
def execTetherDisable (slot : Nat) (s : State) : Host.Outcome State Fault Refusal := writeTo slot R.LANE_TETHER_CFG 0 0 s
def execScanStart (slot lane phase offset dwell : Nat) (s : State) : Host.Outcome State Fault Refusal :=
  writeTo slot R.LANE_SCAN_CTRL 0 (F.LANE_SCAN_CTRL_START.at 1 + F.LANE_SCAN_CTRL_LANE.at lane + F.LANE_SCAN_CTRL_PHASE.at phase
    + F.LANE_SCAN_CTRL_OFFSET.at offset + F.LANE_SCAN_CTRL_DWELL.at dwell) s

/-- The word of TIME_CMD. -/
def timeWord (op v : Nat) : Nat := F.TIME_CMD_OP.at op + F.TIME_CMD_SERVO.at v

def execTimeRelock (slot servo : Nat) (s : State) : Host.Outcome State Fault Refusal := writeTo slot R.TIME_CMD 0 (timeWord 1 servo) s
def execTimeSelect (slot servo : Nat) (s : State) : Host.Outcome State Fault Refusal := writeTo slot R.TIME_CMD 0 (timeWord 2 servo) s
def execTimeCancel (slot : Nat) (s : State) : Host.Outcome State Fault Refusal := writeTo slot R.TIME_CMD 0 (timeWord 3 0) s
def execTimeNowRead (slot : Nat) (s : State) : Host.Outcome State Fault Refusal := readFrom slot R.TIME_NOW_NS 0 s
def execTrigEnableWrite (slot trig word : Nat) (s : State) : Host.Outcome State Fault Refusal :=
  writeTo slot R.TIME_TRIG_CFG (trig % 4) word s
def execCapturePop (slot input : Nat) (s : State) : Host.Outcome State Fault Refusal := readFrom slot R.TIME_CAP_NS (input % 4) s
def execChkData8 (slot channel data : Nat) (s : State) : Host.Outcome State Fault Refusal :=
  writeTo slot R.CHK_CH_DATA8 (channel % 64) data s
def execChkData16 (slot channel data : Nat) (s : State) : Host.Outcome State Fault Refusal :=
  writeTo slot R.CHK_CH_DATA16 (channel % 64) data s
def execChkData32 (slot channel data : Nat) (s : State) : Host.Outcome State Fault Refusal :=
  writeTo slot R.CHK_CH_DATA32 (channel % 64) data s
def execChkInit (slot channel : Nat) (s : State) : Host.Outcome State Fault Refusal :=
  writeTo slot R.CHK_CH_CMD (channel % 64) (F.CHK_CH_CMD_OP.at 1) s
def execChkFinish (slot channel : Nat) (s : State) : Host.Outcome State Fault Refusal :=
  writeTo slot R.CHK_CH_CMD (channel % 64) (F.CHK_CH_CMD_OP.at 2) s
def execChkRange (slot channel : Nat) (s : State) : Host.Outcome State Fault Refusal :=
  writeTo slot R.CHK_CH_CMD (channel % 64) (F.CHK_CH_CMD_OP.at 3) s

/-- The word of PERF_CMD. -/
def perfWord (op : Nat) (edge : Bool) : Nat := F.PERF_CMD_OP.at op + F.PERF_CMD_EDGE.at (if edge then 1 else 0)

def execPerfSnap (slot : Nat) (edge : Bool) (s : State) : Host.Outcome State Fault Refusal := writeTo slot R.PERF_CMD 0 (perfWord 1 edge) s
def execPerfStart (slot : Nat) (edge : Bool) (s : State) : Host.Outcome State Fault Refusal := writeTo slot R.PERF_CMD 0 (perfWord 2 edge) s
def execPerfStop (slot : Nat) (edge : Bool) (s : State) : Host.Outcome State Fault Refusal := writeTo slot R.PERF_CMD 0 (perfWord 3 edge) s
def execPerfClear (slot : Nat) (edge : Bool) (s : State) : Host.Outcome State Fault Refusal := writeTo slot R.PERF_CMD 0 (perfWord 4 edge) s
def execPerfSamplePop (slot : Nat) (s : State) : Host.Outcome State Fault Refusal := readFrom slot R.PERF_SAMPLE_POP 0 s
def execBboxArm (slot : Nat) (s : State) : Host.Outcome State Fault Refusal := writeTo slot R.BBOX_CMD 0 (F.BBOX_CMD_ARM.at 1) s
def execBboxMark (slot value : Nat) (s : State) : Host.Outcome State Fault Refusal := writeTo slot R.BBOX_MARK 0 value s
def execTouchRebase (slot key : Nat) (s : State) : Host.Outcome State Fault Refusal :=
  writeTo slot R.TOUCH_CMD 0 (F.TOUCH_CMD_OP.at 1 + F.TOUCH_CMD_KEY.at key) s
def execTouchRebaseAll (slot : Nat) (s : State) : Host.Outcome State Fault Refusal :=
  writeTo slot R.TOUCH_CMD 0 (F.TOUCH_CMD_OP.at 1 + F.TOUCH_CMD_ALL.at 1) s
def execTouchGainWrite (slot key word : Nat) (s : State) : Host.Outcome State Fault Refusal :=
  writeTo slot R.TOUCH_KEY_CFG (key % 32) word s
def execTouchEnWrite (slot : Nat) (ctrl : Bool) (word : Nat) (s : State) : Host.Outcome State Fault Refusal :=
  writeTo slot (if ctrl then R.TOUCH_CTRL else R.TOUCH_KEY_EN) 0 word s
def execEvqPop (slot : Nat) (s : State) : Host.Outcome State Fault Refusal := readFrom slot R.HOST_EVQ_POP0 0 s
def execPairEnWrite (slot word : Nat) (s : State) : Host.Outcome State Fault Refusal := writeTo slot R.PAIR_CTRL 0 word s
def execPairHandover (slot : Nat) (s : State) : Host.Outcome State Fault Refusal := writeTo slot R.PAIR_CMD 0 (F.PAIR_CMD_OP.at 1) s
def execPairResync (slot : Nat) (s : State) : Host.Outcome State Fault Refusal := writeTo slot R.PAIR_CMD 0 (F.PAIR_CMD_OP.at 2) s
def execPwrCmdWatch (slot : Nat) (s : State) : Host.Outcome State Fault Refusal := writeTo slot R.SYS_PWR_CMD 0 1 s
def execPwrCmdStandby (slot : Nat) (s : State) : Host.Outcome State Fault Refusal := writeTo slot R.SYS_PWR_CMD 0 2 s
def execPwrCmdReady (slot : Nat) (s : State) : Host.Outcome State Fault Refusal := writeTo slot R.SYS_PWR_CMD 0 3 s
def execPwrCmdRun (slot : Nat) (s : State) : Host.Outcome State Fault Refusal := writeTo slot R.SYS_PWR_CMD 0 4 s
def execLcToProduction (slot : Nat) (s : State) : Host.Outcome State Fault Refusal := writeTo slot R.HOST_LC_CMD 0 1 s
def execLcToDecommissioned (slot : Nat) (s : State) : Host.Outcome State Fault Refusal := writeTo slot R.HOST_LC_CMD 0 2 s

/-- The word of UPD_CMD. -/
def updWord (op unit : Nat) : Nat := F.UPD_CMD_OP.at op + F.UPD_CMD_UNIT.at unit

def execUpdOpen (slot unit : Nat) (s : State) : Host.Outcome State Fault Refusal := writeTo slot R.UPD_CMD 0 (updWord 1 unit) s
def execUpdClose (slot unit : Nat) (s : State) : Host.Outcome State Fault Refusal := writeTo slot R.UPD_CMD 0 (updWord 2 unit) s
def execUpdVerify (slot unit : Nat) (s : State) : Host.Outcome State Fault Refusal := writeTo slot R.UPD_CMD 0 (updWord 3 unit) s
def execUpdActivate (slot unit : Nat) (s : State) : Host.Outcome State Fault Refusal := writeTo slot R.UPD_CMD 0 (updWord 4 unit) s
def execUpdSwap (slot unit : Nat) (s : State) : Host.Outcome State Fault Refusal := writeTo slot R.UPD_CMD 0 (updWord 5 unit) s
def execUpdConfirm (slot unit : Nat) (s : State) : Host.Outcome State Fault Refusal := writeTo slot R.UPD_CMD 0 (updWord 6 unit) s
def execUpdRevert (slot unit : Nat) (s : State) : Host.Outcome State Fault Refusal := writeTo slot R.UPD_CMD 0 (updWord 7 unit) s

end Sys2Proof.Machine
end

