-- ==== Sys2Proof/Machine/Host.lean ====
section
/-!
DEFINITION. The ways by which hosts reach the device: the data port (R378 to R380), the SPI control port (R369 to
R371), Fuhel (R372 to R377) and the debug access port (R388 to R392).
-/

namespace Sys2Proof.Machine

/-! ## The data port -/

/-- The boot ROM lets the access through to nothing but a push (R351). -/
def Device.inBoot (d : Device) : Bool := decide (d.pwr = .boot) || decide (d.pwr = .halted)

/-- An access that ends in a fault. -/
def Chip.dpFault (slot why target a : Nat) (c : Chip) : Chip × Nat :=
  (c.mapDev (fun (d : Device) => d.fault slot why target a), resFault)

/-- Bursts that hold an uncorrectable error are met by the port. -/
def Chip.portErrs (slot : Nat) (bad : List Nat) (write : Bool) (c : Chip) : Chip :=
  c.mapDev (fun (d : Device) => d.portErrs slot bad write)

/-- The poisoned bursts that a write covers only in part. -/
def Memory.badPartial (m : Memory) (a n : Nat) : List Nat :=
  (bursts a n).filter (fun b => m.poison.contains b && !decide (a ≤ b ∧ b + 32 ≤ a + n))

/-- A data-port write refused by role: counted (R281). -/
def Chip.dpRole (c : Chip) : Chip × Nat := (c.mapDev Device.refuseWrite, resRole)

/-- The unit refuses a write of `n` bytes by role, for want of the halter or of room in the mirror (R281, R291). -/
def Chip.dpGuard (n : Nat) (c : Chip) (f : Chip → Chip × Nat) : Chip × Nat :=
  if c.dev.roleRefuses 20 false then c.dpRole
  else if c.dev.mirrorFull n then (c.mapDev (fun (d : Device) => d.raise F.PAIR_EVENTS_MIRROR_FULL)).dpRole
  else f c

/-- A data-port write of a slot: its result (R378, R379). -/
def Chip.dpWrite (slot target a : Nat) (l : List Byte) (c : Chip) : Chip × Nat :=
  let d := c.dev
  let n := l.length
  let done (p : Chip × Nat) : Chip × Nat :=
    if p.2 = resOk ∨ p.2 = resPoison then (p.1.mapDev (fun (d : Device) => d.mirrorWrite target a l), p.2) else p
  if d.inBoot then c.dpFault slot whyBoot target a
  else match target with
    | 0 => match d.dramRefused slot a n true with
      | some w => c.dpFault slot w.1 0 w.2
      | none => c.dpGuard n (fun c =>
          let bad := c.mem.badPartial a n
          let c := { c with mem := (c.mem.writePort a l).1 }
          done (c.portErrs slot bad true, if bad.isEmpty then resOk else resPoison))
    | 1 => if inBlackBox a n then c.dpFault slot whyPerm 1 a else c.dpFault slot whyRange 1 a
    | 2 =>
      if a + n > d.updSpan then c.dpFault slot whyRange 2 a
      else if !d.mayWrite slot 22 then c.dpFault slot whyPerm 2 a
      else c.dpGuard n (fun c => done (c.winWrite slot a l))
    | _ =>
      if a + n > settingsSpan then c.dpFault slot whyRange 3 a
      else if !d.mayWrite slot 23 then c.dpFault slot whyPerm 3 a
      else c.dpGuard n (fun c => done (c.mapDev (fun (d : Device) => d.setWrite a l), resOk))

/-- A data-port read of a slot: its result and its bytes, zeros where it fails (R378, R379). -/
def Chip.dpRead (slot target a n : Nat) (c : Chip) : Chip × Nat × List Byte :=
  let d := c.dev
  let zeros := List.replicate n (0 : Byte)
  let fail (why : Nat) (x : Nat) : Chip × Nat × List Byte := ((c.dpFault slot why target x).1, resFault, zeros)
  if d.inBoot then fail whyBoot a
  else match target with
    | 0 => match d.dramRefused slot a n false with
      | some w => fail w.1 w.2
      | none =>
        let bad := c.mem.badOf a n
        (c.portErrs slot bad false, if bad.isEmpty then resOk else resPoison, (c.mem.readPort a n).1)
    | 1 =>
      if !inBlackBox a n then fail whyRange a
      else if !d.mayRead slot 21 then fail whyPerm a
      else (c, resOk, (List.range n).map (fun k => d.bbByte (a + k)))
    | 2 =>
      if a + n > d.updSpan then fail whyRange a
      else if !d.mayRead slot 22 then fail whyPerm a
      else (c.mapDev (fun (d : Device) => if d.owner = slot then d.setUpd (fun (u : UpdX) => { u with activeAt := d.now }) else d),
            resOk, c.winRead a n)
    | _ =>
      if a + n > settingsSpan then fail whyRange a
      else if !d.mayRead slot 23 then fail whyPerm a
      else (c, resOk, d.setRead a n)

/-- The pointer of a slot's data port, and its target. -/
def Device.dpPtr (d : Device) (slot : Nat) : Nat := d.getS F.HOST_DP_ADDR_LO_ADDR_LO slot + 2 ^ 32 * d.getS F.HOST_DP_ADDR_HI_ADDR_HI slot
def Device.dpTarget (d : Device) (slot : Nat) : Nat := d.getS F.HOST_DP_CTRL_TARGET slot
def Device.setPtr (d : Device) (slot a : Nat) : Device :=
  (d.putS F.HOST_DP_ADDR_LO_ADDR_LO slot 0 a).putS F.HOST_DP_ADDR_HI_ADDR_HI slot 0 (a / 2 ^ 32)

/-- The access ended with OK or POISON. -/
def moved (r : Nat) : Bool := decide (r = resOk) || decide (r = resPoison)

/-- UPD_WINDOW_WRITE and SETTINGS_WINDOW_WRITE: a data-port write to TARGET 2, and to TARGET 3. -/
def Chip.winCmd (slot target a : Nat) (l : List Byte) (c : Chip) : Chip :=
  if !c.dev.pd1On then c
  else
    let p := c.dpWrite (slot % 8) target a l
    p.1.answer (slot % 8) p.2 []

def execUpdWindowWrite (slot addr : Nat) (data : List Byte) (s : State) : Host.Outcome State Fault Refusal :=
  onChip (Chip.winCmd slot 2 addr data) s
def execSettingsWindowWrite (slot addr : Nat) (data : List Byte) (s : State) : Host.Outcome State Fault Refusal :=
  onChip (Chip.winCmd slot 3 addr data) s

/-! ## The SPI control port (R369 to R371) -/

/-- The slot with the route SPI. -/
def Device.spiSlot (d : Device) : Option Nat := (List.range 8).find? (fun h => decide (d.get F.HOST_PROT_ROUTE_ROUTE h = 1))

def Device.setSpi (d : Device) (f : SpiX → SpiX) : Device := { d with host := { d.host with spi := f d.host.spi } }

/-- A transaction ends with a result. -/
def Device.spiEnd (d : Device) (r : Nat) : Device := d.setSpi (fun (x : SpiX) => { x with last := r })

/-- A step of a host push is in progress (R351, R370). -/
def Device.pushBusy (d : Device) : Bool := decide (d.pwr = .boot) && d.on F.SYS_BOOT_STATUS_PUSH && !d.clkWait.isEmpty

/-- The status byte: result of the transaction before, events, BUSY (R370). -/
def Device.spiStatus (d : Device) : Nat :=
  d.host.spi.last % 8
  + (match d.spiSlot with | some h => if (d.queue h).isEmpty then 0 else 16 | none => 0)
  + (if d.host.spi.fetching.isSome || d.pushBusy then 32 else 0)

/-- A transaction: its status byte is driven first, and then it is carried out for the slot bound to SPI. Before
boot step 8 `boot` says what is allowed; after it, a device without such a slot answers FAULT (R369). -/
def Chip.spi (boot : Chip → Chip) (run : Nat → Chip → Chip) (c : Chip) : Chip :=
  if !c.dev.pd1On then c
  else
    let c := c.mapDev (fun (d : Device) => d.emit (.value d.spiStatus))
    if c.dev.inBoot then boot c
    else match c.dev.spiSlot with
      | some h => run h c
      | none => c.mapDev (fun (d : Device) => d.spiEnd resFault)

/-- A transaction that boot does not allow. -/
def Chip.spiRefused (c : Chip) : Chip := c.mapDev (fun (d : Device) => d.spiEnd resFault)

/-- STATUS: the status byte is the whole reply. -/
def Chip.spiStatusCmd (c : Chip) : Chip := c.spi id (fun _ c => c)

/-- REG_WRITE. -/
def Chip.spiRegWrite (addr value : Nat) (c : Chip) : Chip :=
  c.spi Chip.spiRefused (fun h c =>
    let p := c.hostWrite h addr 32 (value % 2 ^ 32) 0
    p.1.mapDev (fun (d : Device) => d.spiEnd (p.2.getD resOk)))

/-- REG_READ. In boot, registers of SYS and RST. -/
def Chip.spiRegRead (addr : Nat) (c : Chip) : Chip :=
  let rd (h : Nat) (c : Chip) : Chip :=
    let p := c.hostRead h addr 32 0
    (p.1.mapDev (fun (d : Device) => d.spiEnd p.2.1)).answer h p.2.1 (beBytes 4 p.2.2)
  c.spi (fun c => if addr < 0x20000 ∧ addr % 4 = 0 then rd 0 c else c.spiRefused) rd

/-- DP_WRITE; in boot, the next bytes of a host push. -/
def Chip.spiDpWrite (l : List Byte) (c : Chip) : Chip :=
  c.spi (fun c =>
    if l.isEmpty || decide (l.length > 256) then c.mapDev (fun (d : Device) => d.spiEnd resFormat)
    else if c.dev.pwr = .boot ∧ c.dev.on F.SYS_BOOT_STATUS_PUSH then c.bootPush c.dev.boot.push.length l
    else c.spiRefused)
  (fun h c =>
    if l.isEmpty || decide (l.length > 256) then c.mapDev (fun (d : Device) => d.spiEnd resFormat)
    else if c.dev.host.spi.fetching.isSome then c.mapDev (fun (d : Device) => d.spiEnd resBusy)
    else
      let a := c.dev.dpPtr h
      let p := c.dpWrite h (c.dev.dpTarget h) a l
      p.1.mapDev (fun (d : Device) =>
        (if moved p.2 && decide (d.getS F.HOST_DP_CTRL_INC h = 1) then d.setPtr h (a + l.length) else d).spiEnd p.2))

/-- DP_FETCH: the read fills the slot's buffer, and BUSY is set until it has. -/
def Chip.spiDpFetch (n : Nat) (c : Chip) : Chip :=
  c.spi Chip.spiRefused (fun h c =>
    if n = 0 ∨ n > 256 then c.mapDev (fun (d : Device) => d.spiEnd resFormat)
    else if c.dev.host.spi.fetching.isSome then c.mapDev (fun (d : Device) => d.spiEnd resBusy)
    else
      let a := c.dev.dpPtr h
      let p := c.dpRead h (c.dev.dpTarget h) a n
      p.1.mapDev (fun (d : Device) =>
        let d := if moved p.2.1 && decide (d.getS F.HOST_DP_CTRL_INC h = 1) then d.setPtr h (a + n) else d
        d.setSpi (fun (x : SpiX) => { x with last := p.2.1, fetching := some n, buffer := some p.2.2 })))

/-- SPI_DP_FETCH_COMPLETE: the buffer is filled. -/
def Device.spiFetched (d : Device) : Device := d.setSpi (fun (x : SpiX) => { x with fetching := none })

/-- DP_READ: the bytes of the last fetch, once; 0x00 bytes while it is still in progress. -/
def Chip.spiDpRead (c : Chip) : Chip :=
  c.spi Chip.spiRefused (fun h c =>
    match c.dev.host.spi.fetching, c.dev.host.spi.buffer with
    | none, some l => (c.mapDev (fun (d : Device) => d.setSpi (fun (x : SpiX) => { x with last := resOk, buffer := none }))).answer h resOk l
    | f, _ => (c.mapDev (fun (d : Device) => d.spiEnd resBusy)).answer h resBusy (List.replicate (f.getD 0) 0))

/-- A reserved opcode, or a clock count that does not match. -/
def Chip.spiInvalid (c : Chip) : Chip :=
  if !c.dev.pd1On then c
  else c.mapDev (fun (d : Device) => (d.emit (.value d.spiStatus)).spiEnd resFormat)

def execSpiStatus (s : State) : Host.Outcome State Fault Refusal := onChip Chip.spiStatusCmd s
def execSpiRegWrite (addr value : Nat) (s : State) : Host.Outcome State Fault Refusal := onChip (Chip.spiRegWrite addr value) s
def execSpiRegRead (addr : Nat) (s : State) : Host.Outcome State Fault Refusal := onChip (Chip.spiRegRead addr) s
def execSpiDpWrite (data : List Byte) (s : State) : Host.Outcome State Fault Refusal := onChip (Chip.spiDpWrite data) s
def execSpiDpFetch (len : Nat) (s : State) : Host.Outcome State Fault Refusal := onChip (Chip.spiDpFetch len) s
def execSpiDpFetchComplete (s : State) : Host.Outcome State Fault Refusal := onDev Device.spiFetched s
def execSpiDpRead (s : State) : Host.Outcome State Fault Refusal := onChip Chip.spiDpRead s
def execSpiInvalidTransaction (s : State) : Host.Outcome State Fault Refusal := onChip Chip.spiInvalid s

/-! ## Fuhel (R368, R372 to R377) -/

/-- The frame arrives on the route and from the peer of slot `h` (R368). -/
def Device.slotBound (d : Device) (h : Nat) (rx : RxHdr) : Bool :=
  let peer := d.get F.HOST_PROT_PEER_VALUE h
  decide (h < 8) && (decide (peer = 0) || decide (peer = rx.src)) &&
  (match d.get F.HOST_PROT_ROUTE_ROUTE h with
   | 2 => decide (rx.port = 32)
   | 3 => decide (rx.port = d.get F.HOST_PROT_ROUTE_PORT h)
   | _ => false)

def Device.sess (d : Device) (h : Nat) : Option FuhelSess := Tab.find d.host.sess h
def Device.setSess (d : Device) (h : Nat) (x : FuhelSess) : Device := { d with host := { d.host with sess := Tab.set d.host.sess h x } }

/-- The bytes of a Fuhel message (R2, R373). -/
def fuhelBytes (op session seq slot status : Nat) (body : List Byte) : List Byte :=
  beBytes 2 0x4648 ++ beBytes 1 1 ++ beBytes 1 op ++ beBytes 4 session ++ beBytes 4 seq ++ beBytes 1 slot ++ beBytes 1 status ++
    beBytes 2 body.length ++ body

/-- A Fuhel message leaves a port from its unit address, with the port's VLAN tag (R208, R210, R372). -/
def Device.fuhelSend (d : Device) (port ip udp op session seq slot status : Nat) (body : List Byte) : Device :=
  let b := fuhelBytes op session seq slot status body
  let d := if port < 28 then d.countTx port (frameLen (d.txTag port).isSome b.length) else d
  d.emit (.fuhel port (d.txTag port) (d.unitAddr port) ip udp op session seq slot status body b)

/-- A response is sent: OP with bit 7 set, STATUS and body (R373). -/
def Device.reply (d : Device) (q : FuhelHdr) (op session status : Nat) (body : List Byte) : Device :=
  d.fuhelSend q.rx.port q.rx.src q.rx.sport (op + 128) session q.seq q.slot status body

/-- A message that a frame brings is for a bound slot; one that matches none is counted (R368). -/
def Chip.fuhelIn (q : FuhelHdr) (f : Chip → Chip) (c : Chip) : Chip :=
  if !c.dev.pd1On then c
  else
    let d := c.dev.countRx q.rx
    let k := d.classify q.rx
    if k ≠ .fuhel then { c with dev := d.dropFrame k }
    else if !d.slotBound q.slot q.rx then { c with dev := d.bump F.HOST_CNT_UNBOUND_COUNT 0 1 }
    else f { c with dev := d }

/-- A session closes. -/
def Device.sessClose (d : Device) (h : Nat) : Device :=
  (({ d with host := { d.host with sess := Tab.del d.host.sess h } } : Device).putS F.HOST_SLOT_STATUS_SESSION h 0 0).raise
    F.HOST_EVENTS_SESSION_CLOSED h

/-- OPEN (R374). -/
def Device.fuhelOpen (q : FuhelHdr) (d : Device) : Device :=
  let other := match d.sess q.slot with
    | some x => decide (x.ip ≠ q.rx.src)
    | none => false
  if other then d.reply q 0x01 0 resSession []
  else
    let n := if (d.host.sessNum + 1) % 2 ^ 32 = 0 then 1 else (d.host.sessNum + 1) % 2 ^ 32
    let d : Device := { d with host := { d.host with sessNum := n } }
    let d := d.setSess q.slot ⟨n, q.rx.port, q.rx.src, q.rx.sport, 0, none, d.now, none⟩
    ((d.putS F.HOST_SLOT_STATUS_SESSION q.slot 0 1).raise F.HOST_EVENTS_SESSION_OPEN q.slot).reply q 0x01 n resOk []

/-- A request within a session: executed once, answered from memory when it comes again, discarded out of order
(R375). `run` gives what it does, with STATUS and the body of the response. -/
def Chip.fuhelReq (q : FuhelHdr) (op : Nat) (run : Chip → Chip × Nat × List Byte) (c : Chip) : Chip :=
  let h := q.slot
  match c.dev.sess h with
  | none => c.mapDev (fun (d : Device) => d.reply q op q.session resSession [])
  | some x =>
    if x.num ≠ q.session ∨ x.ip ≠ q.rx.src then c.mapDev (fun (d : Device) => d.reply q op q.session resSession [])
    else
      let c := c.mapDev (fun (d : Device) => d.setSess h { x with port := q.rx.port, udp := q.rx.sport, lastNs := d.now })
      if q.seq = (x.seq + 1) % 2 ^ 32 then
        let p := run c
        p.1.mapDev (fun (d : Device) =>
          let y := (d.sess h).getD x
          (d.setSess h { y with seq := q.seq, kept := some (op, p.2.1, p.2.2) }).reply q op q.session p.2.1 p.2.2)
      else match x.kept with
        | some k =>
          if q.seq = x.seq then c.mapDev (fun (d : Device) => d.reply q k.1 q.session k.2.1 k.2.2)
          else c.mapDev (fun (d : Device) => d.bump F.HOST_CNT_SEQ_DROP_COUNT 0 1)
        | none => c.mapDev (fun (d : Device) => d.bump F.HOST_CNT_SEQ_DROP_COUNT 0 1)

/-- CLOSE. -/
def Chip.fuhelClose (q : FuhelHdr) (c : Chip) : Chip :=
  let was := (c.dev.sess q.slot).map (fun (x : FuhelSess) => x.seq)
  let c := c.fuhelReq q 0x02 (fun c => (c, resOk, []))
  match was, c.dev.sess q.slot with
  | some n, some x => if x.num = q.session ∧ x.seq ≠ n then c.mapDev (fun (d : Device) => d.sessClose q.slot) else c
  | _, _ => c

/-- A message of register accesses may start: at least 20 µs remain before the next tick edge (R376). -/
def Device.mayStart (d : Device) : Bool := !d.tick.inTick || decide (d.devNs + 20000 ≤ d.edgeNs (d.tick.num + 1))

/-- Accesses in order, up to the first that is not OK: how many were carried out, their values, the result. -/
def runReads (h : Nat) : List Nat → Chip → Chip × Nat × List Nat × Nat
  | [], c => (c, 0, [], resOk)
  | a :: r, c =>
    let p := c.hostRead h a 32 0
    if p.2.1 = resOk then
      let q := runReads h r p.1
      (q.1, q.2.1 + 1, p.2.2 :: q.2.2.1, q.2.2.2)
    else (p.1, 0, [], p.2.1)

def runWrites (h : Nat) : List (Nat × Nat) → Chip → Chip × Nat × Nat
  | [], c => (c, 0, resOk)
  | a :: r, c =>
    let p := c.hostWrite h a.1 32 (a.2 % 2 ^ 32) 0
    let res := p.2.getD resOk
    if res = resOk then
      let q := runWrites h r p.1
      (q.1, q.2.1 + 1, q.2.2)
    else (p.1, 0, res)

/-- REG_READ (R376). -/
def Chip.fuhelReads (q : FuhelHdr) (addrs : List Nat) (c : Chip) : Chip :=
  c.fuhelReq q 0x10 (fun c =>
    if addrs.isEmpty || decide (addrs.length > 256) then (c, resFormat, beBytes 2 0)
    else
      let p := runReads q.slot addrs c
      (p.1, p.2.2.2, beBytes 2 p.2.1 ++ (p.2.2.1.flatMap (beBytes 4))))

/-- REG_WRITE (R376). -/
def Chip.fuhelWrites (q : FuhelHdr) (writes : List (Nat × Nat)) (c : Chip) : Chip :=
  c.fuhelReq q 0x11 (fun c =>
    if writes.isEmpty || decide (writes.length > 256) then (c, resFormat, beBytes 2 0)
    else
      let p := runWrites q.slot writes c
      (p.1, p.2.2, beBytes 2 p.2.1))

/-- A register message is started. -/
def Chip.fuhelStart (m : Instr) (c : Chip) : Chip :=
  match m with
  | .fuhelRegRead q addrs => c.fuhelReads q addrs
  | .fuhelRegWrite q writes => c.fuhelWrites q writes
  | _ => c

/-- A register message waits for the edge: less than 20 µs remain (R376), or it writes registers whose writes the holder completes at
that edge (R292, log entry 163). -/
def Device.fuhelWaits (d : Device) (m : Instr) : Bool :=
  !d.mayStart || (d.defers && (match m with
    | .fuhelRegWrite _ writes => writes.any (fun w => carried w.1)
    | _ => false))

/-- A register message starts at once, or waits for the edge. -/
def Chip.fuhelTimed (m : Instr) (c : Chip) : Chip :=
  if !c.dev.fuhelWaits m then c.fuhelStart m
  else c.mapDev (fun (d : Device) => { d with host := { d.host with late := d.host.late ++ [m] } })

/-- The messages that waited start in their order. -/
def Chip.fuhelLate (c : Chip) : Chip :=
  if c.dev.mayStart then
    forL c.dev.host.late Chip.fuhelStart (c.mapDev (fun (d : Device) => { d with host := { d.host with late := [] } }))
  else c

/-- DP_WRITE: the message carries TARGET and ADDR, and leaves the pointer behind its bytes (R378). -/
def Chip.fuhelDpWrite (q : FuhelHdr) (target addr : Nat) (l : List Byte) (c : Chip) : Chip :=
  c.fuhelReq q 0x20 (fun c =>
    let a := addr % 2 ^ 40
    if target > 3 || l.isEmpty || decide (l.length > 4096) then (c, resFormat, [])
    else
      let p := c.dpWrite q.slot target a l
      (if moved p.2 then p.1.mapDev (fun (d : Device) => d.setPtr q.slot (a + l.length)) else p.1, p.2, []))

/-- DP_READ. -/
def Chip.fuhelDpRead (q : FuhelHdr) (target addr n : Nat) (c : Chip) : Chip :=
  c.fuhelReq q 0x21 (fun c =>
    let a := addr % 2 ^ 40
    if target > 3 ∨ n = 0 ∨ n > 4096 then (c, resFormat, [])
    else
      let p := c.dpRead q.slot target a n
      (if moved p.2.1 then p.1.mapDev (fun (d : Device) => d.setPtr q.slot (a + n)) else p.1, p.2.1, p.2.2))

/-- EVQ_ACK: entries leave the queue, which ends the repeats of the EVENT in hand (R377). -/
def Device.evqAck (d : Device) (h n : Nat) : Device :=
  let d := { d with evq := Tab.set d.evq h ((d.queue h).drop n) }
  match d.sess h with
  | some x => if n = 0 then d else d.setSess h { x with eventNs := none }
  | none => d

/-- The bytes of a queue entry (R381, R2). -/
def EvEntry.bytes (e : EvEntry) : List Byte :=
  beBytes 4 (e.block * 2 ^ 27 + e.bit * 2 ^ 22 + e.arg % 2 ^ 16) ++ beBytes 4 (e.tick % 2 ^ 32) ++ beBytes 4 (e.tick / 2 ^ 32) ++ beBytes 4 e.ns

/-- EVENT with up to 32 of the oldest entries (R377). -/
def Device.eventOut (d : Device) (h : Nat) (x : FuhelSess) : Device :=
  let l := (d.queue h).take 32
  (d.setSess h { x with eventNs := some d.now }).fuhelSend x.port x.ip x.udp 0x30 x.num 0 h 0
    (beBytes 2 l.length ++ l.flatMap EvEntry.bytes)

/-- FUHEL_EVENT_SEND. -/
def Device.eventSend (slot : Nat) (d : Device) : Device :=
  match d.sess slot with
  | some x => if (d.queue slot).isEmpty || x.eventNs.isSome then d else d.eventOut slot x
  | none => d

/-- FUHEL_EVENT_REPEAT: 100 ms after the one before. -/
def Device.eventRepeat (slot : Nat) (d : Device) : Device :=
  match d.sess slot with
  | some x => match x.eventNs with
    | some t => if (d.queue slot).isEmpty then d else (d.waitNow (t + 100000000)).eventOut slot x
    | none => d
  | none => d

/-- FUHEL_SESSION_TIMEOUT: TIMEOUT_S seconds without a message (R374). -/
def Device.sessTimeout (slot : Nat) (d : Device) : Device :=
  match d.sess slot with
  | some x => (d.waitNow (x.lastNs + d.get F.HOST_FUHEL_CFG_TIMEOUT_S * 1000000000)).sessClose slot
  | none => d

def execFuhelOpen (hdr : FuhelHdr) (s : State) : Host.Outcome State Fault Refusal :=
  onChip (Chip.fuhelIn hdr (fun c => c.mapDev (Device.fuhelOpen hdr))) s
def execFuhelClose (hdr : FuhelHdr) (s : State) : Host.Outcome State Fault Refusal :=
  onChip (Chip.fuhelIn hdr (fun c => c.fuhelClose hdr)) s
def execFuhelRegRead (hdr : FuhelHdr) (addrs : List Nat) (s : State) : Host.Outcome State Fault Refusal :=
  onChip (Chip.fuhelIn hdr (Chip.fuhelTimed (.fuhelRegRead hdr addrs))) s
def execFuhelRegWrite (hdr : FuhelHdr) (writes : List (Nat × Nat)) (s : State) : Host.Outcome State Fault Refusal :=
  onChip (Chip.fuhelIn hdr (Chip.fuhelTimed (.fuhelRegWrite hdr writes))) s
def execFuhelDpWrite (hdr : FuhelHdr) (target addr : Nat) (data : List Byte) (s : State) : Host.Outcome State Fault Refusal :=
  onChip (Chip.fuhelIn hdr (fun c => c.fuhelDpWrite hdr target addr data)) s
def execFuhelDpRead (hdr : FuhelHdr) (target addr len : Nat) (s : State) : Host.Outcome State Fault Refusal :=
  onChip (Chip.fuhelIn hdr (fun c => c.fuhelDpRead hdr target addr len)) s
def execFuhelEvqAck (hdr : FuhelHdr) (count : Nat) (s : State) : Host.Outcome State Fault Refusal :=
  onChip (Chip.fuhelIn hdr (fun c => c.fuhelReq hdr 0x31 (fun c => (c.mapDev (fun (d : Device) => d.evqAck hdr.slot count), resOk, [])))) s
def execFuhelKeepalive (hdr : FuhelHdr) (s : State) : Host.Outcome State Fault Refusal :=
  onChip (Chip.fuhelIn hdr (fun c => c.fuhelReq hdr 0x3F (fun c => (c, resOk, [])))) s
def execFuhelReservedOp (hdr : FuhelHdr) (op : Nat) (s : State) : Host.Outcome State Fault Refusal :=
  onChip (Chip.fuhelIn hdr (fun c => c.fuhelReq hdr (op % 128) (fun c => (c, resFormat, [])))) s
def execFuhelEventSend (slot : Nat) (s : State) : Host.Outcome State Fault Refusal := onDev (Device.eventSend slot) s
def execFuhelEventRepeat (slot : Nat) (s : State) : Host.Outcome State Fault Refusal := onDev (Device.eventRepeat slot) s
def execFuhelSessionTimeout (slot : Nat) (s : State) : Host.Outcome State Fault Refusal := onDev (Device.sessTimeout slot) s

/-! ## Debug (R388 to R392) -/

/-- Debug is open without unlock (R388). -/
def Device.dbgOpen (d : Device) : Bool := decide (d.get F.HOST_LC_STATUS_STATE ≠ 1)

/-- The challenge drawn at the reset, most significant byte first. -/
def Device.challenge (d : Device) : List Byte := beBytes 32 (Config.random d.host.challenge).toNat

/-- DEBUG_UNLOCK_RESPONSE (R389): a public key whose hash is in OTP, and its signature over the challenge followed
by the slot. -/
def Chip.unlockTry (key sig : List Byte) (slot : Nat) (c : Chip) : Chip :=
  let d := c.dev
  if !d.pd1On || d.dbgOpen || d.on F.HOST_LC_STATUS_DBG_UNLOCKED || decide (d.now < d.host.debugWait) then c
  else if Config.sha384 key = c.mem.otp.debug ∧
      Config.ecdsaOk key sig (Config.sha384 (d.challenge ++ [BitVec.ofNat 8 slot])) = true ∧ slot < 8 then
    { c with dev := ((d.put F.HOST_LC_STATUS_DBG_UNLOCKED 0 1).put F.HOST_LC_STATUS_DBG_SLOT 0 slot).raise F.HOST_EVENTS_DBG_UNLOCK }
  else
    let d := d.record 0x0050 13 0 0
    { c with dev := { d with host := { d.host with debugWait := d.now + 1000000000 } } }

def execDebugUnlockResponse (key signature : List Byte) (slot : Nat) (s : State) : Host.Outcome State Fault Refusal :=
  onChip (Chip.unlockTry key signature slot) s

/-- A debug access that touches something LOCKED (R391). -/
def Device.dbgLocked (d : Device) (op : DebugOp) (h : Nat) : Option Nat :=
  let reg (a : Nat) : Option Nat := if a < 0x140000 && (d.perLocked (a / 65536) h || inProt a) then some a else none
  let port (target a n : Nat) : Option Nat :=
    if target = 0 then (pieces a n).find? (fun p => d.perLocked 20 h || d.rgnLocked p h)
    else if d.perLocked (20 + target) h then some a else none
  match op with
  | .setSlot _ => none
  | .regRead a => reg a
  | .regWrite a _ => reg a
  | .dpRead t a n => port (t % 4) a n
  | .dpWrite t a l => port (t % 4) a l.length

/-- DEBUG_ACCESS (R389 to R392): with the permissions of the bound slot, or DENIED. -/
def Chip.debug (op : DebugOp) (c : Chip) : Chip :=
  let d := c.dev
  let h := d.get F.HOST_LC_STATUS_DBG_SLOT
  if !d.pd1On then c
  else if !d.dbgOpen && !d.on F.HOST_LC_STATUS_DBG_UNLOCKED then c.answer h resDenied []
  else match d.dbgLocked op h with
    | some a =>
      let n := match op with | .regRead _ => 4 | .dpRead _ _ n => n | _ => 0
      (c.mapDev (fun (d : Device) => d.record 0x0051 13 h a)).answer h resDenied (List.replicate n 0)
    | none => match op with
      | .setSlot k => if d.dbgOpen then c.mapDev (fun (d : Device) => d.put F.HOST_LC_STATUS_DBG_SLOT 0 (k % 8)) else c
      | .regRead a =>
        let p := c.hostRead h a 32 0
        p.1.answer h p.2.1 (beBytes 4 p.2.2)
      | .regWrite a v =>
        let p := c.hostWrite h a 32 (v % 2 ^ 32) 0
        p.1.answer h (p.2.getD resOk) []
      | .dpRead t a n =>
        let p := c.dpRead h (t % 4) (a % 2 ^ 40) n
        p.1.answer h p.2.1 p.2.2
      | .dpWrite t a l =>
        let p := c.dpWrite h (t % 4) (a % 2 ^ 40) l
        p.1.answer h p.2 []

def execDebugAccess (op : DebugOp) (s : State) : Host.Outcome State Fault Refusal := onChip (Chip.debug op) s

end Sys2Proof.Machine
end

