-- ==== Sys2Proof/Machine/PairSync.lean ====
section
/-!
DEFINITION. What the units of a pair send each other and make of it: the state burst and its application (R289 to
R295), resync (R303), health (R300 to R302), the comparison of digests and the decision (R296 to R299), lease
messages and handover (R308 to R310), and what the pair does at a tick edge (R304 to R307).
-/

namespace Sys2Proof.Machine

/-! ## The control state (R289) -/

/-- The Freshness section. -/
def Device.ctlFresh (d : Device) : List CtlItem :=
  (List.range 256).map (fun s => .fresh s (d.get F.FRS_SRC_STATE_STATE s) (d.src s).recov (d.src s).chg
    (d.tick.ackAll || decide (s ∈ d.tick.acks)))

/-- The Transmit section: the numbers in force at E(t+1), the packets and the stamp that this tick has still to send
counted in; for a feed, those that the pacing of R224 still lets out (log entry 92). -/
def Device.ctlTx (d : Device) : List CtlItem :=
  (List.range 64).map (fun e =>
    let x := d.outp e
    let more := if e < 32 ∧ x.sending.isSome ∧ !x.failed ∧ !x.paths.isEmpty then x.npk - x.sentPk else 0
    let stamp := if e < 32 ∧ d.present e ∧ !x.stampDone then 1 else 0
    let feed := if 32 ≤ e ∧ d.encOpened (e - 32) then d.feedsAhead (e - 32) else (0, 0)
    .tx e ((d.txExt e + more + feed.1) % 2 ^ 32) ((x.seq + stamp + feed.2) % 2 ^ 32))

/-- The Encode section. -/
def Device.ctlEnc (d : Device) : List CtlItem :=
  ((List.range 32).filter d.encOpened).map (fun n =>
    let x := d.enc n
    .enc n x.v x.p x.q x.hist x.restart)

/-- The Hosts section. -/
def Device.ctlHosts (d : Device) : List CtlItem :=
  (List.range 8).flatMap (fun h =>
    [.evq h (d.queue h), .fuhel h (Tab.find d.host.sess h), .dp h (d.dpTarget h) (d.dpPtr h),
     .pin h (decide (d.getS F.CMP_BERTH_PIN_PINNED h ≠ 0)) (d.getS F.CMP_BERTH_PIN_BERTH h)]) ++
  d.latch.map (fun p => .latch p.1.1 p.1.2.1 p.1.2.2 p.2) ++ d.held.map (fun p => .held p.1.1 p.1.2.1 p.1.2.2 p.2)

/-- The Touch section. -/
def Device.ctlTouch (d : Device) : List CtlItem := (List.range 32).map (fun k => .touch k (d.touchKey k)) ++ [.actions d.touch.toDo]

/-- The tick record. -/
def Device.ctlTick (d : Device) : CtlItem :=
  .tick d.tick.num (d.get F.PAIR_EPOCH_EPOCH) (d.layout.map (fun l => l.index))
    (d.layoutReq.map (fun r => (r.index, r.prepared))) d.pair.mirror.issued

/-- The control state by sections, a STATE frame for each. -/
def Device.ctlState (d : Device) : List (List CtlItem) :=
  [[d.ctlTick], d.pair.log, d.ctlFresh, d.ctlTx, d.ctlEnc, [.time d.inUse d.time.relock d.time.due], d.ctlHosts, d.ctlTouch,
   [.owner d.owner]]

/-! ## The burst (R289 to R291, R303) -/

/-- The frames of a burst beyond the 512 KiB of the control state, each of 16 KiB (R290). -/
def Device.burstRoom (d : Device) : Nat :=
  (if d.get F.TICK_CTRL_RATE = 0xB ∨ d.get F.TICK_CTRL_RATE = 0xC then 219 else 256) - 32

/-- The queued writes cut into frames of at most 16 KiB in sequence order. -/
def mirrorFrames : List MirrorEntry → List (List MirrorEntry) → List (List MirrorEntry)
  | [], acc => acc.reverse
  | e :: l, [] => mirrorFrames l [[e]]
  | e :: l, f :: acc =>
    if (f.map (fun (x : MirrorEntry) => x.data.length)).sum + e.data.length ≤ 16384 then mirrorFrames l ((f ++ [e]) :: acc)
    else mirrorFrames l ([e] :: f :: acc)

/-- A list cut into pieces of four. -/
def fours {α : Type} : List α → List (List α)
  | a :: b :: c :: e :: l => [a, b, c, e] :: fours l
  | [] => []
  | l => [l]

/-- Send frames on T0 and T1 in turn, numbered on from `i`. -/
def Device.sendBurst (d : Device) (i : Nat) (l : List TetherBody) : Device :=
  (l.foldl (fun (a : Device × Nat) b => (a.1.sendFrame (a.2 % 2) a.2 b, a.2 + 1)) (d, i)).1

/-- The SYNC frames of this burst, and the pages left for the next ones: four pages a frame, and with the last page
the position at which the copy ends. -/
def Device.syncFrames (d : Device) (m : Memory) (room : Nat) : List TetherBody × Device :=
  match d.pair.mirror.copy with
  | none => ([], d)
  | some (left, stop, total) =>
    let now := left.take (4 * room)
    let rest := left.drop (4 * room)
    let stopAt := if rest.isEmpty then some stop else none
    let frames := if now.isEmpty then [.sync [] total stopAt]
      else (fours now).map (fun g => TetherBody.sync (g.map (fun p => (p, m.dram.readList (p * 4096) 4096))) total stopAt)
    (frames, d.setMirror (fun (x : Mirror) => { x with copy := some (rest, stop, total) }))

/-- STATE_BURST_START, at 0.88 T: control state, then mirrored writes, or the pages of a resync. -/
def Device.stateBurst (m : Memory) (d : Device) : Device :=
  if !d.inRun || !d.holds || !d.inTick then d
  else
    let d := d.waitPoint 88
    let secs := d.ctlState
    let d := d.setPair (fun (p : PairX) => { p with
      log := []
      cmp := { p.cmp with excluded := if p.log.any (fun i => match i with
          | .write _ a _ _ => excludes a
          | _ => false) then d.tick.num :: p.cmp.excluded else p.cmp.excluded } })
    if !d.tetherIsUp then d
    else
      let d := d.sendBurst 0 (secs.map TetherBody.state)
      let d := d.sendFrame (secs.length % 2) secs.length (.stateEnd secs.length)
      let i := secs.length + 1
      let mir := (mirrorFrames d.pair.mirror.queue []).take d.burstRoom
      let d := d.sendBurst i (mir.map TetherBody.mirror)
      let d := d.setMirror (fun (x : Mirror) => { x with
        sent := match mir.getLast? with
          | some f => (f.getLast?.map (fun (e : MirrorEntry) => e.seq)).getD x.sent
          | none => x.sent })
      let q := d.syncFrames m (d.burstRoom - mir.length)
      q.2.sendBurst (i + mir.length) q.1

def execStateBurstStart (s : State) : Host.Outcome State Fault Refusal := onDevM Device.stateBurst s

/-! ## Receiving the burst (R291, R293, R294, R303) -/

/-- The unit takes bursts: a STANDBY, or a FAULTED unit. -/
def Device.follows (d : Device) : Bool := decide (d.role = 3) || decide (d.role = 4)

/-- A frame that is judged, and acted on when it is taken. -/
def Device.frameThen (d : Device) (ty : Nat) (h : TetherHdr) (f : Device → Device) : Device :=
  let p := d.frameIn ty h
  if p.2 then f p.1 else p.1

/-- The items hold a write that makes the tick not comparable (R293). -/
def excluding (l : List CtlItem) : Bool := l.any (fun i => match i with
  | .write _ a _ _ => excludes a
  | _ => false)

/-- TETHER_STATE_RECEIVE. -/
def Device.stateIn (hdr : TetherHdr) (items : List CtlItem) (d : Device) : Device :=
  d.frameThen 0x01 hdr (fun d =>
    if d.follows then d.setPair (fun (p : PairX) => { p with
      burst := p.burst ++ [(hdr.index, items)]
      cmp := { p.cmp with excluded := if excluding items then d.tick.num :: p.cmp.excluded else p.cmp.excluded } })
    else d)

/-- TETHER_STATE_END_RECEIVE: the burst is received when every STATE frame is in and its CRC is correct (R294). -/
def Device.stateEndIn (hdr : TetherHdr) (frames : Nat) (burstOk : Bool) (d : Device) : Device :=
  d.frameThen 0x03 hdr (fun d =>
    let b := d.pair.burst
    if d.follows && burstOk && (List.range frames).all (fun i => b.any (fun q => decide (q.1 = i))) then
      let items := (List.range frames).flatMap (fun i => (b.find? (fun q => decide (q.1 = i))).elim [] Prod.snd)
      d.setPair (fun (p : PairX) => { p with ready := some (d.tick.num, items) })
    else d)

/-- A mirrored write is carried out on the unit's own memory, update window or settings copy (R291, R408). -/
def Chip.mirrorDo (e : MirrorEntry) (c : Chip) : Chip :=
  match e.target with
  | 0 => { mem := (c.mem.writePort e.addr e.data).1, dev := c.dev.pageNote 0 e.addr e.data.length }
  | 2 => c.winStore e.addr e.data
  | _ => c.mapDev (fun (d : Device) => d.setWrite e.addr e.data)

/-- The position reached may clear INCONSISTENT (R293). -/
def Device.mirrorReached (d : Device) : Device :=
  match d.pair.mirror.need, d.pair.mirror.recv with
  | some n, some r =>
    if n ≤ r then (d.setMirror (fun (m : Mirror) => { m with need := none })).put F.PAIR_STATUS_INCONSISTENT 0 0 else d
  | _, _ => d

/-- TETHER_MIRROR_RECEIVE: the writes that follow in sequence are carried out; others are left for a resend. -/
def Chip.mirrorIn (hdr : TetherHdr) (l : List MirrorEntry) (c : Chip) : Chip :=
  let p := c.dev.frameIn 0x02 hdr
  let c : Chip := { c with dev := p.1 }
  if !p.2 || !p.1.follows then c
  else
    let c := forL l (fun (e : MirrorEntry) (c : Chip) =>
      match c.dev.pair.mirror.recv with
      | some r =>
        if e.seq = r + 1 then (c.mirrorDo e).mapDev (fun (d : Device) => d.setMirror (fun (m : Mirror) => { m with recv := some e.seq }))
        else c
      | none => c) c
    c.mapDev Device.mirrorReached

/-- A standby enters SYNCING and drops its mirror position (R303, step 1). -/
def Device.beginSync (d : Device) : Device :=
  let d := d.setPair (fun (p : PairX) => { p with
    inStep := false, missed := 0, mirror := { p.mirror with recv := none, whole := false, need := none, copy := none } })
  ((d.setSync 1).put F.PAIR_STATUS_INCONSISTENT 0 0).put F.PAIR_SYNC_PROGRESS_PAGES 0 0

/-- TETHER_SYNC_RECEIVE: pages of a resync are written, and the copy is whole once every page is in (R303). Pages that come to a
standby in SHADOW are those of a resync that its holder has started (R329, log entry 162). -/
def Chip.syncIn (hdr : TetherHdr) (pages : List (Nat × List Byte)) (total : Nat) (endSeq : Option Nat) (c : Chip) : Chip :=
  let p := c.dev.frameIn 0x04 hdr
  let d := if p.2 && decide (p.1.role = 3) && decide (p.1.syncSt = 2) && !pages.isEmpty then p.1.beginSync else p.1
  let c : Chip := { c with dev := d }
  if !p.2 || decide (d.role ≠ 3) || decide (d.syncSt ≠ 1) then c
  else
    let m := forL pages (fun (q : Nat × List Byte) (m : Memory) => (m.writePort (q.1 * 4096) (q.2.take 4096)).1) c.mem
    let old : List Nat := match c.dev.pair.mirror.copy with
      | some x => x.1
      | none => []
    let got := (old ++ pages.map Prod.fst).dedup
    let d := forL pages (fun (q : Nat × List Byte) (d : Device) => d.pageNote 0 (q.1 * 4096) 4096) c.dev
    let d := d.put F.PAIR_SYNC_PROGRESS_PAGES 0 (total - got.length)
    { mem := m
      dev := d.setMirror (fun (x : Mirror) => { x with
        copy := some (got, 0, 0)
        recv := match x.recv, endSeq with
          | none, some e => some e
          | r, _ => r
        whole := x.whole || (endSeq.isSome && decide (total ≤ got.length)) }) }

def execTetherStateReceive (hdr : TetherHdr) (items : List CtlItem) (s : State) : Host.Outcome State Fault Refusal :=
  onDev (Device.stateIn hdr items) s
def execTetherStateEndReceive (hdr : TetherHdr) (frames : Nat) (burstOk : Bool) (s : State) : Host.Outcome State Fault Refusal :=
  onDev (Device.stateEndIn hdr frames burstOk) s
def execTetherMirrorReceive (hdr : TetherHdr) (writes : List MirrorEntry) (s : State) : Host.Outcome State Fault Refusal :=
  onChip (Chip.mirrorIn hdr writes) s
def execTetherSyncReceive (hdr : TetherHdr) (pages : List (Nat × List Byte)) (total : Nat) (endSeq : Option Nat) (s : State) :
    Host.Outcome State Fault Refusal :=
  onChip (Chip.syncIn hdr pages total endSeq) s

/-! ## Resync (R303) -/

/-- A standby starts a resync, which it asks its holder for. -/
def Device.startResync (d : Device) : Device := d.beginSync.setPair (fun (p : PairX) => { p with resyncs := p.resyncs + 1 })

/-- The unit is in SHADOW as a standby: its own update lock is given up, and the owner is the partner's (R398). -/
def Device.ownerShadow (d : Device) : Device :=
  (if d.owner ≤ 7 then d.unlock true else d).put F.UPD_STATUS_OWNER 0 8

/-- RESYNC_COMPLETE: at the edge that applied the control state, the standby enters SHADOW. -/
def Device.resyncDone (d : Device) : Device :=
  if d.role = 3 ∧ d.syncSt = 1 ∧ d.pair.inStep then
    let d := ((d.setSync 2).ownerShadow.raise F.PAIR_EVENTS_SYNCED).put F.PAIR_SYNC_PROGRESS_PAGES 0 0
    d.setPair (fun (p : PairX) => { p with
      inStep := false, missed := 0, mirror := { p.mirror with copy := none, pages := [] }
      cmp := { p.cmp with shadowTick := some d.tick.num } })
  else d

def execResyncComplete (s : State) : Host.Outcome State Fault Refusal := onDev Device.resyncDone s

/-- PAIR_STATE_STALE: three ticks on end without a burst (R294). -/
def execPairStateStale (s : State) : Host.Outcome State Fault Refusal :=
  onDev (fun d => if 3 ≤ d.pair.missed then d.stateStale else d) s

/-! ## Applying the control state (R293) -/

/-- A register write of the holder on the standby. Of the update commands those of UNIT PARTNER and BOTH are carried
out (R408). -/
def Chip.writeCopied (slot addr value : Nat) (c : Chip) : Chip :=
  if !carried addr then c
  else if addr = R.UPD_CMD.base then
    (if F.UPD_CMD_UNIT.of value = 0 then c else c.mapDev (fun (d : Device) => d.updAct (F.UPD_CMD_OP.of value)))
  else c.regWrite slot addr value 0

/-- The pin of a slot follows the holder's: released with it, taken where the same berth is sealed here. -/
def Device.pinCopied (d : Device) (h : Nat) (pinned : Bool) (n : Nat) : Device :=
  let mine := decide (d.getS F.CMP_BERTH_PIN_PINNED h ≠ 0)
  if d.pinWait.any (fun p => decide (p.1 = h)) || decide (mine = pinned) then d
  else if !pinned then d.unpin h
  else if (d.berth n).st = .sealed ∧ !(d.berth n).corrupt then
    ((d.hold n (.pin h)).putS F.CMP_BERTH_PIN_PINNED h 0 1).putS F.CMP_BERTH_PIN_BERTH h 0 n
  else d

/-- The holder's choice of servo (R269): kept out, and shown, where the standby's servo is not locked. A re-lock whose step the
burst carries is over. -/
def Device.timeCopied (d : Device) (v : Nat) (relock : Option Nat) (due : Option (Nat × Nat)) : Device :=
  let relock := if due.any (fun q => decide (q.2 ≤ d.tick.last)) then none else relock
  let d := if d.srvLocked v then (d.useServo v).put F.TIME_STATUS_PAIR_MISMATCH 0 0 else d.put F.TIME_STATUS_PAIR_MISMATCH 0 1
  ({ d with time := { d.time with relock := relock } } : Device).flag F.TIME_STATUS_RELOCK_PENDING 0 relock.isSome

/-- The layout in force and the pending request of the holder: a request that is prepared there is prepared here,
and a layout in force there that neither is nor becomes the one here is requested anew. -/
def Chip.layoutCopied (layout : Option Nat) (req : Option (Nat × Bool)) (c : Chip) : Chip :=
  let pending := c.dev.layoutReq.map (fun r => r.index)
  let c := match req with
    | some (i, true) => if pending = some i then c.prepared else c
    | _ => c
  match layout with
  | none => c
  | some i =>
    if c.dev.layout.map (fun l => l.index) = some i then c
    else if pending = some i then c.prepared
    else (c.mapDev (fun (d : Device) => ({ d with layoutReq := none } : Device).requestLayout c.mem 0 i)).prepared

/-- By how much the ticks of the burst of the tick before move at a discontinuity (R24). -/
def Device.jumpDelta (d : Device) : Int :=
  if d.tick.jumped then signedOf 64 (d.get2 F.TICK_DISCONT_DELTA_LO_DELTA F.TICK_DISCONT_DELTA_HI_DELTA) else 0

/-- One item of the control state takes effect. -/
def Chip.applyItem (i : CtlItem) (c : Chip) : Chip :=
  match i with
  | .tick _ _ layout request _ => c.layoutCopied layout request
  | .write slot addr value _ => c.writeCopied slot addr value
  | .fresh s st recov chg ack => c.mapDev (fun (d : Device) =>
      let chg := (((chg : Int) + d.jumpDelta) % 2 ^ 64).toNat
      let d := (d.put F.FRS_SRC_STATE_STATE s st).setSrc s { d.src s with recov := recov, chg := chg, chgScale := d.tick.scale }
      if ack then d.ackSource s else d)
  | .tx e ext seq => c.mapDev (fun (d : Device) =>
      ({ d with net := { d.net with txExt := Tab.set d.net.txExt e ext } } : Device).setOut e { d.outp e with seq := seq })
  | .enc n v p q hist restart => c.mapDev (fun (d : Device) =>
      if d.encOpened n then
        (d.setEnc n { d.enc n with v := v, p := p, q := q, hist := hist, restart := restart }).put F.ENC_SESS_FULLNESS_BITS n v
      else d)
  | .time v relock due => c.mapDev (fun (d : Device) => d.timeCopied v relock due)
  | .evq h l => c.mapDev (fun (d : Device) => { d with evqRecv := Tab.set d.evqRecv h l })
  | .fuhel h x => c.mapDev (fun (d : Device) => { d with host := { d.host with
      sessRecv := match x with
        | some y => Tab.set d.host.sessRecv h y
        | none => Tab.del d.host.sessRecv h } })
  | .dp h t a => c.mapDev (fun (d : Device) => (d.putS F.HOST_DP_CTRL_TARGET h 0 t).setPtr h a)
  | .pin h pinned n => c.mapDev (fun (d : Device) => d.pinCopied h pinned n)
  | .latch f k b v => c.mapDev (fun (d : Device) => { d with latch := Tab.set d.latch (f, k, b) v })
  | .held f k b v => c.mapDev (fun (d : Device) => { d with held := Tab.set d.held (f, k, b) v })
  | .touch k x => c.mapDev (fun (d : Device) => { d with touch := { d.touch with recv := Tab.set d.touch.recv k x } })
  | .actions l => c.mapDev (fun (d : Device) => { d with touch := { d.touch with toDo := l } })
  | .owner code => c.mapDev (fun (d : Device) => d.setUpd (fun (u : UpdX) => { u with heir := code }))

/-- The mirror number issued by the holder when the burst was sent. -/
def seqOf (l : List CtlItem) : Nat := (l.findSome? (fun i => match i with
  | .tick _ _ _ _ n => some n
  | _ => none)).getD 0

/-- The commands of a burst that depend on mirrored data: layout requests, and update commands for this unit. -/
def dependsOnMirror (l : List CtlItem) : Bool := l.any (fun i => match i with
  | .write _ a v _ => decide (a = R.CMP_LAYOUT_SEL.base) || (decide (a = R.UPD_CMD.base) && decide (F.UPD_CMD_UNIT.of v ≠ 0))
  | _ => false)

/-- Writes first, so that the copied state stands over what they do. -/
def writesFirst (l : List CtlItem) : List CtlItem :=
  let isW (i : CtlItem) : Bool := match i with
    | .write _ _ _ _ => true
    | _ => false
  l.filter isW ++ l.filter (fun i => !isW i)

/-- The control state of a burst is applied. -/
def Chip.applyState (l : List CtlItem) (c : Chip) : Chip :=
  let c := c.mapDev (fun (d : Device) => { d with latch := [], held := [] })
  let c := forL (writesFirst l) Chip.applyItem c
  let n := seqOf l
  c.mapDev (fun (d : Device) =>
    if dependsOnMirror l && decide (d.pair.mirror.recv.getD 0 < n) then
      (d.setMirror (fun (m : Mirror) => { m with need := some n })).put F.PAIR_STATUS_INCONSISTENT 0 1
    else d)

/-- E(t+1) on a unit that follows, `u` the tick of the edge before: the burst of that tick is applied in SHADOW, and
in SYNCING once the copy is whole. A resync in which pages were lost starts again. -/
def Chip.burstEdge (u : Nat) (c : Chip) : Chip :=
  let p := c.dev.pair
  let c := c.mapDev (fun (d : Device) => d.setPair (fun (p : PairX) => { p with burst := [], ready := none, got := [], inStep := false }))
  let d := c.dev
  let miss (c : Chip) : Chip := c.mapDev (fun (d : Device) => d.setPair (fun (p : PairX) => { p with missed := p.missed + 1 }))
  let hit (c : Chip) : Chip := c.mapDev (fun (d : Device) => d.setPair (fun (p : PairX) => { p with missed := 0 }))
  let items := match p.ready with
    | some (t, l) => if t = u ∧ d.tetherIsUp then some l else none
    | none => none
  if !d.follows then c
  else if d.syncSt = 2 then
    match items with
    | some l => (hit c).applyState l
    | none => miss c
  else if d.syncSt = 1 then
    if p.mirror.recv.isSome && !p.mirror.whole then c.mapDev Device.startResync
    else match items with
      | some l =>
        if p.mirror.whole && decide (seqOf l ≤ p.mirror.recv.getD 0) then
          ((hit c).applyState l).mapDev (fun (d : Device) => d.setPair (fun (p : PairX) => { p with inStep := true }))
        else hit c
      | none => miss c
  else c

/-- The step that the burst of this tick carries to a standby whose servo of that index is locked (R269). -/
def Device.stepCopied (d : Device) : Option Nat :=
  if decide (d.role = 3) && decide (d.syncSt = 2) && d.tetherIsUp then
    match d.pair.ready with
    | some (t, l) =>
      if t = d.tick.num then
        (l.findSome? (fun i => match i with
          | .time _ _ due => due
          | _ => none)).elim none (fun q => if q.2 ≤ t ∧ d.srvLocked q.1 then some q.1 else none)
      else none
    | none => none
  else none

/-! ## Health (R300 to R302) -/

/-- A condition noted in this tick or in one of the `n` before it. -/
def Device.noted (d : Device) (k n : Nat) : Bool := match Tab.find d.healthAt k with
  | some e => decide (d.edges ≤ e + n)
  | none => false

/-- Bit 7 of the health word: enabled transmit paths, and none with its port UP. -/
def Device.pathsDown (d : Device) : Bool :=
  let l := (List.range 64).flatMap (fun e => if d.on F.NET_TX_CFG_EN e then (d.paths e).map (fun k => d.pathPort e k) else [])
  !l.isEmpty && l.all (fun p => !d.portUp p)

/-- The health word of this moment (R301). -/
def Device.formWord (d : Device) : Nat :=
  let b (n : Nat) (x : Bool) : Nat := if x then 2 ^ n else 0
  b 0 (d.noted 0 3) + b 1 (d.noted 1 3) + b 2 (d.noted 2 3) + b 3 (decide (d.get F.SYS_ENGINE_STATUS_STOPPED ≠ 0)) +
  b 4 (d.noted 4 599) + b 5 (Tab.find d.healthAt 5).isSome + b 6 (d.on F.LANE_REFCLK_LOSS_SYS) + b 7 d.pathsDown +
  b 8 (d.on F.SYS_ALARM_THERMAL) + b 16 ((List.range 28).any (fun l => d.on F.LANE_STATUS_DEGRADED l)) +
  b 17 (decide (d.get F.PAIR_HEALTH_CFG_CE_MAX < ((d.ceAt.filter (fun p => decide (d.edges ≤ p.1 + 599))).map Prod.snd).sum)) +
  b 18 (decide (d.get F.TICK_STATUS_SRC ≠ 1)) +
  b 19 (d.tetherIsUp && tetherLanes.any (fun l => (d.get F.LANE_TETHER_STATUS_TRAINED).testBit (l - 28) && (d.laneX l).unusable)) +
  b 20 d.witBlind + b 21 (d.follows && (decide (d.syncSt = 0) || decide (d.syncSt = 3))) +
  2 ^ 32 * min d.pair.cmp.settle 65535 + 2 ^ 48 * (d.pair.kat % 256) + 2 ^ 56 * (d.tick.num % 256)

/-- HEALTH_WORD_FORM, at 0.93 T. -/
def Device.healthForm (d : Device) : Device :=
  if !d.inRun || decide (d.role = 0) || !d.inTick then d
  else
    let d := d.waitPoint 93
    d.put2 F.PAIR_HEALTH_LO_HEALTH F.PAIR_HEALTH_HI_HEALTH 0 d.formWord

def execHealthWordForm (s : State) : Host.Outcome State Fault Refusal := onDev Device.healthForm s

/-- KAT_COMPLETE: a round of known-answer tests is over; a failure is noted (R301, R302). -/
def Device.katDone (ok : Bool) (d : Device) : Device :=
  if !d.inTick then d
  else
    let d := d.setPair (fun (p : PairX) => { p with kat := (p.kat + 1) % 256 })
    if ok then d else d.note 1

def execKatComplete (ok : Bool) (s : State) : Host.Outcome State Fault Refusal := onDev (Device.katDone ok) s

/-- SRAM_BIST_COMPLETE: a failed bank is remembered until a reset. A unit that holds the halter runs none (R302). -/
def Device.bistDone (ok : Bool) (d : Device) : Device := if ok || d.holds then d else d.note 5

def execSramBistComplete (ok : Bool) (s : State) : Host.Outcome State Fault Refusal := onDev (Device.bistDone ok) s

/-- The word of the partner is shown. -/
def Device.partnerWord (d : Device) (w : Nat) : Device := d.put2 F.PAIR_PARTNER_HEALTH_LO_HEALTH F.PAIR_PARTNER_HEALTH_HI_HEALTH 0 w

/-- What the unit says of itself in its HEALTH frame. -/
def Device.healthMsg (d : Device) : HealthMsg where
  role := d.role
  sync := d.syncSt
  inconsistent := d.on F.PAIR_STATUS_INCONSISTENT
  word := d.health
  lease := d.lease
  ack := d.pair.mirror.recv
  resyncs := d.pair.resyncs
  presses := d.touch.toSend
  upd := ⟨d.get F.UPD_STATUS_VERIFY, d.get F.UPD_STATUS_VERIFY_ERR, d.get F.UPD_STATUS_SEL_STATE, d.upd.staged.proto, d.upd.staged.rev, d.upd.run.rev⟩

/-- A partner in SHADOW ends a copy that it has whole; of a copy that it has not begun, the frames were lost and go again. -/
def Device.copyOver (d : Device) (h : HealthMsg) : Device :=
  match d.pair.mirror.copy with
  | some ([], stop, _) =>
    if stop ≤ h.ack.getD 0 then d.setMirror (fun (m : Mirror) => { m with copy := none, pages := [] }) else d.beginCopy d.pair.mirror.copied
  | _ => d

/-- The holder's side of a HEALTH frame: acknowledged writes leave the queue, a copy begins or ends (R291, R303). -/
def Device.holderHealth (d : Device) (h : HealthMsg) : Device :=
  let d := match h.ack with
    | some a => d.setMirror (fun (m : Mirror) => { m with queue := m.queue.filter (fun (e : MirrorEntry) => decide (a < e.seq)) })
    | none => d
  let sync := d.partnerSync
  let d := if sync = 1 ∨ sync = 2 then d else d.setMirror (fun (m : Mirror) => { m with queue := [], copy := none })
  let d := if sync = 1 ∧ (d.pair.mirror.copy.isNone ∨ h.resyncs ≠ d.pair.mirror.copied) then d.beginCopy h.resyncs else d
  let d := if sync = 2 then d.copyOver h else d
  d.mirrorShow

/-- TETHER_HEALTH_RECEIVE. -/
def Device.healthIn (hdr : TetherHdr) (h : HealthMsg) (d : Device) : Device :=
  d.frameThen 0x10 hdr (fun d =>
    let d := (d.setPair (fun (p : PairX) => { p with healthTick := some d.tick.num, partner := some h })).partnerWord h.word
    let d := (((d.put F.UPD_PARTNER_VERIFY 0 h.upd.verify).put F.UPD_PARTNER_VERIFY_ERR 0 h.upd.verifyErr).put
      F.UPD_PARTNER_SEL_STATE 0 h.upd.selState)
    let d := (d.put F.UPD_PARTNER_PROTO 0 h.upd.proto).put F.UPD_PARTNER_OUTPUT_REV 0 h.upd.rev
    if d.holds then
      let d : Device := { d with touch := { d.touch with toDo := d.touch.toDo ++ h.presses } }
      let d := d.holderHealth h
      if h.role = 2 then d.dualSeen else d
    else d)

def execTetherHealthReceive (hdr : TetherHdr) (msg : HealthMsg) (s : State) : Host.Outcome State Fault Refusal :=
  onDev (Device.healthIn hdr msg) s

/-! ## Lease messages and handover (R252, R308 to R310) -/

/-- The tick of the edge before that of tick `t`. -/
def Device.tickBefore (d : Device) (t : Nat) : Nat := ((d.pair.edges.dropWhile (fun e => decide (e ≠ t))).drop 1).headD (t - 1)

/-- The checks of R308 for a request that arrived in tick `t`. -/
def Device.handoverOk (d : Device) (t : Nat) : Bool :=
  d.holds && d.partnerShadow && d.tetherIsUp && !faulty d.partnerHealth &&
  !decide (t ∈ d.pair.cmp.bad) && !decide (d.tickBefore t ∈ d.pair.cmp.bad) &&
  (match d.pair.partner with
   | some h => !h.inconsistent && decide (d.pair.mirror.issued ≤ h.ack.getD 0)
   | none => false)

/-- A pending command ends. -/
def Device.pairEnd (d : Device) (r : Nat) : Device :=
  ((d.setPair (fun (p : PairX) => { p with cmd := none })).put F.PAIR_CMD_STATUS_RESULT 0 r).put F.PAIR_CMD_STATUS_PENDING 0 0

/-- The LEASE window of the tick after a request: COMMIT is sent or the request ends (R308). The flag says that a
COMMIT was sent. -/
def Device.handoverStep (d : Device) : Device × Bool :=
  match d.pair.handover with
  | none => (d, false)
  | some (t, slot) =>
    if d.tick.num ≤ t then (d, false)
    else
      let ok := d.handoverOk t
      let d := d.setPair (fun (p : PairX) => { p with handover := none })
      let d := if slot.isSome then d.pairEnd (if ok then 1 else 4) else d
      if ok then
        ((d.sendBoth 1 (.commit (d.tick.num + 1))).setPair (fun (p : PairX) => { p with commitTx := some (d.tick.num + 1) }), true)
      else (d.raise F.PAIR_EVENTS_HANDOVER_ABORTED, false)

/-- The unit asks for the halter back (R310). -/
def Device.reverts (d : Device) : Bool :=
  decide (d.role = 3) && d.on F.PAIR_CTRL_REVERT && decide (d.get F.PAIR_CTRL_UNIT = d.get F.PAIR_CTRL_HOME) &&
  decide (d.get F.PAIR_SETTLE_TICKS ≤ min d.pair.cmp.settle 65535) && !faulty d.health &&
  (match d.pair.partner with
   | some h => decide (h.role = 2)
   | none => false)

/-- The message window at the start of a tick: HEALTH, then what LEASE has to say. -/
def Device.sendHealth (d : Device) : Device :=
  if decide (d.role = 0) || !d.inRun || !d.inTick then d
  else if !d.tetherIsUp then d.handoverStep.1
  else
    let d := d.sendBoth 0 (.health d.healthMsg)
    let d : Device := { d with touch := { d.touch with toSend := [] } }
    let q := d.handoverStep
    let d := q.1
    let i := if q.2 then 2 else 1
    let rev := d.reverts
    let d := if rev then d.sendBoth i .revert else d
    let asks := tetherLanes.filter (fun l => decide ((d.laneX l).retrain = 1))
    (asks.foldl (fun (a : Device × Nat) l => ((a.1.sendBoth a.2 (.retrain l)).retrainAgreed l, a.2 + 1)) (d, if rev then i + 1 else i)).1

/-- TETHER_WINDOW_OPEN: window 0 at E(t), 1 the state burst, 2 the digests (R249). -/
def execTetherWindowOpen (window unlocked : Nat) (s : State) : Host.Outcome State Fault Refusal :=
  onDev (fun d =>
    let d := d.windowOpen window unlocked
    if window = 0 then d.sendHealth else d) s

/-- LEASE_COMMIT_RECEIVE. -/
def Device.commitIn (hdr : TetherHdr) (edge : Nat) (d : Device) : Device :=
  d.frameThen 0x11 hdr (fun d => if d.role = 3 then d.setPair (fun (p : PairX) => { p with commitRx := some edge }) else d)

/-- LEASE_REVERT_RECEIVE. -/
def Device.revertIn (hdr : TetherHdr) (d : Device) : Device :=
  d.frameThen 0x11 hdr (fun d =>
    if d.holds && d.pair.handover.isNone && d.pair.commitTx.isNone then
      d.setPair (fun (p : PairX) => { p with handover := some (d.tick.num, none) })
    else d)

/-- LEASE_RETRAIN_RECEIVE. -/
def Device.retrainIn (hdr : TetherHdr) (lane : Nat) (d : Device) : Device := d.frameThen 0x11 hdr (fun d => d.retrainAgreed lane)

def execLeaseCommitReceive (hdr : TetherHdr) (edge : Nat) (s : State) : Host.Outcome State Fault Refusal := onDev (Device.commitIn hdr edge) s
def execLeaseRevertReceive (hdr : TetherHdr) (s : State) : Host.Outcome State Fault Refusal := onDev (Device.revertIn hdr) s
def execLeaseRetrainReceive (hdr : TetherHdr) (lane : Nat) (s : State) : Host.Outcome State Fault Refusal := onDev (Device.retrainIn hdr lane) s

/-! ## Digests (R296, R297) -/

/-- A record as the digest carries it: CHECK, and the byte of flags and age. -/
def TileRec.pair (r : TileRec) : Nat × Nat := (r.check.toNat, (if r.stale then 128 else 0) + (if r.coarse then 64 else 0) + min r.age 63)

/-- The index of the layout in force, as a digest shows it. -/
def Device.layoutNo (d : Device) : Nat := (d.layout.map (fun l => l.index)).getD 0

/-- The digest of an output for the tick in progress. -/
def Device.outDigest (d : Device) (o : Nat) : Digest :=
  match (d.outp o).prev with
  | some q =>
    if q.tick = d.tick.num then ⟨o, false, false, false, d.layoutNo, q.layerOk, q.tags, q.repl, q.recs.map TileRec.pair, d.health⟩
    else ⟨o, true, false, false, d.layoutNo, [], [], [], [], d.health⟩
  | none => ⟨o, true, false, false, d.layoutNo, [], [], [], [], d.health⟩

/-- The picture of a session that completed in the tick in progress, and the one before it. -/
def Device.feedNow (d : Device) (n : Nat) : Option (FeedCheck × Option FeedCheck) :=
  match (d.enc n).checks.reverse with
  | x :: l => if x.done = d.tick.num then some (x, l.head?) else none
  | [] => none

/-- The reference picture was comparable and equal. -/
def Device.refOk (d : Device) (n : Nat) (b : Option FeedCheck) : Bool :=
  match b with
  | some y => decide (y.done ∈ (d.enc n).confirmed)
  | none => false

/-- The digest of a feed for the tick in progress. -/
def Device.feedDigest (d : Device) (n : Nat) : Digest :=
  match d.feedNow n with
  | some (x, b) =>
    let src := decide (d.get F.ENC_SESS_CFG_FOLLOW n ≠ 0)
    ⟨32 + n, false, x.timeFloored, d.refOk n b, d.layoutNo, if src then [decide (x.tag ≠ 0)] else [], if src then [x.tag] else [], [],
     x.recs.map TileRec.pair, d.health⟩
  | none => ⟨32 + n, true, false, false, d.layoutNo, [], [], [], [], d.health⟩

/-- The digests of a tick: every output present, every open feed. -/
def Device.digests (d : Device) : List Digest :=
  ((List.range 32).filter d.present).map d.outDigest ++ ((List.range 32).filter d.encOpened).map d.feedDigest

/-- DIGEST_SEND, in the window from 0.95 T. -/
def Device.digestSend (d : Device) : Device :=
  if decide (d.role < 2) || !d.inRun || !d.inTick || !d.tetherIsUp then d
  else
    let d := d.waitPoint 95
    (d.digests.foldl (fun (a : Device × Nat) g => (a.1.sendBoth a.2 (.digest g), a.2 + 1)) (d, 0)).1

def execDigestSend (s : State) : Host.Outcome State Fault Refusal := onDev Device.digestSend s

/-- The tick in progress began with a standby in SHADOW. -/
def Device.shadowed (d : Device) : Bool :=
  if d.holds then d.partnerShadow else decide (d.pair.cmp.shadowTick = some d.tick.num)

/-- Tiles can be comparable in this tick: SHADOW, INCONSISTENT clear, no excluded write, equal OUTPUT_REV (R297,
R409). -/
def Device.comparable (d : Device) : Bool :=
  d.shadowed && !decide (d.tick.num ∈ d.pair.cmp.excluded) &&
  !(if d.holds then (match d.pair.partner with | some h => h.inconsistent | none => true) else d.on F.PAIR_STATUS_INCONSISTENT) &&
  (match d.pair.partner with
   | some h => decide (h.upd.runRev = d.upd.run.rev)
   | none => false)

/-- The positions of the layers that contribute to a tile (R46). -/
def Device.layersAt (d : Device) (l : Layout) (r : OutRec) (tile : Nat) : List Nat :=
  let st := stackOf l.outs r
  (List.range st.length).filter (fun j => match d.tables.desc (st.getD j 0) with
    | some x => x.drawn && decide ((Rect.inter (x.clipped r.canvas) (r.tileRect tile)).area ≠ 0)
    | none => true)

/-- Tile `i` of an output is comparable between two digests. -/
def Device.tileComparable (d : Device) (l : Layout) (r : OutRec) (a b : Digest) (i : Nat) : Bool :=
  !decide (i ∈ a.replaced) && !decide (i ∈ b.replaced) &&
  (d.layersAt l r i).all (fun j => a.layerOk.getD j false && b.layerOk.getD j false && decide (a.tags.getD j 0 = b.tags.getD j 0))

/-- The tiles of a followed output that hold a pixel of the input rectangle of session `n`. -/
def Device.inputTiles (d : Device) (n : Nat) (r : OutRec) : List Nat :=
  let g := fmtG r.format
  let x0 := d.get F.ENC_SESS_ORIGIN_X n
  let y0 := d.get F.ENC_SESS_ORIGIN_Y n
  (List.range 256).filter (fun t =>
    decide (tileX r.width g (t % 16) < x0 + d.encW n) && decide (x0 < tileX r.width g (t % 16 + 1)) &&
    decide (tileY r.height (t / 16) < y0 + d.encH n) && decide (y0 < tileY r.height (t / 16 + 1)))

/-- The input of a picture was equal on both units. -/
def Device.inputEqual (d : Device) (n : Nat) (x : FeedCheck) (a b : Digest) : Bool :=
  if d.get F.ENC_SESS_CFG_FOLLOW n = 0 then
    let o := d.get F.ENC_SESS_CFG_ID n
    match d.outRec? o with
    | some r => (d.inputTiles n r).all (fun t => decide (t ∈ Tab.get d.pair.cmp.equal [] (o, x.tick)))
    | none => false
  else decide (a.tags.getD 0 0 = b.tags.getD 0 0)

/-- The tiles that are comparable between the unit's own digest and the partner's. -/
def Device.comparedTiles (d : Device) (a b : Digest) : List Nat :=
  if !d.comparable || a.noFrame || b.noFrame then []
  else if a.id < 32 then
    match d.layout with
    | some l => match l.outs.find? (fun r => decide (r.out = a.id)) with
      | some r => (List.range 256).filter (d.tileComparable l r a b)
      | none => []
    | none => []
  else match d.feedNow (a.id - 32) with
    | some (x, _) =>
      if !a.timeFloored && !b.timeFloored && ((a.refOk && b.refOk) || x.idr) && d.inputEqual (a.id - 32) x a b then List.range 256 else []
    | none => []

/-- The comparison of one digest of the partner with the unit's own. -/
def Device.compareOne (d : Device) (a b : Digest) : Device :=
  let d := d.setCmp (fun (c : Compare) => { c with seen := a.id :: c.seen })
  if a.layout ≠ b.layout then (if d.shadowed then d.setCmp (fun (c : Compare) => { c with differ := a.id :: c.differ }) else d)
  else
    let l := d.comparedTiles a b
    let same := l.filter (fun i => decide (a.recs.getD i (0, 0) = b.recs.getD i (0, 0)))
    let bad := l.find? (fun i => !decide (a.recs.getD i (0, 0) = b.recs.getD i (0, 0)))
    let d := d.setCmp (fun (c : Compare) => { c with
      some_ := c.some_ || !l.isEmpty
      equal := Tab.set c.equal (a.id, d.tick.num) same
      first := match bad, c.first with
        | some i, some q => if a.id < q.1 then some (a.id, i) else some q
        | some i, none => some (a.id, i)
        | none, q => q })
    if 32 ≤ a.id ∧ !l.isEmpty ∧ bad.isNone then
      let x := d.enc (a.id - 32)
      d.setEnc (a.id - 32) { x with confirmed := (d.tick.num :: x.confirmed).take 8 }
    else d

/-- TETHER_DIGEST_RECEIVE. -/
def Device.digestIn (hdr : TetherHdr) (g : Digest) (d : Device) : Device :=
  d.frameThen 0x20 hdr (fun d =>
    let d := d.partnerWord g.word
    if decide (d.role < 2) || decide (g.id ∈ d.pair.cmp.seen) then d
    else match d.digests.find? (fun a => decide (a.id = g.id)) with
      | some a => d.compareOne a g
      | none => d)

def execTetherDigestReceive (hdr : TetherHdr) (dig : Digest) (s : State) : Host.Outcome State Fault Refusal :=
  onDev (Device.digestIn hdr dig) s

/-! ## The judgement of a tick (R298, R299) -/

/-- MISMATCHED, CLEAN or NEUTRAL: the counts follow. -/
def Device.judgeTick (d : Device) : Device :=
  let c := d.pair.cmp
  let t := d.tick.num
  let n := d.get F.PAIR_STATUS_MISMATCH
  let d := match c.first with
    | some (o, i) =>
      let d := ((d.put F.PAIR_STATUS_MISMATCH 0 (min (n + 1) 15)).bump F.PAIR_CNT_MISMATCH_COUNT 0 1).put F.PAIR_LAST_MISMATCH_OUTPUT_ID 0 o
      (d.put F.PAIR_LAST_MISMATCH_TILE 0 i).setCmp (fun (c : Compare) => { c with bad := (t :: c.bad).take 8, settle := 0 })
    | none =>
      if c.some_ then
        (d.put F.PAIR_STATUS_MISMATCH 0 0).setCmp (fun (c : Compare) => { c with settle := min (c.settle + 1) 65535 })
      else d.bump F.PAIR_CNT_NEUTRAL_COUNT 0 1
  if d.shadowed then d else d.setCmp (fun (c : Compare) => { c with settle := 0 })

/-- The outcome of R299 on this unit: 0 YIELD, 1 standby faulty, 2 both faulty, 3 diverged. -/
def Device.decideAs (d : Device) (k : Nat) : Device :=
  let t := d.tick.num
  let d := (d.put F.PAIR_STATUS_MISMATCH 0 0).record 0x0041 11 k d.health
  match k with
  | 0 =>
    let d := d.raise F.PAIR_EVENTS_YIELD
    if d.holds then d.setPair (fun (p : PairX) => { p with yieldAt := some t }) else d
  | 1 =>
    if d.role = 3 then (d.raise F.PAIR_EVENTS_STANDBY_FAULT).setPair (fun (p : PairX) => { p with faultAt := some t }) else d
  | 2 =>
    let d := d.raise F.PAIR_EVENTS_BOTH_FAULT
    if d.role = 3 then d.setPair (fun (p : PairX) => { p with faultAt := some t }) else d
  | _ =>
    let d := d.raise F.PAIR_EVENTS_DIVERGED
    if d.role = 3 then d.startResync else d

/-- PAIR_DECISION, at 0.97 T: the tick is judged, and with the count at K the unit decides. -/
def Device.pairDecision (d : Device) : Device :=
  if decide (d.role < 2) || !d.inRun || !d.inTick || decide (d.pair.cmp.judged = some d.tick.num) then d
  else
    let d := d.waitPoint 97
    let bad := d.pair.cmp.first.isSome
    let apart := d.pair.cmp.differ.any (fun o => decide (o ∈ d.pair.cmp.differBefore))
    let d := d.judgeTick.setCmp (fun (c : Compare) => { c with
      judged := some d.tick.num, seen := [], some_ := false, first := none, differBefore := c.differ, differ := []
      equal := c.equal.filter (fun p => decide (d.tick.num ≤ p.1.2 + 1)) })
    let d := if apart then
        (let d := d.raise F.PAIR_EVENTS_DIVERGED
         if d.role = 3 then d.startResync else d)
      else d
    if bad && decide (d.get F.PAIR_CTRL_K ≤ d.get F.PAIR_STATUS_MISMATCH) then
      let own := faulty d.health
      let oth := faulty d.partnerHealth
      let hf := if d.holds then own else oth
      let sf := if d.holds then oth else own
      let k := if hf && !sf then 0 else if !hf && sf then 1 else if hf then 2 else 3
      let d' := d.decideAs k
      if d.holds && d.tetherIsUp then d'.sendBoth d.digests.length (.decision (decide (k = 0))) else d'
    else d

def execPairDecision (s : State) : Host.Outcome State Fault Refusal := onDev Device.pairDecision s

/-- TETHER_DECISION_RECEIVE. -/
def Device.decisionIn (hdr : TetherHdr) (gives : Bool) (d : Device) : Device :=
  d.frameThen 0x21 hdr (fun d =>
    if gives && decide (d.role = 3) then d.setPair (fun (p : PairX) => { p with yieldRx := some d.tick.num }) else d)

def execTetherDecisionReceive (hdr : TetherHdr) (gives : Bool) (s : State) : Host.Outcome State Fault Refusal :=
  onDev (Device.decisionIn hdr gives) s

/-! ## The tick edge (R286, R304 to R309) -/

/-- A RESYNC command acts (R303, R304). -/
def Device.resyncEdge (d : Device) : Device :=
  if !d.pair.resync then d
  else
    let d := d.setPair (fun (p : PairX) => { p with resync := false })
    if d.role = 4 then (if faulty d.health then d.pairEnd 5 else ((d.setRole 3).startResync).pairEnd 1)
    else if d.role = 3 then d.startResync.pairEnd 1
    else d.pairEnd 3

/-- A holder at E(t): it yields, gives way to a second holder, or hands over. -/
def Device.activeEdge (d : Device) (t u : Nat) : Device :=
  let p := d.pair
  let seen := max p.seenEpoch (d.net.witEpoch.getD 0)
  let own := d.get F.PAIR_EPOCH_EPOCH
  let d := d.setPair (fun (p : PairX) => { p with dual := false })
  if p.yieldAt = some u ∨ !d.tick.prevCert then (d.setRole 4).setSync 0
  else if p.dual ∧ (own < seen ∨ (own = seen ∧ d.get F.PAIR_CTRL_UNIT = 1)) then (d.setRole 3).setSync 0
  else if p.commitTx = some t then
    (((d.setRole 3).setSync 2).ownerShadow).setPair (fun (p : PairX) => { p with
      commitTx := none, gave := some t, missed := 0, mirror := { p.mirror with recv := some p.mirror.issued, whole := true, queue := [], copy := none } })
  else d

/-- The reasons for which a STANDBY takes the halter at E(t) (R304 to R306). -/
def Device.takes (d : Device) (t u : Nat) : Bool :=
  decide (d.pair.yieldRx = some u) || decide (d.pair.commitRx = some t) || (decide (d.lease = 2) && !faulty d.health) ||
  (decide (d.lease = 3) && d.tetherCond u && d.witCond)

/-- A STANDBY at E(t). -/
def Device.standbyEdge (d : Device) (t u : Nat) : Device :=
  let p := d.pair
  let blocked := decide (d.lease = 3) && !(d.tetherCond u && d.witCond)
  let d := if blocked && !p.reinFault then d.raise F.PAIR_EVENTS_REIN_FAULT else d
  let back := match p.gave with
    | some g => decide (g = u) && decide (p.rein.valid ≠ some g)
    | none => false
  let d := d.setPair (fun (p : PairX) => { p with reinFault := blocked, gave := if back || decide (p.gave = some t) then p.gave else none })
  if back then d
  else if p.faultAt = some u then d.setRole 4
  else if d.takes t u && d.tick.prevCert then d.take
  else d

/-- The role changes of E(t); `u` is the tick of the edge before. Without a tether no LEASE window opens, and a request for a
handover ends (R308). -/
def Device.roleEdge (d : Device) (t u : Nat) : Device :=
  let d := d.resyncEdge.put F.PAIR_STATUS_PARTNER_LEASE 0 d.leaseView
  let d := match d.role with
    | 1 => if d.lease = 1 then (d.setRole 3).setSync 0 else d
    | 2 => d.activeEdge t u
    | 3 => d.standbyEdge t u
    | _ => d
  let d := if d.tetherIsUp then d else d.handoverStep.1
  let up := decide (d.role = 3) && d.tetherIsUp
  let d := if up && (decide (d.syncSt = 0) || decide (d.syncSt = 3)) && !d.pair.tetherWas then d.startResync else d
  d.setPair (fun (p : PairX) => { p with
    tetherWas := up
    cmp := { p.cmp with shadowTick := if d.role = 3 ∧ d.syncSt = 2 then some t else none, excluded := p.cmp.excluded.take 8 } })

/-- The pair at E(t). -/
def Device.pairEdge (d : Device) (t u : Nat) : Device :=
  let d := if d.role = 0 then d else d.roleEdge t u
  d.reinEdge t u

/-- The moment of the edge is not past: the renewal of this tick can still start. -/
def Device.atEdge (d : Device) : Bool := d.inTick && decide (d.now ≤ d.pair.rein.edge + d.pair.rein.period / 10)

/-- No output had a FRESH verdict of the partner. -/
def Device.noFresh (d : Device) : Bool := !(List.range 32).any (fun o => d.watchedOut o && (d.wit o).verdicts.any (fun q => decide (q.2 = 1)))

/-- The unit takes the halter at the edge that was just asserted, and renews in its tick. -/
def Device.takeNow (d : Device) : Device := d.take.renew d.tick.num

/-- JOINING_TIMEOUT: four ticks after the first edge of RUN for unit 0, eight for unit 1. -/
def Device.joinTimeout (d : Device) : Device :=
  let wait := if d.get F.PAIR_CTRL_UNIT = 0 then 4 else 8
  if d.inRun && decide (d.role = 1) && d.atEdge && decide (wait < d.pair.since) && (decide (d.lease = 0) || decide (d.lease = 3)) &&
      d.noFresh && d.tick.prevCert then d.takeNow
  else d

def execJoiningTimeout (s : State) : Host.Outcome State Fault Refusal := onDev Device.joinTimeout s

/-- The stamp that an output formed in the tick before was sent with one of these statuses. -/
def OutSt.sentWith (x : OutSt) (l : List Nat) : Bool := x.stampDone && x.stampSent && decide (x.stampStatus ∈ l)

/-- The outputs of the tick before that FRS_LIVE_MASK watches. -/
def Device.liveOuts (d : Device) : List Nat :=
  match d.layoutPrev with
  | some l => (l.outs.map (fun r => r.out)).filter (fun o => (d.get F.FRS_LIVE_MASK_MASK).testBit o)
  | none => []

/-- HANDOVER_TAKEBACK: the edge after the one of the handover, with no renewal of the partner in between (R309). STALE_N then
follows the stamps of the tick before, which the unit did not send (R81). -/
def Device.takeback (d : Device) : Device :=
  match d.pair.gave with
  | some g =>
    if d.inRun && decide (d.role = 3) && d.atEdge && decide (d.tickBefore d.tick.num = g) && decide (d.pair.rein.valid ≠ some g) &&
        d.tick.prevCert then
      let d := d.takeNow.raise F.PAIR_EVENTS_HANDOVER_ABORTED
      { d with staleLow := d.liveOuts.any (fun o => !(d.outp o).sentWith [0]) }
    else d
  | none => d

def execHandoverTakeback (s : State) : Host.Outcome State Fault Refusal := onDev Device.takeback s

end Sys2Proof.Machine
end

