-- ==== Sys2Proof/Machine/Clock.lean ====
section
/-!
DEFINITION. The tick scheduler and the sentinel (R20 to R30): the tick edge, the step gap, the publishing of the
work list and the certification of a tick.
-/

namespace Sys2Proof.Machine

/-! ## Which edge comes next (R21, R23, R26) -/

/-- The first alignment point at device time `x` or later. -/
def Device.alignedFrom (d : Device) (x : Nat) : Nat :=
  let t := d.tickOf x
  if x ≤ d.edgeNs t then t else t + 1

/-- The number of the next tick edge: the first of RUN at least 1 ms after the command was accepted, the first on
the new scale after a step, or the next one. -/
def Device.nextTick (d : Device) : Nat :=
  if !d.tick.everEdge then d.alignedFrom (max d.devNs (d.tick.runAccept + 1000000))
  else if d.tick.gap then d.alignedFrom d.devNs
  else d.tick.num + 1

/-- A step is due in the tick in progress, so that no edge ends it (R23, R25, R269). -/
def Device.stepWaits (d : Device) : Bool :=
  d.tick.running &&
  ((match d.time.due with
    | some (_, t) => decide (t ≤ d.tick.num)
    | none => false) || (d.inTick && d.stepCopied.isSome))

/-! ## What the edge does to the scheduler -/

/-- A tick begins: its number, the certification of the one before, and nothing of it done yet. -/
def Tick.begin (k : Tick) (t err now : Nat) : Tick :=
  { k with
    running := true, inTick := true, gap := false, everEdge := true, num := t, last := if k.everEdge then k.num else 0
    afterGap := k.gap, infos := (k.info :: k.infos).take 4, edgeNow := now, edgeErr := err, published := false, publishedOk := false, early := false
    judged := false, sealRan := false, cert := false, prevCert := k.cert, stalled := [], ratio := [], abandoned := [], work := [] }

/-- The system engine and the watch engine write their heartbeats (R30). -/
def Device.heartbeats (d : Device) (t : Nat) : Device :=
  let k := d.tick
  { d with tick := { k with
      sysBeat := if d.stopped 14 then k.sysBeat else some t
      watchBeat := if d.stopped 15 then k.watchBeat else some t } }

/-- A tick discontinuity (R24, R268): the edge of tick `t` does not follow the last edge that was made, or device time was
stepped since it. Its difference is `t` less that edge's number, less one; where none was made before, it is 0. -/
def Device.discontinuity (d : Device) (t : Nat) : Option Int :=
  let k := d.tick
  if (k.had && decide (t ≠ k.num + 1)) || !k.told then some (if k.had then (t : Int) - k.num - 1 else 0) else none

/-- The discontinuity at the edge of a tick: what is reported, and the ticks that move (R24). -/
def Device.reportJump (d : Device) (delta : Option Int) : Device :=
  let d : Device := { d with tick := { d.tick with had := true, told := true, jumped := delta.isSome } }
  match delta with
  | some v =>
    ((d.shiftTicks v).put2 F.TICK_DISCONT_DELTA_LO_DELTA F.TICK_DISCONT_DELTA_HI_DELTA 0 (v % 2 ^ 64).toNat).raise F.TICK_EVENTS_DISCONT
  | none => d

/-- The edge of tick `t`. -/
def Device.edgeStart (d : Device) (t err : Nat) : Device :=
  let d := d.waitUntil (d.edgeNs t)
  let jump := d.discontinuity t
  let d : Device := { d with tick := d.tick.begin t err d.now, edges := d.edges + 1 }
  let d := d.setPair (fun (p : PairX) => { p with edges := (t :: p.edges).take 8, since := p.since + 1 })
  (d.heartbeats t).reportJump jump

/-- The sources whose DETECT or mask takes a new value at this edge (R61). -/
def Device.detectNew (d : Device) : List Nat :=
  let now (f : Fld) (p : Key × Nat) : Bool := decide (p.1.1 = f.id) && decide (d.get f p.1.2.1 ≠ p.2 % 2 ^ f.width)
  (d.rwt.filter (fun p => now F.FRS_SRC_CFG_DETECT p || now F.FRS_SRC_MASK_LO_MASK p || now F.FRS_SRC_MASK_HI_MASK p)).map
    (fun p => p.1.2.1) |>.dedup

/-- RWT values come into force (R12), with what follows from them: group membership, levels and periods of encode sessions. -/
def Device.rwtEdge (d : Device) : Device :=
  let written (f : Fld) := (d.rwt.filter (fun p => decide (p.1.1 = f.id))).map (fun p => p.1.2.1)
  let rates := (written F.ENC_SESS_RATE_BIT_RATE).filter d.encOpened
  let periods := written F.ENC_SESS_GDR_PERIOD
  let d := d.withIgmp Device.applyRwt
  (forL periods (fun (n : Nat) (d : Device) => d.encPeriodEdge n) (forL rates (fun (n : Nat) (d : Device) => d.encRateEdge n) d)).matEdge

/-! ## LIVE_OUT and STALE_N (R80, R81) -/

/-- The two pins at E(t). `first` says that it is the first edge of RUN. -/
def Device.livePins (d : Device) (first : Bool) : Device :=
  if first then { d with staleLow := false }
  else
    let outs := d.liveOuts
    let good := if d.on F.FRS_LIVE_CTRL_STALE_OK then [0, 1] else [0]
    let flip := d.sends && d.tick.prevCert && !d.tick.afterGap && !outs.isEmpty && outs.all (fun o => (d.outp o).sentWith good)
    let low := decide (d.role ≠ 3) && outs.any (fun o => !(d.outp o).sentWith [0])
    { d with liveOut := if flip then !d.liveOut else d.liveOut, staleLow := low }

/-! ## Outputs and work of a tick -/

/-- What the outputs leave of the tick before: references of paths and checkers, berths that no seal took. -/
def Device.clearOuts (d : Device) : Device :=
  let d := d.releaseAll (fun h => match h with
    | .path e _ => decide (e < 32)
    | .loop e _ => decide (e < 32)
    | .comp => true
    | _ => false)
  forN 32 (fun (o : Nat) (d : Device) =>
    let x := d.outp o
    let d := match x.berth with
      | some n => d.discard n
      | none => d
    if x = OutSt.empty then d
    else d.setOut o { x with berth := none, tiles := [], sending := none, started := false, paths := [], npk := 0, sentPk := 0,
                             checked := [], failed := false, stampDue := false, stampDone := false, stampSent := false }) d

/-- The outputs present carry DISCONT in their next stamp (R24, R70). -/
def Device.markDiscont (d : Device) : Device :=
  forN 32 (fun (o : Nat) (d : Device) => if d.present o then d.setOut o { d.outp o with discont := true } else d) d

/-- The tiles of outputs in the order in which the blend pipes take them: tile row, output number, tile column (R105). -/
def workOrder (outs : List Nat) : List (Nat × Nat) :=
  (List.range 16).flatMap (fun r => outs.flatMap (fun o => (List.range 16).map (fun c => (o, 16 * r + c))))

/-- Composition work is admitted: the compositor holds each berth of the input set once, each present output takes a berth, and
the work list orders the tiles of those that did (R28, R36, R105, R114, R118). -/
def Device.composeEdge (d : Device) : Device :=
  match d.layout with
  | none => ((d.put F.TICK_USE_SCL_USED_WU 0 0).put F.TICK_USE_BLD_USED_WU 0 0).put F.TICK_USE_MEM_USED_WU 0 0
  | some l =>
    let d := forL (d.layoutSources.filterMap (fun s => (d.src s).input)).dedup (fun (n : Nat) (d : Device) => d.hold n .comp) d
    let d := forL l.outs (fun (r : OutRec) (d : Device) =>
      let p := d.allocFor r.bytes 3 r.out
      p.1.setOut r.out { p.1.outp r.out with berth := p.2 }) d
    let on := (l.outs.map (fun r => r.out)).filter (fun o => (d.outp o).berth.isSome)
    let d : Device := { d with tick := { d.tick with work := workOrder on } }
    ((d.put F.TICK_USE_SCL_USED_WU 0 l.scl).put F.TICK_USE_BLD_USED_WU 0 l.bld).put F.TICK_USE_MEM_USED_WU 0 l.memWu

/-- Encode and decode work is admitted (R36). -/
def Device.codecEdge (m : Memory) (t : Nat) (d : Device) : Device :=
  let d := d.encEdge m t
  let d := d.put F.TICK_USE_ENC_USED_WU 0 d.encUsed
  let d := forN 256 (fun (n : Nat) (d : Device) => if d.decState n = 0 then d else d.decUnitsEdge n) d
  d.decAdmission

/-- The media side of the edge: transmit entries enabled now, flows seen in the tick before, and outputs that the
witness does not watch, whose next verdict is a first one (R222, R214, R232). -/
def Device.netEdge (d : Device) : Device :=
  let d : Device := { d with net := { d.net with
      txOn := (List.range 64).filter (fun e => d.on F.NET_TX_CFG_EN e), flowsLast := d.net.flowsNow, flowsNow := [] } }
  let d := d.flag F.PAIR_STATUS_WIT_BLIND 0 (decide (d.role ≠ 0) && d.witBlind)
  forN 32 (fun (o : Nat) (d : Device) =>
    if (d.witOn && d.watchedOut o) || (d.wit o).first then d else d.setWit o { d.wit o with first := true }) d

/-- The time state that stamps covering this tick will carry (R70). -/
def Device.infoEdge (d : Device) (t : Nat) : Device :=
  let g := d.timeInfo
  { d with tick := { d.tick with info := ⟨t, d.pointNs t 0, d.get F.TIME_STATUS_SRC, g.1, g.2⟩ } }

/-- Writes kept until this edge are judged again and completed (R292). On the SPI port the next status byte shows the result (log
entry 163). -/
def Chip.deferredEdge (c : Chip) : Chip :=
  let l := c.dev.deferred
  forL l (fun (q : Nat × Nat × Nat) (c : Chip) =>
    let p := c.hostWrite q.1 q.2.1 32 q.2.2 0
    match p.2 with
    | some r => (p.1.answer q.1 r []).mapDev (fun (d : Device) => if d.spiSlot = some q.1 then d.spiEnd r else d)
    | none => p.1) (c.mapDev (fun (d : Device) => { d with deferred := [] }))

/-- The layout of tick `t` and the pins (R97, R110, R117). The outputs present in the layout in force at the edge of a
discontinuity mark it (R24, R70). -/
def Device.layoutOf (d : Device) (t : Nat) : Device :=
  let d := ({ d with layoutPrev := d.layout } : Device).movesEdge.layoutEdge t
  let d := if d.tick.jumped then d.markDiscont else d
  d.pinEdge

/-- The work of tick `t` is admitted; the caches drop what a flush or a wrong CHECK asks them to (R40, R121). -/
def Device.admitWork (m : Memory) (t : Nat) (restart : List Nat) (d : Device) : Device :=
  (((d.clearOuts.netEdge.frsEdge t d.layoutSources restart).flushEdge.dropBad.composeEdge).codecEdge m t).touchEdge m

/-- The edge at which the device leaves RUN admits no work (R358); a discontinuity there is marked and a flush carried out as
at any other (R24, R40). -/
def Device.lastEdge (d : Device) : Device :=
  let d := if d.tick.jumped then d.markDiscont else d
  let d := (d.setRein (fun (r : Rein) => { r with edge := d.now, period := d.periodNs })).clearOuts.leaveRun
  ({ d with tick := { d.tick with inTick := false } } : Device).flushEdge

/-- TICK_EDGE (R27): `err` is how far the edge lies from its exact time (R21), `saved` says that every engine has saved
its state for a swap (R407). -/
def Chip.tickEdge (err : Nat) (saved : Bool) (c : Chip) : Chip :=
  if !c.dev.inRun || c.dev.stepWaits then c
  else
    let first := !c.dev.tick.everEdge
    let t := c.dev.nextTick
    let u := if first then t - 1 else c.dev.tick.num
    let c := c.mapDev (fun (d : Device) =>
      let d := ((d.waitUntil (d.edgeNs t)).markTails d.tick.leave).edgeStart t err
      if first then forN 32 (fun (o : Nat) (d : Device) => d.letFrameGo o) d else d)
    let c := (c.burstEdge u).swapEdge t saved
    let c := c.mapDev (fun (d : Device) =>
      let restart := d.detectNew
      let d := (d.rwtEdge.decEdgeCmd.encEdgeCmd.perfEdge.servoEdge).infoEdge t
      if d.tick.leave then d.lastEdge
      else
        let d := (d.pairEdge t u).layoutOf t
        let d := (d.livePins first).admitWork c.mem t restart
        { d with ceAt := d.ceAt.filter (fun p => decide (d.edges ≤ p.1 + 600)) })
    c.deferredEdge.fuhelLate

def execTickEdge (errNs : Nat) (saved : Bool) (s : State) : Host.Outcome State Fault Refusal := onChip (Chip.tickEdge errNs saved) s

/-- STEP_GAP_START: tick t ends at E(t+1) on the old scale without an edge, and its frames go out in the gap (R25). A
standby takes over the step that the burst of the tick brought (R269). -/
def Device.gapStart (d : Device) : Device :=
  if !d.inRun || !d.inTick || !d.stepWaits then d
  else
    let d := d.waitUntil (d.edgeNs (d.tick.num + 1))
    let d := match d.time.due, d.stepCopied with
      | none, some v => { d with time := { d.time with due := some (v, d.tick.num), dueFresh := false } }
      | _, _ => d
    let d := (d.markTails false).clearOuts
    { d with staleLow := false, tick := { d.tick with inTick := false, gap := true, edgeNow := d.now } }

def execStepGapStart (s : State) : Host.Outcome State Fault Refusal := onDev Device.gapStart s

/-! ## The work list and the sentinel (R30) -/

/-- WORK_LIST_PUBLISHED: the jobs of the tick start. Nothing is published while a tick engine is stopped. -/
def Device.publish (d : Device) : Device :=
  if !d.inTick || d.tick.published || [8, 9, 10, 11].any d.stopped then d
  else
    let early := decide (d.devNs ≤ d.pointNs d.tick.num 5)
    ({ d with tick := { d.tick with published := true, early := early } } : Device).decPublish.encPublish

def execWorkListPublished (s : State) : Host.Outcome State Fault Refusal := onDev Device.publish s

/-- SENTINEL_PUBLISH_CHECK, at 0.05 T. -/
def Device.publishCheck (d : Device) : Device :=
  if !d.inTick then d
  else
    let d := d.waitPoint 5
    { d with tick := { d.tick with publishedOk := d.tick.published && d.tick.early } }

def execSentinelPublishCheck (s : State) : Host.Outcome State Fault Refusal := onDev Device.publishCheck s

/-- A heartbeat was written in this tick or the one before. -/
def Tick.alive (k : Tick) (b : Option Nat) : Bool := decide (b = some k.num) || decide (b = some k.last)

/-- What the sentinel asks of the tick. -/
def Device.certifiable (d : Device) : Bool :=
  let k := d.tick
  decide (k.edgeErr ≤ 4) && k.publishedOk && k.sealRan && k.alive k.sysBeat && k.alive k.watchBeat

/-- SENTINEL_CERTIFY, at 0.98 T. -/
def Device.certify (d : Device) : Device :=
  if !d.inTick || d.tick.judged then d
  else
    let d := d.waitPoint 98
    let ok := d.certifiable
    let d := ({ d with tick := { d.tick with cert := ok, judged := true } } : Device).flag F.TICK_STATUS_CERT 0 ok
    if ok then d else ((d.raise F.TICK_EVENTS_SENTINEL_MISS).record 0x0011 2 0 0).note 2

def execSentinelCertify (s : State) : Host.Outcome State Fault Refusal := onDev Device.certify s

/-! ## The request that waits (R95 to R101, R110) -/

/-- LAYOUT_LATE. -/
def execLayoutLate (s : State) : Host.Outcome State Fault Refusal := onDev Device.layoutLate s
/-- LAYOUT_PREPARE_COMPLETE. -/
def execLayoutPrepareComplete (s : State) : Host.Outcome State Fault Refusal := onChip Chip.prepared s
/-- LAYOUT_TIMEOUT. -/
def execLayoutTimeout (s : State) : Host.Outcome State Fault Refusal := onDev Device.layoutTimeout s
/-- MOOR_SPILL_MOVE_COMPLETE. -/
def execMoorSpillMoveComplete (s : State) : Host.Outcome State Fault Refusal := onDevM (fun m d => d.moorMove m) s

end Sys2Proof.Machine
end

