-- ==== Sys2Proof/Machine/Dispatch.lean ====
section
/-!
DEFINITION. One arm per command: each calls the one meaning of its command, or is rejected by name.
-/

namespace Sys2Proof.Machine

def exec (i : Instr) (s : State) : Host.Outcome State Fault Refusal :=
  match i with
  | .registerWrite slot addr width value hwSet => Sys2Proof.Machine.execRegisterWrite slot addr width value hwSet s
  | .rcRead slot addr inc => Sys2Proof.Machine.execRcRead slot addr inc s
  | .loReadLatch slot addr => Sys2Proof.Machine.execLoReadLatch slot addr s
  | .loWriteHold slot addr value => Sys2Proof.Machine.execLoWriteHold slot addr value s
  | .hiWriteApply slot addr value => Sys2Proof.Machine.execHiWriteApply slot addr value s
  | .tickEdge errNs saved => Sys2Proof.Machine.execTickEdge errNs saved s
  | .layoutLate => Sys2Proof.Machine.execLayoutLate s
  | .workListPublished => Sys2Proof.Machine.execWorkListPublished s
  | .sentinelPublishCheck => Sys2Proof.Machine.execSentinelPublishCheck s
  | .sealDeadline => Sys2Proof.Machine.execSealDeadline s
  | .katComplete ok => Sys2Proof.Machine.execKatComplete ok s
  | .sentinelCertify => Sys2Proof.Machine.execSentinelCertify s
  | .tileBlendComplete output tile pipe => Sys2Proof.Machine.execTileBlendComplete output tile pipe s
  | .pagerFetchComplete cache index => Sys2Proof.Machine.execPagerFetchComplete cache index s
  | .engineWatchdogExpire engine => Sys2Proof.Machine.execEngineWatchdogExpire engine s
  | .tickPageFlush slot => Sys2Proof.Machine.execTickPageFlush slot s
  | .stepGapStart => Sys2Proof.Machine.execStepGapStart s
  | .timeStepApply => Sys2Proof.Machine.execTimeStepApply s
  | .outputFrameSendStart output => Sys2Proof.Machine.execOutputFrameSendStart output s
  | .videoPacketSend entry lateNs => Sys2Proof.Machine.execVideoPacketSend entry lateNs s
  | .loopbackTileCheck output path tile bytes => Sys2Proof.Machine.execLoopbackTileCheck output path tile bytes s
  | .stampSend entry => Sys2Proof.Machine.execStampSend entry s
  | .frsAckSource slot source => Sys2Proof.Machine.execFrsAckSource slot source s
  | .frsAckAll slot => Sys2Proof.Machine.execFrsAckAll slot s
  | .layoutRequest slot index => Sys2Proof.Machine.execLayoutRequest slot index s
  | .layoutCancel slot => Sys2Proof.Machine.execLayoutCancel slot s
  | .layoutPrepareComplete => Sys2Proof.Machine.execLayoutPrepareComplete s
  | .layoutTimeout => Sys2Proof.Machine.execLayoutTimeout s
  | .moorSpillMoveComplete => Sys2Proof.Machine.execMoorSpillMoveComplete s
  | .outOwnerWrite slot output owner => Sys2Proof.Machine.execOutOwnerWrite slot output owner s
  | .berthQuery slot berth => Sys2Proof.Machine.execBerthQuery slot berth s
  | .berthPinSource slot source => Sys2Proof.Machine.execBerthPinSource slot source s
  | .berthPinOutput slot output => Sys2Proof.Machine.execBerthPinOutput slot output s
  | .berthPinRelease slot => Sys2Proof.Machine.execBerthPinRelease slot s
  | .poolConfigWrite slot addr value => Sys2Proof.Machine.execPoolConfigWrite slot addr value s
  | .matCommit slot index => Sys2Proof.Machine.execMatCommit slot index s
  | .matQuery slot index => Sys2Proof.Machine.execMatQuery slot index s
  | .ingestPacketReceive hdr pkt => Sys2Proof.Machine.execIngestPacketReceive hdr pkt s
  | .ingestSkewTimeout source ts => Sys2Proof.Machine.execIngestSkewTimeout source ts s
  | .streamPacketReceive hdr pkt => Sys2Proof.Machine.execStreamPacketReceive hdr pkt s
  | .accessUnitIdleClose session => Sys2Proof.Machine.execAccessUnitIdleClose session s
  | .decodePictureComplete session result => Sys2Proof.Machine.execDecodePictureComplete session result s
  | .decOpen slot session => Sys2Proof.Machine.execDecOpen slot session s
  | .decClose slot session => Sys2Proof.Machine.execDecClose slot session s
  | .decResync slot session => Sys2Proof.Machine.execDecResync slot session s
  | .encOpen slot session => Sys2Proof.Machine.execEncOpen slot session s
  | .encClose slot session => Sys2Proof.Machine.execEncClose slot session s
  | .encRefresh slot session => Sys2Proof.Machine.execEncRefresh slot session s
  | .encBitRateWrite slot session bitRate bufPics => Sys2Proof.Machine.execEncBitRateWrite slot session bitRate bufPics s
  | .encCtuRowStart session => Sys2Proof.Machine.execEncCtuRowStart session s
  | .encSliceComplete session row => Sys2Proof.Machine.execEncSliceComplete session row s
  | .encDeadline session coded rows => Sys2Proof.Machine.execEncDeadline session coded rows s
  | .feedPacketSend session lateNs => Sys2Proof.Machine.execFeedPacketSend session lateNs s
  | .feedLoopbackCheck session path slice bytes => Sys2Proof.Machine.execFeedLoopbackCheck session path slice bytes s
  | .mediaFrameDrop hdr => Sys2Proof.Machine.execMediaFrameDrop hdr s
  | .arpRequestReceive hdr senderMac senderIp targetIp => Sys2Proof.Machine.execArpRequestReceive hdr senderMac senderIp targetIp s
  | .arpReplyReceive hdr senderMac senderIp targetIp => Sys2Proof.Machine.execArpReplyReceive hdr senderMac senderIp targetIp s
  | .arpRetryTimer port ip => Sys2Proof.Machine.execArpRetryTimer port ip s
  | .arpRefreshTimer port ip => Sys2Proof.Machine.execArpRefreshTimer port ip s
  | .icmpEchoRequest hdr payload => Sys2Proof.Machine.execIcmpEchoRequest hdr payload s
  | .igmpQueryReceive hdr version group => Sys2Proof.Machine.execIgmpQueryReceive hdr version group s
  | .igmpReportRepeat port => Sys2Proof.Machine.execIgmpReportRepeat port s
  | .igmpV2Timeout port => Sys2Proof.Machine.execIgmpV2Timeout port s
  | .rxFlowEnableWrite slot flow word => Sys2Proof.Machine.execRxFlowEnableWrite slot flow word s
  | .witnessStampReceive hdr pkt => Sys2Proof.Machine.execWitnessStampReceive hdr pkt s
  | .witnessVerdict => Sys2Proof.Machine.execWitnessVerdict s
  | .portEnable slot port word => Sys2Proof.Machine.execPortEnable slot port word s
  | .portDisable slot port word => Sys2Proof.Machine.execPortDisable slot port word s
  | .laneAnComplete port => Sys2Proof.Machine.execLaneAnComplete port s
  | .laneTrainComplete port inverted => Sys2Proof.Machine.execLaneTrainComplete port inverted s
  | .laneLockAcquired lane normal inverted markers => Sys2Proof.Machine.execLaneLockAcquired lane normal inverted markers s
  | .laneAlignComplete quad rxMap => Sys2Proof.Machine.execLaneAlignComplete quad rxMap s
  | .laneLockLoss lane => Sys2Proof.Machine.execLaneLockLoss lane s
  | .laneAttemptTimeout port => Sys2Proof.Machine.execLaneAttemptTimeout port s
  | .refclkLoss ref => Sys2Proof.Machine.execRefclkLoss ref s
  | .refclkRecover ref => Sys2Proof.Machine.execRefclkRecover ref s
  | .adaptFreeze lane signal => Sys2Proof.Machine.execAdaptFreeze lane signal s
  | .adaptResume lane => Sys2Proof.Machine.execAdaptResume lane s
  | .marginCheckTimer lane => Sys2Proof.Machine.execMarginCheckTimer lane s
  | .marginCheckComplete lane corners => Sys2Proof.Machine.execMarginCheckComplete lane corners s
  | .tetherEnable slot => Sys2Proof.Machine.execTetherEnable slot s
  | .tetherDisable slot => Sys2Proof.Machine.execTetherDisable slot s
  | .tetherAttemptStart => Sys2Proof.Machine.execTetherAttemptStart s
  | .tetherPartnerDetect => Sys2Proof.Machine.execTetherPartnerDetect s
  | .tetherAttemptTimeout => Sys2Proof.Machine.execTetherAttemptTimeout s
  | .tetherUp trained inverted => Sys2Proof.Machine.execTetherUp trained inverted s
  | .tetherWindowOpen window unlocked => Sys2Proof.Machine.execTetherWindowOpen window unlocked s
  | .tetherWindowClose window => Sys2Proof.Machine.execTetherWindowClose window s
  | .laneRetrainStart lane => Sys2Proof.Machine.execLaneRetrainStart lane s
  | .laneRetrainComplete lane => Sys2Proof.Machine.execLaneRetrainComplete lane s
  | .laneRetrainAbandon lane => Sys2Proof.Machine.execLaneRetrainAbandon lane s
  | .scanStart slot lane phase offset dwell => Sys2Proof.Machine.execScanStart slot lane phase offset dwell s
  | .scanComplete errors => Sys2Proof.Machine.execScanComplete errors s
  | .ptpAnnounceReceive hdr msg => Sys2Proof.Machine.execPtpAnnounceReceive hdr msg s
  | .ptpSyncReceive hdr msg => Sys2Proof.Machine.execPtpSyncReceive hdr msg s
  | .ptpFollowUpReceive hdr msg => Sys2Proof.Machine.execPtpFollowUpReceive hdr msg s
  | .ptpDelayRespReceive hdr msg => Sys2Proof.Machine.execPtpDelayRespReceive hdr msg s
  | .ptpDelayReqSend servo => Sys2Proof.Machine.execPtpDelayReqSend servo s
  | .ptpAnnounceTimeout servo => Sys2Proof.Machine.execPtpAnnounceTimeout servo s
  | .ptpSyncTimeout servo => Sys2Proof.Machine.execPtpSyncTimeout servo s
  | .timeRelock slot servo => Sys2Proof.Machine.execTimeRelock slot servo s
  | .timeSelect slot servo => Sys2Proof.Machine.execTimeSelect slot servo s
  | .timeCancel slot => Sys2Proof.Machine.execTimeCancel slot s
  | .timeNowRead slot => Sys2Proof.Machine.execTimeNowRead slot s
  | .tickOutPulseStart => Sys2Proof.Machine.execTickOutPulseStart s
  | .tickOutPulseEnd => Sys2Proof.Machine.execTickOutPulseEnd s
  | .trigEnableWrite slot trig word => Sys2Proof.Machine.execTrigEnableWrite slot trig word s
  | .trigPulseStart trig => Sys2Proof.Machine.execTrigPulseStart trig s
  | .trigPulseEnd trig => Sys2Proof.Machine.execTrigPulseEnd trig s
  | .captureEdge input rising => Sys2Proof.Machine.execCaptureEdge input rising s
  | .capturePop slot input => Sys2Proof.Machine.execCapturePop slot input s
  | .reinOutRelease => Sys2Proof.Machine.execReinOutRelease s
  | .reinReleasePattern => Sys2Proof.Machine.execReinReleasePattern s
  | .reinPulseReceive startUs widthUs => Sys2Proof.Machine.execReinPulseReceive startUs widthUs s
  | .pairReinStuck => Sys2Proof.Machine.execPairReinStuck s
  | .stateBurstStart => Sys2Proof.Machine.execStateBurstStart s
  | .tetherStateReceive hdr items => Sys2Proof.Machine.execTetherStateReceive hdr items s
  | .tetherMirrorReceive hdr writes => Sys2Proof.Machine.execTetherMirrorReceive hdr writes s
  | .tetherStateEndReceive hdr frames burstOk => Sys2Proof.Machine.execTetherStateEndReceive hdr frames burstOk s
  | .tetherSyncReceive hdr pages total endSeq => Sys2Proof.Machine.execTetherSyncReceive hdr pages total endSeq s
  | .tetherHealthReceive hdr msg => Sys2Proof.Machine.execTetherHealthReceive hdr msg s
  | .leaseCommitReceive hdr edge => Sys2Proof.Machine.execLeaseCommitReceive hdr edge s
  | .leaseRevertReceive hdr => Sys2Proof.Machine.execLeaseRevertReceive hdr s
  | .leaseRetrainReceive hdr lane => Sys2Proof.Machine.execLeaseRetrainReceive hdr lane s
  | .tetherDigestReceive hdr dig => Sys2Proof.Machine.execTetherDigestReceive hdr dig s
  | .tetherDecisionReceive hdr gives => Sys2Proof.Machine.execTetherDecisionReceive hdr gives s
  | .healthWordForm => Sys2Proof.Machine.execHealthWordForm s
  | .digestSend => Sys2Proof.Machine.execDigestSend s
  | .pairDecision => Sys2Proof.Machine.execPairDecision s
  | .pairStateStale => Sys2Proof.Machine.execPairStateStale s
  | .joiningTimeout => Sys2Proof.Machine.execJoiningTimeout s
  | .handoverTakeback => Sys2Proof.Machine.execHandoverTakeback s
  | .pairEnWrite slot word => Sys2Proof.Machine.execPairEnWrite slot word s
  | .pairHandover slot => Sys2Proof.Machine.execPairHandover slot s
  | .pairResync slot => Sys2Proof.Machine.execPairResync slot s
  | .resyncComplete => Sys2Proof.Machine.execResyncComplete s
  | .memRequest addr write off data who use => Sys2Proof.Machine.execMemRequest addr write off data who use s
  | .memReadResponse channel bits addrBits => Sys2Proof.Machine.execMemReadResponse channel bits addrBits s
  | .memRefreshDue channel bank => Sys2Proof.Machine.execMemRefreshDue channel bank s
  | .memStackTempHigh stack temp => Sys2Proof.Machine.execMemStackTempHigh stack temp s
  | .memScrubPassEnd => Sys2Proof.Machine.execMemScrubPassEnd s
  | .memFchgLock => Sys2Proof.Machine.execMemFchgLock s
  | .memFchgTimeout => Sys2Proof.Machine.execMemFchgTimeout s
  | .porAssert => Sys2Proof.Machine.execPorAssert s
  | .porRelease resetLow boot clkmode => Sys2Proof.Machine.execPorRelease resetLow boot clkmode s
  | .pinResetAssert heldNs => Sys2Proof.Machine.execPinResetAssert heldNs s
  | .pinResetRelease heldNs boot clkmode => Sys2Proof.Machine.execPinResetRelease heldNs boot clkmode s
  | .domainClockLock pd => Sys2Proof.Machine.execDomainClockLock pd s
  | .domainClockTimeout pd => Sys2Proof.Machine.execDomainClockTimeout pd s
  | .boot trained octal flashSize => Sys2Proof.Machine.execBoot trained octal flashSize s
  | .hostPushWrite addr data => Sys2Proof.Machine.execHostPushWrite addr data s
  | .pwrCmdWatch slot => Sys2Proof.Machine.execPwrCmdWatch slot s
  | .pwrCmdStandby slot => Sys2Proof.Machine.execPwrCmdStandby slot s
  | .pwrCmdReady slot => Sys2Proof.Machine.execPwrCmdReady slot s
  | .pwrCmdRun slot => Sys2Proof.Machine.execPwrCmdRun slot s
  | .spiStatus => Sys2Proof.Machine.execSpiStatus s
  | .spiRegWrite addr value => Sys2Proof.Machine.execSpiRegWrite addr value s
  | .spiRegRead addr => Sys2Proof.Machine.execSpiRegRead addr s
  | .spiDpWrite data => Sys2Proof.Machine.execSpiDpWrite data s
  | .spiDpFetch len => Sys2Proof.Machine.execSpiDpFetch len s
  | .spiDpFetchComplete => Sys2Proof.Machine.execSpiDpFetchComplete s
  | .spiDpRead => Sys2Proof.Machine.execSpiDpRead s
  | .spiInvalidTransaction => Sys2Proof.Machine.execSpiInvalidTransaction s
  | .fuhelOpen hdr => Sys2Proof.Machine.execFuhelOpen hdr s
  | .fuhelClose hdr => Sys2Proof.Machine.execFuhelClose hdr s
  | .fuhelRegRead hdr addrs => Sys2Proof.Machine.execFuhelRegRead hdr addrs s
  | .fuhelRegWrite hdr writes => Sys2Proof.Machine.execFuhelRegWrite hdr writes s
  | .fuhelDpWrite hdr target addr data => Sys2Proof.Machine.execFuhelDpWrite hdr target addr data s
  | .fuhelDpRead hdr target addr len => Sys2Proof.Machine.execFuhelDpRead hdr target addr len s
  | .fuhelEvqAck hdr count => Sys2Proof.Machine.execFuhelEvqAck hdr count s
  | .fuhelKeepalive hdr => Sys2Proof.Machine.execFuhelKeepalive hdr s
  | .fuhelReservedOp hdr op => Sys2Proof.Machine.execFuhelReservedOp hdr op s
  | .fuhelEventSend slot => Sys2Proof.Machine.execFuhelEventSend slot s
  | .fuhelEventRepeat slot => Sys2Proof.Machine.execFuhelEventRepeat slot s
  | .fuhelSessionTimeout slot => Sys2Proof.Machine.execFuhelSessionTimeout slot s
  | .evqPop slot => Sys2Proof.Machine.execEvqPop slot s
  | .lcToProduction slot => Sys2Proof.Machine.execLcToProduction slot s
  | .lcToDecommissioned slot => Sys2Proof.Machine.execLcToDecommissioned slot s
  | .debugUnlockResponse key signature slot => Sys2Proof.Machine.execDebugUnlockResponse key signature slot s
  | .debugAccess op => Sys2Proof.Machine.execDebugAccess op s
  | .updOpen slot unit => Sys2Proof.Machine.execUpdOpen slot unit s
  | .updClose slot unit => Sys2Proof.Machine.execUpdClose slot unit s
  | .updVerify slot unit => Sys2Proof.Machine.execUpdVerify slot unit s
  | .updVerifyDone => Sys2Proof.Machine.execUpdVerifyDone s
  | .updActivate slot unit => Sys2Proof.Machine.execUpdActivate slot unit s
  | .updSwap slot unit => Sys2Proof.Machine.execUpdSwap slot unit s
  | .updConfirm slot unit => Sys2Proof.Machine.execUpdConfirm slot unit s
  | .updRevert slot unit => Sys2Proof.Machine.execUpdRevert slot unit s
  | .updWindowWrite slot addr data => Sys2Proof.Machine.execUpdWindowWrite slot addr data s
  | .settingsWindowWrite slot addr data => Sys2Proof.Machine.execSettingsWindowWrite slot addr data s
  | .settingsProgramComplete => Sys2Proof.Machine.execSettingsProgramComplete s
  | .swapLoadComplete => Sys2Proof.Machine.execSwapLoadComplete s
  | .swapAbandon => Sys2Proof.Machine.execSwapAbandon s
  | .updSessionTimeout => Sys2Proof.Machine.execUpdSessionTimeout s
  | .chkData8 slot channel data => Sys2Proof.Machine.execChkData8 slot channel data s
  | .chkData16 slot channel data => Sys2Proof.Machine.execChkData16 slot channel data s
  | .chkData32 slot channel data => Sys2Proof.Machine.execChkData32 slot channel data s
  | .chkInit slot channel => Sys2Proof.Machine.execChkInit slot channel s
  | .chkFinish slot channel => Sys2Proof.Machine.execChkFinish slot channel s
  | .chkRange slot channel => Sys2Proof.Machine.execChkRange slot channel s
  | .chkRangeComplete => Sys2Proof.Machine.execChkRangeComplete s
  | .perfSnap slot edge => Sys2Proof.Machine.execPerfSnap slot edge s
  | .perfStart slot edge => Sys2Proof.Machine.execPerfStart slot edge s
  | .perfStop slot edge => Sys2Proof.Machine.execPerfStop slot edge s
  | .perfClear slot edge => Sys2Proof.Machine.execPerfClear slot edge s
  | .perfBwWindow => Sys2Proof.Machine.execPerfBwWindow s
  | .perfSample output row col unit => Sys2Proof.Machine.execPerfSample output row col unit s
  | .perfSamplePop slot => Sys2Proof.Machine.execPerfSamplePop slot s
  | .bboxEntryWrite => Sys2Proof.Machine.execBboxEntryWrite s
  | .bboxArm slot => Sys2Proof.Machine.execBboxArm slot s
  | .bboxMark slot value => Sys2Proof.Machine.execBboxMark slot value s
  | .touchScan key reading => Sys2Proof.Machine.execTouchScan key reading s
  | .touchRebase slot key => Sys2Proof.Machine.execTouchRebase slot key s
  | .touchRebaseAll slot => Sys2Proof.Machine.execTouchRebaseAll slot s
  | .touchGainWrite slot key word => Sys2Proof.Machine.execTouchGainWrite slot key word s
  | .touchEnWrite slot ctrl word => Sys2Proof.Machine.execTouchEnWrite slot ctrl word s
  | .gpioInputEdge pin level => Sys2Proof.Machine.execGpioInputEdge pin level s
  | .thermalAlarm => Sys2Proof.Machine.execThermalAlarm s
  | .thermalClear => Sys2Proof.Machine.execThermalClear s
  | .memWriteAck channel bits => Sys2Proof.Machine.execMemWriteAck channel bits s
  | .memStackTempNormal stack temp => Sys2Proof.Machine.execMemStackTempNormal stack temp s
  | .sramBistComplete ok => Sys2Proof.Machine.execSramBistComplete ok s
  | .updFlashWriteComplete => Sys2Proof.Machine.execUpdFlashWriteComplete s

end Sys2Proof.Machine
end

