-- ==== Sys2Proof/WellFormed.lean ====
section
/-!
DEFINITION. Which operands a command can carry: the number of slots, sessions, lanes, keys and so on that the spec
gives the block, and the widths of words and addresses on the buses they come from. No command outside these
bounds can reach the block; `exec` asks nothing of them (log entry 2).
-/

namespace Sys2Proof

/-- A 32-bit word of a register access (R6). -/
def okWord (v : Nat) : Bool := decide (v < 2 ^ 32)

/-- A MAC address. -/
def okMac (v : Nat) : Bool := decide (v < 2 ^ 48)

/-- An IPv4 address. -/
def okIp (v : Nat) : Bool := decide (v < 2 ^ 32)

/-- A media port P0 to P27, or 32 for the management port (R206, R372). -/
def okPort (p : Nat) : Bool := decide (p < 28) || decide (p = 32)

/-- A power domain PD0 to PD11 (R337). -/
def okDomain (n : Nat) : Bool := decide (n < 12)

/-- The header of a frame: each field within its width. -/
def RxHdr.ok (h : RxHdr) : Bool :=
  okPort h.port && okMac h.dstMac && okMac h.srcMac && decide (h.etype < 65536) && okIp h.src && okIp h.dst
  && decide (h.proto < 256) && decide (h.sport < 65536) && decide (h.dport < 65536)

/-- The header of a Fuhel request (R373): 32-bit SESSION and SEQ, a slot byte. -/
def FuhelHdr.ok (h : FuhelHdr) : Bool :=
  h.rx.ok && decide (h.session < 2 ^ 32) && decide (h.seq < 2 ^ 32) && decide (h.slot < 256)

/-- The header of a tether frame (R283): one of four lanes, and each field within its width. -/
def TetherHdr.ok (h : TetherHdr) : Bool :=
  decide (h.lane < 4) && decide (h.unit < 256) && decide (h.alive < 256) && decide (h.tick < 2 ^ 64) && okWord h.epoch

/-- A debug access: a slot, register words and data-port addresses. -/
def DebugOp.ok (op : DebugOp) : Bool :=
  match op with
  | .setSlot slot => decide (slot < 8)
  | .regRead addr => okWord addr
  | .regWrite addr value => okWord addr && okWord value
  | .dpRead target addr _ => decide (target < 256) && decide (addr < 2 ^ 64)
  | .dpWrite target addr _ => decide (target < 256) && decide (addr < 2 ^ 64)

/-- The operands of a command are ones that it can carry. -/
def Instr.wf (i : Instr) : Bool :=
  match i with
  | .registerWrite slot addr _ value hwSet => decide (slot < 8) && okWord addr && okWord value && okWord hwSet
  | .rcRead slot addr inc => decide (slot < 8) && okWord addr && okWord inc
  | .loReadLatch slot addr => decide (slot < 8) && okWord addr
  | .loWriteHold slot addr value => decide (slot < 8) && okWord addr && okWord value
  | .hiWriteApply slot addr value => decide (slot < 8) && okWord addr && okWord value
  | .tickEdge _ _ => true
  | .layoutLate => true
  | .workListPublished => true
  | .sentinelPublishCheck => true
  | .sealDeadline => true
  | .katComplete _ => true
  | .sentinelCertify => true
  | .tileBlendComplete output tile pipe => decide (output < 32) && decide (tile < 256) && decide (pipe < 8)
  | .pagerFetchComplete _ _ => true
  | .engineWatchdogExpire engine => decide (engine < 16)
  | .tickPageFlush slot => decide (slot < 8)
  | .stepGapStart => true
  | .timeStepApply => true
  | .outputFrameSendStart output => decide (output < 32)
  | .videoPacketSend entry _ => decide (entry < 64)
  | .loopbackTileCheck output path tile _ => decide (output < 32) && decide (path < 2) && decide (tile < 256)
  | .stampSend entry => decide (entry < 64)
  | .frsAckSource slot source => decide (slot < 8) && decide (source < 256)
  | .frsAckAll slot => decide (slot < 8)
  | .layoutRequest slot index => decide (slot < 8) && decide (index < 65536)
  | .layoutCancel slot => decide (slot < 8)
  | .layoutPrepareComplete => true
  | .layoutTimeout => true
  | .moorSpillMoveComplete => true
  | .outOwnerWrite slot output owner => decide (slot < 8) && decide (output < 32) && decide (owner < 8)
  | .berthQuery slot berth => decide (slot < 8) && decide (berth < 16384)
  | .berthPinSource slot source => decide (slot < 8) && decide (source < 256)
  | .berthPinOutput slot output => decide (slot < 8) && decide (output < 32)
  | .berthPinRelease slot => decide (slot < 8)
  | .poolConfigWrite slot addr value => decide (slot < 8) && okWord addr && okWord value
  | .matCommit slot index => decide (slot < 8) && decide (index < 256)
  | .matQuery slot index => decide (slot < 8) && decide (index < 256)
  | .ingestPacketReceive hdr _ => hdr.ok
  | .ingestSkewTimeout source _ => decide (source < 256)
  | .streamPacketReceive hdr _ => hdr.ok
  | .accessUnitIdleClose session => decide (session < 256)
  | .decodePictureComplete session _ => decide (session < 256)
  | .decOpen slot session => decide (slot < 8) && decide (session < 256)
  | .decClose slot session => decide (slot < 8) && decide (session < 256)
  | .decResync slot session => decide (slot < 8) && decide (session < 256)
  | .encOpen slot session => decide (slot < 8) && decide (session < 32)
  | .encClose slot session => decide (slot < 8) && decide (session < 32)
  | .encRefresh slot session => decide (slot < 8) && decide (session < 32)
  | .encBitRateWrite slot session _ _ => decide (slot < 8) && decide (session < 32)
  | .encCtuRowStart session => decide (session < 32)
  | .encSliceComplete session _ => decide (session < 32)
  | .encDeadline session _ _ => decide (session < 32)
  | .feedPacketSend session _ => decide (session < 32)
  | .feedLoopbackCheck session path _ _ => decide (session < 32) && decide (path < 2)
  | .mediaFrameDrop hdr => hdr.ok
  | .arpRequestReceive hdr senderMac senderIp targetIp => hdr.ok && okIp senderIp && okIp targetIp && okMac senderMac
  | .arpReplyReceive hdr senderMac senderIp targetIp => hdr.ok && okIp senderIp && okIp targetIp && okMac senderMac
  | .arpRetryTimer port ip => okPort port && okIp ip
  | .arpRefreshTimer port ip => okPort port && okIp ip
  | .icmpEchoRequest hdr _ => hdr.ok
  | .igmpQueryReceive hdr _ _ => hdr.ok
  | .igmpReportRepeat port => okPort port
  | .igmpV2Timeout port => okPort port
  | .rxFlowEnableWrite slot flow word => decide (slot < 8) && decide (flow < 512) && okWord word
  | .witnessStampReceive hdr _ => hdr.ok
  | .witnessVerdict => true
  | .portEnable slot port word => decide (slot < 8) && decide (port < 28) && okWord word
  | .portDisable slot port word => decide (slot < 8) && decide (port < 28) && okWord word
  | .laneAnComplete port => decide (port < 28)
  | .laneTrainComplete port _ => decide (port < 28)
  | .laneLockAcquired lane _ _ _ => decide (lane < 32)
  | .laneAlignComplete quad _ => decide (quad < 7)
  | .laneLockLoss lane => decide (lane < 32)
  | .laneAttemptTimeout port => decide (port < 28)
  | .refclkLoss ref => decide (ref < 3)
  | .refclkRecover ref => decide (ref < 3)
  | .adaptFreeze lane _ => decide (lane < 32)
  | .adaptResume lane => decide (lane < 32)
  | .marginCheckTimer lane => decide (lane < 32)
  | .marginCheckComplete lane _ => decide (lane < 32)
  | .tetherEnable slot => decide (slot < 8)
  | .tetherDisable slot => decide (slot < 8)
  | .tetherAttemptStart => true
  | .tetherPartnerDetect => true
  | .tetherAttemptTimeout => true
  | .tetherUp _ _ => true
  | .tetherWindowOpen _ _ => true
  | .tetherWindowClose _ => true
  | .laneRetrainStart lane => decide (lane < 32)
  | .laneRetrainComplete lane => decide (lane < 32)
  | .laneRetrainAbandon lane => decide (lane < 32)
  | .scanStart slot lane _ _ _ => decide (slot < 8) && decide (lane < 32)
  | .scanComplete _ => true
  | .ptpAnnounceReceive hdr _ => hdr.ok
  | .ptpSyncReceive hdr _ => hdr.ok
  | .ptpFollowUpReceive hdr _ => hdr.ok
  | .ptpDelayRespReceive hdr _ => hdr.ok
  | .ptpDelayReqSend servo => decide (servo < 2)
  | .ptpAnnounceTimeout servo => decide (servo < 2)
  | .ptpSyncTimeout servo => decide (servo < 2)
  | .timeRelock slot servo => decide (slot < 8) && decide (servo < 2)
  | .timeSelect slot servo => decide (slot < 8) && decide (servo < 2)
  | .timeCancel slot => decide (slot < 8)
  | .timeNowRead slot => decide (slot < 8)
  | .tickOutPulseStart => true
  | .tickOutPulseEnd => true
  | .trigEnableWrite slot trig word => decide (slot < 8) && decide (trig < 4) && okWord word
  | .trigPulseStart trig => decide (trig < 4)
  | .trigPulseEnd trig => decide (trig < 4)
  | .captureEdge input _ => decide (input < 4)
  | .capturePop slot input => decide (slot < 8) && decide (input < 4)
  | .reinOutRelease => true
  | .reinReleasePattern => true
  | .reinPulseReceive _ _ => true
  | .pairReinStuck => true
  | .stateBurstStart => true
  | .tetherStateReceive hdr _ => hdr.ok
  | .tetherMirrorReceive hdr _ => hdr.ok
  | .tetherStateEndReceive hdr _ _ => hdr.ok
  | .tetherSyncReceive hdr _ _ _ => hdr.ok
  | .tetherHealthReceive hdr _ => hdr.ok
  | .leaseCommitReceive hdr _ => hdr.ok
  | .leaseRevertReceive hdr => hdr.ok
  | .leaseRetrainReceive hdr lane => hdr.ok && decide (lane < 4)
  | .tetherDigestReceive hdr _ => hdr.ok
  | .tetherDecisionReceive hdr _ => hdr.ok
  | .healthWordForm => true
  | .digestSend => true
  | .pairDecision => true
  | .pairStateStale => true
  | .joiningTimeout => true
  | .handoverTakeback => true
  | .pairEnWrite slot word => decide (slot < 8) && okWord word
  | .pairHandover slot => decide (slot < 8)
  | .pairResync slot => decide (slot < 8)
  | .resyncComplete => true
  | .memRequest addr _ _ _ _ _ => decide (addr < 2 ^ 40)
  | .memReadResponse channel _ _ => decide (channel < 32)
  | .memRefreshDue channel _ => decide (channel < 32)
  | .memStackTempHigh stack _ => decide (stack < 2)
  | .memScrubPassEnd => true
  | .memFchgLock => true
  | .memFchgTimeout => true
  | .porAssert => true
  | .porRelease _ _ _ => true
  | .pinResetAssert _ => true
  | .pinResetRelease _ _ _ => true
  | .domainClockLock pd => okDomain pd
  | .domainClockTimeout pd => okDomain pd
  | .boot _ _ _ => true
  | .hostPushWrite _ _ => true
  | .pwrCmdWatch slot => decide (slot < 8)
  | .pwrCmdStandby slot => decide (slot < 8)
  | .pwrCmdReady slot => decide (slot < 8)
  | .pwrCmdRun slot => decide (slot < 8)
  | .spiStatus => true
  | .spiRegWrite addr value => okWord addr && okWord value
  | .spiRegRead addr => okWord addr
  | .spiDpWrite data => decide (1 ≤ data.length) && decide (data.length ≤ 256)
  | .spiDpFetch len => decide (1 ≤ len) && decide (len ≤ 256)
  | .spiDpFetchComplete => true
  | .spiDpRead => true
  | .spiInvalidTransaction => true
  | .fuhelOpen hdr => hdr.ok
  | .fuhelClose hdr => hdr.ok
  | .fuhelRegRead hdr _ => hdr.ok
  | .fuhelRegWrite hdr _ => hdr.ok
  | .fuhelDpWrite hdr _ addr _ => hdr.ok && decide (addr < 2 ^ 64)
  | .fuhelDpRead hdr _ addr _ => hdr.ok && decide (addr < 2 ^ 64)
  | .fuhelEvqAck hdr _ => hdr.ok
  | .fuhelKeepalive hdr => hdr.ok
  | .fuhelReservedOp hdr _ => hdr.ok
  | .fuhelEventSend slot => decide (slot < 8)
  | .fuhelEventRepeat slot => decide (slot < 8)
  | .fuhelSessionTimeout slot => decide (slot < 8)
  | .evqPop slot => decide (slot < 8)
  | .lcToProduction slot => decide (slot < 8)
  | .lcToDecommissioned slot => decide (slot < 8)
  | .debugUnlockResponse _ _ slot => decide (slot < 8)
  | .debugAccess op => op.ok
  | .updOpen slot unit => decide (slot < 8) && decide (unit < 4)
  | .updClose slot unit => decide (slot < 8) && decide (unit < 4)
  | .updVerify slot unit => decide (slot < 8) && decide (unit < 4)
  | .updVerifyDone => true
  | .updActivate slot unit => decide (slot < 8) && decide (unit < 4)
  | .updSwap slot unit => decide (slot < 8) && decide (unit < 4)
  | .updConfirm slot unit => decide (slot < 8) && decide (unit < 4)
  | .updRevert slot unit => decide (slot < 8) && decide (unit < 4)
  | .updWindowWrite slot _ _ => decide (slot < 8)
  | .settingsWindowWrite slot _ _ => decide (slot < 8)
  | .settingsProgramComplete => true
  | .swapLoadComplete => true
  | .swapAbandon => true
  | .updSessionTimeout => true
  | .chkData8 slot channel data => decide (slot < 8) && decide (channel < 64) && decide (data < 256)
  | .chkData16 slot channel data => decide (slot < 8) && decide (channel < 64) && decide (data < 65536)
  | .chkData32 slot channel data => decide (slot < 8) && decide (channel < 64) && okWord data
  | .chkInit slot channel => decide (slot < 8) && decide (channel < 64)
  | .chkFinish slot channel => decide (slot < 8) && decide (channel < 64)
  | .chkRange slot channel => decide (slot < 8) && decide (channel < 64)
  | .chkRangeComplete => true
  | .perfSnap slot _ => decide (slot < 8)
  | .perfStart slot _ => decide (slot < 8)
  | .perfStop slot _ => decide (slot < 8)
  | .perfClear slot _ => decide (slot < 8)
  | .perfBwWindow => true
  | .perfSample output row col unit => decide (output < 32) && decide (row < 16) && decide (col < 16) && decide (unit < 8)
  | .perfSamplePop slot => decide (slot < 8)
  | .bboxEntryWrite => true
  | .bboxArm slot => decide (slot < 8)
  | .bboxMark slot value => decide (slot < 8) && okWord value
  | .touchScan key reading => decide (key < 32) && decide (reading < 65536)
  | .touchRebase slot key => decide (slot < 8) && decide (key < 32)
  | .touchRebaseAll slot => decide (slot < 8)
  | .touchGainWrite slot key word => decide (slot < 8) && decide (key < 32) && okWord word
  | .touchEnWrite slot _ word => decide (slot < 8) && okWord word
  | .gpioInputEdge pin _ => decide (pin < 24)
  | .thermalAlarm => true
  | .thermalClear => true
  | .memWriteAck channel _ => decide (channel < 32)
  | .memStackTempNormal stack _ => decide (stack < 2)
  | .sramBistComplete _ => true
  | .updFlashWriteComplete => true

end Sys2Proof
end

