-- ==== Sys2Proof/Safety.lean ====
section
/-!
DEFINITION. The terms that statements about runs use: when a host's access is carried out at once, what it is to run
a command, and the forms of memory that every step keeps.
-/

namespace Sys2Proof.Machine

/-- Running command `c` in state `s` answers the next state `t`. -/
def runs (c : Instr) (s t : State) : Prop := exec c s = .next t

/-- The response to a Fuhel request, as the unit sends it (R373). -/
def Chip.response (c : Chip) (q : FuhelHdr) (op session status : Nat) (body : List Byte) : Out :=
  .fuhel q.rx.port (c.dev.txTag q.rx.port) (c.dev.unitAddr q.rx.port) q.rx.src q.rx.sport (op + 128) session q.seq q.slot status body
    (fuhelBytes (op + 128) session q.seq q.slot status body)

/-- DRAM and flash are in their canonical form. -/
def Memory.wf (m : Memory) : Bool := m.dram.wf && m.flash.wf

/-- The slot's write of word `w` to register `r`, instance `i`, is carried out when it comes: PD1 is on, no access
fault is found (R6, R7, R350, R385), the unit's role admits it (R281), it is not held for the next edge (R292), and it
is not dropped by a rule of its block (R10, R215, R254, R415, R466). -/
def Chip.admits (c : Chip) (slot : Nat) (r : RegRow) (i w : Nat) : Bool :=
  let a := r.base + r.stride * i
  c.dev.pd1On && (c.dev.regFault slot a 32 true).isNone && !c.dev.roleRefuses (a / 65536) (isEvq a)
  && !(c.dev.defers && carried a) && !(c.dev.ownDrop r i w).1 && !c.dev.reservedWrite r i w && !c.dev.busyWrite r slot i w

/-- The slot's read of register `r`, instance `i`, is carried out: PD1 is on and no access fault is found. -/
def Chip.admitsRead (c : Chip) (slot : Nat) (r : RegRow) (i : Nat) : Bool :=
  c.dev.pd1On && (c.dev.regFault slot (r.base + r.stride * i) 32 false).isNone

/-- A Fuhel request is for its slot: PD1 is on, the frame is classified as Fuhel (R213), and it comes on the route and
from the peer of the slot (R368). -/
def Chip.hears (c : Chip) (q : FuhelHdr) : Bool :=
  let d := c.dev.countRx q.rx
  c.dev.pd1On && decide (d.classify q.rx = .fuhel) && d.slotBound q.slot q.rx

/-- A Fuhel request is the next one of its slot's session `x` (R375). -/
def Chip.inSession (c : Chip) (q : FuhelHdr) (x : FuhelSess) : Prop :=
  c.hears q = true ∧ c.dev.sess q.slot = some x ∧ x.num = q.session ∧ x.ip = q.rx.src ∧ q.seq = (x.seq + 1) % 2 ^ 32

/-- The SPI port serves slot `h`: PD1 is on, boot is over, and `h` is bound to it (R369). -/
def Chip.spiServes (c : Chip) (h : Nat) : Prop :=
  c.dev.pd1On = true ∧ c.dev.inBoot = false ∧ c.dev.spiSlot = some h

/-- A data-port write of `l` at `a` to DRAM is carried out: region table (R386), role (R281) and mirror room (R291). -/
def Chip.takesBytes (c : Chip) (slot a : Nat) (l : List Byte) : Prop :=
  c.dev.inBoot = false ∧ c.dev.dramRefused slot a l.length true = none ∧ c.dev.roleRefuses 20 false = false ∧
  c.dev.mirrorFull l.length = false ∧ c.mem.badPartial a l.length = []

/-- The bytes `l` stand at `a`, and every other byte of DRAM reads as it did in `m`. -/
def Memory.storedAt (m m' : Memory) (a : Nat) (l : List Byte) : Prop :=
  (∀ k, (h : k < l.length) → Dram.read m'.dram (a + k) = l[k]) ∧
  (∀ x, x < a ∨ a + l.length ≤ x → Dram.read m'.dram x = Dram.read m.dram x)

/-- Every register field that `p` picks reads in `e` as in `d`: the shared registers and the copies of the slots. -/
def Device.keeps (d e : Device) (p : Fld → Bool) : Prop :=
  (∀ f i, p f = true → e.get f i = d.get f i) ∧ (∀ f h i, p f = true → e.getS f h i = d.getS f h i)

/-- The fields that are not in a list; what a full event queue changes (R381) is left out as well. -/
def but (l : List Fld) (f : Fld) : Bool :=
  !((l ++ [F.HOST_EVENTS_EVQ_OVERFLOW, F.HOST_EVQ_STATUS_OVERFLOW, F.HOST_EVQ_STATUS_DROPPED]).map Fld.id).contains f.id

/-- The fields of the blocks that are not in a list, by the number of the block in R5; what a full event queue
changes is left out as well. -/
def outside (bs : List Nat) (f : Fld) : Bool := but [] f && !bs.contains (f.id / 2097152)

/-- The fields that a fault of an access writes (R380). -/
def faultFields : List Fld :=
  [F.HOST_SLOT_STATUS_FAULT_REASON, F.HOST_FAULT_ADDR_LO_ADDR_LO, F.HOST_FAULT_ADDR_HI_TARGET, F.HOST_FAULT_ADDR_HI_ADDR_HI,
   F.HOST_EVENTS_FAULT]

/-- The registers whose reads do something of their own beside clearing RC fields and latching a high half (R270,
R276, R381, R420). -/
def popRow (r : RegRow) : Bool :=
  [R.HOST_EVQ_POP0, R.PERF_SAMPLE_POP, R.TIME_NOW_NS, R.TIME_CAP_NS].any (fun (q : RegRow) => decide (q.base = r.base)) || latchedBy r

/-- The header of a tether frame that a command receives, with the type of the frame (R283). -/
def tetherFrame (c : Instr) : Option (Nat × TetherHdr) :=
  match c with
  | .tetherStateReceive h _ => some (0x01, h)
  | .tetherMirrorReceive h _ => some (0x02, h)
  | .tetherStateEndReceive h _ _ => some (0x03, h)
  | .tetherSyncReceive h _ _ _ => some (0x04, h)
  | .tetherHealthReceive h _ => some (0x10, h)
  | .leaseCommitReceive h _ => some (0x11, h)
  | .leaseRevertReceive h => some (0x11, h)
  | .leaseRetrainReceive h _ => some (0x11, h)
  | .tetherDigestReceive h _ => some (0x20, h)
  | .tetherDecisionReceive h _ => some (0x21, h)
  | _ => none

/-- The unit listens on the lane of a tether frame: one of a pair, in a tick of RUN, the lane usable (R284). -/
def Device.listensOn (d : Device) (h : TetherHdr) : Bool :=
  decide (d.role ≠ 0) && d.inRun && d.ticking && !d.tick.gap && d.tetherHears (28 + h.lane % 4)

/-- The registers that a write only stores to: those of the blocks RST and GPIO. -/
def storeOnly (r : RegRow) : Bool := decide (r.base / 65536 = 1) || decide (r.base / 65536 = 19)

end Sys2Proof.Machine
end

