-- ==== Sys2Proof/Certificates/Slice0/Obligations.lean ====
section
/-!
DEFINITION. The statements about the model: what its commands do, what they leave alone, and what every step keeps.
-/

open Sys2Proof Sys2Proof.Machine

/-- With command c at the front of the queue, step answers exactly what exec answers for c on the state with c taken
off the queue. (The queue of waiting commands is the model's interface, not a rule of the spec: log entry 1.) -/
def Obligations.StepRunsTheFrontCommand : Prop :=
  ∀ (c : Instr) (rest : List Instr) (s : State), s.pending = c :: rest → step s = exec c { s with pending := rest }

/-- On an empty queue step answers a next state in which the crystal's count is one higher, memory, the event queues,
the power state and every register are as before. That idle steps are one nanosecond is the model's choice (log entry
1), not a rule of the spec. -/
def Obligations.EmptyQueueLetsTimePass : Prop :=
  ∀ s : State, s.pending = [] → ∃ t, step s = .next t ∧ t.pending = [] ∧ t.chip.mem = s.chip.mem ∧
    t.chip.dev.now = s.chip.dev.now + 1 ∧ t.chip.dev.regs = s.chip.dev.regs ∧ t.chip.dev.evq = s.chip.dev.evq ∧
    t.chip.dev.pwr = s.chip.dev.pwr ∧ t.chip.dev.devNs ≥ s.chip.dev.devNs ∧ t.chip.dev.out = []

/-- For every command and every state exec answers a next state (no command of this block ends in a fault or a
refusal), and the queue of waiting commands is as before. The queue is the model's interface (log entry 1). -/
def Obligations.EveryCommandAnswersANextState : Prop :=
  ∀ (c : Instr) (s : State), ∃ t, exec c s = .next t ∧ t.pending = s.pending

/-- After boot, a register write of a slot inside the map whose width is not 32 bits or whose address is not a
multiple of 4 ends with FAULT and reason ALIGN; one of 32 bits at an aligned address at or above 0x140000 with reason
RANGE; one that is both misaligned (or of another width) and outside the map with one of the two reasons; one of a
block on which the slot lacks read-write permission, at a register that is not its own copy, with reason PERM. A read
at a misaligned address or outside the map likewise, and the data is 0. The fault records reason and address for the
slot and raises HOST_FAULT; every other register and memory stay. (R6, R7, R380, R385) -/
def Obligations.RegisterAccessFaults : Prop :=
  ∀ (s : State) (slot a : Nat), slot < 8 → a < 2 ^ 32 → s.chip.dev.pd1On = true → s.chip.dev.inBoot = false →
    let d := s.chip.dev
    let faulted (why : Nat) (data : List Byte) (t : State) : Prop :=
      t.chip.dev.getS F.HOST_SLOT_STATUS_FAULT_REASON slot = why ∧ t.chip.dev.getS F.HOST_FAULT_ADDR_LO_ADDR_LO slot = a ∧
      t.chip.dev.get F.HOST_EVENTS_FAULT = 1 ∧ t.chip.dev.out = [.result slot resFault data] ∧
      d.keeps t.chip.dev (but faultFields) ∧ t.chip.mem = s.chip.mem
    (∀ width w, a < 0x140000 → width ≠ 32 ∨ a % 4 ≠ 0 → ∃ t, exec (.registerWrite slot a width w 0) s = .next t ∧ faulted whyAlign [] t) ∧
    (∀ w, a % 4 = 0 → 0x140000 ≤ a → ∃ t, exec (.registerWrite slot a 32 w 0) s = .next t ∧ faulted whyRange [] t) ∧
    (∀ w r i, a % 4 = 0 → findReg a = some (r, i) → r.perSlot = false → d.perm slot (a / 65536) ≠ 2 →
      ∃ t, exec (.registerWrite slot a 32 w 0) s = .next t ∧ faulted whyPerm [] t) ∧
    (a < 0x140000 → a % 4 ≠ 0 → ∃ t, exec (.rcRead slot a 0) s = .next t ∧ faulted whyAlign [0, 0, 0, 0] t) ∧
    (∀ width w, 0x140000 ≤ a → width ≠ 32 ∨ a % 4 ≠ 0 →
      ∃ t, exec (.registerWrite slot a width w 0) s = .next t ∧ (faulted whyAlign [] t ∨ faulted whyRange [] t)) ∧
    (0x140000 ≤ a → a % 4 ≠ 0 →
      ∃ t, exec (.rcRead slot a 0) s = .next t ∧ (faulted whyAlign [0, 0, 0, 0] t ∨ faulted whyRange [0, 0, 0, 0] t)) ∧
    (a % 4 = 0 → 0x140000 ≤ a → ∃ t, exec (.rcRead slot a 0) s = .next t ∧ faulted whyRange [0, 0, 0, 0] t)

/-- Where the slot may access the block and no register is defined at the address, a write that is not refused by
role nor held for the edge answers OK and changes no register and no memory, and a read answers OK with the word 0.
(R8) -/
def Obligations.UndefinedOffsetsReadZeroAndIgnoreWrites : Prop :=
  ∀ (s : State) (slot a w : Nat), slot < 8 → a < 0x140000 → findReg a = none → s.chip.dev.pd1On = true →
    (s.chip.dev.regFault slot a 32 true = none → s.chip.dev.roleRefuses (a / 65536) (isEvq a) = false →
      (s.chip.dev.defers && carried a) = false →
      ∃ t, exec (.registerWrite slot a 32 w 0) s = .next t ∧ t.chip.mem = s.chip.mem ∧
        t.chip.dev = { s.chip.dev with out := [.result slot resOk []] }) ∧
    (s.chip.dev.regFault slot a 32 false = none →
      ∃ t, exec (.rcRead slot a 0) s = .next t ∧ t.chip.mem = s.chip.mem ∧
        t.chip.dev = { s.chip.dev with out := [.result slot resOk [0, 0, 0, 0]] })

/-- A register write that reaches the register, that is no low half (which R16 holds without applying it), and that
places a reserved encoding into some field, of the register or of the low half held for it (R10), or would change an
RWS field of these while its block is not idle (R466): every register keeps its value but SYS_CFG_DROP, which names
slot and address, and CFG_DROPPED, which is set; nothing else of the block changes, memory stays, and the host reads
the result OK. (R10, R466) -/
def Obligations.ReservedAndBusyWritesAreDropped : Prop :=
  ∀ (s : State) (slot a w : Nat) (r : RegRow) (i : Nat), slot < 8 → a < 0x140000 → w < 2 ^ 32 → findReg a = some (r, i) →
    r.isLo = false → s.chip.dev.pd1On = true → s.chip.dev.regFault slot a 32 true = none →
    s.chip.dev.roleRefuses (a / 65536) (isEvq a) = false → (s.chip.dev.defers && carried a) = false →
    (s.chip.dev.ownDrop r i w).1 = false →
    (∃ q ∈ s.chip.dev.writeWords r slot i w, s.chip.dev.reservedWrite q.1 i q.2 = true ∨ s.chip.dev.busyWrite q.1 slot i q.2 = true) →
    ∃ t, exec (.registerWrite slot a 32 w 0) s = .next t ∧ t.chip.mem = s.chip.mem ∧
      s.chip.dev.keeps t.chip.dev (but [F.SYS_CFG_DROP_SLOT, F.SYS_CFG_DROP_ADDR, F.SYS_EVENTS_CFG_DROPPED]) ∧
      t.chip.dev.get F.SYS_EVENTS_CFG_DROPPED = 1 ∧ t.chip.dev.get F.SYS_CFG_DROP_SLOT = slot ∧
      t.chip.dev.get F.SYS_CFG_DROP_ADDR = a ∧ t.chip.dev.rwt = s.chip.dev.rwt ∧ (r.lowOf = none → t.chip.dev.held = s.chip.dev.held) ∧
      t.chip.dev.out = [.result slot resOk []]

/-- For an admitted write to a register of RST or GPIO, which have no effect beside storing: an RW field holds the
written bits, an RO field stays, and a W1C field loses the bits written as 1 except those that hardware sets in the
same cycle. For TICK_ADM_MARGIN and every other TICK register but TICK_PAGE_FLUSH, an RWT field holds the written
bits at once outside RUN; in RUN it keeps its value and the written bits wait for the edge, whatever waited before.
Memory and the registers outside the row stay, but for the level and tier of open encode sessions, which a written
TICK_CTRL computes anew (rests on R182). (rests on R11, R12, R13) -/
def Obligations.FieldsFollowTheirAccessCodes : Prop :=
  ∀ (s : State) (slot w set : Nat) (r : RegRow) (i : Nat), slot < 8 → w < 2 ^ 32 → i < r.count →
    findReg (r.base + r.stride * i) = some (r, i) → s.chip.admits slot r i w = true →
    (storeOnly r = true →
      ∃ t, exec (.registerWrite slot (r.base + r.stride * i) 32 w set) s = .next t ∧ t.chip.mem = s.chip.mem ∧
        t.chip.dev.out = [.result slot resOk []] ∧ s.chip.dev.keeps t.chip.dev (but r.flds) ∧
        ∀ f ∈ r.flds,
          (f.acc = .rw → t.chip.dev.get f i = f.of w) ∧
          (f.acc = .ro → t.chip.dev.get f i = s.chip.dev.get f i) ∧
          (f.acc = .w1c → ∀ k, k < f.width → (t.chip.dev.get f i).testBit k =
            ((s.chip.dev.get f i).testBit k && !(f.of w).testBit k || (f.of set).testBit k))) ∧
    (r.base / 65536 = 2 → r.base ≠ R.TICK_PAGE_FLUSH.base →
      ∃ t, exec (.registerWrite slot (r.base + r.stride * i) 32 w 0) s = .next t ∧ t.chip.mem = s.chip.mem ∧
        s.chip.dev.keeps t.chip.dev (but (r.flds ++
          (if r.base = R.TICK_CTRL.base then [F.ENC_SESS_STATE_LEVEL, F.ENC_SESS_STATE_TIER] else []))) ∧
        ∀ f ∈ r.flds, f.acc = .rwt →
          (s.chip.dev.pwr ≠ .run → t.chip.dev.get f i = f.of w) ∧
          (s.chip.dev.pwr = .run → t.chip.dev.get f i = s.chip.dev.get f i ∧ Tab.find t.chip.dev.rwt (f.id, i, 0) = some (f.of w)))

/-- A read that is carried out of a register without a read effect of its own returns its word; each RC field then
holds the change of the same cycle and nothing else (rests on R14). A read of a LO register latches the matching HI
word for the slot; a read of the HI register by that slot in any later state with that latch returns it, however the
register changed; other slots' latches stay; and a HI register read with nothing latched returns the current word.
(rests on R11, R14, R15) -/
def Obligations.ReadsClearLatchAndReturnTheWord : Prop :=
  (∀ (s : State) (slot inc i : Nat) (r : RegRow), slot < 8 → i < r.count → findReg (r.base + r.stride * i) = some (r, i) →
    s.chip.admitsRead slot r i = true → s.chip.dev.hidden r i = false → popRow r = false → r.lowOf = none →
    ∃ t, exec (.rcRead slot (r.base + r.stride * i) inc) s = .next t ∧ t.chip.mem = s.chip.mem ∧
      t.chip.dev.out = [.result slot resOk (beBytes 4 (s.chip.dev.readWord r slot i))] ∧ s.chip.dev.keeps t.chip.dev (but r.flds) ∧
      ∀ f ∈ r.flds,
        (f.acc = .rc → t.chip.dev.fieldOf r slot i f = inc % 2 ^ f.width ∧
          f.of (s.chip.dev.readWord r slot i) = s.chip.dev.fieldOf r slot i f) ∧
        (f.acc ≠ .rc → t.chip.dev.fieldOf r slot i f = s.chip.dev.fieldOf r slot i f)) ∧
  (∀ (s : State) (slot i : Nat) (l h : RegRow), slot < 8 → l ∈ loRows → i < l.count → l.highOf = some h → popRow l = false →
    findReg (l.base + l.stride * i) = some (l, i) → s.chip.admitsRead slot l i = true → s.chip.dev.hidden l i = false →
    ∃ t, exec (.loReadLatch slot (l.base + l.stride * i)) s = .next t ∧ t.chip.mem = s.chip.mem ∧
      t.chip.dev.out = [.result slot resOk (beBytes 4 (s.chip.dev.readWord l slot i))] ∧
      (∀ slot' i' (h' : RegRow), slot' ≠ slot → Tab.find t.chip.dev.latch (h'.key slot' i') = Tab.find s.chip.dev.latch (h'.key slot' i')) ∧
      (∀ u : State, u.chip.dev.latch = t.chip.dev.latch → u.chip.admitsRead slot h i = true → u.chip.dev.hidden h i = false →
        ∃ v, exec (.loReadLatch slot (h.base + h.stride * i)) u = .next v ∧
          v.chip.dev.out = [.result slot resOk (beBytes 4 (s.chip.dev.readWord h slot i))]) ∧
      (Tab.find s.chip.dev.latch (h.key slot i) = none → s.chip.admitsRead slot h i = true →
        s.chip.dev.hidden h i = false →
        ∃ v, exec (.loReadLatch slot (h.base + h.stride * i)) s = .next v ∧
          v.chip.dev.out = [.result slot resOk (beBytes 4 (s.chip.dev.readWord h slot i))]))

/-- An admitted write to a LO register changes no register and is kept for the slot. With a LO word kept for the
slot, an admitted write to the matching HI register puts each half into its RW and RWS fields and uses the kept word
up, where neither half is reserved or busy; with none kept it puts the high half and leaves the low half. (R16) -/
def Obligations.HalvesAreWrittenTogether : Prop :=
  ∀ (s : State) (slot i v w : Nat) (l h : RegRow), slot < 8 → l ∈ loRows → i < l.count → h.lowOf = some l →
    findReg (l.base + l.stride * i) = some (l, i) → findReg (h.base + h.stride * i) = some (h, i) → v < 2 ^ 32 → w < 2 ^ 32 →
    (s.chip.admits slot l i v = true →
      ∃ t, exec (.loWriteHold slot (l.base + l.stride * i) v) s = .next t ∧ t.chip.mem = s.chip.mem ∧
        t.chip.dev.regs = s.chip.dev.regs ∧ t.chip.dev.rwt = s.chip.dev.rwt ∧ Tab.find t.chip.dev.held (l.key slot i) = some v) ∧
    (s.chip.admits slot h i w = true →
      (Tab.find s.chip.dev.held (l.key slot i) = some v → s.chip.dev.reservedWrite l i v = false → s.chip.dev.busyWrite l slot i v = false →
        ∃ t, exec (.hiWriteApply slot (h.base + h.stride * i) w) s = .next t ∧ t.chip.mem = s.chip.mem ∧
          Tab.find t.chip.dev.held (l.key slot i) = none ∧
          (∀ f ∈ l.flds, f.acc = .rw ∨ f.acc = .rws → t.chip.dev.fieldOf l slot i f = f.of v) ∧
          (∀ f ∈ h.flds, f.acc = .rw ∨ f.acc = .rws → t.chip.dev.fieldOf h slot i f = f.of w) ∧
          (∀ p ∈ [(l, v), (h, w)], ∀ f ∈ p.1.flds, f.acc = .rwt →
            (s.chip.dev.pwr = .run → Tab.find t.chip.dev.rwt (f.id, i, 0) = some (f.of p.2)) ∧
            (s.chip.dev.pwr ≠ .run → t.chip.dev.get f i = f.of p.2))) ∧
      (Tab.find s.chip.dev.held (l.key slot i) = none →
        ∃ t, exec (.hiWriteApply slot (h.base + h.stride * i) w) s = .next t ∧ t.chip.mem = s.chip.mem ∧
          (∀ f ∈ h.flds, f.acc = .rw ∨ f.acc = .rws → t.chip.dev.fieldOf h slot i f = f.of w) ∧
          (∀ f ∈ h.flds, f.acc = .rwt →
            (s.chip.dev.pwr = .run → Tab.find t.chip.dev.rwt (f.id, i, 0) = some (f.of w)) ∧
            (s.chip.dev.pwr ≠ .run → t.chip.dev.get f i = f.of w)) ∧
          (∀ f ∈ l.flds, t.chip.dev.fieldOf l slot i f = s.chip.dev.fieldOf l slot i f)))

/-- In RUN, a paired unit that does not hold the halter refuses a permitted register write outside PAIR, LANE, PERF,
BBOX and the event queue registers with ROLE: PAIR_CNT_WRITE_REFUSED counts it and nothing else changes. A holder
whose standby is in SHADOW keeps a permitted write of a carried block that comes after 0.85 T of the tick for the
next edge: no register changes and no result is handed back. (rests on R281, R292) -/
def Obligations.RoleAndDeferralOfWrites : Prop :=
  ∀ (s : State) (slot a w : Nat), slot < 8 → w < 2 ^ 32 → s.chip.dev.pd1On = true → s.chip.dev.regFault slot a 32 true = none →
    let d := s.chip.dev
    (d.pwr = .run → d.role ≠ 0 → d.holds = false → a / 65536 ∉ [9, 11, 16, 17] → isEvq a = false →
      ∃ t, exec (.registerWrite slot a 32 w 0) s = .next t ∧ t.chip.mem = s.chip.mem ∧
        t.chip.dev.get F.PAIR_CNT_WRITE_REFUSED_COUNT =
          min (d.get F.PAIR_CNT_WRITE_REFUSED_COUNT + 1) (2 ^ F.PAIR_CNT_WRITE_REFUSED_COUNT.width - 1) ∧
        d.keeps t.chip.dev (but [F.PAIR_CNT_WRITE_REFUSED_COUNT]) ∧ t.chip.dev.rwt = d.rwt ∧ t.chip.dev.held = d.held ∧
        t.chip.dev.out = [.result slot resRole []]) ∧
    (d.pwr = .run → d.holds = true → d.partnerShadow = true → d.inTick = true → d.pointNs d.tick.num 85 < d.devNs →
      a / 65536 ∉ [9, 11, 15, 16, 17] →
      ∃ t, exec (.registerWrite slot a 32 w 0) s = .next t ∧ t.chip.mem = s.chip.mem ∧ t.chip.dev.regs = d.regs ∧
        t.chip.dev.rwt = d.rwt ∧ t.chip.dev.deferred = d.deferred ++ [(slot, a, w)] ∧ t.chip.dev.out = [])

/-- An admitted read of HOST_EVQ_POP0 answers word 0 of the oldest entry, removes that entry and no other, leaves the
queues of the other slots, and puts words 1 to 3 into HOST_EVQ_POP1 to POP3 of the slot; where the queue is empty it
answers 0xFFFFFFFF and changes nothing. Memory and every other register stay. (rests on R381) -/
def Obligations.EventQueuesAreReadOldestFirst : Prop :=
  ∀ (s : State) (slot : Nat), slot < 8 → s.chip.admitsRead slot R.HOST_EVQ_POP0 0 = true →
    let d := s.chip.dev
    ∃ t, exec (.evqPop slot) s = .next t ∧ t.chip.mem = s.chip.mem ∧
      d.keeps t.chip.dev (but [F.HOST_EVQ_POP1_WORD, F.HOST_EVQ_POP2_WORD, F.HOST_EVQ_POP3_WORD]) ∧
      (∀ h, h ≠ slot → t.chip.dev.queue h = d.queue h) ∧
      (∀ e rest, d.queue slot = e :: rest →
        t.chip.dev.queue slot = rest ∧
        t.chip.dev.out = [.result slot resOk (beBytes 4 (e.block * 2 ^ 27 + e.bit * 2 ^ 22 + e.arg % 2 ^ 16))] ∧
        t.chip.dev.getS F.HOST_EVQ_POP1_WORD slot = e.tick % 2 ^ 32 ∧
        t.chip.dev.getS F.HOST_EVQ_POP2_WORD slot = e.tick / 2 ^ 32 % 2 ^ 32 ∧
        t.chip.dev.getS F.HOST_EVQ_POP3_WORD slot = e.ns % 2 ^ 32) ∧
      (d.queue slot = [] → t.chip.dev.queue slot = [] ∧ t.chip.dev.out = [.result slot resOk [255, 255, 255, 255]])

/-- Every transaction drives the status byte first: the last result in bits 2:0, bit 4 where the slot has events, bit
5 while BUSY. STATUS changes nothing; a REG_WRITE of GPIO_OUT that the slot may carry out stores it and leaves result
OK for the next status byte; one of a misaligned address inside the map leaves FAULT and the fault's record; a
REG_READ answers the register's word with result OK; a transaction whose clock count does not match leaves FORMAT and
changes nothing else; with no slot bound to SPI every one leaves FAULT. Memory stays. (rests on R369, R370, R371) -/
def Obligations.SpiRegisterTransactions : Prop :=
  (∀ s : State, s.chip.dev.pd1On = true →
    let d := s.chip.dev
    (∃ t, exec .spiInvalidTransaction s = .next t ∧ t.chip.mem = s.chip.mem ∧ t.chip.dev.regs = d.regs ∧
      t.chip.dev.out = [.value d.spiStatus] ∧ t.chip.dev.host = { d.host with spi := { d.host.spi with last := resFormat } }) ∧
    (d.inBoot = false → d.spiSlot = none → ∀ c ∈ [Instr.spiStatus, .spiRegWrite 0x130004 0, .spiRegRead 0x130004, .spiDpWrite [0], .spiDpFetch 1, .spiDpRead],
      ∃ t, exec c s = .next t ∧ t.chip.mem = s.chip.mem ∧ t.chip.dev.regs = d.regs ∧ t.chip.dev.host.spi.last = resFault ∧
        t.chip.dev.out = [.value d.spiStatus])) ∧
  (∀ (s : State) (h : Nat), s.chip.spiServes h →
    let d := s.chip.dev
    (∃ t, exec .spiStatus s = .next t ∧ t.chip.mem = s.chip.mem ∧ t.chip.dev = { d with out := [.value d.spiStatus] }) ∧
    (∀ w, w < 2 ^ 24 → s.chip.admits h R.GPIO_OUT 0 w = true →
      ∃ t, exec (.spiRegWrite 0x130004 w) s = .next t ∧ t.chip.mem = s.chip.mem ∧ t.chip.dev.get F.GPIO_OUT_OUT = w ∧
        d.keeps t.chip.dev (but [F.GPIO_OUT_OUT]) ∧ t.chip.dev.host.spi.last = resOk ∧ t.chip.dev.out = [.value d.spiStatus]) ∧
    (∀ a w, a < 0x140000 → a % 4 ≠ 0 →
      ∃ t, exec (.spiRegWrite a w) s = .next t ∧ t.chip.mem = s.chip.mem ∧ d.keeps t.chip.dev (but faultFields) ∧
        t.chip.dev.host.spi.last = resFault ∧ t.chip.dev.getS F.HOST_SLOT_STATUS_FAULT_REASON h = whyAlign) ∧
    (∀ (r : RegRow) i, findReg (r.base + r.stride * i) = some (r, i) → s.chip.admitsRead h r i = true → popRow r = false →
      r.lowOf = none → d.hidden r i = false →
      ∃ t, exec (.spiRegRead (r.base + r.stride * i)) s = .next t ∧ t.chip.mem = s.chip.mem ∧ t.chip.dev.host.spi.last = resOk ∧
        t.chip.dev.out = [.value d.spiStatus, .result h resOk (beBytes 4 (d.readWord r h i))]))

/-- For TARGET 0 with no fetch in progress: DP_WRITE of 1 to 256 permitted bytes stores exactly these at the slot's
40-bit pointer and leaves OK; DP_FETCH of a permitted length fills the buffer with the bytes at the pointer and is
BUSY until SPI_DP_FETCH_COMPLETE; both advance the pointer by L where INC is 1 and leave it where INC is 0. DP_READ
with the buffer filled answers its bytes once, with OK; while BUSY or with no fetch since the last DP_READ it leaves
BUSY, and so do DP_WRITE and DP_FETCH while BUSY. A length outside 1 to 256 leaves FORMAT. (rests on R370, R371,
R378) -/
def Obligations.SpiDataPort : Prop :=
  ∀ (s : State) (h : Nat), s.chip.spiServes h → s.chip.mem.dram.wf = true →
    let d := s.chip.dev
    let a := d.dpPtr h
    let next (n : Nat) : Nat := if d.getS F.HOST_DP_CTRL_INC h = 1 then (a + n) % 2 ^ 40 else a
    (∀ l, 1 ≤ l.length → l.length ≤ 256 → d.host.spi.fetching = none → d.dpTarget h = 0 → s.chip.takesBytes h a l →
      ∃ t, exec (.spiDpWrite l) s = .next t ∧ s.chip.mem.storedAt t.chip.mem a l ∧ t.chip.mem.flash = s.chip.mem.flash ∧
        t.chip.dev.host.spi.last = resOk ∧ t.chip.dev.dpPtr h = next l.length) ∧
    (∀ n, 1 ≤ n → n ≤ 256 → d.host.spi.fetching = none → d.dpTarget h = 0 → d.dramRefused h a n false = none → s.chip.mem.poison = [] →
      ∃ t, exec (.spiDpFetch n) s = .next t ∧ t.chip.mem = s.chip.mem ∧ t.chip.dev.host.spi.last = resOk ∧
        t.chip.dev.host.spi.fetching = some n ∧ t.chip.dev.dpPtr h = next n ∧
        t.chip.dev.host.spi.buffer = some ((List.range n).map (fun k => Dram.read s.chip.mem.dram (a + k)))) ∧
    (∃ t, exec .spiDpFetchComplete s = .next t ∧ t.chip.mem = s.chip.mem ∧ t.chip.dev.regs = d.regs ∧
      t.chip.dev.host = { d.host with spi := { d.host.spi with fetching := none } }) ∧
    (∀ l, d.host.spi.fetching = none → d.host.spi.buffer = some l →
      ∃ t, exec .spiDpRead s = .next t ∧ t.chip.mem = s.chip.mem ∧ t.chip.dev.regs = d.regs ∧
        t.chip.dev.host.spi = { d.host.spi with last := resOk, buffer := none } ∧
        t.chip.dev.out = [.value d.spiStatus, .result h resOk l]) ∧
    (d.host.spi.fetching.isSome = true ∨ d.host.spi.buffer = none →
      ∃ t, exec .spiDpRead s = .next t ∧ t.chip.mem = s.chip.mem ∧ t.chip.dev.host.spi = { d.host.spi with last := resBusy }) ∧
    (d.host.spi.fetching.isSome = true → ∀ l, 1 ≤ l.length → l.length ≤ 256 → ∀ c ∈ [Instr.spiDpWrite l, .spiDpFetch l.length],
      ∃ t, exec c s = .next t ∧ t.chip.mem = s.chip.mem ∧ t.chip.dev.regs = d.regs ∧
        t.chip.dev.host.spi = { d.host.spi with last := resBusy }) ∧
    (∀ n l, n = 0 ∨ 256 < n → l.length = n → ∀ c ∈ [Instr.spiDpWrite l, .spiDpFetch n],
      ∃ t, exec c s = .next t ∧ t.chip.mem = s.chip.mem ∧ t.chip.dev.regs = d.regs ∧
        t.chip.dev.host.spi = { d.host.spi with last := resFormat })

/-- An OPEN heard on the slot's route, with no session of another peer open, opens a session with the next number,
never 0, last SEQ 0, and answers OK with it; with a session of another peer open it answers SESSION and changes
nothing. The next request in order that is a CLOSE answers OK and closes the session with HOST_SESSION_CLOSED;
FUHEL_SESSION_TIMEOUT closes it TIMEOUT_S seconds after its last message. A request in a slot without a session is
answered SESSION. Memory stays. (rests on R368, R373, R374, R375) -/
def Obligations.FuhelSessionsOpenAndClose : Prop :=
  (∀ (s : State) (q : FuhelHdr), s.chip.hears q = true → q.slot < 8 →
    let d := s.chip.dev
    ((∀ x, d.sess q.slot = some x → x.ip = q.rx.src) →
      ∃ t x, exec (.fuhelOpen q) s = .next t ∧ t.chip.mem = s.chip.mem ∧ t.chip.dev.sess q.slot = some x ∧ x.num ≠ 0 ∧ x.num < 2 ^ 32 ∧
        (d.host.sessNum + 1 < 2 ^ 32 → x.num = d.host.sessNum + 1) ∧ x.seq = 0 ∧ x.kept = none ∧ x.ip = q.rx.src ∧
        t.chip.dev.host.sessNum = x.num ∧ t.chip.dev.out = [s.chip.response q 0x01 x.num resOk []] ∧
        t.chip.dev.get F.HOST_EVENTS_SESSION_OPEN = 1 ∧ t.chip.dev.getS F.HOST_SLOT_STATUS_SESSION q.slot = 1) ∧
    (∀ x, d.sess q.slot = some x → x.ip ≠ q.rx.src →
      ∃ t, exec (.fuhelOpen q) s = .next t ∧ t.chip.mem = s.chip.mem ∧ t.chip.dev.host = d.host ∧ t.chip.dev.regs = d.regs ∧
        t.chip.dev.out = [s.chip.response q 0x01 0 resSession []]) ∧
    (d.sess q.slot = none → ∀ p ∈ [(Instr.fuhelKeepalive q, 0x3F), (.fuhelClose q, 0x02), (.fuhelEvqAck q 1, 0x31)],
      ∃ t, exec p.1 s = .next t ∧ t.chip.mem = s.chip.mem ∧ t.chip.dev.host = d.host ∧ t.chip.dev.regs = d.regs ∧
        t.chip.dev.out = [s.chip.response q p.2 q.session resSession []])) ∧
  (∀ (s : State) (q : FuhelHdr) (x : FuhelSess), s.chip.inSession q x → q.slot < 8 →
    ∃ t, exec (.fuhelClose q) s = .next t ∧ t.chip.mem = s.chip.mem ∧ t.chip.dev.sess q.slot = none ∧
      (∀ h, h ≠ q.slot → t.chip.dev.sess h = s.chip.dev.sess h) ∧
      t.chip.dev.get F.HOST_EVENTS_SESSION_CLOSED = 1 ∧ t.chip.dev.getS F.HOST_SLOT_STATUS_SESSION q.slot = 0 ∧
      t.chip.dev.out = [s.chip.response q 0x02 q.session resOk []]) ∧
  (∀ (s : State) (slot : Nat) (x : FuhelSess), slot < 8 → s.chip.dev.sess slot = some x →
    ∃ t, exec (.fuhelSessionTimeout slot) s = .next t ∧ t.chip.mem = s.chip.mem ∧ t.chip.dev.sess slot = none ∧
      t.chip.dev.now ≥ x.lastNs + s.chip.dev.get F.HOST_FUHEL_CFG_TIMEOUT_S * 1000000000 ∧
      t.chip.dev.get F.HOST_EVENTS_SESSION_CLOSED = 1)

/-- A KEEPALIVE with the next SEQ answers OK, an operation code that is reserved answers FORMAT, and an EVQ_ACK
removes COUNT of the oldest entries (all where COUNT exceeds the length); each becomes the request executed last, its
response kept. A request that repeats that SEQ is answered with the kept response and executed by nothing: its slot's
queue stays. Any other SEQ is discarded without an answer and HOST_CNT_SEQ_DROP counts it. Memory stays. (rests on
R373, R375, R377) -/
def Obligations.FuhelRequestsRunOnce : Prop :=
  (∀ (s : State) (q : FuhelHdr) (x : FuhelSess), s.chip.inSession q x → q.slot < 8 →
    let d := s.chip.dev
    (∀ p ∈ [(Instr.fuhelKeepalive q, 0x3F, resOk), (.fuhelReservedOp q 0x45, 0x45, resFormat)],
      ∃ t y, exec p.1 s = .next t ∧ t.chip.mem = s.chip.mem ∧ t.chip.dev.regs = d.regs ∧ t.chip.dev.sess q.slot = some y ∧
        y.seq = q.seq ∧ y.kept = some (p.2.1, p.2.2, []) ∧ y.num = x.num ∧ y.lastNs = d.now ∧ t.chip.dev.evq = d.evq ∧
        t.chip.dev.out = [s.chip.response q p.2.1 q.session p.2.2 []]) ∧
    (∀ n, ∃ t y, exec (.fuhelEvqAck q n) s = .next t ∧ t.chip.mem = s.chip.mem ∧ t.chip.dev.regs = d.regs ∧
      t.chip.dev.queue q.slot = (d.queue q.slot).drop n ∧ (∀ h, h ≠ q.slot → t.chip.dev.queue h = d.queue h) ∧
      t.chip.dev.sess q.slot = some y ∧ y.seq = q.seq ∧ y.eventNs = none ∧
      t.chip.dev.out = [s.chip.response q 0x31 q.session resOk []])) ∧
  (∀ (s : State) (q : FuhelHdr) (x : FuhelSess) (k : Nat × Nat × List Byte) (n : Nat), s.chip.hears q = true → q.slot < 8 →
    s.chip.dev.sess q.slot = some x → x.num = q.session → x.ip = q.rx.src → x.kept = some k → q.seq < 2 ^ 32 →
    (q.seq = x.seq → q.seq ≠ (x.seq + 1) % 2 ^ 32 →
      ∃ t, exec (.fuhelEvqAck q n) s = .next t ∧ t.chip.mem = s.chip.mem ∧ t.chip.dev.regs = s.chip.dev.regs ∧
        t.chip.dev.evq = s.chip.dev.evq ∧ t.chip.dev.out = [s.chip.response q k.1 q.session k.2.1 k.2.2]) ∧
    (q.seq ≠ x.seq → q.seq ≠ (x.seq + 1) % 2 ^ 32 →
      ∃ t, exec (.fuhelEvqAck q n) s = .next t ∧ t.chip.mem = s.chip.mem ∧ t.chip.dev.evq = s.chip.dev.evq ∧ t.chip.dev.out = [] ∧
        t.chip.dev.get F.HOST_CNT_SEQ_DROP_COUNT =
          min (s.chip.dev.get F.HOST_CNT_SEQ_DROP_COUNT + 1) (2 ^ F.HOST_CNT_SEQ_DROP_COUNT.width - 1)))

/-- For the next request of the session: while at least 20 µs remain before the next edge, a REG_READ of a readable
register answers OK, DONE 1 and its word; a REG_WRITE of GPIO_OUT that is admitted stores it and answers OK and DONE
1; a REG_WRITE whose first access is misaligned stops there with FAULT and DONE 0 and the second is not carried out.
With less than 20 µs left a register message waits (that it is kept is the model's reading: log entry 85). DP_WRITE
of 1 to 4096 permitted bytes to TARGET 0 stores exactly these at ADDR, DP_READ answers the bytes there, and both
leave the pointer at ADDR + L; a TARGET above 3 answers FORMAT. (rests on R373, R376, R378, R379) -/
def Obligations.FuhelAccessesAreTheSlots : Prop :=
  ∀ (s : State) (q : FuhelHdr) (x : FuhelSess), s.chip.inSession q x → q.slot < 8 → s.chip.dev.inBoot = false →
    let d := s.chip.dev
    (d.mayStart = true →
      (∀ (r : RegRow) i, findReg (r.base + r.stride * i) = some (r, i) → s.chip.admitsRead q.slot r i = true → storeOnly r = true →
        ∃ t, exec (.fuhelRegRead q [r.base + r.stride * i]) s = .next t ∧ t.chip.mem = s.chip.mem ∧ t.chip.dev.regs = d.regs ∧
          t.chip.dev.out = [s.chip.response q 0x10 q.session resOk ([0, 1] ++ beBytes 4 (d.readWord r q.slot i))]) ∧
      (∀ w, w < 2 ^ 24 → s.chip.admits q.slot R.GPIO_OUT 0 w = true →
        ∃ t, exec (.fuhelRegWrite q [(0x130004, w)]) s = .next t ∧ t.chip.mem = s.chip.mem ∧ t.chip.dev.get F.GPIO_OUT_OUT = w ∧
          d.keeps t.chip.dev (but [F.GPIO_OUT_OUT]) ∧ t.chip.dev.out = [s.chip.response q 0x11 q.session resOk [0, 1]]) ∧
      (∀ a v b w, a % 4 ≠ 0 → d.defers = false →
        ∃ t, exec (.fuhelRegWrite q [(a, v), (b, w)]) s = .next t ∧ t.chip.mem = s.chip.mem ∧ d.keeps t.chip.dev (but faultFields) ∧
          t.chip.dev.out = [s.chip.response q 0x11 q.session resFault [0, 0]])) ∧
    (d.mayStart = false → ∀ c ∈ [Instr.fuhelRegRead q [0], .fuhelRegWrite q [(0x130004, 1)]],
      ∃ t, exec c s = .next t ∧ t.chip.mem = s.chip.mem ∧ t.chip.dev.regs = d.regs ∧ t.chip.dev.out = [] ∧
        t.chip.dev.host = { d.host with late := d.host.late ++ [c] }) ∧
    (∀ a l, a < 2 ^ 40 → 1 ≤ l.length → l.length ≤ 4096 → s.chip.takesBytes q.slot a l → s.chip.mem.dram.wf = true →
      ∃ t, exec (.fuhelDpWrite q 0 a l) s = .next t ∧ s.chip.mem.storedAt t.chip.mem a l ∧ t.chip.mem.flash = s.chip.mem.flash ∧
        t.chip.dev.dpPtr q.slot = (a + l.length) % 2 ^ 40 ∧ t.chip.dev.out = [s.chip.response q 0x20 q.session resOk []]) ∧
    (∀ a n, a < 2 ^ 40 → 1 ≤ n → n ≤ 4096 → d.dramRefused q.slot a n false = none → s.chip.mem.poison = [] →
      ∃ t, exec (.fuhelDpRead q 0 a n) s = .next t ∧ t.chip.mem = s.chip.mem ∧ t.chip.dev.dpPtr q.slot = (a + n) % 2 ^ 40 ∧
        t.chip.dev.out = [s.chip.response q 0x21 q.session resOk ((List.range n).map (fun k => Dram.read s.chip.mem.dram (a + k)))]) ∧
    (∀ target a l, 3 < target → ∀ p ∈ [(Instr.fuhelDpWrite q target a l, 0x20), (.fuhelDpRead q target a 1, 0x21)],
      ∃ t, exec p.1 s = .next t ∧ t.chip.mem = s.chip.mem ∧ t.chip.dev.regs = d.regs ∧ t.chip.dev.out = [s.chip.response q p.2 q.session resFormat []])

/-- With a session open, entries waiting and no EVENT in hand, FUHEL_EVENT_SEND sends an EVENT with SEQ 0, COUNT and
the bytes of up to 32 of the oldest entries, and leaves the queue; with one in hand FUHEL_EVENT_REPEAT sends it not
before 100 ms after the last; with an empty queue neither sends anything. Memory and registers stay. (rests on R377) -/
def Obligations.FuhelEventsAreSentAndRepeated : Prop :=
  ∀ (s : State) (slot : Nat) (x : FuhelSess), slot < 8 → s.chip.dev.sess slot = some x →
    let d := s.chip.dev
    let l := (d.queue slot).take 32
    let body := beBytes 2 l.length ++ l.flatMap EvEntry.bytes
    let event := Out.fuhel x.port (d.txTag x.port) (d.unitAddr x.port) x.ip x.udp 0x30 x.num 0 slot 0 body
      (fuhelBytes 0x30 x.num 0 slot 0 body)
    (d.queue slot ≠ [] → x.eventNs = none →
      ∃ t, exec (.fuhelEventSend slot) s = .next t ∧ t.chip.mem = s.chip.mem ∧ t.chip.dev.regs = d.regs ∧ t.chip.dev.evq = d.evq ∧
        t.chip.dev.sess slot = some { x with eventNs := some d.now } ∧ t.chip.dev.out = [event]) ∧
    (∀ t0, d.queue slot ≠ [] → x.eventNs = some t0 →
      ∃ t, exec (.fuhelEventRepeat slot) s = .next t ∧ t.chip.mem = s.chip.mem ∧ t.chip.dev.regs = d.regs ∧ t.chip.dev.evq = d.evq ∧
        t.chip.dev.now = max d.now (t0 + 100000000) ∧ t.chip.dev.sess slot = some { x with eventNs := some t.chip.dev.now } ∧
        t.chip.dev.out = [event]) ∧
    (d.queue slot = [] → ∀ c ∈ [Instr.fuhelEventSend slot, .fuhelEventRepeat slot],
      ∃ t, exec c s = .next t ∧ t.chip.mem = s.chip.mem ∧ t.chip.dev = { d with out := [] })

/-- An admitted HOST_LC_CMD with OP 1 in OPEN blows the PRODUCTION fuse, with OP 2 in PRODUCTION while debug is
unlocked the DECOMMISSIONED fuse; HOST_LC_STATUS stays until a reset and in any other state the fuses stay. A valid
response in PRODUCTION sets DBG_UNLOCKED, binds the slot and raises HOST_DBG_UNLOCK; an invalid one records the
black-box event 0x0050 and bars attempts for 1 s. A debug access in PRODUCTION without unlock is DENIED and changes
nothing; of something LOCKED it is DENIED and recorded; otherwise it is an access of the bound slot. (rests on R388,
R389, R390, R391, R392) -/
def Obligations.LifeCycleAndDebug : Prop :=
  (∀ (s : State) (slot : Nat), slot < 8 →
    let d := s.chip.dev
    (s.chip.admits slot R.HOST_LC_CMD 0 1 = true →
      ∃ t, exec (.lcToProduction slot) s = .next t ∧ t.chip.mem.dram = s.chip.mem.dram ∧ t.chip.mem.flash = s.chip.mem.flash ∧
        t.chip.dev.regs = d.regs ∧ (d.get F.HOST_LC_STATUS_STATE = 0 → t.chip.mem.otp = { s.chip.mem.otp with lc := max s.chip.mem.otp.lc 1 }) ∧
        (d.get F.HOST_LC_STATUS_STATE ≠ 0 → t.chip.mem = s.chip.mem)) ∧
    (s.chip.admits slot R.HOST_LC_CMD 0 2 = true →
      ∃ t, exec (.lcToDecommissioned slot) s = .next t ∧ t.chip.dev.regs = d.regs ∧
        (d.get F.HOST_LC_STATUS_STATE = 1 → d.on F.HOST_LC_STATUS_DBG_UNLOCKED = true →
          t.chip.mem.otp = { s.chip.mem.otp with lc := max s.chip.mem.otp.lc 2 } ∧ t.chip.mem.dram = s.chip.mem.dram) ∧
        (d.get F.HOST_LC_STATUS_STATE ≠ 1 ∨ d.on F.HOST_LC_STATUS_DBG_UNLOCKED = false → t.chip.mem = s.chip.mem))) ∧
  (∀ (s : State) (key sig : List Byte) (slot : Nat), s.chip.dev.pd1On = true → s.chip.dev.get F.HOST_LC_STATUS_STATE = 1 →
    s.chip.dev.on F.HOST_LC_STATUS_DBG_UNLOCKED = false → s.chip.dev.host.debugWait ≤ s.chip.dev.now →
    let d := s.chip.dev
    let valid : Prop := Config.sha384 key = s.chip.mem.otp.debug ∧
      Config.ecdsaOk key sig (Config.sha384 (d.challenge ++ [BitVec.ofNat 8 slot])) = true ∧ slot < 8
    ∃ t, exec (.debugUnlockResponse key sig slot) s = .next t ∧ t.chip.mem = s.chip.mem ∧
      (valid → t.chip.dev.get F.HOST_LC_STATUS_DBG_UNLOCKED = 1 ∧ t.chip.dev.get F.HOST_LC_STATUS_DBG_SLOT = slot ∧
        t.chip.dev.get F.HOST_EVENTS_DBG_UNLOCK = 1) ∧
      (¬valid → t.chip.dev.on F.HOST_LC_STATUS_DBG_UNLOCKED = false ∧ t.chip.dev.host.debugWait = d.now + 1000000000 ∧
        (d.on F.BBOX_STATUS_FROZEN = false → d.bb.staging.length < 16 →
          t.chip.dev.bb.staging = d.bb.staging ++ [BbEvent.mk 0x0050 13 d.tickNow d.nsPart 0 0]))) ∧
  (∀ (s : State) (op : DebugOp), s.chip.dev.pd1On = true →
    let d := s.chip.dev
    let h := d.get F.HOST_LC_STATUS_DBG_SLOT
    (d.dbgOpen = false → d.on F.HOST_LC_STATUS_DBG_UNLOCKED = false →
      ∃ t, exec (.debugAccess op) s = .next t ∧ t.chip.mem = s.chip.mem ∧ t.chip.dev = { d with out := [.result h resDenied []] }) ∧
    (d.dbgOpen = true ∨ d.on F.HOST_LC_STATUS_DBG_UNLOCKED = true →
      (∀ a, d.dbgLocked op h = some a → d.on F.BBOX_STATUS_FROZEN = false → d.bb.staging.length < 16 →
        ∃ t z, exec (.debugAccess op) s = .next t ∧ t.chip.mem = s.chip.mem ∧ t.chip.dev.regs = d.regs ∧ (∀ b ∈ z, b = 0) ∧
          t.chip.dev.out = [.result h resDenied z] ∧
          t.chip.dev.bb.staging = d.bb.staging ++ [BbEvent.mk 0x0051 13 d.tickNow d.nsPart h a]) ∧
      (d.dbgLocked (.regWrite 0x130004 5) h = none → s.chip.admits h R.GPIO_OUT 0 5 = true →
        ∃ t, exec (.debugAccess (.regWrite 0x130004 5)) s = .next t ∧ t.chip.mem = s.chip.mem ∧ t.chip.dev.get F.GPIO_OUT_OUT = 5 ∧
          d.keeps t.chip.dev (but [F.GPIO_OUT_OUT]) ∧ t.chip.dev.out = [.result h resOk []]) ∧
      (∀ a l, d.dbgLocked (.dpWrite 0 a l) h = none → a < 2 ^ 40 → s.chip.takesBytes h a l → s.chip.mem.dram.wf = true →
        ∃ t, exec (.debugAccess (.dpWrite 0 a l)) s = .next t ∧ s.chip.mem.storedAt t.chip.mem a l ∧
          t.chip.dev.out = [.result h resOk []])))

/-- In RUN, where no step is awaited: on a unit that follows no partner's burst, with no write kept for the edge, no
waiting Fuhel message and no swap, the edge begins tick nextTick: RUNNING, in a tick, outside the gap, work list
unpublished, not sealed, not judged, the certification of the tick before kept, no RWT write waiting, device time at
or after the edge while the clock runs, memory as before. Where the device is to leave RUN, the edge is still
asserted and the device is then READY with no tick in progress and no edge to come. Outside RUN the command changes
nothing but the list of what was sent. (rests on R12, R20, R21, R26, R27, R358) -/
def Obligations.TickEdgesBeginTicks : Prop :=
  ∀ (s : State) (err : Nat) (saved : Bool),
    let d := s.chip.dev
    (d.pwr ≠ .run → ∃ t, exec (.tickEdge err saved) s = .next t ∧ t.chip.mem = s.chip.mem ∧ t.chip.dev = { d with out := [] }) ∧
    (d.pwr = .run → d.stepWaits = false → d.follows = false → d.deferred = [] → d.host.late = [] →
      (d.tick.leave = false → d.upd.swap = none →
        ∃ t, exec (.tickEdge err saved) s = .next t ∧ t.chip.mem = s.chip.mem ∧ t.chip.dev.pwr = .run ∧
          t.chip.dev.tick.num = d.nextTick ∧ t.chip.dev.tick.running = true ∧ t.chip.dev.tick.inTick = true ∧
          t.chip.dev.tick.gap = false ∧ t.chip.dev.tick.published = false ∧ t.chip.dev.tick.sealRan = false ∧
          t.chip.dev.tick.judged = false ∧ t.chip.dev.tick.cert = false ∧ t.chip.dev.tick.prevCert = d.tick.cert ∧
          t.chip.dev.edges = d.edges + 1 ∧ t.chip.dev.rwt = [] ∧
          (d.pd1On = true → 0 < 1000000000 + d.ppb → d.edgeNs d.nextTick ≤ t.chip.dev.devNs)) ∧
      (d.tick.leave = true → d.upd.swap = none →
        ∃ t, exec (.tickEdge err saved) s = .next t ∧ t.chip.mem = s.chip.mem ∧ t.chip.dev.pwr = .ready ∧
          t.chip.dev.tick.num = d.nextTick ∧ t.chip.dev.tick.running = false ∧ t.chip.dev.tick.inTick = false ∧
          t.chip.dev.tick.leave = false ∧ t.chip.dev.rwt = [] ∧ t.chip.dev.layout = d.layout))

/-- In a tick: WORK_LIST_PUBLISHED marks it published, and early where device time is at most 0.05 T, while engines 8
to 11 run; SENTINEL_PUBLISH_CHECK finds it published exactly where it was published early; SENTINEL_CERTIFY, once a
tick, certifies it exactly where the edge error is at most 4 ns, the check found it published, the seal ran and both
heartbeats are of this tick or the last; otherwise it raises TICK_SENTINEL_MISS, records 0x0011 and notes the health
condition. TICK_STATUS.CERT shows it. STEP_GAP_START ends a tick whose step is due with no new edge. Memory stays.
(rests on R25, R30) -/
def Obligations.WorkListAndSentinelJudgeTheTick : Prop :=
  ∀ s : State, s.chip.dev.tick.inTick = true →
    let d := s.chip.dev
    (d.tick.published = false → (∀ e ∈ [8, 9, 10, 11], d.stopped e = false) →
      ∃ t, exec .workListPublished s = .next t ∧ t.chip.mem = s.chip.mem ∧ t.chip.dev.tick.published = true ∧
        t.chip.dev.tick.num = d.tick.num ∧ (t.chip.dev.tick.early = true ↔ d.devNs ≤ d.pointNs d.tick.num 5)) ∧
    (d.tick.published = true ∨ (∃ e ∈ [8, 9, 10, 11], d.stopped e = true) →
      ∃ t, exec .workListPublished s = .next t ∧ t.chip.mem = s.chip.mem ∧ t.chip.dev = { d with out := [] }) ∧
    (∃ t, exec .sentinelPublishCheck s = .next t ∧ t.chip.mem = s.chip.mem ∧ t.chip.dev.regs = d.regs ∧
      t.chip.dev.tick = { d.tick with publishedOk := d.tick.published && d.tick.early }) ∧
    (d.tick.judged = false →
      ∃ t, exec .sentinelCertify s = .next t ∧ t.chip.mem = s.chip.mem ∧
        t.chip.dev.tick = { d.tick with cert := d.certifiable, judged := true } ∧
        (t.chip.dev.get F.TICK_STATUS_CERT = 1 ↔ d.certifiable = true) ∧
        (d.certifiable = true ↔ d.tick.edgeErr ≤ 4 ∧ d.tick.publishedOk = true ∧ d.tick.sealRan = true ∧
          (d.tick.sysBeat = some d.tick.num ∨ d.tick.sysBeat = some d.tick.last) ∧
          (d.tick.watchBeat = some d.tick.num ∨ d.tick.watchBeat = some d.tick.last)) ∧
        (d.certifiable = true → d.keeps t.chip.dev (but [F.TICK_STATUS_CERT]) ∧ t.chip.dev.bb = d.bb) ∧
        (d.certifiable = false → t.chip.dev.get F.TICK_EVENTS_SENTINEL_MISS = 1 ∧
          d.keeps t.chip.dev (but [F.TICK_STATUS_CERT, F.TICK_EVENTS_SENTINEL_MISS, F.BBOX_LOST_COUNT]) ∧
          Tab.find t.chip.dev.healthAt 2 = some d.edges)) ∧
    (d.pwr = .run → d.stepWaits = true →
      ∃ t, exec .stepGapStart s = .next t ∧ t.chip.mem = s.chip.mem ∧ t.chip.dev.tick.inTick = false ∧ t.chip.dev.tick.gap = true ∧
        t.chip.dev.tick.num = d.tick.num ∧ t.chip.dev.staleLow = false)

/-- The update of a source at E(t) that neither enters the layout nor restarts its detection: with an age above its
limit, or frozen, it is STALE afterwards with its recovery count at 0, and SRC_STALE is raised where it was LIVE;
without, a LIVE source stays LIVE, a STALE one whose RECOVER-th good edge this is becomes LIVE (or LATCHED where
LATCH is 1), and a LATCHED one becomes LIVE exactly where it was acknowledged. LIVE afterwards implies an age within
the limit. Admitted FRS_ACK writes record the source, or all, for the edge. (rests on R44, R50, R51, R53, R61) -/
def Obligations.SourceFreshnessStateMachine : Prop :=
  (∀ (d : Device) (src t : Nat) (ack : Bool), src < 256 →
    let e := d.staleUpdate src t false false ack
    let bad := d.aged src t || d.frozen src t
    let st := d.get F.FRS_SRC_STATE_STATE src
    let now := e.get F.FRS_SRC_STATE_STATE src
    let good := (d.src src).recov + 1
    let need := d.get F.FRS_SRC_CFG_RECOVER src
    (bad = true → now = 1 ∧ (e.src src).recov = 0 ∧ (st = 0 → e.get F.FRS_EVENTS_SRC_STALE = 1)) ∧
    (bad = false →
      (st = 0 → now = 0) ∧
      (st = 1 → good < need → now = 1 ∧ (e.src src).recov = good) ∧
      (st = 1 → need ≤ good → d.on F.FRS_SRC_CFG_LATCH src = false → now = 0 ∧ e.get F.FRS_EVENTS_SRC_LIVE = 1) ∧
      (st = 1 → need ≤ good → d.on F.FRS_SRC_CFG_LATCH src = true → now = 2 ∧ e.get F.FRS_EVENTS_ACK_PENDING = 1) ∧
      (st = 2 → (now = 0 ↔ ack = true) ∧ (now = 2 ↔ ack = false))) ∧
    (now = 0 → ∃ n, (d.src src).input = some n ∧ ticksSince t (d.berth n).capture ≤ d.limit src) ∧
    e.get F.FRS_SRC_STATE_AGED src = (if d.aged src t then 1 else 0)) ∧
  (∀ (s : State) (slot x : Nat), slot < 8 → x < 256 →
    (s.chip.admits slot R.FRS_ACK 0 (F.FRS_ACK_SOURCE.at x) = true →
      ∃ t, exec (.frsAckSource slot x) s = .next t ∧ t.chip.mem = s.chip.mem ∧ t.chip.dev.regs = s.chip.dev.regs ∧
        t.chip.dev.tick = { s.chip.dev.tick with acks := s.chip.dev.tick.acks ++ [x] }) ∧
    (s.chip.admits slot R.FRS_ACK 0 (F.FRS_ACK_ALL.at 1) = true →
      ∃ t, exec (.frsAckAll slot) s = .next t ∧ t.chip.mem = s.chip.mem ∧ t.chip.dev.regs = s.chip.dev.regs ∧
        t.chip.dev.tick = { s.chip.dev.tick with ackAll := true }))

/-- For a tile of an output of the layout that has a berth, in a published tick before the seal deadline, that a pipe
has in hand, with every entry it needs in the caches and good, and with no input berth marked CORRUPT:
TILE_BLEND_COMPLETE stores its lines at the tile's place in the berth, and records the CRC-32C of these bytes, STALE
exactly where a contributing source is in its stale treatment, and the tile's age; the records of the other tiles and
flash stay. A tile that misses an entry is left unrecorded and stalled with memory unchanged. PAGER_FETCH_COMPLETE
leaves an entry for which there is room in its cache; an admitted TICK_PAGE_FLUSH is kept for the edge. (R37, R39,
R40, R46 to R48, R68, R71) -/
def Obligations.TilesAreRecordedAsBlended : Prop :=
  (∀ (s : State) (o tile pipe n : Nat) (l : Layout) (r : OutRec),
    let d := s.chip.dev
    d.layout = some l → l.outs.find? (fun q => decide (q.out = o)) = some r → (d.outp o).berth = some n →
    d.tick.inTick = true → d.tick.published = true → d.tick.sealRan = false → d.inHand o tile = true →
    let keys := d.tileKeys s.chip.mem l r tile
    let lines := d.tileLines s.chip.mem d.tables l r tile
    let stored := writeLines s.chip.mem.dram (r.tileAddr (d.berthAddr n) tile) (fmtStride r.format r.width) lines
    (keys.all d.cached = true → keys.any d.badEntry = false → d.tileCorrupt l r tile = false → (o, tile) ∉ d.tick.abandoned →
      ∃ t x, exec (.tileBlendComplete o tile pipe) s = .next t ∧ Tab.find (t.chip.dev.outp o).tiles tile = some x ∧
        x.check = BitVec.ofNat 32 (crc32c lines.flatten) ∧
        x.stale = (contributors d.tables.desc l.outs r tile).any (fun c => decide (d.get F.FRS_SRC_STATE_STATE c.source ≠ 0)) ∧
        x.coarse = false ∧ x.age = d.tileAge (contributors d.tables.desc l.outs r tile) d.tick.num ∧
        (∀ j, j ≠ tile → Tab.find (t.chip.dev.outp o).tiles j = Tab.find (d.outp o).tiles j) ∧
        (∀ p, p ≠ o → t.chip.dev.outp p = d.outp p) ∧
        t.chip.mem = { s.chip.mem with dram := stored }) ∧
    (keys.all d.cached = false →
      ∃ t, exec (.tileBlendComplete o tile pipe) s = .next t ∧ t.chip.mem = s.chip.mem ∧ t.chip.dev.regs = d.regs ∧
        t.chip.dev.outs = d.outs ∧ (o, tile, pipe) ∈ t.chip.dev.tick.stalled)) ∧
  (∀ (s : State) (cache i : Nat), cache < 4 →
    let d := s.chip.dev
    let size : Option Nat := if cache = 3 then (d.staleImage s.chip.mem i).map Pic.granules else some 1
    ∃ t, exec (.pagerFetchComplete cache i) s = .next t ∧ t.chip.mem = s.chip.mem ∧
      (d.cached (cache, i) = true ∨ (∃ n, size = some n ∧ d.tick.heldSize cache + n ≤ cacheCap cache) → t.chip.dev.cached (cache, i) = true) ∧
      d.keeps t.chip.dev (but [F.CMP_EVENTS_DESC_CHECK, F.PIX_EVENTS_LUT_CHECK])) ∧
  (∀ (s : State) (slot : Nat), slot < 8 → s.chip.admits slot R.TICK_PAGE_FLUSH 0 1 = true →
    ∃ t, exec (.tickPageFlush slot) s = .next t ∧ t.chip.mem = s.chip.mem ∧ t.chip.dev.regs = s.chip.dev.regs ∧
      t.chip.dev.tick = { s.chip.dev.tick with flush := true })

/-- At the seal deadline of a tick, once: every output of the layout that has a berth is sealed with the tick's
number, that berth and 256 records; a blended tile keeps its record; a tile that was not blended, where no frame was
kept, has a black tile's record with STALE and age 63. An output without a berth keeps no frame. Where a tile of an
output with a berth was not blended, TICK_SEAL_MISS is raised and TICK_SEAL_MISS_CNT counts one, else the count
stays. Flash and fuses stay. The outputs of the layout have different numbers. (rests on R29, R64, R71) -/
def Obligations.SealDeadlineSealsEveryOutput : Prop :=
  ∀ (s : State) (l : Layout), s.chip.dev.tick.inTick = true → s.chip.dev.tick.sealRan = false → s.chip.dev.layout = some l →
    (l.outs.map (fun r => r.out)).Nodup →
    let d := s.chip.dev
    ∃ t, exec .sealDeadline s = .next t ∧ t.chip.mem.flash = s.chip.mem.flash ∧ t.chip.mem.otp = s.chip.mem.otp ∧
      t.chip.dev.tick.sealRan = true ∧ t.chip.dev.tick.num = d.tick.num ∧
      (∀ r ∈ l.outs, ∀ n, (d.outp r.out).berth = some n →
        ∃ q, (t.chip.dev.outp r.out).prev = some q ∧ q.tick = d.tick.num ∧ q.berth = some n ∧ q.orec = r ∧ q.recs.length = 256 ∧
          (∀ i x, i < 256 → Tab.find (d.outp r.out).tiles i = some x → q.recs[i]? = some x) ∧
          (∀ i, i < 256 → Tab.find (d.outp r.out).tiles i = none → (d.outp r.out).prev = none →
            ∃ x, q.recs[i]? = some x ∧ x.stale = true ∧ x.age = 63)) ∧
      (∀ r ∈ l.outs, (d.outp r.out).berth = none → (t.chip.dev.outp r.out).prev = none) ∧
      (0 < d.unblended → t.chip.dev.get F.TICK_EVENTS_SEAL_MISS = 1 ∧
        t.chip.dev.get F.TICK_SEAL_MISS_CNT_COUNT =
          min (d.get F.TICK_SEAL_MISS_CNT_COUNT + 1) (2 ^ F.TICK_SEAL_MISS_CNT_COUNT.width - 1)) ∧
      (d.unblended = 0 → t.chip.dev.get F.TICK_SEAL_MISS_CNT_COUNT = d.get F.TICK_SEAL_MISS_CNT_COUNT)

/-- In a tick, for a present output that has not started: with a frame sealed in the tick before and a newer stamp to
give, OUTPUT_FRAME_SEND_START starts sending it on the enabled paths; with no frame due the stamp is due. A packet
leaves only while packets are left and counts. A tile whose bytes have the recorded CRC passes, any other fails the
frame: FRS_LOOPBACK_FAIL, reason CRC and the tile shown, the stamp due. The stamp covers the frame's tick: status
NO_FRAME (2) with no frame, LOOPBACK_FAIL (3) where the check failed, STALE_PRESENT (1) where a record is STALE, LIVE
(0) else, its sequence number one more. Of a frame that began before the tick or the step gap, the next packet and
the stamp go first and leave the frame of this tick as it is. Memory stays. (rests on R25, R65, R66, R67, R70, R74,
R75) -/
def Obligations.OutputsAreSentCheckedAndStamped : Prop :=
  ∀ (s : State) (o : Nat), o < 32 →
    let d := s.chip.dev
    let x := d.outp o
    (d.tick.inTick = true → d.present o = true → x.started = false →
      ∃ t, exec (.outputFrameSendStart o) s = .next t ∧ t.chip.mem = s.chip.mem ∧ (t.chip.dev.outp o).started = true ∧
        (d.frameDue o = none → (t.chip.dev.outp o).sending = none ∧ (t.chip.dev.outp o).stampDue = true) ∧
        (∀ q, d.frameDue o = some q → (∀ k, x.lastTick = some k → k < q.tick) →
          (t.chip.dev.outp o).sending = some q ∧ (t.chip.dev.outp o).sentPk = 0 ∧ (t.chip.dev.outp o).failed = false ∧
          (t.chip.dev.outp o).paths = (if d.txOn o then d.paths o else []) ∧
          (t.chip.dev.outp o).npk = (d.pktGeom o q.orec).2 * q.orec.height)) ∧
    (∀ q late, x.tail = none → x.sending = some q → x.failed = false → x.sentPk < x.npk → x.paths ≠ [] → d.tick.inTick = true →
      ∃ t, exec (.videoPacketSend o late) s = .next t ∧ t.chip.mem = s.chip.mem ∧ (t.chip.dev.outp o).sentPk = x.sentPk + 1 ∧
        Tab.get t.chip.dev.net.txExt 0 o = (Tab.get d.net.txExt 0 o + 1) % 2 ^ 32 ∧
        (d.sends = false → t.chip.dev.out = [])) ∧
    (∀ q path tile bytes, x.tail = none → x.sending = some q → x.failed = false → path ∈ x.paths → tile < 256 → (path, tile) ∉ x.checked →
      d.tileLastPacket o q.orec tile < x.sentPk →
      ∃ t, exec (.loopbackTileCheck o path tile bytes) s = .next t ∧ t.chip.mem = s.chip.mem ∧
        (BitVec.ofNat 32 (crc32c bytes) = (q.recs.getD tile ⟨0, true, false, 63⟩).check →
          (t.chip.dev.outp o).checked = x.checked ++ [(path, tile)] ∧ (t.chip.dev.outp o).failed = false) ∧
        (BitVec.ofNat 32 (crc32c bytes) ≠ (q.recs.getD tile ⟨0, true, false, 63⟩).check →
          (t.chip.dev.outp o).failed = true ∧ (t.chip.dev.outp o).stampDue = true ∧ t.chip.dev.get F.FRS_EVENTS_LOOPBACK_FAIL = 1 ∧
          t.chip.dev.get F.FRS_LOOPBACK_STATUS_OUTPUT_ID = o ∧ t.chip.dev.get F.FRS_LOOPBACK_STATUS_REASON = 1 ∧
          t.chip.dev.get F.FRS_LOOPBACK_STATUS_TILE = tile)) ∧
    (x.tail = none → x.stampDue = true →
      ∃ t, exec (.stampSend o) s = .next t ∧ t.chip.mem = s.chip.mem ∧ (t.chip.dev.outp o).stampDue = false ∧
        (t.chip.dev.outp o).stampDone = true ∧ (t.chip.dev.outp o).seq = (x.seq + 1) % 2 ^ 32 ∧
        t.chip.dev.get F.FRS_OUT_STATUS_STATUS o = (t.chip.dev.outp o).stampStatus ∧
        (t.chip.dev.outp o).stampStatus = (match x.sending with
          | none => 2
          | some q => if x.failed then 3 else if q.recs.any (fun r => r.stale) then 1 else 0) ∧
        (∀ q, x.sending = some q → (t.chip.dev.outp o).lastTick = some q.tick)) ∧
    (∀ y late, x.tail = some y → y.failed = false → y.gone = false → y.sentPk < y.npk →
      ∃ t, exec (.videoPacketSend o late) s = .next t ∧ t.chip.mem = s.chip.mem ∧
        (t.chip.dev.outp o).tail = some { y with sentPk := y.sentPk + 1, ext := (y.ext + 1) % 2 ^ 32 } ∧ (t.chip.dev.outp o).sending = x.sending ∧
        (t.chip.dev.outp o).sentPk = x.sentPk) ∧
    (∀ y, x.tail = some y → y.stampDue = true →
      ∃ t, exec (.stampSend o) s = .next t ∧ t.chip.mem = s.chip.mem ∧ (t.chip.dev.outp o).tail = none ∧
        (t.chip.dev.outp o).sending = x.sending ∧ (t.chip.dev.outp o).stampDue = x.stampDue ∧
        t.chip.dev.get F.FRS_OUT_SEQ_SEQ o = y.seq % 2 ^ 32 ∧
        t.chip.dev.get F.FRS_OUT_STATUS_STATUS o = (if y.gone then 2 else if y.failed then 3
          else if y.frame.recs.any (fun r => r.stale) then 1 else 0))

/-- An admitted CMP_LAYOUT_SEL of an index: while another request is pending it ends BUSY with CMP_SWITCH_REFUSED and
the pending one stays; else an index at or above LAYOUTS ends RANGE, a record that is not correct ends CHECK, any
refusal shows its result, and an accepted layout becomes pending with the current AT and PENDING 1; the layout in
force stays throughout. A cancel of the request's slot is kept, any other changes nothing. LAYOUT_PREPARE_COMPLETE of
one in time marks it prepared and writes its tiles placed in the spill region there, or ends it with DESCRIPTOR where
a structure it fetches is not whole; LAYOUT_LATE and LAYOUT_TIMEOUT end an unprepared one whose tick has come, or
whose TIMEOUT edges have passed, with LATE or TIMEOUT, or CANCELLED where a cancel waits. Other memory stays. (rests
on R95, R97, R99, R101, R109, R469) -/
def Obligations.LayoutRequestsAreJudgedInOrder : Prop :=
  (∀ (s : State) (slot index : Nat), slot < 8 → index < 256 →
    s.chip.admits slot R.CMP_LAYOUT_SEL 0 (F.CMP_LAYOUT_SEL_INDEX.at index) = true →
    let d := s.chip.dev
    let asked := (d.quiet.put F.CMP_LAYOUT_SEL_INDEX 0 index).put F.CMP_LAYOUT_STATUS_REQ_SLOT 0 slot
    let at_ := d.get2 F.CMP_LAYOUT_AT_LO_AT F.CMP_LAYOUT_AT_HI_AT
    let refused (r : LayoutResult) (t : State) : Prop :=
      t.chip.dev.layoutReq = none ∧ t.chip.dev.get F.CMP_LAYOUT_STATUS_RESULT = r.code ∧
      t.chip.dev.get F.CMP_LAYOUT_STATUS_PENDING = 0 ∧ t.chip.dev.get F.CMP_EVENTS_SWITCH_REFUSED = 1
    ∃ t, exec (.layoutRequest slot index) s = .next t ∧ t.chip.mem = s.chip.mem ∧ t.chip.dev.layout = d.layout ∧
      t.chip.dev.get F.CMP_LAYOUT_SEL_INDEX = index ∧ t.chip.dev.get F.CMP_LAYOUT_STATUS_REQ_SLOT = slot ∧
      (∀ r, d.layoutReq = some r → t.chip.dev.layoutReq = some r ∧ t.chip.dev.get F.CMP_LAYOUT_STATUS_RESULT = LayoutResult.busy.code ∧
        t.chip.dev.get F.CMP_EVENTS_SWITCH_REFUSED = 1) ∧
      (d.layoutReq = none →
        (d.get F.CMP_TABLE_SIZE_LAYOUTS ≤ index → refused .range t) ∧
        (index < d.get F.CMP_TABLE_SIZE_LAYOUTS → recordOk s.chip.mem (d.layoutTable + 4096 * index) index = false → refused .check t) ∧
        (∀ r b, asked.judge s.chip.mem slot index = .refused r b → refused r t) ∧
        (asked.judge s.chip.mem slot index = .same → ∃ l, t.chip.dev.layoutReq = some ⟨slot, index, at_, l, true, true, false, 0⟩ ∧
          t.chip.dev.get F.CMP_LAYOUT_STATUS_PENDING = 1) ∧
        (∀ l b, asked.judge s.chip.mem slot index = .accepted l b →
          t.chip.dev.layoutReq = some ⟨slot, index, at_, l, false, false, false, 0⟩ ∧ t.chip.dev.get F.CMP_LAYOUT_STATUS_PENDING = 1 ∧
          t.chip.dev.get F.CMP_LAYOUT_STATUS_PENDING_INDEX = index))) ∧
  (∀ (s : State) (slot : Nat), slot < 8 → s.chip.admits slot R.CMP_LAYOUT_SEL 0 (F.CMP_LAYOUT_SEL_CANCEL.at 1) = true →
    ∃ t, exec (.layoutCancel slot) s = .next t ∧ t.chip.mem = s.chip.mem ∧ t.chip.dev.layout = s.chip.dev.layout ∧
      t.chip.dev.layoutReq = s.chip.dev.layoutReq.map (fun r => if r.slot = slot then { r with cancel := true } else r)) ∧
  (∀ (s : State) (r : LayoutReq), s.chip.dev.layoutReq = some r → r.same = false → r.prepared = false →
    let d := s.chip.dev
    let ended (x : LayoutResult) (t : State) : Prop :=
      t.chip.dev.layoutReq = none ∧ t.chip.dev.get F.CMP_LAYOUT_STATUS_RESULT = (if r.cancel then LayoutResult.cancelled else x).code ∧
      t.chip.dev.get F.CMP_LAYOUT_STATUS_PENDING = 0 ∧ t.chip.dev.get F.CMP_EVENTS_SWITCH_REFUSED = 1 ∧ t.chip.dev.layout = d.layout
    let tables := d.readTables s.chip.mem r.layout.outs
    let whole := d.prefetchOk s.chip.mem tables (d.imageRefs (r.layout.sources tables.desc))
    (r.at_ = 0 ∨ d.tick.inTick = false ∨ d.tick.num < r.at_ → r.edges < d.get F.CMP_SWITCH_CFG_TIMEOUT →
      (whole = true →
        ∃ t, exec .layoutPrepareComplete s = .next t ∧ t.chip.dev.regs = d.regs ∧ t.chip.dev.layout = d.layout ∧
          t.chip.mem = { s.chip.mem with dram := d.spillAll s.chip.mem.dram d.stacksNew } ∧
          t.chip.dev.layoutReq = some { r with prepared := true }) ∧
      (whole = false → r.cancel = false →
        ∃ t, exec .layoutPrepareComplete s = .next t ∧ t.chip.mem = s.chip.mem ∧ ended .descriptor t)) ∧
    (r.at_ ≠ 0 → d.tick.running = true → r.at_ ≤ d.tick.num →
      ∃ t, exec .layoutLate s = .next t ∧ t.chip.mem = s.chip.mem ∧ ended .late t) ∧
    (d.get F.CMP_SWITCH_CFG_TIMEOUT ≤ r.edges →
      ∃ t, exec .layoutTimeout s = .next t ∧ t.chip.mem = s.chip.mem ∧ ended .timeout t) ∧
    (r.edges < d.get F.CMP_SWITCH_CFG_TIMEOUT →
      ∃ t, exec .layoutTimeout s = .next t ∧ t.chip.mem = s.chip.mem ∧ t.chip.dev = { d with out := [] }))

/-- A prepared request with no AT, or with AT the tick of the edge, that no mirror holds back: after the edge its
layout is in force, no request is pending, RESULT is DONE, CMP_SWITCH_DONE is raised, VALID is 1, CURRENT is its
index, and CMP_OUT_STATE.PRESENT is 1 exactly for its outputs, even where a cancel waits. An unprepared one with a
cancel waiting ends CANCELLED, the layout in force as before; a repeated request for the layout in force ends DONE
and changes none of the layout. MOOR_SPILL_MOVE_COMPLETE, where cache blocks are free for it, gives the first spilled
tile in placement order as many cache blocks as it has spill blocks, and frees these; the layout reads it from there
from the next edge on. Memory and all else stay. (rests on R97, R98, R99, R101, R110) -/
def Obligations.SwitchEdgesPutTheLayoutInForce : Prop :=
  (∀ (d : Device) (r : LayoutReq) (t : Nat), d.layoutReq = some r →
    let e := d.layoutEdge t
    (r.same = false → r.prepared = true → (r.at_ = 0 ∨ r.at_ = t) → d.mirrorBlocks = false → r.index < 256 →
      e.layout = some r.layout ∧ e.layoutReq = none ∧ e.get F.CMP_LAYOUT_STATUS_RESULT = LayoutResult.done.code ∧
      e.get F.CMP_EVENTS_SWITCH_DONE = 1 ∧ e.get F.CMP_LAYOUT_STATUS_VALID = 1 ∧ e.get F.CMP_LAYOUT_STATUS_CURRENT = r.index ∧
      ∀ o, o < 32 → (e.get F.CMP_OUT_STATE_PRESENT o = 1 ↔ ∃ q ∈ r.layout.outs, q.out = o)) ∧
    (r.same = false → r.prepared = false → r.cancel = true →
      e.layout = d.layout ∧ e.layoutReq = none ∧ e.get F.CMP_LAYOUT_STATUS_RESULT = LayoutResult.cancelled.code) ∧
    (r.same = true → e.layout = d.layout ∧ e.layoutReq = none ∧ e.get F.CMP_LAYOUT_STATUS_RESULT = LayoutResult.done.code)) ∧
  (∀ (s : State) (bs : List Nat) (px : List Px),
    let d := s.chip.dev
    let l := d.tick.moving.getD d.stacksNow
    firstSpill l = some (bs, px) → bs ≠ [] → d.moorCacheUsed + bs.length ≤ 65536 →
    ∃ t m, exec .moorSpillMoveComplete s = .next t ∧ t.chip.mem = s.chip.mem ∧
      t.chip.dev = { d with out := [], tick := { d.tick with moving := some m } } ∧
      stacksCache m = stacksCache l + bs.length ∧ stacksSpill m = (stacksSpill l).drop bs.length) ∧
  (∀ (d : Device) (l : Layout) (m : List MoorStack), d.layout = some l → d.tick.moving = some m →
    d.movesEdge.layout = some { l with moored := m } ∧ d.movesEdge.tick.moving = none)

/-- An admitted CMP_BERTH_QUERY copies the eight words of the berth's record into the slot's CMP_BERTH_REC. Outside
RUN an admitted pin of a source with a newest berth, while its class has an unreserved free berth and the slot has no
pin, pins that berth and takes a reference to it; of a source without one it is refused with CMP_PIN_REFUSED, as is
one of an output that is not present, and the slot's pin stays; OP 3 clears it. In RUN each waits for the edge. An
admitted CMP_POOL_CFG takes effect: where it changes COUNT or SIZE every berth of the class is FREE, those of lower
classes stay and those of higher classes keep what they hold under their new numbers; else every berth stays. (rests
on R112, R117, R119) -/
def Obligations.BerthRegistersAndPins : Prop :=
  ∀ (s : State) (slot : Nat), slot < 8 →
    let d := s.chip.dev
    (∀ b, b < 16384 → s.chip.admits slot R.CMP_BERTH_QUERY 0 b = true →
      ∃ t, exec (.berthQuery slot b) s = .next t ∧ t.chip.mem = s.chip.mem ∧
        (∀ k, k < 8 → t.chip.dev.getS F.CMP_BERTH_REC_WORD slot k = (d.berthRecord b).getD k 0 % 2 ^ 32) ∧
        d.keeps t.chip.dev (but [F.CMP_BERTH_QUERY_BERTH, F.CMP_BERTH_REC_WORD])) ∧
    (∀ src, src < 256 → s.chip.admits slot R.CMP_BERTH_PIN 0 (F.CMP_BERTH_PIN_OP.at 1 + F.CMP_BERTH_PIN_ID.at src) = true →
      (d.pwr ≠ .run → ∃ t, exec (.berthPinSource slot src) s = .next t ∧ t.chip.mem = s.chip.mem ∧
        (∀ n, (d.src src).newest = some n → n < 16384 → d.getS F.CMP_BERTH_PIN_PINNED slot = 0 →
          d.unusedRes (d.classOf n) < (d.freeOf (d.classOf n)).length →
          t.chip.dev.getS F.CMP_BERTH_PIN_PINNED slot = 1 ∧ t.chip.dev.getS F.CMP_BERTH_PIN_BERTH slot = n ∧
          (t.chip.dev.berth n).refs = (d.berth n).refs ++ [.pin slot]) ∧
        ((d.src src).newest = none → t.chip.dev.get F.CMP_EVENTS_PIN_REFUSED = 1 ∧ t.chip.dev.berths = d.berths ∧
          t.chip.dev.getS F.CMP_BERTH_PIN_PINNED slot = d.getS F.CMP_BERTH_PIN_PINNED slot)) ∧
      (d.pwr = .run → ∃ t, exec (.berthPinSource slot src) s = .next t ∧ t.chip.mem = s.chip.mem ∧ t.chip.dev.regs = d.regs ∧
        t.chip.dev.berths = d.berths ∧ t.chip.dev.pinWait = d.pinWait ++ [(slot, 1, src)])) ∧
    (∀ o, o < 32 → s.chip.admits slot R.CMP_BERTH_PIN 0 (F.CMP_BERTH_PIN_OP.at 2 + F.CMP_BERTH_PIN_ID.at o) = true →
      (d.pwr ≠ .run → d.present o = false →
        ∃ t, exec (.berthPinOutput slot o) s = .next t ∧ t.chip.mem = s.chip.mem ∧ t.chip.dev.get F.CMP_EVENTS_PIN_REFUSED = 1 ∧
          t.chip.dev.berths = d.berths) ∧
      (d.pwr = .run → ∃ t, exec (.berthPinOutput slot o) s = .next t ∧ t.chip.mem = s.chip.mem ∧ t.chip.dev.regs = d.regs ∧
        t.chip.dev.berths = d.berths ∧ t.chip.dev.pinWait = d.pinWait ++ [(slot, 2, o)]) ∧
      (d.pwr ≠ .run → ∀ n, d.present o = true → d.outNewest o = some n → n < 16384 → d.getS F.CMP_BERTH_PIN_PINNED slot = 0 →
        d.unusedRes (d.classOf n) < (d.freeOf (d.classOf n)).length →
        ∃ t, exec (.berthPinOutput slot o) s = .next t ∧ t.chip.mem = s.chip.mem ∧ t.chip.dev.getS F.CMP_BERTH_PIN_BERTH slot = n ∧
          (t.chip.dev.berth n).refs = (d.berth n).refs ++ [.pin slot])) ∧
    (s.chip.admits slot R.CMP_BERTH_PIN 0 (F.CMP_BERTH_PIN_OP.at 3) = true →
      (d.pwr ≠ .run → ∃ t, exec (.berthPinRelease slot) s = .next t ∧ t.chip.mem = s.chip.mem ∧
        t.chip.dev.getS F.CMP_BERTH_PIN_PINNED slot = 0) ∧
      (d.pwr = .run → ∃ t, exec (.berthPinRelease slot) s = .next t ∧ t.chip.mem = s.chip.mem ∧ t.chip.dev.regs = d.regs ∧
        t.chip.dev.berths = d.berths ∧ t.chip.dev.pinWait = d.pinWait ++ [(slot, 3, 0)])) ∧
    (∀ c w, c < 8 → w < 2 ^ 32 → s.chip.admits slot R.CMP_POOL_CFG c w = true →
      ∃ t, exec (.poolConfigWrite slot (R.CMP_POOL_CFG.base + R.CMP_POOL_CFG.stride * c) w) s = .next t ∧ t.chip.mem = s.chip.mem ∧
        t.chip.dev.get F.CMP_POOL_CFG_COUNT c = F.CMP_POOL_CFG_COUNT.of w ∧ t.chip.dev.get F.CMP_POOL_CFG_SIZE c = F.CMP_POOL_CFG_SIZE.of w ∧
        (t.chip.dev.poolCount c = d.poolCount c → t.chip.dev.poolSize c = d.poolSize c → t.chip.dev.berths = d.berths) ∧
        (t.chip.dev.poolCount c ≠ d.poolCount c ∨ t.chip.dev.poolSize c ≠ d.poolSize c →
          (∀ n, n < d.poolFirst c → Tab.find t.chip.dev.berths n = Tab.find d.berths n) ∧
          (∀ n, d.poolFirst c ≤ n → n < d.poolFirst c + t.chip.dev.poolCount c → Tab.find t.chip.dev.berths n = none) ∧
          (∀ n, d.poolFirst c + d.poolCount c ≤ n →
            Tab.find t.chip.dev.berths (n - d.poolCount c + t.chip.dev.poolCount c) = Tab.find d.berths n)))

/-- An admitted write to CMP_OUT_OWNER_o gives the output its new owner where the owner is the writing slot or 0xF,
and otherwise leaves the owner and raises CMP_OWNER_DENIED. An admitted PIX_MAT_COMMIT of an entry below 240 with
well-formed staged words puts the sixteen words into the entry at once outside RUN and keeps them for the edge in
RUN; of an entry from 240, or of words that are not well formed, it is dropped with CFG_DROPPED. PIX_MAT_QUERY copies
the entry's words into the slot's PIX_MAT_READ. (rests on R103, R138, R152) -/
def Obligations.OwnersAndMatrixEntries : Prop :=
  ∀ (s : State) (slot : Nat), slot < 8 →
    let d := s.chip.dev
    (∀ o v, o < 32 → v < 16 → s.chip.admits slot R.CMP_OUT_OWNER o (F.CMP_OUT_OWNER_SLOT.at v) = true →
      ∃ t, exec (.outOwnerWrite slot o v) s = .next t ∧ t.chip.mem = s.chip.mem ∧
        d.keeps t.chip.dev (but [F.CMP_OUT_OWNER_SLOT, F.CMP_EVENTS_OWNER_DENIED]) ∧
        (∀ p, p ≠ o → t.chip.dev.get F.CMP_OUT_OWNER_SLOT p = d.get F.CMP_OUT_OWNER_SLOT p) ∧
        (d.get F.CMP_OUT_OWNER_SLOT o = slot ∨ d.get F.CMP_OUT_OWNER_SLOT o = 15 → t.chip.dev.get F.CMP_OUT_OWNER_SLOT o = v) ∧
        (d.get F.CMP_OUT_OWNER_SLOT o ≠ slot → d.get F.CMP_OUT_OWNER_SLOT o ≠ 15 →
          t.chip.dev.get F.CMP_OUT_OWNER_SLOT o = d.get F.CMP_OUT_OWNER_SLOT o ∧ t.chip.dev.get F.CMP_EVENTS_OWNER_DENIED = 1)) ∧
    (∀ i, i < 256 → s.chip.admits slot R.PIX_MAT_COMMIT 0 (F.PIX_MAT_COMMIT_INDEX.at i) = true →
      ∃ t, exec (.matCommit slot i) s = .next t ∧ t.chip.mem = s.chip.mem ∧
        (i < 240 → stageOk (d.staged slot) = true → t.chip.dev.regs = d.regs ∧
          (d.pwr ≠ .run → Tab.find t.chip.dev.mats i = some (d.staged slot) ∧ (∀ j, j ≠ i → Tab.find t.chip.dev.mats j = Tab.find d.mats j)) ∧
          (d.pwr = .run → t.chip.dev.mats = d.mats ∧ Tab.find t.chip.dev.matWait i = some (d.staged slot))) ∧
        (240 ≤ i ∨ stageOk (d.staged slot) = false →
          t.chip.dev.mats = d.mats ∧ t.chip.dev.matWait = d.matWait ∧ t.chip.dev.get F.SYS_EVENTS_CFG_DROPPED = 1)) ∧
    (∀ i, i < 256 → s.chip.admits slot R.PIX_MAT_QUERY 0 (F.PIX_MAT_QUERY_INDEX.at i) = true →
      ∃ t, exec (.matQuery slot i) s = .next t ∧ t.chip.mem = s.chip.mem ∧
        (∀ k, k < 16 → t.chip.dev.getS F.PIX_MAT_READ_WORD slot k = (d.mat i).words.getD k 0 % 2 ^ 32) ∧
        d.keeps t.chip.dev (but [F.PIX_MAT_QUERY_INDEX, F.PIX_MAT_READ_WORD]))

/-- A frame that no service, flow or witness takes is dropped and counted as its class says. A packet of a flow of
FORM 0 with a header fault is counted in NET_DROP_MALFORMED and stores nothing, nor does the second copy of a
sequence number. While ingest has room, the first copy of one whose frame is filling a berth stores the bytes of its
segments at the berth's address plus stride times line plus the byte offset, and no other byte of DRAM; when every
pixel group of every line is then written and no write is unacknowledged, a frame with a later RTP timestamp than the
last one sealed is counted in NET_SRC_CNT_FRAMES and, its berth not CORRUPT, becomes the NEWEST of the source, and
any other is counted as discarded; with writes unacknowledged it waits. SKEW_MS without a packet frees the berth and
counts the discard. (rests on R43, R209, R213, R217, R218, R220) -/
def Obligations.IngestStoresEachPacketOnce : Prop :=
  (∀ (s : State) (h : RxHdr) (p : VideoPkt), (∀ f, s.chip.dev.classify h ≠ .flow f) →
    let d := s.chip.dev
    let k := d.classify h
    let counted (x : RxClass) (f : Fld) (t : State) : Prop :=
      t.chip.dev.get f = if k = x then min (d.get f + 1) (2 ^ f.width - 1) else d.get f
    let dropped (t : State) : Prop :=
      counted .ipv6 F.NET_DROP_IPV6_COUNT t ∧ counted .malformed F.NET_DROP_MALFORMED_COUNT t ∧
      counted .fragment F.NET_DROP_FRAGMENT_COUNT t ∧ counted .unmatched F.NET_DROP_UNMATCHED_COUNT t ∧ t.chip.mem = s.chip.mem ∧
      t.chip.dev.berths = d.berths ∧ t.chip.dev.srcs = d.srcs ∧ t.chip.dev.net = d.net ∧ t.chip.dev.out = [] ∧
      d.keeps t.chip.dev (but [F.NET_DROP_IPV6_COUNT, F.NET_DROP_MALFORMED_COUNT, F.NET_DROP_FRAGMENT_COUNT, F.NET_DROP_UNMATCHED_COUNT])
    (∃ t, exec (.mediaFrameDrop h) s = .next t ∧ dropped t) ∧
    (k ≠ .witness → ∃ t, exec (.ingestPacketReceive h p) s = .next t ∧ dropped t)) ∧
  (∀ (s : State) (h : RxHdr) (p : VideoPkt) (f : Nat), s.chip.dev.classify h = .flow f → s.chip.dev.get F.NET_RX_FLOW_CFG_FORM f = 0 →
    s.chip.mem.dram.wf = true →
    let d := s.chip.dev
    let src := d.get F.NET_RX_FLOW_CFG_SOURCE f
    let fm := d.get F.NET_SRC_CFG_FORMAT src
    let w := d.get F.NET_SRC_SIZE_WIDTH src
    let taken := d.videoOk src p = true
    let seen := (d.ing src).seen.any (fun (q : Nat × List Nat) => decide (p.seq ∈ q.2))
    ∃ t, exec (.ingestPacketReceive h p) s = .next t ∧
      (¬taken → t.chip.mem = s.chip.mem ∧ t.chip.dev.berths = d.berths ∧ t.chip.dev.srcs = d.srcs ∧
        t.chip.dev.get F.NET_DROP_MALFORMED_COUNT = min (d.get F.NET_DROP_MALFORMED_COUNT + 1) (2 ^ F.NET_DROP_MALFORMED_COUNT.width - 1) ∧
        d.keeps t.chip.dev (but [F.NET_DROP_MALFORMED_COUNT])) ∧
      (taken → seen = true → t.chip.mem = s.chip.mem ∧ t.chip.dev.berths = d.berths ∧ t.chip.dev.regs = d.regs ∧
        t.chip.dev.src src = { d.src src with pktSeen := true } ∧ (∀ x, x ≠ src → t.chip.dev.src x = d.src x)) ∧
      (∀ fr n, taken → seen = false → d.ingestFull h.port = false →
        (d.ing src).filling.find? (fun (x : Filling) => decide (x.ts = p.ts)) = some fr → fr.berth = some n →
        let place (g : Segment) := d.berthAddr n + fmtStride fm w * g.line + g.offset / fmtG fm * (fmtGroup fm).2.1
        let rows := p.segs.foldl (fun (r : Tab Nat Nat) (g : Segment) => Tab.upd r 0 g.line (fun v => v ||| segMask fm g)) fr.rows
        let later := match (d.src src).lastTs with
          | some u => serialLater fr.ts u
          | none => true
        t.chip.mem = { s.chip.mem with dram := t.chip.mem.dram } ∧
        (∀ g, p.segs = [g] → s.chip.mem.storedAt t.chip.mem (place g) g.data) ∧
        (∀ x, (∀ g ∈ p.segs, x < place g ∨ place g + g.data.length ≤ x) → Dram.read t.chip.mem.dram x = Dram.read s.chip.mem.dram x) ∧
        (rowsDone fm w (d.get F.NET_SRC_SIZE_HEIGHT src) rows = true → (d.berth n).kind = 1 →
          ((d.berth n).unacked = 0 → later = true →
            t.chip.dev.get F.NET_SRC_CNT_FRAMES_COUNT src =
              min (d.get F.NET_SRC_CNT_FRAMES_COUNT src + 1) (2 ^ F.NET_SRC_CNT_FRAMES_COUNT.width - 1) ∧
            (t.chip.dev.src src).lastTs = some fr.ts ∧
            ((d.berth n).corrupt = false → (t.chip.dev.src src).newest = some n ∧ (t.chip.dev.src src).fallback = (d.src src).newest) ∧
            ((d.berth n).corrupt = true → (t.chip.dev.src src).newest = (d.src src).newest)) ∧
          ((d.berth n).unacked = 0 → later = false → (t.chip.dev.src src).newest = (d.src src).newest ∧
            t.chip.dev.get F.NET_SRC_CNT_DISCARD_COUNT src =
              min (d.get F.NET_SRC_CNT_DISCARD_COUNT src + 1) (2 ^ F.NET_SRC_CNT_DISCARD_COUNT.width - 1)) ∧
          ((d.berth n).unacked ≠ 0 → (t.chip.dev.berth n).done = true ∧ (t.chip.dev.src src).newest = (d.src src).newest)) ∧
        (rowsDone fm w (d.get F.NET_SRC_SIZE_HEIGHT src) rows = false → t.chip.dev.berths = d.berths ∧ t.chip.dev.regs = d.regs))) ∧
  (∀ (s : State) (src ts : Nat),
    let d := s.chip.dev
    let skew := d.get F.NET_SRC_CFG_SKEW_MS src * 1000000
    (∀ fr n, (d.ing src).filling.find? (fun (x : Filling) => decide (x.ts = ts)) = some fr → fr.berth = some n →
      ∃ t, exec (.ingestSkewTimeout src ts) s = .next t ∧ t.chip.mem = s.chip.mem ∧ Tab.find t.chip.dev.berths n = none ∧
        (∀ m, m ≠ n → Tab.find t.chip.dev.berths m = Tab.find d.berths m) ∧ (t.chip.dev.src src).lastIncomplete = true ∧
        fr.lastNs + skew ≤ t.chip.dev.now ∧
        t.chip.dev.get F.NET_SRC_CNT_DISCARD_COUNT src =
          min (d.get F.NET_SRC_CNT_DISCARD_COUNT src + 1) (2 ^ F.NET_SRC_CNT_DISCARD_COUNT.width - 1) ∧
        d.keeps t.chip.dev (but [F.NET_SRC_CNT_DISCARD_COUNT, F.CMP_EVENTS_BERTH_RETIRED])) ∧
    ((d.ing src).filling.find? (fun (x : Filling) => decide (x.ts = ts)) = none →
      ∃ t, exec (.ingestSkewTimeout src ts) s = .next t ∧ t = { s with chip := s.chip.quiet }))

/-- An ARP request for an address that the port answers (rests on R211) sends one reply with the port's MAC address,
and no other. A reply to the unit address fills the cache with the sender's MAC address and ends the wait for it; a
frame from another MAC address that claims the unit address raises NET_ADDR_CONFLICT. The retry timer of a waiting
address sends the request again a second after the last, and with three sent raises NET_ARP_UNRESOLVED; the refresh
timer asks for a cached address 60 s after it was learned; on a port that is not UP neither sends. An echo request to
the unit address is answered with its payload, one to another address is not. Memory and berths stay. (rests on R209,
R211, R372) A query of version 1 changes no register and sends nothing. One of version 3 sends the records of the
memberships of the port that it asks for, none where there are none. One of version 2 sets the port's bit of
NET_IGMP_STATUS, raises NET_IGMP_V2 where it was 0, and is answered in that version. The repeat timer sends the
oldest report of the port, where it is UP, a second time and forgets it. The querier timeout clears the port's bit.
Memory and berths stay. (rests on R212) -/
def Obligations.NetworkQueriesAreAnswered : Prop :=
  ((∀ (s : State) (h : RxHdr) (mac sip tip : Nat), s.chip.dev.classify h = .arp →
     let d := s.chip.dev
     let p := h.port
     let claim := p < 28 ∧ sip = d.unitAddr p ∧ sip ≠ 0 ∧ mac ≠ d.portMac p
     let judged (t : State) : Prop :=
       t.chip.mem = s.chip.mem ∧ t.chip.dev.berths = d.berths ∧
       d.keeps t.chip.dev (but [F.NET_PORT_STATUS_ADDR_CONFLICT, F.NET_EVENTS_ADDR_CONFLICT]) ∧
       (claim → t.chip.dev.get F.NET_PORT_STATUS_ADDR_CONFLICT p = 1 ∧ t.chip.dev.get F.NET_EVENTS_ADDR_CONFLICT = 1) ∧
       (¬claim → t.chip.dev.regs = d.regs)
     (∃ t, exec (.arpRequestReceive h mac sip tip) s = .next t ∧ judged t ∧ t.chip.dev.net = d.net ∧
       t.chip.dev.out = if d.arpAnswers p tip then [.arp p (d.txTag p) 2 (d.portMac p) tip mac sip] else []) ∧
     (∃ t, exec (.arpReplyReceive h mac sip tip) s = .next t ∧ judged t ∧ t.chip.dev.out = [] ∧
       (tip = d.unitAddr p → sip ≠ d.unitAddr p →
         t.chip.dev.arpFind p sip = some mac ∧ (∀ w ∈ t.chip.dev.net.arpWait, ¬(w.port = p ∧ w.ip = sip)) ∧
         (d.net.arp.length ≤ 256 → t.chip.dev.net.arp.length ≤ 256)) ∧
       (tip ≠ d.unitAddr p → t.chip.dev.net = d.net))) ∧
   (∀ (s : State) (p ip : Nat),
     let d := s.chip.dev
     let request (t : State) : Prop := t.chip.dev.out = if d.portUp p = true ∨ p = 32 then [.arp p (d.txTag p) 1 (d.portMac p) (d.unitAddr p) 0 ip] else []
     (∀ w, d.net.arpWait.find? (fun (x : ArpWait) => decide (x.port = p) && decide (x.ip = ip)) = some w →
       ∃ t, exec (.arpRetryTimer p ip) s = .next t ∧ t.chip.mem = s.chip.mem ∧ t.chip.dev.berths = d.berths ∧ request t ∧
         w.lastNs + 1000000000 ≤ t.chip.dev.now ∧ d.keeps t.chip.dev (but [F.NET_EVENTS_ARP_UNRESOLVED]) ∧
         (w.tries = 3 → d.portUp p = true ∨ p = 32 → t.chip.dev.get F.NET_EVENTS_ARP_UNRESOLVED = 1) ∧
         (w.tries ≠ 3 ∨ ¬(d.portUp p = true ∨ p = 32) → t.chip.dev.regs = d.regs)) ∧
     (∀ e, d.net.arp.find? (fun (x : ArpEntry) => decide (x.port = p) && decide (x.ip = ip)) = some e →
       ∃ t, exec (.arpRefreshTimer p ip) s = .next t ∧ t.chip.mem = s.chip.mem ∧ t.chip.dev.berths = d.berths ∧ request t ∧
         e.learned + 60000000000 ≤ t.chip.dev.now ∧ t.chip.dev.regs = d.regs)) ∧
   (∀ (s : State) (h : RxHdr) (l : List Byte), s.chip.dev.classify h = .icmp →
     ∃ t, exec (.icmpEchoRequest h l) s = .next t ∧ t.chip.mem = s.chip.mem ∧ t.chip.dev.regs = s.chip.dev.regs ∧
       t.chip.dev.berths = s.chip.dev.berths ∧
       t.chip.dev.out = if h.dst = s.chip.dev.unitAddr h.port then [.icmpReply h.port (s.chip.dev.txTag h.port) h.src h.dst l] else [])) ∧
  ((∀ (s : State) (h : RxHdr) (v g : Nat), s.chip.dev.classify h = .igmp →
     let d := s.chip.dev
     let p := h.port
     let w := d.get F.NET_IGMP_STATUS_V2_COMPAT
     ∃ t, exec (.igmpQueryReceive h v g) s = .next t ∧ t.chip.mem = s.chip.mem ∧ t.chip.dev.berths = d.berths ∧
       d.keeps t.chip.dev (but [F.NET_IGMP_STATUS_V2_COMPAT, F.NET_EVENTS_IGMP_V2]) ∧
       (v = 1 → t.chip.dev.regs = d.regs ∧ t.chip.dev.net = d.net ∧ t.chip.dev.out = []) ∧
       (v = 3 → t.chip.dev.regs = d.regs ∧ t.chip.dev.net = d.net ∧
         t.chip.dev.out = if d.igmpAnswer p g = [] then [] else [.igmp p (d.txTag p) (d.unitAddr p) (w.testBit p) (d.igmpAnswer p g)]) ∧
       (v = 2 → p < 28 →
         (∀ q, q < 28 → (t.chip.dev.get F.NET_IGMP_STATUS_V2_COMPAT).testBit q = (decide (q = p) || w.testBit q)) ∧
         (w.testBit p = false → t.chip.dev.get F.NET_EVENTS_IGMP_V2 = 1) ∧
         t.chip.dev.out = if d.igmpAnswer p g = [] then [] else [.igmp p (d.txTag p) (d.unitAddr p) true (d.igmpAnswer p g)])) ∧
   (∀ (s : State) (r : IgmpRepeat) (p : Nat), s.chip.dev.net.igmpRepeat.find? (fun (x : IgmpRepeat) => decide (x.port = p)) = some r →
     let d := s.chip.dev
     ∃ t, exec (.igmpReportRepeat p) s = .next t ∧ t.chip.mem = s.chip.mem ∧ t.chip.dev.regs = d.regs ∧ t.chip.dev.berths = d.berths ∧
       r.due ≤ t.chip.dev.now ∧ t.chip.dev.net.igmpRepeat = d.net.igmpRepeat.erase r ∧
       t.chip.dev.out = if d.portUp p = true ∨ p = 32 then
         [.igmp p (d.txTag p) (d.unitAddr p) ((d.get F.NET_IGMP_STATUS_V2_COMPAT).testBit p) r.records] else []) ∧
   (∀ (s : State) (p u : Nat), p < 28 → Tab.find s.chip.dev.net.igmpV2 p = some u →
     let d := s.chip.dev
     ∃ t, exec (.igmpV2Timeout p) s = .next t ∧ t.chip.mem = s.chip.mem ∧ t.chip.dev.berths = d.berths ∧ t.chip.dev.out = [] ∧
       u ≤ t.chip.dev.now ∧ Tab.find t.chip.dev.net.igmpV2 p = none ∧ d.keeps t.chip.dev (but [F.NET_IGMP_STATUS_V2_COMPAT]) ∧
       ∀ q, q < 28 → (t.chip.dev.get F.NET_IGMP_STATUS_V2_COMPAT).testBit q =
         (!decide (q = p) && (d.get F.NET_IGMP_STATUS_V2_COMPAT).testBit q)))

/-- A write of NET_RX_FLOW_CFG that sets EN against R215 is dropped with CFG_DROPPED and NET_FLOW_CONFLICT, the entry
as before; one that is admitted stores its fields. A witness stamp that is not whole, or not the partner's ACTIVE
stamp of an output watched on that group and port, changes nothing that the witness keeps; one that is accepted is
the last of its output. The verdict on tick k = tick − 2 of a watched output without one is 1, 2 or 3 by R232 and
stands in NET_WIT_STATE with k; each verdict but FRESH is counted in NET_WIT_CNT, and one that is not the output's
first and differs raises NET_WIT_CHANGE. Memory stays. (rests on R215, R231, R232) -/
def Obligations.FlowsAndWitness : Prop :=
  (∀ (s : State) (slot f w : Nat), slot < 8 → f < 512 → w < 2 ^ 32 →
    let d := s.chip.dev
    (s.chip.admits slot R.NET_RX_FLOW_CFG f w = true →
      ∃ t, exec (.rxFlowEnableWrite slot f w) s = .next t ∧ t.chip.mem = s.chip.mem ∧
        (∀ x ∈ R.NET_RX_FLOW_CFG.flds, x.acc = .rw ∨ x.acc = .rws → t.chip.dev.get x f = x.of w) ∧
        (∀ x ∈ R.NET_RX_FLOW_CFG.flds, ∀ g, g ≠ f → t.chip.dev.get x g = d.get x g) ∧ d.keeps t.chip.dev (but R.NET_RX_FLOW_CFG.flds)) ∧
    (d.pd1On = true → d.regFault slot (R.NET_RX_FLOW_CFG.base + R.NET_RX_FLOW_CFG.stride * f) 32 true = none → d.roleRefuses 8 false = false →
      d.defers = false → F.NET_RX_FLOW_CFG_EN.of w = 1 → d.on F.NET_RX_FLOW_CFG_EN f = false →
      d.flowConflict f (F.NET_RX_FLOW_CFG_PORT.of w) (F.NET_RX_FLOW_CFG_LEG.of w) (F.NET_RX_FLOW_CFG_FORM.of w)
        (F.NET_RX_FLOW_CFG_SOURCE.of w) = true →
      ∃ t, exec (.rxFlowEnableWrite slot f w) s = .next t ∧ t.chip.mem = s.chip.mem ∧
        (∀ x ∈ R.NET_RX_FLOW_CFG.flds, t.chip.dev.get x f = d.get x f) ∧
        t.chip.dev.get F.SYS_EVENTS_CFG_DROPPED = 1 ∧ t.chip.dev.get F.NET_EVENTS_FLOW_CONFLICT = 1)) ∧
  (∀ (s : State) (h : RxHdr) (l : List Byte), s.chip.dev.classify h = .witness →
    let d := s.chip.dev
    let o := beAt l 5 1
    let accepted := stampIntact l = true ∧ beAt l 36 1 = 1 ∧ beAt l 37 1 = 1 - d.unitNo ∧ o ∈ d.witStampOuts h
    ∃ t, exec (.witnessStampReceive h (.stamp l)) s = .next t ∧ t.chip.mem = s.chip.mem ∧ t.chip.dev.regs = d.regs ∧ t.chip.dev.out = [] ∧
      (¬accepted → t.chip.dev.net = d.net) ∧
      (accepted → (t.chip.dev.wit o).lastTick = some (beAt l 8 8) ∧
        (∀ q, (d.wit o).stamps.find? (fun (x : Nat × Nat × Bool × Bool) => decide (x.1 = beAt l 8 8)) = some q →
          (t.chip.dev.wit o).stamps = (d.wit o).stamps) ∧
        (∀ p, p ≠ o → t.chip.dev.wit p = d.wit p))) ∧
  (∀ (s : State), s.chip.dev.inTick = true → s.chip.dev.witOn = true → 2 ≤ s.chip.dev.tick.num →
    let d := s.chip.dev
    let k := d.tick.num - 2
    let given (o : Nat) := d.watchedOut o = true ∧ (d.wit o).verdicts.any (fun (q : Nat × Nat) => decide (q.1 = k)) = false
    ∃ t, exec .witnessVerdict s = .next t ∧ t.chip.mem = s.chip.mem ∧
      d.keeps t.chip.dev (but [F.NET_WIT_STATE_VERDICT, F.NET_WIT_STATE_TICK, F.NET_WIT_CNT_COUNT, F.NET_EVENTS_WIT_CHANGE,
        F.PAIR_EVENTS_DUAL_HOLDER, F.BBOX_LOST_COUNT]) ∧
      ∀ o, o < 32 →
        (given o →
          t.chip.dev.get F.NET_WIT_STATE_VERDICT o = (d.wit o).verdict k ∧ t.chip.dev.get F.NET_WIT_STATE_TICK o = k % 2 ^ 24 ∧
          t.chip.dev.get F.NET_WIT_CNT_COUNT o = (if (d.wit o).verdict k = 1 then d.get F.NET_WIT_CNT_COUNT o
            else min (d.get F.NET_WIT_CNT_COUNT o + 1) (2 ^ F.NET_WIT_CNT_COUNT.width - 1)) ∧
          ((d.wit o).first = false → d.get F.NET_WIT_STATE_VERDICT o ≠ (d.wit o).verdict k → t.chip.dev.get F.NET_EVENTS_WIT_CHANGE = 1) ∧
          t.chip.dev.verdictOf o k = some ((d.wit o).verdict k)) ∧
        (¬given o → t.chip.dev.get F.NET_WIT_STATE_VERDICT o = d.get F.NET_WIT_STATE_VERDICT o ∧ t.chip.dev.wit o = d.wit o))

/-- An admitted DEC_CMD with OPEN, CLOSE or RESYNC shows slot, operation, session and result in DEC_CMD_STATUS: 2
while a command waits, 3 for a state that forbids it, and for OPEN 4, 5, 6 or 7 by the format, the source and the
reservations, else 1. A refused one raises DEC_CMD_REFUSED and changes no session. An accepted OPEN records its core
and reservations. In RUN the command waits with PENDING 1, the session's state as before; otherwise OPEN and RESYNC
lead to SYNCING, CLOSE to CLOSED without reservations. Memory stays. (rests on R163, R164, R165, R166) -/
def Obligations.DecodeCommandsAreChecked : Prop :=
  ∀ (s : State) (slot n op : Nat), slot < 8 → n < 256 → 1 ≤ op → op ≤ 3 → s.chip.admits slot R.DEC_CMD 0 (decWord op n) = true →
    let d := s.chip.dev
    let r := if d.decCmd.isSome then 2 else if op = 1 ∧ d.decState n ≠ 0 then 3 else if op ≠ 1 ∧ d.decState n = 0 then 3
      else if op ≠ 1 then 0 else if d.decFormatOk n = false then 4 else if d.decSourceOk n = false then 5
      else match d.decReserve n with
        | .error e => e
        | .ok _ => 0
    ∃ t, exec (if op = 1 then .decOpen slot n else if op = 2 then .decClose slot n else .decResync slot n) s = .next t ∧
      t.chip.mem = s.chip.mem ∧ t.chip.dev.get F.DEC_CMD_STATUS_REQ_SLOT = slot ∧ t.chip.dev.get F.DEC_CMD_STATUS_OP = op ∧
      t.chip.dev.get F.DEC_CMD_STATUS_SESSION = n ∧ t.chip.dev.get F.DEC_CMD_STATUS_RESULT = (if r = 0 then 1 else r) ∧
      (r ≠ 0 → t.chip.dev.get F.DEC_EVENTS_CMD_REFUSED = 1 ∧ t.chip.dev.decs = d.decs ∧ t.chip.dev.decCmd = d.decCmd ∧
        t.chip.dev.berths = d.berths ∧ d.keeps t.chip.dev (but [F.DEC_CMD_STATUS_REQ_SLOT, F.DEC_CMD_STATUS_OP,
          F.DEC_CMD_STATUS_SESSION, F.DEC_CMD_STATUS_RESULT, F.DEC_EVENTS_CMD_REFUSED])) ∧
      (r = 0 → d.pwr = .run → t.chip.dev.decCmd = some ⟨op, n, slot⟩ ∧ t.chip.dev.get F.DEC_CMD_STATUS_PENDING = 1 ∧
        t.chip.dev.decState n = d.decState n ∧ t.chip.dev.decs = d.decs ∧ t.chip.dev.berths = d.berths) ∧
      (r = 0 → d.pwr ≠ .run → t.chip.dev.decCmd = d.decCmd ∧ t.chip.dev.decState n = (if op = 2 then 0 else 1) ∧
        (t.chip.dev.dec n).running = [] ∧ (t.chip.dev.dec n).dpb = [] ∧
        (op = 1 → t.chip.dev.get F.DEC_EVENTS_OPEN_DONE = 1) ∧
        (op = 2 → t.chip.dev.get F.DEC_SESS_RES_BERTHS n = 0 ∧ t.chip.dev.get F.DEC_SESS_RES_RESERVED_WU n = 0)) ∧
      (∀ core wu c k, r = 0 → op = 1 → d.decReserve n = .ok (core, wu, c, k) →
        t.chip.dev.get F.DEC_SESS_STATE_CORE n = core % 2 ^ F.DEC_SESS_STATE_CORE.width ∧
        t.chip.dev.get F.DEC_SESS_RES_RESERVED_WU n = wu % 2 ^ F.DEC_SESS_RES_RESERVED_WU.width ∧
        t.chip.dev.get F.DEC_SESS_RES_CLASS n = c % 2 ^ F.DEC_SESS_RES_CLASS.width ∧
        t.chip.dev.get F.DEC_SESS_RES_BERTHS n = k % 2 ^ F.DEC_SESS_RES_BERTHS.width)

/-- A packet of a compressed flow that R468 rejects is counted in NET_DROP_MALFORMED and stored nowhere; without a
session only liveness changes; a second copy is stored nowhere, and its arrival is noted. The first RTP packet of a
timestamp not heard before, of a type the session takes, in an open session whose engine runs and whose ring can hold
it, ends the access units open and begins one, and its bytes stand in the session's ring, all other bytes as before.
After a silent tick what is open ends; else nothing changes. A started picture that is decoded stands line by line at
its berth's address, its width and height in DEC_SESS_PIC; an IRAP picture without a fault takes the session from
SYNCING or RECOVERING to RUNNING with the event of R162; a syntax fault is recorded as class 2. (rests on R157, R159,
R161, R162, R170, R173, R220) -/
def Obligations.StreamsFillRingsAndPictures : Prop :=
  (∀ (s : State) (h : RxHdr) (p : StreamPkt) (f : Nat), s.chip.mem.dram.wf = true → s.chip.dev.classify h = .flow f →
    let d := s.chip.dev
    let form := d.get F.NET_RX_FLOW_CFG_FORM f
    let src := d.get F.NET_RX_FLOW_CFG_SOURCE f
    let whole := (form = 1 ∧ p.version = 2) ∨ (form = 2 ∧ cellsOk p.cells = true) ∨ (form = 3 ∧ p.version = 2 ∧ cellsOk p.cells = true)
    ∃ t, exec (.streamPacketReceive h p) s = .next t ∧ t.chip.mem = { s.chip.mem with dram := t.chip.mem.dram } ∧
      t.chip.dev.berths = d.berths ∧ (∀ m, d.sessionOf src ≠ some m → t.chip.dev.dec m = d.dec m) ∧
      (∀ u, u ≠ src → t.chip.dev.src u = d.src u) ∧
      (¬whole → t.chip.mem = s.chip.mem ∧ t.chip.dev.decs = d.decs ∧ t.chip.dev.srcs = d.srcs ∧
        d.keeps t.chip.dev (but [F.NET_DROP_MALFORMED_COUNT]) ∧
        t.chip.dev.get F.NET_DROP_MALFORMED_COUNT = min (d.get F.NET_DROP_MALFORMED_COUNT + 1) (2 ^ F.NET_DROP_MALFORMED_COUNT.width - 1)) ∧
      (whole → (t.chip.dev.src src).pktSeen = true) ∧
      (whole → d.sessionOf src = none → t.chip.mem = s.chip.mem ∧ t.chip.dev.regs = d.regs) ∧
      (∀ n, whole → d.sessionOf src = some n →
        let x := d.dec n
        let ext := extendSeq x.maxSeq p.seq
        (t.chip.dev.dec n).quiet = false ∧
        (form ≠ 2 → ext ∈ x.seen → t.chip.mem = s.chip.mem ∧ t.chip.dev.regs = d.regs ∧
          t.chip.dev.dec n = { x with quiet := false, idle := false }) ∧
        (form = 1 → ext ∉ x.seen → d.stopped (n % 8) = false → d.decState n ≠ 0 → (∀ e, x.lastEnd = some e → e.1 < ext) →
          rtpAccepts (d.codec n) p = true → p.truncated = false → (p.redundant = true → d.codec n = 0) →
          (∀ a ∈ x.aus, a.ts ≠ p.ts) → 2 * p.data.length ≤ d.ringSize → x.ringUsed + p.data.length ≤ d.ringSize →
          t.chip.dev.regs = d.regs ∧
          (∀ k, (hk : k < p.data.length) →
            Dram.read t.chip.mem.dram (d.ringBase n + (x.ringPos + k) % d.ringSize) = p.data[k]) ∧
          (∀ y, y < d.ringBase n ∨ d.ringBase n + d.ringSize ≤ y → Dram.read t.chip.mem.dram y = Dram.read s.chip.mem.dram y) ∧
          (∀ a ∈ (t.chip.dev.dec n).aus, a.ts ≠ p.ts → a.ended.isSome = true) ∧
          (∃ a ∈ (t.chip.dev.dec n).aus, a.ts = p.ts ∧ a.seqs = [ext] ∧ a.size = p.data.length ∧ a.head = p.head ∧ a.errs = [] ∧
            (a.ended.isSome = true ↔ p.marker = true)) ∧
          (t.chip.dev.dec n).ringPos = x.ringPos + p.data.length))) ∧
  (∀ (s : State) (n : Nat),
    ∃ t, exec (.accessUnitIdleClose n) s = .next t ∧ t.chip.mem = s.chip.mem ∧ t.chip.dev.regs = s.chip.dev.regs ∧
      (∀ m, m ≠ n → t.chip.dev.dec m = s.chip.dev.dec m) ∧ (t.chip.dev.dec n).aus.length = (s.chip.dev.dec n).aus.length ∧
      ((s.chip.dev.dec n).idle = true → s.chip.dev.inTick = true → ∀ a ∈ (t.chip.dev.dec n).aus, a.ended.isSome = true) ∧
      (((s.chip.dev.dec n).idle = false ∨ s.chip.dev.inTick = false) → t.chip.dev.decs = s.chip.dev.decs)) ∧
  (∀ (s : State) (n b : Nat) (r : DecResult) (j : DecJob) (rest : List DecJob), s.chip.mem.dram.wf = true → n < 256 →
    (s.chip.dev.dec n).running = j :: rest → j.berth = some b → j.started = true →
    let d := s.chip.dev
    let lines := decLines r j.head
    let stride := fmtStride (headFmt j.head) j.head.sps.codedW
    ∃ t, exec (.decodePictureComplete n r) s = .next t ∧ t.chip.mem = { s.chip.mem with dram := t.chip.mem.dram } ∧
      (∀ k, (hk : k < lines.length) → ∀ x, (hx : x < lines[k].length) →
        Dram.read t.chip.mem.dram (d.berthAddr b + stride * k + x) = lines[k][x]) ∧
      (∀ y, y < d.berthAddr b ∨ d.berthAddr b + stride * lines.length ≤ y → Dram.read t.chip.mem.dram y = Dram.read s.chip.mem.dram y) ∧
      (t.chip.dev.dec n).running = rest ∧
      t.chip.dev.get F.DEC_SESS_PIC_WIDTH n = j.head.sps.w % 2 ^ F.DEC_SESS_PIC_WIDTH.width ∧
      t.chip.dev.get F.DEC_SESS_PIC_HEIGHT n = j.head.sps.h % 2 ^ F.DEC_SESS_PIC_HEIGHT.width ∧
      (d.ownErrs n j r = [] → picIrap j.head (d.codec n) = true →
        (d.decState n = 1 → t.chip.dev.decState n = 2 ∧ t.chip.dev.get F.DEC_EVENTS_SYNCED = 1) ∧
        (d.decState n = 3 → t.chip.dev.decState n = 2 ∧ t.chip.dev.get F.DEC_EVENTS_RECOVERED = 1)) ∧
      (r.syntax_ = true → (t.chip.dev.get F.DEC_SESS_ERR_SEEN_CLASSES n).testBit 1 = true))

/-- An admitted ENC_CMD with OPEN, CLOSE or REFRESH shows slot, operation, session and result in ENC_CMD_STATUS: 2
while a command waits, 3 for a state that forbids it, and for OPEN 4, 5, 6 or 7 by the format, the rate floor and the
reservations, else 1. A refused one raises ENC_CMD_REFUSED and changes no session. In RUN an accepted one waits with
PENDING 1; otherwise OPEN opens the session with V 0, CLOSE leaves it closed with no job, feed or reservation, and
REFRESH makes its next picture start a period. A bit rate below the floor is dropped with CFG_DROPPED; one that is
admitted waits for the edge in RUN and is in force at once otherwise. Memory stays. (rests on R183, R185, R186, R189) -/
def Obligations.EncodeCommandsAreChecked : Prop :=
  (∀ (s : State) (slot n op : Nat), slot < 8 → n < 32 → 1 ≤ op → op ≤ 3 → s.chip.admits slot R.ENC_CMD 0 (encWord op n) = true →
    let d := s.chip.dev
    let r := if d.encCmd.isSome then 2 else if op = 1 ∧ d.encOpened n = true then 3 else if op ≠ 1 ∧ d.encOpened n = false then 3
      else if op ≠ 1 then 0 else if d.encFormatOk n = false then 4
      else if d.encFloorOk n (d.get F.ENC_SESS_RATE_BIT_RATE n) = false then 5
      else match d.encReserve n with
        | .error e => e
        | .ok _ => 0
    ∃ t, exec (if op = 1 then .encOpen slot n else if op = 2 then .encClose slot n else .encRefresh slot n) s = .next t ∧
      t.chip.mem = s.chip.mem ∧ t.chip.dev.get F.ENC_CMD_STATUS_REQ_SLOT = slot ∧ t.chip.dev.get F.ENC_CMD_STATUS_OP = op ∧
      t.chip.dev.get F.ENC_CMD_STATUS_SESSION = n ∧ t.chip.dev.get F.ENC_CMD_STATUS_RESULT = (if r = 0 then 1 else r) ∧
      (r ≠ 0 → t.chip.dev.get F.ENC_EVENTS_CMD_REFUSED = 1 ∧ t.chip.dev.encs = d.encs ∧ t.chip.dev.encCmd = d.encCmd ∧
        t.chip.dev.berths = d.berths ∧ d.keeps t.chip.dev (but [F.ENC_CMD_STATUS_REQ_SLOT, F.ENC_CMD_STATUS_OP,
          F.ENC_CMD_STATUS_SESSION, F.ENC_CMD_STATUS_RESULT, F.ENC_EVENTS_CMD_REFUSED])) ∧
      (r = 0 → d.pwr = .run → t.chip.dev.encCmd = some ⟨op, n, slot⟩ ∧ t.chip.dev.get F.ENC_CMD_STATUS_PENDING = 1 ∧
        t.chip.dev.encOpened n = d.encOpened n ∧ t.chip.dev.encs = d.encs ∧ t.chip.dev.berths = d.berths) ∧
      (r = 0 → d.pwr ≠ .run → t.chip.dev.encCmd = d.encCmd ∧ (t.chip.dev.encOpened n = true ↔ op ≠ 2) ∧
        (op = 1 → (t.chip.dev.enc n).v = 0 ∧ (t.chip.dev.enc n).jobs = [] ∧ t.chip.dev.get F.ENC_EVENTS_OPEN_DONE = 1 ∧
          t.chip.dev.get F.ENC_SESS_RES_BERTHS n = 2 ∧ t.chip.dev.get F.ENC_SESS_FULLNESS_BITS n = 0) ∧
        (op = 2 → (t.chip.dev.enc n).jobs = [] ∧ (t.chip.dev.enc n).feeds = [] ∧
          t.chip.dev.get F.ENC_SESS_RES_BERTHS n = 0 ∧ t.chip.dev.get F.ENC_SESS_RES_RESERVED_WU n = 0) ∧
        (op = 3 → t.chip.dev.enc n = { d.enc n with restart := true }))) ∧
  (∀ (s : State) (slot n rate pics : Nat), slot < 8 → n < 32 → rate < 2 ^ 18 → pics < 16 →
    let d := s.chip.dev
    let w := F.ENC_SESS_RATE_BIT_RATE.at rate + F.ENC_SESS_RATE_BUF_PICS.at pics
    (s.chip.admits slot R.ENC_SESS_RATE n w = true →
      ∃ t, exec (.encBitRateWrite slot n rate pics) s = .next t ∧ t.chip.mem = s.chip.mem ∧ t.chip.dev.encs = d.encs ∧
        t.chip.dev.get F.ENC_SESS_RATE_BUF_PICS n = pics ∧
        (d.pwr = .run → t.chip.dev.get F.ENC_SESS_RATE_BIT_RATE n = d.get F.ENC_SESS_RATE_BIT_RATE n ∧
          Tab.find t.chip.dev.rwt (F.ENC_SESS_RATE_BIT_RATE.id, n, 0) = some rate) ∧
        (d.pwr ≠ .run → t.chip.dev.get F.ENC_SESS_RATE_BIT_RATE n = rate)) ∧
    (d.pd1On = true → d.regFault slot (R.ENC_SESS_RATE.base + R.ENC_SESS_RATE.stride * n) 32 true = none → d.roleRefuses 7 false = false →
      d.defers = false → d.encFloorOk n rate = false →
      ∃ t, exec (.encBitRateWrite slot n rate pics) s = .next t ∧ t.chip.mem = s.chip.mem ∧ t.chip.dev.rwt = d.rwt ∧
        t.chip.dev.get F.ENC_SESS_RATE_BIT_RATE n = d.get F.ENC_SESS_RATE_BIT_RATE n ∧
        t.chip.dev.get F.ENC_SESS_RATE_BUF_PICS n = d.get F.ENC_SESS_RATE_BUF_PICS n ∧ t.chip.dev.get F.SYS_EVENTS_CFG_DROPPED = 1))

/-- In CTU-row mode a row of the picture is ready when every tile of the followed output that holds a line of it is
composed or replaced, or the seals of its tick have run. A row that may be coded and that a core can deliver is
coded: the picture advances by one row and only the bytes of the session's ring change. The last row closes the
picture: it leaves the session, ENC_SESS_CNT_CODED counts it, the virtual buffer becomes V + P − B, never below 0,
with filler in P where RC says constant bit rate, shown in ENC_SESS_FULLNESS, and the two reconstruction berths
change places. The deadline completes a begun picture with the rows that are left, and counts and raises TIME_FLOOR.
A row that may not be coded, or that no core can deliver, changes nothing (log entry 152 for the latter). (rests on
R192, R194, R195, R196) -/
def Obligations.PicturesAreCodedRowByRow : Prop :=
  (∀ (s : State) (n : Nat) (j : EncJob) (r : OutRec),
    let d := s.chip.dev
    let x := d.enc n
    let oy := d.get F.ENC_SESS_ORIGIN_Y n
    let o := d.get F.ENC_SESS_CFG_ID n
    x.jobs.find? (fun (k : EncJob) => k.ctuRow && !k.missing && decide (k.ready < ctuRows (d.encH n))) = some j → d.outRec? o = some r →
    let ready := j.admitted < d.edges ∨ d.tick.sealRan = true ∨
      ∀ i, i < 256 → oy + 64 * j.ready < tileY r.height (i / 16 + 1) →
        tileY r.height (i / 16) < oy + min (64 * (j.ready + 1)) (d.encH n) → (Tab.find (d.outp o).tiles i).isSome = true
    ∃ t, exec (.encCtuRowStart n) s = .next t ∧ t.chip.mem = s.chip.mem ∧ t.chip.dev.regs = d.regs ∧
      (j.started = true → ready → (t.chip.dev.enc n).jobs = x.jobs.map (fun (k : EncJob) => if k = j then { k with ready := j.ready + 1 } else k)) ∧
      (j.started = false ∨ ¬ready → t.chip.dev = d.quiet)) ∧
  (∀ (s : State) (n : Nat) (e : EncRow), s.chip.dev.encMay n = false →
    ∃ t, exec (.encSliceComplete n e) s = .next t ∧ t.chip = s.chip.quiet) ∧
  (∀ (s : State) (n : Nat) (e : EncRow) (j : EncJob) (rest : List EncJob), s.chip.mem.dram.wf = true → n < 32 →
    (s.chip.dev.enc n).jobs = j :: rest → s.chip.dev.encMay n = true →
    let d := s.chip.dev
    let x := d.enc n
    let base := d.addr40 F.ENC_BS_BASE_LO_ADDR_LO F.ENC_BS_BASE_HI_ADDR_HI + n * 16777216
    let row := d.encRow s.chip.mem n j e (if j.memFloor then 0 else 2 ^ 32)
    ∃ t, exec (.encSliceComplete n e) s = .next t ∧ t.chip.mem = { s.chip.mem with dram := t.chip.mem.dram } ∧
      (row = none → t.chip = s.chip.quiet) ∧
      (∀ k, row = some k → j.row + 1 < ctuRows (d.encH n) →
        (t.chip.dev.enc n).jobs = k :: rest ∧ k.row = j.row + 1 ∧ (t.chip.dev.enc n).v = x.v ∧ t.chip.dev.regs = d.regs ∧
        (∀ y, y < base ∨ base + 16777216 ≤ y → Dram.read t.chip.mem.dram y = Dram.read s.chip.mem.dram y)) ∧
      (∀ k, row = some k → ctuRows (d.encH n) ≤ j.row + 1 → (∀ q, rest.head? = some q → q.missing = false) →
        let p := k.spent + (if d.get F.ENC_SESS_CFG_RC n = 0 then k.b - x.v - k.spent else 0)
        (t.chip.dev.enc n).jobs.length = rest.length ∧ (t.chip.dev.enc n).v = x.v + p - k.b ∧
        t.chip.dev.get F.ENC_SESS_FULLNESS_BITS n = (x.v + p - k.b) % 2 ^ F.ENC_SESS_FULLNESS_BITS.width ∧
        t.chip.dev.get F.ENC_SESS_LAST_BITS_BITS n = p % 2 ^ F.ENC_SESS_LAST_BITS_BITS.width ∧
        t.chip.dev.get F.ENC_SESS_CNT_CODED_COUNT n =
          min (d.get F.ENC_SESS_CNT_CODED_COUNT n + 1) (2 ^ F.ENC_SESS_CNT_CODED_COUNT.width - 1) ∧
        (t.chip.dev.enc n).rec0 = x.rec1 ∧ (t.chip.dev.enc n).rec1 = x.rec0 ∧ (t.chip.dev.enc n).p = x.p + 1)) ∧
  (∀ (s : State) (n coded : Nat) (rows : List EncRow) (j : EncJob) (rest : List EncJob), n < 32 → (s.chip.dev.enc n).jobs = j :: rest →
    let d := s.chip.dev
    let cols := ctuCols (d.encW n)
    let c := s.chip.quiet.mapDev (fun (d : Device) => d.deadlineStart n j)
    ((j.begun && j.started) = false → ∃ t, exec (.encDeadline n coded rows) s = .next t ∧ t.chip = s.chip.quiet) ∧
    ((j.begun && j.started) = true → j.row < ctuRows (d.encH n) → rows.length = ctuRows (d.encH n) - j.row →
      (c.encLeft n (j.row * cols + min coded cols) rows).isSome = true →
      ∃ t, exec (.encDeadline n coded rows) s = .next t ∧ some t.chip = c.encLeft n (j.row * cols + min coded cols) rows ∧
        (t.chip.dev.enc n).p = (d.enc n).p + 1 ∧ t.chip.dev.get F.ENC_EVENTS_TIME_FLOOR = 1 ∧
        t.chip.dev.get F.ENC_SESS_CNT_TIME_FLOOR_COUNT n =
          min (d.get F.ENC_SESS_CNT_TIME_FLOOR_COUNT n + 1) (2 ^ F.ENC_SESS_CNT_TIME_FLOOR_COUNT.width - 1)))

/-- The picture first in line, with enabled paths, not failed, and begun or later than the one before, sends its next
packet: a NAL unit that fits MAX_PAYLOAD leaves whole and the next one follows, a longer one leaves in part; the RTP
sequence number of the entry advances by one, and a unit that does not send hands out nothing. A picture whose tick
is not later than the last one fails with reason TICK. A slice whose bytes match its CRC-32C is checked on that path;
one that does not match stops the feed with reason CRC and FRS_LOOPBACK_FAIL, and the next coded picture starts a
period. Memory stays. (rests on R195, R200, R203, R224) -/
def Obligations.FeedsAreSentAndChecked : Prop :=
  (∀ (s : State) (n late : Nat) (f : Feed), n < 32 → s.chip.dev.feedHead n = some f → f.missing = false →
    s.chip.dev.txOn (32 + n) = true → s.chip.dev.paths (32 + n) ≠ [] → (s.chip.dev.outp (32 + n)).failed = false →
    f.startEdge ≤ s.chip.dev.edges → (s.chip.dev.inTick || s.chip.dev.tick.gap) = true →
    let d := s.chip.dev
    let e := 32 + n
    let fresh := f.begun = true ∨ ∀ u, (d.outp e).lastTick = some u → u < f.tick
    ∃ t, exec (.feedPacketSend n late) s = .next t ∧ t.chip.mem = s.chip.mem ∧
      (fresh → f.nals = [] → t.chip.dev = d.quiet) ∧
      (∀ nal rest, fresh → f.nals = nal :: rest →
        (Tab.get t.chip.dev.net.txExt 0 e = (Tab.get d.net.txExt 0 e + 1) % 2 ^ 32) ∧
        (d.sends = false → t.chip.dev.out = []) ∧ d.now + late ≤ t.chip.dev.now ∧ (d.enc n).nextNs + late ≤ t.chip.dev.now ∧
        d.keeps t.chip.dev (but [F.NET_TX_LATE_CNT_COUNT, F.NET_EVENTS_TX_LATE]) ∧
        ∃ g, t.chip.dev.feedHead n = some g ∧ g.begun = true ∧
          (nal.length ≤ d.get F.NET_TX_PKT_MAX_PAYLOAD e → g.nals = rest ∧ g.off = 0) ∧
          (d.get F.NET_TX_PKT_MAX_PAYLOAD e < nal.length → 3 < d.get F.NET_TX_PKT_MAX_PAYLOAD e → f.off < nal.length →
            2 < nal.length → (g.nals = rest ∧ g.off = 0) ∨ (g.nals = nal :: rest ∧ f.off < g.off))) ∧
      (¬fresh → (t.chip.dev.outp e).failed = true ∧ t.chip.dev.get F.FRS_LOOPBACK_STATUS_REASON = 2 ∧
        t.chip.dev.get F.FRS_EVENTS_LOOPBACK_FAIL = 1 ∧ (t.chip.dev.enc n).restart = true ∧ t.chip.dev.out = [])) ∧
  (∀ (s : State) (n path slice : Nat) (l : List Byte) (f : Feed) (v : BitVec 32), n < 32 → s.chip.dev.feedHead n = some f →
    f.missing = false → f.begun = true → (s.chip.dev.outp (32 + n)).failed = false → (path, slice) ∉ f.checked →
    path ∈ s.chip.dev.paths (32 + n) → f.crcs[slice]? = some v →
    let d := s.chip.dev
    ∃ t, exec (.feedLoopbackCheck n path slice l) s = .next t ∧ t.chip.mem = s.chip.mem ∧
      (BitVec.ofNat 32 (crc32c l) = v → t.chip.dev.regs = d.regs ∧ t.chip.dev.outs = d.outs ∧
        t.chip.dev.feedHead n = some { f with checked := f.checked ++ [(path, slice)] }) ∧
      (BitVec.ofNat 32 (crc32c l) ≠ v → (t.chip.dev.outp (32 + n)).failed = true ∧ t.chip.dev.get F.FRS_LOOPBACK_STATUS_REASON = 1 ∧
        t.chip.dev.get F.FRS_LOOPBACK_STATUS_OUTPUT_ID = 32 + n ∧ t.chip.dev.get F.FRS_EVENTS_LOOPBACK_FAIL = 1 ∧
        (t.chip.dev.enc n).restart = true ∧ ∃ g, t.chip.dev.feedHead n = some g ∧ g.nals = []))

/-- An admitted write that sets EN of a port starts its lanes in AN or HUNT, OFF where domain or reference is
missing, and the port shows TRAINING; one that clears EN takes them to OFF and the port to DISABLED. Auto-negotiation
leads to TRAIN, training to HUNT with the polarity of each AUTO lane, a polarity decided on a one-lane port to UP
with PORT_UP, alignment of four lanes to UP with the lane map and the transmit order of R245; without a decision the
hunt goes on. Loss of lock counts, starts the lanes again and takes the port out of UP; an attempt that runs out of
time starts them again and shows DOWN. Memory, and the registers outside TICK, NET, LANE and TIME, stay. (rests on
R241, R242, R243, R244, R245, R246) -/
def Obligations.MediaPortsComeUpByTheirSteps : Prop :=
  let same (s t : State) : Prop := t.chip.mem = s.chip.mem ∧ t.chip.dev.berths = s.chip.dev.berths ∧ s.chip.dev.keeps t.chip.dev (outside [2, 8, 9, 10])
  let begun (t : State) (p : Nat) : Prop := ∀ k ∈ t.chip.dev.portLanes p,
    t.chip.dev.laneSt k = if t.chip.dev.laneAlive k then (if t.chip.dev.portAn p then 1 else 3) else 0
  (∀ (s : State) (slot p word : Nat), slot < 8 → p < 28 → word < 2 ^ 32 →
    (s.chip.admits slot R.NET_PORT_CFG p (enWord F.NET_PORT_CFG_EN word 1) = true → s.chip.dev.on F.NET_PORT_CFG_EN p = false →
      ∃ t, exec (.portEnable slot p word) s = .next t ∧ same s t ∧ begun t p ∧ t.chip.dev.get F.NET_PORT_CFG_EN p = 1 ∧
        t.chip.dev.get F.NET_PORT_STATUS_STATE p = 1) ∧
    (s.chip.admits slot R.NET_PORT_CFG p (enWord F.NET_PORT_CFG_EN word 0) = true → s.chip.dev.on F.NET_PORT_CFG_EN p = true →
      ∃ t, exec (.portDisable slot p word) s = .next t ∧ same s t ∧ t.chip.dev.get F.NET_PORT_CFG_EN p = 0 ∧
        t.chip.dev.get F.NET_PORT_STATUS_STATE p = 0 ∧ ∀ k ∈ t.chip.dev.portLanes p, t.chip.dev.laneSt k = 0)) ∧
  (∀ (s : State) (p : Nat) (inv : List Bool), s.chip.dev.portExists p = true →
    let d := s.chip.dev
    (d.portAll p 1 = true → ∃ t, exec (.laneAnComplete p) s = .next t ∧ same s t ∧ t.chip.dev.portAll p 2 = true) ∧
    (d.portAll p 2 = true → ∃ t, exec (.laneTrainComplete p inv) s = .next t ∧ same s t ∧ t.chip.dev.portAll p 3 = true ∧
      ∀ k ∈ d.portLanes p, d.get F.LANE_CFG_RX_POL k = 0 → t.chip.dev.on F.LANE_STATUS_POL_INV k = inv.getD (k - p) false) ∧
    (d.on F.NET_PORT_CFG_EN p = true → d.laneSt p ≠ 0 → d.portAll p 5 = false →
      let limit := if d.laneSt p = 2 then 500000000 else if d.laneSt p = 3 ∧ d.portAn p = false then 100000000
        else if d.laneSt p = 4 then 10000000 else 0
      ∃ t, exec (.laneAttemptTimeout p) s = .next t ∧ same s t ∧ begun t p ∧ t.chip.dev.get F.NET_PORT_STATUS_STATE p = 3 ∧
        (d.laneX p).since + limit ≤ t.chip.dev.now)) ∧
  (∀ (s : State) (l n i : Nat) (m : Bool), l < 28 → s.chip.dev.get F.NET_PORT_CFG_MODE (l / 4 * 4) ≠ 2 →
    s.chip.dev.get F.NET_PORT_CFG_MODE l ≠ 2 → s.chip.dev.on F.NET_PORT_CFG_EN l = true → s.chip.dev.laneSt l = 3 →
    (s.chip.dev.laneX l).locked = false →
    let d := s.chip.dev
    (d.decide244 l l n i m = none → ∃ t, exec (.laneLockAcquired l n i m) s = .next t ∧ t.chip = s.chip.quiet) ∧
    (∀ inv, d.decide244 l l n i m = some inv →
      ∃ t, exec (.laneLockAcquired l n i m) s = .next t ∧ same s t ∧ t.chip.dev.laneSt l = 5 ∧ t.chip.dev.on F.LANE_STATUS_POL_INV l = inv ∧
        t.chip.dev.get F.NET_PORT_STATUS_STATE l = 2 ∧
        (d.get F.NET_PORT_STATUS_STATE l ≠ 2 → t.chip.dev.get F.NET_EVENTS_PORT_UP = 1))) ∧
  (∀ (s : State) (l n i : Nat) (m inv : Bool), l < 28 → s.chip.dev.get F.NET_PORT_CFG_MODE (l / 4 * 4) = 2 → s.chip.dev.laneSt l = 3 →
    (s.chip.dev.laneX l).locked = false → s.chip.dev.decide244 l (l / 4 * 4) n i m = some inv →
    let d := s.chip.dev
    let q := l / 4 * 4
    ∃ t, exec (.laneLockAcquired l n i m) s = .next t ∧ same s t ∧ t.chip.dev.on F.LANE_STATUS_POL_INV l = inv ∧ (t.chip.dev.laneX l).locked = true ∧
      ((∀ k ∈ d.portLanes q, k ≠ l → d.laneSt k = 3 ∧ (d.laneX k).locked = true) → t.chip.dev.portAll q 4 = true) ∧
      ((∃ k ∈ d.portLanes q, k ≠ l ∧ (d.laneX k).locked = false) → ∀ k ∈ d.portLanes q, t.chip.dev.laneSt k = d.laneSt k)) ∧
  (∀ (s : State) (q map : Nat), q < 7 → map < 256 → s.chip.dev.get F.NET_PORT_CFG_MODE (4 * q) = 2 → s.chip.dev.portAll (4 * q) 4 = true →
    s.chip.dev.on F.NET_PORT_CFG_EN (4 * q) = true →
    let d := s.chip.dev
    ∃ t, exec (.laneAlignComplete q map) s = .next t ∧ same s t ∧ t.chip.dev.portAll (4 * q) 5 = true ∧
      t.chip.dev.get F.LANE_QUAD_STATUS_RX_MAP q = map ∧ t.chip.dev.get F.NET_PORT_STATUS_STATE (4 * q) = 2 ∧
      (t.chip.dev.get F.LANE_QUAD_STATUS_TX_REVERSED q = 1 ↔
        (d.get F.LANE_QUAD_CFG_TX_MAP q = 0 ∧ map = 0x1B) ∨ d.get F.LANE_QUAD_CFG_TX_MAP q = 2)) ∧
  (∀ (s : State) (l : Nat), l < 28 → s.chip.dev.laneSt l = 5 →
    let d := s.chip.dev
    let p := d.lanePort l
    ∃ t, exec (.laneLockLoss l) s = .next t ∧ same s t ∧ begun t p ∧ t.chip.dev.get F.NET_PORT_STATUS_STATE p ≠ 2 ∧
      t.chip.dev.get F.LANE_CNT_LOCK_COUNT l = min (d.get F.LANE_CNT_LOCK_COUNT l + 1) (2 ^ F.LANE_CNT_LOCK_COUNT.width - 1) ∧
      (d.get F.NET_PORT_STATUS_STATE p = 2 → t.chip.dev.get F.NET_EVENTS_PORT_DOWN = 1))

/-- The loss of a reference in use sets its bit of LANE_REFCLK_LOSS, raises LANE_REFCLK_LOSS and takes the lanes of
every enabled port that it feeds to OFF; its return clears the bit and starts them again. Too few transitions freeze
a lane that is not OFF; the return of the signal unfreezes it, except in IDLE and WAIT, and starts a margin check of
a media lane that was frozen; a tether lane's check waits for its next window. A check without a failing corner
clears DEGRADED with the third pass in a row; one with failing corners records and counts them, marks a media lane
DEGRADED with LANE_DEGRADED, has a retrain of a lane of a tether that is UP asked for, and is made again in a
training attempt. Memory stays. (rests on R239, R250, R251, R252, R253) -/
def Obligations.ReferencesFreezesAndMargins : Prop :=
  (∀ (s : State) (r : Nat), r < 3 →
    let d := s.chip.dev
    let fed (p : Nat) : Prop := p < 28 ∧ d.portExists p = true ∧ d.on F.NET_PORT_CFG_EN p = true ∧ d.laneRef p = r
    ((d.get F.RST_STRAPS_CLKMODE = 2 → r = 2) → d.on (lossFld r) = false →
      ∃ t, exec (.refclkLoss r) s = .next t ∧ t.chip.mem = s.chip.mem ∧ t.chip.dev.berths = d.berths ∧
        d.keeps t.chip.dev (outside [2, 8, 9, 10, 11]) ∧ t.chip.dev.get (lossFld r) = 1 ∧ t.chip.dev.get F.LANE_EVENTS_REFCLK_LOSS = 1 ∧
        ∀ p, fed p → ∀ k ∈ d.portLanes p, t.chip.dev.laneSt k = 0) ∧
    (d.on (lossFld r) = true →
      ∃ t, exec (.refclkRecover r) s = .next t ∧ t.chip.mem = s.chip.mem ∧ t.chip.dev.berths = d.berths ∧
        d.keeps t.chip.dev (outside [2, 8, 9, 10, 11]) ∧ t.chip.dev.get (lossFld r) = 0 ∧
        ∀ p, fed p → ∀ k ∈ d.portLanes p,
          t.chip.dev.laneSt k = if t.chip.dev.laneAlive k then (if d.portAn p then 1 else 3) else 0)) ∧
  (∀ (s : State) (l : Nat) (sig : Bool), s.chip.dev.laneSt l ≠ 0 →
    let d := s.chip.dev
    let still := d.laneSt l = 6 ∨ d.laneSt l = 7
    let shown (t : State) : Prop := t.chip.mem = s.chip.mem ∧ d.keeps t.chip.dev (but [F.LANE_STATUS_FROZEN, F.LANE_STATUS_SIGNAL]) ∧
      (∀ k, k ≠ l → t.chip.dev.get F.LANE_STATUS_FROZEN k = d.get F.LANE_STATUS_FROZEN k)
    (∃ t, exec (.adaptFreeze l sig) s = .next t ∧ shown t ∧ t.chip.dev.on F.LANE_STATUS_FROZEN l = true ∧
      t.chip.dev.on F.LANE_STATUS_SIGNAL l = sig) ∧
    (∃ t, exec (.adaptResume l) s = .next t ∧ shown t ∧ (t.chip.dev.on F.LANE_STATUS_FROZEN l = true ↔ still) ∧
      t.chip.dev.on F.LANE_STATUS_SIGNAL l = true ∧
      (d.on F.LANE_STATUS_FROZEN l = true → ¬still → l < 28 → (t.chip.dev.laneX l).checking = true ∧ (t.chip.dev.laneX l).checkAt = d.now + 100000000) ∧
      (28 ≤ l → (t.chip.dev.laneX l).checking = (d.laneX l).checking))) ∧
  (∀ (s : State) (l : Nat), l < 28 → s.chip.dev.laneSt l = 5 →
    ∃ t, exec (.marginCheckTimer l) s = .next t ∧ t.chip.mem = s.chip.mem ∧ t.chip.dev.regs = s.chip.dev.regs ∧
      (t.chip.dev.laneX l).checking = true ∧ (s.chip.dev.laneX l).checkAt ≤ t.chip.dev.now) ∧
  (∀ (s : State) (l corners : Nat), l < 32 → corners < 16 →
    let d := s.chip.dev
    let x := d.laneX l
    (x.checking = false → ∃ t, exec (.marginCheckComplete l corners) s = .next t ∧ t.chip = s.chip.quiet) ∧
    (x.checking = true → ∃ t, exec (.marginCheckComplete l corners) s = .next t ∧ t.chip.mem = s.chip.mem ∧
      (corners = 0 ∨ l < 28 ∨ d.tetherIsUp = true → (t.chip.dev.laneX l).checking = false) ∧
      d.keeps t.chip.dev (but [F.LANE_STATUS_DEGRADED, F.LANE_STATUS_FAIL_CORNERS, F.LANE_CNT_MCHK_FAIL_COUNT, F.LANE_EVENTS_DEGRADED]) ∧
      (corners = 0 → (t.chip.dev.laneX l).passes = x.passes + 1 ∧
        t.chip.dev.get F.LANE_CNT_MCHK_FAIL_COUNT l = d.get F.LANE_CNT_MCHK_FAIL_COUNT l ∧
        t.chip.dev.get F.LANE_STATUS_DEGRADED l = if x.passes + 1 ≥ 3 then 0 else d.get F.LANE_STATUS_DEGRADED l) ∧
      (corners ≠ 0 → (t.chip.dev.laneX l).passes = 0 ∧ t.chip.dev.get F.LANE_STATUS_FAIL_CORNERS l = corners ∧
        t.chip.dev.get F.LANE_CNT_MCHK_FAIL_COUNT l =
          min (d.get F.LANE_CNT_MCHK_FAIL_COUNT l + 1) (2 ^ F.LANE_CNT_MCHK_FAIL_COUNT.width - 1) ∧
        (l < 28 → t.chip.dev.get F.LANE_STATUS_DEGRADED l = 1 ∧ t.chip.dev.get F.LANE_EVENTS_DEGRADED = 1) ∧
        (28 ≤ l → t.chip.dev.get F.LANE_STATUS_DEGRADED l = d.get F.LANE_STATUS_DEGRADED l ∧
          (d.tetherIsUp = false → (t.chip.dev.laneX l).checking = true) ∧
          (d.tetherIsUp = true → x.retrain = 0 → (t.chip.dev.laneX l).retrain = 1)))))

/-- EN 1 starts an attempt on all four lanes, counted in ATTEMPTS; EN 0 takes them to OFF. An attempt ends in UP when
T0, T1 and one of T2 and T3 are trained with their margin checks passed, the others waiting, or after 10 ms in WAIT
with LANE_TETHER_FAIL; the next starts 100 ms after its start, or at once when the partner is heard. A lane lost
while the rest suffice waits alone; otherwise LANE_TETHER_FAIL and a new attempt. A window takes its trained lanes
out of idle and back; one without lock, or whose retrain did not end in time, is unusable and counted. A retrain
starts only in the idle gap of a lane that both units agreed on, ends in idle within its time, and is asked for again
when abandoned, which loses the lane's next window. A scan runs on a lane in UP, else ends ABORTED; it ends with its
errors, saturated. Memory stays. (rests on R247, R248, R249, R252, R254) -/
def Obligations.TetherTrainsOpensAndRetrains : Prop :=
  let kept (s t : State) : Prop := t.chip.mem = s.chip.mem ∧ t.chip.dev.berths = s.chip.dev.berths ∧ s.chip.dev.keeps t.chip.dev (outside [9, 11])
  let trying (t : State) : Prop := t.chip.dev.get F.LANE_TETHER_STATUS_STATE = 1 ∧ t.chip.dev.get F.LANE_TETHER_STATUS_TRAINED = 0 ∧
    ∀ l, 28 ≤ l → l < 32 → t.chip.dev.laneSt l = 2
  (∀ (s : State) (slot : Nat), slot < 8 →
    let d := s.chip.dev
    (s.chip.admits slot R.LANE_TETHER_CFG 0 (F.LANE_TETHER_CFG_EN.at 1) = true → d.on F.LANE_TETHER_CFG_EN = false →
      d.laneAlive 28 = true →
      ∃ t, exec (.tetherEnable slot) s = .next t ∧ kept s t ∧ trying t ∧ t.chip.dev.get F.LANE_TETHER_STATUS_ATTEMPTS = 1) ∧
    (s.chip.admits slot R.LANE_TETHER_CFG 0 0 = true → d.on F.LANE_TETHER_CFG_EN = true →
      ∃ t, exec (.tetherDisable slot) s = .next t ∧ kept s t ∧ t.chip.dev.get F.LANE_TETHER_STATUS_STATE = 0 ∧
        t.chip.dev.get F.LANE_TETHER_STATUS_TRAINED = 0 ∧ (∀ l, 28 ≤ l → l < 32 → t.chip.dev.laneSt l = 0) ∧
        (d.tetherIsUp = true → d.pwr = .run → 2 ≤ d.role → t.chip.dev.get F.PAIR_EVENTS_TETHER_DOWN = 1))) ∧
  (∀ (s : State) (m inv : Nat), m < 16 →
    let d := s.chip.dev
    let st := d.get F.LANE_TETHER_STATUS_STATE
    (st = 1 → ∃ t, exec (.tetherUp m inv) s = .next t ∧ kept s t ∧
      (∀ k, k < 4 → ((t.chip.dev.get F.LANE_TETHER_STATUS_TRAINED).testBit k = true ↔ m.testBit k = true ∧ (d.laneX (28 + k)).checking = false)) ∧
      (tetherEnough (t.chip.dev.get F.LANE_TETHER_STATUS_TRAINED) = true → t.chip.dev.tetherIsUp = true ∧
        ∀ k, k < 4 → t.chip.dev.laneSt (28 + k) = if (t.chip.dev.get F.LANE_TETHER_STATUS_TRAINED).testBit k then 6 else 7) ∧
      (tetherEnough (t.chip.dev.get F.LANE_TETHER_STATUS_TRAINED) = false → t.chip.dev.get F.LANE_TETHER_STATUS_STATE = 1 ∧
        ∀ l, t.chip.dev.laneSt l = d.laneSt l)) ∧
    (st = 1 → ∃ t, exec .tetherAttemptTimeout s = .next t ∧ kept s t ∧ t.chip.dev.get F.LANE_TETHER_STATUS_STATE = 2 ∧
      t.chip.dev.get F.LANE_EVENTS_TETHER_FAIL = 1 ∧ d.lanes.attempt + 10000000 ≤ t.chip.dev.now ∧
      ∀ l, 28 ≤ l → l < 32 → t.chip.dev.laneSt l = 7) ∧
    (st = 2 → d.on F.LANE_TETHER_CFG_EN = true → d.laneAlive 28 = true →
      let counted (t : State) : Prop := t.chip.dev.get F.LANE_TETHER_STATUS_ATTEMPTS = min (d.get F.LANE_TETHER_STATUS_ATTEMPTS + 1) 65535
      (∃ t, exec .tetherAttemptStart s = .next t ∧ kept s t ∧ trying t ∧ counted t ∧ d.lanes.attempt + 100000000 ≤ t.chip.dev.now) ∧
      (∃ t, exec .tetherPartnerDetect s = .next t ∧ kept s t ∧ trying t ∧ counted t ∧ t.chip.dev.now = d.now))) ∧
  (∀ (s : State) (k : Nat), k < 4 → s.chip.dev.tetherIsUp = true → (s.chip.dev.get F.LANE_TETHER_STATUS_TRAINED).testBit k = true →
    let d := s.chip.dev
    let left := setBit (d.get F.LANE_TETHER_STATUS_TRAINED) k false
    ∃ t, exec (.laneLockLoss (28 + k)) s = .next t ∧ kept s t ∧
      t.chip.dev.get F.LANE_CNT_LOCK_COUNT (28 + k) = min (d.get F.LANE_CNT_LOCK_COUNT (28 + k) + 1) (2 ^ F.LANE_CNT_LOCK_COUNT.width - 1) ∧
      (tetherEnough left = true → t.chip.dev.tetherIsUp = true ∧ t.chip.dev.get F.LANE_TETHER_STATUS_TRAINED = left ∧
        t.chip.dev.laneSt (28 + k) = 7) ∧
      (tetherEnough left = false → t.chip.dev.get F.LANE_EVENTS_TETHER_FAIL = 1 ∧
        (d.on F.LANE_TETHER_CFG_EN = true → d.laneAlive 28 = true → trying t))) ∧
  (∀ (s : State) (w un k : Nat), w < 3 → k < 4 → (k = 0 ∨ k = 1 ↔ w = 1) → s.chip.dev.tetherIsUp = true →
    (s.chip.dev.get F.LANE_TETHER_STATUS_TRAINED).testBit k = true →
    let d := s.chip.dev
    let l := 28 + k
    (∃ t, exec (.tetherWindowOpen w un) s = .next t ∧ t.chip.mem = s.chip.mem ∧ t.chip.dev.berths = d.berths ∧
      t.chip.dev.laneSt l = 5 ∧
      (d.laneSt l = 2 ∨ (d.laneX l).skip = true ∨ un.testBit k = true → (t.chip.dev.laneX l).unusable = true ∧
        t.chip.dev.get F.LANE_CNT_LOCK_COUNT l = min (d.get F.LANE_CNT_LOCK_COUNT l + 1) (2 ^ F.LANE_CNT_LOCK_COUNT.width - 1)) ∧
      (d.laneSt l ≠ 2 → (d.laneX l).skip = false → un.testBit k = false → (t.chip.dev.laneX l).unusable = false ∧
        (t.chip.dev.laneX l).locked = true ∧ (t.chip.dev.laneX l).checking = true ∧
        t.chip.dev.get F.LANE_CNT_LOCK_COUNT l = d.get F.LANE_CNT_LOCK_COUNT l)) ∧
    (∃ t, exec (.tetherWindowClose w) s = .next t ∧ kept s t ∧
      t.chip.dev.laneSt l = (if d.laneSt l = 5 then 6 else d.laneSt l))) ∧
  (∀ (s : State) (l : Nat), 28 ≤ l → l < 32 →
    let d := s.chip.dev
    (d.tetherIsUp = true → d.laneSt l = 6 → (d.laneX l).retrain = 2 → d.devNs < d.nextWindow l - 20000 → (d.laneX l).winEnd < d.devNs →
      ∃ t, exec (.laneRetrainStart l) s = .next t ∧ kept s t ∧ t.chip.dev.laneSt l = 2 ∧ (t.chip.dev.laneX l).retrain = 3 ∧
        (t.chip.dev.laneX l).retrainBy = d.nextWindow l - 20000 ∧ t.chip.dev.get F.LANE_EVENTS_RETRAIN = 1 ∧
        t.chip.dev.get F.LANE_CNT_RETRAIN_COUNT l = min (d.get F.LANE_CNT_RETRAIN_COUNT l + 1) (2 ^ F.LANE_CNT_RETRAIN_COUNT.width - 1)) ∧
    ((d.laneX l).retrain = 3 → d.laneSt l = 2 →
      (d.devNs ≤ (d.laneX l).retrainBy → d.now ≤ (d.laneX l).since + 10000000 → ∃ t, exec (.laneRetrainComplete l) s = .next t ∧ kept s t ∧ t.chip.dev.laneSt l = 6 ∧ (t.chip.dev.laneX l).retrain = 0 ∧
        ∀ ty, Tab.find t.chip.dev.pair.rxAlive (ty, l - 28) = none) ∧
      (∃ t, exec (.laneRetrainAbandon l) s = .next t ∧ kept s t ∧ t.chip.dev.laneSt l = 6 ∧ (t.chip.dev.laneX l).retrain = 1 ∧
        (t.chip.dev.laneX l).skip = true))) ∧
  (∀ (s : State) (slot l phase off dwell errs : Nat), slot < 8 → l < 32 → phase < 64 → off < 256 → dwell < 16 →
    let d := s.chip.dev
    let word := F.LANE_SCAN_CTRL_START.at 1 + F.LANE_SCAN_CTRL_LANE.at l + F.LANE_SCAN_CTRL_PHASE.at phase + F.LANE_SCAN_CTRL_OFFSET.at off
      + F.LANE_SCAN_CTRL_DWELL.at dwell
    (s.chip.admits slot R.LANE_SCAN_CTRL 0 word = true →
      ∃ t, exec (.scanStart slot l phase off dwell) s = .next t ∧ kept s t ∧ t.chip.dev.get F.LANE_SCAN_CTRL_LANE = l ∧
        (d.scanLaneUp l = true → t.chip.dev.lanes.scan = some l ∧ t.chip.dev.get F.LANE_SCAN_RESULT_DONE = 0) ∧
        (d.scanLaneUp l = false → t.chip.dev.lanes.scan = none ∧ t.chip.dev.get F.LANE_SCAN_RESULT_DONE = 1 ∧
          t.chip.dev.get F.LANE_SCAN_RESULT_ABORTED = 1 ∧ t.chip.dev.get F.LANE_EVENTS_SCAN_DONE = 1)) ∧
    (d.lanes.scan = some l →
      (d.on F.LANE_STATUS_FROZEN l = true ∨ (d.laneX l).checking = true → ∃ t, exec (.scanComplete errs) s = .next t ∧ t.chip = s.chip.quiet) ∧
      (d.on F.LANE_STATUS_FROZEN l = false → (d.laneX l).checking = false →
        ∃ t, exec (.scanComplete errs) s = .next t ∧ kept s t ∧ t.chip.dev.lanes.scan = none ∧ t.chip.dev.get F.LANE_SCAN_RESULT_DONE = 1 ∧
          t.chip.dev.get F.LANE_SCAN_RESULT_ABORTED = 0 ∧ t.chip.dev.get F.LANE_SCAN_RESULT_ERRORS = min errs 0xFFFFFF ∧
          t.chip.dev.get F.LANE_EVENTS_SCAN_DONE = 1)))

/-- A message that no servo listens to changes neither a register nor a servo. For the one servo that listens: an
Announce that qualifies its sender, the only foreign master, selects it, and from another master or none the servo
goes to ACQUIRING; one that makes the selected master unfit loses it. A Sync of another sender, or within 7.8 ms of
the one before, changes nothing; a two-step Sync waits for its Follow_Up; a complete Sync forms a path delay sample,
half the sum of both differences, with the pair of request and response that came last, the first in TIME_SRV_DELAY,
and an offset, the time difference less corrections, mean path delay and asymmetry, the first in TIME_SRV_OFFSET. The
Delay_Resp of the latest request completes that pair. A request goes out only from ACQUIRING on, no earlier than the
time drawn before. Without Announce, or without Sync for 2 s, the master is lost: LISTENING, TIME_SRV_CNT_LOSS and
TIME_SRV_LOSS. Memory stays. (rests on R256, R257, R258, R260, R262) -/
def Obligations.PtpMessagesReachTheirServo : Prop :=
  let same (s t : State) : Prop := t.chip.mem = s.chip.mem ∧ t.chip.dev.berths = s.chip.dev.berths ∧ s.chip.dev.keeps t.chip.dev (outside [2, 10, 17])
  let lost (s : State) (v : Nat) (t : State) : Prop := same s t ∧ t.chip.dev.srvSt v = 1 ∧ (t.chip.dev.servo v).master = none ∧
    t.chip.dev.get F.TIME_SRV_CNT_LOSS_COUNT v =
      min (s.chip.dev.get F.TIME_SRV_CNT_LOSS_COUNT v + 1) (2 ^ F.TIME_SRV_CNT_LOSS_COUNT.width - 1) ∧
    t.chip.dev.get F.TIME_EVENTS_SRV_LOSS = 1
  (∀ (s : State) (h : RxHdr) (a : PtpAnnounce) (y : PtpSync) (q : PtpDelayResp), s.chip.dev.classify h = .ptp →
    let d := s.chip.dev
    let nothing (t : State) : Prop := t.chip.mem = s.chip.mem ∧ t.chip.dev.regs = d.regs ∧ t.chip.dev.time = d.time ∧ t.chip.dev.out = []
    (d.listeners h a.domain = [] → ∃ t, exec (.ptpAnnounceReceive h a) s = .next t ∧ nothing t) ∧
    (d.listeners h y.domain = [] → (∃ t, exec (.ptpSyncReceive h y) s = .next t ∧ nothing t) ∧
      ∃ t, exec (.ptpFollowUpReceive h y) s = .next t ∧ nothing t) ∧
    (d.listeners h q.domain = [] → ∃ t, exec (.ptpDelayRespReceive h q) s = .next t ∧ nothing t)) ∧
  (∀ (s : State) (h : RxHdr) (m : PtpAnnounce) (v : Nat) (f : Foreign), s.chip.dev.classify h = .ptp → v < 2 →
    s.chip.dev.listeners h m.domain = [v] → (s.chip.dev.servo v).foreign = [f] → f.msg.sender = m.sender →
    let d := s.chip.dev
    let g : Foreign := ⟨m, h.src, (f.times ++ [d.now]).drop (f.times.length + 1 - 8)⟩
    let mine := (d.servo v).master.map (fun (y : PtpAnnounce) => y.sender) = some m.sender
    ∃ t, exec (.ptpAnnounceReceive h m) s = .next t ∧ same s t ∧
      (d.qualified g = true → (t.chip.dev.servo v).master = some m ∧ (t.chip.dev.servo v).foreign = [g] ∧
        (mine → t.chip.dev.srvSt v = d.srvSt v) ∧ (¬mine → t.chip.dev.srvSt v = 2) ∧
        t.chip.dev.get F.TIME_SRV_STATE_STEPS_REMOVED v = min m.steps 255 ∧
        (m.gm < 2 ^ 64 → t.chip.dev.get2 F.TIME_SRV_GM_LO_ID F.TIME_SRV_GM_HI_ID v = m.gm)) ∧
      ((d.servo v).master = none → d.qualified g = false → t.chip.dev.regs = d.regs ∧ (t.chip.dev.servo v).foreign = [g] ∧
        (t.chip.dev.servo v).master = none) ∧
      (mine → g.fit = false → lost s v t)) ∧
  (∀ (s : State) (h : RxHdr) (m : PtpSync) (v : Nat), s.chip.dev.classify h = .ptp → v < 2 → s.chip.dev.listeners h m.domain = [v] →
    let d := s.chip.dev
    let x := d.servo v
    let t2 := d.rxTime h
    let mine := x.master.map (fun (y : PtpAnnounce) => y.sender) = some m.sender
    let near := ∃ b, x.syncRx = some b ∧ t2 < b + 7800000
    let quietly (t : State) : Prop := t.chip.mem = s.chip.mem ∧ t.chip.dev.regs = d.regs
    let done (y : Servo) (at_ : Nat) (cs : Int) (t : State) : Prop :=
      let offset (mean : Int) : Int := ((at_ : Int) - m.origin) * 65536 - cs - (mean + signedOf 32 (d.get F.TIME_SRV_ASYM_ASYM v) * 65536)
      (x.pair = none → x.delays = [] → quietly t ∧ t.chip.dev.servo v = { y with syncAt := d.now, waitFollow := none }) ∧
      (x.pair = none → x.delays ≠ [] → x.offs = [] → t.chip.dev.get F.TIME_SRV_OFFSET_NS v = offsetReg (offset x.meanDelay)) ∧
      (∀ t3 t4 cd, x.pair = some (t3, t4, cd) → x.delays = [] →
        let sample := pathDelay m.origin at_ cs t3 t4 cd
        (t.chip.dev.servo v).delays = [sample] ∧ t.chip.dev.get F.TIME_SRV_DELAY_NS v = ((sample / 65536) % 2 ^ 32).toNat ∧
        (x.offs = [] → t.chip.dev.get F.TIME_SRV_OFFSET_NS v = offsetReg (offset sample)))
    (∃ t, exec (.ptpSyncReceive h m) s = .next t ∧ same s t ∧
      (¬mine ∨ near → quietly t ∧ t.chip.dev.servo v = x) ∧
      (mine → ¬near → m.twoStep = true → quietly t ∧ t.chip.dev.servo v = { x with syncRx := some t2, waitFollow := some (m.seq, t2, m.corr) }) ∧
      (mine → ¬near → m.twoStep = false → done { x with syncRx := some t2 } t2 m.corr t)) ∧
    (∃ t, exec (.ptpFollowUpReceive h m) s = .next t ∧ same s t ∧
      ((∀ b c, x.waitFollow ≠ some (m.seq, b, c)) ∨ ¬mine → quietly t ∧ t.chip.dev.servo v = x) ∧
      (∀ b c, mine → x.waitFollow = some (m.seq, b, c) → done x b (c + m.corr) t))) ∧
  (∀ (s : State) (h : RxHdr) (m : PtpDelayResp) (v : Nat), s.chip.dev.classify h = .ptp → v < 2 → s.chip.dev.listeners h m.domain = [v] →
    let d := s.chip.dev
    let x := d.servo v
    let mine := x.master.map (fun (y : PtpAnnounce) => y.sender) = some m.sender ∧ m.mine = true
    ∃ t, exec (.ptpDelayRespReceive h m) s = .next t ∧ t.chip.mem = s.chip.mem ∧ t.chip.dev.regs = d.regs ∧
      (¬mine ∨ (∀ t3, x.reqAt ≠ some (m.seq, t3)) → t.chip.dev.servo v = x) ∧
      (∀ t3, mine → x.reqAt = some (m.seq, t3) →
        t.chip.dev.servo v = { x with reqAt := none, reqLog := some m.logInterval, pair := some (t3, m.received, m.corr) })) ∧
  (∀ (s : State) (v : Nat), v < 2 →
    let d := s.chip.dev
    let p := d.get F.TIME_SRV_CFG_PORT v
    let x := d.servo v
    let direct := d.on F.TIME_SRV_CFG_DELAY_UNICAST v
    (d.srvSt v < 2 ∨ d.portUp p = false → ∃ t, exec (.ptpDelayReqSend v) s = .next t ∧ t.chip = s.chip.quiet) ∧
    (2 ≤ d.srvSt v → d.portUp p = true → ∃ t q, exec (.ptpDelayReqSend v) s = .next t ∧ t.chip.mem = s.chip.mem ∧
      t.chip.dev.regs = d.regs ∧ t.chip.dev.out = [.ptpDelayReq v p (d.txTag p) q (d.unitAddr p) (if direct then x.masterIp else 0xE0000181)
        (if direct then 64 else 1)] ∧
      (t.chip.dev.servo v).reqAt = some (q, (t.chip.dev.devNs : Int) + d.txCorr p) ∧ x.reqNext ≤ t.chip.dev.now ∧
      t.chip.dev.now ≤ (t.chip.dev.servo v).reqNext ∧ (t.chip.dev.servo v).reqNext ≤ t.chip.dev.now + 2 * x.reqNs) ∧
    (∀ m, 2 ≤ d.srvSt v → x.master = some m → ∃ t, exec (.ptpAnnounceTimeout v) s = .next t ∧ lost s v t ∧
      x.annAt + d.get F.TIME_SRV_CFG_ANN_TIMEOUT v * logNs m.logInterval ≤ t.chip.dev.now) ∧
    (2 ≤ d.srvSt v → ∃ t, exec (.ptpSyncTimeout v) s = .next t ∧ lost s v t ∧ x.syncAt + 2000000000 ≤ t.chip.dev.now))

/-- RELOCK of a servo that is not SLEWING, TRACKING or DIVERGED, or on a standby, which follows its holder, waits
with RELOCK_PENDING; else it is a step at once while no tick edges are generated, else a step due in the tick in
progress or the next. SELECT of a locked servo puts it in use, at once while there are no edges and at the edge
otherwise; of one that is not locked it changes nothing. CANCEL ends a RELOCK that is not yet due. A step that is due
is made in the gap: device time moves by the servo's offset, STEP_COUNT advances, RELOCK_PENDING clears and TIME_STEP
is raised; outside the gap, and with none due, nothing happens. A read of TIME_NOW_NS returns the nanoseconds and
latches the seconds. Memory stays. (rests on R264, R266, R268, R270) -/
def Obligations.TimeCommandsAndSteps : Prop :=
  let same (s t : State) : Prop := t.chip.mem = s.chip.mem ∧ t.chip.dev.berths = s.chip.dev.berths ∧ s.chip.dev.keeps t.chip.dev (outside [2, 10, 17])
  let stepped (d : Device) (v : Nat) (t : State) : Prop :=
    t.chip.dev.get F.TIME_STATUS_STEP_COUNT = (d.get F.TIME_STATUS_STEP_COUNT + 1) % 256 ∧ t.chip.dev.get F.TIME_STATUS_RELOCK_PENDING = 0 ∧
    t.chip.dev.time.relock = none ∧ t.chip.dev.time.due = none ∧ t.chip.dev.get F.TIME_EVENTS_STEP = 1 ∧ t.chip.dev.inUse = v
  (∀ (s : State) (slot v : Nat), slot < 8 → v < 2 →
    let d := s.chip.dev
    let ready := d.relockOwn = true ∧ (d.srvLocked v = true ∨ d.srvSt v = 5)
    (s.chip.admits slot R.TIME_CMD 0 (timeWord 1 v) = true → ∃ t, exec (.timeRelock slot v) s = .next t ∧ same s t ∧
      (¬ready → t.chip.dev.time = { d.time with relock := some v } ∧ t.chip.dev.get F.TIME_STATUS_RELOCK_PENDING = 1 ∧
        t.chip.dev.devNs = d.devNs) ∧
      (ready → d.ticking = false → stepped d v t ∧
        t.chip.dev.devNs = ((d.devNs : Int) * 1000000000 + d.devFrac - d.offsetQ v * 1000000000 / 65536).toNat / 1000000000) ∧
      (ready → d.ticking = true → t.chip.dev.devNs = d.devNs ∧ t.chip.dev.get F.TIME_STATUS_RELOCK_PENDING = 1 ∧
        t.chip.dev.time.relockDue = true ∧
        (d.time.due = none → ∃ n, t.chip.dev.time.due = some (v, n) ∧ (n = d.tick.num ∨ n = d.tick.num + 1)) ∧
        (∀ q, d.time.due = some q → t.chip.dev.time.due = some q))) ∧
    (s.chip.admits slot R.TIME_CMD 0 (timeWord 2 v) = true → ∃ t, exec (.timeSelect slot v) s = .next t ∧ same s t ∧
      t.chip.dev.devNs = d.devNs ∧
      (d.srvLocked v = false → t.chip.dev.time = d.time ∧ t.chip.dev.regs = d.regs) ∧
      (d.srvLocked v = true → d.ticking = false → t.chip.dev.inUse = v ∧ t.chip.dev.time.select = none ∧
        (d.inUse ≠ v → t.chip.dev.get F.TIME_EVENTS_SWITCH = 1)) ∧
      (d.srvLocked v = true → d.ticking = true → t.chip.dev.inUse = d.inUse ∧ t.chip.dev.time.select = some v)) ∧
    (s.chip.admits slot R.TIME_CMD 0 (timeWord 3 0) = true → ∃ t, exec (.timeCancel slot) s = .next t ∧ same s t ∧
      t.chip.dev.devNs = d.devNs ∧
      (d.time.relockDue = false → t.chip.dev.time = { d.time with relock := none } ∧ t.chip.dev.get F.TIME_STATUS_RELOCK_PENDING = 0) ∧
      (d.time.relockDue = true → t.chip.dev.time = d.time ∧ t.chip.dev.regs = d.regs)) ∧
    (s.chip.admitsRead slot R.TIME_NOW_NS 0 = true → ∃ t, exec (.timeNowRead slot) s = .next t ∧ t.chip.mem = s.chip.mem ∧
      t.chip.dev.regs = d.regs ∧ t.chip.dev.out = [.result slot resOk (beBytes 4 (d.devNs % 1000000000))] ∧
      Tab.find t.chip.dev.latch (R.TIME_NOW_SEC_LO.key slot 0) = some (d.devNs / 1000000000 % 2 ^ 32) ∧
      Tab.find t.chip.dev.latch (R.TIME_NOW_SEC_HI.key slot 0) = some (d.devNs / 1000000000 / 2 ^ 32 % 2 ^ 16))) ∧
  (∀ (s : State) (v n : Nat), v < 2 → s.chip.dev.time.due = some (v, n) →
    (s.chip.dev.tick.gap = true → ∃ t, exec .timeStepApply s = .next t ∧ same s t ∧ stepped s.chip.dev v t) ∧
    (s.chip.dev.tick.gap = false → ∃ t, exec .timeStepApply s = .next t ∧ t.chip = s.chip.quiet)) ∧
  (∀ (s : State), s.chip.dev.time.due = none → ∃ t, exec .timeStepApply s = .next t ∧ t.chip = s.chip.quiet)

/-- TICK_OUT, enabled and at rest, goes active at a tick edge whose number is a multiple of DIVIDE + 1, for the
lesser of WIDTH and half a tick, and back; disabled it does nothing. An enabled trigger is armed at its start, a
periodic one that is late at a later time of its grid; a late one-shot is MISSED with TIME_TRIG_MISSED; disabling
ends it. A due pulse starts, driven only by a unit that sends, unless LOCKED_ONLY holds it back without lock, and the
next is a period later; it ends after WIDTH. An enabled edge enters the queue with its time to within 5 ns, direction
and step count, raising TIME_CAPTURE on an empty queue; on a full one it is counted as dropped. A pop returns the
oldest and latches its seconds, or all ones. Memory stays. (rests on R271, R272, R273, R274, R275, R276) -/
def Obligations.TickOutTriggersAndCaptures : Prop :=
  let same (s t : State) : Prop := t.chip.mem = s.chip.mem ∧ t.chip.dev.berths = s.chip.dev.berths ∧ s.chip.dev.keeps t.chip.dev (outside [10])
  (∀ (s : State),
    let d := s.chip.dev
    let pol := d.on F.TIME_TICKOUT_CFG_POL
    (d.on F.TIME_TICKOUT_CFG_EN = false → ∃ t, exec .tickOutPulseStart s = .next t ∧ t.chip = s.chip.quiet) ∧
    (d.on F.TIME_TICKOUT_CFG_EN = true → d.pd1On = true → d.time.pulse = none →
      ∃ t k, exec .tickOutPulseStart s = .next t ∧ t.chip.mem = s.chip.mem ∧ t.chip.dev.regs = d.regs ∧ t.chip.dev.out = [.pulse 0] ∧
        k % (d.get F.TIME_TICKOUT_CFG_DIVIDE + 1) = 0 ∧ d.tickOf d.devNs ≤ k ∧ t.chip.dev.time.pulsed = some k ∧
        t.chip.dev.time.pulse = some (d.edgeNs k + min (d.get F.TIME_TICKOUT_CFG_WIDTH * 1000) (d.periodNs / 2)) ∧
        t.chip.dev.tickOutPin = !pol) ∧
    (∀ e, d.time.pulse = some e → ∃ t, exec .tickOutPulseEnd s = .next t ∧ t.chip.mem = s.chip.mem ∧ t.chip.dev.regs = d.regs ∧
      t.chip.dev.time.pulse = none ∧ t.chip.dev.out = [] ∧ t.chip.dev.tickOutPin = pol)) ∧
  (∀ (s : State) (slot k w : Nat), slot < 8 → k < 4 → w < 2 ^ 32 → s.chip.admits slot R.TIME_TRIG_CFG k w = true →
    let d := s.chip.dev
    let begins := d.trigStart k
    let per := d.get F.TIME_TRIG_PERIOD_NS k
    ∃ t, exec (.trigEnableWrite slot k w) s = .next t ∧ same s t ∧
      (∀ x ∈ R.TIME_TRIG_CFG.flds, t.chip.dev.get x k = x.of w) ∧
      (d.on F.TIME_TRIG_CFG_EN k = true → F.TIME_TRIG_CFG_EN.of w = 0 →
        t.chip.dev.trig k = ⟨none, none⟩ ∧ t.chip.dev.get F.TIME_TRIG_STATUS_ACTIVE k = 0) ∧
      (d.on F.TIME_TRIG_CFG_EN k = false → F.TIME_TRIG_CFG_EN.of w = 1 →
        (d.devNs + 1000 ≤ begins → t.chip.dev.trig k = ⟨some begins, none⟩ ∧ t.chip.dev.get F.TIME_TRIG_STATUS_MISSED k = 0) ∧
        (begins < d.devNs + 1000 → F.TIME_TRIG_CFG_PERIODIC.of w = 0 → t.chip.dev.trig k = ⟨none, none⟩ ∧
          t.chip.dev.get F.TIME_TRIG_STATUS_MISSED k = 1 ∧ t.chip.dev.get F.TIME_EVENTS_TRIG_MISSED = 1) ∧
        (begins < d.devNs + 1000 → F.TIME_TRIG_CFG_PERIODIC.of w = 1 → 0 < per →
          ∃ g, t.chip.dev.trig k = ⟨some g, none⟩ ∧ begins ≤ g ∧ d.devNs < g ∧ (g - begins) % per = 0 ∧
            (g = begins ∨ g ≤ d.devNs + per)))) ∧
  (∀ (s : State) (k u : Nat), k < 4 → (s.chip.dev.trig k).next = some u →
    let d := s.chip.dev
    let later := if d.on F.TIME_TRIG_CFG_PERIODIC k then some (u + d.get F.TIME_TRIG_PERIOD_NS k) else none
    ∃ t, exec (.trigPulseStart k) s = .next t ∧ same s t ∧ (t.chip.dev.trig k).next = later ∧
      (d.on F.TIME_TRIG_CFG_LOCKED_ONLY k = true → d.get F.TIME_STATUS_SRC ≠ 1 →
        t.chip.dev.regs = d.regs ∧ t.chip.dev.out = [] ∧ (t.chip.dev.trig k).stop = (d.trig k).stop) ∧
      (d.on F.TIME_TRIG_CFG_LOCKED_ONLY k = false ∨ d.get F.TIME_STATUS_SRC = 1 →
        t.chip.dev.get F.TIME_TRIG_STATUS_ACTIVE k = 1 ∧ (t.chip.dev.trig k).stop = some (u + d.get F.TIME_TRIG_CFG_WIDTH k) ∧
        t.chip.dev.out = if d.sends then [.pulse (1 + k)] else [])) ∧
  (∀ (s : State) (k e : Nat), k < 4 → (s.chip.dev.trig k).stop = some e →
    ∃ t, exec (.trigPulseEnd k) s = .next t ∧ same s t ∧ (t.chip.dev.trig k).stop = none ∧
      (t.chip.dev.trig k).next = (s.chip.dev.trig k).next ∧ t.chip.dev.get F.TIME_TRIG_STATUS_ACTIVE k = 0) ∧
  (∀ (s : State) (slot k : Nat) (rising : Bool), slot < 8 → k < 4 →
    let d := s.chip.dev
    let wanted := d.on F.TIME_CAP_CFG_EN k = true ∧
      (d.get F.TIME_CAP_CFG_EDGE k = 0 → rising = true) ∧ (d.get F.TIME_CAP_CFG_EDGE k = 1 → rising = false)
    (∃ t, exec (.captureEdge k rising) s = .next t ∧ same s t ∧
      (¬wanted → t.chip = s.chip.quiet) ∧
      (wanted → (d.caps k).length < 16 →
        (∃ at_, t.chip.dev.caps k = d.caps k ++ [⟨at_, rising, d.get F.TIME_STATUS_STEP_COUNT⟩] ∧ at_ ≤ d.devNs + 5 ∧ d.devNs ≤ at_ + 5) ∧
        (d.caps k = [] → t.chip.dev.get F.TIME_EVENTS_CAPTURE = 1) ∧ (d.caps k ≠ [] → t.chip.dev.regs = d.regs)) ∧
      (wanted → 16 ≤ (d.caps k).length → t.chip.dev.caps k = d.caps k ∧
        t.chip.dev.get F.TIME_CAP_DROP_COUNT k = min (d.get F.TIME_CAP_DROP_COUNT k + 1) (2 ^ F.TIME_CAP_DROP_COUNT.width - 1))) ∧
    (s.chip.admitsRead slot R.TIME_CAP_NS k = true →
      (d.caps k = [] → ∃ t, exec (.capturePop slot k) s = .next t ∧ t.chip.mem = s.chip.mem ∧ t.chip.dev.regs = d.regs ∧
        t.chip.dev.out = [.result slot resOk (beBytes 4 0xFFFFFFFF)] ∧ t.chip.dev.caps k = []) ∧
      (∀ e rest, d.caps k = e :: rest → ∃ t, exec (.capturePop slot k) s = .next t ∧ t.chip.mem = s.chip.mem ∧ t.chip.dev.regs = d.regs ∧
        t.chip.dev.caps k = rest ∧ t.chip.dev.out = [.result slot resOk (beBytes 4 (e.ns % 1000000000))] ∧
        Tab.find t.chip.dev.latch (R.TIME_CAP_SEC_LO.key slot k) = some (e.ns / 1000000000 % 2 ^ 32))))

/-- While memory is on, MEM_REQUEST of an address below the end of DRAM puts the burst's request at the end of the
queue of the channel that the address map gives, where the channel is not held and its queue has room, and otherwise
at the end of the line in the interconnect; a write to a berth being filled is one more to acknowledge.
MEM_READ_RESPONSE for the read that is served next leaves DRAM as it is, takes the read out of its queue, counts a
single wrong bit as corrected, and poisons a burst with two wrong bits. MEM_WRITE_ACK for the write served next
stores exactly its bytes: each reads back, and every other byte of DRAM reads as before; a whole burst is no longer
poisoned. (R316 to R318, R321, R325, R328 to R330) -/
def Obligations.MemoryRequestsAreQueuedServedAndAcknowledged : Prop :=
  (∀ (s : State) (a : Nat) (write : Bool) (off : Nat) (data : List Byte) (who : Requester) (use : MemUse),
    s.chip.dev.memOn = true → a < 2 ^ 35 →
    let d := s.chip.dev
    let c := (d.translate (a / 32 * 32)).1
    let r : MemReq := ⟨a / 32 * 32, write, off % 32, data.take (32 - off % 32), who, use⟩
    ∃ t, exec (.memRequest a write off data who use) s = .next t ∧ t.chip.mem = s.chip.mem ∧
      (∀ n, use = .berth n → (t.chip.dev.berth n).unacked =
        (d.berth n).unacked + (if write = true ∧ (d.berth n).st = .filling then 1 else 0)) ∧
      (d.chanHeld c = false → (d.chan c).queue.length < 64 →
        (t.chip.dev.chan c).queue = (d.chan c).queue ++ [r] ∧ (t.chip.dev.chan c).waiting = (d.chan c).waiting) ∧
      (d.chanHeld c = true ∨ 64 ≤ (d.chan c).queue.length →
        (t.chip.dev.chan c).queue = (d.chan c).queue ∧ (t.chip.dev.chan c).waiting = (d.chan c).waiting ++ [r])) ∧
  (∀ (s : State) (c bits addrBits : Nat) (r : MemReq), c < 32 → s.chip.dev.nextReq c = some r → r.write = false →
    s.chip.dev.chanHeld c = false →
    ∃ t, exec (.memReadResponse c bits addrBits) s = .next t ∧ t.chip.mem.dram = s.chip.mem.dram ∧
      (s.chip.mem.badRead r.addr bits addrBits = false → t.chip.mem = s.chip.mem ∧
        ((s.chip.dev.chan c).waiting = [] → (t.chip.dev.chan c).queue = (s.chip.dev.chan c).queue.erase r) ∧
        (bits = 1 → t.chip.dev.get F.MEM_EVENTS_CE = 1 ∧
          t.chip.dev.get F.MEM_CE_CNT_COUNT = min (s.chip.dev.get F.MEM_CE_CNT_COUNT + 1) (2 ^ 32 - 1))) ∧
      (2 ≤ bits → r.addr % 32 = 0 → t.chip.mem.burstBad r.addr = true)) ∧
  (∀ (s : State) (c bits : Nat) (r : MemReq), c < 32 → s.chip.dev.nextReq c = some r → r.write = true →
    s.chip.dev.chanHeld c = false → s.chip.mem.dram.wf = true →
    ∃ t, exec (.memWriteAck c bits) s = .next t ∧
      (∀ k, (h : k < r.data.length) → Dram.read t.chip.mem.dram (r.addr + r.off + k) = r.data[k]) ∧
      (∀ x, x < r.addr + r.off ∨ r.addr + r.off + r.data.length ≤ x →
        Dram.read t.chip.mem.dram x = Dram.read s.chip.mem.dram x) ∧
      (r.data.length = 32 → r.addr % 32 = 0 → t.chip.mem.burstBad r.addr = false))

/-- MEM_REFRESH_DUE of a channel that is not held closes the row of a bank without requests and forgets what it
postponed, and counts one more postponed refresh (up to 8) for a bank with requests, or sends one;
MEM_STACK_TEMP_HIGH with more than 85 °C shows the temperature, sets the stack's TEMP_HIGH and raises MEM_TEMP_HIGH
where it was 0, MEM_STACK_TEMP_NORMAL with 85 °C or less clears it; the end of a scrub pass counts PASSES, raises
MEM_SCRUB_DONE and begins the next; MEM_FCHG_LOCK ends a rate change with MEM_FCHG_DONE, and a change of the power
state that waited for it; MEM_FCHG_TIMEOUT stops the device in FAILED with result 6. ENGINE_WATCHDOG_EXPIRE of any
engine, in any state, sets its bit of SYS_ENGINE_STATUS.STOPPED and no other, raises SYS_ENGINE_HUNG, writes event
0x0010 with the engine's number to the black box, or counts it as lost, and changes no other register field. None
changes memory. (rests on R19, R323, R331, R334, R359) -/
def Obligations.MemoryMaintenanceKeepsData : Prop :=
  (∀ (s : State) (e : Nat), e < 16 →
    let d := s.chip.dev
    ∃ t, exec (.engineWatchdogExpire e) s = .next t ∧ t.chip.mem = s.chip.mem ∧
      (∀ j, j < 16 → (t.chip.dev.get F.SYS_ENGINE_STATUS_STOPPED).testBit j = (decide (j = e) || (d.get F.SYS_ENGINE_STATUS_STOPPED).testBit j)) ∧
      t.chip.dev.get F.SYS_EVENTS_ENGINE_HUNG = 1 ∧
      d.keeps t.chip.dev (but [F.SYS_ENGINE_STATUS_STOPPED, F.SYS_EVENTS_ENGINE_HUNG, F.BBOX_LOST_COUNT]) ∧
      (d.on F.BBOX_STATUS_FROZEN = false → d.bb.staging.length < 16 →
        ∃ b, t.chip.dev.bb.staging = d.bb.staging ++ [b] ∧ b.code = 0x0010 ∧ b.arg0 = e ∧ b.tick = d.tickNow) ∧
      (d.on F.BBOX_STATUS_FROZEN = true ∨ 16 ≤ d.bb.staging.length →
        t.chip.dev.bb = d.bb ∧ t.chip.dev.get F.BBOX_LOST_COUNT = min (d.get F.BBOX_LOST_COUNT + 1) (2 ^ F.BBOX_LOST_COUNT.width - 1))) ∧
  ∀ s : State,
    let d := s.chip.dev
    (∀ c b, c < 32 → b < 64 → d.chanHeld c = false →
      let asked := (d.chan c).queue.any (fun r => decide ((d.place r).1 = b))
      ∃ t, exec (.memRefreshDue c b) s = .next t ∧ t.chip.mem = s.chip.mem ∧ t.chip.dev.regs = d.regs ∧
        (t.chip.dev.chan c).queue = (d.chan c).queue ∧
        (asked = false → Tab.find (t.chip.dev.chan c).open_ b = none ∧ Tab.get (t.chip.dev.chan c).postponed 0 b = 0) ∧
        (asked = true → Tab.get (d.chan c).postponed 0 b < 8 →
          Tab.get (t.chip.dev.chan c).postponed 0 b = Tab.get (d.chan c).postponed 0 b + 1 ∧ (t.chip.dev.chan c).open_ = (d.chan c).open_) ∧
        (asked = true → 8 ≤ Tab.get (d.chan c).postponed 0 b →
          (t.chip.dev.chan c).postponed = (d.chan c).postponed ∧ Tab.find (t.chip.dev.chan c).open_ b = none)) ∧
    (∀ k temp, k < 2 → temp < 256 →
      let high := if k = 0 then F.MEM_STATUS_TEMP_HIGH_A else F.MEM_STATUS_TEMP_HIGH_B
      let shown := if k = 0 then F.MEM_TEMP_STACK_A else F.MEM_TEMP_STACK_B
      (85 < temp → ∃ t, exec (.memStackTempHigh k temp) s = .next t ∧ t.chip.mem = s.chip.mem ∧ t.chip.dev.get shown = temp ∧
        t.chip.dev.get high = 1 ∧ (d.get high = 0 → t.chip.dev.get F.MEM_EVENTS_TEMP_HIGH = 1) ∧
        d.keeps t.chip.dev (but [high, shown, F.MEM_EVENTS_TEMP_HIGH])) ∧
      (temp ≤ 85 → ∃ t, exec (.memStackTempNormal k temp) s = .next t ∧ t.chip.mem = s.chip.mem ∧ t.chip.dev.get shown = temp ∧
        t.chip.dev.get high = 0 ∧ t.chip.dev.evq = d.evq ∧ d.keeps t.chip.dev (but [high, shown]))) ∧
    (d.scrubOn = true →
      ∃ t, exec .memScrubPassEnd s = .next t ∧ t.chip.mem = s.chip.mem ∧ t.chip.dev.get F.MEM_EVENTS_SCRUB_DONE = 1 ∧
        t.chip.dev.scrubStart = t.chip.dev.now ∧ t.chip.dev.scrubDone = 0 ∧
        t.chip.dev.get F.MEM_SCRUB_STATUS_PASSES = (d.get F.MEM_SCRUB_STATUS_PASSES + 1) % 2 ^ F.MEM_SCRUB_STATUS_PASSES.width) ∧
    (∀ k, d.fchg = some k → d.pwr ≠ .failed →
      (∃ t, exec .memFchgLock s = .next t ∧ t.chip.mem = s.chip.mem ∧ t.chip.dev.fchg = none ∧
        t.chip.dev.get F.MEM_EVENTS_FCHG_DONE = 1 ∧ t.chip.dev.get F.MEM_STATUS_FCHG_BUSY = 0 ∧
        (d.change = none → t.chip.dev.pwr = d.pwr) ∧
        (d.change = some .toStandby → t.chip.dev.pwr = .standby ∧ t.chip.dev.change = none) ∧
        (d.change = some .toReady → d.clkWait = [] → t.chip.dev.pwr = .ready ∧ t.chip.dev.change = none) ∧
        (d.change = some .toReady → d.clkWait ≠ [] → t.chip.dev.pwr = d.pwr ∧ t.chip.dev.change = some .toReady)) ∧
      (∃ t, exec .memFchgTimeout s = .next t ∧ t.chip.mem = s.chip.mem ∧ t.chip.dev.pwr = .failed ∧ t.chip.dev.change = none ∧
        t.chip.dev.get F.SYS_PWR_STATUS_RESULT = 6 ∧ t.chip.dev.get F.MEM_EVENTS_FCHG_FAIL = 1 ∧ t.chip.dev.get F.SYS_EVENTS_PWR_FAIL = 1))

/-- POR_ASSERT makes DRAM read 0x00 everywhere, leaves flash and fuses, and powers the device off; POR_RELEASE after
it starts PD0 in BOOT, with the PIN cause where RESET_N is low and the straps latched where it is high; a low on
RESET_N held for 6 µs, while neither low nor power-on reset is in effect, loses DRAM, counts RST_LAST_COUNT, shows
the state it ended in RST_LAST and sets the PIN cause; a low of less than 4 µs changes nothing but the list of what
was sent; the accepted release latches the straps and starts the clock of PD1. (R338 to R341, R345, R346) -/
def Obligations.ResetsLeaveTheWatchIsland : Prop :=
  ∀ s : State,
    let d := s.chip.dev
    (∃ t, exec .porAssert s = .next t ∧ (∀ a, Dram.read t.chip.mem.dram a = 0) ∧ t.chip.mem.poison = [] ∧
      t.chip.mem.flash = s.chip.mem.flash ∧ t.chip.mem.otp = s.chip.mem.otp ∧ t.chip.dev.pwr = .off ∧
      t.chip.dev.layout = none ∧ t.chip.dev.evq = []) ∧
    (∀ low b m, d.porLow = true → b < 8 → m < 4 →
      ∃ t, exec (.porRelease low b m) s = .next t ∧ t.chip.mem = s.chip.mem ∧ t.chip.dev.pwr = .boot ∧
        t.chip.dev.pinLow = low ∧ (low = true → t.chip.dev.get F.RST_CAUSE_PIN = 1) ∧
        (low = false → t.chip.dev.get F.RST_STRAPS_BOOT = b ∧ t.chip.dev.get F.RST_STRAPS_CLKMODE = m ∧
          t.chip.dev.clkWait = [1])) ∧
    (∀ ns, 6000 ≤ ns → d.pinLow = false → d.porLow = false →
      ∃ t, exec (.pinResetAssert ns) s = .next t ∧ (∀ a, Dram.read t.chip.mem.dram a = 0) ∧
        t.chip.mem.flash = s.chip.mem.flash ∧ t.chip.mem.otp = s.chip.mem.otp ∧ t.chip.dev.pwr = .boot ∧
        t.chip.dev.pinLow = true ∧ t.chip.dev.get F.RST_CAUSE_PIN = 1 ∧
        t.chip.dev.get F.RST_LAST_STATE = d.pwr.code ∧ t.chip.dev.get F.RST_CLK_STATUS_IN_RESET = 0xFFE ∧
        t.chip.dev.layout = none ∧ t.chip.dev.get F.PAIR_EPOCH_EPOCH = d.get F.PAIR_EPOCH_EPOCH) ∧
    (∀ ns, ns < 4000 → ∃ t, exec (.pinResetAssert ns) s = .next t ∧ t.chip.mem = s.chip.mem ∧
      t.chip.dev = { d with out := [] }) ∧
    (∀ ns b m, 6000 ≤ ns → d.pinLow = true → d.porLow = false → b < 8 → m < 4 →
      ∃ t, exec (.pinResetRelease ns b m) s = .next t ∧ t.chip.mem = s.chip.mem ∧ t.chip.dev.pinLow = false ∧
        t.chip.dev.get F.RST_STRAPS_BOOT = b ∧ t.chip.dev.get F.RST_STRAPS_CLKMODE = m ∧ t.chip.dev.clkWait = [1])

/-- DOMAIN_CLOCK_LOCK of a domain whose clock is awaited clears its bit of RST_CLK_STATUS.IN_RESET while further
clocks are awaited; for PD1 it also shows the life-cycle fuses in HOST_LC_STATUS. DOMAIN_CLOCK_TIMEOUT of PD4 to PD11
sets the domain's TIMEOUT bit and keeps it in the list of held domains while further clocks are awaited, and of PD1
halts the device. (rests on R343, R344, R388) Once PD1 is out of reset, BOOT with a reserved BOOT or CLKMODE strap
halts with the strap error, BOOT from flash with no flash halts with the flash error for both images, and BOOT from
host push sets PUSH and waits at step 3; a HOST_PUSH_WRITE that goes on at the next byte while fewer than 8192 bytes
have come keeps its bytes and answers OK; a write elsewhere halts with the push error and answers FORMAT. (rests on
R349, R351, R352) -/
def Obligations.DomainsAndBootFollowResetAndStraps : Prop :=
  (∀ (s : State) (pd : Nat), pd < 12 → s.chip.dev.awaits pd = true →
     let d := s.chip.dev
     (d.clkWait.erase pd ≠ [] → pd ≠ 1 →
       ∃ t, exec (.domainClockLock pd) s = .next t ∧ t.chip.mem = s.chip.mem ∧ t.chip.dev.inReset pd = false ∧
         t.chip.dev.clkWait = d.clkWait.erase pd ∧ t.chip.dev.pwr = d.pwr) ∧
     (d.clkWait = [1] → d.pwr = .boot → d.get F.SYS_BOOT_STATUS_STEP = 0 → pd = 1 → s.chip.mem.otp.lc < 4 →
       ∃ t, exec (.domainClockLock 1) s = .next t ∧ t.chip.mem = s.chip.mem ∧ t.chip.dev.inReset 1 = false ∧
         t.chip.dev.get F.HOST_LC_STATUS_STATE = s.chip.mem.otp.lc) ∧
     (4 ≤ pd → d.clkWait.erase pd ≠ [] →
       ∃ t, exec (.domainClockTimeout pd) s = .next t ∧ t.chip.mem = s.chip.mem ∧
         (t.chip.dev.get F.RST_CLK_STATUS_TIMEOUT).testBit pd = true ∧
         t.chip.dev.heldAfterTimeout = d.heldAfterTimeout ++ [pd] ∧ t.chip.dev.pwr = d.pwr) ∧
     (pd = 1 → ∃ t, exec (.domainClockTimeout 1) s = .next t ∧ t.chip.mem = s.chip.mem ∧ t.chip.dev.pwr = .halted)) ∧
  ((∀ (s : State) (trained octal : Bool) (size : Nat), s.chip.dev.pwr = .boot → s.chip.dev.boot.begun = false →
     s.chip.dev.inReset 1 = false → s.chip.dev.pinLow = false → s.chip.dev.porLow = false →
     let d := s.chip.dev
     ∃ t, exec (.boot trained octal size) s = .next t ∧
       (3 ≤ d.get F.RST_STRAPS_BOOT ∨ d.get F.RST_STRAPS_CLKMODE = 3 →
         t.chip.dev.pwr = .halted ∧ t.chip.dev.get F.SYS_BOOT_STATUS_ERROR_A = errStrap ∧ t.chip.mem = s.chip.mem) ∧
       (d.get F.RST_STRAPS_BOOT < 2 → d.get F.RST_STRAPS_CLKMODE ≠ 3 → size = 0 →
         t.chip.dev.pwr = .halted ∧ t.chip.dev.get F.SYS_BOOT_STATUS_ERROR_A = errFlash ∧
         t.chip.dev.get F.SYS_BOOT_STATUS_ERROR_B = errFlash ∧ t.chip.mem = s.chip.mem) ∧
       (d.get F.RST_STRAPS_BOOT = 2 → d.get F.RST_STRAPS_CLKMODE ≠ 3 →
         t.chip.dev.pwr = .boot ∧ t.chip.dev.get F.SYS_BOOT_STATUS_PUSH = 1 ∧ t.chip.dev.get F.SYS_BOOT_STATUS_STEP = 3 ∧
         t.chip.dev.boot.push = [] ∧ t.chip.mem = s.chip.mem)) ∧
   (∀ (s : State) (addr : Nat) (data : List Byte), s.chip.dev.pwr = .boot → s.chip.dev.on F.SYS_BOOT_STATUS_PUSH = true →
     s.chip.dev.clkWait = [] → s.chip.dev.get F.SYS_BOOT_STATUS_STEP < 8 →
     let old := s.chip.dev.boot.push
     ∃ t, exec (.hostPushWrite addr data) s = .next t ∧
       (addr = old.length → (old ++ data).length < 8192 →
         t.chip.dev.boot.push = old ++ data ∧ t.chip.dev.host.spi.last = resOk ∧ t.chip.dev.pwr = .boot ∧ t.chip.mem = s.chip.mem) ∧
       (addr ≠ old.length →
         t.chip.dev.pwr = .halted ∧ t.chip.dev.host.spi.last = resFormat ∧
         t.chip.dev.get F.SYS_BOOT_STATUS_ERROR_A = errPush ∧ t.chip.mem = s.chip.mem)))

/-- For an admitted power command while no other change is in progress: RUN from READY, with every domain up and the
pools in order, enters RUN with SYS_PWR_DONE; READY from RUN is BUSY and waits for the edge; STANDBY from READY
starts the rate change; READY from STANDBY starts the clocks and the rate change; WATCH from READY or STANDBY
switches the domains off, loses DRAM and keeps flash; a command to the state the device is in ends at once with DONE;
one that R355 does not list is refused with result 3 and SYS_PWR_REFUSED. (R354 to R357) -/
def Obligations.PowerCommandsChangeTheState : Prop :=
  ∀ (s : State) (slot : Nat), slot < 8 → s.chip.dev.change = none → s.chip.dev.tick.leave = false →
    let d := s.chip.dev
    (s.chip.admits slot R.SYS_PWR_CMD 0 4 = true →
      (d.pwr = .ready → d.heldAfterTimeout = [] → d.poolsOk = true →
        ∃ t, exec (.pwrCmdRun slot) s = .next t ∧ t.chip.dev.pwr = .run ∧ t.chip.mem = s.chip.mem ∧
          t.chip.dev.get F.SYS_EVENTS_PWR_DONE = 1 ∧ t.chip.dev.get F.SYS_PWR_STATUS_RESULT = 1 ∧
          t.chip.dev.tick.running = false) ∧
      (d.pwr = .standby → ∃ t, exec (.pwrCmdRun slot) s = .next t ∧ t.chip.dev.pwr = .standby ∧
        t.chip.dev.get F.SYS_PWR_STATUS_RESULT = 3 ∧ t.chip.dev.get F.SYS_EVENTS_PWR_REFUSED = 1)) ∧
    (s.chip.admits slot R.SYS_PWR_CMD 0 3 = true →
      (d.pwr = .run → ∃ t, exec (.pwrCmdReady slot) s = .next t ∧ t.chip.dev.pwr = .run ∧
        t.chip.dev.tick.leave = true ∧ t.chip.dev.get F.SYS_PWR_STATUS_BUSY = 1) ∧
      (d.pwr = .standby → ∃ t, exec (.pwrCmdReady slot) s = .next t ∧ t.chip.dev.change = some .toReady ∧
        t.chip.dev.fchg = some .toReady ∧ t.chip.dev.clkWait = [4, 5, 6, 7, 8, 9, 10, 11] ∧
        t.chip.dev.get F.MEM_STATUS_FCHG_BUSY = 1) ∧
      (d.pwr = .ready → ∃ t, exec (.pwrCmdReady slot) s = .next t ∧ t.chip.dev.pwr = .ready ∧
        t.chip.dev.get F.SYS_PWR_STATUS_RESULT = 1)) ∧
    (s.chip.admits slot R.SYS_PWR_CMD 0 2 = true → d.pwr = .ready →
      ∃ t, exec (.pwrCmdStandby slot) s = .next t ∧ t.chip.dev.change = some .toStandby ∧
        t.chip.dev.fchg = some .toStandby ∧ t.chip.dev.get F.MEM_STATUS_FCHG_BUSY = 1) ∧
    (s.chip.admits slot R.SYS_PWR_CMD 0 1 = true → d.pwr = .ready ∨ d.pwr = .standby →
      ∃ t, exec (.pwrCmdWatch slot) s = .next t ∧ t.chip.dev.pwr = .watch ∧ (∀ a, Dram.read t.chip.mem.dram a = 0) ∧
        t.chip.mem.flash = s.chip.mem.flash ∧ t.chip.dev.layout = none ∧ t.chip.dev.get F.RST_CLK_STATUS_IN_RESET = 0xFFE)

/-- A REIN_OUT pulse ends at its time; an owed RELEASE is 200 µs low at a predicted start. In RUN a low pulse in the
window of R287 is RELEASE at 190 to 210 µs, else a renewal within 2 µs of a width that may come, a second holder seen
where this unit renewed too, else a miss; a line stuck low raises PAIR_REIN_STUCK once in its low period.
PAIR_CTRL.EN enters JOINING or SOLO. PAIR_CMD shows slot, operation and result: 2 while another waits, 3 in the wrong
role, 5 for a faulty unit, else it is pending. A resync completes in SHADOW with PAIR_SYNCED; three ticks without a
burst lead to STALE. JOINING_TIMEOUT and HANDOVER_TAKEBACK under their conditions make the unit ACTIVE with a higher
epoch, TAKEOVER and a renewal. Memory stays. (rests on R282, R285, R287, R294, R303, R304, R309) -/
def Obligations.RolesHalterAndRein : Prop :=
  (∀ (s : State),
    let d := s.chip.dev
    let r := d.pair.rein
    (∀ p, r.pulse = some p → ∃ t, exec .reinOutRelease s = .next t ∧ t.chip.mem = s.chip.mem ∧ t.chip.dev.regs = d.regs ∧
      t.chip.dev.pair.rein.pulse = none ∧ p.2 ≤ t.chip.dev.now) ∧
    (r.owed = true → r.period ≠ 0 → ∃ t n, exec .reinReleasePattern s = .next t ∧ t.chip.mem = s.chip.mem ∧ t.chip.dev.regs = d.regs ∧
      d.now ≤ r.edge + r.period / 10 + n * r.period ∧ r.edge + r.period / 10 + n * r.period ≤ t.chip.dev.now ∧
      t.chip.dev.pair.rein.owed = false ∧
      t.chip.dev.pair.rein.pulse = some (r.edge + r.period / 10 + n * r.period, r.edge + r.period / 10 + n * r.period + 200000)) ∧
    (d.role ≠ 0 → r.stuck = false → ∃ t, exec .pairReinStuck s = .next t ∧ t.chip.mem = s.chip.mem ∧
      d.keeps t.chip.dev (but [F.PAIR_EVENTS_REIN_STUCK]) ∧ t.chip.dev.get F.PAIR_EVENTS_REIN_STUCK = 1 ∧
      t.chip.dev.pair.rein = { r with stuck := true }) ∧
    (d.role = 0 ∨ r.stuck = true → ∃ t, exec .pairReinStuck s = .next t ∧ t.chip = s.chip.quiet)) ∧
  (∀ (s : State) (us w : Nat),
    let d := s.chip.dev
    let r := d.pair.rein
    let judged := d.role ≠ 0 ∧ d.pwr = .run ∧ d.ticking = true ∧ w ≤ 1000
    let recent := ∃ v, r.valid = some v ∧ v ∈ d.pair.edges.take 4
    let near (m : Nat) := 10 * (1 + m) ≤ w + 2 ∧ w ≤ 10 * (1 + m) + 2
    let free : Rein := { r with stuck := false }
    let missed (t : State) : Prop := t.chip.dev.pair = { d.pair with rein := free } ∧
      t.chip.dev.get F.PAIR_CNT_REIN_MISS_COUNT = min (d.get F.PAIR_CNT_REIN_MISS_COUNT + 1) (2 ^ F.PAIR_CNT_REIN_MISS_COUNT.width - 1)
    ∃ t, exec (.reinPulseReceive us w) s = .next t ∧ t.chip.mem = s.chip.mem ∧
      d.keeps t.chip.dev (but [F.PAIR_CNT_REIN_MISS_COUNT, F.PAIR_EVENTS_DUAL_HOLDER, F.BBOX_LOST_COUNT]) ∧
      (¬judged → t.chip.dev.pair = { d.pair with rein := free } ∧ t.chip.dev.regs = d.regs) ∧
      (judged → d.inWindow us = false → missed t) ∧
      (judged → d.inWindow us = true → 190 ≤ w → w ≤ 210 → t.chip.dev.pair.rein = { free with release := some d.tick.num } ∧
        t.chip.dev.regs = d.regs) ∧
      (∀ m, judged → d.inWindow us = true → m < 4 → near m → (recent → m = (r.m + 1) % 4) →
        t.chip.dev.pair.rein = { free with valid := some d.tick.num, m := m, release := none } ∧
        (d.holds = true → r.renewed = some d.tick.num → d.pair.dual = false → t.chip.dev.get F.PAIR_EVENTS_DUAL_HOLDER = 1)) ∧
      (judged → d.inWindow us = true → ¬(190 ≤ w ∧ w ≤ 210) → (∀ m, m < 4 → near m → recent ∧ m ≠ (r.m + 1) % 4) → missed t)) ∧
  (∀ (s : State) (slot w : Nat), slot < 8 → w < 2 ^ 32 → s.chip.admits slot R.PAIR_CTRL 0 w = true →
    let d := s.chip.dev
    ∃ t, exec (.pairEnWrite slot w) s = .next t ∧ t.chip.mem = s.chip.mem ∧ t.chip.dev.get F.PAIR_CTRL_EN = F.PAIR_CTRL_EN.of w ∧
      t.chip.dev.get F.PAIR_CTRL_UNIT = F.PAIR_CTRL_UNIT.of w ∧ d.keeps t.chip.dev (outside [11, 17]) ∧
      (F.PAIR_CTRL_EN.of w = d.get F.PAIR_CTRL_EN → t.chip.dev.role = d.role) ∧
      (F.PAIR_CTRL_EN.of w ≠ d.get F.PAIR_CTRL_EN → d.pwr ≠ .run ∧ t.chip.dev.role = F.PAIR_CTRL_EN.of w)) ∧
  (∀ (s : State) (slot op : Nat), slot < 8 → op = 1 ∨ op = 2 → s.chip.admits slot R.PAIR_CMD 0 (F.PAIR_CMD_OP.at op) = true →
    let d := s.chip.dev
    let busy := d.pair.cmd.isSome = true ∨ d.pair.handover.isSome = true
    let fits := d.pwr = .run ∧ ((op = 1 ∧ d.role = 2) ∨ (op = 2 ∧ (d.role = 3 ∨ d.role = 4)))
    let sick := d.role = 4 ∧ faulty d.health = true
    ∃ t, exec (if op = 1 then .pairHandover slot else .pairResync slot) s = .next t ∧ t.chip.mem = s.chip.mem ∧ t.chip.dev.role = d.role ∧
      t.chip.dev.get F.PAIR_CMD_STATUS_OP = op ∧ t.chip.dev.get F.PAIR_CMD_STATUS_REQ_SLOT = slot ∧ d.keeps t.chip.dev (outside [11]) ∧
      (busy → t.chip.dev.get F.PAIR_CMD_STATUS_RESULT = 2 ∧ t.chip.dev.pair = d.pair) ∧
      (¬busy → ¬fits → t.chip.dev.get F.PAIR_CMD_STATUS_RESULT = 3 ∧ t.chip.dev.pair = d.pair) ∧
      (¬busy → fits → sick → t.chip.dev.get F.PAIR_CMD_STATUS_RESULT = 5 ∧ t.chip.dev.pair = d.pair) ∧
      (¬busy → fits → ¬sick → t.chip.dev.get F.PAIR_CMD_STATUS_RESULT = 0 ∧ t.chip.dev.get F.PAIR_CMD_STATUS_PENDING = 1 ∧
        t.chip.dev.pair.cmd = some (op, slot) ∧ (op = 1 → t.chip.dev.pair.handover = some (d.tick.num, some slot)) ∧
        (op = 2 → t.chip.dev.pair.resync = true))) ∧
  (∀ (s : State),
    let d := s.chip.dev
    let taken (t : State) : Prop := t.chip.mem = s.chip.mem ∧ t.chip.dev.role = 2 ∧ t.chip.dev.get F.PAIR_EVENTS_TAKEOVER = 1 ∧
      t.chip.dev.pair.rein.renewed = some d.tick.num ∧
      t.chip.dev.get F.PAIR_EPOCH_EPOCH = (1 + max (max (d.get F.PAIR_EPOCH_EPOCH) d.pair.seenEpoch) (d.net.witEpoch.getD 0)) % 2 ^ 32
    (d.role = 3 → d.syncSt = 1 → d.pair.inStep = true → ∃ t, exec .resyncComplete s = .next t ∧ t.chip.mem = s.chip.mem ∧
      t.chip.dev.syncSt = 2 ∧ t.chip.dev.role = 3 ∧ t.chip.dev.get F.PAIR_EVENTS_SYNCED = 1 ∧ t.chip.dev.get F.PAIR_SYNC_PROGRESS_PAGES = 0 ∧
      t.chip.dev.get F.UPD_STATUS_OWNER = 8) ∧
    (¬(d.role = 3 ∧ d.syncSt = 1 ∧ d.pair.inStep = true) → ∃ t, exec .resyncComplete s = .next t ∧ t.chip = s.chip.quiet) ∧
    (3 ≤ d.pair.missed → d.role = 3 → d.syncSt = 1 ∨ d.syncSt = 2 → ∃ t, exec .pairStateStale s = .next t ∧ t.chip.mem = s.chip.mem ∧
      t.chip.dev.syncSt = 3 ∧ t.chip.dev.get F.PAIR_EVENTS_STATE_STALE = 1 ∧ t.chip.dev.pair.mirror.recv = none) ∧
    (d.pair.missed < 3 → ∃ t, exec .pairStateStale s = .next t ∧ t.chip = s.chip.quiet) ∧
    (d.pwr = .run → d.role = 1 → d.atEdge = true → (if d.get F.PAIR_CTRL_UNIT = 0 then 4 else 8) < d.pair.since → d.lease = 0 ∨ d.lease = 3 →
      d.noFresh = true → d.tick.prevCert = true → ∃ t, exec .joiningTimeout s = .next t ∧ taken t) ∧
    (d.role ≠ 1 ∨ d.pwr ≠ .run ∨ d.lease = 1 ∨ d.lease = 2 ∨ d.pair.since ≤ 4 → ∃ t, exec .joiningTimeout s = .next t ∧ t.chip = s.chip.quiet) ∧
    (∀ g, d.pair.gave = some g → d.pwr = .run → d.role = 3 → d.atEdge = true → d.tickBefore d.tick.num = g → d.pair.rein.valid ≠ some g →
      d.tick.prevCert = true → ∃ t, exec .handoverTakeback s = .next t ∧ taken t ∧ t.chip.dev.get F.PAIR_EVENTS_HANDOVER_ABORTED = 1 ∧
        t.chip.dev.staleLow = d.liveOuts.any (fun o => !(d.outp o).sentWith [0])) ∧
    (d.pair.gave = none → ∃ t, exec .handoverTakeback s = .next t ∧ t.chip = s.chip.quiet))

/-- A frame on a lane on which the unit does not listen does nothing. One with a wrong CRC-64, protocol version, unit
number or tick, or out of order, is discarded: counted in PAIR_CNT_FRAME_ERR, with PROTO_MISMATCH, UNIT_CLASH or
TICK_MISMATCH where that is why, and nothing of the pair's state or memory changes. A taken STATE frame joins the
burst of a unit that follows; STATE_END with every frame makes it ready; a mirrored write is carried out only when it
is the next in sequence; SYNC pages go to DRAM on a standby in SYNCING; HEALTH and DIGEST show the partner's word;
COMMIT and DECISION YIELD reach a standby; REVERT asks a holder to hand over; RETRAIN agrees on a lane. (rests on
R284, R291, R293, R294, R299, R300, R303, R308, R310) -/
def Obligations.TetherFramesAreJudgedAndTaken : Prop :=
  (∀ (s : State) (c : Instr) (ty : Nat) (h : TetherHdr), tetherFrame c = some (ty, h) →
    let d := s.chip.dev
    let own := d.get F.PAIR_CTRL_UNIT
    let discarded (t : State) : Prop := t.chip.mem = s.chip.mem ∧ t.chip.dev.pair = d.pair ∧
      d.keeps t.chip.dev (but [F.PAIR_CNT_FRAME_ERR_COUNT, F.PAIR_EVENTS_PROTO_MISMATCH, F.PAIR_EVENTS_UNIT_CLASH,
        F.PAIR_EVENTS_TICK_MISMATCH, F.PAIR_STATUS_TICK_MISMATCH]) ∧
      t.chip.dev.get F.PAIR_CNT_FRAME_ERR_COUNT = min (d.get F.PAIR_CNT_FRAME_ERR_COUNT + 1) (2 ^ F.PAIR_CNT_FRAME_ERR_COUNT.width - 1)
    ∃ t, exec c s = .next t ∧
      (d.listensOn h = false → t.chip = s.chip.quiet) ∧
      (d.listensOn h = true →
        (h.crcOk = false → discarded t) ∧
        (h.crcOk = true → h.proto ≠ d.upd.run.proto → discarded t ∧ t.chip.dev.get F.PAIR_EVENTS_PROTO_MISMATCH = 1) ∧
        (h.crcOk = true → h.proto = d.upd.run.proto →
          (h.unit = own → discarded t ∧ t.chip.dev.get F.PAIR_EVENTS_UNIT_CLASH = 1) ∧
          (h.unit ≠ own → h.unit ≠ 1 - own → discarded t) ∧
          (h.unit ≠ own → h.unit = 1 - own →
            (h.tick ≠ d.tick.num → discarded t ∧ t.chip.dev.get F.PAIR_STATUS_TICK_MISMATCH = 1 ∧
              (d.get F.PAIR_STATUS_TICK_MISMATCH = 0 → t.chip.dev.get F.PAIR_EVENTS_TICK_MISMATCH = 1)) ∧
            (∀ a, h.tick = d.tick.num → Tab.find d.pair.rxAlive (ty, h.lane) = some a →
              (h.alive + 256 - a) % 256 = 0 ∨ 128 < (h.alive + 256 - a) % 256 → discarded t))))) ∧
  (∀ (s : State) (h : TetherHdr), s.chip.dev.listensOn h = true → h.crcOk = true → h.proto = s.chip.dev.upd.run.proto →
    h.unit = 1 - s.chip.dev.get F.PAIR_CTRL_UNIT → h.unit ≠ s.chip.dev.get F.PAIR_CTRL_UNIT → h.tick = s.chip.dev.tick.num →
    let d := s.chip.dev
    let role := d.role
    let fresh (ty : Nat) : Prop := (∀ a, Tab.find d.pair.rxAlive (ty, h.lane) = some a → (h.alive + 256 - a) % 256 = 1) ∧
      (2 ≤ h.lane → (ty, h.index) ∉ d.pair.got)
    let shown (t : State) : Nat := t.chip.dev.partnerHealth
    (∀ items, fresh 0x01 → role = 3 ∨ role = 4 → ∃ t, exec (.tetherStateReceive h items) s = .next t ∧ t.chip.mem = s.chip.mem ∧
      t.chip.dev.pair.burst = d.pair.burst ++ [(h.index, items)] ∧
      (excluding items = true → d.tick.num ∈ t.chip.dev.pair.cmp.excluded)) ∧
    (∀ n, fresh 0x03 → role = 3 ∨ role = 4 → (∀ i, i < n → d.pair.burst.any (fun (q : Nat × List CtlItem) => decide (q.1 = i)) = true) →
      ∃ t l, exec (.tetherStateEndReceive h n true) s = .next t ∧ t.chip.mem = s.chip.mem ∧
        t.chip.dev.pair.ready = some (d.tick.num, l) ∧
        (∀ i items, i < n → d.pair.burst.find? (fun (q : Nat × List CtlItem) => decide (q.1 = i)) = some (i, items) → ∀ x ∈ items, x ∈ l)) ∧
    (∀ e r, fresh 0x02 → role = 3 ∨ role = 4 → d.pair.mirror.recv = some r →
      ∃ t, exec (.tetherMirrorReceive h [e]) s = .next t ∧
        (e.seq ≠ r + 1 → t.chip.mem = s.chip.mem ∧ t.chip.dev.pair.mirror.recv = some r) ∧
        (e.seq = r + 1 → t.chip.dev.pair.mirror.recv = some e.seq ∧
          (e.target = 0 → t.chip.mem = (s.chip.mem.writePort e.addr e.data).1))) ∧
    (∀ p l total, fresh 0x04 → role = 3 → d.syncSt = 1 → l.length = 4096 →
      ∃ t, exec (.tetherSyncReceive h [(p, l)] total none) s = .next t ∧ t.chip.mem = (s.chip.mem.writePort (p * 4096) l).1 ∧
        t.chip.dev.role = 3 ∧ t.chip.dev.syncSt = 1) ∧
    (∀ msg, fresh 0x10 → msg.word < 2 ^ 64 → ∃ t, exec (.tetherHealthReceive h msg) s = .next t ∧ t.chip.mem = s.chip.mem ∧
      shown t = msg.word ∧ t.chip.dev.pair.partner = some msg ∧ t.chip.dev.pair.healthTick = some d.tick.num) ∧
    (∀ edge, fresh 0x11 → role = 3 → ∃ t, exec (.leaseCommitReceive h edge) s = .next t ∧ t.chip.mem = s.chip.mem ∧
      t.chip.dev.pair.commitRx = some edge) ∧
    (fresh 0x11 → role = 2 → d.pair.handover = none → d.pair.commitTx = none → ∃ t, exec (.leaseRevertReceive h) s = .next t ∧
      t.chip.mem = s.chip.mem ∧ t.chip.dev.pair.handover = some (d.tick.num, none)) ∧
    (∀ lane, fresh 0x11 → 28 ≤ lane → lane < 32 → (d.laneX lane).retrain < 2 →
      ∃ t, exec (.leaseRetrainReceive h lane) s = .next t ∧ t.chip.mem = s.chip.mem ∧ (t.chip.dev.laneX lane).retrain = 2) ∧
    (∀ g, fresh 0x20 → g.word < 2 ^ 64 → ∃ t, exec (.tetherDigestReceive h g) s = .next t ∧ t.chip.mem = s.chip.mem ∧ shown t = g.word ∧
      t.chip.dev.get F.PAIR_STATUS_MISMATCH = d.get F.PAIR_STATUS_MISMATCH) ∧
    (∀ gives, fresh 0x21 → role = 3 → ∃ t, exec (.tetherDecisionReceive h gives) s = .next t ∧ t.chip.mem = s.chip.mem ∧
      (gives = true → t.chip.dev.pair.yieldRx = some d.tick.num) ∧
      (gives = false → t.chip.dev.pair.yieldRx = d.pair.yieldRx)))

/-- At 0.88 T a holder with the tether UP sends every section of its control state as a STATE frame and a STATE_END
with their number, and its write log is empty; another unit sends nothing. At 0.93 T a unit of a pair shows its
health word: faulty exactly when one of the nine fault conditions holds, with KAT round and low tick bits in its top
bytes. At 0.95 T it sends the digest of every present output and open feed. At 0.97 T a mismatch counts up to 15 and
is recorded, a comparable clean tick clears the count, another is NEUTRAL; with the count at K it returns to 0 and
the outcome is that of R299. A failed known-answer test is noted, and a failed bank on a unit that does not hold the
halter. (rests on R289, R290, R296, R298, R299, R300, R301, R302) -/
def Obligations.PairSendsComparesAndDecides : Prop :=
  (∀ (s : State),
    let d := s.chip.dev
    let at88 := d.quiet.waitPoint 88
    let holder := d.pwr = .run ∧ d.role = 2 ∧ d.inTick = true
    (¬holder → ∃ t, exec .stateBurstStart s = .next t ∧ t.chip = s.chip.quiet) ∧
    (holder → ∃ t, exec .stateBurstStart s = .next t ∧ t.chip.mem = s.chip.mem ∧ t.chip.dev.regs = d.regs ∧ t.chip.dev.pair.log = [] ∧
      (d.tetherIsUp = false → t.chip.dev.out = []) ∧
      (at88.tetherUsable 28 = true → at88.tetherUsable 29 = true →
        (∀ sec ∈ at88.ctlState, ∃ hd, Out.tether hd (.state sec) (tetherBytes hd (.state sec)) ∈ t.chip.dev.out ∧ hd.tick = d.tick.num ∧ hd.crcOk = true ∧
          hd.epoch = d.get F.PAIR_EPOCH_EPOCH ∧ hd.unit = d.get F.PAIR_CTRL_UNIT ∧ hd.lane < 2) ∧
        ∃ hd, Out.tether hd (.stateEnd at88.ctlState.length) (tetherBytes hd (.stateEnd at88.ctlState.length)) ∈ t.chip.dev.out))) ∧
  (∀ (s : State), s.chip.dev.pwr = .run → s.chip.dev.role ≠ 0 → s.chip.dev.inTick = true →
    let d := s.chip.dev
    ∃ t, exec .healthWordForm s = .next t ∧ t.chip.mem = s.chip.mem ∧
      d.keeps t.chip.dev (but [F.PAIR_HEALTH_LO_HEALTH, F.PAIR_HEALTH_HI_HEALTH]) ∧
      (faulty t.chip.dev.health = true ↔
        d.noted 0 3 = true ∨ d.noted 1 3 = true ∨ d.noted 2 3 = true ∨ d.get F.SYS_ENGINE_STATUS_STOPPED ≠ 0 ∨ d.noted 4 599 = true ∨
        (Tab.find d.healthAt 5).isSome = true ∨ d.on F.LANE_REFCLK_LOSS_SYS = true ∨ d.pathsDown = true ∨ d.on F.SYS_ALARM_THERMAL = true) ∧
      t.chip.dev.health / 2 ^ 48 % 256 = d.pair.kat % 256 ∧ t.chip.dev.health / 2 ^ 56 = d.tick.num % 256) ∧
  (∀ (s : State), s.chip.dev.pwr = .run → 2 ≤ s.chip.dev.role → s.chip.dev.inTick = true →
    let d := s.chip.dev
    let at95 := d.quiet.waitPoint 95
    (d.tetherIsUp = false → ∃ t, exec .digestSend s = .next t ∧ t.chip = s.chip.quiet) ∧
    (d.tetherIsUp = true → ∃ t, exec .digestSend s = .next t ∧ t.chip.mem = s.chip.mem ∧ t.chip.dev.regs = d.regs ∧
      (∀ k, k < 2 → at95.tetherUsable (30 + k) = true → ∀ g ∈ at95.digests,
        ∃ hd, Out.tether hd (.digest g) (tetherBytes hd (.digest g)) ∈ t.chip.dev.out ∧ hd.lane = 2 + k) ∧
      (∀ o, o < 32 → d.present o = true → ∃ g ∈ at95.digests, g.id = o))) ∧
  (∀ (s : State), s.chip.dev.pwr = .run → 2 ≤ s.chip.dev.role → s.chip.dev.inTick = true →
    let d := s.chip.dev
    let c := d.pair.cmp
    let n := d.get F.PAIR_STATUS_MISMATCH
    let hf := if d.role = 2 then faulty d.health else faulty d.partnerHealth
    let sf := if d.role = 2 then faulty d.partnerHealth else faulty d.health
    let count (t : State) : Nat := t.chip.dev.get F.PAIR_STATUS_MISMATCH
    (c.judged = some d.tick.num → ∃ t, exec .pairDecision s = .next t ∧ t.chip = s.chip.quiet) ∧
    (c.judged ≠ some d.tick.num → ∃ t, exec .pairDecision s = .next t ∧ t.chip.mem = s.chip.mem ∧ d.keeps t.chip.dev (outside [11, 17]) ∧
      t.chip.dev.pair.cmp.judged = some d.tick.num ∧ t.chip.dev.role = d.role ∧
      (∀ o i, c.first = some (o, i) → o < 64 → i < 256 → t.chip.dev.get F.PAIR_LAST_MISMATCH_OUTPUT_ID = o ∧
        t.chip.dev.get F.PAIR_LAST_MISMATCH_TILE = i ∧
        t.chip.dev.get F.PAIR_CNT_MISMATCH_COUNT = min (d.get F.PAIR_CNT_MISMATCH_COUNT + 1) (2 ^ F.PAIR_CNT_MISMATCH_COUNT.width - 1) ∧
        (min (n + 1) 15 < d.get F.PAIR_CTRL_K → count t = min (n + 1) 15) ∧
        (d.get F.PAIR_CTRL_K ≤ min (n + 1) 15 → count t = 0 ∧
          (hf = true → sf = false → t.chip.dev.get F.PAIR_EVENTS_YIELD = 1 ∧ (d.role = 2 → t.chip.dev.pair.yieldAt = some d.tick.num)) ∧
          (hf = false → sf = true → d.role = 3 → t.chip.dev.get F.PAIR_EVENTS_STANDBY_FAULT = 1 ∧ t.chip.dev.pair.faultAt = some d.tick.num) ∧
          (hf = true → sf = true → t.chip.dev.get F.PAIR_EVENTS_BOTH_FAULT = 1) ∧
          (hf = false → sf = false → t.chip.dev.get F.PAIR_EVENTS_DIVERGED = 1 ∧ (d.role = 3 → t.chip.dev.syncSt = 1)))) ∧
      (c.first = none → c.some_ = true → count t = 0) ∧
      (c.first = none → c.some_ = false → count t = n ∧
        t.chip.dev.get F.PAIR_CNT_NEUTRAL_COUNT = min (d.get F.PAIR_CNT_NEUTRAL_COUNT + 1) (2 ^ F.PAIR_CNT_NEUTRAL_COUNT.width - 1)))) ∧
  (∀ (s : State) (ok : Bool),
    let d := s.chip.dev
    (d.inTick = true → ∃ t, exec (.katComplete ok) s = .next t ∧ t.chip.mem = s.chip.mem ∧ t.chip.dev.regs = d.regs ∧
      t.chip.dev.pair.kat = (d.pair.kat + 1) % 256 ∧ t.chip.dev.noted 1 3 = (!ok || d.noted 1 3)) ∧
    (d.inTick = false → ∃ t, exec (.katComplete ok) s = .next t ∧ t.chip = s.chip.quiet) ∧
    (ok = true ∨ d.holds = true → ∃ t, exec (.sramBistComplete ok) s = .next t ∧ t.chip = s.chip.quiet) ∧
    (ok = false → d.holds = false → ∃ t, exec (.sramBistComplete ok) s = .next t ∧ t.chip.mem = s.chip.mem ∧ t.chip.dev.regs = d.regs ∧
      (Tab.find t.chip.dev.healthAt 5).isSome = true))

/-- An admitted UPD_CMD shows OP and REQ_SLOT. OPEN of a free lock makes the slot owner with WIN_POS 0 and result
DONE; of a held one it is BUSY with UPD_BUSY; from any slot but the owner every other command is BUSY with UPD_BUSY.
UNIT other than THIS without a shadow is ROLE; while one is pending the next is BUSY. For THIS: CLOSE frees the lock;
VERIFY starts; ACTIVATE needs VERIFY passed (else UNVERIFIED) and writes the inactive slot as TRIAL; SWAP is STATE on
a paired unit in RUN, starts loading where the staged image is capable, else NOT_HITLESS; CONFIRM needs the running
slot preferred and TRIED, REVERT needs TRIAL or TRIED, else STATE. Memory and all other blocks stay. (rests on R397,
R398, R402, R404, R406) -/
def Obligations.UpdateCommandsAreJudgedByLockAndStatus : Prop :=
  ∀ (s : State) (slot unit op : Nat) (c : Instr), slot < 8 → unit < 3 →
    (op, c) ∈ [(1, Instr.updOpen slot unit), (2, .updClose slot unit), (3, .updVerify slot unit), (4, .updActivate slot unit),
      (5, .updSwap slot unit), (6, .updConfirm slot unit), (7, .updRevert slot unit)] →
    s.chip.admits slot R.UPD_CMD 0 (updWord op unit) = true →
    let d := s.chip.dev
    let owner := d.get F.UPD_STATUS_OWNER
    let waits := d.on F.UPD_STATUS_PENDING
    let sel := d.get F.UPD_STATUS_SEL_STATE
    ∃ t, exec c s = .next t ∧ t.chip.mem = s.chip.mem ∧ d.keeps t.chip.dev (outside [14]) ∧
      t.chip.dev.out = [.result slot resOk []] ∧
      t.chip.dev.get F.UPD_STATUS_OP = op ∧ t.chip.dev.get F.UPD_STATUS_REQ_SLOT = slot ∧
      let e := t.chip.dev
      let result := e.get F.UPD_STATUS_RESULT
      let begun : Prop := e.get F.UPD_STATUS_PENDING = 1 ∧ result = 0
      (op = 1 → owner = 0xF → unit = 0 ∨ d.hasShadow = true →
        e.get F.UPD_STATUS_OWNER = slot ∧ e.get F.UPD_WIN_POS_POS = 0 ∧ result = 1 ∧ e.upd = { d.upd with activeAt := d.now, erased := 0 }) ∧
      ((op = 1 ∧ owner ≠ 0xF) ∨ (op ≠ 1 ∧ owner ≠ slot) →
        result = 2 ∧ e.get F.UPD_EVENTS_BUSY = 1 ∧ e.get F.UPD_STATUS_OWNER = owner ∧ e.upd = d.upd) ∧
      ((op = 1 ∧ owner = 0xF) ∨ (op ≠ 1 ∧ owner = slot) → unit ≠ 0 → d.hasShadow = false →
        result = 8 ∧ e.get F.UPD_STATUS_OWNER = owner ∧ e.upd.job = d.upd.job ∧ e.upd.swap = d.upd.swap) ∧
      (op ≠ 1 → owner = slot → unit = 0 →
        (waits = true → result = 2 ∧ e.get F.UPD_STATUS_OWNER = owner ∧ e.upd.job = d.upd.job ∧ e.upd.swap = d.upd.swap) ∧
        (waits = false →
          (op ≠ 4 → op ≠ 6 → op ≠ 7 → e.upd.job = d.upd.job) ∧ (op ≠ 5 → e.upd.swap = d.upd.swap) ∧
          (op = 2 → e.get F.UPD_STATUS_OWNER = 0xF ∧ result = 1) ∧
          (op = 3 → begun ∧ e.get F.UPD_STATUS_VERIFY = 1) ∧
          (op = 4 → if d.get F.UPD_STATUS_VERIFY = 2 then begun ∧ e.upd.job = some (.selector d.inactive 1 4)
            else result = 5 ∧ e.upd.job = d.upd.job) ∧
          (op = 5 → if d.inRun = true ∧ d.on F.PAIR_CTRL_EN = true then result = 3 ∧ e.upd.swap = d.upd.swap
            else if d.hitlessOk = true then begun ∧ e.upd.swap = some (Swap.mk none 0)
            else result = 6 ∧ e.upd.swap = d.upd.swap) ∧
          (op = 6 → if d.get F.UPD_STATUS_PREFERRED = d.upd.slot ∧ sel = 2 then begun ∧ e.upd.job = some (.selector d.upd.slot 0 6)
            else result = 3 ∧ e.upd.job = d.upd.job) ∧
          (op = 7 → if (sel = 1 ∨ sel = 2) ∧ d.upd.slot ≤ 1 then begun ∧ e.upd.job = some (.selector d.upd.slot 0 7)
            else result = 3 ∧ e.upd.job = d.upd.job)))

/-- A permitted update-window write is BUSY with UPD_BUSY from a slot that is not owner, FORMAT below WIN_POS, BUSY
while the flash is busy; otherwise its bytes stand in the inactive slot, sectors reached first are erased, WIN_POS is
its end and VERIFY none. A settings write changes the copy and sets SETTINGS_DIRTY until the sectors are programmed.
UPD_VERIFY_DONE ends a VERIFY with PASSED or its error. A selector write that completes shows its record; CONFIRM
raises OTP SVNs to the running ones. A swap outside ticks takes place when loaded (its differing CONFIG entries
written; here those of RST and GPIO, which only store), in ticks it names an edge 2 T ahead, and is given up after 8
postponements with TIMEOUT. 60 s without the owner frees the lock. (rests on R398, R400, R401, R402, R404, R405,
R406, R407) -/
def Obligations.UpdateWindowsAndFlashFollowTheSession : Prop :=
  (∀ (s : State) (slot a : Nat) (l : List Byte), slot < 8 → s.chip.dev.pd1On = true → s.chip.dev.inBoot = false → l ≠ [] →
    s.chip.mem.flash.wf = true → Flash.wf s.chip.dev.upd.settings = true → s.chip.dev.roleRefuses 20 false = false →
    s.chip.dev.mirrorFull l.length = false →
    let d := s.chip.dev
    (a + l.length ≤ d.updSpan → d.mayWrite slot 22 = true →
      ∃ t, exec (.updWindowWrite slot a l) s = .next t ∧ t.chip.mem.dram = s.chip.mem.dram ∧ t.chip.mem.otp = s.chip.mem.otp ∧
        (d.owner ≠ slot → t.chip.mem = s.chip.mem ∧ t.chip.dev.out = [.result slot resBusy []] ∧ t.chip.dev.get F.UPD_EVENTS_BUSY = 1 ∧
          t.chip.dev.get F.UPD_WIN_POS_POS = d.get F.UPD_WIN_POS_POS) ∧
        (d.owner = slot → a < d.get F.UPD_WIN_POS_POS ∨ d.upd.job.isSome = true →
          t.chip.mem = s.chip.mem ∧ t.chip.dev.get F.UPD_WIN_POS_POS = d.get F.UPD_WIN_POS_POS ∧
          t.chip.dev.out = [.result slot (if a < d.get F.UPD_WIN_POS_POS then resFormat else resBusy) []]) ∧
        (d.owner = slot → d.get F.UPD_WIN_POS_POS ≤ a → d.upd.job = none →
          let base := imageBase d.flashSize d.inactive
          let stop := (a + l.length + 65535) / 65536 * 65536
          t.chip.dev.out = [.result slot resOk []] ∧ t.chip.dev.get F.UPD_WIN_POS_POS = a + l.length ∧
          t.chip.dev.get F.UPD_STATUS_VERIFY = 0 ∧ t.chip.dev.upd.job = some .window ∧
          (∀ k, (h : k < l.length) → t.chip.mem.flashRd (base + a + k) = l[k]) ∧
          (∀ x, d.upd.erased ≤ x → x < stop → x < a ∨ a + l.length ≤ x → t.chip.mem.flashRd (base + x) = 0xFF) ∧
          (∀ x, x < base + min d.upd.erased a ∨ base + stop ≤ x → t.chip.mem.flashRd x = s.chip.mem.flashRd x))) ∧
    (a + l.length ≤ settingsSpan → d.mayWrite slot 23 = true →
      ∃ t, exec (.settingsWindowWrite slot a l) s = .next t ∧ t.chip.mem = s.chip.mem ∧ t.chip.dev.out = [.result slot resOk []] ∧
        t.chip.dev.get F.UPD_STATUS_SETTINGS_DIRTY = 1 ∧
        (∀ k, (h : k < l.length) → Flash.read t.chip.dev.upd.settings (a + k) = l[k]) ∧
        (∀ x, x < a ∨ a + l.length ≤ x → Flash.read t.chip.dev.upd.settings x = Flash.read d.upd.settings x))) ∧
  (∀ s : State, s.chip.mem.flash.wf = true → Flash.wf s.chip.dev.upd.settings = true →
    let d := s.chip.dev
    (∃ t, exec .settingsProgramComplete s = .next t ∧
      (d.upd.dirty ≠ [] → d.flashSize ≠ 0 → d.pd1On = true →
        t.chip.dev.upd.dirty = [] ∧ t.chip.dev.get F.UPD_STATUS_SETTINGS_DIRTY = 0 ∧ t.chip.mem.dram = s.chip.mem.dram ∧
        ∀ x, x < settingsSpan →
          t.chip.mem.flashRd (settingsBase d.flashSize d.upd.half + 4096 + x) = Flash.read d.upd.settings x) ∧
      (d.upd.dirty = [] → t.chip = s.chip.quiet)) ∧
    (∃ t, exec .updVerifyDone s = .next t ∧ t.chip.mem = s.chip.mem ∧
      (d.get F.UPD_STATUS_VERIFY ≠ 1 → t.chip = s.chip.quiet) ∧
      (d.get F.UPD_STATUS_VERIFY = 1 →
        t.chip.dev.get F.UPD_STATUS_VERIFY = (if s.chip.verifyErr = 0 then 2 else 3) ∧
        t.chip.dev.get F.UPD_STATUS_VERIFY_ERR = s.chip.verifyErr % 16 ∧ t.chip.dev.get F.UPD_STATUS_RESULT = 1 ∧
        t.chip.dev.get F.UPD_STATUS_PENDING = 0 ∧ t.chip.dev.get F.UPD_EVENTS_VERIFY_DONE = 1 ∧ d.keeps t.chip.dev (outside [14]))) ∧
    (∃ t, exec .updFlashWriteComplete s = .next t ∧ t.chip.mem.dram = s.chip.mem.dram ∧
      (d.upd.job = none → t.chip = s.chip.quiet) ∧
      (d.upd.job = some .window → t.chip.mem = s.chip.mem ∧ t.chip.dev = { d with out := [], upd := { d.upd with job := none } }) ∧
      (∀ p st cmd, d.upd.job = some (.selector p st cmd) →
        t.chip.dev.get F.UPD_STATUS_PREFERRED = p % 2 ∧ t.chip.dev.get F.UPD_STATUS_SEL_STATE = st % 4 ∧
        t.chip.dev.get F.UPD_STATUS_RESULT = 1 ∧ t.chip.dev.get F.UPD_STATUS_PENDING = 0 ∧ t.chip.dev.upd.job = none ∧
        (cmd ≠ 6 → t.chip.mem = s.chip.mem.writeSel d.flashSize p st) ∧
        (cmd = 5 → t.chip.dev.get F.UPD_EVENTS_SWAP_DONE = 1) ∧
        (cmd = 6 → t.chip.dev.get F.UPD_EVENTS_CONFIRMED = 1 ∧ t.chip.mem.otp.lc = s.chip.mem.otp.lc ∧
          ∀ k, k < 19 → t.chip.mem.otp.svn k = max (s.chip.mem.otp.svn k) (d.upd.run.svns.getD k 0))))) ∧
  (∀ (s : State) (n : Nat),
    let d := s.chip.dev
    (d.upd.swap = some (Swap.mk none n) →
      ∃ t, exec .swapLoadComplete s = .next t ∧
        (d.ticking = true → t.chip.mem = s.chip.mem ∧
          ∃ e, t.chip.dev.upd.swap = some (Swap.mk (some e) n) ∧ d.devNs + d.pointNs 2 0 ≤ d.edgeNs e ∧ t.chip.dev.regs = d.regs) ∧
        (d.ticking = false →
          let new := newEntries d.upd.staged.entries d.upd.run.entries
          (∀ e ∈ new, ∀ p, findReg e.1 = some p → storeOnly p.1 = true) →
          t.chip.mem = s.chip.mem ∧ t.chip.dev.upd.run = d.upd.staged ∧ t.chip.dev.upd.swap = none ∧
          t.chip.dev.upd.slot = d.inactive ∧ t.chip.dev.upd.job = some (.selector d.inactive 2 5) ∧
          t.chip.dev.get F.UPD_VERSION_RUN_VERSION = d.upd.staged.version % 2 ^ 32 ∧
          (new = [] → d.keeps t.chip.dev (but [F.UPD_VERSION_RUN_VERSION, F.SYS_BOOT_STATUS_IMAGE])) ∧
          (∀ e p f, new = [e] → findReg e.1 = some p → p.1.perSlot = false → inProt e.1 = false → f ∈ p.1.flds → f.acc = .rw →
            t.chip.dev.get f p.2 = f.of e.2))) ∧
    (∀ e, d.upd.swap = some (Swap.mk e n) →
      ∃ t, exec .swapAbandon s = .next t ∧ t.chip.mem = s.chip.mem ∧
        (n < 8 → t.chip = s.chip.quiet) ∧
        (8 ≤ n → t.chip.dev.upd.swap = none ∧ t.chip.dev.get F.UPD_STATUS_RESULT = 7 ∧ t.chip.dev.get F.UPD_STATUS_PENDING = 0 ∧
          t.chip.dev.get F.UPD_EVENTS_SWAP_ABORTED = 1 ∧ d.keeps t.chip.dev (outside [14]))) ∧
    (∃ t, exec .updSessionTimeout s = .next t ∧ t.chip.mem = s.chip.mem ∧
      (d.owner ≤ 7 → d.pd1On = true → t.chip.dev.owner = 0xF ∧ t.chip.dev.get F.UPD_EVENTS_SESSION_LOST = 1 ∧
        d.upd.activeAt + 60000000000 ≤ t.chip.dev.now ∧ d.keeps t.chip.dev (outside [14])) ∧
      (8 ≤ d.owner ∨ d.pd1On = false → t.chip = s.chip.quiet)))

/-- Where a slot's write to a check channel is admitted, CHK_DATA8, CHK_DATA16 and CHK_DATA32 answer a next state in
which VALUE is the running register after their 1, 2 or 4 bytes, most significant byte first; CHK_INIT sets VALUE to
INIT, and CHK_FINISH carries out the finish: the alive byte is fed where ALIVE_EN is 1, RESULT is fixed, VALUE
returns to INIT, and ALIVE counts modulo 256. (rests on R412, R413) An admitted RANGE of bytes that the slot may read
makes the channel BUSY and joins the end of the reader's line; CHK_RANGE_COMPLETE ends the range at the head of the
line: its bytes are fed in rising address order with LAST OK, or, where an uncorrectable error was met, VALUE stays
as it was with LAST POISON; BUSY clears, the range leaves the line and the event is raised. The range at the head is
of a channel with VALUE below 2^W. (rests on R414) -/
def Obligations.CheckChannelsFeedFinishAndCoverRanges : Prop :=
  (∀ (s : State) (slot ch v : Nat), slot < 8 → ch < 64 →
     let p := s.chip.dev.chkParam ch
     let x := s.chip.dev.chkValue ch
     let byte (k : Nat) : Byte := BitVec.ofNat 8 (v / 256 ^ k)
     (v < 2 ^ 8 → s.chip.admits slot R.CHK_CH_DATA8 ch v = true →
       ∃ t, exec (.chkData8 slot ch v) s = .next t ∧ t.chip.dev.chkValue ch = crcFeed p x (byte 0)) ∧
     (v < 2 ^ 16 → s.chip.admits slot R.CHK_CH_DATA16 ch v = true →
       ∃ t, exec (.chkData16 slot ch v) s = .next t ∧
         t.chip.dev.chkValue ch = crcFeed p (crcFeed p x (byte 1)) (byte 0)) ∧
     (v < 2 ^ 32 → s.chip.admits slot R.CHK_CH_DATA32 ch v = true →
       ∃ t, exec (.chkData32 slot ch v) s = .next t ∧
         t.chip.dev.chkValue ch = crcFeed p (crcFeed p (crcFeed p (crcFeed p x (byte 3)) (byte 2)) (byte 1)) (byte 0)) ∧
     (s.chip.admits slot R.CHK_CH_CMD ch (F.CHK_CH_CMD_OP.at 1) = true →
       ∃ t, exec (.chkInit slot ch) s = .next t ∧ t.chip.dev.chkValue ch = p.init) ∧
     (s.chip.admits slot R.CHK_CH_CMD ch (F.CHK_CH_CMD_OP.at 2) = true →
       ∃ t, exec (.chkFinish slot ch) s = .next t ∧
         let alive := s.chip.dev.on F.CHK_CH_CFG_ALIVE_EN ch
         let a := s.chip.dev.get F.CHK_CH_ALIVE_ALIVE ch
         t.chip.dev.chkValue ch = p.init ∧
         t.chip.dev.get2 F.CHK_CH_RESULT_LO_RESULT F.CHK_CH_RESULT_HI_RESULT ch =
           crcOut p (if alive then crcFeed p x (BitVec.ofNat 8 a) else x) ∧
         t.chip.dev.get F.CHK_CH_ALIVE_ALIVE ch = if alive then (a + 1) % 256 else a)) ∧
  ((∀ (s : State) (slot ch : Nat), slot < 8 → ch < 64 →
     s.chip.admits slot R.CHK_CH_CMD ch (F.CHK_CH_CMD_OP.at 3) = true →
     let a := s.chip.dev.get2 F.CHK_CH_ADDR_LO_VALUE F.CHK_CH_ADDR_HI_VALUE ch
     let n := s.chip.dev.get F.CHK_CH_LEN_VALUE ch
     s.chip.dev.dramRefused slot a n false = none →
     ∃ t, exec (.chkRange slot ch) s = .next t ∧ t.chip.dev.get F.CHK_CH_CMD_BUSY ch = 1 ∧
       t.chip.dev.chkRanges = s.chip.dev.chkRanges ++ [ChkRange.mk ch slot a n]) ∧
   (∀ (s : State) (r : ChkRange) (rest : List ChkRange), s.chip.dev.chkRanges = r :: rest →
     (∀ q ∈ rest, q.chan ≠ r.chan) →
     let got := s.chip.mem.readPort r.addr r.len
     ∃ t, exec .chkRangeComplete s = .next t ∧ t.chip.dev.chkRanges = rest ∧
       t.chip.dev.get F.CHK_CH_CMD_BUSY r.chan = 0 ∧
       t.chip.dev.get F.CHK_CH_CMD_LAST r.chan = (if got.2 then resPoison else resOk) ∧
       t.chip.dev.chkValue r.chan =
         (if got.2 then s.chip.dev.chkValue r.chan
          else got.1.foldl (crcFeed (s.chip.dev.chkParam r.chan)) (s.chip.dev.chkValue r.chan)) ∧
       t.chip.dev.get (if got.2 then F.CHK_EVENTS_RANGE_FAULT else F.CHK_EVENTS_RANGE_DONE) = 1 ∧
       t.chip.mem = s.chip.mem))

/-- Admitted PERF commands without EDGE: SNAP copies every running counter into the snapshot bank, counts
PERF_SNAP_SEQ and shows the tick; START and STOP set RUNNING; CLEAR makes every counter 0. With EDGE while ticks are
made each waits for the edge. PERF_BW_WINDOW latches each port's bytes in units of 64, counts PERF_BW_SEQ and raises
its event. With each PERIOD-th occurrence of its event at a tile a sample is due; PERF_SAMPLE of a tile that the
first one due admits places its word, or counts a drop where 64 wait. A read of PERF_SAMPLE_POP takes the oldest word
and returns it, or 0xFFFFFFFF. (rests on R417, R419, R420) -/
def Obligations.PerformanceCountersCommanded : Prop :=
  (∀ (s : State) (slot : Nat) (edge : Bool), slot < 8 → (edge && s.chip.dev.tick.running) = false →
    (s.chip.admits slot R.PERF_CMD 0 (perfWord 1 edge) = true →
      ∃ t, exec (.perfSnap slot edge) s = .next t ∧ t.chip.dev.perf.snap = s.chip.dev.perf.cnt ∧
        t.chip.dev.get F.PERF_SNAP_SEQ_VALUE = (s.chip.dev.get F.PERF_SNAP_SEQ_VALUE + 1) % 2 ^ 32 ∧
        t.chip.dev.get2 F.PERF_SNAP_TICK_LO_VALUE F.PERF_SNAP_TICK_HI_VALUE = s.chip.dev.tickNow % 2 ^ 64) ∧
    (s.chip.admits slot R.PERF_CMD 0 (perfWord 2 edge) = true →
      ∃ t, exec (.perfStart slot edge) s = .next t ∧ t.chip.dev.get F.PERF_CTRL_RUNNING = 1) ∧
    (s.chip.admits slot R.PERF_CMD 0 (perfWord 3 edge) = true →
      ∃ t, exec (.perfStop slot edge) s = .next t ∧ t.chip.dev.get F.PERF_CTRL_RUNNING = 0) ∧
    (s.chip.admits slot R.PERF_CMD 0 (perfWord 4 edge) = true →
      ∃ t, exec (.perfClear slot edge) s = .next t ∧ ∀ i, Tab.get t.chip.dev.perf.cnt 0 i = 0)) ∧
  (∀ (s : State) (slot op : Nat) (c : Instr), slot < 8 → s.chip.dev.tick.running = true →
    (op, c) ∈ [(1, Instr.perfSnap slot true), (2, .perfStart slot true), (3, .perfStop slot true), (4, .perfClear slot true)] →
    s.chip.admits slot R.PERF_CMD 0 (perfWord op true) = true →
    ∃ t, exec c s = .next t ∧ t.chip.dev.perf.atEdge = s.chip.dev.perf.atEdge ++ [op] ∧
      t.chip.dev.perf.cnt = s.chip.dev.perf.cnt ∧ t.chip.dev.perf.snap = s.chip.dev.perf.snap) ∧
  (∀ (s : State) (t0 : Nat), s.chip.dev.perf.windowStart = some t0 →
    ∃ t, exec .perfBwWindow s = .next t ∧
      (∀ p, p < 28 → t.chip.dev.get F.PERF_BW_RX_UNITS p = s.chip.dev.perfUnitsOf s.chip.dev.perf.rxBytes p % 2 ^ 32 ∧
        t.chip.dev.get F.PERF_BW_TX_UNITS p = s.chip.dev.perfUnitsOf s.chip.dev.perf.txBytes p % 2 ^ 32) ∧
      t.chip.dev.get F.PERF_BW_SEQ_VALUE = (s.chip.dev.get F.PERF_BW_SEQ_VALUE + 1) % 2 ^ 32 ∧
      t.chip.dev.get F.PERF_EVENTS_BW_WINDOW = 1 ∧
      t.chip.dev.perf.windowStart = some (t0 + s.chip.dev.get F.PERF_BW_CFG_WINDOW_MS * 1000000)) ∧
  (∀ (s : State) (output row col unit : Nat),
    ∃ t, exec (.perfSample output row col unit) s = .next t ∧
      (∀ q rest, s.chip.dev.perf.due = q :: rest → q.admits output row col unit = true →
        t.chip.dev.perf.due = rest ∧ t.chip.dev.perf.occ = s.chip.dev.perf.occ ∧
        (s.chip.dev.perf.samples.length < 64 →
          t.chip.dev.perf.samples = s.chip.dev.perf.samples ++ [sampleWord output row col unit q.tick]) ∧
        (64 ≤ s.chip.dev.perf.samples.length → t.chip.dev.perf.samples = s.chip.dev.perf.samples ∧
          t.chip.dev.get F.PERF_SAMPLE_STATUS_DROPPED = min (s.chip.dev.get F.PERF_SAMPLE_STATUS_DROPPED + 1) 0xFFFF ∧
          t.chip.dev.get F.PERF_EVENTS_SAMPLE_OVERFLOW = 1)) ∧
      ((∀ q rest, s.chip.dev.perf.due = q :: rest → q.admits output row col unit = false) → t.chip = s.chip.quiet)) ∧
  (∀ (d : Device) (ev n output tile : Nat) (pipe : Option Nat),
    let period := max 1 (d.get F.PERF_SAMPLE_CFG_PERIOD)
    let e := d.sampled ev n output tile pipe
    (d.on F.PERF_SAMPLE_CFG_EN = true → d.get F.PERF_SAMPLE_CFG_EVENT = ev →
      e.perf.occ < period ∧ ∃ k, e.perf.due = d.perf.due ++ List.replicate k (SampleDue.mk output tile pipe d.tickNow) ∧
        d.perf.occ + n = period * k + e.perf.occ) ∧
    (d.on F.PERF_SAMPLE_CFG_EN = false ∨ d.get F.PERF_SAMPLE_CFG_EVENT ≠ ev → e = d)) ∧
  (∀ (s : State) (slot : Nat), slot < 8 → s.chip.admitsRead slot R.PERF_SAMPLE_POP 0 = true →
    ∃ t, exec (.perfSamplePop slot) s = .next t ∧ t.chip.dev.perf.samples = s.chip.dev.perf.samples.tail ∧
      t.chip.dev.out = [.result slot resOk (beBytes 4 (s.chip.dev.perf.samples.headD 0xFFFFFFFF))])

/-- BBOX_ENTRY_WRITE with an event staged writes it to entry SEQ modulo 4096 of the SRAM, with TRIGGER exactly where
the box is armed on its group and not yet triggered, and counts SEQ; an admitted BBOX_MARK stages the host mark
0x00F0 with the value while the box is not frozen and has room, and is counted as lost otherwise; an admitted
BBOX_ARM clears FROZEN and TRIGGERED and cancels the POST count. (rests on R422, R423, R424) -/
def Obligations.BlackBoxRecordsAndRearms : Prop :=
  (∀ (s : State) (ev : BbEvent) (rest : List BbEvent), s.chip.dev.bb.staging = ev :: rest →
    let seq := s.chip.dev.get F.BBOX_NEXT_SEQ_SEQ
    let trig := !s.chip.dev.on F.BBOX_STATUS_TRIGGERED && (s.chip.dev.get F.BBOX_CFG_TRIG).testBit (ev.code / 16 % 16)
    ∃ t, exec .bboxEntryWrite s = .next t ∧
      Tab.find t.chip.dev.bb.sram (seq % 4096) = some (BbEntry.mk seq ev trig) ∧
      t.chip.dev.get F.BBOX_NEXT_SEQ_SEQ = (seq + 1) % 2 ^ 32 ∧
      (trig = true → t.chip.dev.get F.BBOX_STATUS_TRIGGERED = 1) ∧
      t.chip.mem = s.chip.mem) ∧
  (∀ (s : State) (slot v : Nat), slot < 8 → v < 2 ^ 32 → s.chip.admits slot R.BBOX_MARK 0 v = true →
    ∃ t, exec (.bboxMark slot v) s = .next t ∧
      (s.chip.dev.on F.BBOX_STATUS_FROZEN = false → s.chip.dev.bb.staging.length < 16 →
        t.chip.dev.bb.staging = s.chip.dev.bb.staging ++
          [BbEvent.mk 0x00F0 17 s.chip.dev.tickNow s.chip.dev.nsPart v slot]) ∧
      (s.chip.dev.on F.BBOX_STATUS_FROZEN = true ∨ 16 ≤ s.chip.dev.bb.staging.length →
        t.chip.dev.bb.staging = s.chip.dev.bb.staging ∧
        t.chip.dev.get F.BBOX_LOST_COUNT = min (s.chip.dev.get F.BBOX_LOST_COUNT + 1) (2 ^ F.BBOX_LOST_COUNT.width - 1))) ∧
  (∀ (s : State) (slot : Nat), slot < 8 → s.chip.admits slot R.BBOX_CMD 0 (F.BBOX_CMD_ARM.at 1) = true →
    ∃ t, exec (.bboxArm slot) s = .next t ∧ t.chip.dev.get F.BBOX_STATUS_FROZEN = 0 ∧
      t.chip.dev.get F.BBOX_STATUS_TRIGGERED = 0 ∧ t.chip.dev.bb.post = none ∧
      t.chip.dev.bb.staging = s.chip.dev.bb.staging)

/-- While sensing runs and key k is enabled, TOUCH_SCAN records the reading; the 32nd reading of a key in LEARNING
that is not suspect makes it IDLE with the mean as baseline; in IDLE the DEBOUNCE-th reading in a row at or above
BASELINE + THRESH makes it PRESSED and raises PRESS, and the SELECT action of the press puts the argument into its
group's byte; in PRESSED the DEBOUNCE-th reading below the release level makes it IDLE and raises RELEASE. Memory is
unchanged. Otherwise the key and its reading stay. (rests on R430, R432, R434, R436) Where the write is admitted and
sensing runs, TOUCH_REBASE of an enabled key, TOUCH_REBASE_ALL for every enabled key, and a TOUCH_GAIN_WRITE that
changes GAIN of an enabled key put it into LEARNING without the factory check and raise TOUCH_REBASE; TOUCH_EN_WRITE
of TOUCH_KEY_EN while EN is 0 stores the enables and leaves every key OFF, and TOUCH_EN_WRITE of TOUCH_CTRL with EN 1
puts every enabled key that was OFF into LEARNING, with the factory check where it is the first since EN or its
enable bit became 1. (rests on R431, R434) -/
def Obligations.TouchKeysAreScannedRebasedAndLearn : Prop :=
  (∀ (s : State) (k x : Nat), k < 32 → x < 65536 →
     let d := s.chip.dev
     let q := d.touchKey k
     let thresh := d.get F.TOUCH_KEY_THRESH_THRESH k
     let hyst := d.get F.TOUCH_KEY_THRESH_HYST k
     let debounce := d.get F.TOUCH_KEY_CFG_DEBOUNCE k
     ∃ t, exec (.touchScan k x) s = .next t ∧ t.chip.mem = s.chip.mem ∧
       ((d.sensing && d.keyOn k) = true → t.chip.dev.get F.TOUCH_KEY_READING_READING k = x ∧
         (q.st = 1 → q.n = 31 → q.suspect = false → q.check = false →
           (t.chip.dev.touchKey k).st = 2 ∧ (t.chip.dev.touchKey k).base = (q.sum + x) / 32) ∧
         (q.st = 2 → q.base + thresh ≤ x → debounce ≤ q.up + 1 → d.get F.TOUCH_KEY_ACTION_ACTION k = 0 →
           (t.chip.dev.touchKey k).st = 3 ∧ t.chip.dev.get F.TOUCH_EVENTS_PRESS = 1) ∧
         (q.st = 2 → q.base + thresh ≤ x → debounce ≤ q.up + 1 → d.get F.TOUCH_KEY_ACTION_ACTION k = 3 → d.pwr = .ready →
           (t.chip.dev.touchKey k).st = 3 ∧ t.chip.dev.get F.TOUCH_EVENTS_SELECT = 1 ∧
           t.chip.dev.get F.TOUCH_SELECT_SOURCE / 256 ^ d.get F.TOUCH_KEY_ACTION_GROUP k % 256 =
             d.get F.TOUCH_KEY_ACTION_ARG k % 256) ∧
         (q.st = 3 → x + hyst < q.base + thresh → debounce ≤ q.down + 1 →
           (t.chip.dev.touchKey k).st = 2 ∧ t.chip.dev.get F.TOUCH_EVENTS_RELEASE = 1)) ∧
       ((d.sensing && d.keyOn k) = false → t.chip.dev.touchKey k = q ∧
         t.chip.dev.get F.TOUCH_KEY_READING_READING k = d.get F.TOUCH_KEY_READING_READING k)) ∧
  (∀ (s : State) (slot k w : Nat), slot < 8 → k < 32 → w < 2 ^ 32 →
     let d := s.chip.dev
     (d.sensing = true → d.keyOn k = true →
       (s.chip.admits slot R.TOUCH_CMD 0 (F.TOUCH_CMD_OP.at 1 + F.TOUCH_CMD_KEY.at k) = true →
         ∃ t, exec (.touchRebase slot k) s = .next t ∧ (t.chip.dev.touchKey k).st = 1 ∧
           (t.chip.dev.touchKey k).check = false ∧ t.chip.dev.get F.TOUCH_EVENTS_REBASE = 1) ∧
       (s.chip.admits slot R.TOUCH_CMD 0 (F.TOUCH_CMD_OP.at 1 + F.TOUCH_CMD_ALL.at 1) = true →
         ∃ t, exec (.touchRebaseAll slot) s = .next t ∧ t.chip.dev.get F.TOUCH_EVENTS_REBASE = 1 ∧
           ∀ j, j < 32 → d.keyOn j = true → (t.chip.dev.touchKey j).st = 1 ∧ (t.chip.dev.touchKey j).check = false) ∧
       (s.chip.admits slot R.TOUCH_KEY_CFG k w = true → F.TOUCH_KEY_CFG_GAIN.of w ≠ d.get F.TOUCH_KEY_CFG_GAIN k →
         ∃ t, exec (.touchGainWrite slot k w) s = .next t ∧ (t.chip.dev.touchKey k).st = 1 ∧
           t.chip.dev.get F.TOUCH_KEY_CFG_GAIN k = F.TOUCH_KEY_CFG_GAIN.of w)) ∧
     (d.get F.TOUCH_CTRL_EN = 0 → s.chip.admits slot R.TOUCH_KEY_EN 0 w = true →
       ∃ t, exec (.touchEnWrite slot false w) s = .next t ∧ t.chip.dev.get F.TOUCH_KEY_EN_EN = w ∧
         ∀ j, j < 32 → (t.chip.dev.touchKey j).st = 0) ∧
     (d.coreOn = true → d.inReset 11 = false → F.TOUCH_CTRL_EN.of w = 1 → s.chip.admits slot R.TOUCH_CTRL 0 w = true →
       ∃ t, exec (.touchEnWrite slot true w) s = .next t ∧
         ∀ j, j < 32 → d.keyOn j = true → (d.touchKey j).st = 0 →
           (t.chip.dev.touchKey j).st = 1 ∧
           (t.chip.dev.touchKey j).check = decide (d.get F.TOUCH_CTRL_EN = 0 ∨ j ∈ d.touch.fresh)))

/-- GPIO_INPUT_EDGE with a level other than the one shown makes bit k of GPIO_IN that level and, where GPIO_EDGE_EN
selects it, sets bit k of GPIO_EDGE and raises GPIO_EDGE; THERMAL_ALARM sets SYS_ALARM.THERMAL and THERMAL_CLEAR
clears it, and with them the bit of the alarm word; no command of the three changes memory, the event queue aside
from the event, or another pin's bit. (rests on R367, R458, R463) -/
def Obligations.PinEdgesAndTemperature : Prop :=
  ∀ (s : State) (k : Nat) (level : Bool), k < 24 →
    let d := s.chip.dev
    ((d.get F.GPIO_IN_IN).testBit k ≠ level →
      ∃ t, exec (.gpioInputEdge k level) s = .next t ∧ t.chip.mem = s.chip.mem ∧
        (t.chip.dev.get F.GPIO_IN_IN).testBit k = level ∧
        (∀ j, j < 24 → j ≠ k → (t.chip.dev.get F.GPIO_IN_IN).testBit j = (d.get F.GPIO_IN_IN).testBit j) ∧
        ((d.get F.GPIO_EDGE_EN_EN).testBit k = true →
          (t.chip.dev.get F.GPIO_EDGE_EDGE).testBit k = true ∧ t.chip.dev.get F.GPIO_EVENTS_EDGE = 1) ∧
        ((d.get F.GPIO_EDGE_EN_EN).testBit k = false → t.chip.dev.evq = d.evq ∧
          t.chip.dev.get F.GPIO_EDGE_EDGE = d.get F.GPIO_EDGE_EDGE)) ∧
    (∃ t, exec .thermalAlarm s = .next t ∧ t.chip.mem = s.chip.mem ∧ t.chip.dev.evq = d.evq ∧
      t.chip.dev.alarmWord.testBit 5 = true) ∧
    (∃ t, exec .thermalClear s = .next t ∧ t.chip.mem = s.chip.mem ∧ t.chip.dev.evq = d.evq ∧
      t.chip.dev.alarmWord.testBit 5 = false)

/-- For every state and every command or idle step: where DRAM and flash hold their canonical form (addresses
strictly rising, no entry equal to what an unlisted address reads as) and the copy of the running settings slot does
too, they do so after the step. DRAM reads 0x00 where nothing was written since the reset (rests on R320); that flash
never written reads 0xFF is the model's choice (log entry 79). -/
def Obligations.EveryStepKeepsMemoriesCanonical : Prop :=
  ∀ s t : State, step s = .next t →
    s.chip.mem.wf = true → Flash.wf s.chip.dev.upd.settings = true →
    t.chip.mem.wf = true ∧ Flash.wf t.chip.dev.upd.settings = true

/-- For every state and every command or idle step: the life-cycle fuses after the step are at least those before,
the OTP SVN of each of the 19 components is at least that before, and the hashes of the owner key and of the debug
key are the same. So no reset, boot, update, swap, tether frame or debug access brings back an older state of the
fuses. (rests on R388, R396, R404) -/
def Obligations.NoStepLowersAFuse : Prop :=
  ∀ s t : State, step s = .next t →
    s.chip.mem.otp.lc ≤ t.chip.mem.otp.lc ∧ (∀ k, k < 19 → s.chip.mem.otp.svn k ≤ t.chip.mem.otp.svn k) ∧
    t.chip.mem.otp.owner = s.chip.mem.otp.owner ∧ t.chip.mem.otp.debug = s.chip.mem.otp.debug

/-- In State.reset the queue is empty, DRAM, flash and the settings copy hold their canonical form, every shared
field of every register and every slot's own copy holds the value of its register table, and no event waits. Values
taken from the tables: SYS_ID is 0x6432014D, FRS_SRC_STATE shows STALE with no frame yet and age 65535,
UPD_STATUS.OWNER is NONE, TICK_CTRL.RATE is 9. That the flash and the fuses hold nothing is the model's choice (log
entries 3 and 79); fields whose table names a strap, a fuse or boot hold 0 (log entry 3). -/
def Obligations.ResetMeetsInvariantsAndRegisterTables : Prop :=
  let s := State.reset
  s.pending = [] ∧ s.chip.mem.wf = true ∧ Flash.wf s.chip.dev.upd.settings = true ∧
  (∀ f i, s.chip.dev.get f i = f.reset % 2 ^ f.width) ∧ (∀ f h i, s.chip.dev.getS f h i = f.reset % 2 ^ f.width) ∧
  (∀ h, s.chip.dev.queue h = []) ∧
  s.chip.dev.readWord R.SYS_ID 0 0 = 0x6432014D ∧
  (∀ n, n < 32 → s.chip.dev.get F.FRS_SRC_STATE_STATE n = 1 ∧ s.chip.dev.get F.FRS_SRC_STATE_NO_FRAME_YET n = 1 ∧
    s.chip.dev.get F.FRS_SRC_STATE_AGE n = 65535) ∧
  s.chip.dev.get F.UPD_STATUS_OWNER = 0xF ∧ s.chip.dev.get F.TICK_CTRL_RATE = 9
end

