-- ==== Sys2Proof/Laws/State.lean ====
section
/-!
SUPPORT. What the plain updates of the device leave alone: one lemma per field and update, and for the operations
that raise, record, count and let time pass one lemma that says everything they can change.
-/

namespace Sys2Proof.Machine

variable (d : Device)

/-! ### quiet -/

@[simp] theorem Device.quiet_regs : (d.quiet).regs = d.regs := rfl
@[simp] theorem Device.quiet_rwt : (d.quiet).rwt = d.rwt := rfl
@[simp] theorem Device.quiet_latch : (d.quiet).latch = d.latch := rfl
@[simp] theorem Device.quiet_held : (d.quiet).held = d.held := rfl
@[simp] theorem Device.quiet_deferred : (d.quiet).deferred = d.deferred := rfl
@[simp] theorem Device.quiet_free : (d.quiet).free = d.free := rfl
@[simp] theorem Device.quiet_now : (d.quiet).now = d.now := rfl
@[simp] theorem Device.quiet_devNs : (d.quiet).devNs = d.devNs := rfl
@[simp] theorem Device.quiet_devFrac : (d.quiet).devFrac = d.devFrac := rfl
@[simp] theorem Device.quiet_pwr : (d.quiet).pwr = d.pwr := rfl
@[simp] theorem Device.quiet_evq : (d.quiet).evq = d.evq := rfl
@[simp] theorem Device.quiet_evqRecv : (d.quiet).evqRecv = d.evqRecv := rfl
@[simp] theorem Device.quiet_bb : (d.quiet).bb = d.bb := rfl
@[simp] theorem Device.quiet_perf : (d.quiet).perf = d.perf := rfl
@[simp] theorem Device.quiet_chkRanges : (d.quiet).chkRanges = d.chkRanges := rfl
@[simp] theorem Device.quiet_berths : (d.quiet).berths = d.berths := rfl
@[simp] theorem Device.quiet_retiredAt : (d.quiet).retiredAt = d.retiredAt := rfl
@[simp] theorem Device.quiet_pinWait : (d.quiet).pinWait = d.pinWait := rfl
@[simp] theorem Device.quiet_srcs : (d.quiet).srcs = d.srcs := rfl
@[simp] theorem Device.quiet_layout : (d.quiet).layout = d.layout := rfl
@[simp] theorem Device.quiet_layoutReq : (d.quiet).layoutReq = d.layoutReq := rfl
@[simp] theorem Device.quiet_layoutPrev : (d.quiet).layoutPrev = d.layoutPrev := rfl
@[simp] theorem Device.quiet_outs : (d.quiet).outs = d.outs := rfl
@[simp] theorem Device.quiet_tick : (d.quiet).tick = d.tick := rfl
@[simp] theorem Device.quiet_chans : (d.quiet).chans = d.chans := rfl
@[simp] theorem Device.quiet_fchg : (d.quiet).fchg = d.fchg := rfl
@[simp] theorem Device.quiet_scrubStart : (d.quiet).scrubStart = d.scrubStart := rfl
@[simp] theorem Device.quiet_scrubDone : (d.quiet).scrubDone = d.scrubDone := rfl
@[simp] theorem Device.quiet_ceAt : (d.quiet).ceAt = d.ceAt := rfl
@[simp] theorem Device.quiet_mats : (d.quiet).mats = d.mats := rfl
@[simp] theorem Device.quiet_matWait : (d.quiet).matWait = d.matWait := rfl
@[simp] theorem Device.quiet_net : (d.quiet).net = d.net := rfl
@[simp] theorem Device.quiet_edges : (d.quiet).edges = d.edges := rfl
@[simp] theorem Device.quiet_healthAt : (d.quiet).healthAt = d.healthAt := rfl
@[simp] theorem Device.quiet_decs : (d.quiet).decs = d.decs := rfl
@[simp] theorem Device.quiet_decCmd : (d.quiet).decCmd = d.decCmd := rfl
@[simp] theorem Device.quiet_encs : (d.quiet).encs = d.encs := rfl
@[simp] theorem Device.quiet_encCmd : (d.quiet).encCmd = d.encCmd := rfl
@[simp] theorem Device.quiet_lanes : (d.quiet).lanes = d.lanes := rfl
@[simp] theorem Device.quiet_time : (d.quiet).time = d.time := rfl
@[simp] theorem Device.quiet_heldAfterTimeout : (d.quiet).heldAfterTimeout = d.heldAfterTimeout := rfl
@[simp] theorem Device.quiet_touch : (d.quiet).touch = d.touch := rfl
@[simp] theorem Device.quiet_boot : (d.quiet).boot = d.boot := rfl
@[simp] theorem Device.quiet_pinLow : (d.quiet).pinLow = d.pinLow := rfl
@[simp] theorem Device.quiet_porLow : (d.quiet).porLow = d.porLow := rfl
@[simp] theorem Device.quiet_clkWait : (d.quiet).clkWait = d.clkWait := rfl
@[simp] theorem Device.quiet_change : (d.quiet).change = d.change := rfl
@[simp] theorem Device.quiet_flashSize : (d.quiet).flashSize = d.flashSize := rfl
@[simp] theorem Device.quiet_upd : (d.quiet).upd = d.upd := rfl
@[simp] theorem Device.quiet_host : (d.quiet).host = d.host := rfl
@[simp] theorem Device.quiet_pair : (d.quiet).pair = d.pair := rfl
@[simp] theorem Device.quiet_liveOut : (d.quiet).liveOut = d.liveOut := rfl
@[simp] theorem Device.quiet_staleLow : (d.quiet).staleLow = d.staleLow := rfl

/-! ### put -/

@[simp] theorem Device.put_out (f : Fld) (i v : Nat) : (d.put f i v).out = d.out := rfl
@[simp] theorem Device.put_rwt (f : Fld) (i v : Nat) : (d.put f i v).rwt = d.rwt := rfl
@[simp] theorem Device.put_latch (f : Fld) (i v : Nat) : (d.put f i v).latch = d.latch := rfl
@[simp] theorem Device.put_held (f : Fld) (i v : Nat) : (d.put f i v).held = d.held := rfl
@[simp] theorem Device.put_deferred (f : Fld) (i v : Nat) : (d.put f i v).deferred = d.deferred := rfl
@[simp] theorem Device.put_free (f : Fld) (i v : Nat) : (d.put f i v).free = d.free := rfl
@[simp] theorem Device.put_now (f : Fld) (i v : Nat) : (d.put f i v).now = d.now := rfl
@[simp] theorem Device.put_devNs (f : Fld) (i v : Nat) : (d.put f i v).devNs = d.devNs := rfl
@[simp] theorem Device.put_devFrac (f : Fld) (i v : Nat) : (d.put f i v).devFrac = d.devFrac := rfl
@[simp] theorem Device.put_pwr (f : Fld) (i v : Nat) : (d.put f i v).pwr = d.pwr := rfl
@[simp] theorem Device.put_evq (f : Fld) (i v : Nat) : (d.put f i v).evq = d.evq := rfl
@[simp] theorem Device.put_evqRecv (f : Fld) (i v : Nat) : (d.put f i v).evqRecv = d.evqRecv := rfl
@[simp] theorem Device.put_bb (f : Fld) (i v : Nat) : (d.put f i v).bb = d.bb := rfl
@[simp] theorem Device.put_perf (f : Fld) (i v : Nat) : (d.put f i v).perf = d.perf := rfl
@[simp] theorem Device.put_chkRanges (f : Fld) (i v : Nat) : (d.put f i v).chkRanges = d.chkRanges := rfl
@[simp] theorem Device.put_berths (f : Fld) (i v : Nat) : (d.put f i v).berths = d.berths := rfl
@[simp] theorem Device.put_retiredAt (f : Fld) (i v : Nat) : (d.put f i v).retiredAt = d.retiredAt := rfl
@[simp] theorem Device.put_pinWait (f : Fld) (i v : Nat) : (d.put f i v).pinWait = d.pinWait := rfl
@[simp] theorem Device.put_srcs (f : Fld) (i v : Nat) : (d.put f i v).srcs = d.srcs := rfl
@[simp] theorem Device.put_layout (f : Fld) (i v : Nat) : (d.put f i v).layout = d.layout := rfl
@[simp] theorem Device.put_layoutReq (f : Fld) (i v : Nat) : (d.put f i v).layoutReq = d.layoutReq := rfl
@[simp] theorem Device.put_layoutPrev (f : Fld) (i v : Nat) : (d.put f i v).layoutPrev = d.layoutPrev := rfl
@[simp] theorem Device.put_outs (f : Fld) (i v : Nat) : (d.put f i v).outs = d.outs := rfl
@[simp] theorem Device.put_tick (f : Fld) (i v : Nat) : (d.put f i v).tick = d.tick := rfl
@[simp] theorem Device.put_chans (f : Fld) (i v : Nat) : (d.put f i v).chans = d.chans := rfl
@[simp] theorem Device.put_fchg (f : Fld) (i v : Nat) : (d.put f i v).fchg = d.fchg := rfl
@[simp] theorem Device.put_scrubStart (f : Fld) (i v : Nat) : (d.put f i v).scrubStart = d.scrubStart := rfl
@[simp] theorem Device.put_scrubDone (f : Fld) (i v : Nat) : (d.put f i v).scrubDone = d.scrubDone := rfl
@[simp] theorem Device.put_ceAt (f : Fld) (i v : Nat) : (d.put f i v).ceAt = d.ceAt := rfl
@[simp] theorem Device.put_mats (f : Fld) (i v : Nat) : (d.put f i v).mats = d.mats := rfl
@[simp] theorem Device.put_matWait (f : Fld) (i v : Nat) : (d.put f i v).matWait = d.matWait := rfl
@[simp] theorem Device.put_net (f : Fld) (i v : Nat) : (d.put f i v).net = d.net := rfl
@[simp] theorem Device.put_edges (f : Fld) (i v : Nat) : (d.put f i v).edges = d.edges := rfl
@[simp] theorem Device.put_healthAt (f : Fld) (i v : Nat) : (d.put f i v).healthAt = d.healthAt := rfl
@[simp] theorem Device.put_decs (f : Fld) (i v : Nat) : (d.put f i v).decs = d.decs := rfl
@[simp] theorem Device.put_decCmd (f : Fld) (i v : Nat) : (d.put f i v).decCmd = d.decCmd := rfl
@[simp] theorem Device.put_encs (f : Fld) (i v : Nat) : (d.put f i v).encs = d.encs := rfl
@[simp] theorem Device.put_encCmd (f : Fld) (i v : Nat) : (d.put f i v).encCmd = d.encCmd := rfl
@[simp] theorem Device.put_lanes (f : Fld) (i v : Nat) : (d.put f i v).lanes = d.lanes := rfl
@[simp] theorem Device.put_time (f : Fld) (i v : Nat) : (d.put f i v).time = d.time := rfl
@[simp] theorem Device.put_heldAfterTimeout (f : Fld) (i v : Nat) : (d.put f i v).heldAfterTimeout = d.heldAfterTimeout := rfl
@[simp] theorem Device.put_touch (f : Fld) (i v : Nat) : (d.put f i v).touch = d.touch := rfl
@[simp] theorem Device.put_boot (f : Fld) (i v : Nat) : (d.put f i v).boot = d.boot := rfl
@[simp] theorem Device.put_pinLow (f : Fld) (i v : Nat) : (d.put f i v).pinLow = d.pinLow := rfl
@[simp] theorem Device.put_porLow (f : Fld) (i v : Nat) : (d.put f i v).porLow = d.porLow := rfl
@[simp] theorem Device.put_clkWait (f : Fld) (i v : Nat) : (d.put f i v).clkWait = d.clkWait := rfl
@[simp] theorem Device.put_change (f : Fld) (i v : Nat) : (d.put f i v).change = d.change := rfl
@[simp] theorem Device.put_flashSize (f : Fld) (i v : Nat) : (d.put f i v).flashSize = d.flashSize := rfl
@[simp] theorem Device.put_upd (f : Fld) (i v : Nat) : (d.put f i v).upd = d.upd := rfl
@[simp] theorem Device.put_host (f : Fld) (i v : Nat) : (d.put f i v).host = d.host := rfl
@[simp] theorem Device.put_pair (f : Fld) (i v : Nat) : (d.put f i v).pair = d.pair := rfl
@[simp] theorem Device.put_liveOut (f : Fld) (i v : Nat) : (d.put f i v).liveOut = d.liveOut := rfl
@[simp] theorem Device.put_staleLow (f : Fld) (i v : Nat) : (d.put f i v).staleLow = d.staleLow := rfl

/-! ### putS -/

@[simp] theorem Device.putS_out (f : Fld) (h i v : Nat) : (d.putS f h i v).out = d.out := rfl
@[simp] theorem Device.putS_rwt (f : Fld) (h i v : Nat) : (d.putS f h i v).rwt = d.rwt := rfl
@[simp] theorem Device.putS_latch (f : Fld) (h i v : Nat) : (d.putS f h i v).latch = d.latch := rfl
@[simp] theorem Device.putS_held (f : Fld) (h i v : Nat) : (d.putS f h i v).held = d.held := rfl
@[simp] theorem Device.putS_deferred (f : Fld) (h i v : Nat) : (d.putS f h i v).deferred = d.deferred := rfl
@[simp] theorem Device.putS_free (f : Fld) (h i v : Nat) : (d.putS f h i v).free = d.free := rfl
@[simp] theorem Device.putS_now (f : Fld) (h i v : Nat) : (d.putS f h i v).now = d.now := rfl
@[simp] theorem Device.putS_devNs (f : Fld) (h i v : Nat) : (d.putS f h i v).devNs = d.devNs := rfl
@[simp] theorem Device.putS_devFrac (f : Fld) (h i v : Nat) : (d.putS f h i v).devFrac = d.devFrac := rfl
@[simp] theorem Device.putS_pwr (f : Fld) (h i v : Nat) : (d.putS f h i v).pwr = d.pwr := rfl
@[simp] theorem Device.putS_evq (f : Fld) (h i v : Nat) : (d.putS f h i v).evq = d.evq := rfl
@[simp] theorem Device.putS_evqRecv (f : Fld) (h i v : Nat) : (d.putS f h i v).evqRecv = d.evqRecv := rfl
@[simp] theorem Device.putS_bb (f : Fld) (h i v : Nat) : (d.putS f h i v).bb = d.bb := rfl
@[simp] theorem Device.putS_perf (f : Fld) (h i v : Nat) : (d.putS f h i v).perf = d.perf := rfl
@[simp] theorem Device.putS_chkRanges (f : Fld) (h i v : Nat) : (d.putS f h i v).chkRanges = d.chkRanges := rfl
@[simp] theorem Device.putS_berths (f : Fld) (h i v : Nat) : (d.putS f h i v).berths = d.berths := rfl
@[simp] theorem Device.putS_retiredAt (f : Fld) (h i v : Nat) : (d.putS f h i v).retiredAt = d.retiredAt := rfl
@[simp] theorem Device.putS_pinWait (f : Fld) (h i v : Nat) : (d.putS f h i v).pinWait = d.pinWait := rfl
@[simp] theorem Device.putS_srcs (f : Fld) (h i v : Nat) : (d.putS f h i v).srcs = d.srcs := rfl
@[simp] theorem Device.putS_layout (f : Fld) (h i v : Nat) : (d.putS f h i v).layout = d.layout := rfl
@[simp] theorem Device.putS_layoutReq (f : Fld) (h i v : Nat) : (d.putS f h i v).layoutReq = d.layoutReq := rfl
@[simp] theorem Device.putS_layoutPrev (f : Fld) (h i v : Nat) : (d.putS f h i v).layoutPrev = d.layoutPrev := rfl
@[simp] theorem Device.putS_outs (f : Fld) (h i v : Nat) : (d.putS f h i v).outs = d.outs := rfl
@[simp] theorem Device.putS_tick (f : Fld) (h i v : Nat) : (d.putS f h i v).tick = d.tick := rfl
@[simp] theorem Device.putS_chans (f : Fld) (h i v : Nat) : (d.putS f h i v).chans = d.chans := rfl
@[simp] theorem Device.putS_fchg (f : Fld) (h i v : Nat) : (d.putS f h i v).fchg = d.fchg := rfl
@[simp] theorem Device.putS_scrubStart (f : Fld) (h i v : Nat) : (d.putS f h i v).scrubStart = d.scrubStart := rfl
@[simp] theorem Device.putS_scrubDone (f : Fld) (h i v : Nat) : (d.putS f h i v).scrubDone = d.scrubDone := rfl
@[simp] theorem Device.putS_ceAt (f : Fld) (h i v : Nat) : (d.putS f h i v).ceAt = d.ceAt := rfl
@[simp] theorem Device.putS_mats (f : Fld) (h i v : Nat) : (d.putS f h i v).mats = d.mats := rfl
@[simp] theorem Device.putS_matWait (f : Fld) (h i v : Nat) : (d.putS f h i v).matWait = d.matWait := rfl
@[simp] theorem Device.putS_net (f : Fld) (h i v : Nat) : (d.putS f h i v).net = d.net := rfl
@[simp] theorem Device.putS_edges (f : Fld) (h i v : Nat) : (d.putS f h i v).edges = d.edges := rfl
@[simp] theorem Device.putS_healthAt (f : Fld) (h i v : Nat) : (d.putS f h i v).healthAt = d.healthAt := rfl
@[simp] theorem Device.putS_decs (f : Fld) (h i v : Nat) : (d.putS f h i v).decs = d.decs := rfl
@[simp] theorem Device.putS_decCmd (f : Fld) (h i v : Nat) : (d.putS f h i v).decCmd = d.decCmd := rfl
@[simp] theorem Device.putS_encs (f : Fld) (h i v : Nat) : (d.putS f h i v).encs = d.encs := rfl
@[simp] theorem Device.putS_encCmd (f : Fld) (h i v : Nat) : (d.putS f h i v).encCmd = d.encCmd := rfl
@[simp] theorem Device.putS_lanes (f : Fld) (h i v : Nat) : (d.putS f h i v).lanes = d.lanes := rfl
@[simp] theorem Device.putS_time (f : Fld) (h i v : Nat) : (d.putS f h i v).time = d.time := rfl
@[simp] theorem Device.putS_heldAfterTimeout (f : Fld) (h i v : Nat) : (d.putS f h i v).heldAfterTimeout = d.heldAfterTimeout := rfl
@[simp] theorem Device.putS_touch (f : Fld) (h i v : Nat) : (d.putS f h i v).touch = d.touch := rfl
@[simp] theorem Device.putS_boot (f : Fld) (h i v : Nat) : (d.putS f h i v).boot = d.boot := rfl
@[simp] theorem Device.putS_pinLow (f : Fld) (h i v : Nat) : (d.putS f h i v).pinLow = d.pinLow := rfl
@[simp] theorem Device.putS_porLow (f : Fld) (h i v : Nat) : (d.putS f h i v).porLow = d.porLow := rfl
@[simp] theorem Device.putS_clkWait (f : Fld) (h i v : Nat) : (d.putS f h i v).clkWait = d.clkWait := rfl
@[simp] theorem Device.putS_change (f : Fld) (h i v : Nat) : (d.putS f h i v).change = d.change := rfl
@[simp] theorem Device.putS_flashSize (f : Fld) (h i v : Nat) : (d.putS f h i v).flashSize = d.flashSize := rfl
@[simp] theorem Device.putS_upd (f : Fld) (h i v : Nat) : (d.putS f h i v).upd = d.upd := rfl
@[simp] theorem Device.putS_host (f : Fld) (h i v : Nat) : (d.putS f h i v).host = d.host := rfl
@[simp] theorem Device.putS_pair (f : Fld) (h i v : Nat) : (d.putS f h i v).pair = d.pair := rfl
@[simp] theorem Device.putS_liveOut (f : Fld) (h i v : Nat) : (d.putS f h i v).liveOut = d.liveOut := rfl
@[simp] theorem Device.putS_staleLow (f : Fld) (h i v : Nat) : (d.putS f h i v).staleLow = d.staleLow := rfl

/-! ### emit -/

@[simp] theorem Device.emit_regs (o : Out) : (d.emit o).regs = d.regs := rfl
@[simp] theorem Device.emit_rwt (o : Out) : (d.emit o).rwt = d.rwt := rfl
@[simp] theorem Device.emit_latch (o : Out) : (d.emit o).latch = d.latch := rfl
@[simp] theorem Device.emit_held (o : Out) : (d.emit o).held = d.held := rfl
@[simp] theorem Device.emit_deferred (o : Out) : (d.emit o).deferred = d.deferred := rfl
@[simp] theorem Device.emit_free (o : Out) : (d.emit o).free = d.free := rfl
@[simp] theorem Device.emit_now (o : Out) : (d.emit o).now = d.now := rfl
@[simp] theorem Device.emit_devNs (o : Out) : (d.emit o).devNs = d.devNs := rfl
@[simp] theorem Device.emit_devFrac (o : Out) : (d.emit o).devFrac = d.devFrac := rfl
@[simp] theorem Device.emit_pwr (o : Out) : (d.emit o).pwr = d.pwr := rfl
@[simp] theorem Device.emit_evq (o : Out) : (d.emit o).evq = d.evq := rfl
@[simp] theorem Device.emit_evqRecv (o : Out) : (d.emit o).evqRecv = d.evqRecv := rfl
@[simp] theorem Device.emit_bb (o : Out) : (d.emit o).bb = d.bb := rfl
@[simp] theorem Device.emit_perf (o : Out) : (d.emit o).perf = d.perf := rfl
@[simp] theorem Device.emit_chkRanges (o : Out) : (d.emit o).chkRanges = d.chkRanges := rfl
@[simp] theorem Device.emit_berths (o : Out) : (d.emit o).berths = d.berths := rfl
@[simp] theorem Device.emit_retiredAt (o : Out) : (d.emit o).retiredAt = d.retiredAt := rfl
@[simp] theorem Device.emit_pinWait (o : Out) : (d.emit o).pinWait = d.pinWait := rfl
@[simp] theorem Device.emit_srcs (o : Out) : (d.emit o).srcs = d.srcs := rfl
@[simp] theorem Device.emit_layout (o : Out) : (d.emit o).layout = d.layout := rfl
@[simp] theorem Device.emit_layoutReq (o : Out) : (d.emit o).layoutReq = d.layoutReq := rfl
@[simp] theorem Device.emit_layoutPrev (o : Out) : (d.emit o).layoutPrev = d.layoutPrev := rfl
@[simp] theorem Device.emit_outs (o : Out) : (d.emit o).outs = d.outs := rfl
@[simp] theorem Device.emit_tick (o : Out) : (d.emit o).tick = d.tick := rfl
@[simp] theorem Device.emit_chans (o : Out) : (d.emit o).chans = d.chans := rfl
@[simp] theorem Device.emit_fchg (o : Out) : (d.emit o).fchg = d.fchg := rfl
@[simp] theorem Device.emit_scrubStart (o : Out) : (d.emit o).scrubStart = d.scrubStart := rfl
@[simp] theorem Device.emit_scrubDone (o : Out) : (d.emit o).scrubDone = d.scrubDone := rfl
@[simp] theorem Device.emit_ceAt (o : Out) : (d.emit o).ceAt = d.ceAt := rfl
@[simp] theorem Device.emit_mats (o : Out) : (d.emit o).mats = d.mats := rfl
@[simp] theorem Device.emit_matWait (o : Out) : (d.emit o).matWait = d.matWait := rfl
@[simp] theorem Device.emit_net (o : Out) : (d.emit o).net = d.net := rfl
@[simp] theorem Device.emit_edges (o : Out) : (d.emit o).edges = d.edges := rfl
@[simp] theorem Device.emit_healthAt (o : Out) : (d.emit o).healthAt = d.healthAt := rfl
@[simp] theorem Device.emit_decs (o : Out) : (d.emit o).decs = d.decs := rfl
@[simp] theorem Device.emit_decCmd (o : Out) : (d.emit o).decCmd = d.decCmd := rfl
@[simp] theorem Device.emit_encs (o : Out) : (d.emit o).encs = d.encs := rfl
@[simp] theorem Device.emit_encCmd (o : Out) : (d.emit o).encCmd = d.encCmd := rfl
@[simp] theorem Device.emit_lanes (o : Out) : (d.emit o).lanes = d.lanes := rfl
@[simp] theorem Device.emit_time (o : Out) : (d.emit o).time = d.time := rfl
@[simp] theorem Device.emit_heldAfterTimeout (o : Out) : (d.emit o).heldAfterTimeout = d.heldAfterTimeout := rfl
@[simp] theorem Device.emit_touch (o : Out) : (d.emit o).touch = d.touch := rfl
@[simp] theorem Device.emit_boot (o : Out) : (d.emit o).boot = d.boot := rfl
@[simp] theorem Device.emit_pinLow (o : Out) : (d.emit o).pinLow = d.pinLow := rfl
@[simp] theorem Device.emit_porLow (o : Out) : (d.emit o).porLow = d.porLow := rfl
@[simp] theorem Device.emit_clkWait (o : Out) : (d.emit o).clkWait = d.clkWait := rfl
@[simp] theorem Device.emit_change (o : Out) : (d.emit o).change = d.change := rfl
@[simp] theorem Device.emit_flashSize (o : Out) : (d.emit o).flashSize = d.flashSize := rfl
@[simp] theorem Device.emit_upd (o : Out) : (d.emit o).upd = d.upd := rfl
@[simp] theorem Device.emit_host (o : Out) : (d.emit o).host = d.host := rfl
@[simp] theorem Device.emit_pair (o : Out) : (d.emit o).pair = d.pair := rfl
@[simp] theorem Device.emit_liveOut (o : Out) : (d.emit o).liveOut = d.liveOut := rfl
@[simp] theorem Device.emit_staleLow (o : Out) : (d.emit o).staleLow = d.staleLow := rfl

/-! ### setSrc -/

@[simp] theorem Device.setSrc_out (k : Nat) (v : Src) : (d.setSrc k v).out = d.out := rfl
@[simp] theorem Device.setSrc_regs (k : Nat) (v : Src) : (d.setSrc k v).regs = d.regs := rfl
@[simp] theorem Device.setSrc_rwt (k : Nat) (v : Src) : (d.setSrc k v).rwt = d.rwt := rfl
@[simp] theorem Device.setSrc_latch (k : Nat) (v : Src) : (d.setSrc k v).latch = d.latch := rfl
@[simp] theorem Device.setSrc_held (k : Nat) (v : Src) : (d.setSrc k v).held = d.held := rfl
@[simp] theorem Device.setSrc_deferred (k : Nat) (v : Src) : (d.setSrc k v).deferred = d.deferred := rfl
@[simp] theorem Device.setSrc_free (k : Nat) (v : Src) : (d.setSrc k v).free = d.free := rfl
@[simp] theorem Device.setSrc_now (k : Nat) (v : Src) : (d.setSrc k v).now = d.now := rfl
@[simp] theorem Device.setSrc_devNs (k : Nat) (v : Src) : (d.setSrc k v).devNs = d.devNs := rfl
@[simp] theorem Device.setSrc_devFrac (k : Nat) (v : Src) : (d.setSrc k v).devFrac = d.devFrac := rfl
@[simp] theorem Device.setSrc_pwr (k : Nat) (v : Src) : (d.setSrc k v).pwr = d.pwr := rfl
@[simp] theorem Device.setSrc_evq (k : Nat) (v : Src) : (d.setSrc k v).evq = d.evq := rfl
@[simp] theorem Device.setSrc_evqRecv (k : Nat) (v : Src) : (d.setSrc k v).evqRecv = d.evqRecv := rfl
@[simp] theorem Device.setSrc_bb (k : Nat) (v : Src) : (d.setSrc k v).bb = d.bb := rfl
@[simp] theorem Device.setSrc_perf (k : Nat) (v : Src) : (d.setSrc k v).perf = d.perf := rfl
@[simp] theorem Device.setSrc_chkRanges (k : Nat) (v : Src) : (d.setSrc k v).chkRanges = d.chkRanges := rfl
@[simp] theorem Device.setSrc_berths (k : Nat) (v : Src) : (d.setSrc k v).berths = d.berths := rfl
@[simp] theorem Device.setSrc_retiredAt (k : Nat) (v : Src) : (d.setSrc k v).retiredAt = d.retiredAt := rfl
@[simp] theorem Device.setSrc_pinWait (k : Nat) (v : Src) : (d.setSrc k v).pinWait = d.pinWait := rfl
@[simp] theorem Device.setSrc_layout (k : Nat) (v : Src) : (d.setSrc k v).layout = d.layout := rfl
@[simp] theorem Device.setSrc_layoutReq (k : Nat) (v : Src) : (d.setSrc k v).layoutReq = d.layoutReq := rfl
@[simp] theorem Device.setSrc_layoutPrev (k : Nat) (v : Src) : (d.setSrc k v).layoutPrev = d.layoutPrev := rfl
@[simp] theorem Device.setSrc_outs (k : Nat) (v : Src) : (d.setSrc k v).outs = d.outs := rfl
@[simp] theorem Device.setSrc_tick (k : Nat) (v : Src) : (d.setSrc k v).tick = d.tick := rfl
@[simp] theorem Device.setSrc_chans (k : Nat) (v : Src) : (d.setSrc k v).chans = d.chans := rfl
@[simp] theorem Device.setSrc_fchg (k : Nat) (v : Src) : (d.setSrc k v).fchg = d.fchg := rfl
@[simp] theorem Device.setSrc_scrubStart (k : Nat) (v : Src) : (d.setSrc k v).scrubStart = d.scrubStart := rfl
@[simp] theorem Device.setSrc_scrubDone (k : Nat) (v : Src) : (d.setSrc k v).scrubDone = d.scrubDone := rfl
@[simp] theorem Device.setSrc_ceAt (k : Nat) (v : Src) : (d.setSrc k v).ceAt = d.ceAt := rfl
@[simp] theorem Device.setSrc_mats (k : Nat) (v : Src) : (d.setSrc k v).mats = d.mats := rfl
@[simp] theorem Device.setSrc_matWait (k : Nat) (v : Src) : (d.setSrc k v).matWait = d.matWait := rfl
@[simp] theorem Device.setSrc_net (k : Nat) (v : Src) : (d.setSrc k v).net = d.net := rfl
@[simp] theorem Device.setSrc_edges (k : Nat) (v : Src) : (d.setSrc k v).edges = d.edges := rfl
@[simp] theorem Device.setSrc_healthAt (k : Nat) (v : Src) : (d.setSrc k v).healthAt = d.healthAt := rfl
@[simp] theorem Device.setSrc_decs (k : Nat) (v : Src) : (d.setSrc k v).decs = d.decs := rfl
@[simp] theorem Device.setSrc_decCmd (k : Nat) (v : Src) : (d.setSrc k v).decCmd = d.decCmd := rfl
@[simp] theorem Device.setSrc_encs (k : Nat) (v : Src) : (d.setSrc k v).encs = d.encs := rfl
@[simp] theorem Device.setSrc_encCmd (k : Nat) (v : Src) : (d.setSrc k v).encCmd = d.encCmd := rfl
@[simp] theorem Device.setSrc_lanes (k : Nat) (v : Src) : (d.setSrc k v).lanes = d.lanes := rfl
@[simp] theorem Device.setSrc_time (k : Nat) (v : Src) : (d.setSrc k v).time = d.time := rfl
@[simp] theorem Device.setSrc_heldAfterTimeout (k : Nat) (v : Src) : (d.setSrc k v).heldAfterTimeout = d.heldAfterTimeout := rfl
@[simp] theorem Device.setSrc_touch (k : Nat) (v : Src) : (d.setSrc k v).touch = d.touch := rfl
@[simp] theorem Device.setSrc_boot (k : Nat) (v : Src) : (d.setSrc k v).boot = d.boot := rfl
@[simp] theorem Device.setSrc_pinLow (k : Nat) (v : Src) : (d.setSrc k v).pinLow = d.pinLow := rfl
@[simp] theorem Device.setSrc_porLow (k : Nat) (v : Src) : (d.setSrc k v).porLow = d.porLow := rfl
@[simp] theorem Device.setSrc_clkWait (k : Nat) (v : Src) : (d.setSrc k v).clkWait = d.clkWait := rfl
@[simp] theorem Device.setSrc_change (k : Nat) (v : Src) : (d.setSrc k v).change = d.change := rfl
@[simp] theorem Device.setSrc_flashSize (k : Nat) (v : Src) : (d.setSrc k v).flashSize = d.flashSize := rfl
@[simp] theorem Device.setSrc_upd (k : Nat) (v : Src) : (d.setSrc k v).upd = d.upd := rfl
@[simp] theorem Device.setSrc_host (k : Nat) (v : Src) : (d.setSrc k v).host = d.host := rfl
@[simp] theorem Device.setSrc_pair (k : Nat) (v : Src) : (d.setSrc k v).pair = d.pair := rfl
@[simp] theorem Device.setSrc_liveOut (k : Nat) (v : Src) : (d.setSrc k v).liveOut = d.liveOut := rfl
@[simp] theorem Device.setSrc_staleLow (k : Nat) (v : Src) : (d.setSrc k v).staleLow = d.staleLow := rfl

/-! ### setOut -/

@[simp] theorem Device.setOut_out (k : Nat) (v : OutSt) : (d.setOut k v).out = d.out := rfl
@[simp] theorem Device.setOut_regs (k : Nat) (v : OutSt) : (d.setOut k v).regs = d.regs := rfl
@[simp] theorem Device.setOut_rwt (k : Nat) (v : OutSt) : (d.setOut k v).rwt = d.rwt := rfl
@[simp] theorem Device.setOut_latch (k : Nat) (v : OutSt) : (d.setOut k v).latch = d.latch := rfl
@[simp] theorem Device.setOut_held (k : Nat) (v : OutSt) : (d.setOut k v).held = d.held := rfl
@[simp] theorem Device.setOut_deferred (k : Nat) (v : OutSt) : (d.setOut k v).deferred = d.deferred := rfl
@[simp] theorem Device.setOut_free (k : Nat) (v : OutSt) : (d.setOut k v).free = d.free := rfl
@[simp] theorem Device.setOut_now (k : Nat) (v : OutSt) : (d.setOut k v).now = d.now := rfl
@[simp] theorem Device.setOut_devNs (k : Nat) (v : OutSt) : (d.setOut k v).devNs = d.devNs := rfl
@[simp] theorem Device.setOut_devFrac (k : Nat) (v : OutSt) : (d.setOut k v).devFrac = d.devFrac := rfl
@[simp] theorem Device.setOut_pwr (k : Nat) (v : OutSt) : (d.setOut k v).pwr = d.pwr := rfl
@[simp] theorem Device.setOut_evq (k : Nat) (v : OutSt) : (d.setOut k v).evq = d.evq := rfl
@[simp] theorem Device.setOut_evqRecv (k : Nat) (v : OutSt) : (d.setOut k v).evqRecv = d.evqRecv := rfl
@[simp] theorem Device.setOut_bb (k : Nat) (v : OutSt) : (d.setOut k v).bb = d.bb := rfl
@[simp] theorem Device.setOut_perf (k : Nat) (v : OutSt) : (d.setOut k v).perf = d.perf := rfl
@[simp] theorem Device.setOut_chkRanges (k : Nat) (v : OutSt) : (d.setOut k v).chkRanges = d.chkRanges := rfl
@[simp] theorem Device.setOut_berths (k : Nat) (v : OutSt) : (d.setOut k v).berths = d.berths := rfl
@[simp] theorem Device.setOut_retiredAt (k : Nat) (v : OutSt) : (d.setOut k v).retiredAt = d.retiredAt := rfl
@[simp] theorem Device.setOut_pinWait (k : Nat) (v : OutSt) : (d.setOut k v).pinWait = d.pinWait := rfl
@[simp] theorem Device.setOut_srcs (k : Nat) (v : OutSt) : (d.setOut k v).srcs = d.srcs := rfl
@[simp] theorem Device.setOut_layout (k : Nat) (v : OutSt) : (d.setOut k v).layout = d.layout := rfl
@[simp] theorem Device.setOut_layoutReq (k : Nat) (v : OutSt) : (d.setOut k v).layoutReq = d.layoutReq := rfl
@[simp] theorem Device.setOut_layoutPrev (k : Nat) (v : OutSt) : (d.setOut k v).layoutPrev = d.layoutPrev := rfl
@[simp] theorem Device.setOut_tick (k : Nat) (v : OutSt) : (d.setOut k v).tick = d.tick := rfl
@[simp] theorem Device.setOut_chans (k : Nat) (v : OutSt) : (d.setOut k v).chans = d.chans := rfl
@[simp] theorem Device.setOut_fchg (k : Nat) (v : OutSt) : (d.setOut k v).fchg = d.fchg := rfl
@[simp] theorem Device.setOut_scrubStart (k : Nat) (v : OutSt) : (d.setOut k v).scrubStart = d.scrubStart := rfl
@[simp] theorem Device.setOut_scrubDone (k : Nat) (v : OutSt) : (d.setOut k v).scrubDone = d.scrubDone := rfl
@[simp] theorem Device.setOut_ceAt (k : Nat) (v : OutSt) : (d.setOut k v).ceAt = d.ceAt := rfl
@[simp] theorem Device.setOut_mats (k : Nat) (v : OutSt) : (d.setOut k v).mats = d.mats := rfl
@[simp] theorem Device.setOut_matWait (k : Nat) (v : OutSt) : (d.setOut k v).matWait = d.matWait := rfl
@[simp] theorem Device.setOut_net (k : Nat) (v : OutSt) : (d.setOut k v).net = d.net := rfl
@[simp] theorem Device.setOut_edges (k : Nat) (v : OutSt) : (d.setOut k v).edges = d.edges := rfl
@[simp] theorem Device.setOut_healthAt (k : Nat) (v : OutSt) : (d.setOut k v).healthAt = d.healthAt := rfl
@[simp] theorem Device.setOut_decs (k : Nat) (v : OutSt) : (d.setOut k v).decs = d.decs := rfl
@[simp] theorem Device.setOut_decCmd (k : Nat) (v : OutSt) : (d.setOut k v).decCmd = d.decCmd := rfl
@[simp] theorem Device.setOut_encs (k : Nat) (v : OutSt) : (d.setOut k v).encs = d.encs := rfl
@[simp] theorem Device.setOut_encCmd (k : Nat) (v : OutSt) : (d.setOut k v).encCmd = d.encCmd := rfl
@[simp] theorem Device.setOut_lanes (k : Nat) (v : OutSt) : (d.setOut k v).lanes = d.lanes := rfl
@[simp] theorem Device.setOut_time (k : Nat) (v : OutSt) : (d.setOut k v).time = d.time := rfl
@[simp] theorem Device.setOut_heldAfterTimeout (k : Nat) (v : OutSt) : (d.setOut k v).heldAfterTimeout = d.heldAfterTimeout := rfl
@[simp] theorem Device.setOut_touch (k : Nat) (v : OutSt) : (d.setOut k v).touch = d.touch := rfl
@[simp] theorem Device.setOut_boot (k : Nat) (v : OutSt) : (d.setOut k v).boot = d.boot := rfl
@[simp] theorem Device.setOut_pinLow (k : Nat) (v : OutSt) : (d.setOut k v).pinLow = d.pinLow := rfl
@[simp] theorem Device.setOut_porLow (k : Nat) (v : OutSt) : (d.setOut k v).porLow = d.porLow := rfl
@[simp] theorem Device.setOut_clkWait (k : Nat) (v : OutSt) : (d.setOut k v).clkWait = d.clkWait := rfl
@[simp] theorem Device.setOut_change (k : Nat) (v : OutSt) : (d.setOut k v).change = d.change := rfl
@[simp] theorem Device.setOut_flashSize (k : Nat) (v : OutSt) : (d.setOut k v).flashSize = d.flashSize := rfl
@[simp] theorem Device.setOut_upd (k : Nat) (v : OutSt) : (d.setOut k v).upd = d.upd := rfl
@[simp] theorem Device.setOut_host (k : Nat) (v : OutSt) : (d.setOut k v).host = d.host := rfl
@[simp] theorem Device.setOut_pair (k : Nat) (v : OutSt) : (d.setOut k v).pair = d.pair := rfl
@[simp] theorem Device.setOut_liveOut (k : Nat) (v : OutSt) : (d.setOut k v).liveOut = d.liveOut := rfl
@[simp] theorem Device.setOut_staleLow (k : Nat) (v : OutSt) : (d.setOut k v).staleLow = d.staleLow := rfl

/-! ### setBerth -/

@[simp] theorem Device.setBerth_out (k : Nat) (v : Berth) : (d.setBerth k v).out = d.out := rfl
@[simp] theorem Device.setBerth_regs (k : Nat) (v : Berth) : (d.setBerth k v).regs = d.regs := rfl
@[simp] theorem Device.setBerth_rwt (k : Nat) (v : Berth) : (d.setBerth k v).rwt = d.rwt := rfl
@[simp] theorem Device.setBerth_latch (k : Nat) (v : Berth) : (d.setBerth k v).latch = d.latch := rfl
@[simp] theorem Device.setBerth_held (k : Nat) (v : Berth) : (d.setBerth k v).held = d.held := rfl
@[simp] theorem Device.setBerth_deferred (k : Nat) (v : Berth) : (d.setBerth k v).deferred = d.deferred := rfl
@[simp] theorem Device.setBerth_free (k : Nat) (v : Berth) : (d.setBerth k v).free = d.free := rfl
@[simp] theorem Device.setBerth_now (k : Nat) (v : Berth) : (d.setBerth k v).now = d.now := rfl
@[simp] theorem Device.setBerth_devNs (k : Nat) (v : Berth) : (d.setBerth k v).devNs = d.devNs := rfl
@[simp] theorem Device.setBerth_devFrac (k : Nat) (v : Berth) : (d.setBerth k v).devFrac = d.devFrac := rfl
@[simp] theorem Device.setBerth_pwr (k : Nat) (v : Berth) : (d.setBerth k v).pwr = d.pwr := rfl
@[simp] theorem Device.setBerth_evq (k : Nat) (v : Berth) : (d.setBerth k v).evq = d.evq := rfl
@[simp] theorem Device.setBerth_evqRecv (k : Nat) (v : Berth) : (d.setBerth k v).evqRecv = d.evqRecv := rfl
@[simp] theorem Device.setBerth_bb (k : Nat) (v : Berth) : (d.setBerth k v).bb = d.bb := rfl
@[simp] theorem Device.setBerth_perf (k : Nat) (v : Berth) : (d.setBerth k v).perf = d.perf := rfl
@[simp] theorem Device.setBerth_chkRanges (k : Nat) (v : Berth) : (d.setBerth k v).chkRanges = d.chkRanges := rfl
@[simp] theorem Device.setBerth_retiredAt (k : Nat) (v : Berth) : (d.setBerth k v).retiredAt = d.retiredAt := rfl
@[simp] theorem Device.setBerth_pinWait (k : Nat) (v : Berth) : (d.setBerth k v).pinWait = d.pinWait := rfl
@[simp] theorem Device.setBerth_srcs (k : Nat) (v : Berth) : (d.setBerth k v).srcs = d.srcs := rfl
@[simp] theorem Device.setBerth_layout (k : Nat) (v : Berth) : (d.setBerth k v).layout = d.layout := rfl
@[simp] theorem Device.setBerth_layoutReq (k : Nat) (v : Berth) : (d.setBerth k v).layoutReq = d.layoutReq := rfl
@[simp] theorem Device.setBerth_layoutPrev (k : Nat) (v : Berth) : (d.setBerth k v).layoutPrev = d.layoutPrev := rfl
@[simp] theorem Device.setBerth_outs (k : Nat) (v : Berth) : (d.setBerth k v).outs = d.outs := rfl
@[simp] theorem Device.setBerth_tick (k : Nat) (v : Berth) : (d.setBerth k v).tick = d.tick := rfl
@[simp] theorem Device.setBerth_chans (k : Nat) (v : Berth) : (d.setBerth k v).chans = d.chans := rfl
@[simp] theorem Device.setBerth_fchg (k : Nat) (v : Berth) : (d.setBerth k v).fchg = d.fchg := rfl
@[simp] theorem Device.setBerth_scrubStart (k : Nat) (v : Berth) : (d.setBerth k v).scrubStart = d.scrubStart := rfl
@[simp] theorem Device.setBerth_scrubDone (k : Nat) (v : Berth) : (d.setBerth k v).scrubDone = d.scrubDone := rfl
@[simp] theorem Device.setBerth_ceAt (k : Nat) (v : Berth) : (d.setBerth k v).ceAt = d.ceAt := rfl
@[simp] theorem Device.setBerth_mats (k : Nat) (v : Berth) : (d.setBerth k v).mats = d.mats := rfl
@[simp] theorem Device.setBerth_matWait (k : Nat) (v : Berth) : (d.setBerth k v).matWait = d.matWait := rfl
@[simp] theorem Device.setBerth_net (k : Nat) (v : Berth) : (d.setBerth k v).net = d.net := rfl
@[simp] theorem Device.setBerth_edges (k : Nat) (v : Berth) : (d.setBerth k v).edges = d.edges := rfl
@[simp] theorem Device.setBerth_healthAt (k : Nat) (v : Berth) : (d.setBerth k v).healthAt = d.healthAt := rfl
@[simp] theorem Device.setBerth_decs (k : Nat) (v : Berth) : (d.setBerth k v).decs = d.decs := rfl
@[simp] theorem Device.setBerth_decCmd (k : Nat) (v : Berth) : (d.setBerth k v).decCmd = d.decCmd := rfl
@[simp] theorem Device.setBerth_encs (k : Nat) (v : Berth) : (d.setBerth k v).encs = d.encs := rfl
@[simp] theorem Device.setBerth_encCmd (k : Nat) (v : Berth) : (d.setBerth k v).encCmd = d.encCmd := rfl
@[simp] theorem Device.setBerth_lanes (k : Nat) (v : Berth) : (d.setBerth k v).lanes = d.lanes := rfl
@[simp] theorem Device.setBerth_time (k : Nat) (v : Berth) : (d.setBerth k v).time = d.time := rfl
@[simp] theorem Device.setBerth_heldAfterTimeout (k : Nat) (v : Berth) : (d.setBerth k v).heldAfterTimeout = d.heldAfterTimeout := rfl
@[simp] theorem Device.setBerth_touch (k : Nat) (v : Berth) : (d.setBerth k v).touch = d.touch := rfl
@[simp] theorem Device.setBerth_boot (k : Nat) (v : Berth) : (d.setBerth k v).boot = d.boot := rfl
@[simp] theorem Device.setBerth_pinLow (k : Nat) (v : Berth) : (d.setBerth k v).pinLow = d.pinLow := rfl
@[simp] theorem Device.setBerth_porLow (k : Nat) (v : Berth) : (d.setBerth k v).porLow = d.porLow := rfl
@[simp] theorem Device.setBerth_clkWait (k : Nat) (v : Berth) : (d.setBerth k v).clkWait = d.clkWait := rfl
@[simp] theorem Device.setBerth_change (k : Nat) (v : Berth) : (d.setBerth k v).change = d.change := rfl
@[simp] theorem Device.setBerth_flashSize (k : Nat) (v : Berth) : (d.setBerth k v).flashSize = d.flashSize := rfl
@[simp] theorem Device.setBerth_upd (k : Nat) (v : Berth) : (d.setBerth k v).upd = d.upd := rfl
@[simp] theorem Device.setBerth_host (k : Nat) (v : Berth) : (d.setBerth k v).host = d.host := rfl
@[simp] theorem Device.setBerth_pair (k : Nat) (v : Berth) : (d.setBerth k v).pair = d.pair := rfl
@[simp] theorem Device.setBerth_liveOut (k : Nat) (v : Berth) : (d.setBerth k v).liveOut = d.liveOut := rfl
@[simp] theorem Device.setBerth_staleLow (k : Nat) (v : Berth) : (d.setBerth k v).staleLow = d.staleLow := rfl

/-! ### setChan -/

@[simp] theorem Device.setChan_out (k : Nat) (v : Channel) : (d.setChan k v).out = d.out := rfl
@[simp] theorem Device.setChan_regs (k : Nat) (v : Channel) : (d.setChan k v).regs = d.regs := rfl
@[simp] theorem Device.setChan_rwt (k : Nat) (v : Channel) : (d.setChan k v).rwt = d.rwt := rfl
@[simp] theorem Device.setChan_latch (k : Nat) (v : Channel) : (d.setChan k v).latch = d.latch := rfl
@[simp] theorem Device.setChan_held (k : Nat) (v : Channel) : (d.setChan k v).held = d.held := rfl
@[simp] theorem Device.setChan_deferred (k : Nat) (v : Channel) : (d.setChan k v).deferred = d.deferred := rfl
@[simp] theorem Device.setChan_free (k : Nat) (v : Channel) : (d.setChan k v).free = d.free := rfl
@[simp] theorem Device.setChan_now (k : Nat) (v : Channel) : (d.setChan k v).now = d.now := rfl
@[simp] theorem Device.setChan_devNs (k : Nat) (v : Channel) : (d.setChan k v).devNs = d.devNs := rfl
@[simp] theorem Device.setChan_devFrac (k : Nat) (v : Channel) : (d.setChan k v).devFrac = d.devFrac := rfl
@[simp] theorem Device.setChan_pwr (k : Nat) (v : Channel) : (d.setChan k v).pwr = d.pwr := rfl
@[simp] theorem Device.setChan_evq (k : Nat) (v : Channel) : (d.setChan k v).evq = d.evq := rfl
@[simp] theorem Device.setChan_evqRecv (k : Nat) (v : Channel) : (d.setChan k v).evqRecv = d.evqRecv := rfl
@[simp] theorem Device.setChan_bb (k : Nat) (v : Channel) : (d.setChan k v).bb = d.bb := rfl
@[simp] theorem Device.setChan_perf (k : Nat) (v : Channel) : (d.setChan k v).perf = d.perf := rfl
@[simp] theorem Device.setChan_chkRanges (k : Nat) (v : Channel) : (d.setChan k v).chkRanges = d.chkRanges := rfl
@[simp] theorem Device.setChan_berths (k : Nat) (v : Channel) : (d.setChan k v).berths = d.berths := rfl
@[simp] theorem Device.setChan_retiredAt (k : Nat) (v : Channel) : (d.setChan k v).retiredAt = d.retiredAt := rfl
@[simp] theorem Device.setChan_pinWait (k : Nat) (v : Channel) : (d.setChan k v).pinWait = d.pinWait := rfl
@[simp] theorem Device.setChan_srcs (k : Nat) (v : Channel) : (d.setChan k v).srcs = d.srcs := rfl
@[simp] theorem Device.setChan_layout (k : Nat) (v : Channel) : (d.setChan k v).layout = d.layout := rfl
@[simp] theorem Device.setChan_layoutReq (k : Nat) (v : Channel) : (d.setChan k v).layoutReq = d.layoutReq := rfl
@[simp] theorem Device.setChan_layoutPrev (k : Nat) (v : Channel) : (d.setChan k v).layoutPrev = d.layoutPrev := rfl
@[simp] theorem Device.setChan_outs (k : Nat) (v : Channel) : (d.setChan k v).outs = d.outs := rfl
@[simp] theorem Device.setChan_tick (k : Nat) (v : Channel) : (d.setChan k v).tick = d.tick := rfl
@[simp] theorem Device.setChan_fchg (k : Nat) (v : Channel) : (d.setChan k v).fchg = d.fchg := rfl
@[simp] theorem Device.setChan_scrubStart (k : Nat) (v : Channel) : (d.setChan k v).scrubStart = d.scrubStart := rfl
@[simp] theorem Device.setChan_scrubDone (k : Nat) (v : Channel) : (d.setChan k v).scrubDone = d.scrubDone := rfl
@[simp] theorem Device.setChan_ceAt (k : Nat) (v : Channel) : (d.setChan k v).ceAt = d.ceAt := rfl
@[simp] theorem Device.setChan_mats (k : Nat) (v : Channel) : (d.setChan k v).mats = d.mats := rfl
@[simp] theorem Device.setChan_matWait (k : Nat) (v : Channel) : (d.setChan k v).matWait = d.matWait := rfl
@[simp] theorem Device.setChan_net (k : Nat) (v : Channel) : (d.setChan k v).net = d.net := rfl
@[simp] theorem Device.setChan_edges (k : Nat) (v : Channel) : (d.setChan k v).edges = d.edges := rfl
@[simp] theorem Device.setChan_healthAt (k : Nat) (v : Channel) : (d.setChan k v).healthAt = d.healthAt := rfl
@[simp] theorem Device.setChan_decs (k : Nat) (v : Channel) : (d.setChan k v).decs = d.decs := rfl
@[simp] theorem Device.setChan_decCmd (k : Nat) (v : Channel) : (d.setChan k v).decCmd = d.decCmd := rfl
@[simp] theorem Device.setChan_encs (k : Nat) (v : Channel) : (d.setChan k v).encs = d.encs := rfl
@[simp] theorem Device.setChan_encCmd (k : Nat) (v : Channel) : (d.setChan k v).encCmd = d.encCmd := rfl
@[simp] theorem Device.setChan_lanes (k : Nat) (v : Channel) : (d.setChan k v).lanes = d.lanes := rfl
@[simp] theorem Device.setChan_time (k : Nat) (v : Channel) : (d.setChan k v).time = d.time := rfl
@[simp] theorem Device.setChan_heldAfterTimeout (k : Nat) (v : Channel) : (d.setChan k v).heldAfterTimeout = d.heldAfterTimeout := rfl
@[simp] theorem Device.setChan_touch (k : Nat) (v : Channel) : (d.setChan k v).touch = d.touch := rfl
@[simp] theorem Device.setChan_boot (k : Nat) (v : Channel) : (d.setChan k v).boot = d.boot := rfl
@[simp] theorem Device.setChan_pinLow (k : Nat) (v : Channel) : (d.setChan k v).pinLow = d.pinLow := rfl
@[simp] theorem Device.setChan_porLow (k : Nat) (v : Channel) : (d.setChan k v).porLow = d.porLow := rfl
@[simp] theorem Device.setChan_clkWait (k : Nat) (v : Channel) : (d.setChan k v).clkWait = d.clkWait := rfl
@[simp] theorem Device.setChan_change (k : Nat) (v : Channel) : (d.setChan k v).change = d.change := rfl
@[simp] theorem Device.setChan_flashSize (k : Nat) (v : Channel) : (d.setChan k v).flashSize = d.flashSize := rfl
@[simp] theorem Device.setChan_upd (k : Nat) (v : Channel) : (d.setChan k v).upd = d.upd := rfl
@[simp] theorem Device.setChan_host (k : Nat) (v : Channel) : (d.setChan k v).host = d.host := rfl
@[simp] theorem Device.setChan_pair (k : Nat) (v : Channel) : (d.setChan k v).pair = d.pair := rfl
@[simp] theorem Device.setChan_liveOut (k : Nat) (v : Channel) : (d.setChan k v).liveOut = d.liveOut := rfl
@[simp] theorem Device.setChan_staleLow (k : Nat) (v : Channel) : (d.setChan k v).staleLow = d.staleLow := rfl

/-! ### What raising and recording can change -/

/-- An offer to a slot changes that slot's queue or its drop count and nothing else. -/
theorem Device.offer_only (e : EvEntry) (h : Nat) :
    ∃ g q, (d.offer e h).1 = { d with regs := g, evq := q } := by
  unfold Device.offer
  split
  · split
    · exact ⟨d.regs, _, rfl⟩
    · exact ⟨_, d.evq, rfl⟩
  · exact ⟨d.regs, d.evq, rfl⟩

/-- Offers to all slots change event queues and registers and nothing else. -/
theorem Device.offerAll_only (e : EvEntry) : ∃ g q, (d.offerAll e).1 = { d with regs := g, evq := q } := by
  have key : ∀ (l : List Nat) (p : Device × Bool), ∃ g q,
      (l.foldl (fun p slot => let q := p.1.offer e slot; (q.1, p.2 || q.2)) p).1 = { p.1 with regs := g, evq := q } := by
    intro l
    induction l with
    | nil => intro p; exact ⟨p.1.regs, p.1.evq, rfl⟩
    | cons h r ih =>
      intro p
      obtain ⟨g, q, hg⟩ := p.1.offer_only e h
      obtain ⟨g', q', hg'⟩ := ih ((p.1.offer e h).1, p.2 || (p.1.offer e h).2)
      exact ⟨g', q', by rw [List.foldl_cons, hg', hg]⟩
  exact key (List.range 8) (d, false)

/-- An event that is raised changes registers and event queues and nothing else. -/
theorem Device.raise_only (f : Fld) (a : Nat) : ∃ g q, d.raise f a = { d with regs := g, evq := q } := by
  unfold Device.raise
  obtain ⟨g, q, h⟩ := (d.put f 0 1).offerAll_only (d.entry f a)
  simp only
  split
  · obtain ⟨g', q', h'⟩ := (((d.put f 0 1).offerAll (d.entry f a)).1.put F.HOST_EVENTS_EVQ_OVERFLOW 0 1).offerAll_only
      (((d.put f 0 1).offerAll (d.entry f a)).1.entry F.HOST_EVENTS_EVQ_OVERFLOW 0)
    exact ⟨g', q', by rw [h', h]; rfl⟩
  · exact ⟨g, q, by rw [h]; rfl⟩

/-- A record reaches the staging queue of the black box or is counted as lost. -/
theorem Device.record_only (code src a b : Nat) : ∃ g q, d.record code src a b = { d with regs := g, bb := q } := by
  unfold Device.record
  split
  · exact ⟨_, d.bb, rfl⟩
  · split
    · exact ⟨d.regs, _, rfl⟩
    · exact ⟨_, d.bb, rfl⟩

/-- Occurrences that are counted change the counters and nothing else. -/
theorem Device.count_only (ev u n : Nat) : ∃ p, d.count ev u n = { d with perf := p } := by
  unfold Device.count
  split
  · exact ⟨_, rfl⟩
  · exact ⟨d.perf, rfl⟩

/-- Occurrences that the sampler sees change the counters and nothing else. -/
theorem Device.sampled_only (ev n o t : Nat) (pipe : Option Nat) : ∃ p, d.sampled ev n o t pipe = { d with perf := p } := by
  unfold Device.sampled
  split
  · exact ⟨_, rfl⟩
  · exact ⟨d.perf, rfl⟩

/-- Occurrences of a sampleable event change the counters and nothing else. -/
theorem Device.countTile_only (ev u n o t : Nat) (pipe : Option Nat) :
    ∃ p, d.countTile ev u n o t pipe = { d with perf := p } := by
  unfold Device.countTile
  obtain ⟨p, h⟩ := d.count_only ev u n
  obtain ⟨q, h'⟩ := (d.count ev u n).sampled_only ev n o t pipe
  exact ⟨q, by rw [h', h]⟩

/-- What changes nothing but the counters changes nothing else when it is done for every member of a list. -/
theorem Device.forL_perf {β : Type} (f : β → Device → Device) (hf : ∀ b (d : Device), ∃ p, f b d = { d with perf := p })
    (l : List β) : ∀ d : Device, ∃ p, forL l f d = { d with perf := p } := by
  induction l with
  | nil => intro d; exact ⟨d.perf, rfl⟩
  | cons b r ih =>
    intro d
    obtain ⟨p, h⟩ := hf b d
    obtain ⟨q, h'⟩ := ih (f b d)
    exact ⟨q, by rw [show forL (b :: r) f d = forL r f (f b d) from rfl, h', h]⟩

/-- Cycles of the core clock change the counters and nothing else. -/
theorem Device.cycles_only (n : Nat) : ∃ p, d.cycles n = { d with perf := p } := by
  have h1 : ∃ p, d.count 0x01 0 n = { d with perf := p } := d.count_only 0x01 0 n
  have h2 : ∀ (l : List Nat) (d : Device), ∃ p, forL l (fun c (d : Device) => d.count 0x0A c n) d = { d with perf := p } :=
    Device.forL_perf _ (fun c d => d.count_only 0x0A c n)
  have h3 : ∀ (l : List (Nat × Nat × Nat)) (d : Device), ∃ p,
      forL l (fun s (d : Device) => d.countTile 0x06 s.2.2 n s.1 s.2.1 (some s.2.2)) d = { d with perf := p } :=
    Device.forL_perf _ (fun s d => d.countTile_only 0x06 s.2.2 n s.1 s.2.1 (some s.2.2))
  unfold Device.cycles
  obtain ⟨p, h⟩ := h1
  simp only
  obtain ⟨q, h'⟩ := h2 (((d.decs.filter (fun p => p.2.running.any (fun j => j.started))).map
    (fun p => d.get F.DEC_SESS_STATE_CORE p.1)).dedup) (d.count 0x01 0 n)
  obtain ⟨r, h''⟩ := h3 (if d.tick.inTick && !d.tick.sealRan then d.tick.stalled else []) { d with perf := q }
  exact ⟨r, by rw [h', h]; exact h''⟩

/-- Time that passes changes the clocks and the cycle counters and nothing else. -/
theorem Device.elapse_only (n : Nat) : ∃ a b c p, d.elapse n = { d with now := a, devNs := b, devFrac := c, perf := p } := by
  have key : ∀ e : Device, ∃ p, (if e.coreOn then e.cycles n else e) = { e with perf := p } := by
    intro e
    split
    · exact e.cycles_only n
    · exact ⟨e.perf, rfl⟩
  unfold Device.elapse
  simp only
  generalize (d.devFrac + if d.pd1On = true then n * (1000000000 + d.ppb).toNat else 0) = t
  obtain ⟨p, h⟩ := key { d with now := d.now + n, devNs := d.devNs + t / 1000000000, devFrac := t % 1000000000 }
  exact ⟨_, _, _, p, h⟩

/-- Waiting for a device time lets time pass and does nothing else. -/
theorem Device.waitUntil_only (t : Nat) : ∃ a b c p, d.waitUntil t = { d with now := a, devNs := b, devFrac := c, perf := p } := by
  unfold Device.waitUntil
  simp only
  split
  · exact ⟨d.now, d.devNs, d.devFrac, d.perf, rfl⟩
  · exact d.elapse_only _

/-- Waiting for a crystal count lets time pass and does nothing else. -/
theorem Device.waitNow_only (t : Nat) : ∃ a b c p, d.waitNow t = { d with now := a, devNs := b, devFrac := c, perf := p } := by
  unfold Device.waitNow
  split
  · exact ⟨d.now, d.devNs, d.devFrac, d.perf, rfl⟩
  · exact d.elapse_only _

/-! ### raise -/

@[simp] theorem Device.raise_out (f : Fld) (a : Nat) : (d.raise f a).out = d.out := by obtain ⟨g, q, h⟩ := d.raise_only f a; rw [h]
@[simp] theorem Device.raise_rwt (f : Fld) (a : Nat) : (d.raise f a).rwt = d.rwt := by obtain ⟨g, q, h⟩ := d.raise_only f a; rw [h]
@[simp] theorem Device.raise_latch (f : Fld) (a : Nat) : (d.raise f a).latch = d.latch := by obtain ⟨g, q, h⟩ := d.raise_only f a; rw [h]
@[simp] theorem Device.raise_held (f : Fld) (a : Nat) : (d.raise f a).held = d.held := by obtain ⟨g, q, h⟩ := d.raise_only f a; rw [h]
@[simp] theorem Device.raise_deferred (f : Fld) (a : Nat) : (d.raise f a).deferred = d.deferred := by obtain ⟨g, q, h⟩ := d.raise_only f a; rw [h]
@[simp] theorem Device.raise_free (f : Fld) (a : Nat) : (d.raise f a).free = d.free := by obtain ⟨g, q, h⟩ := d.raise_only f a; rw [h]
@[simp] theorem Device.raise_now (f : Fld) (a : Nat) : (d.raise f a).now = d.now := by obtain ⟨g, q, h⟩ := d.raise_only f a; rw [h]
@[simp] theorem Device.raise_devNs (f : Fld) (a : Nat) : (d.raise f a).devNs = d.devNs := by obtain ⟨g, q, h⟩ := d.raise_only f a; rw [h]
@[simp] theorem Device.raise_devFrac (f : Fld) (a : Nat) : (d.raise f a).devFrac = d.devFrac := by obtain ⟨g, q, h⟩ := d.raise_only f a; rw [h]
@[simp] theorem Device.raise_pwr (f : Fld) (a : Nat) : (d.raise f a).pwr = d.pwr := by obtain ⟨g, q, h⟩ := d.raise_only f a; rw [h]
@[simp] theorem Device.raise_evqRecv (f : Fld) (a : Nat) : (d.raise f a).evqRecv = d.evqRecv := by obtain ⟨g, q, h⟩ := d.raise_only f a; rw [h]
@[simp] theorem Device.raise_bb (f : Fld) (a : Nat) : (d.raise f a).bb = d.bb := by obtain ⟨g, q, h⟩ := d.raise_only f a; rw [h]
@[simp] theorem Device.raise_perf (f : Fld) (a : Nat) : (d.raise f a).perf = d.perf := by obtain ⟨g, q, h⟩ := d.raise_only f a; rw [h]
@[simp] theorem Device.raise_chkRanges (f : Fld) (a : Nat) : (d.raise f a).chkRanges = d.chkRanges := by obtain ⟨g, q, h⟩ := d.raise_only f a; rw [h]
@[simp] theorem Device.raise_berths (f : Fld) (a : Nat) : (d.raise f a).berths = d.berths := by obtain ⟨g, q, h⟩ := d.raise_only f a; rw [h]
@[simp] theorem Device.raise_retiredAt (f : Fld) (a : Nat) : (d.raise f a).retiredAt = d.retiredAt := by obtain ⟨g, q, h⟩ := d.raise_only f a; rw [h]
@[simp] theorem Device.raise_pinWait (f : Fld) (a : Nat) : (d.raise f a).pinWait = d.pinWait := by obtain ⟨g, q, h⟩ := d.raise_only f a; rw [h]
@[simp] theorem Device.raise_srcs (f : Fld) (a : Nat) : (d.raise f a).srcs = d.srcs := by obtain ⟨g, q, h⟩ := d.raise_only f a; rw [h]
@[simp] theorem Device.raise_layout (f : Fld) (a : Nat) : (d.raise f a).layout = d.layout := by obtain ⟨g, q, h⟩ := d.raise_only f a; rw [h]
@[simp] theorem Device.raise_layoutReq (f : Fld) (a : Nat) : (d.raise f a).layoutReq = d.layoutReq := by obtain ⟨g, q, h⟩ := d.raise_only f a; rw [h]
@[simp] theorem Device.raise_layoutPrev (f : Fld) (a : Nat) : (d.raise f a).layoutPrev = d.layoutPrev := by obtain ⟨g, q, h⟩ := d.raise_only f a; rw [h]
@[simp] theorem Device.raise_outs (f : Fld) (a : Nat) : (d.raise f a).outs = d.outs := by obtain ⟨g, q, h⟩ := d.raise_only f a; rw [h]
@[simp] theorem Device.raise_tick (f : Fld) (a : Nat) : (d.raise f a).tick = d.tick := by obtain ⟨g, q, h⟩ := d.raise_only f a; rw [h]
@[simp] theorem Device.raise_chans (f : Fld) (a : Nat) : (d.raise f a).chans = d.chans := by obtain ⟨g, q, h⟩ := d.raise_only f a; rw [h]
@[simp] theorem Device.raise_fchg (f : Fld) (a : Nat) : (d.raise f a).fchg = d.fchg := by obtain ⟨g, q, h⟩ := d.raise_only f a; rw [h]
@[simp] theorem Device.raise_scrubStart (f : Fld) (a : Nat) : (d.raise f a).scrubStart = d.scrubStart := by obtain ⟨g, q, h⟩ := d.raise_only f a; rw [h]
@[simp] theorem Device.raise_scrubDone (f : Fld) (a : Nat) : (d.raise f a).scrubDone = d.scrubDone := by obtain ⟨g, q, h⟩ := d.raise_only f a; rw [h]
@[simp] theorem Device.raise_ceAt (f : Fld) (a : Nat) : (d.raise f a).ceAt = d.ceAt := by obtain ⟨g, q, h⟩ := d.raise_only f a; rw [h]
@[simp] theorem Device.raise_mats (f : Fld) (a : Nat) : (d.raise f a).mats = d.mats := by obtain ⟨g, q, h⟩ := d.raise_only f a; rw [h]
@[simp] theorem Device.raise_matWait (f : Fld) (a : Nat) : (d.raise f a).matWait = d.matWait := by obtain ⟨g, q, h⟩ := d.raise_only f a; rw [h]
@[simp] theorem Device.raise_net (f : Fld) (a : Nat) : (d.raise f a).net = d.net := by obtain ⟨g, q, h⟩ := d.raise_only f a; rw [h]
@[simp] theorem Device.raise_edges (f : Fld) (a : Nat) : (d.raise f a).edges = d.edges := by obtain ⟨g, q, h⟩ := d.raise_only f a; rw [h]
@[simp] theorem Device.raise_healthAt (f : Fld) (a : Nat) : (d.raise f a).healthAt = d.healthAt := by obtain ⟨g, q, h⟩ := d.raise_only f a; rw [h]
@[simp] theorem Device.raise_decs (f : Fld) (a : Nat) : (d.raise f a).decs = d.decs := by obtain ⟨g, q, h⟩ := d.raise_only f a; rw [h]
@[simp] theorem Device.raise_decCmd (f : Fld) (a : Nat) : (d.raise f a).decCmd = d.decCmd := by obtain ⟨g, q, h⟩ := d.raise_only f a; rw [h]
@[simp] theorem Device.raise_encs (f : Fld) (a : Nat) : (d.raise f a).encs = d.encs := by obtain ⟨g, q, h⟩ := d.raise_only f a; rw [h]
@[simp] theorem Device.raise_encCmd (f : Fld) (a : Nat) : (d.raise f a).encCmd = d.encCmd := by obtain ⟨g, q, h⟩ := d.raise_only f a; rw [h]
@[simp] theorem Device.raise_lanes (f : Fld) (a : Nat) : (d.raise f a).lanes = d.lanes := by obtain ⟨g, q, h⟩ := d.raise_only f a; rw [h]
@[simp] theorem Device.raise_time (f : Fld) (a : Nat) : (d.raise f a).time = d.time := by obtain ⟨g, q, h⟩ := d.raise_only f a; rw [h]
@[simp] theorem Device.raise_heldAfterTimeout (f : Fld) (a : Nat) : (d.raise f a).heldAfterTimeout = d.heldAfterTimeout := by obtain ⟨g, q, h⟩ := d.raise_only f a; rw [h]
@[simp] theorem Device.raise_touch (f : Fld) (a : Nat) : (d.raise f a).touch = d.touch := by obtain ⟨g, q, h⟩ := d.raise_only f a; rw [h]
@[simp] theorem Device.raise_boot (f : Fld) (a : Nat) : (d.raise f a).boot = d.boot := by obtain ⟨g, q, h⟩ := d.raise_only f a; rw [h]
@[simp] theorem Device.raise_pinLow (f : Fld) (a : Nat) : (d.raise f a).pinLow = d.pinLow := by obtain ⟨g, q, h⟩ := d.raise_only f a; rw [h]
@[simp] theorem Device.raise_porLow (f : Fld) (a : Nat) : (d.raise f a).porLow = d.porLow := by obtain ⟨g, q, h⟩ := d.raise_only f a; rw [h]
@[simp] theorem Device.raise_clkWait (f : Fld) (a : Nat) : (d.raise f a).clkWait = d.clkWait := by obtain ⟨g, q, h⟩ := d.raise_only f a; rw [h]
@[simp] theorem Device.raise_change (f : Fld) (a : Nat) : (d.raise f a).change = d.change := by obtain ⟨g, q, h⟩ := d.raise_only f a; rw [h]
@[simp] theorem Device.raise_flashSize (f : Fld) (a : Nat) : (d.raise f a).flashSize = d.flashSize := by obtain ⟨g, q, h⟩ := d.raise_only f a; rw [h]
@[simp] theorem Device.raise_upd (f : Fld) (a : Nat) : (d.raise f a).upd = d.upd := by obtain ⟨g, q, h⟩ := d.raise_only f a; rw [h]
@[simp] theorem Device.raise_host (f : Fld) (a : Nat) : (d.raise f a).host = d.host := by obtain ⟨g, q, h⟩ := d.raise_only f a; rw [h]
@[simp] theorem Device.raise_pair (f : Fld) (a : Nat) : (d.raise f a).pair = d.pair := by obtain ⟨g, q, h⟩ := d.raise_only f a; rw [h]
@[simp] theorem Device.raise_liveOut (f : Fld) (a : Nat) : (d.raise f a).liveOut = d.liveOut := by obtain ⟨g, q, h⟩ := d.raise_only f a; rw [h]
@[simp] theorem Device.raise_staleLow (f : Fld) (a : Nat) : (d.raise f a).staleLow = d.staleLow := by obtain ⟨g, q, h⟩ := d.raise_only f a; rw [h]

/-! ### record -/

@[simp] theorem Device.record_out (c s a b : Nat) : (d.record c s a b).out = d.out := by obtain ⟨g, q, h⟩ := d.record_only c s a b; rw [h]
@[simp] theorem Device.record_rwt (c s a b : Nat) : (d.record c s a b).rwt = d.rwt := by obtain ⟨g, q, h⟩ := d.record_only c s a b; rw [h]
@[simp] theorem Device.record_latch (c s a b : Nat) : (d.record c s a b).latch = d.latch := by obtain ⟨g, q, h⟩ := d.record_only c s a b; rw [h]
@[simp] theorem Device.record_held (c s a b : Nat) : (d.record c s a b).held = d.held := by obtain ⟨g, q, h⟩ := d.record_only c s a b; rw [h]
@[simp] theorem Device.record_deferred (c s a b : Nat) : (d.record c s a b).deferred = d.deferred := by obtain ⟨g, q, h⟩ := d.record_only c s a b; rw [h]
@[simp] theorem Device.record_free (c s a b : Nat) : (d.record c s a b).free = d.free := by obtain ⟨g, q, h⟩ := d.record_only c s a b; rw [h]
@[simp] theorem Device.record_now (c s a b : Nat) : (d.record c s a b).now = d.now := by obtain ⟨g, q, h⟩ := d.record_only c s a b; rw [h]
@[simp] theorem Device.record_devNs (c s a b : Nat) : (d.record c s a b).devNs = d.devNs := by obtain ⟨g, q, h⟩ := d.record_only c s a b; rw [h]
@[simp] theorem Device.record_devFrac (c s a b : Nat) : (d.record c s a b).devFrac = d.devFrac := by obtain ⟨g, q, h⟩ := d.record_only c s a b; rw [h]
@[simp] theorem Device.record_pwr (c s a b : Nat) : (d.record c s a b).pwr = d.pwr := by obtain ⟨g, q, h⟩ := d.record_only c s a b; rw [h]
@[simp] theorem Device.record_evq (c s a b : Nat) : (d.record c s a b).evq = d.evq := by obtain ⟨g, q, h⟩ := d.record_only c s a b; rw [h]
@[simp] theorem Device.record_evqRecv (c s a b : Nat) : (d.record c s a b).evqRecv = d.evqRecv := by obtain ⟨g, q, h⟩ := d.record_only c s a b; rw [h]
@[simp] theorem Device.record_perf (c s a b : Nat) : (d.record c s a b).perf = d.perf := by obtain ⟨g, q, h⟩ := d.record_only c s a b; rw [h]
@[simp] theorem Device.record_chkRanges (c s a b : Nat) : (d.record c s a b).chkRanges = d.chkRanges := by obtain ⟨g, q, h⟩ := d.record_only c s a b; rw [h]
@[simp] theorem Device.record_berths (c s a b : Nat) : (d.record c s a b).berths = d.berths := by obtain ⟨g, q, h⟩ := d.record_only c s a b; rw [h]
@[simp] theorem Device.record_retiredAt (c s a b : Nat) : (d.record c s a b).retiredAt = d.retiredAt := by obtain ⟨g, q, h⟩ := d.record_only c s a b; rw [h]
@[simp] theorem Device.record_pinWait (c s a b : Nat) : (d.record c s a b).pinWait = d.pinWait := by obtain ⟨g, q, h⟩ := d.record_only c s a b; rw [h]
@[simp] theorem Device.record_srcs (c s a b : Nat) : (d.record c s a b).srcs = d.srcs := by obtain ⟨g, q, h⟩ := d.record_only c s a b; rw [h]
@[simp] theorem Device.record_layout (c s a b : Nat) : (d.record c s a b).layout = d.layout := by obtain ⟨g, q, h⟩ := d.record_only c s a b; rw [h]
@[simp] theorem Device.record_layoutReq (c s a b : Nat) : (d.record c s a b).layoutReq = d.layoutReq := by obtain ⟨g, q, h⟩ := d.record_only c s a b; rw [h]
@[simp] theorem Device.record_layoutPrev (c s a b : Nat) : (d.record c s a b).layoutPrev = d.layoutPrev := by obtain ⟨g, q, h⟩ := d.record_only c s a b; rw [h]
@[simp] theorem Device.record_outs (c s a b : Nat) : (d.record c s a b).outs = d.outs := by obtain ⟨g, q, h⟩ := d.record_only c s a b; rw [h]
@[simp] theorem Device.record_tick (c s a b : Nat) : (d.record c s a b).tick = d.tick := by obtain ⟨g, q, h⟩ := d.record_only c s a b; rw [h]
@[simp] theorem Device.record_chans (c s a b : Nat) : (d.record c s a b).chans = d.chans := by obtain ⟨g, q, h⟩ := d.record_only c s a b; rw [h]
@[simp] theorem Device.record_fchg (c s a b : Nat) : (d.record c s a b).fchg = d.fchg := by obtain ⟨g, q, h⟩ := d.record_only c s a b; rw [h]
@[simp] theorem Device.record_scrubStart (c s a b : Nat) : (d.record c s a b).scrubStart = d.scrubStart := by obtain ⟨g, q, h⟩ := d.record_only c s a b; rw [h]
@[simp] theorem Device.record_scrubDone (c s a b : Nat) : (d.record c s a b).scrubDone = d.scrubDone := by obtain ⟨g, q, h⟩ := d.record_only c s a b; rw [h]
@[simp] theorem Device.record_ceAt (c s a b : Nat) : (d.record c s a b).ceAt = d.ceAt := by obtain ⟨g, q, h⟩ := d.record_only c s a b; rw [h]
@[simp] theorem Device.record_mats (c s a b : Nat) : (d.record c s a b).mats = d.mats := by obtain ⟨g, q, h⟩ := d.record_only c s a b; rw [h]
@[simp] theorem Device.record_matWait (c s a b : Nat) : (d.record c s a b).matWait = d.matWait := by obtain ⟨g, q, h⟩ := d.record_only c s a b; rw [h]
@[simp] theorem Device.record_net (c s a b : Nat) : (d.record c s a b).net = d.net := by obtain ⟨g, q, h⟩ := d.record_only c s a b; rw [h]
@[simp] theorem Device.record_edges (c s a b : Nat) : (d.record c s a b).edges = d.edges := by obtain ⟨g, q, h⟩ := d.record_only c s a b; rw [h]
@[simp] theorem Device.record_healthAt (c s a b : Nat) : (d.record c s a b).healthAt = d.healthAt := by obtain ⟨g, q, h⟩ := d.record_only c s a b; rw [h]
@[simp] theorem Device.record_decs (c s a b : Nat) : (d.record c s a b).decs = d.decs := by obtain ⟨g, q, h⟩ := d.record_only c s a b; rw [h]
@[simp] theorem Device.record_decCmd (c s a b : Nat) : (d.record c s a b).decCmd = d.decCmd := by obtain ⟨g, q, h⟩ := d.record_only c s a b; rw [h]
@[simp] theorem Device.record_encs (c s a b : Nat) : (d.record c s a b).encs = d.encs := by obtain ⟨g, q, h⟩ := d.record_only c s a b; rw [h]
@[simp] theorem Device.record_encCmd (c s a b : Nat) : (d.record c s a b).encCmd = d.encCmd := by obtain ⟨g, q, h⟩ := d.record_only c s a b; rw [h]
@[simp] theorem Device.record_lanes (c s a b : Nat) : (d.record c s a b).lanes = d.lanes := by obtain ⟨g, q, h⟩ := d.record_only c s a b; rw [h]
@[simp] theorem Device.record_time (c s a b : Nat) : (d.record c s a b).time = d.time := by obtain ⟨g, q, h⟩ := d.record_only c s a b; rw [h]
@[simp] theorem Device.record_heldAfterTimeout (c s a b : Nat) : (d.record c s a b).heldAfterTimeout = d.heldAfterTimeout := by obtain ⟨g, q, h⟩ := d.record_only c s a b; rw [h]
@[simp] theorem Device.record_touch (c s a b : Nat) : (d.record c s a b).touch = d.touch := by obtain ⟨g, q, h⟩ := d.record_only c s a b; rw [h]
@[simp] theorem Device.record_boot (c s a b : Nat) : (d.record c s a b).boot = d.boot := by obtain ⟨g, q, h⟩ := d.record_only c s a b; rw [h]
@[simp] theorem Device.record_pinLow (c s a b : Nat) : (d.record c s a b).pinLow = d.pinLow := by obtain ⟨g, q, h⟩ := d.record_only c s a b; rw [h]
@[simp] theorem Device.record_porLow (c s a b : Nat) : (d.record c s a b).porLow = d.porLow := by obtain ⟨g, q, h⟩ := d.record_only c s a b; rw [h]
@[simp] theorem Device.record_clkWait (c s a b : Nat) : (d.record c s a b).clkWait = d.clkWait := by obtain ⟨g, q, h⟩ := d.record_only c s a b; rw [h]
@[simp] theorem Device.record_change (c s a b : Nat) : (d.record c s a b).change = d.change := by obtain ⟨g, q, h⟩ := d.record_only c s a b; rw [h]
@[simp] theorem Device.record_flashSize (c s a b : Nat) : (d.record c s a b).flashSize = d.flashSize := by obtain ⟨g, q, h⟩ := d.record_only c s a b; rw [h]
@[simp] theorem Device.record_upd (c s a b : Nat) : (d.record c s a b).upd = d.upd := by obtain ⟨g, q, h⟩ := d.record_only c s a b; rw [h]
@[simp] theorem Device.record_host (c s a b : Nat) : (d.record c s a b).host = d.host := by obtain ⟨g, q, h⟩ := d.record_only c s a b; rw [h]
@[simp] theorem Device.record_pair (c s a b : Nat) : (d.record c s a b).pair = d.pair := by obtain ⟨g, q, h⟩ := d.record_only c s a b; rw [h]
@[simp] theorem Device.record_liveOut (c s a b : Nat) : (d.record c s a b).liveOut = d.liveOut := by obtain ⟨g, q, h⟩ := d.record_only c s a b; rw [h]
@[simp] theorem Device.record_staleLow (c s a b : Nat) : (d.record c s a b).staleLow = d.staleLow := by obtain ⟨g, q, h⟩ := d.record_only c s a b; rw [h]

/-! ### count -/

@[simp] theorem Device.count_out (e u n : Nat) : (d.count e u n).out = d.out := by obtain ⟨p, h⟩ := d.count_only e u n; rw [h]
@[simp] theorem Device.count_regs (e u n : Nat) : (d.count e u n).regs = d.regs := by obtain ⟨p, h⟩ := d.count_only e u n; rw [h]
@[simp] theorem Device.count_rwt (e u n : Nat) : (d.count e u n).rwt = d.rwt := by obtain ⟨p, h⟩ := d.count_only e u n; rw [h]
@[simp] theorem Device.count_latch (e u n : Nat) : (d.count e u n).latch = d.latch := by obtain ⟨p, h⟩ := d.count_only e u n; rw [h]
@[simp] theorem Device.count_held (e u n : Nat) : (d.count e u n).held = d.held := by obtain ⟨p, h⟩ := d.count_only e u n; rw [h]
@[simp] theorem Device.count_deferred (e u n : Nat) : (d.count e u n).deferred = d.deferred := by obtain ⟨p, h⟩ := d.count_only e u n; rw [h]
@[simp] theorem Device.count_free (e u n : Nat) : (d.count e u n).free = d.free := by obtain ⟨p, h⟩ := d.count_only e u n; rw [h]
@[simp] theorem Device.count_now (e u n : Nat) : (d.count e u n).now = d.now := by obtain ⟨p, h⟩ := d.count_only e u n; rw [h]
@[simp] theorem Device.count_devNs (e u n : Nat) : (d.count e u n).devNs = d.devNs := by obtain ⟨p, h⟩ := d.count_only e u n; rw [h]
@[simp] theorem Device.count_devFrac (e u n : Nat) : (d.count e u n).devFrac = d.devFrac := by obtain ⟨p, h⟩ := d.count_only e u n; rw [h]
@[simp] theorem Device.count_pwr (e u n : Nat) : (d.count e u n).pwr = d.pwr := by obtain ⟨p, h⟩ := d.count_only e u n; rw [h]
@[simp] theorem Device.count_evq (e u n : Nat) : (d.count e u n).evq = d.evq := by obtain ⟨p, h⟩ := d.count_only e u n; rw [h]
@[simp] theorem Device.count_evqRecv (e u n : Nat) : (d.count e u n).evqRecv = d.evqRecv := by obtain ⟨p, h⟩ := d.count_only e u n; rw [h]
@[simp] theorem Device.count_bb (e u n : Nat) : (d.count e u n).bb = d.bb := by obtain ⟨p, h⟩ := d.count_only e u n; rw [h]
@[simp] theorem Device.count_chkRanges (e u n : Nat) : (d.count e u n).chkRanges = d.chkRanges := by obtain ⟨p, h⟩ := d.count_only e u n; rw [h]
@[simp] theorem Device.count_berths (e u n : Nat) : (d.count e u n).berths = d.berths := by obtain ⟨p, h⟩ := d.count_only e u n; rw [h]
@[simp] theorem Device.count_retiredAt (e u n : Nat) : (d.count e u n).retiredAt = d.retiredAt := by obtain ⟨p, h⟩ := d.count_only e u n; rw [h]
@[simp] theorem Device.count_pinWait (e u n : Nat) : (d.count e u n).pinWait = d.pinWait := by obtain ⟨p, h⟩ := d.count_only e u n; rw [h]
@[simp] theorem Device.count_srcs (e u n : Nat) : (d.count e u n).srcs = d.srcs := by obtain ⟨p, h⟩ := d.count_only e u n; rw [h]
@[simp] theorem Device.count_layout (e u n : Nat) : (d.count e u n).layout = d.layout := by obtain ⟨p, h⟩ := d.count_only e u n; rw [h]
@[simp] theorem Device.count_layoutReq (e u n : Nat) : (d.count e u n).layoutReq = d.layoutReq := by obtain ⟨p, h⟩ := d.count_only e u n; rw [h]
@[simp] theorem Device.count_layoutPrev (e u n : Nat) : (d.count e u n).layoutPrev = d.layoutPrev := by obtain ⟨p, h⟩ := d.count_only e u n; rw [h]
@[simp] theorem Device.count_outs (e u n : Nat) : (d.count e u n).outs = d.outs := by obtain ⟨p, h⟩ := d.count_only e u n; rw [h]
@[simp] theorem Device.count_tick (e u n : Nat) : (d.count e u n).tick = d.tick := by obtain ⟨p, h⟩ := d.count_only e u n; rw [h]
@[simp] theorem Device.count_chans (e u n : Nat) : (d.count e u n).chans = d.chans := by obtain ⟨p, h⟩ := d.count_only e u n; rw [h]
@[simp] theorem Device.count_fchg (e u n : Nat) : (d.count e u n).fchg = d.fchg := by obtain ⟨p, h⟩ := d.count_only e u n; rw [h]
@[simp] theorem Device.count_scrubStart (e u n : Nat) : (d.count e u n).scrubStart = d.scrubStart := by obtain ⟨p, h⟩ := d.count_only e u n; rw [h]
@[simp] theorem Device.count_scrubDone (e u n : Nat) : (d.count e u n).scrubDone = d.scrubDone := by obtain ⟨p, h⟩ := d.count_only e u n; rw [h]
@[simp] theorem Device.count_ceAt (e u n : Nat) : (d.count e u n).ceAt = d.ceAt := by obtain ⟨p, h⟩ := d.count_only e u n; rw [h]
@[simp] theorem Device.count_mats (e u n : Nat) : (d.count e u n).mats = d.mats := by obtain ⟨p, h⟩ := d.count_only e u n; rw [h]
@[simp] theorem Device.count_matWait (e u n : Nat) : (d.count e u n).matWait = d.matWait := by obtain ⟨p, h⟩ := d.count_only e u n; rw [h]
@[simp] theorem Device.count_net (e u n : Nat) : (d.count e u n).net = d.net := by obtain ⟨p, h⟩ := d.count_only e u n; rw [h]
@[simp] theorem Device.count_edges (e u n : Nat) : (d.count e u n).edges = d.edges := by obtain ⟨p, h⟩ := d.count_only e u n; rw [h]
@[simp] theorem Device.count_healthAt (e u n : Nat) : (d.count e u n).healthAt = d.healthAt := by obtain ⟨p, h⟩ := d.count_only e u n; rw [h]
@[simp] theorem Device.count_decs (e u n : Nat) : (d.count e u n).decs = d.decs := by obtain ⟨p, h⟩ := d.count_only e u n; rw [h]
@[simp] theorem Device.count_decCmd (e u n : Nat) : (d.count e u n).decCmd = d.decCmd := by obtain ⟨p, h⟩ := d.count_only e u n; rw [h]
@[simp] theorem Device.count_encs (e u n : Nat) : (d.count e u n).encs = d.encs := by obtain ⟨p, h⟩ := d.count_only e u n; rw [h]
@[simp] theorem Device.count_encCmd (e u n : Nat) : (d.count e u n).encCmd = d.encCmd := by obtain ⟨p, h⟩ := d.count_only e u n; rw [h]
@[simp] theorem Device.count_lanes (e u n : Nat) : (d.count e u n).lanes = d.lanes := by obtain ⟨p, h⟩ := d.count_only e u n; rw [h]
@[simp] theorem Device.count_time (e u n : Nat) : (d.count e u n).time = d.time := by obtain ⟨p, h⟩ := d.count_only e u n; rw [h]
@[simp] theorem Device.count_heldAfterTimeout (e u n : Nat) : (d.count e u n).heldAfterTimeout = d.heldAfterTimeout := by obtain ⟨p, h⟩ := d.count_only e u n; rw [h]
@[simp] theorem Device.count_touch (e u n : Nat) : (d.count e u n).touch = d.touch := by obtain ⟨p, h⟩ := d.count_only e u n; rw [h]
@[simp] theorem Device.count_boot (e u n : Nat) : (d.count e u n).boot = d.boot := by obtain ⟨p, h⟩ := d.count_only e u n; rw [h]
@[simp] theorem Device.count_pinLow (e u n : Nat) : (d.count e u n).pinLow = d.pinLow := by obtain ⟨p, h⟩ := d.count_only e u n; rw [h]
@[simp] theorem Device.count_porLow (e u n : Nat) : (d.count e u n).porLow = d.porLow := by obtain ⟨p, h⟩ := d.count_only e u n; rw [h]
@[simp] theorem Device.count_clkWait (e u n : Nat) : (d.count e u n).clkWait = d.clkWait := by obtain ⟨p, h⟩ := d.count_only e u n; rw [h]
@[simp] theorem Device.count_change (e u n : Nat) : (d.count e u n).change = d.change := by obtain ⟨p, h⟩ := d.count_only e u n; rw [h]
@[simp] theorem Device.count_flashSize (e u n : Nat) : (d.count e u n).flashSize = d.flashSize := by obtain ⟨p, h⟩ := d.count_only e u n; rw [h]
@[simp] theorem Device.count_upd (e u n : Nat) : (d.count e u n).upd = d.upd := by obtain ⟨p, h⟩ := d.count_only e u n; rw [h]
@[simp] theorem Device.count_host (e u n : Nat) : (d.count e u n).host = d.host := by obtain ⟨p, h⟩ := d.count_only e u n; rw [h]
@[simp] theorem Device.count_pair (e u n : Nat) : (d.count e u n).pair = d.pair := by obtain ⟨p, h⟩ := d.count_only e u n; rw [h]
@[simp] theorem Device.count_liveOut (e u n : Nat) : (d.count e u n).liveOut = d.liveOut := by obtain ⟨p, h⟩ := d.count_only e u n; rw [h]
@[simp] theorem Device.count_staleLow (e u n : Nat) : (d.count e u n).staleLow = d.staleLow := by obtain ⟨p, h⟩ := d.count_only e u n; rw [h]

/-! ### elapse -/

@[simp] theorem Device.elapse_out (n : Nat) : (d.elapse n).out = d.out := by obtain ⟨a, b, c, p, h⟩ := d.elapse_only n; rw [h]
@[simp] theorem Device.elapse_regs (n : Nat) : (d.elapse n).regs = d.regs := by obtain ⟨a, b, c, p, h⟩ := d.elapse_only n; rw [h]
@[simp] theorem Device.elapse_rwt (n : Nat) : (d.elapse n).rwt = d.rwt := by obtain ⟨a, b, c, p, h⟩ := d.elapse_only n; rw [h]
@[simp] theorem Device.elapse_latch (n : Nat) : (d.elapse n).latch = d.latch := by obtain ⟨a, b, c, p, h⟩ := d.elapse_only n; rw [h]
@[simp] theorem Device.elapse_held (n : Nat) : (d.elapse n).held = d.held := by obtain ⟨a, b, c, p, h⟩ := d.elapse_only n; rw [h]
@[simp] theorem Device.elapse_deferred (n : Nat) : (d.elapse n).deferred = d.deferred := by obtain ⟨a, b, c, p, h⟩ := d.elapse_only n; rw [h]
@[simp] theorem Device.elapse_free (n : Nat) : (d.elapse n).free = d.free := by obtain ⟨a, b, c, p, h⟩ := d.elapse_only n; rw [h]
@[simp] theorem Device.elapse_pwr (n : Nat) : (d.elapse n).pwr = d.pwr := by obtain ⟨a, b, c, p, h⟩ := d.elapse_only n; rw [h]
@[simp] theorem Device.elapse_evq (n : Nat) : (d.elapse n).evq = d.evq := by obtain ⟨a, b, c, p, h⟩ := d.elapse_only n; rw [h]
@[simp] theorem Device.elapse_evqRecv (n : Nat) : (d.elapse n).evqRecv = d.evqRecv := by obtain ⟨a, b, c, p, h⟩ := d.elapse_only n; rw [h]
@[simp] theorem Device.elapse_bb (n : Nat) : (d.elapse n).bb = d.bb := by obtain ⟨a, b, c, p, h⟩ := d.elapse_only n; rw [h]
@[simp] theorem Device.elapse_chkRanges (n : Nat) : (d.elapse n).chkRanges = d.chkRanges := by obtain ⟨a, b, c, p, h⟩ := d.elapse_only n; rw [h]
@[simp] theorem Device.elapse_berths (n : Nat) : (d.elapse n).berths = d.berths := by obtain ⟨a, b, c, p, h⟩ := d.elapse_only n; rw [h]
@[simp] theorem Device.elapse_retiredAt (n : Nat) : (d.elapse n).retiredAt = d.retiredAt := by obtain ⟨a, b, c, p, h⟩ := d.elapse_only n; rw [h]
@[simp] theorem Device.elapse_pinWait (n : Nat) : (d.elapse n).pinWait = d.pinWait := by obtain ⟨a, b, c, p, h⟩ := d.elapse_only n; rw [h]
@[simp] theorem Device.elapse_srcs (n : Nat) : (d.elapse n).srcs = d.srcs := by obtain ⟨a, b, c, p, h⟩ := d.elapse_only n; rw [h]
@[simp] theorem Device.elapse_layout (n : Nat) : (d.elapse n).layout = d.layout := by obtain ⟨a, b, c, p, h⟩ := d.elapse_only n; rw [h]
@[simp] theorem Device.elapse_layoutReq (n : Nat) : (d.elapse n).layoutReq = d.layoutReq := by obtain ⟨a, b, c, p, h⟩ := d.elapse_only n; rw [h]
@[simp] theorem Device.elapse_layoutPrev (n : Nat) : (d.elapse n).layoutPrev = d.layoutPrev := by obtain ⟨a, b, c, p, h⟩ := d.elapse_only n; rw [h]
@[simp] theorem Device.elapse_outs (n : Nat) : (d.elapse n).outs = d.outs := by obtain ⟨a, b, c, p, h⟩ := d.elapse_only n; rw [h]
@[simp] theorem Device.elapse_tick (n : Nat) : (d.elapse n).tick = d.tick := by obtain ⟨a, b, c, p, h⟩ := d.elapse_only n; rw [h]
@[simp] theorem Device.elapse_chans (n : Nat) : (d.elapse n).chans = d.chans := by obtain ⟨a, b, c, p, h⟩ := d.elapse_only n; rw [h]
@[simp] theorem Device.elapse_fchg (n : Nat) : (d.elapse n).fchg = d.fchg := by obtain ⟨a, b, c, p, h⟩ := d.elapse_only n; rw [h]
@[simp] theorem Device.elapse_scrubStart (n : Nat) : (d.elapse n).scrubStart = d.scrubStart := by obtain ⟨a, b, c, p, h⟩ := d.elapse_only n; rw [h]
@[simp] theorem Device.elapse_scrubDone (n : Nat) : (d.elapse n).scrubDone = d.scrubDone := by obtain ⟨a, b, c, p, h⟩ := d.elapse_only n; rw [h]
@[simp] theorem Device.elapse_ceAt (n : Nat) : (d.elapse n).ceAt = d.ceAt := by obtain ⟨a, b, c, p, h⟩ := d.elapse_only n; rw [h]
@[simp] theorem Device.elapse_mats (n : Nat) : (d.elapse n).mats = d.mats := by obtain ⟨a, b, c, p, h⟩ := d.elapse_only n; rw [h]
@[simp] theorem Device.elapse_matWait (n : Nat) : (d.elapse n).matWait = d.matWait := by obtain ⟨a, b, c, p, h⟩ := d.elapse_only n; rw [h]
@[simp] theorem Device.elapse_net (n : Nat) : (d.elapse n).net = d.net := by obtain ⟨a, b, c, p, h⟩ := d.elapse_only n; rw [h]
@[simp] theorem Device.elapse_edges (n : Nat) : (d.elapse n).edges = d.edges := by obtain ⟨a, b, c, p, h⟩ := d.elapse_only n; rw [h]
@[simp] theorem Device.elapse_healthAt (n : Nat) : (d.elapse n).healthAt = d.healthAt := by obtain ⟨a, b, c, p, h⟩ := d.elapse_only n; rw [h]
@[simp] theorem Device.elapse_decs (n : Nat) : (d.elapse n).decs = d.decs := by obtain ⟨a, b, c, p, h⟩ := d.elapse_only n; rw [h]
@[simp] theorem Device.elapse_decCmd (n : Nat) : (d.elapse n).decCmd = d.decCmd := by obtain ⟨a, b, c, p, h⟩ := d.elapse_only n; rw [h]
@[simp] theorem Device.elapse_encs (n : Nat) : (d.elapse n).encs = d.encs := by obtain ⟨a, b, c, p, h⟩ := d.elapse_only n; rw [h]
@[simp] theorem Device.elapse_encCmd (n : Nat) : (d.elapse n).encCmd = d.encCmd := by obtain ⟨a, b, c, p, h⟩ := d.elapse_only n; rw [h]
@[simp] theorem Device.elapse_lanes (n : Nat) : (d.elapse n).lanes = d.lanes := by obtain ⟨a, b, c, p, h⟩ := d.elapse_only n; rw [h]
@[simp] theorem Device.elapse_time (n : Nat) : (d.elapse n).time = d.time := by obtain ⟨a, b, c, p, h⟩ := d.elapse_only n; rw [h]
@[simp] theorem Device.elapse_heldAfterTimeout (n : Nat) : (d.elapse n).heldAfterTimeout = d.heldAfterTimeout := by obtain ⟨a, b, c, p, h⟩ := d.elapse_only n; rw [h]
@[simp] theorem Device.elapse_touch (n : Nat) : (d.elapse n).touch = d.touch := by obtain ⟨a, b, c, p, h⟩ := d.elapse_only n; rw [h]
@[simp] theorem Device.elapse_boot (n : Nat) : (d.elapse n).boot = d.boot := by obtain ⟨a, b, c, p, h⟩ := d.elapse_only n; rw [h]
@[simp] theorem Device.elapse_pinLow (n : Nat) : (d.elapse n).pinLow = d.pinLow := by obtain ⟨a, b, c, p, h⟩ := d.elapse_only n; rw [h]
@[simp] theorem Device.elapse_porLow (n : Nat) : (d.elapse n).porLow = d.porLow := by obtain ⟨a, b, c, p, h⟩ := d.elapse_only n; rw [h]
@[simp] theorem Device.elapse_clkWait (n : Nat) : (d.elapse n).clkWait = d.clkWait := by obtain ⟨a, b, c, p, h⟩ := d.elapse_only n; rw [h]
@[simp] theorem Device.elapse_change (n : Nat) : (d.elapse n).change = d.change := by obtain ⟨a, b, c, p, h⟩ := d.elapse_only n; rw [h]
@[simp] theorem Device.elapse_flashSize (n : Nat) : (d.elapse n).flashSize = d.flashSize := by obtain ⟨a, b, c, p, h⟩ := d.elapse_only n; rw [h]
@[simp] theorem Device.elapse_upd (n : Nat) : (d.elapse n).upd = d.upd := by obtain ⟨a, b, c, p, h⟩ := d.elapse_only n; rw [h]
@[simp] theorem Device.elapse_host (n : Nat) : (d.elapse n).host = d.host := by obtain ⟨a, b, c, p, h⟩ := d.elapse_only n; rw [h]
@[simp] theorem Device.elapse_pair (n : Nat) : (d.elapse n).pair = d.pair := by obtain ⟨a, b, c, p, h⟩ := d.elapse_only n; rw [h]
@[simp] theorem Device.elapse_liveOut (n : Nat) : (d.elapse n).liveOut = d.liveOut := by obtain ⟨a, b, c, p, h⟩ := d.elapse_only n; rw [h]
@[simp] theorem Device.elapse_staleLow (n : Nat) : (d.elapse n).staleLow = d.staleLow := by obtain ⟨a, b, c, p, h⟩ := d.elapse_only n; rw [h]

/-! ### waitUntil -/

@[simp] theorem Device.waitUntil_out (t : Nat) : (d.waitUntil t).out = d.out := by obtain ⟨a, b, c, p, h⟩ := d.waitUntil_only t; rw [h]
@[simp] theorem Device.waitUntil_regs (t : Nat) : (d.waitUntil t).regs = d.regs := by obtain ⟨a, b, c, p, h⟩ := d.waitUntil_only t; rw [h]
@[simp] theorem Device.waitUntil_rwt (t : Nat) : (d.waitUntil t).rwt = d.rwt := by obtain ⟨a, b, c, p, h⟩ := d.waitUntil_only t; rw [h]
@[simp] theorem Device.waitUntil_latch (t : Nat) : (d.waitUntil t).latch = d.latch := by obtain ⟨a, b, c, p, h⟩ := d.waitUntil_only t; rw [h]
@[simp] theorem Device.waitUntil_held (t : Nat) : (d.waitUntil t).held = d.held := by obtain ⟨a, b, c, p, h⟩ := d.waitUntil_only t; rw [h]
@[simp] theorem Device.waitUntil_deferred (t : Nat) : (d.waitUntil t).deferred = d.deferred := by obtain ⟨a, b, c, p, h⟩ := d.waitUntil_only t; rw [h]
@[simp] theorem Device.waitUntil_free (t : Nat) : (d.waitUntil t).free = d.free := by obtain ⟨a, b, c, p, h⟩ := d.waitUntil_only t; rw [h]
@[simp] theorem Device.waitUntil_pwr (t : Nat) : (d.waitUntil t).pwr = d.pwr := by obtain ⟨a, b, c, p, h⟩ := d.waitUntil_only t; rw [h]
@[simp] theorem Device.waitUntil_evq (t : Nat) : (d.waitUntil t).evq = d.evq := by obtain ⟨a, b, c, p, h⟩ := d.waitUntil_only t; rw [h]
@[simp] theorem Device.waitUntil_evqRecv (t : Nat) : (d.waitUntil t).evqRecv = d.evqRecv := by obtain ⟨a, b, c, p, h⟩ := d.waitUntil_only t; rw [h]
@[simp] theorem Device.waitUntil_bb (t : Nat) : (d.waitUntil t).bb = d.bb := by obtain ⟨a, b, c, p, h⟩ := d.waitUntil_only t; rw [h]
@[simp] theorem Device.waitUntil_chkRanges (t : Nat) : (d.waitUntil t).chkRanges = d.chkRanges := by obtain ⟨a, b, c, p, h⟩ := d.waitUntil_only t; rw [h]
@[simp] theorem Device.waitUntil_berths (t : Nat) : (d.waitUntil t).berths = d.berths := by obtain ⟨a, b, c, p, h⟩ := d.waitUntil_only t; rw [h]
@[simp] theorem Device.waitUntil_retiredAt (t : Nat) : (d.waitUntil t).retiredAt = d.retiredAt := by obtain ⟨a, b, c, p, h⟩ := d.waitUntil_only t; rw [h]
@[simp] theorem Device.waitUntil_pinWait (t : Nat) : (d.waitUntil t).pinWait = d.pinWait := by obtain ⟨a, b, c, p, h⟩ := d.waitUntil_only t; rw [h]
@[simp] theorem Device.waitUntil_srcs (t : Nat) : (d.waitUntil t).srcs = d.srcs := by obtain ⟨a, b, c, p, h⟩ := d.waitUntil_only t; rw [h]
@[simp] theorem Device.waitUntil_layout (t : Nat) : (d.waitUntil t).layout = d.layout := by obtain ⟨a, b, c, p, h⟩ := d.waitUntil_only t; rw [h]
@[simp] theorem Device.waitUntil_layoutReq (t : Nat) : (d.waitUntil t).layoutReq = d.layoutReq := by obtain ⟨a, b, c, p, h⟩ := d.waitUntil_only t; rw [h]
@[simp] theorem Device.waitUntil_layoutPrev (t : Nat) : (d.waitUntil t).layoutPrev = d.layoutPrev := by obtain ⟨a, b, c, p, h⟩ := d.waitUntil_only t; rw [h]
@[simp] theorem Device.waitUntil_outs (t : Nat) : (d.waitUntil t).outs = d.outs := by obtain ⟨a, b, c, p, h⟩ := d.waitUntil_only t; rw [h]
@[simp] theorem Device.waitUntil_tick (t : Nat) : (d.waitUntil t).tick = d.tick := by obtain ⟨a, b, c, p, h⟩ := d.waitUntil_only t; rw [h]
@[simp] theorem Device.waitUntil_chans (t : Nat) : (d.waitUntil t).chans = d.chans := by obtain ⟨a, b, c, p, h⟩ := d.waitUntil_only t; rw [h]
@[simp] theorem Device.waitUntil_fchg (t : Nat) : (d.waitUntil t).fchg = d.fchg := by obtain ⟨a, b, c, p, h⟩ := d.waitUntil_only t; rw [h]
@[simp] theorem Device.waitUntil_scrubStart (t : Nat) : (d.waitUntil t).scrubStart = d.scrubStart := by obtain ⟨a, b, c, p, h⟩ := d.waitUntil_only t; rw [h]
@[simp] theorem Device.waitUntil_scrubDone (t : Nat) : (d.waitUntil t).scrubDone = d.scrubDone := by obtain ⟨a, b, c, p, h⟩ := d.waitUntil_only t; rw [h]
@[simp] theorem Device.waitUntil_ceAt (t : Nat) : (d.waitUntil t).ceAt = d.ceAt := by obtain ⟨a, b, c, p, h⟩ := d.waitUntil_only t; rw [h]
@[simp] theorem Device.waitUntil_mats (t : Nat) : (d.waitUntil t).mats = d.mats := by obtain ⟨a, b, c, p, h⟩ := d.waitUntil_only t; rw [h]
@[simp] theorem Device.waitUntil_matWait (t : Nat) : (d.waitUntil t).matWait = d.matWait := by obtain ⟨a, b, c, p, h⟩ := d.waitUntil_only t; rw [h]
@[simp] theorem Device.waitUntil_net (t : Nat) : (d.waitUntil t).net = d.net := by obtain ⟨a, b, c, p, h⟩ := d.waitUntil_only t; rw [h]
@[simp] theorem Device.waitUntil_edges (t : Nat) : (d.waitUntil t).edges = d.edges := by obtain ⟨a, b, c, p, h⟩ := d.waitUntil_only t; rw [h]
@[simp] theorem Device.waitUntil_healthAt (t : Nat) : (d.waitUntil t).healthAt = d.healthAt := by obtain ⟨a, b, c, p, h⟩ := d.waitUntil_only t; rw [h]
@[simp] theorem Device.waitUntil_decs (t : Nat) : (d.waitUntil t).decs = d.decs := by obtain ⟨a, b, c, p, h⟩ := d.waitUntil_only t; rw [h]
@[simp] theorem Device.waitUntil_decCmd (t : Nat) : (d.waitUntil t).decCmd = d.decCmd := by obtain ⟨a, b, c, p, h⟩ := d.waitUntil_only t; rw [h]
@[simp] theorem Device.waitUntil_encs (t : Nat) : (d.waitUntil t).encs = d.encs := by obtain ⟨a, b, c, p, h⟩ := d.waitUntil_only t; rw [h]
@[simp] theorem Device.waitUntil_encCmd (t : Nat) : (d.waitUntil t).encCmd = d.encCmd := by obtain ⟨a, b, c, p, h⟩ := d.waitUntil_only t; rw [h]
@[simp] theorem Device.waitUntil_lanes (t : Nat) : (d.waitUntil t).lanes = d.lanes := by obtain ⟨a, b, c, p, h⟩ := d.waitUntil_only t; rw [h]
@[simp] theorem Device.waitUntil_time (t : Nat) : (d.waitUntil t).time = d.time := by obtain ⟨a, b, c, p, h⟩ := d.waitUntil_only t; rw [h]
@[simp] theorem Device.waitUntil_heldAfterTimeout (t : Nat) : (d.waitUntil t).heldAfterTimeout = d.heldAfterTimeout := by obtain ⟨a, b, c, p, h⟩ := d.waitUntil_only t; rw [h]
@[simp] theorem Device.waitUntil_touch (t : Nat) : (d.waitUntil t).touch = d.touch := by obtain ⟨a, b, c, p, h⟩ := d.waitUntil_only t; rw [h]
@[simp] theorem Device.waitUntil_boot (t : Nat) : (d.waitUntil t).boot = d.boot := by obtain ⟨a, b, c, p, h⟩ := d.waitUntil_only t; rw [h]
@[simp] theorem Device.waitUntil_pinLow (t : Nat) : (d.waitUntil t).pinLow = d.pinLow := by obtain ⟨a, b, c, p, h⟩ := d.waitUntil_only t; rw [h]
@[simp] theorem Device.waitUntil_porLow (t : Nat) : (d.waitUntil t).porLow = d.porLow := by obtain ⟨a, b, c, p, h⟩ := d.waitUntil_only t; rw [h]
@[simp] theorem Device.waitUntil_clkWait (t : Nat) : (d.waitUntil t).clkWait = d.clkWait := by obtain ⟨a, b, c, p, h⟩ := d.waitUntil_only t; rw [h]
@[simp] theorem Device.waitUntil_change (t : Nat) : (d.waitUntil t).change = d.change := by obtain ⟨a, b, c, p, h⟩ := d.waitUntil_only t; rw [h]
@[simp] theorem Device.waitUntil_flashSize (t : Nat) : (d.waitUntil t).flashSize = d.flashSize := by obtain ⟨a, b, c, p, h⟩ := d.waitUntil_only t; rw [h]
@[simp] theorem Device.waitUntil_upd (t : Nat) : (d.waitUntil t).upd = d.upd := by obtain ⟨a, b, c, p, h⟩ := d.waitUntil_only t; rw [h]
@[simp] theorem Device.waitUntil_host (t : Nat) : (d.waitUntil t).host = d.host := by obtain ⟨a, b, c, p, h⟩ := d.waitUntil_only t; rw [h]
@[simp] theorem Device.waitUntil_pair (t : Nat) : (d.waitUntil t).pair = d.pair := by obtain ⟨a, b, c, p, h⟩ := d.waitUntil_only t; rw [h]
@[simp] theorem Device.waitUntil_liveOut (t : Nat) : (d.waitUntil t).liveOut = d.liveOut := by obtain ⟨a, b, c, p, h⟩ := d.waitUntil_only t; rw [h]
@[simp] theorem Device.waitUntil_staleLow (t : Nat) : (d.waitUntil t).staleLow = d.staleLow := by obtain ⟨a, b, c, p, h⟩ := d.waitUntil_only t; rw [h]

/-! ### waitNow -/

@[simp] theorem Device.waitNow_out (t : Nat) : (d.waitNow t).out = d.out := by obtain ⟨a, b, c, p, h⟩ := d.waitNow_only t; rw [h]
@[simp] theorem Device.waitNow_regs (t : Nat) : (d.waitNow t).regs = d.regs := by obtain ⟨a, b, c, p, h⟩ := d.waitNow_only t; rw [h]
@[simp] theorem Device.waitNow_rwt (t : Nat) : (d.waitNow t).rwt = d.rwt := by obtain ⟨a, b, c, p, h⟩ := d.waitNow_only t; rw [h]
@[simp] theorem Device.waitNow_latch (t : Nat) : (d.waitNow t).latch = d.latch := by obtain ⟨a, b, c, p, h⟩ := d.waitNow_only t; rw [h]
@[simp] theorem Device.waitNow_held (t : Nat) : (d.waitNow t).held = d.held := by obtain ⟨a, b, c, p, h⟩ := d.waitNow_only t; rw [h]
@[simp] theorem Device.waitNow_deferred (t : Nat) : (d.waitNow t).deferred = d.deferred := by obtain ⟨a, b, c, p, h⟩ := d.waitNow_only t; rw [h]
@[simp] theorem Device.waitNow_free (t : Nat) : (d.waitNow t).free = d.free := by obtain ⟨a, b, c, p, h⟩ := d.waitNow_only t; rw [h]
@[simp] theorem Device.waitNow_pwr (t : Nat) : (d.waitNow t).pwr = d.pwr := by obtain ⟨a, b, c, p, h⟩ := d.waitNow_only t; rw [h]
@[simp] theorem Device.waitNow_evq (t : Nat) : (d.waitNow t).evq = d.evq := by obtain ⟨a, b, c, p, h⟩ := d.waitNow_only t; rw [h]
@[simp] theorem Device.waitNow_evqRecv (t : Nat) : (d.waitNow t).evqRecv = d.evqRecv := by obtain ⟨a, b, c, p, h⟩ := d.waitNow_only t; rw [h]
@[simp] theorem Device.waitNow_bb (t : Nat) : (d.waitNow t).bb = d.bb := by obtain ⟨a, b, c, p, h⟩ := d.waitNow_only t; rw [h]
@[simp] theorem Device.waitNow_chkRanges (t : Nat) : (d.waitNow t).chkRanges = d.chkRanges := by obtain ⟨a, b, c, p, h⟩ := d.waitNow_only t; rw [h]
@[simp] theorem Device.waitNow_berths (t : Nat) : (d.waitNow t).berths = d.berths := by obtain ⟨a, b, c, p, h⟩ := d.waitNow_only t; rw [h]
@[simp] theorem Device.waitNow_retiredAt (t : Nat) : (d.waitNow t).retiredAt = d.retiredAt := by obtain ⟨a, b, c, p, h⟩ := d.waitNow_only t; rw [h]
@[simp] theorem Device.waitNow_pinWait (t : Nat) : (d.waitNow t).pinWait = d.pinWait := by obtain ⟨a, b, c, p, h⟩ := d.waitNow_only t; rw [h]
@[simp] theorem Device.waitNow_srcs (t : Nat) : (d.waitNow t).srcs = d.srcs := by obtain ⟨a, b, c, p, h⟩ := d.waitNow_only t; rw [h]
@[simp] theorem Device.waitNow_layout (t : Nat) : (d.waitNow t).layout = d.layout := by obtain ⟨a, b, c, p, h⟩ := d.waitNow_only t; rw [h]
@[simp] theorem Device.waitNow_layoutReq (t : Nat) : (d.waitNow t).layoutReq = d.layoutReq := by obtain ⟨a, b, c, p, h⟩ := d.waitNow_only t; rw [h]
@[simp] theorem Device.waitNow_layoutPrev (t : Nat) : (d.waitNow t).layoutPrev = d.layoutPrev := by obtain ⟨a, b, c, p, h⟩ := d.waitNow_only t; rw [h]
@[simp] theorem Device.waitNow_outs (t : Nat) : (d.waitNow t).outs = d.outs := by obtain ⟨a, b, c, p, h⟩ := d.waitNow_only t; rw [h]
@[simp] theorem Device.waitNow_tick (t : Nat) : (d.waitNow t).tick = d.tick := by obtain ⟨a, b, c, p, h⟩ := d.waitNow_only t; rw [h]
@[simp] theorem Device.waitNow_chans (t : Nat) : (d.waitNow t).chans = d.chans := by obtain ⟨a, b, c, p, h⟩ := d.waitNow_only t; rw [h]
@[simp] theorem Device.waitNow_fchg (t : Nat) : (d.waitNow t).fchg = d.fchg := by obtain ⟨a, b, c, p, h⟩ := d.waitNow_only t; rw [h]
@[simp] theorem Device.waitNow_scrubStart (t : Nat) : (d.waitNow t).scrubStart = d.scrubStart := by obtain ⟨a, b, c, p, h⟩ := d.waitNow_only t; rw [h]
@[simp] theorem Device.waitNow_scrubDone (t : Nat) : (d.waitNow t).scrubDone = d.scrubDone := by obtain ⟨a, b, c, p, h⟩ := d.waitNow_only t; rw [h]
@[simp] theorem Device.waitNow_ceAt (t : Nat) : (d.waitNow t).ceAt = d.ceAt := by obtain ⟨a, b, c, p, h⟩ := d.waitNow_only t; rw [h]
@[simp] theorem Device.waitNow_mats (t : Nat) : (d.waitNow t).mats = d.mats := by obtain ⟨a, b, c, p, h⟩ := d.waitNow_only t; rw [h]
@[simp] theorem Device.waitNow_matWait (t : Nat) : (d.waitNow t).matWait = d.matWait := by obtain ⟨a, b, c, p, h⟩ := d.waitNow_only t; rw [h]
@[simp] theorem Device.waitNow_net (t : Nat) : (d.waitNow t).net = d.net := by obtain ⟨a, b, c, p, h⟩ := d.waitNow_only t; rw [h]
@[simp] theorem Device.waitNow_edges (t : Nat) : (d.waitNow t).edges = d.edges := by obtain ⟨a, b, c, p, h⟩ := d.waitNow_only t; rw [h]
@[simp] theorem Device.waitNow_healthAt (t : Nat) : (d.waitNow t).healthAt = d.healthAt := by obtain ⟨a, b, c, p, h⟩ := d.waitNow_only t; rw [h]
@[simp] theorem Device.waitNow_decs (t : Nat) : (d.waitNow t).decs = d.decs := by obtain ⟨a, b, c, p, h⟩ := d.waitNow_only t; rw [h]
@[simp] theorem Device.waitNow_decCmd (t : Nat) : (d.waitNow t).decCmd = d.decCmd := by obtain ⟨a, b, c, p, h⟩ := d.waitNow_only t; rw [h]
@[simp] theorem Device.waitNow_encs (t : Nat) : (d.waitNow t).encs = d.encs := by obtain ⟨a, b, c, p, h⟩ := d.waitNow_only t; rw [h]
@[simp] theorem Device.waitNow_encCmd (t : Nat) : (d.waitNow t).encCmd = d.encCmd := by obtain ⟨a, b, c, p, h⟩ := d.waitNow_only t; rw [h]
@[simp] theorem Device.waitNow_lanes (t : Nat) : (d.waitNow t).lanes = d.lanes := by obtain ⟨a, b, c, p, h⟩ := d.waitNow_only t; rw [h]
@[simp] theorem Device.waitNow_time (t : Nat) : (d.waitNow t).time = d.time := by obtain ⟨a, b, c, p, h⟩ := d.waitNow_only t; rw [h]
@[simp] theorem Device.waitNow_heldAfterTimeout (t : Nat) : (d.waitNow t).heldAfterTimeout = d.heldAfterTimeout := by obtain ⟨a, b, c, p, h⟩ := d.waitNow_only t; rw [h]
@[simp] theorem Device.waitNow_touch (t : Nat) : (d.waitNow t).touch = d.touch := by obtain ⟨a, b, c, p, h⟩ := d.waitNow_only t; rw [h]
@[simp] theorem Device.waitNow_boot (t : Nat) : (d.waitNow t).boot = d.boot := by obtain ⟨a, b, c, p, h⟩ := d.waitNow_only t; rw [h]
@[simp] theorem Device.waitNow_pinLow (t : Nat) : (d.waitNow t).pinLow = d.pinLow := by obtain ⟨a, b, c, p, h⟩ := d.waitNow_only t; rw [h]
@[simp] theorem Device.waitNow_porLow (t : Nat) : (d.waitNow t).porLow = d.porLow := by obtain ⟨a, b, c, p, h⟩ := d.waitNow_only t; rw [h]
@[simp] theorem Device.waitNow_clkWait (t : Nat) : (d.waitNow t).clkWait = d.clkWait := by obtain ⟨a, b, c, p, h⟩ := d.waitNow_only t; rw [h]
@[simp] theorem Device.waitNow_change (t : Nat) : (d.waitNow t).change = d.change := by obtain ⟨a, b, c, p, h⟩ := d.waitNow_only t; rw [h]
@[simp] theorem Device.waitNow_flashSize (t : Nat) : (d.waitNow t).flashSize = d.flashSize := by obtain ⟨a, b, c, p, h⟩ := d.waitNow_only t; rw [h]
@[simp] theorem Device.waitNow_upd (t : Nat) : (d.waitNow t).upd = d.upd := by obtain ⟨a, b, c, p, h⟩ := d.waitNow_only t; rw [h]
@[simp] theorem Device.waitNow_host (t : Nat) : (d.waitNow t).host = d.host := by obtain ⟨a, b, c, p, h⟩ := d.waitNow_only t; rw [h]
@[simp] theorem Device.waitNow_pair (t : Nat) : (d.waitNow t).pair = d.pair := by obtain ⟨a, b, c, p, h⟩ := d.waitNow_only t; rw [h]
@[simp] theorem Device.waitNow_liveOut (t : Nat) : (d.waitNow t).liveOut = d.liveOut := by obtain ⟨a, b, c, p, h⟩ := d.waitNow_only t; rw [h]
@[simp] theorem Device.waitNow_staleLow (t : Nat) : (d.waitNow t).staleLow = d.staleLow := by obtain ⟨a, b, c, p, h⟩ := d.waitNow_only t; rw [h]

end Sys2Proof.Machine
end

