-- ==== Sys2Proof/Laws/Tab.lean ====
section
/-!
SUPPORT. Tables: what a read gives after a value is listed or a key is taken out.
-/

namespace Sys2Proof.Machine

variable {κ α : Type} [DecidableEq κ]

@[simp] theorem Tab.find_nil (k : κ) : Tab.find ([] : Tab κ α) k = none := rfl

@[simp] theorem Tab.get_nil (v : α) (k : κ) : Tab.get ([] : Tab κ α) v k = v := rfl

theorem Tab.find_set (t : Tab κ α) (k k' : κ) (v : α) :
    Tab.find (Tab.set t k v) k' = if k = k' then some v else Tab.find t k' := by
  induction t with
  | nil => simp [Tab.set, Tab.find]
  | cons p r ih =>
    obtain ⟨a, b⟩ := p
    unfold Tab.set
    split
    · subst_vars
      simp only [Tab.find]
      split <;> rfl
    · rename_i h
      simp only [Tab.find, ih]
      split
      · subst_vars
        simp [Ne.symm h]
      · rfl

@[simp] theorem Tab.find_set_same (t : Tab κ α) (k : κ) (v : α) : Tab.find (Tab.set t k v) k = some v := by
  simp [Tab.find_set]

@[simp] theorem Tab.get_set_same (t : Tab κ α) (d v : α) (k : κ) : Tab.get (Tab.set t k v) d k = v := by
  simp [Tab.get]

theorem Tab.get_set_other (t : Tab κ α) (d v : α) {k k' : κ} (h : k ≠ k') :
    Tab.get (Tab.set t k v) d k' = Tab.get t d k' := by
  simp [Tab.get, Tab.find_set, h]

theorem Tab.get_set (t : Tab κ α) (d v : α) (k k' : κ) :
    Tab.get (Tab.set t k v) d k' = if k = k' then v else Tab.get t d k' := by
  simp only [Tab.get, Tab.find_set]
  split <;> rfl

theorem Tab.find_del (t : Tab κ α) (k k' : κ) :
    Tab.find (Tab.del t k) k' = if k = k' then none else Tab.find t k' := by
  induction t with
  | nil => simp [Tab.del]
  | cons p r ih =>
    obtain ⟨a, b⟩ := p
    unfold Tab.del
    split
    · subst_vars
      rw [ih]
      split
      · rfl
      · simp_all [Tab.find]
    · rename_i h
      simp only [Tab.find, ih]
      split
      · subst_vars
        simp [Ne.symm h]
      · rfl

theorem Tab.get_del (t : Tab κ α) (d : α) (k k' : κ) :
    Tab.get (Tab.del t k) d k' = if k = k' then d else Tab.get t d k' := by
  simp only [Tab.get, Tab.find_del]
  split <;> rfl

end Sys2Proof.Machine
end

