-- ==== Sys2Proof/Laws/Ops.lean ====
section
/-!
SUPPORT. Register fields: what a field reads after another is written, an event is raised or an entry recorded.
-/

namespace Sys2Proof.Machine

variable (d : Device)

/-- A field reads as many bits as it has. -/
theorem Device.get_lt (f : Fld) (i : Nat) : d.get f i < 2 ^ f.width := Nat.mod_lt _ (by positivity)

theorem Device.getS_lt (f : Fld) (s i : Nat) : d.getS f s i < 2 ^ f.width := Nat.mod_lt _ (by positivity)

/-- A field reads what was put into it, and every other field reads as before. -/
theorem Device.get_put (f g : Fld) (i j v : Nat) :
    (d.put f i v).get g j = if f.id = g.id ∧ i = j then v % 2 ^ f.width % 2 ^ g.width else d.get g j := by
  simp only [Device.get, Device.put, Tab.get_set, Prod.mk.injEq, and_true]
  split_ifs <;> rfl

@[simp] theorem Device.get_put_same (f : Fld) (i v : Nat) : (d.put f i v).get f i = v % 2 ^ f.width := by
  simp [Device.get_put]

theorem Device.get_put_ne (f g : Fld) (i j v : Nat) (h : f.id ≠ g.id) : (d.put f i v).get g j = d.get g j := by
  simp [Device.get_put, h]

@[simp] theorem Device.get_putS (f g : Fld) (h i j v : Nat) : (d.putS f h i v).get g j = d.get g j := by
  simp only [Device.get, Device.putS, Tab.get_set, Prod.mk.injEq]
  rw [if_neg]
  omega

@[simp] theorem Device.getS_put (f g : Fld) (h i j v : Nat) : (d.put f i v).getS g h j = d.getS g h j := by
  simp only [Device.getS, Device.put, Tab.get_set, Prod.mk.injEq]
  rw [if_neg]
  omega

/-- A slot's copy of a field reads what was put into it, and every other copy reads as before. -/
theorem Device.getS_putS (f g : Fld) (h k i j v : Nat) :
    (d.putS f h i v).getS g k j = if f.id = g.id ∧ i = j ∧ h = k then v % 2 ^ f.width % 2 ^ g.width else d.getS g k j := by
  simp only [Device.getS, Device.putS, Tab.get_set, Prod.mk.injEq, Nat.add_right_cancel_iff]
  split_ifs <;> rfl

@[simp] theorem Device.getS_putS_same (f : Fld) (h i v : Nat) : (d.putS f h i v).getS f h i = v % 2 ^ f.width := by
  simp [Device.getS_putS]

/-- A field of a shared register depends on the register store alone. -/
theorem Device.get_congr {d e : Device} (h : d.regs = e.regs) (f : Fld) (i : Nat) : d.get f i = e.get f i := by
  unfold Device.get
  rw [h]

theorem Device.getS_congr {d e : Device} (h : d.regs = e.regs) (f : Fld) (s i : Nat) : d.getS f s i = e.getS f s i := by
  unfold Device.getS
  rw [h]

@[simp] theorem Device.get_quiet (f : Fld) (i : Nat) : d.quiet.get f i = d.get f i := rfl
@[simp] theorem Device.getS_quiet (f : Fld) (s i : Nat) : d.quiet.getS f s i = d.getS f s i := rfl
@[simp] theorem Device.get_emit (o : Out) (f : Fld) (i : Nat) : (d.emit o).get f i = d.get f i := rfl
@[simp] theorem Device.get_setSrc (k : Nat) (v : Src) (f : Fld) (i : Nat) : (d.setSrc k v).get f i = d.get f i := rfl
@[simp] theorem Device.get_setOut (k : Nat) (v : OutSt) (f : Fld) (i : Nat) : (d.setOut k v).get f i = d.get f i := rfl
@[simp] theorem Device.get_setBerth (k : Nat) (v : Berth) (f : Fld) (i : Nat) : (d.setBerth k v).get f i = d.get f i := rfl
@[simp] theorem Device.get_setChan (k : Nat) (v : Channel) (f : Fld) (i : Nat) : (d.setChan k v).get f i = d.get f i := rfl

@[simp] theorem Device.get_count (e u n : Nat) (f : Fld) (i : Nat) : (d.count e u n).get f i = d.get f i :=
  Device.get_congr (d.count_regs e u n) f i

@[simp] theorem Device.get_elapse (n : Nat) (f : Fld) (i : Nat) : (d.elapse n).get f i = d.get f i :=
  Device.get_congr (d.elapse_regs n) f i

@[simp] theorem Device.get_waitUntil (n : Nat) (f : Fld) (i : Nat) : (d.waitUntil n).get f i = d.get f i :=
  Device.get_congr (d.waitUntil_regs n) f i

@[simp] theorem Device.get_waitNow (n : Nat) (f : Fld) (i : Nat) : (d.waitNow n).get f i = d.get f i :=
  Device.get_congr (d.waitNow_regs n) f i

/-- An offer to a slot changes no shared register. -/
@[simp] theorem Device.get_offer (e : EvEntry) (h : Nat) (f : Fld) (i : Nat) : (d.offer e h).1.get f i = d.get f i := by
  unfold Device.offer
  split
  · split
    · rfl
    · simp
  · rfl

@[simp] theorem Device.get_offerAll (e : EvEntry) (f : Fld) (i : Nat) : (d.offerAll e).1.get f i = d.get f i := by
  have key : ∀ (l : List Nat) (p : Device × Bool),
      (l.foldl (fun p slot => let q := p.1.offer e slot; (q.1, p.2 || q.2)) p).1.get f i = p.1.get f i := by
    intro l
    induction l with
    | nil => intro p; rfl
    | cons h r ih => intro p; rw [List.foldl_cons, ih]; simp
  exact key (List.range 8) (d, false)

/-- An event that is raised reads 1, and a field that is neither it nor HOST_EVENTS.EVQ_OVERFLOW reads as before. -/
theorem Device.get_raise (f g : Fld) (a i : Nat) (h : f.id ≠ g.id ∨ i ≠ 0)
    (h' : F.HOST_EVENTS_EVQ_OVERFLOW.id ≠ g.id ∨ i ≠ 0) : (d.raise f a).get g i = d.get g i := by
  have e1 : ¬(f.id = g.id ∧ 0 = i) := by
    rintro ⟨x, y⟩
    exact h.elim (fun k => k x) (fun k => k y.symm)
  have e2 : ¬(F.HOST_EVENTS_EVQ_OVERFLOW.id = g.id ∧ 0 = i) := by
    rintro ⟨x, y⟩
    exact h'.elim (fun k => k x) (fun k => k y.symm)
  unfold Device.raise
  simp only
  split
  · rw [Device.get_offerAll, Device.get_put, if_neg e2, Device.get_offerAll, Device.get_put, if_neg e1]
  · rw [Device.get_offerAll, Device.get_put, if_neg e1]

theorem Device.get_raise_same (f : Fld) (a : Nat) (h : 0 < f.width) : (d.raise f a).get f = 1 := by
  have one : 1 % 2 ^ f.width = 1 := Nat.mod_eq_of_lt (Nat.one_lt_two_pow (by omega))
  unfold Device.raise
  simp only
  split
  · rw [Device.get_offerAll, Device.get_put]
    split
    · simp [F.HOST_EVENTS_EVQ_OVERFLOW, one]
    · simp [one]
  · simp [one]

/-- A record changes no field but the count of lost entries. -/
theorem Device.get_record (c s a b : Nat) (g : Fld) (i : Nat) (h : F.BBOX_LOST_COUNT.id ≠ g.id) :
    (d.record c s a b).get g i = d.get g i := by
  unfold Device.record
  split
  · simp [Device.bump, Device.get_put, h]
  · split
    · rfl
    · simp [Device.bump, Device.get_put, h]

end Sys2Proof.Machine
end

