-- ==== Sys2Proof/Laws/Bus.lean ====
section
/-!
SUPPORT. Register accesses: everything that an admitted write and an admitted read do.
-/

namespace Sys2Proof.Machine

/-- Nothing that decides about an access looks at what the last command sent. -/
theorem Chip.admits_quiet (c : Chip) (slot : Nat) (r : RegRow) (i w : Nat) :
    c.quiet.admits slot r i w = c.admits slot r i w := rfl

/-- What an admitted write does to the block, before its result is handed to the host: the word is stored, the
register's own effect follows, and on a holder the write is logged for the standby. -/
def Chip.carryOut (slot : Nat) (r : RegRow) (i w : Nat) (c : Chip) : Chip :=
  let c1 : Chip := { c with dev := c.dev.storeWords [(r, w)] r slot i }
  let c2 := c1.writeEffect slot r i w c.dev
  let c3 := c2.mapDev (fun (d : Device) => d.setAgain r slot i 0)
  let joined := c.dev.memberships
  let c4 := if r.base / 65536 = 8 ∨ r.base / 65536 = 11 then c3.mapDev (fun (d : Device) => (d.igmpUpdate (fun p => joined.getD p [])).hopScan) else c3
  c4.mapDev (fun (d : Device) => d.logWrite slot (r.base + r.stride * i) w)

/-- An admitted write to a register that is no half of a pair is carried out and answered with OK. -/
theorem writeTo_admits (slot : Nat) (r : RegRow) (i w : Nat) (s : State) (hs : slot < 8) (hw : w < 2 ^ 32)
    (hf : findReg (r.base + r.stride * i) = some (r, i)) (hlo : r.isLo = false) (hhi : r.lowOf = none)
    (ha : s.chip.admits slot r i w = true) :
    writeTo slot r i w s =
      .next { s with chip := (Chip.carryOut slot r i w s.chip.quiet).answer slot resOk [] } := by
  rw [← Chip.admits_quiet] at ha
  unfold writeTo onChip
  generalize s.chip.quiet = c at *
  simp only [Chip.admits, Bool.and_eq_true, Bool.not_eq_true'] at ha
  obtain ⟨⟨⟨⟨⟨⟨hp, hfault⟩, hrole⟩, hdef⟩, hdrop⟩, hres⟩, hbusy⟩ := ha
  have hfault' : c.dev.regFault slot (r.base + r.stride * i) 32 true = none := by
    cases h : c.dev.regFault slot (r.base + r.stride * i) 32 true <;> simp_all
  congr 2
  simp only [Chip.doWrite, Nat.mod_eq_of_lt hs, Nat.mod_eq_of_lt hw, hp, Bool.not_true, Bool.false_eq_true, if_false,
    Chip.hostWrite, hfault', hrole, hdef, Chip.regWrite, hf, hdrop, hlo, Device.writeWords, hhi, Device.unhold,
    List.any_cons, List.any_nil, hres, hbusy, Bool.or_self, List.foldl_cons, List.foldl_nil]
  rfl

/-! ### The log of a holder -/

/-- A write that is logged joins the pair's log and changes nothing else. -/
theorem Device.logWrite_only (d : Device) (h a v : Nat) : ∃ p, d.logWrite h a v = { d with pair := p } := by
  unfold Device.logWrite
  split
  · exact ⟨_, rfl⟩
  · exact ⟨d.pair, rfl⟩

@[simp] theorem Device.logWrite_out (d : Device) (h a v : Nat) : (d.logWrite h a v).out = d.out := by
  obtain ⟨p, e⟩ := d.logWrite_only h a v; rw [e]
@[simp] theorem Device.logWrite_regs (d : Device) (h a v : Nat) : (d.logWrite h a v).regs = d.regs := by
  obtain ⟨p, e⟩ := d.logWrite_only h a v; rw [e]
@[simp] theorem Device.logWrite_rwt (d : Device) (h a v : Nat) : (d.logWrite h a v).rwt = d.rwt := by
  obtain ⟨p, e⟩ := d.logWrite_only h a v; rw [e]
@[simp] theorem Device.logWrite_latch (d : Device) (h a v : Nat) : (d.logWrite h a v).latch = d.latch := by
  obtain ⟨p, e⟩ := d.logWrite_only h a v; rw [e]
@[simp] theorem Device.logWrite_held (d : Device) (h a v : Nat) : (d.logWrite h a v).held = d.held := by
  obtain ⟨p, e⟩ := d.logWrite_only h a v; rw [e]
@[simp] theorem Device.logWrite_deferred (d : Device) (h a v : Nat) : (d.logWrite h a v).deferred = d.deferred := by
  obtain ⟨p, e⟩ := d.logWrite_only h a v; rw [e]
@[simp] theorem Device.logWrite_free (d : Device) (h a v : Nat) : (d.logWrite h a v).free = d.free := by
  obtain ⟨p, e⟩ := d.logWrite_only h a v; rw [e]
@[simp] theorem Device.logWrite_now (d : Device) (h a v : Nat) : (d.logWrite h a v).now = d.now := by
  obtain ⟨p, e⟩ := d.logWrite_only h a v; rw [e]
@[simp] theorem Device.logWrite_devNs (d : Device) (h a v : Nat) : (d.logWrite h a v).devNs = d.devNs := by
  obtain ⟨p, e⟩ := d.logWrite_only h a v; rw [e]
@[simp] theorem Device.logWrite_devFrac (d : Device) (h a v : Nat) : (d.logWrite h a v).devFrac = d.devFrac := by
  obtain ⟨p, e⟩ := d.logWrite_only h a v; rw [e]
@[simp] theorem Device.logWrite_pwr (d : Device) (h a v : Nat) : (d.logWrite h a v).pwr = d.pwr := by
  obtain ⟨p, e⟩ := d.logWrite_only h a v; rw [e]
@[simp] theorem Device.logWrite_evq (d : Device) (h a v : Nat) : (d.logWrite h a v).evq = d.evq := by
  obtain ⟨p, e⟩ := d.logWrite_only h a v; rw [e]
@[simp] theorem Device.logWrite_evqRecv (d : Device) (h a v : Nat) : (d.logWrite h a v).evqRecv = d.evqRecv := by
  obtain ⟨p, e⟩ := d.logWrite_only h a v; rw [e]
@[simp] theorem Device.logWrite_bb (d : Device) (h a v : Nat) : (d.logWrite h a v).bb = d.bb := by
  obtain ⟨p, e⟩ := d.logWrite_only h a v; rw [e]
@[simp] theorem Device.logWrite_perf (d : Device) (h a v : Nat) : (d.logWrite h a v).perf = d.perf := by
  obtain ⟨p, e⟩ := d.logWrite_only h a v; rw [e]
@[simp] theorem Device.logWrite_chkRanges (d : Device) (h a v : Nat) : (d.logWrite h a v).chkRanges = d.chkRanges := by
  obtain ⟨p, e⟩ := d.logWrite_only h a v; rw [e]
@[simp] theorem Device.logWrite_berths (d : Device) (h a v : Nat) : (d.logWrite h a v).berths = d.berths := by
  obtain ⟨p, e⟩ := d.logWrite_only h a v; rw [e]
@[simp] theorem Device.logWrite_retiredAt (d : Device) (h a v : Nat) : (d.logWrite h a v).retiredAt = d.retiredAt := by
  obtain ⟨p, e⟩ := d.logWrite_only h a v; rw [e]
@[simp] theorem Device.logWrite_pinWait (d : Device) (h a v : Nat) : (d.logWrite h a v).pinWait = d.pinWait := by
  obtain ⟨p, e⟩ := d.logWrite_only h a v; rw [e]
@[simp] theorem Device.logWrite_srcs (d : Device) (h a v : Nat) : (d.logWrite h a v).srcs = d.srcs := by
  obtain ⟨p, e⟩ := d.logWrite_only h a v; rw [e]
@[simp] theorem Device.logWrite_layout (d : Device) (h a v : Nat) : (d.logWrite h a v).layout = d.layout := by
  obtain ⟨p, e⟩ := d.logWrite_only h a v; rw [e]
@[simp] theorem Device.logWrite_layoutReq (d : Device) (h a v : Nat) : (d.logWrite h a v).layoutReq = d.layoutReq := by
  obtain ⟨p, e⟩ := d.logWrite_only h a v; rw [e]
@[simp] theorem Device.logWrite_layoutPrev (d : Device) (h a v : Nat) : (d.logWrite h a v).layoutPrev = d.layoutPrev := by
  obtain ⟨p, e⟩ := d.logWrite_only h a v; rw [e]
@[simp] theorem Device.logWrite_outs (d : Device) (h a v : Nat) : (d.logWrite h a v).outs = d.outs := by
  obtain ⟨p, e⟩ := d.logWrite_only h a v; rw [e]
@[simp] theorem Device.logWrite_tick (d : Device) (h a v : Nat) : (d.logWrite h a v).tick = d.tick := by
  obtain ⟨p, e⟩ := d.logWrite_only h a v; rw [e]
@[simp] theorem Device.logWrite_chans (d : Device) (h a v : Nat) : (d.logWrite h a v).chans = d.chans := by
  obtain ⟨p, e⟩ := d.logWrite_only h a v; rw [e]
@[simp] theorem Device.logWrite_fchg (d : Device) (h a v : Nat) : (d.logWrite h a v).fchg = d.fchg := by
  obtain ⟨p, e⟩ := d.logWrite_only h a v; rw [e]
@[simp] theorem Device.logWrite_scrubDone (d : Device) (h a v : Nat) : (d.logWrite h a v).scrubDone = d.scrubDone := by
  obtain ⟨p, e⟩ := d.logWrite_only h a v; rw [e]
@[simp] theorem Device.logWrite_scrubStart (d : Device) (h a v : Nat) : (d.logWrite h a v).scrubStart = d.scrubStart := by
  obtain ⟨p, e⟩ := d.logWrite_only h a v; rw [e]
@[simp] theorem Device.logWrite_ceAt (d : Device) (h a v : Nat) : (d.logWrite h a v).ceAt = d.ceAt := by
  obtain ⟨p, e⟩ := d.logWrite_only h a v; rw [e]
@[simp] theorem Device.logWrite_mats (d : Device) (h a v : Nat) : (d.logWrite h a v).mats = d.mats := by
  obtain ⟨p, e⟩ := d.logWrite_only h a v; rw [e]
@[simp] theorem Device.logWrite_matWait (d : Device) (h a v : Nat) : (d.logWrite h a v).matWait = d.matWait := by
  obtain ⟨p, e⟩ := d.logWrite_only h a v; rw [e]
@[simp] theorem Device.logWrite_net (d : Device) (h a v : Nat) : (d.logWrite h a v).net = d.net := by
  obtain ⟨p, e⟩ := d.logWrite_only h a v; rw [e]
@[simp] theorem Device.logWrite_edges (d : Device) (h a v : Nat) : (d.logWrite h a v).edges = d.edges := by
  obtain ⟨p, e⟩ := d.logWrite_only h a v; rw [e]
@[simp] theorem Device.logWrite_healthAt (d : Device) (h a v : Nat) : (d.logWrite h a v).healthAt = d.healthAt := by
  obtain ⟨p, e⟩ := d.logWrite_only h a v; rw [e]
@[simp] theorem Device.logWrite_decs (d : Device) (h a v : Nat) : (d.logWrite h a v).decs = d.decs := by
  obtain ⟨p, e⟩ := d.logWrite_only h a v; rw [e]
@[simp] theorem Device.logWrite_decCmd (d : Device) (h a v : Nat) : (d.logWrite h a v).decCmd = d.decCmd := by
  obtain ⟨p, e⟩ := d.logWrite_only h a v; rw [e]
@[simp] theorem Device.logWrite_encs (d : Device) (h a v : Nat) : (d.logWrite h a v).encs = d.encs := by
  obtain ⟨p, e⟩ := d.logWrite_only h a v; rw [e]
@[simp] theorem Device.logWrite_encCmd (d : Device) (h a v : Nat) : (d.logWrite h a v).encCmd = d.encCmd := by
  obtain ⟨p, e⟩ := d.logWrite_only h a v; rw [e]
@[simp] theorem Device.logWrite_lanes (d : Device) (h a v : Nat) : (d.logWrite h a v).lanes = d.lanes := by
  obtain ⟨p, e⟩ := d.logWrite_only h a v; rw [e]
@[simp] theorem Device.logWrite_time (d : Device) (h a v : Nat) : (d.logWrite h a v).time = d.time := by
  obtain ⟨p, e⟩ := d.logWrite_only h a v; rw [e]
@[simp] theorem Device.logWrite_heldAfterTimeout (d : Device) (h a v : Nat) : (d.logWrite h a v).heldAfterTimeout = d.heldAfterTimeout := by
  obtain ⟨p, e⟩ := d.logWrite_only h a v; rw [e]
@[simp] theorem Device.logWrite_touch (d : Device) (h a v : Nat) : (d.logWrite h a v).touch = d.touch := by
  obtain ⟨p, e⟩ := d.logWrite_only h a v; rw [e]
@[simp] theorem Device.logWrite_boot (d : Device) (h a v : Nat) : (d.logWrite h a v).boot = d.boot := by
  obtain ⟨p, e⟩ := d.logWrite_only h a v; rw [e]
@[simp] theorem Device.logWrite_pinLow (d : Device) (h a v : Nat) : (d.logWrite h a v).pinLow = d.pinLow := by
  obtain ⟨p, e⟩ := d.logWrite_only h a v; rw [e]
@[simp] theorem Device.logWrite_porLow (d : Device) (h a v : Nat) : (d.logWrite h a v).porLow = d.porLow := by
  obtain ⟨p, e⟩ := d.logWrite_only h a v; rw [e]
@[simp] theorem Device.logWrite_clkWait (d : Device) (h a v : Nat) : (d.logWrite h a v).clkWait = d.clkWait := by
  obtain ⟨p, e⟩ := d.logWrite_only h a v; rw [e]
@[simp] theorem Device.logWrite_change (d : Device) (h a v : Nat) : (d.logWrite h a v).change = d.change := by
  obtain ⟨p, e⟩ := d.logWrite_only h a v; rw [e]
@[simp] theorem Device.logWrite_flashSize (d : Device) (h a v : Nat) : (d.logWrite h a v).flashSize = d.flashSize := by
  obtain ⟨p, e⟩ := d.logWrite_only h a v; rw [e]
@[simp] theorem Device.logWrite_upd (d : Device) (h a v : Nat) : (d.logWrite h a v).upd = d.upd := by
  obtain ⟨p, e⟩ := d.logWrite_only h a v; rw [e]
@[simp] theorem Device.logWrite_host (d : Device) (h a v : Nat) : (d.logWrite h a v).host = d.host := by
  obtain ⟨p, e⟩ := d.logWrite_only h a v; rw [e]
@[simp] theorem Device.logWrite_liveOut (d : Device) (h a v : Nat) : (d.logWrite h a v).liveOut = d.liveOut := by
  obtain ⟨p, e⟩ := d.logWrite_only h a v; rw [e]
@[simp] theorem Device.logWrite_staleLow (d : Device) (h a v : Nat) : (d.logWrite h a v).staleLow = d.staleLow := by
  obtain ⟨p, e⟩ := d.logWrite_only h a v; rw [e]

@[simp] theorem Device.get_logWrite (d : Device) (h a v : Nat) (f : Fld) (i : Nat) : (d.logWrite h a v).get f i = d.get f i :=
  Device.get_congr (d.logWrite_regs h a v) f i

@[simp] theorem Device.getS_logWrite (d : Device) (h a v : Nat) (f : Fld) (s i : Nat) :
    (d.logWrite h a v).getS f s i = d.getS f s i := Device.getS_congr (d.logWrite_regs h a v) f s i

@[simp] theorem Device.get2_eq (d : Device) (lo hi : Fld) (i : Nat) : d.get2 lo hi i = d.get lo i + 2 ^ 32 * d.get hi i := rfl

/-! ### Reads -/

/-- What an admitted read does: the read's own effect, and its word to the host. -/
def Chip.readOut (slot : Nat) (r : RegRow) (i : Nat) (c : Chip) : Chip :=
  let q := c.dev.regRead r slot i 0
  Chip.answer slot resOk (beBytes 4 q.2) { c with dev := q.1 }

/-- An admitted read hands the host what the register read gives. -/
theorem readFrom_admits (slot : Nat) (r : RegRow) (i : Nat) (s : State) (hs : slot < 8)
    (hf : findReg (r.base + r.stride * i) = some (r, i)) (ha : s.chip.admitsRead slot r i = true) :
    readFrom slot r i s =
      .next { s with chip := s.chip.quiet.readOut slot r i } := by
  have ha' : s.chip.quiet.admitsRead slot r i = true := ha
  unfold readFrom onChip
  generalize s.chip.quiet = c at *
  simp only [Chip.admitsRead, Bool.and_eq_true] at ha'
  obtain ⟨hp, hfault⟩ := ha'
  have hfault' : c.dev.regFault slot (r.base + r.stride * i) 32 false = none := by
    cases h : c.dev.regFault slot (r.base + r.stride * i) 32 false <;> simp_all
  simp only [Chip.doRead, Nat.mod_eq_of_lt hs, hp, Bool.not_true, Bool.false_eq_true, if_false, Chip.hostRead, hfault', hf]
  rfl

end Sys2Proof.Machine
end

