-- ==== Sys2Proof/Laws/Memory.lean ====
section
/-!
SUPPORT. Byte memories: the canonical form is kept by every operation, and a byte reads as it was written last.
-/

namespace Sys2Proof.Machine

variable (z : Byte)

theorem Cells.wfFrom_mono {lo lo' : Nat} (h : lo' ≤ lo) {m : Cells} (hm : Cells.wfFrom z lo m = true) :
    Cells.wfFrom z lo' m = true := by
  cases m with
  | nil => rfl
  | cons p r =>
    obtain ⟨a, b⟩ := p
    simp only [Cells.wfFrom, Bool.and_eq_true, decide_eq_true_eq] at hm ⊢
    exact ⟨⟨le_trans h hm.1.1, hm.1.2⟩, hm.2⟩

theorem Cells.write_wfFrom {lo : Nat} {m : Cells} (hm : Cells.wfFrom z lo m = true) {a : Nat} (ha : lo ≤ a) (v : Byte) :
    Cells.wfFrom z lo (Cells.write z m a v) = true := by
  induction m generalizing lo with
  | nil =>
    unfold Cells.write
    split
    · rfl
    · simp_all [Cells.wfFrom]
  | cons p r ih =>
    obtain ⟨b, w⟩ := p
    simp only [Cells.wfFrom, Bool.and_eq_true, decide_eq_true_eq] at hm
    obtain ⟨⟨hlo, hw⟩, hr⟩ := hm
    unfold Cells.write
    split
    · split
      · simp_all [Cells.wfFrom]
      · simp_all [Cells.wfFrom]
    · split
      · subst_vars
        split
        · exact Cells.wfFrom_mono z (by omega) hr
        · simp_all [Cells.wfFrom]
      · simp only [Cells.wfFrom, Bool.and_eq_true, decide_eq_true_eq]
        exact ⟨⟨hlo, hw⟩, ih hr (by omega)⟩

theorem Cells.read_below {lo : Nat} {m : Cells} (hm : Cells.wfFrom z lo m = true) {a : Nat} (ha : a < lo) :
    Cells.read z m a = z := by
  cases m with
  | nil => rfl
  | cons p r =>
    obtain ⟨b, w⟩ := p
    simp only [Cells.wfFrom, Bool.and_eq_true, decide_eq_true_eq] at hm
    unfold Cells.read
    split
    · omega
    · split
      · rfl
      · omega

/-- A byte reads as it was written, and every other byte as before. -/
theorem Cells.read_write {lo : Nat} {m : Cells} (hm : Cells.wfFrom z lo m = true) (a a' : Nat) (v : Byte) :
    Cells.read z (Cells.write z m a v) a' = if a' = a then v else Cells.read z m a' := by
  induction m generalizing lo with
  | nil =>
    by_cases hv : v = z
    · simp [Cells.write, Cells.read, hv]
    · simp only [Cells.write, hv, if_false, Cells.read]
      split_ifs <;> first | rfl | omega
  | cons p r ih =>
    obtain ⟨b, w⟩ := p
    simp only [Cells.wfFrom, Bool.and_eq_true, decide_eq_true_eq] at hm
    obtain ⟨⟨_, hw⟩, hr⟩ := hm
    have below : ∀ x, x ≤ b → Cells.read z r x = z := fun x hx => Cells.read_below z hr (by omega)
    rcases lt_trichotomy a b with h | h | h
    · by_cases hv : v = z
      · by_cases h' : a' = a
        · subst h' hv
          simp [Cells.write, Cells.read, h, show ¬b = a' by omega]
        · simp [Cells.write, h, hv, h']
      · simp only [Cells.write, h, hv, if_true, if_false, Cells.read]
        split_ifs <;> first | rfl | omega
    · subst h
      by_cases hv : v = z
      · subst hv
        simp only [Cells.write, lt_irrefl, if_true, if_false, Cells.read]
        split_ifs <;> first | rfl | omega | exact below a' (by omega)
      · simp only [Cells.write, lt_irrefl, hv, if_true, if_false, Cells.read]
        split_ifs <;> first | rfl | omega
    · simp only [Cells.write, show ¬a < b by omega, show ¬a = b by omega, if_false, Cells.read, ih hr]
      split_ifs <;> first | rfl | omega

theorem Cells.writeList_wfFrom {lo : Nat} (l : List Byte) : ∀ {m : Cells} {a : Nat}, Cells.wfFrom z lo m = true → lo ≤ a →
    Cells.wfFrom z lo (Cells.writeList z m a l) = true := by
  induction l with
  | nil => intro m a hm _; exact hm
  | cons b r ih => intro m a hm ha; exact ih (Cells.write_wfFrom z hm ha b) (by omega)

/-- Bytes outside a list that is written read as before. -/
theorem Cells.read_writeList_outside {lo : Nat} (l : List Byte) : ∀ {m : Cells} {a : Nat}, Cells.wfFrom z lo m = true →
    lo ≤ a → ∀ a', a' < a ∨ a + l.length ≤ a' → Cells.read z (Cells.writeList z m a l) a' = Cells.read z m a' := by
  induction l with
  | nil => intros; rfl
  | cons b r ih =>
    intro m a hm ha a' h
    simp only [List.length_cons] at h
    rw [Cells.writeList, ih (Cells.write_wfFrom z hm ha b) (by omega) a' (by omega), Cells.read_write z hm]
    split
    · omega
    · rfl

/-- A list that is written reads back, byte for byte. -/
theorem Cells.read_writeList_inside {lo : Nat} (l : List Byte) : ∀ {m : Cells} {a : Nat}, Cells.wfFrom z lo m = true →
    lo ≤ a → ∀ k, (h : k < l.length) → Cells.read z (Cells.writeList z m a l) (a + k) = l[k] := by
  induction l with
  | nil => intro m a _ _ k h; simp at h
  | cons b r ih =>
    intro m a hm ha k h
    cases k with
    | zero =>
      rw [Cells.writeList, Cells.read_writeList_outside z r (Cells.write_wfFrom z hm ha b) (by omega) _ (by omega),
        Cells.read_write z hm]
      simp
    | succ k =>
      have hk : k < r.length := by simpa using h
      have := ih (m := Cells.write z m a b) (a := a + 1) (Cells.write_wfFrom z hm ha b) (by omega) k hk
      rw [Cells.writeList, show a + (k + 1) = a + 1 + k by omega, this]
      rfl

/-- Taking cells out keeps the canonical form. -/
theorem Cells.filter_wfFrom (f : Host.Cell → Bool) : ∀ {m : Cells} {lo : Nat}, Cells.wfFrom z lo m = true →
    Cells.wfFrom z lo (m.filter f) = true := by
  intro m
  induction m with
  | nil => intros; rfl
  | cons p r ih =>
    obtain ⟨b, w⟩ := p
    intro lo hm
    simp only [Cells.wfFrom, Bool.and_eq_true, decide_eq_true_eq] at hm
    rw [List.filter_cons]
    split
    · simp only [Cells.wfFrom, Bool.and_eq_true, decide_eq_true_eq]
      exact ⟨hm.1, ih hm.2⟩
    · exact Cells.wfFrom_mono z (by omega) (ih hm.2)

variable {z}

theorem Dram.write_wf {m : Dram} (hm : m.wf = true) (a : Nat) (v : Byte) : (Dram.write m a v).wf = true :=
  Cells.write_wfFrom 0 hm (Nat.zero_le a) v

theorem Dram.writeList_wf {m : Dram} (hm : m.wf = true) (a : Nat) (l : List Byte) : (Dram.writeList m a l).wf = true :=
  Cells.writeList_wfFrom 0 l hm (Nat.zero_le a)

theorem Dram.read_write {m : Dram} (hm : m.wf = true) (a a' : Nat) (v : Byte) :
    Dram.read (Dram.write m a v) a' = if a' = a then v else Dram.read m a' :=
  Cells.read_write 0 hm a a' v

theorem Dram.read_writeList_outside {m : Dram} (hm : m.wf = true) (a : Nat) (l : List Byte) (a' : Nat)
    (h : a' < a ∨ a + l.length ≤ a') : Dram.read (Dram.writeList m a l) a' = Dram.read m a' :=
  Cells.read_writeList_outside 0 l hm (Nat.zero_le a) a' h

theorem Dram.read_writeList_inside {m : Dram} (hm : m.wf = true) (a : Nat) (l : List Byte) (k : Nat) (h : k < l.length) :
    Dram.read (Dram.writeList m a l) (a + k) = l[k] :=
  Cells.read_writeList_inside 0 l hm (Nat.zero_le a) k h

theorem Flash.writeList_wf {m : Flash} (hm : m.wf = true) (a : Nat) (l : List Byte) : (Flash.writeList m a l).wf = true :=
  Cells.writeList_wfFrom 0xFF l hm (Nat.zero_le a)

theorem Flash.filter_wf {m : Flash} (hm : m.wf = true) (f : Host.Cell → Bool) : Flash.wf (m.filter f) = true :=
  Cells.filter_wfFrom 0xFF f hm

theorem Dram.wf_nil : Dram.wf [] = true := rfl
theorem Flash.wf_nil : Flash.wf [] = true := rfl

end Sys2Proof.Machine
end

