-- ==== Sys2Proof/Tests/Slice0.lean ====
section
/-!
SUPPORT. Tests. For every statement with hypotheses, a theorem `witness_<Statement>` shows a concrete state and
operands that meet its hypotheses, clause by clause at the ends of the ranges, and for most also what one command
then does. Values the model leaves open (`Config`) have no body, so a clause whose premise fixes one has no
witness; its other premises have. `test_wf_…` show operands no command can carry, one over its bound in each; the
other `test_…` are the spec's worked examples and check values. The kernel evaluates every one (`decide +kernel`).
-/

namespace Sys2Proof.Tests

set_option maxRecDepth 100000
set_option Elab.async false

open Sys2Proof.Machine

/-! ## Sample states -/

/-- A device whose fields have these values: listed in front of the others, so that they are the ones read. -/
def putAll (l : List (Fld × Nat × Nat)) (d : Device) : Device :=
  { d with regs := l.map (fun (x : Fld × Nat × Nat) => ((x.1.id, x.2.1, 0), x.2.2)) ++ d.regs }

/-- After reset with every domain out of reset and every slot permitted on every block, in power state `p`. -/
def deviceAt (p : Pwr) : Device :=
  putAll ((F.RST_CLK_STATUS_IN_RESET, 0, 0) :: (List.range 24).map (fun (i : Nat) => (F.HOST_PROT_PERM_PERM, i, 0xAAAA)))
    { Device.reset with pwr := p, clkWait := [], regs := [] }

/-- The state of a device with erased memories and an empty queue. -/
def stateOf (d : Device) : State := ⟨[], ⟨Memory.reset, d⟩⟩

/-- `stateOf` with `deviceAt`. -/
def live (p : Pwr) : State := stateOf (deviceAt p)

/-- The state after a command. -/
def after (c : Instr) (s : State) : State :=
  match exec c s with
  | .next t => t
  | _ => s

/-- In tick 5 of RUN, at its edge. -/
def ticking5 : Device :=
  { deviceAt .run with
    tick := { Tick.reset with running := true, inTick := true, everEdge := true, num := 5, last := 4 }
    devNs := 83333333
    edges := 6 }

/-- A HEALTH message of a standby in SHADOW. -/
def shadowMsg : HealthMsg := ⟨3, 2, false, 0, 0, none, 0, [], ⟨0, 0, 0, 0, 0, 0⟩⟩

/-- In tick 5 as a unit of a pair with the given role. -/
def pairAs (role : Nat) : Device := (ticking5.put F.PAIR_STATUS_ROLE 0 role).put F.PAIR_CTRL_EN 0 1

/-- Media port 0 is UP with unit address 10.0.0.1. -/
def portUp0 (d : Device) : Device := (d.put F.NET_PORT_STATUS_STATE 0 2).put F.NET_PORT_ADDR0_ADDR 0 0x0A000001

/-- A UDP frame on port 0 to a destination address and port. -/
def udpTo (dst dport : Nat) : RxHdr :=
  ⟨0, 2 ^ 48 - 1, 0x020000000099, none, 64, 0x0800, true, true, false, 0x0A000002, dst, 17, 1000, dport, true, 0, 0⟩

/-- A Fuhel request of slot 0 in session 1. -/
def request (seq : Nat) : FuhelHdr := ⟨udpTo 0x0A000001 48920, 1, seq, 0⟩

/-- Slot 0 is bound to Fuhel on media port 0. -/
def fuhelHost (d : Device) : Device := (((portUp0 d).put F.HOST_PROT_ROUTE_ROUTE 0 3).put F.HOST_PROT_ROUTE_PORT 0 0).put F.HOST_PROT_PEER_VALUE 0 0x0A000002

/-- The session of slot 0 whose request 0 was carried out last. -/
def session1 : FuhelSess := ⟨1, 0, 0x0A000002, 1000, 0, some (0x3F, 0, []), 0, none⟩
def inSession1 : State := stateOf ((fuhelHost (deviceAt .ready)).setSess 0 session1)

/-! ## Register accesses -/

theorem witness_StepRunsTheFrontCommand :
    ({ live .ready with pending := [Instr.spiStatus] } : State).pending = Instr.spiStatus :: [] := by decide +kernel
theorem witness_EmptyQueueLetsTimePass : State.reset.pending = [] := by decide +kernel

/-- R6, R7, R385: widths, alignment, the end of the map, and a slot without permission. -/
theorem witness_RegisterAccessFaults :
    let d := (deviceAt .standby).put F.HOST_PROT_PERM_PERM 19 0x2AAA
    d.pd1On = true ∧ d.inBoot = false ∧ findReg 0x130004 = some (R.GPIO_OUT, 0) ∧ R.GPIO_OUT.perSlot = false ∧ d.perm 7 19 ≠ 2 ∧
    (after (.registerWrite 7 0x130004 32 1 0) (stateOf d)).chip.dev.getS F.HOST_SLOT_STATUS_FAULT_REASON 7 = whyPerm ∧
    (after (.registerWrite 7 0x13FFFE 32 1 0) (stateOf d)).chip.dev.getS F.HOST_SLOT_STATUS_FAULT_REASON 7 = whyAlign ∧
    (after (.registerWrite 7 0x13FFFF 16 1 0) (stateOf d)).chip.dev.getS F.HOST_FAULT_ADDR_LO_ADDR_LO 7 = 0x13FFFF ∧
    (after (.registerWrite 7 0x140002 8 1 0) (stateOf d)).chip.dev.out = [.result 7 resFault []] ∧
    (after (.rcRead 7 0x140001 0) (stateOf d)).chip.dev.out = [.result 7 resFault [0, 0, 0, 0]] ∧
    (after (.registerWrite 7 0x130004 16 1 0) (stateOf d)).chip.dev.getS F.HOST_FAULT_ADDR_LO_ADDR_LO 7 = 0x130004 ∧
    (after (.rcRead 7 0x140000 0) (stateOf d)).chip.dev.getS F.HOST_SLOT_STATUS_FAULT_REASON 7 = whyRange := by decide +kernel

/-- R8: the last word of the map. -/
theorem witness_UndefinedOffsetsReadZeroAndIgnoreWrites :
    findReg 0x13FFFC = none ∧ (deviceAt .standby).regFault 7 0x13FFFC 32 true = none ∧ (deviceAt .standby).regFault 7 0x13FFFC 32 false = none ∧
    (deviceAt .standby).roleRefuses 19 false = false ∧ ((deviceAt .standby).defers && carried 0x13FFFC) = false := by decide +kernel

/-- R10, R466: RATE 13 is reserved, a change of RATE in RUN is busy, and a held low half counts. -/
theorem witness_ReservedAndBusyWritesAreDropped :
    findReg 0x20000 = some (R.TICK_CTRL, 0) ∧ R.TICK_CTRL.isLo = false ∧ (deviceAt .ready).regFault 0 0x20000 32 true = none ∧
    ((deviceAt .ready).ownDrop R.TICK_CTRL 0 13).1 = false ∧ (deviceAt .ready).reservedWrite R.TICK_CTRL 0 13 = true ∧
    (deviceAt .run).busyWrite R.TICK_CTRL 0 0 8 = true ∧
    (let held := (after (.loWriteHold 0 0x40000 0x1000) (live .run)).chip.dev
     held.writeWords R.CMP_LAYOUT_TABLE_HI 0 0 0 = [(R.CMP_LAYOUT_TABLE_LO, 0x1000), (R.CMP_LAYOUT_TABLE_HI, 0)] ∧
     held.busyWrite R.CMP_LAYOUT_TABLE_LO 0 0 0x1000 = true ∧ findReg 0x40004 = some (R.CMP_LAYOUT_TABLE_HI, 0) ∧
     R.CMP_LAYOUT_TABLE_HI.isLo = false ∧ held.regFault 0 0x40004 32 true = none ∧ (held.ownDrop R.CMP_LAYOUT_TABLE_HI 0 0).1 = false ∧
     (after (.hiWriteApply 0 0x40004 0) (stateOf held)).chip.dev.get F.CMP_LAYOUT_TABLE_LO_ADDR_LO = 0) ∧
    (after (.registerWrite 3 0x20000 32 13 0) (live .ready)).chip.dev.get F.SYS_CFG_DROP_SLOT = 3 ∧
    (after (.registerWrite 3 0x20000 32 13 0) (live .ready)).chip.dev.get F.TICK_CTRL_RATE = 9 ∧
    (after (.registerWrite 3 0x20000 32 8 0) (live .run)).chip.dev.get F.SYS_EVENTS_CFG_DROPPED = 1 := by decide +kernel

/-- R11 to R13: a store in GPIO, and RWT fields in and outside RUN. -/
theorem witness_FieldsFollowTheirAccessCodes :
    (live .standby).chip.admits 7 R.GPIO_OUT 0 0xFFFFFF = true ∧ storeOnly R.GPIO_OUT = true ∧
    (live .standby).chip.admits 0 R.RST_CAUSE 0 1 = true ∧ storeOnly R.RST_CAUSE = true ∧
    (live .run).chip.admits 0 R.TICK_ADM_MARGIN 0 0 = true ∧ (live .ready).chip.admits 0 R.TICK_ADM_MARGIN 0 0 = true ∧
    R.TICK_ADM_MARGIN.base / 65536 = 2 ∧ R.TICK_ADM_MARGIN.base ≠ R.TICK_PAGE_FLUSH.base ∧
    (live .ready).chip.admits 0 R.TICK_CTRL 0 8 = true ∧ R.TICK_CTRL.base / 65536 = 2 ∧
    (after (.registerWrite 0 0x20000 32 8 0) (live .ready)).chip.dev.get F.TICK_CTRL_RATE = 8 ∧
    (after (.registerWrite 0 0x10000 32 1 0) (live .standby)).chip.dev.get F.RST_CAUSE_POR = 0 ∧
    (after (.registerWrite 0 0x10000 32 1 1) (live .standby)).chip.dev.get F.RST_CAUSE_POR = 1 := by decide +kernel

/-- R14, R15: a counter read while an event is counted (the example of R14), and the halves of TICK_NUM. -/
theorem witness_ReadsClearLatchAndReturnTheWord :
    let s := stateOf ((deviceAt .ready).put F.NET_DROP_IPV6_COUNT 0 41)
    findReg 0x80018 = some (R.NET_DROP_IPV6, 0) ∧ s.chip.admitsRead 0 R.NET_DROP_IPV6 0 = true ∧ s.chip.dev.hidden R.NET_DROP_IPV6 0 = false ∧
    popRow R.NET_DROP_IPV6 = false ∧ R.NET_DROP_IPV6.lowOf = none ∧
    (after (.rcRead 0 0x80018 1) s).chip.dev.out = [.result 0 resOk [0, 0, 0, 41]] ∧
    (after (.rcRead 0 0x80018 1) s).chip.dev.get F.NET_DROP_IPV6_COUNT = 1 ∧
    R.TICK_NUM_LO ∈ loRows ∧ R.TICK_NUM_LO.highOf = some R.TICK_NUM_HI ∧ popRow R.TICK_NUM_LO = false ∧
    findReg R.TICK_NUM_LO.base = some (R.TICK_NUM_LO, 0) ∧ s.chip.admitsRead 7 R.TICK_NUM_LO 0 = true ∧
    s.chip.admitsRead 7 R.TICK_NUM_HI 0 = true ∧ Tab.find s.chip.dev.latch (R.TICK_NUM_HI.key 7 0) = none ∧
    (after (.loReadLatch 7 R.TICK_NUM_LO.base) s).chip.admitsRead 7 R.TICK_NUM_HI 0 = true := by decide +kernel

/-- R16: the halves of CMP_POOL_BASE of class 7. -/
theorem witness_HalvesAreWrittenTogether :
    let s := after (.loWriteHold 0 0x401B8 0x1000) (live .ready)
    R.CMP_POOL_BASE_LO ∈ loRows ∧ R.CMP_POOL_BASE_HI.lowOf = some R.CMP_POOL_BASE_LO ∧
    (live .ready).chip.admits 0 R.CMP_LAYOUT_TABLE_LO 0 0x1000 = true ∧ (live .ready).chip.admits 0 R.CMP_LAYOUT_TABLE_HI 0 0 = true ∧
    findReg R.CMP_LAYOUT_TABLE_LO.base = some (R.CMP_LAYOUT_TABLE_LO, 0) ∧ findReg R.CMP_LAYOUT_TABLE_HI.base = some (R.CMP_LAYOUT_TABLE_HI, 0) ∧
    Tab.find (live .ready).chip.dev.held (R.CMP_LAYOUT_TABLE_LO.key 0 0) = none ∧
    Tab.find (after (.loWriteHold 0 R.CMP_LAYOUT_TABLE_LO.base 0x1000) (live .ready)).chip.dev.held (R.CMP_LAYOUT_TABLE_LO.key 0 0) = some 0x1000 ∧
    s.chip.dev.regs = (live .ready).chip.dev.regs ∧
    R.FRS_IMG_TABLE_HI.lowOf = some R.FRS_IMG_TABLE_LO ∧ F.FRS_IMG_TABLE_HI_ADDR_HI.acc = .rwt ∧
    findReg R.FRS_IMG_TABLE_LO.base = some (R.FRS_IMG_TABLE_LO, 0) ∧ findReg R.FRS_IMG_TABLE_HI.base = some (R.FRS_IMG_TABLE_HI, 0) ∧
    (live .run).chip.admits 0 R.FRS_IMG_TABLE_LO 0 64 = true ∧ (live .run).chip.admits 0 R.FRS_IMG_TABLE_HI 0 255 = true ∧
    (live .ready).chip.admits 0 R.FRS_IMG_TABLE_HI 0 255 = true ∧
    Tab.find (after (.hiWriteApply 0 R.FRS_IMG_TABLE_HI.base 255) (live .run)).chip.dev.rwt (F.FRS_IMG_TABLE_HI_ADDR_HI.id, 0, 0) = some 255 ∧
    (after (.hiWriteApply 0 R.FRS_IMG_TABLE_HI.base 255) (live .ready)).chip.dev.get F.FRS_IMG_TABLE_HI_ADDR_HI = 255 := by decide +kernel

/-- R281, R292: a standby in RUN, and a holder after 0.85 T of tick 5 with a standby in SHADOW. -/
theorem witness_RoleAndDeferralOfWrites :
    let d := pairAs 3
    let h : Device := { pairAs 2 with pair := { PairX.empty with partner := some shadowMsg }, devNs := 99000000 }
    d.regFault 0 0x130004 32 true = none ∧ d.holds = false ∧ 0x130004 / 65536 ∉ [9, 11, 16, 17] ∧ isEvq 0x130004 = false ∧
    (after (.registerWrite 0 0x130004 32 1 0) (stateOf d)).chip.dev.out = [.result 0 resRole []] ∧
    h.holds = true ∧ h.partnerShadow = true ∧ h.pointNs h.tick.num 85 < h.devNs ∧ h.regFault 0 0x130004 32 true = none ∧
    (after (.registerWrite 0 0x130004 32 1 0) (stateOf h)).chip.dev.deferred = [(0, 0x130004, 1)] := by decide +kernel

/-! ## Hosts -/

/-- R381: a queue with one entry, and an empty one. -/
theorem witness_EventQueuesAreReadOldestFirst :
    let e : EvEntry := ⟨19, 2, 7, 5, 9⟩
    let s := stateOf { deviceAt .ready with evq := [(0, [e])] }
    s.chip.admitsRead 0 R.HOST_EVQ_POP0 0 = true ∧ s.chip.admitsRead 7 R.HOST_EVQ_POP0 0 = true ∧
    s.chip.dev.queue 0 = [e] ∧ s.chip.dev.queue 7 = [] ∧
    (after (.evqPop 0) s).chip.dev.out = [.result 0 resOk (beBytes 4 (19 * 2 ^ 27 + 2 * 2 ^ 22 + 7))] ∧
    (after (.evqPop 7) s).chip.dev.out = [.result 7 resOk [255, 255, 255, 255]] := by decide +kernel

/-- Slot 2 is bound to SPI. -/
def spiHost : Device := (deviceAt .ready).put F.HOST_PROT_ROUTE_ROUTE 2 1

/-- R369 to R371: a bound slot, and none. -/
theorem witness_SpiRegisterTransactions :
    (live .ready).chip.dev.pd1On = true ∧ (live .ready).chip.dev.inBoot = false ∧ (live .ready).chip.dev.spiSlot = none ∧
    spiHost.pd1On = true ∧ spiHost.inBoot = false ∧ spiHost.spiSlot = some 2 ∧
    (stateOf spiHost).chip.admits 2 R.GPIO_OUT 0 0xFFFFFF = true ∧ findReg 0x130004 = some (R.GPIO_OUT, 0) ∧
    (stateOf spiHost).chip.admitsRead 2 R.GPIO_OUT 0 = true ∧ popRow R.GPIO_OUT = false ∧ R.GPIO_OUT.lowOf = none ∧
    spiHost.hidden R.GPIO_OUT 0 = false ∧
    (after (.spiRegWrite 0x130004 5) (stateOf spiHost)).chip.dev.get F.GPIO_OUT_OUT = 5 ∧
    (after (.spiRegRead 0x130001) (stateOf spiHost)).chip.dev.host.spi.last = resFault := by decide +kernel

/-- Slot 2 on SPI may write region 0, the first 4 MiB; bytes 1 and 2 stand at address 16. -/
def spiRegion : Device :=
  ((spiHost.put F.HOST_PROT_RGN_BASE_BASE 0 0).put F.HOST_PROT_RGN_SIZE_PAGES 0 1024).put F.HOST_PROT_RGN_PERM_PERM 0 0xAAAA
def spiFilled : State := ⟨[], ⟨{ Memory.reset with dram := [(16, 1), (17, 2)] },
  { spiRegion.setPtr 2 16 with host := { HostX.empty with spi := ⟨0, none, some [1, 2]⟩ } }⟩⟩
def spiFetching : State := ⟨[], ⟨Memory.reset, { spiRegion with host := { HostX.empty with spi := ⟨0, some 4, none⟩ } }⟩⟩

/-- R370, R371, R378: a write and a fetch that are permitted, a buffer that is filled, and a fetch in progress. -/
theorem witness_SpiDataPort :
    spiFilled.chip.mem.dram.wf = true ∧ spiFilled.chip.dev.spiSlot = some 2 ∧ spiFilled.chip.dev.host.spi.fetching = none ∧
    spiFilled.chip.dev.dpTarget 2 = 0 ∧ spiFilled.chip.dev.dramRefused 2 16 2 true = none ∧ spiFilled.chip.dev.roleRefuses 20 false = false ∧
    spiFilled.chip.dev.mirrorFull 2 = false ∧ spiFilled.chip.mem.badPartial 16 2 = [] ∧ spiFilled.chip.dev.dramRefused 2 16 256 false = none ∧
    spiFilled.chip.mem.poison = [] ∧ spiFilled.chip.dev.host.spi.buffer = some [1, 2] ∧
    spiFetching.chip.dev.spiSlot = some 2 ∧ spiFetching.chip.dev.host.spi.fetching.isSome = true ∧
    (after (.spiDpFetch 2) spiFilled).chip.dev.host.spi.buffer = some [1, 2] ∧
    (after (.spiDpFetch 257) spiFilled).chip.dev.host.spi.last = resFormat ∧
    (after (.spiDpWrite [9, 8]) spiFilled).chip.mem.dram = [(16, 9), (17, 8)] := by decide +kernel

/-- R368, R373 to R375: no session, a session of the same and of another peer. -/
theorem witness_FuhelSessionsOpenAndClose :
    let s := stateOf (fuhelHost (deviceAt .ready))
    let other := stateOf ((fuhelHost (deviceAt .ready)).setSess 0 { session1 with ip := 0x0A000003 })
    s.chip.hears (request 1) = true ∧ s.chip.dev.sess 0 = none ∧
    other.chip.hears (request 1) = true ∧ other.chip.dev.sess 0 = some { session1 with ip := 0x0A000003 } ∧
    inSession1.chip.hears (request 1) = true ∧ inSession1.chip.dev.sess 0 = some session1 ∧ session1.num = (request 1).session ∧
    session1.ip = (request 1).rx.src ∧ (request 1).seq = (session1.seq + 1) % 2 ^ 32 ∧
    ((after (.fuhelOpen (request 0)) s).chip.dev.sess 0).map FuhelSess.num = some 1 ∧
    (after (.fuhelClose (request 1)) inSession1).chip.dev.sess 0 = none ∧
    (after (.fuhelSessionTimeout 0) inSession1).chip.dev.sess 0 = none := by decide +kernel

/-- R373, R375, R377: the next SEQ, the SEQ before, and one out of order. -/
theorem witness_FuhelRequestsRunOnce :
    inSession1.chip.hears (request 1) = true ∧ inSession1.chip.dev.sess 0 = some session1 ∧
    inSession1.chip.hears (request 0) = true ∧ session1.kept = some (0x3F, 0, []) ∧ (request 0).seq = session1.seq ∧
    (request 0).seq ≠ (session1.seq + 1) % 2 ^ 32 ∧ (request 2).seq ≠ session1.seq ∧ (request 2).seq ≠ (session1.seq + 1) % 2 ^ 32 ∧
    (after (.fuhelKeepalive (request 1)) inSession1).chip.dev.out = [inSession1.chip.response (request 1) 0x3F 1 resOk []] ∧
    (after (.fuhelEvqAck (request 2) 1) inSession1).chip.dev.get F.HOST_CNT_SEQ_DROP_COUNT = 1 := by decide +kernel

/-- In a tick, with and without 20 µs left before its end (R376). -/
def sessionInTick (ns : Nat) : State :=
  stateOf (((({ fuhelHost ticking5 with devNs := ns } : Device).put F.HOST_PROT_RGN_BASE_BASE 0 0).put F.HOST_PROT_RGN_SIZE_PAGES 0 1024).put
    F.HOST_PROT_RGN_PERM_PERM 0 0xAAAA |>.setSess 0 session1)

/-- R373, R376, R378, R379. -/
theorem witness_FuhelAccessesAreTheSlots :
    let s := sessionInTick 84000000
    let late := sessionInTick 99990000
    s.chip.hears (request 1) = true ∧ s.chip.dev.sess 0 = some session1 ∧ s.chip.dev.inBoot = false ∧ s.chip.dev.mayStart = true ∧
    s.chip.admitsRead 0 R.GPIO_OUT 0 = true ∧ storeOnly R.GPIO_OUT = true ∧ s.chip.admits 0 R.GPIO_OUT 0 5 = true ∧
    late.chip.hears (request 1) = true ∧ late.chip.dev.sess 0 = some session1 ∧ late.chip.dev.mayStart = false ∧
    s.chip.dev.dramRefused 0 0x3FF000 4096 true = none ∧ s.chip.dev.roleRefuses 20 false = false ∧ s.chip.dev.mirrorFull 4096 = false ∧
    s.chip.mem.dram.wf = true ∧ s.chip.dev.dramRefused 0 0x3FF000 4096 false = none ∧ s.chip.mem.poison = [] ∧
    (after (.fuhelRegWrite (request 1) [(0x130004, 5)]) s).chip.dev.out = [s.chip.response (request 1) 0x11 1 resOk [0, 1]] ∧
    (after (.fuhelRegWrite (request 1) [(0x130004, 5)]) late).chip.dev.get F.GPIO_OUT_OUT = 0 := by decide +kernel

/-- R377: entries to send, an EVENT in hand, and an empty queue. -/
theorem witness_FuhelEventsAreSentAndRepeated :
    let e : EvEntry := ⟨19, 2, 7, 5, 9⟩
    let s := { inSession1 with chip := { inSession1.chip with dev := { inSession1.chip.dev with evq := [(0, [e])] } } }
    let t := after (.fuhelEventSend 0) s
    s.chip.dev.sess 0 = some session1 ∧ s.chip.dev.queue 0 ≠ [] ∧ session1.eventNs = none ∧
    t.chip.dev.sess 0 = some { session1 with eventNs := some 0 } ∧ t.chip.dev.queue 0 ≠ [] ∧ inSession1.chip.dev.queue 0 = [] ∧
    (after (.fuhelEventRepeat 0) t).chip.dev.now = 100000000 := by decide +kernel

/-- Debug unlocked for slot 0 in PRODUCTION; blocks and DRAM region 0 are granted to slot 0 only. -/
def unlockedDebug : Device :=
  let d := ((deviceAt .ready).put F.HOST_LC_STATUS_STATE 0 1).put F.HOST_LC_STATUS_DBG_UNLOCKED 0 1
  let d := forN 24 (fun (i : Nat) (d : Device) => d.put F.HOST_PROT_PERM_PERM i 2) d
  (d.put F.HOST_PROT_RGN_SIZE_PAGES 0 1024).put F.HOST_PROT_RGN_PERM_PERM 0 2

/-- R388 to R392: each life-cycle state, a response in PRODUCTION, debug shut, unlocked, and something LOCKED. -/
theorem witness_LifeCycleAndDebug :
    let shut := (deviceAt .ready).put F.HOST_LC_STATUS_STATE 0 1
    let locked := unlockedDebug.put F.HOST_PROT_PERM_LOCKED 19 1
    (live .ready).chip.admits 0 R.HOST_LC_CMD 0 1 = true ∧ (live .ready).chip.dev.get F.HOST_LC_STATUS_STATE = 0 ∧
    (stateOf unlockedDebug).chip.admits 0 R.HOST_LC_CMD 0 2 = true ∧ unlockedDebug.get F.HOST_LC_STATUS_STATE = 1 ∧
    unlockedDebug.on F.HOST_LC_STATUS_DBG_UNLOCKED = true ∧ shut.pd1On = true ∧ shut.get F.HOST_LC_STATUS_STATE = 1 ∧
    shut.on F.HOST_LC_STATUS_DBG_UNLOCKED = false ∧ shut.host.debugWait ≤ shut.now ∧ shut.dbgOpen = false ∧
    locked.dbgLocked (.regWrite 0x130004 5) 0 = some 0x130004 ∧ unlockedDebug.dbgLocked (.regWrite 0x130004 5) 0 = none ∧
    (stateOf unlockedDebug).chip.admits 0 R.GPIO_OUT 0 5 = true ∧ unlockedDebug.dbgLocked (.dpWrite 0 0 [1]) 0 = none ∧
    unlockedDebug.dramRefused 0 0 1 true = none ∧ unlockedDebug.roleRefuses 20 false = false ∧ unlockedDebug.mirrorFull 1 = false ∧
    (after (.lcToProduction 0) (live .ready)).chip.mem.otp.lc = 1 ∧
    (after (.lcToDecommissioned 0) (stateOf unlockedDebug)).chip.mem.otp.lc = 2 ∧
    (after (.lcToDecommissioned 0) (stateOf shut)).chip.mem.otp.lc = 0 ∧
    (after (.debugAccess (.regWrite 0x130004 5)) (stateOf locked)).chip.dev.get F.GPIO_OUT_OUT = 0 := by decide +kernel

/-! ## Ticks, sources, outputs -/

/-- R21, R27: READY, RUN, and RUN about to leave it. -/
theorem witness_TickEdgesBeginTicks :
    let leaving : Device := { ticking5 with tick := { ticking5.tick with leave := true } }
    (deviceAt .ready).pwr ≠ .run ∧ ticking5.pwr = .run ∧ ticking5.stepWaits = false ∧ ticking5.follows = false ∧ ticking5.deferred = [] ∧
    ticking5.host.late = [] ∧ ticking5.tick.leave = false ∧ ticking5.upd.swap = none ∧
    leaving.stepWaits = false ∧ leaving.follows = false ∧ leaving.deferred = [] ∧ leaving.host.late = [] ∧ leaving.tick.leave = true := by decide +kernel

/-- R25, R27, R30: a tick not published and not judged, one published, and a stopped tick engine. -/
theorem witness_WorkListAndSentinelJudgeTheTick :
    let shown : Device := { ticking5 with tick := { ticking5.tick with published := true, publishedOk := true, sealRan := true, sysBeat := some 5, watchBeat := some 4 } }
    let step : Device := { ticking5 with time := { TimeX.empty with due := some (0, 5) } }
    ticking5.tick.inTick = true ∧ ticking5.tick.published = false ∧ (∀ e ∈ [8, 9, 10, 11], ticking5.stopped e = false) ∧
    shown.tick.inTick = true ∧ shown.tick.published = true ∧ shown.tick.judged = false ∧ shown.certifiable = true ∧
    (∃ e ∈ [8, 9, 10, 11], (ticking5.put F.SYS_ENGINE_STATUS_STOPPED 0 0x800).stopped e = true) ∧
    step.tick.inTick = true ∧ step.pwr = .run ∧ step.stepWaits = true ∧
    (after .sentinelCertify (stateOf shown)).chip.dev.get F.TICK_STATUS_CERT = 1 ∧
    (after .sentinelCertify (stateOf ticking5)).chip.dev.get F.TICK_EVENTS_SENTINEL_MISS = 1 := by decide +kernel

/-- Source 255 with a fresh berth, in state `st` after `good` edges without a violation. -/
def sourceIn (st good latch : Nat) : Device :=
  let d := ((ticking5.put F.FRS_SRC_STATE_STATE 255 st).put F.FRS_SRC_CFG_LATCH 255 latch).setBerth 3 { Berth.empty with st := .sealed, capture := 5 }
  d.setSrc 255 { Src.empty with newest := some 3, input := some 3, recov := good, chg := 5 }

/-- R44, R50, R51, R53: a source without a frame, and one that is LIVE, STALE, STALE with LATCH, and LATCHED. -/
theorem witness_SourceFreshnessStateMachine :
    (ticking5.aged 255 5 || ticking5.frozen 255 5) = true ∧ ((sourceIn 0 0 0).aged 255 5 || (sourceIn 0 0 0).frozen 255 5) = false ∧
    (sourceIn 1 0 0).get F.FRS_SRC_STATE_STATE 255 = 1 ∧ ((sourceIn 1 0 0).src 255).recov + 1 < (sourceIn 1 0 0).get F.FRS_SRC_CFG_RECOVER 255 ∧
    (sourceIn 1 1 0).get F.FRS_SRC_CFG_RECOVER 255 ≤ ((sourceIn 1 1 0).src 255).recov + 1 ∧
    (sourceIn 1 1 0).on F.FRS_SRC_CFG_LATCH 255 = false ∧ (sourceIn 1 1 1).on F.FRS_SRC_CFG_LATCH 255 = true ∧
    (sourceIn 2 0 1).get F.FRS_SRC_STATE_STATE 255 = 2 ∧
    ((sourceIn 1 0 0).staleUpdate 255 5 false false false).get F.FRS_SRC_STATE_STATE 255 = 1 ∧
    ((sourceIn 1 1 0).staleUpdate 255 5 false false false).get F.FRS_SRC_STATE_STATE 255 = 0 ∧
    ((sourceIn 1 1 1).staleUpdate 255 5 false false false).get F.FRS_SRC_STATE_STATE 255 = 2 ∧
    ((sourceIn 2 0 1).staleUpdate 255 5 false false true).get F.FRS_SRC_STATE_STATE 255 = 0 ∧
    (live .run).chip.admits 0 R.FRS_ACK 0 (F.FRS_ACK_SOURCE.at 255) = true ∧ (live .run).chip.admits 0 R.FRS_ACK 0 (F.FRS_ACK_ALL.at 1) = true := by
  decide +kernel

/-- A layout with outputs 0 and 1 of 64 x 64 pixels and no layers, in force; output 0 took berth 3. -/
def out0 : OutRec := ⟨0, 0, 0, 64, 64, 0xF0, 0xF000, 0, 0, []⟩
def layout0 : Layout := ⟨1, [out0, { out0 with out := 1 }], 0, 0, 0, [], [], []⟩
def composing : Device :=
  { ticking5 with layout := some layout0, outs := [(0, { OutSt.empty with berth := some 3 })], tick := { ticking5.tick with published := true, work := [(0, 255), (0, 0)] } }

/-- R37 to R40, R47, R71: a tile of the last row, every entry cached; the same with a curve that is not cached. -/
theorem witness_TilesAreRecordedAsBlended :
    let lut : OutRec := { out0 with postLut := 5 }
    let wanting : Device := { composing with layout := some { layout0 with outs := [lut] } }
    composing.layout = some layout0 ∧ layout0.outs.find? (fun q => decide (q.out = 0)) = some out0 ∧ (composing.outp 0).berth = some 3 ∧
    composing.tick.inTick = true ∧ composing.tick.published = true ∧ composing.tick.sealRan = false ∧
    composing.inHand 0 255 = true ∧ wanting.inHand 0 0 = true ∧ Tab.find (composing.outp 0).tiles 255 = none ∧ (0, 255) ∉ composing.tick.abandoned ∧
    (composing.tileKeys Memory.reset layout0 out0 255).all composing.cached = true ∧
    (composing.tileKeys Memory.reset layout0 out0 255).any composing.badEntry = false ∧ composing.tileCorrupt layout0 out0 255 = false ∧
    (wanting.tileKeys Memory.reset { layout0 with outs := [lut] } lut 0).all wanting.cached = false ∧
    (after (.tileBlendComplete 0 0 1) (stateOf wanting)).chip.dev.tick.stalled = [(0, 0, 1)] ∧
    ((after (.tileBlendComplete 0 255 1) (stateOf composing)).chip.dev.outp 0).tiles.map Prod.fst = [255] ∧
    (live .run).chip.dev.tick.heldSize 0 + 1 ≤ cacheCap 0 ∧ (live .run).chip.dev.tick.heldSize 2 + 1 ≤ cacheCap 2 ∧
    (after (.pagerFetchComplete 0 5) (live .run)).chip.dev.cached (0, 5) = true ∧
    (live .run).chip.admits 7 R.TICK_PAGE_FLUSH 0 1 = true := by decide +kernel

/-- R29, R64: output 0 with its tiles missing, output 1 without a berth. -/
theorem witness_SealDeadlineSealsEveryOutput :
    composing.tick.inTick = true ∧ composing.tick.sealRan = false ∧ composing.layout = some layout0 ∧
    (layout0.outs.map (fun r => r.out)).Nodup ∧ (composing.outp 0).berth = some 3 ∧ (composing.outp 1).berth = none ∧
    Tab.find (composing.outp 0).tiles 0 = none ∧ (composing.outp 0).prev = none ∧ composing.unblended = 256 := by decide +kernel

/-- What output 0 sealed in tick 4. -/
def sealed4 : SealedOut := ⟨4, some 3, [], false, out0, [], [], []⟩
def sendingOut (sent : Nat) (due : Bool) : Device :=
  ({ composing with outs := [] } : Device).setOut 0
    { OutSt.empty with prev := some sealed4, sending := some sealed4, started := true, paths := [0], npk := 64, sentPk := sent, stampDue := due }

/-- The frame of `sealed4` begun in tick 5, so that it runs past the next edge. -/
def tail4 (sent : Nat) (due : Bool) : OutTail := ⟨sealed4, false, 5, 1000000, 9, [0], 64, sent, [], false, due, false, 7, 0, ⟨4, 0, 0, 0, 0⟩, false⟩
def overrun (sent : Nat) (due : Bool) : Device := composing.setOut 0 { OutSt.empty with seq := 8, tail := some (tail4 sent due) }

/-- R65, R66, R67, R74: a frame due and none due, packets to send, a tile whose last packet is out, a stamp due,
and a frame that runs past an edge. -/
theorem witness_OutputsAreSentCheckedAndStamped :
    let ready := ({ composing with outs := [] } : Device).setOut 0 { OutSt.empty with prev := some sealed4 }
    ready.tick.inTick = true ∧ ready.present 0 = true ∧ (ready.outp 0).started = false ∧ ready.frameDue 0 = some sealed4 ∧
    (ready.outp 0).lastTick = none ∧ composing.present 1 = true ∧ composing.frameDue 1 = none ∧
    ((sendingOut 0 false).outp 0).sending = some sealed4 ∧ ((sendingOut 0 false).outp 0).sentPk < ((sendingOut 0 false).outp 0).npk ∧
    ((sendingOut 0 false).outp 0).paths ≠ [] ∧ (sendingOut 0 false).tick.inTick = true ∧
    ((sendingOut 64 false).outp 0).failed = false ∧ 0 ∈ ((sendingOut 64 false).outp 0).paths ∧ (0, 255) ∉ ((sendingOut 64 false).outp 0).checked ∧
    (sendingOut 64 false).tileLastPacket 0 out0 255 < 64 ∧ ((sendingOut 64 true).outp 0).stampDue = true ∧
    ((sendingOut 64 true).outp 0).tail = none ∧ ((overrun 3 false).outp 0).tail = some (tail4 3 false) ∧ (tail4 3 false).sentPk < (tail4 3 false).npk ∧
    ((overrun 64 true).outp 0).tail = some (tail4 64 true) ∧ (tail4 64 true).stampDue = true ∧
    ((after (.videoPacketSend 0 0) (stateOf (overrun 3 false))).chip.dev.outp 0).tail = some { tail4 4 false with ext := 10 } ∧
    ((after (.outputFrameSendStart 0) (stateOf ready)).chip.dev.outp 0).sending = some sealed4 ∧
    ((after (.stampSend 0) (stateOf (sendingOut 64 true))).chip.dev.outp 0).stampDone = true ∧
    (after (.loopbackTileCheck 0 0 255 [1]) (stateOf (sendingOut 64 false))).chip.dev.get F.FRS_LOOPBACK_STATUS_TILE = 255 := by decide +kernel

/-! ## Layouts and berths -/

/-- A layout table of two records at 0, record 1 whole and without outputs (its CHECK is CRC-32C by hand). -/
def tableMem : Memory :=
  { Memory.reset with dram := [(4096, 0x4F), (4097, 0x59), (4098, 0x41), (4099, 0x4C), (4100, 1),
      (4156, 0xF0), (4157, 0x81), (4158, 0xF7), (4159, 0xE7)] }
def tableDev : Device := (deviceAt .run).put F.CMP_TABLE_SIZE_LAYOUTS 0 2
def asking (r : LayoutReq) : Device := { ticking5 with layoutReq := some r }
def request0 : LayoutReq := ⟨0, 1, 0, layout0, false, false, false, 0⟩

/-- R95, R97, R99, R101: a request refused for its index, for its record, accepted, busy; one to prepare, late, timed out. -/
theorem witness_LayoutRequestsAreJudgedInOrder :
    let s : State := ⟨[], ⟨tableMem, tableDev⟩⟩
    s.chip.admits 0 R.CMP_LAYOUT_SEL 0 (F.CMP_LAYOUT_SEL_INDEX.at 1) = true ∧ s.chip.admits 0 R.CMP_LAYOUT_SEL 0 (F.CMP_LAYOUT_SEL_INDEX.at 255) = true ∧
    s.chip.dev.layoutReq = none ∧ s.chip.dev.get F.CMP_TABLE_SIZE_LAYOUTS ≤ 255 ∧ 1 < s.chip.dev.get F.CMP_TABLE_SIZE_LAYOUTS ∧
    recordOk s.chip.mem s.chip.dev.layoutTable 0 = false ∧ recordOk s.chip.mem (s.chip.dev.layoutTable + 4096) 1 = true ∧
    (after (.layoutRequest 0 255) s).chip.dev.get F.CMP_LAYOUT_STATUS_RESULT = LayoutResult.range.code ∧
    (after (.layoutRequest 3 1) (stateOf (asking request0))).chip.dev.get F.CMP_LAYOUT_STATUS_RESULT = LayoutResult.busy.code ∧
    (asking request0).layoutReq = some request0 ∧ request0.same = false ∧ request0.prepared = false ∧
    (stateOf (asking request0)).chip.admits 0 R.CMP_LAYOUT_SEL 0 (F.CMP_LAYOUT_SEL_CANCEL.at 1) = true ∧
    (asking { request0 with at_ := 5 }).tick.running = true ∧
    (asking { request0 with edges := 120 }).get F.CMP_SWITCH_CFG_TIMEOUT ≤ 120 ∧ request0.edges < (asking request0).get F.CMP_SWITCH_CFG_TIMEOUT ∧
    (let l : Layout := { layout0 with outs := [{ out0 with layerCount := 1, layers := [0] }] }
     let bad := asking { request0 with layout := l }
     let whole (d : Device) (l : Layout) : Bool :=
       d.prefetchOk Memory.reset (d.readTables Memory.reset l.outs) (d.imageRefs (l.sources (d.readTables Memory.reset l.outs).desc))
     whole (asking request0) layout0 = true ∧ whole bad l = false ∧
     (after .layoutPrepareComplete (stateOf bad)).chip.dev.get F.CMP_LAYOUT_STATUS_RESULT = LayoutResult.descriptor.code) ∧
    (after .layoutPrepareComplete (stateOf (asking request0))).chip.dev.layoutReq = some { request0 with prepared := true } ∧
    (after .layoutLate (stateOf (asking { request0 with at_ := 5 }))).chip.dev.get F.CMP_LAYOUT_STATUS_RESULT = LayoutResult.late.code ∧
    (after .layoutTimeout (stateOf (asking { request0 with edges := 120 }))).chip.dev.layoutReq = none := by decide +kernel

/-- Two moored stacks of output 0 in force, the second with a tile of two spill blocks; the same in the cache. -/
def moorStack (t : MoorStore) : MoorStack := ⟨out0, 0, 0, [], [t]⟩
def spilledNow : Device := { composing with layout := some { layout0 with moored := [moorStack .empty, moorStack (.spill [4, 7] [])] } }
def movedNow : List MoorStack := [moorStack .empty, moorStack (.cache 2 [])]

/-- R97 to R99, R101, R110. -/
theorem witness_SwitchEdgesPutTheLayoutInForce :
    (asking { request0 with prepared := true }).mirrorBlocks = false ∧ request0.index < 256 ∧ request0.same = false ∧
    composing.layout = some layout0 ∧
    firstSpill (spilledNow.tick.moving.getD spilledNow.stacksNow) = some ([4, 7], []) ∧ spilledNow.moorCacheUsed + 2 ≤ 65536 ∧
    (after .moorSpillMoveComplete (stateOf spilledNow)).chip.dev.tick.moving = some movedNow ∧
    (after .moorSpillMoveComplete (stateOf spilledNow)).chip.dev.movesEdge.layout = some { layout0 with moored := movedNow } ∧
    ((asking { request0 with prepared := true }).layoutEdge 6).layout = some layout0 ∧
    ((asking { request0 with cancel := true }).layoutEdge 6).get F.CMP_LAYOUT_STATUS_RESULT = LayoutResult.cancelled.code ∧
    ((asking { request0 with same := true }).layoutEdge 6).get F.CMP_LAYOUT_STATUS_RESULT = LayoutResult.done.code := by decide +kernel

/-- One pool of four berths of 64 KiB; berth 3 is the newest of source 255 and sealed by output 0. -/
def pinDev (p : Pwr) : Device :=
  let d := ((deviceAt p).put F.CMP_POOL_CFG_COUNT 0 4).put F.CMP_POOL_CFG_SIZE 0 1
  let d := (d.setBerth 3 { Berth.empty with st := .sealed }).setSrc 255 { Src.empty with newest := some 3 }
  ({ d with layout := some layout0 } : Device).setOut 0 { OutSt.empty with prev := some sealed4 }

/-- R112, R117, R119: queries, pins by source and output that succeed and that do not, in and outside RUN. -/
theorem witness_BerthRegistersAndPins :
    let s := stateOf (pinDev .ready)
    let r := stateOf (pinDev .run)
    s.chip.admits 0 R.CMP_BERTH_QUERY 0 16383 = true ∧
    s.chip.admits 0 R.CMP_BERTH_PIN 0 (F.CMP_BERTH_PIN_OP.at 1 + F.CMP_BERTH_PIN_ID.at 255) = true ∧
    r.chip.admits 0 R.CMP_BERTH_PIN 0 (F.CMP_BERTH_PIN_OP.at 1 + F.CMP_BERTH_PIN_ID.at 255) = true ∧
    (s.chip.dev.src 255).newest = some 3 ∧ s.chip.dev.getS F.CMP_BERTH_PIN_PINNED 0 = 0 ∧ (s.chip.dev.src 0).newest = none ∧
    s.chip.dev.unusedRes (s.chip.dev.classOf 3) < (s.chip.dev.freeOf (s.chip.dev.classOf 3)).length ∧
    s.chip.admits 0 R.CMP_BERTH_PIN 0 (F.CMP_BERTH_PIN_OP.at 2 + F.CMP_BERTH_PIN_ID.at 31) = true ∧ s.chip.dev.present 31 = false ∧
    s.chip.dev.present 0 = true ∧ s.chip.dev.outNewest 0 = some 3 ∧
    r.chip.admits 0 R.CMP_BERTH_PIN 0 (F.CMP_BERTH_PIN_OP.at 2 + F.CMP_BERTH_PIN_ID.at 31) = true ∧
    s.chip.admits 0 R.CMP_BERTH_PIN 0 (F.CMP_BERTH_PIN_OP.at 3) = true ∧ r.chip.admits 0 R.CMP_BERTH_PIN 0 (F.CMP_BERTH_PIN_OP.at 3) = true ∧
    s.chip.admits 0 R.CMP_POOL_CFG 7 (F.CMP_POOL_CFG_COUNT.at 2 + F.CMP_POOL_CFG_SIZE.at 1) = true ∧
    s.chip.admits 0 R.CMP_POOL_CFG 0 (F.CMP_POOL_CFG_COUNT.at 4 + F.CMP_POOL_CFG_SIZE.at 1) = true ∧
    s.chip.admits 0 R.CMP_POOL_CFG 0 (F.CMP_POOL_CFG_COUNT.at 2 + F.CMP_POOL_CFG_SIZE.at 1) = true ∧
    (after (.poolConfigWrite 0 R.CMP_POOL_CFG.base (F.CMP_POOL_CFG_COUNT.at 4 + F.CMP_POOL_CFG_SIZE.at 1)) s).chip.dev.berths = s.chip.dev.berths ∧
    (after (.poolConfigWrite 0 R.CMP_POOL_CFG.base (F.CMP_POOL_CFG_COUNT.at 2 + F.CMP_POOL_CFG_SIZE.at 1)) s).chip.dev.berths = [] ∧
    (after (.berthPinRelease 0) (after (.berthPinSource 0 255) r)).chip.dev.pinWait = [(0, 1, 255), (0, 3, 0)] ∧
    (after (.berthPinSource 0 255) s).chip.dev.getS F.CMP_BERTH_PIN_BERTH 0 = 3 ∧
    (after (.berthPinOutput 0 31) s).chip.dev.get F.CMP_EVENTS_PIN_REFUSED = 1 := by decide +kernel

/-- R103, R138, R152: an output owned by nobody, by another slot; the last host matrix and a built-in one. -/
theorem witness_OwnersAndMatrixEntries :
    let s := live .ready
    let o := stateOf ((deviceAt .ready).put F.CMP_OUT_OWNER_SLOT 31 4)
    s.chip.admits 0 R.CMP_OUT_OWNER 31 (F.CMP_OUT_OWNER_SLOT.at 0) = true ∧ s.chip.dev.get F.CMP_OUT_OWNER_SLOT 31 = 15 ∧
    o.chip.admits 0 R.CMP_OUT_OWNER 31 (F.CMP_OUT_OWNER_SLOT.at 0) = true ∧ o.chip.dev.get F.CMP_OUT_OWNER_SLOT 31 ≠ 0 ∧
    o.chip.dev.get F.CMP_OUT_OWNER_SLOT 31 ≠ 15 ∧
    s.chip.admits 0 R.PIX_MAT_COMMIT 0 (F.PIX_MAT_COMMIT_INDEX.at 239) = true ∧ s.chip.admits 0 R.PIX_MAT_COMMIT 0 (F.PIX_MAT_COMMIT_INDEX.at 240) = true ∧
    stageOk (s.chip.dev.staged 0) = true ∧ (live .run).chip.admits 0 R.PIX_MAT_COMMIT 0 (F.PIX_MAT_COMMIT_INDEX.at 239) = true ∧
    s.chip.admits 0 R.PIX_MAT_QUERY 0 (F.PIX_MAT_QUERY_INDEX.at 255) = true ∧
    (after (.outOwnerWrite 0 31 0) o).chip.dev.get F.CMP_EVENTS_OWNER_DENIED = 1 ∧
    (after (.matCommit 0 240) s).chip.dev.get F.SYS_EVENTS_CFG_DROPPED = 1 := by decide +kernel

/-! ## Media -/

/-- Flow 0 on port 0 to UDP port 5000, form `form`, source 0 of one pixel pair; berth 0 of a pool fills with its frame 7. -/
def flowDev (form : Nat) : Device :=
  let d := ((portUp0 (deviceAt .ready)).put F.NET_RX_FLOW_CFG_EN 0 1).put F.NET_RX_FLOW_CFG_FORM 0 form
  let d := (d.put F.NET_RX_FLOW_DST_VALUE 0 0x0A000001).put F.NET_RX_FLOW_UDP_PORT 0 5000
  let d := (d.put F.NET_SRC_SIZE_WIDTH 0 2).put F.NET_SRC_SIZE_HEIGHT 0 1
  let d := (d.put F.CMP_POOL_CFG_COUNT 0 4).put F.CMP_POOL_CFG_SIZE 0 1
  (d.setBerth 0 { Berth.empty with st := .filling, kind := 1 }).setIng 0 ⟨[⟨7, some 0, 0, [], 0, 0⟩], [(6, [3])], none, none⟩
def flowPkt : RxHdr := udpTo 0x0A000001 5000
def pixels : VideoPkt := ⟨2, 9, 7, false, [⟨0, 0, false, [1, 2, 3, 4, 5]⟩]⟩

/-- R209, R213, R217, R218, R220: frames of no flow, a malformed packet, one seen before, one that completes its frame. -/
theorem witness_IngestStoresEachPacketOnce :
    let d := flowDev 0
    d.classify { flowPkt with etype := 0x86DD } = .ipv6 ∧
    d.classify { flowPkt with frag := true } = .fragment ∧ d.classify { flowPkt with sumOk := false } = .malformed ∧
    d.classify { flowPkt with dport := 5001 } = .unmatched ∧ d.classify flowPkt = .flow 0 ∧
    d.get F.NET_RX_FLOW_CFG_FORM 0 = 0 ∧ d.videoOk 0 pixels = true ∧ d.videoOk 0 { pixels with version := 1 } = false ∧
    (d.ing 0).seen.any (fun (q : Nat × List Nat) => decide (3 ∈ q.2)) = true ∧ d.videoOk 0 { pixels with seq := 3 } = true ∧
    (d.ing 0).seen.any (fun (q : Nat × List Nat) => decide (9 ∈ q.2)) = false ∧ d.ingestFull 0 = false ∧
    rowsDone 0 2 1 (pixels.segs.foldl (fun (r : Tab Nat Nat) (g : Segment) => Tab.upd r 0 g.line (fun v => v ||| segMask 0 g)) []) = true ∧
    (d.berth 0).unacked = 0 ∧ (d.src 0).lastTs = none ∧ (d.berth 0).corrupt = false ∧ (d.berth 0).kind = 1 ∧
    ((after (.ingestPacketReceive flowPkt pixels) (stateOf (d.setBerth 0 { d.berth 0 with corrupt := true }))).chip.dev.src 0).newest = none ∧
    ((after (.ingestPacketReceive flowPkt pixels) (stateOf (d.setSrc 0 { Src.empty with lastTs := some 8 }))).chip.dev.get F.NET_SRC_CNT_DISCARD_COUNT 0 = 1) ∧
    ((after (.ingestPacketReceive flowPkt pixels) (stateOf (d.setBerth 0 { d.berth 0 with unacked := 1 }))).chip.dev.berth 0).done = true ∧
    (after (.ingestSkewTimeout 0 7) (stateOf d)).chip.dev.get F.NET_SRC_CNT_DISCARD_COUNT 0 = 1 ∧
    (d.ing 0).filling.find? (fun (x : Filling) => decide (x.ts = 7)) = some ⟨7, some 0, 0, [], 0, 0⟩ ∧
    (d.ing 0).filling.find? (fun (x : Filling) => decide (x.ts = 8)) = none ∧
    ((after (.ingestPacketReceive flowPkt pixels) (stateOf d)).chip.dev.src 0).newest = some 0 ∧
    (after (.ingestPacketReceive flowPkt pixels) (stateOf d)).chip.mem.dram = [(0, 1), (1, 2), (2, 3), (3, 4), (4, 5)] ∧
    (after (.mediaFrameDrop { flowPkt with etype := 0x86DD }) (stateOf d)).chip.dev.get F.NET_DROP_IPV6_COUNT = 1 := by decide +kernel

/-- A waiting next hop with three requests sent, a cached one, a report to repeat and a querier of version 2. -/
def netDev : Device :=
  let d := portUp0 (deviceAt .ready)
  { d with net := { d.net with arpWait := [⟨0, 0x0A000009, 3, 0⟩], arp := [⟨0, 0x0A000008, 7, 0⟩], igmpRepeat := [⟨0, 5, []⟩], igmpV2 := [(0, 8)] } }

/-- R209, R211, R212: requests, replies, timers and queries. -/
theorem witness_NetworkQueriesAreAnswered :
    let d := netDev
    let h := udpTo 0x0A000001 0
    d.classify { h with etype := 0x0806 } = .arp ∧ d.arpAnswers 0 0x0A000001 = true ∧
    d.net.arpWait.find? (fun (x : ArpWait) => decide (x.port = 0) && decide (x.ip = 0x0A000009)) = some ⟨0, 0x0A000009, 3, 0⟩ ∧
    d.net.arp.find? (fun (x : ArpEntry) => decide (x.port = 0) && decide (x.ip = 0x0A000008)) = some ⟨0, 0x0A000008, 7, 0⟩ ∧
    d.classify { h with proto := 1 } = .icmp ∧ d.classify { h with proto := 2 } = .igmp ∧
    d.net.igmpRepeat.find? (fun (x : IgmpRepeat) => decide (x.port = 0)) = some ⟨0, 5, []⟩ ∧ Tab.find d.net.igmpV2 0 = some 8 ∧
    (after (.arpRetryTimer 0 0x0A000009) (stateOf d)).chip.dev.get F.NET_EVENTS_ARP_UNRESOLVED = 1 ∧
    (after (.arpRefreshTimer 0 0x0A000008) (stateOf d)).chip.dev.now = 60000000000 ∧
    (after (.icmpEchoRequest { h with proto := 1 } [1]) (stateOf d)).chip.dev.out = [.icmpReply 0 none 0x0A000002 0x0A000001 [1]] ∧
    (after (.igmpQueryReceive { h with proto := 2 } 2 0) (stateOf d)).chip.dev.get F.NET_EVENTS_IGMP_V2 = 1 ∧
    (after (.arpReplyReceive { h with etype := 0x0806 } 7 0x0A000009 0x0A000001) (stateOf d)).chip.dev.arpFind 0 0x0A000009 = some 7 := by decide +kernel

/-- Output 0 is watched: its stamps go to 239.0.0.1 port 6000 on port 0; unit 0 of a pair in tick 5. -/
def watching : Device :=
  let d := (portUp0 (pairAs 3)).put F.NET_TX_PATH_CFG_0_EN 0 1
  (d.put F.NET_TX_PATH_STAMP_0_VALUE 0 0xEF000001).put F.NET_TX_STAMP_UDP_PATH0 0 6000
/-- A whole stamp of output 0 and tick 3 from unit 1 (its CHECK is CRC-32C by hand). -/
def stamp3 : List Byte :=
  [0x53, 0x54, 0x4D, 0x50, 1, 0, 0, 0, 0, 0, 0, 0, 0, 0, 0, 3] ++ List.replicate 20 0 ++ [1, 1] ++ List.replicate 22 0 ++
  [0xAC, 0xB0, 0xA1, 0x2E] ++ List.replicate 1280 0

/-- R215, R231, R232: a flow written, one that conflicts, a stamp of the partner, verdicts in tick 5. -/
theorem witness_FlowsAndWitness :
    let d := flowDev 0
    let w := F.NET_RX_FLOW_CFG_EN.at 1
    (live .ready).chip.admits 0 R.NET_RX_FLOW_CFG 511 0 = true ∧ d.pd1On = true ∧
    d.regFault 0 (R.NET_RX_FLOW_CFG.base + R.NET_RX_FLOW_CFG.stride * 511) 32 true = none ∧ d.roleRefuses 8 false = false ∧ d.defers = false ∧
    F.NET_RX_FLOW_CFG_EN.of w = 1 ∧ d.on F.NET_RX_FLOW_CFG_EN 511 = false ∧
    d.flowConflict 511 (F.NET_RX_FLOW_CFG_PORT.of w) (F.NET_RX_FLOW_CFG_LEG.of w) (F.NET_RX_FLOW_CFG_FORM.of w) (F.NET_RX_FLOW_CFG_SOURCE.of w) = true ∧
    watching.classify (udpTo 0xEF000001 6000) = .witness ∧ watching.witStampOuts (udpTo 0xEF000001 6000) = [0] ∧ watching.pathStampPort 0 0 = 6000 ∧
    stampIntact stamp3 = true ∧ beAt stamp3 5 1 = 0 ∧ beAt stamp3 36 1 = 1 ∧ beAt stamp3 37 1 = 1 - watching.unitNo ∧
    watching.inTick = true ∧ watching.witOn = true ∧ 2 ≤ watching.tick.num ∧ watching.watchedOut 0 = true ∧ watching.watchedOut 31 = false ∧
    (after .witnessVerdict (stateOf watching)).chip.dev.get F.NET_WIT_CNT_COUNT 0 = 1 := by decide +kernel

/-! ## Decoding and encoding -/

/-- Session 0 decodes source 0, which flow 0 of RTP carries, at 64 x 64; class 0 has four berths. -/
def decDev (p : Pwr) : Device :=
  putAll [(F.DEC_SESS_CFG_DPB_MAX, 0, 1), (F.DEC_SESS_SIZE_MAX_WIDTH, 0, 64), (F.DEC_SESS_SIZE_MAX_HEIGHT, 0, 64), (F.DEC_SESS_TS_PID, 0, 32),
    (F.NET_SRC_CFG_KIND, 0, 2), (F.NET_RX_FLOW_CFG_EN, 0, 1), (F.NET_RX_FLOW_CFG_FORM, 0, 1), (F.NET_RX_FLOW_DST_VALUE, 0, 0x0A000001),
    (F.NET_RX_FLOW_UDP_PORT, 0, 5000), (F.CMP_POOL_CFG_COUNT, 0, 4), (F.CMP_POOL_CFG_SIZE, 0, 4), (F.DEC_BS_CFG_RING_MIB, 0, 1)]
    (portUp0 (deviceAt p))

/-- R163: OPEN, CLOSE and RESYNC at both ends of the session range; accepted ones in READY and RUN, refused ones. -/
theorem witness_DecodeCommandsAreChecked :
    let d := decDev .ready
    let opened := d.put F.DEC_SESS_STATE_STATE 0 2
    let r := decDev .run
    (stateOf d).chip.admits 7 R.DEC_CMD 0 (decWord 1 255) = true ∧ (stateOf d).chip.admits 0 R.DEC_CMD 0 (decWord 3 0) = true ∧
    d.decCmd = none ∧ d.decState 0 = 0 ∧ d.decFormatOk 0 = true ∧ d.decSourceOk 0 = true ∧ d.decReserve 0 = .ok (0, 1, 0, 4) ∧
    (stateOf r).chip.admits 0 R.DEC_CMD 0 (decWord 1 0) = true ∧
    (deviceAt .ready).decSourceOk 255 = false ∧ (d.put F.DEC_SESS_CFG_RATE 255 13).decFormatOk 255 = false ∧ opened.decState 0 ≠ 0 ∧
    (after (.decClose 0 0) (stateOf opened)).chip.dev.decState 0 = 0 := by decide +kernel

/-- An IDR picture of 8 x 8 of profile Main, and a packet that brings it. -/
def seq8 : SeqHead := ⟨1, false, 93, false, 1, 8, 8, false, true, false, 0, 0, 8, 8, 8, 8, 1⟩
def head64 : PicHead := ⟨seq8, 19, 0, 0, true, true, [], [], none, true⟩
def strPkt : StreamPkt := ⟨2, 9, 90000, true, 19, false, false, false, [1, 2, 3], some head64, []⟩
def cell47 : TsCell := ⟨0x47, 32, 0, false, none, false, false, none, [], none⟩
def picJob : DecJob := ⟨1, head64, 0, 0, 90000, 3, [], false, some 0, 0, true⟩
def noPic : DecResult := ⟨false, none, [], [], []⟩
/-- Session 0 is open with an access unit in progress and one packet heard before. -/
def streamDev (form st : Nat) : Device :=
  let d := ((decDev .run).put F.NET_RX_FLOW_CFG_FORM 0 form).put F.DEC_SESS_STATE_STATE 0 st
  { d with tick := { d.tick with running := true, inTick := true } }.setDec 0
    { DecSess.empty with aus := [⟨80000, 0, 0, [65541], 3, some head64, [], false, false, false, none⟩], seen := [65541], maxSeq := some 65541, quiet := true, idle := true, running := [picJob] }

/-- R157, R159, R162, R173, R220: whole and malformed packets, a first and a second copy, a silent tick, a picture decoded. -/
theorem witness_StreamsFillRingsAndPictures :
    let d := streamDev 1 1
    let x := d.dec 0
    d.classify flowPkt = .flow 0 ∧ d.get F.NET_RX_FLOW_CFG_FORM 0 = 1 ∧ (streamDev 2 1).get F.NET_RX_FLOW_CFG_FORM 0 = 2 ∧
    cellsOk [] = false ∧ cellsOk [cell47] = true ∧ cellsOk (List.replicate 7 cell47) = true ∧ cellsOk (List.replicate 8 cell47) = false ∧
    (decDev .run).sessionOf 0 = none ∧ d.sessionOf 0 = some 0 ∧ extendSeq x.maxSeq 5 ∈ x.seen ∧ extendSeq x.maxSeq 9 ∉ x.seen ∧
    d.stopped 0 = false ∧ x.lastEnd = none ∧ d.ringSize = 1048576 ∧ x.aus.all (fun (a : AccessUnit) => decide (a.ts ≠ strPkt.ts)) = true ∧
    x.idle = true ∧ rtpAccepts (d.codec 0) strPkt = true ∧ x.ringUsed + 3 ≤ d.ringSize ∧ picIrap head64 (d.codec 0) = true ∧ d.inTick = true ∧ x.running = [picJob] ∧ d.ownErrs 0 picJob noPic = [] ∧ (streamDev 1 3).decState 0 = 3 ∧
    (d.put F.DEC_SESS_CFG_HASH_CHECK 0 1).on F.DEC_SESS_CFG_HASH_CHECK 0 = true ∧ d.get F.DEC_SESS_CFG_CODEC 0 = 0 ∧
    (after (.streamPacketReceive flowPkt strPkt) (stateOf d)).chip.mem.dram = [(0, 1), (1, 2), (2, 3)] ∧
    (after (.decodePictureComplete 0 noPic) (stateOf d)).chip.dev.get F.DEC_EVENTS_SYNCED = 1 ∧
    (after (.decodePictureComplete 0 noPic) (stateOf (streamDev 1 3))).chip.dev.get F.DEC_EVENTS_RECOVERED = 1 ∧
    ((after (.decodePictureComplete 0 { noPic with syntax_ := true }) (stateOf d)).chip.dev.get F.DEC_SESS_ERR_SEEN_CLASSES 0).testBit 1 = true ∧
    ((after (.streamPacketReceive flowPkt strPkt) (stateOf d)).chip.dev.dec 0).aus.map (fun (a : AccessUnit) => a.ended.isSome) = [true, true] := by decide +kernel

/-- Session 0 codes 128 x 72 from output 0 at 100 Mb/s; class 0 has four berths. -/
def encDev (p : Pwr) : Device :=
  putAll [(F.ENC_SESS_SIZE_W, 0, 128), (F.ENC_SESS_SIZE_H, 0, 72), (F.ENC_SESS_RATE_BIT_RATE, 0, 100000), (F.ENC_SESS_RATE_BUF_PICS, 0, 1),
    (F.CMP_POOL_CFG_COUNT, 0, 4), (F.CMP_POOL_CFG_SIZE, 0, 8)] (deviceAt p)

/-- R183, R185, R192: OPEN accepted at once and in RUN, an open session, rates at and below the floor. -/
theorem witness_EncodeCommandsAreChecked :
    let d := encDev .ready
    let o := ((d.put F.ENC_SESS_STATE_OPEN 0 1).put F.ENC_SESS_SIZE_W 0 3840).put F.ENC_SESS_SIZE_H 0 2160
    let w := F.ENC_SESS_RATE_BIT_RATE.at 1000 + F.ENC_SESS_RATE_BUF_PICS.at 8
    (stateOf d).chip.admits 7 R.ENC_CMD 0 (encWord 1 31) = true ∧ (stateOf o).chip.admits 0 R.ENC_CMD 0 (encWord 3 0) = true ∧
    d.encOpened 0 = false ∧ o.encOpened 0 = true ∧ d.encFormatOk 0 = true ∧ (d.put F.ENC_SESS_SIZE_W 31 0).encFormatOk 31 = false ∧ d.encFloorOk 0 100000 = true ∧
    d.encReserve 0 = .ok (0, 1, 0) ∧
    (stateOf d).chip.admits 0 R.ENC_SESS_RATE 0 w = true ∧ (stateOf (encDev .run)).chip.admits 0 R.ENC_SESS_RATE 31 (F.ENC_SESS_RATE_BIT_RATE.at 200000 + F.ENC_SESS_RATE_BUF_PICS.at 2) = true ∧
    o.pd1On = true ∧ o.regFault 0 (R.ENC_SESS_RATE.base + R.ENC_SESS_RATE.stride * 0) 32 true = none ∧ o.roleRefuses 7 false = false ∧
    o.defers = false ∧ o.encFloorOk 0 1000 = false ∧
    (after (.encBitRateWrite 0 0 1000 8) (stateOf o)).chip.dev.get F.SYS_EVENTS_CFG_DROPPED = 1 := by decide +kernel

def rec0 : OutRec := ⟨0, 0, 0, 128, 72, 0, 0, 0, 0, []⟩
def encJob (row ready : Nat) (started : Bool) : EncJob :=
  { EncJob.waiting 5 6 true false ⟨none, none, true, 0, false, none⟩ with begun := true, started := started, row := row, ready := ready, b := 1000 }
/-- Session 0 with a picture of two CTU rows of one CTU each. -/
def codingDev (j : EncJob) (sealRan : Bool) : Device :=
  let d := ((encDev .run).put F.ENC_SESS_STATE_OPEN 0 1).put F.ENC_SESS_SIZE_W 0 8
  ({ d with tick := { d.tick with sealRan := sealRan }, edges := 6, layout := some ⟨0, [rec0], 0, 0, 0, [], [], []⟩ }).setEnc 0 { EncSess.empty with jobs := [j] }
/-- A row of `n` lines whose one CTU takes 16 bits at the row's QP and at floor, after an access unit delimiter where `first`. -/
def rowOf (n : Nat) (first : Bool) : EncRow :=
  ⟨if first then [(.aud, [0x46, 1])] else [], 0, 0, [⟨16, [], 16, [], none⟩], [2, 1], List.replicate n (List.replicate 8 64),
    List.replicate (n / 2) (List.replicate 4 512), List.replicate (n / 2) (List.replicate 4 512), none⟩
def row1 : EncRow := rowOf 8 false

/-- R192, R195, R196: a row that is ready and one that is not, a middle and a last row, a deadline before and after the start. -/
theorem witness_PicturesAreCodedRowByRow :
    let d := codingDev (encJob 0 0 true) true
    let x := d.enc 0
    x.jobs.find? (fun (k : EncJob) => k.ctuRow && !k.missing && decide (k.ready < ctuRows (d.encH 0))) = some (encJob 0 0 true) ∧ d.outRec? 0 = some rec0 ∧
    d.tick.sealRan = true ∧ (codingDev (encJob 0 0 true) false).tick.sealRan = false ∧ ctuRows (d.encH 0) = 2 ∧ d.encMay 0 = false ∧
    (codingDev (encJob 0 1 true) true).encMay 0 = true ∧ (codingDev (encJob 1 2 true) true).encMay 0 = true ∧
    (((after (.encCtuRowStart 0) (stateOf d)).chip.dev.enc 0).jobs.map (fun (k : EncJob) => k.ready)) = [1] ∧
    (((after (.encSliceComplete 0 (rowOf 64 true)) (stateOf (codingDev (encJob 0 1 true) true))).chip.dev.enc 0).jobs.map (fun (k : EncJob) => k.row)) = [1] ∧
    (after (.encSliceComplete 0 row1) (stateOf (codingDev (encJob 1 2 true) true))).chip.dev.get F.ENC_SESS_CNT_CODED_COUNT 0 = 1 ∧
    ((codingDev (encJob 0 1 true) true).encRow Memory.reset 0 (encJob 0 1 true) (rowOf 64 true) (2 ^ 32)).isSome = true ∧
    ((codingDev (encJob 1 2 true) true).encRow Memory.reset 0 (encJob 1 2 true) row1 (2 ^ 32)).isSome = true ∧
    ((codingDev (encJob 0 1 true) true).encRow Memory.reset 0 (encJob 0 1 true) row1 (2 ^ 32)) = none ∧
    (((stateOf d).chip.quiet.mapDev (fun (d : Device) => d.deadlineStart 0 (encJob 0 0 true))).encLeft 0 0 [rowOf 64 true, row1]).isSome = true ∧
    (after (.encDeadline 0 0 [rowOf 64 true, row1]) (stateOf d)).chip.dev.get F.ENC_EVENTS_TIME_FLOOR = 1 ∧
    (after (.encDeadline 0 0 []) (stateOf (codingDev (encJob 0 0 false) true))).chip.dev = (codingDev (encJob 0 0 false) true).quiet := by decide +kernel

def feed0 : Feed := ⟨5, false, 6, [[1, 2, 3, 4], [5]], 0, [BitVec.ofNat 32 0], true, [], (0, 1), false, [], false⟩
/-- Entry 32 sends the feed of session 0 on path 0. -/
def feedDev (f : Feed) (lastTick : Option Nat) (maxPayload : Nat) : Device :=
  let d := putAll [(F.NET_TX_CFG_EN, 32, 1), (F.NET_TX_PATH_CFG_0_EN, 32, 1), (F.NET_TX_PKT_MAX_PAYLOAD, 32, maxPayload)] (portUp0 ticking5)
  { (d.setEnc 0 { EncSess.empty with feeds := [f] }).setOut 32 { OutSt.empty with lastTick := lastTick } with net := { d.net with txOn := [32] } }

/-- R195, R200, R203, R224: a NAL unit that fits and one that does not, a tick that is not later, a slice with its CRC and one without. -/
theorem witness_FeedsAreSentAndChecked :
    let d := feedDev feed0 (some 4) 1400
    let b := feedDev { feed0 with begun := true } (some 5) 1400
    d.feedHead 0 = some feed0 ∧ d.txOn 32 = true ∧ d.paths 32 = [0] ∧ (d.outp 32).failed = false ∧ feed0.startEdge ≤ d.edges ∧ d.inTick = true ∧
    d.get F.NET_TX_PKT_MAX_PAYLOAD 32 = 1400 ∧ (feedDev feed0 none 4).get F.NET_TX_PKT_MAX_PAYLOAD 32 = 4 ∧
    (feedDev feed0 (some 5) 1400).outp 32 = { OutSt.empty with lastTick := some 5 } ∧ b.feedHead 0 = some { feed0 with begun := true } ∧
    BitVec.ofNat 32 (crc32c []) = 0#32 ∧ BitVec.ofNat 32 (crc32c [1]) ≠ 0#32 ∧
    ((after (.feedPacketSend 0 0) (stateOf d)).chip.dev.feedHead 0).map (fun (g : Feed) => g.nals) = some [[5]] ∧
    (after (.feedPacketSend 0 0) (stateOf (feedDev feed0 (some 5) 1400))).chip.dev.get F.FRS_LOOPBACK_STATUS_REASON = 2 ∧
    ((after (.feedLoopbackCheck 0 0 0 []) (stateOf b)).chip.dev.feedHead 0).map (fun (g : Feed) => g.checked) = some [(0, 0)] ∧
    (after (.feedLoopbackCheck 0 0 0 [1]) (stateOf b)).chip.dev.get F.FRS_LOOPBACK_STATUS_REASON = 1 := by decide +kernel

/-! ## Lanes -/

/-- Port 27 is enabled with its lane in state `st` at 10GBASE-R. -/
def portAt (st : Nat) : Device := putAll [(F.NET_PORT_CFG_EN, 27, 1), (F.NET_PORT_CFG_MODE, 27, 0), (F.LANE_STATUS_STATE, 27, st)] (deviceAt .ready)
/-- Port 24 of quad 6 is enabled at 100GBASE-R with its lanes in state `st`. -/
def quadAt (st : Nat) : Device :=
  putAll [(F.NET_PORT_CFG_EN, 24, 1), (F.NET_PORT_CFG_MODE, 24, 2), (F.LANE_STATUS_STATE, 24, st), (F.LANE_STATUS_STATE, 25, st),
    (F.LANE_STATUS_STATE, 26, st), (F.LANE_STATUS_STATE, 27, st)] (deviceAt .ready)

/-- R241 to R246: a port off and on, each step of its lanes, a decision and none, alignment, loss of lock. -/
theorem witness_MediaPortsComeUpByTheirSteps :
    let d := deviceAt .ready
    (stateOf d).chip.admits 7 R.NET_PORT_CFG 27 (enWord F.NET_PORT_CFG_EN 0 1) = true ∧ d.on F.NET_PORT_CFG_EN 27 = false ∧ d.coreOn = true ∧
    (stateOf (portAt 5)).chip.admits 0 R.NET_PORT_CFG 27 (enWord F.NET_PORT_CFG_EN 0 0) = true ∧ (portAt 5).on F.NET_PORT_CFG_EN 27 = true ∧
    (portAt 1).portExists 27 = true ∧ (portAt 1).portAll 27 1 = true ∧ (portAt 2).portAll 27 2 = true ∧ (portAt 3).laneSt 27 ≠ 0 ∧
    (portAt 3).portAll 27 5 = false ∧ (portAt 3).get F.NET_PORT_CFG_MODE 24 ≠ 2 ∧ (portAt 3).get F.NET_PORT_CFG_MODE 27 ≠ 2 ∧
    (portAt 3).laneSt 27 = 3 ∧ ((portAt 3).laneX 27).locked = false ∧ ((portAt 3).put F.LANE_CFG_RX_POL 27 0).decide244 27 27 7 0 false = none ∧
    ((portAt 3).put F.LANE_CFG_RX_POL 27 0).decide244 27 27 8 0 false = some false ∧
    (quadAt 4).get F.NET_PORT_CFG_MODE 24 = 2 ∧ (quadAt 4).portAll 24 4 = true ∧ (quadAt 4).on F.NET_PORT_CFG_EN 24 = true ∧
    (portAt 5).laneSt 27 = 5 ∧ (portAt 2).get F.LANE_CFG_RX_POL 27 = 0 ∧ (portAt 1).lanePort 27 = 27 ∧
    (let q := (quadAt 3).put F.LANE_CFG_RX_POL 24 0
     let r := [25, 26, 27].foldl (fun (d : Device) k => d.setLaneX k { LaneX.empty with locked := true }) q
     (quadAt 3).laneSt 24 = 3 ∧ (q.laneX 24).locked = false ∧ q.decide244 24 24 8 0 false = some false ∧ q.portLanes 24 = [24, 25, 26, 27] ∧
     (after (.laneLockAcquired 24 8 0 false) (stateOf q)).chip.dev.portAll 24 3 = true ∧
     (after (.laneLockAcquired 24 8 0 false) (stateOf r)).chip.dev.portAll 24 4 = true) ∧
    (after (.laneAnComplete 27) (stateOf (portAt 1))).chip.dev.laneSt 27 = 2 ∧
    (after (.laneTrainComplete 27 [true]) (stateOf (portAt 2))).chip.dev.on F.LANE_STATUS_POL_INV 27 = true ∧
    (after (.laneAttemptTimeout 27) (stateOf (portAt 3))).chip.dev.get F.NET_PORT_STATUS_STATE 27 = 3 ∧
    (after (.laneAlignComplete 6 255) (stateOf (quadAt 4))).chip.dev.get F.NET_PORT_STATUS_STATE 24 = 2 ∧
    (after (.laneLockLoss 27) (stateOf (portAt 5))).chip.dev.get F.LANE_CNT_LOCK_COUNT 27 = 1 := by decide +kernel

/-- R239, R250, R253: a reference lost and back, a lane that runs and one in IDLE, checks that run and one that does not. -/
theorem witness_ReferencesFreezesAndMargins :
    let d := portAt 5
    let c := d.setLaneX 31 { LaneX.empty with checking := true }
    d.get F.RST_STRAPS_CLKMODE ≠ 2 ∧ d.on (lossFld 2) = false ∧ (d.put (lossFld 0) 0 1).on (lossFld 0) = true ∧ d.portExists 27 = true ∧
    d.on F.NET_PORT_CFG_EN 27 = true ∧ d.laneRef 27 < 3 ∧ d.laneSt 27 = 5 ∧ (d.put F.LANE_STATUS_FROZEN 27 1).on F.LANE_STATUS_FROZEN 27 = true ∧
    (d.put F.LANE_STATUS_STATE 28 6).laneSt 28 = 6 ∧ (d.put F.LANE_STATUS_STATE 31 7).laneSt 31 = 7 ∧ (d.laneX 0).checking = false ∧
    (c.laneX 31).checking = true ∧ d.get F.RST_STRAPS_CLKMODE = 0 ∧
    (let f := (d.put F.LANE_STATUS_FROZEN 27 1).put F.LANE_STATUS_SIGNAL 27 0
     ((after (.adaptResume 27) (stateOf f)).chip.dev.laneX 27).checking = true ∧
     (after (.adaptResume 27) (stateOf f)).chip.dev.on F.LANE_STATUS_SIGNAL 27 = true ∧
     (after (.adaptFreeze 27 false) (stateOf d)).chip.dev.on F.LANE_STATUS_FROZEN 27 = true) ∧
    (let m := d.setLaneX 27 { LaneX.empty with checking := true, passes := 2 }
     (after (.marginCheckComplete 27 0) (stateOf (m.put F.LANE_STATUS_DEGRADED 27 1))).chip.dev.get F.LANE_STATUS_DEGRADED 27 = 0 ∧
     (after (.marginCheckComplete 27 8) (stateOf m)).chip.dev.get F.LANE_EVENTS_DEGRADED = 1) ∧
    (after (.refclkRecover 0) (stateOf (d.put (lossFld 0) 0 1))).chip.dev.get (lossFld 0) = 0 ∧
    ((after (.marginCheckTimer 27) (stateOf d)).chip.dev.laneX 27).checking = true ∧
    (after (.refclkLoss 0) (stateOf d)).chip.dev.get F.LANE_EVENTS_REFCLK_LOSS = 1 ∧
    (after (.marginCheckComplete 31 15) (stateOf c)).chip.dev.get F.LANE_STATUS_FAIL_CORNERS 31 = 15 := by decide +kernel

/-- The tether in a state, with lanes T0 to T3 trained by `m` and in state `st`. -/
def tetherAt (state m st : Nat) : Device :=
  putAll [(F.LANE_TETHER_CFG_EN, 0, 1), (F.LANE_TETHER_STATUS_STATE, 0, state), (F.LANE_TETHER_STATUS_TRAINED, 0, m), (F.LANE_STATUS_STATE, 28, st),
    (F.LANE_STATUS_STATE, 29, st), (F.LANE_STATUS_STATE, 30, st), (F.LANE_STATUS_STATE, 31, st)] (pairAs 3)

/-- R247 to R249, R252, R254: EN, attempts, windows, a retrain agreed and running, a scan of a lane that is up and of one that is not. -/
theorem witness_TetherTrainsOpensAndRetrains :
    let off := deviceAt .ready
    let up := tetherAt 3 15 6
    let scan : Nat → Nat → Nat := fun l v => F.LANE_SCAN_CTRL_START.at 1 + F.LANE_SCAN_CTRL_LANE.at l + F.LANE_SCAN_CTRL_PHASE.at v +
      F.LANE_SCAN_CTRL_OFFSET.at v + F.LANE_SCAN_CTRL_DWELL.at 15
    (stateOf off).chip.admits 7 R.LANE_TETHER_CFG 0 (F.LANE_TETHER_CFG_EN.at 1) = true ∧ off.on F.LANE_TETHER_CFG_EN = false ∧ off.coreOn = true ∧
    off.laneAlive 28 = true ∧ (stateOf up).chip.admits 0 R.LANE_TETHER_CFG 0 0 = true ∧ up.on F.LANE_TETHER_CFG_EN = true ∧
    up.tetherIsUp = true ∧ up.pwr = .run ∧ up.role = 3 ∧ tetherEnough 7 = true ∧ tetherEnough 11 = true ∧ tetherEnough 14 = false ∧
    (tetherAt 1 0 2).get F.LANE_TETHER_STATUS_STATE = 1 ∧ (tetherAt 2 0 7).get F.LANE_TETHER_STATUS_STATE = 2 ∧ (tetherAt 2 0 7).laneAlive 28 = true ∧
    (up.get F.LANE_TETHER_STATUS_TRAINED).testBit 3 = true ∧ tetherEnough (setBit 15 0 false) = false ∧ tetherEnough (setBit 15 3 false) = true ∧
    up.laneSt 31 = 6 ∧ (up.laneX 31).unusable = false ∧ ((up.setLaneX 31 { LaneX.empty with retrain := 2 }).laneX 31).retrain = 2 ∧
    (let agreed := up.setLaneX 31 { LaneX.empty with retrain := 2 }
     let busy := (tetherAt 3 7 2).setLaneX 28 { LaneX.empty with retrain := 3, retrainBy := 2 ^ 40 }
     let check := { up with lanes := { up.lanes with scan := some 31 } }.setLaneX 31 { LaneX.empty with checking := true }
     agreed.devNs < agreed.nextWindow 31 - 20000 ∧ (agreed.laneX 31).winEnd < agreed.devNs ∧
     (after (.laneRetrainStart 31) (stateOf agreed)).chip.dev.laneSt 31 = 2 ∧ (busy.laneX 28).retrain = 3 ∧ busy.laneSt 28 = 2 ∧
     busy.devNs ≤ (busy.laneX 28).retrainBy ∧ busy.now ≤ (busy.laneX 28).since + 10000000 ∧
     (after (.laneRetrainComplete 28) (stateOf busy)).chip.dev.laneSt 28 = 6 ∧ ((after (.laneRetrainAbandon 28) (stateOf busy)).chip.dev.laneX 28).skip = true ∧
     check.lanes.scan = some 31 ∧ (check.laneX 31).checking = true ∧ (up.laneX 31).skip = false ∧
     ((up.setLaneX 31 { LaneX.empty with skip := true }).laneX 31).skip = true ∧
     ((after (.tetherWindowOpen 0 8) (stateOf up)).chip.dev.laneX 31).unusable = true ∧
     ((tetherAt 1 0 2).laneX 31).checking = false ∧ (after (.tetherUp 15 0) (stateOf (tetherAt 1 0 2))).chip.dev.tetherIsUp = true ∧
     (after (.tetherWindowClose 0) (stateOf (tetherAt 3 15 5))).chip.dev.laneSt 31 = 6 ∧
     (after .tetherAttemptTimeout (stateOf (tetherAt 1 0 2))).chip.dev.get F.LANE_TETHER_STATUS_STATE = 2 ∧
     (after .tetherPartnerDetect (stateOf (tetherAt 2 0 7))).chip.dev.get F.LANE_TETHER_STATUS_STATE = 1 ∧
     (after (.laneLockLoss 28) (stateOf up)).chip.dev.get F.LANE_EVENTS_TETHER_FAIL = 1) ∧
    (((tetherAt 3 7 2).setLaneX 28 { LaneX.empty with retrain := 3 }).laneX 28).retrain = 3 ∧ (tetherAt 3 7 2).laneSt 28 = 2 ∧
    (stateOf up).chip.admits 7 R.LANE_SCAN_CTRL 0 (scan 31 63) = true ∧ up.scanLaneUp 31 = true ∧ up.scanLaneUp 0 = false ∧
    ({ up with lanes := { up.lanes with scan := some 31 } }).lanes.scan = some 31 ∧ up.on F.LANE_STATUS_FROZEN 31 = false ∧
    (after (.tetherUp 7 0) (stateOf (tetherAt 1 0 2))).chip.dev.laneSt 31 = 7 ∧
    (after (.scanStart 0 0 0 0 0) (stateOf up)).chip.dev.get F.LANE_SCAN_RESULT_ABORTED = 1 ∧
    (after (.tetherWindowOpen 0 0) (stateOf up)).chip.dev.laneSt 31 = 5 := by decide +kernel

/-! ## Time -/

def gmId : PtpId := ⟨0xAB, 1⟩
def announce : PtpAnnounce := ⟨127, gmId, 0, 2 ^ 64 - 1, 128, 6, 0x21, 0, 128, 254, 37, true, false, false⟩
def sync (seq : Nat) (two : Bool) : PtpSync := ⟨127, gmId, seq, two, 1000, 0⟩
/-- Servo 0 listens on port 0 in state `st`, with this entry. -/
def servoDev (st : Nat) (x : Servo) : Device := ((portUp0 (deviceAt .ready)).put F.TIME_SRV_STATE_STATE 0 st).setServo 0 x
def ptpHdr : RxHdr := udpTo 0x0A000001 319
def heard : Servo := { Servo.empty with foreign := [⟨announce, 0x0A000002, [0]⟩] }
def following : Servo :=
  { Servo.empty with master := some announce, waitFollow := some (2, 2000, 0), syncRx := some 0, reqAt := some (7, 500), pair := some (500, 700, 0) }

/-- R256 to R262: messages nobody listens to, an Announce that qualifies its master, one- and two-step Syncs, a Follow_Up, a path delay. -/
theorem witness_PtpMessagesReachTheirServo :
    let d := servoDev 1 heard
    let f := servoDev 2 following
    let far := { ptpHdr with macNs := 9000000 }
    d.classify ptpHdr = .ptp ∧ d.listeners ptpHdr 0 = [] ∧ d.listeners ptpHdr 127 = [0] ∧ (d.servo 0).foreign = [⟨announce, 0x0A000002, [0]⟩] ∧
    (d.servo 0).master = none ∧ d.qualified ⟨announce, 0x0A000002, [0, 0]⟩ = true ∧
    d.qualified ⟨{ announce with steps := 255 }, 0x0A000002, [0, 0]⟩ = false ∧ (⟨{ announce with steps := 255 }, 0x0A000002, [0, 0]⟩ : Foreign).fit = false ∧
    (after (.ptpAnnounceReceive ptpHdr { announce with steps := 255 })
      (stateOf (servoDev 2 { heard with master := some announce }))).chip.dev.get F.TIME_EVENTS_SRV_LOSS = 1 ∧
    f.classify far = .ptp ∧ (f.servo 0).master.map (fun (y : PtpAnnounce) => y.sender) = some gmId ∧ 7800000 ≤ f.rxTime far ∧
    f.rxTime ptpHdr < 7800000 ∧ (f.servo 0).pair = some (500, 700, 0) ∧ (f.servo 0).delays = [] ∧ (f.servo 0).offs = [] ∧
    ((servoDev 2 { following with pair := none, delays := [5] }).servo 0).delays ≠ [] ∧ ((servoDev 2 { following with pair := none }).servo 0).pair = none ∧
    f.srvSt 0 = 2 ∧ f.portUp 0 = true ∧ f.srvSt 1 < 2 ∧
    (after (.ptpAnnounceReceive ptpHdr announce) (stateOf d)).chip.dev.srvSt 0 = 2 ∧
    (after (.ptpSyncReceive far (sync 1 false)) (stateOf f)).chip.dev.time.servos ≠ f.time.servos ∧
    (after (.ptpFollowUpReceive far (sync 2 true)) (stateOf f)).chip.dev.time.servos ≠ f.time.servos ∧
    ((after (.ptpDelayRespReceive far ⟨127, gmId, 7, true, 600, 0, 0⟩) (stateOf f)).chip.dev.servo 0).pair = some (500, 600, 0) ∧
    (after (.ptpFollowUpReceive far (sync 2 true)) (stateOf f)).chip.dev.get F.TIME_SRV_DELAY_NS 0 = 600 ∧
    ((after (.ptpDelayReqSend 0) (stateOf f)).chip.dev.servo 0).reqAt.isSome = true ∧
    (after (.ptpSyncTimeout 0) (stateOf f)).chip.dev.get F.TIME_EVENTS_SRV_LOSS = 1 := by decide +kernel

/-- Servo 1 is locked and device time has been stepped; a step is due. -/
def lockedDev (d : Device) (due : Option (Nat × Nat)) (gap : Bool) : Device :=
  { d.put F.TIME_SRV_STATE_STATE 1 4 with time := { TimeX.empty with stepped := true, due := due }, tick := { d.tick with gap := gap } }

/-- R264, R266, R270: RELOCK that waits, steps at once or at the edge; SELECT, CANCEL, a step due in and outside the gap. -/
theorem witness_TimeCommandsAndSteps :
    let d := deviceAt .ready
    let l := lockedDev d none false
    let r := lockedDev ticking5 none false
    (stateOf d).chip.admits 7 R.TIME_CMD 0 (timeWord 1 1) = true ∧ (stateOf l).chip.admits 0 R.TIME_CMD 0 (timeWord 2 1) = true ∧
    (stateOf r).chip.admits 0 R.TIME_CMD 0 (timeWord 3 0) = true ∧ (stateOf r).chip.admits 0 R.TIME_CMD 0 (timeWord 1 1) = true ∧
    (stateOf d).chip.admitsRead 7 R.TIME_NOW_NS 0 = true ∧
    d.time.stepped = false ∧ l.time.stepped = true ∧ l.srvLocked 1 = true ∧ d.srvLocked 1 = false ∧ l.ticking = false ∧ r.ticking = true ∧
    l.time.due = none ∧ (lockedDev ticking5 (some (1, 6)) true).tick.gap = true ∧ (lockedDev ticking5 (some (1, 6)) false).tick.gap = false ∧
    l.relockOwn = true ∧ r.relockOwn = true ∧ r.time.relockDue = false ∧
    (after (.timeRelock 0 1) (stateOf r)).chip.dev.time.relockDue = true ∧
    (after (.timeCancel 0) (after (.timeRelock 0 1) (stateOf r))).chip.dev.get F.TIME_STATUS_RELOCK_PENDING = 1 ∧
    (after (.timeCancel 0) (after (.timeRelock 0 1) (stateOf d))).chip.dev.get F.TIME_STATUS_RELOCK_PENDING = 0 ∧
    (after (.timeRelock 0 1) (stateOf l)).chip.dev.get F.TIME_STATUS_STEP_COUNT = 1 ∧
    (after (.timeSelect 0 1) (stateOf l)).chip.dev.inUse = 1 ∧ (after (.timeSelect 0 1) (stateOf r)).chip.dev.inUse = 0 ∧
    (after .timeStepApply (stateOf (lockedDev ticking5 (some (1, 6)) true))).chip.dev.get F.TIME_EVENTS_STEP = 1 := by decide +kernel

def edge1 : Capture := ⟨1000000007, true, 0⟩
def trigDev : Device :=
  let d := putAll [(F.TIME_CAP_CFG_EN, 3, 1), (F.TIME_CAP_CFG_EN, 2, 1), (F.TIME_TRIG_PERIOD_NS, 3, 1000), (F.TIME_TICKOUT_CFG_EN, 0, 1), (F.TIME_TRIG_CFG_LOCKED_ONLY, 0, 0),
    (F.TIME_TRIG_START_NS_VALUE, 0, 500000000)] ticking5
  (d.setTrig 0 ⟨some 90000000, some 90000100⟩).setCaps 3 [edge1]
/-- R271 to R276: TICK_OUT at rest and active, triggers armed in time and late, a pulse due, an edge wanted, not wanted, on a full queue. -/
theorem witness_TickOutTriggersAndCaptures :
    let d := trigDev
    let en := F.TIME_TRIG_CFG_EN.at 1 + F.TIME_TRIG_CFG_WIDTH.at 10
    d.on F.TIME_TICKOUT_CFG_EN = true ∧ ticking5.on F.TIME_TICKOUT_CFG_EN = false ∧ d.pd1On = true ∧ d.time.pulse = none ∧
    ({ d with time := { d.time with pulse := some 5 } }).time.pulse = some 5 ∧
    (stateOf d).chip.admits 7 R.TIME_TRIG_CFG 3 (en + F.TIME_TRIG_CFG_PERIODIC.at 1) = true ∧ (stateOf d).chip.admits 0 R.TIME_TRIG_CFG 0 en = true ∧
    d.on F.TIME_TRIG_CFG_EN 3 = false ∧ (d.put F.TIME_TRIG_CFG_EN 3 1).on F.TIME_TRIG_CFG_EN 3 = true ∧ F.TIME_TRIG_CFG_EN.of en = 1 ∧
    d.devNs + 1000 ≤ d.trigStart 0 ∧ d.trigStart 3 < d.devNs + 1000 ∧ F.TIME_TRIG_CFG_PERIODIC.of en = 0 ∧ d.get F.TIME_TRIG_PERIOD_NS 3 = 1000 ∧
    (d.trig 0).next = some 90000000 ∧ (d.trig 0).stop = some 90000100 ∧ (d.put F.TIME_TRIG_CFG_LOCKED_ONLY 0 1).on F.TIME_TRIG_CFG_LOCKED_ONLY 0 = true ∧
    d.get F.TIME_STATUS_SRC ≠ 1 ∧ d.on F.TIME_CAP_CFG_EN 3 = true ∧ d.on F.TIME_CAP_CFG_EN 0 = false ∧ d.get F.TIME_CAP_CFG_EDGE 3 = 0 ∧
    ((d.setCaps 3 (List.replicate 16 edge1)).caps 3).length = 16 ∧ (stateOf d).chip.admitsRead 7 R.TIME_CAP_NS 0 = true ∧
    (stateOf d).chip.admitsRead 0 R.TIME_CAP_NS 3 = true ∧ d.caps 0 = [] ∧ d.caps 3 = [edge1] ∧
    (after .tickOutPulseStart (stateOf d)).chip.dev.out = [.pulse 0] ∧
    (after (.trigPulseStart 0) (stateOf d)).chip.dev.get F.TIME_TRIG_STATUS_ACTIVE 0 = 1 ∧
    (after (.captureEdge 2 true) (stateOf d)).chip.dev.get F.TIME_EVENTS_CAPTURE = 1 ∧
    (after (.capturePop 0 3) (stateOf d)).chip.dev.out = [.result 0 resOk [0, 0, 0, 7]] := by decide +kernel

/-! ## Memory and power -/

def burst (a : Nat) (w : Bool) (l : List Byte) : MemReq := ⟨a, w, 0, l, .blend 0, .other⟩
/-- Channel `c` has these requests queued, and these waiting before it. -/
def chanDev (c : Nat) (q w : List MemReq) : Device := (deviceAt .ready).setChan c { Channel.empty with queue := q, waiting := w }
def ack32 : List Byte := List.replicate 32 7

/-- R321, R325, R328 to R330: room, a full queue and a held one; a read with 0, 1 and 2 wrong bits, a whole burst acknowledged. -/
theorem witness_MemoryRequestsAreQueuedServedAndAcknowledged :
    let d := chanDev 31 [burst 0x1F00 false [], burst 64 true ack32] []
    let full := chanDev 0 (List.replicate 64 (burst 0 false [])) []
    let held := { chanDev 0 [] [] with fchg := some Fchg.toStandby }
    d.memOn = true ∧ ((deviceAt .ready).translate 0).1 = 0 ∧ (d.chanHeld 31) = false ∧ (full.chan 0).queue.length = 64 ∧ held.chanHeld 0 = true ∧
    d.nextReq 31 = some (burst 0x1F00 false []) ∧ Memory.reset.badRead 0x1F00 0 0 = false ∧ Memory.reset.badRead 0x1F00 1 0 = false ∧
    (chanDev 0 [burst 64 true ack32] []).nextReq 0 = some (burst 64 true ack32) ∧ Memory.reset.dram.wf = true ∧
    ((after (.memRequest 31 true 31 [1, 2] (.pair) .other) (stateOf (chanDev 0 [] []))).chip.dev.chan 0).queue = [⟨0, true, 31, [1], .pair, .other⟩] ∧
    (after (.memReadResponse 31 2 0) (stateOf d)).chip.mem.burstBad 0x1F00 = true ∧
    Dram.read (after (.memWriteAck 0 0) (stateOf (chanDev 0 [burst 64 true [1, 2]] []))).chip.mem.dram 65 = 2 := by decide +kernel

/-- R323, R331, R334, R359: a bank with and without requests, both sides of 85 °C, a pass, a rate change alone and on the way to STANDBY. -/
theorem witness_MemoryMaintenanceKeepsData :
    let d := chanDev 31 [burst 0 false []] []
    let f := { deviceAt .ready with fchg := some Fchg.toStandby }
    d.chanHeld 31 = false ∧ (d.place (burst 0 false [])).1 = 0 ∧ Tab.get (d.chan 31).postponed 0 0 < 8 ∧ d.get F.MEM_STATUS_TEMP_HIGH_A = 0 ∧
    (d.put F.MEM_SCRUB_CFG_EN 0 1).scrubOn = true ∧ f.fchg = some Fchg.toStandby ∧ f.pwr ≠ .failed ∧
    f.change = none ∧ ({ f with change := some PwrChange.toStandby }).change = some .toStandby ∧
    Tab.get ((after (.memRefreshDue 31 0) (stateOf d)).chip.dev.chan 31).postponed 0 0 = 1 ∧
    (after (.memStackTempHigh 1 255) (stateOf d)).chip.dev.get F.MEM_STATUS_TEMP_HIGH_B = 1 ∧
    (after .memScrubPassEnd (stateOf (d.put F.MEM_SCRUB_CFG_EN 0 1))).chip.dev.get F.MEM_SCRUB_STATUS_PASSES = 1 := by decide +kernel

/-- R334, R359: a rate change of the memory that times out, alone, on the way to READY, with a clock still missing and to STANDBY. -/
theorem witness_MemoryMaintenanceKeepsData_rates :
    let f := { deviceAt .ready with fchg := some Fchg.toStandby }
    (after .memFchgTimeout (stateOf f)).chip.dev.pwr = .failed ∧
    (after .memFchgLock (stateOf { f with change := some PwrChange.toStandby })).chip.dev.pwr = .standby := by decide +kernel

/-- The unit on its way to READY, its memory locking. -/
def locking (l : List Nat) : Device := { deviceAt .standby with fchg := some Fchg.toReady, change := some PwrChange.toReady, clkWait := l }

theorem witness_MemoryMaintenanceKeepsData_lock :
    (locking []).fchg = some Fchg.toReady ∧ (locking []).change = some .toReady ∧ (locking []).clkWait = [] ∧
    (after .memFchgLock (stateOf (locking []))).chip.dev.pwr = .ready ∧
    (after .memFchgLock (stateOf (locking [4]))).chip.dev.pwr = .standby := by decide +kernel

/-- R19, R422 to R424: an engine stop is staged, is lost while the black box is frozen, and shows in SYS_ENGINE_STATUS. -/
theorem witness_MemoryMaintenanceKeepsData_engines :
    let d := chanDev 31 [burst 0 false []] []
    d.on F.BBOX_STATUS_FROZEN = false ∧ d.bb.staging.length < 16 ∧ (d.put F.BBOX_STATUS_FROZEN 0 1).on F.BBOX_STATUS_FROZEN = true ∧
    ((after (.engineWatchdogExpire 0) (stateOf d)).chip.dev.bb.staging.getLast?.map (fun (b : BbEvent) => b.code)) = some 0x10 ∧
    (after (.engineWatchdogExpire 0) (stateOf (d.put F.BBOX_STATUS_FROZEN 0 1))).chip.dev.get F.BBOX_LOST_COUNT = 1 ∧
    (after (.engineWatchdogExpire 15) (stateOf d)).chip.dev.get F.SYS_ENGINE_STATUS_STOPPED = 0x8000 := by decide +kernel

/-- R338 to R341, R346: both resets, short and long, taken and released. -/
theorem witness_ResetsLeaveTheWatchIsland :
    let low : Device := { Device.reset with porLow := true, pinLow := false }
    let pin : Device := { deviceAt .run with pinLow := true }
    low.porLow = true ∧ (deviceAt .run).pinLow = false ∧ (deviceAt .run).porLow = false ∧ pin.pinLow = true ∧ pin.porLow = false ∧
    (after (.porRelease false 7 3) (stateOf low)).chip.dev.get F.RST_STRAPS_BOOT = 7 ∧
    (after (.pinResetAssert 6000) (live .run)).chip.dev.get F.RST_LAST_STATE = Pwr.run.code ∧
    (after (.pinResetAssert 3999) (live .run)).chip.dev = deviceAt .run ∧
    (after (.pinResetRelease 6000 7 3) (stateOf pin)).chip.dev.clkWait = [1] := by decide +kernel

/-- PD1 and the domains in the list wait for their clocks. -/
def bootDev (wait : List Nat) : Device :=
  { Device.reset with pwr := .boot, pinLow := false, porLow := false, clkWait := wait, regs := [((F.RST_CLK_STATUS_IN_RESET.id, 0, 0), 0xFFE)] }
/-- BOOT with PD1 out of reset and these straps. -/
def strapDev (b m : Nat) : Device := putAll [(F.RST_STRAPS_BOOT, 0, b), (F.RST_STRAPS_CLKMODE, 0, m), (F.RST_CLK_STATUS_IN_RESET, 0, 0xFFC)] (bootDev [])
def pushDev : Device := { putAll [(F.SYS_BOOT_STATUS_PUSH, 0, 1), (F.SYS_BOOT_STATUS_STEP, 0, 3)] (strapDev 2 0) with boot := { BootX.empty with push := [1] } }

/-- R343, R349, R351, R352, R388: clocks awaited alone and with others, each group of straps, a push that goes on and one that does not. -/
theorem witness_DomainsAndBootFollowResetAndStraps :
    (bootDev [1]).awaits 1 = true ∧ (bootDev [1]).clkWait = [1] ∧
    (bootDev [1]).get F.SYS_BOOT_STATUS_STEP = 0 ∧ (stateOf (bootDev [1])).chip.mem.otp.lc < 4 ∧ (bootDev [4, 5]).awaits 4 = true ∧ (bootDev [4, 5]).clkWait.erase 4 = [5] ∧
    (strapDev 3 0).boot.begun = false ∧ (strapDev 3 0).inReset 1 = false ∧ (strapDev 7 2).get F.RST_STRAPS_BOOT = 7 ∧
    (strapDev 0 3).get F.RST_STRAPS_CLKMODE = 3 ∧ (strapDev 1 2).get F.RST_STRAPS_BOOT = 1 ∧ (strapDev 2 0).get F.RST_STRAPS_BOOT = 2 ∧
    pushDev.on F.SYS_BOOT_STATUS_PUSH = true ∧ pushDev.clkWait = [] ∧ pushDev.get F.SYS_BOOT_STATUS_STEP < 8 ∧ pushDev.boot.push = [1] ∧
    (after (.domainClockLock 4) (stateOf (bootDev [4, 5]))).chip.dev.inReset 4 = false ∧
    (after (.domainClockTimeout 1) (stateOf (bootDev [1]))).chip.dev.pwr = .halted ∧
    (after (.boot true false 0) (stateOf (strapDev 2 0))).chip.dev.get F.SYS_BOOT_STATUS_PUSH = 1 ∧
    (after (.hostPushWrite 1 [2]) (stateOf pushDev)).chip.dev.boot.push = [1, 2] ∧
    (after (.hostPushWrite 0 [2]) (stateOf pushDev)).chip.dev.pwr = .halted := by decide +kernel

/-- R354 to R357: each command from the states that the statement names. -/
theorem witness_PowerCommandsChangeTheState :
    let d := deviceAt .ready
    let y := deviceAt .standby
    d.change = none ∧ d.tick.leave = false ∧ (stateOf d).chip.admits 7 R.SYS_PWR_CMD 0 4 = true ∧ d.heldAfterTimeout = [] ∧ d.poolsOk = true ∧
    (stateOf y).chip.admits 0 R.SYS_PWR_CMD 0 4 = true ∧ (stateOf (deviceAt .run)).chip.admits 0 R.SYS_PWR_CMD 0 3 = true ∧
    (stateOf y).chip.admits 0 R.SYS_PWR_CMD 0 3 = true ∧ (stateOf d).chip.admits 0 R.SYS_PWR_CMD 0 3 = true ∧
    (stateOf d).chip.admits 0 R.SYS_PWR_CMD 0 2 = true ∧ (stateOf y).chip.admits 0 R.SYS_PWR_CMD 0 1 = true ∧
    (after (.pwrCmdRun 0) (stateOf d)).chip.dev.pwr = .run ∧ (after (.pwrCmdReady 0) (live .run)).chip.dev.tick.leave = true ∧
    (after (.pwrCmdWatch 0) (stateOf y)).chip.dev.pwr = .watch := by decide +kernel

/-! ## The pair -/

/-- A unit of a pair in tick 5 with the tether UP and its windows open; sync state `y`, pair state `x`. -/
def pairDev (role y : Nat) (x : PairX) : Device :=
  { putAll [(F.PAIR_STATUS_SYNC, 0, y), (F.LANE_TETHER_CFG_EN, 0, 1), (F.LANE_TETHER_STATUS_STATE, 0, 3), (F.LANE_TETHER_STATUS_TRAINED, 0, 15),
      (F.LANE_STATUS_STATE, 28, 5), (F.LANE_STATUS_STATE, 29, 5), (F.LANE_STATUS_STATE, 30, 5), (F.LANE_STATUS_STATE, 31, 5)] (pairAs role) with
    pair := x
    lanes := { Device.reset.lanes with lane := [28, 29, 30, 31].map (fun l => (l, { LaneX.empty with locked := true, winEnd := 2 ^ 40 })) } }
def renewedRein : Rein := { Rein.empty with renewed := some 5, pulse := some (0, 10), edge := 7, period := 100, owed := true, valid := some 4, m := 3 }
/-- The unit has seen ticks 5 and 4, and what else the second argument says. -/
def pairX (r : Rein) : PairX := { PairX.empty with rein := r, edges := [5, 4], since := 9, inStep := true, missed := 3 }
def certain (d : Device) : Device := { d with tick := { d.tick with prevCert := true } }

/-- R285, R287, R294, R303, R304, R309: each line event, each kind of pulse, both writes, each role change and its refusal. -/
theorem witness_RolesHalterAndRein :
    let h := pairDev 2 0 (pairX renewedRein)
    let s := pairDev 3 1 (pairX Rein.empty)
    let j := certain (pairDev 1 0 (pairX Rein.empty))
    let g := certain (pairDev 3 2 { pairX Rein.empty with gave := some 4 })
    let again := pairDev 2 0 { pairX { renewedRein with stuck := true } with edges := [5] }
    let sick := (pairDev 4 0 { pairX Rein.empty with missed := 2 }).put F.PAIR_HEALTH_LO_HEALTH 0 1
    h.pair.rein.pulse = some (0, 10) ∧ h.pair.rein.owed = true ∧ h.pair.rein.period ≠ 0 ∧ (deviceAt .run).role = 0 ∧ h.role ≠ 0 ∧ h.pwr = .run ∧
    h.ticking = true ∧ h.inWindow 0 = false ∧ h.inWindow 1667 = true ∧ 4 ∈ (h.pair.edges.drop 1).take 3 ∧ h.holds = true ∧ h.pair.dual = false ∧
    (live .ready).chip.admits 7 R.PAIR_CTRL 0 (F.PAIR_CTRL_EN.at 1 + F.PAIR_CTRL_K.at 15) = true ∧ (stateOf h).chip.admits 0 R.PAIR_CMD 0 (F.PAIR_CMD_OP.at 1) = true ∧
    (stateOf s).chip.admits 0 R.PAIR_CMD 0 (F.PAIR_CMD_OP.at 2) = true ∧ (stateOf sick).chip.admits 7 R.PAIR_CMD 0 (F.PAIR_CMD_OP.at 2) = true ∧
    h.pair.cmd = none ∧ h.pair.handover = none ∧ sick.role = 4 ∧ faulty sick.health = true ∧
    s.role = 3 ∧ s.syncSt = 1 ∧ s.pair.inStep = true ∧ s.pair.missed = 3 ∧ sick.pair.missed = 2 ∧ j.role = 1 ∧ j.atEdge = true ∧
    j.get F.PAIR_CTRL_UNIT = 0 ∧ 4 < j.pair.since ∧ j.lease = 0 ∧ j.noFresh = true ∧ j.tick.prevCert = true ∧
    g.pair.gave = some 4 ∧ g.atEdge = true ∧ g.tickBefore 5 = 4 ∧ g.pair.rein.valid ≠ some 4 ∧ h.pair.gave = none ∧
    again.role ≠ 0 ∧ again.pair.rein.stuck = true ∧ h.pair.rein.stuck = false ∧ again.pair.rein.valid = some 4 ∧ 4 ∉ (again.pair.edges.drop 1).take 3 ∧
    h.pair.rein.renewed = some h.tick.num ∧ (h.pair.rein.m + 1) % 4 = 0 ∧
    (after .pairReinStuck (stateOf h)).chip.dev.get F.PAIR_EVENTS_REIN_STUCK = 1 ∧
    (after .pairReinStuck (stateOf again)).chip.dev.get F.PAIR_EVENTS_REIN_STUCK = 0 ∧
    (after (.reinPulseReceive 1667 38) (stateOf again)).chip.dev.pair.rein.m = 3 ∧
    (after (.reinPulseReceive 1667 42) (stateOf h)).chip.dev.get F.PAIR_CNT_REIN_MISS_COUNT = 1 ∧
    (after (.reinPulseReceive 0 10) (stateOf h)).chip.dev.get F.PAIR_CNT_REIN_MISS_COUNT = 1 ∧
    (after (.reinPulseReceive 1667 10) (stateOf h)).chip.dev.get F.PAIR_EVENTS_DUAL_HOLDER = 1 ∧
    (after (.reinPulseReceive 1667 210) (stateOf h)).chip.dev.pair.rein.release = some 5 ∧
    (after .resyncComplete (stateOf s)).chip.dev.syncSt = 2 ∧ (after .joiningTimeout (stateOf j)).chip.dev.role = 2 ∧
    (after .handoverTakeback (stateOf g)).chip.dev.get F.PAIR_EVENTS_HANDOVER_ABORTED = 1 := by decide +kernel

/-- A frame of the partner on lane `lane` in tick 5. -/
def tframe (lane : Nat) : TetherHdr := ⟨lane, true, 0, 1, 1, 0, 5, 1⟩
def wx (role y : Nat) : State :=
  stateOf (pairDev role y { pairX Rein.empty with mirror := { Mirror.empty with recv := some 6 }, rxAlive := [((0x10, 3), 1)], burst := [(0, [.owner 1])] })
def digest0 : Digest := ⟨0, false, false, true, 0, [], [], [], [], 2 ^ 64 - 1⟩

/-- R284, R291, R294, R299, R300, R303, R308, R310: frames that fail each check and frames of each type that pass. -/
theorem witness_TetherFramesAreJudgedAndTaken :
    let s := wx 3 1
    let h := wx 2 0
    let d := s.chip.dev
    tetherFrame (.tetherHealthReceive (tframe 3) shadowMsg) = some (0x10, tframe 3) ∧ (live .run).chip.dev.listensOn (tframe 3) = false ∧
    d.listensOn (tframe 0) = true ∧ d.listensOn (tframe 3) = true ∧ h.chip.dev.listensOn (tframe 3) = true ∧ (tframe 0).proto = d.upd.run.proto ∧
    (tframe 0).unit = 1 - d.get F.PAIR_CTRL_UNIT ∧ (tframe 0).tick = d.tick.num ∧ d.role = 3 ∧ d.syncSt = 1 ∧ h.chip.dev.role = 2 ∧
    Tab.find d.pair.rxAlive (0x10, 3) = some 1 ∧ ((tframe 3).alive + 256 - 1) % 256 = 0 ∧ (({ tframe 3 with alive := 130 }).alive + 256 - 1) % 256 = 129 ∧
    (({ tframe 3 with alive := 2 }).alive + 256 - 1) % 256 = 1 ∧ Tab.find d.pair.rxAlive (0x11, 3) = none ∧ (0x11, 0) ∉ d.pair.got ∧
    d.pair.burst.any (fun (q : Nat × List CtlItem) => decide (q.1 = 0)) = true ∧ d.pair.mirror.recv = some 6 ∧ h.chip.dev.pair.handover = none ∧
    h.chip.dev.pair.commitTx = none ∧ (d.laneX 31).retrain < 2 ∧
    excluding [.write 0 0x40000 0 0] = true ∧ excluding [.write 0 R.CMP_SWITCH_CFG.base 0 0] = false ∧ excluding [.owner 1] = false ∧
    (after (.tetherSyncReceive (tframe 0) [(1, List.replicate 4096 0)] 1 none) s).chip.dev.syncSt = 1 ∧
    (after (.tetherMirrorReceive (tframe 0) [⟨8, 0, 64, [9]⟩]) s).chip.mem.dram = [] ∧
    (after (.leaseRetrainReceive (tframe 3) 31) s).chip.dev.laneX 31 ≠ d.laneX 31 ∧
    (after (.tetherDigestReceive (tframe 2) digest0) s).chip.dev.partnerHealth = 2 ^ 64 - 1 ∧
    (after (.tetherHealthReceive { tframe 3 with alive := 2 } shadowMsg) s).chip.dev.pair.partner = some shadowMsg ∧
    (after (.tetherHealthReceive (tframe 3) shadowMsg) s).chip.dev.get F.PAIR_CNT_FRAME_ERR_COUNT = 1 ∧
    (after (.tetherMirrorReceive (tframe 0) [⟨7, 0, 64, [9]⟩]) s).chip.mem.dram = [(64, 9)] ∧
    (after (.tetherStateEndReceive (tframe 1) 1 true) s).chip.dev.pair.ready = some (5, [.owner 1]) ∧
    (after (.leaseRevertReceive (tframe 3)) h).chip.dev.pair.handover = some (5, none) ∧
    (after (.tetherDecisionReceive (tframe 2) true) s).chip.dev.pair.yieldRx = some 5 := by decide +kernel

def judging (c : Compare) (n : Nat) (role : Nat) : Device := (pairDev role 2 { pairX Rein.empty with cmp := c }).put F.PAIR_STATUS_MISMATCH 0 n

/-- R289, R290, R296 to R302: a holder and another unit, each outcome of the comparison below and at K, a test that fails. -/
theorem witness_PairSendsComparesAndDecides :
    let h := pairDev 2 2 (pairX Rein.empty)
    let bad := { Compare.empty with first := some (63, 255) }
    let m := judging bad 0 3
    let k := judging bad 14 3
    h.pwr = .run ∧ h.role = 2 ∧ h.inTick = true ∧ m.role = 3 ∧ h.tetherIsUp = true ∧ h.tetherUsable 28 = true ∧ h.tetherUsable 31 = true ∧
    (pairAs 2).tetherIsUp = false ∧ m.pair.cmp.judged ≠ some 5 ∧ (judging { bad with judged := some 5 } 0 3).pair.cmp.judged = some 5 ∧
    min (m.get F.PAIR_STATUS_MISMATCH + 1) 15 < m.get F.PAIR_CTRL_K ∧ k.get F.PAIR_CTRL_K ≤ min (k.get F.PAIR_STATUS_MISMATCH + 1) 15 ∧
    faulty k.partnerHealth = false ∧ faulty k.health = false ∧ faulty (k.put F.PAIR_HEALTH_LO_HEALTH 0 1).health = true ∧
    faulty (k.put F.PAIR_PARTNER_HEALTH_LO_HEALTH 0 1).partnerHealth = true ∧ h.pair.cmp.first = none ∧ h.pair.cmp.some_ = false ∧
    (judging { Compare.empty with some_ := true } 3 2).pair.cmp.some_ = true ∧ (live .ready).chip.dev.inTick = false ∧ m.holds = false ∧
    (h.waitPoint 88).tetherUsable 28 = true ∧ (h.waitPoint 88).tetherUsable 29 = true ∧ (h.waitPoint 95).tetherUsable 31 = true ∧
    (after .healthWordForm (stateOf h)).chip.dev.health / 2 ^ 56 = 5 ∧
    (after .pairDecision (stateOf m)).chip.dev.get F.PAIR_STATUS_MISMATCH = 1 ∧
    (after .pairDecision (stateOf k)).chip.dev.get F.PAIR_EVENTS_DIVERGED = 1 ∧
    (after .pairDecision (stateOf h)).chip.dev.get F.PAIR_CNT_NEUTRAL_COUNT = 1 ∧
    (after (.katComplete false) (stateOf h)).chip.dev.noted 1 3 = true := by decide +kernel

/-! ## Update -/

/-- Slot 7 owns the update lock; flash of 64 MiB, slot A runs. -/
def updDev (p : Pwr) (x : UpdX) (l : List (Fld × Nat × Nat)) : Device :=
  { putAll (l ++ [(F.UPD_STATUS_OWNER, 0, 7)]) (deviceAt p) with upd := x, flashSize := 67108864 }

/-- R397 to R408: the lock free, held and owned; each requirement met and failed. -/
theorem witness_UpdateCommandsAreJudgedByLockAndStatus :
    let free := deviceAt .ready
    let own := updDev .ready UpdX.empty []
    let good := updDev .ready UpdX.empty [(F.UPD_STATUS_VERIFY, 0, 2), (F.UPD_STATUS_SEL_STATE, 0, 2), (F.UPD_STATUS_PREFERRED, 0, 0)]
    let paired := (updDev .run UpdX.empty []).put F.PAIR_CTRL_EN 0 1
    (stateOf free).chip.admits 7 R.UPD_CMD 0 (updWord 1 0) = true ∧ (stateOf own).chip.admits 0 R.UPD_CMD 0 (updWord 7 2) = true ∧
    (stateOf own).chip.admits 7 R.UPD_CMD 0 (updWord 2 0) = true ∧ free.get F.UPD_STATUS_OWNER = 0xF ∧ own.get F.UPD_STATUS_OWNER = 7 ∧
    own.hasShadow = false ∧ own.on F.UPD_STATUS_PENDING = false ∧ (own.put F.UPD_STATUS_PENDING 0 1).on F.UPD_STATUS_PENDING = true ∧
    good.get F.UPD_STATUS_VERIFY = 2 ∧ own.get F.UPD_STATUS_VERIFY ≠ 2 ∧ paired.inRun = true ∧ paired.on F.PAIR_CTRL_EN = true ∧
    good.get F.UPD_STATUS_PREFERRED = good.upd.slot ∧ good.get F.UPD_STATUS_SEL_STATE = 2 ∧ own.get F.UPD_STATUS_SEL_STATE = 0 ∧
    (after (.updOpen 7 0) (stateOf free)).chip.dev.get F.UPD_STATUS_OWNER = 7 ∧
    (after (.updActivate 7 0) (stateOf good)).chip.dev.upd.job = some (.selector 1 1 4) ∧
    (after (.updActivate 7 0) (stateOf own)).chip.dev.get F.UPD_STATUS_RESULT = 5 ∧
    (after (.updConfirm 7 0) (stateOf good)).chip.dev.get F.UPD_STATUS_PENDING = 1 ∧
    (after (.updRevert 0 2) (stateOf own)).chip.dev.get F.UPD_EVENTS_BUSY = 1 := by decide +kernel

/-- R398, R400 to R407: a write that fits and each that does not, the copy clean and dirty, each job and swap that ends. -/
theorem witness_UpdateWindowsAndFlashFollowTheSession :
    let own := updDev .ready { UpdX.empty with dirty := [0] } [(F.UPD_STATUS_VERIFY, 0, 1), (F.UPD_WIN_POS_POS, 0, 4)]
    let job := updDev .ready { UpdX.empty with job := some .window } []
    let sel := updDev .ready { UpdX.empty with job := some (.selector 1 2 6) } []
    let swap := updDev .ready { UpdX.empty with swap := some (Swap.mk none 8) } []
    let gpio := { swap with upd := { swap.upd with staged := { Image.empty with entries := [(0x130000, 2 ^ 24 - 1)] } } }
    let ticks := { swap with tick := ticking5.tick, pwr := .run }
    own.pd1On = true ∧ own.inBoot = false ∧ Memory.reset.flash.wf = true ∧ Flash.wf own.upd.settings = true ∧ own.roleRefuses 20 false = false ∧
    own.mirrorFull 4 = false ∧ own.updSpan = 29360128 ∧ 29360124 + 4 ≤ own.updSpan ∧ own.mayWrite 7 22 = true ∧ own.owner = 7 ∧
    own.get F.UPD_WIN_POS_POS = 4 ∧ own.upd.job = none ∧ job.upd.job = some .window ∧ own.mayWrite 0 23 = true ∧ 1961980 + 4 ≤ settingsSpan ∧
    own.upd.dirty ≠ [] ∧ own.flashSize ≠ 0 ∧ job.upd.dirty = [] ∧ own.get F.UPD_STATUS_VERIFY = 1 ∧ job.get F.UPD_STATUS_VERIFY ≠ 1 ∧
    sel.upd.job = some (.selector 1 2 6) ∧ swap.upd.swap = some (Swap.mk none 8) ∧ swap.ticking = false ∧ ticks.ticking = true ∧
    swap.upd.staged.entries = swap.upd.run.entries ∧ (deviceAt .ready).owner = 0xF ∧
    newEntries gpio.upd.staged.entries gpio.upd.run.entries = [(0x130000, 2 ^ 24 - 1)] ∧ findReg 0x130000 = some (R.GPIO_OE, 0) ∧
    storeOnly R.GPIO_OE = true ∧ inProt 0x130000 = false ∧
    (after .swapLoadComplete (stateOf gpio)).chip.dev.get F.GPIO_OE_OE = 2 ^ 24 - 1 ∧
    (after .swapLoadComplete (stateOf swap)).chip.dev.upd.job = some (.selector 1 2 5) ∧
    (after .swapLoadComplete (stateOf ticks)).chip.dev.upd.swap ≠ none ∧
    (after (.updWindowWrite 7 4 [1, 2, 3, 4]) (stateOf own)).chip.dev.get F.UPD_WIN_POS_POS = 8 ∧
    (after (.settingsWindowWrite 0 5 [9]) (stateOf own)).chip.dev.upd.settings = [(5, 9)] ∧
    (after .settingsProgramComplete (stateOf own)).chip.dev.upd.dirty = [] ∧
    (after .updFlashWriteComplete (stateOf sel)).chip.dev.get F.UPD_EVENTS_CONFIRMED = 1 ∧
    (after .swapAbandon (stateOf swap)).chip.dev.get F.UPD_STATUS_RESULT = 7 ∧
    (after .updSessionTimeout (stateOf own)).chip.dev.now = 60000000000 := by decide +kernel

/-! ## Check channels, performance, black box -/

/-- CRC-64 of R283 in channel 63, its CRC32 in channel 16; a range of channel 63 waits. -/
def chkDev : Device :=
  { putAll [(F.CHK_CH_CFG_WIDTH, 63, 31), (F.CHK_CH_CFG_ALIVE_EN, 63, 1), (F.CHK_CH_LEN_VALUE, 63, 2), (F.HOST_PROT_RGN_SIZE_PAGES, 0, 1024),
      (F.HOST_PROT_RGN_PERM_PERM, 0, 0xAAAA)] (deviceAt .ready) with chkRanges := [ChkRange.mk 16 0 0 2] }

/-- R412 to R414: each width of data, both ends of the free channels, a range that waits, a range that begins, bytes with and without an error. -/
theorem witness_CheckChannelsFeedFinishAndCoverRanges :
    let s := stateOf chkDev
    let bad : State := ⟨[], ⟨{ Memory.reset with poison := [0] }, chkDev⟩⟩
    s.chip.admits 7 R.CHK_CH_DATA8 63 255 = true ∧ s.chip.admits 0 R.CHK_CH_DATA16 16 65535 = true ∧
    s.chip.admits 0 R.CHK_CH_DATA32 63 0 = true ∧ s.chip.admits 0 R.CHK_CH_CMD 63 (F.CHK_CH_CMD_OP.at 1) = true ∧
    s.chip.admits 7 R.CHK_CH_CMD 63 (F.CHK_CH_CMD_OP.at 2) = true ∧ s.chip.dev.on F.CHK_CH_CFG_ALIVE_EN 63 = true ∧
    s.chip.admits 0 R.CHK_CH_CMD 63 (F.CHK_CH_CMD_OP.at 3) = true ∧ s.chip.dev.dramRefused 0 0 2 false = none ∧
    s.chip.dev.chkRanges = [ChkRange.mk 16 0 0 2] ∧ (s.chip.mem.readPort 0 2).2 = false ∧ (bad.chip.mem.readPort 0 2).2 = true ∧
    (after (.chkRange 0 63) s).chip.dev.chkRanges = [ChkRange.mk 16 0 0 2, ChkRange.mk 63 0 0 2] ∧
    (after .chkRangeComplete bad).chip.dev.get F.CHK_EVENTS_RANGE_FAULT = 1 ∧
    (after (.chkFinish 0 63) s).chip.dev.get F.CHK_CH_ALIVE_ALIVE 63 = 1 := by decide +kernel

def perfDev (n : Nat) : Device :=
  { putAll [(F.PERF_SAMPLE_CFG_EN, 0, 1)] ticking5 with perf := { ticking5.perf with samples := List.replicate n 7, windowStart := some 0, due := [⟨31, 0x2F, some 7, 5⟩] } }

/-- R417, R419, R420: commands at once and at the edge, a window, a buffer with room and a full one. -/
theorem witness_PerformanceCountersCommanded :
    let d := perfDev 0
    (stateOf (deviceAt .ready)).chip.admits 7 R.PERF_CMD 0 (perfWord 1 false) = true ∧ (false && (deviceAt .ready).tick.running) = false ∧
    (stateOf (deviceAt .ready)).chip.admits 0 R.PERF_CMD 0 (perfWord 4 true) = true ∧ (stateOf d).chip.admits 0 R.PERF_CMD 0 (perfWord 4 true) = true ∧
    d.tick.running = true ∧ d.perf.windowStart = some 0 ∧ d.on F.PERF_SAMPLE_CFG_EN = true ∧ d.get F.PERF_SAMPLE_CFG_EVENT = 3 ∧
    d.perf.due.any (fun (q : SampleDue) => q.admits 31 2 15 7 && q.admits 0 4 0 7) = true ∧
    d.perf.due.any (fun (q : SampleDue) => q.admits 31 2 15 6 || q.admits 31 2 14 7 || q.admits 31 5 15 7 || q.admits 31 1 15 7) = false ∧
    (d.sampled 1 1 0 0 none).perf.due = d.perf.due ∧ (d.sampled 3 (d.get F.PERF_SAMPLE_CFG_PERIOD + 1) 31 0x2F (some 7)).perf.due.length = 2 ∧
    d.perf.samples.length < 64 ∧ 64 ≤ (perfDev 64).perf.samples.length ∧ (stateOf d).chip.admitsRead 7 R.PERF_SAMPLE_POP 0 = true ∧
    (after (.perfSnap 0 false) (stateOf (deviceAt .ready))).chip.dev.get F.PERF_SNAP_SEQ_VALUE = 1 ∧
    (after (.perfStop 0 true) (stateOf d)).chip.dev.perf.atEdge = [3] ∧
    (after .perfBwWindow (stateOf d)).chip.dev.get F.PERF_EVENTS_BW_WINDOW = 1 ∧
    (after (.perfSample 31 2 15 7) (stateOf (perfDev 64))).chip.dev.get F.PERF_SAMPLE_STATUS_DROPPED = 1 ∧
    (after (.perfSamplePop 7) (stateOf d)).chip.dev.out = [.result 7 resOk [255, 255, 255, 255]] := by decide +kernel

def staged (n : Nat) : Device := { deviceAt .ready with bb := { (deviceAt .ready).bb with staging := List.replicate n ⟨0x51, 13, 0, 0, 1, 2⟩ } }

/-- R422 to R424: an event staged, room, no room, a box that is frozen. -/
theorem witness_BlackBoxRecordsAndRearms :
    let d := staged 1
    let f := d.put F.BBOX_STATUS_FROZEN 0 1
    d.bb.staging = [⟨0x51, 13, 0, 0, 1, 2⟩] ∧ (staged 16).bb.staging.length = 16 ∧ f.on F.BBOX_STATUS_FROZEN = true ∧
    (stateOf d).chip.admits 7 R.BBOX_MARK 0 (2 ^ 32 - 1) = true ∧ (stateOf f).chip.admits 0 R.BBOX_MARK 0 0 = true ∧
    (stateOf f).chip.admits 7 R.BBOX_CMD 0 (F.BBOX_CMD_ARM.at 1) = true ∧ d.on F.BBOX_STATUS_TRIGGERED = false ∧
    (d.put F.BBOX_CFG_TRIG 0 0xFFFF).get F.BBOX_CFG_TRIG ≠ 0 ∧
    (after .bboxEntryWrite (stateOf (d.put F.BBOX_CFG_TRIG 0 0xFFFF))).chip.dev.get F.BBOX_STATUS_TRIGGERED = 1 ∧
    (after (.bboxMark 0 5) (stateOf (staged 16))).chip.dev.get F.BBOX_LOST_COUNT = 1 ∧
    (after (.bboxArm 0) (stateOf f)).chip.dev.get F.BBOX_STATUS_FROZEN = 0 := by decide +kernel

/-! ## Keys and pins -/

/-- Sensing runs; key 31 is enabled, acts as `act` says and is in this state. -/
def touchDev (act : Nat) (q : TouchKey) : Device :=
  (putAll [(F.TOUCH_CTRL_EN, 0, 1), (F.TOUCH_KEY_EN_EN, 0, 2 ^ 31), (F.TOUCH_KEY_ACTION_ACTION, 31, act), (F.TOUCH_KEY_ACTION_ARG, 31, 9),
    (F.TOUCH_KEY_THRESH_THRESH, 31, 100), (F.TOUCH_KEY_THRESH_HYST, 31, 10), (F.TOUCH_KEY_CFG_DEBOUNCE, 31, 1)] (deviceAt .ready)).setTouchKey 31 q

/-- R430 to R436: readings that end LEARNING, press, select and release; rebases, a gain, enables. -/
theorem witness_TouchKeysAreScannedRebasedAndLearn :
    let idle := { TouchKey.empty with st := 2, base := 1000 }
    let d := touchDev 0 idle
    let learn := touchDev 0 { TouchKey.empty with st := 1, n := 31, sum := 31000 }
    let gain := F.TOUCH_KEY_CFG_GAIN.at 3 + F.TOUCH_KEY_CFG_DEBOUNCE.at 2
    (d.sensing && d.keyOn 31) = true ∧ (d.sensing && d.keyOn 0) = false ∧ (learn.touchKey 31).st = 1 ∧ (learn.touchKey 31).n = 31 ∧
    (d.touchKey 31).base + d.get F.TOUCH_KEY_THRESH_THRESH 31 ≤ 1100 ∧ d.get F.TOUCH_KEY_CFG_DEBOUNCE 31 ≤ (d.touchKey 31).up + 1 ∧
    d.get F.TOUCH_KEY_ACTION_ACTION 31 = 0 ∧ (touchDev 3 idle).get F.TOUCH_KEY_ACTION_ACTION 31 = 3 ∧ d.pwr = .ready ∧
    (stateOf d).chip.admits 7 R.TOUCH_CMD 0 (F.TOUCH_CMD_OP.at 1 + F.TOUCH_CMD_KEY.at 31) = true ∧
    (stateOf d).chip.admits 0 R.TOUCH_CMD 0 (F.TOUCH_CMD_OP.at 1 + F.TOUCH_CMD_ALL.at 1) = true ∧
    (stateOf d).chip.admits 0 R.TOUCH_KEY_CFG 31 gain = true ∧ F.TOUCH_KEY_CFG_GAIN.of gain ≠ d.get F.TOUCH_KEY_CFG_GAIN 31 ∧
    (deviceAt .ready).get F.TOUCH_CTRL_EN = 0 ∧ (live .ready).chip.admits 7 R.TOUCH_KEY_EN 0 (2 ^ 32 - 1) = true ∧
    (deviceAt .ready).coreOn = true ∧ (deviceAt .ready).inReset 11 = false ∧ F.TOUCH_CTRL_EN.of (F.TOUCH_CTRL_EN.at 1) = 1 ∧
    (live .ready).chip.admits 0 R.TOUCH_CTRL 0 (F.TOUCH_CTRL_EN.at 1) = true ∧
    (after (.touchEnWrite 0 true (F.TOUCH_CTRL_EN.at 1)) (stateOf ((touchDev 0 TouchKey.empty).put F.TOUCH_CTRL_EN 0 0))).chip.dev.touchKey 31 =
      { TouchKey.empty with st := 1, check := true } ∧
    ((after (.touchEnWrite 0 true (F.TOUCH_CTRL_EN.at 1)) (stateOf (touchDev 0 TouchKey.empty))).chip.dev.touchKey 31).check = false ∧
    ((after (.touchEnWrite 0 true (F.TOUCH_CTRL_EN.at 1)) (stateOf { touchDev 0 TouchKey.empty with touch := { (touchDev 0 TouchKey.empty).touch with fresh := [31] } })).chip.dev.touchKey 31).check = true ∧
    ((after (.touchScan 31 1000) (stateOf learn)).chip.dev.touchKey 31).base = 1000 ∧
    ((after (.touchScan 31 1100) (stateOf d)).chip.dev.touchKey 31).st = 3 ∧
    (after (.touchScan 31 1100) (stateOf (touchDev 3 idle))).chip.dev.get F.TOUCH_EVENTS_SELECT = 1 ∧
    (after (.touchScan 31 1089) (stateOf (touchDev 0 { idle with st := 3 }))).chip.dev.get F.TOUCH_EVENTS_RELEASE = 1 ∧
    ((after (.touchRebaseAll 0) (stateOf d)).chip.dev.touchKey 31).st = 1 ∧
    ((after (.touchGainWrite 0 31 gain) (stateOf d)).chip.dev.touchKey 31).st = 1 := by decide +kernel

/-- R458, R463: the highest pin, selected and not; the alarm on and off. -/
theorem witness_PinEdgesAndTemperature :
    let d := (deviceAt .ready).put F.GPIO_EDGE_EN_EN 0 (2 ^ 23)
    (d.get F.GPIO_IN_IN).testBit 23 ≠ true ∧ (d.get F.GPIO_EDGE_EN_EN).testBit 23 = true ∧ (d.get F.GPIO_EDGE_EN_EN).testBit 0 = false ∧
    (after (.gpioInputEdge 23 true) (stateOf d)).chip.dev.get F.GPIO_EDGE_EDGE = 2 ^ 23 ∧
    (after .thermalClear (after .thermalAlarm (stateOf d))).chip.dev.alarmWord.testBit 5 = false ∧
    (after .thermalAlarm (stateOf d)).chip.dev.alarmWord.testBit 5 = true := by decide +kernel

/-! ## Every step -/

/-- The premises of the invariants hold at reset, and a step from there answers. -/
theorem witness_EveryStepKeepsMemoriesCanonical :
    State.reset.chip.mem.wf = true ∧ Flash.wf State.reset.chip.dev.upd.settings = true ∧
    (match step State.reset with | .next _ => true | _ => false) = true := by decide +kernel

/-- A step that raises a fuse: CONFIRM of an image with SVN 5 of component 0. -/
theorem witness_NoStepLowersAFuse :
    let d := updDev .ready { UpdX.empty with job := some (.selector 1 2 6), run := { Image.empty with svns := [5] } } []
    (match step ⟨[.updFlashWriteComplete], ⟨Memory.reset, d⟩⟩ with | .next t => t.chip.mem.otp.svn 0 | _ => 0) = 5 := by decide +kernel

/-! ## Operands no command can carry -/

def badRx : RxHdr := { flowPkt with port := 28 }
def badFuhel : FuhelHdr := { request 0 with slot := 256 }
def goodTether : TetherHdr := ⟨0, true, 3, 0, 0, 0, 0, 0⟩
def badTether : TetherHdr := { goodTether with lane := 4 }
def goodDigest : Digest := ⟨0, false, false, true, 0, [], [], [], [], 0⟩

/-- Every field of a header over its width is refused; the ports P0, P27 and 32 are not. -/
theorem test_wf_headers :
    (∀ h ∈ [badRx, { flowPkt with port := 31 }, { flowPkt with port := 33 }, { flowPkt with dstMac := 2 ^ 48 }, { flowPkt with srcMac := 2 ^ 48 },
      { flowPkt with etype := 65536 }, { flowPkt with src := 2 ^ 32 }, { flowPkt with dst := 2 ^ 32 }, { flowPkt with proto := 256 },
      { flowPkt with sport := 65536 }, { flowPkt with dport := 65536 }], h.ok = false) ∧
    (∀ p ∈ [0, 27, 32], ({ flowPkt with port := p } : RxHdr).ok = true) ∧ (request 0).ok = true ∧
    (∀ h ∈ [badFuhel, { request 0 with rx := badRx }, { request 0 with session := 2 ^ 32 }, { request 0 with seq := 2 ^ 32 }], h.ok = false) ∧
    goodTether.ok = true ∧
    (∀ h ∈ [badTether, { goodTether with unit := 256 }, { goodTether with alive := 256 }, { goodTether with tick := 2 ^ 64 },
      { goodTether with epoch := 2 ^ 32 }], h.ok = false) ∧
    (∀ op ∈ [DebugOp.setSlot 8, .regRead (2 ^ 32), .regWrite (2 ^ 32) 0, .regWrite 0 (2 ^ 32), .dpRead 256 0 0, .dpRead 0 (2 ^ 64) 0,
      .dpWrite 256 0 [], .dpWrite 0 (2 ^ 64) []], op.ok = false) ∧ (DebugOp.dpRead 255 0 0).ok = true := by decide +kernel

/-- One operand over its bound in each command: part 1. -/
theorem test_wf_refuses_1 :
    ([.registerWrite 8 0 0 0 0, .registerWrite 0 (2 ^ 32) 0 0 0, .registerWrite 0 0 0 (2 ^ 32) 0, .registerWrite 0 0 0 0 (2 ^ 32), .rcRead 8 0 0,
      .rcRead 0 (2 ^ 32) 0, .rcRead 0 0 (2 ^ 32), .loReadLatch 8 0, .loReadLatch 0 (2 ^ 32), .loWriteHold 8 0 0, .loWriteHold 0 (2 ^ 32) 0,
      .loWriteHold 0 0 (2 ^ 32), .hiWriteApply 8 0 0, .hiWriteApply 0 (2 ^ 32) 0, .hiWriteApply 0 0 (2 ^ 32), .tileBlendComplete 32 0 0,
      .tileBlendComplete 0 256 0, .tileBlendComplete 0 0 8, .engineWatchdogExpire 16, .tickPageFlush 8, .outputFrameSendStart 32,
      .videoPacketSend 64 0, .loopbackTileCheck 32 0 0 [], .loopbackTileCheck 0 2 0 [], .loopbackTileCheck 0 0 256 [], .stampSend 64,
      .frsAckSource 8 0, .frsAckSource 0 256, .frsAckAll 8, .layoutRequest 8 0, .layoutRequest 0 65536, .layoutCancel 8, .outOwnerWrite 8 0 0,
      .outOwnerWrite 0 32 0, .outOwnerWrite 0 0 8, .berthQuery 8 0, .berthQuery 0 16384, .berthPinSource 8 0, .berthPinSource 0 256,
      .berthPinOutput 8 0, .berthPinOutput 0 32, .berthPinRelease 8, .poolConfigWrite 8 0 0, .poolConfigWrite 0 (2 ^ 32) 0] : List Instr).all (fun (i : Instr) => !i.wf) = true := by decide +kernel

/-- One operand over its bound in each command: part 2. -/
theorem test_wf_refuses_2 :
    ([.poolConfigWrite 0 0 (2 ^ 32), .matCommit 8 0, .matCommit 0 256, .matQuery 8 0, .matQuery 0 256, .ingestPacketReceive badRx pixels,
      .ingestSkewTimeout 256 0, .streamPacketReceive badRx strPkt, .accessUnitIdleClose 256, .decodePictureComplete 256 noPic, .decOpen 8 0,
      .decOpen 0 256, .decClose 8 0, .decClose 0 256, .decResync 8 0, .decResync 0 256, .encOpen 8 0, .encOpen 0 32, .encClose 8 0, .encClose 0 32,
      .encRefresh 8 0, .encRefresh 0 32, .encBitRateWrite 8 0 0 0, .encBitRateWrite 0 32 0 0, .encCtuRowStart 32, .encSliceComplete 32 row1,
      .encDeadline 32 0 [], .feedPacketSend 32 0, .feedLoopbackCheck 32 0 0 [], .feedLoopbackCheck 0 2 0 [], .mediaFrameDrop badRx,
      .arpRequestReceive badRx 0 0 0, .arpRequestReceive flowPkt 0 (2 ^ 32) 0, .arpRequestReceive flowPkt 0 0 (2 ^ 32),
      .arpRequestReceive flowPkt (2 ^ 48) 0 0, .arpReplyReceive badRx 0 0 0, .arpReplyReceive flowPkt 0 (2 ^ 32) 0,
      .arpReplyReceive flowPkt 0 0 (2 ^ 32), .arpReplyReceive flowPkt (2 ^ 48) 0 0, .arpRetryTimer 28 0, .arpRetryTimer 0 (2 ^ 32),
      .arpRefreshTimer 28 0, .arpRefreshTimer 0 (2 ^ 32), .icmpEchoRequest badRx []] : List Instr).all (fun (i : Instr) => !i.wf) = true := by decide +kernel

/-- One operand over its bound in each command: part 3. -/
theorem test_wf_refuses_3 :
    ([.igmpQueryReceive badRx 0 0, .igmpReportRepeat 28, .igmpV2Timeout 28, .rxFlowEnableWrite 8 0 0, .rxFlowEnableWrite 0 512 0,
      .rxFlowEnableWrite 0 0 (2 ^ 32), .witnessStampReceive badRx (.video pixels), .portEnable 8 0 0, .portEnable 0 28 0, .portEnable 0 0 (2 ^ 32),
      .portDisable 8 0 0, .portDisable 0 28 0, .portDisable 0 0 (2 ^ 32), .laneAnComplete 28, .laneTrainComplete 28 [],
      .laneLockAcquired 32 0 0 true, .laneAlignComplete 7 0, .laneLockLoss 32, .laneAttemptTimeout 28, .refclkLoss 3, .refclkRecover 3,
      .adaptFreeze 32 true, .adaptResume 32, .marginCheckTimer 32, .marginCheckComplete 32 0, .tetherEnable 8, .tetherDisable 8,
      .laneRetrainStart 32, .laneRetrainComplete 32, .laneRetrainAbandon 32, .scanStart 8 0 0 0 0, .scanStart 0 32 0 0 0,
      .ptpAnnounceReceive badRx announce, .ptpSyncReceive badRx (sync 0 true), .ptpFollowUpReceive badRx (sync 0 true),
      .ptpDelayRespReceive badRx ⟨0, gmId, 0, true, 0, 0, 0⟩, .ptpDelayReqSend 2, .ptpAnnounceTimeout 2, .ptpSyncTimeout 2, .timeRelock 8 0,
      .timeRelock 0 2, .timeSelect 8 0, .timeSelect 0 2, .timeCancel 8] : List Instr).all (fun (i : Instr) => !i.wf) = true := by decide +kernel

/-- One operand over its bound in each command: part 4. -/
theorem test_wf_refuses_4 :
    ([.timeNowRead 8, .trigEnableWrite 8 0 0, .trigEnableWrite 0 4 0, .trigEnableWrite 0 0 (2 ^ 32), .trigPulseStart 4, .trigPulseEnd 4,
      .captureEdge 4 true, .capturePop 8 0, .capturePop 0 4, .tetherStateReceive badTether [], .tetherMirrorReceive badTether [],
      .tetherStateEndReceive badTether 0 true, .tetherSyncReceive badTether [] 0 none, .tetherHealthReceive badTether shadowMsg,
      .leaseCommitReceive badTether 0, .leaseRevertReceive badTether, .leaseRetrainReceive badTether 0, .leaseRetrainReceive goodTether 4,
      .tetherDigestReceive badTether goodDigest, .tetherDecisionReceive badTether true, .pairEnWrite 8 0, .pairEnWrite 0 (2 ^ 32), .pairHandover 8,
      .pairResync 8, .memRequest (2 ^ 40) true 0 [] .pager .other, .memReadResponse 32 0 0, .memRefreshDue 32 0, .memStackTempHigh 2 0,
      .domainClockLock 12, .domainClockTimeout 12, .pwrCmdWatch 8, .pwrCmdStandby 8, .pwrCmdReady 8, .pwrCmdRun 8, .spiRegWrite (2 ^ 32) 0,
      .spiRegWrite 0 (2 ^ 32), .spiRegRead (2 ^ 32), .spiDpWrite [], .spiDpWrite (List.replicate 257 0), .spiDpFetch 0, .spiDpFetch 257,
      .fuhelOpen badFuhel, .fuhelClose badFuhel, .fuhelRegRead badFuhel []] : List Instr).all (fun (i : Instr) => !i.wf) = true := by decide +kernel

/-- One operand over its bound in each command: part 5. -/
theorem test_wf_refuses_5 :
    ([.fuhelRegWrite badFuhel [], .fuhelDpWrite badFuhel 0 0 [], .fuhelDpWrite (request 0) 0 (2 ^ 64) [], .fuhelDpRead badFuhel 0 0 0,
      .fuhelDpRead (request 0) 0 (2 ^ 64) 0, .fuhelEvqAck badFuhel 0, .fuhelKeepalive badFuhel, .fuhelReservedOp badFuhel 0, .fuhelEventSend 8,
      .fuhelEventRepeat 8, .fuhelSessionTimeout 8, .evqPop 8, .lcToProduction 8, .lcToDecommissioned 8, .debugUnlockResponse [] [] 8,
      .debugAccess (.setSlot 8), .updOpen 8 0, .updOpen 0 4, .updClose 8 0, .updClose 0 4, .updVerify 8 0, .updVerify 0 4, .updActivate 8 0,
      .updActivate 0 4, .updSwap 8 0, .updSwap 0 4, .updConfirm 8 0, .updConfirm 0 4, .updRevert 8 0, .updRevert 0 4, .updWindowWrite 8 0 [],
      .settingsWindowWrite 8 0 [], .chkData8 8 0 0, .chkData8 0 64 0, .chkData8 0 0 256, .chkData16 8 0 0, .chkData16 0 64 0, .chkData16 0 0 65536,
      .chkData32 8 0 0, .chkData32 0 64 0, .chkData32 0 0 (2 ^ 32), .chkInit 8 0, .chkInit 0 64, .chkFinish 8 0] : List Instr).all (fun (i : Instr) => !i.wf) = true := by decide +kernel

/-- One operand over its bound in each command: part 6. -/
theorem test_wf_refuses_6 :
    ([.chkFinish 0 64, .chkRange 8 0, .chkRange 0 64, .perfSnap 8 true, .perfStart 8 true, .perfStop 8 true, .perfClear 8 true,
      .perfSample 32 0 0 0, .perfSample 0 16 0 0, .perfSample 0 0 16 0, .perfSample 0 0 0 8, .perfSamplePop 8, .bboxArm 8, .bboxMark 8 0,
      .bboxMark 0 (2 ^ 32), .touchScan 32 0, .touchScan 0 65536, .touchRebase 8 0, .touchRebase 0 32, .touchRebaseAll 8, .touchGainWrite 8 0 0,
      .touchGainWrite 0 32 0, .touchGainWrite 0 0 (2 ^ 32), .touchEnWrite 8 true 0, .touchEnWrite 0 true (2 ^ 32), .gpioInputEdge 24 true,
      .memWriteAck 32 0, .memStackTempNormal 2 0] : List Instr).all (fun (i : Instr) => !i.wf) = true := by decide +kernel

/-! ## The spec's worked examples and check values -/

def digits (l : List Nat) : List Byte := l.map (fun (n : Nat) => BitVec.ofNat 8 (48 + n))

/-- R283 gives the check value of "123456789"; R69 names CRC-32C, whose published one is 0xE306_9283. -/
theorem test_check_values :
    crc64 (digits [1, 2, 3, 4, 5, 6, 7, 8, 9]) = 0x995DC9BBDF1939FA ∧ crc32c (digits [1, 2, 3, 4, 5, 6, 7, 8, 9]) = 0xE3069283 := by decide +kernel

/-- "The tether check on a host channel" (15): channel 20 with the CRC-64 of R283 and a running register. -/
def tetherChan (v : Nat) : Device :=
  let c := [(F.CHK_CH_CFG_WIDTH, 20, 63), (F.CHK_CH_CFG_REFIN, 20, 1), (F.CHK_CH_CFG_REFOUT, 20, 1), (F.CHK_CH_CFG_ALIVE_EN, 20, 0),
    (F.CHK_CH_POLY_LO_VALUE, 20, 0xA9EA3693), (F.CHK_CH_POLY_HI_VALUE, 20, 0x42F0E1EB), (F.CHK_CH_INIT_LO_VALUE, 20, 0xFFFFFFFF),
    (F.CHK_CH_INIT_HI_VALUE, 20, 0xFFFFFFFF), (F.CHK_CH_XOROUT_LO_VALUE, 20, 0xFFFFFFFF), (F.CHK_CH_XOROUT_HI_VALUE, 20, 0xFFFFFFFF)]
  (putAll c (deviceAt .ready)).setChkValue 20 v

/-- Its steps: INIT, a word fed, and FINISH after all nine bytes. -/
theorem test_tether_check_on_a_host_channel :
    let p := crc64Param
    let fed (k : Nat) : Nat := ((digits [1, 2, 3, 4, 5, 6, 7, 8, 9]).take k).foldl (crcFeed p) (2 ^ 64 - 1)
    (after (.chkInit 0 20) (stateOf (tetherChan 0))).chip.dev.chkValue 20 = 2 ^ 64 - 1 ∧
    (after (.chkData32 0 20 0x35363738) (stateOf (tetherChan (fed 4)))).chip.dev.chkValue 20 = fed 8 ∧
    (after (.chkData8 0 20 0x39) (stateOf (tetherChan (fed 8)))).chip.dev.chkValue 20 = fed 9 ∧
    (after (.chkFinish 0 20) (stateOf (tetherChan (fed 9)))).chip.dev.get F.CHK_CH_RESULT_LO_RESULT 20 = 0xDF1939FA ∧
    (after (.chkFinish 0 20) (stateOf (tetherChan (fed 9)))).chip.dev.get F.CHK_CH_RESULT_HI_RESULT 20 = 0x995DC9BB := by decide +kernel

/-- "Translating a berth address" (11): channel, local address, pseudo-channel, bank and row, and the channel with HASH. -/
theorem test_translating_a_berth_address :
    let d := (deviceAt .ready).put F.MEM_MAP_HASH 0 0
    d.translate 0x123456780 = (22, 0x091A2780) ∧ d.pcOf 0x091A2780 = 1 ∧ d.bankOf 0x091A2780 = 32 + 0 * 16 + 0 * 4 + 1 ∧ d.rowOf 0x091A2780 = 2330 ∧
    ((deviceAt .ready).put F.MEM_MAP_HASH 0 1).translate 0x123456780 = (25, 0x091A2780) := by decide +kernel

/-- "A write that crosses into a protected page" (13): slot 3, entries 9 and 10. -/
theorem test_write_into_a_protected_page :
    let d := putAll [(F.HOST_PROT_RGN_BASE_BASE, 9, 0x40000), (F.HOST_PROT_RGN_SIZE_PAGES, 9, 0x4000), (F.HOST_PROT_RGN_PERM_PERM, 9, 2 * 4 ^ 3),
      (F.HOST_PROT_RGN_BASE_BASE, 10, 0x44000), (F.HOST_PROT_RGN_SIZE_PAGES, 10, 1), (F.HOST_PROT_RGN_PERM_PERM, 10, 1 * 4 ^ 3)] (deviceAt .ready)
    d.dramRefused 3 0x43FFF800 4096 true = some (whyPerm, 0x44000000) ∧ d.dramRefused 3 0x43FFF800 2048 true = none ∧
    d.dramRefused 3 0x43FFF800 4096 false = none := by decide +kernel

/-- "A camera window" (04), its stride figure, and "An anti-aliased label edge" (04). -/
theorem test_scaling_and_blending :
    let a (x : Int) : Axis := mkAxis 0 1920 1920 x 1280 1280 false false
    decimation 1920 1280 = 1 ∧
    (a 1280).idx = 0 ∧ (a 1280).ph = 16 ∧ (a 1281).idx = 1 ∧ (a 1281).ph = 48 ∧ (a 1282).idx = 3 ∧ (a 1282).ph = 16 ∧
    (a 1440).idx = 240 ∧ (a 1440).ph = 16 ∧ (a 1281).taps (-2) = [0] ∧
    (mkAxis 0 1920 1920 1280 1280 1280 true false).ph = 8 ∧ (mkAxis 0 1920 1920 1281 1280 1280 true false).ph = 56 ∧
    (mkAxis 0 1080 1080 0 0 720 false false).ph = 16 ∧ fmtStride 9 1920 = 3840 ∧ picBytes 9 1080 3840 = 6220800 ∧ picBytes 9 1088 3840 = 6266880 ∧
    premul 1 49152 32896 (60000, 0, 0) = (22588, 0, 0, 24672) ∧
    blendOver (9830, 0, 0, 65535) (22588, 0, 0, 24672) = (28717, 0, 0, 65535) := by decide +kernel

/-- "The outputs of the operations wall" (07): 3840 x 2160 in format 1 at 60 Hz, MAX_PAYLOAD 1,200. -/
theorem test_operations_wall_outputs :
    let d := (deviceAt .run).put F.NET_TX_PKT_MAX_PAYLOAD 0 1200
    d.pktGeom 0 ⟨0, 0, 1, 3840, 2160, 0, 0, 0, 0, []⟩ = (240, 8) ∧ d.tro 0 = 637037 ∧ d.pktTime 0 17280 17279 = 16636111 ∧
    d.videoTs 104400123456 = 0x5268DF00 := by decide +kernel

/-- The capacities that "A six-output operations wall" (03) quotes from R32, with the margin of reset. -/
theorem test_class_capacities :
    (deviceAt .ready).classCap 1 = 16256 ∧ (deviceAt .ready).classCap 2 = 16272 ∧ (deviceAt .ready).classCap 4 = 17484 := by decide +kernel

/-- "A scene change under CBR" (06): the floors and B, and the CTU of row 12 that is coded again at floor. -/
theorem test_scene_change_under_cbr :
    let d := ((deviceAt .run).put F.ENC_SESS_SIZE_W 0 1920).put F.ENC_SESS_SIZE_H 0 1080
    d.encBudget 0 20000 = 333333 ∧ floorFrom 1920 1080 0 = 70720 ∧ d.encFloorOk 0 4489 = true ∧ d.encFloorOk 0 4488 = false ∧
    floorFrom 1920 1080 368 = 19456 ∧ codeCtus 1920 1080 366666 510 368 330000 false [] [(20000, 90), (20, 10)] = (330100, true, [368, 369]) := by decide +kernel

/-- "A thumb resting at power-up" (16): key 5 in each of its six steps. -/
def thumbDev (q : TouchKey) : Device :=
  (putAll [(F.TOUCH_CTRL_EN, 0, 1), (F.TOUCH_KEY_EN_EN, 0, 32), (F.TOUCH_KEY_THRESH_THRESH, 5, 64), (F.TOUCH_KEY_THRESH_HYST, 5, 16), (F.TOUCH_KEY_CFG_DEBOUNCE, 5, 3)]
    (deviceAt .ready)).setTouchKey 5 q
def thumbAfter (q : TouchKey) (x : Nat) : Device := (after (.touchScan 5 x) (stateOf (thumbDev q))).chip.dev

theorem test_thumb_resting_at_power_up :
    let q := { TouchKey.empty with base := 1820 }
    ((thumbAfter { q with st := 1, n := 31, sum := 31 * 1820 } 1820).touchKey 5).st = 2 ∧
    ((thumbAfter { q with st := 1, n := 31, sum := 31 * 1820 } 1820).touchKey 5).base = 1820 ∧
    ((thumbAfter { q with st := 2, low := 48 } 1700).touchKey 5).st = 2 ∧
    ((thumbAfter { q with st := 2, low := 49 } 1700).touchKey 5).st = 1 ∧
    (thumbAfter { q with st := 2, low := 49 } 1700).get F.TOUCH_EVENTS_REBASE = 1 ∧
    ((thumbAfter { q with st := 2, base := 1700, up := 1 } 1790).touchKey 5).st = 2 ∧
    ((thumbAfter { q with st := 2, base := 1700, up := 2 } 1790).touchKey 5).st = 3 ∧
    (thumbAfter { q with st := 2, base := 1700, up := 2 } 1790).get F.TOUCH_EVENTS_PRESS = 1 ∧
    ((thumbAfter { q with st := 2, up := 2 } 1790).touchKey 5).st = 2 := by decide +kernel

/-- The access code example of 00: a counter of 41 is read in the cycle that counts one more. -/
theorem test_read_and_clear_keeps_the_count_of_its_cycle :
    let s := stateOf ((deviceAt .ready).put F.NET_DROP_IPV6_COUNT 0 41)
    (after (.rcRead 0 R.NET_DROP_IPV6.base 1) s).chip.dev.get F.NET_DROP_IPV6_COUNT = 1 ∧
    (after (.rcRead 0 R.NET_DROP_IPV6.base 1) s).chip.dev.out = [.result 0 resOk [0, 0, 0, 41]] := by decide +kernel

/-- R23: the capture tick of the example moves by the difference of the discontinuity. -/
theorem test_capture_ticks_move_with_a_discontinuity :
    let e := (deviceAt .run).setBerth 3 { Berth.empty with st := .sealed, capture := 4998 }
    let d := { e with tick := { e.tick with scale := 1 } }
    ((d.shiftTicks (104400000123 - 5001)).berth 3).capture = 104400000120 ∧
    (((d.shiftTicks (104400000123 - 5001)).shiftTicks 7).berth 3).capture = 104400000120 := by decide +kernel

/-- The table gives its rows no bits: no word spells a command. -/
theorem test_no_word_spells_a_command : decodeTableWord 32 0 = none ∧ decodeTableWord 64 1 = none := by decide +kernel

end Sys2Proof.Tests
end

section
/-!
SUPPORT. Register accesses once more: which fields an update keeps, when an access fault is found and with which
reason, and what a judged access answers.
-/

namespace Sys2Proof.Machine

/-! ### Which fields an update keeps -/

section Keeps

variable (d : Device)

theorem Device.keeps_trans {d e e' : Device} {p : Fld → Bool} (h : d.keeps e p) (h' : e.keeps e' p) : d.keeps e' p :=
  ⟨fun f i hf => (h'.1 f i hf).trans (h.1 f i hf), fun f s i hf => (h'.2 f s i hf).trans (h.2 f s i hf)⟩

/-- What does not touch the register store keeps every field. -/
theorem Device.keeps_of_regs {d e : Device} (h : e.regs = d.regs) (p : Fld → Bool) : d.keeps e p :=
  ⟨fun f i _ => Device.get_congr h f i, fun f s i _ => Device.getS_congr h f s i⟩

theorem Device.keeps_put {p : Fld → Bool} (f : Fld) (i v : Nat) (hp : ∀ g, p g = true → f.id ≠ g.id) :
    d.keeps (d.put f i v) p :=
  ⟨fun g j hg => Device.get_put_ne d f g i j v (hp g hg), fun g h j _ => Device.getS_put d f g h i j v⟩

theorem Device.keeps_putS {p : Fld → Bool} (f : Fld) (h i v : Nat) (hp : ∀ g, p g = true → f.id ≠ g.id) :
    d.keeps (d.putS f h i v) p :=
  ⟨fun g j _ => Device.get_putS d f g h i j v, fun g k j hg => by rw [Device.getS_putS, if_neg (fun e => hp g hg e.1)]⟩

/-- The fields that a full event queue changes (R381). -/
def overflowFields : List Fld := [F.HOST_EVENTS_EVQ_OVERFLOW, F.HOST_EVQ_STATUS_OVERFLOW, F.HOST_EVQ_STATUS_DROPPED]

/-- A field that `but l` picks is neither in `l` nor one that a full event queue changes. -/
theorem but_apart {l : List Fld} {f : Fld} (hf : f ∈ l ++ overflowFields) (g : Fld) (hg : but l g = true) : f.id ≠ g.id := by
  rintro e
  have : g.id ∈ (l ++ overflowFields).map Fld.id := List.mem_map.mpr ⟨f, hf, e⟩
  simp only [but, Bool.not_eq_true'] at hg
  exact Bool.false_ne_true (hg.symm.trans (List.contains_iff_mem.mpr this))

/-- An offer to a slot changes at most that slot's drop count. -/
theorem Device.keeps_offer (e : EvEntry) (h : Nat) (l : List Fld) : d.keeps (d.offer e h).1 (but l) := by
  unfold Device.offer
  split
  · split
    · exact Device.keeps_of_regs rfl _
    · exact Device.keeps_trans (Device.keeps_putS d _ h 0 _ (but_apart (by simp [overflowFields])))
        (Device.keeps_putS _ _ h 0 _ (but_apart (by simp [overflowFields])))
  · exact Device.keeps_of_regs rfl _

theorem Device.keeps_offerAll (e : EvEntry) (l : List Fld) : d.keeps (d.offerAll e).1 (but l) := by
  have key : ∀ (slots : List Nat) (p : Device × Bool),
      p.1.keeps (slots.foldl (fun p slot => let q := p.1.offer e slot; (q.1, p.2 || q.2)) p).1 (but l) := by
    intro slots
    induction slots with
    | nil => intro p; exact Device.keeps_of_regs rfl _
    | cons h r ih => intro p; exact Device.keeps_trans (p.1.keeps_offer e h l) (ih _)
  exact key (List.range 8) (d, false)

/-- An event that is raised changes its own bit, and what a full event queue changes. -/
theorem Device.keeps_raise {l : List Fld} (f : Fld) (a : Nat) (hf : f ∈ l) : d.keeps (d.raise f a) (but l) := by
  have own : d.keeps ((d.put f 0 1).offerAll (d.entry f a)).1 (but l) :=
    Device.keeps_trans (Device.keeps_put d f 0 1 (but_apart (List.mem_append_left _ hf))) (Device.keeps_offerAll _ _ l)
  unfold Device.raise
  simp only
  split
  · exact Device.keeps_trans own (Device.keeps_trans
      (Device.keeps_put _ _ 0 1 (but_apart (by simp [overflowFields]))) (Device.keeps_offerAll _ _ l))
  · exact own

/-- A slot's own copy of a field is changed by an event only where the event queues count what they drop. -/
theorem Device.getS_raise (f g : Fld) (a h i : Nat) (hg : but [f] g = true) : (d.raise f a).getS g h i = d.getS g h i :=
  (Device.keeps_raise d f a (List.mem_singleton.mpr rfl)).2 g h i hg

end Keeps

/-! ### Access faults (R6, R7, R380, R385) -/

section Faults

variable (d : Device) (slot why target a : Nat)

/-- A fault writes the fault fields of its slot and HOST_FAULT. -/
theorem Device.keeps_fault : d.keeps (d.fault slot why target a) (but faultFields) := by
  have apart : ∀ f ∈ faultFields, ∀ g, but faultFields g = true → f.id ≠ g.id :=
    fun f hf => but_apart (List.mem_append_left _ hf)
  unfold Device.fault
  refine Device.keeps_trans ?_ (Device.keeps_raise _ _ 0 (by simp [faultFields]))
  refine Device.keeps_trans ?_ (Device.keeps_putS _ _ slot 0 _ (apart _ (by simp [faultFields])))
  refine Device.keeps_trans ?_ (Device.keeps_putS _ _ slot 0 _ (apart _ (by simp [faultFields])))
  exact Device.keeps_trans (Device.keeps_putS _ _ slot 0 _ (apart _ (by simp [faultFields])))
    (Device.keeps_putS _ _ slot 0 _ (apart _ (by simp [faultFields])))

@[simp] theorem Device.fault_out : (d.fault slot why target a).out = d.out := by simp [Device.fault]

/-- The reason of a fault is read back from the slot's HOST_SLOT_STATUS. -/
theorem Device.getS_fault_reason (hw : why < 16) :
    (d.fault slot why target a).getS F.HOST_SLOT_STATUS_FAULT_REASON slot = why := by
  unfold Device.fault
  simp only [Device.getS_raise _ F.HOST_EVENTS_FAULT F.HOST_SLOT_STATUS_FAULT_REASON 0 slot 0 (by decide), Device.getS_putS]
  simp [Fld.id, F.HOST_SLOT_STATUS_FAULT_REASON, F.HOST_FAULT_ADDR_LO_ADDR_LO, F.HOST_FAULT_ADDR_HI_TARGET,
    F.HOST_FAULT_ADDR_HI_ADDR_HI, Nat.mod_eq_of_lt hw]

/-- The low word of the address of a fault is read back from the slot's HOST_FAULT_ADDR_LO. -/
theorem Device.getS_fault_addr (ha : a < 2 ^ 32) :
    (d.fault slot why target a).getS F.HOST_FAULT_ADDR_LO_ADDR_LO slot = a := by
  have ha' : a % 4294967296 = a := Nat.mod_eq_of_lt ha
  unfold Device.fault
  simp only [Device.getS_raise _ F.HOST_EVENTS_FAULT F.HOST_FAULT_ADDR_LO_ADDR_LO 0 slot 0 (by decide), Device.getS_putS]
  simp [Fld.id, F.HOST_FAULT_ADDR_LO_ADDR_LO, F.HOST_FAULT_ADDR_HI_TARGET, F.HOST_FAULT_ADDR_HI_ADDR_HI, ha']

theorem Device.get_fault_event : (d.fault slot why target a).get F.HOST_EVENTS_FAULT = 1 :=
  Device.get_raise_same _ _ 0 (by decide)

end Faults

/-! ### The reason of a fault -/

theorem regBlock_of_ge {b : Nat} (h : 20 ≤ b) : regBlock b = [] :=
  match b, h with
  | _ + 20, _ => rfl

/-- A row that an address names belongs to the block of the address. -/
theorem findReg_mem {a i : Nat} {r : RegRow} (h : findReg a = some (r, i)) : r ∈ regBlock (a / 65536) := by
  unfold findReg at h
  split at h
  · next hq => cases h; exact List.mem_of_find?_eq_some hq
  · cases h

/-- An address that names a register lies inside the register map. -/
theorem findReg_lt {a i : Nat} {r : RegRow} (h : findReg a = some (r, i)) : a < 0x140000 := by
  by_contra hge
  have := findReg_mem h
  rw [regBlock_of_ge (by omega)] at this
  exact List.not_mem_nil this

section Reason

variable {d : Device} (hb : d.inBoot = false)
include hb

theorem Device.not_boot_of_inBoot : ¬(d.pwr = .boot ∨ d.pwr = .halted) := by
  simpa [Device.inBoot] using hb

/-- After boot an access of another width or alignment has reason ALIGN, wherever it lies. -/
theorem Device.regFault_misaligned {slot a width : Nat} {write : Bool} (h : width ≠ 32 ∨ a % 4 ≠ 0) :
    d.regFault slot a width write = some whyAlign := by
  have hb' := Device.not_boot_of_inBoot hb
  simp only [Device.regFault, hb', false_and, if_false, h, if_true]

/-- After boot an aligned access of 32 bits at or above the end of the map has reason RANGE. -/
theorem Device.regFault_outside {slot a : Nat} {write : Bool} (h4 : a % 4 = 0) (ha : 0x140000 ≤ a) :
    d.regFault slot a 32 write = some whyRange := by
  have hb' := Device.not_boot_of_inBoot hb
  simp only [Device.regFault, hb', false_and, if_false, h4, ne_eq, not_true, or_self, ge_iff_le, ha, if_true]

/-- After boot an aligned write of a shared register in a block that the slot may not write has reason PERM. -/
theorem Device.regFault_forbidden {slot a i : Nat} {r : RegRow} (h4 : a % 4 = 0) (hf : findReg a = some (r, i))
    (hr : r.perSlot = false) (hp : d.perm slot (a / 65536) ≠ 2) : d.regFault slot a 32 true = some whyPerm := by
  have hb' := Device.not_boot_of_inBoot hb
  have ha : ¬ 0x140000 ≤ a := Nat.not_le.mpr (findReg_lt hf)
  simp [Device.regFault, hb', h4, ha, hf, hr, Device.mayWrite, hp]

end Reason

/-! ### What a judged access answers -/

section Answers

variable {c : Chip} {slot a width w hwSet inc why : Nat}

/-- A write in which a fault is found is recorded and answered with FAULT. -/
theorem Chip.doWrite_fault (hs : slot < 8) (hp : c.dev.pd1On = true) (hf : c.dev.regFault slot a width true = some why) :
    c.doWrite slot a width w hwSet = (⟨c.mem, c.dev.fault slot why 0 a⟩ : Chip).answer slot resFault [] := by
  simp only [Chip.doWrite, hp, Nat.mod_eq_of_lt hs, Chip.hostWrite, hf, Bool.not_true, Bool.false_eq_true, if_false]

/-- A read in which a fault is found is recorded and answered with FAULT and a word of 0. -/
theorem Chip.doRead_fault (hs : slot < 8) (hp : c.dev.pd1On = true) (hf : c.dev.regFault slot a width false = some why) :
    c.doRead slot a width inc =
      (⟨c.mem, c.dev.fault slot why 0 a⟩ : Chip).answer slot resFault [0, 0, 0, 0] := by
  simp only [Chip.doRead, hp, Nat.mod_eq_of_lt hs, Chip.hostRead, hf, Bool.not_true, Bool.false_eq_true, if_false]
  rfl

/-- A write without a fault that the role admits and that is not held for the edge reaches the register and is
answered with OK, whether the register takes it or drops it. -/
theorem Chip.doWrite_reaches (hs : slot < 8) (hp : c.dev.pd1On = true) (hf : c.dev.regFault slot a 32 true = none)
    (hr : c.dev.roleRefuses (a / 65536) (isEvq a) = false) (hd : (c.dev.defers && carried a) = false) :
    c.doWrite slot a 32 w hwSet = (c.regWrite slot a (w % 2 ^ 32) hwSet).answer slot resOk [] := by
  simp only [Chip.doWrite, hp, Nat.mod_eq_of_lt hs, Chip.hostWrite, hf, hr, hd, Bool.not_true, Bool.false_eq_true, if_false]

/-- A read without a fault at an offset that names no register is answered with OK and a word of 0. -/
theorem Chip.doRead_undefined (hs : slot < 8) (hp : c.dev.pd1On = true) (hf : c.dev.regFault slot a width false = none)
    (hn : findReg a = none) : c.doRead slot a width inc = c.answer slot resOk [0, 0, 0, 0] := by
  simp only [Chip.doRead, hp, Nat.mod_eq_of_lt hs, Chip.hostRead, hf, hn, Bool.not_true, Bool.false_eq_true, if_false]
  rfl

/-- A write at an offset that names no register is ignored (R8). -/
theorem Chip.regWrite_undefined (hn : findReg a = none) : c.regWrite slot a w hwSet = c := by
  simp only [Chip.regWrite, hn]

end Answers

/-! ### The commands that are one access -/

section Commands

variable {s : State} {slot a width w hwSet inc : Nat} {c : Chip}

theorem registerWrite_runs (h : s.chip.quiet.doWrite slot a width w hwSet = c) :
    exec (.registerWrite slot a width w hwSet) s = .next { s with chip := c } := by
  subst h; rfl

theorem rcRead_runs (h : s.chip.quiet.doRead slot a 32 inc = c) :
    exec (.rcRead slot a inc) s = .next { s with chip := c } := by
  subst h; rfl

theorem loWriteHold_runs (h : s.chip.quiet.doWrite slot a 32 w 0 = c) :
    exec (.loWriteHold slot a w) s = .next { s with chip := c } := by
  subst h; rfl

theorem hiWriteApply_runs (h : s.chip.quiet.doWrite slot a 32 w 0 = c) :
    exec (.hiWriteApply slot a w) s = .next { s with chip := c } := by
  subst h; rfl

end Commands

/-! ### Refused accesses -/

/-- `t` is `s` after a register access of the slot at `a` that was refused for reason `why`, with these bytes for the
host: the fault is recorded and raised, and nothing else has changed (R380). -/
def Faulted (s : State) (slot a why : Nat) (data : List Byte) (t : State) : Prop :=
  t.chip.dev.getS F.HOST_SLOT_STATUS_FAULT_REASON slot = why ∧ t.chip.dev.getS F.HOST_FAULT_ADDR_LO_ADDR_LO slot = a ∧
  t.chip.dev.get F.HOST_EVENTS_FAULT = 1 ∧ t.chip.dev.out = [.result slot resFault data] ∧
  s.chip.dev.keeps t.chip.dev (but faultFields) ∧ t.chip.mem = s.chip.mem

section Refused

variable {s : State} {slot a why : Nat} (hs : slot < 8) (ha : a < 2 ^ 32) (hp : s.chip.dev.pd1On = true) (hw : why < 16)
include ha hw

theorem faulted_answer (data : List Byte) :
    Faulted s slot a why data { s with chip := (⟨s.chip.mem, s.chip.quiet.dev.fault slot why 0 a⟩ : Chip).answer slot resFault data } :=
  ⟨Device.getS_fault_reason _ slot why 0 a hw, Device.getS_fault_addr _ slot why 0 a ha, Device.get_fault_event _ slot why 0 a,
    by simp [Chip.answer, Chip.mapDev, Device.emit, Chip.quiet, Device.quiet],
    Device.keeps_fault s.chip.dev.quiet slot why 0 a, rfl⟩

include hs hp

theorem registerWrite_faulted {width w : Nat} (hf : s.chip.dev.regFault slot a width true = some why) :
    ∃ t, exec (.registerWrite slot a width w 0) s = .next t ∧ Faulted s slot a why [] t :=
  ⟨_, registerWrite_runs (Chip.doWrite_fault hs hp hf), faulted_answer ha hw []⟩

theorem rcRead_faulted (hf : s.chip.dev.regFault slot a 32 false = some why) :
    ∃ t, exec (.rcRead slot a 0) s = .next t ∧ Faulted s slot a why [0, 0, 0, 0] t :=
  ⟨_, rcRead_runs (Chip.doRead_fault hs hp hf), faulted_answer ha hw _⟩

end Refused

/-- Settles O4: each clause names the reason that `regFault` finds, and every fault is recorded alike. -/
theorem registerAccessFaults : Obligations.RegisterAccessFaults := by
  unfold Obligations.RegisterAccessFaults
  intro s slot a hs ha hp hb d faulted
  refine ⟨?_, ?_, ?_, ?_, ?_, ?_, ?_⟩
  · intro width w _ h
    exact registerWrite_faulted hs ha hp (by decide) (Device.regFault_misaligned hb h)
  · intro w h4 hout
    exact registerWrite_faulted hs ha hp (by decide) (Device.regFault_outside hb h4 hout)
  · intro w r i h4 hf hr hperm
    exact registerWrite_faulted hs ha hp (by decide) (Device.regFault_forbidden hb h4 hf hr hperm)
  · intro _ h4
    exact rcRead_faulted hs ha hp (by decide) (Device.regFault_misaligned hb (.inr h4))
  · intro width w _ h
    obtain ⟨t, ht, hfault⟩ := registerWrite_faulted (w := w) hs ha hp (by decide) (Device.regFault_misaligned hb h)
    exact ⟨t, ht, .inl hfault⟩
  · intro _ h4
    obtain ⟨t, ht, hfault⟩ := rcRead_faulted hs ha hp (by decide) (Device.regFault_misaligned hb (.inr h4))
    exact ⟨t, ht, .inl hfault⟩
  · intro h4 hout
    exact rcRead_faulted hs ha hp (by decide) (Device.regFault_outside hb h4 hout)

/-- Settles O5: at an offset without a register the write reaches nothing and the read has no word. -/
theorem undefinedOffsetsReadZeroAndIgnoreWrites : Obligations.UndefinedOffsetsReadZeroAndIgnoreWrites := by
  unfold Obligations.UndefinedOffsetsReadZeroAndIgnoreWrites
  intro s slot a w hs _ hn hp
  constructor
  · intro hf hr hd
    have hw := Chip.doWrite_reaches (c := s.chip.quiet) (w := w) (hwSet := 0) hs hp hf hr hd
    rw [Chip.regWrite_undefined hn] at hw
    exact ⟨_, registerWrite_runs hw, rfl, rfl⟩
  · intro hf
    exact ⟨_, rcRead_runs (Chip.doRead_undefined hs hp hf hn), rfl, rfl⟩

end Sys2Proof.Machine
end

section
/-!
SUPPORT. Register writes that are dropped (R10, R466).
-/

namespace Sys2Proof.Machine

section Dropped

variable (d : Device)

/-- A held half that is used up changes the holds and nothing else. -/
theorem Device.unhold_only (r : RegRow) (slot i : Nat) : ∃ x, d.unhold r slot i = { d with held := x } := by
  unfold Device.unhold
  split
  · exact ⟨_, rfl⟩
  · exact ⟨d.held, rfl⟩

@[simp] theorem Device.unhold_regs (r : RegRow) (slot i : Nat) : (d.unhold r slot i).regs = d.regs := by
  obtain ⟨x, h⟩ := d.unhold_only r slot i; rw [h]
@[simp] theorem Device.unhold_rwt (r : RegRow) (slot i : Nat) : (d.unhold r slot i).rwt = d.rwt := by
  obtain ⟨x, h⟩ := d.unhold_only r slot i; rw [h]
@[simp] theorem Device.unhold_out (r : RegRow) (slot i : Nat) : (d.unhold r slot i).out = d.out := by
  obtain ⟨x, h⟩ := d.unhold_only r slot i; rw [h]
@[simp] theorem Device.unhold_pwr (r : RegRow) (slot i : Nat) : (d.unhold r slot i).pwr = d.pwr := by
  obtain ⟨x, h⟩ := d.unhold_only r slot i; rw [h]

/-- A write to a row that is no high half uses up no hold. -/
theorem Device.unhold_of_no_low {r : RegRow} (h : r.lowOf = none) (slot i : Nat) : d.unhold r slot i = d := by
  simp only [Device.unhold, h]

/-- A write to a high half uses up the hold of its low half, and no hold of that half is left. -/
theorem Device.unhold_held {l h : RegRow} (hl : h.lowOf = some l) (slot i : Nat) :
    (d.unhold h slot i).held = Tab.del d.held (l.key slot i) := by
  simp only [Device.unhold, hl]

/-- The fields that record a dropped write (R10). -/
def dropFields : List Fld := [F.SYS_CFG_DROP_SLOT, F.SYS_CFG_DROP_ADDR, F.SYS_EVENTS_CFG_DROPPED]

variable (slot a : Nat)

/-- A dropped write changes SYS_CFG_DROP and CFG_DROPPED. -/
theorem Device.keeps_dropWrite : d.keeps (d.dropWrite slot a) (but dropFields) := by
  have apart : ∀ f ∈ dropFields, ∀ g, but dropFields g = true → f.id ≠ g.id :=
    fun f hf => but_apart (List.mem_append_left _ hf)
  unfold Device.dropWrite
  refine Device.keeps_trans ?_ (Device.keeps_raise _ _ 0 (by simp [dropFields]))
  exact Device.keeps_trans (Device.keeps_put d _ 0 _ (apart _ (by simp [dropFields])))
    (Device.keeps_put _ _ 0 _ (apart _ (by simp [dropFields])))

@[simp] theorem Device.dropWrite_out : (d.dropWrite slot a).out = d.out := by simp [Device.dropWrite]
@[simp] theorem Device.dropWrite_rwt : (d.dropWrite slot a).rwt = d.rwt := by simp [Device.dropWrite]
@[simp] theorem Device.dropWrite_held : (d.dropWrite slot a).held = d.held := by simp [Device.dropWrite]

theorem Device.get_dropWrite_event : (d.dropWrite slot a).get F.SYS_EVENTS_CFG_DROPPED = 1 :=
  Device.get_raise_same _ _ 0 (by decide)

theorem Device.get_dropWrite_slot (hs : slot < 8) : (d.dropWrite slot a).get F.SYS_CFG_DROP_SLOT = slot := by
  unfold Device.dropWrite
  rw [Device.get_raise _ _ _ 0 0 (by decide) (by decide), Device.get_put_ne _ _ _ _ _ _ (by decide), Device.get_put_same]
  exact Nat.mod_eq_of_lt hs

theorem Device.get_dropWrite_addr (ha : a < 0x140000) : (d.dropWrite slot a).get F.SYS_CFG_DROP_ADDR = a := by
  unfold Device.dropWrite
  rw [Device.get_raise _ _ _ 0 0 (by decide) (by decide), Device.get_put_same]
  exact Nat.mod_eq_of_lt (ha.trans (by decide))

end Dropped

/-- A write to a row that is no low half, with a reserved or busy word among those it would store, is dropped whole
(R10, R466). -/
theorem Chip.regWrite_dropped {c : Chip} {slot a w hwSet i : Nat} {r : RegRow} (hf : findReg a = some (r, i))
    (hlo : r.isLo = false) (hown : (c.dev.ownDrop r i w).1 = false)
    (hbad : ∃ q ∈ c.dev.writeWords r slot i w, c.dev.reservedWrite q.1 i q.2 = true ∨ c.dev.busyWrite q.1 slot i q.2 = true) :
    c.regWrite slot a w hwSet = { c with dev := (c.dev.unhold r slot i).dropWrite slot a } := by
  have any : (c.dev.writeWords r slot i w).any
      (fun (q : RegRow × Nat) => c.dev.reservedWrite q.1 i q.2 || c.dev.busyWrite q.1 slot i q.2) = true := by
    simpa only [List.any_eq_true, Bool.or_eq_true] using hbad
  simp only [Chip.regWrite, hf, hown, hlo, any, Bool.false_eq_true, if_false, if_true]

/-- Settles O6: the write reaches the register, which drops it. -/
theorem reservedAndBusyWritesAreDropped : Obligations.ReservedAndBusyWritesAreDropped := by
  unfold Obligations.ReservedAndBusyWritesAreDropped
  intro s slot a w r i hs ha hw hf hlo hp hfault hrole hdef hown hbad
  have reach := Chip.doWrite_reaches (c := s.chip.quiet) (w := w) (hwSet := 0) hs hp hfault hrole hdef
  rw [Nat.mod_eq_of_lt hw, Chip.regWrite_dropped (c := s.chip.quiet) hf hlo hown hbad] at reach
  have keep : s.chip.dev.keeps (s.chip.quiet.dev.unhold r slot i) (but dropFields) :=
    Device.keeps_of_regs (Device.unhold_regs _ r slot i) _
  refine ⟨_, registerWrite_runs reach, rfl, Device.keeps_trans keep (Device.keeps_dropWrite _ slot a),
    Device.get_dropWrite_event _ slot a, Device.get_dropWrite_slot _ slot a hs, Device.get_dropWrite_addr _ slot a ha, ?_, ?_, ?_⟩
  · simp [Chip.answer, Chip.mapDev, Chip.quiet]
  · intro hlow
    simp [Chip.answer, Chip.mapDev, Device.unhold_of_no_low _ hlow, Chip.quiet]
  · simp [Chip.answer, Chip.mapDev, Device.emit, Chip.quiet, Device.quiet]

end Sys2Proof.Machine
end

section
/-!
SUPPORT. What a stored word leaves in the fields of its register, by their access codes (R11, R12).
-/

namespace Sys2Proof.Machine

theorem forL_cons {α β : Type} (b : β) (l : List β) (f : β → α → α) (a : α) : forL (b :: l) f a = forL l f (f b a) := rfl

theorem forL_append {α β : Type} (l m : List β) (f : β → α → α) (a : α) : forL (l ++ m) f a = forL m f (forL l f a) :=
  List.foldl_append

section Store

variable (d : Device) (r : RegRow) (slot i w : Nat)

/-- The step of `Device.storeWord` for one field. -/
def Device.storeField (r : RegRow) (slot i w : Nat) (f : Fld) (d : Device) : Device :=
  match f.acc with
  | .ro | .rc | .wo => d
  | .rw | .rws => d.putField r slot i f (f.of w)
  | .w1c => d.putField r slot i f (d.fieldOf r slot i f - (d.fieldOf r slot i f &&& f.of w))
  | .rwt =>
    if d.pwr = .run then { d with rwt := Tab.set d.rwt (f.id, i, 0) (f.of w) }
    else { d.put f i (f.of w) with rwt := Tab.del d.rwt (f.id, i, 0) }

theorem Device.storeWord_eq : d.storeWord r slot i w = forL r.flds (Device.storeField r slot i w) d := rfl

theorem Device.putField_only (f : Fld) (v : Nat) : ∃ g, d.putField r slot i f v = { d with regs := g } := by
  unfold Device.putField
  split <;> exact ⟨_, rfl⟩

theorem Device.keeps_putField {p : Fld → Bool} (f : Fld) (v : Nat) (hp : ∀ g, p g = true → f.id ≠ g.id) :
    d.keeps (d.putField r slot i f v) p := by
  unfold Device.putField
  split
  · exact Device.keeps_putS d f slot i v hp
  · exact Device.keeps_put d f i v hp

/-- A field that is put in the copy that the slot reaches reads there what was put. -/
theorem Device.fieldOf_putField (f : Fld) (v : Nat) : (d.putField r slot i f v).fieldOf r slot i f = v % 2 ^ f.width := by
  unfold Device.putField Device.fieldOf
  split <;> simp

/-- A field that is stored changes the register store and the list of waiting values and nothing else. -/
theorem Device.storeField_only (f : Fld) : ∃ g q, d.storeField r slot i w f = { d with regs := g, rwt := q } := by
  have put (v : Nat) : ∃ g q, d.putField r slot i f v = { d with regs := g, rwt := q } := by
    obtain ⟨g, h⟩ := d.putField_only r slot i f v
    exact ⟨g, d.rwt, h⟩
  unfold Device.storeField
  split
  case h_1 | h_2 | h_3 => exact ⟨d.regs, d.rwt, rfl⟩
  case h_4 | h_5 | h_6 => exact put _
  case h_7 => split <;> exact ⟨_, _, rfl⟩

/-- A field that is stored leaves every field with another number. -/
theorem Device.keeps_storeField {p : Fld → Bool} (f : Fld) (hp : ∀ g, p g = true → f.id ≠ g.id) :
    d.keeps (d.storeField r slot i w f) p := by
  unfold Device.storeField
  split
  case h_1 | h_2 | h_3 => exact Device.keeps_of_regs rfl p
  case h_4 | h_5 | h_6 => exact d.keeps_putField r slot i f _ hp
  case h_7 =>
    split
    · exact Device.keeps_of_regs rfl p
    · exact Device.keeps_trans (Device.keeps_put d f i (f.of w) hp) (Device.keeps_of_regs rfl p)

/-- A field that is stored leaves the waiting value of every field with another number. -/
theorem Device.find_rwt_storeField (f : Fld) {k : Key} (hk : f.id ≠ k.1) :
    Tab.find (d.storeField r slot i w f).rwt k = Tab.find d.rwt k := by
  have hk' : (f.id, i, 0) ≠ k := fun e => hk (congrArg Prod.fst e)
  have put (v : Nat) : (d.putField r slot i f v).rwt = d.rwt := by
    obtain ⟨g, h⟩ := d.putField_only r slot i f v
    rw [h]
  unfold Device.storeField
  split
  case h_1 | h_2 | h_3 => rfl
  case h_4 | h_5 | h_6 => rw [put]
  case h_7 =>
    split
    · exact (Tab.find_set ..).trans (if_neg hk')
    · exact (Tab.find_del ..).trans (if_neg hk')

/-! ### The value that a write gives a field -/

/-- Field `f` of register `r` has taken its bits of the word `w`: an RW or RWS field holds them, and an RWT field
holds them outside RUN and in RUN has them wait for the edge. -/
def Device.HasTaken (d : Device) (r : RegRow) (slot i w : Nat) (f : Fld) : Prop :=
  (f.acc = .rw ∨ f.acc = .rws → d.fieldOf r slot i f = f.of w) ∧
  (f.acc = .rwt → (d.pwr = .run → Tab.find d.rwt (f.id, i, 0) = some (f.of w)) ∧ (d.pwr ≠ .run → d.get f i = f.of w))

theorem Fld.of_mod (f : Fld) : f.of w % 2 ^ f.width = f.of w := Nat.mod_mod _ _

theorem Device.storeField_hasTaken (f : Fld) : (d.storeField r slot i w f).HasTaken r slot i w f := by
  have put : (d.putField r slot i f (f.of w)).fieldOf r slot i f = f.of w := by rw [Device.fieldOf_putField, Fld.of_mod]
  constructor
  · rintro (h | h) <;> simpa only [Device.storeField, h] using put
  · intro h
    by_cases hrun : d.pwr = .run
    · simp [Device.storeField, h, hrun]
    · have : (d.put f i (f.of w)).get f i = f.of w := by rw [Device.get_put_same, Fld.of_mod]
      simp only [Device.storeField, h, hrun, if_false]
      exact ⟨fun hr => absurd hr hrun, fun _ => this⟩

variable {d r slot i w}

/-- The field in force is kept where the field is. -/
theorem Device.fieldOf_keeps {e : Device} {p : Fld → Bool} {f : Fld} (h : d.keeps e p) (hf : p f = true) :
    e.fieldOf r slot i f = d.fieldOf r slot i f := by
  unfold Device.fieldOf
  split
  · exact h.2 f slot i hf
  · exact h.1 f i hf

/-- What keeps a field, its waiting value and the power state keeps what the field has taken. -/
theorem Device.HasTaken.of_keeps {e : Device} {p : Fld → Bool} {f : Fld} (h : d.HasTaken r slot i w f) (hk : d.keeps e p)
    (hf : p f = true) (hq : Tab.find e.rwt (f.id, i, 0) = Tab.find d.rwt (f.id, i, 0)) (hp : e.pwr = d.pwr) :
    e.HasTaken r slot i w f := by
  unfold Device.HasTaken
  rw [Device.fieldOf_keeps hk hf, hq, hp, hk.1 f i hf]
  exact h

/-- A field that has taken its bits keeps them while fields with other numbers are stored. -/
theorem Device.HasTaken.forL {r' : RegRow} {w' : Nat} {f : Fld} (l : List Fld) (hl : ∀ g ∈ l, g.id ≠ f.id) :
    ∀ {d : Device}, d.HasTaken r slot i w f → (Machine.forL l (Device.storeField r' slot i w') d).HasTaken r slot i w f := by
  induction l with
  | nil => exact id
  | cons g rest ih =>
    intro d h
    obtain ⟨hg, hrest⟩ := List.forall_mem_cons.mp hl
    have hk : d.keeps (d.storeField r' slot i w' g) (fun x => decide (x.id = f.id)) :=
      d.keeps_storeField r' slot i w' g (fun x hx e => hg (e.trans (of_decide_eq_true hx)))
    have hp : (d.storeField r' slot i w' g).pwr = d.pwr := by
      obtain ⟨a, q, e⟩ := d.storeField_only r' slot i w' g
      rw [e]
    rw [forL_cons]
    exact ih hrest (h.of_keeps hk (decide_eq_true rfl) (d.find_rwt_storeField r' slot i w' g hg) hp)

/-- Every field of a register whose fields have distinct numbers takes its bits of a stored word. -/
theorem Device.storeWord_hasTaken {f : Fld} (hf : f ∈ r.flds) (hr : (r.flds.map Fld.id).Nodup) :
    (d.storeWord r slot i w).HasTaken r slot i w f := by
  obtain ⟨l, m, hlm⟩ := List.append_of_mem hf
  rw [hlm, List.map_append, List.map_cons] at hr
  have later : f.id ∉ m.map Fld.id := (List.nodup_cons.mp (List.nodup_append.mp hr).2.1).1
  rw [Device.storeWord_eq, hlm, forL_append, forL_cons]
  exact Device.HasTaken.forL m (fun g hg e => later (List.mem_map.mpr ⟨g, hg, e⟩)) (Device.storeField_hasTaken _ r slot i w f)

/-- A word that is stored leaves the fields outside its register. -/
theorem Device.HasTaken.storeWord {h : RegRow} {w' : Nat} {f : Fld} (ht : d.HasTaken r slot i w f)
    (hf : ∀ g ∈ h.flds, g.id ≠ f.id) : (d.storeWord h slot i w').HasTaken r slot i w f :=
  Device.HasTaken.forL h.flds hf ht

variable (d r slot i w)

/-- A word that is stored changes the register store and the list of waiting values and nothing else. -/
theorem Device.storeWord_only : ∃ g q, d.storeWord r slot i w = { d with regs := g, rwt := q } := by
  have key : ∀ (l : List Fld) (d : Device), ∃ g q, forL l (Device.storeField r slot i w) d = { d with regs := g, rwt := q } := by
    intro l
    induction l with
    | nil => intro d; exact ⟨d.regs, d.rwt, rfl⟩
    | cons f rest ih =>
      intro d
      obtain ⟨g, q, h⟩ := d.storeField_only r slot i w f
      obtain ⟨g', q', h'⟩ := ih (d.storeField r slot i w f)
      exact ⟨g', q', by rw [forL_cons, h', h]⟩
  exact key r.flds d

@[simp] theorem Device.storeWord_pwr : (d.storeWord r slot i w).pwr = d.pwr := by
  obtain ⟨g, q, h⟩ := d.storeWord_only r slot i w; rw [h]
@[simp] theorem Device.storeWord_held : (d.storeWord r slot i w).held = d.held := by
  obtain ⟨g, q, h⟩ := d.storeWord_only r slot i w; rw [h]

/-- A word that is stored leaves every field outside its register. -/
theorem Device.keeps_storeWord : d.keeps (d.storeWord r slot i w) (but r.flds) := by
  have key : ∀ (l : List Fld), (∀ f ∈ l, f ∈ r.flds) → ∀ d : Device,
      d.keeps (forL l (Device.storeField r slot i w) d) (but r.flds) := by
    intro l
    induction l with
    | nil => intro _ d; exact Device.keeps_of_regs rfl _
    | cons f rest ih =>
      intro hl d
      obtain ⟨hf, hrest⟩ := List.forall_mem_cons.mp hl
      exact Device.keeps_trans (d.keeps_storeField r slot i w f (but_apart (List.mem_append_left _ hf))) (ih hrest _)
  exact key r.flds (fun _ h => h) d

end Store

end Sys2Proof.Machine
end

section
/-!
SUPPORT. Register writes that are stored (R16): the effects that few registers have beside storing, and what the rest of
a write leaves in place.
-/

namespace Sys2Proof.Machine

/-! ### Registers without an effect of their own -/

/-- The registers a write to which does something beside storing its fields. -/
def effectRows : List RegRow := [
  R.SYS_PWR_CMD, R.TICK_PAGE_FLUSH, R.TICK_CTRL, R.FRS_ACK, R.CMP_LAYOUT_SEL, R.CMP_BERTH_QUERY, R.CMP_BERTH_PIN,
  R.CMP_OUT_OWNER, R.PIX_MAT_COMMIT, R.PIX_MAT_QUERY, R.DEC_CMD, R.ENC_CMD, R.ENC_SESS_RATE, R.ENC_SESS_GDR,
  R.NET_PORT_CFG, R.LANE_TETHER_CFG, R.LANE_SCAN_CTRL, R.TIME_CMD, R.TIME_SRV_CFG, R.TIME_CTRL, R.TIME_TRIG_CFG,
  R.PAIR_CTRL, R.PAIR_CMD, R.MEM_SCRUB_CFG, R.HOST_LC_CMD, R.UPD_CMD, R.CHK_CH_DATA8, R.CHK_CH_DATA16,
  R.CHK_CH_DATA32, R.CHK_CH_CMD, R.PERF_CMD, R.PERF_BW_CFG, R.PERF_SAMPLE_CFG, R.BBOX_CMD, R.BBOX_MARK,
  R.TOUCH_CTRL, R.TOUCH_KEY_EN, R.TOUCH_CMD, R.TOUCH_KEY_CFG]

/-- A write to any other register has no effect of its own. -/
theorem Chip.writeEffect_of_plain {r : RegRow} (h : r.base ∉ effectRows.map RegRow.base) (slot i w : Nat) (old : Device)
    (c : Chip) : c.writeEffect slot r i w old = c := by
  simp only [effectRows, List.map_cons, List.map_nil, List.mem_cons, List.not_mem_nil, or_false, not_or] at h
  unfold Chip.writeEffect
  split
  case h_1 => simp only [Chip.sysWrite, h, if_false]
  case h_2 => simp only [Chip.mapDev, Device.tickWrite, h, false_and, if_false]
  case h_3 => simp only [Chip.mapDev, Device.frsWrite, h, if_false]
  case h_4 => simp only [Chip.cmpWrite, h, if_false]
  case h_5 => simp only [Chip.mapDev, Device.pixWrite, h, if_false]
  case h_6 => simp only [h, false_and, if_false]
  case h_7 => simp only [Chip.mapDev, Device.encWrite, h, if_false, ite_self]
  case h_8 => simp only [Chip.mapDev, Device.netWrite, h, if_false]
  case h_9 => simp only [Chip.mapDev, Device.laneWrite, h, false_and, if_false]
  case h_10 => simp only [Chip.mapDev, Device.timeWrite, h, if_false]
  case h_11 => simp only [Chip.mapDev, Device.pairWrite, h, if_false]
  case h_12 => simp only [h, decide_false, Bool.false_and, Bool.false_eq_true, if_false]
  case h_13 => simp only [h, if_false]
  case h_14 => simp only [h, if_false]
  case h_15 => simp only [Chip.mapDev, Device.chkWrite, h, if_false]
  case h_16 => simp only [Chip.mapDev, Device.perfWrite, h, decide_false, Bool.false_and, Bool.false_eq_true, if_false]
  case h_17 => simp only [Chip.mapDev, Device.bboxWrite, h, if_false]
  case h_18 => simp only [Chip.mapDev, Device.touchWrite, h, or_self, false_and, if_false]
  case h_19 => rfl

/-- A register without W1C fields has no bits that hardware could set again. -/
theorem Device.setAgain_of_no_w1c {r : RegRow} (h : ∀ f ∈ r.flds, f.acc ≠ .w1c) (d : Device) (slot i hwSet : Nat) :
    d.setAgain r slot i hwSet = d := by
  have key : ∀ (l : List Fld), (∀ f ∈ l, f.acc ≠ .w1c) → forL l (fun (f : Fld) (d : Device) =>
      if f.acc = .w1c then d.putField r slot i f (d.fieldOf r slot i f ||| f.of hwSet) else d) d = d := by
    intro l
    induction l with
    | nil => intro _; rfl
    | cons f rest ih =>
      intro hl
      obtain ⟨hf, hrest⟩ := List.forall_mem_cons.mp hl
      rw [forL_cons, if_neg hf, ih hrest]
  exact key r.flds h

/-! ### What follows the storing of a word -/

/-- The fields of a slot's pin, which a change of the berth pools rewrites (R112). -/
def pinFields : List Fld := [F.CMP_BERTH_PIN_PINNED, F.CMP_BERTH_PIN_BERTH]

/-- Between `d` and `e` no register field has changed but those of pins, and neither the values that wait for the edge, nor
the held halves, nor the power state. -/
structure Device.StoreKept (d e : Device) : Prop where
  fields : d.keeps e (but pinFields)
  rwt : e.rwt = d.rwt
  held : e.held = d.held
  pwr : e.pwr = d.pwr

theorem Device.StoreKept.of_regs {d e : Device} (hr : e.regs = d.regs) (rwt : e.rwt = d.rwt) (held : e.held = d.held)
    (pwr : e.pwr = d.pwr) : d.StoreKept e := ⟨Device.keeps_of_regs hr _, rwt, held, pwr⟩

theorem Device.StoreKept.refl (d : Device) : d.StoreKept d := .of_regs rfl rfl rfl rfl

theorem Device.StoreKept.trans {d e e' : Device} (h : d.StoreKept e) (h' : e.StoreKept e') : d.StoreKept e' :=
  ⟨Device.keeps_trans h.fields h'.fields, h'.rwt.trans h.rwt, h'.held.trans h.held, h'.pwr.trans h.pwr⟩

theorem Device.StoreKept.forL {β : Type} {f : β → Device → Device} (hf : ∀ (b : β) (d : Device), d.StoreKept (f b d)) (l : List β) :
    ∀ d : Device, d.StoreKept (Machine.forL l f d) := by
  induction l with
  | nil => exact .refl
  | cons b rest ih => exact fun d => (hf b d).trans (ih _)

theorem Device.storeKept_putS_pin (d : Device) (f : Fld) (hf : f ∈ pinFields) (h i v : Nat) :
    d.StoreKept (d.putS f h i v) :=
  ⟨Device.keeps_putS d f h i v (but_apart (List.mem_append_left _ hf)), rfl, rfl, rfl⟩

/-- Giving berths other numbers rewrites the pins among the registers. -/
theorem Device.storeKept_renumber (d : Device) (f : Nat → Option Nat) : d.StoreKept (d.renumber f) := by
  unfold Device.renumber
  extract_lets f' fq e use net
  have pins : d.StoreKept e := by
    refine Device.StoreKept.forL (fun h d => ?_) (List.range 8) d
    split
    · exact .refl d
    · split
      · exact d.storeKept_putS_pin _ (by simp [pinFields]) h 0 _
      · exact (d.storeKept_putS_pin _ (by simp [pinFields]) h 0 0).trans
          (Device.storeKept_putS_pin _ _ (by simp [pinFields]) h 0 0)
  clear_value f' fq e use net
  exact pins.trans (.of_regs rfl rfl rfl rfl)

theorem Device.storeKept_poolChanged (d old : Device) (c : Nat) : d.StoreKept (d.poolChanged old c) := by
  unfold Device.poolChanged
  split
  · exact .refl d
  · exact d.storeKept_renumber _

theorem Device.storeKept_igmpReport (d : Device) (p : Nat) (r : List (Nat × Nat × List Nat)) :
    d.StoreKept (d.igmpReport p r) := by
  unfold Device.igmpReport Device.igmpSend
  split
  · split <;> exact .of_regs rfl rfl rfl rfl
  · exact .refl d

theorem Device.storeKept_igmpUpdate (d : Device) (before : Nat → List (Nat × List Nat)) :
    d.StoreKept (d.igmpUpdate before) := by
  refine Device.StoreKept.forL (fun p d => ?_) (List.range 28) d
  dsimp only
  split
  · exact .refl d
  · exact d.storeKept_igmpReport p _

theorem Device.storeKept_hopNeed (d : Device) (p dst : Nat) : d.StoreKept (d.hopNeed p dst) := by
  have need (ip : Nat) : d.StoreKept (d.arpNeed p ip) := by
    unfold Device.arpNeed
    split <;> exact .of_regs rfl rfl rfl rfl
  unfold Device.hopNeed
  split
  · exact .refl d
  · split
    · exact need _
    · exact .refl d

theorem Device.storeKept_hopScan (d : Device) : d.StoreKept d.hopScan := by
  refine Device.StoreKept.forL (fun e d => ?_) (List.range 64) d
  split
  · exact .refl d
  · refine Device.StoreKept.forL (fun k d => ?_) _ d
    split
    · exact (d.storeKept_hopNeed _ _).trans (Device.storeKept_hopNeed _ _ _)
    · exact .refl d

theorem Device.storeKept_logWrite (d : Device) (h a v : Nat) : d.StoreKept (d.logWrite h a v) :=
  .of_regs (d.logWrite_regs h a v) (d.logWrite_rwt h a v) (d.logWrite_held h a v) (d.logWrite_pwr h a v)

/-- The words of a write, stored one after the other. -/
def Device.storeEach (d : Device) (words : List (RegRow × Nat)) (slot i : Nat) : Device :=
  words.foldl (fun (d : Device) (q : RegRow × Nat) => d.storeWord q.1 slot i q.2) d

theorem Device.storeKept_storeWords (d : Device) (words : List (RegRow × Nat)) (r : RegRow) (slot i : Nat) :
    (d.storeEach words slot i).StoreKept (d.storeWords words r slot i) := by
  unfold Device.storeWords
  dsimp only
  split
  · exact Device.storeKept_poolChanged _ d i
  · exact .refl _

/-- A write to a register without an effect of its own, of which no word is reserved or busy, stores its words, and what
follows leaves the stored fields and memory in place. -/
theorem Chip.regWrite_stored {c : Chip} {slot a w hwSet i : Nat} {r : RegRow} (hf : findReg a = some (r, i))
    (hlo : r.isLo = false) (hown : (c.dev.ownDrop r i w).1 = false) (hplain : r.base ∉ effectRows.map RegRow.base)
    (hw1c : ∀ f ∈ r.flds, f.acc ≠ .w1c)
    (hgood : ∀ q ∈ c.dev.writeWords r slot i w, c.dev.reservedWrite q.1 i q.2 = false ∧ c.dev.busyWrite q.1 slot i q.2 = false) :
    (c.regWrite slot a w hwSet).mem = c.mem ∧
    ((c.dev.unhold r slot i).storeEach (c.dev.writeWords r slot i w) slot i).StoreKept (c.regWrite slot a w hwSet).dev := by
  have any : (c.dev.writeWords r slot i w).any
      (fun (q : RegRow × Nat) => c.dev.reservedWrite q.1 i q.2 || c.dev.busyWrite q.1 slot i q.2) = false := by
    simpa only [List.any_eq_false, Bool.or_eq_true, Bool.not_eq_true, not_or] using hgood
  have log : ∀ (l : List (RegRow × Nat)) (d : Device), d.StoreKept (l.foldl (fun (d : Device) (q : RegRow × Nat) =>
      d.logWrite slot (q.1.base + q.1.stride * i) q.2) d) :=
    Device.StoreKept.forL (fun q d => d.storeKept_logWrite slot (q.1.base + q.1.stride * i) q.2)
  have net (d : Device) (before : Nat → List (Nat × List Nat)) : d.StoreKept (d.igmpUpdate before).hopScan :=
    (d.storeKept_igmpUpdate before).trans (Device.storeKept_hopScan _)
  have stored := (c.dev.unhold r slot i).storeKept_storeWords (c.dev.writeWords r slot i w) r slot i
  simp only [Chip.regWrite, hf, hown, hlo, any, Bool.false_eq_true, if_false, Chip.writeEffect_of_plain hplain, Chip.mapDev,
    Device.setAgain_of_no_w1c hw1c]
  split
  · dsimp only
    exact ⟨rfl, stored.trans ((net _ _).trans (log _ _))⟩
  · exact ⟨rfl, stored.trans (log _ _)⟩

end Sys2Proof.Machine
end

section
/-!
SUPPORT. The halves of 64-bit registers (R15, R16).
-/

namespace Sys2Proof.Machine

theorem RegRow.isLo_of_mem {l : RegRow} (h : l ∈ loRows) : l.isLo = true :=
  List.any_eq_true.mpr ⟨l, h, decide_eq_true rfl⟩

/-- The high halves of the register map are no low halves, and have neither an effect of their own nor a W1C field. -/
theorem regBlock_high_plain : ∀ b < 20, ∀ h ∈ regBlock b, h.lowOf.isSome = true →
    h.isLo = false ∧ h.base ∉ effectRows.map RegRow.base ∧ ∀ f ∈ h.flds, f.acc ≠ .w1c := by decide +kernel

/-- The fields of both halves of a pair have distinct numbers. -/
theorem regBlock_high_distinct : ∀ b < 20, ∀ h ∈ regBlock b, ∀ l ∈ h.lowOf.toList,
    (l.flds.map Fld.id).Nodup ∧ (h.flds.map Fld.id).Nodup ∧ ∀ f ∈ l.flds, but h.flds f = true := by decide +kernel

/-- No half holds a field of a pin. -/
theorem regBlock_high_noPin : ∀ b < 20, ∀ h ∈ regBlock b, ∀ l ∈ h.lowOf.toList,
    ∀ f ∈ l.flds ++ h.flds, but pinFields f = true := by decide +kernel

/-- `h` is the high half of the pair whose low half is `l`, with what a write to it relies on. -/
structure RegRow.IsHighOf (h l : RegRow) : Prop where
  lowOf : h.lowOf = some l
  notLo : h.isLo = false
  plain : h.base ∉ effectRows.map RegRow.base
  noW1c : ∀ f ∈ h.flds, f.acc ≠ .w1c
  nodupLow : (l.flds.map Fld.id).Nodup
  nodup : (h.flds.map Fld.id).Nodup
  apart : ∀ f ∈ l.flds, but h.flds f = true
  noPin : ∀ f ∈ l.flds ++ h.flds, but pinFields f = true

theorem findReg_isHighOf {a i : Nat} {h l : RegRow} (hf : findReg a = some (h, i)) (hl : h.lowOf = some l) : h.IsHighOf l := by
  have hb : a / 65536 < 20 := by have := findReg_lt hf; omega
  have hl' : l ∈ h.lowOf.toList := Option.mem_toList.mpr hl
  obtain ⟨notLo, plain, noW1c⟩ := regBlock_high_plain _ hb h (findReg_mem hf) (by rw [hl]; rfl)
  obtain ⟨nodupLow, nodup, apart⟩ := regBlock_high_distinct _ hb h (findReg_mem hf) l hl'
  exact ⟨hl, notLo, plain, noW1c, nodupLow, nodup, apart, regBlock_high_noPin _ hb h (findReg_mem hf) l hl'⟩

/-- The fields of the low half have other numbers than those of the high half. -/
theorem RegRow.IsHighOf.id_ne {h l : RegRow} (hh : h.IsHighOf l) {f : Fld} (hf : f ∈ l.flds) (g : Fld) (hg : g ∈ h.flds) :
    g.id ≠ f.id := but_apart (List.mem_append_left _ hg) f (hh.apart f hf)

/-! ### Which words a write to a high half stores -/

theorem Device.writeWords_held {d : Device} {h l : RegRow} {slot i v : Nat} (w : Nat) (hl : h.lowOf = some l)
    (hv : Tab.find d.held (l.key slot i) = some v) : d.writeWords h slot i w = [(l, v), (h, w)] := by
  simp only [Device.writeWords, hl, hv]

theorem Device.writeWords_alone {d : Device} {h l : RegRow} {slot i : Nat} (w : Nat) (hl : h.lowOf = some l)
    (hv : Tab.find d.held (l.key slot i) = none) : d.writeWords h slot i w = [(h, w)] := by
  simp only [Device.writeWords, hl, hv]

/-! ### Admitted writes -/

section Admitted

variable {c : Chip} {slot i w hwSet : Nat} {r : RegRow} (ha : c.admits slot r i w = true)
include ha

/-- What it is for a write to be admitted, one condition after the other. -/
theorem Chip.admits_conditions : c.dev.pd1On = true ∧ c.dev.regFault slot (r.base + r.stride * i) 32 true = none ∧
    c.dev.roleRefuses ((r.base + r.stride * i) / 65536) (isEvq (r.base + r.stride * i)) = false ∧
    (c.dev.defers && carried (r.base + r.stride * i)) = false ∧ (c.dev.ownDrop r i w).1 = false ∧
    c.dev.reservedWrite r i w = false ∧ c.dev.busyWrite r slot i w = false := by
  simp only [Chip.admits, Bool.and_eq_true, Bool.not_eq_true', Option.isNone_iff_eq_none] at ha
  obtain ⟨⟨⟨⟨⟨⟨hp, hf⟩, hr⟩, hd⟩, hown⟩, hres⟩, hbusy⟩ := ha
  exact ⟨hp, hf, hr, hd, hown, hres, hbusy⟩

/-- An admitted write reaches its register and is answered with OK. -/
theorem Chip.doWrite_admitted (hs : slot < 8) (hw : w < 2 ^ 32) : c.doWrite slot (r.base + r.stride * i) 32 w hwSet =
    (c.regWrite slot (r.base + r.stride * i) w hwSet).answer slot resOk [] := by
  obtain ⟨hp, hf, hr, hd, -⟩ := Chip.admits_conditions ha
  rw [Chip.doWrite_reaches hs hp hf hr hd, Nat.mod_eq_of_lt hw]

/-- An admitted write to a low half is held (R16). -/
theorem Chip.regWrite_held (hf : findReg (r.base + r.stride * i) = some (r, i)) (hlo : r.isLo = true) :
    c.regWrite slot (r.base + r.stride * i) w hwSet =
      { c with dev := { c.dev with held := Tab.set c.dev.held (r.key slot i) w } } := by
  obtain ⟨-, -, -, -, hown, -⟩ := Chip.admits_conditions ha
  simp only [Chip.regWrite, hf, hown, hlo, Bool.false_eq_true, if_false, if_true, Chip.mapDev]

end Admitted

/-- An admitted write to a high half stores its words, the half held for it among them where that one is neither reserved
nor busy, and what follows leaves the stored fields and memory in place. -/
theorem hiWriteApply_admitted {s : State} {slot i w : Nat} {h l : RegRow} (hs : slot < 8) (hw : w < 2 ^ 32)
    (hf : findReg (h.base + h.stride * i) = some (h, i)) (hh : h.IsHighOf l) (ha : s.chip.admits slot h i w = true)
    (hheld : ∀ v, Tab.find s.chip.dev.held (l.key slot i) = some v →
      s.chip.dev.reservedWrite l i v = false ∧ s.chip.dev.busyWrite l slot i v = false) :
    ∃ t, exec (.hiWriteApply slot (h.base + h.stride * i) w) s = .next t ∧ t.chip.mem = s.chip.mem ∧
      ((s.chip.quiet.dev.unhold h slot i).storeEach (s.chip.dev.writeWords h slot i w) slot i).StoreKept t.chip.dev := by
  have haq : s.chip.quiet.admits slot h i w = true := ha
  obtain ⟨-, -, -, -, hown, hres, hbusy⟩ := Chip.admits_conditions haq
  have good : ∀ q ∈ s.chip.quiet.dev.writeWords h slot i w,
      s.chip.quiet.dev.reservedWrite q.1 i q.2 = false ∧ s.chip.quiet.dev.busyWrite q.1 slot i q.2 = false := by
    cases hv : Tab.find s.chip.quiet.dev.held (l.key slot i) with
    | none => simpa [Device.writeWords_alone w hh.lowOf hv] using ⟨hres, hbusy⟩
    | some v => simpa [Device.writeWords_held w hh.lowOf hv] using ⟨hheld v hv, hres, hbusy⟩
  obtain ⟨hmem, hkept⟩ := Chip.regWrite_stored (hwSet := 0) hf hh.notLo hown hh.plain hh.noW1c good
  exact ⟨_, hiWriteApply_runs (Chip.doWrite_admitted haq hs hw), hmem, hkept.trans (.of_regs rfl rfl rfl rfl)⟩

/-- What keeps the register store keeps what a field that is no field of a pin has taken. -/
theorem Device.HasTaken.of_storeKept {d e : Device} {r : RegRow} {slot i w : Nat} {f : Fld} (h : d.HasTaken r slot i w f)
    (hk : d.StoreKept e) (hf : but pinFields f = true) : e.HasTaken r slot i w f :=
  h.of_keeps hk.fields hf (by rw [hk.rwt]) hk.pwr

/-- Settles O9: a low half is held; a write to the high half stores the words that are there, and a field that has taken
its bits keeps them through all that follows. -/
theorem halvesAreWrittenTogether : Obligations.HalvesAreWrittenTogether := by
  unfold Obligations.HalvesAreWrittenTogether
  intro s slot i v w l h hs hl _ hlow hfl hfh hv hw
  have hh : h.IsHighOf l := findReg_isHighOf hfh hlow
  have noPinLow (f : Fld) (hf : f ∈ l.flds) : but pinFields f = true := hh.noPin f (List.mem_append_left _ hf)
  have noPinHigh (f : Fld) (hf : f ∈ h.flds) : but pinFields f = true := hh.noPin f (List.mem_append_right _ hf)
  refine ⟨fun ha => ?_, fun ha => ⟨fun hheld hres hbusy => ?_, fun hheld => ?_⟩⟩
  case refine_1 =>
    have haq : s.chip.quiet.admits slot l i v = true := ha
    have hold := Chip.doWrite_admitted (hwSet := 0) haq hs hv
    rw [Chip.regWrite_held haq hfl (RegRow.isLo_of_mem hl)] at hold
    exact ⟨_, loWriteHold_runs hold, rfl, rfl, rfl, Tab.find_set_same ..⟩
  case refine_2 =>
    obtain ⟨t, ht, hmem, hkept⟩ := hiWriteApply_admitted hs hw hfh hh ha (fun v' hv' => by
      cases hheld.symm.trans hv'; exact ⟨hres, hbusy⟩)
    rw [Device.writeWords_held w hlow hheld] at hkept
    have hp : t.chip.dev.pwr = s.chip.dev.pwr := hkept.pwr.trans (by simp [Device.storeEach, Chip.quiet])
    have low (f : Fld) (hf : f ∈ l.flds) : t.chip.dev.HasTaken l slot i v f :=
      ((Device.storeWord_hasTaken hf hh.nodupLow).storeWord (hh.id_ne hf)).of_storeKept hkept (noPinLow f hf)
    have high (f : Fld) (hf : f ∈ h.flds) : t.chip.dev.HasTaken h slot i w f :=
      (Device.storeWord_hasTaken hf hh.nodup).of_storeKept hkept (noPinHigh f hf)
    refine ⟨t, ht, hmem, ?_, fun f hf => (low f hf).1, fun f hf => (high f hf).1, ?_⟩
    · rw [hkept.held]
      simp [Device.storeEach, Device.unhold_held _ hlow, Tab.find_del]
    · rw [← hp]
      simp only [List.forall_mem_cons, List.not_mem_nil, false_imp_iff, implies_true, and_true]
      exact ⟨fun f hf => (low f hf).2, fun f hf => (high f hf).2⟩
  case refine_3 =>
    obtain ⟨t, ht, hmem, hkept⟩ := hiWriteApply_admitted hs hw hfh hh ha (fun v' hv' => by
      cases hheld.symm.trans hv')
    rw [Device.writeWords_alone w hlow hheld] at hkept
    have hp : t.chip.dev.pwr = s.chip.dev.pwr := hkept.pwr.trans (by simp [Device.storeEach, Chip.quiet])
    have high (f : Fld) (hf : f ∈ h.flds) : t.chip.dev.HasTaken h slot i w f :=
      (Device.storeWord_hasTaken hf hh.nodup).of_storeKept hkept (noPinHigh f hf)
    have unheld : s.chip.dev.keeps (s.chip.quiet.dev.unhold h slot i) (but h.flds) :=
      Device.keeps_of_regs (Device.unhold_regs ..) _
    refine ⟨t, ht, hmem, fun f hf => (high f hf).1, ?_, fun f hf => ?_⟩
    · rw [← hp]
      exact fun f hf => (high f hf).2
    · rw [Device.fieldOf_keeps hkept.fields (noPinLow f hf)]
      exact Device.fieldOf_keeps (Device.keeps_trans unheld (Device.keeps_storeWord _ h slot i w)) (hh.apart f hf)

end Sys2Proof.Machine
end

section
/-!
SUPPORT. The settings copy. Only a write of the settings window, boot, and a reset change it; every other operation of the
device leaves it as it is, said once per operation.
-/

namespace Sys2Proof.Machine

theorem settings_ite (c : Prop) [Decidable c] (a b : Device) :
    (if c then a else b).upd.settings = if c then a.upd.settings else b.upd.settings := by split <;> rfl

theorem settings_forL {β : Type} {f : β → Device → Device} (hf : ∀ b d, (f b d).upd.settings = d.upd.settings) (l : List β) :
    ∀ d : Device, (forL l f d).upd.settings = d.upd.settings := by
  induction l with
  | nil => intro d; rfl
  | cons b r ih => intro d; rw [forL_cons, ih, hf]

theorem settings_forN {f : Nat → Device → Device} (hf : ∀ k d, (f k d).upd.settings = d.upd.settings) (n : Nat) (d : Device) :
    (forN n f d).upd.settings = d.upd.settings := settings_forL hf (List.range n) d

theorem settings_foldl {β : Type} {f : Device → β → Device} (hf : ∀ b d, (f d b).upd.settings = d.upd.settings) (l : List β)
    (d : Device) : (l.foldl f d).upd.settings = d.upd.settings := settings_forL (f := fun b d => f d b) hf l d

theorem settings_foldl_fst {β γ : Type} {f : Device × γ → β → Device × γ}
    (hf : ∀ b a, (f a b).1.upd.settings = a.1.upd.settings) (l : List β) :
    ∀ a : Device × γ, (l.foldl f a).1.upd.settings = a.1.upd.settings := by
  induction l with
  | nil => intro a; rfl
  | cons b r ih => intro a; rw [List.foldl_cons, ih, hf]

@[simp] theorem Device.put_settings (d : Device) (f : Fld) (i : Nat) (v : Nat) :
    (Device.put d f i v).upd.settings = d.upd.settings := by
  simp [Device.put]

@[simp] theorem Device.putS_settings (d : Device) (f : Fld) (slot i v : Nat) :
    (Device.putS d f slot i v).upd.settings = d.upd.settings := by
  simp [Device.putS]

@[simp] theorem Device.flag_settings (d : Device) (f : Fld) (i : Nat) (b : Bool) :
    (Device.flag d f i b).upd.settings = d.upd.settings := by
  simp [Device.flag]

@[simp] theorem Device.bump_settings (d : Device) (f : Fld) (i n : Nat) :
    (Device.bump d f i n).upd.settings = d.upd.settings := by
  simp [Device.bump]

@[simp] theorem Device.put2_settings (d : Device) (lo hi : Fld) (i v : Nat) :
    (Device.put2 d lo hi i v).upd.settings = d.upd.settings := by
  simp [Device.put2]

@[simp] theorem Device.count_settings (d : Device) (ev unit n : Nat) :
    (Device.count d ev unit n).upd.settings = d.upd.settings := by
  simp [Device.count, settings_ite]

@[simp] theorem Device.sampled_settings (d : Device) (ev n o tile : Nat) (pipe : Option Nat) :
    (Device.sampled d ev n o tile pipe).upd.settings = d.upd.settings := by
  simp [Device.sampled, settings_ite]

@[simp] theorem Device.countTile_settings (d : Device) (ev unit n o tile : Nat) (pipe : Option Nat) :
    (Device.countTile d ev unit n o tile pipe).upd.settings = d.upd.settings := by
  simp [Device.countTile]

@[simp] theorem Device.cycles_settings (d : Device) (n : Nat) :
    (Device.cycles d n).upd.settings = d.upd.settings := by
  simp [Device.cycles, settings_forL]

@[simp] theorem Device.elapse_settings (d : Device) (n : Nat) :
    (Device.elapse d n).upd.settings = d.upd.settings := by
  simp [Device.elapse, settings_ite]

@[simp] theorem Device.waitUntil_settings (d : Device) (t : Nat) :
    (Device.waitUntil d t).upd.settings = d.upd.settings := by
  simp [Device.waitUntil, settings_ite]

theorem Device.waitPoint_only (d : Device) (p : Nat) :
    ∃ a b c q, d.waitPoint p = { d with now := a, devNs := b, devFrac := c, perf := q } := d.waitUntil_only _

@[simp] theorem Device.waitNow_settings (d : Device) (t : Nat) :
    (Device.waitNow d t).upd.settings = d.upd.settings := by
  simp [Device.waitNow, settings_ite]

@[simp] theorem Device.setSrc_settings (d : Device) (s : Nat) (v : Src) :
    (Device.setSrc d s v).upd.settings = d.upd.settings := by
  simp [Device.setSrc]

@[simp] theorem Device.setOut_settings (d : Device) (o : Nat) (v : OutSt) :
    (Device.setOut d o v).upd.settings = d.upd.settings := by
  simp [Device.setOut]

@[simp] theorem Device.setBerth_settings (d : Device) (n : Nat) (v : Berth) :
    (Device.setBerth d n v).upd.settings = d.upd.settings := by
  simp [Device.setBerth]

@[simp] theorem Device.setChan_settings (d : Device) (c : Nat) (v : Channel) :
    (Device.setChan d c v).upd.settings = d.upd.settings := by
  simp [Device.setChan]

@[simp] theorem Device.setDec_settings (d : Device) (n : Nat) (v : DecSess) :
    (Device.setDec d n v).upd.settings = d.upd.settings := by
  simp [Device.setDec]

@[simp] theorem Device.emit_settings (d : Device) (o : Out) :
    (Device.emit d o).upd.settings = d.upd.settings := by
  simp [Device.emit]

@[simp] theorem Device.quiet_settings (d : Device) :
    (Device.quiet d).upd.settings = d.upd.settings := by
  simp [Device.quiet]

@[simp] theorem Device.offer_settings (d : Device) (e : EvEntry) (slot : Nat) :
    (Device.offer d e slot).1.upd.settings = d.upd.settings := by
  unfold Device.offer
  repeat' split
  all_goals simp

@[simp] theorem Device.offerAll_settings (d : Device) (e : EvEntry) :
    (Device.offerAll d e).1.upd.settings = d.upd.settings := by
  obtain ⟨g, q, h⟩ := d.offerAll_only e
  rw [h]

@[simp] theorem Device.raise_settings (d : Device) (f : Fld) (arg : Nat) :
    (Device.raise d f arg).upd.settings = d.upd.settings := by
  simp [Device.raise, settings_ite]

@[simp] theorem Device.record_settings (d : Device) (code source arg0 arg1 : Nat) :
    (Device.record d code source arg0 arg1).upd.settings = d.upd.settings := by
  simp [Device.record, settings_ite]

@[simp] theorem Device.placeSample_settings (d : Device) (word : Nat) :
    (Device.placeSample d word).upd.settings = d.upd.settings := by
  simp [Device.placeSample, settings_ite]

@[simp] theorem Device.putField_settings (d : Device) (r : RegRow) (slot i : Nat) (f : Fld) (v : Nat) :
    (Device.putField d r slot i f v).upd.settings = d.upd.settings := by
  simp [Device.putField, settings_ite]

@[simp] theorem Device.storeWord_settings (d : Device) (r : RegRow) (slot i w : Nat) :
    (Device.storeWord d r slot i w).upd.settings = d.upd.settings := by
  obtain ⟨g, q, h⟩ := d.storeWord_only r slot i w
  rw [h]

@[simp] theorem Device.applyRwt_settings (d : Device) :
    (Device.applyRwt d).upd.settings = d.upd.settings := by
  simp [Device.applyRwt, settings_forL]

@[simp] theorem Device.clearRc_settings (d : Device) (r : RegRow) (slot i inc : Nat) :
    (Device.clearRc d r slot i inc).upd.settings = d.upd.settings := by
  simp [Device.clearRc, settings_ite, settings_forL]

@[simp] theorem Device.fault_settings (d : Device) (slot reason target addr : Nat) :
    (Device.fault d slot reason target addr).upd.settings = d.upd.settings := by
  simp [Device.fault]

@[simp] theorem Device.dropWrite_settings (d : Device) (slot addr : Nat) :
    (Device.dropWrite d slot addr).upd.settings = d.upd.settings := by
  simp [Device.dropWrite]

@[simp] theorem Device.showSel_settings (d : Device) (preferred state : Nat) :
    (Device.showSel d preferred state).upd.settings = d.upd.settings := by
  simp [Device.showSel]

@[simp] theorem Device.alloc_settings (d : Device) (c kind prod : Nat) :
    (Device.alloc d c kind prod).1.upd.settings = d.upd.settings := by
  unfold Device.alloc
  dsimp only
  repeat' split
  all_goals simp

@[simp] theorem Device.allocFor_settings (d : Device) (bytes kind prod : Nat) :
    (Device.allocFor d bytes kind prod).1.upd.settings = d.upd.settings := by
  unfold Device.allocFor
  split <;> simp

@[simp] theorem Device.retire_settings (d : Device) (n : Nat) :
    (Device.retire d n).upd.settings = d.upd.settings := by
  simp [Device.retire]

@[simp] theorem Device.settle_settings (d : Device) (n : Nat) :
    (Device.settle d n).upd.settings = d.upd.settings := by
  simp [Device.settle, settings_ite]

@[simp] theorem Device.hold_settings (d : Device) (n : Nat) (h : Holder) :
    (Device.hold d n h).upd.settings = d.upd.settings := by
  simp [Device.hold]

@[simp] theorem Device.release_settings (d : Device) (n : Nat) (h : Holder) :
    (Device.release d n h).upd.settings = d.upd.settings := by
  simp [Device.release]

@[simp] theorem Device.releaseAll_settings (d : Device) (p : Holder → Bool) :
    (Device.releaseAll d p).upd.settings = d.upd.settings := by
  simp [Device.releaseAll, settings_forL]

@[simp] theorem Device.discard_settings (d : Device) (n : Nat) :
    (Device.discard d n).upd.settings = d.upd.settings := by
  simp [Device.discard, settings_ite]

@[simp] theorem Device.orderNote_settings (d : Device) (n s : Nat) :
    (Device.orderNote d n s).upd.settings = d.upd.settings := by
  unfold Device.orderNote
  dsimp only
  repeat' split
  all_goals simp

@[simp] theorem Device.sealRole_settings (d : Device) (n s : Nat) :
    (Device.sealRole d n s).upd.settings = d.upd.settings := by
  unfold Device.sealRole
  dsimp only
  repeat' split
  all_goals simp

@[simp] theorem Device.dropLate_settings (d : Device) (n s : Nat) :
    (Device.dropLate d n s).upd.settings = d.upd.settings := by
  simp [Device.dropLate, settings_ite]

@[simp] theorem Device.sealSource_settings (d : Device) (n s : Nat) :
    (Device.sealSource d n s).upd.settings = d.upd.settings := by
  simp [Device.sealSource, settings_ite]

@[simp] theorem Device.finishSource_settings (d : Device) (n s : Nat) :
    (Device.finishSource d n s).upd.settings = d.upd.settings := by
  simp [Device.finishSource, settings_ite]

@[simp] theorem Device.corrupt_settings (d : Device) (n : Nat) :
    (Device.corrupt d n).upd.settings = d.upd.settings := by
  simp [Device.corrupt, settings_ite]

@[simp] theorem Device.unpin_settings (d : Device) (slot : Nat) :
    (Device.unpin d slot).upd.settings = d.upd.settings := by
  simp [Device.unpin, settings_ite]

@[simp] theorem Device.pinAct_settings (d : Device) (slot op id : Nat) :
    (Device.pinAct d slot op id).upd.settings = d.upd.settings := by
  unfold Device.pinAct
  dsimp only
  repeat' split
  all_goals simp

@[simp] theorem Device.pinWrite_settings (d : Device) (slot op id : Nat) :
    (Device.pinWrite d slot op id).upd.settings = d.upd.settings := by
  simp [Device.pinWrite, settings_ite]

@[simp] theorem Device.pinEdge_settings (d : Device) :
    (Device.pinEdge d).upd.settings = d.upd.settings := by
  simp [Device.pinEdge, settings_forL]

@[simp] theorem Device.berthQuery_settings (d : Device) (slot n : Nat) :
    (Device.berthQuery d slot n).upd.settings = d.upd.settings := by
  unfold Device.berthQuery
  dsimp only
  rw [settings_forN (fun k d => by simp)]
  simp

@[simp] theorem Device.renumber_settings (d : Device) (f : Nat → Option Nat) :
    (Device.renumber d f).upd.settings = d.upd.settings := by
  unfold Device.renumber
  extract_lets f' fq e use net
  have pins : e.upd.settings = d.upd.settings := by
    unfold e
    refine settings_forN (fun h d => ?_) 8 d
    split
    · rfl
    · split <;> simp
  clear_value f' fq e use net
  exact pins

@[simp] theorem Device.poolChanged_settings (d old : Device) (c : Nat) :
    (Device.poolChanged d old c).upd.settings = d.upd.settings := by
  simp [Device.poolChanged, settings_ite]

@[simp] theorem Device.raiseOpt_settings (d : Device) (f : Option Fld) (arg : Nat) :
    (Device.raiseOpt d f arg).upd.settings = d.upd.settings := by
  unfold Device.raiseOpt
  split <;> simp

@[simp] theorem Device.staleUpdate_settings (d : Device) (s t : Nat) (entered fresh ack : Bool) :
    (Device.staleUpdate d s t entered fresh ack).upd.settings = d.upd.settings := by
  simp [Device.staleUpdate, settings_ite]

@[simp] theorem Device.staleOutside_settings (d : Device) (s : Nat) :
    (Device.staleOutside d s).upd.settings = d.upd.settings := by
  simp [Device.staleOutside]

@[simp] theorem Device.transport_settings (d : Device) (s : Nat) :
    (Device.transport d s).upd.settings = d.upd.settings := by
  simp [Device.transport, settings_ite]

@[simp] theorem Device.transportOff_settings (d : Device) (s : Nat) :
    (Device.transportOff d s).upd.settings = d.upd.settings := by
  simp [Device.transportOff]

@[simp] theorem Device.ageRegs_settings (d : Device) (s t : Nat) :
    (Device.ageRegs d s t).upd.settings = d.upd.settings := by
  unfold Device.ageRegs
  dsimp only
  repeat' split
  all_goals simp

@[simp] theorem Device.frsEdge_settings (d : Device) (t : Nat) (refs restart : List Nat) :
    (Device.frsEdge d t refs restart).upd.settings = d.upd.settings := by
  simp [Device.frsEdge, settings_ite, settings_forL]

@[simp] theorem Device.shiftTicks_settings (d : Device) (delta : Int) :
    (Device.shiftTicks d delta).upd.settings = d.upd.settings := by
  simp [Device.shiftTicks]

@[simp] theorem Device.ackSource_settings (d : Device) (s : Nat) :
    (Device.ackSource d s).upd.settings = d.upd.settings := by
  simp [Device.ackSource]

@[simp] theorem Device.ackAllSources_settings (d : Device) :
    (Device.ackAllSources d).upd.settings = d.upd.settings := by
  simp [Device.ackAllSources]

@[simp] theorem Device.endRequest_settings (d : Device) (r : LayoutResult) :
    (Device.endRequest d r).upd.settings = d.upd.settings := by
  unfold Device.endRequest
  dsimp only
  repeat' split
  all_goals simp

@[simp] theorem Device.requestLayout_settings (d : Device) (m : Memory) (slot index : Nat) :
    (Device.requestLayout d m slot index).upd.settings = d.upd.settings := by
  unfold Device.requestLayout
  dsimp only
  repeat' split
  all_goals simp

@[simp] theorem Device.cancelLayout_settings (d : Device) (slot : Nat) :
    (Device.cancelLayout d slot).upd.settings = d.upd.settings := by
  unfold Device.cancelLayout
  split <;> simp [settings_ite]

@[simp] theorem Device.evict_settings (d : Device) (cache n : Nat) :
    (Device.evict d cache n).upd.settings = d.upd.settings := by
  simp [Device.evict, settings_ite, settings_forL]

@[simp] theorem Device.fill_settings (d : Device) (cache i size : Nat) (put : Tick → Tick) :
    (Device.fill d cache i size put).upd.settings = d.upd.settings := by
  simp [Device.fill, settings_ite]

@[simp] theorem Device.fillDesc_settings (d : Device) (i : Nat) (x : Option Desc) :
    (Device.fillDesc d i x).upd.settings = d.upd.settings := by
  simp [Device.fillDesc]

@[simp] theorem Device.fillLut_settings (d : Device) (i : Nat) (x : Option LutSet) :
    (Device.fillLut d i x).upd.settings = d.upd.settings := by
  simp [Device.fillLut]

@[simp] theorem Device.fillCoef_settings (d : Device) (i : Nat) (x : Option (List Int)) :
    (Device.fillCoef d i x).upd.settings = d.upd.settings := by
  simp [Device.fillCoef]

@[simp] theorem Device.fillImage_settings (d : Device) (i : Nat) (p : Pic) (x : Option (Pic × Dram)) :
    (Device.fillImage d i p x).upd.settings = d.upd.settings := by
  simp [Device.fillImage]

@[simp] theorem Device.keepEntries_settings (d : Device) (keep : Nat × Nat → Bool) :
    (Device.keepEntries d keep).upd.settings = d.upd.settings := by
  simp [Device.keepEntries, settings_ite, settings_forL]

@[simp] theorem Device.dropUnreferenced_settings (d : Device) :
    (Device.dropUnreferenced d).upd.settings = d.upd.settings := by
  simp [Device.dropUnreferenced]

@[simp] theorem Device.flushEdge_settings (d : Device) :
    (Device.flushEdge d).upd.settings = d.upd.settings := by
  simp [Device.flushEdge, settings_ite]

@[simp] theorem Device.prefetch_settings (d : Device) (m : Memory) (t : Tables) (imgs : List Nat) :
    (Device.prefetch d m t imgs).upd.settings = d.upd.settings := by
  unfold Device.prefetch
  extract_lets d1 d2 d3
  have h1 : d1.upd.settings = d.upd.settings := settings_forL (fun p d => by simp [settings_ite]) _ d
  have h2 : d2.upd.settings = d1.upd.settings := settings_forL (fun p d => by simp [settings_ite]) _ d1
  have h3 : d3.upd.settings = d2.upd.settings := settings_forL (fun p d => by simp [settings_ite]) _ d2
  rw [← h1, ← h2, ← h3]
  refine settings_forL (fun i d => ?_) imgs d3
  split
  · simp [settings_ite]
  · rfl

@[simp] theorem Device.freeTail_settings (d : Device) (o : Nat) :
    (Device.freeTail d o).upd.settings = d.upd.settings := by
  simp [Device.freeTail]

@[simp] theorem Device.letFrameGo_settings (d : Device) (o : Nat) :
    (Device.letFrameGo d o).upd.settings = d.upd.settings := by
  unfold Device.letFrameGo
  dsimp only
  repeat' split
  all_goals simp

@[simp] theorem Device.removeOut_settings (d : Device) (o : Nat) :
    (Device.removeOut d o).upd.settings = d.upd.settings := by
  simp [Device.removeOut]

@[simp] theorem Device.startOut_settings (d : Device) (o : Nat) :
    (Device.startOut d o).upd.settings = d.upd.settings := by
  simp [Device.startOut]

@[simp] theorem Device.switchLayout_settings (d : Device) (r : LayoutReq) :
    (Device.switchLayout d r).upd.settings = d.upd.settings := by
  unfold Device.switchLayout
  extract_lets old new d1 d2 d3
  have h2 : d2.upd.settings = d1.upd.settings := by
    refine settings_forN (fun o d => ?_) 32 d1
    split <;> simp [settings_ite]
  have h3 : d3.upd.settings = d2.upd.settings := by
    refine settings_forN (fun o d => ?_) 32 d2
    split <;> simp
  simpa [h3] using h2

@[simp] theorem Device.movesEdge_settings (d : Device) :
    (Device.movesEdge d).upd.settings = d.upd.settings := by
  unfold Device.movesEdge
  split <;> simp

@[simp] theorem Device.layoutEdge_settings (d : Device) (t : Nat) :
    (Device.layoutEdge d t).upd.settings = d.upd.settings := by
  unfold Device.layoutEdge
  split <;> simp [settings_ite]

@[simp] theorem Device.layoutLate_settings (d : Device) :
    (Device.layoutLate d).upd.settings = d.upd.settings := by
  unfold Device.layoutLate
  split <;> simp [settings_ite]

@[simp] theorem Device.layoutTimeout_settings (d : Device) :
    (Device.layoutTimeout d).upd.settings = d.upd.settings := by
  unfold Device.layoutTimeout
  split <;> simp [settings_ite]

@[simp] theorem Device.moorMove_settings (d : Device) (m : Memory) :
    (Device.moorMove d m).upd.settings = d.upd.settings := by
  unfold Device.moorMove
  dsimp only
  repeat' split
  all_goals simp

@[simp] theorem Device.ownerWrite_settings (d : Device) (slot o v : Nat) :
    (Device.ownerWrite d slot o v).upd.settings = d.upd.settings := by
  simp [Device.ownerWrite, settings_ite]

@[simp] theorem Device.matQuery_settings (d : Device) (slot i : Nat) :
    (Device.matQuery d slot i).upd.settings = d.upd.settings := by
  unfold Device.matQuery
  dsimp only
  rw [settings_forN (fun k d => by simp)]
  simp

@[simp] theorem Device.matCommit_settings (d : Device) (slot i : Nat) :
    (Device.matCommit d slot i).upd.settings = d.upd.settings := by
  simp [Device.matCommit, settings_ite]

@[simp] theorem Device.matEdge_settings (d : Device) :
    (Device.matEdge d).upd.settings = d.upd.settings := by
  simp [Device.matEdge, settings_forL]

@[simp] theorem Device.setPair_settings (d : Device) (f : PairX → PairX) :
    (Device.setPair d f).upd.settings = d.upd.settings := by
  simp [Device.setPair]

@[simp] theorem Device.setMirror_settings (d : Device) (f : Mirror → Mirror) :
    (Device.setMirror d f).upd.settings = d.upd.settings := by
  simp [Device.setMirror]

@[simp] theorem Device.mirrorShow_settings (d : Device) :
    (Device.mirrorShow d).upd.settings = d.upd.settings := by
  simp [Device.mirrorShow]

@[simp] theorem Device.beginCopy_settings (d : Device) (n : Nat) :
    (Device.beginCopy d n).upd.settings = d.upd.settings := by
  simp [Device.beginCopy]

@[simp] theorem Device.mirrorBroken_settings (d : Device) :
    (Device.mirrorBroken d).upd.settings = d.upd.settings := by
  simp [Device.mirrorBroken, settings_ite]

@[simp] theorem Device.stateStale_settings (d : Device) :
    (Device.stateStale d).upd.settings = d.upd.settings := by
  simp [Device.stateStale, settings_ite]

@[simp] theorem Device.tetherDown_settings (d : Device) :
    (Device.tetherDown d).upd.settings = d.upd.settings := by
  simp [Device.tetherDown, settings_ite]

@[simp] theorem Device.arpTouch_settings (d : Device) (p ip : Nat) :
    (Device.arpTouch d p ip).upd.settings = d.upd.settings := by
  unfold Device.arpTouch
  split <;> simp

@[simp] theorem Device.arpRequest_settings (d : Device) (p ip : Nat) :
    (Device.arpRequest d p ip).upd.settings = d.upd.settings := by
  simp [Device.arpRequest]

@[simp] theorem Device.arpNeed_settings (d : Device) (p ip : Nat) :
    (Device.arpNeed d p ip).upd.settings = d.upd.settings := by
  simp [Device.arpNeed, settings_ite]

@[simp] theorem Device.arpLearn_settings (d : Device) (p ip mac : Nat) :
    (Device.arpLearn d p ip mac).upd.settings = d.upd.settings := by
  simp [Device.arpLearn]

@[simp] theorem Device.countTx_settings (d : Device) (p n : Nat) :
    (Device.countTx d p n).upd.settings = d.upd.settings := by
  simp [Device.countTx]

@[simp] theorem Device.hopNeed_settings (d : Device) (p dst : Nat) :
    (Device.hopNeed d p dst).upd.settings = d.upd.settings := by
  unfold Device.hopNeed
  repeat' split
  all_goals simp

@[simp] theorem Device.hopScan_settings (d : Device) :
    (Device.hopScan d).upd.settings = d.upd.settings := by
  simp [Device.hopScan, settings_ite, settings_forL, settings_forN]

@[simp] theorem Device.sendUdp_settings (d : Device) (p src dst ttl dscp sport dport : Nat) (checksum : Bool) (payload : List Byte) :
    (Device.sendUdp d p src dst ttl dscp sport dport checksum payload).upd.settings = d.upd.settings := by
  unfold Device.sendUdp
  repeat' split
  all_goals simp

@[simp] theorem Device.gratuitousArp_settings (d : Device) :
    (Device.gratuitousArp d).upd.settings = d.upd.settings := by
  simp [Device.gratuitousArp, settings_ite, settings_forL]

@[simp] theorem Device.igmpSend_settings (d : Device) (p : Nat) (r : List (Nat × Nat × List Nat)) :
    (Device.igmpSend d p r).upd.settings = d.upd.settings := by
  simp [Device.igmpSend, settings_ite]

@[simp] theorem Device.igmpReport_settings (d : Device) (p : Nat) (r : List (Nat × Nat × List Nat)) :
    (Device.igmpReport d p r).upd.settings = d.upd.settings := by
  simp [Device.igmpReport, settings_ite]

@[simp] theorem Device.igmpUpdate_settings (d : Device) (before : Nat → List (Nat × List Nat)) :
    (Device.igmpUpdate d before).upd.settings = d.upd.settings := by
  simp [Device.igmpUpdate, settings_ite, settings_forN]

@[simp] theorem Device.igmpJoin_settings (d : Device) (p : Nat) :
    (Device.igmpJoin d p).upd.settings = d.upd.settings := by
  simp [Device.igmpJoin, settings_ite]

theorem Device.withIgmp_settings (d : Device) (f : Device → Device) (hf : (f d).upd.settings = d.upd.settings) :
    (d.withIgmp f).upd.settings = d.upd.settings := by simp [Device.withIgmp, hf]

@[simp] theorem Device.note_settings (d : Device) (k : Nat) :
    (Device.note d k).upd.settings = d.upd.settings := by
  simp [Device.note]

@[simp] theorem Device.waitPoint_settings (d : Device) (p : Nat) :
    (Device.waitPoint d p).upd.settings = d.upd.settings := by
  simp [Device.waitPoint]

@[simp] theorem Device.pagerFill_settings (d : Device) (m : Memory) (cache i : Nat) :
    (Device.pagerFill d m cache i).upd.settings = d.upd.settings := by
  unfold Device.pagerFill
  repeat' split
  all_goals simp [settings_ite]

@[simp] theorem Device.pagerFetch_settings (d : Device) (m : Memory) (cache i : Nat) :
    (Device.pagerFetch d m cache i).upd.settings = d.upd.settings := by
  unfold Device.pagerFetch
  dsimp only
  repeat' split
  all_goals simp

@[simp] theorem Device.dropBad_settings (d : Device) :
    (Device.dropBad d).upd.settings = d.upd.settings := by
  simp [Device.dropBad]

@[simp] theorem Device.ratioNote_settings (d : Device) (r : OutRec) (ids : List (Nat × Nat)) :
    (Device.ratioNote d r ids).upd.settings = d.upd.settings := by
  simp [Device.ratioNote, settings_ite, settings_forL]

@[simp] theorem Device.workDone_settings (d : Device) (o tile : Nat) :
    (Device.workDone d o tile).upd.settings = d.upd.settings := by
  simp [Device.workDone]

@[simp] theorem Device.waitBase_settings (d : Device) (off : Nat) :
    (Device.waitBase d off).upd.settings = d.upd.settings := by
  simp [Device.waitBase, settings_ite]

@[simp] theorem Device.loopbackShow_settings (d : Device) (id reason tile : Nat) :
    (Device.loopbackShow d id reason tile).upd.settings = d.upd.settings := by
  simp [Device.loopbackShow]

@[simp] theorem Device.loopbackFail_settings (d : Device) (id reason tile : Nat) :
    (Device.loopbackFail d id reason tile).upd.settings = d.upd.settings := by
  simp [Device.loopbackFail]

@[simp] theorem Device.sendStart_settings (d : Device) (o : Nat) :
    (Device.sendStart d o).upd.settings = d.upd.settings := by
  unfold Device.sendStart
  dsimp only
  repeat' split
  all_goals simp [settings_forL]

@[simp] theorem Device.sendVideo_settings (d : Device) (e k : Nat) (payload : List Byte) :
    (Device.sendVideo d e k payload).upd.settings = d.upd.settings := by
  simp [Device.sendVideo]

@[simp] theorem Device.lateNote_settings (d : Device) (e lateNs : Nat) :
    (Device.lateNote d e lateNs).upd.settings = d.upd.settings := by
  simp [Device.lateNote, settings_ite, settings_forL]

@[simp] theorem Device.setExt_settings (d : Device) (e v : Nat) :
    (Device.setExt d e v).upd.settings = d.upd.settings := by
  simp [Device.setExt]

@[simp] theorem Device.sendPacket_settings (d : Device) (m : Memory) (e : Nat) (q : SealedOut) (paths : List Nat) (npk k ext lateNs : Nat) (go : Bool) :
    (Device.sendPacket d m e q paths npk k ext lateNs go).upd.settings = d.upd.settings := by
  simp [Device.sendPacket, settings_ite, settings_forL]

@[simp] theorem Device.frameSend_settings (d : Device) (m : Memory) (e lateNs : Nat) :
    (Device.frameSend d m e lateNs).upd.settings = d.upd.settings := by
  unfold Device.frameSend
  dsimp only
  repeat' split
  all_goals simp [settings_forL]

@[simp] theorem Device.tailWait_settings (d : Device) (t : OutTail) (off : Nat) :
    (Device.tailWait d t off).upd.settings = d.upd.settings := by
  simp [Device.tailWait, settings_ite]

@[simp] theorem Device.setTail_settings (d : Device) (o : Nat) (t : Option OutTail) :
    (Device.setTail d o t).upd.settings = d.upd.settings := by
  simp [Device.setTail]

@[simp] theorem Device.tailBack_settings (d : Device) (o : Nat) (t : OutTail) :
    (Device.tailBack d o t).upd.settings = d.upd.settings := by
  simp [Device.tailBack, settings_ite]

@[simp] theorem Device.tailSend_settings (d : Device) (m : Memory) (e lateNs : Nat) (t : OutTail) :
    (Device.tailSend d m e lateNs t).upd.settings = d.upd.settings := by
  unfold Device.tailSend
  repeat' split
  all_goals simp [settings_forL]

@[simp] theorem Device.videoSend_settings (d : Device) (m : Memory) (e lateNs : Nat) :
    (Device.videoSend d m e lateNs).upd.settings = d.upd.settings := by
  unfold Device.videoSend
  split <;> simp [settings_ite]

@[simp] theorem Device.frameCheck_settings (d : Device) (o path tile : Nat) (bytes : List Byte) :
    (Device.frameCheck d o path tile bytes).upd.settings = d.upd.settings := by
  unfold Device.frameCheck
  dsimp only
  repeat' split
  all_goals simp

@[simp] theorem Device.tailCheck_settings (d : Device) (o path tile : Nat) (bytes : List Byte) (t : OutTail) :
    (Device.tailCheck d o path tile bytes t).upd.settings = d.upd.settings := by
  unfold Device.tailCheck
  dsimp only
  repeat' split
  all_goals simp

@[simp] theorem Device.loopbackCheck_settings (d : Device) (o path tile : Nat) (bytes : List Byte) :
    (Device.loopbackCheck d o path tile bytes).upd.settings = d.upd.settings := by
  unfold Device.loopbackCheck
  split <;> simp [settings_ite]

@[simp] theorem Device.stopCorrupt_settings (d : Device) (n : Nat) :
    (Device.stopCorrupt d n).upd.settings = d.upd.settings := by
  unfold Device.stopCorrupt
  refine settings_forN (fun o d => ?_) 32 d
  extract_lets d' x
  have tail : d'.upd.settings = d.upd.settings := by
    unfold d'
    split
    · simp [settings_ite]
    · rfl
  clear_value d' x
  split
  · rw [settings_ite, Device.releaseAll_settings, Device.setOut_settings, ite_self, tail]
  · exact tail

@[simp] theorem Device.emitStamp_settings (d : Device) (id t : Nat) (b : StampBody) (seq : Nat) (payload : List Byte) (sent : Bool) :
    (Device.emitStamp d id t b seq payload sent).upd.settings = d.upd.settings := by
  simp [Device.emitStamp, settings_ite, settings_forL]

@[simp] theorem Device.formStamp_settings (d : Device) (id t : Nat) (b : StampBody) :
    (Device.formStamp d id t b).upd.settings = d.upd.settings := by
  simp [Device.formStamp]

@[simp] theorem Device.tailStamp_settings (d : Device) (o : Nat) (t : OutTail) :
    (Device.tailStamp d o t).upd.settings = d.upd.settings := by
  simp [Device.tailStamp, settings_ite, -List.reduceReplicate]

@[simp] theorem Device.markTail_settings (leaving : Bool) (o : Nat) (d : Device) :
    (Device.markTail leaving o d).upd.settings = d.upd.settings := by
  unfold Device.markTail
  dsimp only
  repeat' split
  all_goals simp

@[simp] theorem Device.markTails_settings (leaving : Bool) (d : Device) :
    (Device.markTails leaving d).upd.settings = d.upd.settings := by
  simp [Device.markTails, settings_forN]

@[simp] theorem Device.frameStamp_settings (d : Device) (o : Nat) :
    (Device.frameStamp d o).upd.settings = d.upd.settings := by
  unfold Device.frameStamp
  dsimp only
  repeat' split
  all_goals simp [-List.reduceReplicate]

@[simp] theorem Device.stampOut_settings (d : Device) (o : Nat) :
    (Device.stampOut d o).upd.settings = d.upd.settings := by
  unfold Device.stampOut
  split <;> simp [settings_ite]

@[simp] theorem Device.dropFrame_settings (d : Device) (c : RxClass) :
    (Device.dropFrame d c).upd.settings = d.upd.settings := by
  unfold Device.dropFrame
  split <;> simp

@[simp] theorem Device.countRx_settings (d : Device) (h : RxHdr) :
    (Device.countRx d h).upd.settings = d.upd.settings := by
  simp [Device.countRx, settings_ite]

theorem Device.receive_settings (d : Device) (h : RxHdr) (k : RxClass → Option (Device → Device))
    (hk : ∀ c f, k c = some f → ∀ d, (f d).upd.settings = d.upd.settings) : (d.receive h k).upd.settings = d.upd.settings := by
  unfold Device.receive
  extract_lets d' c
  split
  · next f hf => simp [hk c f hf, d']
  · simp [d']

@[simp] theorem Device.arpClaim_settings (d : Device) (p mac ip : Nat) :
    (Device.arpClaim d p mac ip).upd.settings = d.upd.settings := by
  simp [Device.arpClaim, settings_ite]

@[simp] theorem Device.arpRequestIn_settings (d : Device) (h : RxHdr) (mac sip tip : Nat) :
    (Device.arpRequestIn d h mac sip tip).upd.settings = d.upd.settings := by
  refine d.receive_settings h _ (fun c g hg d => ?_)
  split at hg
  · cases hg
    simp [settings_ite]
  · cases hg

@[simp] theorem Device.arpReplyIn_settings (d : Device) (h : RxHdr) (mac sip tip : Nat) :
    (Device.arpReplyIn d h mac sip tip).upd.settings = d.upd.settings := by
  refine d.receive_settings h _ (fun c g hg d => ?_)
  split at hg
  · cases hg
    simp [settings_ite]
  · cases hg

@[simp] theorem Device.arpRetry_settings (d : Device) (p ip : Nat) :
    (Device.arpRetry d p ip).upd.settings = d.upd.settings := by
  unfold Device.arpRetry
  split <;> simp [settings_ite]

@[simp] theorem Device.arpRefresh_settings (d : Device) (p ip : Nat) :
    (Device.arpRefresh d p ip).upd.settings = d.upd.settings := by
  unfold Device.arpRefresh
  split <;> simp [settings_ite]

@[simp] theorem Device.icmpEcho_settings (d : Device) (h : RxHdr) (payload : List Byte) :
    (Device.icmpEcho d h payload).upd.settings = d.upd.settings := by
  refine d.receive_settings h _ (fun c g hg d => ?_)
  split at hg
  · cases hg
    simp [settings_ite]
  · cases hg

@[simp] theorem Device.igmpQuery_settings (d : Device) (h : RxHdr) (version group : Nat) :
    (Device.igmpQuery d h version group).upd.settings = d.upd.settings := by
  refine d.receive_settings h _ (fun c g hg d => ?_)
  split at hg
  · cases hg
    simp [settings_ite]
  · cases hg

@[simp] theorem Device.igmpRepeat_settings (d : Device) (p : Nat) :
    (Device.igmpRepeat d p).upd.settings = d.upd.settings := by
  unfold Device.igmpRepeat
  split <;> simp

@[simp] theorem Device.igmpV2End_settings (d : Device) (p : Nat) :
    (Device.igmpV2End d p).upd.settings = d.upd.settings := by
  unfold Device.igmpV2End
  split <;> simp

@[simp] theorem Device.setIng_settings (d : Device) (s : Nat) (v : Ingest) :
    (Device.setIng d s v).upd.settings = d.upd.settings := by
  simp [Device.setIng]

@[simp] theorem Device.dropFilling_settings (d : Device) (s : Nat) (f : Filling) (incomplete : Bool) :
    (Device.dropFilling d s f incomplete).upd.settings = d.upd.settings := by
  unfold Device.dropFilling
  split <;> simp [settings_ite]

@[simp] theorem Device.openFrame_settings (d : Device) (s ts capture : Nat) :
    (Device.openFrame d s ts capture).upd.settings = d.upd.settings := by
  unfold Device.openFrame
  dsimp only
  repeat' split
  all_goals simp

@[simp] theorem Device.mergeSeq_settings (d : Device) (s : Nat) (ts seq : Nat) :
    (Device.mergeSeq d s ts seq).1.upd.settings = d.upd.settings := by
  unfold Device.mergeSeq
  dsimp only
  repeat' split
  all_goals simp

@[simp] theorem Device.frameSeen_settings (d : Device) (s ts : Nat) :
    (Device.frameSeen d s ts).upd.settings = d.upd.settings := by
  simp [Device.frameSeen]

@[simp] theorem Device.flowSeen_settings (d : Device) (f : Nat) :
    (Device.flowSeen d f).upd.settings = d.upd.settings := by
  simp [Device.flowSeen, settings_ite]

@[simp] theorem Device.skewTimeout_settings (d : Device) (s ts : Nat) :
    (Device.skewTimeout d s ts).upd.settings = d.upd.settings := by
  unfold Device.skewTimeout
  split <;> simp

@[simp] theorem Device.setWit_settings (d : Device) (o : Nat) (v : WitOut) :
    (Device.setWit d o v).upd.settings = d.upd.settings := by
  simp [Device.setWit]

@[simp] theorem Device.witStamp_settings (d : Device) (o : Nat) (l : List Byte) :
    (Device.witStamp d o l).upd.settings = d.upd.settings := by
  simp [Device.witStamp, settings_ite]

@[simp] theorem Device.witVideoIn_settings (d : Device) (o ts : Nat) :
    (Device.witVideoIn d o ts).upd.settings = d.upd.settings := by
  simp [Device.witVideoIn, settings_ite]

@[simp] theorem Device.witnessIn_settings (d : Device) (h : RxHdr) (p : WitPkt) :
    (Device.witnessIn d h p).upd.settings = d.upd.settings := by
  unfold Device.witnessIn
  split <;> simp [settings_forL]

@[simp] theorem Device.witnessVerdict_settings (d : Device) :
    (Device.witnessVerdict d).upd.settings = d.upd.settings := by
  simp [Device.witnessVerdict, settings_ite, settings_forN]

@[simp] theorem Device.decErr_settings (d : Device) (n cls : Nat) :
    (Device.decErr d n cls).upd.settings = d.upd.settings := by
  simp [Device.decErr, settings_ite]

@[simp] theorem Device.decDamaged_settings (d : Device) (n : Nat) (referable : Bool) :
    (Device.decDamaged d n referable).upd.settings = d.upd.settings := by
  simp [Device.decDamaged, settings_ite]

@[simp] theorem Device.decNever_settings (d : Device) (n k : Nat) (referable : Bool) :
    (Device.decNever d n k referable).upd.settings = d.upd.settings := by
  simp [Device.decNever]

@[simp] theorem Device.dpbRelease_settings (d : Device) (n : Nat) (p : DpbPic) :
    (Device.dpbRelease d n p).upd.settings = d.upd.settings := by
  simp [Device.dpbRelease, settings_ite]

@[simp] theorem Device.dpbCount_settings (d : Device) (n : Nat) :
    (Device.dpbCount d n).upd.settings = d.upd.settings := by
  simp [Device.dpbCount]

@[simp] theorem Device.decClear_settings (d : Device) (n : Nat) :
    (Device.decClear d n).upd.settings = d.upd.settings := by
  unfold Device.decClear
  extract_lets x d1 d2
  have h1 : d1.upd.settings = d.upd.settings := by
    refine settings_forL (fun j d => ?_) x.running d
    split <;> simp
  have h2 : d2.upd.settings = d1.upd.settings := settings_forL (fun p d => by simp) x.dpb d1
  simpa [h2] using h1

@[simp] theorem Device.decSync_settings (d : Device) (n : Nat) :
    (Device.decSync d n).upd.settings = d.upd.settings := by
  simp [Device.decSync]

@[simp] theorem Device.decCloseNow_settings (d : Device) (n : Nat) :
    (Device.decCloseNow d n).upd.settings = d.upd.settings := by
  simp [Device.decCloseNow, settings_ite, settings_forL]

@[simp] theorem Device.decOpenNow_settings (d : Device) (n : Nat) :
    (Device.decOpenNow d n).upd.settings = d.upd.settings := by
  simp [Device.decOpenNow]

@[simp] theorem Device.decEffect_settings (d : Device) (c : SessCmd) :
    (Device.decEffect d c).upd.settings = d.upd.settings := by
  unfold Device.decEffect
  split <;> simp

@[simp] theorem Device.decEdgeCmd_settings (d : Device) :
    (Device.decEdgeCmd d).upd.settings = d.upd.settings := by
  unfold Device.decEdgeCmd
  split <;> simp

@[simp] theorem Device.decCommand_settings (d : Device) (slot op n : Nat) :
    (Device.decCommand d slot op n).upd.settings = d.upd.settings := by
  unfold Device.decCommand
  dsimp only
  repeat' split
  all_goals simp

@[simp] theorem Device.streamSeen_settings (d : Device) (s : Nat) (adv : Bool) :
    (Device.streamSeen d s adv).upd.settings = d.upd.settings := by
  simp [Device.streamSeen]

@[simp] theorem Device.tsPsi_settings (d : Device) (n : Nat) (pid : Nat) (t : Psi) :
    (Device.tsPsi d n pid t).upd.settings = d.upd.settings := by
  unfold Device.tsPsi
  split <;> simp [settings_ite]

@[simp] theorem Device.idleClose_settings (d : Device) (n : Nat) :
    (Device.idleClose d n).upd.settings = d.upd.settings := by
  simp [Device.idleClose, settings_ite]

@[simp] theorem Device.auJob_settings (d : Device) (n : Nat) (a : AccessUnit) (next : Option Nat) :
    (Device.auJob d n a next).upd.settings = d.upd.settings := by
  unfold Device.auJob
  repeat' split
  all_goals simp [settings_ite]

@[simp] theorem Device.auJobs_settings (n : Nat) (rest : List AccessUnit) (l : List AccessUnit) :
    ∀ d : Device, (d.auJobs n rest l).upd.settings = d.upd.settings := by
  induction l with
  | nil => intro d; rfl
  | cons a r ih => intro d; rw [Device.auJobs, ih, Device.auJob_settings]

@[simp] theorem Device.decUnitsEdge_settings (d : Device) (n : Nat) :
    (Device.decUnitsEdge d n).upd.settings = d.upd.settings := by
  unfold Device.decUnitsEdge
  extract_lets x done rest back d1 stop d2
  have h1 : d1.upd.settings = d.upd.settings := by
    refine settings_forL (fun j d => ?_) _ d
    split <;> simp
  have h2 : d2.upd.settings = d.upd.settings := h1
  split <;> simp [h2]

@[simp] theorem Device.decStart_settings (d : Device) (n : Nat) :
    (Device.decStart d n).1.upd.settings = d.upd.settings := by
  unfold Device.decStart
  dsimp only
  repeat' split
  all_goals simp

@[simp] theorem Device.decAdmit_settings (n k : Nat) :
    ∀ (d : Device) (b : DecBudget), (d.decAdmit n k b).1.upd.settings = d.upd.settings := by
  induction k with
  | zero => intro d b; rfl
  | succ k ih =>
    intro d b
    unfold Device.decAdmit
    split
    · rfl
    · dsimp only
      split
      · rfl
      · split <;> simp [ih]

@[simp] theorem Device.decAdmission_settings (d : Device) :
    (Device.decAdmission d).upd.settings = d.upd.settings := by
  unfold Device.decAdmission
  extract_lets order first late free rest d1 lateAll d2 left d3
  have h1 : first.1.upd.settings = d.upd.settings := by
    refine settings_foldl_fst (fun n a => ?_) order (d, [])
    exact Device.decAdmit_settings ..
  have h2 : rest.1.upd.settings = first.1.upd.settings := by
    refine settings_foldl_fst (fun n a => ?_) order (first.1, _)
    exact Device.decAdmit_settings ..
  have h3 : d3.upd.settings = d.upd.settings := by
    rw [← h1, ← h2]
    simp only [d3, d2, Device.put_settings, d1]
  clear_value d3
  split <;> simp [h3]

@[simp] theorem Device.decPublish_settings (d : Device) :
    (Device.decPublish d).upd.settings = d.upd.settings := by
  simp [Device.decPublish]

@[simp] theorem Device.dpbUpdate_settings (d : Device) (n : Nat) (j : DecJob) (b : Nat) (clean sealed : Bool) :
    (Device.dpbUpdate d n j b clean sealed).upd.settings = d.upd.settings := by
  simp [Device.dpbUpdate, settings_ite, settings_forL]

@[simp] theorem Device.setEnc_settings (d : Device) (n : Nat) (v : EncSess) :
    (Device.setEnc d n v).upd.settings = d.upd.settings := by
  simp [Device.setEnc]

@[simp] theorem Device.encStop_settings (d : Device) (n : Nat) :
    (Device.encStop d n).upd.settings = d.upd.settings := by
  simp [Device.encStop]

@[simp] theorem Device.encOpenNow_settings (d : Device) (n : Nat) :
    (Device.encOpenNow d n).upd.settings = d.upd.settings := by
  simp [Device.encOpenNow]

@[simp] theorem Device.encCloseNow_settings (d : Device) (n : Nat) :
    (Device.encCloseNow d n).upd.settings = d.upd.settings := by
  unfold Device.encCloseNow
  extract_lets x d1 d2
  have h1 : d1.upd.settings = d.upd.settings := d.encStop_settings n
  have h2 : d2.upd.settings = d1.upd.settings := by
    refine settings_foldl (fun o d => ?_) _ d1
    split <;> simp
  simp [h2, h1]

@[simp] theorem Device.encEffect_settings (d : Device) (c : SessCmd) :
    (Device.encEffect d c).upd.settings = d.upd.settings := by
  unfold Device.encEffect
  split <;> simp

@[simp] theorem Device.encEdgeCmd_settings (d : Device) :
    (Device.encEdgeCmd d).upd.settings = d.upd.settings := by
  unfold Device.encEdgeCmd
  split <;> simp

@[simp] theorem Device.encCommand_settings (d : Device) (slot op n : Nat) :
    (Device.encCommand d slot op n).upd.settings = d.upd.settings := by
  unfold Device.encCommand
  dsimp only
  repeat' split
  all_goals simp

@[simp] theorem Device.encLeaveRun_settings (d : Device) :
    (Device.encLeaveRun d).upd.settings = d.upd.settings := by
  simp [Device.encLeaveRun, settings_ite, settings_forN]

@[simp] theorem Device.encBegin_settings (d : Device) (m : Memory) (n : Nat) (j : EncJob) :
    (Device.encBegin d m n j).upd.settings = d.upd.settings := by
  simp [Device.encBegin, settings_ite]

@[simp] theorem Device.encMissing_settings (d : Device) (n : Nat) (j : EncJob) :
    (Device.encMissing d n j).upd.settings = d.upd.settings := by
  simp [Device.encMissing]

@[simp] theorem Device.encTurn_settings (m : Memory) (n k : Nat) :
    ∀ d : Device, (d.encTurn m n k).upd.settings = d.upd.settings := by
  induction k with
  | zero => intro d; rfl
  | succ k ih =>
    intro d
    unfold Device.encTurn
    split
    · rfl
    · split
      · rfl
      · split <;> simp [ih]

@[simp] theorem Device.encTick_settings (d : Device) (m : Memory) (n tick : Nat) (inp : Option EncInput) :
    (Device.encTick d m n tick inp).upd.settings = d.upd.settings := by
  unfold Device.encTick
  extract_lets x row j d1 d2 d3
  have h2 : d2.upd.settings = d.upd.settings := by
    unfold d2
    split <;> simp [d1]
  have h3 : d3.upd.settings = d.upd.settings := by simp [d3, settings_ite, h2]
  simp [h3]

@[simp] theorem Device.encEdge_settings (d : Device) (m : Memory) (t : Nat) :
    (Device.encEdge d m t).upd.settings = d.upd.settings := by
  simp [Device.encEdge, settings_ite, settings_forN]

@[simp] theorem Device.encPublish_settings (d : Device) :
    (Device.encPublish d).upd.settings = d.upd.settings := by
  simp [Device.encPublish]

@[simp] theorem Device.encRowStart_settings (d : Device) (n : Nat) :
    (Device.encRowStart d n).upd.settings = d.upd.settings := by
  unfold Device.encRowStart
  dsimp only
  repeat' split
  all_goals simp

@[simp] theorem Device.deadlineStart_settings (d : Device) (n : Nat) (j : EncJob) :
    (Device.deadlineStart d n j).upd.settings = d.upd.settings := by
  simp [Device.deadlineStart, settings_ite]

@[simp] theorem Device.encRateEdge_settings (d : Device) (n : Nat) :
    (Device.encRateEdge d n).upd.settings = d.upd.settings := by
  simp [Device.encRateEdge]

@[simp] theorem Device.encPeriodEdge_settings (d : Device) (n : Nat) :
    (Device.encPeriodEdge d n).upd.settings = d.upd.settings := by
  simp [Device.encPeriodEdge, settings_ite]

@[simp] theorem Device.setFeed_settings (d : Device) (n : Nat) (f : Feed) :
    (Device.setFeed d n f).upd.settings = d.upd.settings := by
  simp [Device.setFeed]

@[simp] theorem Device.feedFail_settings (d : Device) (n reason : Nat) (f : Feed) :
    (Device.feedFail d n reason f).upd.settings = d.upd.settings := by
  simp [Device.feedFail]

@[simp] theorem Device.feedSend_settings (d : Device) (n lateNs : Nat) :
    (Device.feedSend d n lateNs).upd.settings = d.upd.settings := by
  unfold Device.feedSend
  repeat' split
  all_goals simp [settings_ite, settings_forL]

@[simp] theorem Device.feedCheck_settings (d : Device) (n path slice : Nat) (bytes : List Byte) :
    (Device.feedCheck d n path slice bytes).upd.settings = d.upd.settings := by
  unfold Device.feedCheck
  repeat' split
  all_goals simp

@[simp] theorem Device.feedPop_settings (d : Device) (n : Nat) :
    (Device.feedPop d n).upd.settings = d.upd.settings := by
  simp [Device.feedPop]

@[simp] theorem Device.stampFeed_settings (d : Device) (n : Nat) :
    (Device.stampFeed d n).upd.settings = d.upd.settings := by
  unfold Device.stampFeed
  dsimp only
  repeat' split
  all_goals simp [-List.reduceReplicate]

@[simp] theorem Device.setServo_settings (d : Device) (v : Nat) (x : Servo) :
    (Device.setServo d v x).upd.settings = d.upd.settings := by
  simp [Device.setServo]

@[simp] theorem Device.presetI_settings (d : Device) (v : Nat) :
    (Device.presetI d v).upd.settings = d.upd.settings := by
  simp [Device.presetI]

@[simp] theorem Device.rateSpan_settings (d : Device) :
    (Device.rateSpan d).upd.settings = d.upd.settings := by
  simp [Device.rateSpan, settings_ite]

@[simp] theorem Device.setRate_settings (d : Device) (r : Int) :
    (Device.setRate d r).upd.settings = d.upd.settings := by
  simp [Device.setRate]

@[simp] theorem Device.clampRate_settings (d : Device) :
    (Device.clampRate d).upd.settings = d.upd.settings := by
  simp [Device.clampRate, settings_ite]

@[simp] theorem Device.rateNow_settings (d : Device) (v : Nat) :
    (Device.rateNow d v).upd.settings = d.upd.settings := by
  simp [Device.rateNow]

@[simp] theorem Device.steerBy_settings (d : Device) (v dt : Nat) :
    (Device.steerBy d v dt).upd.settings = d.upd.settings := by
  simp [Device.steerBy, settings_ite]

@[simp] theorem Device.srcUpdate_settings (d : Device) :
    (Device.srcUpdate d).upd.settings = d.upd.settings := by
  simp [Device.srcUpdate, settings_ite]

@[simp] theorem Device.utcUpdate_settings (d : Device) :
    (Device.utcUpdate d).upd.settings = d.upd.settings := by
  unfold Device.utcUpdate
  split <;> simp

@[simp] theorem Device.useServo_settings (d : Device) (v : Nat) :
    (Device.useServo d v).upd.settings = d.upd.settings := by
  simp [Device.useServo, settings_ite]

@[simp] theorem Device.servoSwitch_settings (d : Device) :
    (Device.servoSwitch d).upd.settings = d.upd.settings := by
  unfold Device.servoSwitch
  dsimp only
  repeat' split
  all_goals simp

@[simp] theorem Device.afterServo_settings (d : Device) :
    (Device.afterServo d).upd.settings = d.upd.settings := by
  simp [Device.afterServo, settings_ite]

@[simp] theorem Device.servoEdge_settings (d : Device) :
    (Device.servoEdge d).upd.settings = d.upd.settings := by
  simp [Device.servoEdge]

@[simp] theorem Device.srvTo_settings (d : Device) (v st : Nat) :
    (Device.srvTo d v st).upd.settings = d.upd.settings := by
  simp [Device.srvTo, settings_ite]

@[simp] theorem Device.servosRefresh_settings (d : Device) :
    (Device.servosRefresh d).upd.settings = d.upd.settings := by
  simp [Device.servosRefresh, settings_ite, settings_forN]

@[simp] theorem Device.servoLoss_settings (d : Device) (v : Nat) :
    (Device.servoLoss d v).upd.settings = d.upd.settings := by
  simp [Device.servoLoss]

@[simp] theorem Device.setTrig_settings (d : Device) (k : Nat) (x : Trig) :
    (Device.setTrig d k x).upd.settings = d.upd.settings := by
  simp [Device.setTrig]

@[simp] theorem Device.trigMissed_settings (d : Device) (k : Nat) :
    (Device.trigMissed d k).upd.settings = d.upd.settings := by
  simp [Device.trigMissed]

@[simp] theorem Device.trigStep_settings (d : Device) (ns : Int) :
    (Device.trigStep d ns).upd.settings = d.upd.settings := by
  refine settings_forN (fun k d => ?_) 4 d
  dsimp only
  split <;> simp [settings_ite]

@[simp] theorem Device.stepNow_settings (d : Device) (v : Nat) (fresh : Bool) :
    (Device.stepNow d v fresh).upd.settings = d.upd.settings := by
  simp [Device.stepNow, settings_ite]

@[simp] theorem Device.stepDue_settings (d : Device) (v : Nat) (fresh : Bool) :
    (Device.stepDue d v fresh).upd.settings = d.upd.settings := by
  unfold Device.stepDue
  dsimp only
  repeat' split
  all_goals simp

@[simp] theorem Device.stepLeft_settings (d : Device) :
    (Device.stepLeft d).upd.settings = d.upd.settings := by
  unfold Device.stepLeft
  split <;> simp

@[simp] theorem Device.acquired_settings (d : Device) (v : Nat) :
    (Device.acquired d v).upd.settings = d.upd.settings := by
  simp [Device.acquired, settings_ite]

@[simp] theorem Device.tracking_settings (d : Device) (v : Nat) :
    (Device.tracking d v).upd.settings = d.upd.settings := by
  simp [Device.tracking, settings_ite]

@[simp] theorem Device.delaySample_settings (d : Device) (v : Nat) (s : Int) :
    (Device.delaySample d v s).upd.settings = d.upd.settings := by
  simp [Device.delaySample, settings_ite]

@[simp] theorem Device.offsetSample_settings (d : Device) (v t2 : Nat) (o : Int) :
    (Device.offsetSample d v t2 o).upd.settings = d.upd.settings := by
  simp [Device.offsetSample, settings_ite]

@[simp] theorem Device.syncDone_settings (d : Device) (v t1 t2 : Nat) (cs : Int) :
    (Device.syncDone d v t1 t2 cs).upd.settings = d.upd.settings := by
  unfold Device.syncDone
  dsimp only
  repeat' split
  all_goals simp

theorem Device.ptp_settings (d : Device) (h : RxHdr) (domain : Nat) (f : Nat → Device → Device)
    (hf : ∀ k d, (f k d).upd.settings = d.upd.settings) : (d.ptp h domain f).upd.settings = d.upd.settings := by
  refine d.receive_settings h _ (fun c g hg d => ?_)
  split at hg
  · cases hg
    exact settings_forL hf _ d
  · cases hg

@[simp] theorem Device.masterRegs_settings (d : Device) (v : Nat) (m : PtpAnnounce) :
    (Device.masterRegs d v m).upd.settings = d.upd.settings := by
  simp [Device.masterRegs]

@[simp] theorem Device.selectMaster_settings (d : Device) (v : Nat) :
    (Device.selectMaster d v).upd.settings = d.upd.settings := by
  unfold Device.selectMaster
  dsimp only
  repeat' split
  all_goals simp

@[simp] theorem Device.announce_settings (d : Device) (h : RxHdr) (m : PtpAnnounce) :
    (Device.announce d h m).upd.settings = d.upd.settings := by
  refine d.ptp_settings _ _ _ (fun k d => ?_)
  simp

@[simp] theorem Device.sync_settings (d : Device) (h : RxHdr) (m : PtpSync) :
    (Device.sync d h m).upd.settings = d.upd.settings := by
  refine d.ptp_settings _ _ _ (fun k d => ?_)
  simp [settings_ite]

@[simp] theorem Device.followUp_settings (d : Device) (h : RxHdr) (m : PtpSync) :
    (Device.followUp d h m).upd.settings = d.upd.settings := by
  refine d.ptp_settings _ _ _ (fun k d => ?_)
  dsimp only
  split
  · simp [settings_ite]
  · rfl

@[simp] theorem Device.delayReq_settings (d : Device) (v : Nat) :
    (Device.delayReq d v).upd.settings = d.upd.settings := by
  simp [Device.delayReq, settings_ite]

@[simp] theorem Device.delayResp_settings (d : Device) (h : RxHdr) (m : PtpDelayResp) :
    (Device.delayResp d h m).upd.settings = d.upd.settings := by
  refine d.ptp_settings _ _ _ (fun k d => ?_)
  dsimp only
  (repeat' split) <;> simp

@[simp] theorem Device.announceTimeout_settings (d : Device) (v : Nat) :
    (Device.announceTimeout d v).upd.settings = d.upd.settings := by
  unfold Device.announceTimeout
  repeat' split
  all_goals simp

@[simp] theorem Device.syncTimeout_settings (d : Device) (v : Nat) :
    (Device.syncTimeout d v).upd.settings = d.upd.settings := by
  simp [Device.syncTimeout, settings_ite]

@[simp] theorem Device.relockCmd_settings (d : Device) (v : Nat) :
    (Device.relockCmd d v).upd.settings = d.upd.settings := by
  simp [Device.relockCmd, settings_ite]

@[simp] theorem Device.selectCmd_settings (d : Device) (v : Nat) :
    (Device.selectCmd d v).upd.settings = d.upd.settings := by
  simp [Device.selectCmd, settings_ite]

@[simp] theorem Device.cancelCmd_settings (d : Device) :
    (Device.cancelCmd d).upd.settings = d.upd.settings := by
  simp [Device.cancelCmd, settings_ite]

@[simp] theorem Device.timeCmd_settings (d : Device) (op v : Nat) :
    (Device.timeCmd d op v).upd.settings = d.upd.settings := by
  unfold Device.timeCmd
  split <;> simp

@[simp] theorem Device.stepApply_settings (d : Device) :
    (Device.stepApply d).upd.settings = d.upd.settings := by
  unfold Device.stepApply
  split <;> simp [settings_ite]

@[simp] theorem Device.tickOutStart_settings (d : Device) :
    (Device.tickOutStart d).upd.settings = d.upd.settings := by
  have wait (n : Nat) : ∃ a b c p, d.waitUntil n = { d with now := a, devNs := b, devFrac := c, perf := p } := d.waitUntil_only n
  choose a b c p h using wait
  simp only [Device.tickOutStart, h, settings_ite, Device.emit_settings, ite_self]

@[simp] theorem Device.tickOutEnd_settings (d : Device) :
    (Device.tickOutEnd d).upd.settings = d.upd.settings := by
  unfold Device.tickOutEnd
  split <;> simp

@[simp] theorem Device.trigEnable_settings (d : Device) (k : Nat) :
    (Device.trigEnable d k).upd.settings = d.upd.settings := by
  unfold Device.trigEnable
  dsimp only
  repeat' split
  all_goals simp

@[simp] theorem Device.trigDisable_settings (d : Device) (k : Nat) :
    (Device.trigDisable d k).upd.settings = d.upd.settings := by
  simp [Device.trigDisable]

@[simp] theorem Device.trigFire_settings (d : Device) (k : Nat) :
    (Device.trigFire d k).upd.settings = d.upd.settings := by
  unfold Device.trigFire
  split <;> simp [settings_ite]

@[simp] theorem Device.trigStop_settings (d : Device) (k : Nat) :
    (Device.trigStop d k).upd.settings = d.upd.settings := by
  unfold Device.trigStop
  split <;> simp

@[simp] theorem Device.setCaps_settings (d : Device) (k : Nat) (l : List Capture) :
    (Device.setCaps d k l).upd.settings = d.upd.settings := by
  simp [Device.setCaps]

@[simp] theorem Device.capture_settings (d : Device) (k : Nat) (rising : Bool) :
    (Device.capture d k rising).upd.settings = d.upd.settings := by
  simp [Device.capture, settings_ite]

@[simp] theorem Device.setLaneX_settings (d : Device) (l : Nat) (x : LaneX) :
    (Device.setLaneX d l x).upd.settings = d.upd.settings := by
  simp [Device.setLaneX]

@[simp] theorem Device.scanEnd_settings (d : Device) (aborted : Bool) (errors : Nat) :
    (Device.scanEnd d aborted errors).upd.settings = d.upd.settings := by
  simp [Device.scanEnd]

@[simp] theorem Device.scanGuard_settings (d : Device) :
    (Device.scanGuard d).upd.settings = d.upd.settings := by
  unfold Device.scanGuard
  split <;> simp [settings_ite]

@[simp] theorem Device.laneFreeze_settings (d : Device) (l : Nat) :
    (Device.laneFreeze d l).upd.settings = d.upd.settings := by
  simp [Device.laneFreeze]

@[simp] theorem Device.setLane_settings (d : Device) (l st : Nat) :
    (Device.setLane d l st).upd.settings = d.upd.settings := by
  simp [Device.setLane, settings_ite]

@[simp] theorem Device.heard_settings (d : Device) (l : Nat) :
    (Device.heard d l).upd.settings = d.upd.settings := by
  simp [Device.heard]

@[simp] theorem Device.portRefresh_settings (d : Device) (p : Nat) :
    (Device.portRefresh d p).upd.settings = d.upd.settings := by
  simp [Device.portRefresh, settings_ite]

@[simp] theorem Device.portStart_settings (d : Device) (p : Nat) :
    (Device.portStart d p).upd.settings = d.upd.settings := by
  simp [Device.portStart, settings_ite, settings_forL]

@[simp] theorem Device.portUpStart_settings (d : Device) (p : Nat) :
    (Device.portUpStart d p).upd.settings = d.upd.settings := by
  simp [Device.portUpStart]

@[simp] theorem Device.portOff_settings (d : Device) (p : Nat) :
    (Device.portOff d p).upd.settings = d.upd.settings := by
  simp [Device.portOff, settings_forL]

@[simp] theorem Device.anComplete_settings (d : Device) (p : Nat) :
    (Device.anComplete d p).upd.settings = d.upd.settings := by
  simp [Device.anComplete, settings_ite, settings_forL]

@[simp] theorem Device.setPolarity_settings (d : Device) (l : Nat) (inverted : Bool) :
    (Device.setPolarity d l inverted).upd.settings = d.upd.settings := by
  unfold Device.setPolarity
  split <;> simp [settings_ite]

@[simp] theorem Device.trainComplete_settings (d : Device) (p : Nat) (inv : List Bool) :
    (Device.trainComplete d p inv).upd.settings = d.upd.settings := by
  simp [Device.trainComplete, settings_ite, settings_forL]

@[simp] theorem Device.lockAcquired_settings (d : Device) (l normal inverted : Nat) (markers : Bool) :
    (Device.lockAcquired d l normal inverted markers).upd.settings = d.upd.settings := by
  unfold Device.lockAcquired
  dsimp only
  repeat' split
  all_goals simp [settings_forL]

@[simp] theorem Device.alignComplete_settings (d : Device) (q map : Nat) :
    (Device.alignComplete d q map).upd.settings = d.upd.settings := by
  simp [Device.alignComplete, settings_ite, settings_forL]

@[simp] theorem Device.attemptTimeout_settings (d : Device) (p : Nat) :
    (Device.attemptTimeout d p).upd.settings = d.upd.settings := by
  simp [Device.attemptTimeout, settings_ite]

@[simp] theorem Device.tetherTry_settings (d : Device) :
    (Device.tetherTry d).upd.settings = d.upd.settings := by
  simp [Device.tetherTry, settings_ite, settings_forL]

@[simp] theorem Device.tetherOn_settings (d : Device) :
    (Device.tetherOn d).upd.settings = d.upd.settings := by
  simp [Device.tetherOn]

@[simp] theorem Device.tetherLost_settings (d : Device) :
    (Device.tetherLost d).upd.settings = d.upd.settings := by
  simp [Device.tetherLost]

@[simp] theorem Device.tetherOff_settings (d : Device) :
    (Device.tetherOff d).upd.settings = d.upd.settings := by
  simp [Device.tetherOff, settings_ite, settings_forL]

@[simp] theorem Device.tetherTimeout_settings (d : Device) :
    (Device.tetherTimeout d).upd.settings = d.upd.settings := by
  unfold Device.tetherTimeout
  dsimp only
  split
  · rfl
  · simp only [Device.raise_settings, Device.put_settings]
    rw [settings_forL (fun l d => d.setLane_settings l 7)]
    simp

@[simp] theorem Device.tetherAgain_settings (d : Device) (heard : Bool) :
    (Device.tetherAgain d heard).upd.settings = d.upd.settings := by
  simp [Device.tetherAgain, settings_ite]

@[simp] theorem Device.tetherConfirmed_settings (d : Device) (trained inverted : Nat) :
    (Device.tetherConfirmed d trained inverted).upd.settings = d.upd.settings := by
  simp [Device.tetherConfirmed, settings_ite, settings_forL]

@[simp] theorem Device.laneUnusable_settings (d : Device) (l : Nat) :
    (Device.laneUnusable d l).upd.settings = d.upd.settings := by
  simp [Device.laneUnusable]

@[simp] theorem Device.retrainEnd_settings (d : Device) (l : Nat) :
    (Device.retrainEnd d l).upd.settings = d.upd.settings := by
  simp [Device.retrainEnd]

@[simp] theorem Device.windowOpen_settings (d : Device) (w unlocked : Nat) :
    (Device.windowOpen d w unlocked).upd.settings = d.upd.settings := by
  simp [Device.windowOpen, settings_ite, settings_forL]

@[simp] theorem Device.windowClose_settings (d : Device) (w : Nat) :
    (Device.windowClose d w).upd.settings = d.upd.settings := by
  simp [Device.windowClose, settings_ite, settings_forL]

@[simp] theorem Device.lockLoss_settings (d : Device) (l : Nat) :
    (Device.lockLoss d l).upd.settings = d.upd.settings := by
  simp [Device.lockLoss, settings_ite]

@[simp] theorem Device.lanesAgain_settings (d : Device) (f : Nat → Bool) :
    (Device.lanesAgain d f).upd.settings = d.upd.settings := by
  simp [Device.lanesAgain, settings_ite, settings_forL]

@[simp] theorem Device.refLoss_settings (d : Device) (r : Nat) :
    (Device.refLoss d r).upd.settings = d.upd.settings := by
  simp [Device.refLoss, settings_ite]

@[simp] theorem Device.refBack_settings (d : Device) (r : Nat) :
    (Device.refBack d r).upd.settings = d.upd.settings := by
  simp [Device.refBack, settings_ite]

@[simp] theorem Device.adaptOff_settings (d : Device) (l : Nat) (signal : Bool) :
    (Device.adaptOff d l signal).upd.settings = d.upd.settings := by
  simp [Device.adaptOff, settings_ite]

@[simp] theorem Device.checkStart_settings (d : Device) (l : Nat) :
    (Device.checkStart d l).upd.settings = d.upd.settings := by
  simp [Device.checkStart]

@[simp] theorem Device.adaptOn_settings (d : Device) (l : Nat) :
    (Device.adaptOn d l).upd.settings = d.upd.settings := by
  simp [Device.adaptOn, settings_ite]

@[simp] theorem Device.checkTimer_settings (d : Device) (l : Nat) :
    (Device.checkTimer d l).upd.settings = d.upd.settings := by
  simp [Device.checkTimer, settings_ite]

@[simp] theorem Device.checkDone_settings (d : Device) (l corners : Nat) :
    (Device.checkDone d l corners).upd.settings = d.upd.settings := by
  simp [Device.checkDone, settings_ite]

@[simp] theorem Device.retrainAgreed_settings (d : Device) (l : Nat) :
    (Device.retrainAgreed d l).upd.settings = d.upd.settings := by
  simp [Device.retrainAgreed, settings_ite]

@[simp] theorem Device.retrainStart_settings (d : Device) (l : Nat) :
    (Device.retrainStart d l).upd.settings = d.upd.settings := by
  simp [Device.retrainStart, settings_ite]

@[simp] theorem Device.retrainDone_settings (d : Device) (l : Nat) :
    (Device.retrainDone d l).upd.settings = d.upd.settings := by
  simp [Device.retrainDone, settings_ite]

@[simp] theorem Device.retrainAbandon_settings (d : Device) (l : Nat) :
    (Device.retrainAbandon d l).upd.settings = d.upd.settings := by
  simp [Device.retrainAbandon, settings_ite]

@[simp] theorem Device.scanBegin_settings (d : Device) :
    (Device.scanBegin d).upd.settings = d.upd.settings := by
  simp [Device.scanBegin]

@[simp] theorem Device.scanDone_settings (d : Device) (errors : Nat) :
    (Device.scanDone d errors).upd.settings = d.upd.settings := by
  unfold Device.scanDone
  split <;> simp [settings_ite]

@[simp] theorem Device.setChkValue_settings (d : Device) (c v : Nat) :
    (Device.setChkValue d c v).upd.settings = d.upd.settings := by
  simp [Device.setChkValue]

@[simp] theorem Device.chkFeed_settings (d : Device) (c : Nat) (l : List Byte) :
    (Device.chkFeed d c l).upd.settings = d.upd.settings := by
  simp [Device.chkFeed]

@[simp] theorem Device.chkFinish_settings (d : Device) (c : Nat) :
    (Device.chkFinish d c).upd.settings = d.upd.settings := by
  simp [Device.chkFinish, settings_ite]

@[simp] theorem Device.chkRangeEnd_settings (d : Device) (c result : Nat) :
    (Device.chkRangeEnd d c result).upd.settings = d.upd.settings := by
  simp [Device.chkRangeEnd, settings_ite]

@[simp] theorem Device.chkInit_settings (d : Device) (c : Nat) :
    (Device.chkInit d c).upd.settings = d.upd.settings := by
  simp [Device.chkInit, settings_ite]

@[simp] theorem Device.chkRange_settings (d : Device) (slot c : Nat) :
    (Device.chkRange d slot c).upd.settings = d.upd.settings := by
  unfold Device.chkRange
  dsimp only
  repeat' split
  all_goals simp

@[simp] theorem Device.perfSnap_settings (d : Device) :
    (Device.perfSnap d).upd.settings = d.upd.settings := by
  simp [Device.perfSnap]

@[simp] theorem Device.perfAct_settings (d : Device) (op : Nat) :
    (Device.perfAct d op).upd.settings = d.upd.settings := by
  unfold Device.perfAct
  split <;> simp

@[simp] theorem Device.perfCmd_settings (d : Device) (op : Nat) (edge : Bool) :
    (Device.perfCmd d op edge).upd.settings = d.upd.settings := by
  simp [Device.perfCmd, settings_ite]

@[simp] theorem Device.perfEdge_settings (d : Device) :
    (Device.perfEdge d).upd.settings = d.upd.settings := by
  simp [Device.perfEdge, settings_ite, settings_forL]

@[simp] theorem Device.perfBwWindow_settings (d : Device) :
    (Device.perfBwWindow d).upd.settings = d.upd.settings := by
  unfold Device.perfBwWindow
  split
  · rfl
  · next t _ =>
    obtain ⟨a, b, c, q, h⟩ := d.waitUntil_only (t + d.get F.PERF_BW_CFG_WINDOW_MS * 1000000)
    simp only [Device.raise_settings, Device.put_settings, h]
    exact settings_forN (fun p d => by simp) 28 _

@[simp] theorem Device.perfBwStart_settings (d : Device) :
    (Device.perfBwStart d).upd.settings = d.upd.settings := by
  simp [Device.perfBwStart]

@[simp] theorem Device.perfSample_settings (output row col unit : Nat) (d : Device) :
    (Device.perfSample output row col unit d).upd.settings = d.upd.settings := by
  unfold Device.perfSample
  split <;> simp [settings_ite]

@[simp] theorem Device.samplePop_settings (d : Device) :
    (Device.samplePop d).1.upd.settings = d.upd.settings := by
  unfold Device.samplePop
  split <;> simp

@[simp] theorem Device.spill_settings (d : Device) (e : BbEntry) :
    (Device.spill d e).upd.settings = d.upd.settings := by
  simp [Device.spill, settings_ite]

@[simp] theorem Device.freeze_settings (d : Device) :
    (Device.freeze d).upd.settings = d.upd.settings := by
  simp [Device.freeze]

@[simp] theorem Device.postStep_settings (d : Device) (trigger : Bool) :
    (Device.postStep d trigger).upd.settings = d.upd.settings := by
  cases trigger with
  | true => simp only [Device.postStep, settings_ite, Device.put_settings, Device.freeze_settings, ite_self, if_true]
  | false =>
    cases h : d.bb.post with
    | none => simp only [Device.postStep, h, Bool.false_eq_true, if_false]
    | some n => simp only [Device.postStep, h, settings_ite, Bool.false_eq_true, if_false, Device.freeze_settings, ite_self]

@[simp] theorem Device.bbWrite_settings (d : Device) :
    (Device.bbWrite d).upd.settings = d.upd.settings := by
  unfold Device.bbWrite
  split <;> simp

@[simp] theorem Device.bbArm_settings (d : Device) :
    (Device.bbArm d).upd.settings = d.upd.settings := by
  simp [Device.bbArm]

@[simp] theorem Device.enqueue_settings (d : Device) (c : Nat) (r : MemReq) :
    (Device.enqueue d c r).upd.settings = d.upd.settings := by
  simp [Device.enqueue]

@[simp] theorem Device.refill_settings (d : Device) (c : Nat) :
    (Device.refill d c).upd.settings = d.upd.settings := by
  unfold Device.refill
  split <;> simp [settings_ite]

@[simp] theorem Device.memRequest_settings (addr : Nat) (write : Bool) (off : Nat) (data : List Byte) (who : Requester) (use : MemUse) (d : Device) :
    (Device.memRequest addr write off data who use d).upd.settings = d.upd.settings := by
  unfold Device.memRequest
  dsimp only
  repeat' split
  all_goals simp

@[simp] theorem Device.issue_settings (d : Device) (c : Nat) (r : MemReq) :
    (Device.issue d c r).upd.settings = d.upd.settings := by
  simp [Device.issue, settings_ite]

@[simp] theorem Device.engineStop_settings (d : Device) (n : Nat) :
    (Device.engineStop d n).upd.settings = d.upd.settings := by
  simp [Device.engineStop]

@[simp] theorem Device.correctable_settings (d : Device) (c : Nat) :
    (Device.correctable d c).upd.settings = d.upd.settings := by
  simp [Device.correctable]

@[simp] theorem Device.poisonedEntry_settings (d : Device) (cache i : Nat) :
    (Device.poisonedEntry d cache i).upd.settings = d.upd.settings := by
  unfold Device.poisonedEntry
  repeat' split
  all_goals simp [settings_ite]

@[simp] theorem Device.poisonedRing_settings (d : Device) (n : Nat) :
    (Device.poisonedRing d n).upd.settings = d.upd.settings := by
  unfold Device.poisonedRing
  dsimp only
  repeat' split
  all_goals simp

@[simp] theorem Device.poisonedUse_settings (d : Device) (who : Requester) (use : MemUse) :
    (Device.poisonedUse d who use).upd.settings = d.upd.settings := by
  unfold Device.poisonedUse
  repeat' split
  all_goals simp

@[simp] theorem Device.uncorrectable_settings (d : Device) (r : MemReq) :
    (Device.uncorrectable d r).upd.settings = d.upd.settings := by
  unfold Device.uncorrectable
  dsimp only
  repeat' split
  all_goals simp

@[simp] theorem Device.ackBerth_settings (d : Device) (use : MemUse) :
    (Device.ackBerth d use).upd.settings = d.upd.settings := by
  unfold Device.ackBerth
  split <;> simp [settings_ite]

@[simp] theorem Device.portErrs_settings (d : Device) (slot : Nat) (bad : List Nat) (write : Bool) :
    (Device.portErrs d slot bad write).upd.settings = d.upd.settings := by
  simp [Device.portErrs, settings_forL]

@[simp] theorem Device.chkRangeComplete_settings (m : Memory) (d : Device) :
    (Device.chkRangeComplete m d).upd.settings = d.upd.settings := by
  unfold Device.chkRangeComplete
  split <;> simp [settings_ite]

@[simp] theorem Device.refreshDue_settings (channel bank : Nat) (d : Device) :
    (Device.refreshDue channel bank d).upd.settings = d.upd.settings := by
  simp [Device.refreshDue, settings_ite]

@[simp] theorem Device.stackTemp_settings (stack temp : Nat) (d : Device) :
    (Device.stackTemp stack temp d).upd.settings = d.upd.settings := by
  simp [Device.stackTemp, settings_ite]

@[simp] theorem Device.scrubEnd_settings (d : Device) :
    (Device.scrubEnd d).upd.settings = d.upd.settings := by
  simp [Device.scrubEnd, settings_ite]

@[simp] theorem Device.scrubPause_settings (d : Device) :
    (Device.scrubPause d).upd.settings = d.upd.settings := by
  simp [Device.scrubPause]

@[simp] theorem Device.releaseHeld_settings (d : Device) (ch : Nat) :
    (Device.releaseHeld d ch).upd.settings = d.upd.settings := by
  simp [Device.releaseHeld, settings_forN]

@[simp] theorem Device.setTouchKey_settings (d : Device) (k : Nat) (v : TouchKey) :
    (Device.setTouchKey d k v).upd.settings = d.upd.settings := by
  simp [Device.setTouchKey]

@[simp] theorem Device.learn_settings (d : Device) (k : Nat) (check : Bool) :
    (Device.learn d k check).upd.settings = d.upd.settings := by
  simp [Device.learn, settings_ite]

@[simp] theorem Device.keyOff_settings (d : Device) (k : Nat) :
    (Device.keyOff d k).upd.settings = d.upd.settings := by
  simp [Device.keyOff, settings_ite]

@[simp] theorem Device.rebase_settings (d : Device) (k : Nat) :
    (Device.rebase d k).upd.settings = d.upd.settings := by
  simp [Device.rebase, settings_ite]

@[simp] theorem Device.rebaseAll_settings (d : Device) :
    (Device.rebaseAll d).upd.settings = d.upd.settings := by
  simp [Device.rebaseAll, settings_forN]

@[simp] theorem Device.touchFresh_settings (d old : Device) :
    (Device.touchFresh d old).upd.settings = d.upd.settings := by
  simp [Device.touchFresh]

@[simp] theorem Device.touchRefresh_settings (d : Device) :
    (Device.touchRefresh d).upd.settings = d.upd.settings := by
  simp [Device.touchRefresh, settings_ite, settings_forN]

@[simp] theorem Device.touchAction_settings (m : Memory) (d : Device) (k : Nat) :
    (Device.touchAction m d k).upd.settings = d.upd.settings := by
  unfold Device.touchAction
  split <;> simp [settings_ite]

@[simp] theorem Device.press_settings (m : Memory) (d : Device) (k : Nat) :
    (Device.press m d k).upd.settings = d.upd.settings := by
  simp [Device.press, settings_ite]

@[simp] theorem Device.scanLearning_settings (d : Device) (k x : Nat) :
    (Device.scanLearning d k x).upd.settings = d.upd.settings := by
  simp [Device.scanLearning, settings_ite]

@[simp] theorem Device.scanSuspect_settings (d : Device) (k x : Nat) :
    (Device.scanSuspect d k x).upd.settings = d.upd.settings := by
  simp [Device.scanSuspect, settings_ite]

@[simp] theorem Device.scanIdle_settings (m : Memory) (d : Device) (k x : Nat) :
    (Device.scanIdle m d k x).upd.settings = d.upd.settings := by
  simp [Device.scanIdle, settings_ite]

@[simp] theorem Device.scanPressed_settings (d : Device) (k x : Nat) :
    (Device.scanPressed d k x).upd.settings = d.upd.settings := by
  simp [Device.scanPressed, settings_ite]

@[simp] theorem Device.scanExpired_settings (d : Device) (k x : Nat) :
    (Device.scanExpired d k x).upd.settings = d.upd.settings := by
  simp [Device.scanExpired, settings_ite]

@[simp] theorem Device.touchScan_settings (key reading : Nat) (m : Memory) (d : Device) :
    (Device.touchScan key reading m d).upd.settings = d.upd.settings := by
  unfold Device.touchScan
  dsimp only
  repeat' split
  all_goals simp

@[simp] theorem Device.touchEdge_settings (m : Memory) (d : Device) :
    (Device.touchEdge m d).upd.settings = d.upd.settings := by
  simp [Device.touchEdge, settings_ite, settings_forL]

@[simp] theorem Device.touchTake_settings (d : Device) :
    (Device.touchTake d).upd.settings = d.upd.settings := by
  simp [Device.touchTake, settings_ite, settings_forL]

@[simp] theorem Device.gpioEdge_settings (pin : Nat) (level : Bool) (d : Device) :
    (Device.gpioEdge pin level d).upd.settings = d.upd.settings := by
  simp [Device.gpioEdge, settings_ite]

@[simp] theorem Device.setRein_settings (d : Device) (f : Rein → Rein) :
    (Device.setRein d f).upd.settings = d.upd.settings := by
  simp [Device.setRein]

@[simp] theorem Device.setCmp_settings (d : Device) (f : Compare → Compare) :
    (Device.setCmp d f).upd.settings = d.upd.settings := by
  simp [Device.setCmp]

@[simp] theorem Device.setRole_settings (d : Device) (r : Nat) :
    (Device.setRole d r).upd.settings = d.upd.settings := by
  simp [Device.setRole, settings_ite]

@[simp] theorem Device.setSync_settings (d : Device) (s : Nat) :
    (Device.setSync d s).upd.settings = d.upd.settings := by
  simp [Device.setSync, settings_ite]

@[simp] theorem Device.seeEpoch_settings (d : Device) (e : Nat) :
    (Device.seeEpoch d e).upd.settings = d.upd.settings := by
  simp [Device.seeEpoch]

@[simp] theorem Device.renew_settings (d : Device) (t : Nat) :
    (Device.renew d t).upd.settings = d.upd.settings := by
  simp [Device.renew]

@[simp] theorem Device.reinEdge_settings (d : Device) (t u : Nat) :
    (Device.reinEdge d t u).upd.settings = d.upd.settings := by
  simp [Device.reinEdge, settings_ite]

@[simp] theorem Device.reinStop_settings (d : Device) :
    (Device.reinStop d).upd.settings = d.upd.settings := by
  simp [Device.reinStop, settings_ite]

@[simp] theorem Device.reinRelease_settings (d : Device) :
    (Device.reinRelease d).upd.settings = d.upd.settings := by
  unfold Device.reinRelease
  split <;> simp

@[simp] theorem Device.reinPattern_settings (d : Device) :
    (Device.reinPattern d).upd.settings = d.upd.settings := by
  simp [Device.reinPattern, settings_ite]

@[simp] theorem Device.dualSeen_settings (d : Device) :
    (Device.dualSeen d).upd.settings = d.upd.settings := by
  simp [Device.dualSeen, settings_ite]

@[simp] theorem Device.reinPulse_settings (us w : Nat) (d : Device) :
    (Device.reinPulse us w d).upd.settings = d.upd.settings := by
  unfold Device.reinPulse
  dsimp only
  repeat' split
  all_goals simp

@[simp] theorem Device.reinStuck_settings (d : Device) :
    (Device.reinStuck d).upd.settings = d.upd.settings := by
  simp [Device.reinStuck, settings_ite]

@[simp] theorem Device.witDual_settings (d : Device) :
    (Device.witDual d).upd.settings = d.upd.settings := by
  simp [Device.witDual, settings_ite]

@[simp] theorem Device.evqTake_settings (d : Device) :
    (Device.evqTake d).upd.settings = d.upd.settings := by
  simp [Device.evqTake, settings_ite, settings_forL]

@[simp] theorem Device.sessTake_settings (d : Device) :
    (Device.sessTake d).upd.settings = d.upd.settings := by
  exact settings_forL (f := fun (p : Nat × FuhelSess) (d : Device) =>
    ({ d with host := { d.host with sess := Tab.set d.host.sess p.1 { p.2 with lastNs := d.now } } } : Device).putS
      F.HOST_SLOT_STATUS_SESSION p.1 0 1) (fun p d => by simp) _ _

@[simp] theorem Device.encTake_settings (d : Device) :
    (Device.encTake d).upd.settings = d.upd.settings := by
  simp [Device.encTake, settings_ite, settings_forN]

@[simp] theorem Device.updTake_settings (d : Device) :
    (Device.updTake d).upd.settings = d.upd.settings := by
  simp [Device.updTake, settings_ite]

@[simp] theorem Device.take_settings (d : Device) :
    (Device.take d).upd.settings = d.upd.settings := by
  simp [Device.take, settings_ite, settings_forN]

@[simp] theorem Device.sendFrame_settings (d : Device) (lane index : Nat) (b : TetherBody) :
    (Device.sendFrame d lane index b).upd.settings = d.upd.settings := by
  simp [Device.sendFrame, settings_ite]

@[simp] theorem Device.sendBoth_settings (d : Device) (index : Nat) (b : TetherBody) :
    (Device.sendBoth d index b).upd.settings = d.upd.settings := by
  simp [Device.sendBoth]

@[simp] theorem Device.frameErr_settings (d : Device) (n : Nat) :
    (Device.frameErr d n).upd.settings = d.upd.settings := by
  simp [Device.frameErr]

@[simp] theorem Device.frameIn_settings (d : Device) (ty : Nat) (h : TetherHdr) :
    (Device.frameIn d ty h).1.upd.settings = d.upd.settings := by
  unfold Device.frameIn
  simp [apply_ite Prod.fst, settings_ite]

@[simp] theorem Device.aliveAfresh_settings (d : Device) (lanes : List Nat) :
    (Device.aliveAfresh d lanes).upd.settings = d.upd.settings := by
  simp [Device.aliveAfresh]

@[simp] theorem Device.refuseWrite_settings (d : Device) :
    (Device.refuseWrite d).upd.settings = d.upd.settings := by
  simp [Device.refuseWrite]

@[simp] theorem Device.pageNote_settings (d : Device) (target a n : Nat) :
    (Device.pageNote d target a n).upd.settings = d.upd.settings := by
  simp [Device.pageNote, settings_ite]

@[simp] theorem Device.mirrorWrite_settings (d : Device) (target a : Nat) (l : List Byte) :
    (Device.mirrorWrite d target a l).upd.settings = d.upd.settings := by
  simp [Device.mirrorWrite, settings_ite]

@[simp] theorem Device.logWrite_settings (d : Device) (slot addr value : Nat) :
    (Device.logWrite d slot addr value).upd.settings = d.upd.settings := by
  simp [Device.logWrite, settings_ite]

@[simp] theorem Device.pairCmd_settings (slot op : Nat) (d : Device) :
    (Device.pairCmd slot op d).upd.settings = d.upd.settings := by
  simp [Device.pairCmd, settings_ite]

@[simp] theorem Device.island_settings (d : Device) : d.island.upd.settings = [] := rfl

@[simp] theorem Device.released_settings (boot clkmode : Nat) (d : Device) :
    (Device.released boot clkmode d).upd.settings = d.upd.settings := by
  simp [Device.released]

@[simp] theorem Device.porRelease_settings (resetLow : Bool) (boot clkmode : Nat) (d : Device) :
    (Device.porRelease resetLow boot clkmode d).upd.settings = d.upd.settings := by
  simp [Device.porRelease, settings_ite]

theorem Device.filtered_settings (d : Device) (heldNs : Nat) (f : Device → Device) (h : ∀ d, (f d).upd.settings = d.upd.settings) :
    (d.filtered heldNs f).upd.settings = d.upd.settings := by simp [Device.filtered, settings_ite, h]

@[simp] theorem Device.pinReset_settings (d : Device) : d.pinReset.upd.settings = d.upd.settings ∨ d.pinReset.upd.settings = [] := by
  unfold Device.pinReset
  split
  · exact .inl rfl
  · right
    simp [settings_ite]

@[simp] theorem Device.pinRelease_settings (heldNs boot clkmode : Nat) (d : Device) :
    (Device.pinRelease heldNs boot clkmode d).upd.settings = d.upd.settings := by
  refine d.filtered_settings _ _ (fun d => ?_)
  simp [settings_ite]

@[simp] theorem Device.bootHalt_settings (d : Device) :
    (Device.bootHalt d).upd.settings = d.upd.settings := by
  simp [Device.bootHalt]

@[simp] theorem Device.bootFail_settings (d : Device) (k e : Nat) :
    (Device.bootFail d k e).upd.settings = d.upd.settings := by
  simp [Device.bootFail]

@[simp] theorem Device.setMap_settings (d : Device) (w : Nat) :
    (Device.setMap d w).upd.settings = d.upd.settings := by
  exact settings_forL (fun f d => by simp) _ d

@[simp] theorem Device.pokeAll_settings (d : Device) (prot : Bool) (l : List (Nat × Nat)) :
    (Device.pokeAll d prot l).upd.settings = d.upd.settings := by
  refine settings_forL (fun e d => ?_) l d
  split
  · rfl
  · split
    · rfl
    · split
      · exact settings_forL (fun f d => by simp) _ d
      · split
        · exact settings_forN (fun h d => by simp) 8 d
        · simp

@[simp] theorem Device.coreUp_settings (d : Device) :
    (Device.coreUp d).upd.settings = d.upd.settings := by
  simp [Device.coreUp, settings_ite, settings_forN]

@[simp] theorem Device.pwrEnd_settings (d : Device) (r : Nat) :
    (Device.pwrEnd d r).upd.settings = d.upd.settings := by
  simp [Device.pwrEnd]

@[simp] theorem Device.pwrRefuse_settings (d : Device) (r : Nat) :
    (Device.pwrRefuse d r).upd.settings = d.upd.settings := by
  simp [Device.pwrRefuse]

@[simp] theorem Device.enter_settings (d : Device) (p : Pwr) :
    (Device.enter d p).upd.settings = d.upd.settings := by
  simp [Device.enter]

@[simp] theorem Device.enterRun_settings (d : Device) :
    (Device.enterRun d).upd.settings = d.upd.settings := by
  simp [Device.enterRun]

@[simp] theorem Device.leaveRun_settings (d : Device) :
    (Device.leaveRun d).upd.settings = d.upd.settings := by
  simp [Device.leaveRun, settings_ite, settings_forN]

@[simp] theorem Device.dropWork_settings (d : Device) :
    (Device.dropWork d).upd.settings = d.upd.settings := by
  unfold Device.dropWork
  dsimp only
  repeat' split
  all_goals simp [settings_ite, settings_forN]

@[simp] theorem Device.pwrProgress_settings (d : Device) :
    (Device.pwrProgress d).upd.settings = d.upd.settings := by
  unfold Device.pwrProgress
  split <;> simp [settings_ite]

@[simp] theorem Device.fchgLock_settings (d : Device) :
    (Device.fchgLock d).upd.settings = d.upd.settings := by
  have release (e : Device) : (forN 32 (fun ch (d : Device) => d.releaseHeld ch) e).upd.settings = e.upd.settings :=
    settings_forN (fun ch d => d.releaseHeld_settings ch) 32 e
  cases h : d.fchg with
  | none => simp only [Device.fchgLock, h]
  | some k =>
    simp only [Device.fchgLock, h, settings_ite, Device.pwrProgress_settings, Device.raise_settings, Device.put_settings,
      release, ite_self]

@[simp] theorem Device.fchgTimeout_settings (d : Device) :
    (Device.fchgTimeout d).upd.settings = d.upd.settings := by
  simp [Device.fchgTimeout, settings_ite]

@[simp] theorem Device.setUpd_settings (d : Device) (f : UpdX → UpdX) : (d.setUpd f).upd.settings = (f d.upd).settings := rfl

@[simp] theorem Device.updEnd_settings (d : Device) (r : Nat) :
    (Device.updEnd d r).upd.settings = d.upd.settings := by
  simp [Device.updEnd]

@[simp] theorem Device.updPend_settings (d : Device) :
    (Device.updPend d).upd.settings = d.upd.settings := by
  simp [Device.updPend]

@[simp] theorem Device.updLocked_settings (d : Device) :
    (Device.updLocked d).upd.settings = d.upd.settings := by
  simp [Device.updLocked]

@[simp] theorem Device.unlock_settings (d : Device) (lost : Bool) :
    (Device.unlock d lost).upd.settings = d.upd.settings := by
  simp [Device.unlock, settings_ite]

@[simp] theorem Device.setWrite_settings (d : Device) (off : Nat) (l : List Byte) :
    (d.setWrite off l).upd.settings = Flash.writeList d.upd.settings off l := by simp [Device.setWrite]

@[simp] theorem Device.swapImage_settings (d : Device) :
    (Device.swapImage d).upd.settings = d.upd.settings := by
  simp [Device.swapImage]

@[simp] theorem Device.swapAbandon_settings (d : Device) :
    (Device.swapAbandon d).upd.settings = d.upd.settings := by
  unfold Device.swapAbandon
  split <;> simp [settings_ite]

@[simp] theorem Device.updAct_settings (d : Device) (op : Nat) :
    (Device.updAct d op).upd.settings = d.upd.settings := by
  unfold Device.updAct
  split <;> simp [settings_ite]

@[simp] theorem Device.updCmd_settings (slot op unit : Nat) (d : Device) :
    (Device.updCmd slot op unit d).upd.settings = d.upd.settings := by
  simp [Device.updCmd, settings_ite]

@[simp] theorem Device.updTimeoutNow_settings (d : Device) :
    (Device.updTimeoutNow d).upd.settings = d.upd.settings := by
  simp [Device.updTimeoutNow, settings_ite]

@[simp] theorem Device.latchWord_settings (d : Device) (r : RegRow) (slot i w : Nat) :
    (Device.latchWord d r slot i w).upd.settings = d.upd.settings := by
  simp [Device.latchWord]

@[simp] theorem Device.evqPop_settings (d : Device) (slot : Nat) :
    (Device.evqPop d slot).1.upd.settings = d.upd.settings := by
  unfold Device.evqPop
  split <;> simp

@[simp] theorem Device.nowRead_settings (d : Device) (slot : Nat) :
    (Device.nowRead d slot).1.upd.settings = d.upd.settings := by
  simp [Device.nowRead]

@[simp] theorem Device.capPop_settings (d : Device) (slot k : Nat) :
    (Device.capPop d slot k).1.upd.settings = d.upd.settings := by
  unfold Device.capPop
  split <;> simp

@[simp] theorem Device.regRead_settings (d : Device) (r : RegRow) (slot i inc : Nat) :
    (Device.regRead d r slot i inc).1.upd.settings = d.upd.settings := by
  unfold Device.regRead
  repeat' split
  all_goals simp

@[simp] theorem Device.tickWrite_settings (r : RegRow) (w : Nat) (d : Device) :
    (Device.tickWrite r w d).upd.settings = d.upd.settings := by
  simp [Device.tickWrite, settings_ite, settings_forN]

@[simp] theorem Device.encWrite_settings (slot : Nat) (r : RegRow) (i w : Nat) (d : Device) :
    (Device.encWrite slot r i w d).upd.settings = d.upd.settings := by
  simp [Device.encWrite, settings_ite]

@[simp] theorem Device.frsWrite_settings (r : RegRow) (w : Nat) (d : Device) :
    (Device.frsWrite r w d).upd.settings = d.upd.settings := by
  simp [Device.frsWrite, settings_ite]

@[simp] theorem Device.pixWrite_settings (slot : Nat) (r : RegRow) (w : Nat) (d : Device) :
    (Device.pixWrite slot r w d).upd.settings = d.upd.settings := by
  simp [Device.pixWrite, settings_ite]

@[simp] theorem Device.netWrite_settings (r : RegRow) (i : Nat) (d old : Device) :
    (Device.netWrite r i d old).upd.settings = d.upd.settings := by
  simp [Device.netWrite, settings_ite]

@[simp] theorem Device.laneWrite_settings (r : RegRow) (w : Nat) (d old : Device) :
    (Device.laneWrite r w d old).upd.settings = d.upd.settings := by
  simp [Device.laneWrite, settings_ite]

@[simp] theorem Device.timeWrite_settings (r : RegRow) (i w : Nat) (d old : Device) :
    (Device.timeWrite r i w d old).upd.settings = d.upd.settings := by
  simp [Device.timeWrite, settings_ite]

@[simp] theorem Device.pairWrite_settings (slot : Nat) (r : RegRow) (w : Nat) (d old : Device) :
    (Device.pairWrite slot r w d old).upd.settings = d.upd.settings := by
  simp [Device.pairWrite, settings_ite]

@[simp] theorem Device.chkWrite_settings (slot : Nat) (r : RegRow) (i w : Nat) (d : Device) :
    (Device.chkWrite slot r i w d).upd.settings = d.upd.settings := by
  unfold Device.chkWrite
  repeat' split
  all_goals simp

@[simp] theorem Device.perfWrite_settings (r : RegRow) (w : Nat) (d old : Device) :
    (Device.perfWrite r w d old).upd.settings = d.upd.settings := by
  simp [Device.perfWrite, settings_ite]

@[simp] theorem Device.bboxWrite_settings (slot : Nat) (r : RegRow) (w : Nat) (d : Device) :
    (Device.bboxWrite slot r w d).upd.settings = d.upd.settings := by
  simp [Device.bboxWrite, settings_ite]

@[simp] theorem Device.touchWrite_settings (r : RegRow) (i w : Nat) (d old : Device) :
    (Device.touchWrite r i w d old).upd.settings = d.upd.settings := by
  simp [Device.touchWrite, settings_ite]

@[simp] theorem Device.unhold_settings (d : Device) (r : RegRow) (slot i : Nat) :
    (Device.unhold d r slot i).upd.settings = d.upd.settings := by
  unfold Device.unhold
  split <;> simp

@[simp] theorem Device.setAgain_settings (d : Device) (r : RegRow) (slot i hwSet : Nat) :
    (Device.setAgain d r slot i hwSet).upd.settings = d.upd.settings := by
  simp [Device.setAgain, settings_ite, settings_forL]

@[simp] theorem Device.storeWords_settings (d : Device) (words : List (RegRow × Nat)) (r : RegRow) (slot i : Nat) :
    (Device.storeWords d words r slot i).upd.settings = d.upd.settings := by
  simp [Device.storeWords, settings_ite, settings_foldl]

@[simp] theorem Device.setPtr_settings (d : Device) (slot a : Nat) :
    (Device.setPtr d slot a).upd.settings = d.upd.settings := by
  simp [Device.setPtr]

@[simp] theorem Device.setSpi_settings (d : Device) (f : SpiX → SpiX) :
    (Device.setSpi d f).upd.settings = d.upd.settings := by
  simp [Device.setSpi]

@[simp] theorem Device.spiEnd_settings (d : Device) (r : Nat) :
    (Device.spiEnd d r).upd.settings = d.upd.settings := by
  simp [Device.spiEnd]

@[simp] theorem Device.spiFetched_settings (d : Device) :
    (Device.spiFetched d).upd.settings = d.upd.settings := by
  simp [Device.spiFetched]

@[simp] theorem Device.setSess_settings (d : Device) (h : Nat) (x : FuhelSess) :
    (Device.setSess d h x).upd.settings = d.upd.settings := by
  simp [Device.setSess]

@[simp] theorem Device.fuhelSend_settings (d : Device) (port ip udp op session seq slot status : Nat) (body : List Byte) :
    (Device.fuhelSend d port ip udp op session seq slot status body).upd.settings = d.upd.settings := by
  simp [Device.fuhelSend, settings_ite]

@[simp] theorem Device.reply_settings (d : Device) (q : FuhelHdr) (op session status : Nat) (body : List Byte) :
    (Device.reply d q op session status body).upd.settings = d.upd.settings := by
  simp [Device.reply]

@[simp] theorem Device.sessClose_settings (d : Device) (h : Nat) :
    (Device.sessClose d h).upd.settings = d.upd.settings := by
  simp [Device.sessClose]

@[simp] theorem Device.fuhelOpen_settings (q : FuhelHdr) (d : Device) :
    (Device.fuhelOpen q d).upd.settings = d.upd.settings := by
  simp [Device.fuhelOpen, settings_ite]

@[simp] theorem Device.evqAck_settings (d : Device) (h n : Nat) :
    (Device.evqAck d h n).upd.settings = d.upd.settings := by
  unfold Device.evqAck
  dsimp only
  repeat' split
  all_goals simp

@[simp] theorem Device.eventOut_settings (d : Device) (h : Nat) (x : FuhelSess) :
    (Device.eventOut d h x).upd.settings = d.upd.settings := by
  simp [Device.eventOut]

@[simp] theorem Device.eventSend_settings (slot : Nat) (d : Device) :
    (Device.eventSend slot d).upd.settings = d.upd.settings := by
  unfold Device.eventSend
  split <;> simp [settings_ite]

@[simp] theorem Device.eventRepeat_settings (slot : Nat) (d : Device) :
    (Device.eventRepeat slot d).upd.settings = d.upd.settings := by
  unfold Device.eventRepeat
  repeat' split
  all_goals simp

@[simp] theorem Device.sessTimeout_settings (slot : Nat) (d : Device) :
    (Device.sessTimeout slot d).upd.settings = d.upd.settings := by
  unfold Device.sessTimeout
  split <;> simp

@[simp] theorem Device.sendBurst_settings (d : Device) (i : Nat) (l : List TetherBody) :
    (Device.sendBurst d i l).upd.settings = d.upd.settings := by
  exact settings_foldl_fst (f := fun (a : Device × Nat) b => (a.1.sendFrame (a.2 % 2) a.2 b, a.2 + 1))
    (fun b a => a.1.sendFrame_settings ..) l (d, i)

@[simp] theorem Device.syncFrames_settings (d : Device) (m : Memory) (room : Nat) :
    (d.syncFrames m room).2.upd.settings = d.upd.settings := by
  unfold Device.syncFrames
  split <;> rfl

@[simp] theorem Device.stateBurst_settings (m : Memory) (d : Device) :
    (Device.stateBurst m d).upd.settings = d.upd.settings := by
  obtain ⟨a, b, c, q, h⟩ := d.waitPoint_only 88
  unfold Device.stateBurst
  rw [h]
  split
  · rfl
  · extract_lets e secs e1 e2 e3 i mir e4 e5 q
    split
    · rfl
    · simp [q, e5, e4, e3, e2, e1, e]

theorem Device.frameThen_settings (d : Device) (ty : Nat) (h : TetherHdr) (f : Device → Device)
    (hf : ∀ d, (f d).upd.settings = d.upd.settings) : (d.frameThen ty h f).upd.settings = d.upd.settings := by
  simp [Device.frameThen, settings_ite, hf]

@[simp] theorem Device.stateIn_settings (hdr : TetherHdr) (items : List CtlItem) (d : Device) :
    (Device.stateIn hdr items d).upd.settings = d.upd.settings := by
  refine d.frameThen_settings _ hdr _ (fun d => ?_)
  simp [settings_ite]

@[simp] theorem Device.stateEndIn_settings (hdr : TetherHdr) (frames : Nat) (burstOk : Bool) (d : Device) :
    (Device.stateEndIn hdr frames burstOk d).upd.settings = d.upd.settings := by
  refine d.frameThen_settings _ hdr _ (fun d => ?_)
  simp [settings_ite]

@[simp] theorem Device.mirrorReached_settings (d : Device) :
    (Device.mirrorReached d).upd.settings = d.upd.settings := by
  unfold Device.mirrorReached
  split <;> simp [settings_ite]

@[simp] theorem Device.beginSync_settings (d : Device) :
    (Device.beginSync d).upd.settings = d.upd.settings := by
  simp [Device.beginSync]

@[simp] theorem Device.startResync_settings (d : Device) :
    (Device.startResync d).upd.settings = d.upd.settings := by
  simp [Device.startResync]

@[simp] theorem Device.ownerShadow_settings (d : Device) :
    (Device.ownerShadow d).upd.settings = d.upd.settings := by
  simp [Device.ownerShadow, settings_ite]

@[simp] theorem Device.resyncDone_settings (d : Device) :
    (Device.resyncDone d).upd.settings = d.upd.settings := by
  simp [Device.resyncDone, settings_ite]

@[simp] theorem Device.pinCopied_settings (d : Device) (h : Nat) (pinned : Bool) (n : Nat) :
    (Device.pinCopied d h pinned n).upd.settings = d.upd.settings := by
  simp [Device.pinCopied, settings_ite]

@[simp] theorem Device.timeCopied_settings (d : Device) (v : Nat) (relock : Option Nat) (due : Option (Nat × Nat)) :
    (Device.timeCopied d v relock due).upd.settings = d.upd.settings := by
  simp [Device.timeCopied, settings_ite]

@[simp] theorem Device.healthForm_settings (d : Device) :
    (Device.healthForm d).upd.settings = d.upd.settings := by
  simp [Device.healthForm, settings_ite]

@[simp] theorem Device.katDone_settings (ok : Bool) (d : Device) :
    (Device.katDone ok d).upd.settings = d.upd.settings := by
  simp [Device.katDone, settings_ite]

@[simp] theorem Device.bistDone_settings (ok : Bool) (d : Device) :
    (Device.bistDone ok d).upd.settings = d.upd.settings := by
  simp [Device.bistDone, settings_ite]

@[simp] theorem Device.partnerWord_settings (d : Device) (w : Nat) :
    (Device.partnerWord d w).upd.settings = d.upd.settings := by
  simp [Device.partnerWord]

@[simp] theorem Device.copyOver_settings (d : Device) (h : HealthMsg) :
    (Device.copyOver d h).upd.settings = d.upd.settings := by
  unfold Device.copyOver
  split <;> simp [settings_ite]

@[simp] theorem Device.holderHealth_settings (d : Device) (h : HealthMsg) :
    (Device.holderHealth d h).upd.settings = d.upd.settings := by
  unfold Device.holderHealth
  split <;> simp [settings_ite]

@[simp] theorem Device.healthIn_settings (hdr : TetherHdr) (h : HealthMsg) (d : Device) :
    (Device.healthIn hdr h d).upd.settings = d.upd.settings := by
  refine d.frameThen_settings _ hdr _ (fun d => ?_)
  simp [settings_ite]

@[simp] theorem Device.pairEnd_settings (d : Device) (r : Nat) :
    (Device.pairEnd d r).upd.settings = d.upd.settings := by
  simp [Device.pairEnd]

@[simp] theorem Device.handoverStep_settings (d : Device) :
    (Device.handoverStep d).1.upd.settings = d.upd.settings := by
  unfold Device.handoverStep
  dsimp only
  repeat' split
  all_goals simp

@[simp] theorem Device.sendHealth_settings (d : Device) :
    (Device.sendHealth d).upd.settings = d.upd.settings := by
  have ask (l : List Nat) (a : Device × Nat) : (l.foldl (fun (a : Device × Nat) l =>
      ((a.1.sendBoth a.2 (.retrain l)).retrainAgreed l, a.2 + 1)) a).1.upd.settings = a.1.upd.settings :=
    settings_foldl_fst (fun l a => by simp) l a
  simp [Device.sendHealth, ask, settings_ite]

@[simp] theorem Device.commitIn_settings (hdr : TetherHdr) (edge : Nat) (d : Device) :
    (Device.commitIn hdr edge d).upd.settings = d.upd.settings := by
  refine d.frameThen_settings _ hdr _ (fun d => ?_)
  simp [settings_ite]

@[simp] theorem Device.revertIn_settings (hdr : TetherHdr) (d : Device) :
    (Device.revertIn hdr d).upd.settings = d.upd.settings := by
  refine d.frameThen_settings _ hdr _ (fun d => ?_)
  simp [settings_ite]

@[simp] theorem Device.retrainIn_settings (hdr : TetherHdr) (lane : Nat) (d : Device) :
    (Device.retrainIn hdr lane d).upd.settings = d.upd.settings := by
  refine d.frameThen_settings _ hdr _ (fun d => ?_)
  simp

@[simp] theorem Device.digestSend_settings (d : Device) :
    (Device.digestSend d).upd.settings = d.upd.settings := by
  obtain ⟨a, b, c, q, h⟩ := d.waitPoint_only 95
  unfold Device.digestSend
  rw [h]
  split
  · rfl
  · exact settings_foldl_fst (fun g a => a.1.sendBoth_settings ..) _ (_, 0)

@[simp] theorem Device.compareOne_settings (d : Device) (a b : Digest) :
    (Device.compareOne d a b).upd.settings = d.upd.settings := by
  simp [Device.compareOne, settings_ite]

@[simp] theorem Device.digestIn_settings (hdr : TetherHdr) (g : Digest) (d : Device) :
    (Device.digestIn hdr g d).upd.settings = d.upd.settings := by
  refine d.frameThen_settings _ hdr _ (fun d => ?_)
  dsimp only
  split
  · simp
  · split <;> simp

@[simp] theorem Device.judgeTick_settings (d : Device) :
    (Device.judgeTick d).upd.settings = d.upd.settings := by
  unfold Device.judgeTick
  dsimp only
  repeat' split
  all_goals simp

@[simp] theorem Device.decideAs_settings (d : Device) (k : Nat) :
    (Device.decideAs d k).upd.settings = d.upd.settings := by
  unfold Device.decideAs
  split <;> simp [settings_ite]

@[simp] theorem Device.pairDecision_settings (d : Device) :
    (Device.pairDecision d).upd.settings = d.upd.settings := by
  simp [Device.pairDecision, settings_ite]

@[simp] theorem Device.decisionIn_settings (hdr : TetherHdr) (gives : Bool) (d : Device) :
    (Device.decisionIn hdr gives d).upd.settings = d.upd.settings := by
  refine d.frameThen_settings _ hdr _ (fun d => ?_)
  simp [settings_ite]

@[simp] theorem Device.resyncEdge_settings (d : Device) :
    (Device.resyncEdge d).upd.settings = d.upd.settings := by
  simp [Device.resyncEdge, settings_ite]

@[simp] theorem Device.activeEdge_settings (d : Device) (t u : Nat) :
    (Device.activeEdge d t u).upd.settings = d.upd.settings := by
  simp [Device.activeEdge, settings_ite]

@[simp] theorem Device.standbyEdge_settings (d : Device) (t u : Nat) :
    (Device.standbyEdge d t u).upd.settings = d.upd.settings := by
  simp [Device.standbyEdge, settings_ite]

@[simp] theorem Device.roleEdge_settings (d : Device) (t u : Nat) :
    (Device.roleEdge d t u).upd.settings = d.upd.settings := by
  unfold Device.roleEdge
  dsimp only
  repeat' split
  all_goals simp

@[simp] theorem Device.pairEdge_settings (d : Device) (t u : Nat) :
    (Device.pairEdge d t u).upd.settings = d.upd.settings := by
  simp [Device.pairEdge, settings_ite]

@[simp] theorem Device.takeNow_settings (d : Device) :
    (Device.takeNow d).upd.settings = d.upd.settings := by
  simp [Device.takeNow]

@[simp] theorem Device.joinTimeout_settings (d : Device) :
    (Device.joinTimeout d).upd.settings = d.upd.settings := by
  simp [Device.joinTimeout, settings_ite]

@[simp] theorem Device.takeback_settings (d : Device) :
    (Device.takeback d).upd.settings = d.upd.settings := by
  unfold Device.takeback
  split <;> simp [settings_ite]

@[simp] theorem Device.heartbeats_settings (d : Device) (t : Nat) :
    (Device.heartbeats d t).upd.settings = d.upd.settings := by
  simp [Device.heartbeats]

@[simp] theorem Device.reportJump_settings (d : Device) (delta : Option Int) :
    (Device.reportJump d delta).upd.settings = d.upd.settings := by
  unfold Device.reportJump
  split <;> simp

@[simp] theorem Device.edgeStart_settings (d : Device) (t err : Nat) :
    (Device.edgeStart d t err).upd.settings = d.upd.settings := by
  simp [Device.edgeStart]

@[simp] theorem Device.rwtEdge_settings (d : Device) :
    (Device.rwtEdge d).upd.settings = d.upd.settings := by
  simp [Device.rwtEdge, settings_forL, Device.withIgmp_settings]

@[simp] theorem Device.livePins_settings (d : Device) (first : Bool) :
    (Device.livePins d first).upd.settings = d.upd.settings := by
  simp [Device.livePins, settings_ite]

@[simp] theorem Device.clearOuts_settings (d : Device) :
    (Device.clearOuts d).upd.settings = d.upd.settings := by
  unfold Device.clearOuts
  extract_lets d1
  rw [← d.releaseAll_settings]
  refine settings_forN (fun o d => ?_) 32 d1
  extract_lets x d'
  have h : d'.upd.settings = d.upd.settings := by
    unfold d'
    split <;> simp
  rw [← h]
  split <;> rfl

@[simp] theorem Device.markDiscont_settings (d : Device) :
    (Device.markDiscont d).upd.settings = d.upd.settings := by
  simp [Device.markDiscont, settings_ite, settings_forN]

@[simp] theorem Device.composeEdge_settings (d : Device) :
    (Device.composeEdge d).upd.settings = d.upd.settings := by
  unfold Device.composeEdge
  split <;> simp [settings_forL]

@[simp] theorem Device.codecEdge_settings (m : Memory) (t : Nat) (d : Device) :
    (Device.codecEdge m t d).upd.settings = d.upd.settings := by
  simp [Device.codecEdge, settings_ite, settings_forN]

@[simp] theorem Device.netEdge_settings (d : Device) :
    (Device.netEdge d).upd.settings = d.upd.settings := by
  simp [Device.netEdge, settings_ite, settings_forN]

@[simp] theorem Device.infoEdge_settings (d : Device) (t : Nat) :
    (Device.infoEdge d t).upd.settings = d.upd.settings := by
  simp [Device.infoEdge]

@[simp] theorem Device.layoutOf_settings (d : Device) (t : Nat) :
    (Device.layoutOf d t).upd.settings = d.upd.settings := by
  simp [Device.layoutOf, settings_ite]

@[simp] theorem Device.admitWork_settings (m : Memory) (t : Nat) (restart : List Nat) (d : Device) :
    (Device.admitWork m t restart d).upd.settings = d.upd.settings := by
  simp [Device.admitWork]

@[simp] theorem Device.lastEdge_settings (d : Device) :
    (Device.lastEdge d).upd.settings = d.upd.settings := by
  simp [Device.lastEdge, settings_ite]

@[simp] theorem Device.gapStart_settings (d : Device) :
    (Device.gapStart d).upd.settings = d.upd.settings := by
  obtain ⟨a, b, c, q, h⟩ := d.waitUntil_only (d.edgeNs (d.tick.num + 1))
  simp only [Device.gapStart, h, settings_ite, Device.clearOuts_settings, Device.markTails_settings]
  split
  · rfl
  · split <;> rfl

@[simp] theorem Device.publish_settings (d : Device) :
    (Device.publish d).upd.settings = d.upd.settings := by
  simp [Device.publish, settings_ite]

@[simp] theorem Device.publishCheck_settings (d : Device) :
    (Device.publishCheck d).upd.settings = d.upd.settings := by
  obtain ⟨a, b, c, q, h⟩ := d.waitPoint_only 5
  simp [Device.publishCheck, h, settings_ite]

@[simp] theorem Device.certify_settings (d : Device) :
    (Device.certify d).upd.settings = d.upd.settings := by
  obtain ⟨a, b, c, q, h⟩ := d.waitPoint_only 98
  simp [Device.certify, h, settings_ite]

end Sys2Proof.Machine
end

section
/-!
SUPPORT. Memory operations keep the canonical form of DRAM and flash, and leave the fuses as they are.
-/

namespace Sys2Proof.Machine

/-- From `m` to `m'` no fuse changes, and the canonical form is kept. -/
structure Memory.Kept (m m' : Memory) : Prop where
  wf : m.wf = true → m'.wf = true
  otp : m'.otp = m.otp

theorem Memory.wf_iff (m : Memory) : m.wf = true ↔ m.dram.wf = true ∧ m.flash.wf = true := by
  simp [Memory.wf]

theorem Memory.Kept.refl (m : Memory) : m.Kept m := ⟨id, rfl⟩

theorem Memory.Kept.trans {m m' m'' : Memory} (h : m.Kept m') (h' : m'.Kept m'') : m.Kept m'' :=
  ⟨h'.wf ∘ h.wf, h'.otp.trans h.otp⟩

theorem Memory.Kept.forL {β : Type} {f : β → Memory → Memory} (hf : ∀ b (m : Memory), m.Kept (f b m)) (l : List β) :
    ∀ m : Memory, m.Kept (Machine.forL l f m) := by
  induction l with
  | nil => exact .refl
  | cons b r ih => exact fun m => (hf b m).trans (ih _)

theorem Memory.kept_dram {m : Memory} {x : Dram} (h : m.dram.wf = true → x.wf = true) (p : List Nat) :
    m.Kept { m with dram := x, poison := p } :=
  ⟨fun w => by
    obtain ⟨hd, hf⟩ := (Memory.wf_iff m).mp w
    exact (Memory.wf_iff _).mpr ⟨h hd, hf⟩, rfl⟩

theorem Memory.kept_flash {m : Memory} {x : Flash} (h : m.flash.wf = true → x.wf = true) : m.Kept { m with flash := x } :=
  ⟨fun w => by
    obtain ⟨hd, hf⟩ := (Memory.wf_iff m).mp w
    exact (Memory.wf_iff _).mpr ⟨hd, h hf⟩, rfl⟩

/-! ### What writes DRAM -/

theorem writeLines_wf (stride : Nat) (ls : List (List Byte)) :
    ∀ {m : Dram} (a : Nat), m.wf = true → (writeLines m a stride ls).wf = true := by
  induction ls with
  | nil => exact fun _ h => h
  | cons l r ih => exact fun a h => ih _ (Dram.writeList_wf h a l)

theorem storeSegs_wf (base f w : Nat) (l : List Segment) :
    ∀ {m : Dram}, m.wf = true → (storeSegs m base f w l).wf = true := by
  induction l with
  | nil => exact id
  | cons g r ih => exact fun h => ih (Dram.writeList_wf h _ _)

theorem ringWrite_wf (base size : Nat) (l : List Byte) :
    ∀ {m : Dram} (p : Nat), m.wf = true → (ringWrite m base size p l).wf = true := by
  induction l with
  | nil => exact fun _ h => h
  | cons b r ih => exact fun p h => ih _ (Dram.write_wf h _ b)

theorem reconWrite_wf {m : Dram} (base w h : Nat) (j : EncJob) (hm : m.wf = true) : (reconWrite m base w h j).wf = true := by
  have lines (l : List Nat) (a : Nat → Nat) (b : Nat → List Byte) {m : Dram} (hm : m.wf = true) :
      (l.foldl (fun (m : Dram) y => m.writeList (a y) (b y)) m).wf = true :=
    List.foldlRecOn (motive := fun m : Dram => m.wf = true) _ _ hm (fun _ hm _ _ => Dram.writeList_wf hm _ _)
  exact lines _ _ _ (lines _ _ _ hm)

theorem Device.spillWrite_wf (d : Device) (bs : List Nat) :
    ∀ {m : Dram} (l : List Byte), m.wf = true → (d.spillWrite m bs l).wf = true := by
  induction bs with
  | nil => exact fun _ h => h
  | cons b r ih => exact fun l h => ih _ (Dram.writeList_wf h _ _)

theorem Device.spillAll_wf (d : Device) {m : Dram} (l : List MoorStack) (hm : m.wf = true) : (d.spillAll m l).wf = true := by
  refine List.foldlRecOn (motive := fun m : Dram => m.wf = true) _ _ hm (fun m hm t _ => ?_)
  split
  · exact d.spillWrite_wf _ _ hm
  · exact hm

theorem Device.sealTiles_wf (d : Device) (m : Memory) (l : Layout) (r : OutRec) (n : Nat) (hm : m.dram.wf = true) :
    (d.sealTiles m l r n).2.1.wf = true := by
  refine List.foldlRecOn (motive := fun acc : List TileRec × Dram × Nat => acc.2.1.wf = true) _ _ hm (fun acc h i _ => ?_)
  split
  · exact h
  · exact writeLines_wf _ _ _ h

theorem Memory.kept_writePort (m : Memory) (a : Nat) (l : List Byte) : m.Kept (m.writePort a l).1 :=
  Memory.kept_dram (fun h => Dram.writeList_wf h a l) _

theorem Memory.kept_dramLost (m : Memory) : m.Kept m.dramLost := Memory.kept_dram (fun _ => Dram.wf_nil) []

/-! ### What writes flash -/

theorem Memory.kept_flashWr (m : Memory) (a : Nat) (l : List Byte) : m.Kept (m.flashWr a l) :=
  Memory.kept_flash (fun h => Flash.writeList_wf h a l)

theorem Memory.kept_flashErase (m : Memory) (a : Nat) : m.Kept (m.flashErase a) :=
  Memory.kept_flash (fun h => Flash.filter_wf h _)

theorem Memory.kept_eraseTo (m : Memory) (base a b : Nat) : m.Kept (m.eraseTo base a b) :=
  Memory.kept_flash (fun h => Flash.filter_wf h _)

theorem Memory.kept_eraseSlot (m : Memory) (f h : Nat) : m.Kept (m.eraseSlot f h) :=
  Memory.kept_flash (fun w => Flash.filter_wf w _)

theorem Memory.kept_writeSel (m : Memory) (f p st : Nat) : m.Kept (m.writeSel f p st) := by
  unfold Memory.writeSel
  split
  · exact (m.kept_flashErase _).trans (Memory.kept_flashWr ..)
  · extract_lets k g a
    split
    · exact (m.kept_flashErase _).trans (Memory.kept_flashWr ..)
    · exact m.kept_flashWr ..

theorem Memory.kept_fillSlot (m : Memory) (f h fm : Nat) (t : Flash) : m.Kept (m.fillSlot f h fm t) := by
  have write : ∀ (t l : Flash), l.wf = true →
      Flash.wf (t.foldl (fun (l : Flash) (p : Nat × Byte) => Cells.write 0xFF l (settingsBase f h + 4096 + p.1) p.2) l) = true := by
    intro t
    induction t with
    | nil => exact fun _ h => h
    | cons p t ih => exact fun l hl => ih _ (Cells.write_wfFrom 0xFF hl (Nat.zero_le _) p.2)
  unfold Memory.fillSlot
  exact ((m.kept_eraseSlot f h).trans (Memory.kept_flashWr ..)).trans (Memory.kept_flash (write t _))

theorem Memory.kept_openSettings (m : Memory) (f fm older : Nat) : m.Kept (m.openSettings f fm older).1 := by
  unfold Memory.openSettings
  split
  · exact .refl m
  · split
    · exact .refl m
    · extract_lets src
      clear_value src
      cases src with
      | none => exact m.kept_fillSlot ..
      | some h => dsimp only; split <;> exact m.kept_fillSlot ..

/-- Addresses that move down together keep their order. -/
theorem Cells.map_sub_wfFrom (z : Byte) (n : Nat) : ∀ {m : Cells} {lo : Nat}, Cells.wfFrom z lo m = true → n ≤ lo →
    Cells.wfFrom z (lo - n) (m.map (fun p => (p.1 - n, p.2))) = true := by
  intro m
  induction m with
  | nil => intros; rfl
  | cons p r ih =>
    intro lo h hn
    simp only [Cells.wfFrom, Bool.and_eq_true, decide_eq_true_eq, List.map_cons] at h ⊢
    obtain ⟨⟨hlo, hb⟩, hr⟩ := h
    have next := ih hr (by omega)
    rw [show p.1 + 1 - n = p.1 - n + 1 by omega] at next
    exact ⟨⟨by omega, hb⟩, next⟩

/-- The canonical form holds from any address below all that are listed. -/
theorem Cells.wfFrom_of_le (z : Byte) {m : Cells} {lo lo' : Nat} (h : Cells.wfFrom z lo m = true) (hl : ∀ p ∈ m, lo' ≤ p.1) :
    Cells.wfFrom z lo' m = true := by
  cases m with
  | nil => rfl
  | cons p r =>
    simp only [Cells.wfFrom, Bool.and_eq_true, decide_eq_true_eq] at h ⊢
    exact ⟨⟨hl p (List.mem_cons_self ..), h.1.2⟩, h.2⟩

theorem Memory.slotData_wf {m : Memory} (hm : m.flash.wf = true) (f h : Nat) : (m.slotData f h).wf = true := by
  unfold Memory.slotData
  set base := settingsBase f h
  have inside := Cells.filter_wfFrom 0xFF (fun (p : Nat × Byte) => decide (base + 4096 ≤ p.1 ∧ p.1 < base + slotBytes)) hm
  have above := Cells.wfFrom_of_le 0xFF (lo' := base + 4096) inside (fun p hp => by
    have := (List.mem_filter.mp hp).2
    simp only [decide_eq_true_eq] at this
    exact this.1)
  have down := Cells.map_sub_wfFrom 0xFF (base + 4096) above le_rfl
  rw [Nat.sub_self] at down
  simp only [Nat.sub_sub]
  exact down

end Sys2Proof.Machine
end

section
/-!
SUPPORT. Safe changes of the block: the canonical forms are kept and no fuse is lowered, said once per operation of the
block (R388, R396, R404).
-/

namespace Sys2Proof.Machine

/-- No fuse of `o'` is below that of `o`, and the key hashes are the same (R388, R396, R404). -/
structure Otp.Below (o o' : Otp) : Prop where
  lc : o.lc ≤ o'.lc
  svn : ∀ k, k < 19 → o.svn k ≤ o'.svn k
  ownerKey : o'.owner = o.owner
  debugKey : o'.debug = o.debug

theorem Otp.Below.refl (o : Otp) : o.Below o := ⟨le_rfl, fun _ _ => le_rfl, rfl, rfl⟩

theorem Otp.Below.trans {o o' o'' : Otp} (h : o.Below o') (h' : o'.Below o'') : o.Below o'' :=
  ⟨h.lc.trans h'.lc, fun k hk => (h.svn k hk).trans (h'.svn k hk), h'.ownerKey.trans h.ownerKey, h'.debugKey.trans h.debugKey⟩

/-- DRAM, flash and the settings copy hold their canonical form. -/
def Chip.Canonical (c : Chip) : Prop := c.mem.wf = true ∧ Flash.wf c.dev.upd.settings = true

/-- From `c` to `e` the canonical forms are kept and no fuse is lowered. -/
structure Chip.Safe (c e : Chip) : Prop where
  canonical : c.Canonical → e.Canonical
  fuses : c.mem.otp.Below e.mem.otp

namespace Chip

theorem Safe.refl (c : Chip) : c.Safe c := ⟨id, .refl _⟩

theorem Safe.trans {c e e' : Chip} (h : c.Safe e) (h' : e.Safe e') : c.Safe e' :=
  ⟨h'.canonical ∘ h.canonical, h.fuses.trans h'.fuses⟩

/-- Memory kept and the settings copy as before: nothing that `Safe` speaks of is at risk. -/
theorem Safe.of_kept {c e : Chip} (hm : c.mem.Kept e.mem) (hs : e.dev.upd.settings = c.dev.upd.settings) : c.Safe e :=
  ⟨fun h => ⟨hm.wf h.1, hs ▸ h.2⟩, hm.otp ▸ .refl _⟩

/-- A change of the device that leaves the settings copy. -/
theorem Safe.of_dev {c : Chip} {d : Device} (h : d.upd.settings = c.dev.upd.settings) : c.Safe { c with dev := d } :=
  .of_kept (.refl _) h

theorem Safe.mapDev {c : Chip} {f : Device → Device} (h : (f c.dev).upd.settings = c.dev.upd.settings) : c.Safe (c.mapDev f) :=
  .of_dev h

/-- A change of DRAM that keeps its canonical form, beside a change of the device that leaves the settings copy. -/
theorem Safe.of_dram {c : Chip} {x : Dram} {d : Device} (h : c.mem.dram.wf = true → x.wf = true)
    (hs : d.upd.settings = c.dev.upd.settings) : c.Safe { c with mem := { c.mem with dram := x }, dev := d } :=
  .of_kept (Memory.kept_dram h _) hs

/-- Memory kept and the settings copy gone with the reset. -/
theorem Safe.of_lost {c e : Chip} (hm : c.mem.Kept e.mem) (hs : e.dev.upd.settings = []) : c.Safe e :=
  ⟨fun h => ⟨hm.wf h.1, by rw [hs]; rfl⟩, hm.otp ▸ .refl _⟩

theorem Safe.ite {c a b : Chip} {p : Prop} [Decidable p] (ha : p → c.Safe a) (hb : ¬p → c.Safe b) : c.Safe (if p then a else b) := by
  split
  · next h => exact ha h
  · next h => exact hb h

theorem Safe.forL {β : Type} {f : β → Chip → Chip} (hf : ∀ b (c : Chip), c.Safe (f b c)) (l : List β) :
    ∀ c : Chip, c.Safe (Machine.forL l f c) := by
  induction l with
  | nil => exact .refl
  | cons b r ih => exact fun c => (hf b c).trans (ih _)

theorem Safe.forN {f : Nat → Chip → Chip} (hf : ∀ k (c : Chip), c.Safe (f k c)) (n : Nat) (c : Chip) :
    c.Safe (Machine.forN n f c) := Safe.forL hf (List.range n) c

theorem Safe.foldl {β : Type} {f : Chip → β → Chip} (hf : ∀ b (c : Chip), c.Safe (f c b)) (l : List β) (c : Chip) :
    c.Safe (l.foldl f c) := Safe.forL (f := fun b c => f c b) hf l c

/-- A safe operation after a change of the device that leaves the settings copy. -/
theorem Safe.after_dev {c : Chip} {d : Device} {e : Chip} (h : ({ c with dev := d } : Chip).Safe e)
    (hs : d.upd.settings = c.dev.upd.settings) : c.Safe e := (Safe.of_dev hs).trans h

/-! ### Layouts and tiles -/

theorem safe_prepared (c : Chip) : c.Safe c.prepared := by
  unfold prepared
  extract_lets d
  have ended (r : LayoutResult) : c.Safe { c with dev := d.endRequest r } := .of_dev (by simp [d])
  split
  · next r _ =>
    refine .ite (fun _ => .refl c) fun _ => .ite (fun _ => .ite (fun _ => .refl c) fun _ => ended _) fun _ =>
      .ite (fun _ => .ite (fun _ => .refl c) fun _ => ended _) fun _ => .ite (fun _ => ended _) fun _ => ?_
    exact .of_dram (fun h => Device.spillAll_wf _ _ h) (by simp [d])
  · exact .refl c

theorem safe_composeTile (c : Chip) (l : Layout) (r : OutRec) (n tile pipe : Nat) (keys : List (Nat × Nat)) :
    c.Safe (c.composeTile l r n tile pipe keys) := .of_dram (fun h => writeLines_wf _ _ _ h) (by simp)

theorem safe_tileBlend (c : Chip) (o tile pipe : Nat) : c.Safe (c.tileBlend o tile pipe) := by
  unfold tileBlend
  dsimp only
  split
  · exact .refl c
  · split
    · refine .ite (fun _ => .refl c) fun _ => .ite (fun _ => .of_dev ?_) fun _ =>
        .ite (fun _ => .of_dev (by simp)) fun _ => c.safe_composeTile ..
      simp [settings_forL]
    · exact .refl c

theorem safe_sealOut (c : Chip) (l : Layout) (o : Nat) : c.Safe (c.sealOut l o) := by
  unfold sealOut
  extract_lets d x old drop
  have dropped (d : Device) : (drop d).upd.settings = d.upd.settings := by
    unfold drop
    clear_value old
    cases old with
    | none => rfl
    | some q => dsimp only; split <;> simp
  clear_value drop
  split
  · exact .of_dram (fun h => Device.sealTiles_wf _ _ _ _ _ h) (by simp [settings_forL, dropped, d])
  · exact .of_dev (by simp [dropped, d])

theorem safe_sealDeadline (c : Chip) : c.Safe c.sealDeadline := by
  obtain ⟨t1, t2, t3, p, h⟩ := c.dev.waitPoint_only 85
  unfold sealDeadline
  rw [h]
  refine .ite (fun _ => .refl c) fun _ => ?_
  extract_lets d lost d1 d2 c1 d3
  have h2 : d2.upd.settings = c.dev.upd.settings := by simp [d2, d1, settings_ite, d]
  have h1 : c.Safe c1 := by
    unfold c1
    split
    · exact .after_dev (.foldl (fun o c => c.safe_sealOut _ o) _ _) h2
    · exact .of_dev h2
  exact h1.trans (.of_dev (by simp [d3]))

/-! ### Packets, pictures and rows -/

theorem safe_closeFrame (c : Chip) (s : Nat) (f : Filling) (n : Nat) : c.Safe (c.closeFrame s f n) := .of_dev (by simp)

theorem safe_storePacket (c : Chip) (s : Nat) (p : VideoPkt) : c.Safe (c.storePacket s p) := by
  unfold storePacket
  dsimp only
  split
  · exact .refl c
  · split
    · exact .of_dev (by simp)
    · have stored {d : Device} (hs : d.upd.settings = c.dev.upd.settings) (base f w : Nat) :
          c.Safe { c with mem := { c.mem with dram := storeSegs c.mem.dram base f w p.segs }, dev := d } :=
        .of_dram (fun h => storeSegs_wf _ _ _ _ h) hs
      exact .ite (fun _ => (stored (by simp) _ _ _).trans (safe_closeFrame ..)) fun _ => stored (by simp) _ _ _

theorem safe_ingest (c : Chip) (h : RxHdr) (f : Nat) (p : VideoPkt) : c.Safe (c.ingest h f p) := by
  unfold ingest
  extract_lets d s q d1 known late i d2
  have h1 : d1.upd.settings = c.dev.upd.settings := by simp [d1, q, d]
  have h2 : d2.upd.settings = c.dev.upd.settings := by simp [d2, settings_ite, h1]
  clear_value d2 late known i d1
  refine .ite (fun _ => .of_dev (by simp [d])) fun _ => .ite (fun _ => .of_dev (by simp [h1])) fun _ => .ite (fun _ => .of_dev h1)
    fun _ => .ite (fun _ => .of_dev (by simp [h1])) fun _ => .ite (fun _ => .of_dev h2) fun _ => .after_dev (safe_storePacket ..) h2

theorem safe_auPut (c : Chip) (n : Nat) (sel : AccessUnit → Bool) (data : List Byte) (head : Option PicHead) (errs : List Nat)
    (seq : Option Nat) : c.Safe (c.auPut n sel data head errs seq) := by
  unfold auPut
  extract_lets d x
  split
  · exact .refl c
  · extract_lets o a' y d1 d2
    refine .of_kept ?_ (by simp [d2, d1, d, settings_ite])
    dsimp only
    split
    · exact .refl _
    · exact Memory.kept_dram (fun h => ringWrite_wf _ _ _ _ h) _

theorem safe_rtpUnit (c : Chip) (n : Nat) (p : StreamPkt) (ext capture : Nat) : c.Safe (c.rtpUnit n p ext capture) := by
  unfold rtpUnit
  extract_lets d x take known aus sel use c1
  refine .ite (fun _ => .refl c) fun _ => ?_
  have h1 : c.Safe c1 := .after_dev (safe_auPut ..) (by simp [d])
  exact h1.trans (.mapDev (by simp [settings_ite]))

theorem safe_tsCell (c : Chip) (n capture rtpTs : Nat) (gap : Bool) (t : TsCell) : c.Safe (c.tsCell n capture rtpTs gap t) := by
  unfold tsCell
  extract_lets d lost x isOpen opened ts fresh hurt aus errs d2 c1
  have h1 : d.upd.settings = c.dev.upd.settings := by
    unfold d
    split <;> simp
  clear_value d
  refine .ite (fun _ => .of_dev h1) fun _ => ?_
  have h2 : c.Safe c1 := .after_dev (safe_auPut ..) (by simp [d2, h1])
  exact h2.trans (.mapDev (by simp [settings_ite]))

theorem safe_tsCells (n cap ts : Nat) (l : List TsCell) : ∀ (c : Chip) (gap : Bool), c.Safe (c.tsCells n cap ts gap l) := by
  induction l with
  | nil => exact fun c _ => .refl c
  | cons t r ih => exact fun c gap => (c.safe_tsCell ..).trans (ih _ _)

theorem safe_stream (c : Chip) (h : RxHdr) (f : Nat) (p : StreamPkt) : c.Safe (c.stream h f p) := by
  unfold stream
  extract_lets d s form cap
  refine .ite (fun _ => .of_dev (by simp [d])) fun _ => ?_
  split
  · exact .of_dev (by simp [d])
  · extract_lets x ext adv gap x2 d2
    have h2 : d2.upd.settings = c.dev.upd.settings := by simp [d2, d]
    clear_value d2
    exact .ite (fun _ => .of_dev (by simp [d])) fun _ => .ite (fun _ => .of_dev h2) fun _ =>
      .ite (fun _ => .after_dev (safe_rtpUnit ..) h2) fun _ => .after_dev (safe_tsCells ..) h2

theorem safe_streamRx (c : Chip) (h : RxHdr) (p : StreamPkt) : c.Safe (c.streamRx h p) := by
  unfold streamRx
  dsimp only
  split
  · exact .after_dev (safe_stream ..) (by simp)
  · exact .of_dev (by simp)

theorem safe_videoOnFlow (c : Chip) (h : RxHdr) (f : Nat) (p : VideoPkt) : c.Safe (c.videoOnFlow h f p) :=
  .ite (fun _ => c.safe_ingest ..) fun _ => c.safe_stream ..

theorem safe_ingestRx (c : Chip) (h : RxHdr) (p : VideoPkt) : c.Safe (c.ingestRx h p) := by
  unfold ingestRx
  dsimp only
  split
  · exact .after_dev (safe_videoOnFlow ..) (by simp)
  · exact .of_dev (by simp)
  · exact .of_dev (by simp)

theorem safe_witnessRx (c : Chip) (h : RxHdr) (p : WitPkt) : c.Safe (c.witnessRx h p) := by
  unfold witnessRx
  dsimp only
  split
  · exact .of_dev (by simp)
  · split
    · exact .after_dev (safe_videoOnFlow ..) (by simp)
    · exact .of_dev (by simp)
  · exact .of_dev (by simp)

theorem safe_encRing (c : Chip) (n : Nat) (nals : List (List Byte)) : c.Safe (c.encRing n nals) :=
  .of_dram (fun h => ringWrite_wf _ _ _ _ h) (by simp)

theorem safe_encRowOut (c : Chip) (n : Nat) (old j : EncJob) (e : EncRow) : c.Safe (c.encRowOut n old j e) :=
  (c.safe_encRing n _).trans (.of_dev (by simp))

theorem safe_encClose (c : Chip) (n : Nat) (j : EncJob) : c.Safe (c.encClose n j) := by
  unfold encClose
  extract_lets x fill p v c1 d x1 recs dram d1 d2 d3 d4 d5 d6 m0 m
  have h1 : c.Safe c1 := c.safe_encRing n _
  clear_value c1
  have hd : c1.mem.Kept m := Memory.kept_dram (fun h => by
    unfold dram
    split
    · exact reconWrite_wf _ _ _ _ h
    · exact h) _
  have h2 : d2.upd.settings = c1.dev.upd.settings := by
    unfold d2
    split <;> simp [d1, d]
  clear_value d2
  exact h1.trans (.of_kept hd (by simp [d6, d5, d4, d3, settings_ite, h2]))

/-- A row that is done is safe, whether or not it closes the picture. -/
theorem safe_encDo (c : Chip) (n : Nat) (e : EncRow) (stop : Nat) : ∀ c' ∈ c.encDo n e stop, c.Safe c' := by
  intro c' h
  unfold encDo at h
  split at h
  · cases h
  · obtain ⟨j', -, rfl⟩ := Option.map_eq_some_iff.mp (Option.mem_def.mp h)
    exact (c.safe_encRowOut ..).trans (.ite (fun _ => safe_encClose ..) fun _ => .refl _)

theorem safe_getD {c : Chip} {o : Option Chip} (h : ∀ c' ∈ o, c.Safe c') : c.Safe (o.getD c) := by
  cases o with
  | none => exact .refl c
  | some c' => exact h c' rfl

theorem safe_encSlice (c : Chip) (n : Nat) (e : EncRow) : c.Safe (c.encSlice n e) :=
  .ite (fun _ => safe_getD (c.safe_encDo n e _)) fun _ => .refl c

theorem safe_encLeft (c : Chip) (n stop : Nat) (rows : List EncRow) : ∀ c' ∈ c.encLeft n stop rows, c.Safe c' := by
  refine List.foldlRecOn (motive := fun o : Option Chip => ∀ c' ∈ o, c.Safe c') rows _ ?_ ?_
  · rintro c' ⟨⟩
    exact .refl c
  · intro o ho e _ c' h
    obtain ⟨c1, h1, h2⟩ := Option.bind_eq_some_iff.mp (Option.mem_def.mp h)
    exact (ho c1 h1).trans (c1.safe_encDo n e stop c' h2)

theorem safe_encDeadline (c : Chip) (n coded : Nat) (rows : List EncRow) : c.Safe (c.encDeadline n coded rows) := by
  unfold encDeadline
  split
  · exact .refl c
  · refine .ite (fun _ => .refl c) fun _ => safe_getD fun c' h => ?_
    exact (Safe.mapDev (by simp)).trans (safe_encLeft _ n _ rows c' h)

theorem safe_decodeDone (c : Chip) (n : Nat) (r : DecResult) : c.Safe (c.decodeDone n r) := by
  unfold decodeDone
  extract_lets d x
  split
  · exact .refl c
  · next j rest _ =>
    split
    · exact .refl c
    · refine .ite (fun _ => .refl c) fun _ => ?_
      extract_lets errs own d1 refsOk st q rp clean d2 d3 s h fmt stride base m0 m p d4 shown seals d5 lateJob d6 d7 d8 d9
      have h1 : d1.upd.settings = c.dev.upd.settings := settings_forL (fun e d => by simp [settings_ite]) _ d
      have h3 : d3.upd.settings = c.dev.upd.settings := by simp [d3, d2, settings_ite, h1]
      have h5 : d5.upd.settings = c.dev.upd.settings := by simp [d5, d4, settings_ite, h3]
      have h7 : d7.upd.settings = c.dev.upd.settings := by simp [d7, d6, settings_ite, h5]
      have h9 : d9.upd.settings = c.dev.upd.settings := by simp [d9, d8, settings_ite, h7]
      exact .of_kept (Memory.kept_dram (fun h => writeLines_wf _ _ _ h) _) (by simp [settings_ite, h9])

/-! ### Memory controllers, reset and boot -/

theorem safe_memRead (channel bits addrBits : Nat) (c : Chip) : c.Safe (c.memRead channel bits addrBits) := by
  unfold memRead
  extract_lets ch
  split
  · exact .refl c
  · extract_lets d
    refine .ite (fun _ => .refl c) fun _ => .ite (fun _ => ?_) fun _ => .of_dev (by simp [settings_ite, d])
    exact .of_kept (Memory.kept_dram id _) (by simp [d])

theorem safe_memAck (channel bits : Nat) (c : Chip) : c.Safe (c.memAck channel bits) := by
  unfold memAck
  extract_lets ch
  split
  · exact .refl c
  · extract_lets d whole bad fixed p m d2
    have h2 : d2.upd.settings = c.dev.upd.settings := by simp [d2, d, settings_ite]
    exact .ite (fun _ => .refl c) fun _ => .of_kept (Memory.kept_dram (fun h => Dram.writeList_wf h _ _) _) (by simp [h2])

theorem safe_drain (ch : Nat) (c : Chip) : c.Safe (c.drain ch) := by
  refine Safe.trans (Safe.foldl (fun r c => ?_) _ c) (.mapDev (by simp))
  extract_lets q d
  have hd : d.upd.settings = c.dev.upd.settings := by simp [d]
  exact .ite (fun _ => .of_dram (fun h => Dram.writeList_wf h _ _) (by simp [hd])) fun _ => .of_dev hd

theorem safe_porAssert (c : Chip) : c.Safe c.porAssert := .of_lost (Memory.kept_dramLost _) rfl

theorem safe_pinAssert (heldNs : Nat) (c : Chip) : c.Safe (c.pinAssert heldNs) := by
  have hm : c.mem.Kept (c.pinAssert heldNs).mem := by
    unfold pinAssert
    dsimp only
    split
    · exact Memory.kept_dramLost _
    · exact .refl _
  have hd : (c.pinAssert heldNs).dev.upd.settings = c.dev.upd.settings ∨ (c.pinAssert heldNs).dev.upd.settings = [] := by
    simp only [pinAssert, Device.filtered, settings_ite]
    split
    · split
      · exact Device.pinReset_settings { c.dev with free := c.dev.free + 1 }
      · exact c.dev.pinReset_settings
    · simp
  exact hd.elim (.of_kept hm) (.of_lost hm)

theorem safe_bootLoad (k : Nat) (c : Chip) : c.Safe (c.bootLoad k) := .of_dev (by simp)

theorem safe_bootZero (c : Chip) : c.Safe c.bootZero := .of_kept (Memory.kept_dramLost _) (by simp [bootZero])

theorem safe_bootImage (n : Nat) : ∀ (k : Nat) (c : Chip), c.Safe (bootImage n k c) := by
  induction n with
  | zero => exact fun k c => .mapDev (by simp)
  | succ n ih =>
    intro k c
    unfold bootImage
    extract_lets c1 rd e c2 e2
    have h1 : c.Safe c1 := .mapDev (by simp [settings_ite])
    have h2 : c1.Safe c2 := .mapDev (by simp)
    have failed (c : Chip) (e : Nat) : c.Safe (c.mapDev (fun (d : Device) => d.bootFail k e)) := .mapDev (by simp)
    refine h1.trans (.ite (fun _ => (failed _ _).trans (ih _ _)) fun _ => h2.trans ?_)
    exact .ite (fun _ => .mapDev (by simp)) fun _ => c2.safe_bootZero.trans
      (.ite (fun _ => (failed _ _).trans (ih _ _)) fun _ => safe_bootLoad ..)

theorem safe_bootClocked (c : Chip) : c.Safe c.bootClocked := by
  unfold bootClocked
  extract_lets k c1 e c2
  refine .ite (fun _ => .mapDev (by simp)) fun _ => c.safe_bootZero.trans (.ite (fun _ => .refl _) fun _ => .ite
    (fun _ => safe_bootLoad ..) fun _ => ?_)
  have h2 : c1.Safe c2 := .mapDev (by simp)
  exact h2.trans (.ite (fun _ => .mapDev (by simp)) fun _ => safe_bootImage ..)

theorem safe_bootSelect (c : Chip) : c.Safe c.bootSelect.1 := by
  have kept (k st : Nat) {d : Device} (hd : d.upd.settings = c.dev.upd.settings) :
      c.Safe { mem := c.mem.writeSel c.dev.flashSize k st, dev := d } := by
    refine .of_kept ?_ hd
    dsimp only
    exact c.mem.kept_writeSel ..
  unfold bootSelect
  extract_lets f p was
  have same (b : Bool) (d : Device) : (was b d).upd.settings = d.upd.settings := rfl
  clear_value p was
  split
  · exact kept p.1 2 (same false _)
  · exact kept (1 - p.1) 0 (same true _)
  · exact .mapDev (same false _)

theorem safe_bootStart (trained octal : Bool) (flashSize : Nat) (c : Chip) : c.Safe (c.bootStart trained octal flashSize) := by
  unfold bootStart
  extract_lets d b0 d1 d2 src d3 p
  have h2 : d2.upd.settings = c.dev.upd.settings := by simp [d2, d1, d]
  have h3 : d3.upd.settings = c.dev.upd.settings := by simp [d3, h2]
  refine .ite (fun _ => .refl c) fun _ => .ite (fun _ => .of_dev (by simp [h2])) fun _ => .ite (fun _ => .of_dev (by simp [h3]))
    fun _ => .ite (fun _ => .of_dev (by simp [h3])) fun _ => ?_
  exact (Safe.after_dev (safe_bootSelect _) h3).trans (safe_bootImage ..)

theorem safe_bootPush (addr : Nat) (data : List Byte) (c : Chip) : c.Safe (c.bootPush addr data) := by
  unfold bootPush
  extract_lets d said old all size b0 c1 e e2
  have h1 : c.Safe c1 := .of_dev rfl
  refine .ite (fun _ => .refl c) fun _ => .ite (fun _ => .of_dev rfl) fun _ => .ite (fun _ => .of_dev (by simp [said, d])) fun _ =>
    h1.trans (.ite (fun _ => .refl _) fun _ => .ite (fun _ => .ite (fun _ => .mapDev (by simp)) fun _ => .mapDev (by simp)) fun _ => ?_)
  exact .ite (fun _ => .refl _) fun _ => .ite (fun _ => .mapDev (by simp)) fun _ => safe_bootLoad ..

/-- The settings copy that boot takes from flash is canonical because flash is. -/
theorem safe_settingsUp (c : Chip) : c.Safe c.settingsUp := by
  unfold settingsUp
  extract_lets f d0 put u0 k older q
  refine .ite (fun _ => .of_lost (.refl _) (by simp [put])) fun _ => ?_
  have hm : c.mem.Kept q.1 := Memory.kept_openSettings ..
  refine ⟨fun h => ⟨hm.wf h.1, ?_⟩, hm.otp ▸ .refl _⟩
  simpa [put] using Memory.slotData_wf ((Memory.wf_iff _).mp (hm.wf h.1)).2 f q.2.1

theorem safe_bootFinish (c : Chip) : c.Safe c.bootFinish := by
  unfold bootFinish
  extract_lets k m c1 d1 d2 sel d3 c2 d0 d4 d5 d6 d7 d8
  have h1 : c.Safe c1 := by
    refine .of_kept ?_ rfl
    unfold c1 m
    dsimp only
    split
    · exact Memory.kept_writeSel ..
    · exact .refl _
  have h2 : c1.Safe c2 := .after_dev (safe_settingsUp _) (by simp [d3, d2, d1])
  have h8 : d8.upd.settings = c2.dev.upd.settings := by
    unfold d8
    rw [settings_forN (fun j d => by simp [settings_ite])]
    simp [d7, d6, d5, d4, d0, settings_ite]
  exact h1.trans (h2.trans (.of_dev (by simp [h8])))

/-! ### Power states and clocks -/

/-- The queues of all channels are drained once the change to STANDBY is under way (R355). -/
theorem safe_drainAll {c : Chip} {d : Device} (h : d.upd.settings = c.dev.upd.settings) :
    c.Safe (Machine.forN 32 (fun (k : Nat) (c : Chip) => c.drain k)
      { c with dev := { d with change := some .toStandby, fchg := some .toStandby } }) :=
  .after_dev (.forN safe_drain 32 _) h

theorem safe_toStandby (c : Chip) : c.Safe c.toStandby := by
  have off (d : Device) : (Machine.forN 28 (fun (p : Nat) (d : Device) => d.portOff p) d).upd.settings = d.upd.settings :=
    settings_forN (fun p d => d.portOff_settings p) 28 d
  unfold toStandby
  dsimp only
  refine (safe_drainAll ?_).trans (.mapDev ?_)
  · simp only [Device.put_settings, Device.servosRefresh_settings, Device.tetherOff_settings, off,
      Device.scrubPause_settings, Device.dropWork_settings]
  · simp only [Device.put_settings]

theorem safe_toReady (c : Chip) : c.Safe c.toReady := by
  unfold toReady
  extract_lets d1 d2
  exact (Safe.after_dev ((safe_drain 0 _).trans (safe_drain 16 _)) (by simp [d2, d1])).trans (.mapDev (by simp))

theorem safe_toWatch (c : Chip) : c.Safe c.toWatch := .of_lost (Memory.kept_dramLost _) (by simp [toWatch])

theorem safe_pwrCmd (slot target : Nat) (c : Chip) : c.Safe (c.pwrCmd slot target) := by
  unfold pwrCmd
  extract_lets d c1 say
  have h1 : c.Safe c1 := .of_dev (by simp [d])
  refine .ite (fun _ => .refl c) fun _ => h1.trans (.ite (fun _ => .of_dev ?_) fun _ => .ite (fun _ => .of_dev ?_) fun _ => ?_)
  · simp [c1]
  · simp [c1]
  split
  · exact .of_dev (by simp [c1, settings_ite])
  · exact .of_dev (by simp [c1])
  · exact safe_toStandby _
  · exact safe_toReady _
  · exact safe_toWatch _
  · exact safe_toWatch _
  · exact .of_dev (by simp [c1])

theorem safe_clocksGo (c : Chip) : c.Safe c.clocksGo := by
  unfold clocksGo
  extract_lets d
  exact .ite (fun _ => .refl c) fun _ => .ite (fun _ => .ite (fun _ => c.safe_bootClocked) fun _ =>
    .ite (fun _ => c.safe_bootFinish) fun _ => .refl c) fun _ => .of_dev (by simp [d])

theorem safe_fuses (c : Chip) : c.Safe c.fuses :=
  .of_dev ((settings_forN (fun i d => d.put_settings _ _ _) 19 _).trans (by simp))

theorem safe_clockLock (pd : Nat) (c : Chip) : c.Safe (c.clockLock pd) := by
  unfold clockLock
  extract_lets d d1 c1
  have h1 : c.Safe c1 := .of_dev (by simp [d1, d])
  exact .ite (fun _ => .refl c) fun _ => h1.trans ((Safe.ite (fun _ => c1.safe_fuses) fun _ => .refl _).trans (safe_clocksGo _))

theorem safe_clockTimeout (pd : Nat) (c : Chip) : c.Safe (c.clockTimeout pd) := by
  unfold clockTimeout
  extract_lets d d1 d2 d3
  have h3 : d3.upd.settings = c.dev.upd.settings := by simp [d3, d2, d1, d]
  exact .ite (fun _ => .refl c) fun _ => .ite (fun _ => .of_dev h3) fun _ => .ite (fun _ => .of_dev (by simp [h3])) fun _ =>
    .after_dev (safe_clocksGo _) h3

/-! ### Update -/

theorem safe_winStore (off : Nat) (l : List Byte) (c : Chip) : c.Safe (c.winStore off l) := by
  unfold winStore
  extract_lets d base stop m d1 d2
  have hm : c.mem.Kept m := by
    unfold m
    split
    · exact c.mem.kept_eraseTo ..
    · exact .refl _
  exact .of_kept (hm.trans (m.kept_flashWr _ _)) (by simp [d2, d1, d, settings_ite])

theorem safe_winWrite (slot off : Nat) (l : List Byte) (c : Chip) : c.Safe (c.winWrite slot off l).1 := by
  unfold winWrite
  extract_lets d c1
  have h1 : c.Safe c1 := .mapDev (by simp)
  simp only [apply_ite Prod.fst]
  exact .ite (fun _ => .mapDev (by simp)) fun _ => h1.trans (.ite (fun _ => .refl _) fun _ => .ite (fun _ => .refl _) fun _ =>
    safe_winStore ..)

/-- Every write of the settings copy keeps its canonical form. -/
theorem safe_setWrite (off : Nat) (l : List Byte) (c : Chip) : c.Safe (c.mapDev (fun (d : Device) => d.setWrite off l)) :=
  ⟨fun h => ⟨h.1, by simpa [mapDev] using Flash.writeList_wf h.2 off l⟩, .refl _⟩

theorem safe_settingsDone (c : Chip) : c.Safe c.settingsDone := by
  unfold settingsDone
  extract_lets d
  exact .ite (fun _ => .refl c) fun _ => .of_kept (Memory.kept_fillSlot ..) (by simp [d])

theorem safe_verifyDone (c : Chip) : c.Safe c.verifyDone := by
  unfold verifyDone
  exact .ite (fun _ => .refl c) fun _ => .of_dev (by simp [settings_ite])

/-- CONFIRM raises the fuses of a component to the SVN of the running image where that is higher (R404). -/
theorem safe_confirmed (c : Chip) : c.Safe c.confirmed := by
  unfold confirmed
  extract_lets f o svns h m0 m m1 d
  have hsvn (k : Nat) (hk : k < 19) : svns.getD k 0 = max (o.svn k) (c.dev.upd.run.svns.getD k 0) := by
    simp [svns, List.getD, hk]
  have fuse : o.Below m.otp := ⟨le_rfl, fun k hk => by
    show o.svn k ≤ svns.getD k 0
    rw [hsvn k hk]
    exact le_max_left _ _, rfl, rfl⟩
  have hm : m.Kept m1 := by
    unfold m1
    split
    · exact m.kept_eraseSlot ..
    · exact .refl _
  have hd : d.upd.settings = c.dev.upd.settings := settings_forN (fun i d => d.put_settings _ _ _) 19 _
  clear_value m1 d
  exact ⟨fun w => ⟨hm.wf w.1, by simpa [hd] using w.2⟩, fuse.trans (hm.otp ▸ .refl _)⟩

theorem safe_flashDone (c : Chip) : c.Safe c.flashDone := by
  unfold flashDone
  split
  · exact .refl c
  · exact .mapDev rfl
  · extract_lets e d c1
    have hd : d.upd.settings = c.dev.upd.settings := by simp [d]
    clear_value d
    have h1 : c.Safe c1 := by
      refine .of_kept ?_ hd
      dsimp only [c1]
      exact c.mem.kept_writeSel ..
    exact h1.trans (.ite (fun _ => c1.safe_confirmed) fun _ => .ite (fun _ => .mapDev (by simp)) fun _ => .refl _)

/-! ### Register accesses -/

theorem safe_sysWrite (slot : Nat) (r : RegRow) (w : Nat) (c : Chip) : c.Safe (c.sysWrite slot r w) :=
  .ite (fun _ => c.safe_pwrCmd ..) fun _ => .refl c

/-- A write of the block CMP starts from the device before the word was stored, whose settings copy is the same. -/
theorem safe_cmpWrite (slot : Nat) (r : RegRow) (i w : Nat) (old : Device) (c : Chip)
    (ho : old.upd.settings = c.dev.upd.settings) : c.Safe (c.cmpWrite slot r i w old) := by
  unfold cmpWrite
  extract_lets fresh c1
  have h1 : c.Safe c1 := .of_dev (by simp [ho])
  exact .ite (fun _ => .ite (fun _ => .of_dev (by simp [ho])) fun _ => h1.trans (.ite (fun _ => .mapDev (by simp)) fun _ => .refl _))
    fun _ => .ite (fun _ => .mapDev (by simp)) fun _ => .ite (fun _ => .ite (fun _ => .refl c) fun _ => .mapDev (by simp))
    fun _ => .ite (fun _ => .of_dev (by simp [ho])) fun _ => .refl c

/-- A life-cycle command only raises the life-cycle fuses (R388). -/
theorem safe_lcCmd (op : Nat) (c : Chip) : c.Safe (c.lcCmd op) :=
  .ite (fun _ => ⟨id, ⟨le_max_left _ _, fun _ _ => le_rfl, rfl, rfl⟩⟩) fun _ => .refl c

theorem safe_writeEffect (slot : Nat) (r : RegRow) (i w : Nat) (old : Device) (c : Chip)
    (ho : old.upd.settings = c.dev.upd.settings) : c.Safe (c.writeEffect slot r i w old) := by
  unfold writeEffect
  split
  case h_1 => exact c.safe_sysWrite ..
  case h_4 => exact c.safe_cmpWrite _ _ _ _ _ ho
  case h_6 | h_12 => exact .ite (fun _ => .mapDev (by simp)) fun _ => .refl c
  case h_13 => exact .ite (fun _ => c.safe_lcCmd _) fun _ => .refl c
  case h_14 => exact .ite (fun _ => .mapDev (by simp)) fun _ => .refl c
  case h_19 => exact .refl c
  all_goals exact .mapDev (by simp)

theorem safe_regWrite (slot addr w hwSet : Nat) (c : Chip) : c.Safe (c.regWrite slot addr w hwSet) := by
  unfold regWrite
  split
  · exact .refl c
  · extract_lets r i d drop words old c1 c2 c3 joined c4
    have ho : old.upd.settings = c.dev.upd.settings := by simp [old, d]
    refine .ite (fun _ => .mapDev (by simp [settings_ite])) fun _ => .ite (fun _ => .mapDev rfl) fun _ =>
      .ite (fun _ => .of_dev (by simp [ho])) fun _ => ?_
    have h1 : c.Safe c1 := .of_dev (by simp [ho])
    have h2 : c1.Safe c2 := c1.safe_writeEffect _ _ _ _ _ (by simp [c1])
    have h3 : c2.Safe c3 := .mapDev (by simp)
    have h4 : c3.Safe c4 := .ite (fun _ => .mapDev (by simp)) fun _ => .refl _
    exact h1.trans (h2.trans (h3.trans (h4.trans (.mapDev (settings_foldl (fun q d => d.logWrite_settings _ _ _) _ _)))))

theorem safe_swapEntry (e : Nat × Nat) (c : Chip) : c.Safe (c.swapEntry e) := by
  unfold swapEntry
  split
  · exact .refl c
  · extract_lets put
    have hput (h : Nat) (c : Chip) : c.Safe (put h c) :=
      .after_dev (safe_writeEffect _ _ _ _ _ _ (by simp)) (by simp)
    exact .ite (fun _ => .refl c) fun _ => .ite (fun _ => .forN hput 8 c) fun _ => hput 0 c

theorem safe_swapNow (c : Chip) : c.Safe c.swapNow := (Safe.forL safe_swapEntry _ c).trans (.mapDev (by simp))

theorem safe_swapLoaded (c : Chip) : c.Safe c.swapLoaded := by
  unfold swapLoaded
  split
  · exact .ite (fun _ => c.safe_swapNow) fun _ => .mapDev rfl
  · exact .refl c

theorem safe_swapEdge (t : Nat) (saved : Bool) (c : Chip) : c.Safe (c.swapEdge t saved) := by
  unfold swapEdge
  split
  · exact .ite (fun _ => .refl c) fun _ => .ite (fun _ => c.safe_swapNow) fun _ => .ite (fun _ => .mapDev rfl) fun _ => .refl c
  · exact .refl c

theorem safe_hostWrite (slot addr width w hwSet : Nat) (c : Chip) : c.Safe (c.hostWrite slot addr width w hwSet).1 := by
  unfold hostWrite
  dsimp only
  split
  · exact .of_dev (by simp)
  · simp only [apply_ite Prod.fst]
    exact .ite (fun _ => .of_dev (by simp)) fun _ => .ite (fun _ => .of_dev rfl) fun _ => c.safe_regWrite ..

theorem safe_hostRead (slot addr width inc : Nat) (c : Chip) : c.Safe (c.hostRead slot addr width inc).1 := by
  unfold hostRead
  dsimp only
  split
  · exact .of_dev (by simp)
  · split
    · exact .refl c
    · exact .of_dev (by simp)

theorem safe_answer (slot code : Nat) (data : List Byte) (c : Chip) : c.Safe (c.answer slot code data) := .mapDev (by simp)

theorem safe_doWrite (slot addr width w hwSet : Nat) (c : Chip) : c.Safe (c.doWrite slot addr width w hwSet) := by
  unfold doWrite
  refine .ite (fun _ => .refl c) fun _ => (c.safe_hostWrite (slot % 8) addr width (w % 2 ^ 32) hwSet).trans ?_
  dsimp only
  split
  · exact safe_answer ..
  · exact .refl _

theorem safe_doRead (slot addr width inc : Nat) (c : Chip) : c.Safe (c.doRead slot addr width inc) :=
  .ite (fun _ => .refl c) fun _ => (c.safe_hostRead ..).trans (safe_answer ..)

/-! ### Windows, SPI and Fuhel -/

theorem safe_portErrs (slot : Nat) (bad : List Nat) (write : Bool) (c : Chip) : c.Safe (c.portErrs slot bad write) :=
  .mapDev (by simp)

theorem safe_dpFault (slot why target a : Nat) (c : Chip) : c.Safe (c.dpFault slot why target a).1 :=
  .of_dev (c.dev.fault_settings ..)

theorem safe_dpRole (c : Chip) : c.Safe c.dpRole.1 := .of_dev c.dev.refuseWrite_settings

theorem safe_dpGuard (n : Nat) (c : Chip) {f : Chip → Chip × Nat} (hf : c.Safe (f c).1) : c.Safe (c.dpGuard n f).1 := by
  unfold dpGuard
  simp only [apply_ite Prod.fst]
  exact .ite (fun _ => c.safe_dpRole) fun _ => .ite (fun _ => .after_dev (safe_dpRole _) (by simp)) fun _ => hf

theorem safe_dpWrite (slot target a : Nat) (l : List Byte) (c : Chip) : c.Safe (c.dpWrite slot target a l).1 := by
  unfold dpWrite
  extract_lets d n done
  have hdone (p : Chip × Nat) : p.1.Safe (done p).1 := by
    unfold done
    simp only [apply_ite Prod.fst]
    exact .ite (fun _ => .mapDev (by simp)) fun _ => .refl _
  clear_value done
  have fault (w t x : Nat) : c.Safe (c.dpFault slot w t x).1 := c.safe_dpFault ..
  rw [apply_ite Prod.fst]
  refine .ite (fun _ => fault ..) fun _ => ?_
  split
  · split
    · exact fault ..
    · refine c.safe_dpGuard _ (.trans ?_ (hdone _))
      refine .trans (.of_kept ?_ ?_) (safe_portErrs slot _ true _)
      · exact c.mem.kept_writePort a l
      · rfl
  · simp only [apply_ite Prod.fst]
    exact .ite (fun _ => fault ..) fun _ => fault ..
  · simp only [apply_ite Prod.fst]
    exact .ite (fun _ => fault ..) fun _ => .ite (fun _ => fault ..) fun _ =>
      c.safe_dpGuard _ ((c.safe_winWrite slot a l).trans (hdone _))
  · simp only [apply_ite Prod.fst]
    exact .ite (fun _ => fault ..) fun _ => .ite (fun _ => fault ..) fun _ =>
      c.safe_dpGuard _ ((c.safe_setWrite a l).trans (hdone (_, _)))

theorem safe_dpRead (slot target a n : Nat) (c : Chip) : c.Safe (c.dpRead slot target a n).1 := by
  unfold dpRead
  extract_lets d zeros fail
  have fault (w x : Nat) : c.Safe (fail w x).1 := c.safe_dpFault ..
  clear_value fail
  rw [apply_ite Prod.fst]
  refine .ite (fun _ => fault ..) fun _ => ?_
  split
  · split
    · exact fault ..
    · exact c.safe_portErrs ..
  · simp only [apply_ite Prod.fst]
    exact .ite (fun _ => fault ..) fun _ => .ite (fun _ => fault ..) fun _ => .refl c
  · simp only [apply_ite Prod.fst]
    exact .ite (fun _ => fault ..) fun _ => .ite (fun _ => fault ..) fun _ => .mapDev (by simp [settings_ite])
  · simp only [apply_ite Prod.fst]
    exact .ite (fun _ => fault ..) fun _ => .ite (fun _ => fault ..) fun _ => .refl c

theorem safe_winCmd (slot target a : Nat) (l : List Byte) (c : Chip) : c.Safe (c.winCmd slot target a l) :=
  .ite (fun _ => .refl c) fun _ => (c.safe_dpWrite ..).trans (safe_answer ..)

theorem safe_spi {boot : Chip → Chip} {run : Nat → Chip → Chip} (hb : ∀ c : Chip, c.Safe (boot c))
    (hr : ∀ h (c : Chip), c.Safe (run h c)) (c : Chip) : c.Safe (c.spi boot run) := by
  unfold spi
  refine .ite (fun _ => .refl c) fun _ => ?_
  extract_lets c1
  have h1 : c.Safe c1 := .mapDev (by simp)
  clear_value c1
  refine h1.trans (.ite (fun _ => hb _) fun _ => ?_)
  split
  · exact hr _ _
  · exact .mapDev (by simp)

theorem safe_spiRefused (c : Chip) : c.Safe c.spiRefused := .mapDev (by simp)

theorem safe_spiRegWrite (addr value : Nat) (c : Chip) : c.Safe (c.spiRegWrite addr value) :=
  safe_spi safe_spiRefused (fun h c => (c.safe_hostWrite h addr 32 (value % 2 ^ 32) 0).trans (.mapDev (by simp))) c

theorem safe_spiRegRead (addr : Nat) (c : Chip) : c.Safe (c.spiRegRead addr) := by
  unfold spiRegRead
  extract_lets rd
  have hrd (h : Nat) (c : Chip) : c.Safe (rd h c) :=
    ((c.safe_hostRead h addr 32 0).trans (.mapDev (by simp))).trans (safe_answer ..)
  exact safe_spi (fun c => .ite (fun _ => hrd 0 c) fun _ => c.safe_spiRefused) hrd c

theorem safe_spiDpWrite (l : List Byte) (c : Chip) : c.Safe (c.spiDpWrite l) := by
  refine safe_spi (fun c => ?_) (fun h c => ?_) c
  · exact .ite (fun _ => .mapDev (by simp)) fun _ => .ite (fun _ => safe_bootPush ..) fun _ => c.safe_spiRefused
  · exact .ite (fun _ => .mapDev (by simp)) fun _ => .ite (fun _ => .mapDev (by simp)) fun _ =>
      (c.safe_dpWrite h _ _ l).trans (.mapDev (by simp [settings_ite]))

theorem safe_spiDpFetch (n : Nat) (c : Chip) : c.Safe (c.spiDpFetch n) := by
  refine safe_spi safe_spiRefused (fun h c => ?_) c
  exact .ite (fun _ => .mapDev (by simp)) fun _ => .ite (fun _ => .mapDev (by simp)) fun _ =>
    (c.safe_dpRead h _ _ n).trans (.mapDev (by simp [settings_ite]))

theorem safe_spiDpRead (c : Chip) : c.Safe c.spiDpRead := by
  refine safe_spi safe_spiRefused (fun h c => ?_) c
  split
  · exact .trans (.mapDev (by simp)) (safe_answer ..)
  · exact .trans (.mapDev (by simp)) (safe_answer ..)

theorem safe_spiInvalid (c : Chip) : c.Safe c.spiInvalid := .ite (fun _ => .refl c) fun _ => .mapDev (by simp)

theorem safe_fuhelIn (q : FuhelHdr) {f : Chip → Chip} (hf : ∀ c : Chip, c.Safe (f c)) (c : Chip) : c.Safe (c.fuhelIn q f) := by
  unfold fuhelIn
  refine .ite (fun _ => .refl c) fun _ => ?_
  extract_lets d k
  have hd : d.upd.settings = c.dev.upd.settings := by simp [d]
  clear_value d
  exact .ite (fun _ => .of_dev (by simp [hd])) fun _ => .ite (fun _ => .of_dev (by simp [hd])) fun _ =>
    (Safe.of_dev hd).trans (hf _)

theorem safe_fuhelReq (q : FuhelHdr) (op : Nat) {run : Chip → Chip × Nat × List Byte} (hr : ∀ c : Chip, c.Safe (run c).1)
    (c : Chip) : c.Safe (c.fuhelReq q op run) := by
  unfold fuhelReq
  dsimp only
  split
  · exact .mapDev (by simp)
  · next x _ =>
    refine .ite (fun _ => .mapDev (by simp)) fun _ => ?_
    generalize hc : c.mapDev (fun (d : Device) => d.setSess q.slot { x with port := q.rx.port, udp := q.rx.sport, lastNs := d.now }) = c1
    have h1 : c.Safe c1 := hc ▸ .mapDev (by simp)
    refine h1.trans (.ite (fun _ => ?_) fun _ => ?_)
    · exact (hr _).trans (.mapDev (by simp))
    · split
      · exact .ite (fun _ => .mapDev (by simp)) fun _ => .mapDev (by simp)
      · exact .mapDev (by simp)

theorem safe_fuhelClose (q : FuhelHdr) (c : Chip) : c.Safe (c.fuhelClose q) := by
  unfold fuhelClose
  dsimp only
  have h1 : c.Safe (c.fuhelReq q 0x02 (fun c => (c, resOk, []))) := safe_fuhelReq q _ (fun c => .refl c) c
  split
  · exact h1.trans (.ite (fun _ => .mapDev (by simp)) fun _ => .refl _)
  · exact h1

theorem safe_runReads (h : Nat) (l : List Nat) : ∀ c : Chip, c.Safe (runReads h l c).1 := by
  induction l with
  | nil => exact .refl
  | cons a r ih =>
    intro c
    unfold runReads
    dsimp only
    split
    · exact (c.safe_hostRead ..).trans (ih _)
    · exact c.safe_hostRead ..

theorem safe_runWrites (h : Nat) (l : List (Nat × Nat)) : ∀ c : Chip, c.Safe (runWrites h l c).1 := by
  induction l with
  | nil => exact .refl
  | cons a r ih =>
    intro c
    unfold runWrites
    dsimp only
    split
    · exact (c.safe_hostWrite ..).trans (ih _)
    · exact c.safe_hostWrite ..

theorem safe_fuhelReads (q : FuhelHdr) (addrs : List Nat) (c : Chip) : c.Safe (c.fuhelReads q addrs) := by
  refine safe_fuhelReq q _ (fun c => ?_) c
  rw [apply_ite Prod.fst]
  exact .ite (fun _ => .refl c) fun _ => safe_runReads _ _ c

theorem safe_fuhelWrites (q : FuhelHdr) (writes : List (Nat × Nat)) (c : Chip) : c.Safe (c.fuhelWrites q writes) := by
  refine safe_fuhelReq q _ (fun c => ?_) c
  rw [apply_ite Prod.fst]
  exact .ite (fun _ => .refl c) fun _ => safe_runWrites _ _ c

theorem safe_fuhelStart (m : Instr) (c : Chip) : c.Safe (c.fuhelStart m) := by
  unfold fuhelStart
  split
  · exact c.safe_fuhelReads ..
  · exact c.safe_fuhelWrites ..
  · exact .refl c

theorem safe_fuhelTimed (m : Instr) (c : Chip) : c.Safe (c.fuhelTimed m) :=
  .ite (fun _ => c.safe_fuhelStart m) fun _ => .mapDev rfl

theorem safe_fuhelLate (c : Chip) : c.Safe c.fuhelLate :=
  .ite (fun _ => .trans (.mapDev (f := fun d => { d with host := { d.host with late := [] } }) rfl) (.forL safe_fuhelStart _ _))
    fun _ => .refl c

theorem safe_fuhelDpWrite (q : FuhelHdr) (target addr : Nat) (l : List Byte) (c : Chip) : c.Safe (c.fuhelDpWrite q target addr l) := by
  refine safe_fuhelReq q _ (fun c => ?_) c
  dsimp only
  rw [apply_ite Prod.fst]
  exact .ite (fun _ => .refl c) fun _ => (c.safe_dpWrite ..).trans (.ite (fun _ => .mapDev (by simp)) fun _ => .refl _)

theorem safe_fuhelDpRead (q : FuhelHdr) (target addr n : Nat) (c : Chip) : c.Safe (c.fuhelDpRead q target addr n) := by
  refine safe_fuhelReq q _ (fun c => ?_) c
  dsimp only
  rw [apply_ite Prod.fst]
  exact .ite (fun _ => .refl c) fun _ => (c.safe_dpRead ..).trans (.ite (fun _ => .mapDev (by simp)) fun _ => .refl _)

/-! ### Debug -/

theorem safe_unlockTry (key sig : List Byte) (slot : Nat) (c : Chip) : c.Safe (c.unlockTry key sig slot) :=
  .ite (fun _ => .refl c) fun _ => .ite (fun _ => .of_dev (by simp)) fun _ => .of_dev (by simp)

theorem safe_debug (op : DebugOp) (c : Chip) : c.Safe (c.debug op) := by
  unfold debug
  extract_lets d h
  refine .ite (fun _ => .refl c) fun _ => .ite (fun _ => safe_answer ..) fun _ => ?_
  split
  · exact .trans (.mapDev (by simp)) (safe_answer ..)
  · split
    · exact .ite (fun _ => .mapDev (by simp)) fun _ => .refl c
    · exact (c.safe_hostRead ..).trans (safe_answer ..)
    · exact (c.safe_hostWrite ..).trans (safe_answer ..)
    · exact (c.safe_dpRead ..).trans (safe_answer ..)
    · exact (c.safe_dpWrite ..).trans (safe_answer ..)

/-! ### The pair -/

theorem safe_mirrorDo (e : MirrorEntry) (c : Chip) : c.Safe (c.mirrorDo e) := by
  unfold mirrorDo
  split
  · refine .of_kept ?_ (by simp)
    exact c.mem.kept_writePort ..
  · exact c.safe_winStore ..
  · exact c.safe_setWrite ..

theorem safe_mirrorIn (hdr : TetherHdr) (l : List MirrorEntry) (c : Chip) : c.Safe (c.mirrorIn hdr l) := by
  unfold mirrorIn
  extract_lets p c1 c2
  have h1 : c.Safe c1 := .of_dev (by simp [p])
  have h2 : c1.Safe c2 := by
    refine .forL (fun e c => ?_) l c1
    split
    · exact .ite (fun _ => (c.safe_mirrorDo e).trans (.mapDev (by simp))) fun _ => .refl c
    · exact .refl c
  exact h1.trans (.ite (fun _ => .refl _) fun _ => h2.trans (.mapDev (by simp)))

theorem safe_syncIn (hdr : TetherHdr) (pages : List (Nat × List Byte)) (total : Nat) (endSeq : Option Nat) (c : Chip) :
    c.Safe (c.syncIn hdr pages total endSeq) := by
  unfold syncIn
  extract_lets p d c1 m old got d1 d2
  have hd : d.upd.settings = c.dev.upd.settings := by simp [d, p, settings_ite]
  have h1 : c.Safe c1 := .of_dev hd
  have hm : c.mem.Kept m := .forL (fun q m => m.kept_writePort _ _) pages _
  have h2 : d2.upd.settings = d.upd.settings := by
    unfold d2 d1
    rw [Device.put_settings, settings_forL (fun q d => by simp)]
  clear_value m d2
  exact h1.trans (.ite (fun _ => .refl _) fun _ => .of_kept hm (by simp [c1, h2]))

theorem safe_writeCopied (slot addr value : Nat) (c : Chip) : c.Safe (c.writeCopied slot addr value) :=
  .ite (fun _ => .refl c) fun _ => .ite (fun _ => .ite (fun _ => .refl c) fun _ => .mapDev (by simp)) fun _ => c.safe_regWrite ..

theorem safe_layoutCopied (layout : Option Nat) (req : Option (Nat × Bool)) (c : Chip) : c.Safe (c.layoutCopied layout req) := by
  unfold layoutCopied
  extract_lets pending c1
  have h1 : c.Safe c1 := by
    unfold c1
    split
    · exact .ite (fun _ => c.safe_prepared) fun _ => .refl c
    · exact .refl c
  clear_value c1
  refine h1.trans ?_
  split
  · exact .refl _
  · exact .ite (fun _ => .refl _) fun _ => .ite (fun _ => safe_prepared _) fun _ =>
      .trans (.mapDev (by simp)) (safe_prepared _)

theorem safe_applyItem (i : CtlItem) (c : Chip) : c.Safe (c.applyItem i) := by
  unfold applyItem
  split
  · exact c.safe_layoutCopied ..
  · exact c.safe_writeCopied ..
  all_goals exact .mapDev (by simp [settings_ite])

theorem safe_applyState (l : List CtlItem) (c : Chip) : c.Safe (c.applyState l) :=
  .trans (.mapDev (f := fun d => { d with latch := [], held := [] }) rfl)
    (.trans (.forL safe_applyItem _ _) (.mapDev (by simp [settings_ite])))

theorem safe_burstEdge (u : Nat) (c : Chip) : c.Safe (c.burstEdge u) := by
  unfold burstEdge
  extract_lets p c1 d miss hit items
  have h1 : c.Safe c1 := .mapDev (by simp)
  have hmiss (c : Chip) : c.Safe (miss c) := .mapDev (by simp)
  have hhit (c : Chip) : c.Safe (hit c) := .mapDev (by simp)
  clear_value miss hit items d c1
  refine h1.trans (.ite (fun _ => .refl _) fun _ => .ite (fun _ => ?_) fun _ => .ite (fun _ => .ite (fun _ => ?_) fun _ => ?_) fun _ => .refl _)
  · split
    · exact (hhit _).trans (safe_applyState _ _)
    · exact hmiss _
  · exact .mapDev (by simp)
  · split
    · exact .ite (fun _ => .trans ((hhit _).trans (safe_applyState _ _)) (.mapDev (by simp))) fun _ => hhit _
    · exact hmiss _

theorem safe_deferredEdge (c : Chip) : c.Safe c.deferredEdge := by
  unfold deferredEdge
  refine .trans (.mapDev (f := fun d => { d with deferred := [] }) rfl) (.forL (fun q c => ?_) _ _)
  refine (c.safe_hostWrite q.1 q.2.1 32 q.2.2 0).trans ?_
  dsimp only
  split
  · exact .trans (safe_answer ..) (.mapDev (by simp [settings_ite]))
  · exact .refl _

theorem safe_tickEdge (err : Nat) (saved : Bool) (c : Chip) : c.Safe (c.tickEdge err saved) := by
  unfold tickEdge
  refine .ite (fun _ => .refl c) fun _ => ?_
  extract_lets first t u c1 c2 c3
  have h1 : c.Safe c1 := by
    refine .mapDev ?_
    have h : ((((c.dev.waitUntil (c.dev.edgeNs t)).markTails c.dev.tick.leave).edgeStart t err)).upd.settings = c.dev.upd.settings := by
      simp
    exact (settings_ite ..).trans (by rw [settings_forN (fun o d => by simp), h, ite_self])
  have h2 : c1.Safe c2 := (safe_burstEdge u c1).trans (safe_swapEdge t saved _)
  have h3 : c2.Safe c3 := .mapDev (by simp [settings_ite])
  exact h1.trans (h2.trans (h3.trans ((safe_deferredEdge _).trans (safe_fuhelLate _))))

end Chip

end Sys2Proof.Machine
end

section
/-!
SUPPORT. Every command and the idle step is safe: O58, O59 and O3.
-/

namespace Sys2Proof.Machine

namespace Chip

/-! ### Steps -/

/-- The outcome is a next state in which the queue is as before and the block came about safely. -/
def SafeNext (s : State) (o : Host.Outcome State Fault Refusal) : Prop :=
  ∃ e, o = .next { s with chip := e } ∧ s.chip.Safe e

theorem next_chip {s : State} {e : Chip} (h : s.chip.quiet.Safe e) : SafeNext s (.next { s with chip := e }) :=
  ⟨e, rfl, .after_dev h rfl⟩

theorem next_dev {s : State} {d : Device} (h : d.upd.settings = s.chip.dev.quiet.upd.settings) :
    SafeNext s (.next { s with chip := { s.chip with dev := d } }) := ⟨_, rfl, .of_dev h⟩

/-- Every command answers a next state with the queue as before, memory canonical and no fuse lowered. -/
theorem safeNext_exec (c : Instr) (s : State) : SafeNext s (exec c s) := by
  cases c
  case registerWrite | loWriteHold | hiWriteApply | tickPageFlush | frsAckSource | frsAckAll | layoutRequest |
    layoutCancel | outOwnerWrite | berthQuery | berthPinSource | berthPinOutput | berthPinRelease | poolConfigWrite |
    matCommit | matQuery | decOpen | decClose | decResync | encOpen | encClose | encRefresh | encBitRateWrite |
    rxFlowEnableWrite | portEnable | portDisable | tetherEnable | tetherDisable | scanStart | timeRelock | timeSelect
    | timeCancel | trigEnableWrite | pairEnWrite | pairHandover | pairResync | pwrCmdWatch | pwrCmdStandby |
    pwrCmdReady | pwrCmdRun | lcToProduction | lcToDecommissioned | updOpen | updClose | updVerify | updActivate |
    updSwap | updConfirm | updRevert | chkData8 | chkData16 | chkData32 | chkInit | chkFinish | chkRange | perfSnap |
    perfStart | perfStop | perfClear | bboxArm | bboxMark | touchRebase | touchRebaseAll | touchGainWrite |
    touchEnWrite =>
    exact next_chip <| safe_doWrite ..
  case rcRead | loReadLatch | timeNowRead | capturePop | evqPop | perfSamplePop =>
    exact next_chip <| safe_doRead ..
  case tickEdge => exact next_chip <| safe_tickEdge ..
  case sealDeadline => exact next_chip <| safe_sealDeadline ..
  case tileBlendComplete => exact next_chip <| safe_tileBlend ..
  case layoutPrepareComplete => exact next_chip <| safe_prepared ..
  case ingestPacketReceive => exact next_chip <| safe_ingestRx ..
  case streamPacketReceive => exact next_chip <| safe_streamRx ..
  case decodePictureComplete => exact next_chip <| safe_decodeDone ..
  case encSliceComplete => exact next_chip <| safe_encSlice ..
  case encDeadline => exact next_chip <| safe_encDeadline ..
  case witnessStampReceive => exact next_chip <| safe_witnessRx ..
  case tetherMirrorReceive => exact next_chip <| safe_mirrorIn ..
  case tetherSyncReceive => exact next_chip <| safe_syncIn ..
  case memReadResponse => exact next_chip <| safe_memRead ..
  case porAssert => exact next_chip <| safe_porAssert ..
  case pinResetAssert => exact next_chip <| safe_pinAssert ..
  case domainClockLock => exact next_chip <| safe_clockLock ..
  case domainClockTimeout => exact next_chip <| safe_clockTimeout ..
  case boot => exact next_chip <| safe_bootStart ..
  case hostPushWrite => exact next_chip <| safe_bootPush ..
  case spiStatus => exact next_chip <| safe_spi .refl (fun _ => .refl) _
  case spiRegWrite => exact next_chip <| safe_spiRegWrite ..
  case spiRegRead => exact next_chip <| safe_spiRegRead ..
  case spiDpWrite => exact next_chip <| safe_spiDpWrite ..
  case spiDpFetch => exact next_chip <| safe_spiDpFetch ..
  case spiDpRead => exact next_chip <| safe_spiDpRead ..
  case spiInvalidTransaction => exact next_chip <| safe_spiInvalid ..
  case debugUnlockResponse => exact next_chip <| safe_unlockTry ..
  case debugAccess => exact next_chip <| safe_debug ..
  case updVerifyDone => exact next_chip <| safe_verifyDone ..
  case updWindowWrite => exact next_chip <| safe_winCmd ..
  case settingsWindowWrite => exact next_chip <| safe_winCmd ..
  case settingsProgramComplete => exact next_chip <| safe_settingsDone ..
  case swapLoadComplete => exact next_chip <| safe_swapLoaded ..
  case memWriteAck => exact next_chip <| safe_memAck ..
  case updFlashWriteComplete => exact next_chip <| safe_flashDone ..
  case fuhelOpen => exact next_chip (safe_fuhelIn _ (fun c => .of_dev (c.dev.fuhelOpen_settings _)) _)
  case fuhelClose => exact next_chip (safe_fuhelIn _ (safe_fuhelClose _) _)
  case fuhelRegRead => exact next_chip (safe_fuhelIn _ (safe_fuhelTimed _) _)
  case fuhelRegWrite => exact next_chip (safe_fuhelIn _ (safe_fuhelTimed _) _)
  case fuhelDpWrite => exact next_chip (safe_fuhelIn _ (safe_fuhelDpWrite _ _ _ _) _)
  case fuhelDpRead => exact next_chip (safe_fuhelIn _ (safe_fuhelDpRead _ _ _ _) _)
  case fuhelEvqAck => exact next_chip (safe_fuhelIn _ (safe_fuhelReq _ _ fun c => .of_dev (c.dev.evqAck_settings ..)) _)
  case fuhelKeepalive => exact next_chip (safe_fuhelIn _ (safe_fuhelReq _ _ fun c => .refl c) _)
  case fuhelReservedOp => exact next_chip (safe_fuhelIn _ (safe_fuhelReq _ _ fun c => .refl c) _)
  case mediaFrameDrop => exact next_dev (Device.receive_settings _ _ _ fun _ => by simp)
  case pairStateStale => exact next_dev (by rw [settings_ite]; simp)
  case layoutLate | workListPublished | sentinelPublishCheck | katComplete | sentinelCertify | pagerFetchComplete |
    engineWatchdogExpire | stepGapStart | timeStepApply | outputFrameSendStart | videoPacketSend | loopbackTileCheck |
    stampSend | layoutTimeout | moorSpillMoveComplete | ingestSkewTimeout | accessUnitIdleClose | encCtuRowStart |
    feedPacketSend | feedLoopbackCheck | arpRequestReceive | arpReplyReceive | arpRetryTimer |
    arpRefreshTimer | icmpEchoRequest | igmpQueryReceive | igmpReportRepeat | igmpV2Timeout | witnessVerdict |
    laneAnComplete | laneTrainComplete | laneLockAcquired | laneAlignComplete | laneLockLoss | laneAttemptTimeout |
    refclkLoss | refclkRecover | adaptFreeze | adaptResume | marginCheckTimer | marginCheckComplete |
    tetherAttemptStart | tetherPartnerDetect | tetherAttemptTimeout | tetherUp | tetherWindowOpen | tetherWindowClose
    | laneRetrainStart | laneRetrainComplete | laneRetrainAbandon | scanComplete | ptpAnnounceReceive | ptpSyncReceive
    | ptpFollowUpReceive | ptpDelayRespReceive | ptpDelayReqSend | ptpAnnounceTimeout | ptpSyncTimeout |
    tickOutPulseStart | tickOutPulseEnd | trigPulseStart | trigPulseEnd | captureEdge | reinOutRelease |
    reinReleasePattern | reinPulseReceive | pairReinStuck | stateBurstStart | tetherStateReceive |
    tetherStateEndReceive | tetherHealthReceive | leaseCommitReceive | leaseRevertReceive | leaseRetrainReceive |
    tetherDigestReceive | tetherDecisionReceive | healthWordForm | digestSend | pairDecision |
    joiningTimeout | handoverTakeback | resyncComplete | memRequest | memRefreshDue | memStackTempHigh |
    memScrubPassEnd | memFchgLock | memFchgTimeout | porRelease | pinResetRelease | spiDpFetchComplete |
    fuhelEventSend | fuhelEventRepeat | fuhelSessionTimeout | swapAbandon | updSessionTimeout | chkRangeComplete |
    perfBwWindow | perfSample | bboxEntryWrite | touchScan | gpioInputEdge | thermalAlarm | thermalClear |
    memStackTempNormal | sramBistComplete =>
    refine next_dev ?_
    simp [settings_ite]

theorem safe_idle (c : Chip) : c.Safe c.idle := .mapDev (by simp)

theorem safe_step {s t : State} (h : step s = .next t) : s.chip.Safe t.chip := by
  unfold step at h
  split at h
  · cases h
    exact safe_idle _
  · next c rest _ =>
    obtain ⟨e, he, hs⟩ := safeNext_exec c { s with pending := rest }
    cases he.symm.trans h
    exact hs

end Chip

/-- Settles O58: every command, and the idle step, keeps the canonical forms. -/
theorem everyStepKeepsMemoriesCanonical : Obligations.EveryStepKeepsMemoriesCanonical :=
  fun _ _ h hm hs => (Chip.safe_step h).canonical ⟨hm, hs⟩

/-- Settles O59: fuses are only blown, by a life-cycle command and by CONFIRM, and both take a maximum. -/
theorem noStepLowersAFuse : Obligations.NoStepLowersAFuse := fun _ _ h =>
  have ⟨lc, svn, owner, debug⟩ := (Chip.safe_step h).fuses
  ⟨lc, svn, owner, debug⟩

/-- Settles O3: the meaning of every command is a change of the block alone. -/
theorem everyCommandAnswersANextState : Obligations.EveryCommandAnswersANextState := fun c s =>
  have ⟨_, he, _⟩ := Chip.safeNext_exec c s
  ⟨_, he, rfl⟩

end Sys2Proof.Machine
end

section
/-!
SUPPORT. Steps, the state at reset, general pins and the temperature alarm: O1, O2, O60 and O57.
-/

namespace Sys2Proof.Machine

/-! ### The queue, idle steps, and the state at reset -/

/-- Settles O1: the definition of a step. -/
theorem stepRunsTheFrontCommand : Obligations.StepRunsTheFrontCommand := by
  intro c rest s h
  simp [step, h]

/-- Time that passes: the crystal's count by as much, device time by none or more, and the counters of cycles. -/
theorem Device.elapse_moves (d : Device) (n : Nat) :
    ∃ e f p, d.elapse n = { d with now := d.now + n, devNs := d.devNs + e, devFrac := f, perf := p } := by
  have counted (e : Device) : ∃ p, (if e.coreOn then e.cycles n else e) = { e with perf := p } := by
    split
    · exact e.cycles_only n
    · exact ⟨e.perf, rfl⟩
  unfold elapse
  dsimp only
  generalize d.devFrac + (if d.pd1On then n * (1000000000 + d.ppb).toNat else 0) = t
  obtain ⟨p, h⟩ := counted { d with now := d.now + n, devNs := d.devNs + t / 1000000000, devFrac := t % 1000000000 }
  exact ⟨_, _, p, h⟩

/-- Settles O2: an idle step is one nanosecond of the crystal. -/
theorem emptyQueueLetsTimePass : Obligations.EmptyQueueLetsTimePass := by
  intro s h
  obtain ⟨e, f, p, he⟩ := s.chip.dev.quiet.elapse_moves 1
  have run : step s = .next { s with chip := { s.chip with dev := s.chip.dev.quiet.elapse 1 } } := by
    simp [step, h, Chip.idle, Chip.mapDev]
  rw [run, he]
  exact ⟨_, rfl, h, rfl, rfl, rfl, rfl, rfl, Nat.le_add_right .., rfl⟩

/-- Settles O60: after reset no field differs from its table. -/
theorem resetMeetsInvariantsAndRegisterTables : Obligations.ResetMeetsInvariantsAndRegisterTables := by
  refine ⟨rfl, rfl, rfl, fun _ _ => rfl, fun _ _ _ => rfl, fun _ => rfl, by decide +kernel, fun n _ => ⟨rfl, rfl, rfl⟩, rfl, rfl⟩

/-! ### Pins and the temperature alarm -/

/-- Adding a bit that is clear sets it and no other. -/
theorem testBit_add_two_pow {w n : Nat} (h : w.testBit n = false) (j : Nat) :
    (w + 2 ^ n).testBit j = if j = n then true else w.testBit j := by
  rcases lt_trichotomy j n with hj | rfl | hj
  · rw [if_neg hj.ne, Nat.add_comm, Nat.testBit_two_pow_add_gt hj]
  · rw [if_pos rfl, Nat.add_comm, Nat.testBit_two_pow_add_eq, h, Bool.not_false]
  · obtain ⟨k, rfl⟩ : ∃ k, j = n + 1 + k := ⟨j - (n + 1), by omega⟩
    have even : w / 2 ^ n % 2 = 0 := by simpa [Nat.testBit_eq_decide_div_mod_eq] using h
    have same : (w + 2 ^ n) / 2 ^ (n + 1) = w / 2 ^ (n + 1) := by
      rw [pow_succ, ← Nat.div_div_eq_div_mul, ← Nat.div_div_eq_div_mul, Nat.add_div_right _ (by positivity)]
      omega
    rw [if_neg hj.ne', Nat.add_comm (n + 1) k, ← Nat.testBit_div_two_pow, same, Nat.testBit_div_two_pow]

theorem testBit_sub_two_pow {w n : Nat} (h : w.testBit n = true) (j : Nat) :
    (w - 2 ^ n).testBit j = if j = n then false else w.testBit j := by
  have hw : w - 2 ^ n + 2 ^ n = w := Nat.sub_add_cancel (Nat.ge_two_pow_of_testBit h)
  have hn : (w - 2 ^ n).testBit n = false := by
    have := Nat.testBit_two_pow_add_eq (w - 2 ^ n) n
    rw [Nat.add_comm, hw, h] at this
    simpa using this.symm
  have := testBit_add_two_pow hn j
  rw [hw] at this
  split
  · next e => rw [e, hn]
  · next e => rw [this, if_neg e]

theorem testBit_setBit (w n j : Nat) (b : Bool) : (setBit w n b).testBit j = if j = n then b else w.testBit j := by
  unfold setBit
  cases b <;> cases h : w.testBit n
  · by_cases e : j = n <;> simp [e, h]
  · simp [testBit_sub_two_pow h]
  · simp [testBit_add_two_pow h]
  · by_cases e : j = n <;> simp [e, h]

theorem setBit_lt {w n m : Nat} (hw : w < 2 ^ m) (hn : n < m) (b : Bool) : setBit w n b < 2 ^ m := by
  refine Nat.lt_pow_two_of_testBit _ fun j hj => ?_
  rw [testBit_setBit, if_neg (by omega)]
  exact Nat.testBit_lt_two_pow (hw.trans_le (Nat.pow_le_pow_right two_pos hj))

theorem Device.get_gpioEdge_in {d : Device} {k : Nat} {level : Bool} (hk : k < 24) (h : (d.get F.GPIO_IN_IN).testBit k ≠ level) :
    (d.gpioEdge k level).get F.GPIO_IN_IN = setBit (d.get F.GPIO_IN_IN) k level := by
  have fits : setBit (d.get F.GPIO_IN_IN) k level % 2 ^ 24 = setBit (d.get F.GPIO_IN_IN) k level :=
    Nat.mod_eq_of_lt (setBit_lt (d.get_lt _ _) hk _)
  unfold gpioEdge
  simp only [Nat.mod_eq_of_lt hk, if_neg h]
  split
  · rw [get_raise _ _ _ _ _ (by decide) (by decide), get_put_ne _ _ _ _ _ _ (by decide), get_put_same]
    exact fits
  · rw [get_put_same]
    exact fits

theorem Device.gpioEdge_of_disabled {d : Device} {k : Nat} {level : Bool} (hk : k < 24)
    (h : (d.get F.GPIO_IN_IN).testBit k ≠ level) (he : (d.get F.GPIO_EDGE_EN_EN).testBit k = false) :
    d.gpioEdge k level = d.put F.GPIO_IN_IN 0 (setBit (d.get F.GPIO_IN_IN) k level) := by
  simp only [gpioEdge, Nat.mod_eq_of_lt hk, if_neg h, get_put_ne _ F.GPIO_IN_IN F.GPIO_EDGE_EN_EN _ _ _ (by decide), he]
  simp

theorem Device.gpioEdge_of_enabled {d : Device} {k : Nat} {level : Bool} (hk : k < 24)
    (h : (d.get F.GPIO_IN_IN).testBit k ≠ level) (he : (d.get F.GPIO_EDGE_EN_EN).testBit k = true) :
    d.gpioEdge k level = ((d.put F.GPIO_IN_IN 0 (setBit (d.get F.GPIO_IN_IN) k level)).put F.GPIO_EDGE_EDGE 0
      (setBit (d.get F.GPIO_EDGE_EDGE) k true)).raise F.GPIO_EVENTS_EDGE k := by
  simp only [gpioEdge, Nat.mod_eq_of_lt hk, if_neg h, get_put_ne _ F.GPIO_IN_IN F.GPIO_EDGE_EN_EN _ _ _ (by decide), he,
    get_put_ne _ F.GPIO_IN_IN F.GPIO_EDGE_EDGE _ _ _ (by decide)]
  simp

/-- THERMAL is bit 5 of the alarm word, above five bits of other causes. -/
theorem Device.alarmWord_thermal (d : Device) : d.alarmWord.testBit 5 = d.on F.SYS_ALARM_THERMAL := by
  have bits (a b c e f g : Nat) (ha : a ≤ 1) (hb : b ≤ 2) (hc : c ≤ 4) (he : e ≤ 8) (hf : f ≤ 16) (hg : g = 0 ∨ g = 32) :
      (a + b + c + e + f + g).testBit 5 = decide (g = 32) := by
    rw [Nat.testBit_eq_decide_div_mod_eq]
    rcases hg with rfl | rfl <;> simp <;> omega
  unfold alarmWord
  rw [bits]
  · by_cases h : d.on F.SYS_ALARM_THERMAL <;> simp [h]
  all_goals split <;> simp

/-- Settles O57: each command writes its own fields, through `setBit` where one pin of a word is meant. -/
theorem pinEdgesAndTemperature : Obligations.PinEdgesAndTemperature := by
  intro s k level hk d
  refine ⟨fun h => ⟨_, rfl, rfl, ?_, fun j _ hj => ?_, fun he => ⟨?_, ?_⟩, fun he => ⟨?_, ?_⟩⟩, ⟨_, rfl, rfl, rfl, ?_⟩, ⟨_, rfl, rfl, rfl, ?_⟩⟩
  · rw [Device.get_gpioEdge_in (d := d.quiet) hk h, testBit_setBit, if_pos rfl]
  · rw [Device.get_gpioEdge_in (d := d.quiet) hk h, testBit_setBit, if_neg hj]
    rfl
  · rw [Device.gpioEdge_of_enabled (d := d.quiet) hk h he, Device.get_raise _ _ _ _ _ (by decide) (by decide), Device.get_put_same,
      Nat.mod_eq_of_lt (setBit_lt (Device.get_lt _ F.GPIO_EDGE_EDGE _) hk _), testBit_setBit, if_pos rfl]
  · rw [Device.gpioEdge_of_enabled (d := d.quiet) hk h he, Device.get_raise_same _ _ _ (by decide)]
  · rw [Device.gpioEdge_of_disabled (d := d.quiet) hk h he]
    rfl
  · rw [Device.gpioEdge_of_disabled (d := d.quiet) hk h he, Device.get_put_ne _ _ _ _ _ _ (by decide)]
    rfl
  · rw [Device.alarmWord_thermal]
    simp [Device.on, F.SYS_ALARM_THERMAL]
  · rw [Device.alarmWord_thermal]
    simp [Device.on, F.SYS_ALARM_THERMAL]

end Sys2Proof.Machine
end

section
/-!
SUPPORT. Fuhel events: O17.
-/

namespace Sys2Proof.Machine

/-! ### Fuhel events -/

theorem Device.countTx_only (d : Device) (p n : Nat) : ∃ q, d.countTx p n = { d with perf := q } := by
  obtain ⟨q, h⟩ := d.count_only 0x13 p 1
  exact ⟨_, by simp only [countTx, h]; rfl⟩

/-- A Fuhel message counts on its port and is handed out; nothing else changes. -/
theorem Device.fuhelSend_only (d : Device) (port ip udp op session seq slot status : Nat) (body : List Byte) :
    ∃ q, d.fuhelSend port ip udp op session seq slot status body =
      { d with perf := q, out := d.out ++ [.fuhel port (d.txTag port) (d.unitAddr port) ip udp op session seq slot status body
        (fuhelBytes op session seq slot status body)] } := by
  unfold fuhelSend
  dsimp only
  split
  · obtain ⟨q, h⟩ := d.countTx_only port (frameLen (d.txTag port).isSome (fuhelBytes op session seq slot status body).length)
    exact ⟨q, by rw [h]; rfl⟩
  · exact ⟨d.perf, rfl⟩

/-- A wait ends at the given time, or at once where that has passed. -/
theorem Device.waitNow_now (d : Device) (t : Nat) : (d.waitNow t).now = max d.now t := by
  unfold waitNow
  split
  · next h => exact (max_eq_left h).symm
  · next h =>
    obtain ⟨e, f, p, he⟩ := d.elapse_moves (t - d.now)
    rw [he]
    show d.now + (t - d.now) = max d.now t
    omega

@[simp] theorem Device.queue_quiet (d : Device) (slot : Nat) : d.quiet.queue slot = d.queue slot := rfl

/-- The EVENT of a session: COUNT and the bytes of up to 32 of the oldest entries (R377). -/
def Device.eventMsg (d : Device) (slot : Nat) (x : FuhelSess) : Out :=
  let l := (d.queue slot).take 32
  let body := beBytes 2 l.length ++ l.flatMap EvEntry.bytes
  .fuhel x.port (d.txTag x.port) (d.unitAddr x.port) x.ip x.udp 0x30 x.num 0 slot 0 body (fuhelBytes 0x30 x.num 0 slot 0 body)

/-- Sending an EVENT puts it in hand, counts on its port and hands it out. -/
theorem Device.eventOut_only (d : Device) (slot : Nat) (x : FuhelSess) :
    ∃ q, d.eventOut slot x = { d.setSess slot { x with eventNs := some d.now } with perf := q, out := d.out ++ [d.eventMsg slot x] } :=
  (d.setSess slot { x with eventNs := some d.now }).fuhelSend_only ..

/-- Settles O17: a message out changes the session and the counter of the port. -/
theorem fuhelEventsAreSentAndRepeated : Obligations.FuhelEventsAreSentAndRepeated := by
  intro s slot x _ hx d l body event
  have hsess : d.quiet.sess slot = some x := hx
  refine ⟨fun hq hev => ?_, fun t0 hq hev => ?_, fun hq c hc => ?_⟩
  · have run : d.quiet.eventSend slot = d.quiet.eventOut slot x := by
      simp [Device.eventSend, hsess, hq, hev]
    obtain ⟨q, h⟩ := d.quiet.eventOut_only slot x
    refine ⟨{ s with chip := { s.chip with dev := d.quiet.eventSend slot } }, rfl, rfl, ?_⟩
    rw [run, h]
    exact ⟨rfl, rfl, Tab.find_set_same .., rfl⟩
  · have run : d.quiet.eventRepeat slot = (d.quiet.waitNow (t0 + 100000000)).eventOut slot x := by
      simp [Device.eventRepeat, hsess, hq, hev]
    obtain ⟨q, h⟩ := (d.quiet.waitNow (t0 + 100000000)).eventOut_only slot x
    refine ⟨{ s with chip := { s.chip with dev := d.quiet.eventRepeat slot } }, rfl, rfl, ?_⟩
    have hnow : (d.quiet.waitNow (t0 + 100000000)).now = max d.now (t0 + 100000000) := d.quiet.waitNow_now _
    obtain ⟨a, b, f, p, hw⟩ := d.quiet.waitNow_only (t0 + 100000000)
    rw [hw] at hnow
    rw [run, h, hw]
    exact ⟨rfl, rfl, hnow, Tab.find_set_same .., rfl⟩
  · simp only [List.mem_cons, List.not_mem_nil, or_false] at hc
    rcases hc with rfl | rfl
    · exact ⟨{ s with chip := { s.chip with dev := d.quiet.eventSend slot } }, rfl, rfl, by simp [Device.eventSend, hsess, hq]; rfl⟩
    · refine ⟨{ s with chip := { s.chip with dev := d.quiet.eventRepeat slot } }, rfl, rfl, ?_⟩
      cases hev : x.eventNs <;> simp [Device.eventRepeat, hsess, hq, hev] <;> rfl

end Sys2Proof.Machine
end

section
/-!
SUPPORT. The event queues: O11.
-/

namespace Sys2Proof.Machine

/-! ### Event queues -/

@[simp] theorem Device.queue_putS (d : Device) (f : Fld) (h i v slot : Nat) : (d.putS f h i v).queue slot = d.queue slot := rfl

theorem Device.getS_putS_ne (d : Device) (f g : Fld) (h k i j v : Nat) (hf : f.id ≠ g.id) :
    (d.putS f h i v).getS g k j = d.getS g k j := by
  rw [getS_putS, if_neg (fun e => hf e.1)]

theorem Device.evqPop_empty {d : Device} {slot : Nat} (h : d.queue slot = []) : d.evqPop slot = (d, 0xFFFFFFFF) := by
  simp [evqPop, h]

/-- The device after its oldest entry has been taken: the words of `e` in the slot's POP registers. -/
def Device.popped (d : Device) (slot : Nat) (e : EvEntry) (rest : List EvEntry) : Device :=
  ((({ d with evq := Tab.set d.evq slot rest } : Device).putS F.HOST_EVQ_POP1_WORD slot 0 (e.tick % 2 ^ 32)).putS
    F.HOST_EVQ_POP2_WORD slot 0 (e.tick / 2 ^ 32)).putS F.HOST_EVQ_POP3_WORD slot 0 e.ns

theorem Device.evqPop_oldest {d : Device} {slot : Nat} {e : EvEntry} {rest : List EvEntry} (h : d.queue slot = e :: rest) :
    d.evqPop slot = (d.popped slot e rest, e.block * 2 ^ 27 + e.bit * 2 ^ 22 + e.arg % 2 ^ 16) := by
  simp [evqPop, h, popped]

def popFields : List Fld := [F.HOST_EVQ_POP1_WORD, F.HOST_EVQ_POP2_WORD, F.HOST_EVQ_POP3_WORD]

theorem Device.keeps_popped (d : Device) (slot : Nat) (e : EvEntry) (rest : List EvEntry) :
    d.keeps (d.popped slot e rest) (but popFields) := by
  have put (d : Device) (f : Fld) (hf : f ∈ popFields) (v : Nat) : d.keeps (d.putS f slot 0 v) (but popFields) :=
    d.keeps_putS f _ _ _ (but_apart (List.mem_append_left _ hf))
  exact Device.keeps_trans (Device.keeps_trans (Device.keeps_trans (d.keeps_of_regs rfl _) (put _ _ (by simp [popFields]) _))
    (put _ _ (by simp [popFields]) _)) (put _ _ (by simp [popFields]) _)

theorem Device.queue_popped (d : Device) (slot h : Nat) (e : EvEntry) (rest : List EvEntry) :
    (d.popped slot e rest).queue h = if slot = h then rest else d.queue h := Tab.get_set ..

theorem Device.getS_popped (d : Device) (slot : Nat) (e : EvEntry) (rest : List EvEntry) :
    (d.popped slot e rest).getS F.HOST_EVQ_POP1_WORD slot = e.tick % 2 ^ 32 ∧
    (d.popped slot e rest).getS F.HOST_EVQ_POP2_WORD slot = e.tick / 2 ^ 32 % 2 ^ 32 ∧
    (d.popped slot e rest).getS F.HOST_EVQ_POP3_WORD slot = e.ns % 2 ^ 32 := by
  have short (v : Nat) : v % 2 ^ 32 % 2 ^ 32 = v % 2 ^ 32 := Nat.mod_mod ..
  refine ⟨?_, ?_, ?_⟩
  · rw [popped, getS_putS_ne _ _ _ _ _ _ _ _ (by decide), getS_putS_ne _ _ _ _ _ _ _ _ (by decide), getS_putS_same]
    exact short _
  · rw [popped, getS_putS_ne _ _ _ _ _ _ _ _ (by decide), getS_putS_same]
    rfl
  · exact getS_putS_same ..

theorem evqPop_runs {s : State} {slot : Nat} (hs : slot < 8) (ha : s.chip.admitsRead slot R.HOST_EVQ_POP0 0 = true) :

    let q := s.chip.quiet.dev.evqPop slot
    exec (.evqPop slot) s = .next { s with chip := Chip.answer slot resOk (beBytes 4 q.2) ⟨s.chip.mem, q.1⟩ } :=
  readFrom_admits slot R.HOST_EVQ_POP0 0 s hs rfl ha

/-- Settles O11: the read effect of HOST_EVQ_POP0, for an empty queue and for one with an oldest entry. -/
theorem eventQueuesAreReadOldestFirst : Obligations.EventQueuesAreReadOldestFirst := by
  intro s slot hs ha d
  rw [evqPop_runs hs ha]
  cases hq : d.queue slot with
  | nil =>
    rw [Device.evqPop_empty (d := s.chip.quiet.dev) hq]
    refine ⟨_, rfl, rfl, d.keeps_of_regs rfl _, fun h _ => rfl, by simp, fun _ => ⟨hq, ?_⟩⟩
    show [Out.result slot resOk (beBytes 4 0xFFFFFFFF)] = _
    rw [show beBytes 4 0xFFFFFFFF = [255, 255, 255, 255] by decide]
  | cons e rest =>
    rw [Device.evqPop_oldest (d := s.chip.quiet.dev) hq]
    refine ⟨_, rfl, rfl, d.quiet.keeps_popped slot e rest, fun h hh => ?_, fun e' rest' he => ?_, by simp⟩
    · exact (d.quiet.queue_popped slot h e rest).trans (if_neg hh.symm)
    · cases he
      obtain ⟨w1, w2, w3⟩ := d.quiet.getS_popped slot e rest
      exact ⟨(d.quiet.queue_popped slot slot e rest).trans (if_pos rfl), rfl, w1, w2, w3⟩

end Sys2Proof.Machine
end

section
/-!
SUPPORT. Registers that only command, and the black box: O55.
-/

namespace Sys2Proof.Machine

/-! ### Registers that only command -/

theorem forL_id {α β : Type} {f : β → α → α} {l : List β} (h : ∀ b ∈ l, ∀ a, f b a = a) (a : α) : forL l f a = a := by
  induction l with
  | nil => rfl
  | cons b r ih => rw [forL_cons, h b (by simp), ih fun b hb => h b (by simp [hb])]

/-- A register of which no field keeps what is written, and whose write concerns no pool and no membership. -/
def RegRow.commands (r : RegRow) : Bool :=
  r.flds.all (fun f => f.acc = .wo || f.acc = .ro) && r.lowOf.isNone && !r.isLo && r.base ≠ R.CMP_POOL_BASE_HI.base &&
  r.base ≠ R.CMP_POOL_CFG.base && r.base / 65536 ≠ 8 && r.base / 65536 ≠ 11

theorem Device.storeWord_of_commands {r : RegRow} (h : ∀ f ∈ r.flds, f.acc = .wo ∨ f.acc = .ro) (d : Device) (slot i w : Nat) :
    d.storeWord r slot i w = d := by
  refine forL_id (fun f hf d => ?_) d
  rcases h f hf with e | e <;> simp only [e]

theorem Chip.carryOut_commands {r : RegRow} (h : r.commands = true) (c : Chip) (slot i w : Nat) :
    c.carryOut slot r i w =
      (c.writeEffect slot r i w c.dev).mapDev (fun (d : Device) => d.logWrite slot (r.base + r.stride * i) w) := by
  simp only [RegRow.commands, Bool.and_eq_true, List.all_eq_true, Bool.or_eq_true, decide_eq_true_eq, ne_eq, decide_not,
    Bool.not_eq_true', decide_eq_false_iff_not] at h
  obtain ⟨⟨⟨⟨⟨⟨hf, -⟩, -⟩, hp⟩, hc⟩, h8⟩, h11⟩ := h
  have again : ∀ d : Device, d.setAgain r slot i 0 = d := fun d =>
    d.setAgain_of_no_w1c (fun f hf' => by rcases hf f hf' with e | e <;> simp [e]) ..
  have store : c.dev.storeWords [(r, w)] r slot i = c.dev := by
    simp [Device.storeWords, c.dev.storeWord_of_commands hf, hp, hc]
  simp only [carryOut, store, h8, h11, or_self, if_false, mapDev, again]

/-- An admitted write to a command register: the effect of the word, nothing stored, and the result OK. -/
theorem writeTo_commands {slot i w : Nat} {r : RegRow} {s : State} (hr : r.commands = true) (hs : slot < 8) (hw : w < 2 ^ 32)
    (hf : findReg (r.base + r.stride * i) = some (r, i)) (ha : s.chip.admits slot r i w = true) :
    writeTo slot r i w s = .next { s with chip := ((s.chip.quiet.writeEffect slot r i w s.chip.quiet.dev).mapDev
      (fun (d : Device) => d.logWrite slot (r.base + r.stride * i) w)).answer slot resOk [] } := by
  have hl : r.lowOf = none ∧ r.isLo = false := by
    simp only [RegRow.commands, Bool.and_eq_true, Option.isNone_iff_eq_none, Bool.not_eq_true'] at hr
    exact ⟨hr.1.1.1.1.1.2, hr.1.1.1.1.2⟩
  rw [writeTo_admits slot r i w s hs hw hf hl.2 hl.1 ha, Chip.carryOut_commands hr]

/-! ### The black box -/

theorem Device.staging_record {d : Device} (code source a b : Nat) (hp : d.pd1On = true) (hf : d.on F.BBOX_STATUS_FROZEN = false)
    (hl : d.bb.staging.length < 16) :
    (d.record code source a b).bb.staging = d.bb.staging ++ [⟨code, source, d.tickNow, d.nsPart, a, b⟩] := by
  simp [record, hf, hl, hp]

/-- A frozen box, and one without room, counts the event as lost. -/
theorem Device.record_lost {d : Device} (code source a b : Nat) (h : d.on F.BBOX_STATUS_FROZEN = true ∨ 16 ≤ d.bb.staging.length) :
    d.record code source a b = d.bump F.BBOX_LOST_COUNT 0 1 := by
  unfold record
  rcases h with h | h
  · rw [if_pos h]
  · rw [if_neg h.not_gt, ite_self]

theorem Device.get_bump (d : Device) (f : Fld) (i n : Nat) : (d.bump f i n).get f i = min (d.get f i + n) (2 ^ f.width - 1) := by
  rw [bump, get_put_same, Nat.mod_eq_of_lt]
  have : 0 < 2 ^ f.width := by positivity
  omega

theorem Device.get_freeze (d : Device) (g : Fld) (i : Nat) (h : F.BBOX_STATUS_FROZEN.id ≠ g.id) (h' : F.BBOX_LOST_COUNT.id ≠ g.id)
    (h'' : F.BBOX_EVENTS_FROZEN.id ≠ g.id) (ho : F.HOST_EVENTS_EVQ_OVERFLOW.id ≠ g.id) : d.freeze.get g i = d.get g i := by
  unfold freeze bump
  rw [get_raise _ _ _ _ _ (.inl h'') (.inl ho), get_put_ne _ _ _ _ _ _ h', get_put_ne _ _ _ _ _ _ h]
  rfl

theorem Device.sram_freeze (d : Device) : d.freeze.bb.sram = d.bb.sram := by
  simp [freeze, bump]

/-- The device with the entry in the spill buffer, which starts with it where nothing was spilled before. -/
def Device.spilled (d : Device) (e : BbEntry) : Device :=
  let d := if d.bb.spillOn then d
    else { d.put F.BBOX_SPILL_FIRST_SEQ 0 e.seq with bb := { d.bb with spill := [], spillOn := true } }
  { d with bb := { d.bb with spill := Tab.set d.bb.spill (e.seq % 32768) e } }

theorem Device.spill_eq (d : Device) (e : BbEntry) : ∃ (p : Prop) (_ : Decidable p) (v : Nat),
    d.spill e = if d.spilling then (if p then (d.spilled e).put F.BBOX_SPILL_FIRST_SEQ 0 v else d.spilled e) else d :=
  ⟨_, _, _, rfl⟩

theorem Device.get_spilled (d : Device) (e : BbEntry) (g : Fld) (i : Nat) (h : F.BBOX_SPILL_FIRST_SEQ.id ≠ g.id) :
    (d.spilled e).get g i = d.get g i := by
  unfold spilled
  split
  · rfl
  · exact d.get_put_ne _ _ _ _ _ h

theorem Device.sram_spilled (d : Device) (e : BbEntry) : (d.spilled e).bb.sram = d.bb.sram := by
  unfold spilled
  split <;> rfl

theorem Device.get_spill (d : Device) (e : BbEntry) (g : Fld) (i : Nat) (h : F.BBOX_SPILL_FIRST_SEQ.id ≠ g.id) :
    (d.spill e).get g i = d.get g i := by
  obtain ⟨p, hp, v, he⟩ := d.spill_eq e
  rw [he]
  split
  · split
    · rw [get_put_ne _ _ _ _ _ _ h, get_spilled _ _ _ _ h]
    · exact d.get_spilled e g i h
  · rfl

theorem Device.sram_spill (d : Device) (e : BbEntry) : (d.spill e).bb.sram = d.bb.sram := by
  obtain ⟨p, hp, v, he⟩ := d.spill_eq e
  rw [he]
  split
  · split
    · rw [put_bb, sram_spilled]
    · exact d.sram_spilled e
  · rfl

/-- The fields that a step of the count after the trigger may write. -/
def postFields : List Fld := [F.BBOX_STATUS_TRIGGERED, F.BBOX_TRIG_SEQ_SEQ, F.BBOX_STATUS_FROZEN, F.BBOX_LOST_COUNT,
  F.BBOX_EVENTS_FROZEN, F.HOST_EVENTS_EVQ_OVERFLOW]

/-- The trigger marks the box and its sequence number, and starts the count or freezes the box at once (R424). -/
def Device.marked (d : Device) (seq : Nat) : Device := (d.put F.BBOX_STATUS_TRIGGERED 0 1).put F.BBOX_TRIG_SEQ_SEQ 0 seq

theorem Device.postStep_trigger (d : Device) : ∃ seq, d.postStep true = if d.get F.BBOX_CFG_POST = 0 then (d.marked seq).freeze
    else { d.marked seq with bb := { d.bb with post := some (d.get F.BBOX_CFG_POST) } } := ⟨_, rfl⟩

theorem Device.get_postStep (d : Device) (trig : Bool) (g : Fld) (i : Nat) (h : ∀ f ∈ postFields, f.id ≠ g.id) :
    (d.postStep trig).get g i = d.get g i := by
  have frozen (d : Device) : d.freeze.get g i = d.get g i :=
    d.get_freeze g i (h _ (by simp [postFields])) (h _ (by simp [postFields])) (h _ (by simp [postFields])) (h _ (by simp [postFields]))
  have marked (seq : Nat) : (d.marked seq).get g i = d.get g i := by
    rw [Device.marked, get_put_ne _ _ _ _ _ _ (h _ (by simp [postFields])), get_put_ne _ _ _ _ _ _ (h _ (by simp [postFields]))]
  cases trig with
  | true =>
    obtain ⟨seq, he⟩ := d.postStep_trigger
    rw [he]
    split
    · rw [frozen, marked]
    · exact marked seq
  | false =>
    unfold postStep
    rw [if_neg Bool.false_ne_true]
    split
    · rfl
    · split
      · exact frozen d
      · rfl

theorem Device.sram_postStep (d : Device) (trig : Bool) : (d.postStep trig).bb.sram = d.bb.sram := by
  cases trig with
  | true =>
    obtain ⟨seq, he⟩ := d.postStep_trigger
    rw [he]
    split
    · exact (d.marked seq).sram_freeze
    · rfl
  | false =>
    unfold postStep
    rw [if_neg Bool.false_ne_true]
    split
    · rfl
    · split
      · exact d.sram_freeze
      · rfl

theorem Device.get_postStep_triggered (d : Device) : (d.postStep true).get F.BBOX_STATUS_TRIGGERED = 1 := by
  obtain ⟨seq, he⟩ := d.postStep_trigger
  have marked : (d.marked seq).get F.BBOX_STATUS_TRIGGERED = 1 := by
    rw [Device.marked, get_put_ne _ _ _ _ _ _ (by decide), get_put_same]
    rfl
  rw [he]
  split
  · rw [get_freeze _ _ _ (by decide) (by decide) (by decide) (by decide), marked]
  · exact marked

/-- The entry that the staged event becomes. -/
def Device.bbEntry (d : Device) (ev : BbEvent) : BbEntry :=
  ⟨d.get F.BBOX_NEXT_SEQ_SEQ, ev, !d.on F.BBOX_STATUS_TRIGGERED && (d.get F.BBOX_CFG_TRIG).testBit (ev.code / 16 % 16)⟩

/-- BBOX_ENTRY_WRITE: the entry into the SRAM, then the sequence number, the spill and the count after a trigger. -/
theorem Device.bbWrite_staged {d : Device} {ev : BbEvent} {rest : List BbEvent} (h : d.bb.staging = ev :: rest) :
    ∃ d' : Device, d'.bb.sram = Tab.set d.bb.sram (d.get F.BBOX_NEXT_SEQ_SEQ % 4096) (d.bbEntry ev) ∧
      d.bbWrite = ((d'.put F.BBOX_NEXT_SEQ_SEQ 0 (d.get F.BBOX_NEXT_SEQ_SEQ + 1)).spill (d.bbEntry ev)).postStep (d.bbEntry ev).trigger := by
  obtain ⟨a, b, c, p, he⟩ := d.elapse_only 40
  simp only [bbWrite, h, he]
  exact ⟨_, rfl, rfl⟩

theorem bboxMark_runs {s : State} {slot v : Nat} (hs : slot < 8) (hv : v < 2 ^ 32) (ha : s.chip.admits slot R.BBOX_MARK 0 v = true) :
    exec (.bboxMark slot v) s = .next { s with chip := (s.chip.quiet.mapDev (fun (d : Device) =>
      (d.record 0x00F0 17 v slot).logWrite slot 0x110018 v)).answer slot resOk [] } :=
  writeTo_commands (by decide) hs hv rfl ha

theorem bboxArm_runs {s : State} {slot : Nat} (hs : slot < 8) (ha : s.chip.admits slot R.BBOX_CMD 0 (F.BBOX_CMD_ARM.at 1) = true) :
    exec (.bboxArm slot) s = .next { s with chip := (s.chip.quiet.mapDev (fun (d : Device) =>
      d.bbArm.logWrite slot 0x110014 (F.BBOX_CMD_ARM.at 1))).answer slot resOk [] } :=
  writeTo_commands (by decide) hs (by decide) rfl ha

/-- Settles O55: an entry is written and then spilled and counted, neither of which touches the entries. -/
theorem blackBoxRecordsAndRearms : Obligations.BlackBoxRecordsAndRearms := by
  refine ⟨fun s ev rest h => ?_, fun s slot v hs hv ha => ?_, fun s slot hs ha => ?_⟩
  · obtain ⟨d', hb, hw⟩ := Device.bbWrite_staged (d := s.chip.dev.quiet) h
    refine ⟨{ s with chip := { s.chip with dev := s.chip.dev.quiet.bbWrite } }, rfl, ?_⟩
    dsimp only
    rw [hw]
    refine ⟨?_, ?_, fun ht => ?_, rfl⟩
    · rw [Device.sram_postStep, Device.sram_spill, Device.put_bb, hb]
      exact Tab.find_set_same ..
    · rw [Device.get_postStep _ _ _ _ (by decide), Device.get_spill _ _ _ _ (by decide), Device.get_put_same]
      rfl
    · rw [show (s.chip.dev.quiet.bbEntry ev).trigger = true from ht]
      exact Device.get_postStep_triggered _
  · have hp : s.chip.dev.pd1On = true := (Chip.admits_conditions ha).1
    refine ⟨_, bboxMark_runs hs hv ha, fun hf hl => ?_, fun hl => ?_⟩
    · exact (congrArg BBox.staging (Device.logWrite_bb ..)).trans (Device.staging_record (d := s.chip.dev.quiet) _ _ _ _ hp hf hl)
    · have lost : s.chip.dev.quiet.record 0x00F0 17 v slot = s.chip.dev.quiet.bump F.BBOX_LOST_COUNT 0 1 := Device.record_lost _ _ _ _ hl
      refine ⟨?_, ?_⟩
      · exact (congrArg BBox.staging (Device.logWrite_bb ..)).trans (congrArg (fun d => d.bb.staging) lost)
      · exact (Device.get_logWrite ..).trans ((congrArg (fun d => d.get F.BBOX_LOST_COUNT) lost).trans (Device.get_bump ..))
  · refine ⟨_, bboxArm_runs hs ha, ?_, ?_, ?_, ?_⟩
    · refine (Device.get_logWrite ..).trans ((Device.get_put_ne _ F.BBOX_STATUS_TRIGGERED F.BBOX_STATUS_FROZEN _ _ _ (by decide)).trans ?_)
      exact Device.get_put_same ..
    · exact (Device.get_logWrite ..).trans (Device.get_put_same ..)
    · exact congrArg BBox.post (Device.logWrite_bb ..)
    · exact (congrArg BBox.staging (Device.logWrite_bb ..)).trans rfl

end Sys2Proof.Machine
end

section
/-!
SUPPORT. Role and deferral of register writes: O10.
-/

namespace Sys2Proof.Machine

/-! ### Role and deferral -/

theorem Chip.doWrite_role {c : Chip} {slot a w hwSet : Nat} (hs : slot < 8) (hp : c.dev.pd1On = true)
    (hf : c.dev.regFault slot a 32 true = none) (hr : c.dev.roleRefuses (a / 65536) (isEvq a) = true) :
    c.doWrite slot a 32 w hwSet = (⟨c.mem, c.dev.refuseWrite⟩ : Chip).answer slot resRole [] := by
  simp [doWrite, hp, Nat.mod_eq_of_lt hs, hostWrite, hf, hr]

theorem Chip.doWrite_deferred {c : Chip} {slot a w hwSet : Nat} (hs : slot < 8) (hw : w < 2 ^ 32) (hp : c.dev.pd1On = true)
    (hf : c.dev.regFault slot a 32 true = none) (hr : c.dev.roleRefuses (a / 65536) (isEvq a) = false)
    (hd : (c.dev.defers && carried a) = true) :
    c.doWrite slot a 32 w hwSet = ⟨c.mem, { c.dev with deferred := c.dev.deferred ++ [(slot, a, w)] }⟩ := by
  have hw' : w % 4294967296 = w := Nat.mod_eq_of_lt hw
  simp [doWrite, hp, Nat.mod_eq_of_lt hs, hostWrite, hf, hr, hd, hw']

/-- Settles O10: the two outcomes of `Chip.hostWrite` before a register is reached. -/
theorem roleAndDeferralOfWrites : Obligations.RoleAndDeferralOfWrites := by
  intro s slot a w hs hw hp hf d
  refine ⟨fun hrun hrole hholds hb he => ?_, fun hrun hholds hsh htick hlate hb => ?_⟩
  · have hr : s.chip.quiet.dev.roleRefuses (a / 65536) (isEvq a) = true := by
      simp only [List.mem_cons, List.not_mem_nil, or_false, not_or] at hb
      obtain ⟨h9, h11, h16, h17⟩ := hb
      have : d.inRun = true := by simp [Device.inRun, hrun]
      show d.roleRefuses _ _ = true
      simp [Device.roleRefuses, this, hrole, hholds, h9, h11, h16, h17, he]
    refine ⟨_, registerWrite_runs (Chip.doWrite_role hs hp hf hr), rfl, ?_, ?_, rfl, rfl, rfl⟩
    · exact d.get_bump F.PAIR_CNT_WRITE_REFUSED_COUNT 0 1
    · exact d.keeps_put F.PAIR_CNT_WRITE_REFUSED_COUNT 0 _ (but_apart (by simp))
  · have hr : s.chip.quiet.dev.roleRefuses (a / 65536) (isEvq a) = false := by
      show d.roleRefuses _ _ = false
      simp [Device.roleRefuses, hholds]
    have hd : (s.chip.quiet.dev.defers && carried a) = true := by
      simp only [List.mem_cons, List.not_mem_nil, or_false, not_or] at hb
      obtain ⟨h9, h11, h15, h16, h17⟩ := hb
      have : d.inRun = true := by simp [Device.inRun, hrun]
      show (d.defers && carried a) = true
      simp [Device.defers, this, hholds, hsh, htick, hlate, carried, h9, h11, h15, h16, h17]
    exact ⟨_, registerWrite_runs (Chip.doWrite_deferred hs hw hp hf hr hd), rfl, rfl, rfl, rfl, rfl⟩

end Sys2Proof.Machine
end

section
/-!
SUPPORT. The words of registers, and what a read answers, clears and latches: O8.
-/

namespace Sys2Proof.Machine

/-! ### The register map, by evaluation of its tables -/

/-- The registers whose word is computed whatever is stored (`Device.view`). -/
def liveBase (b : Nat) : Bool :=
  b = R.SYS_ALARM.base || b = R.TICK_NUM_LO.base || b = R.TICK_NUM_HI.base || (b ≥ R.TICK_CAP_DEC.base && b ≤ R.TICK_CAP_MEM.base) ||
  (b ≥ R.TICK_USE_DEC.base && b ≤ R.TICK_USE_MEM.base)

theorem regBlock_distinct : ∀ b < 20, ∀ r ∈ regBlock b, (r.flds.map Fld.id).Nodup := by decide +kernel

/-- A row lists its fields from the top bit down, and no two share a bit. -/
theorem regBlock_ordered : ∀ b < 20, ∀ r ∈ regBlock b, r.flds.Pairwise (fun f g => g.lo + g.width ≤ f.lo) := by decide +kernel

theorem regBlock_rc_stored : ∀ b < 20, ∀ r ∈ regBlock b, ∀ f ∈ r.flds, f.acc = .rc → liveBase f.base = false := by decide +kernel

/-- The high half of a low half lies after it, is none itself, and has no read effect where the low half has none. -/
theorem loRows_high : ∀ l ∈ loRows, l.lowOf = none ∧ ∀ h ∈ l.highOf.toList, popRow l = false →
    popRow h = false ∧ h.lowOf = some l ∧ ∀ i < l.count, findReg (h.base + h.stride * i) = some (h, i) := by decide +kernel

section Row

variable {a i : Nat} {r : RegRow} (h : findReg a = some (r, i))
include h

theorem findReg_block : a / 65536 < 20 := by
  have := findReg_lt h
  omega

theorem findReg_distinct : (r.flds.map Fld.id).Nodup := regBlock_distinct _ (findReg_block h) r (findReg_mem h)

theorem findReg_id_ne {f g : Fld} (hf : f ∈ r.flds) (hg : g ∈ r.flds) (hne : f ≠ g) : f.id ≠ g.id :=
  fun e => hne (List.inj_on_of_nodup_map (findReg_distinct h) hf hg e)

end Row

/-! ### The word of a register -/

/-- A word is the sum of its fields at their places. -/
theorem RegRow.word_eq (r : RegRow) (get : Fld → Nat) : r.word get = (r.flds.map (fun f => f.at (get f))).sum := by
  have key (l : List Fld) : ∀ n, l.foldl (fun w f => w + f.at (get f)) n = n + (l.map (fun f => f.at (get f))).sum := by
    induction l with
    | nil => intro n; rfl
    | cons f l ih => intro n; rw [List.foldl_cons, ih, List.map_cons, List.sum_cons, Nat.add_assoc]
  exact (key r.flds 0).trans (Nat.zero_add _)

/-- Fields below bit `n` add up to less than 2^n. -/
theorem sum_at_lt {l : List Fld} (hl : l.Pairwise (fun f g => g.lo + g.width ≤ f.lo)) (get : Fld → Nat) :
    ∀ {n : Nat}, (∀ f ∈ l, f.lo + f.width ≤ n) → (l.map (fun f => f.at (get f))).sum < 2 ^ n := by
  induction l with
  | nil => intro n _; simp
  | cons f l ih =>
    intro n hn
    obtain ⟨hf, hl'⟩ := List.pairwise_cons.mp hl
    have fits : get f % 2 ^ f.width + 1 ≤ 2 ^ f.width := Nat.mod_lt _ (by positivity)
    rw [List.map_cons, List.sum_cons]
    calc f.at (get f) + (l.map (fun f => f.at (get f))).sum
        < f.at (get f) + 2 ^ f.lo := Nat.add_lt_add_left (ih hl' hf) _
      _ = (get f % 2 ^ f.width + 1) * 2 ^ f.lo := (Nat.succ_mul ..).symm
      _ ≤ 2 ^ f.width * 2 ^ f.lo := Nat.mul_le_mul_right _ fits
      _ = 2 ^ (f.lo + f.width) := by rw [Nat.add_comm, pow_add]
      _ ≤ 2 ^ n := Nat.pow_le_pow_right two_pos (hn f (by simp))

theorem Fld.of_sum {l : List Fld} (hl : l.Pairwise (fun f g => g.lo + g.width ≤ f.lo)) (get : Fld → Nat) {f : Fld} (hf : f ∈ l) :
    f.of (l.map (fun f => f.at (get f))).sum = get f % 2 ^ f.width := by
  induction l with
  | nil => cases hf
  | cons g l ih =>
    obtain ⟨hg, hl'⟩ := List.pairwise_cons.mp hl
    rw [List.map_cons, List.sum_cons]
    rcases List.mem_cons.mp hf with rfl | hf'
    · have below := sum_at_lt hl' get hg
      rw [Fld.of, Fld.at, Nat.add_comm, Nat.add_mul_div_right _ _ (by positivity), Nat.div_eq_of_lt below, Nat.zero_add, Nat.mod_mod]
    · obtain ⟨k, hk⟩ := Nat.exists_eq_add_of_le (hg f hf')
      have above : g.at (get g) = 2 ^ f.lo * (2 ^ f.width * (get g % 2 ^ g.width * 2 ^ k)) := by
        rw [Fld.at, hk, pow_add, pow_add]
        ring
      rw [above, ← ih hl' hf', Fld.of, Fld.of, Nat.mul_add_div (by positivity), Nat.mul_add_mod]

/-- What a field's bits of a word are. -/
theorem Fld.of_word {r : RegRow} (hr : r.flds.Pairwise (fun f g => g.lo + g.width ≤ f.lo)) {f : Fld} (hf : f ∈ r.flds)
    (get : Fld → Nat) : f.of (r.word get) = get f % 2 ^ f.width := by
  rw [r.word_eq, Fld.of_sum hr get hf]

/-- An RC field reads as stored. -/
theorem Device.view_of_rc {f : Fld} (hf : f.acc = .rc) (hb : liveBase f.base = false) (d : Device) (slot i : Nat) :
    d.view f slot i = none := by
  have ne (g : Fld) (hg : g.acc ≠ .rc) : (f = g) = False := eq_false fun e => hg (e ▸ hf)
  simp only [liveBase, Bool.or_eq_false_iff, decide_eq_false_iff_not, Bool.and_eq_false_iff] at hb
  obtain ⟨⟨⟨⟨h1, h2⟩, h3⟩, h4⟩, h5⟩ := hb
  unfold view
  simp (disch := decide) only [ne, if_false, h1, h2, h3]
  rw [if_neg (by omega), if_neg (by omega)]

theorem Device.fieldOf_lt (d : Device) (r : RegRow) (slot i : Nat) (f : Fld) : d.fieldOf r slot i f < 2 ^ f.width := by
  unfold fieldOf
  split
  · exact d.getS_lt ..
  · exact d.get_lt ..

theorem Device.of_readWord_rc {d : Device} {a slot i : Nat} {r : RegRow} {f : Fld} (h : findReg a = some (r, i))
    (hh : d.hidden r i = false) (hf : f ∈ r.flds) (hrc : f.acc = .rc) : f.of (d.readWord r slot i) = d.fieldOf r slot i f := by
  have hb := regBlock_rc_stored _ (findReg_block h) r (findReg_mem h) f hf hrc
  rw [readWord, hh, if_neg Bool.false_ne_true, Fld.of_word (regBlock_ordered _ (findReg_block h) r (findReg_mem h)) hf,
    view_of_rc hrc hb]
  simp only [Option.getD_none, stored, hrc]
  exact Nat.mod_eq_of_lt (d.fieldOf_lt ..)

/-! ### Reading a register -/

/-- The step of `Device.clearRc` for one field. -/
def Device.clearField (r : RegRow) (slot i inc : Nat) (f : Fld) (d : Device) : Device :=
  if f.acc = .rc then d.putField r slot i f inc else d

theorem Device.clearRc_eq (d : Device) (r : RegRow) (slot i inc : Nat) :
    d.clearRc r slot i inc = forL r.flds (Device.clearField r slot i inc) d := rfl

theorem Device.keeps_clearField (r : RegRow) (slot i inc : Nat) (f : Fld) {p : Fld → Bool} (hp : ∀ g, p g = true → f.id ≠ g.id)
    (d : Device) : d.keeps (d.clearField r slot i inc f) p := by
  unfold clearField
  split
  · exact d.keeps_putField r slot i f inc hp
  · exact d.keeps_of_regs rfl p

theorem Device.clearRc_only (d : Device) (r : RegRow) (slot i inc : Nat) : ∃ g, d.clearRc r slot i inc = { d with regs := g } := by
  rw [clearRc_eq]
  generalize r.flds = l
  induction l generalizing d with
  | nil => exact ⟨d.regs, rfl⟩
  | cons f l ih =>
    obtain ⟨g, hg⟩ : ∃ g, clearField r slot i inc f d = { d with regs := g } := by
      unfold clearField
      split
      · exact d.putField_only ..
      · exact ⟨d.regs, rfl⟩
    obtain ⟨g', hg'⟩ := ih (clearField r slot i inc f d)
    exact ⟨g', by rw [forL_cons, hg', hg]⟩

theorem Device.keeps_forL_clear (r : RegRow) (slot i inc : Nat) {p : Fld → Bool} (l : List Fld)
    (hp : ∀ f ∈ l, ∀ g, p g = true → f.id ≠ g.id) : ∀ d : Device, d.keeps (forL l (Device.clearField r slot i inc) d) p := by
  induction l with
  | nil => exact fun d => d.keeps_of_regs rfl p
  | cons f l ih =>
    exact fun d => Device.keeps_trans (keeps_clearField r slot i inc f (hp f (by simp)) d) (ih (fun f hf => hp f (by simp [hf])) _)

theorem Device.keeps_clearRc (d : Device) (r : RegRow) (slot i inc : Nat) : d.keeps (d.clearRc r slot i inc) (but r.flds) :=
  keeps_forL_clear r slot i inc r.flds (fun _ hf => but_apart (List.mem_append_left _ hf)) d

/-- After the clearing an RC field holds the change of the cycle, and any other field what it held. -/
theorem Device.fieldOf_clear {r : RegRow} {slot i inc : Nat} {f : Fld} :
    ∀ {l : List Fld}, (l.map Fld.id).Nodup → f ∈ l → ∀ d : Device,
      (forL l (Device.clearField r slot i inc) d).fieldOf r slot i f =
        if f.acc = .rc then inc % 2 ^ f.width else d.fieldOf r slot i f := by
  intro l
  induction l with
  | nil => intro _ hf; cases hf
  | cons g l ih =>
    intro hn hf d
    obtain ⟨hg, hn'⟩ := List.nodup_cons.mp hn
    rw [forL_cons]
    rcases List.mem_cons.mp hf with rfl | hf'
    · have rest := keeps_forL_clear r slot i inc (p := fun q => q.id = f.id) l
        (fun q hq k hk e => hg (List.mem_map.mpr ⟨q, hq, e.trans (by simpa using hk)⟩)) (clearField r slot i inc f d)
      rw [fieldOf_keeps rest (by simp), clearField]
      split
      · exact d.fieldOf_putField ..
      · rfl
    · have first := keeps_clearField r slot i inc g (p := fun q => q.id = f.id)
        (fun k hk e => hg (List.mem_map.mpr ⟨f, hf', (of_decide_eq_true hk).symm.trans e.symm⟩)) d
      rw [ih hn' hf' _, fieldOf_keeps first (by simp)]

section Quiet
variable (d : Device)
theorem Device.classCap_quiet (k : Nat) : d.quiet.classCap k = d.classCap k := rfl

theorem Device.classUse_quiet (k : Nat) : d.quiet.classUse k = d.classUse k := rfl

/-- What was handed out before changes no field's reading: each branch of `Device.view` is the same word. -/
theorem Device.view_quiet (f : Fld) (slot i : Nat) : d.quiet.view f slot i = d.view f slot i := by
  have cap (k : Nat) : (some (if d.quiet.booted then d.quiet.classCap k else 0)) = (some (if d.booted then d.classCap k else 0)) := rfl
  have use (k : Nat) : some (d.quiet.classUse k) = some (d.classUse k) := rfl
  delta view
  iterate 6 refine if_congr Iff.rfl rfl ?_
  refine if_congr Iff.rfl (cap _) (if_congr Iff.rfl (use _) ?_)
  repeat refine if_congr Iff.rfl rfl ?_
  rfl

theorem Device.readWord_quiet (r : RegRow) (slot i : Nat) : d.quiet.readWord r slot i = d.readWord r slot i := by
  have stored (f : Fld) : d.quiet.stored r slot i f = d.stored r slot i f := rfl
  have hidden : d.quiet.hidden r i = d.hidden r i := rfl
  simp only [readWord, hidden, view_quiet, stored]
end Quiet
/-- A row without a read effect of its own. -/
theorem popRow_iff {r : RegRow} (h : popRow r = false) : r.base ≠ R.HOST_EVQ_POP0.base ∧ r.base ≠ R.PERF_SAMPLE_POP.base ∧
    r.base ≠ R.TIME_NOW_NS.base ∧ r.base ≠ R.TIME_CAP_NS.base ∧ latchedBy r = false := by
  simp only [popRow, Bool.or_eq_false_iff, List.any_eq_false, List.mem_cons, List.not_mem_nil, or_false, decide_eq_true_eq] at h
  obtain ⟨h, hl⟩ := h
  exact ⟨fun e => h _ (.inl rfl) e.symm, fun e => h _ (.inr (.inl rfl)) e.symm, fun e => h _ (.inr (.inr (.inl rfl))) e.symm,
    fun e => h _ (.inr (.inr (.inr rfl))) e.symm, hl⟩

theorem Device.clearRc_out (d : Device) (r : RegRow) (slot i inc : Nat) : (d.clearRc r slot i inc).out = d.out := by
  obtain ⟨g, hg⟩ := d.clearRc_only r slot i inc
  rw [hg]

/-- A next state that answers its slot: memory `m`, and the device `d` with the result handed out. -/
def Answers (o : Host.Outcome State Fault Refusal) (m : Memory) (d : Device) (slot code : Nat) (data : List Byte) : Prop :=
  ∃ t, o = .next t ∧ t.chip.mem = m ∧ t.chip.dev = d.emit (.result slot code data)

theorem answers_of_chip {o : Host.Outcome State Fault Refusal} {s : State} {m : Memory} {d : Device} {slot code : Nat} {data : List Byte}
    (h : o = .next { s with chip := Chip.answer slot code data ⟨m, d⟩ }) : Answers o m d slot code data := ⟨_, h, rfl, rfl⟩

theorem Device.emit_out (d : Device) (o : Out) : (d.emit o).out = d.out ++ [o] := rfl

theorem Device.fieldOf_congr {d e : Device} (h : e.regs = d.regs) (r : RegRow) (slot i : Nat) (f : Fld) :
    e.fieldOf r slot i f = d.fieldOf r slot i f :=
  Device.fieldOf_keeps (Device.keeps_of_regs h (fun _ => true)) rfl

section Read

variable {d : Device} {r : RegRow} {slot i inc : Nat}

/-- A low half leaves the word of its high half for the slot. -/
def Device.latchHigh (d : Device) (r : RegRow) (slot i : Nat) : Device :=
  match r.highOf with
  | some h => d.latchWord h slot i (d.readWord h slot i)
  | none => d

theorem Device.latchHigh_regs : (d.latchHigh r slot i).regs = d.regs := by
  unfold latchHigh
  split <;> rfl

theorem Device.latchHigh_out : (d.latchHigh r slot i).out = d.out := by
  unfold latchHigh
  split <;> rfl

theorem Device.regRead_of_plain (hh : d.hidden r i = false) (hp : popRow r = false) (hl : r.lowOf = none) :
    d.regRead r slot i inc = ((d.latchHigh r slot i).clearRc r slot i inc, d.readWord r slot i) := by
  obtain ⟨h1, h2, h3, h4, h5⟩ := popRow_iff hp
  simp only [regRead, hh, h1, h2, h3, h4, h5, hl, Bool.false_eq_true, if_false, latchHigh] <;> rfl

theorem Device.regRead_of_high {l : RegRow} (hh : d.hidden r i = false) (hp : popRow r = false) (hl : r.lowOf = some l) :
    d.regRead r slot i inc =
      ((d.latchHigh r slot i).clearRc r slot i inc, (Tab.find d.latch (r.key slot i)).getD (d.readWord r slot i)) := by
  obtain ⟨h1, h2, h3, h4, h5⟩ := popRow_iff hp
  simp only [regRead, hh, h1, h2, h3, h4, h5, hl, Bool.false_eq_true, if_false, latchHigh] <;> rfl

theorem Chip.doRead_admitted {c : Chip} (hs : slot < 8) (hf : findReg (r.base + r.stride * i) = some (r, i))
    (ha : c.admitsRead slot r i = true) {q : Device × Nat} (hq : c.dev.regRead r slot i inc = q) :
    c.doRead slot (r.base + r.stride * i) 32 inc = Chip.answer slot resOk (beBytes 4 q.2) ⟨c.mem, q.1⟩ := by
  simp only [admitsRead, Bool.and_eq_true, Option.isNone_iff_eq_none] at ha
  obtain ⟨hp, hfault⟩ := ha
  simp only [doRead, Nat.mod_eq_of_lt hs, hp, Bool.not_true, Bool.false_eq_true, if_false, hostRead, hfault, hf, hq]

end Read

theorem loReadLatch_runs {s : State} {slot a : Nat} {c : Chip} (h : s.chip.quiet.doRead slot a 32 0 = c) :
    exec (.loReadLatch slot a) s = .next { s with chip := c } := by
  subst h; rfl

section Admitted

variable {s : State} {slot i : Nat} {r : RegRow} (hs : slot < 8) (hf : findReg (r.base + r.stride * i) = some (r, i))
  (ha : s.chip.admitsRead slot r i = true) {d : Device} {w : Nat}
include hs hf ha

theorem rcRead_answers {inc : Nat} (hq : s.chip.dev.quiet.regRead r slot i inc = (d, w)) :
    Answers (exec (.rcRead slot (r.base + r.stride * i) inc) s) s.chip.mem d slot resOk (beBytes 4 w) :=
  answers_of_chip (rcRead_runs (Chip.doRead_admitted (c := s.chip.quiet) hs hf ha hq))

theorem loReadLatch_answers (hq : s.chip.dev.quiet.regRead r slot i 0 = (d, w)) :
    Answers (exec (.loReadLatch slot (r.base + r.stride * i)) s) s.chip.mem d slot resOk (beBytes 4 w) :=
  answers_of_chip (loReadLatch_runs (Chip.doRead_admitted (c := s.chip.quiet) hs hf ha hq))

/-- A read by the slot of a high half: the latched word where there is one, else the current one. -/
theorem loReadLatch_high {l : RegRow} (hl : r.lowOf = some l) (hp : popRow r = false) (hh : s.chip.dev.hidden r i = false) :
    ∃ v, exec (.loReadLatch slot (r.base + r.stride * i)) s = .next v ∧
      v.chip.dev.out = [.result slot resOk (beBytes 4 ((Tab.find s.chip.dev.latch (r.key slot i)).getD (s.chip.dev.readWord r slot i)))] := by
  obtain ⟨v, hv, -, hd⟩ := loReadLatch_answers hs hf ha (Device.regRead_of_high (d := s.chip.dev.quiet) hh hp hl)
  refine ⟨v, hv, ?_⟩
  rw [hd, Device.emit_out, Device.clearRc_out, Device.latchHigh_out, Device.readWord_quiet]
  rfl

end Admitted

/-- Settles O8: the two parts of `Device.regRead` for rows without a read effect of their own. -/
theorem readsClearLatchAndReturnTheWord : Obligations.ReadsClearLatchAndReturnTheWord := by
  refine ⟨fun s slot inc i r hs hi hf ha hh hp hl => ?_, fun s slot i l h hs hl hi hh hp hf ha hhid => ?_⟩
  · obtain ⟨t, ht, hm, hd⟩ := rcRead_answers hs hf ha (Device.regRead_of_plain (d := s.chip.dev.quiet) (inc := inc) hh hp hl)
    have hr : t.chip.dev.regs = ((s.chip.dev.quiet.latchHigh r slot i).clearRc r slot i inc).regs := by rw [hd, Device.emit_regs]
    have old : (s.chip.dev.quiet.latchHigh r slot i).regs = s.chip.dev.regs := Device.latchHigh_regs
    have fields {f : Fld} (hm : f ∈ r.flds) : t.chip.dev.fieldOf r slot i f =
        if f.acc = .rc then inc % 2 ^ f.width else s.chip.dev.fieldOf r slot i f := by
      rw [Device.fieldOf_congr hr, Device.clearRc_eq, Device.fieldOf_clear (findReg_distinct hf) hm, Device.fieldOf_congr old]
    refine ⟨t, ht, hm, ?_, ?_, fun f hm => ⟨fun hrc => ⟨?_, Device.of_readWord_rc hf hh hm hrc⟩, fun hrc => ?_⟩⟩
    · rw [hd, Device.emit_out, Device.clearRc_out, Device.latchHigh_out, Device.readWord_quiet]
      rfl
    · exact Device.keeps_trans (Device.keeps_of_regs old _) (Device.keeps_trans (Device.keeps_clearRc ..) (Device.keeps_of_regs hr _))
    · rw [fields hm, if_pos hrc]
    · rw [fields hm, if_neg hrc]
  · obtain ⟨hlow, hhigh⟩ := loRows_high l hl
    obtain ⟨hph, hlh, hfh⟩ := hhigh h (by simp [hh]) hp
    obtain ⟨t, ht, hm, hd⟩ := loReadLatch_answers hs hf ha (Device.regRead_of_plain (d := s.chip.dev.quiet) hhid hp hlow)
    have latched : t.chip.dev.latch = Tab.set s.chip.dev.latch (h.key slot i) (s.chip.dev.readWord h slot i) := by
      obtain ⟨g, hg⟩ := (s.chip.dev.quiet.latchHigh l slot i).clearRc_only l slot i 0
      rw [hd, hg, Device.latchHigh, hh]
      simp only [Device.readWord_quiet]
      rfl
    refine ⟨t, ht, hm, ?_, fun slot' i' h' hne => ?_, fun u hu hau hhu => ?_, fun hn hah hhh => ?_⟩
    · rw [hd, Device.emit_out, Device.clearRc_out, Device.latchHigh_out, Device.readWord_quiet]
      rfl
    · rw [latched]
      refine (Tab.find_set ..).trans (if_neg fun e => hne ?_)
      have := congrArg (fun k : Key => k.2.2) e
      simpa [RegRow.key] using this.symm
    · have word : Tab.find u.chip.dev.latch (h.key slot i) = some (s.chip.dev.readWord h slot i) := by
        rw [hu, latched]
        exact Tab.find_set_same ..
      have := loReadLatch_high hs (hfh i hi) hau hlh hph hhu
      rwa [word] at this
    · have := loReadLatch_high hs (hfh i hi) hah hlh hph hhh
      rwa [hn] at this

end Sys2Proof.Machine
end

section
/-!
SUPPORT. What an admitted write leaves in each field, by access code: O7.
-/

namespace Sys2Proof.Machine

/-! ### What a write leaves in each field -/

theorem Device.keeps_forL {β : Type} {f : β → Device → Device} {p : Fld → Bool} (hf : ∀ b (d : Device), d.keeps (f b d) p) (l : List β) :
    ∀ d : Device, d.keeps (forL l f d) p := by
  induction l with
  | nil => exact fun d => d.keeps_of_regs rfl p
  | cons b l ih => exact fun d => Device.keeps_trans (hf b d) (ih _)

theorem Device.regs_forL {β : Type} {f : β → Device → Device} (hf : ∀ b (d : Device), (f b d).regs = d.regs) (l : List β) :
    ∀ d : Device, (forL l f d).regs = d.regs := by
  induction l with
  | nil => exact fun d => rfl
  | cons b l ih => exact fun d => (ih _).trans (hf b d)

section Step

variable {r : RegRow} {slot i : Nat} {step : Fld → Device → Device}

/-- Where each step keeps every field with another number, a pass over fields keeps those with other numbers. -/
theorem keeps_forL_step (hk : ∀ g (d : Device) (p : Fld → Bool), (∀ q, p q = true → g.id ≠ q.id) → d.keeps (step g d) p)
    {p : Fld → Bool} : ∀ {l : List Fld}, (∀ g ∈ l, ∀ q, p q = true → g.id ≠ q.id) → ∀ d : Device, d.keeps (forL l step d) p := by
  intro l
  induction l with
  | nil => exact fun _ d => d.keeps_of_regs rfl p
  | cons g l ih =>
    exact fun h d => Device.keeps_trans (hk g d p (h g (by simp))) (ih (fun q hq => h q (by simp [hq])) _)

/-- Such a pass leaves in a field what its own step makes of it. -/
theorem fieldOf_forL_step (hk : ∀ g (d : Device) (p : Fld → Bool), (∀ q, p q = true → g.id ≠ q.id) → d.keeps (step g d) p)
    {inv : Device → Prop} (hi : ∀ g d, inv d → inv (step g d)) {f : Fld} {val : Nat → Nat}
    (hv : ∀ d : Device, inv d → (step f d).fieldOf r slot i f = val (d.fieldOf r slot i f)) :
    ∀ {l : List Fld}, (l.map Fld.id).Nodup → f ∈ l → ∀ d : Device, inv d →
      (forL l step d).fieldOf r slot i f = val (d.fieldOf r slot i f) := by
  intro l
  induction l with
  | nil => intro _ hf; cases hf
  | cons g l ih =>
    intro hn hf d hd
    obtain ⟨hg, hn'⟩ := List.nodup_cons.mp hn
    rw [forL_cons]
    rcases List.mem_cons.mp hf with rfl | hf'
    · have rest := keeps_forL_step hk (p := fun q => q.id = f.id)
        (fun q hq k hk e => hg (List.mem_map.mpr ⟨q, hq, e.trans (of_decide_eq_true hk)⟩)) (step f d)
      rw [Device.fieldOf_keeps rest (by simp), hv d hd]
    · have first := hk g d (fun q => q.id = f.id)
        (fun k hk e => hg (List.mem_map.mpr ⟨f, hf', (of_decide_eq_true hk).symm.trans e.symm⟩))
      rw [ih hn' hf' _ (hi g d hd), Device.fieldOf_keeps first (by simp)]

end Step

/-- The step of `Device.setAgain` for one field. -/
def Device.setAgainField (r : RegRow) (slot i hwSet : Nat) (f : Fld) (d : Device) : Device :=
  if f.acc = .w1c then d.putField r slot i f (d.fieldOf r slot i f ||| f.of hwSet) else d

theorem Device.setAgain_eq (d : Device) (r : RegRow) (slot i hwSet : Nat) :
    d.setAgain r slot i hwSet = forL r.flds (Device.setAgainField r slot i hwSet) d := rfl

section Stored

variable (d : Device) (r : RegRow) (slot i w hwSet : Nat)

theorem Device.keeps_setAgainField (f : Fld) {p : Fld → Bool} (hp : ∀ g, p g = true → f.id ≠ g.id) :
    d.keeps (d.setAgainField r slot i hwSet f) p := by
  unfold setAgainField
  split
  · exact d.keeps_putField r slot i f _ hp
  · exact d.keeps_of_regs rfl p

theorem Device.keeps_setAgain : d.keeps (d.setAgain r slot i hwSet) (but r.flds) :=
  keeps_forL_step (fun g d _ hp => d.keeps_setAgainField r slot i hwSet g hp) (fun _ hf => but_apart (List.mem_append_left _ hf)) d

theorem Device.setAgain_only : ∃ g, d.setAgain r slot i hwSet = { d with regs := g } := by
  rw [setAgain_eq]
  generalize r.flds = l
  induction l generalizing d with
  | nil => exact ⟨d.regs, rfl⟩
  | cons f l ih =>
    obtain ⟨g, hg⟩ : ∃ g, setAgainField r slot i hwSet f d = { d with regs := g } := by
      unfold setAgainField
      split
      · exact d.putField_only ..
      · exact ⟨d.regs, rfl⟩
    obtain ⟨g', hg'⟩ := ih (setAgainField r slot i hwSet f d)
    exact ⟨g', by rw [forL_cons, hg', hg]⟩

/-- What a write makes of a field in force, by its access code (R11, R12). -/
def Fld.written (run : Bool) (w : Nat) (f : Fld) (v : Nat) : Nat :=
  match f.acc with
  | .ro | .rc | .wo => v
  | .rw | .rws => f.of w
  | .w1c => v - (v &&& f.of w)
  | .rwt => if run then v else f.of w

theorem Device.fieldOf_storeField (f : Fld) (hp : f.acc = .rwt → r.perSlot = false) :
    (d.storeField r slot i w f).fieldOf r slot i f = f.written (decide (d.pwr = .run)) w (d.fieldOf r slot i f) := by
  unfold storeField Fld.written
  split
  case h_1 h | h_2 h | h_3 h => simp only [h]
  case h_4 h | h_5 h => simp only [h, fieldOf_putField, Fld.of_mod]
  case h_6 h =>
    simp only [h, fieldOf_putField]
    exact Nat.mod_eq_of_lt ((Nat.sub_le ..).trans_lt (d.fieldOf_lt ..))
  case h_7 h =>
    have get (e : Device) : e.fieldOf r slot i f = e.get f i := by rw [fieldOf, hp h, if_neg Bool.false_ne_true]
    simp only [h, get, decide_eq_true_eq]
    split
    · rfl
    · exact (d.get_put_same ..).trans (Fld.of_mod _ f)

theorem Device.fieldOf_storeWord {f : Fld} (hn : (r.flds.map Fld.id).Nodup) (hf : f ∈ r.flds) (hp : f.acc = .rwt → r.perSlot = false) :
    (d.storeWord r slot i w).fieldOf r slot i f = f.written (decide (d.pwr = .run)) w (d.fieldOf r slot i f) := by
  refine fieldOf_forL_step (step := Device.storeField r slot i w) (inv := fun e => e.pwr = d.pwr)
    (fun g e p h => e.keeps_storeField r slot i w g h) (fun g e he => ?_) (fun e he => ?_) hn hf d rfl
  · obtain ⟨g', q, hg⟩ := e.storeField_only r slot i w g
    rw [hg]
    exact he
  · rw [e.fieldOf_storeField r slot i w f hp, he]

/-- Hardware sets a W1C field's bits in the cycle of the write; every other field stays (R13). -/
theorem Device.fieldOf_setAgain {f : Fld} (hn : (r.flds.map Fld.id).Nodup) (hf : f ∈ r.flds) :
    (d.setAgain r slot i hwSet).fieldOf r slot i f =
      if f.acc = .w1c then d.fieldOf r slot i f ||| f.of hwSet else d.fieldOf r slot i f := by
  refine fieldOf_forL_step (step := Device.setAgainField r slot i hwSet) (inv := fun _ => True)
    (val := fun v => if f.acc = .w1c then v ||| f.of hwSet else v)
    (fun g e p h => e.keeps_setAgainField r slot i hwSet g h) (fun _ _ _ => trivial) (fun e _ => ?_) hn hf d trivial
  unfold setAgainField
  split
  · have hof : f.of hwSet < 2 ^ f.width := Nat.mod_lt _ (by positivity)
    rw [fieldOf_putField]
    exact Nat.mod_eq_of_lt (Nat.or_lt_two_pow (e.fieldOf_lt ..) hof)
  · rfl

end Stored

/-! ### Admitted writes of registers that are no halves -/

section Alone

variable {c : Chip} {slot i w hwSet : Nat} {r : RegRow} (hf : findReg (r.base + r.stride * i) = some (r, i))
  (hlo : r.isLo = false) (hhi : r.lowOf = none) (h8 : r.base / 65536 ≠ 8) (h11 : r.base / 65536 ≠ 11)
  (ha : c.admits slot r i w = true)
include hf hlo hhi h8 h11 ha

theorem Chip.regWrite_alone : c.regWrite slot (r.base + r.stride * i) w hwSet =
    ((⟨c.mem, c.dev.storeWords [(r, w)] r slot i⟩ : Chip).writeEffect slot r i w c.dev).mapDev
      (fun d => (d.setAgain r slot i hwSet).logWrite slot (r.base + r.stride * i) w) := by
  obtain ⟨-, -, -, -, hown, hres, hbusy⟩ := admits_conditions ha
  have words : c.dev.writeWords r slot i w = [(r, w)] := by simp only [Device.writeWords, hhi]
  simp [regWrite, hf, hown, hlo, words, hres, hbusy, c.dev.unhold_of_no_low hhi, h8, h11, mapDev]

/-- A register without a write effect: the word stored, and what hardware sets again. -/
theorem Chip.regWrite_plain (hpool : r.base ≠ R.CMP_POOL_BASE_HI.base ∧ r.base ≠ R.CMP_POOL_CFG.base)
    (hplain : r.base ∉ effectRows.map RegRow.base) : c.regWrite slot (r.base + r.stride * i) w hwSet =
    ⟨c.mem, ((c.dev.storeWord r slot i w).setAgain r slot i hwSet).logWrite slot (r.base + r.stride * i) w⟩ := by
  rw [regWrite_alone hf hlo hhi h8 h11 ha, writeEffect_of_plain hplain]
  simp [mapDev, Device.storeWords, hpool]

end Alone

/-- An admitted register write answers OK after its effect. -/
theorem registerWrite_answers {s : State} {slot i w hwSet : Nat} {r : RegRow} (hs : slot < 8) (hw : w < 2 ^ 32)
    (ha : s.chip.admits slot r i w = true) {m : Memory} {d : Device}
    (h : s.chip.quiet.regWrite slot (r.base + r.stride * i) w hwSet = ⟨m, d⟩) :
    Answers (exec (.registerWrite slot (r.base + r.stride * i) 32 w hwSet) s) m d slot resOk [] :=
  answers_of_chip (registerWrite_runs (by rw [Chip.doWrite_admitted (c := s.chip.quiet) ha hs hw, h]))

theorem regBlock_within : ∀ b < 20, ∀ r ∈ regBlock b, r.base / 65536 = b := by decide +kernel

theorem findReg_mem_base {a i : Nat} {r : RegRow} (h : findReg a = some (r, i)) : r ∈ regBlock (r.base / 65536) := by
  have := findReg_mem h
  rwa [regBlock_within _ (findReg_block h) r this]

/-- The rows of RST and GPIO only store: one copy each, no halves, no write effect. -/
theorem storeOnly_rows : ∀ b ∈ [1, 19], ∀ r ∈ regBlock b, r.isLo = false ∧ r.lowOf = none ∧ r.perSlot = false ∧
    r.base ∉ effectRows.map RegRow.base ∧ r.base ≠ R.CMP_POOL_BASE_HI.base ∧ r.base ≠ R.CMP_POOL_CFG.base ∧
    (r.flds.map Fld.id).Nodup := by decide +kernel

/-- The rows with a rule over several fields (`Device.badTogether`). -/
def togetherRows : List RegRow := [R.DEC_SESS_SIZE, R.ENC_SESS_QP, R.NET_SRC_SIZE, R.TIME_TRIG_CFG, R.TOUCH_KEY_THRESH,
  R.TOUCH_KEY_ACTION, R.PERF_SEL]

/-- A row of which no field can be written, and over whose fields there is no rule. -/
def RegRow.readOnly (r : RegRow) : Bool := r.flds.all (fun f => f.acc = .ro) && r.base ∉ togetherRows.map RegRow.base

/-- The rows of TICK: halves are read-only, and all others have no write effect but TICK_CTRL and TICK_PAGE_FLUSH. -/
theorem tick_rows : ∀ r ∈ regBlock 2, r.base ≠ R.TICK_PAGE_FLUSH.base → r.perSlot = false ∧ (r.flds.map Fld.id).Nodup ∧
    r.base ≠ R.CMP_POOL_BASE_HI.base ∧ r.base ≠ R.CMP_POOL_CFG.base ∧
    (r.base = R.TICK_CTRL.base ∨ r.base ∉ effectRows.map RegRow.base) ∧ (r.base = R.TICK_CTRL.base → ∀ f ∈ r.flds, f.acc ≠ .rwt) ∧
    (r.isLo || r.lowOf.isSome → r.base ≠ R.TICK_CTRL.base ∧ r.readOnly = true ∧ ∀ l ∈ r.lowOf.toList, l.readOnly = true) := by decide +kernel

theorem RegRow.readOnly_acc {r : RegRow} (h : r.readOnly = true) : ∀ f ∈ r.flds, f.acc = .ro := by
  simp only [readOnly, Bool.and_eq_true, List.all_eq_true, decide_eq_true_eq] at h
  exact h.1

theorem Device.reservedWrite_of_readOnly {r : RegRow} (h : r.readOnly = true) (d : Device) (i w : Nat) : d.reservedWrite r i w = false := by
  have acc := RegRow.readOnly_acc h
  simp only [RegRow.readOnly, Bool.and_eq_true, togetherRows, List.map_cons, List.map_nil, List.mem_cons, List.not_mem_nil, or_false,
    not_or, decide_eq_true_eq] at h
  obtain ⟨-, h1, h2, h3, h4, h5, h6, h7⟩ := h
  have fields : r.flds.any (fun f => !(decide (f.acc = .ro) || decide (f.acc = .rc)) && f.bad (f.of w)) = false := by
    simp only [List.any_eq_false]
    intro f hf
    simp [acc f hf]
  simp only [reservedWrite, fields, badTogether, h1, h2, h3, h4, h5, h6, h7, if_false, Bool.or_self]

theorem Device.busyWrite_of_readOnly {r : RegRow} (h : r.readOnly = true) (d : Device) (slot i w : Nat) : d.busyWrite r slot i w = false := by
  have fields : r.flds.any (fun f => decide (f.acc = .rws) && decide (f.of w ≠ d.fieldOf r slot i f)) = false := by
    simp only [List.any_eq_false]
    intro f hf
    simp [RegRow.readOnly_acc h f hf]
  simp only [busyWrite, fields, Bool.and_false]

/-- A write to the high half of two read-only halves changes no register. -/
theorem Chip.regWrite_readOnly {c : Chip} {slot i w hwSet : Nat} {r : RegRow} (hf : findReg (r.base + r.stride * i) = some (r, i))
    (hlo : r.isLo = false) (h8 : r.base / 65536 ≠ 8) (h11 : r.base / 65536 ≠ 11) (ha : c.admits slot r i w = true)
    (hpool : r.base ≠ R.CMP_POOL_BASE_HI.base ∧ r.base ≠ R.CMP_POOL_CFG.base) (hplain : r.base ∉ effectRows.map RegRow.base)
    (hr : r.readOnly = true) (hl : ∀ l ∈ r.lowOf.toList, l.readOnly = true) :
    ∃ d, c.regWrite slot (r.base + r.stride * i) w hwSet = ⟨c.mem, d⟩ ∧ d.regs = c.dev.regs := by
  obtain ⟨-, -, -, -, hown, -, -⟩ := admits_conditions ha
  have rows : ∀ q ∈ c.dev.writeWords r slot i w, q.1.readOnly = true := by
    unfold Device.writeWords
    split
    · next l hlow =>
      have := hl l (by simp [hlow])
      split <;> simp [this, hr]
    · simp [hr]
  have any : (c.dev.writeWords r slot i w).any
      (fun (q : RegRow × Nat) => c.dev.reservedWrite q.1 i q.2 || c.dev.busyWrite q.1 slot i q.2) = false := by
    simp only [List.any_eq_false]
    intro q hq
    simp [c.dev.reservedWrite_of_readOnly (rows q hq), c.dev.busyWrite_of_readOnly (rows q hq)]
  have stored (d : Device) : d.storeWords (c.dev.writeWords r slot i w) r slot i = d := by
    have : (c.dev.writeWords r slot i w).foldl (fun (d : Device) (q : RegRow × Nat) => d.storeWord q.1 slot i q.2) d = d :=
      forL_id (f := fun (q : RegRow × Nat) (d : Device) => d.storeWord q.1 slot i q.2)
        (fun q hq d => d.storeWord_of_commands (fun f hf => .inr (RegRow.readOnly_acc (rows q hq) f hf)) slot i q.2) d
    simp only [Device.storeWords, this, hpool, or_self, if_false]
  have again (d : Device) : d.setAgain r slot i hwSet = d :=
    d.setAgain_of_no_w1c (fun f hf => by simp [RegRow.readOnly_acc hr f hf]) ..
  simp only [regWrite, hf, hown, hlo, any, Bool.false_eq_true, if_false, stored, writeEffect_of_plain hplain, mapDev, again, h8, h11, or_self]
  refine ⟨_, rfl, ?_⟩
  exact (Device.regs_forL (f := fun (q : RegRow × Nat) (d : Device) => d.logWrite slot (q.1.base + q.1.stride * i) q.2)
    (fun q d => d.logWrite_regs ..) _ _).trans (c.dev.unhold_regs ..)

/-- The bits of `v` that `m` selects and those that it does not add up to `v`. -/
theorem and_add_and_xor (v m : Nat) : (v &&& m) + (v &&& (v ^^^ m)) = v := by
  obtain ⟨n, hn⟩ : ∃ n, v < 2 ^ n := ⟨v, Nat.lt_two_pow_self⟩
  have low (k : Nat) : v &&& k < 2 ^ n := Nat.and_le_left.trans_lt hn
  have low' (k : Nat) : v &&& k < 2 ^ (n + 1) := (low k).trans (Nat.pow_lt_pow_right one_lt_two (Nat.lt_succ_self n))
  have sum : (v &&& m) + (v &&& (v ^^^ m)) < 2 ^ (n + 1) := by
    have := low m
    have := low (v ^^^ m)
    rw [pow_succ]
    omega
  have apart : BitVec.ofNat (n + 1) (v &&& m) &&& BitVec.ofNat (n + 1) (v &&& (v ^^^ m)) = 0#(n + 1) := by
    refine BitVec.eq_of_getLsbD_eq fun i hi => ?_
    simp only [BitVec.getLsbD_and, BitVec.getLsbD_ofNat, Nat.testBit_and, Nat.testBit_xor]
    cases v.testBit i <;> cases m.testBit i <;> simp
  have h := congrArg BitVec.toNat (BitVec.add_eq_or_of_and_eq_zero _ _ apart)
  rw [BitVec.toNat_add, BitVec.toNat_or, BitVec.toNat_ofNat, BitVec.toNat_ofNat, Nat.mod_eq_of_lt (low' _), Nat.mod_eq_of_lt (low' _),
    Nat.mod_eq_of_lt sum] at h
  rw [h]
  refine Nat.eq_of_testBit_eq fun i => ?_
  simp only [Nat.testBit_or, Nat.testBit_and, Nat.testBit_xor]
  cases v.testBit i <;> cases m.testBit i <;> simp

theorem testBit_written (v m s k : Nat) : ((v - (v &&& m)) ||| s).testBit k = (v.testBit k && !m.testBit k || s.testBit k) := by
  have clear : v - (v &&& m) = v &&& (v ^^^ m) := by
    have := and_add_and_xor v m
    omega
  rw [clear, Nat.testBit_or, Nat.testBit_and, Nat.testBit_xor]
  cases v.testBit k <;> cases m.testBit k <;> simp

theorem fieldOf_shared {r : RegRow} (hp : r.perSlot = false) (d : Device) (slot i : Nat) (f : Fld) : d.fieldOf r slot i f = d.get f i := by
  rw [Device.fieldOf, hp, if_neg Bool.false_ne_true]

/-- A register that only stores, in a whole cycle: the fields by their access codes, all else as before. -/
theorem registerWrite_storeOnly {s : State} {slot w set i : Nat} {r : RegRow} (hs : slot < 8) (hw : w < 2 ^ 32)
    (hf : findReg (r.base + r.stride * i) = some (r, i)) (ha : s.chip.admits slot r i w = true) (hr : storeOnly r = true) :
    ∃ t, exec (.registerWrite slot (r.base + r.stride * i) 32 w set) s = .next t ∧ t.chip.mem = s.chip.mem ∧
      t.chip.dev.out = [.result slot resOk []] ∧ s.chip.dev.keeps t.chip.dev (but r.flds) ∧
      ∀ f ∈ r.flds, t.chip.dev.get f i =
        let v := f.written (decide (s.chip.dev.pwr = .run)) w (s.chip.dev.get f i)
        if f.acc = .w1c then v ||| f.of set else v := by
  have hb : r.base / 65536 ∈ [1, 19] := by simpa [storeOnly] using hr
  obtain ⟨hlo, hhi, hps, hplain, hp1, hp2, hn⟩ := storeOnly_rows _ hb r (findReg_mem_base hf)
  have h8 : r.base / 65536 ≠ 8 := by rintro e; simp [e] at hb
  have h11 : r.base / 65536 ≠ 11 := by rintro e; simp [e] at hb
  obtain ⟨t, ht, hm, hd⟩ := registerWrite_answers hs hw ha (hwSet := set)
    (Chip.regWrite_plain (c := s.chip.quiet) hf hlo hhi h8 h11 ha ⟨hp1, hp2⟩ hplain)
  have hregs : t.chip.dev.regs = ((s.chip.quiet.dev.storeWord r slot i w).setAgain r slot i set).regs := by
    rw [hd, Device.emit_regs, Device.logWrite_regs]
  obtain ⟨g, q, hst⟩ := s.chip.quiet.dev.storeWord_only r slot i w
  refine ⟨t, ht, hm, ?_, ?_, fun f hfm => ?_⟩
  · obtain ⟨g', hg'⟩ := (s.chip.quiet.dev.storeWord r slot i w).setAgain_only r slot i set
    rw [hd, Device.emit_out, Device.logWrite_out, hg', hst]
    rfl
  · exact Device.keeps_trans (Device.keeps_trans (s.chip.quiet.dev.keeps_storeWord r slot i w) (Device.keeps_setAgain ..))
      (Device.keeps_of_regs hregs _)
  · rw [← fieldOf_shared hps _ slot, Device.fieldOf_congr hregs, Device.fieldOf_setAgain _ _ _ _ _ hn hfm,
      Device.fieldOf_storeWord _ _ _ _ _ hn hfm (fun _ => hps), fieldOf_shared hps]
    rfl

/-- Rates computed anew: the level and the tier of open encode sessions, and nothing else. -/
theorem Device.keeps_encRates (d : Device) (p : Fld → Bool)
    (hp : ∀ g, p g = true → F.ENC_SESS_STATE_LEVEL.id ≠ g.id ∧ F.ENC_SESS_STATE_TIER.id ≠ g.id) :
    d.keeps (forN 32 (fun (n : Nat) (d : Device) => if d.encOpened n then d.encRateEdge n else d) d) p := by
  refine Device.keeps_forL (fun n d => ?_) _ d
  split
  · exact Device.keeps_trans (d.keeps_put F.ENC_SESS_STATE_LEVEL n _ fun g hg => (hp g hg).1)
      (Device.keeps_put _ F.ENC_SESS_STATE_TIER n _ fun g hg => (hp g hg).2)
  · exact d.keeps_of_regs rfl p

/-- What a TICK register but TICK_PAGE_FLUSH lets a write change beside its own fields (R182). -/
def tickAlso (r : RegRow) : List Fld := if r.base = R.TICK_CTRL.base then [F.ENC_SESS_STATE_LEVEL, F.ENC_SESS_STATE_TIER] else []

theorem but_append {l l' : List Fld} {g : Fld} (h : but (l ++ l') g = true) : but l g = true ∧ ∀ f ∈ l', f.id ≠ g.id := by
  have apart := fun f hf => but_apart (l := l ++ l') (f := f) hf g h
  refine ⟨?_, fun f hf => apart f (by simp [hf])⟩
  simp only [but, Bool.not_eq_true', List.contains_eq_mem, decide_eq_false_iff_not, List.mem_map, not_exists, not_and] at h ⊢
  exact fun f hf => h f (by simp at hf ⊢; tauto)

theorem Device.keeps_mono {d e : Device} {p q : Fld → Bool} (h : d.keeps e p) (hq : ∀ f, q f = true → p f = true) : d.keeps e q :=
  ⟨fun f i hf => h.1 f i (hq f hf), fun f s i hf => h.2 f s i (hq f hf)⟩

/-- The rates of the open encode sessions are computed anew where TICK_CTRL was written (R182). -/
def Device.tickRates (r : RegRow) (d : Device) : Device :=
  if r.base = R.TICK_CTRL.base then forN 32 (fun (n : Nat) (d : Device) => if d.encOpened n then d.encRateEdge n else d) d else d

theorem Chip.writeEffect_tick {r : RegRow} (hb : r.base / 65536 = 2) (hne : r.base ≠ R.TICK_PAGE_FLUSH.base) (c : Chip)
    (slot i w : Nat) (old : Device) : c.writeEffect slot r i w old = c.mapDev (Device.tickRates r) := by
  simp only [writeEffect, hb]
  exact congrArg (fun f => mapDev f c) (funext fun d => if_neg fun h => hne h.1)

theorem Device.keeps_tickRates {l : List Fld} (r : RegRow) (d : Device) : d.keeps (d.tickRates r) (but (l ++ tickAlso r)) := by
  unfold tickRates tickAlso
  split
  · refine d.keeps_encRates _ fun g hg => ?_
    exact ⟨(but_append hg).2 _ (by simp), (but_append hg).2 _ (by simp)⟩
  · exact d.keeps_of_regs rfl _

/-- A row of TICK that is no half: the word stored, the rates of TICK_CTRL, and the result. -/
theorem registerWrite_tick {s : State} {slot w i : Nat} {r : RegRow} (hs : slot < 8) (hw : w < 2 ^ 32)
    (hf : findReg (r.base + r.stride * i) = some (r, i)) (ha : s.chip.admits slot r i w = true) (hb : r.base / 65536 = 2)
    (hne : r.base ≠ R.TICK_PAGE_FLUSH.base) (hlo : r.isLo = false) (hhi : r.lowOf = none) :
    ∃ t, exec (.registerWrite slot (r.base + r.stride * i) 32 w 0) s = .next t ∧ t.chip.mem = s.chip.mem ∧
      s.chip.dev.keeps t.chip.dev (but (r.flds ++ tickAlso r)) ∧
      ∀ f ∈ r.flds, f.acc = .rwt → t.chip.dev.get f i = f.written (decide (s.chip.dev.pwr = .run)) w (s.chip.dev.get f i) ∧
        t.chip.dev.rwt = (s.chip.quiet.dev.storeWord r slot i w).rwt := by
  obtain ⟨hps, hn, hp1, hp2, -, hrwt, -⟩ := tick_rows r (hb ▸ findReg_mem_base hf) hne
  have effect : s.chip.quiet.regWrite slot (r.base + r.stride * i) w 0 = ⟨s.chip.mem,
      (((s.chip.quiet.dev.storeWord r slot i w).tickRates r).setAgain r slot i 0).logWrite slot (r.base + r.stride * i) w⟩ := by
    rw [Chip.regWrite_alone (c := s.chip.quiet) hf hlo hhi (by omega) (by omega) ha, Chip.writeEffect_tick hb hne]
    simp [Device.storeWords, hp1, hp2, Chip.mapDev]
    rfl
  obtain ⟨t, ht, hm, hd⟩ := registerWrite_answers hs hw ha effect
  have stored := s.chip.quiet.dev.keeps_storeWord r slot i w
  have keepsMore {d e : Device} (h : d.keeps e (but r.flds)) : d.keeps e (but (r.flds ++ tickAlso r)) :=
    Device.keeps_mono h fun g hg => (but_append hg).1
  have hregs : t.chip.dev.regs = (((s.chip.quiet.dev.storeWord r slot i w).tickRates r).setAgain r slot i 0).regs := by
    rw [hd, Device.emit_regs, Device.logWrite_regs]
  refine ⟨t, ht, hm, ?_, fun f hfm hacc => ?_⟩
  · exact Device.keeps_trans (keepsMore stored) (Device.keeps_trans (Device.keeps_tickRates r _)
      (Device.keeps_trans (keepsMore (Device.keeps_setAgain ..)) (Device.keeps_of_regs hregs _)))
  · have plain (d : Device) : d.tickRates r = d := if_neg fun e => hrwt e f hfm hacc
    have field := Device.fieldOf_setAgain ((s.chip.quiet.dev.storeWord r slot i w).tickRates r) r slot i 0 hn hfm
    rw [if_neg (by simp [hacc]), plain, Device.fieldOf_storeWord _ _ _ _ _ hn hfm (fun _ => hps)] at field
    constructor
    · rw [plain] at hregs
      rw [← fieldOf_shared hps _ slot, Device.fieldOf_congr hregs, field, fieldOf_shared hps]
      rfl
    · obtain ⟨g, hg⟩ := (s.chip.quiet.dev.storeWord r slot i w).setAgain_only r slot i 0
      rw [hd, plain, Device.emit_rwt, Device.logWrite_rwt, hg]

/-- A half of TICK, both of which are read-only: nothing in a register changes. -/
theorem registerWrite_tickHalf {s : State} {slot w i : Nat} {r : RegRow} (hs : slot < 8) (hw : w < 2 ^ 32)
    (hf : findReg (r.base + r.stride * i) = some (r, i)) (ha : s.chip.admits slot r i w = true) (hb : r.base / 65536 = 2)
    (hne : r.base ≠ R.TICK_PAGE_FLUSH.base) (hh : (r.isLo || r.lowOf.isSome) = true) :
    ∃ t, exec (.registerWrite slot (r.base + r.stride * i) 32 w 0) s = .next t ∧ t.chip.mem = s.chip.mem ∧
      t.chip.dev.regs = s.chip.dev.regs ∧ ∀ f ∈ r.flds, f.acc ≠ .rwt := by
  obtain ⟨hps, hn, hp1, hp2, hplain, hrwt, hro⟩ := tick_rows r (hb ▸ findReg_mem_base hf) hne
  obtain ⟨notCtrl, hr, hl⟩ := hro hh
  have acc : ∀ f ∈ r.flds, f.acc ≠ .rwt := fun f hf => by simp [RegRow.readOnly_acc hr f hf]
  cases hlo : r.isLo with
  | true =>
    obtain ⟨t, ht, hm, hd⟩ := registerWrite_answers hs hw ha (Chip.regWrite_held (c := s.chip.quiet) (hwSet := 0) ha hf hlo)
    exact ⟨t, ht, hm, by rw [hd, Device.emit_regs]; rfl, acc⟩
  | false =>
    obtain ⟨d, hd', hregs⟩ := Chip.regWrite_readOnly (c := s.chip.quiet) (hwSet := 0) hf hlo (by omega) (by omega) ha ⟨hp1, hp2⟩
      (hplain.resolve_left notCtrl) hr hl
    obtain ⟨t, ht, hm, hd⟩ := registerWrite_answers hs hw ha hd'
    exact ⟨t, ht, hm, by rw [hd, Device.emit_regs, hregs]; rfl, acc⟩

/-- Settles O7: each access code once, through `Fld.written`, for registers that store and for those of TICK. -/
theorem fieldsFollowTheirAccessCodes : Obligations.FieldsFollowTheirAccessCodes := by
  intro s slot w set r i hs hw hi hf ha
  refine ⟨fun hr => ?_, fun hb hne => ?_⟩
  · obtain ⟨t, ht, hm, hout, hk, hfields⟩ := registerWrite_storeOnly (set := set) hs hw hf ha hr
    refine ⟨t, ht, hm, hout, hk, fun f hfm => ⟨fun h => ?_, fun h => ?_, fun h k hk => ?_⟩⟩
    · simp [hfields f hfm, Fld.written, h]
    · simp [hfields f hfm, Fld.written, h]
    · simp only [hfields f hfm, Fld.written, h, if_true]
      exact testBit_written ..
  · cases hh : r.isLo || r.lowOf.isSome with
    | true =>
      obtain ⟨t, ht, hm, hregs, hacc⟩ := registerWrite_tickHalf hs hw hf ha hb hne hh
      exact ⟨t, ht, hm, Device.keeps_of_regs hregs _, fun f hfm h => absurd h (hacc f hfm)⟩
    | false =>
      simp only [Bool.or_eq_false_iff, Option.isSome_eq_false_iff, Option.isNone_iff_eq_none] at hh
      obtain ⟨t, ht, hm, hk, hfields⟩ := registerWrite_tick hs hw hf ha hb hne hh.1 hh.2
      refine ⟨t, ht, hm, hk, fun f hfm h => ⟨fun hrun => ?_, fun hrun => ⟨?_, ?_⟩⟩⟩
      · simp [(hfields f hfm h).1, Fld.written, h, hrun]
      · simp [(hfields f hfm h).1, Fld.written, h, hrun]
      · rw [(hfields f hfm h).2]
        obtain ⟨hps, hn, -⟩ := tick_rows r (hb ▸ findReg_mem_base hf) hne
        exact ((Device.storeWord_hasTaken hfm hn).2 h).1 (by rw [Device.storeWord_pwr]; exact hrun)

end Sys2Proof.Machine
end

section
/-!
SUPPORT. An EVQ_ACK with COUNT 0: O15 refuted.
-/

namespace Sys2Proof.Machine

/-! ### A session with an EVENT in hand -/

/-- The session of the sample: request 0 was carried out last, and an EVENT is in hand. -/
def eventSession : FuhelSess := ⟨1, 0, 0x0A000002, 1000, 0, none, 0, some 0⟩

/-- Media port 0 is UP with unit address 10.0.0.1; slot 0 is bound to Fuhel on it and has the session of the sample. -/
def eventInHand : State where
  pending := []
  chip.mem := Memory.reset
  chip.dev := ((((({ Device.reset with pwr := .ready, clkWait := [], regs := [] } : Device).put F.RST_CLK_STATUS_IN_RESET 0 0).put
    F.NET_PORT_STATUS_STATE 0 2).put F.NET_PORT_ADDR0_ADDR 0 0x0A000001).put F.HOST_PROT_ROUTE_ROUTE 0 3).setSess 0 eventSession

/-- The next request of that session. -/
def nextRequest : FuhelHdr :=
  ⟨⟨0, 2 ^ 48 - 1, 0x020000000099, none, 64, 0x0800, true, true, false, 0x0A000002, 0x0A000001, 17, 1000, 48920, true, 0, 0⟩, 1, 1, 0⟩

theorem inSession_eventInHand : eventInHand.chip.inSession nextRequest eventSession := by
  unfold Chip.inSession
  decide +kernel

/-- An EVQ_ACK with COUNT 0 leaves the EVENT in hand. -/
theorem evqAck_zero_eventInHand {t : State} (h : exec (.fuhelEvqAck nextRequest 0) eventInHand = .next t) :
    (t.chip.dev.sess 0).map (fun y => y.eventNs) = some (some 0) := by
  obtain rfl : t = { eventInHand with chip := eventInHand.chip.quiet.fuhelIn nextRequest (fun c => c.fuhelReq nextRequest 0x31
      (fun c => (c.mapDev (fun (d : Device) => d.evqAck 0 0), resOk, []))) } := by
    injection h.symm
  decide +kernel

/-- Refutes O15: an EVQ_ACK with COUNT 0 removes nothing and leaves the EVENT in hand, where the statement has none in
hand after every EVQ_ACK. -/
theorem not_fuhelRequestsRunOnce : ¬ Obligations.FuhelRequestsRunOnce := by
  intro h
  obtain ⟨t, y, ht, -, -, -, -, hy, -, hev, -⟩ := (h.1 _ _ _ inSession_eventInHand (by decide)).2 0
  have := evqAck_zero_eventInHand ht
  rw [show t.chip.dev.sess 0 = some y from hy] at this
  simp [hev] at this

end Sys2Proof.Machine
end

section
/-!
SUPPORT. A slot's accesses, and SPI register transactions: O12.
-/

namespace Sys2Proof.Machine

/-! ### Changes that no access looks at -/

/-- From `d` to `e` only what was handed out, the performance counters and the hosts' sessions changed. -/
def Device.Aside (d e : Device) : Prop := ∃ o p x, e = { d with out := o, perf := p, host := x }

section Aside

variable {d e e' : Device}

theorem Device.Aside.refl (d : Device) : d.Aside d := ⟨d.out, d.perf, d.host, rfl⟩

theorem Device.Aside.trans (h : d.Aside e) (h' : e.Aside e') : d.Aside e' := by
  obtain ⟨o, p, x, rfl⟩ := h
  obtain ⟨o', p', x', rfl⟩ := h'
  exact ⟨o', p', x', rfl⟩

theorem Device.aside_quiet (d : Device) : d.Aside d.quiet := ⟨[], d.perf, d.host, rfl⟩
theorem Device.aside_emit (d : Device) (o : Out) : d.Aside (d.emit o) := ⟨d.out ++ [o], d.perf, d.host, rfl⟩

theorem Device.Aside.regs (h : d.Aside e) : e.regs = d.regs := by obtain ⟨o, p, x, rfl⟩ := h; rfl
theorem Device.Aside.evq (h : d.Aside e) : e.evq = d.evq := by obtain ⟨o, p, x, rfl⟩ := h; rfl
theorem Device.Aside.now (h : d.Aside e) : e.now = d.now := by obtain ⟨o, p, x, rfl⟩ := h; rfl
theorem Device.Aside.get (h : d.Aside e) (f : Fld) (i : Nat) : e.get f i = d.get f i := Device.get_congr h.regs f i
theorem Device.Aside.getS (h : d.Aside e) (f : Fld) (s i : Nat) : e.getS f s i = d.getS f s i := Device.getS_congr h.regs f s i
theorem Device.Aside.keeps (h : d.Aside e) (p : Fld → Bool) : d.keeps e p := Device.keeps_of_regs h.regs p
theorem Device.Aside.pd1On (h : d.Aside e) : e.pd1On = d.pd1On := by obtain ⟨o, p, x, rfl⟩ := h; rfl
theorem Device.Aside.inBoot (h : d.Aside e) : e.inBoot = d.inBoot := by obtain ⟨o, p, x, rfl⟩ := h; rfl
theorem Device.Aside.spiSlot (h : d.Aside e) : e.spiSlot = d.spiSlot := by obtain ⟨o, p, x, rfl⟩ := h; rfl
theorem Device.Aside.unitAddr (h : d.Aside e) (p : Nat) : e.unitAddr p = d.unitAddr p := by obtain ⟨o, q, x, rfl⟩ := h; rfl
theorem Device.Aside.txTag (h : d.Aside e) (p : Nat) : e.txTag p = d.txTag p := by obtain ⟨o, q, x, rfl⟩ := h; rfl
theorem Device.Aside.defers (h : d.Aside e) : e.defers = d.defers := by obtain ⟨o, p, x, rfl⟩ := h; rfl
theorem Device.Aside.mayStart (h : d.Aside e) : e.mayStart = d.mayStart := by obtain ⟨o, p, x, rfl⟩ := h; rfl
theorem Device.Aside.dramRefused (h : d.Aside e) (slot a n : Nat) (w : Bool) : e.dramRefused slot a n w = d.dramRefused slot a n w := by
  obtain ⟨o, p, x, rfl⟩ := h; rfl
theorem Device.Aside.roleRefuses (h : d.Aside e) (b : Nat) (own : Bool) : e.roleRefuses b own = d.roleRefuses b own := by
  obtain ⟨o, p, x, rfl⟩ := h; rfl
theorem Device.Aside.mirrorFull (h : d.Aside e) (n : Nat) : e.mirrorFull n = d.mirrorFull n := by obtain ⟨o, p, x, rfl⟩ := h; rfl
theorem Device.Aside.hidden (h : d.Aside e) (r : RegRow) (i : Nat) : e.hidden r i = d.hidden r i := by obtain ⟨o, p, x, rfl⟩ := h; rfl

theorem Device.Aside.admits (h : d.Aside e) (m : Memory) (slot : Nat) (r : RegRow) (i w : Nat) :
    Chip.admits ⟨m, e⟩ slot r i w = Chip.admits ⟨m, d⟩ slot r i w := by obtain ⟨o, p, x, rfl⟩ := h; rfl
theorem Device.Aside.admitsRead (h : d.Aside e) (m : Memory) (slot : Nat) (r : RegRow) (i : Nat) :
    Chip.admitsRead ⟨m, e⟩ slot r i = Chip.admitsRead ⟨m, d⟩ slot r i := by obtain ⟨o, p, x, rfl⟩ := h; rfl

end Aside

/-! ### A slot's accesses, as SPI, Fuhel and the tick edge make them -/

section Access

variable {c : Chip} {slot i w : Nat} {r : RegRow}

theorem Chip.hostWrite_admitted (ha : c.admits slot r i w = true) :
    c.hostWrite slot (r.base + r.stride * i) 32 w 0 = (c.regWrite slot (r.base + r.stride * i) w 0, some resOk) := by
  obtain ⟨-, hf, hr, hd, -⟩ := admits_conditions ha
  simp [hostWrite, hf, hr, hd]

theorem Chip.hostWrite_misaligned {a : Nat} (hb : c.dev.inBoot = false) (ha : a % 4 ≠ 0) :
    c.hostWrite slot a 32 w 0 = (⟨c.mem, c.dev.fault slot whyAlign 0 a⟩, some resFault) := by
  simp [hostWrite, Device.regFault_misaligned hb (.inr ha)]

theorem Chip.hostRead_admitted {inc : Nat} (hf : findReg (r.base + r.stride * i) = some (r, i)) (ha : c.admitsRead slot r i = true) :
    c.hostRead slot (r.base + r.stride * i) 32 inc =
      (⟨c.mem, (c.dev.regRead r slot i inc).1⟩, resOk, (c.dev.regRead r slot i inc).2) := by
  simp only [admitsRead, Bool.and_eq_true, Option.isNone_iff_eq_none] at ha
  simp only [hostRead, ha.2, hf]

end Access

/-- GPIO_OUT stores its word; beside it only the write itself is logged. -/
theorem regWrite_gpioOut {c : Chip} {slot w : Nat} (hw : w < 2 ^ 24) (ha : c.admits slot R.GPIO_OUT 0 w = true) :
    ∃ g p, c.regWrite slot 0x130004 w 0 = ⟨c.mem, { c.dev with regs := g, pair := p }⟩ ∧
      ({ c.dev with regs := g, pair := p } : Device).get F.GPIO_OUT_OUT = w ∧
      c.dev.keeps { c.dev with regs := g, pair := p } (but [F.GPIO_OUT_OUT]) := by
  have plain := Chip.regWrite_plain (hwSet := 0) (r := R.GPIO_OUT) (i := 0) (by rfl) (by rfl) (by rfl) (by decide) (by decide) ha (by decide) (by decide)
  have stored : (c.dev.storeWord R.GPIO_OUT slot 0 w).setAgain R.GPIO_OUT slot 0 0 = c.dev.put F.GPIO_OUT_OUT 0 (F.GPIO_OUT_OUT.of w) := rfl
  obtain ⟨p, hp⟩ := (c.dev.put F.GPIO_OUT_OUT 0 (F.GPIO_OUT_OUT.of w)).logWrite_only slot 0x130004 w
  rw [stored] at plain
  refine ⟨(c.dev.put F.GPIO_OUT_OUT 0 (F.GPIO_OUT_OUT.of w)).regs, p, plain.trans (by rw [show R.GPIO_OUT.base + R.GPIO_OUT.stride * 0 = 0x130004 from rfl, hp]; rfl), ?_, ?_⟩
  · have : F.GPIO_OUT_OUT.of w = w := by
      rw [Fld.of, show F.GPIO_OUT_OUT.lo = 0 from rfl, pow_zero, Nat.div_one]
      exact Nat.mod_eq_of_lt hw
    exact (c.dev.get_put_same ..).trans (by rw [this]; exact Nat.mod_eq_of_lt hw)
  · exact c.dev.keeps_put F.GPIO_OUT_OUT 0 _ (but_apart (by simp))

/-! ### SPI transactions -/

/-- The device once the status byte has been driven. -/
def Device.driven (d : Device) : Device := d.quiet.emit (.value d.spiStatus)

theorem Device.aside_driven (d : Device) : d.Aside d.driven := d.aside_quiet.trans (d.quiet.aside_emit _)

theorem Device.readWord_driven (d : Device) (r : RegRow) (slot i : Nat) : d.driven.readWord r slot i = d.readWord r slot i :=
  (d.driven.readWord_quiet r slot i).symm.trans (d.readWord_quiet r slot i)

theorem Device.spiEnd_out (d : Device) (r : Nat) : (d.spiEnd r).out = d.out := rfl

/-- The result of a transaction is kept for the next status byte. -/
theorem Device.aside_spiEnd (d : Device) (r : Nat) : d.Aside (d.spiEnd r) := ⟨d.out, d.perf, _, rfl⟩

section Spi

variable {s : State} {boot : Chip → Chip} {run : Nat → Chip → Chip}

theorem spi_serves {h : Nat} (hs : s.chip.spiServes h) : s.chip.quiet.spi boot run = run h ⟨s.chip.mem, s.chip.dev.driven⟩ := by
  obtain ⟨hp, hb, hslot⟩ := hs
  have hd := s.chip.dev.aside_driven
  have on : s.chip.quiet.dev.pd1On = true := hp
  have map : s.chip.quiet.mapDev (fun d => d.emit (.value d.spiStatus)) = ⟨s.chip.mem, s.chip.dev.driven⟩ := rfl
  simp only [Chip.spi, on, map, Bool.not_true, Bool.false_eq_true, if_false, hd.inBoot, hb, hd.spiSlot, hslot]

theorem spi_unbound (hp : s.chip.dev.pd1On = true) (hb : s.chip.dev.inBoot = false) (hslot : s.chip.dev.spiSlot = none) :
    s.chip.quiet.spi boot run = ⟨s.chip.mem, s.chip.dev.driven.spiEnd resFault⟩ := by
  have hd := s.chip.dev.aside_driven
  have on : s.chip.quiet.dev.pd1On = true := hp
  have map : s.chip.quiet.mapDev (fun d => d.emit (.value d.spiStatus)) = ⟨s.chip.mem, s.chip.dev.driven⟩ := rfl
  simp only [Chip.spi, on, map, Bool.not_true, Bool.false_eq_true, if_false, hd.inBoot, hb, hd.spiSlot, hslot]
  rfl

end Spi

/-- A next state by its memory and its device. -/
theorem next_of_chip {o : Host.Outcome State Fault Refusal} {s : State} {m : Memory} {d : Device} (h : o = .next { s with chip := ⟨m, d⟩ }) :
    ∃ t, o = .next t ∧ t.chip.mem = m ∧ t.chip.dev = d := ⟨_, h, rfl, rfl⟩

/-- What a transaction of the slot bound to SPI comes to, by what it runs. -/
theorem spi_next {s : State} {m : Memory} {d : Device} {c : Instr} {f : Chip → Chip} (hc : exec c s = onChip f s)
    (hf : f s.chip.quiet = ⟨m, d⟩) : exec c s = .next { s with chip := ⟨m, d⟩ } := by rw [hc, onChip, hf]

/-- The access of a SPI REG_READ and its answer. -/
def Chip.spiRead (addr h : Nat) (c : Chip) : Chip :=
  let p := c.hostRead h addr 32 0
  (p.1.mapDev (fun (d : Device) => d.spiEnd p.2.1)).answer h p.2.1 (beBytes 4 p.2.2)

theorem Chip.spiRegRead_eq (addr : Nat) (c : Chip) : c.spiRegRead addr =
    c.spi (fun c => if addr < 0x20000 ∧ addr % 4 = 0 then c.spiRead addr 0 else c.spiRefused) (Chip.spiRead addr) := rfl

section Serves

variable {s : State} {h : Nat} (hs : s.chip.spiServes h)
include hs

theorem spiStatus_runs : exec .spiStatus s = .next { s with chip := ⟨s.chip.mem, s.chip.dev.driven⟩ } :=
  spi_next rfl (spi_serves hs)

theorem spiRegWrite_runs {a w : Nat} {m : Memory} {d : Device} {code : Nat}
    (hw : Chip.hostWrite h a 32 (w % 2 ^ 32) 0 ⟨s.chip.mem, s.chip.dev.driven⟩ = (⟨m, d⟩, some code)) :
    exec (.spiRegWrite a w) s = .next { s with chip := ⟨m, d.spiEnd code⟩ } := by
  refine spi_next rfl ((spi_serves hs).trans ?_)
  simp only [hw]
  rfl

theorem spiRegRead_runs {a : Nat} {m : Memory} {d : Device} {code v : Nat}
    (hr : Chip.hostRead h a 32 0 ⟨s.chip.mem, s.chip.dev.driven⟩ = (⟨m, d⟩, code, v)) :
    exec (.spiRegRead a) s = .next { s with chip := ⟨m, (d.spiEnd code).emit (.result h code (beBytes 4 v))⟩ } := by
  refine spi_next rfl ((Chip.spiRegRead_eq ..).trans ((spi_serves hs).trans ?_))
  simp only [Chip.spiRead, hr]
  rfl

end Serves

/-- Settles O12: the status byte first, then the access of the slot bound to SPI. -/
theorem spiRegisterTransactions : Obligations.SpiRegisterTransactions := by
  refine ⟨fun s hp => ⟨⟨_, spi_next (d := s.chip.dev.driven.spiEnd resFormat) rfl ?_, rfl, rfl, rfl, rfl⟩, fun hb hslot c hc => ?_⟩,
    fun s h hs => ⟨?_, fun w hw ha => ?_, fun a w ha h4 => ?_, fun r i hf ha hpop hlow hhid => ?_⟩⟩
  · have on : s.chip.quiet.dev.pd1On = true := hp
    simp only [Chip.spiInvalid, on, Bool.not_true, Bool.false_eq_true, if_false]
    rfl
  · have runs (boot : Chip → Chip) (run : Nat → Chip → Chip) := spi_unbound (boot := boot) (run := run) hp hb hslot
    simp only [List.mem_cons, List.not_mem_nil, or_false] at hc
    have ended {c : Instr} {f : Chip → Chip} (hc : exec c s = onChip f s) (hf : f s.chip.quiet = ⟨s.chip.mem, s.chip.dev.driven.spiEnd resFault⟩) :
        ∃ t, exec c s = .next t ∧ t.chip.mem = s.chip.mem ∧ t.chip.dev.regs = s.chip.dev.regs ∧ t.chip.dev.host.spi.last = resFault ∧
          t.chip.dev.out = [.value s.chip.dev.spiStatus] := ⟨_, spi_next hc hf, rfl, rfl, rfl, rfl⟩
    rcases hc with rfl | rfl | rfl | rfl | rfl | rfl
    case inr.inr.inl => exact ended rfl ((Chip.spiRegRead_eq ..).trans (runs _ _))
    all_goals exact ended rfl (runs _ _)
  · exact ⟨_, spiStatus_runs hs, rfl, rfl⟩
  · have hd := s.chip.dev.aside_driven
    obtain ⟨g, p, hw', hget, hk⟩ := regWrite_gpioOut (c := ⟨s.chip.mem, s.chip.dev.driven⟩) hw ((hd.admits _ _ _ _ _).trans ha)
    have access : Chip.hostWrite h 0x130004 32 (w % 2 ^ 32) 0 ⟨s.chip.mem, s.chip.dev.driven⟩ =
        (⟨s.chip.mem, { s.chip.dev.driven with regs := g, pair := p }⟩, some resOk) := by
      rw [Nat.mod_eq_of_lt (hw.trans (by decide)), ← hw']
      exact Chip.hostWrite_admitted (r := R.GPIO_OUT) (i := 0) ((hd.admits _ _ _ _ _).trans ha)
    exact ⟨_, spiRegWrite_runs hs access, rfl, hget, Device.keeps_trans (hd.keeps _) hk, rfl, rfl⟩
  · have hd := s.chip.dev.aside_driven
    have access := Chip.hostWrite_misaligned (c := ⟨s.chip.mem, s.chip.dev.driven⟩) (slot := h) (w := w % 2 ^ 32) (hd.inBoot.trans hs.2.1) h4
    refine ⟨_, spiRegWrite_runs hs access, rfl, ?_, rfl, ?_⟩
    · exact Device.keeps_trans (hd.keeps _) (s.chip.dev.driven.keeps_fault h whyAlign 0 a)
    · exact s.chip.dev.driven.getS_fault_reason h whyAlign 0 a (by decide)
  · have hd := s.chip.dev.aside_driven
    have read := Device.regRead_of_plain (d := s.chip.dev.driven) (slot := h) (inc := 0) ((hd.hidden r i).trans hhid) hpop hlow
    have access := Chip.hostRead_admitted (c := ⟨s.chip.mem, s.chip.dev.driven⟩) (inc := 0) hf ((hd.admitsRead ..).trans ha)
    rw [read] at access
    obtain ⟨t, ht, hm, hd⟩ := next_of_chip (spiRegRead_runs hs access)
    refine ⟨t, ht, hm, by rw [hd, Device.emit_host]; rfl, ?_⟩
    rw [hd, Device.emit_out, Device.spiEnd_out, Device.clearRc_out, Device.latchHigh_out, Device.readWord_driven]
    rfl

end Sys2Proof.Machine
end

section
/-!
SUPPORT. The data port, and SPI transactions that use it: O13.
-/

namespace Sys2Proof.Machine

/-! ### The data port at DRAM -/

/-- Mirroring a data-port write changes the unit's mirror and the register that shows it. -/
theorem Device.mirrorWrite_only (d : Device) (target a : Nat) (l : List Byte) :
    ∃ g p, d.mirrorWrite target a l = { d with regs := g, pair := p } ∧
      d.keeps { d with regs := g, pair := p } (but [F.PAIR_MIRROR_STATUS_PENDING_KIB]) := by
  have noted (d : Device) (n : Nat) : ∃ p, d.pageNote target a n = { d with pair := p } := by
    unfold Device.pageNote
    split
    · exact ⟨_, rfl⟩
    · exact ⟨d.pair, rfl⟩
  have still (p : PairX) : d.keeps { d with regs := d.regs, pair := p } (but [F.PAIR_MIRROR_STATUS_PENDING_KIB]) := Device.keeps_of_regs rfl _
  unfold Device.mirrorWrite
  split
  · obtain ⟨p, hp⟩ := noted (d.setMirror (fun (m : Mirror) => { m with issued := d.pair.mirror.issued + 1 })) l.length
    simp only [hp]
    split
    · exact ⟨_, _, rfl, Device.keeps_put d F.PAIR_MIRROR_STATUS_PENDING_KIB 0 _ (but_apart (by simp))⟩
    · exact ⟨_, p, rfl, still p⟩
  · obtain ⟨p, hp⟩ := noted d l.length
    exact ⟨_, p, hp, still p⟩

theorem Device.portErrs_nil (d : Device) (slot : Nat) (w : Bool) : d.portErrs slot [] w = d := rfl

/-- A permitted data-port write to DRAM stores its bytes. -/
theorem Chip.dpWrite_dram {c : Chip} {slot a : Nat} {l : List Byte} (h : c.takesBytes slot a l) :
    ∃ g p, c.dpWrite slot 0 a l = (⟨(c.mem.writePort a l).1, { c.dev with regs := g, pair := p }⟩, resOk) ∧
      c.dev.keeps { c.dev with regs := g, pair := p } (but [F.PAIR_MIRROR_STATUS_PENDING_KIB]) := by
  obtain ⟨hb, hr, hrole, hroom, hbad⟩ := h
  obtain ⟨g, p, hm, hk⟩ := c.dev.mirrorWrite_only 0 a l
  refine ⟨g, p, ?_, hk⟩
  simp only [dpWrite, hb, hr, dpGuard, hrole, hroom, hbad, Bool.false_eq_true, if_false, List.isEmpty_nil, if_true, true_or, portErrs,
    mapDev, Device.portErrs_nil, hm]

/-- A permitted data-port read of DRAM without poison answers the bytes there. -/
theorem Chip.dpRead_dram {c : Chip} {slot a n : Nat} (hb : c.dev.inBoot = false) (hr : c.dev.dramRefused slot a n false = none)
    (hp : c.mem.poison = []) : c.dpRead slot 0 a n = (c, resOk, (List.range n).map (fun k => Dram.read c.mem.dram (a + k))) := by
  have bad : c.mem.badOf a n = [] := by simp [Memory.badOf, hp]
  have bytes : (c.mem.readPort a n).1 = (List.range n).map (fun k => Dram.read c.mem.dram (a + k)) := by
    simp [Memory.readPort, Memory.burstBad, hp]
  simp only [dpRead, hb, hr, bad, bytes, Bool.false_eq_true, if_false, List.isEmpty_nil, if_true, portErrs, mapDev, Device.portErrs_nil]

theorem Memory.storedAt_writePort {m : Memory} (hw : m.dram.wf = true) (a : Nat) (l : List Byte) : m.storedAt (m.writePort a l).1 a l :=
  ⟨fun k h => Dram.read_writeList_inside hw a l k h, fun x h => Dram.read_writeList_outside hw a l x h⟩

/-- The pointer holds 40 bits. -/
theorem Device.dpPtr_setPtr (d : Device) (slot a : Nat) : (d.setPtr slot a).dpPtr slot = a % 2 ^ 40 := by
  have low : (d.setPtr slot a).getS F.HOST_DP_ADDR_LO_ADDR_LO slot = a % 2 ^ 32 :=
    (Device.getS_putS_ne _ _ _ _ _ _ _ _ (by decide)).trans (d.getS_putS_same _ _ _ _)
  have high : (d.setPtr slot a).getS F.HOST_DP_ADDR_HI_ADDR_HI slot = a / 2 ^ 32 % 2 ^ 8 := Device.getS_putS_same _ _ _ _ _
  rw [dpPtr, low, high, show (2 : Nat) ^ 40 = 2 ^ 32 * 2 ^ 8 from rfl, Nat.mod_mul]

theorem Device.dpPtr_keeps {d e : Device} {p : Fld → Bool} (h : d.keeps e p) (hl : p F.HOST_DP_ADDR_LO_ADDR_LO = true)
    (hh : p F.HOST_DP_ADDR_HI_ADDR_HI = true) (slot : Nat) : e.dpPtr slot = d.dpPtr slot := by
  rw [dpPtr, dpPtr, h.2 _ _ _ hl, h.2 _ _ _ hh]

/-! ### The SPI data port -/

theorem Device.Aside.takesBytes {m : Memory} {d e : Device} (h : d.Aside e) {slot a : Nat} {l : List Byte} (ht : Chip.takesBytes ⟨m, d⟩ slot a l) :
    Chip.takesBytes ⟨m, e⟩ slot a l := by
  obtain ⟨hb, hr, hrole, hroom, hbad⟩ := ht
  exact ⟨h.inBoot.trans hb, (h.dramRefused ..).trans hr, (h.roleRefuses ..).trans hrole, (h.mirrorFull _).trans hroom, hbad⟩

theorem Device.Aside.dpPtr {d e : Device} (h : d.Aside e) (slot : Nat) : e.dpPtr slot = d.dpPtr slot :=
  Device.dpPtr_keeps (h.keeps (fun _ => true)) rfl rfl slot

/-- A transfer of `n` bytes at the pointer advances it where INC is 1. -/
def Device.advance (d : Device) (slot a n : Nat) : Device := if d.getS F.HOST_DP_CTRL_INC slot = 1 then d.setPtr slot (a + n) else d

theorem Device.advance_eq (d : Device) (slot a n : Nat) :
    (if moved resOk && decide (d.getS F.HOST_DP_CTRL_INC slot = 1) then d.setPtr slot (a + n) else d) = d.advance slot a n := by
  simp [advance, moved]

theorem Device.dpPtr_advance (d : Device) (slot n : Nat) : (d.advance slot (d.dpPtr slot) n).dpPtr slot =
    if d.getS F.HOST_DP_CTRL_INC slot = 1 then (d.dpPtr slot + n) % 2 ^ 40 else d.dpPtr slot := by
  unfold advance
  split
  · exact d.dpPtr_setPtr slot _
  · rfl

section Serves

variable {s : State} {h : Nat} (hs : s.chip.spiServes h)
include hs

/-- What the slot's data-port transaction comes to, by what it does on the device with the status byte driven. -/
theorem spiData_runs {c : Instr} {boot : Chip → Chip} {run : Nat → Chip → Chip} {m : Memory} {d : Device}
    (hc : exec c s = onChip (fun c => c.spi boot run) s) (hr : run h ⟨s.chip.mem, s.chip.dev.driven⟩ = ⟨m, d⟩) :
    exec c s = .next { s with chip := ⟨m, d⟩ } := spi_next hc ((spi_serves hs).trans hr)

/-- A transaction that ends without an access leaves its result only. -/
theorem spiEnded {c : Instr} {boot : Chip → Chip} {run : Nat → Chip → Chip} {code : Nat}
    (hc : exec c s = onChip (fun c => c.spi boot run) s) (hr : run h ⟨s.chip.mem, s.chip.dev.driven⟩ = ⟨s.chip.mem, s.chip.dev.driven.spiEnd code⟩) :
    ∃ t, exec c s = .next t ∧ t.chip.mem = s.chip.mem ∧ t.chip.dev.regs = s.chip.dev.regs ∧
      t.chip.dev.host.spi = { s.chip.dev.host.spi with last := code } := ⟨_, spiData_runs hs hc hr, rfl, rfl, rfl⟩

theorem spiDpWrite_stores {l : List Byte} (hw : s.chip.mem.dram.wf = true) (h1 : 1 ≤ l.length) (h256 : l.length ≤ 256)
    (hf : s.chip.dev.host.spi.fetching = none) (ht : s.chip.dev.dpTarget h = 0) (hl : s.chip.takesBytes h (s.chip.dev.dpPtr h) l) :
    ∃ t, exec (.spiDpWrite l) s = .next t ∧ s.chip.mem.storedAt t.chip.mem (s.chip.dev.dpPtr h) l ∧ t.chip.mem.flash = s.chip.mem.flash ∧
      t.chip.dev.host.spi.last = resOk ∧ t.chip.dev.dpPtr h =
        if s.chip.dev.getS F.HOST_DP_CTRL_INC h = 1 then (s.chip.dev.dpPtr h + l.length) % 2 ^ 40 else s.chip.dev.dpPtr h := by
  have hd := s.chip.dev.aside_driven
  obtain ⟨g, p, write, hk⟩ := Chip.dpWrite_dram (Device.Aside.takesBytes hd hl)
  have long : ¬ (l.isEmpty || decide (l.length > 256)) = true := by
    cases l with
    | nil => simp at h1
    | cons => simpa using h256
  have idle : s.chip.dev.driven.host.spi.fetching.isSome = false := by rw [show s.chip.dev.driven.host = s.chip.dev.host from rfl, hf]; rfl
  have target : s.chip.dev.driven.dpTarget h = 0 := ht
  obtain ⟨t, htx, hm, hdev⟩ := next_of_chip (m := (s.chip.mem.writePort (s.chip.dev.dpPtr h) l).1)
    (d := (({ s.chip.dev.driven with regs := g, pair := p } : Device).advance h (s.chip.dev.dpPtr h) l.length).spiEnd resOk)
    (spiData_runs hs (c := .spiDpWrite l) rfl (by
      simp only [if_neg long, idle, Bool.false_eq_true, if_false, target, hd.dpPtr, write, Chip.mapDev, Device.advance_eq]))
  have ptr : ({ s.chip.dev.driven with regs := g, pair := p } : Device).dpPtr h = s.chip.dev.dpPtr h :=
    Device.dpPtr_keeps (Device.keeps_trans (hd.keeps _) hk) (by rfl) (by rfl) h
  have inc : ({ s.chip.dev.driven with regs := g, pair := p } : Device).getS F.HOST_DP_CTRL_INC h = s.chip.dev.getS F.HOST_DP_CTRL_INC h :=
    (Device.keeps_trans (hd.keeps _) hk).2 _ _ _ (by rfl)
  refine ⟨t, htx, by rw [hm]; exact Memory.storedAt_writePort hw _ l, by rw [hm]; rfl, by rw [hdev]; rfl, ?_⟩
  rw [hdev, (Device.aside_spiEnd _ _).dpPtr, ← ptr, Device.dpPtr_advance, inc]

theorem spiDpFetch_fills {n : Nat} (h1 : 1 ≤ n) (h256 : n ≤ 256) (hf : s.chip.dev.host.spi.fetching = none) (ht : s.chip.dev.dpTarget h = 0)
    (hr : s.chip.dev.dramRefused h (s.chip.dev.dpPtr h) n false = none) (hp : s.chip.mem.poison = []) :
    ∃ t, exec (.spiDpFetch n) s = .next t ∧ t.chip.mem = s.chip.mem ∧ t.chip.dev.host.spi.last = resOk ∧
      t.chip.dev.host.spi.fetching = some n ∧ (t.chip.dev.dpPtr h =
        if s.chip.dev.getS F.HOST_DP_CTRL_INC h = 1 then (s.chip.dev.dpPtr h + n) % 2 ^ 40 else s.chip.dev.dpPtr h) ∧
      t.chip.dev.host.spi.buffer = some ((List.range n).map (fun k => Dram.read s.chip.mem.dram (s.chip.dev.dpPtr h + k))) := by
  have hd := s.chip.dev.aside_driven
  have read := Chip.dpRead_dram (c := ⟨s.chip.mem, s.chip.dev.driven⟩) (hd.inBoot.trans hs.2.1) ((hd.dramRefused ..).trans hr) hp
  generalize (List.range n).map (fun k => Dram.read s.chip.mem.dram (s.chip.dev.dpPtr h + k)) = l at read ⊢
  have long : ¬ (n = 0 ∨ n > 256) := by omega
  have idle : s.chip.dev.driven.host.spi.fetching.isSome = false := by rw [show s.chip.dev.driven.host = s.chip.dev.host from rfl, hf]; rfl
  have target : s.chip.dev.driven.dpTarget h = 0 := ht
  obtain ⟨t, htx, hm, hdev⟩ := next_of_chip (m := s.chip.mem)
    (d := (s.chip.dev.driven.advance h (s.chip.dev.dpPtr h) n).setSpi (fun (x : SpiX) => { x with last := resOk, fetching := some n, buffer := some l }))
    (spiData_runs hs (c := .spiDpFetch n) rfl (by
      simp only [if_neg long, idle, Bool.false_eq_true, if_false, target, hd.dpPtr, read, Chip.mapDev, Device.advance_eq]))
  refine ⟨t, htx, hm, by rw [hdev]; rfl, by rw [hdev]; rfl, ?_, by rw [hdev]; rfl⟩
  have still (d : Device) (f : SpiX → SpiX) : (d.setSpi f).dpPtr h = d.dpPtr h := rfl
  rw [hdev, still, ← hd.dpPtr h, Device.dpPtr_advance, hd.getS]

theorem spiDpRead_full {l : List Byte} (hf : s.chip.dev.host.spi.fetching = none) (hb : s.chip.dev.host.spi.buffer = some l) :
    ∃ t, exec .spiDpRead s = .next t ∧ t.chip.mem = s.chip.mem ∧ t.chip.dev.regs = s.chip.dev.regs ∧
      t.chip.dev.host.spi = { s.chip.dev.host.spi with last := resOk, buffer := none } ∧
      t.chip.dev.out = [.value s.chip.dev.spiStatus, .result h resOk l] := by
  have host : s.chip.dev.driven.host = s.chip.dev.host := rfl
  refine ⟨_, spiData_runs hs (c := .spiDpRead) (m := s.chip.mem)
    (d := (s.chip.dev.driven.setSpi (fun (x : SpiX) => { x with last := resOk, buffer := none })).emit (.result h resOk l)) rfl ?_,
    rfl, rfl, rfl, rfl⟩
  simp only [host, hf, hb]
  rfl

theorem spiDpRead_busy (hf : s.chip.dev.host.spi.fetching.isSome = true ∨ s.chip.dev.host.spi.buffer = none) :
    ∃ t, exec .spiDpRead s = .next t ∧ t.chip.mem = s.chip.mem ∧ t.chip.dev.host.spi = { s.chip.dev.host.spi with last := resBusy } := by
  have host : s.chip.dev.driven.host = s.chip.dev.host := rfl
  refine ⟨_, spiData_runs hs (c := .spiDpRead) (m := s.chip.mem) (d := (s.chip.dev.driven.spiEnd resBusy).emit
    (.result h resBusy (List.replicate (s.chip.dev.host.spi.fetching.getD 0) 0))) rfl ?_, rfl, rfl⟩
  simp only [host]
  split
  next hfetch hbuf => simp [hfetch, hbuf] at hf
  next => rfl

theorem spiData_busy (hf : s.chip.dev.host.spi.fetching.isSome = true) {l : List Byte} (h1 : 1 ≤ l.length) (h256 : l.length ≤ 256) :
    ∀ c ∈ [Instr.spiDpWrite l, .spiDpFetch l.length], ∃ t, exec c s = .next t ∧ t.chip.mem = s.chip.mem ∧ t.chip.dev.regs = s.chip.dev.regs ∧
      t.chip.dev.host.spi = { s.chip.dev.host.spi with last := resBusy } := by
  have busy : s.chip.dev.driven.host.spi.fetching.isSome = true := hf
  have long : ¬ (l.isEmpty || decide (l.length > 256)) = true := by
    cases l with
    | nil => simp at h1
    | cons => simpa using h256
  have long' : ¬ (l.length = 0 ∨ l.length > 256) := by omega
  simp only [List.forall_mem_cons, List.not_mem_nil, false_implies, implies_true, and_true]
  constructor
  · refine spiEnded hs (c := .spiDpWrite l) rfl ?_
    simp only [if_neg long, busy, if_true]
    rfl
  · refine spiEnded hs (c := .spiDpFetch l.length) rfl ?_
    simp only [if_neg long', busy, if_true]
    rfl

theorem spiData_format {n : Nat} {l : List Byte} (hn : n = 0 ∨ 256 < n) (hl : l.length = n) :
    ∀ c ∈ [Instr.spiDpWrite l, .spiDpFetch n], ∃ t, exec c s = .next t ∧ t.chip.mem = s.chip.mem ∧ t.chip.dev.regs = s.chip.dev.regs ∧
      t.chip.dev.host.spi = { s.chip.dev.host.spi with last := resFormat } := by
  have bad : (l.isEmpty || decide (l.length > 256)) = true := by
    rw [Bool.or_eq_true, List.isEmpty_iff_length_eq_zero, decide_eq_true_iff, hl]
    exact hn
  simp only [List.forall_mem_cons, List.not_mem_nil, false_implies, implies_true, and_true]
  constructor
  · refine spiEnded hs (c := .spiDpWrite l) rfl ?_
    simp only [bad, if_true]
    rfl
  · refine spiEnded hs (c := .spiDpFetch n) rfl ?_
    simp only [if_pos hn]
    rfl

end Serves

/-- Settles O13: bytes move at the slot's pointer, and the buffer is handed over once. -/
theorem spiDataPort : Obligations.SpiDataPort := by
  intro s h hs hw
  refine ⟨fun l h1 h256 hf ht hl => spiDpWrite_stores hs hw h1 h256 hf ht hl, fun n h1 h256 hf ht hr hp => spiDpFetch_fills hs h1 h256 hf ht hr hp,
    ⟨_, rfl, rfl, rfl, rfl⟩, fun l hf hb => spiDpRead_full hs hf hb, fun hf => spiDpRead_busy hs hf,
    fun hf l h1 h256 => spiData_busy hs hf h1 h256, fun n l hn hl => spiData_format hs hn hl⟩

end Sys2Proof.Machine
end

section
/-!
SUPPORT. Fuhel requests, and the accesses they carry: O16.
-/

namespace Sys2Proof.Machine

/-! ### Fuhel messages -/

/-- The device once the message's frame is counted. -/
def Device.heardBy (d : Device) (q : FuhelHdr) : Device := d.quiet.countRx q.rx

theorem Device.countRx_only (d : Device) (h : RxHdr) : ∃ p, d.countRx h = { d with perf := p } := by
  unfold countRx
  split
  · obtain ⟨p, hp⟩ := d.count_only 0x12 h.port 1
    exact ⟨_, by simp only [hp]; rfl⟩
  · exact ⟨d.perf, rfl⟩

theorem Device.aside_heardBy (d : Device) (q : FuhelHdr) : d.Aside (d.heardBy q) := by
  obtain ⟨p, hp⟩ := d.quiet.countRx_only q.rx
  exact ⟨[], p, d.host, hp⟩

theorem Device.heardBy_host (d : Device) (q : FuhelHdr) : (d.heardBy q).host = d.host := by
  obtain ⟨p, hp⟩ := d.quiet.countRx_only q.rx
  rw [heardBy, hp]
  rfl

theorem Device.heardBy_out (d : Device) (q : FuhelHdr) : (d.heardBy q).out = [] := by
  obtain ⟨p, hp⟩ := d.quiet.countRx_only q.rx
  rw [heardBy, hp]
  rfl

theorem Device.Aside.classify {d e : Device} (h : d.Aside e) (rx : RxHdr) : e.classify rx = d.classify rx := by
  obtain ⟨o, p, x, rfl⟩ := h
  have accepted : ({ d with out := o, perf := p, host := x } : Device).accepts rx = d.accepts rx := rfl
  have addressed : ({ d with out := o, perf := p, host := x } : Device).unitAddr rx.port = d.unitAddr rx.port := rfl
  have flows (f : Nat) : ({ d with out := o, perf := p, host := x } : Device).flowMatches f rx = d.flowMatches f rx := rfl
  have groups : ({ d with out := o, perf := p, host := x } : Device).witGroups rx.port = d.witGroups rx.port := rfl
  simp only [Device.classify, accepted, addressed, flows, groups]

theorem Device.Aside.slotBound {d e : Device} (h : d.Aside e) (slot : Nat) (rx : RxHdr) : e.slotBound slot rx = d.slotBound slot rx := by
  obtain ⟨o, p, x, rfl⟩ := h
  rfl

theorem Device.aside_reply (d : Device) (q : FuhelHdr) (op session status : Nat) (body : List Byte) :
    d.Aside (d.reply q op session status body) := by
  obtain ⟨p, hp⟩ := d.fuhelSend_only q.rx.port q.rx.src q.rx.sport (op + 128) session q.seq q.slot status body
  exact ⟨_, p, d.host, hp⟩

theorem Device.reply_host (d : Device) (q : FuhelHdr) (op session status : Nat) (body : List Byte) :
    (d.reply q op session status body).host = d.host := by
  obtain ⟨p, hp⟩ := d.fuhelSend_only q.rx.port q.rx.src q.rx.sport (op + 128) session q.seq q.slot status body
  rw [reply, hp]

/-- A response is sent last, with the port's address and tag. -/
theorem Device.reply_out {c : Chip} {d : Device} {q : FuhelHdr} (ha : d.unitAddr q.rx.port = c.dev.unitAddr q.rx.port)
    (ht : d.txTag q.rx.port = c.dev.txTag q.rx.port) (ho : d.out = []) (op session status : Nat) (body : List Byte) :
    (d.reply q op session status body).out = [c.response q op session status body] := by
  obtain ⟨p, hp⟩ := d.fuhelSend_only q.rx.port q.rx.src q.rx.sport (op + 128) session q.seq q.slot status body
  rw [reply, hp, ho, ha, ht]
  rfl

theorem Device.aside_setSess (d : Device) (h : Nat) (x : FuhelSess) : d.Aside (d.setSess h x) := ⟨d.out, d.perf, _, rfl⟩

/-- A message that is heard runs on the device that has counted its frame. -/
theorem fuhel_runs {s : State} {q : FuhelHdr} {c : Instr} {f : Chip → Chip} {m : Memory} {d : Device} (hh : s.chip.hears q = true)
    (hc : exec c s = onChip (Chip.fuhelIn q f) s) (hf : f ⟨s.chip.mem, s.chip.dev.heardBy q⟩ = ⟨m, d⟩) :
    exec c s = .next { s with chip := ⟨m, d⟩ } := by
  simp only [Chip.hears, Bool.and_eq_true, decide_eq_true_eq] at hh
  obtain ⟨⟨hp, hk⟩, hb⟩ := hh
  have hd := s.chip.dev.aside_heardBy q
  obtain ⟨p, hr⟩ := s.chip.dev.countRx_only q.rx
  have same : s.chip.dev.Aside (s.chip.dev.countRx q.rx) := ⟨_, p, _, hr⟩
  have class_ : (s.chip.dev.heardBy q).classify q.rx = .fuhel := (hd.classify _).trans ((same.classify _).symm.trans hk)
  have bound : (s.chip.dev.heardBy q).slotBound q.slot q.rx = true := (hd.slotBound _ _).trans ((same.slotBound _ _).symm.trans hb)
  have on : s.chip.quiet.dev.pd1On = true := hp
  have count : s.chip.quiet.dev.countRx q.rx = s.chip.dev.heardBy q := rfl
  rw [hc, onChip, ← hf]
  simp only [Chip.fuhelIn, on, count, class_, bound, Bool.not_true, Bool.false_eq_true, if_false, ne_eq, not_true_eq_false]
  rfl

/-! ### Sessions -/

section Heard

variable {s : State} {q : FuhelHdr} (hh : s.chip.hears q = true)
include hh

/-- A request in a slot without a session is answered SESSION. -/
theorem fuhelReq_none {c : Instr} {op : Nat} {f : Chip → Chip} {run : Chip → Chip × Nat × List Byte}
    (hc : exec c s = onChip (Chip.fuhelIn q f) s) (hf : f ⟨s.chip.mem, s.chip.dev.heardBy q⟩ = Chip.fuhelReq q op run ⟨s.chip.mem, s.chip.dev.heardBy q⟩)
    (hn : s.chip.dev.sess q.slot = none) :
    ∃ t, exec c s = .next t ∧ t.chip.mem = s.chip.mem ∧ t.chip.dev.host = s.chip.dev.host ∧ t.chip.dev.regs = s.chip.dev.regs ∧
      t.chip.dev.out = [s.chip.response q op q.session resSession []] := by
  have hd := s.chip.dev.aside_heardBy q
  have closed : (s.chip.dev.heardBy q).sess q.slot = none := by rw [Device.sess, Device.heardBy_host]; exact hn
  refine ⟨_, fuhel_runs (m := s.chip.mem) (d := (s.chip.dev.heardBy q).reply q op q.session resSession []) hh hc ?_, rfl, ?_, ?_, ?_⟩
  · rw [hf]
    simp only [Chip.fuhelReq, closed]
    rfl
  · exact (Device.reply_host ..).trans (s.chip.dev.heardBy_host q)
  · exact (hd.trans (Device.aside_reply ..)).regs
  · exact Device.reply_out (hd.unitAddr _) (hd.txTag _) (s.chip.dev.heardBy_out q) ..

end Heard

/-- The device that carries out a request of session `x`, which has moved to the frame's port. -/
def Device.attending (d : Device) (q : FuhelHdr) (x : FuhelSess) : Device :=
  (d.heardBy q).setSess q.slot { x with port := q.rx.port, udp := q.rx.sport, lastNs := d.now }

theorem Device.aside_attending (d : Device) (q : FuhelHdr) (x : FuhelSess) : d.Aside (d.attending q x) :=
  (d.aside_heardBy q).trans (Device.aside_setSess ..)

theorem Device.attending_out (d : Device) (q : FuhelHdr) (x : FuhelSess) : (d.attending q x).out = [] := d.heardBy_out q

theorem Device.sess_attending (d : Device) (q : FuhelHdr) (x : FuhelSess) (h : Nat) : (d.attending q x).sess h =
    if q.slot = h then some { x with port := q.rx.port, udp := q.rx.sport, lastNs := d.now } else d.sess h := by
  have find (d : Device) (k : Nat) (x : FuhelSess) : (d.setSess k x).sess h = if k = h then some x else d.sess h := Tab.find_set ..
  rw [attending, find, Device.sess, heardBy_host]
  rfl

/-- What the next request of a session comes to: what it does on the session's device, then the response. -/
theorem fuhelReq_next {s : State} {q : FuhelHdr} {x : FuhelSess} (hx : s.chip.inSession q x) {op status : Nat} {body : List Byte}
    {run : Chip → Chip × Nat × List Byte} {m : Memory} {d : Device} (hr : run ⟨s.chip.mem, s.chip.dev.attending q x⟩ = (⟨m, d⟩, status, body)) :
    Chip.fuhelReq q op run ⟨s.chip.mem, s.chip.dev.heardBy q⟩ =
      ⟨m, (d.setSess q.slot { (d.sess q.slot).getD x with seq := q.seq, kept := some (op, status, body) }).reply q op q.session status body⟩ := by
  obtain ⟨-, hs, hnum, hip, hseq⟩ := hx
  have hd := s.chip.dev.aside_heardBy q
  have sess : (s.chip.dev.heardBy q).sess q.slot = some x := by rw [Device.sess, Device.heardBy_host]; exact hs
  have fits : ¬ (x.num ≠ q.session ∨ x.ip ≠ q.rx.src) := by simp [hnum, hip]
  have attend : (s.chip.dev.heardBy q).setSess q.slot { x with port := q.rx.port, udp := q.rx.sport, lastNs := s.chip.dev.now } =
      s.chip.dev.attending q x := rfl
  simp only [Chip.fuhelReq, sess, if_neg fits, hseq, if_true, Chip.mapDev, hd.now, attend, hr]

/-! ### What a Fuhel request reads -/

/-- The rows of RST and GPIO are read without an effect. -/
theorem storeOnly_reads : ∀ b ∈ [1, 19], ∀ r ∈ regBlock b, popRow r = false ∧ r.lowOf = none ∧
    (decide (r.base ≥ R.CHK_CH_CFG.base) && decide (r.base ≤ R.CHK_CH_LEN.base)) = false ∧
    (decide (r.base ≥ R.NET_PORT_CFG.base) && decide (r.base ≤ R.NET_PORT_STATUS.base)) = false ∧
    ∀ f ∈ r.flds, (f.base / 65536 = 1 ∨ f.base / 65536 = 19) ∧ f.acc ≠ .rc := by decide +kernel

/-- The fields of RST and GPIO read alike where no register and no power state differs. -/
theorem Device.Aside.view {d e : Device} (h : d.Aside e) {f : Fld} (hf : f.base / 65536 = 1 ∨ f.base / 65536 = 19) (slot i : Nat) :
    e.view f slot i = d.view f slot i := by
  have ne (g : Fld) (hg : g.base / 65536 ≠ 1 ∧ g.base / 65536 ≠ 19) : (f = g) = False :=
    eq_false fun e => by subst e; exact hf.elim hg.1 hg.2
  have row (n : Nat) (hn : n / 65536 ≠ 1 ∧ n / 65536 ≠ 19) : (f.base = n) = False :=
    eq_false fun e => by subst e; exact hf.elim hn.1 hn.2
  have cap : ¬ (f.base ≥ R.TICK_CAP_DEC.base ∧ f.base ≤ R.TICK_CAP_MEM.base) := by
    have low : 0x20000 ≤ R.TICK_CAP_DEC.base := by decide
    have high : R.TICK_CAP_MEM.base < 0x30000 := by decide
    omega
  have use : ¬ (f.base ≥ R.TICK_USE_DEC.base ∧ f.base ≤ R.TICK_USE_MEM.base ∧ f.lo = 16) := by
    have low : 0x20000 ≤ R.TICK_USE_DEC.base := by decide
    have high : R.TICK_USE_MEM.base < 0x30000 := by decide
    omega
  obtain ⟨o, p, x, rfl⟩ := h
  have alarms : ({ d with out := o, perf := p, host := x } : Device).alarmWord = d.alarmWord := rfl
  unfold Device.view
  simp (disch := decide) only [ne, row, cap, use, alarms, if_false]

theorem storeOnly_row {a i : Nat} {r : RegRow} (hf : findReg a = some (r, i)) (hs : storeOnly r = true) :
    ∃ b ∈ [1, 19], r ∈ regBlock b := by
  simp only [storeOnly, Bool.or_eq_true, decide_eq_true_eq] at hs
  exact ⟨r.base / 65536, by simpa using hs, findReg_mem_base hf⟩

theorem Device.Aside.readWord {d e : Device} (h : d.Aside e) {a i : Nat} {r : RegRow} (hf : findReg a = some (r, i))
    (hs : storeOnly r = true) (slot : Nat) : e.readWord r slot i = d.readWord r slot i := by
  obtain ⟨b, hb, hr⟩ := storeOnly_row hf hs
  have stored (f : Fld) : e.stored r slot i f = d.stored r slot i f := by
    obtain ⟨o, p, x, rfl⟩ := h
    rfl
  simp only [Device.readWord, h.hidden, RegRow.word_eq, stored]
  have words : r.flds.map (fun f => f.at ((e.view f slot i).getD (d.stored r slot i f))) =
      r.flds.map (fun f => f.at ((d.view f slot i).getD (d.stored r slot i f))) :=
    List.map_congr_left fun f hf => by rw [h.view ((storeOnly_reads b hb r hr).2.2.2.2 f hf).1]
  rw [words]

/-- A row without RC fields is read without a change of a register. -/
theorem Device.clearRc_regs {d : Device} {r : RegRow} (hr : ∀ f ∈ r.flds, f.acc ≠ .rc) (slot i inc : Nat) :
    (d.clearRc r slot i inc).regs = d.regs := by
  rw [clearRc_eq]
  generalize r.flds = l at hr
  induction l generalizing d with
  | nil => rfl
  | cons f l ih =>
    have plain : clearField r slot i inc f d = d := by simp [clearField, hr f (by simp)]
    exact (ih (fun g hg => hr g (by simp [hg]))).trans (congrArg Device.regs plain)

/-- A register of RST or GPIO is read as its word, and no register changes. -/
theorem Device.regRead_storeOnly {a i slot : Nat} {r : RegRow} (hf : findReg a = some (r, i)) (hs : storeOnly r = true) (d : Device) :
    ∃ e, d.regRead r slot i 0 = (e, d.readWord r slot i) ∧ e.regs = d.regs ∧ e.host = d.host ∧ e.out = d.out := by
  obtain ⟨b, hb, hr⟩ := storeOnly_row hf hs
  obtain ⟨hpop, hlow, hchk, hnet, hflds⟩ := storeOnly_reads b hb r hr
  have shown : d.hidden r i = false := by simp only [Device.hidden, hchk, hnet, Bool.false_and, Bool.or_false]
  have host : (d.latchHigh r slot i).host = d.host := by unfold latchHigh; split <;> rfl
  obtain ⟨g, hg⟩ := (d.latchHigh r slot i).clearRc_only r slot i 0
  refine ⟨_, regRead_of_plain shown hpop hlow, ?_, ?_, ?_⟩
  · exact (clearRc_regs (fun f hf => (hflds f hf).2) slot i 0).trans latchHigh_regs
  · rw [hg]; exact host
  · rw [clearRc_out, latchHigh_out]

/-! ### The addresses of a response -/

/-- The fields that a message out takes its addresses and its tag from. -/
def addressFields : List Fld := [F.PAIR_STATUS_ROLE, F.PAIR_CTRL_UNIT, F.HOST_MGMT_ADDR0_ADDR, F.HOST_MGMT_ADDR1_ADDR,
  F.NET_PORT_ADDR0_ADDR, F.NET_PORT_ADDR1_ADDR, F.NET_PORT_VLAN_TX_TAG, F.NET_PORT_VLAN_VID, F.NET_PORT_VLAN_PCP]

/-- A message out of port `p` has the same addresses and the same tag. -/
def Device.SendsAs (d e : Device) (p : Nat) : Prop := e.unitAddr p = d.unitAddr p ∧ e.txTag p = d.txTag p

theorem Device.sendsAs_of_keeps {d e : Device} {p : Fld → Bool} (h : d.keeps e p) (hp : ∀ f ∈ addressFields, p f = true) (port : Nat) :
    d.SendsAs e port := by
  have same (f : Fld) (hf : f ∈ addressFields) (i : Nat) : e.get f i = d.get f i := h.1 f i (hp f hf)
  simp only [addressFields, List.forall_mem_cons, List.not_mem_nil, false_implies, implies_true, and_true] at same
  obtain ⟨h0, h1, h2, h3, h4, h5, h6, h7, h8⟩ := same
  have unit : e.unitNo = d.unitNo := by rw [unitNo, unitNo, role, role, h0, h1]
  exact ⟨by rw [unitAddr, unitAddr, unit, h2, h3, h4, h5], by rw [txTag, txTag, on, on, h6, h7, h8]⟩

theorem Device.Aside.sendsAs {d e : Device} (h : d.Aside e) (p : Nat) : d.SendsAs e p := ⟨h.unitAddr p, h.txTag p⟩

theorem Device.SendsAs.trans {d e e' : Device} {p : Nat} (h : d.SendsAs e p) (h' : e.SendsAs e' p) : d.SendsAs e' p :=
  ⟨h'.1.trans h.1, h'.2.trans h.2⟩

/-- The next request of a session is carried out and answered. -/
theorem fuhelRequest {s : State} {q : FuhelHdr} {x : FuhelSess} (hx : s.chip.inSession q x) {c : Instr} {f : Chip → Chip} {op status : Nat}
    {body : List Byte} {run : Chip → Chip × Nat × List Byte} {m : Memory} {d : Device} (hc : exec c s = onChip (Chip.fuhelIn q f) s)
    (hf : f ⟨s.chip.mem, s.chip.dev.heardBy q⟩ = Chip.fuhelReq q op run ⟨s.chip.mem, s.chip.dev.heardBy q⟩)
    (hr : run ⟨s.chip.mem, s.chip.dev.attending q x⟩ = (⟨m, d⟩, status, body))
    (hsend : (s.chip.dev.attending q x).SendsAs d q.rx.port) (hout : d.out = []) :
    ∃ t, exec c s = .next t ∧ t.chip.mem = m ∧ d.Aside t.chip.dev ∧ t.chip.dev.out = [s.chip.response q op q.session status body] := by
  obtain ⟨t, ht, hm, hdev⟩ := next_of_chip (fuhel_runs hx.1 hc (hf.trans (fuhelReq_next hx hr)))
  refine ⟨t, ht, hm, ?_, ?_⟩ <;> rw [hdev]
  · exact (d.aside_setSess ..).trans (Device.aside_reply ..)
  · have sends (y : FuhelSess) : s.chip.dev.SendsAs (d.setSess q.slot y) q.rx.port :=
      (((s.chip.dev.aside_attending q x).sendsAs q.rx.port).trans hsend).trans ((d.aside_setSess q.slot y).sendsAs q.rx.port)
    exact Device.reply_out (sends _).1 (sends _).2 hout ..

/-! ### Register and data-port accesses of a session -/

/-- What a REG_READ carries out and answers. -/
def Chip.readAll (slot : Nat) (addrs : List Nat) (c : Chip) : Chip × Nat × List Byte :=
  if addrs.isEmpty || decide (addrs.length > 256) then (c, resFormat, beBytes 2 0)
  else
    let p := runReads slot addrs c
    (p.1, p.2.2.2, beBytes 2 p.2.1 ++ (p.2.2.1.flatMap (beBytes 4)))

/-- What a REG_WRITE carries out and answers. -/
def Chip.writeAll (slot : Nat) (writes : List (Nat × Nat)) (c : Chip) : Chip × Nat × List Byte :=
  if writes.isEmpty || decide (writes.length > 256) then (c, resFormat, beBytes 2 0)
  else
    let p := runWrites slot writes c
    (p.1, p.2.2, beBytes 2 p.2.1)

theorem Chip.fuhelStart_read (q : FuhelHdr) (addrs : List Nat) (c : Chip) :
    Chip.fuhelStart (.fuhelRegRead q addrs) c = c.fuhelReq q 0x10 (Chip.readAll q.slot addrs) := rfl

theorem Chip.fuhelStart_write (q : FuhelHdr) (writes : List (Nat × Nat)) (c : Chip) :
    Chip.fuhelStart (.fuhelRegWrite q writes) c = c.fuhelReq q 0x11 (Chip.writeAll q.slot writes) := rfl

/-- One register is read. -/
theorem Chip.readAll_one {c c' : Chip} {slot a v : Nat} (h : c.hostRead slot a 32 0 = (c', resOk, v)) :
    c.readAll slot [a] = (c', resOk, [0, 1] ++ beBytes 4 v) := by
  simp only [readAll, List.isEmpty_cons, List.length_cons, List.length_nil, runReads, h, if_true]
  simp [show beBytes 2 1 = [0, 1] from rfl]

/-- One register is written. -/
theorem Chip.writeAll_one {c c' : Chip} {slot a w : Nat} (h : c.hostWrite slot a 32 (w % 2 ^ 32) 0 = (c', some resOk)) :
    c.writeAll slot [(a, w)] = (c', resOk, [0, 1]) := by
  simp only [writeAll, List.isEmpty_cons, List.length_cons, List.length_nil, runWrites, h, Option.getD_some, if_true]
  simp [show beBytes 2 1 = [0, 1] from rfl]

/-- A write that fails ends the message. -/
theorem Chip.writeAll_stopped {c c' : Chip} {slot a w code : Nat} {l : List (Nat × Nat)} (hl : l.length < 256)
    (h : c.hostWrite slot a 32 (w % 2 ^ 32) 0 = (c', some code)) (hc : code ≠ resOk) :
    c.writeAll slot ((a, w) :: l) = (c', code, [0, 0]) := by
  have short : ¬ (l.length + 1 > 256) := by omega
  simp only [writeAll, List.isEmpty_cons, List.length_cons, short, runWrites, h, Option.getD_some, if_neg hc]
  rfl

section Session

variable {s : State} {q : FuhelHdr} {x : FuhelSess} (hx : s.chip.inSession q x)
include hx

/-- A register message that may start is carried out as the session's next request. -/
theorem fuhelTimed_starts {m : Instr} (hm : s.chip.dev.mayStart = true)
    (hd : s.chip.dev.defers = false ∨ ∃ a, m = .fuhelRegRead q a) :
    Chip.fuhelTimed m ⟨s.chip.mem, s.chip.dev.heardBy q⟩ = Chip.fuhelStart m ⟨s.chip.mem, s.chip.dev.heardBy q⟩ := by
  have he := s.chip.dev.aside_heardBy q
  have starts : (s.chip.dev.heardBy q).fuhelWaits m = false := by
    simp only [Device.fuhelWaits, he.mayStart, he.defers, hm, Bool.not_true, Bool.false_or]
    rcases hd with hd | ⟨a, rfl⟩
    · simp [hd]
    · exact Bool.and_false _
  simp only [Chip.fuhelTimed, starts, Bool.not_false, if_true]

/-- A register message that must wait is kept. -/
theorem fuhelTimed_waits {c : Instr} (hc : exec c s = onChip (Chip.fuhelIn q (Chip.fuhelTimed c)) s) (hm : s.chip.dev.mayStart = false) :
    ∃ t, exec c s = .next t ∧ t.chip.mem = s.chip.mem ∧ t.chip.dev.regs = s.chip.dev.regs ∧ t.chip.dev.out = [] ∧
      t.chip.dev.host = { s.chip.dev.host with late := s.chip.dev.host.late ++ [c] } := by
  have he := s.chip.dev.aside_heardBy q
  have waits : (s.chip.dev.heardBy q).fuhelWaits c = true := by
    simp only [Device.fuhelWaits, he.mayStart, hm, Bool.not_false, Bool.true_or]
  obtain ⟨p, hp⟩ := s.chip.dev.quiet.countRx_only q.rx
  obtain ⟨t, ht, hmem, hdev⟩ := next_of_chip (m := s.chip.mem)
    (d := { s.chip.dev with out := [], perf := p, host := { s.chip.dev.host with late := s.chip.dev.host.late ++ [c] } })
    (fuhel_runs hx.1 hc (by
      simp only [Chip.fuhelTimed, waits, Bool.not_true, Bool.false_eq_true, if_false]
      rw [Device.heardBy, hp]
      rfl))
  refine ⟨t, ht, hmem, ?_, ?_, ?_⟩ <;> rw [hdev]

theorem fuhelRegRead_answers {r : RegRow} {i : Nat} (hm : s.chip.dev.mayStart = true) (hf : findReg (r.base + r.stride * i) = some (r, i))
    (ha : s.chip.admitsRead q.slot r i = true) (hs : storeOnly r = true) :
    ∃ t, exec (.fuhelRegRead q [r.base + r.stride * i]) s = .next t ∧ t.chip.mem = s.chip.mem ∧ t.chip.dev.regs = s.chip.dev.regs ∧
      t.chip.dev.out = [s.chip.response q 0x10 q.session resOk ([0, 1] ++ beBytes 4 (s.chip.dev.readWord r q.slot i))] := by
  have he := s.chip.dev.aside_attending q x
  obtain ⟨e, read, hregs, -, hout⟩ := (s.chip.dev.attending q x).regRead_storeOnly (slot := q.slot) hf hs
  have access := Chip.hostRead_admitted (c := ⟨s.chip.mem, s.chip.dev.attending q x⟩) (inc := 0) hf ((he.admitsRead ..).trans ha)
  rw [read, he.readWord hf hs] at access
  have started := (fuhelTimed_starts hx hm (m := .fuhelRegRead q [r.base + r.stride * i]) (.inr ⟨_, rfl⟩)).trans (Chip.fuhelStart_read ..)
  obtain ⟨t, ht, hmem, ht', ho⟩ := fuhelRequest hx (c := .fuhelRegRead q [r.base + r.stride * i]) rfl started (Chip.readAll_one access)
    (Device.sendsAs_of_keeps (Device.keeps_of_regs hregs (fun _ => true)) (by simp) _) (hout.trans (s.chip.dev.attending_out q x))
  exact ⟨t, ht, hmem, ht'.regs.trans (hregs.trans he.regs), ho⟩

theorem fuhelRegWrite_gpioOut {w : Nat} (hm : s.chip.dev.mayStart = true) (hw : w < 2 ^ 24) (ha : s.chip.admits q.slot R.GPIO_OUT 0 w = true) :
    ∃ t, exec (.fuhelRegWrite q [(0x130004, w)]) s = .next t ∧ t.chip.mem = s.chip.mem ∧ t.chip.dev.get F.GPIO_OUT_OUT = w ∧
      s.chip.dev.keeps t.chip.dev (but [F.GPIO_OUT_OUT]) ∧ t.chip.dev.out = [s.chip.response q 0x11 q.session resOk [0, 1]] := by
  have he := s.chip.dev.aside_attending q x
  obtain ⟨-, -, -, hdefer, -⟩ := Chip.admits_conditions ha
  have notDeferred : s.chip.dev.defers = false := (Bool.and_true _).symm.trans hdefer
  have ha' : Chip.admits ⟨s.chip.mem, s.chip.dev.attending q x⟩ q.slot R.GPIO_OUT 0 w = true := (he.admits ..).trans ha
  obtain ⟨g, p, write, hget, hk⟩ := regWrite_gpioOut hw ha'
  have access : Chip.hostWrite q.slot 0x130004 32 (w % 2 ^ 32) 0 ⟨s.chip.mem, s.chip.dev.attending q x⟩ =
      (⟨s.chip.mem, { s.chip.dev.attending q x with regs := g, pair := p }⟩, some resOk) := by
    rw [Nat.mod_eq_of_lt (hw.trans (by decide)), ← write]
    exact Chip.hostWrite_admitted (r := R.GPIO_OUT) (i := 0) ha'
  have started := (fuhelTimed_starts hx hm (m := .fuhelRegWrite q [(0x130004, w)]) (.inl notDeferred)).trans (Chip.fuhelStart_write ..)
  obtain ⟨t, ht, hmem, ht', ho⟩ := fuhelRequest hx (c := .fuhelRegWrite q [(0x130004, w)]) rfl started (Chip.writeAll_one access)
    (Device.sendsAs_of_keeps hk (by decide) _) (s.chip.dev.attending_out q x)
  exact ⟨t, ht, hmem, (ht'.get _ _).trans hget, Device.keeps_trans (Device.keeps_trans (he.keeps _) hk) (ht'.keeps _), ho⟩

theorem fuhelRegWrite_misaligned {a v b w : Nat} (hboot : s.chip.dev.inBoot = false) (hm : s.chip.dev.mayStart = true) (h4 : a % 4 ≠ 0)
    (hdefer : s.chip.dev.defers = false) :
    ∃ t, exec (.fuhelRegWrite q [(a, v), (b, w)]) s = .next t ∧ t.chip.mem = s.chip.mem ∧ s.chip.dev.keeps t.chip.dev (but faultFields) ∧
      t.chip.dev.out = [s.chip.response q 0x11 q.session resFault [0, 0]] := by
  have he := s.chip.dev.aside_attending q x
  have access := Chip.hostWrite_misaligned (c := ⟨s.chip.mem, s.chip.dev.attending q x⟩) (slot := q.slot) (w := v % 2 ^ 32) (he.inBoot.trans hboot) h4
  have hk := (s.chip.dev.attending q x).keeps_fault q.slot whyAlign 0 a
  have started := (fuhelTimed_starts hx hm (m := .fuhelRegWrite q [(a, v), (b, w)]) (.inl hdefer)).trans (Chip.fuhelStart_write ..)
  obtain ⟨t, ht, hmem, ht', ho⟩ := fuhelRequest hx (c := .fuhelRegWrite q [(a, v), (b, w)]) rfl started
    (Chip.writeAll_stopped (by simp) access (by decide)) (Device.sendsAs_of_keeps hk (by decide) _)
    ((Device.fault_out ..).trans (s.chip.dev.attending_out q x))
  exact ⟨t, ht, hmem, Device.keeps_trans (Device.keeps_trans (he.keeps _) hk) (ht'.keeps _), ho⟩

end Session

/-- What a DP_WRITE carries out and answers. -/
def Chip.dpWriteMsg (slot target addr : Nat) (l : List Byte) (c : Chip) : Chip × Nat × List Byte :=
  let a := addr % 2 ^ 40
  if target > 3 || l.isEmpty || decide (l.length > 4096) then (c, resFormat, [])
  else
    let p := c.dpWrite slot target a l
    (if moved p.2 then p.1.mapDev (fun (d : Device) => d.setPtr slot (a + l.length)) else p.1, p.2, [])

/-- What a DP_READ carries out and answers. -/
def Chip.dpReadMsg (slot target addr n : Nat) (c : Chip) : Chip × Nat × List Byte :=
  let a := addr % 2 ^ 40
  if target > 3 ∨ n = 0 ∨ n > 4096 then (c, resFormat, [])
  else
    let p := c.dpRead slot target a n
    (if moved p.2.1 then p.1.mapDev (fun (d : Device) => d.setPtr slot (a + n)) else p.1, p.2.1, p.2.2)

theorem Chip.fuhelDpWrite_eq (q : FuhelHdr) (target addr : Nat) (l : List Byte) (c : Chip) :
    c.fuhelDpWrite q target addr l = c.fuhelReq q 0x20 (Chip.dpWriteMsg q.slot target addr l) := rfl

theorem Chip.fuhelDpRead_eq (q : FuhelHdr) (target addr n : Nat) (c : Chip) :
    c.fuhelDpRead q target addr n = c.fuhelReq q 0x21 (Chip.dpReadMsg q.slot target addr n) := rfl

/-- The pointer's fields. -/
def pointerFields : List Fld := [F.HOST_DP_ADDR_LO_ADDR_LO, F.HOST_DP_ADDR_HI_ADDR_HI]

theorem Device.keeps_setPtr (d : Device) (slot a : Nat) : d.keeps (d.setPtr slot a) (but pointerFields) :=
  Device.keeps_trans (Device.keeps_putS _ _ _ _ _ (but_apart (by simp [pointerFields]))) (Device.keeps_putS _ _ _ _ _ (but_apart (by simp [pointerFields])))

section Session

variable {s : State} {q : FuhelHdr} {x : FuhelSess} (hx : s.chip.inSession q x)
include hx

theorem fuhelDpWrite_stores {a : Nat} {l : List Byte} (ha : a < 2 ^ 40) (h1 : 1 ≤ l.length) (h4096 : l.length ≤ 4096)
    (hl : s.chip.takesBytes q.slot a l) (hw : s.chip.mem.dram.wf = true) :
    ∃ t, exec (.fuhelDpWrite q 0 a l) s = .next t ∧ s.chip.mem.storedAt t.chip.mem a l ∧ t.chip.mem.flash = s.chip.mem.flash ∧
      t.chip.dev.dpPtr q.slot = (a + l.length) % 2 ^ 40 ∧ t.chip.dev.out = [s.chip.response q 0x20 q.session resOk []] := by
  have he := s.chip.dev.aside_attending q x
  obtain ⟨g, p, write, hk⟩ := Chip.dpWrite_dram (he.takesBytes hl)
  have long : ¬ (decide (0 > 3) || l.isEmpty || decide (l.length > 4096)) = true := by
    cases l with
    | nil => simp at h1
    | cons => simpa using h4096
  have run : Chip.dpWriteMsg q.slot 0 a l ⟨s.chip.mem, s.chip.dev.attending q x⟩ =
      (⟨(s.chip.mem.writePort a l).1, ({ s.chip.dev.attending q x with regs := g, pair := p } : Device).setPtr q.slot (a + l.length)⟩, resOk, []) := by
    simp only [Chip.dpWriteMsg, if_neg long, Nat.mod_eq_of_lt ha, write, Chip.mapDev]
    rfl
  have hp := ({ s.chip.dev.attending q x with regs := g, pair := p } : Device).keeps_setPtr q.slot (a + l.length)
  obtain ⟨t, ht, hmem, ht', ho⟩ := fuhelRequest hx (c := .fuhelDpWrite q 0 a l) rfl (Chip.fuhelDpWrite_eq ..) run
    ((Device.sendsAs_of_keeps hk (by decide) _).trans (Device.sendsAs_of_keeps hp (by decide) _)) (s.chip.dev.attending_out q x)
  refine ⟨t, ht, by rw [hmem]; exact Memory.storedAt_writePort hw a l, by rw [hmem]; rfl, ?_, ho⟩
  exact (ht'.dpPtr _).trans (Device.dpPtr_setPtr ..)

theorem fuhelDpRead_reads {a n : Nat} (hboot : s.chip.dev.inBoot = false) (ha : a < 2 ^ 40) (h1 : 1 ≤ n) (h4096 : n ≤ 4096)
    (hr : s.chip.dev.dramRefused q.slot a n false = none) (hp : s.chip.mem.poison = []) :
    ∃ t, exec (.fuhelDpRead q 0 a n) s = .next t ∧ t.chip.mem = s.chip.mem ∧ t.chip.dev.dpPtr q.slot = (a + n) % 2 ^ 40 ∧
      t.chip.dev.out = [s.chip.response q 0x21 q.session resOk ((List.range n).map (fun k => Dram.read s.chip.mem.dram (a + k)))] := by
  have he := s.chip.dev.aside_attending q x
  have read := Chip.dpRead_dram (c := ⟨s.chip.mem, s.chip.dev.attending q x⟩) (he.inBoot.trans hboot) ((he.dramRefused ..).trans hr) hp
  have long : ¬ (0 > 3 ∨ n = 0 ∨ n > 4096) := by omega
  have run : Chip.dpReadMsg q.slot 0 a n ⟨s.chip.mem, s.chip.dev.attending q x⟩ =
      (⟨s.chip.mem, (s.chip.dev.attending q x).setPtr q.slot (a + n)⟩, resOk, (List.range n).map (fun k => Dram.read s.chip.mem.dram (a + k))) := by
    simp only [Chip.dpReadMsg, if_neg long, Nat.mod_eq_of_lt ha, read, Chip.mapDev]
    rfl
  obtain ⟨t, ht, hmem, ht', ho⟩ := fuhelRequest hx (c := .fuhelDpRead q 0 a n) rfl (Chip.fuhelDpRead_eq ..) run
    (Device.sendsAs_of_keeps (Device.keeps_setPtr ..) (by decide) _) (s.chip.dev.attending_out q x)
  exact ⟨t, ht, hmem, (ht'.dpPtr _).trans (Device.dpPtr_setPtr ..), ho⟩

/-- A message that ends without an access is answered only. -/
theorem fuhelRequest_only {c : Instr} {f : Chip → Chip} {op status : Nat} {body : List Byte} {run : Chip → Chip × Nat × List Byte}
    (hc : exec c s = onChip (Chip.fuhelIn q f) s)
    (hf : f ⟨s.chip.mem, s.chip.dev.heardBy q⟩ = Chip.fuhelReq q op run ⟨s.chip.mem, s.chip.dev.heardBy q⟩)
    (hr : run ⟨s.chip.mem, s.chip.dev.attending q x⟩ = (⟨s.chip.mem, s.chip.dev.attending q x⟩, status, body)) :
    ∃ t, exec c s = .next t ∧ t.chip.mem = s.chip.mem ∧ t.chip.dev.regs = s.chip.dev.regs ∧
      t.chip.dev.out = [s.chip.response q op q.session status body] := by
  obtain ⟨t, ht, hmem, ht', ho⟩ := fuhelRequest hx hc hf hr ⟨rfl, rfl⟩ (s.chip.dev.attending_out q x)
  exact ⟨t, ht, hmem, ht'.regs.trans (s.chip.dev.aside_attending q x).regs, ho⟩

theorem fuhelDp_format {target a : Nat} {l : List Byte} (h3 : 3 < target) :
    ∀ p ∈ [(Instr.fuhelDpWrite q target a l, 0x20), (.fuhelDpRead q target a 1, 0x21)], ∃ t, exec p.1 s = .next t ∧ t.chip.mem = s.chip.mem ∧
      t.chip.dev.regs = s.chip.dev.regs ∧ t.chip.dev.out = [s.chip.response q p.2 q.session resFormat []] := by
  simp only [List.forall_mem_cons, List.not_mem_nil, false_implies, implies_true, and_true]
  constructor
  · refine fuhelRequest_only hx rfl (Chip.fuhelDpWrite_eq ..) ?_
    simp only [Chip.dpWriteMsg, decide_eq_true h3, Bool.true_or, if_true]
  · refine fuhelRequest_only hx rfl (Chip.fuhelDpRead_eq ..) ?_
    simp only [Chip.dpReadMsg, if_pos (Or.inl h3)]

end Session

/-- Settles O16: the session's accesses are its slot's accesses. -/
theorem fuhelAccessesAreTheSlots : Obligations.FuhelAccessesAreTheSlots := by
  intro s q x hx _ hboot
  refine ⟨fun hm => ⟨fun r i hf ha hs => fuhelRegRead_answers hx hm hf ha hs, fun w hw ha => fuhelRegWrite_gpioOut hx hm hw ha,
      fun a v b w h4 hd => fuhelRegWrite_misaligned hx hboot hm h4 hd⟩, fun hm c hc => ?_,
    fun a l ha h1 h4096 hl hw => fuhelDpWrite_stores hx ha h1 h4096 hl hw,
    fun a n ha h1 h4096 hr hp => fuhelDpRead_reads hx hboot ha h1 h4096 hr hp, fun target a l h3 => fuhelDp_format hx h3⟩
  simp only [List.mem_cons, List.not_mem_nil, or_false] at hc
  rcases hc with rfl | rfl <;> exact fuhelTimed_waits hx rfl hm

end Sys2Proof.Machine
end

section
/-!
SUPPORT. Fuhel sessions open and close: O14.
-/

namespace Sys2Proof.Machine

/-! ### Sessions open and close -/

theorem Device.sess_setSess (d : Device) (k : Nat) (x : FuhelSess) (h : Nat) : (d.setSess k x).sess h = if k = h then some x else d.sess h :=
  Tab.find_set ..

theorem Device.sess_congr {d e : Device} (h : e.host = d.host) (k : Nat) : e.sess k = d.sess k := by rw [sess, h, sess]

theorem Device.Aside.trans_keeps {d e e' : Device} (h : d.Aside e) {p : Fld → Bool} (h' : e.keeps e' p) : d.keeps e' p :=
  Device.keeps_trans (h.keeps p) h'

/-- The number of the next session: one more, and never 0. -/
def Device.nextSess (d : Device) : Nat := if (d.host.sessNum + 1) % 2 ^ 32 = 0 then 1 else (d.host.sessNum + 1) % 2 ^ 32

theorem Device.nextSess_ne_zero (d : Device) : d.nextSess ≠ 0 := by
  unfold nextSess
  split
  · exact Nat.one_ne_zero
  · assumption

theorem Device.nextSess_lt (d : Device) : d.nextSess < 2 ^ 32 := by
  unfold nextSess
  split
  · decide
  · exact Nat.mod_lt _ (by decide)

theorem Device.nextSess_of_lt {d : Device} (h : d.host.sessNum + 1 < 2 ^ 32) : d.nextSess = d.host.sessNum + 1 := by
  rw [nextSess, Nat.mod_eq_of_lt h, if_neg (Nat.succ_ne_zero _)]

/-- The session that an OPEN begins. -/
def Device.newSess (d : Device) (q : FuhelHdr) : FuhelSess := ⟨d.nextSess, q.rx.port, q.rx.src, q.rx.sport, 0, none, d.now, none⟩

/-- The device with the new session, before the response. -/
def Device.opened (d : Device) (q : FuhelHdr) : Device :=
  (((({ d with host := { d.host with sessNum := d.nextSess } } : Device).setSess q.slot (d.newSess q)).putS
    F.HOST_SLOT_STATUS_SESSION q.slot 0 1).raise F.HOST_EVENTS_SESSION_OPEN q.slot)

theorem Device.fuhelOpen_opens {d : Device} {q : FuhelHdr} (h : ∀ x, d.sess q.slot = some x → x.ip = q.rx.src) :
    d.fuhelOpen q = (d.opened q).reply q 0x01 d.nextSess resOk [] := by
  have begun : ((((({ d with host := { d.host with sessNum := d.nextSess } } : Device).setSess q.slot (d.newSess q)).putS
    F.HOST_SLOT_STATUS_SESSION q.slot 0 1).raise F.HOST_EVENTS_SESSION_OPEN q.slot).reply q 0x01 d.nextSess resOk []) =
    (d.opened q).reply q 0x01 d.nextSess resOk [] := rfl
  cases hx : d.sess q.slot with
  | none =>
    simp only [fuhelOpen, hx, Bool.false_eq_true, if_false]
    exact begun
  | some x =>
    simp only [fuhelOpen, hx, h x hx, ne_eq, not_true_eq_false, decide_false, Bool.false_eq_true, if_false]
    exact begun

theorem Device.fuhelOpen_refused {d : Device} {q : FuhelHdr} {x : FuhelSess} (hx : d.sess q.slot = some x) (hip : x.ip ≠ q.rx.src) :
    d.fuhelOpen q = d.reply q 0x01 0 resSession [] := by
  simp only [fuhelOpen, hx, ne_eq, hip, not_false_eq_true, decide_true, if_true]

theorem Device.opened_host (d : Device) (q : FuhelHdr) : (d.opened q).host =
    { d.host with sessNum := d.nextSess, sess := Tab.set d.host.sess q.slot (d.newSess q) } := by
  rw [opened, Device.raise_host]
  rfl

theorem Device.sess_opened (d : Device) (q : FuhelHdr) : (d.opened q).sess q.slot = some (d.newSess q) := by
  rw [sess, opened_host]
  exact Tab.find_set_same ..

theorem Device.keeps_opened (d : Device) (q : FuhelHdr) :
    d.keeps (d.opened q) (but [F.HOST_SLOT_STATUS_SESSION, F.HOST_EVENTS_SESSION_OPEN]) :=
  Device.keeps_trans (Device.keeps_putS _ F.HOST_SLOT_STATUS_SESSION q.slot 0 1 (but_apart (by simp)))
    (Device.keeps_raise _ F.HOST_EVENTS_SESSION_OPEN q.slot (by simp))

section Heard

variable {s : State} {q : FuhelHdr} (hh : s.chip.hears q = true)
include hh

theorem fuhelOpen_opens (h : ∀ x, s.chip.dev.sess q.slot = some x → x.ip = q.rx.src) :
    ∃ t x, exec (.fuhelOpen q) s = .next t ∧ t.chip.mem = s.chip.mem ∧ t.chip.dev.sess q.slot = some x ∧ x.num ≠ 0 ∧ x.num < 2 ^ 32 ∧
      (s.chip.dev.host.sessNum + 1 < 2 ^ 32 → x.num = s.chip.dev.host.sessNum + 1) ∧ x.seq = 0 ∧ x.kept = none ∧ x.ip = q.rx.src ∧
      t.chip.dev.host.sessNum = x.num ∧ t.chip.dev.out = [s.chip.response q 0x01 x.num resOk []] ∧
      t.chip.dev.get F.HOST_EVENTS_SESSION_OPEN = 1 ∧ t.chip.dev.getS F.HOST_SLOT_STATUS_SESSION q.slot = 1 := by
  have he := s.chip.dev.aside_heardBy q
  have own : ∀ x, (s.chip.dev.heardBy q).sess q.slot = some x → x.ip = q.rx.src := by
    rw [Device.sess_congr (s.chip.dev.heardBy_host q)]; exact h
  obtain ⟨t, ht, hm, hdev⟩ := next_of_chip (fuhel_runs hh (c := .fuhelOpen q) rfl (m := s.chip.mem)
    (d := ((s.chip.dev.heardBy q).opened q).reply q 0x01 (s.chip.dev.heardBy q).nextSess resOk []) (by
      rw [← Device.fuhelOpen_opens own]; rfl))
  have hr := ((s.chip.dev.heardBy q).opened q).aside_reply q 0x01 (s.chip.dev.heardBy q).nextSess resOk []
  have hhost := Device.reply_host ((s.chip.dev.heardBy q).opened q) q 0x01 (s.chip.dev.heardBy q).nextSess resOk []
  have sends := (he.sendsAs q.rx.port).trans (Device.sendsAs_of_keeps ((s.chip.dev.heardBy q).keeps_opened q) (by decide) q.rx.port)
  have quiet : ((s.chip.dev.heardBy q).opened q).out = [] := (Device.raise_out ..).trans (s.chip.dev.heardBy_out q)
  refine ⟨t, (s.chip.dev.heardBy q).newSess q, ht, hm, ?_, Device.nextSess_ne_zero _, Device.nextSess_lt _, fun hn => ?_, rfl, rfl, rfl, ?_, ?_, ?_, ?_⟩
  · rw [hdev, Device.sess_congr hhost, Device.sess_opened]
  · rw [← s.chip.dev.heardBy_host q] at hn ⊢
    exact Device.nextSess_of_lt hn
  · rw [hdev, hhost, Device.opened_host]; rfl
  · rw [hdev]; exact Device.reply_out sends.1 sends.2 quiet ..
  · rw [hdev, hr.get]; exact Device.get_raise_same _ _ _ (by decide)
  · rw [hdev, hr.getS]
    exact (Device.getS_raise _ _ _ _ _ _ (by decide)).trans (Device.getS_putS_same ..)

theorem fuhelOpen_refused {x : FuhelSess} (hx : s.chip.dev.sess q.slot = some x) (hip : x.ip ≠ q.rx.src) :
    ∃ t, exec (.fuhelOpen q) s = .next t ∧ t.chip.mem = s.chip.mem ∧ t.chip.dev.host = s.chip.dev.host ∧ t.chip.dev.regs = s.chip.dev.regs ∧
      t.chip.dev.out = [s.chip.response q 0x01 0 resSession []] := by
  have he := s.chip.dev.aside_heardBy q
  have other : (s.chip.dev.heardBy q).sess q.slot = some x := (Device.sess_congr (s.chip.dev.heardBy_host q) _).trans hx
  obtain ⟨t, ht, hm, hdev⟩ := next_of_chip (fuhel_runs hh (c := .fuhelOpen q) rfl (m := s.chip.mem)
    (d := (s.chip.dev.heardBy q).reply q 0x01 0 resSession []) (by rw [← Device.fuhelOpen_refused other hip]; rfl))
  refine ⟨t, ht, hm, ?_, ?_, ?_⟩ <;> rw [hdev]
  · exact (Device.reply_host ..).trans (s.chip.dev.heardBy_host q)
  · exact (he.trans (Device.aside_reply ..)).regs
  · exact Device.reply_out (he.unitAddr _) (he.txTag _) (s.chip.dev.heardBy_out q) ..

end Heard

theorem Chip.fuhelClose_none {c : Chip} {q : FuhelHdr} (h : c.dev.sess q.slot = none) :
    c.fuhelClose q = c.fuhelReq q 0x02 (fun c => (c, resOk, [])) := by
  simp only [fuhelClose, h, Option.map_none]

theorem Chip.fuhelClose_some {c : Chip} {q : FuhelHdr} {x y : FuhelSess} {m : Memory} {d : Device} (h : c.dev.sess q.slot = some x)
    (hr : c.fuhelReq q 0x02 (fun c => (c, resOk, [])) = ⟨m, d⟩) (hy : d.sess q.slot = some y) (hnum : y.num = q.session) (hseq : y.seq ≠ x.seq) :
    c.fuhelClose q = ⟨m, d.sessClose q.slot⟩ := by
  have moved : (y.num = q.session ∧ y.seq ≠ x.seq) = True := by simp [hnum, hseq]
  simp only [fuhelClose, h, Option.map_some, hr, hy, moved, if_true, mapDev]

theorem Device.sessClose_only (d : Device) (h : Nat) : ∃ g e, d.sessClose h =
    { d with regs := g, evq := e, host := { d.host with sess := Tab.del d.host.sess h } } := by
  obtain ⟨g, e, hr⟩ := Device.raise_only ((({ d with host := { d.host with sess := Tab.del d.host.sess h } } : Device).putS
    F.HOST_SLOT_STATUS_SESSION h 0 0)) F.HOST_EVENTS_SESSION_CLOSED h
  exact ⟨g, e, hr⟩

theorem Device.sess_sessClose (d : Device) (h k : Nat) : (d.sessClose h).sess k = if h = k then none else d.sess k := by
  obtain ⟨g, e, hc⟩ := d.sessClose_only h
  rw [hc]
  exact Tab.find_del ..

theorem Device.get_sessClose_event (d : Device) (h : Nat) : (d.sessClose h).get F.HOST_EVENTS_SESSION_CLOSED = 1 :=
  Device.get_raise_same _ _ _ (by decide)

theorem Device.getS_sessClose (d : Device) (h : Nat) : (d.sessClose h).getS F.HOST_SLOT_STATUS_SESSION h = 0 :=
  (Device.getS_raise _ _ _ _ _ _ (by decide)).trans (Device.getS_putS_same ..)

/-- The next request of the session that is a CLOSE. -/
theorem fuhelClose_closes {s : State} {q : FuhelHdr} {x : FuhelSess} (hx : s.chip.inSession q x) :
    ∃ t, exec (.fuhelClose q) s = .next t ∧ t.chip.mem = s.chip.mem ∧ t.chip.dev.sess q.slot = none ∧
      (∀ h, h ≠ q.slot → t.chip.dev.sess h = s.chip.dev.sess h) ∧
      t.chip.dev.get F.HOST_EVENTS_SESSION_CLOSED = 1 ∧ t.chip.dev.getS F.HOST_SLOT_STATUS_SESSION q.slot = 0 ∧
      t.chip.dev.out = [s.chip.response q 0x02 q.session resOk []] := by
  have run := fuhelReq_next (op := 0x02) hx (run := fun c => (c, resOk, [])) rfl
  have he := s.chip.dev.aside_attending q x
  obtain ⟨hh, hs, hnum, -, hseq⟩ := hx
  have was : (s.chip.dev.heardBy q).sess q.slot = some x := (Device.sess_congr (s.chip.dev.heardBy_host q) _).trans hs
  have now_ : (s.chip.dev.attending q x).sess q.slot = some { x with port := q.rx.port, udp := q.rx.sport, lastNs := s.chip.dev.now } := by
    rw [Device.sess_attending, if_pos rfl]
  rw [now_, Option.getD_some] at run
  generalize hy : ({ ({ x with port := q.rx.port, udp := q.rx.sport, lastNs := s.chip.dev.now } : FuhelSess) with
    seq := q.seq, kept := some (0x02, resOk, []) } : FuhelSess) = y at run
  have ynum : y.num = q.session := by rw [← hy]; exact hnum
  have yseq : y.seq ≠ x.seq := by
    rw [← hy]
    show q.seq ≠ x.seq
    omega
  have hhost := Device.reply_host ((s.chip.dev.attending q x).setSess q.slot y) q 0x02 q.session resOk []
  have hsess : (((s.chip.dev.attending q x).setSess q.slot y).reply q 0x02 q.session resOk []).sess q.slot = some y := by
    rw [Device.sess_congr hhost, Device.sess_setSess, if_pos rfl]
  obtain ⟨t, ht, hm, hdev⟩ := next_of_chip (fuhel_runs hh (c := .fuhelClose q) rfl (Chip.fuhelClose_some was run hsess ynum yseq))
  refine ⟨t, ht, hm, ?_, fun h hne => ?_, ?_, ?_, ?_⟩ <;> rw [hdev]
  · rw [Device.sess_sessClose, if_pos rfl]
  · rw [Device.sess_sessClose, if_neg (Ne.symm hne), Device.sess_congr hhost, Device.sess_setSess, if_neg (Ne.symm hne),
      Device.sess_attending, if_neg (Ne.symm hne)]
  · exact Device.get_sessClose_event ..
  · exact Device.getS_sessClose ..
  · obtain ⟨g, e, hc⟩ := (((s.chip.dev.attending q x).setSess q.slot y).reply q 0x02 q.session resOk []).sessClose_only q.slot
    have sends := (he.trans (Device.aside_setSess _ q.slot y)).sendsAs q.rx.port
    rw [hc]
    exact Device.reply_out sends.1 sends.2 (s.chip.dev.attending_out q x) ..

theorem Device.sessTimeout_open {d : Device} {slot n : Nat} {x : FuhelSess} (hx : d.sess slot = some x)
    (hn : x.lastNs + d.get F.HOST_FUHEL_CFG_TIMEOUT_S * 1000000000 = n) : d.quiet.sessTimeout slot = (d.quiet.waitNow n).sessClose slot := by
  have open_ : d.quiet.sess slot = some x := hx
  simp only [sessTimeout, open_, Device.get_quiet, hn]

/-- The end of a session that was silent. -/
theorem fuhelSessionTimeout_closes {s : State} {slot n : Nat} {x : FuhelSess} (hx : s.chip.dev.sess slot = some x)
    (hn : x.lastNs + s.chip.dev.get F.HOST_FUHEL_CFG_TIMEOUT_S * 1000000000 = n) :
    ∃ t, exec (.fuhelSessionTimeout slot) s = .next t ∧ t.chip.mem = s.chip.mem ∧ t.chip.dev.sess slot = none ∧
      t.chip.dev.now ≥ n ∧ t.chip.dev.get F.HOST_EVENTS_SESSION_CLOSED = 1 := by
  have runs : exec (.fuhelSessionTimeout slot) s = .next { s with chip := ⟨s.chip.mem, (s.chip.dev.quiet.waitNow n).sessClose slot⟩ } := by
    have step : exec (.fuhelSessionTimeout slot) s = .next { s with chip := ⟨s.chip.mem, s.chip.dev.quiet.sessTimeout slot⟩ } := rfl
    rw [step, Device.sessTimeout_open hx hn]
  obtain ⟨t, ht, hm, hdev⟩ := next_of_chip runs
  have wait : (s.chip.dev.quiet.waitNow n).now = max s.chip.dev.quiet.now n := Device.waitNow_now ..
  revert hdev
  generalize s.chip.dev.quiet.waitNow n = w at wait
  intro hdev
  obtain ⟨g, e, hc⟩ := w.sessClose_only slot
  refine ⟨t, ht, hm, ?_, ?_, ?_⟩ <;> rw [hdev]
  · rw [Device.sess_sessClose, if_pos rfl]
  · rw [hc]
    exact (le_max_right _ _).trans wait.ge
  · exact Device.get_sessClose_event ..

/-- Settles O14: sessions open, close and time out; a request without a session is answered SESSION. -/
theorem fuhelSessionsOpenAndClose : Obligations.FuhelSessionsOpenAndClose := by
  refine ⟨fun s q hh _ => ⟨fun h => fuhelOpen_opens hh h, fun x hx hip => fuhelOpen_refused hh hx hip, fun hn p hp => ?_⟩,
    fun s q x hx _ => fuhelClose_closes hx, fun s slot x _ hx => fuhelSessionTimeout_closes hx rfl⟩
  have closed : (s.chip.dev.heardBy q).sess q.slot = none := (Device.sess_congr (s.chip.dev.heardBy_host q) _).trans hn
  simp only [List.mem_cons, List.not_mem_nil, or_false] at hp
  rcases hp with rfl | rfl | rfl
  · exact fuhelReq_none hh rfl rfl hn
  · exact fuhelReq_none hh rfl (Chip.fuhelClose_none closed) hn
  · exact fuhelReq_none hh rfl rfl hn

end Sys2Proof.Machine
end

section
/-!
SUPPORT. Life cycle and debug: O18.
-/

namespace Sys2Proof.Machine

/-! ### Life cycle -/

/-- HOST_LC_CMD: what it does to the fuses is all it does beside logging the write. -/
theorem writeTo_lcCmd {s : State} {slot w : Nat} (hs : slot < 8) (hw : w < 2 ^ 32) (ha : s.chip.admits slot R.HOST_LC_CMD 0 w = true) :
    ∃ t, writeTo slot R.HOST_LC_CMD 0 w s = .next t ∧ t.chip.mem = (s.chip.quiet.lcCmd (F.HOST_LC_CMD_OP.of w)).mem ∧ t.chip.dev.regs = s.chip.dev.regs := by
  have dev : (s.chip.quiet.lcCmd (F.HOST_LC_CMD_OP.of w)).dev = s.chip.dev.quiet := by unfold Chip.lcCmd; dsimp only; split <;> rfl
  obtain ⟨p, hp⟩ := s.chip.dev.quiet.logWrite_only slot (R.HOST_LC_CMD.base + R.HOST_LC_CMD.stride * 0) w
  obtain ⟨t, ht, hm, hd⟩ := next_of_chip (writeTo_commands (by decide) hs hw rfl ha)
  refine ⟨t, ht, hm, ?_⟩
  have effect : s.chip.quiet.writeEffect slot R.HOST_LC_CMD 0 w s.chip.quiet.dev = s.chip.quiet.lcCmd (F.HOST_LC_CMD_OP.of w) := rfl
  rw [hd]
  show (((s.chip.quiet.writeEffect slot R.HOST_LC_CMD 0 w s.chip.quiet.dev).dev.logWrite slot _ w).emit _).regs = _
  rw [effect, dev, hp]
  rfl

theorem Chip.lcCmd_mem (c : Chip) (op : Nat) : (c.lcCmd op).mem =
    if (op = 1 ∧ c.dev.get F.HOST_LC_STATUS_STATE = 0) ∨ (op = 2 ∧ c.dev.get F.HOST_LC_STATUS_STATE = 1 ∧ c.dev.on F.HOST_LC_STATUS_DBG_UNLOCKED = true) then
      { c.mem with otp := { c.mem.otp with lc := max c.mem.otp.lc op } }
    else c.mem := by
  unfold lcCmd
  dsimp only
  split <;> rfl

/-! ### Debug -/

theorem onChip_next {s : State} {c : Instr} {f : Chip → Chip} {m : Memory} {d : Device} (hc : exec c s = onChip f s)
    (h : f ⟨s.chip.mem, s.chip.dev.quiet⟩ = ⟨m, d⟩) : ∃ t, exec c s = .next t ∧ t.chip.mem = m ∧ t.chip.dev = d :=
  next_of_chip (spi_next hc h)

/-- The device once a valid response has unlocked debug for a slot. -/
def Device.unlocked (d : Device) (slot : Nat) : Device :=
  ((d.put F.HOST_LC_STATUS_DBG_UNLOCKED 0 1).put F.HOST_LC_STATUS_DBG_SLOT 0 slot).raise F.HOST_EVENTS_DBG_UNLOCK

/-- A response that the device accepts (R389). -/
def Chip.ResponseOk (c : Chip) (key sig : List Byte) (slot : Nat) : Prop :=
  Config.sha384 key = c.mem.otp.debug ∧ Config.ecdsaOk key sig (Config.sha384 (c.dev.challenge ++ [BitVec.ofNat 8 slot])) = true ∧ slot < 8

section Unlock

variable {c : Chip} {key sig : List Byte} {slot : Nat} (hp : c.dev.pd1On = true) (hc : c.dev.get F.HOST_LC_STATUS_STATE = 1)
  (hu : c.dev.on F.HOST_LC_STATUS_DBG_UNLOCKED = false) (hw : c.dev.host.debugWait ≤ c.dev.now)
include hp hc hu hw

/-- Only a closed device out of its second of waiting judges a response. -/
theorem debug_judges : (!c.dev.pd1On || c.dev.dbgOpen || c.dev.on F.HOST_LC_STATUS_DBG_UNLOCKED || decide (c.dev.now < c.dev.host.debugWait)) = false := by
  have closed : c.dev.dbgOpen = false := by
    rw [Device.dbgOpen, hc]
    rfl
  simp only [hp, closed, hu, not_lt.mpr hw, decide_false, Bool.not_true, Bool.or_self]

theorem unlockTry_valid (hv : c.ResponseOk key sig slot) : c.unlockTry key sig slot = ⟨c.mem, c.dev.unlocked slot⟩ := by
  simp only [Chip.unlockTry, debug_judges hp hc hu hw, Bool.false_eq_true, if_false]
  exact if_pos hv

theorem unlockTry_invalid (hv : ¬ c.ResponseOk key sig slot) : c.unlockTry key sig slot =
    ⟨c.mem, { c.dev.record 0x0050 13 0 0 with host := { c.dev.host with debugWait := c.dev.now + 1000000000 } }⟩ := by
  have recorded : (c.dev.record 0x0050 13 0 0).host = c.dev.host ∧ (c.dev.record 0x0050 13 0 0).now = c.dev.now := by
    unfold Device.record
    split
    · exact ⟨rfl, rfl⟩
    · split <;> exact ⟨rfl, rfl⟩
  simp only [Chip.unlockTry, debug_judges hp hc hu hw, Bool.false_eq_true, if_false, recorded]
  exact if_neg hv

end Unlock

section Access

variable {c : Chip} {op : DebugOp} (hp : c.dev.pd1On = true)
include hp

theorem debug_denied (hc : c.dev.dbgOpen = false) (hu : c.dev.on F.HOST_LC_STATUS_DBG_UNLOCKED = false) :
    c.debug op = c.answer (c.dev.get F.HOST_LC_STATUS_DBG_SLOT) resDenied [] := by
  simp only [Chip.debug, hp, hc, hu, Bool.not_true, Bool.not_false, Bool.and_self, Bool.false_eq_true, if_false, if_true]

variable (ho : c.dev.dbgOpen = true ∨ c.dev.on F.HOST_LC_STATUS_DBG_UNLOCKED = true)
include ho

theorem debug_admits : (!c.dev.dbgOpen && !c.dev.on F.HOST_LC_STATUS_DBG_UNLOCKED) = false := by
  rcases ho with h | h <;> simp [h]

theorem debug_locked {a : Nat} (ha : c.dev.dbgLocked op (c.dev.get F.HOST_LC_STATUS_DBG_SLOT) = some a) :
    ∃ n, c.debug op = ⟨c.mem, (c.dev.record 0x0051 13 (c.dev.get F.HOST_LC_STATUS_DBG_SLOT) a).emit
      (.result (c.dev.get F.HOST_LC_STATUS_DBG_SLOT) resDenied (List.replicate n 0))⟩ := by
  simp only [Chip.debug, hp, debug_admits hp ho, ha, Bool.not_true, Bool.false_eq_true, if_false]
  exact ⟨_, rfl⟩

theorem debug_regWrite {a v code : Nat} {m : Memory} {d : Device} (ha : c.dev.dbgLocked (.regWrite a v) (c.dev.get F.HOST_LC_STATUS_DBG_SLOT) = none)
    (hw : c.hostWrite (c.dev.get F.HOST_LC_STATUS_DBG_SLOT) a 32 (v % 2 ^ 32) 0 = (⟨m, d⟩, some code)) :
    c.debug (.regWrite a v) = ⟨m, d.emit (.result (c.dev.get F.HOST_LC_STATUS_DBG_SLOT) code [])⟩ := by
  simp only [Chip.debug, hp, debug_admits hp ho, ha, hw, Bool.not_true, Bool.false_eq_true, if_false]
  rfl

theorem debug_dpWrite {t a code : Nat} {l : List Byte} {m : Memory} {d : Device}
    (ha : c.dev.dbgLocked (.dpWrite t a l) (c.dev.get F.HOST_LC_STATUS_DBG_SLOT) = none)
    (hw : c.dpWrite (c.dev.get F.HOST_LC_STATUS_DBG_SLOT) (t % 4) (a % 2 ^ 40) l = (⟨m, d⟩, code)) :
    c.debug (.dpWrite t a l) = ⟨m, d.emit (.result (c.dev.get F.HOST_LC_STATUS_DBG_SLOT) code [])⟩ := by
  simp only [Chip.debug, hp, debug_admits hp ho, ha, hw, Bool.not_true, Bool.false_eq_true, if_false]
  rfl

end Access

theorem Device.record_regs {d : Device} (code source a b : Nat) (hf : d.on F.BBOX_STATUS_FROZEN = false) (hl : d.bb.staging.length < 16) :
    (d.record code source a b).regs = d.regs ∧ (d.record code source a b).out = d.out := by
  simp [Device.record, hf, hl]

/-- The debug clauses of a response. -/
theorem debugUnlockResponse_judged {s : State} (key sig : List Byte) (slot : Nat) (hp : s.chip.dev.pd1On = true)
    (hc : s.chip.dev.get F.HOST_LC_STATUS_STATE = 1) (hu : s.chip.dev.on F.HOST_LC_STATUS_DBG_UNLOCKED = false)
    (hw : s.chip.dev.host.debugWait ≤ s.chip.dev.now) :
    ∃ t, exec (.debugUnlockResponse key sig slot) s = .next t ∧ t.chip.mem = s.chip.mem ∧
      (s.chip.ResponseOk key sig slot → t.chip.dev.get F.HOST_LC_STATUS_DBG_UNLOCKED = 1 ∧ t.chip.dev.get F.HOST_LC_STATUS_DBG_SLOT = slot ∧
        t.chip.dev.get F.HOST_EVENTS_DBG_UNLOCK = 1) ∧
      (¬ s.chip.ResponseOk key sig slot → t.chip.dev.on F.HOST_LC_STATUS_DBG_UNLOCKED = false ∧
        t.chip.dev.host.debugWait = s.chip.dev.now + 1000000000 ∧
        (s.chip.dev.on F.BBOX_STATUS_FROZEN = false → s.chip.dev.bb.staging.length < 16 →
          t.chip.dev.bb.staging = s.chip.dev.bb.staging ++ [BbEvent.mk 0x0050 13 s.chip.dev.tickNow s.chip.dev.nsPart 0 0])) := by
  by_cases hv : s.chip.ResponseOk key sig slot
  · obtain ⟨t, ht, hm, hd⟩ := onChip_next (c := .debugUnlockResponse key sig slot) rfl
      (unlockTry_valid (c := ⟨s.chip.mem, s.chip.dev.quiet⟩) hp hc hu hw hv)
    refine ⟨t, ht, hm, fun _ => ?_, fun h => absurd hv h⟩
    rw [hd]
    refine ⟨?_, ?_, Device.get_raise_same _ _ _ (by decide)⟩
    · exact (Device.get_raise _ _ _ _ _ (.inl (by decide)) (.inl (by decide))).trans
        ((Device.get_put_ne _ _ _ _ _ _ (by decide)).trans (Device.get_put_same ..))
    · refine (Device.get_raise _ _ _ _ _ (.inl (by decide)) (.inl (by decide))).trans ((Device.get_put_same ..).trans ?_)
      exact Nat.mod_eq_of_lt hv.2.2
  · obtain ⟨t, ht, hm, hd⟩ := onChip_next (c := .debugUnlockResponse key sig slot) rfl
      (unlockTry_invalid (c := ⟨s.chip.mem, s.chip.dev.quiet⟩) hp hc hu hw hv)
    refine ⟨t, ht, hm, fun h => absurd h hv, fun _ => ?_⟩
    rw [hd]
    refine ⟨?_, rfl, fun hf hl => Device.staging_record (d := s.chip.dev.quiet) _ _ _ _ hp hf hl⟩
    have kept : (s.chip.dev.quiet.record 0x0050 13 0 0).get F.HOST_LC_STATUS_DBG_UNLOCKED = s.chip.dev.get F.HOST_LC_STATUS_DBG_UNLOCKED := by
      unfold Device.record Device.bump
      split
      · exact Device.get_put_ne _ _ _ _ _ _ (by decide)
      · split
        · rfl
        · exact Device.get_put_ne _ _ _ _ _ _ (by decide)
    exact (congrArg (fun v => decide (v ≠ 0)) kept).trans hu

/-- Settles O18: fuses rise by the commands, and debug answers by unlock and LOCKED rules. -/
theorem lifeCycleAndDebug : Obligations.LifeCycleAndDebug := by
  refine ⟨fun s slot hs => ⟨fun ha => ?_, fun ha => ?_⟩, fun s key sig slot hp hc hu hw => debugUnlockResponse_judged key sig slot hp hc hu hw,
    fun s op hp => ⟨fun hc hu => ⟨_, spi_next (c := .debugAccess op) rfl (debug_denied (c := ⟨s.chip.mem, s.chip.dev.quiet⟩) hp hc hu), rfl, rfl⟩,
      fun ho => ⟨fun a ha hf hl => ?_, fun hl ha => ?_, fun a l hl ha htb hw => ?_⟩⟩⟩
  · obtain ⟨t, ht, hm, hr⟩ := writeTo_lcCmd hs (by decide) ha
    have op : F.HOST_LC_CMD_OP.of 1 = 1 := rfl
    rw [op, Chip.lcCmd_mem] at hm
    refine ⟨t, ht, ?_, ?_, hr, fun h0 => ?_, fun h0 => ?_⟩
    · rw [hm]; split <;> rfl
    · rw [hm]; split <;> rfl
    · rw [hm, if_pos (.inl ⟨rfl, h0⟩)]; rfl
    · rw [hm, if_neg (by rintro (⟨-, h⟩ | ⟨h, -⟩); exacts [h0 h, absurd h (by decide)])]; rfl
  · obtain ⟨t, ht, hm, hr⟩ := writeTo_lcCmd hs (by decide) ha
    have op : F.HOST_LC_CMD_OP.of 2 = 2 := rfl
    rw [op, Chip.lcCmd_mem] at hm
    refine ⟨t, ht, hr, fun h1 hu => ?_, fun h => ?_⟩
    · rw [hm, if_pos (.inr ⟨rfl, h1, hu⟩)]; exact ⟨rfl, rfl⟩
    · rw [hm, if_neg]; · rfl
      rintro (⟨h, -⟩ | ⟨-, h1, hu⟩)
      · exact absurd h (by decide)
      · rcases h with h | h
        · exact h h1
        · exact Bool.false_ne_true (h.symm.trans hu)
  · obtain ⟨n, hn⟩ := debug_locked (c := ⟨s.chip.mem, s.chip.dev.quiet⟩) (op := op) hp ho ha
    obtain ⟨t, ht, hm, hd⟩ := onChip_next (c := .debugAccess op) rfl hn
    obtain ⟨hregs, hout⟩ := Device.record_regs (d := s.chip.dev.quiet) 0x0051 13 (s.chip.dev.quiet.get F.HOST_LC_STATUS_DBG_SLOT) a hf hl
    refine ⟨t, List.replicate n 0, ht, hm, ?_, fun b hb => List.eq_of_mem_replicate hb, ?_, ?_⟩ <;> rw [hd]
    · exact hregs
    · rw [Device.emit_out, hout]; rfl
    · exact Device.staging_record (d := s.chip.dev.quiet) _ _ _ _ hp hf hl
  · obtain ⟨g, p, hw, hget, hk⟩ := regWrite_gpioOut (c := ⟨s.chip.mem, s.chip.dev.quiet⟩) (slot := s.chip.dev.quiet.get F.HOST_LC_STATUS_DBG_SLOT)
      (w := 5) (by decide) ha
    have access : Chip.hostWrite (s.chip.dev.quiet.get F.HOST_LC_STATUS_DBG_SLOT) 0x130004 32 (5 % 2 ^ 32) 0 ⟨s.chip.mem, s.chip.dev.quiet⟩ =
        (⟨s.chip.mem, { s.chip.dev.quiet with regs := g, pair := p }⟩, some resOk) := by
      rw [show 5 % 2 ^ 32 = 5 from rfl, ← hw]
      exact Chip.hostWrite_admitted (r := R.GPIO_OUT) (i := 0) ha
    obtain ⟨t, ht, hm, hd⟩ := onChip_next (c := .debugAccess (.regWrite 0x130004 5)) rfl
      (debug_regWrite (c := ⟨s.chip.mem, s.chip.dev.quiet⟩) hp ho hl access)
    refine ⟨t, ht, hm, ?_, ?_, ?_⟩ <;> rw [hd]
    · exact hget
    · exact hk
    · rfl
  · obtain ⟨g, p, write, -⟩ := Chip.dpWrite_dram (s.chip.dev.aside_quiet.takesBytes htb)
    have access : Chip.dpWrite (s.chip.dev.quiet.get F.HOST_LC_STATUS_DBG_SLOT) (0 % 4) (a % 2 ^ 40) l ⟨s.chip.mem, s.chip.dev.quiet⟩ =
        (⟨(s.chip.mem.writePort a l).1, { s.chip.dev.quiet with regs := g, pair := p }⟩, resOk) := by
      rw [Nat.mod_eq_of_lt ha]
      exact write
    obtain ⟨t, ht, hm, hd⟩ := onChip_next (c := .debugAccess (.dpWrite 0 a l)) rfl
      (debug_dpWrite (c := ⟨s.chip.mem, s.chip.dev.quiet⟩) hp ho hl access)
    exact ⟨t, ht, by rw [hm]; exact Memory.storedAt_writePort hw a l, by rw [hd]; rfl⟩

end Sys2Proof.Machine
end

section
/-!
SUPPORT. Performance counters: O54.
-/

namespace Sys2Proof.Machine

/-! ### Performance counters -/

theorem Device.get2_put2 (d : Device) (lo hi : Fld) (i v : Nat) (hne : hi.id ≠ lo.id) (hl : lo.width = 32) (hh : hi.width = 32) :
    (d.put2 lo hi i v).get2 lo hi i = v % 2 ^ 64 := by
  have low : (d.put2 lo hi i v).get lo i = v % 2 ^ 32 := by rw [put2, get_put_ne _ _ _ _ _ _ hne, get_put_same, hl]
  have high : (d.put2 lo hi i v).get hi i = v / 2 ^ 32 % 2 ^ 32 := by rw [put2, get_put_same, hh]
  rw [get2, low, high, show (2 : Nat) ^ 64 = 2 ^ 32 * 2 ^ 32 from rfl, Nat.mod_mul]

theorem perfWord_fields : ∀ op ∈ [1, 2, 3, 4], ∀ edge : Bool, perfWord op edge < 2 ^ 32 ∧ F.PERF_CMD_OP.of (perfWord op edge) = op ∧
    decide (F.PERF_CMD_EDGE.of (perfWord op edge) = 1) = edge := by decide

/-- An admitted PERF command: what it does is all that it does beside logging the write. -/
theorem perfCmd_runs {s : State} {slot op : Nat} {edge : Bool} (hs : slot < 8) (hop : op ∈ [1, 2, 3, 4])
    (ha : s.chip.admits slot R.PERF_CMD 0 (perfWord op edge) = true) :
    ∃ t p, writeTo slot R.PERF_CMD 0 (perfWord op edge) s = .next t ∧
      t.chip.dev = ({ s.chip.dev.quiet.perfCmd op edge with pair := p } : Device).emit (.result slot resOk []) := by
  obtain ⟨hw, hcmd, hedge⟩ := perfWord_fields op hop edge
  obtain ⟨p, hp⟩ := (s.chip.dev.quiet.perfCmd op edge).logWrite_only slot (R.PERF_CMD.base + R.PERF_CMD.stride * 0) (perfWord op edge)
  have effect : s.chip.quiet.writeEffect slot R.PERF_CMD 0 (perfWord op edge) s.chip.quiet.dev = ⟨s.chip.mem, s.chip.dev.quiet.perfCmd op edge⟩ := by
    have run : s.chip.quiet.writeEffect slot R.PERF_CMD 0 (perfWord op edge) s.chip.quiet.dev =
      ⟨s.chip.mem, s.chip.dev.quiet.perfCmd (F.PERF_CMD_OP.of (perfWord op edge)) (decide (F.PERF_CMD_EDGE.of (perfWord op edge) = 1))⟩ := rfl
    rw [run, hcmd, hedge]
  have ran := writeTo_commands (r := R.PERF_CMD) (i := 0) (by decide) hs hw rfl ha
  rw [effect] at ran
  have logged : (Chip.mapDev (fun (d : Device) => d.logWrite slot (R.PERF_CMD.base + R.PERF_CMD.stride * 0) (perfWord op edge))
      ⟨s.chip.mem, s.chip.dev.quiet.perfCmd op edge⟩) = ⟨s.chip.mem, { s.chip.dev.quiet.perfCmd op edge with pair := p }⟩ := by rw [Chip.mapDev, hp]
  rw [logged] at ran
  exact ⟨_, p, ran, rfl⟩

theorem Device.perfCmd_now {d : Device} {op : Nat} {edge : Bool} (h : (edge && d.tick.running) = false) (hop : op ≠ 0) :
    d.perfCmd op edge = if op = 1 then d.perfSnap else d.perfAct op := by
  simp only [perfCmd, if_neg hop, h, Bool.false_eq_true, if_false]

theorem Device.perfCmd_edge {d : Device} {op : Nat} (h : d.tick.running = true) (hop : op ≠ 0) :
    d.perfCmd op true = { d with perf := { d.perf with atEdge := d.perf.atEdge ++ [op] } } := by
  simp only [perfCmd, if_neg hop, h, Bool.and_self, if_true]

theorem Device.perfSnap_shows (d : Device) : d.perfSnap.perf.snap = d.perf.cnt ∧
    d.perfSnap.get F.PERF_SNAP_SEQ_VALUE = (d.get F.PERF_SNAP_SEQ_VALUE + 1) % 2 ^ 32 ∧
    d.perfSnap.get2 F.PERF_SNAP_TICK_LO_VALUE F.PERF_SNAP_TICK_HI_VALUE = d.tickNow % 2 ^ 64 := by
  have raised (e : Device) (f : Fld) (hf : F.PERF_EVENTS_SNAP.id ≠ f.id) (ho : F.HOST_EVENTS_EVQ_OVERFLOW.id ≠ f.id) :
      (e.raise F.PERF_EVENTS_SNAP).get f = e.get f := e.get_raise _ _ _ _ (.inl hf) (.inl ho)
  refine ⟨?_, ?_, ?_⟩
  · rw [perfSnap, raise_perf]
    rfl
  · rw [perfSnap, raised _ _ (by decide) (by decide), get_put_same, put2, get_put_ne _ _ _ _ _ _ (by decide), get_put_ne _ _ _ _ _ _ (by decide)]
    rfl
  · rw [get2, perfSnap, raised _ _ (by decide) (by decide), raised _ _ (by decide) (by decide), get_put_ne _ _ _ _ _ _ (by decide),
      get_put_ne _ _ _ _ _ _ (by decide)]
    exact Device.get2_put2 _ _ _ _ _ (by decide) rfl rfl

/-! ### Time passes without a byte on a port -/

/-- From `d` to `e` no byte was counted on a port, and no register changed. -/
def Device.SameBytes (d e : Device) : Prop :=
  e.perf.rxBytes = d.perf.rxBytes ∧ e.perf.txBytes = d.perf.txBytes ∧ e.regs = d.regs

theorem Device.SameBytes.refl (d : Device) : d.SameBytes d := ⟨rfl, rfl, rfl⟩

theorem Device.SameBytes.trans {d e e' : Device} (h : d.SameBytes e) (h' : e.SameBytes e') : d.SameBytes e' :=
  ⟨h'.1.trans h.1, h'.2.1.trans h.2.1, h'.2.2.trans h.2.2⟩

theorem Device.sameBytes_forL {β : Type} {f : β → Device → Device} (hf : ∀ b (d : Device), d.SameBytes (f b d)) (l : List β) (d : Device) :
    d.SameBytes (forL l f d) := by
  induction l generalizing d with
  | nil => exact .refl d
  | cons b r ih => exact (hf b d).trans (ih (f b d))

theorem Device.sameBytes_count (d : Device) (ev unit n : Nat) : d.SameBytes (d.count ev unit n) := by
  unfold count
  split <;> exact .refl _

theorem Device.sameBytes_sampled (d : Device) (ev n o tile : Nat) (pipe : Option Nat) : d.SameBytes (d.sampled ev n o tile pipe) := by
  unfold sampled
  split <;> exact .refl _

theorem Device.sameBytes_cycles (d : Device) (n : Nat) : d.SameBytes (d.cycles n) := by
  have tile (s : Nat × Nat × Nat) (d : Device) : d.SameBytes (d.countTile 0x06 s.2.2 n s.1 s.2.1 (some s.2.2)) :=
    (d.sameBytes_count ..).trans (Device.sameBytes_sampled ..)
  exact ((d.sameBytes_count _ _ _).trans (sameBytes_forL (fun c d => d.sameBytes_count 0x0A c n) _ _)).trans (sameBytes_forL tile _ _)

theorem Device.sameBytes_elapse (d : Device) (n : Nat) : d.SameBytes (d.elapse n) := by
  have counted (e : Device) : e.SameBytes (if e.coreOn then e.cycles n else e) := by
    split
    · exact e.sameBytes_cycles n
    · exact .refl e
  unfold elapse
  dsimp only
  generalize d.devFrac + (if d.pd1On then n * (1000000000 + d.ppb).toNat else 0) = t
  exact counted _

theorem Device.sameBytes_waitUntil (d : Device) (t : Nat) : d.SameBytes (d.waitUntil t) := by
  unfold waitUntil
  dsimp only
  split
  · exact .refl d
  · exact d.sameBytes_elapse _

/-! ### Bandwidth windows -/

theorem forN_succ {α : Type} (n : Nat) (f : Nat → α → α) (a : α) : forN (n + 1) f a = f n (forN n f a) := by
  simp [forN, List.range_succ]

/-- Each of the first `n` instances of two fields takes its word. -/
def Device.putPairs (f g : Fld) (u v : Nat → Nat) (n : Nat) (d : Device) : Device :=
  forN n (fun p (e : Device) => (e.put f p (u p)).put g p (v p)) d

theorem Device.get_putPairs {f g : Fld} (hne : g.id ≠ f.id) (u v : Nat → Nat) {n p : Nat} (hp : p < n) (d : Device) :
    (d.putPairs f g u v n).get f p = u p % 2 ^ f.width ∧ (d.putPairs f g u v n).get g p = v p % 2 ^ g.width := by
  induction n with
  | zero => omega
  | succ n ih =>
    have step : d.putPairs f g u v (n + 1) = ((d.putPairs f g u v n).put f n (u n)).put g n (v n) := forN_succ ..
    rw [step, get_put_ne _ _ _ _ _ _ hne, get_put, get_put, get_put]
    by_cases hpn : n = p
    · simp [hpn]
    · have := ih (by omega)
      simp [hpn, this]

theorem Device.putPairs_only (f g : Fld) (u v : Nat → Nat) (n : Nat) (d : Device) : ∃ r, d.putPairs f g u v n = { d with regs := r } := by
  induction n with
  | zero => exact ⟨d.regs, rfl⟩
  | succ n ih =>
    obtain ⟨r, hr⟩ := ih
    have step : d.putPairs f g u v (n + 1) = ((d.putPairs f g u v n).put f n (u n)).put g n (v n) := forN_succ ..
    exact ⟨_, by rw [step, hr]; rfl⟩

theorem Device.get_putPairs_ne {f g h : Fld} (hf : f.id ≠ h.id) (hg : g.id ≠ h.id) (u v : Nat → Nat) (n i : Nat) (d : Device) :
    (d.putPairs f g u v n).get h i = d.get h i := by
  induction n with
  | zero => rfl
  | succ n ih =>
    have step : d.putPairs f g u v (n + 1) = ((d.putPairs f g u v n).put f n (u n)).put g n (v n) := forN_succ ..
    rw [step, get_put_ne _ _ _ _ _ _ hg, get_put_ne _ _ _ _ _ _ hf, ih]

/-- The bytes of the window are latched. -/
def Device.latchBytes (d : Device) : Device :=
  d.putPairs F.PERF_BW_RX_UNITS F.PERF_BW_TX_UNITS (d.perfUnitsOf d.perf.rxBytes) (d.perfUnitsOf d.perf.txBytes) 28

/-- The next window starts. -/
def Device.startWindow (d : Device) (stop : Nat) : Device :=
  let e : Device := { d with perf := { d.perf with rxBytes := [], txBytes := [], windowStart := some stop } }
  (e.put F.PERF_BW_SEQ_VALUE 0 (e.get F.PERF_BW_SEQ_VALUE + 1)).raise F.PERF_EVENTS_BW_WINDOW

theorem Device.latchBytes_eq (d : Device) : forN 28 (fun (p : Nat) (e : Device) =>
    (e.put F.PERF_BW_RX_UNITS p (d.perfUnitsOf d.perf.rxBytes p)).put F.PERF_BW_TX_UNITS p (d.perfUnitsOf d.perf.txBytes p)) d = d.latchBytes := by
  delta latchBytes putPairs
  rfl

theorem Device.perfBwWindow_eq {d : Device} {t0 stop : Nat} (h : d.perf.windowStart = some t0)
    (hs : t0 + d.get F.PERF_BW_CFG_WINDOW_MS * 1000000 = stop) : d.perfBwWindow = (d.waitUntil stop).latchBytes.startWindow stop := by
  simp only [perfBwWindow, h, hs, latchBytes_eq, startWindow]

theorem Device.perfUnitsOf_congr {d e : Device} (h : e.regs = d.regs) (t : Tab Nat Nat) (p : Nat) : e.perfUnitsOf t p = d.perfUnitsOf t p := by
  simp only [perfUnitsOf, Device.get_congr h]

theorem Device.get_startWindow (d : Device) (stop : Nat) (f : Fld) (i : Nat) (hs : F.PERF_BW_SEQ_VALUE.id ≠ f.id)
    (he : F.PERF_EVENTS_BW_WINDOW.id ≠ f.id) (ho : F.HOST_EVENTS_EVQ_OVERFLOW.id ≠ f.id) : (d.startWindow stop).get f i = d.get f i := by
  simp only [startWindow]
  rw [get_raise _ _ _ _ _ (.inl he) (.inl ho), get_put_ne _ _ _ _ _ _ hs]
  exact get_congr rfl f i

theorem Device.startWindow_shows (d : Device) (stop : Nat) :
    (d.startWindow stop).get F.PERF_BW_SEQ_VALUE = (d.get F.PERF_BW_SEQ_VALUE + 1) % 2 ^ 32 ∧
    (d.startWindow stop).get F.PERF_EVENTS_BW_WINDOW = 1 ∧ (d.startWindow stop).perf.windowStart = some stop := by
  refine ⟨?_, get_raise_same _ _ _ (by decide), ?_⟩
  · simp only [startWindow]
    rw [get_raise _ _ _ _ _ (.inl (by decide)) (.inl (by decide)), get_put_same]
    rfl
  · simp only [startWindow]
    rw [raise_perf]
    rfl

theorem Device.latchBytes_shows (d : Device) {p : Nat} (hp : p < 28) : d.latchBytes.get F.PERF_BW_RX_UNITS p = d.perfUnitsOf d.perf.rxBytes p % 2 ^ 32 ∧
    d.latchBytes.get F.PERF_BW_TX_UNITS p = d.perfUnitsOf d.perf.txBytes p % 2 ^ 32 :=
  d.get_putPairs (by decide) _ _ hp

theorem perfBwWindow_latches {s : State} {t0 stop : Nat} (h : s.chip.dev.perf.windowStart = some t0)
    (hs : t0 + s.chip.dev.get F.PERF_BW_CFG_WINDOW_MS * 1000000 = stop) :
    ∃ t, exec .perfBwWindow s = .next t ∧
      (∀ p, p < 28 → t.chip.dev.get F.PERF_BW_RX_UNITS p = s.chip.dev.perfUnitsOf s.chip.dev.perf.rxBytes p % 2 ^ 32 ∧
        t.chip.dev.get F.PERF_BW_TX_UNITS p = s.chip.dev.perfUnitsOf s.chip.dev.perf.txBytes p % 2 ^ 32) ∧
      t.chip.dev.get F.PERF_BW_SEQ_VALUE = (s.chip.dev.get F.PERF_BW_SEQ_VALUE + 1) % 2 ^ 32 ∧
      t.chip.dev.get F.PERF_EVENTS_BW_WINDOW = 1 ∧ t.chip.dev.perf.windowStart = some stop := by
  obtain ⟨hrx, htx, hregs⟩ := s.chip.dev.quiet.sameBytes_waitUntil stop
  obtain ⟨t, ht, hd⟩ : ∃ t, exec .perfBwWindow s = .next t ∧ t.chip.dev = s.chip.dev.quiet.perfBwWindow := ⟨_, rfl, rfl⟩
  rw [Device.perfBwWindow_eq (d := s.chip.dev.quiet) h hs] at hd
  revert hd hrx htx hregs
  generalize s.chip.dev.quiet.waitUntil stop = w
  intro hrx htx hregs hd
  obtain ⟨seq, event, start⟩ := w.latchBytes.startWindow_shows stop
  refine ⟨t, ht, fun p hp => ?_, ?_, ?_, ?_⟩ <;> rw [hd]
  · obtain ⟨rx, tx⟩ := w.latchBytes_shows hp
    rw [Device.get_startWindow _ _ _ _ (by decide) (by decide) (by decide), Device.get_startWindow _ _ _ _ (by decide) (by decide) (by decide),
      rx, tx, hrx, htx, Device.perfUnitsOf_congr hregs, Device.perfUnitsOf_congr hregs]
    exact ⟨rfl, rfl⟩
  · rw [seq, Device.latchBytes, Device.get_putPairs_ne (by decide) (by decide), Device.get_congr hregs]
    rfl
  · exact event
  · exact start

/-! ### Samples -/

theorem Device.placeSample_room {d : Device} {w : Nat} (h : d.perf.samples.length < 64) :
    d.placeSample w = { d with perf := { d.perf with samples := d.perf.samples ++ [w] } } := if_pos h

theorem Device.placeSample_full {d : Device} {w : Nat} (h : 64 ≤ d.perf.samples.length) :
    d.placeSample w = (d.bump F.PERF_SAMPLE_STATUS_DROPPED 0 1).raise F.PERF_EVENTS_SAMPLE_OVERFLOW := if_neg h.not_gt

theorem Device.placeSample_kept (d : Device) (w : Nat) : (d.placeSample w).perf.due = d.perf.due ∧ (d.placeSample w).perf.occ = d.perf.occ := by
  rcases Nat.lt_or_ge d.perf.samples.length 64 with h | h
  · rw [placeSample_room h]
    exact ⟨rfl, rfl⟩
  · rw [placeSample_full h, raise_perf]
    exact ⟨rfl, rfl⟩

theorem Device.placeSample_dropped {d : Device} {w : Nat} (h : 64 ≤ d.perf.samples.length) : (d.placeSample w).perf.samples = d.perf.samples ∧
    (d.placeSample w).get F.PERF_SAMPLE_STATUS_DROPPED = min (d.get F.PERF_SAMPLE_STATUS_DROPPED + 1) 0xFFFF ∧
    (d.placeSample w).get F.PERF_EVENTS_SAMPLE_OVERFLOW = 1 := by
  rw [placeSample_full h, raise_perf]
  exact ⟨rfl, (get_raise _ _ _ _ _ (.inl (by decide)) (.inl (by decide))).trans (d.get_bump ..), get_raise_same _ _ _ (by decide)⟩

/-- The first sample that is due, where it admits the tile. -/
theorem Device.perfSample_admits {d : Device} {q : SampleDue} {rest : List SampleDue} {output row col unit : Nat} (h : d.perf.due = q :: rest)
    (ha : q.admits output row col unit = true) : d.perfSample output row col unit =
      ({ d with perf := { d.perf with due := rest } } : Device).placeSample (sampleWord output row col unit q.tick) := by
  simp only [perfSample, h, ha, if_true]

theorem Device.perfSample_passes {d : Device} {output row col unit : Nat}
    (h : ∀ q rest, d.perf.due = q :: rest → q.admits output row col unit = false) : d.perfSample output row col unit = d := by
  cases hd : d.perf.due with
  | nil => simp only [perfSample, hd]
  | cons q rest => simp only [perfSample, hd, h q rest hd, Bool.false_eq_true, if_false]

theorem Device.sampled_on {d : Device} {ev n o tile : Nat} {pipe : Option Nat} (he : d.on F.PERF_SAMPLE_CFG_EN = true)
    (hev : d.get F.PERF_SAMPLE_CFG_EVENT = ev) : d.sampled ev n o tile pipe = { d with perf := { d.perf with
      occ := (d.perf.occ + n) % max 1 (d.get F.PERF_SAMPLE_CFG_PERIOD), due := d.perf.due ++
        List.replicate ((d.perf.occ + n) / max 1 (d.get F.PERF_SAMPLE_CFG_PERIOD)) ⟨o, tile, pipe, d.tickNow⟩ } } := by
  simp only [sampled, he, hev, decide_true, Bool.and_self, if_true]
  rfl

theorem Device.sampled_off {d : Device} {ev n o tile : Nat} {pipe : Option Nat}
    (h : d.on F.PERF_SAMPLE_CFG_EN = false ∨ d.get F.PERF_SAMPLE_CFG_EVENT ≠ ev) : d.sampled ev n o tile pipe = d := by
  have off : (d.on F.PERF_SAMPLE_CFG_EN && decide (d.get F.PERF_SAMPLE_CFG_EVENT = ev)) = false := by
    rcases h with h | h <;> simp [h]
  simp only [sampled, off, Bool.false_eq_true, if_false]

theorem Device.samplePop_eq (d : Device) : d.samplePop =
    ({ d with perf := { d.perf with samples := d.perf.samples.tail } }, d.perf.samples.headD 0xFFFFFFFF) := by
  unfold samplePop
  split
  next h => simp only [h, List.tail_nil, List.headD_nil]; rw [← h]
  next h => simp only [h, List.tail_cons, List.headD_cons]

/-! ### PERF commands, windows and samples as commands of the table -/

section Now

variable {s : State} {slot : Nat} {edge : Bool} (hs : slot < 8) (hnow : (edge && s.chip.dev.tick.running) = false)
include hs hnow

/-- A command that does not wait acts at once. -/
theorem perfCmd_acts {op : Nat} (hop : op ∈ [1, 2, 3, 4]) (ha : s.chip.admits slot R.PERF_CMD 0 (perfWord op edge) = true) :
    ∃ t, writeTo slot R.PERF_CMD 0 (perfWord op edge) s = .next t ∧
      t.chip.dev.perf = (if op = 1 then s.chip.dev.quiet.perfSnap else s.chip.dev.quiet.perfAct op).perf ∧
      t.chip.dev.regs = (if op = 1 then s.chip.dev.quiet.perfSnap else s.chip.dev.quiet.perfAct op).regs := by
  obtain ⟨t, p, ht, hd⟩ := perfCmd_runs hs hop ha
  have acts : s.chip.dev.quiet.perfCmd op edge = if op = 1 then s.chip.dev.quiet.perfSnap else s.chip.dev.quiet.perfAct op :=
    Device.perfCmd_now (d := s.chip.dev.quiet) hnow (by rintro rfl; simp at hop)
  rw [acts] at hd
  exact ⟨t, ht, by rw [hd]; rfl, by rw [hd]; rfl⟩

theorem perfSnap_copies (ha : s.chip.admits slot R.PERF_CMD 0 (perfWord 1 edge) = true) :
    ∃ t, exec (.perfSnap slot edge) s = .next t ∧ t.chip.dev.perf.snap = s.chip.dev.perf.cnt ∧
      t.chip.dev.get F.PERF_SNAP_SEQ_VALUE = (s.chip.dev.get F.PERF_SNAP_SEQ_VALUE + 1) % 2 ^ 32 ∧
      t.chip.dev.get2 F.PERF_SNAP_TICK_LO_VALUE F.PERF_SNAP_TICK_HI_VALUE = s.chip.dev.tickNow % 2 ^ 64 := by
  obtain ⟨t, ht, hp, hr⟩ := perfCmd_acts hs hnow (by simp) ha
  obtain ⟨snap, seq, tick⟩ := s.chip.dev.quiet.perfSnap_shows
  refine ⟨t, ht, ?_, ?_, ?_⟩
  · rw [hp]; exact snap
  · rw [Device.get_congr hr]; exact seq
  · rw [Device.get2, Device.get_congr hr, Device.get_congr hr]; exact tick

theorem perfStart_runs (ha : s.chip.admits slot R.PERF_CMD 0 (perfWord 2 edge) = true) :
    ∃ t, exec (.perfStart slot edge) s = .next t ∧ t.chip.dev.get F.PERF_CTRL_RUNNING = 1 := by
  obtain ⟨t, ht, -, hr⟩ := perfCmd_acts hs hnow (by simp) ha
  exact ⟨t, ht, by rw [Device.get_congr hr]; exact Device.get_put_same ..⟩

theorem perfStop_stops (ha : s.chip.admits slot R.PERF_CMD 0 (perfWord 3 edge) = true) :
    ∃ t, exec (.perfStop slot edge) s = .next t ∧ t.chip.dev.get F.PERF_CTRL_RUNNING = 0 := by
  obtain ⟨t, ht, -, hr⟩ := perfCmd_acts hs hnow (by simp) ha
  exact ⟨t, ht, by rw [Device.get_congr hr]; exact Device.get_put_same ..⟩

theorem perfClear_clears (ha : s.chip.admits slot R.PERF_CMD 0 (perfWord 4 edge) = true) :
    ∃ t, exec (.perfClear slot edge) s = .next t ∧ ∀ i, Tab.get t.chip.dev.perf.cnt 0 i = 0 := by
  obtain ⟨t, ht, hp, -⟩ := perfCmd_acts hs hnow (by simp) ha
  exact ⟨t, ht, fun i => by rw [hp]; rfl⟩

end Now

/-- A command for the edge waits. -/
theorem perfCmd_waits {s : State} {slot op : Nat} (hs : slot < 8) (hrun : s.chip.dev.tick.running = true) (hop : op ∈ [1, 2, 3, 4])
    (ha : s.chip.admits slot R.PERF_CMD 0 (perfWord op true) = true) :
    ∃ t, writeTo slot R.PERF_CMD 0 (perfWord op true) s = .next t ∧ t.chip.dev.perf.atEdge = s.chip.dev.perf.atEdge ++ [op] ∧
      t.chip.dev.perf.cnt = s.chip.dev.perf.cnt ∧ t.chip.dev.perf.snap = s.chip.dev.perf.snap := by
  obtain ⟨t, p, ht, hd⟩ := perfCmd_runs hs hop ha
  rw [Device.perfCmd_edge (d := s.chip.dev.quiet) hrun (by rintro rfl; simp at hop)] at hd
  exact ⟨t, ht, by rw [hd]; rfl, by rw [hd]; rfl, by rw [hd]; rfl⟩

theorem perfSample_places (s : State) (output row col unit : Nat) :
    ∃ t, exec (.perfSample output row col unit) s = .next t ∧
      (∀ q rest, s.chip.dev.perf.due = q :: rest → q.admits output row col unit = true →
        t.chip.dev.perf.due = rest ∧ t.chip.dev.perf.occ = s.chip.dev.perf.occ ∧
        (s.chip.dev.perf.samples.length < 64 →
          t.chip.dev.perf.samples = s.chip.dev.perf.samples ++ [sampleWord output row col unit q.tick]) ∧
        (64 ≤ s.chip.dev.perf.samples.length → t.chip.dev.perf.samples = s.chip.dev.perf.samples ∧
          t.chip.dev.get F.PERF_SAMPLE_STATUS_DROPPED = min (s.chip.dev.get F.PERF_SAMPLE_STATUS_DROPPED + 1) 0xFFFF ∧
          t.chip.dev.get F.PERF_EVENTS_SAMPLE_OVERFLOW = 1)) ∧
      ((∀ q rest, s.chip.dev.perf.due = q :: rest → q.admits output row col unit = false) → t.chip = s.chip.quiet) := by
  refine ⟨{ s with chip := ⟨s.chip.mem, s.chip.dev.quiet.perfSample output row col unit⟩ }, rfl, fun q rest hq ha => ?_, fun h => ?_⟩
  · have run := Device.perfSample_admits (d := s.chip.dev.quiet) hq ha
    obtain ⟨hdue, hocc⟩ := Device.placeSample_kept { s.chip.dev.quiet with perf := { s.chip.dev.quiet.perf with due := rest } }
      (sampleWord output row col unit q.tick)
    rw [← run] at hdue hocc
    refine ⟨hdue, hocc, fun hl => ?_, fun hl => ?_⟩
    · have room := Device.placeSample_room (d := { s.chip.dev.quiet with perf := { s.chip.dev.quiet.perf with due := rest } })
        (w := sampleWord output row col unit q.tick) hl
      exact congrArg (fun d => d.perf.samples) (run.trans room)
    · have full := Device.placeSample_dropped (d := { s.chip.dev.quiet with perf := { s.chip.dev.quiet.perf with due := rest } })
        (w := sampleWord output row col unit q.tick) hl
      rw [← run] at full
      exact full
  · exact congrArg (fun d => (⟨s.chip.mem, d⟩ : Chip)) (Device.perfSample_passes (d := s.chip.dev.quiet) h)

theorem perfSamplePop_takes {s : State} {slot : Nat} (hs : slot < 8) (ha : s.chip.admitsRead slot R.PERF_SAMPLE_POP 0 = true) :
    ∃ t, exec (.perfSamplePop slot) s = .next t ∧ t.chip.dev.perf.samples = s.chip.dev.perf.samples.tail ∧
      t.chip.dev.out = [.result slot resOk (beBytes 4 (s.chip.dev.perf.samples.headD 0xFFFFFFFF))] := by
  have popped := s.chip.dev.quiet.samplePop_eq
  have runs :
    let q := s.chip.dev.quiet.samplePop
    exec (.perfSamplePop slot) s = .next { s with chip := Chip.answer slot resOk (beBytes 4 q.2) ⟨s.chip.mem, q.1⟩ } :=
    readFrom_admits slot R.PERF_SAMPLE_POP 0 s hs rfl ha
  rw [popped] at runs
  exact ⟨_, runs, rfl, rfl⟩

/-- Settles O54: commands at once or at the edge, windows, and the queue of samples. -/
theorem performanceCountersCommanded : Obligations.PerformanceCountersCommanded := by
  refine ⟨fun s slot edge hs hnow => ⟨perfSnap_copies hs hnow, perfStart_runs hs hnow, perfStop_stops hs hnow, perfClear_clears hs hnow⟩,
    fun s slot op c hs hrun hc ha => ?_, fun s t0 h => perfBwWindow_latches h rfl, perfSample_places, fun d ev n output tile pipe => ⟨fun he hev => ?_,
      fun h => Device.sampled_off h⟩, fun s slot hs ha => perfSamplePop_takes hs ha⟩
  · simp only [List.mem_cons, Prod.mk.injEq, List.not_mem_nil, or_false] at hc
    rcases hc with ⟨rfl, rfl⟩ | ⟨rfl, rfl⟩ | ⟨rfl, rfl⟩ | ⟨rfl, rfl⟩ <;> exact perfCmd_waits hs hrun (by simp) ha
  · rw [Device.sampled_on he hev]
    exact ⟨Nat.mod_lt _ (by omega), _, rfl, (Nat.div_add_mod ..).symm⟩

end Sys2Proof.Machine
end

section
/-!
SUPPORT. Check channels and their ranges: O53.
-/

namespace Sys2Proof.Machine

/-! ### Uncorrectable errors leave the check channels alone -/

/-- The fields of the block with the number of R5. -/
def inBlock (b : Nat) (f : Fld) : Bool := decide (f.id / 2097152 = b)

theorem ne_of_inBlock {b : Nat} {f : Fld} (hf : inBlock b f = false) (g : Fld) (hg : inBlock b g = true) : f.id ≠ g.id := by
  intro e
  simp only [inBlock, decide_eq_false_iff_not, decide_eq_true_eq] at hf hg
  exact hf (e ▸ hg)

theorem but_of_inBlock {b : Nat} {l : List Fld} (hl : ∀ f ∈ l ++ overflowFields, inBlock b f = false) (g : Fld) (hg : inBlock b g = true) :
    but l g = true := by
  simp only [but, Bool.not_eq_true', List.contains_eq_mem, decide_eq_false_iff_not, List.mem_map, not_exists, not_and]
  exact fun f hf => ne_of_inBlock (hl f hf) g hg

/-- From `d` to `e` no field of CHK and no waiting range changed. -/
def Device.SameChk (d e : Device) : Prop := d.keeps e (inBlock 15) ∧ e.chkRanges = d.chkRanges

section SameChk

variable {d e e' : Device}

theorem Device.SameChk.of_eq (hr : e.regs = d.regs) (hc : e.chkRanges = d.chkRanges) : d.SameChk e := ⟨Device.keeps_of_regs hr _, hc⟩

theorem Device.SameChk.refl (d : Device) : d.SameChk d := .of_eq rfl rfl

theorem Device.SameChk.trans (h : d.SameChk e) (h' : e.SameChk e') : d.SameChk e' :=
  ⟨Device.keeps_trans h.1 h'.1, h'.2.trans h.2⟩

theorem Device.sameChk_put (d : Device) {f : Fld} (hf : inBlock 15 f = false) (i v : Nat) : d.SameChk (d.put f i v) :=
  ⟨Device.keeps_put d f i v (ne_of_inBlock hf), rfl⟩

theorem Device.sameChk_raise (d : Device) {f : Fld} (hf : inBlock 15 f = false) (a : Nat) : d.SameChk (d.raise f a) := by
  refine ⟨Device.keeps_mono (Device.keeps_raise (l := [f]) d f a (by simp)) (but_of_inBlock ?_), d.raise_chkRanges f a⟩
  intro g hg
  simp only [overflowFields, List.mem_append, List.mem_cons, List.not_mem_nil, or_false] at hg
  rcases hg with rfl | rfl | rfl | rfl
  · exact hf
  all_goals decide

theorem Device.SameChk.raise (h : d.SameChk e) {f : Fld} (hf : inBlock 15 f = false) (a : Nat) : d.SameChk (e.raise f a) :=
  h.trans (e.sameChk_raise hf a)

theorem Device.SameChk.put (h : d.SameChk e) {f : Fld} (hf : inBlock 15 f = false) (i v : Nat) : d.SameChk (e.put f i v) :=
  h.trans (e.sameChk_put hf i v)

theorem Device.sameChk_forL {β : Type} {f : β → Device → Device} (hf : ∀ b (d : Device), d.SameChk (f b d)) (l : List β) (d : Device) :
    d.SameChk (forL l f d) := by
  induction l generalizing d with
  | nil => exact .refl d
  | cons b r ih => exact (hf b d).trans (ih (f b d))

theorem Device.sameChk_forN {f : Nat → Device → Device} (hf : ∀ b (d : Device), d.SameChk (f b d)) (n : Nat) (d : Device) :
    d.SameChk (forN n f d) := by
  induction n with
  | zero => exact .refl d
  | succ n ih => exact forN_succ n f d ▸ ih.trans (hf ..)

theorem Device.sameChk_retire (d : Device) (n : Nat) : d.SameChk (d.retire n) := by
  unfold retire
  refine .raise ?_ ?_ n
  · exact .of_eq rfl rfl
  · decide

theorem Device.sameChk_settle (d : Device) (n : Nat) : d.SameChk (d.settle n) := by
  unfold settle
  dsimp only
  split
  · split
    · exact d.sameChk_retire n
    · split <;> exact .of_eq rfl rfl
  · exact .refl d

theorem Device.SameChk.settle (h : d.SameChk e) (n : Nat) : d.SameChk (e.settle n) := h.trans (e.sameChk_settle n)

theorem Device.sameChk_releaseAll (d : Device) (p : Holder → Bool) : d.SameChk (d.releaseAll p) :=
  sameChk_forL (fun n d => SameChk.settle (e := d.setBerth n { d.berth n with refs := (d.berth n).refs.filter (fun h => !p h) }) (.of_eq rfl rfl) n) _ d

theorem Device.sameChk_stopCorrupt (d : Device) (n : Nat) : d.SameChk (d.stopCorrupt n) := by
  have back (d : Device) (o : Nat) (t : OutTail) : d.SameChk (d.tailBack o t) := by
    unfold tailBack
    split <;> exact .of_eq rfl rfl
  have sending (d : Device) (o : Nat) : d.SameChk (match (d.outp o).sending with
      | some q =>
        if q.berth = some n ∧ !(d.outp o).stampDone ∧ !(d.outp o).failed then
          (d.setOut o { d.outp o with sending := none, stampDue := true }).releaseAll (fun h => match h with
            | .path e _ => decide (e = o)
            | .loop e _ => decide (e = o)
            | _ => false)
        else d
      | none => d) := by
    split
    · split
      · exact (SameChk.of_eq (e := d.setOut o _) rfl rfl).trans (Device.sameChk_releaseAll _ _)
      · exact .refl d
    · exact .refl d
  refine sameChk_forN (fun o d => SameChk.trans ?_ (sending _ o)) 32 d
  split
  · split
    · exact (back d o _).trans ((SameChk.of_eq (e := (d.tailBack o _).setTail o _) rfl rfl).trans (Device.sameChk_releaseAll _ _))
    · exact .refl d
  · exact .refl d

theorem Device.sameChk_corrupt (d : Device) (n : Nat) : d.SameChk (d.corrupt n) := by
  unfold corrupt
  dsimp only
  split
  · exact .refl d
  · exact .settle (.of_eq rfl rfl) n

theorem Device.sameChk_record (d : Device) (code source a b : Nat) : d.SameChk (d.record code source a b) := by
  unfold record
  split
  · exact d.sameChk_put (by decide) _ _
  · split
    · exact .of_eq rfl rfl
    · exact d.sameChk_put (by decide) _ _

theorem Device.sameChk_uncorrectable (d : Device) (b slot : Nat) (w : Bool) :
    d.SameChk (d.uncorrectable ⟨b, w, 0, [], .port slot, .port slot⟩) := by
  unfold uncorrectable
  extract_lets a t d1 region d2 d3 info d4 d5 d6
  have h1 : d.SameChk d1 := .put (d.sameChk_put (by decide) _ _) (by decide) _ _
  have h2 : d.SameChk d2 := .put (.put h1 (by decide) _ _) (by decide) _ _
  have h3 : d.SameChk d3 := .put (.put h2 (by decide) _ _) (by decide) _ _
  clear_value d3
  have h4 : d.SameChk d4 := (SameChk.raise (.put h3 (by decide) _ _) (by decide) _).trans (.of_eq rfl rfl)
  clear_value d4
  have h5 : d.SameChk d5 := h4.trans (Device.sameChk_record ..)
  clear_value d5
  have h6 : d.SameChk d6 := by
    unfold d6
    split
    · exact h5.trans ((Device.sameChk_stopCorrupt _ _).trans (Device.sameChk_corrupt _ _))
    · exact h5
  exact h6

end SameChk

/-! ### Check channels -/

/-- An admitted write to a command register: its effect, logged and answered. -/
theorem writeTo_effect {slot i w : Nat} {r : RegRow} {s : State} {m : Memory} {d : Device} (hr : r.commands = true) (hs : slot < 8) (hw : w < 2 ^ 32)
    (hf : findReg (r.base + r.stride * i) = some (r, i)) (ha : s.chip.admits slot r i w = true)
    (he : s.chip.quiet.writeEffect slot r i w s.chip.quiet.dev = ⟨m, d⟩) :
    ∃ t p, writeTo slot r i w s = .next t ∧ t.chip.mem = m ∧ t.chip.dev = ({ d with pair := p } : Device).emit (.result slot resOk []) := by
  have ran := writeTo_commands hr hs hw hf ha
  obtain ⟨p, hp⟩ := d.logWrite_only slot (r.base + r.stride * i) w
  have logged : Chip.mapDev (fun (d : Device) => d.logWrite slot (r.base + r.stride * i) w) ⟨m, d⟩ = ⟨m, { d with pair := p }⟩ := by
    rw [Chip.mapDev, hp]
  rw [he, logged] at ran
  exact ⟨_, p, ran, rfl, rfl⟩

theorem crcBit_lt (w poly v : Nat) (bit : Bool) : crcBit w poly v bit < 2 ^ w := by
  have low : v * 2 % 2 ^ w < 2 ^ w := Nat.mod_lt _ (by positivity)
  unfold crcBit
  dsimp only
  split
  · exact Nat.xor_lt_two_pow low (Nat.mod_lt _ (by positivity))
  · exact low

theorem crcFeed_lt (p : CrcParam) (v : Nat) (b : Byte) : crcFeed p v b < 2 ^ p.width := by
  unfold crcFeed
  simp only [List.foldl_cons, List.foldl_nil]
  exact crcBit_lt ..

theorem crcFeeds_lt (p : CrcParam) (l : List Byte) {v : Nat} (hv : v < 2 ^ p.width) : l.foldl (crcFeed p) v < 2 ^ p.width := by
  induction l generalizing v with
  | nil => exact hv
  | cons b l ih => exact ih (crcFeed_lt p v b)

theorem crcOut_lt (p : CrcParam) (v : Nat) : crcOut p v < 2 ^ p.width := Nat.mod_lt _ (by positivity)

section Chk

variable (d : Device) (c : Nat)

theorem Device.chkParam_width_le : (d.chkParam c).width ≤ 64 := by
  have : d.get F.CHK_CH_CFG_WIDTH c < 2 ^ 6 := Nat.mod_lt _ (by decide)
  show d.get F.CHK_CH_CFG_WIDTH c + 1 ≤ 64
  omega

theorem Device.chkValue_lt : d.chkValue c < 2 ^ (d.chkParam c).width := Nat.mod_lt _ (by positivity)

theorem Device.chkParam_init_lt : (d.chkParam c).init < 2 ^ (d.chkParam c).width := Nat.mod_lt _ (by positivity)

variable {d c}

theorem Device.chkParam_keeps {e : Device} {p : Fld → Bool} (h : d.keeps e p)
    (hp : ∀ f ∈ [F.CHK_CH_CFG_WIDTH, F.CHK_CH_POLY_LO_VALUE, F.CHK_CH_POLY_HI_VALUE, F.CHK_CH_INIT_LO_VALUE, F.CHK_CH_INIT_HI_VALUE,
      F.CHK_CH_XOROUT_LO_VALUE, F.CHK_CH_XOROUT_HI_VALUE, F.CHK_CH_CFG_REFIN, F.CHK_CH_CFG_REFOUT], p f = true) :
    e.chkParam c = d.chkParam c := by
  have same (f : Fld) (hf : f ∈ _) := h.1 f c (hp f hf)
  simp only [List.forall_mem_cons, List.not_mem_nil, false_implies, implies_true, and_true] at same
  obtain ⟨h1, h2, h3, h4, h5, h6, h7, h8, h9⟩ := same
  simp only [chkParam, get2, on, h1, h2, h3, h4, h5, h6, h7, h8, h9]

theorem Device.chkValue_keeps {e : Device} {p : Fld → Bool} (h : d.keeps e p) (hq : e.chkParam c = d.chkParam c)
    (hl : p F.CHK_CH_VALUE_LO_VALUE = true) (hh : p F.CHK_CH_VALUE_HI_VALUE = true) : e.chkValue c = d.chkValue c := by
  simp only [chkValue, get2, hq, h.1 _ _ hl, h.1 _ _ hh]

/-- The fields of VALUE and RESULT. -/
def chkWords : List Fld := [F.CHK_CH_VALUE_LO_VALUE, F.CHK_CH_VALUE_HI_VALUE, F.CHK_CH_RESULT_LO_RESULT, F.CHK_CH_RESULT_HI_RESULT]

theorem Device.keeps_setChkValue (v : Nat) : d.keeps (d.setChkValue c v) (but [F.CHK_CH_VALUE_LO_VALUE, F.CHK_CH_VALUE_HI_VALUE]) :=
  Device.keeps_trans (Device.keeps_put _ _ _ _ (but_apart (by simp))) (Device.keeps_put _ _ _ _ (but_apart (by simp)))

theorem Device.chkParam_setChkValue (v : Nat) : (d.setChkValue c v).chkParam c = d.chkParam c :=
  Device.chkParam_keeps (Device.keeps_setChkValue v) (by decide)

theorem Device.chkValue_setChkValue (v : Nat) : (d.setChkValue c v).chkValue c = v % 2 ^ (d.chkParam c).width := by
  have word : (d.setChkValue c v).get2 F.CHK_CH_VALUE_LO_VALUE F.CHK_CH_VALUE_HI_VALUE c = v % 2 ^ 64 :=
    d.get2_put2 _ _ _ _ (by decide) rfl rfl
  rw [chkValue, chkParam_setChkValue, word, Nat.mod_mod_of_dvd _ (Nat.pow_dvd_pow 2 (d.chkParam_width_le c))]

theorem Device.chkValue_chkFeed (l : List Byte) : (d.chkFeed c l).chkValue c = l.foldl (crcFeed (d.chkParam c)) (d.chkValue c) := by
  rw [chkFeed, chkValue_setChkValue]
  exact Nat.mod_eq_of_lt (crcFeeds_lt _ _ (d.chkValue_lt c))

theorem Device.chkParam_chkFeed (l : List Byte) : (d.chkFeed c l).chkParam c = d.chkParam c := Device.chkParam_setChkValue _

end Chk

/-! ### Data and commands of a check channel -/

theorem findReg_chk : ∀ r ∈ [R.CHK_CH_DATA8, R.CHK_CH_DATA16, R.CHK_CH_DATA32, R.CHK_CH_CMD], ∀ i < 64,
    findReg (r.base + r.stride * i) = some (r, i) := by decide +kernel

theorem chkRows_command : ∀ r ∈ [R.CHK_CH_DATA8, R.CHK_CH_DATA16, R.CHK_CH_DATA32, R.CHK_CH_CMD], r.commands = true ∧ r.base / 65536 = 15 := by
  decide

theorem Device.chkValue_regs {d e : Device} (h : e.regs = d.regs) (c : Nat) : e.chkValue c = d.chkValue c := by
  have all := Device.keeps_of_regs h (fun _ => true)
  exact Device.chkValue_keeps all (Device.chkParam_keeps all (by simp)) rfl rfl

section Write

variable {s : State} {slot ch w : Nat} (hs : slot < 8) (hch : ch < 64)
include hs hch

/-- An admitted write to a channel's data or command register leaves the device as its effect does. -/
theorem chkWrite_runs {r : RegRow} (hr : r ∈ [R.CHK_CH_DATA8, R.CHK_CH_DATA16, R.CHK_CH_DATA32, R.CHK_CH_CMD]) (hw : w < 2 ^ 32)
    (ha : s.chip.admits slot r ch w = true) :
    ∃ t, writeTo slot r (ch % 64) w s = .next t ∧ t.chip.dev.regs = (s.chip.dev.quiet.chkWrite slot r ch w).regs ∧
      t.chip.dev.chkRanges = (s.chip.dev.quiet.chkWrite slot r ch w).chkRanges := by
  obtain ⟨hc, hb⟩ := chkRows_command r hr
  have effect : s.chip.quiet.writeEffect slot r ch w s.chip.quiet.dev = ⟨s.chip.mem, s.chip.dev.quiet.chkWrite slot r ch w⟩ := by
    simp only [Chip.writeEffect, hb]
    rfl
  obtain ⟨t, p, ht, -, hd⟩ := writeTo_effect hc hs hw (findReg_chk r hr ch hch) ha effect
  exact ⟨t, by rw [Nat.mod_eq_of_lt hch, ht], by rw [hd]; rfl, by rw [hd]; rfl⟩

/-- The bytes of a data write are fed. -/
theorem chkData_feeds {r : RegRow} {l : List Byte} (hr : r ∈ [R.CHK_CH_DATA8, R.CHK_CH_DATA16, R.CHK_CH_DATA32, R.CHK_CH_CMD]) (hw : w < 2 ^ 32)
    (ha : s.chip.admits slot r ch w = true) (he : s.chip.dev.quiet.chkWrite slot r ch w = s.chip.dev.quiet.chkFeed ch l) :
    ∃ t, writeTo slot r (ch % 64) w s = .next t ∧ t.chip.dev.chkValue ch = l.foldl (crcFeed (s.chip.dev.chkParam ch)) (s.chip.dev.chkValue ch) := by
  obtain ⟨t, ht, hregs, -⟩ := chkWrite_runs hs hch hr hw ha
  rw [he] at hregs
  exact ⟨t, ht, (Device.chkValue_regs hregs ch).trans (Device.chkValue_chkFeed l)⟩

end Write

section Commands

variable {d : Device} {c : Nat}

/-- The fields that the end of a range changes. -/
def rangeFields : List Fld := [F.CHK_CH_CMD_BUSY, F.CHK_CH_CMD_LAST, F.CHK_EVENTS_RANGE_DONE, F.CHK_EVENTS_RANGE_FAULT]

/-- The device at the end of a range, before the event. -/
def Device.rangeOver (d : Device) (c result : Nat) : Device :=
  let e := (d.put F.CHK_CH_CMD_BUSY c 0).put F.CHK_CH_CMD_LAST c result
  { e with chkRanges := e.chkRanges.filter (fun (r : ChkRange) => r.chan ≠ c) }

theorem Device.chkRangeEnd_eq (d : Device) (c result : Nat) : d.chkRangeEnd c result =
    (d.rangeOver c result).raise (if result = resOk then F.CHK_EVENTS_RANGE_DONE else F.CHK_EVENTS_RANGE_FAULT) c := by
  have ended : d.chkRangeEnd c result = if result = resOk then (d.rangeOver c result).raise F.CHK_EVENTS_RANGE_DONE c
      else (d.rangeOver c result).raise F.CHK_EVENTS_RANGE_FAULT c := rfl
  rw [ended]
  split <;> rfl

theorem Device.keeps_rangeOver (r : Nat) : d.keeps (d.rangeOver c r) (but rangeFields) := by
  have busy : d.keeps (d.put F.CHK_CH_CMD_BUSY c 0) (but rangeFields) := Device.keeps_put _ _ _ _ (but_apart (by simp [rangeFields]))
  have last : (d.put F.CHK_CH_CMD_BUSY c 0).keeps ((d.put F.CHK_CH_CMD_BUSY c 0).put F.CHK_CH_CMD_LAST c r) (but rangeFields) :=
    Device.keeps_put _ _ _ _ (but_apart (by simp [rangeFields]))
  exact Device.keeps_trans busy last

theorem Device.keeps_chkRangeEnd (r : Nat) : d.keeps (d.chkRangeEnd c r) (but rangeFields) := by
  rw [chkRangeEnd_eq]
  refine Device.keeps_trans (d.keeps_rangeOver r) (Device.keeps_raise _ _ c ?_)
  split <;> simp [rangeFields]

theorem Device.chkRangeEnd_shows (r : Nat) : (d.chkRangeEnd c r).get F.CHK_CH_CMD_BUSY c = 0 ∧ (d.chkRangeEnd c r).get F.CHK_CH_CMD_LAST c = r % 8 ∧
    (d.chkRangeEnd c r).get (if r = resOk then F.CHK_EVENTS_RANGE_DONE else F.CHK_EVENTS_RANGE_FAULT) = 1 ∧
    (d.chkRangeEnd c r).chkRanges = d.chkRanges.filter (fun q => q.chan ≠ c) := by
  have busy : (d.rangeOver c r).get F.CHK_CH_CMD_BUSY c = 0 :=
    (Device.get_put_ne _ F.CHK_CH_CMD_LAST F.CHK_CH_CMD_BUSY c c r (by decide)).trans (Device.get_put_same ..)
  have last : (d.rangeOver c r).get F.CHK_CH_CMD_LAST c = r % 8 := Device.get_put_same (d := d.put F.CHK_CH_CMD_BUSY c 0) F.CHK_CH_CMD_LAST c r
  rw [chkRangeEnd_eq]
  refine ⟨?_, ?_, Device.get_raise_same _ _ _ ?_, Device.raise_chkRanges _ _ _⟩
  · rw [Device.get_raise _ _ _ _ _ (.inl (by split <;> decide)) (.inl (by decide)), busy]
  · rw [Device.get_raise _ _ _ _ _ (.inl (by split <;> decide)) (.inl (by decide)), last]
  · split <;> decide

theorem Device.chkParam_of_keeps {e : Device} {l : List Fld} (h : d.keeps e (but l)) (hl : ∀ f ∈ [F.CHK_CH_CFG_WIDTH, F.CHK_CH_POLY_LO_VALUE,
      F.CHK_CH_POLY_HI_VALUE, F.CHK_CH_INIT_LO_VALUE, F.CHK_CH_INIT_HI_VALUE, F.CHK_CH_XOROUT_LO_VALUE, F.CHK_CH_XOROUT_HI_VALUE,
      F.CHK_CH_CFG_REFIN, F.CHK_CH_CFG_REFOUT, F.CHK_CH_VALUE_LO_VALUE, F.CHK_CH_VALUE_HI_VALUE], but l f = true) :
    e.chkParam c = d.chkParam c ∧ e.chkValue c = d.chkValue c := by
  simp only [List.forall_mem_cons, List.not_mem_nil, false_implies, implies_true, and_true] at hl
  obtain ⟨h1, h2, h3, h4, h5, h6, h7, h8, h9, h10, h11⟩ := hl
  have param := Device.chkParam_keeps (c := c) h (by simp [h1, h2, h3, h4, h5, h6, h7, h8, h9])
  exact ⟨param, Device.chkValue_keeps h param h10 h11⟩

theorem Device.chkRangeEnd_channel (r : Nat) : (d.chkRangeEnd c r).chkParam c = d.chkParam c ∧ (d.chkRangeEnd c r).chkValue c = d.chkValue c :=
  Device.chkParam_of_keeps (Device.keeps_chkRangeEnd r) (by decide)

theorem Device.chkValue_chkInit : (d.chkInit c).chkValue c = (d.chkParam c).init := by
  have begun (e : Device) (h : e.chkParam c = d.chkParam c) : (e.setChkValue c (e.chkParam c).init).chkValue c = (d.chkParam c).init := by
    rw [chkValue_setChkValue, h]
    exact Nat.mod_eq_of_lt (d.chkParam_init_lt c)
  unfold chkInit
  dsimp only
  split
  · exact begun _ (Device.chkRangeEnd_channel _).1
  · exact begun d rfl

/-- The device once the alive byte has been fed. -/
def Device.aliveFed (d : Device) (c : Nat) : Device :=
  if d.on F.CHK_CH_CFG_ALIVE_EN c then d.chkFeed c [BitVec.ofNat 8 (d.get F.CHK_CH_ALIVE_ALIVE c)] else d

theorem Device.aliveFed_channel : (d.aliveFed c).chkParam c = d.chkParam c ∧ (d.aliveFed c).get F.CHK_CH_ALIVE_ALIVE c = d.get F.CHK_CH_ALIVE_ALIVE c ∧
    (d.aliveFed c).chkValue c = if d.on F.CHK_CH_CFG_ALIVE_EN c then crcFeed (d.chkParam c) (d.chkValue c) (BitVec.ofNat 8 (d.get F.CHK_CH_ALIVE_ALIVE c))
      else d.chkValue c := by
  unfold aliveFed
  split
  · exact ⟨Device.chkParam_chkFeed _, (Device.keeps_setChkValue _).1 _ _ (by decide), Device.chkValue_chkFeed _⟩
  · exact ⟨rfl, rfl, rfl⟩

/-- RESULT is fixed and VALUE returns to INIT. -/
def Device.resultFixed (d : Device) (c : Nat) : Device :=
  (d.put2 F.CHK_CH_RESULT_LO_RESULT F.CHK_CH_RESULT_HI_RESULT c (crcOut (d.chkParam c) (d.chkValue c))).setChkValue c (d.chkParam c).init

theorem Device.keeps_putResult (v : Nat) : d.keeps (d.put2 F.CHK_CH_RESULT_LO_RESULT F.CHK_CH_RESULT_HI_RESULT c v)
    (but [F.CHK_CH_RESULT_LO_RESULT, F.CHK_CH_RESULT_HI_RESULT]) :=
  Device.keeps_trans (Device.keeps_put _ _ _ _ (but_apart (by simp))) (Device.keeps_put _ _ _ _ (but_apart (by simp)))

theorem Device.resultFixed_channel : (d.resultFixed c).chkValue c = (d.chkParam c).init ∧
    (d.resultFixed c).get2 F.CHK_CH_RESULT_LO_RESULT F.CHK_CH_RESULT_HI_RESULT c = crcOut (d.chkParam c) (d.chkValue c) ∧
    (d.resultFixed c).get F.CHK_CH_ALIVE_ALIVE c = d.get F.CHK_CH_ALIVE_ALIVE c := by
  have put := Device.keeps_putResult (d := d) (c := c) (crcOut (d.chkParam c) (d.chkValue c))
  have set := Device.keeps_setChkValue (c := c) (d := d.put2 F.CHK_CH_RESULT_LO_RESULT F.CHK_CH_RESULT_HI_RESULT c (crcOut (d.chkParam c) (d.chkValue c)))
    (d.chkParam c).init
  refine ⟨?_, ?_, ?_⟩
  · rw [resultFixed, chkValue_setChkValue, (Device.chkParam_of_keeps put (by decide)).1]
    exact Nat.mod_eq_of_lt (d.chkParam_init_lt c)
  · rw [get2, resultFixed, set.1 _ _ (by decide), set.1 _ _ (by decide)]
    refine (Device.get2_put2 _ _ _ _ _ (by decide) rfl rfl).trans (Nat.mod_eq_of_lt ?_)
    exact (crcOut_lt _ _).trans_le (Nat.pow_le_pow_right (by decide) (d.chkParam_width_le c))
  · exact (set.1 _ _ (by decide)).trans (put.1 _ _ (by decide))

theorem Device.chkFinish_eq (d : Device) (c : Nat) : d.chkFinish c =
    if d.on F.CHK_CH_CFG_ALIVE_EN c then ((d.aliveFed c).resultFixed c).put F.CHK_CH_ALIVE_ALIVE c (d.get F.CHK_CH_ALIVE_ALIVE c + 1)
    else (d.aliveFed c).resultFixed c := by
  have param := (d.aliveFed_channel (c := c)).1
  simp only [resultFixed, param]
  rfl

theorem Device.chkFinish_channel : (d.chkFinish c).chkValue c = (d.chkParam c).init ∧
    (d.chkFinish c).get2 F.CHK_CH_RESULT_LO_RESULT F.CHK_CH_RESULT_HI_RESULT c = crcOut (d.chkParam c)
      (if d.on F.CHK_CH_CFG_ALIVE_EN c then crcFeed (d.chkParam c) (d.chkValue c) (BitVec.ofNat 8 (d.get F.CHK_CH_ALIVE_ALIVE c)) else d.chkValue c) ∧
    (d.chkFinish c).get F.CHK_CH_ALIVE_ALIVE c =
      if d.on F.CHK_CH_CFG_ALIVE_EN c then (d.get F.CHK_CH_ALIVE_ALIVE c + 1) % 256 else d.get F.CHK_CH_ALIVE_ALIVE c := by
  obtain ⟨param, count, value⟩ := d.aliveFed_channel (c := c)
  obtain ⟨val, res, cnt⟩ := (d.aliveFed c).resultFixed_channel (c := c)
  rw [param] at val res
  rw [value] at res
  rw [count] at cnt
  rw [chkFinish_eq]
  split
  next ha =>
    have put := Device.keeps_put ((d.aliveFed c).resultFixed c) F.CHK_CH_ALIVE_ALIVE c (d.get F.CHK_CH_ALIVE_ALIVE c + 1)
      (but_apart (l := [F.CHK_CH_ALIVE_ALIVE]) (by simp))
    refine ⟨(Device.chkParam_of_keeps put (by decide)).2.trans val, ?_, Device.get_put_same ..⟩
    rw [get2, put.1 _ _ (by decide), put.1 _ _ (by decide)]
    exact res.trans (by rw [if_pos ha])
  next ha => exact ⟨val, res.trans (by rw [if_neg ha]), cnt⟩

end Commands

/-! ### Ranges -/

theorem Device.sameChk_portErrs (d : Device) (slot : Nat) (bad : List Nat) (w : Bool) : d.SameChk (d.portErrs slot bad w) :=
  Device.sameChk_forL (fun b d => d.sameChk_uncorrectable b slot w) bad d

theorem Device.SameChk.channel {d e : Device} (h : d.SameChk e) (c : Nat) : e.chkParam c = d.chkParam c ∧ e.chkValue c = d.chkValue c := by
  have param := Device.chkParam_keeps (c := c) h.1 (by decide)
  exact ⟨param, Device.chkValue_keeps h.1 param (by decide) (by decide)⟩

section Command

variable {s : State} {slot ch : Nat} (hs : slot < 8) (hch : ch < 64)
include hs hch

theorem chkInit_starts (ha : s.chip.admits slot R.CHK_CH_CMD ch (F.CHK_CH_CMD_OP.at 1) = true) :
    ∃ t, exec (.chkInit slot ch) s = .next t ∧ t.chip.dev.chkValue ch = (s.chip.dev.chkParam ch).init := by
  obtain ⟨t, ht, hregs, -⟩ := chkWrite_runs hs hch (by simp) (by decide) ha
  exact ⟨t, ht, (Device.chkValue_regs hregs ch).trans (Device.chkValue_chkInit (d := s.chip.dev.quiet))⟩

theorem chkFinish_ends (ha : s.chip.admits slot R.CHK_CH_CMD ch (F.CHK_CH_CMD_OP.at 2) = true) :
    ∃ t, exec (.chkFinish slot ch) s = .next t ∧ t.chip.dev.regs = (s.chip.dev.quiet.chkFinish ch).regs := by
  obtain ⟨t, ht, hregs, -⟩ := chkWrite_runs hs hch (by simp) (by decide) ha
  exact ⟨t, ht, hregs⟩

theorem chkRange_waits (ha : s.chip.admits slot R.CHK_CH_CMD ch (F.CHK_CH_CMD_OP.at 3) = true)
    (hr : s.chip.dev.dramRefused slot (s.chip.dev.get2 F.CHK_CH_ADDR_LO_VALUE F.CHK_CH_ADDR_HI_VALUE ch) (s.chip.dev.get F.CHK_CH_LEN_VALUE ch) false = none) :
    ∃ t, exec (.chkRange slot ch) s = .next t ∧ t.chip.dev.get F.CHK_CH_CMD_BUSY ch = 1 ∧
      t.chip.dev.chkRanges = s.chip.dev.chkRanges ++ [ChkRange.mk ch slot
        (s.chip.dev.get2 F.CHK_CH_ADDR_LO_VALUE F.CHK_CH_ADDR_HI_VALUE ch) (s.chip.dev.get F.CHK_CH_LEN_VALUE ch)] := by
  obtain ⟨t, ht, hregs, hranges⟩ := chkWrite_runs hs hch (by simp) (by decide) ha
  have write : s.chip.dev.quiet.chkWrite slot R.CHK_CH_CMD ch (F.CHK_CH_CMD_OP.at 3) = s.chip.dev.quiet.chkRange slot ch := rfl
  have refused : s.chip.dev.quiet.dramRefused slot (s.chip.dev.quiet.get2 F.CHK_CH_ADDR_LO_VALUE F.CHK_CH_ADDR_HI_VALUE ch)
    (s.chip.dev.quiet.get F.CHK_CH_LEN_VALUE ch) false = none := hr
  rw [write] at hregs hranges
  simp only [Device.chkRange, refused] at hregs hranges
  exact ⟨t, ht, (Device.get_congr hregs _ _).trans (Device.get_put_same ..), hranges⟩

end Command

/-- The range at the head of the line ends. -/
theorem Device.chkRangeComplete_head {d : Device} {m : Memory} {r : ChkRange} {rest : List ChkRange} (h : d.chkRanges = r :: rest) :
    ∃ e : Device, d.chkRangeComplete m = e.chkRangeEnd r.chan (if (m.readPort r.addr r.len).2 then resPoison else resOk) ∧ e.chkRanges = d.chkRanges ∧
      e.chkValue r.chan = (if (m.readPort r.addr r.len).2 then d.chkValue r.chan
        else (m.readPort r.addr r.len).1.foldl (crcFeed (d.chkParam r.chan)) (d.chkValue r.chan)) := by
  simp only [chkRangeComplete, h]
  split
  · have same := d.sameChk_portErrs r.slot (m.badOf r.addr r.len) false
    exact ⟨_, rfl, same.2.trans h, (same.channel r.chan).2⟩
  · exact ⟨_, rfl, h, Device.chkValue_chkFeed _⟩

theorem chkRangeComplete_ends {s : State} {r : ChkRange} {rest : List ChkRange} (h : s.chip.dev.chkRanges = r :: rest)
    (hne : ∀ q ∈ rest, q.chan ≠ r.chan) {bytes : List Byte} {bad : Bool} (hg : s.chip.mem.readPort r.addr r.len = (bytes, bad)) :
    ∃ t, exec .chkRangeComplete s = .next t ∧ t.chip.dev.chkRanges = rest ∧ t.chip.dev.get F.CHK_CH_CMD_BUSY r.chan = 0 ∧
      t.chip.dev.get F.CHK_CH_CMD_LAST r.chan = (if bad then resPoison else resOk) ∧
      t.chip.dev.chkValue r.chan = (if bad then s.chip.dev.chkValue r.chan
        else bytes.foldl (crcFeed (s.chip.dev.chkParam r.chan)) (s.chip.dev.chkValue r.chan)) ∧
      t.chip.dev.get (if bad then F.CHK_EVENTS_RANGE_FAULT else F.CHK_EVENTS_RANGE_DONE) = 1 ∧ t.chip.mem = s.chip.mem := by
  obtain ⟨e, he, hranges, hval⟩ := Device.chkRangeComplete_head (d := s.chip.dev.quiet) (m := s.chip.mem) h
  rw [hg] at he hval
  obtain ⟨busy, last, event, left⟩ := e.chkRangeEnd_shows (c := r.chan) (if bad then resPoison else resOk)
  obtain ⟨t, ht, hm, hd⟩ : ∃ t, exec .chkRangeComplete s = .next t ∧ t.chip.mem = s.chip.mem ∧
      t.chip.dev = s.chip.dev.quiet.chkRangeComplete s.chip.mem := ⟨_, rfl, rfl, rfl⟩
  rw [he] at hd
  refine ⟨t, ht, ?_, ?_, ?_, ?_, ?_, hm⟩ <;> rw [hd]
  · have others : rest.filter (fun q => q.chan ≠ r.chan) = rest := List.filter_eq_self.mpr fun q hq => decide_eq_true (hne q hq)
    have line : s.chip.dev.quiet.chkRanges = r :: rest := h
    rw [left, hranges, line, List.filter_cons_of_neg (by simp), others]
  · exact busy
  · rw [last]
    cases bad <;> rfl
  · exact (Device.chkRangeEnd_channel _).2.trans hval
  · rw [← event]
    cases bad <;> rfl

/-- Settles O53: data, INIT and FINISH of a channel, and the ranges of the shared reader. -/
theorem checkChannelsFeedFinishAndCoverRanges : Obligations.CheckChannelsFeedFinishAndCoverRanges := by
  refine ⟨fun s slot ch v hs hch => ⟨fun hv ha => ?_, fun hv ha => ?_, fun hv ha => ?_, fun ha => chkInit_starts hs hch ha, fun ha => ?_⟩,
    fun s slot ch hs hch ha => chkRange_waits hs hch ha, fun s r rest h hne => ?_⟩
  · have bytes : BitVec.ofNat 8 (v / 256 ^ 0) = BitVec.ofNat 8 v := by rw [pow_zero, Nat.div_one]
    simp only [bytes]
    exact chkData_feeds hs hch (r := R.CHK_CH_DATA8) (l := [BitVec.ofNat 8 v]) (by simp) (hv.trans (by decide)) ha rfl
  · exact chkData_feeds hs hch (r := R.CHK_CH_DATA16) (l := beBytes 2 v) (by simp) (hv.trans (by decide)) ha rfl
  · exact chkData_feeds hs hch (r := R.CHK_CH_DATA32) (l := beBytes 4 v) (by simp) hv ha rfl
  · obtain ⟨t, ht, hregs⟩ := chkFinish_ends hs hch ha
    obtain ⟨val, res, count⟩ := s.chip.dev.quiet.chkFinish_channel (c := ch)
    refine ⟨t, ht, (Device.chkValue_regs hregs ch).trans val, ?_, (Device.get_congr hregs _ _).trans count⟩
    rw [Device.get2, Device.get_congr hregs, Device.get_congr hregs]
    exact res
  · exact chkRangeComplete_ends h hne rfl

end Sys2Proof.Machine
end

section
/-!
SUPPORT. Registers that store and act; owners and matrix entries: O28.
-/

namespace Sys2Proof.Machine

/-! ### Registers that store and act -/

/-- A register whose fields are stored as written, and whose write concerns no pool and no membership. -/
def RegRow.acts (r : RegRow) : Bool :=
  r.flds.all (fun f => f.acc ≠ .w1c) && r.lowOf.isNone && !r.isLo && r.base ≠ R.CMP_POOL_BASE_HI.base &&
  r.base ≠ R.CMP_POOL_CFG.base && r.base / 65536 ≠ 8 && r.base / 65536 ≠ 11

/-- An admitted write to a register that acts: the word is stored, then comes its effect, which is logged and answered. -/
theorem writeTo_acts {slot i w : Nat} {r : RegRow} {s : State} {m : Memory} {d : Device} (hr : r.acts = true) (hs : slot < 8) (hw : w < 2 ^ 32)
    (hf : findReg (r.base + r.stride * i) = some (r, i)) (ha : s.chip.admits slot r i w = true)
    (he : Chip.writeEffect slot r i w s.chip.dev.quiet ⟨s.chip.mem, s.chip.dev.quiet.storeWord r slot i w⟩ = ⟨m, d⟩) :
    ∃ t p, writeTo slot r i w s = .next t ∧ t.chip.mem = m ∧ t.chip.dev = ({ d with pair := p } : Device).emit (.result slot resOk []) := by
  simp only [RegRow.acts, Bool.and_eq_true, List.all_eq_true, decide_eq_true_eq, Option.isNone_iff_eq_none, Bool.not_eq_true'] at hr
  obtain ⟨⟨⟨⟨⟨⟨hacc, hlow⟩, hlo⟩, hp⟩, hc⟩, h8⟩, h11⟩ := hr
  obtain ⟨p, hlog⟩ := d.logWrite_only slot (r.base + r.stride * i) w
  have store : s.chip.quiet.dev.storeWords [(r, w)] r slot i = s.chip.dev.quiet.storeWord r slot i w := by
    have words : s.chip.quiet.dev.storeWords [(r, w)] r slot i =
      if r.base = R.CMP_POOL_BASE_HI.base ∨ r.base = R.CMP_POOL_CFG.base then (s.chip.dev.quiet.storeWord r slot i w).poolChanged s.chip.dev.quiet i
      else s.chip.dev.quiet.storeWord r slot i w := rfl
    rw [words, if_neg (by simp [hp, hc])]
  have again (d : Device) : d.setAgain r slot i 0 = d := d.setAgain_of_no_w1c hacc slot i 0
  have effect : Chip.writeEffect slot r i w s.chip.quiet.dev ⟨s.chip.quiet.mem, s.chip.dev.quiet.storeWord r slot i w⟩ = ⟨m, d⟩ := he
  have carried : Chip.carryOut slot r i w s.chip.quiet = ⟨m, { d with pair := p }⟩ := by
    simp only [Chip.carryOut, store, effect, Chip.mapDev, again, h8, h11, or_self, if_false, hlog]
  have ran := writeTo_admits slot r i w s hs hw hf hlo hlow ha
  rw [carried] at ran
  exact ⟨_, p, ran, rfl, rfl⟩

/-! ### Words put side by side for a slot -/

/-- Each of the first `n` instances of a slot's field takes its word. -/
def Device.putSlots (f : Fld) (h : Nat) (v : Nat → Nat) (n : Nat) (d : Device) : Device := forN n (fun (k : Nat) (e : Device) => e.putS f h k (v k)) d

section PutSlots

variable (f : Fld) (h : Nat) (v : Nat → Nat) (n : Nat) (d : Device)

theorem Device.putSlots_succ : d.putSlots f h v (n + 1) = (d.putSlots f h v n).putS f h n (v n) := forN_succ ..

theorem Device.getS_putSlots {k : Nat} (hk : k < n) : (d.putSlots f h v n).getS f h k = v k % 2 ^ f.width := by
  induction n with
  | zero => omega
  | succ n ih =>
    rw [putSlots_succ, getS_putS]
    by_cases hkn : n = k
    · simp [hkn]
    · simp only [hkn, and_false, if_false]
      exact ih (by omega)

theorem Device.keeps_putSlots {p : Fld → Bool} (hp : ∀ g, p g = true → f.id ≠ g.id) : d.keeps (d.putSlots f h v n) p := by
  induction n with
  | zero => exact Device.keeps_of_regs rfl p
  | succ n ih => exact putSlots_succ f h v n d ▸ Device.keeps_trans ih (Device.keeps_putS _ f h n (v n) hp)

end PutSlots

/-! ### Owners and matrix entries -/

theorem findReg_owner : ∀ o < 32, findReg (R.CMP_OUT_OWNER.base + R.CMP_OUT_OWNER.stride * o) = some (R.CMP_OUT_OWNER, o) := by decide +kernel

theorem ownerWord : ∀ v < 16, F.CMP_OUT_OWNER_SLOT.at v < 2 ^ 32 ∧ F.CMP_OUT_OWNER_SLOT.of (F.CMP_OUT_OWNER_SLOT.at v) = v := by decide

theorem commitWord : ∀ i < 256, F.PIX_MAT_COMMIT_INDEX.at i < 2 ^ 32 ∧ F.PIX_MAT_COMMIT_INDEX.of (F.PIX_MAT_COMMIT_INDEX.at i) = i := by decide +kernel

theorem queryWord : ∀ i < 256, F.PIX_MAT_QUERY_INDEX.at i < 2 ^ 32 ∧ F.PIX_MAT_QUERY_INDEX.of (F.PIX_MAT_QUERY_INDEX.at i) = i := by decide +kernel

theorem Device.matQuery_eq (d : Device) (slot i : Nat) : d.matQuery slot i =
    (d.put F.PIX_MAT_QUERY_INDEX 0 i).putSlots F.PIX_MAT_READ_WORD slot (fun k => (d.mat i).words.getD k 0) 16 := by
  delta Device.matQuery Device.putSlots
  rfl

section Slot

variable {s : State} {slot : Nat} (hs : slot < 8)
include hs

theorem outOwnerWrite_runs {o v : Nat} (ho : o < 32) (hv : v < 16)
    (ha : s.chip.admits slot R.CMP_OUT_OWNER o (F.CMP_OUT_OWNER_SLOT.at v) = true) :
    ∃ t, exec (.outOwnerWrite slot o v) s = .next t ∧ t.chip.mem = s.chip.mem ∧ t.chip.dev.regs = (s.chip.dev.quiet.ownerWrite slot o v).regs := by
  obtain ⟨hw, hof⟩ := ownerWord v hv
  obtain ⟨t, p, ht, hm, hd⟩ := writeTo_acts (m := s.chip.mem) (d := s.chip.dev.quiet.ownerWrite slot o v) (by decide) hs hw (findReg_owner o ho) ha (by
    have effect : Chip.writeEffect slot R.CMP_OUT_OWNER o (F.CMP_OUT_OWNER_SLOT.at v) s.chip.dev.quiet
      ⟨s.chip.mem, s.chip.dev.quiet.storeWord R.CMP_OUT_OWNER slot o (F.CMP_OUT_OWNER_SLOT.at v)⟩ =
        ⟨s.chip.mem, s.chip.dev.quiet.ownerWrite slot o (F.CMP_OUT_OWNER_SLOT.of (F.CMP_OUT_OWNER_SLOT.at v))⟩ := rfl
    rw [effect, hof])
  have run : exec (.outOwnerWrite slot o v) s = writeTo slot R.CMP_OUT_OWNER (o % 32) (F.CMP_OUT_OWNER_SLOT.at v) s := rfl
  exact ⟨t, by rw [run, Nat.mod_eq_of_lt ho, ht], hm, by rw [hd]; rfl⟩

theorem outOwnerWrite_owns {o v : Nat} (ho : o < 32) (hv : v < 16)
    (ha : s.chip.admits slot R.CMP_OUT_OWNER o (F.CMP_OUT_OWNER_SLOT.at v) = true) :
    ∃ t, exec (.outOwnerWrite slot o v) s = .next t ∧ t.chip.mem = s.chip.mem ∧
      s.chip.dev.keeps t.chip.dev (but [F.CMP_OUT_OWNER_SLOT, F.CMP_EVENTS_OWNER_DENIED]) ∧
      (∀ p, p ≠ o → t.chip.dev.get F.CMP_OUT_OWNER_SLOT p = s.chip.dev.get F.CMP_OUT_OWNER_SLOT p) ∧
      (s.chip.dev.get F.CMP_OUT_OWNER_SLOT o = slot ∨ s.chip.dev.get F.CMP_OUT_OWNER_SLOT o = 15 → t.chip.dev.get F.CMP_OUT_OWNER_SLOT o = v) ∧
      (s.chip.dev.get F.CMP_OUT_OWNER_SLOT o ≠ slot → s.chip.dev.get F.CMP_OUT_OWNER_SLOT o ≠ 15 →
        t.chip.dev.get F.CMP_OUT_OWNER_SLOT o = s.chip.dev.get F.CMP_OUT_OWNER_SLOT o ∧ t.chip.dev.get F.CMP_EVENTS_OWNER_DENIED = 1) := by
  obtain ⟨t, ht, hm, hregs⟩ := outOwnerWrite_runs hs ho hv ha
  by_cases own : s.chip.dev.get F.CMP_OUT_OWNER_SLOT o = slot ∨ s.chip.dev.get F.CMP_OUT_OWNER_SLOT o = 15
  · have written : s.chip.dev.quiet.ownerWrite slot o v = s.chip.dev.quiet.put F.CMP_OUT_OWNER_SLOT o v := if_pos own
    rw [written] at hregs
    refine ⟨t, ht, hm, ?_, fun p hp => ?_, fun _ => ?_, fun h1 h2 => absurd own (by simp [h1, h2])⟩
    · exact Device.keeps_trans (Device.keeps_put s.chip.dev.quiet _ _ _ (but_apart (by simp))) (Device.keeps_of_regs hregs _)
    · rw [Device.get_congr hregs, Device.get_put, if_neg (by simp [Ne.symm hp])]
      rfl
    · rw [Device.get_congr hregs, Device.get_put_same]
      exact Nat.mod_eq_of_lt hv
  · have denied : s.chip.dev.quiet.ownerWrite slot o v = s.chip.dev.quiet.raise F.CMP_EVENTS_OWNER_DENIED o := if_neg own
    rw [denied] at hregs
    have kept (p : Nat) : t.chip.dev.get F.CMP_OUT_OWNER_SLOT p = s.chip.dev.get F.CMP_OUT_OWNER_SLOT p := by
      rw [Device.get_congr hregs]
      exact Device.get_raise _ _ _ _ _ (.inl (by decide)) (.inl (by decide))
    refine ⟨t, ht, hm, ?_, fun p _ => kept p, fun h => absurd h own, fun _ _ => ⟨kept o, ?_⟩⟩
    · exact Device.keeps_trans (Device.keeps_raise s.chip.dev.quiet _ _ (by simp)) (Device.keeps_of_regs hregs _)
    · rw [Device.get_congr hregs]
      exact Device.get_raise_same _ _ _ (by decide)

theorem matCommit_runs {i : Nat} (hi : i < 256) (ha : s.chip.admits slot R.PIX_MAT_COMMIT 0 (F.PIX_MAT_COMMIT_INDEX.at i) = true) :
    ∃ t p, exec (.matCommit slot i) s = .next t ∧ t.chip.mem = s.chip.mem ∧ t.chip.dev =
      ({ (if 240 ≤ i ∨ stageOk (s.chip.dev.quiet.staged slot) = false then s.chip.dev.quiet.dropWrite slot R.PIX_MAT_COMMIT.base
        else s.chip.dev.quiet.matCommit slot i) with pair := p } : Device).emit (.result slot resOk []) := by
  obtain ⟨hw, hof⟩ := commitWord i hi
  obtain ⟨t, p, ht, hm, hd⟩ := writeTo_effect (m := s.chip.mem) (d := if 240 ≤ i ∨ stageOk (s.chip.dev.quiet.staged slot) = false
      then s.chip.dev.quiet.dropWrite slot R.PIX_MAT_COMMIT.base else s.chip.dev.quiet.matCommit slot i) (by decide) hs hw rfl ha (by
    have effect : s.chip.quiet.writeEffect slot R.PIX_MAT_COMMIT 0 (F.PIX_MAT_COMMIT_INDEX.at i) s.chip.quiet.dev =
      ⟨s.chip.mem, s.chip.dev.quiet.pixWrite slot R.PIX_MAT_COMMIT (F.PIX_MAT_COMMIT_INDEX.at i)⟩ := rfl
    rw [effect]
    simp only [Device.pixWrite, hof, if_true])
  exact ⟨t, p, ht, hm, hd⟩

theorem matCommit_commits {i : Nat} (hi : i < 256) (ha : s.chip.admits slot R.PIX_MAT_COMMIT 0 (F.PIX_MAT_COMMIT_INDEX.at i) = true) :
    ∃ t, exec (.matCommit slot i) s = .next t ∧ t.chip.mem = s.chip.mem ∧
      (i < 240 → stageOk (s.chip.dev.staged slot) = true → t.chip.dev.regs = s.chip.dev.regs ∧
        (s.chip.dev.pwr ≠ .run → Tab.find t.chip.dev.mats i = some (s.chip.dev.staged slot) ∧
          (∀ j, j ≠ i → Tab.find t.chip.dev.mats j = Tab.find s.chip.dev.mats j)) ∧
        (s.chip.dev.pwr = .run → t.chip.dev.mats = s.chip.dev.mats ∧ Tab.find t.chip.dev.matWait i = some (s.chip.dev.staged slot))) ∧
      (240 ≤ i ∨ stageOk (s.chip.dev.staged slot) = false →
        t.chip.dev.mats = s.chip.dev.mats ∧ t.chip.dev.matWait = s.chip.dev.matWait ∧ t.chip.dev.get F.SYS_EVENTS_CFG_DROPPED = 1) := by
  obtain ⟨t, p, ht, hm, hd⟩ := matCommit_runs hs hi ha
  have staged : s.chip.dev.quiet.staged slot = s.chip.dev.staged slot := rfl
  rw [staged] at hd
  refine ⟨t, ht, hm, fun h240 hok => ?_, fun hbad => ?_⟩
  · rw [if_neg (by simp [hok]; omega)] at hd
    refine ⟨?_, fun hp => ?_, fun hp => ?_⟩
    · rw [hd, Device.matCommit]
      split <;> rfl
    · have out : s.chip.dev.quiet.matCommit slot i = { s.chip.dev.quiet with mats := Tab.set s.chip.dev.mats i (s.chip.dev.staged slot) } := if_neg hp
      rw [hd, out]
      exact ⟨Tab.find_set_same .., fun j hj => (Tab.find_set ..).trans (if_neg (Ne.symm hj))⟩
    · have run : s.chip.dev.quiet.matCommit slot i = { s.chip.dev.quiet with matWait := Tab.set s.chip.dev.matWait i (s.chip.dev.staged slot) } := if_pos hp
      rw [hd, run]
      exact ⟨rfl, Tab.find_set_same ..⟩
  · rw [if_pos hbad] at hd
    refine ⟨?_, ?_, ?_⟩ <;> rw [hd]
    · exact Device.raise_mats _ _ _
    · exact Device.raise_matWait _ _ _
    · exact Device.get_raise_same _ _ _ (by decide)

theorem matQuery_copies {i : Nat} (hi : i < 256) (ha : s.chip.admits slot R.PIX_MAT_QUERY 0 (F.PIX_MAT_QUERY_INDEX.at i) = true) :
    ∃ t, exec (.matQuery slot i) s = .next t ∧ t.chip.mem = s.chip.mem ∧
      (∀ k, k < 16 → t.chip.dev.getS F.PIX_MAT_READ_WORD slot k = (s.chip.dev.mat i).words.getD k 0 % 2 ^ 32) ∧
      s.chip.dev.keeps t.chip.dev (but [F.PIX_MAT_QUERY_INDEX, F.PIX_MAT_READ_WORD]) := by
  obtain ⟨hw, hof⟩ := queryWord i hi
  obtain ⟨g, q, store⟩ := s.chip.dev.quiet.storeWord_only R.PIX_MAT_QUERY slot 0 (F.PIX_MAT_QUERY_INDEX.at i)
  have kept := s.chip.dev.quiet.keeps_storeWord R.PIX_MAT_QUERY slot 0 (F.PIX_MAT_QUERY_INDEX.at i)
  rw [store] at kept
  obtain ⟨e, he⟩ : ∃ e, e = ({ s.chip.dev.quiet with regs := g, rwt := q } : Device).matQuery slot i := ⟨_, rfl⟩
  obtain ⟨t, p, ht, hm, hd⟩ := writeTo_acts (m := s.chip.mem) (d := e) (by decide) hs hw rfl ha (by
    have effect : Chip.writeEffect slot R.PIX_MAT_QUERY 0 (F.PIX_MAT_QUERY_INDEX.at i) s.chip.dev.quiet
      ⟨s.chip.mem, s.chip.dev.quiet.storeWord R.PIX_MAT_QUERY slot 0 (F.PIX_MAT_QUERY_INDEX.at i)⟩ =
        ⟨s.chip.mem, (s.chip.dev.quiet.storeWord R.PIX_MAT_QUERY slot 0 (F.PIX_MAT_QUERY_INDEX.at i)).matQuery slot
          (F.PIX_MAT_QUERY_INDEX.of (F.PIX_MAT_QUERY_INDEX.at i))⟩ := rfl
    rw [effect, hof, store, he])
  have hregs : t.chip.dev.regs = e.regs := by rw [hd]; rfl
  have same : ({ s.chip.dev.quiet with regs := g, rwt := q } : Device).mat i = s.chip.dev.mat i := rfl
  rw [Device.matQuery_eq, same] at he
  refine ⟨t, ht, hm, fun k hk => ?_, Device.keeps_trans ?_ (Device.keeps_of_regs hregs _)⟩
  · rw [Device.getS_congr hregs, he]
    exact Device.getS_putSlots F.PIX_MAT_READ_WORD slot _ 16 _ hk
  · have words := Device.keeps_putSlots F.PIX_MAT_READ_WORD slot (fun k => (s.chip.dev.mat i).words.getD k 0) 16
      (({ s.chip.dev.quiet with regs := g, rwt := q } : Device).put F.PIX_MAT_QUERY_INDEX 0 i)
      (but_apart (l := [F.PIX_MAT_QUERY_INDEX, F.PIX_MAT_READ_WORD]) (by simp))
    have index := Device.keeps_put ({ s.chip.dev.quiet with regs := g, rwt := q } : Device) F.PIX_MAT_QUERY_INDEX 0 i
      (but_apart (l := [F.PIX_MAT_QUERY_INDEX, F.PIX_MAT_READ_WORD]) (by simp))
    have stored := Device.keeps_mono kept (q := but [F.PIX_MAT_QUERY_INDEX, F.PIX_MAT_READ_WORD]) (fun f hf => (but_append (l' := [F.PIX_MAT_READ_WORD]) hf).1)
    rw [he]
    exact Device.keeps_trans stored (Device.keeps_trans index words)

end Slot

/-- Settles O28: owners, matrix commits and queries. -/
theorem ownersAndMatrixEntries : Obligations.OwnersAndMatrixEntries := by
  intro s slot hs
  exact ⟨fun o v ho hv ha => outOwnerWrite_owns hs ho hv ha, fun i hi ha => matCommit_commits hs hi ha, fun i hi ha => matQuery_copies hs hi ha⟩

end Sys2Proof.Machine
end

section
/-!
SUPPORT. Berth records, pins and pools: O27.
-/

namespace Sys2Proof.Machine

/-! ### The record of a berth -/

section SameGets

variable {d e : Device} (hg : ∀ f i, e.get f i = d.get f i)
include hg

theorem Device.poolFirst_of_get (c : Nat) : e.poolFirst c = d.poolFirst c := by
  simp only [poolFirst, poolCount, hg]

theorem Device.classOf_of_get (n : Nat) : e.classOf n = d.classOf n := by
  simp only [classOf, Device.poolFirst_of_get hg]

theorem Device.berthAddr_of_get (n : Nat) : e.berthAddr n = d.berthAddr n := by
  simp only [berthAddr, poolBase, addr40, poolSize, hg, Device.classOf_of_get hg, Device.poolFirst_of_get hg]

theorem Device.retired_of_get (hr : e.retiredAt = d.retiredAt) (n : Nat) : e.retired n = d.retired n := by
  have size (c : Nat) : e.poolSize c = d.poolSize c := by simp only [poolSize, hg]
  unfold retired
  rw [hr, Device.berthAddr_of_get hg, Device.classOf_of_get hg, size]

theorem Device.berthRecord_of_get (hb : e.berths = d.berths) (hr : e.retiredAt = d.retiredAt) (n : Nat) : e.berthRecord n = d.berthRecord n := by
  have same (n : Nat) : e.berth n = d.berth n := by rw [berth, hb, berth]
  unfold berthRecord berthTotal
  rw [same, Device.poolFirst_of_get hg, Device.retired_of_get hg hr, Device.berthAddr_of_get hg, Device.classOf_of_get hg]

end SameGets

theorem Device.berthQuery_eq (d : Device) (slot n : Nat) : d.berthQuery slot n =
    (d.putS F.CMP_BERTH_QUERY_BERTH slot 0 n).putSlots F.CMP_BERTH_REC_WORD slot (fun k => (d.berthRecord n).getD k 0) 8 := by
  delta Device.berthQuery Device.putSlots
  rfl

theorem queryBerthWord {b : Nat} (hb : b < 16384) : F.CMP_BERTH_QUERY_BERTH.of b = b := by
  rw [Fld.of, show F.CMP_BERTH_QUERY_BERTH.lo = 0 from rfl, pow_zero, Nat.div_one]
  exact Nat.mod_eq_of_lt hb

theorem queryBerthWord_at {b : Nat} (hb : b < 16384) : F.CMP_BERTH_QUERY_BERTH.at b = b := by
  rw [Fld.at, show F.CMP_BERTH_QUERY_BERTH.lo = 0 from rfl, pow_zero, Nat.mul_one]
  exact Nat.mod_eq_of_lt hb

theorem berthQuery_copies {s : State} {slot b : Nat} (hs : slot < 8) (hb : b < 16384) (ha : s.chip.admits slot R.CMP_BERTH_QUERY 0 b = true) :
    ∃ t, exec (.berthQuery slot b) s = .next t ∧ t.chip.mem = s.chip.mem ∧
      (∀ k, k < 8 → t.chip.dev.getS F.CMP_BERTH_REC_WORD slot k = (s.chip.dev.berthRecord b).getD k 0 % 2 ^ 32) ∧
      s.chip.dev.keeps t.chip.dev (but [F.CMP_BERTH_QUERY_BERTH, F.CMP_BERTH_REC_WORD]) := by
  obtain ⟨e, he⟩ : ∃ e, e = (s.chip.dev.quiet.putS F.CMP_BERTH_QUERY_BERTH slot 0 b).berthQuery slot b := ⟨_, rfl⟩
  have word := queryBerthWord hb
  obtain ⟨t, p, ht, hm, hd⟩ := writeTo_acts (m := s.chip.mem) (d := e) (by decide) hs (hb.trans (by decide)) rfl ha (by
    have effect : Chip.writeEffect slot R.CMP_BERTH_QUERY 0 b s.chip.dev.quiet ⟨s.chip.mem, s.chip.dev.quiet.storeWord R.CMP_BERTH_QUERY slot 0 b⟩ =
      ⟨s.chip.mem, (s.chip.dev.quiet.putS F.CMP_BERTH_QUERY_BERTH slot 0 (F.CMP_BERTH_QUERY_BERTH.of b)).berthQuery slot
        (F.CMP_BERTH_QUERY_BERTH.of b)⟩ := rfl
    rw [effect, word, he])
  have hregs : t.chip.dev.regs = e.regs := by rw [hd]; rfl
  have record : (s.chip.dev.quiet.putS F.CMP_BERTH_QUERY_BERTH slot 0 b).berthRecord b = s.chip.dev.berthRecord b :=
    Device.berthRecord_of_get (fun f i => (Device.get_putS ..).trans rfl) rfl rfl b
  rw [Device.berthQuery_eq, record] at he
  have run : exec (.berthQuery slot b) s = writeTo slot R.CMP_BERTH_QUERY 0 (F.CMP_BERTH_QUERY_BERTH.at b) s := rfl
  rw [queryBerthWord_at hb, ht] at run
  refine ⟨t, run, hm, fun k hk => ?_, Device.keeps_trans ?_ (Device.keeps_of_regs hregs _)⟩
  · rw [Device.getS_congr hregs, he]
    exact Device.getS_putSlots F.CMP_BERTH_REC_WORD slot _ 8 _ hk
  · have apart (f : Fld) (hf : f ∈ [F.CMP_BERTH_QUERY_BERTH, F.CMP_BERTH_REC_WORD]) := but_apart (List.mem_append_left overflowFields hf)
    have stored := Device.keeps_putS s.chip.dev.quiet F.CMP_BERTH_QUERY_BERTH slot 0 b (apart _ (by simp))
    have again := Device.keeps_putS (s.chip.dev.quiet.putS F.CMP_BERTH_QUERY_BERTH slot 0 b) F.CMP_BERTH_QUERY_BERTH slot 0 b (apart _ (by simp))
    rw [he]
    exact Device.keeps_trans stored (Device.keeps_trans again (Device.keeps_putSlots F.CMP_BERTH_REC_WORD slot _ 8 _ (apart _ (by simp))))

/-! ### Pins -/

theorem pinWord : ∀ id < 256, ∀ op ∈ [1, 2, 3], F.CMP_BERTH_PIN_OP.at op + F.CMP_BERTH_PIN_ID.at id < 2 ^ 32 ∧
    F.CMP_BERTH_PIN_OP.of (F.CMP_BERTH_PIN_OP.at op + F.CMP_BERTH_PIN_ID.at id) = op ∧
    F.CMP_BERTH_PIN_ID.of (F.CMP_BERTH_PIN_OP.at op + F.CMP_BERTH_PIN_ID.at id) = id := by decide +kernel

/-- An admitted pin command acts or waits. -/
theorem pin_runs {s : State} {slot op id : Nat} (hs : slot < 8) (hid : id < 256) (hop : op ∈ [1, 2, 3])
    (ha : s.chip.admits slot R.CMP_BERTH_PIN 0 (F.CMP_BERTH_PIN_OP.at op + F.CMP_BERTH_PIN_ID.at id) = true) :
    ∃ t p, writeTo slot R.CMP_BERTH_PIN 0 (F.CMP_BERTH_PIN_OP.at op + F.CMP_BERTH_PIN_ID.at id) s = .next t ∧ t.chip.mem = s.chip.mem ∧
      t.chip.dev = ({ s.chip.dev.quiet.pinWrite slot op id with pair := p } : Device).emit (.result slot resOk []) := by
  obtain ⟨hw, hof, hofid⟩ := pinWord id hid op hop
  refine writeTo_effect (by decide) hs hw rfl ha ?_
  have effect (w : Nat) : s.chip.quiet.writeEffect slot R.CMP_BERTH_PIN 0 w s.chip.quiet.dev =
    if F.CMP_BERTH_PIN_OP.of w = 0 then s.chip.quiet else ⟨s.chip.mem, s.chip.dev.quiet.pinWrite slot (F.CMP_BERTH_PIN_OP.of w) (F.CMP_BERTH_PIN_ID.of w)⟩ := rfl
  rw [effect, hof, hofid, if_neg (by rintro rfl; simp at hop)]

/-- In RUN a pin command waits for the edge. -/
theorem pin_waits {s : State} {slot op id : Nat} (hs : slot < 8) (hid : id < 256) (hop : op ∈ [1, 2, 3])
    (ha : s.chip.admits slot R.CMP_BERTH_PIN 0 (F.CMP_BERTH_PIN_OP.at op + F.CMP_BERTH_PIN_ID.at id) = true) (hrun : s.chip.dev.pwr = .run) :
    ∃ t, writeTo slot R.CMP_BERTH_PIN 0 (F.CMP_BERTH_PIN_OP.at op + F.CMP_BERTH_PIN_ID.at id) s = .next t ∧ t.chip.mem = s.chip.mem ∧
      t.chip.dev.regs = s.chip.dev.regs ∧ t.chip.dev.berths = s.chip.dev.berths ∧ t.chip.dev.pinWait = s.chip.dev.pinWait ++ [(slot, op, id)] := by
  obtain ⟨t, p, ht, hm, hd⟩ := pin_runs hs hid hop ha
  have waits : s.chip.dev.quiet.pinWrite slot op id = { s.chip.dev.quiet with pinWait := s.chip.dev.pinWait ++ [(slot, op, id)] } := if_pos hrun
  rw [waits] at hd
  exact ⟨t, ht, hm, by rw [hd]; rfl, by rw [hd]; rfl, by rw [hd]; rfl⟩

/-- Outside RUN a pin command acts. -/
theorem pin_acts {s : State} {slot op id : Nat} (hs : slot < 8) (hid : id < 256) (hop : op ∈ [1, 2, 3])
    (ha : s.chip.admits slot R.CMP_BERTH_PIN 0 (F.CMP_BERTH_PIN_OP.at op + F.CMP_BERTH_PIN_ID.at id) = true) (hrun : s.chip.dev.pwr ≠ .run) :
    ∃ t, writeTo slot R.CMP_BERTH_PIN 0 (F.CMP_BERTH_PIN_OP.at op + F.CMP_BERTH_PIN_ID.at id) s = .next t ∧ t.chip.mem = s.chip.mem ∧
      t.chip.dev.regs = (s.chip.dev.quiet.pinAct slot op id).regs ∧ t.chip.dev.berths = (s.chip.dev.quiet.pinAct slot op id).berths := by
  obtain ⟨t, p, ht, hm, hd⟩ := pin_runs hs hid hop ha
  have acts : s.chip.dev.quiet.pinWrite slot op id = s.chip.dev.quiet.pinAct slot op id := if_neg hrun
  rw [acts] at hd
  exact ⟨t, ht, hm, by rw [hd]; rfl, by rw [hd]; rfl⟩

/-- The berth that a pin names. -/
def Device.pinTarget (d : Device) (op id : Nat) : Option Nat :=
  if op = 1 then (d.src id).newest else if d.present id then d.outNewest id else none

/-- The device once a berth is pinned. -/
def Device.pinned (d : Device) (slot n : Nat) : Device :=
  (((d.hold n (.pin slot)).unpin slot).putS F.CMP_BERTH_PIN_PINNED slot 0 1).putS F.CMP_BERTH_PIN_BERTH slot 0 n

theorem Device.pinAct_takes {d : Device} {slot op id n : Nat} (h3 : op ≠ 3) (ht : d.pinTarget op id = some n)
    (hfree : d.unusedRes (d.classOf n) < (d.freeOf (d.classOf n)).length) : d.pinAct slot op id = d.pinned slot n := by
  have target : (if op = 1 then (d.src id).newest else if d.present id then d.outNewest id else none) = some n := ht
  simp only [pinAct, if_neg h3, target, if_pos hfree]
  rfl

theorem Device.pinAct_refuses {d : Device} {slot op id : Nat} (h3 : op ≠ 3) (ht : d.pinTarget op id = none) :
    d.pinAct slot op id = d.raise F.CMP_EVENTS_PIN_REFUSED id := by
  have target : (if op = 1 then (d.src id).newest else if d.present id then d.outNewest id else none) = none := ht
  simp only [pinAct, if_neg h3, target]

theorem Device.pinned_shows {d : Device} {slot n : Nat} (hn : n < 16384) (hp : d.getS F.CMP_BERTH_PIN_PINNED slot = 0) :
    (d.pinned slot n).getS F.CMP_BERTH_PIN_PINNED slot = 1 ∧ (d.pinned slot n).getS F.CMP_BERTH_PIN_BERTH slot = n ∧
    ((d.pinned slot n).berth n).refs = (d.berth n).refs ++ [.pin slot] := by
  have free : (d.hold n (.pin slot)).unpin slot = d.hold n (.pin slot) := if_pos hp
  refine ⟨?_, ?_, ?_⟩
  · rw [pinned, Device.getS_putS_ne _ _ _ _ _ _ _ _ (by decide)]
    exact Device.getS_putS_same ..
  · rw [pinned, Device.getS_putS_same]
    exact Nat.mod_eq_of_lt hn
  · rw [pinned, free]
    exact congrArg Berth.refs (Tab.get_set_same ..)

theorem Device.getS_settle (d : Device) (n : Nat) (f : Fld) (h i : Nat) (hf : but [F.CMP_EVENTS_BERTH_RETIRED] f = true) :
    (d.settle n).getS f h i = d.getS f h i := by
  unfold settle
  dsimp only
  split
  · split
    · exact (Device.getS_raise _ _ _ _ _ _ hf).trans rfl
    · split <;> rfl
  · rfl

theorem Device.getS_unpin (d : Device) (slot : Nat) : (d.unpin slot).getS F.CMP_BERTH_PIN_PINNED slot = 0 := by
  unfold unpin
  split
  · assumption
  · refine (Device.getS_settle _ _ _ _ _ (by decide)).trans ?_
    exact (Device.getS_putS_ne _ _ _ _ _ _ _ _ (by decide)).trans (Device.getS_putS_same ..)

/-! ### Pools -/

theorem Tab.find_filterMap_some {α : Type} (f : Nat → Option Nat) {k n : Nat} (hn : ∀ m, f m = some k ↔ m = n) (l : Tab Nat α) :
    Tab.find (l.filterMap (fun p => (f p.1).map (fun k => (k, p.2)))) k = Tab.find l n := by
  induction l with
  | nil => rfl
  | cons p l ih =>
    cases hp : f p.1 with
    | none =>
      have ne : p.1 ≠ n := fun e => by simpa [hp] using (hn p.1).mpr e
      simpa [List.filterMap_cons, hp, Tab.find, ne] using ih
    | some j =>
      have same : j = k ↔ p.1 = n := by simpa [hp] using hn p.1
      simp [List.filterMap_cons, hp, Tab.find, same, ih]

theorem Tab.find_filterMap_none {α : Type} (f : Nat → Option Nat) {k : Nat} (hn : ∀ m, f m ≠ some k) (l : Tab Nat α) :
    Tab.find (l.filterMap (fun p => (f p.1).map (fun k => (k, p.2)))) k = none := by
  induction l with
  | nil => rfl
  | cons p l ih =>
    cases hp : f p.1 with
    | none => simpa [List.filterMap_cons, hp] using ih
    | some j =>
      have ne : j ≠ k := fun e => hn p.1 (by rw [hp, e])
      simp [List.filterMap_cons, hp, Tab.find, ne, ih]

/-- The number that a berth has after the pool of class `c` changed from `old` berths to `new`, `first` being its first. -/
def renumbered (first old new n : Nat) : Option Nat :=
  if n < first then some n else if n < first + old then none else some (n - old + new)

theorem renumbered_below {first old new n : Nat} (h : n < first) (m : Nat) : renumbered first old new m = some n ↔ m = n := by
  unfold renumbered
  split_ifs <;> simp only [Option.some.injEq, reduceCtorEq, false_iff] <;> omega

theorem renumbered_within {first old new n : Nat} (h : first ≤ n) (h' : n < first + new) (m : Nat) : renumbered first old new m ≠ some n := by
  unfold renumbered
  split_ifs <;> simp only [ne_eq, Option.some.injEq, reduceCtorEq, not_false_eq_true] <;> omega

theorem renumbered_above {first old new n : Nat} (h : first + old ≤ n) (m : Nat) : renumbered first old new m = some (n - old + new) ↔ m = n := by
  unfold renumbered
  split_ifs <;> simp only [Option.some.injEq, reduceCtorEq, false_iff] <;> omega

theorem Device.renumber_berths (d : Device) (f : Nat → Option Nat) :
    (d.renumber f).berths = d.berths.filterMap (fun p => (f p.1).map (fun k => (k, p.2))) := by
  have same {g : Nat → Device → Device} (hg : ∀ h (d : Device), (g h d).berths = d.berths) (n : Nat) (d : Device) : (forN n g d).berths = d.berths := by
    induction n with
    | zero => rfl
    | succ n ih => rw [forN_succ, hg, ih]
  unfold renumber
  extract_lets f' fq e use net
  have pins : e.berths = d.berths := by
    refine same (fun h d => ?_) 8 d
    split
    · rfl
    · split <;> rfl
  clear_value f' fq e use net
  rw [← pins]

theorem Device.poolFirst_succ (d : Device) (c : Nat) : d.poolFirst (c + 1) = d.poolFirst c + d.poolCount c := forN_succ ..

/-- The device after the row of a pool has been stored. -/
def Device.poolStored (d : Device) (c w : Nat) : Device :=
  (d.put F.CMP_POOL_CFG_COUNT c (F.CMP_POOL_CFG_COUNT.of w)).put F.CMP_POOL_CFG_SIZE c (F.CMP_POOL_CFG_SIZE.of w)

theorem Device.poolStored_shows (d : Device) (c w : Nat) : (d.poolStored c w).get F.CMP_POOL_CFG_COUNT c = F.CMP_POOL_CFG_COUNT.of w ∧
    (d.poolStored c w).get F.CMP_POOL_CFG_SIZE c = F.CMP_POOL_CFG_SIZE.of w ∧ (d.poolStored c w).poolBase c = d.poolBase c := by
  refine ⟨?_, ?_, ?_⟩
  · rw [poolStored, get_put_ne _ _ _ _ _ _ (by decide), get_put_same]
    exact Nat.mod_mod ..
  · rw [poolStored, get_put_same]
    exact Nat.mod_mod ..
  · have kept (f : Fld) (hf : but [F.CMP_POOL_CFG_COUNT, F.CMP_POOL_CFG_SIZE] f = true) : (d.poolStored c w).get f c = d.get f c :=
      (Device.keeps_trans (Device.keeps_put d F.CMP_POOL_CFG_COUNT c _ (but_apart (by simp)))
        (Device.keeps_put _ F.CMP_POOL_CFG_SIZE c _ (but_apart (by simp)))).1 f c hf
    simp only [poolBase, addr40, kept _ (show but [F.CMP_POOL_CFG_COUNT, F.CMP_POOL_CFG_SIZE] F.CMP_POOL_BASE_LO_ADDR_LO = true by decide),
      kept _ (show but [F.CMP_POOL_CFG_COUNT, F.CMP_POOL_CFG_SIZE] F.CMP_POOL_BASE_HI_ADDR_HI = true by decide)]

/-- Where the size of the class or its number of berths changes, its berths are free and those of higher classes have new numbers. -/
theorem Device.poolChanged_berths {d old : Device} {c : Nat} (hb : d.berths = old.berths) (hc : d.poolCount c ≠ old.poolCount c ∨ d.poolSize c ≠ old.poolSize c) :
    (∀ n, n < old.poolFirst c → Tab.find (d.poolChanged old c).berths n = Tab.find old.berths n) ∧
    (∀ n, old.poolFirst c ≤ n → n < old.poolFirst c + d.poolCount c → Tab.find (d.poolChanged old c).berths n = none) ∧
    (∀ n, old.poolFirst c + old.poolCount c ≤ n →
      Tab.find (d.poolChanged old c).berths (n - old.poolCount c + d.poolCount c) = Tab.find old.berths n) := by
  have changed : d.poolChanged old c = d.renumber (renumbered (old.poolFirst c) (old.poolCount c) (d.poolCount c)) := by
    have ne : ¬ (d.poolCount c = old.poolCount c ∧ d.poolSize c = old.poolSize c ∧ d.poolBase c = old.poolBase c) := by
      rintro ⟨h1, h2, -⟩
      exact hc.elim (fun h => h h1) (fun h => h h2)
    rw [poolChanged, if_neg ne, poolFirst_succ]
    rfl
  rw [changed, renumber_berths, hb]
  exact ⟨fun n hn => Tab.find_filterMap_some _ (renumbered_below hn) _, fun n h1 h2 => Tab.find_filterMap_none _ (renumbered_within h1 h2) _,
    fun n hn => Tab.find_filterMap_some _ (renumbered_above hn) _⟩

theorem Device.poolChanged_same {d old : Device} {c : Nat} (h1 : d.poolCount c = old.poolCount c) (h2 : d.poolSize c = old.poolSize c)
    (h3 : d.poolBase c = old.poolBase c) : d.poolChanged old c = d := if_pos ⟨h1, h2, h3⟩

theorem findReg_pool : ∀ c < 8, findReg (R.CMP_POOL_CFG.base + R.CMP_POOL_CFG.stride * c) = some (R.CMP_POOL_CFG, c) := by decide +kernel

theorem poolConfig_runs {s : State} {slot c w : Nat} (hs : slot < 8) (hc : c < 8) (hw : w < 2 ^ 32) (ha : s.chip.admits slot R.CMP_POOL_CFG c w = true) :
    ∃ t e, exec (.poolConfigWrite slot (R.CMP_POOL_CFG.base + R.CMP_POOL_CFG.stride * c) w) s = .next t ∧ t.chip.mem = s.chip.mem ∧
      e = (s.chip.dev.quiet.poolStored c w).poolChanged s.chip.dev.quiet c ∧ t.chip.dev.regs = e.regs ∧ t.chip.dev.berths = e.berths := by
  obtain ⟨e, he⟩ : ∃ e, e = (s.chip.dev.quiet.poolStored c w).poolChanged s.chip.dev.quiet c := ⟨_, rfl⟩
  obtain ⟨p, hlog⟩ := e.logWrite_only slot (R.CMP_POOL_CFG.base + R.CMP_POOL_CFG.stride * c) w
  have store : s.chip.quiet.dev.storeWords [(R.CMP_POOL_CFG, w)] R.CMP_POOL_CFG slot c = e := by
    have words : s.chip.quiet.dev.storeWords [(R.CMP_POOL_CFG, w)] R.CMP_POOL_CFG slot c =
      if R.CMP_POOL_CFG.base = R.CMP_POOL_BASE_HI.base ∨ R.CMP_POOL_CFG.base = R.CMP_POOL_CFG.base then
        (s.chip.dev.quiet.poolStored c w).poolChanged s.chip.dev.quiet c else s.chip.dev.quiet.poolStored c w := rfl
    rw [words, he, if_pos (Or.inr rfl)]
  have again : e.setAgain R.CMP_POOL_CFG slot c 0 = e := e.setAgain_of_no_w1c (by decide) slot c 0
  have effect : Chip.writeEffect slot R.CMP_POOL_CFG c w s.chip.quiet.dev ⟨s.chip.quiet.mem, e⟩ = ⟨s.chip.quiet.mem, e⟩ := rfl
  have block : ¬ (R.CMP_POOL_CFG.base / 65536 = 8 ∨ R.CMP_POOL_CFG.base / 65536 = 11) := by decide
  have carried : Chip.carryOut slot R.CMP_POOL_CFG c w s.chip.quiet = ⟨s.chip.mem, { e with pair := p }⟩ := by
    simp only [Chip.carryOut, store, effect, Chip.mapDev, again, if_neg block, hlog]
    rfl
  have ran := writeTo_admits slot R.CMP_POOL_CFG c w s hs hw (findReg_pool c hc) rfl rfl ha
  rw [carried] at ran
  exact ⟨_, e, ran, rfl, he, rfl, rfl⟩

/-! ### Pins and pools as commands of the table -/

section Slot

variable {s : State} {slot : Nat} (hs : slot < 8)
include hs

/-- A pin that takes a berth. -/
theorem pin_takes {op id n : Nat} (hid : id < 256) (hop : op ∈ [1, 2]) (hrun : s.chip.dev.pwr ≠ .run)
    (ha : s.chip.admits slot R.CMP_BERTH_PIN 0 (F.CMP_BERTH_PIN_OP.at op + F.CMP_BERTH_PIN_ID.at id) = true)
    (ht : s.chip.dev.pinTarget op id = some n) (hn : n < 16384) (hp : s.chip.dev.getS F.CMP_BERTH_PIN_PINNED slot = 0)
    (hfree : s.chip.dev.unusedRes (s.chip.dev.classOf n) < (s.chip.dev.freeOf (s.chip.dev.classOf n)).length) :
    ∃ t, writeTo slot R.CMP_BERTH_PIN 0 (F.CMP_BERTH_PIN_OP.at op + F.CMP_BERTH_PIN_ID.at id) s = .next t ∧ t.chip.mem = s.chip.mem ∧
      t.chip.dev.getS F.CMP_BERTH_PIN_PINNED slot = 1 ∧ t.chip.dev.getS F.CMP_BERTH_PIN_BERTH slot = n ∧
      (t.chip.dev.berth n).refs = (s.chip.dev.berth n).refs ++ [.pin slot] := by
  have h123 : op ∈ [1, 2, 3] := by
    simp only [List.mem_cons, List.not_mem_nil, or_false] at hop ⊢
    omega
  have h3 : op ≠ 3 := by rintro rfl; simp at hop
  obtain ⟨t, htx, hm, hregs, hberths⟩ := pin_acts hs hid h123 ha hrun
  have acts := Device.pinAct_takes (d := s.chip.dev.quiet) (slot := slot) h3 ht hfree
  obtain ⟨pinned, berth, refs⟩ := Device.pinned_shows (d := s.chip.dev.quiet) hn hp
  rw [acts] at hregs hberths
  refine ⟨t, htx, hm, ?_, ?_, ?_⟩
  · rw [Device.getS_congr hregs]; exact pinned
  · rw [Device.getS_congr hregs]; exact berth
  · rw [Device.berth, hberths]; exact refs

/-- A pin that finds no berth. -/
theorem pin_refused {op id : Nat} (hid : id < 256) (hop : op ∈ [1, 2]) (hrun : s.chip.dev.pwr ≠ .run)
    (ha : s.chip.admits slot R.CMP_BERTH_PIN 0 (F.CMP_BERTH_PIN_OP.at op + F.CMP_BERTH_PIN_ID.at id) = true)
    (ht : s.chip.dev.pinTarget op id = none) :
    ∃ t, writeTo slot R.CMP_BERTH_PIN 0 (F.CMP_BERTH_PIN_OP.at op + F.CMP_BERTH_PIN_ID.at id) s = .next t ∧ t.chip.mem = s.chip.mem ∧
      t.chip.dev.get F.CMP_EVENTS_PIN_REFUSED = 1 ∧ t.chip.dev.berths = s.chip.dev.berths ∧
      t.chip.dev.getS F.CMP_BERTH_PIN_PINNED slot = s.chip.dev.getS F.CMP_BERTH_PIN_PINNED slot := by
  have h123 : op ∈ [1, 2, 3] := by
    simp only [List.mem_cons, List.not_mem_nil, or_false] at hop ⊢
    omega
  have h3 : op ≠ 3 := by rintro rfl; simp at hop
  obtain ⟨t, htx, hm, hregs, hberths⟩ := pin_acts hs hid h123 ha hrun
  rw [Device.pinAct_refuses (d := s.chip.dev.quiet) h3 ht] at hregs hberths
  refine ⟨t, htx, hm, ?_, hberths.trans (Device.raise_berths _ _ _), ?_⟩
  · rw [Device.get_congr hregs]
    exact Device.get_raise_same _ _ _ (by decide)
  · rw [Device.getS_congr hregs]
    exact Device.getS_raise _ _ _ _ _ _ (by decide)

theorem pin_released (hrun : s.chip.dev.pwr ≠ .run)
    (ha : s.chip.admits slot R.CMP_BERTH_PIN 0 (F.CMP_BERTH_PIN_OP.at 3 + F.CMP_BERTH_PIN_ID.at 0) = true) :
    ∃ t, writeTo slot R.CMP_BERTH_PIN 0 (F.CMP_BERTH_PIN_OP.at 3 + F.CMP_BERTH_PIN_ID.at 0) s = .next t ∧ t.chip.mem = s.chip.mem ∧
      t.chip.dev.getS F.CMP_BERTH_PIN_PINNED slot = 0 := by
  obtain ⟨t, htx, hm, hregs, -⟩ := pin_acts hs (by decide) (by simp) ha hrun
  exact ⟨t, htx, hm, (Device.getS_congr hregs ..).trans (s.chip.dev.quiet.getS_unpin slot)⟩

theorem poolConfig_acts {c w : Nat} (hc : c < 8) (hw : w < 2 ^ 32) (ha : s.chip.admits slot R.CMP_POOL_CFG c w = true) :
    ∃ t, exec (.poolConfigWrite slot (R.CMP_POOL_CFG.base + R.CMP_POOL_CFG.stride * c) w) s = .next t ∧ t.chip.mem = s.chip.mem ∧
      t.chip.dev.get F.CMP_POOL_CFG_COUNT c = F.CMP_POOL_CFG_COUNT.of w ∧ t.chip.dev.get F.CMP_POOL_CFG_SIZE c = F.CMP_POOL_CFG_SIZE.of w ∧
      (t.chip.dev.poolCount c = s.chip.dev.poolCount c → t.chip.dev.poolSize c = s.chip.dev.poolSize c → t.chip.dev.berths = s.chip.dev.berths) ∧
      (t.chip.dev.poolCount c ≠ s.chip.dev.poolCount c ∨ t.chip.dev.poolSize c ≠ s.chip.dev.poolSize c →
        (∀ n, n < s.chip.dev.poolFirst c → Tab.find t.chip.dev.berths n = Tab.find s.chip.dev.berths n) ∧
        (∀ n, s.chip.dev.poolFirst c ≤ n → n < s.chip.dev.poolFirst c + t.chip.dev.poolCount c → Tab.find t.chip.dev.berths n = none) ∧
        (∀ n, s.chip.dev.poolFirst c + s.chip.dev.poolCount c ≤ n →
          Tab.find t.chip.dev.berths (n - s.chip.dev.poolCount c + t.chip.dev.poolCount c) = Tab.find s.chip.dev.berths n)) := by
  obtain ⟨t, e, ht, hm, he, hregs, hberths⟩ := poolConfig_runs hs hc hw ha
  obtain ⟨count, size, base⟩ := s.chip.dev.quiet.poolStored_shows c w
  have fields : ∀ f i, but pinFields f = true → t.chip.dev.get f i = (s.chip.dev.quiet.poolStored c w).get f i := fun f i hf => by
    rw [Device.get_congr hregs, he]
    exact (Device.storeKept_poolChanged ..).fields.1 f i hf
  have hcount : t.chip.dev.poolCount c = (s.chip.dev.quiet.poolStored c w).poolCount c := fields _ _ (by decide)
  have hsize : t.chip.dev.poolSize c = (s.chip.dev.quiet.poolStored c w).poolSize c := congrArg (· * 65536) (fields _ _ (by decide))
  refine ⟨t, ht, hm, (fields _ _ (by decide)).trans count, (fields _ _ (by decide)).trans size, fun h1 h2 => ?_, fun h => ?_⟩
  · rw [hberths, he, Device.poolChanged_same (old := s.chip.dev.quiet) (hcount.symm.trans h1) (hsize.symm.trans h2) base]
    rfl
  · rw [hcount, hsize] at h
    rw [hberths, he, hcount]
    exact Device.poolChanged_berths rfl h

end Slot

/-- Settles O27: berth records, pins and pools. -/
theorem berthRegistersAndPins : Obligations.BerthRegistersAndPins := by
  intro s slot hs
  have word : F.CMP_BERTH_PIN_OP.at 3 + F.CMP_BERTH_PIN_ID.at 0 = F.CMP_BERTH_PIN_OP.at 3 := by decide
  have mem (op : Nat) (h : op = 1 ∨ op = 2 ∨ op = 3) : op ∈ [1, 2, 3] := by simpa using h
  refine ⟨fun b hb ha => berthQuery_copies hs hb ha, fun src hsrc ha => ⟨fun hrun => ?_, fun hrun => pin_waits hs hsrc (mem 1 (by simp)) ha hrun⟩,
    fun o ho ha => ⟨fun hrun hpres => ?_, fun hrun => pin_waits hs (ho.trans (by decide)) (mem 2 (by simp)) ha hrun,
      fun hrun n hpres hnew hn hp hfree => ?_⟩,
    fun ha => ⟨fun hrun => ?_, fun hrun => ?_⟩,
    fun c w hc hw ha => poolConfig_acts hs hc hw ha⟩
  · cases hnew : (s.chip.dev.src src).newest with
    | none =>
      obtain ⟨t, ht, hm, event, berths, pinned⟩ := pin_refused hs hsrc (by simp) hrun ha hnew
      exact ⟨t, ht, hm, by simp, fun _ => ⟨event, berths, pinned⟩⟩
    | some n =>
      obtain ⟨t, p, ht, hm, -⟩ := pin_runs hs hsrc (mem 1 (by simp)) ha
      refine ⟨t, ht, hm, fun k hk hn hp hfree => ?_, by simp⟩
      obtain rfl : n = k := Option.some.inj hk
      obtain ⟨t', ht', -, taken⟩ := pin_takes hs hsrc (by simp) hrun ha hnew hn hp hfree
      obtain rfl : t' = t := by
        rw [ht] at ht'
        injection ht' with e
        exact e.symm
      exact taken
  · have target : s.chip.dev.pinTarget 2 o = none := by simp [Device.pinTarget, hpres]
    obtain ⟨t, ht, hm, event, berths, -⟩ := pin_refused hs (ho.trans (by decide)) (by simp) hrun ha target
    exact ⟨t, ht, hm, event, berths⟩
  · have target : s.chip.dev.pinTarget 2 o = some n := by simp [Device.pinTarget, hpres, hnew]
    obtain ⟨t, ht, hm, -, taken⟩ := pin_takes hs (ho.trans (by decide)) (by simp) hrun ha target hn hp hfree
    exact ⟨t, ht, hm, taken⟩
  · have release := pin_released hs hrun (word ▸ ha)
    rw [word] at release
    exact release
  · have waits := pin_waits hs (id := 0) (by decide) (mem 3 (by simp)) (word ▸ ha) hrun
    rw [word] at waits
    exact waits

end Sys2Proof.Machine
end

section
/-!
SUPPORT. What berths and events move; encode commands and bit rates: O34.
-/

namespace Sys2Proof.Machine

/-! ### What berths and events move -/

theorem Device.keeps_refl (d : Device) (p : Fld → Bool) : d.keeps d p := Device.keeps_of_regs rfl p

theorem Device.keeps_raise_of {p : Fld → Bool} (d : Device) {f : Fld} (hf : ∀ g, p g = true → but [f] g = true) (a : Nat) : d.keeps (d.raise f a) p :=
  Device.keeps_mono (d.keeps_raise f a (by simp)) hf

/-- The fields of CMP that taking and giving berths changes. -/
def berthFields : List Fld := [F.CMP_EVENTS_BERTH_RETIRED, F.CMP_EVENTS_POOL_EMPTY, F.CMP_POOL_EMPTY_CNT_COUNT]

/-- The device with the parts of another that berths and events concern. -/
def Device.withBerths (d e : Device) : Device :=
  let f : Device := { d with regs := e.regs, evq := e.evq, perf := e.perf, bb := e.bb, berths := e.berths }
  { f with free := e.free, retiredAt := e.retiredAt, srcs := e.srcs, outs := e.outs }

/-- From `d` to `e` only what berths and events concern moved, and no register field with `p`. -/
structure Device.BerthFrame (p : Fld → Bool) (d e : Device) : Prop where
  fields : d.keeps e p
  parts : e = d.withBerths e

namespace Device.BerthFrame

variable {p : Fld → Bool} {d e e' : Device}

theorem refl (d : Device) : d.BerthFrame p d := ⟨Device.keeps_refl d p, rfl⟩

theorem trans (h : d.BerthFrame p e) (h' : e.BerthFrame p e') : d.BerthFrame p e' := by
  have both : e.withBerths e' = (d.withBerths e).withBerths e' := congrArg (fun x : Device => x.withBerths e') h.parts
  exact ⟨Device.keeps_trans h.fields h'.fields, h'.parts.trans both⟩

theorem pwr (h : d.BerthFrame p e) : e.pwr = d.pwr := by
  have := congrArg Device.pwr h.parts
  exact this
theorem encs (h : d.BerthFrame p e) : e.encs = d.encs := by
  have := congrArg Device.encs h.parts
  exact this
theorem encCmd (h : d.BerthFrame p e) : e.encCmd = d.encCmd := by
  have := congrArg Device.encCmd h.parts
  exact this

theorem put (h : d.BerthFrame p e) (f : Fld) (i v : Nat) (hf : ∀ g, p g = true → f.id ≠ g.id) : d.BerthFrame p (e.put f i v) :=
  h.trans ⟨Device.keeps_put e f i v hf, rfl⟩

theorem raise (h : d.BerthFrame p e) {f : Fld} (hf : ∀ g, p g = true → but [f] g = true) (a : Nat) : d.BerthFrame p (e.raise f a) := by
  obtain ⟨g, q, hr⟩ := e.raise_only f a
  exact h.trans ⟨e.keeps_raise_of hf a, by rw [hr]; rfl⟩

theorem count (h : d.BerthFrame p e) (ev u n : Nat) : d.BerthFrame p (e.count ev u n) := by
  obtain ⟨q, hq⟩ := e.count_only ev u n
  exact h.trans ⟨Device.keeps_of_regs (by simp) p, by rw [hq]; rfl⟩

theorem forL {β : Type} {f : β → Device → Device} (hf : ∀ b (d : Device), d.BerthFrame p (f b d)) (l : List β) (d : Device) :
    d.BerthFrame p (Sys2Proof.Machine.forL l f d) := by
  induction l generalizing d with
  | nil => exact refl d
  | cons b r ih => exact (hf b d).trans (ih (f b d))

section Berths

variable (hp : ∀ g, p g = true → but berthFields g = true)

include hp

theorem berthFields_but {f : Fld} (hf : f ∈ berthFields) (g : Fld) (hg : p g = true) : but [f] g = true := by
  have := hp g hg
  simp only [berthFields, but, List.cons_append, List.nil_append, List.map_cons, List.map_nil, Bool.not_eq_true', List.contains_eq_mem,
    decide_eq_false_iff_not, List.mem_cons, List.not_mem_nil, or_false, not_or] at this ⊢
  simp only [berthFields, List.mem_cons, List.not_mem_nil, or_false] at hf
  obtain ⟨h1, h2, h3, h⟩ := this
  rcases hf with rfl | rfl | rfl
  · exact ⟨h1, h⟩
  · exact ⟨h2, h⟩
  · exact ⟨h3, h⟩

theorem retire (d : Device) (n : Nat) : d.BerthFrame p (d.retire n) := by
  unfold Device.retire
  refine raise ?_ (berthFields_but hp (by simp [berthFields])) n
  exact ⟨Device.keeps_of_regs rfl p, rfl⟩

theorem discard (d : Device) (n : Nat) : d.BerthFrame p (d.discard n) := by
  unfold Device.discard
  split
  · exact retire hp d n
  · exact ⟨Device.keeps_of_regs rfl p, rfl⟩

theorem settle (d : Device) (n : Nat) : d.BerthFrame p (d.settle n) := by
  unfold Device.settle
  dsimp only
  split
  · split
    · exact retire hp d n
    · split
      · exact refl d
      · exact ⟨Device.keeps_of_regs rfl p, rfl⟩
  · exact refl d

omit hp in
theorem setBerth (d : Device) (n : Nat) (b : Berth) : d.BerthFrame p (d.setBerth n b) := ⟨Device.keeps_of_regs rfl p, rfl⟩

theorem releaseAll (d : Device) (q : Holder → Bool) : d.BerthFrame p (d.releaseAll q) :=
  forL (fun n d => (setBerth d n _).trans (settle hp _ n)) _ d

theorem alloc (d : Device) (c kind prod : Nat) : d.BerthFrame p (d.alloc c kind prod).1 := by
  have counted : d.BerthFrame p (d.count 0x15 c 1) := (refl d).count ..
  have fail : d.BerthFrame p ((((d.count 0x15 c 1).bump F.CMP_POOL_EMPTY_CNT_COUNT c 1).count 0x16 c 1).raise F.CMP_EVENTS_POOL_EMPTY prod) := by
    refine raise (count (put counted _ _ _ fun g hg => ?_) ..) (berthFields_but hp (by simp [berthFields])) prod
    exact but_apart (by simp [berthFields]) g (hp g hg)
  unfold Device.alloc
  dsimp only
  split
  · split
    · exact counted.trans ⟨Device.keeps_of_regs rfl p, rfl⟩
    · exact fail
  · exact fail

end Berths

end Device.BerthFrame

/-! ### Encode commands -/

theorem encWord_reads : ∀ n < 32, ∀ op < 4, encWord op n < 2 ^ 32 ∧ F.ENC_CMD_OP.of (encWord op n) = op ∧
    F.ENC_CMD_SESSION.of (encWord op n) = n := by decide +kernel

/-- The result of the checks, as R183 lists them. -/
theorem Device.encCheck_eq (d : Device) (op n : Nat) : d.encCheck op n =
    if d.encCmd.isSome then 2 else if op = 1 ∧ d.encOpened n = true then 3 else if op ≠ 1 ∧ d.encOpened n = false then 3
      else if op ≠ 1 then 0 else if d.encFormatOk n = false then 4
      else if d.encFloorOk n (d.get F.ENC_SESS_RATE_BIT_RATE n) = false then 5
      else match d.encReserve n with
        | .error e => e
        | .ok _ => 0 := by
  unfold encCheck
  by_cases hop : op = 1 <;> cases d.encOpened n <;> cases d.encFormatOk n <;>
    cases d.encFloorOk n (d.get F.ENC_SESS_RATE_BIT_RATE n) <;> simp [hop] <;> rfl

/-- The fields in which ENC_CMD_STATUS shows a command. -/
def encShownFields : List Fld := [F.ENC_CMD_STATUS_REQ_SLOT, F.ENC_CMD_STATUS_OP, F.ENC_CMD_STATUS_SESSION, F.ENC_CMD_STATUS_RESULT]

/-- A command and its result shown. -/
def Device.encShown (d : Device) (slot op n r : Nat) : Device :=
  (((d.put F.ENC_CMD_STATUS_REQ_SLOT 0 slot).put F.ENC_CMD_STATUS_OP 0 op).put F.ENC_CMD_STATUS_SESSION 0 n).put F.ENC_CMD_STATUS_RESULT 0 r

/-- The reservations of an OPEN recorded. -/
def Device.encReserved (d : Device) (n : Nat) (q : Nat × Nat × Nat) : Device :=
  (((d.put F.ENC_SESS_STATE_CORE n q.1).put F.ENC_SESS_RES_RESERVED_WU n q.2.1).put F.ENC_SESS_RES_CLASS n q.2.2).put F.ENC_SESS_RES_BERTHS n 2

/-- ENC_CMD_STATUS shows the command and its result. -/
structure Device.ShowsEnc (d : Device) (slot op n r : Nat) : Prop where
  slot : d.get F.ENC_CMD_STATUS_REQ_SLOT = slot
  op : d.get F.ENC_CMD_STATUS_OP = op
  session : d.get F.ENC_CMD_STATUS_SESSION = n
  result : d.get F.ENC_CMD_STATUS_RESULT = r

theorem Device.ShowsEnc.keeps {d e : Device} {slot op n r : Nat} {p : Fld → Bool} (h : d.ShowsEnc slot op n r) (hk : d.keeps e p)
    (hp : ∀ f ∈ encShownFields, p f = true) : e.ShowsEnc slot op n r :=
  ⟨(hk.1 _ _ (hp _ (by simp [encShownFields]))).trans h.slot, (hk.1 _ _ (hp _ (by simp [encShownFields]))).trans h.op,
    (hk.1 _ _ (hp _ (by simp [encShownFields]))).trans h.session, (hk.1 _ _ (hp _ (by simp [encShownFields]))).trans h.result⟩

theorem Device.encShown_shows (d : Device) {slot op n r : Nat} (hs : slot < 8) (hop : op < 4) (hn : n < 32) (hr : r < 8) :
    (d.encShown slot op n r).ShowsEnc slot op n r := by
  have same (d : Device) (f : Fld) (v : Nat) (hv : v < 2 ^ f.width) : (d.put f 0 v).get f = v := by
    rw [get_put_same, Nat.mod_eq_of_lt hv]
  refine ⟨?_, ?_, ?_, ?_⟩ <;> unfold encShown
  · rw [get_put_ne _ _ _ _ _ _ (by decide), get_put_ne _ _ _ _ _ _ (by decide), get_put_ne _ _ _ _ _ _ (by decide)]
    exact same _ _ _ (hs.trans_le (by decide))
  · rw [get_put_ne _ _ _ _ _ _ (by decide), get_put_ne _ _ _ _ _ _ (by decide)]
    exact same _ _ _ (hop.trans_le (by decide))
  · rw [get_put_ne _ _ _ _ _ _ (by decide)]
    exact same _ _ _ (hn.trans_le (by decide))
  · exact same _ _ _ (hr.trans_le (by decide))

theorem Device.keeps_encShown (d : Device) (slot op n r : Nat) {l : List Fld} (hl : ∀ f ∈ encShownFields, f ∈ l) :
    d.keeps (d.encShown slot op n r) (but l) := by
  have apart (f : Fld) (hf : f ∈ encShownFields) : ∀ g, but l g = true → f.id ≠ g.id := but_apart (List.mem_append_left _ (hl f hf))
  exact Device.keeps_trans (Device.keeps_trans (Device.keeps_trans (d.keeps_put _ _ _ (apart _ (by simp [encShownFields])))
    (Device.keeps_put _ _ _ _ (apart _ (by simp [encShownFields])))) (Device.keeps_put _ _ _ _ (apart _ (by simp [encShownFields]))))
    (Device.keeps_put _ _ _ _ (apart _ (by simp [encShownFields])))

/-- The fields that the effect of a command changes. -/
def encEffectFields : List Fld := [F.ENC_SESS_STATE_OPEN, F.ENC_SESS_STATE_LEVEL, F.ENC_SESS_STATE_TIER, F.ENC_SESS_FULLNESS_BITS,
  F.ENC_EVENTS_OPEN_DONE, F.ENC_SESS_RES_BERTHS, F.ENC_SESS_RES_RESERVED_WU] ++ berthFields

theorem but_mono {l m : List Fld} (hl : ∀ f ∈ l, f ∈ m) (g : Fld) (hg : but m g = true) : but l g = true := by
  have apart (f : Fld) (hf : f ∈ l ++ overflowFields) : f.id ≠ g.id := by
    rcases List.mem_append.mp hf with h | h
    · exact but_apart (List.mem_append_left _ (hl f h)) g hg
    · exact but_apart (List.mem_append_right _ h) g hg
  simp only [but, Bool.not_eq_true', List.contains_eq_mem, decide_eq_false_iff_not, List.mem_map, not_exists, not_and]
  exact fun f hf => apart f hf

section Effect

variable (d : Device) (n : Nat)

/-- The device once the berths of an OPEN are taken. -/
def Device.encBerths : Device := (((d.alloc (d.get F.ENC_SESS_RES_CLASS n) 0 n).1).alloc (d.get F.ENC_SESS_RES_CLASS n) 0 n).1

theorem Device.encBerths_frame {p : Fld → Bool} (hp : ∀ g, p g = true → but berthFields g = true) : d.BerthFrame p (d.encBerths n) :=
  (BerthFrame.alloc hp d _ 0 n).trans (BerthFrame.alloc hp _ _ 0 n)

/-- The reconstruction berths that an OPEN takes. -/
def Device.encRecs : Option Nat × Option Nat :=
  let a := d.alloc (d.get F.ENC_SESS_RES_CLASS n) 0 n
  (a.2, (a.1.alloc (d.get F.ENC_SESS_RES_CLASS n) 0 n).2)

/-- The state that an OPEN gives its session. -/
def Device.encOpening : Device :=
  ((d.encBerths n).setEnc n { EncSess.empty with rec0 := (d.encRecs n).1, rec1 := (d.encRecs n).2 }).put F.ENC_SESS_STATE_OPEN n 1

/-- The last part of an OPEN: level, tier and fullness shown, and the event. -/
def Device.encStarted (lv : Nat × Nat) : Device :=
  (((d.put F.ENC_SESS_STATE_LEVEL n lv.1).put F.ENC_SESS_STATE_TIER n lv.2).put F.ENC_SESS_FULLNESS_BITS n 0).raise F.ENC_EVENTS_OPEN_DONE n

theorem Device.encOpenNow_eq : d.encOpenNow n = (d.encOpening n).encStarted n (d.encLevel n (d.get F.ENC_SESS_RATE_BIT_RATE n)) := by
  delta encOpenNow encStarted encOpening encBerths encRecs
  rfl

/-- The device once the berths of a session that closes are given back. -/
def Device.encEmptied : Device :=
  [(d.enc n).rec0, (d.enc n).rec1].foldl (fun (d : Device) o => match o with
    | some b => d.discard b
    | none => d) (d.encStop n)

theorem Device.encCloseNow_eq : d.encCloseNow n =
    ((((d.encEmptied n).setEnc n EncSess.empty).put F.ENC_SESS_STATE_OPEN n 0).put F.ENC_SESS_RES_BERTHS n 0).put F.ENC_SESS_RES_RESERVED_WU n 0 := by
  delta encCloseNow encEmptied
  rfl

/-- Closing, nothing but the session's own state and its berths moves. -/
theorem Device.encEmptied_frame {p : Fld → Bool} (hp : ∀ g, p g = true → but berthFields g = true) :
    d.keeps (d.encEmptied n) p ∧ (d.encEmptied n).encCmd = d.encCmd := by
  have give (d : Device) (o : Option Nat) : d.BerthFrame p (match o with
      | some b => d.discard b
      | none => d) := by
    cases o with
    | none => exact .refl d
    | some b => exact .discard hp d b
  have released := BerthFrame.releaseAll hp d (fun h => decide (h = .enc n))
  have given := (give (d.encStop n) (d.enc n).rec0).trans (give _ (d.enc n).rec1)
  have stop : d.keeps (d.encStop n) p := Device.keeps_trans released.fields (Device.keeps_of_regs rfl p)
  refine ⟨Device.keeps_trans stop given.fields, ?_⟩
  exact given.encCmd.trans released.encCmd

theorem encEffect_apart {f : Fld} (hf : f ∈ encEffectFields) : ∀ g, but encEffectFields g = true → f.id ≠ g.id :=
  but_apart (List.mem_append_left _ hf)

theorem Device.encStarted_only (lv : Nat × Nat) : d.keeps (d.encStarted n lv) (but encEffectFields) ∧ (d.encStarted n lv).encCmd = d.encCmd ∧
    (d.encStarted n lv).encs = d.encs := by
  refine ⟨?_, raise_encCmd .., raise_encs ..⟩
  refine Device.keeps_trans (Device.keeps_trans (Device.keeps_trans (Device.keeps_put d F.ENC_SESS_STATE_LEVEL n lv.1 ?_)
    (Device.keeps_put _ F.ENC_SESS_STATE_TIER n lv.2 ?_)) (Device.keeps_put _ F.ENC_SESS_FULLNESS_BITS n 0 ?_))
    (Device.keeps_raise _ F.ENC_EVENTS_OPEN_DONE _ (by simp [encEffectFields]))
  all_goals exact encEffect_apart (by simp [encEffectFields])

theorem Device.encStarted_shows (lv : Nat × Nat) : (d.encStarted n lv).get F.ENC_SESS_STATE_OPEN n = d.get F.ENC_SESS_STATE_OPEN n ∧
    (d.encStarted n lv).get F.ENC_SESS_RES_BERTHS n = d.get F.ENC_SESS_RES_BERTHS n ∧
    (d.encStarted n lv).get F.ENC_EVENTS_OPEN_DONE = 1 ∧ (d.encStarted n lv).get F.ENC_SESS_FULLNESS_BITS n = 0 := by
  refine ⟨?_, ?_, Device.get_raise_same _ _ _ (by decide), ?_⟩
  · rw [encStarted, Device.get_raise _ _ _ _ _ (.inl (by decide)) (.inl (by decide)), Device.get_put_ne _ _ _ _ _ _ (by decide),
      Device.get_put_ne _ _ _ _ _ _ (by decide), Device.get_put_ne _ _ _ _ _ _ (by decide)]
  · rw [encStarted, Device.get_raise _ _ _ _ _ (.inl (by decide)) (.inl (by decide)), Device.get_put_ne _ _ _ _ _ _ (by decide),
      Device.get_put_ne _ _ _ _ _ _ (by decide), Device.get_put_ne _ _ _ _ _ _ (by decide)]
  · rw [encStarted, Device.get_raise _ _ _ _ _ (.inl (by decide)) (.inl (by decide)), Device.get_put_same, Nat.zero_mod]

theorem Device.encOpening_only : d.keeps (d.encOpening n) (but encEffectFields) ∧ (d.encOpening n).encCmd = d.encCmd ∧
    (d.encOpening n).enc n = { EncSess.empty with rec0 := (d.encRecs n).1, rec1 := (d.encRecs n).2 } ∧
    (d.encOpening n).get F.ENC_SESS_STATE_OPEN n = 1 ∧ (d.encOpening n).get F.ENC_SESS_RES_BERTHS n = d.get F.ENC_SESS_RES_BERTHS n := by
  have berths := d.encBerths_frame n (p := but encEffectFields) (but_mono (by simp [encEffectFields, berthFields]))
  have res := (d.encBerths_frame n (p := but berthFields) fun _ hg => hg).fields.1 F.ENC_SESS_RES_BERTHS n (by decide)
  unfold encOpening
  generalize d.encBerths n = b at *
  generalize d.encRecs n = r
  have opened : b.keeps ((b.setEnc n { EncSess.empty with rec0 := r.1, rec1 := r.2 }).put F.ENC_SESS_STATE_OPEN n 1) (but encEffectFields) :=
    Device.keeps_put (b.setEnc n _) F.ENC_SESS_STATE_OPEN n 1 (encEffect_apart (by simp [encEffectFields]))
  exact ⟨Device.keeps_trans berths.fields opened, berths.encCmd, Tab.get_set_same .., Device.get_put_same ..,
    (Device.get_put_ne _ _ _ _ _ _ (by decide)).trans res⟩

/-- What an OPEN leaves of its session, and all that it leaves. -/
theorem Device.encOpenNow_opens : d.keeps (d.encOpenNow n) (but encEffectFields) ∧ (d.encOpenNow n).encCmd = d.encCmd ∧
    (d.encOpenNow n).encOpened n = true ∧ ((d.encOpenNow n).enc n).v = 0 ∧ ((d.encOpenNow n).enc n).jobs = [] ∧
    (d.encOpenNow n).get F.ENC_EVENTS_OPEN_DONE = 1 ∧ (d.encOpenNow n).get F.ENC_SESS_RES_BERTHS n = d.get F.ENC_SESS_RES_BERTHS n ∧
    (d.encOpenNow n).get F.ENC_SESS_FULLNESS_BITS n = 0 := by
  obtain ⟨kept, cmd, sess, shown, res⟩ := d.encOpening_only n
  rw [encOpenNow_eq]
  generalize d.encOpening n = o at *
  generalize d.encLevel n (d.get F.ENC_SESS_RATE_BIT_RATE n) = lv
  obtain ⟨kept', cmd', encs'⟩ := o.encStarted_only n lv
  obtain ⟨shown', res', event, full⟩ := o.encStarted_shows n lv
  have sess' : (o.encStarted n lv).enc n = o.enc n := by rw [enc, encs', enc]
  refine ⟨Device.keeps_trans kept kept', cmd'.trans cmd, ?_, by rw [sess', sess]; rfl, by rw [sess', sess]; rfl, event, res'.trans res, full⟩
  rw [encOpened, on, shown', shown]
  rfl

/-- What a CLOSE leaves of its session, and all that it leaves. -/
theorem Device.encCloseNow_closes : d.keeps (d.encCloseNow n) (but encEffectFields) ∧ (d.encCloseNow n).encCmd = d.encCmd ∧
    (d.encCloseNow n).encOpened n = false ∧ (d.encCloseNow n).enc n = EncSess.empty ∧
    (d.encCloseNow n).get F.ENC_SESS_RES_BERTHS n = 0 ∧ (d.encCloseNow n).get F.ENC_SESS_RES_RESERVED_WU n = 0 := by
  obtain ⟨kept, cmd⟩ := d.encEmptied_frame n (p := but encEffectFields) (but_mono (by simp [encEffectFields, berthFields]))
  rw [encCloseNow_eq]
  refine ⟨?_, cmd, ?_, Tab.get_set_same .., ?_, Device.get_put_same ..⟩
  · have put (d e : Device) (f : Fld) (v : Nat) (hf : f ∈ encEffectFields) (h : d.keeps e (but encEffectFields)) :
        d.keeps (e.put f n v) (but encEffectFields) := Device.keeps_trans h (Device.keeps_put _ _ _ _ (encEffect_apart hf))
    refine put _ _ _ _ (by simp [encEffectFields]) (put _ _ _ _ (by simp [encEffectFields]) (put _ _ _ _ (by simp [encEffectFields]) ?_))
    exact Device.keeps_trans kept (Device.keeps_of_regs rfl _)
  · rw [encOpened, on, Device.get_put_ne _ _ _ _ _ _ (by decide), Device.get_put_ne _ _ _ _ _ _ (by decide), Device.get_put_same]
    rfl
  · rw [Device.get_put_ne _ _ _ _ _ _ (by decide)]
    exact Device.get_put_same ..

end Effect

/-! ### Reservations do not look at the status of a command -/

/-- Fields outside ENC_CMD_STATUS and DEC_CMD_STATUS. -/
def offStatus (f : Fld) : Bool := decide (f.id / 32 ≠ R.ENC_CMD_STATUS.base) && decide (f.id / 32 ≠ R.DEC_CMD_STATUS.base)

/-- From `d` to `e` nothing that reservations are judged by changed. -/
structure Device.SameReserves (d e : Device) : Prop where
  fields : d.keeps e offStatus
  retiredAt : e.retiredAt = d.retiredAt
  layout : e.layout = d.layout
  layoutReq : e.layoutReq = d.layoutReq

namespace Device.SameReserves

variable {d e : Device} (h : d.SameReserves e)

include h

theorem get {f : Fld} (hf : offStatus f = true) (i : Nat) : e.get f i = d.get f i := h.fields.1 f i hf

theorem poolFirst (c : Nat) : e.poolFirst c = d.poolFirst c := by
  simp (disch := decide) only [Device.poolFirst, poolCount, h.get]

theorem classOf (n : Nat) : e.classOf n = d.classOf n := by simp only [Device.classOf, h.poolFirst]

theorem berthAddr (n : Nat) : e.berthAddr n = d.berthAddr n := by
  simp (disch := decide) only [Device.berthAddr, poolBase, addr40, poolSize, h.get, h.classOf, h.poolFirst]

theorem poolSize (c : Nat) : e.poolSize c = d.poolSize c := by simp (disch := decide) only [Device.poolSize, h.get]

theorem retired (n : Nat) : e.retired n = d.retired n := by
  unfold Device.retired
  rw [h.retiredAt, h.berthAddr, h.classOf, h.poolSize]

theorem availOf (c : Nat) : e.availOf c = d.availOf c := by
  simp (disch := decide) only [Device.availOf, berthsOf, poolCount, h.get, h.poolFirst, h.retired]

theorem layoutRes (c : Nat) : e.layoutRes c = d.layoutRes c := by
  unfold Device.layoutRes
  rw [h.layout, h.layoutReq]

theorem reservedOf (c : Nat) : e.reservedOf c = d.reservedOf c := by
  have pin : e.pinRes c = d.pinRes c := by
    unfold pinRes
    have pinned (k : Nat) : e.getS F.CMP_BERTH_PIN_PINNED k = d.getS F.CMP_BERTH_PIN_PINNED k := h.fields.2 _ _ _ (by decide)
    have berth (k : Nat) : e.getS F.CMP_BERTH_PIN_BERTH k = d.getS F.CMP_BERTH_PIN_BERTH k := h.fields.2 _ _ _ (by decide)
    simp only [pinned, berth, h.classOf]
  have dec : e.decRes c = d.decRes c := by simp (disch := decide) only [decRes, h.get]
  have enc : e.encRes c = d.encRes c := by simp (disch := decide) only [encRes, h.get]
  rw [Device.reservedOf, h.layoutRes, dec, enc, pin, Device.reservedOf]

theorem classFor (b : Nat) : e.classFor b = d.classFor b := by
  have count : e.poolCount = d.poolCount := funext fun c => by simp (disch := decide) only [poolCount, h.get]
  have size : e.poolSize = d.poolSize := funext h.poolSize
  unfold Device.classFor
  rw [count, size]

theorem nd : e.nd = d.nd := by simp (disch := decide) only [Device.nd, h.get]

theorem margin : e.margin = d.margin := by simp (disch := decide) only [Device.margin, h.get]

theorem unitCap (c : Nat) : e.unitCap c = d.unitCap c := by
  unfold Device.unitCap
  rw [h.nd]

theorem coreCap (c : Nat) : e.coreCap c = d.coreCap c := by rw [Device.coreCap, h.unitCap, h.margin, Device.coreCap]

theorem classCap (c : Nat) : e.classCap c = d.classCap c := by
  unfold Device.classCap
  simp only [h.coreCap, h.unitCap, h.margin]

theorem encReserve (n : Nat) : e.encReserve n = d.encReserve n := by
  have w : e.encW n = d.encW n := by simp (disch := decide) only [encW, h.get]
  have hh : e.encH n = d.encH n := by simp (disch := decide) only [encH, h.get]
  have use (c : Nat) : e.encCoreUse c = d.encCoreUse c := by simp (disch := decide) only [encCoreUse, h.get]
  have row (c : Nat) : e.encRowCore n c = d.encRowCore n c := by simp (disch := decide) only [encRowCore, on, h.get]
  have pipe : e.on F.ENC_SESS_CFG_PIPE n = d.on F.ENC_SESS_CFG_PIPE n := by simp (disch := decide) only [on, h.get]
  have place : e.encPlace n = d.encPlace n := by
    unfold encPlace
    simp only [w, hh, use, row, h.classCap, h.coreCap, pipe]
  unfold Device.encReserve
  simp only [place, w, hh, h.classFor, h.reservedOf, h.availOf]

theorem decReserve (n : Nat) : e.decReserve n = d.decReserve n := by
  have need : e.decNeed n = d.decNeed n := by
    unfold decNeed
    simp (disch := decide) only [h.get, h.nd]
  have use (c : Nat) : e.decCoreUse c = d.decCoreUse c := by simp (disch := decide) only [decCoreUse, h.get]
  have place (wu : Nat) : e.decPlace wu = d.decPlace wu := by
    unfold decPlace
    simp only [use, h.classCap, h.coreCap]
  unfold Device.decReserve
  simp (disch := decide) only [need, place, h.get, h.classFor, h.reservedOf, h.availOf]

end Device.SameReserves

/-! ### Encode commands are checked -/

/-- The device that an accepted command finds: what it shows, and the reservations of an OPEN. -/
def Device.encAccepted (d : Device) (slot op n : Nat) : Device :=
  if op = 1 then match d.encReserve n with
    | .ok q => (d.encShown slot op n 1).encReserved n q
    | .error _ => d.encShown slot op n 1
  else d.encShown slot op n 1

theorem Device.encReserve_shown (d : Device) (slot op n r : Nat) : (d.encShown slot op n r).encReserve n = d.encReserve n := by
  have apart (f : Fld) (hf : f ∈ encShownFields) (g : Fld) (hg : offStatus g = true) : f.id ≠ g.id := by
    intro h
    have off : ∀ f ∈ encShownFields, offStatus f = false := by decide
    have := off f hf
    rw [offStatus, h] at this
    exact Bool.false_ne_true (this.symm.trans hg)
  have kept : d.keeps (d.encShown slot op n r) offStatus :=
    Device.keeps_trans (Device.keeps_trans (Device.keeps_trans (d.keeps_put _ _ _ (apart _ (by simp [encShownFields])))
      (Device.keeps_put _ _ _ _ (apart _ (by simp [encShownFields])))) (Device.keeps_put _ _ _ _ (apart _ (by simp [encShownFields]))))
      (Device.keeps_put _ _ _ _ (apart _ (by simp [encShownFields])))
  exact SameReserves.encReserve ⟨kept, rfl, rfl, rfl⟩ n

section Command

variable {d : Device} {slot op n : Nat}

/-- An accepted command waits in RUN and acts outside. -/
def Device.encGoes (e : Device) (slot op n : Nat) : Device :=
  if e.pwr = .run then { e with encCmd := some ⟨op, n, slot⟩ }.put F.ENC_CMD_STATUS_PENDING 0 1 else e.encEffect ⟨op, n, slot⟩

theorem Device.encCommand_refused (h : d.encCheck op n ≠ 0) :
    d.encCommand slot op n = (d.encShown slot op n (d.encCheck op n)).raise F.ENC_EVENTS_CMD_REFUSED n := by
  delta encCommand
  extract_lets r e
  rw [if_pos h]
  have shown : e = d.encShown slot op n (if d.encCheck op n = 0 then 1 else d.encCheck op n) := rfl
  rw [shown, if_neg h]

theorem Device.encCommand_accepted (h : d.encCheck op n = 0) : d.encCommand slot op n = (d.encAccepted slot op n).encGoes slot op n := by
  delta encCommand
  extract_lets r e e'
  have shown : e = d.encShown slot op n 1 := congrArg (d.encShown slot op n) (if_pos h)
  clear_value e
  have reserve : e.encReserve n = d.encReserve n := by rw [shown, encReserve_shown]
  have accepted : e' = d.encAccepted slot op n := by
    unfold encAccepted
    by_cases hop : op = 1
    · rcases hq : d.encReserve n with x | ⟨core, wu, c⟩ <;> simp only [e', if_pos hop, reserve, hq, encReserved] <;> rw [shown]
    · simp only [e', if_neg hop, shown]
  clear_value e'
  rw [if_neg (not_not.mpr h), accepted, encGoes]

theorem Device.encAccepted_pwr : (d.encAccepted slot op n).pwr = d.pwr := by
  unfold encAccepted
  split
  · split <;> rfl
  · rfl

/-- An accepted command leaves sessions and berths for its effect. -/
theorem Device.encAccepted_only : (d.encAccepted slot op n).encs = d.encs ∧ (d.encAccepted slot op n).berths = d.berths ∧
    (d.encAccepted slot op n).encCmd = d.encCmd ∧ (d.encAccepted slot op n).get F.ENC_SESS_STATE_OPEN n = d.get F.ENC_SESS_STATE_OPEN n := by
  have shown : (d.encShown slot op n 1).get F.ENC_SESS_STATE_OPEN n = d.get F.ENC_SESS_STATE_OPEN n :=
    (d.keeps_encShown slot op n 1 fun _ h => h).1 _ _ (by decide)
  unfold encAccepted
  split
  · split
    · refine ⟨rfl, rfl, rfl, ?_⟩
      rw [encReserved, get_put_ne _ _ _ _ _ _ (by decide), get_put_ne _ _ _ _ _ _ (by decide), get_put_ne _ _ _ _ _ _ (by decide),
        get_put_ne _ _ _ _ _ _ (by decide), shown]
    · exact ⟨rfl, rfl, rfl, shown⟩
  · exact ⟨rfl, rfl, rfl, shown⟩

theorem Device.encAccepted_shows (hs : slot < 8) (hop : op < 4) (hn : n < 32) : (d.encAccepted slot op n).ShowsEnc slot op n 1 := by
  have shown := d.encShown_shows hs hop hn (show 1 < 8 by decide)
  unfold encAccepted
  split
  · split
    · refine shown.keeps (p := fun f => f.id / 32 = R.ENC_CMD_STATUS.base) ?_ (by decide)
      unfold encReserved
      have apart (f : Fld) (hf : f.id / 32 ≠ R.ENC_CMD_STATUS.base) (g : Fld) (hg : decide (g.id / 32 = R.ENC_CMD_STATUS.base) = true) :
          f.id ≠ g.id := fun h => hf (h ▸ of_decide_eq_true hg)
      exact Device.keeps_trans (Device.keeps_trans (Device.keeps_trans (Device.keeps_put _ _ _ _ (apart _ (by decide)))
        (Device.keeps_put _ _ _ _ (apart _ (by decide)))) (Device.keeps_put _ _ _ _ (apart _ (by decide)))) (Device.keeps_put _ _ _ _ (apart _ (by decide)))
    · exact shown
  · exact shown

theorem Device.encReserve_error {e : Nat} (he : d.encReserve n = .error e) : e = 6 ∨ e = 7 := by
  unfold encReserve at he
  split at he
  · cases he; exact .inl rfl
  · split at he
    · cases he; exact .inr rfl
    · split at he <;> cases he
      exact .inr rfl

theorem Device.encReserve_of_check (h : d.encCheck 1 n = 0) : ∃ q, d.encReserve n = .ok q := by
  rw [encCheck_eq] at h
  cases he : d.encReserve n with
  | ok q => exact ⟨q, rfl⟩
  | error e =>
    rw [he] at h
    split_ifs at h with _ _ _ h1
    · exact absurd rfl h1
    · rcases encReserve_error he with rfl | rfl <;> cases h

theorem Device.encCheck_lt : d.encCheck op n < 8 := by
  rw [encCheck_eq]
  cases he : d.encReserve n with
  | ok q =>
    dsimp only
    split_ifs <;> decide
  | error e => rcases encReserve_error he with rfl | rfl <;> split_ifs <;> decide

theorem Device.encAccepted_reserves (h : d.encCheck 1 n = 0) : (d.encAccepted slot 1 n).get F.ENC_SESS_RES_BERTHS n = 2 := by
  obtain ⟨q, hq⟩ := encReserve_of_check h
  rw [encAccepted, if_pos rfl, hq]
  exact (get_put_same ..).trans rfl

end Command

theorem Device.encWrite_command (d : Device) (slot w : Nat) : d.encWrite slot R.ENC_CMD 0 w =
    if F.ENC_CMD_OP.of w = 0 then d else d.encCommand slot (F.ENC_CMD_OP.of w) (F.ENC_CMD_SESSION.of w) := if_pos rfl

section Run

variable {s : State} {slot op n : Nat} (hs : slot < 8) (hn : n < 32) (h1 : 1 ≤ op) (h3 : op ≤ 3)
  (ha : s.chip.admits slot R.ENC_CMD 0 (encWord op n) = true)

include hs hn h1 h3 ha

theorem encCommand_runs : ∃ t e, e = s.chip.dev.quiet.encCommand slot op n ∧
    exec (if op = 1 then .encOpen slot n else if op = 2 then .encClose slot n else .encRefresh slot n) s = .next t ∧ t.chip.mem = s.chip.mem ∧
    t.chip.dev.regs = e.regs ∧ t.chip.dev.encs = e.encs ∧ t.chip.dev.encCmd = e.encCmd ∧ t.chip.dev.berths = e.berths := by
  obtain ⟨hw, hop, hsess⟩ := encWord_reads n hn op (by omega)
  obtain ⟨e, he⟩ : ∃ e, e = s.chip.dev.quiet.encCommand slot op n := ⟨_, rfl⟩
  obtain ⟨t, p, ht, hm, hd⟩ := writeTo_effect (m := s.chip.mem) (d := e) (by decide) hs hw rfl ha (by
    have effect (w : Nat) : s.chip.quiet.writeEffect slot R.ENC_CMD 0 w s.chip.quiet.dev =
      ⟨s.chip.mem, s.chip.dev.quiet.encWrite slot R.ENC_CMD 0 w⟩ := rfl
    rw [effect, Device.encWrite_command, hop, hsess, if_neg (by omega), he])
  have same : exec (if op = 1 then .encOpen slot n else if op = 2 then .encClose slot n else .encRefresh slot n) s =
      writeTo slot R.ENC_CMD 0 (encWord op n) s := by
    obtain rfl | rfl | rfl : op = 1 ∨ op = 2 ∨ op = 3 := by omega
    all_goals rfl
  exact ⟨t, e, he, same.trans ht, hm, by rw [hd]; rfl, by rw [hd]; rfl, by rw [hd]; rfl, by rw [hd]; rfl⟩

end Run

/-- An encode command that fails a check is shown with its result, and changes no session. -/
theorem Device.encRefused_only (d : Device) {slot op n r : Nat} (hs : slot < 8) (hop : op < 4) (hn : n < 32) (hr : r < 8) :
    let e := (d.encShown slot op n r).raise F.ENC_EVENTS_CMD_REFUSED n
    e.ShowsEnc slot op n r ∧ e.get F.ENC_EVENTS_CMD_REFUSED = 1 ∧ e.encs = d.encs ∧ e.encCmd = d.encCmd ∧ e.berths = d.berths ∧
      d.keeps e (but (encShownFields ++ [F.ENC_EVENTS_CMD_REFUSED])) := by
  intro e
  have raised : (d.encShown slot op n r).keeps e (but [F.ENC_EVENTS_CMD_REFUSED]) := Device.keeps_raise _ _ _ (by simp)
  refine ⟨(d.encShown_shows hs hop hn hr).keeps raised (by decide), Device.get_raise_same _ _ _ (by decide), raise_encs .., raise_encCmd ..,
    raise_berths .., ?_⟩
  exact Device.keeps_trans (d.keeps_encShown slot op n r fun f hf => List.mem_append_left _ hf) (Device.keeps_raise _ _ _ (by simp))

/-- An encode command that waits for the edge. -/
theorem Device.encWaits (d : Device) {slot op n : Nat} (hs : slot < 8) (hop : op < 4) (hn : n < 32) (hrun : d.pwr = .run) :
    let e := (d.encAccepted slot op n).encGoes slot op n
    e.ShowsEnc slot op n 1 ∧ e.encCmd = some ⟨op, n, slot⟩ ∧ e.get F.ENC_CMD_STATUS_PENDING = 1 ∧ e.encOpened n = d.encOpened n ∧ e.encs = d.encs ∧
      e.berths = d.berths := by
  intro e
  obtain ⟨hencs, hberths, -, hopen⟩ := d.encAccepted_only (slot := slot) (op := op) (n := n)
  have shows_ := d.encAccepted_shows hs hop hn
  have pwr := (d.encAccepted_pwr (slot := slot) (op := op) (n := n)).trans hrun
  have waits : e = { d.encAccepted slot op n with encCmd := some ⟨op, n, slot⟩ }.put F.ENC_CMD_STATUS_PENDING 0 1 := if_pos pwr
  clear_value e
  generalize d.encAccepted slot op n = a at *
  have kept : a.keeps e (but [F.ENC_CMD_STATUS_PENDING]) := by
    rw [waits]
    exact Device.keeps_put { a with encCmd := some ⟨op, n, slot⟩ } _ _ _ (but_apart (by simp))
  refine ⟨shows_.keeps kept (by decide), by rw [waits]; rfl, ?_, ?_, ?_, ?_⟩
  · rw [waits, get_put_same]
    rfl
  · rw [encOpened, on, kept.1 _ _ (by decide), hopen]
    rfl
  · rw [← hencs, waits]
    rfl
  · rw [← hberths, waits]
    rfl

/-- An encode command that acts at once. -/
theorem Device.encActs (d : Device) {slot op n : Nat} (hs : slot < 8) (hop : op < 4) (hn : n < 32) (h1 : 1 ≤ op) (hrun : d.pwr ≠ .run)
    (hc : d.encCheck op n = 0) :
    let e := (d.encAccepted slot op n).encGoes slot op n
    e.ShowsEnc slot op n 1 ∧ e.encCmd = d.encCmd ∧ (e.encOpened n = true ↔ op ≠ 2) ∧
      (op = 1 → (e.enc n).v = 0 ∧ (e.enc n).jobs = [] ∧ e.get F.ENC_EVENTS_OPEN_DONE = 1 ∧ e.get F.ENC_SESS_RES_BERTHS n = 2 ∧
        e.get F.ENC_SESS_FULLNESS_BITS n = 0) ∧
      (op = 2 → (e.enc n).jobs = [] ∧ (e.enc n).feeds = [] ∧ e.get F.ENC_SESS_RES_BERTHS n = 0 ∧ e.get F.ENC_SESS_RES_RESERVED_WU n = 0) ∧
      (op = 3 → e.enc n = { d.enc n with restart := true }) := by
  intro e
  obtain ⟨hencs, -, hcmd, hopen⟩ := d.encAccepted_only (slot := slot) (op := op) (n := n)
  have shows_ := d.encAccepted_shows hs hop hn
  have pwr : (d.encAccepted slot op n).pwr ≠ .run := (d.encAccepted_pwr (slot := slot) (op := op) (n := n)) ▸ hrun
  have acts : e = (d.encAccepted slot op n).encEffect ⟨op, n, slot⟩ := if_neg pwr
  have reserves (h : op = 1) : (d.encAccepted slot op n).get F.ENC_SESS_RES_BERTHS n = 2 := by
    subst h
    exact encAccepted_reserves hc
  clear_value e
  generalize d.encAccepted slot op n = a at *
  obtain rfl | rfl | rfl : op = 1 ∨ op = 2 ∨ op = 3 := by omega
  · obtain ⟨kept, cmd, opened, v, jobs, event, res, full⟩ := a.encOpenNow_opens n
    have open_ : e = a.encOpenNow n := acts
    subst open_
    exact ⟨shows_.keeps kept (by decide), cmd.trans hcmd, by simp [opened], fun _ => ⟨v, jobs, event, res.trans (reserves rfl), full⟩, by simp, by simp⟩
  · obtain ⟨kept, cmd, closed, sess, berths, wu⟩ := a.encCloseNow_closes n
    have close : e = a.encCloseNow n := acts
    subst close
    exact ⟨shows_.keeps kept (by decide), cmd.trans hcmd, by simp [closed], by simp, fun _ => ⟨by rw [sess]; rfl, by rw [sess]; rfl, berths, wu⟩, by simp⟩
  · have refresh : e = a.setEnc n { a.enc n with restart := true } := acts
    have opened : d.encOpened n = true := by
      rw [encCheck_eq] at hc
      by_contra h
      rw [Bool.not_eq_true] at h
      simp only [h] at hc
      split_ifs at hc <;> simp at *
    have same : a.enc n = d.enc n := by rw [enc, hencs, enc]
    have gets : e.get F.ENC_SESS_STATE_OPEN n = a.get F.ENC_SESS_STATE_OPEN n := by rw [refresh]; rfl
    refine ⟨shows_.keeps (p := fun _ => true) (Device.keeps_of_regs (by rw [refresh]; rfl) _) (by simp), ?_, ?_, by simp, by simp, fun _ => ?_⟩
    · rw [refresh, ← hcmd]
      rfl
    · rw [encOpened, on, gets, hopen]
      simpa [encOpened, on] using opened
    · rw [refresh, ← same]
      exact Tab.get_set_same ..

/-! ### Bit rates -/

theorem findReg_rate : ∀ n < 32, findReg (R.ENC_SESS_RATE.base + R.ENC_SESS_RATE.stride * n) = some (R.ENC_SESS_RATE, n) := by decide +kernel

theorem rateWord {rate pics : Nat} (hr : rate < 2 ^ 18) (hp : pics < 16) :
    F.ENC_SESS_RATE_BIT_RATE.at rate + F.ENC_SESS_RATE_BUF_PICS.at pics < 2 ^ 32 ∧
    F.ENC_SESS_RATE_BIT_RATE.of (F.ENC_SESS_RATE_BIT_RATE.at rate + F.ENC_SESS_RATE_BUF_PICS.at pics) = rate ∧
    F.ENC_SESS_RATE_BUF_PICS.of (F.ENC_SESS_RATE_BIT_RATE.at rate + F.ENC_SESS_RATE_BUF_PICS.at pics) = pics := by
  simp only [Fld.of, Fld.at, F.ENC_SESS_RATE_BIT_RATE, F.ENC_SESS_RATE_BUF_PICS]
  omega

section Rate

variable (d : Device) (slot n w : Nat)

theorem Device.storeRate_run (hrun : d.pwr = .run) : d.storeWord R.ENC_SESS_RATE slot n w =
    { d.put F.ENC_SESS_RATE_BUF_PICS n (F.ENC_SESS_RATE_BUF_PICS.of w) with rwt := Tab.set d.rwt (F.ENC_SESS_RATE_BIT_RATE.id, n, 0) (F.ENC_SESS_RATE_BIT_RATE.of w) } := by
  have stored : d.storeWord R.ENC_SESS_RATE slot n w =
      let e := d.put F.ENC_SESS_RATE_BUF_PICS n (F.ENC_SESS_RATE_BUF_PICS.of w)
      if e.pwr = .run then { e with rwt := Tab.set e.rwt (F.ENC_SESS_RATE_BIT_RATE.id, n, 0) (F.ENC_SESS_RATE_BIT_RATE.of w) }
      else { e.put F.ENC_SESS_RATE_BIT_RATE n (F.ENC_SESS_RATE_BIT_RATE.of w) with rwt := Tab.del e.rwt (F.ENC_SESS_RATE_BIT_RATE.id, n, 0) } := rfl
  rw [stored]
  exact if_pos hrun

theorem Device.storeRate_at_once (hrun : d.pwr ≠ .run) :
    (d.storeWord R.ENC_SESS_RATE slot n w).regs = ((d.put F.ENC_SESS_RATE_BUF_PICS n (F.ENC_SESS_RATE_BUF_PICS.of w)).put
      F.ENC_SESS_RATE_BIT_RATE n (F.ENC_SESS_RATE_BIT_RATE.of w)).regs ∧ (d.storeWord R.ENC_SESS_RATE slot n w).encs = d.encs := by
  have stored : d.storeWord R.ENC_SESS_RATE slot n w =
      let e := d.put F.ENC_SESS_RATE_BUF_PICS n (F.ENC_SESS_RATE_BUF_PICS.of w)
      if e.pwr = .run then { e with rwt := Tab.set e.rwt (F.ENC_SESS_RATE_BIT_RATE.id, n, 0) (F.ENC_SESS_RATE_BIT_RATE.of w) }
      else { e.put F.ENC_SESS_RATE_BIT_RATE n (F.ENC_SESS_RATE_BIT_RATE.of w) with rwt := Tab.del e.rwt (F.ENC_SESS_RATE_BIT_RATE.id, n, 0) } := rfl
  have now : d.storeWord R.ENC_SESS_RATE slot n w = _ := stored.trans (if_neg hrun)
  rw [now]
  exact ⟨rfl, rfl⟩

/-- What the write of a bit rate does besides storing it. -/
def Device.rateSet (i : Nat) : Device := if d.pwr = .run ∨ !d.encOpened i then d else d.encRateEdge i

theorem Device.rateSet_only : d.keeps (d.rateSet n) (but [F.ENC_SESS_STATE_LEVEL, F.ENC_SESS_STATE_TIER]) ∧ (d.rateSet n).encs = d.encs ∧
    (d.pwr = .run → d.rateSet n = d) := by
  refine ⟨?_, ?_, fun h => if_pos (.inl h)⟩ <;> unfold rateSet
  · split
    · exact d.keeps_refl _
    · exact Device.keeps_trans (d.keeps_put F.ENC_SESS_STATE_LEVEL n _ (but_apart (by simp))) (Device.keeps_put _ F.ENC_SESS_STATE_TIER n _ (but_apart (by simp)))
  · split <;> rfl

end Rate

theorem encBitRate_admitted {s : State} {slot n rate pics : Nat} (hs : slot < 8) (hn : n < 32) (hr : rate < 2 ^ 18) (hp : pics < 16)
    (ha : s.chip.admits slot R.ENC_SESS_RATE n (F.ENC_SESS_RATE_BIT_RATE.at rate + F.ENC_SESS_RATE_BUF_PICS.at pics) = true) :
    ∃ t, exec (.encBitRateWrite slot n rate pics) s = .next t ∧ t.chip.mem = s.chip.mem ∧ t.chip.dev.encs = s.chip.dev.encs ∧
      t.chip.dev.get F.ENC_SESS_RATE_BUF_PICS n = pics ∧
      (s.chip.dev.pwr = .run → t.chip.dev.get F.ENC_SESS_RATE_BIT_RATE n = s.chip.dev.get F.ENC_SESS_RATE_BIT_RATE n ∧
        Tab.find t.chip.dev.rwt (F.ENC_SESS_RATE_BIT_RATE.id, n, 0) = some rate) ∧
      (s.chip.dev.pwr ≠ .run → t.chip.dev.get F.ENC_SESS_RATE_BIT_RATE n = rate) := by
  obtain ⟨hw, hrate, hpics⟩ := rateWord hr hp
  generalize hword : F.ENC_SESS_RATE_BIT_RATE.at rate + F.ENC_SESS_RATE_BUF_PICS.at pics = w at *
  obtain ⟨e, he⟩ : ∃ e, e = s.chip.dev.quiet.storeWord R.ENC_SESS_RATE slot n w := ⟨_, rfl⟩
  obtain ⟨t, p, ht, hm, hd⟩ := writeTo_acts (m := s.chip.mem) (d := e.rateSet n) (by decide) hs hw (findReg_rate n hn) ha (by rw [he]; rfl)
  have run : exec (.encBitRateWrite slot n rate pics) s = writeTo slot R.ENC_SESS_RATE (n % 32)
    (F.ENC_SESS_RATE_BIT_RATE.at rate + F.ENC_SESS_RATE_BUF_PICS.at pics) s := rfl
  rw [Nat.mod_eq_of_lt hn, hword, ht] at run
  obtain ⟨kept, encs, same⟩ := e.rateSet_only n
  have hregs : t.chip.dev.regs = (e.rateSet n).regs := by rw [hd]; rfl
  have hrwt : t.chip.dev.rwt = (e.rateSet n).rwt := by rw [hd]; rfl
  have hencs : t.chip.dev.encs = (e.rateSet n).encs := by rw [hd]; rfl
  have gets (f : Fld) (hf : but [F.ENC_SESS_STATE_LEVEL, F.ENC_SESS_STATE_TIER] f = true) : t.chip.dev.get f n = e.get f n :=
    (Device.get_congr hregs ..).trans (kept.1 f n hf)
  have pics16 : pics % 2 ^ F.ENC_SESS_RATE_BUF_PICS.width = pics := Nat.mod_eq_of_lt hp
  have rate18 : rate % 2 ^ F.ENC_SESS_RATE_BIT_RATE.width = rate := Nat.mod_eq_of_lt hr
  refine ⟨t, run, hm, ?_⟩
  rw [hencs, encs, gets _ (by decide), gets _ (by decide)]
  by_cases hrun : s.chip.dev.pwr = .run
  · have stored := s.chip.dev.quiet.storeRate_run slot n w hrun
    rw [← he, hpics, hrate] at stored
    have runs : e.pwr = .run := by rw [stored]; exact hrun
    have regs : e.regs = (s.chip.dev.quiet.put F.ENC_SESS_RATE_BUF_PICS n pics).regs := by rw [stored]
    refine ⟨by rw [stored]; rfl, ?_, fun _ => ⟨?_, ?_⟩, fun h => absurd hrun h⟩
    · rw [Device.get_congr regs, Device.get_put_same, pics16]
    · rw [Device.get_congr regs, Device.get_put_ne _ _ _ _ _ _ (by decide)]
      rfl
    · rw [hrwt, same runs, stored]
      exact Tab.find_set_same ..
  · obtain ⟨regs, kept⟩ := s.chip.dev.quiet.storeRate_at_once slot n w hrun
    rw [← he] at regs kept
    rw [hpics, hrate] at regs
    refine ⟨kept, ?_, fun h => absurd h hrun, fun _ => ?_⟩
    · rw [Device.get_congr regs, Device.get_put_ne _ _ _ _ _ _ (by decide), Device.get_put_same, pics16]
    · rw [Device.get_congr regs, Device.get_put_same, rate18]

/-- A bit rate below the floor is dropped (R186). -/
theorem Device.ownDrop_rate {d : Device} {n w : Nat} (h : d.encFloorOk n (F.ENC_SESS_RATE_BIT_RATE.of w) = false) :
    d.ownDrop R.ENC_SESS_RATE n w = (true, false) := by
  have drop : d.ownDrop R.ENC_SESS_RATE n w =
    if d.hidden R.ENC_SESS_RATE n then (true, false) else (!d.encFloorOk n (F.ENC_SESS_RATE_BIT_RATE.of w), false) := rfl
  rw [drop, h]
  split <;> rfl

theorem encBitRate_dropped {s : State} {slot n rate pics : Nat} (hs : slot < 8) (hn : n < 32) (hr : rate < 2 ^ 18) (hp : pics < 16)
    (hon : s.chip.dev.pd1On = true) (hfault : s.chip.dev.regFault slot (R.ENC_SESS_RATE.base + R.ENC_SESS_RATE.stride * n) 32 true = none)
    (hrole : s.chip.dev.roleRefuses 7 false = false) (hdef : s.chip.dev.defers = false) (hfloor : s.chip.dev.encFloorOk n rate = false) :
    ∃ t, exec (.encBitRateWrite slot n rate pics) s = .next t ∧ t.chip.mem = s.chip.mem ∧ t.chip.dev.rwt = s.chip.dev.rwt ∧
      t.chip.dev.get F.ENC_SESS_RATE_BIT_RATE n = s.chip.dev.get F.ENC_SESS_RATE_BIT_RATE n ∧
      t.chip.dev.get F.ENC_SESS_RATE_BUF_PICS n = s.chip.dev.get F.ENC_SESS_RATE_BUF_PICS n ∧ t.chip.dev.get F.SYS_EVENTS_CFG_DROPPED = 1 := by
  obtain ⟨hw, hrate, -⟩ := rateWord hr hp
  generalize hword : F.ENC_SESS_RATE_BIT_RATE.at rate + F.ENC_SESS_RATE_BUF_PICS.at pics = w at *
  have addr : ∀ n < 32, (R.ENC_SESS_RATE.base + R.ENC_SESS_RATE.stride * n) / 65536 = 7 ∧
    isEvq (R.ENC_SESS_RATE.base + R.ENC_SESS_RATE.stride * n) = false := by decide +kernel
  have hreg := findReg_rate n hn
  obtain ⟨hblock, hevq⟩ := addr n hn
  have run : exec (.encBitRateWrite slot n rate pics) s = writeTo slot R.ENC_SESS_RATE (n % 32)
    (F.ENC_SESS_RATE_BIT_RATE.at rate + F.ENC_SESS_RATE_BUF_PICS.at pics) s := rfl
  rw [Nat.mod_eq_of_lt hn, hword, writeTo] at run
  generalize R.ENC_SESS_RATE.base + R.ENC_SESS_RATE.stride * n = a at *
  have drop : s.chip.dev.quiet.ownDrop R.ENC_SESS_RATE n w = (true, false) := Device.ownDrop_rate (by rw [hrate]; exact hfloor)
  have reach := Chip.doWrite_reaches (c := s.chip.quiet) (w := w) (hwSet := 0) hs hon hfault (by rw [hblock, hevq]; exact hrole)
    (by rw [show s.chip.quiet.dev.defers = false from hdef]; rfl)
  have dropped : s.chip.quiet.regWrite slot a w 0 = ⟨s.chip.mem, s.chip.dev.quiet.dropWrite slot a⟩ := by
    have effect : s.chip.quiet.dev.ownDrop R.ENC_SESS_RATE n w = (true, false) := drop
    simp only [Chip.regWrite, hreg, effect, if_true, Bool.false_eq_true, if_false]
    rfl
  rw [Nat.mod_eq_of_lt hw, dropped] at reach
  obtain ⟨t, ht, hm, hd⟩ := onChip_next run reach
  have kept := s.chip.dev.quiet.keeps_dropWrite slot a
  have hregs : t.chip.dev.regs = (s.chip.dev.quiet.dropWrite slot a).regs := by rw [hd]; rfl
  refine ⟨t, ht, hm, ?_, ?_, ?_, ?_⟩
  · rw [hd]
    exact Device.dropWrite_rwt ..
  · rw [Device.get_congr hregs]
    exact kept.1 _ _ (by decide)
  · rw [Device.get_congr hregs]
    exact kept.1 _ _ (by decide)
  · rw [Device.get_congr hregs]
    exact Device.get_dropWrite_event ..

/-- Settles O34: the checks of R183 come first, then what the command shows, then its effect at once or at the edge. -/
theorem encodeCommandsAreChecked : Obligations.EncodeCommandsAreChecked := by
  refine ⟨fun s slot n op hs hn h1 h3 ha => ?_, fun s slot n rate pics hs hn hr hp =>
    ⟨encBitRate_admitted hs hn hr hp, encBitRate_dropped hs hn hr hp⟩⟩
  intro d r
  obtain ⟨t, e, he, ht, hm, hregs, hencs, hcmd, hberths⟩ := encCommand_runs hs hn h1 h3 ha
  have quiet : d.quiet.encCheck op n = d.encCheck op n := rfl
  have check : d.quiet.encCheck op n = r := by
    refine quiet.trans ((d.encCheck_eq op n).trans ?_)
    cases hq : d.encReserve n <;> simp only [r, hq]
  clear_value r
  have gets := fun f i => Device.get_congr hregs f i
  have opened : t.chip.dev.encOpened n = e.encOpened n := by rw [Device.encOpened, Device.on, gets, Device.encOpened, Device.on]
  have sess : t.chip.dev.enc n = e.enc n := by rw [Device.enc, hencs, Device.enc]
  refine ⟨t, ht, hm, ?_⟩
  rw [gets, gets, gets, gets, hencs, hcmd, hberths, opened, sess]
  by_cases h0 : r = 0
  · rw [h0] at check
    rw [Device.encCommand_accepted check] at he
    simp only [h0, ne_eq, not_true_eq_false, IsEmpty.forall_iff, true_and, if_true, true_implies]
    by_cases hrun : d.pwr = .run
    · obtain ⟨shown, cmd, pending, same, encs, berths⟩ := d.quiet.encWaits hs (show op < 4 by omega) hn hrun
      rw [← he] at shown cmd pending same encs berths
      exact ⟨shown.slot, shown.op, shown.session, shown.result, fun _ => ⟨cmd, (gets ..).trans pending, same, encs, berths⟩, fun h => absurd hrun h⟩
    · obtain ⟨shown, cmd, open_, opens, closes, refreshes⟩ := d.quiet.encActs hs (show op < 4 by omega) hn h1 hrun check
      rw [← he] at shown cmd open_ opens closes refreshes
      rw [gets, gets, gets, gets, gets]
      exact ⟨shown.slot, shown.op, shown.session, shown.result, fun h => absurd h hrun, fun _ => ⟨cmd, open_, opens, closes, refreshes⟩⟩
  · have refused : d.quiet.encCheck op n ≠ 0 := check ▸ h0
    rw [Device.encCommand_refused refused, check] at he
    obtain ⟨shown, event, encs, cmd, berths, kept⟩ := d.quiet.encRefused_only hs (show op < 4 by omega) hn (check ▸ d.quiet.encCheck_lt)
    rw [← he] at shown event encs cmd berths kept
    simp only [h0, ne_eq, not_false_eq_true, IsEmpty.forall_iff, and_true, if_false, true_implies]
    exact ⟨shown.slot, shown.op, shown.session, shown.result, (gets ..).trans event, encs, cmd, berths,
      Device.keeps_trans kept (Device.keeps_of_regs hregs _)⟩

end Sys2Proof.Machine
end

section
/-!
SUPPORT. Decode commands: O32.
-/

namespace Sys2Proof.Machine

/-! ### Decode commands -/

theorem decWord_reads : ∀ n < 256, ∀ op < 4, decWord op n < 2 ^ 32 ∧ F.DEC_CMD_OP.of (decWord op n) = op ∧
    F.DEC_CMD_SESSION.of (decWord op n) = n := by decide +kernel

/-- The result of the checks, as R163 lists them. -/
theorem Device.decCheck_eq (d : Device) (op n : Nat) : d.decCheck op n =
    if d.decCmd.isSome then 2 else if op = 1 ∧ d.decState n ≠ 0 then 3 else if op ≠ 1 ∧ d.decState n = 0 then 3
      else if op ≠ 1 then 0 else if d.decFormatOk n = false then 4 else if d.decSourceOk n = false then 5
      else match d.decReserve n with
        | .error e => e
        | .ok _ => 0 := by
  unfold decCheck
  by_cases hop : op = 1 <;> by_cases hst : d.decState n = 0 <;> cases d.decFormatOk n <;> cases d.decSourceOk n <;> simp [hop, hst] <;> rfl

/-- The fields in which DEC_CMD_STATUS shows a command. -/
def decShownFields : List Fld := [F.DEC_CMD_STATUS_REQ_SLOT, F.DEC_CMD_STATUS_OP, F.DEC_CMD_STATUS_SESSION, F.DEC_CMD_STATUS_RESULT]

/-- A command and its result shown. -/
def Device.decShown (d : Device) (slot op n r : Nat) : Device :=
  (((d.put F.DEC_CMD_STATUS_REQ_SLOT 0 slot).put F.DEC_CMD_STATUS_OP 0 op).put F.DEC_CMD_STATUS_SESSION 0 n).put F.DEC_CMD_STATUS_RESULT 0 r

/-- The reservations of an OPEN recorded. -/
def Device.decReserved (d : Device) (n : Nat) (q : Nat × Nat × Nat × Nat) : Device :=
  (((d.put F.DEC_SESS_STATE_CORE n q.1).put F.DEC_SESS_RES_RESERVED_WU n q.2.1).put F.DEC_SESS_RES_CLASS n q.2.2.1).put
    F.DEC_SESS_RES_BERTHS n q.2.2.2

/-- DEC_CMD_STATUS shows the command and its result. -/
structure Device.ShowsDec (d : Device) (slot op n r : Nat) : Prop where
  slot : d.get F.DEC_CMD_STATUS_REQ_SLOT = slot
  op : d.get F.DEC_CMD_STATUS_OP = op
  session : d.get F.DEC_CMD_STATUS_SESSION = n
  result : d.get F.DEC_CMD_STATUS_RESULT = r

theorem Device.ShowsDec.keeps {d e : Device} {slot op n r : Nat} {p : Fld → Bool} (h : d.ShowsDec slot op n r) (hk : d.keeps e p)
    (hp : ∀ f ∈ decShownFields, p f = true) : e.ShowsDec slot op n r :=
  ⟨(hk.1 _ _ (hp _ (by simp [decShownFields]))).trans h.slot, (hk.1 _ _ (hp _ (by simp [decShownFields]))).trans h.op,
    (hk.1 _ _ (hp _ (by simp [decShownFields]))).trans h.session, (hk.1 _ _ (hp _ (by simp [decShownFields]))).trans h.result⟩

theorem Device.decShown_shows (d : Device) {slot op n r : Nat} (hs : slot < 8) (hop : op < 4) (hn : n < 256) (hr : r < 8) :
    (d.decShown slot op n r).ShowsDec slot op n r := by
  have same (d : Device) (f : Fld) (v : Nat) (hv : v < 2 ^ f.width) : (d.put f 0 v).get f = v := by
    rw [get_put_same, Nat.mod_eq_of_lt hv]
  refine ⟨?_, ?_, ?_, ?_⟩ <;> unfold decShown
  · rw [get_put_ne _ _ _ _ _ _ (by decide), get_put_ne _ _ _ _ _ _ (by decide), get_put_ne _ _ _ _ _ _ (by decide)]
    exact same _ _ _ (hs.trans_le (by decide))
  · rw [get_put_ne _ _ _ _ _ _ (by decide), get_put_ne _ _ _ _ _ _ (by decide)]
    exact same _ _ _ (hop.trans_le (by decide))
  · rw [get_put_ne _ _ _ _ _ _ (by decide)]
    exact same _ _ _ (hn.trans_le (by decide))
  · exact same _ _ _ (hr.trans_le (by decide))

theorem Device.keeps_decShown_of (d : Device) (slot op n r : Nat) {p : Fld → Bool} (hp : ∀ f ∈ decShownFields, ∀ g, p g = true → f.id ≠ g.id) :
    d.keeps (d.decShown slot op n r) p :=
  Device.keeps_trans (Device.keeps_trans (Device.keeps_trans (d.keeps_put _ _ _ (hp _ (by simp [decShownFields])))
    (Device.keeps_put _ _ _ _ (hp _ (by simp [decShownFields])))) (Device.keeps_put _ _ _ _ (hp _ (by simp [decShownFields]))))
    (Device.keeps_put _ _ _ _ (hp _ (by simp [decShownFields])))

theorem Device.keeps_decShown (d : Device) (slot op n r : Nat) {l : List Fld} (hl : ∀ f ∈ decShownFields, f ∈ l) :
    d.keeps (d.decShown slot op n r) (but l) := d.keeps_decShown_of slot op n r fun f hf => but_apart (List.mem_append_left _ (hl f hf))

/-- The fields that the effect of a command changes. -/
def decEffectFields : List Fld := [F.DEC_SESS_STATE_STATE, F.DEC_SESS_STATE_ENGINE, F.DEC_SESS_STATE_DPB_USED, F.DEC_EVENTS_OPEN_DONE,
  F.DEC_SESS_RES_BERTHS, F.DEC_SESS_RES_RESERVED_WU] ++ berthFields

theorem decEffect_apart {f : Fld} (hf : f ∈ decEffectFields) : ∀ g, but decEffectFields g = true → f.id ≠ g.id :=
  but_apart (List.mem_append_left _ hf)

/-- A device after an effect on a session: nothing else of the registers, and no command. -/
def Device.DecEffect (d e : Device) : Prop := d.keeps e (but decEffectFields) ∧ e.decCmd = d.decCmd

namespace Device.DecEffect

variable {d e e' : Device}

theorem refl (d : Device) : d.DecEffect d := ⟨d.keeps_refl _, rfl⟩

theorem trans (h : d.DecEffect e) (h' : e.DecEffect e') : d.DecEffect e' := ⟨Device.keeps_trans h.1 h'.1, h'.2.trans h.2⟩

theorem put (h : d.DecEffect e) {f : Fld} (hf : f ∈ decEffectFields) (i v : Nat) : d.DecEffect (e.put f i v) :=
  h.trans ⟨Device.keeps_put e f i v (decEffect_apart hf), rfl⟩

theorem of_berths (h : d.BerthFrame (but decEffectFields) e) : d.DecEffect e := ⟨h.fields, by
  have := congrArg Device.decCmd h.parts
  exact this⟩

theorem setDec (d : Device) (n : Nat) (x : DecSess) : d.DecEffect (d.setDec n x) := ⟨Device.keeps_of_regs rfl _, rfl⟩

theorem raise (h : d.DecEffect e) {f : Fld} (hf : f ∈ decEffectFields) (a : Nat) : d.DecEffect (e.raise f a) :=
  h.trans ⟨Device.keeps_raise e f a hf, raise_decCmd ..⟩

theorem berths : ∀ g, but decEffectFields g = true → but berthFields g = true := but_mono fun _ hf => List.mem_append_right _ hf

theorem discard (d : Device) (n : Nat) : d.DecEffect (d.discard n) := of_berths (.discard berths d n)

theorem settle (d : Device) (n : Nat) : d.DecEffect (d.settle n) := of_berths (.settle berths d n)

theorem forL {β : Type} {f : β → Device → Device} (hf : ∀ b (d : Device), d.DecEffect (f b d)) (l : List β) (d : Device) :
    d.DecEffect (Sys2Proof.Machine.forL l f d) := by
  induction l generalizing d with
  | nil => exact refl d
  | cons b r ih => exact (hf b d).trans (ih (f b d))

end Device.DecEffect

section Effect

variable (d : Device) (n : Nat)

/-- The device once the berths of a session's pictures are given back. -/
def Device.decFreed : Device :=
  forL (d.dec n).dpb (fun (p : DpbPic) (d : Device) => d.dpbRelease n p)
    (forL (d.dec n).running (fun (j : DecJob) (d : Device) => match j.berth with
      | some b => d.discard b
      | none => d) d)

/-- A session without work. -/
def DecSess.cleared (x : DecSess) : DecSess :=
  { x with aus := [], jobs := [], running := [], dpb := [], refresh := [], faults := [], lastEnd := none, skipRasl := false, ringPos := 0 }

theorem Device.decClear_eq : d.decClear n = ((d.decFreed n).setDec n (d.dec n).cleared).dpbCount n := by
  delta decClear decFreed
  rfl

theorem Device.decFreed_effect : d.DecEffect (d.decFreed n) := by
  refine .trans (.forL (fun j d => ?_) _ d) (.forL (fun p d => ?_) _ _)
  · cases j.berth with
    | none => exact .refl d
    | some b => exact .discard d b
  · unfold dpbRelease
    dsimp only
    split
    · exact .discard d _
    · exact .trans (e := d.setBerth _ _) ⟨Device.keeps_of_regs rfl _, rfl⟩ (.settle _ _)

theorem Device.decClear_effect : d.DecEffect (d.decClear n) ∧ ((d.decClear n).dec n).running = [] ∧ ((d.decClear n).dec n).dpb = [] := by
  have freed := d.decFreed_effect n
  rw [decClear_eq]
  generalize d.decFreed n = e at *
  have sess : ((e.setDec n (d.dec n).cleared).dpbCount n).dec n = (d.dec n).cleared := Tab.get_set_same ..
  refine ⟨.put (freed.trans (.setDec ..)) (by simp [decEffectFields]) n _, by rw [sess]; rfl, by rw [sess]; rfl⟩

theorem Device.decSync_syncs : d.DecEffect (d.decSync n) ∧ ((d.decSync n).dec n).running = [] ∧ ((d.decSync n).dec n).dpb = [] ∧
    (d.decSync n).decState n = 1 := by
  obtain ⟨effect, running, dpb⟩ := d.decClear_effect n
  unfold decSync
  generalize d.decClear n = e at *
  exact ⟨effect.put (by simp [decEffectFields]) n 1, running, dpb, Device.get_put_same ..⟩

theorem Device.decOpenNow_opens : d.DecEffect (d.decOpenNow n) ∧ ((d.decOpenNow n).dec n).running = [] ∧ ((d.decOpenNow n).dec n).dpb = [] ∧
    (d.decOpenNow n).decState n = 1 ∧ (d.decOpenNow n).get F.DEC_EVENTS_OPEN_DONE = 1 ∧
    d.keeps (d.decOpenNow n) (but [F.DEC_SESS_STATE_STATE, F.DEC_SESS_STATE_ENGINE, F.DEC_EVENTS_OPEN_DONE]) := by
  have sess : (d.decOpenNow n).dec n = DecSess.empty := by
    have decs : (d.decOpenNow n).decs = (d.setDec n DecSess.empty).decs := raise_decs ..
    rw [dec, decs]
    exact Tab.get_set_same ..
  refine ⟨?_, by rw [sess]; rfl, by rw [sess]; rfl, ?_, Device.get_raise_same _ _ _ (by decide), ?_⟩
  · refine .raise (.put (.put (.setDec d n _) ?_ n 1) ?_ n _) ?_ _ <;> simp [decEffectFields]
  · rw [decState, decOpenNow, Device.get_raise _ _ _ _ _ (.inl (by decide)) (.inl (by decide)), get_put_ne _ _ _ _ _ _ (by decide), get_put_same]
    rfl
  · refine Device.keeps_trans (Device.keeps_trans (Device.keeps_trans (Device.keeps_of_regs rfl _) (Device.keeps_put (d.setDec n DecSess.empty) F.DEC_SESS_STATE_STATE n 1 ?_))
      (Device.keeps_put _ F.DEC_SESS_STATE_ENGINE n (n % 8) ?_)) (Device.keeps_raise _ _ _ (by simp))
    all_goals exact but_apart (by simp)

/-- The device once the berths that a session fills or holds are given back. -/
def Device.decEmptied : Device :=
  let s := d.decSource n
  let d := d.decClear n
  let mine (b : Nat) : Bool := decide ((d.berth b).kind = 2) && decide ((d.berth b).prod = n)
  let drop (o : Option Nat) : Option Nat := o.filter (fun b => !mine b)
  let own := (d.berths.map Prod.fst).filter mine
  let x := d.src s
  let d := d.setSrc s { x with newest := drop x.newest, fallback := drop x.fallback }
  forL own (fun (b : Nat) (d : Device) => if (d.berth b).st = .filling then d.discard b else d.settle b) d

theorem Device.decCloseNow_eq : d.decCloseNow n = ((((d.decEmptied n).put F.DEC_SESS_STATE_STATE n 0).put F.DEC_SESS_RES_BERTHS n 0).put
    F.DEC_SESS_RES_RESERVED_WU n 0).setDec n DecSess.empty := by
  delta decCloseNow decEmptied
  rfl

theorem Device.decEmptied_effect : d.DecEffect (d.decEmptied n) := by
  have cleared := (d.decClear_effect n).1
  unfold decEmptied
  generalize d.decClear n = e at *
  refine .trans cleared (.trans (e := e.setSrc _ _) ⟨Device.keeps_of_regs rfl _, rfl⟩ (.forL (fun b d => ?_) _ _))
  split
  · exact .discard d b
  · exact .settle d b

theorem Device.decCloseNow_closes : d.DecEffect (d.decCloseNow n) ∧ ((d.decCloseNow n).dec n).running = [] ∧ ((d.decCloseNow n).dec n).dpb = [] ∧
    (d.decCloseNow n).decState n = 0 ∧ (d.decCloseNow n).get F.DEC_SESS_RES_BERTHS n = 0 ∧
    (d.decCloseNow n).get F.DEC_SESS_RES_RESERVED_WU n = 0 := by
  have emptied := d.decEmptied_effect n
  rw [decCloseNow_eq]
  generalize d.decEmptied n = e at *
  have sess (f : Device) : (f.setDec n DecSess.empty).dec n = DecSess.empty := Tab.get_set_same ..
  refine ⟨.trans (.put (.put (.put emptied ?_ n 0) ?_ n 0) ?_ n 0) (.setDec ..), by rw [sess]; rfl, by rw [sess]; rfl, ?_, ?_, Device.get_put_same ..⟩
  · simp [decEffectFields]
  · simp [decEffectFields]
  · simp [decEffectFields]
  · refine (get_put_ne _ _ _ _ _ _ (by decide)).trans ?_
    rw [get_put_ne _ _ _ _ _ _ (by decide), get_put_same, Nat.zero_mod]
  · refine (get_put_ne _ _ _ _ _ _ (by decide)).trans ?_
    rw [get_put_same, Nat.zero_mod]

end Effect

/-! ### Decode commands are checked -/

/-- The device that an accepted command finds: what it shows, and the reservations of an OPEN. -/
def Device.decAccepted (d : Device) (slot op n : Nat) : Device :=
  if op = 1 then match d.decReserve n with
    | .ok q => (d.decShown slot op n 1).decReserved n q
    | .error _ => d.decShown slot op n 1
  else d.decShown slot op n 1

/-- An accepted command waits in RUN and acts outside. -/
def Device.decGoes (e : Device) (slot op n : Nat) : Device :=
  if e.pwr = .run then { e with decCmd := some ⟨op, n, slot⟩ }.put F.DEC_CMD_STATUS_PENDING 0 1 else e.decEffect ⟨op, n, slot⟩

theorem Device.decReserve_shown (d : Device) (slot op n r : Nat) : (d.decShown slot op n r).decReserve n = d.decReserve n := by
  have apart (f : Fld) (hf : f ∈ decShownFields) (g : Fld) (hg : offStatus g = true) : f.id ≠ g.id := by
    intro h
    have off : ∀ f ∈ decShownFields, offStatus f = false := by decide
    have := off f hf
    rw [offStatus, h] at this
    exact Bool.false_ne_true (this.symm.trans hg)
  exact SameReserves.decReserve ⟨d.keeps_decShown_of slot op n r apart, rfl, rfl, rfl⟩ n

section Command

variable {d : Device} {slot op n : Nat}

theorem Device.decCommand_refused (h : d.decCheck op n ≠ 0) :
    d.decCommand slot op n = (d.decShown slot op n (d.decCheck op n)).raise F.DEC_EVENTS_CMD_REFUSED n := by
  delta decCommand
  extract_lets r e
  rw [if_pos h]
  have shown : e = d.decShown slot op n (if d.decCheck op n = 0 then 1 else d.decCheck op n) := rfl
  rw [shown, if_neg h]

theorem Device.decCommand_accepted (h : d.decCheck op n = 0) : d.decCommand slot op n = (d.decAccepted slot op n).decGoes slot op n := by
  delta decCommand
  extract_lets r e e'
  have shown : e = d.decShown slot op n 1 := congrArg (d.decShown slot op n) (if_pos h)
  clear_value e
  have reserve : e.decReserve n = d.decReserve n := by rw [shown, decReserve_shown]
  have accepted : e' = d.decAccepted slot op n := by
    unfold decAccepted
    by_cases hop : op = 1
    · rcases hq : d.decReserve n with x | ⟨core, wu, c, k⟩ <;> simp only [e', if_pos hop, reserve, hq, decReserved] <;> rw [shown]
    · simp only [e', if_neg hop, shown]
  clear_value e'
  rw [if_neg (not_not.mpr h), accepted, decGoes]

theorem Device.decAccepted_only : (d.decAccepted slot op n).decs = d.decs ∧ (d.decAccepted slot op n).berths = d.berths ∧
    (d.decAccepted slot op n).decCmd = d.decCmd ∧ (d.decAccepted slot op n).pwr = d.pwr ∧
    (d.decAccepted slot op n).decState n = d.decState n := by
  have shown : (d.decShown slot op n 1).get F.DEC_SESS_STATE_STATE n = d.get F.DEC_SESS_STATE_STATE n :=
    (d.keeps_decShown slot op n 1 fun _ h => h).1 _ _ (by decide)
  unfold decAccepted
  split
  · split
    · refine ⟨rfl, rfl, rfl, rfl, ?_⟩
      rw [decState, decReserved, get_put_ne _ _ _ _ _ _ (by decide), get_put_ne _ _ _ _ _ _ (by decide), get_put_ne _ _ _ _ _ _ (by decide),
        get_put_ne _ _ _ _ _ _ (by decide), shown, decState]
    · exact ⟨rfl, rfl, rfl, rfl, shown⟩
  · exact ⟨rfl, rfl, rfl, rfl, shown⟩

theorem Device.decAccepted_shows (hs : slot < 8) (hop : op < 4) (hn : n < 256) : (d.decAccepted slot op n).ShowsDec slot op n 1 := by
  have shown := d.decShown_shows hs hop hn (show 1 < 8 by decide)
  unfold decAccepted
  split
  · split
    · refine shown.keeps (p := fun f => f.id / 32 = R.DEC_CMD_STATUS.base) ?_ (by decide)
      unfold decReserved
      have apart (f : Fld) (hf : f.id / 32 ≠ R.DEC_CMD_STATUS.base) (g : Fld) (hg : decide (g.id / 32 = R.DEC_CMD_STATUS.base) = true) :
          f.id ≠ g.id := fun h => hf (h ▸ of_decide_eq_true hg)
      exact Device.keeps_trans (Device.keeps_trans (Device.keeps_trans (Device.keeps_put _ _ _ _ (apart _ (by decide)))
        (Device.keeps_put _ _ _ _ (apart _ (by decide)))) (Device.keeps_put _ _ _ _ (apart _ (by decide)))) (Device.keeps_put _ _ _ _ (apart _ (by decide)))
    · exact shown
  · exact shown

/-- The registers that hold the core and the reservations of a session. -/
structure Device.HoldsDec (d : Device) (n core wu c k : Nat) : Prop where
  core : d.get F.DEC_SESS_STATE_CORE n = core % 2 ^ F.DEC_SESS_STATE_CORE.width
  wu : d.get F.DEC_SESS_RES_RESERVED_WU n = wu % 2 ^ F.DEC_SESS_RES_RESERVED_WU.width
  cls : d.get F.DEC_SESS_RES_CLASS n = c % 2 ^ F.DEC_SESS_RES_CLASS.width
  berths : d.get F.DEC_SESS_RES_BERTHS n = k % 2 ^ F.DEC_SESS_RES_BERTHS.width

theorem Device.HoldsDec.keeps {e : Device} {core wu c k : Nat} {p : Fld → Bool} (h : d.HoldsDec n core wu c k) (hk : d.keeps e p)
    (hp : ∀ f ∈ [F.DEC_SESS_STATE_CORE, F.DEC_SESS_RES_RESERVED_WU, F.DEC_SESS_RES_CLASS, F.DEC_SESS_RES_BERTHS], p f = true) :
    e.HoldsDec n core wu c k :=
  ⟨(hk.1 _ _ (hp _ (by simp))).trans h.core, (hk.1 _ _ (hp _ (by simp))).trans h.wu, (hk.1 _ _ (hp _ (by simp))).trans h.cls,
    (hk.1 _ _ (hp _ (by simp))).trans h.berths⟩

theorem Device.decAccepted_holds {core wu c k : Nat} (h : d.decReserve n = .ok (core, wu, c, k)) :
    (d.decAccepted slot 1 n).HoldsDec n core wu c k := by
  rw [decAccepted, if_pos rfl, h]
  unfold decReserved
  refine ⟨?_, ?_, ?_, get_put_same ..⟩
  · rw [get_put_ne _ _ _ _ _ _ (by decide), get_put_ne _ _ _ _ _ _ (by decide), get_put_ne _ _ _ _ _ _ (by decide), get_put_same]
  · rw [get_put_ne _ _ _ _ _ _ (by decide), get_put_ne _ _ _ _ _ _ (by decide), get_put_same]
  · rw [get_put_ne _ _ _ _ _ _ (by decide), get_put_same]

theorem Device.decReserve_error {e : Nat} (he : d.decReserve n = .error e) : e = 6 ∨ e = 7 := by
  unfold decReserve at he
  dsimp only at he
  split at he
  · cases he; exact .inl rfl
  · split at he
    · cases he; exact .inr rfl
    · split at he <;> cases he
      exact .inr rfl

theorem Device.decCheck_lt : d.decCheck op n < 8 := by
  rw [decCheck_eq]
  cases he : d.decReserve n with
  | ok q =>
    dsimp only
    split_ifs <;> decide
  | error e => rcases decReserve_error he with rfl | rfl <;> split_ifs <;> decide

end Command

theorem Device.decWrite_command (c : Chip) (slot w : Nat) (hw : F.DEC_CMD_OP.of w ≠ 0) : c.writeEffect slot R.DEC_CMD 0 w c.dev =
    ⟨c.mem, c.dev.decCommand slot (F.DEC_CMD_OP.of w) (F.DEC_CMD_SESSION.of w)⟩ := if_pos ⟨rfl, hw⟩

section Run

variable {s : State} {slot op n : Nat} (hs : slot < 8) (hn : n < 256) (h1 : 1 ≤ op) (h3 : op ≤ 3)
  (ha : s.chip.admits slot R.DEC_CMD 0 (decWord op n) = true)

include hs hn h1 h3 ha

theorem decCommand_runs : ∃ t e, e = s.chip.dev.quiet.decCommand slot op n ∧
    exec (if op = 1 then .decOpen slot n else if op = 2 then .decClose slot n else .decResync slot n) s = .next t ∧ t.chip.mem = s.chip.mem ∧
    t.chip.dev.regs = e.regs ∧ t.chip.dev.decs = e.decs ∧ t.chip.dev.decCmd = e.decCmd ∧ t.chip.dev.berths = e.berths := by
  obtain ⟨hw, hop, hsess⟩ := decWord_reads n hn op (by omega)
  obtain ⟨e, he⟩ : ∃ e, e = s.chip.dev.quiet.decCommand slot op n := ⟨_, rfl⟩
  obtain ⟨t, p, ht, hm, hd⟩ := writeTo_effect (m := s.chip.mem) (d := e) (by decide) hs hw rfl ha (by
    rw [Device.decWrite_command _ _ _ (by omega), hop, hsess, he]
    rfl)
  have same : exec (if op = 1 then .decOpen slot n else if op = 2 then .decClose slot n else .decResync slot n) s =
      writeTo slot R.DEC_CMD 0 (decWord op n) s := by
    obtain rfl | rfl | rfl : op = 1 ∨ op = 2 ∨ op = 3 := by omega
    all_goals rfl
  exact ⟨t, e, he, same.trans ht, hm, by rw [hd]; rfl, by rw [hd]; rfl, by rw [hd]; rfl, by rw [hd]; rfl⟩

end Run

/-- A decode command that fails a check is shown with its result, and changes no session. -/
theorem Device.decRefused_only (d : Device) {slot op n r : Nat} (hs : slot < 8) (hop : op < 4) (hn : n < 256) (hr : r < 8) :
    let e := (d.decShown slot op n r).raise F.DEC_EVENTS_CMD_REFUSED n
    e.ShowsDec slot op n r ∧ e.get F.DEC_EVENTS_CMD_REFUSED = 1 ∧ e.decs = d.decs ∧ e.decCmd = d.decCmd ∧ e.berths = d.berths ∧
      d.keeps e (but (decShownFields ++ [F.DEC_EVENTS_CMD_REFUSED])) := by
  intro e
  have raised : (d.decShown slot op n r).keeps e (but [F.DEC_EVENTS_CMD_REFUSED]) := Device.keeps_raise _ _ _ (by simp)
  refine ⟨(d.decShown_shows hs hop hn hr).keeps raised (by decide), Device.get_raise_same _ _ _ (by decide), raise_decs .., raise_decCmd ..,
    raise_berths .., ?_⟩
  exact Device.keeps_trans (d.keeps_decShown slot op n r fun f hf => List.mem_append_left _ hf) (Device.keeps_raise _ _ _ (by simp))

/-- A decode command that waits for the edge. -/
theorem Device.decWaits (d : Device) {slot op n : Nat} (hs : slot < 8) (hop : op < 4) (hn : n < 256) (hrun : d.pwr = .run) :
    let e := (d.decAccepted slot op n).decGoes slot op n
    e.ShowsDec slot op n 1 ∧ e.decCmd = some ⟨op, n, slot⟩ ∧ e.get F.DEC_CMD_STATUS_PENDING = 1 ∧ e.decState n = d.decState n ∧ e.decs = d.decs ∧
      e.berths = d.berths ∧ (d.decAccepted slot op n).keeps e (but [F.DEC_CMD_STATUS_PENDING]) := by
  intro e
  obtain ⟨hdecs, hberths, -, hpwr, hstate⟩ := d.decAccepted_only (slot := slot) (op := op) (n := n)
  have shows_ := d.decAccepted_shows hs hop hn
  have waits : e = { d.decAccepted slot op n with decCmd := some ⟨op, n, slot⟩ }.put F.DEC_CMD_STATUS_PENDING 0 1 := if_pos (hpwr.trans hrun)
  clear_value e
  generalize d.decAccepted slot op n = a at *
  have kept : a.keeps e (but [F.DEC_CMD_STATUS_PENDING]) := by
    rw [waits]
    exact Device.keeps_put { a with decCmd := some ⟨op, n, slot⟩ } _ _ _ (but_apart (by simp))
  refine ⟨shows_.keeps kept (by decide), by rw [waits]; rfl, ?_, (kept.1 _ _ (by decide)).trans hstate, ?_, ?_, kept⟩
  · rw [waits, get_put_same]
    rfl
  · rw [← hdecs, waits]
    rfl
  · rw [← hberths, waits]
    rfl

/-- A decode command that acts at once. -/
theorem Device.decActs (d : Device) {slot op n : Nat} (hs : slot < 8) (hop : op < 4) (hn : n < 256) (h1 : 1 ≤ op) (hrun : d.pwr ≠ .run) :
    let e := (d.decAccepted slot op n).decGoes slot op n
    e.ShowsDec slot op n 1 ∧ e.decCmd = d.decCmd ∧ e.decState n = (if op = 2 then 0 else 1) ∧ (e.dec n).running = [] ∧ (e.dec n).dpb = [] ∧
      (op = 1 → e.get F.DEC_EVENTS_OPEN_DONE = 1) ∧
      (op = 2 → e.get F.DEC_SESS_RES_BERTHS n = 0 ∧ e.get F.DEC_SESS_RES_RESERVED_WU n = 0) ∧
      (op = 1 → (d.decAccepted slot op n).keeps e (but [F.DEC_SESS_STATE_STATE, F.DEC_SESS_STATE_ENGINE, F.DEC_EVENTS_OPEN_DONE])) := by
  intro e
  obtain ⟨-, -, hcmd, hpwr, -⟩ := d.decAccepted_only (slot := slot) (op := op) (n := n)
  have shows_ := d.decAccepted_shows hs hop hn
  have acts : e = (d.decAccepted slot op n).decEffect ⟨op, n, slot⟩ := if_neg (hpwr ▸ hrun)
  clear_value e
  generalize d.decAccepted slot op n = a at *
  obtain rfl | rfl | rfl : op = 1 ∨ op = 2 ∨ op = 3 := by omega
  · obtain ⟨⟨kept, cmd⟩, running, dpb, state, event, only⟩ := a.decOpenNow_opens n
    have open_ : e = a.decOpenNow n := acts
    subst open_
    exact ⟨shows_.keeps kept (by decide), cmd.trans hcmd, state, running, dpb, fun _ => event, by simp, fun _ => only⟩
  · obtain ⟨⟨kept, cmd⟩, running, dpb, state, berths, wu⟩ := a.decCloseNow_closes n
    have close : e = a.decCloseNow n := acts
    subst close
    exact ⟨shows_.keeps kept (by decide), cmd.trans hcmd, state, running, dpb, by simp, fun _ => ⟨berths, wu⟩, by simp⟩
  · obtain ⟨⟨kept, cmd⟩, running, dpb, state⟩ := a.decSync_syncs n
    have sync : e = a.decSync n := acts
    subst sync
    exact ⟨shows_.keeps kept (by decide), cmd.trans hcmd, state, running, dpb, by simp, by simp, by simp⟩

/-- Settles O32: the checks of R163 come first, then what the command shows, then its effect at once or at the edge. -/
theorem decodeCommandsAreChecked : Obligations.DecodeCommandsAreChecked := by
  intro s slot n op hs hn h1 h3 ha d r
  obtain ⟨t, e, he, ht, hm, hregs, hdecs, hcmd, hberths⟩ := decCommand_runs hs hn h1 h3 ha
  have quiet : d.quiet.decCheck op n = d.decCheck op n := rfl
  have check : d.quiet.decCheck op n = r := by
    refine quiet.trans ((d.decCheck_eq op n).trans ?_)
    cases hq : d.decReserve n <;> simp only [r, hq]
  clear_value r
  have gets := fun f i => Device.get_congr hregs f i
  have state : t.chip.dev.decState n = e.decState n := gets ..
  have sess : t.chip.dev.dec n = e.dec n := by rw [Device.dec, hdecs, Device.dec]
  have same : e.keeps t.chip.dev (fun _ => true) := Device.keeps_of_regs hregs _
  refine ⟨t, ht, hm, ?_⟩
  rw [gets, gets, gets, gets, hdecs, hcmd, hberths, state, sess]
  by_cases h0 : r = 0
  · rw [h0] at check
    rw [Device.decCommand_accepted check] at he
    simp only [h0, ne_eq, not_true_eq_false, IsEmpty.forall_iff, true_and, if_true, true_implies]
    by_cases hrun : d.pwr = .run
    · obtain ⟨shown, cmd, pending, same', decs, berths, kept⟩ := d.quiet.decWaits hs (show op < 4 by omega) hn hrun
      rw [← he] at shown cmd pending same' decs berths kept
      refine ⟨shown.slot, shown.op, shown.session, shown.result, fun _ => ⟨cmd, (gets ..).trans pending, same', decs, berths⟩,
        fun h => absurd hrun h, fun core wu c k hop hres => ?_⟩
      subst hop
      obtain ⟨h1, h2, h3, h4⟩ := (((Device.decAccepted_holds (d := d.quiet) hres).keeps kept (by decide)).keeps same (by simp))
      exact ⟨h1, h2, h3, h4⟩
    · obtain ⟨shown, cmd, st, running, dpb, opens, closes, kept⟩ := d.quiet.decActs hs (show op < 4 by omega) hn h1 hrun
      rw [← he] at shown cmd st running dpb opens closes kept
      refine ⟨shown.slot, shown.op, shown.session, shown.result, fun h => absurd h hrun,
        fun _ => ⟨cmd, st, running, dpb, fun h => (gets ..).trans (opens h), fun h => ⟨(gets ..).trans (closes h).1, (gets ..).trans (closes h).2⟩⟩,
        fun core wu c k hop hres => ?_⟩
      subst hop
      obtain ⟨h1, h2, h3, h4⟩ := (((Device.decAccepted_holds (d := d.quiet) hres).keeps (kept rfl) (by decide)).keeps same (by simp))
      exact ⟨h1, h2, h3, h4⟩
  · have refused : d.quiet.decCheck op n ≠ 0 := check ▸ h0
    rw [Device.decCommand_refused refused, check] at he
    obtain ⟨shown, event, decs, cmd, berths, kept⟩ := d.quiet.decRefused_only hs (show op < 4 by omega) hn (check ▸ d.quiet.decCheck_lt)
    rw [← he] at shown event decs cmd berths kept
    exact ⟨shown.slot, shown.op, shown.session, shown.result.trans (if_neg h0).symm, fun _ => ⟨(gets ..).trans event, decs, cmd, berths,
      Device.keeps_trans kept (Device.keeps_of_regs hregs _)⟩, fun h => absurd h h0, fun h => absurd h h0, fun _ _ _ _ h => absurd h h0⟩

end Sys2Proof.Machine
end

section
/-!
SUPPORT. Flow enables, witness stamps and verdicts: O31.
-/

namespace Sys2Proof.Machine

/-! ### Flow enables -/

theorem Device.regs_forN {f : Nat → Device → Device} (hf : ∀ n (d : Device), (f n d).regs = d.regs) (n : Nat) (d : Device) : (forN n f d).regs = d.regs :=
  Device.regs_forL hf _ d

theorem Device.igmpReport_regs (d : Device) (p : Nat) (r : List (Nat × Nat × List Nat)) : (d.igmpReport p r).regs = d.regs := by
  unfold igmpReport igmpSend
  split
  · split <;> rfl
  · rfl

theorem Device.igmpUpdate_regs (d : Device) (before : Nat → List (Nat × List Nat)) : (d.igmpUpdate before).regs = d.regs := by
  refine Device.regs_forN (fun p d => ?_) 28 d
  dsimp only
  split
  · rfl
  · exact d.igmpReport_regs p _

theorem Device.hopNeed_regs (d : Device) (p dst : Nat) : (d.hopNeed p dst).regs = d.regs := by
  have need (ip : Nat) : (d.arpNeed p ip).regs = d.regs := by
    unfold arpNeed
    split <;> rfl
  unfold hopNeed
  split
  · rfl
  · split
    · exact need _
    · rfl

theorem Device.hopScan_regs (d : Device) : d.hopScan.regs = d.regs := by
  refine Device.regs_forN (fun e d => ?_) 64 d
  split
  · rfl
  · refine Device.regs_forL (fun k d => ?_) _ d
    split
    · exact (Device.hopNeed_regs ..).trans (d.hopNeed_regs ..)
    · rfl

theorem findReg_flow : ∀ f < 512, findReg (R.NET_RX_FLOW_CFG.base + R.NET_RX_FLOW_CFG.stride * f) = some (R.NET_RX_FLOW_CFG, f) := by decide +kernel

/-- The fields of a flow that software writes. -/
def flowFields : List Fld := [F.NET_RX_FLOW_CFG_EN, F.NET_RX_FLOW_CFG_LEG, F.NET_RX_FLOW_CFG_PORT, F.NET_RX_FLOW_CFG_FORM, F.NET_RX_FLOW_CFG_SOURCE]

/-- A flow's fields put as its word says. -/
def Device.flowStored (d : Device) (f w : Nat) : Device := forL flowFields (fun (x : Fld) (d : Device) => d.put x f (x.of w)) d

theorem Device.storeWord_flow (d : Device) (slot f w : Nat) : d.storeWord R.NET_RX_FLOW_CFG slot f w = d.flowStored f w := rfl

theorem Device.get_forL_put {l : List Fld} (hl : (l.map Fld.id).Nodup) (v : Fld → Nat) (i : Nat) {x : Fld} (hx : x ∈ l) (d : Device) :
    (forL l (fun (x : Fld) (d : Device) => d.put x i (v x)) d).get x i = v x % 2 ^ x.width := by
  have after {l : List Fld} {x : Fld} (hx : ∀ y ∈ l, y.id ≠ x.id) (d : Device) :
      (forL l (fun (x : Fld) (d : Device) => d.put x i (v x)) d).get x i = d.get x i := by
    induction l generalizing d with
    | nil => rfl
    | cons y l ih =>
      rw [forL_cons, ih fun z hz => hx z (List.mem_cons_of_mem _ hz)]
      exact get_put_ne _ _ _ _ _ _ (hx y List.mem_cons_self)
  induction l generalizing d with
  | nil => cases hx
  | cons y l ih =>
    rw [List.map_cons, List.nodup_cons] at hl
    rw [forL_cons]
    rcases List.mem_cons.mp hx with rfl | hx
    · rw [after (fun z hz h => hl.1 (List.mem_map.mpr ⟨z, hz, h⟩)), get_put_same]
    · exact ih hl.2 hx _

theorem Device.get_forL_put_other (l : List Fld) (v : Fld → Nat) {i j : Nat} (hij : i ≠ j) (x : Fld) (d : Device) :
    (forL l (fun (x : Fld) (d : Device) => d.put x i (v x)) d).get x j = d.get x j := by
  induction l generalizing d with
  | nil => rfl
  | cons y l ih => exact (ih _).trans (by rw [get_put, if_neg (fun h => hij h.2)])

/-- An admitted write to a row of NET that is no half: the word stored, its effect, then the reports and addresses that the change needs. -/
theorem Chip.regWrite_net {c : Chip} {slot i w hwSet a : Nat} {r : RegRow} (hf : findReg a = some (r, i)) (hlo : r.isLo = false)
    (hhi : r.lowOf = none) (h8 : r.base / 65536 = 8) (hown : (c.dev.ownDrop r i w).1 = false) (hres : c.dev.reservedWrite r i w = false)
    (hbusy : c.dev.busyWrite r slot i w = false) : c.regWrite slot a w hwSet =
    ((⟨c.mem, c.dev.storeWords [(r, w)] r slot i⟩ : Chip).writeEffect slot r i w c.dev).mapDev
      (fun d => ((((d.setAgain r slot i hwSet).igmpUpdate (fun p => c.dev.memberships.getD p [])).hopScan).logWrite slot (r.base + r.stride * i) w)) := by
  have words : c.dev.writeWords r slot i w = [(r, w)] := by simp only [Device.writeWords, hhi]
  simp [regWrite, hf, hown, hlo, words, hres, hbusy, c.dev.unhold_of_no_low hhi, h8, mapDev]

/-- An admitted flow write stores its word, and what follows touches no register. -/
theorem rxFlow_stores {s : State} {slot f w : Nat} (hs : slot < 8) (hf : f < 512) (hw : w < 2 ^ 32)
    (ha : s.chip.admits slot R.NET_RX_FLOW_CFG f w = true) :
    ∃ t, exec (.rxFlowEnableWrite slot f w) s = .next t ∧ t.chip.mem = s.chip.mem ∧ t.chip.dev.regs = (s.chip.dev.flowStored f w).regs := by
  have run : exec (.rxFlowEnableWrite slot f w) s = writeTo slot R.NET_RX_FLOW_CFG (f % 512) w s := rfl
  rw [Nat.mod_eq_of_lt hf, writeTo] at run
  have haq : s.chip.quiet.admits slot R.NET_RX_FLOW_CFG f w = true := ha
  obtain ⟨-, -, -, -, hown, hres, hbusy⟩ := Chip.admits_conditions haq
  have reach := Chip.doWrite_admitted (hwSet := 0) haq hs hw
  rw [Chip.regWrite_net (findReg_flow f hf) (by decide) (by decide) (by decide) hown hres hbusy, Chip.writeEffect_of_plain (by decide),
    Chip.mapDev, Device.setAgain_of_no_w1c (by decide)] at reach
  obtain ⟨e, he⟩ : ∃ e, e = s.chip.quiet.dev.storeWords [(R.NET_RX_FLOW_CFG, w)] R.NET_RX_FLOW_CFG slot f := ⟨_, rfl⟩
  have stored : e.regs = (s.chip.dev.flowStored f w).regs := by rw [he]; rfl
  rw [← he] at reach
  dsimp only at reach
  generalize (fun p => s.chip.quiet.dev.memberships.getD p []) = j at reach
  obtain ⟨g, hg⟩ : ∃ g, g = (e.igmpUpdate j).hopScan := ⟨_, rfl⟩
  rw [← hg] at reach
  obtain ⟨q, hq⟩ := g.logWrite_only slot (R.NET_RX_FLOW_CFG.base + R.NET_RX_FLOW_CFG.stride * f) w
  rw [hq] at reach
  obtain ⟨t, ht, hm, hd⟩ := onChip_next run reach
  have same : t.chip.dev.regs = g.regs := by rw [hd]; rfl
  exact ⟨t, ht, hm, by rw [same, hg, Device.hopScan_regs, Device.igmpUpdate_regs, stored]⟩

/-- A flow enable that conflicts is dropped, with both events (R215). -/
theorem rxFlow_conflicts {s : State} {slot f w : Nat} (hs : slot < 8) (hf : f < 512) (hw : w < 2 ^ 32) (hon : s.chip.dev.pd1On = true)
    (hfault : s.chip.dev.regFault slot (R.NET_RX_FLOW_CFG.base + R.NET_RX_FLOW_CFG.stride * f) 32 true = none)
    (hrole : s.chip.dev.roleRefuses 8 false = false) (hdef : s.chip.dev.defers = false) (hen : F.NET_RX_FLOW_CFG_EN.of w = 1)
    (hoff : s.chip.dev.on F.NET_RX_FLOW_CFG_EN f = false)
    (hbad : s.chip.dev.flowConflict f (F.NET_RX_FLOW_CFG_PORT.of w) (F.NET_RX_FLOW_CFG_LEG.of w) (F.NET_RX_FLOW_CFG_FORM.of w)
      (F.NET_RX_FLOW_CFG_SOURCE.of w) = true) :
    ∃ t, exec (.rxFlowEnableWrite slot f w) s = .next t ∧ t.chip.mem = s.chip.mem ∧
      (∀ x ∈ R.NET_RX_FLOW_CFG.flds, t.chip.dev.get x f = s.chip.dev.get x f) ∧
      t.chip.dev.get F.SYS_EVENTS_CFG_DROPPED = 1 ∧ t.chip.dev.get F.NET_EVENTS_FLOW_CONFLICT = 1 := by
  have addr : ∀ f < 512, (R.NET_RX_FLOW_CFG.base + R.NET_RX_FLOW_CFG.stride * f) / 65536 = 8 ∧
    isEvq (R.NET_RX_FLOW_CFG.base + R.NET_RX_FLOW_CFG.stride * f) = false := by decide +kernel
  obtain ⟨hblock, hevq⟩ := addr f hf
  have hreg := findReg_flow f hf
  have run : exec (.rxFlowEnableWrite slot f w) s = writeTo slot R.NET_RX_FLOW_CFG (f % 512) w s := rfl
  rw [Nat.mod_eq_of_lt hf, writeTo] at run
  generalize R.NET_RX_FLOW_CFG.base + R.NET_RX_FLOW_CFG.stride * f = a at *
  have drop : s.chip.quiet.dev.ownDrop R.NET_RX_FLOW_CFG f w = (true, true) := by
    have own (d : Device) : d.ownDrop R.NET_RX_FLOW_CFG f w = (decide (F.NET_RX_FLOW_CFG_EN.of w = 1) && !d.on F.NET_RX_FLOW_CFG_EN f &&
        d.flowConflict f (F.NET_RX_FLOW_CFG_PORT.of w) (F.NET_RX_FLOW_CFG_LEG.of w) (F.NET_RX_FLOW_CFG_FORM.of w) (F.NET_RX_FLOW_CFG_SOURCE.of w),
      decide (F.NET_RX_FLOW_CFG_EN.of w = 1) && !d.on F.NET_RX_FLOW_CFG_EN f &&
        d.flowConflict f (F.NET_RX_FLOW_CFG_PORT.of w) (F.NET_RX_FLOW_CFG_LEG.of w) (F.NET_RX_FLOW_CFG_FORM.of w) (F.NET_RX_FLOW_CFG_SOURCE.of w)) := rfl
    have all : (decide (F.NET_RX_FLOW_CFG_EN.of w = 1) && !s.chip.dev.on F.NET_RX_FLOW_CFG_EN f &&
        s.chip.dev.flowConflict f (F.NET_RX_FLOW_CFG_PORT.of w) (F.NET_RX_FLOW_CFG_LEG.of w) (F.NET_RX_FLOW_CFG_FORM.of w)
          (F.NET_RX_FLOW_CFG_SOURCE.of w)) = true := by
      rw [hen, hoff, hbad]
      rfl
    have same := own s.chip.dev
    rw [all] at same
    exact same
  have reach := Chip.doWrite_reaches (c := s.chip.quiet) (w := w) (hwSet := 0) hs hon hfault (by rw [hblock, hevq]; exact hrole)
    (by rw [show s.chip.quiet.dev.defers = false from hdef]; rfl)
  have dropped : s.chip.quiet.regWrite slot a w 0 = ⟨s.chip.mem, (s.chip.dev.quiet.dropWrite slot a).raise F.NET_EVENTS_FLOW_CONFLICT f⟩ := by
    simp only [Chip.regWrite, hreg, drop, if_true]
    rfl
  rw [Nat.mod_eq_of_lt hw, dropped] at reach
  obtain ⟨t, ht, hm, hd⟩ := onChip_next run reach
  have hregs : t.chip.dev.regs = ((s.chip.dev.quiet.dropWrite slot a).raise F.NET_EVENTS_FLOW_CONFLICT f).regs := by rw [hd]; rfl
  have kept := s.chip.dev.quiet.keeps_dropWrite slot a
  have event := s.chip.dev.quiet.get_dropWrite_event slot a
  generalize s.chip.dev.quiet.dropWrite slot a = e at *
  have raised : e.keeps (e.raise F.NET_EVENTS_FLOW_CONFLICT f) (but [F.NET_EVENTS_FLOW_CONFLICT]) := Device.keeps_raise _ _ _ (by simp)
  have apart : ∀ x ∈ R.NET_RX_FLOW_CFG.flds, but dropFields x = true ∧ but [F.NET_EVENTS_FLOW_CONFLICT] x = true := by decide
  refine ⟨t, ht, hm, fun x hx => ?_, ?_, ?_⟩
  · obtain ⟨h1, h2⟩ := apart x hx
    rw [Device.get_congr hregs, raised.1 _ _ h2, kept.1 _ _ h1]
    rfl
  · rw [Device.get_congr hregs, raised.1 _ _ (by decide), event]
  · rw [Device.get_congr hregs]
    exact Device.get_raise_same _ _ _ (by decide)

/-! ### Witness stamps -/

theorem forL_single {α β : Type} [DecidableEq β] {f : β → α → α} {o : β} (hf : ∀ x, x ≠ o → ∀ a, f x a = a) {l : List β} (hl : l.Nodup) (a : α) :
    forL l f a = if o ∈ l then f o a else a := by
  induction l generalizing a with
  | nil => rfl
  | cons x l ih =>
    rw [List.nodup_cons] at hl
    rw [forL_cons, ih hl.2]
    by_cases hx : x = o
    · subst hx
      simp [hl.1]
    · simp [hf x hx, List.mem_cons, Ne.symm hx]

/-- The bytes of a whole stamp of the active partner (R231). -/
def Device.partnerStamp (d : Device) (l : List Byte) : Bool :=
  stampIntact l && decide (beAt l 36 1 = 1) && decide (beAt l 37 1 = 1 - d.unitNo)

theorem Device.witStamp_other {d : Device} {o : Nat} {l : List Byte} (h : beAt l 5 1 ≠ o ∨ d.partnerStamp l = false) : d.witStamp o l = d := by
  refine if_neg fun hc => ?_
  simp only [Bool.and_eq_true, decide_eq_true_eq] at hc
  obtain ⟨⟨⟨h1, h2⟩, h3⟩, h4⟩ := hc
  rcases h with h | h
  · exact h h2
  · simp [partnerStamp, h1, h3, h4] at h

theorem Device.witStamp_takes {d : Device} {l : List Byte} (h : d.partnerStamp l = true) :
    (d.witStamp (beAt l 5 1) l).regs = d.regs ∧ (d.witStamp (beAt l 5 1) l).out = d.out ∧
    ((d.witStamp (beAt l 5 1) l).wit (beAt l 5 1)).lastTick = some (beAt l 8 8) ∧
    (∀ q, (d.wit (beAt l 5 1)).stamps.find? (fun (x : Nat × Nat × Bool × Bool) => decide (x.1 = beAt l 8 8)) = some q →
      ((d.witStamp (beAt l 5 1) l).wit (beAt l 5 1)).stamps = (d.wit (beAt l 5 1)).stamps) ∧
    ∀ p, p ≠ beAt l 5 1 → (d.witStamp (beAt l 5 1) l).wit p = d.wit p := by
  simp only [partnerStamp, Bool.and_eq_true, decide_eq_true_eq] at h
  obtain ⟨⟨h1, h3⟩, h4⟩ := h
  obtain ⟨stamps, epoch, hst, htake⟩ : ∃ stamps epoch, ((d.wit (beAt l 5 1)).stamps.any (fun q => decide (q.1 = beAt l 8 8)) = true →
      stamps = (d.wit (beAt l 5 1)).stamps) ∧ d.witStamp (beAt l 5 1) l =
      { d with net := { d.net with wit := Tab.set d.net.wit (beAt l 5 1) { d.wit (beAt l 5 1) with stamps := stamps, lastTick := some (beAt l 8 8) }, witEpoch := epoch } } :=
    ⟨_, _, fun h => if_pos h, if_pos (by simp [h1, h3, h4])⟩
  rw [htake]
  refine ⟨rfl, rfl, ?_, fun q hq => ?_, fun p hp => ?_⟩
  · exact congrArg WitOut.lastTick (Tab.get_set_same ..)
  · have any : (d.wit (beAt l 5 1)).stamps.any (fun q => decide (q.1 = beAt l 8 8)) = true :=
      List.any_eq_true.mpr ⟨q, List.mem_of_find?_eq_some hq, by simpa using List.find?_some hq⟩
    rw [← hst any]
    exact congrArg WitOut.stamps (Tab.get_set_same ..)
  · exact Tab.get_set_other _ _ _ (Ne.symm hp)

theorem witnessStamp_taken {s : State} {h : RxHdr} {l : List Byte} (hc : s.chip.dev.classify h = .witness) :
    ∃ t, exec (.witnessStampReceive h (.stamp l)) s = .next t ∧ t.chip.mem = s.chip.mem ∧ t.chip.dev.regs = s.chip.dev.regs ∧ t.chip.dev.out = [] ∧
      (¬(s.chip.dev.partnerStamp l = true ∧ beAt l 5 1 ∈ s.chip.dev.witStampOuts h) → t.chip.dev.net = s.chip.dev.net) ∧
      (s.chip.dev.partnerStamp l = true → beAt l 5 1 ∈ s.chip.dev.witStampOuts h →
        (t.chip.dev.wit (beAt l 5 1)).lastTick = some (beAt l 8 8) ∧
        (∀ q, (s.chip.dev.wit (beAt l 5 1)).stamps.find? (fun (x : Nat × Nat × Bool × Bool) => decide (x.1 = beAt l 8 8)) = some q →
          (t.chip.dev.wit (beAt l 5 1)).stamps = (s.chip.dev.wit (beAt l 5 1)).stamps) ∧
        ∀ p, p ≠ beAt l 5 1 → t.chip.dev.wit p = s.chip.dev.wit p) := by
  obtain ⟨p, hp⟩ := s.chip.dev.quiet.countRx_only h
  obtain ⟨e, he⟩ : ∃ e, e = ({ s.chip.dev.quiet with perf := p } : Device) := ⟨_, rfl⟩
  have aside : s.chip.dev.Aside e := ⟨[], p, s.chip.dev.host, he⟩
  have cls : e.classify h = .witness := by rw [aside.classify, hc]
  have partner : e.partnerStamp l = s.chip.dev.partnerStamp l := by rw [he]; rfl
  have outs : e.witStampOuts h = s.chip.dev.witStampOuts h := by rw [he]; rfl
  have wits (o : Nat) : e.wit o = s.chip.dev.wit o := by rw [he]; rfl
  have ran : Chip.witnessRx ⟨s.chip.mem, s.chip.dev.quiet⟩ h (.stamp l) =
      ⟨s.chip.mem, if beAt l 5 1 ∈ e.witStampOuts h then e.witStamp (beAt l 5 1) l else e⟩ := by
    have single := forL_single (f := fun (o : Nat) (d : Device) => d.witStamp o l) (o := beAt l 5 1)
      (fun x hx d => Device.witStamp_other (.inl (Ne.symm hx))) (l := e.witStampOuts h) (List.nodup_range.filter _) e
    simp only [Chip.witnessRx, hp, ← he, cls, Device.witnessIn, single]
  obtain ⟨t, ht, hm, hd⟩ := onChip_next (f := fun c => c.witnessRx h (.stamp l)) (c := .witnessStampReceive h (.stamp l)) rfl ran
  rw [← partner, ← outs]
  simp only [← wits]
  have hregs : e.regs = s.chip.dev.regs := by rw [he]; rfl
  have hnet : e.net = s.chip.dev.net := by rw [he]; rfl
  have hout : e.out = [] := by rw [he]; rfl
  clear ran
  by_cases hin : beAt l 5 1 ∈ e.witStampOuts h
  · rw [if_pos hin] at hd
    cases hpartner : e.partnerStamp l with
    | false =>
      rw [Device.witStamp_other (.inr hpartner)] at hd
      exact ⟨t, ht, hm, by rw [hd, hregs], by rw [hd, hout], fun _ => by rw [hd, hnet], by simp⟩
    | true =>
      obtain ⟨regs, out, last, same, other⟩ := Device.witStamp_takes hpartner
      rw [← hd] at regs out last same other
      exact ⟨t, ht, hm, regs.trans hregs, out.trans hout, fun hn => absurd ⟨rfl, hin⟩ hn, fun _ _ => ⟨last, same, other⟩⟩
  · rw [if_neg hin] at hd
    exact ⟨t, ht, hm, by rw [hd, hregs], by rw [hd, hout], fun _ => by rw [hd, hnet], fun _ h => absurd h hin⟩

/-! ### Witness verdicts -/

/-- The fields that a verdict changes. -/
def verdictFields : List Fld := [F.NET_WIT_STATE_VERDICT, F.NET_WIT_STATE_TICK, F.NET_WIT_CNT_COUNT, F.NET_EVENTS_WIT_CHANGE]

/-- An output is watched and has no verdict on tick `k`. -/
def Device.unjudged (d : Device) (o k : Nat) : Bool := d.watchedOut o && !(d.wit o).verdicts.any (fun q => decide (q.1 = k))

/-- The verdict on an output kept: it is the last of its output. -/
def WitOut.judged (x : WitOut) (k : Nat) : WitOut :=
  { x with first := false, verdicts := (x.verdicts ++ [(k, x.verdict k)]).drop (x.verdicts.length - 7) }

/-- The device with the verdict on an output shown and counted. -/
def Device.verdictShown (d : Device) (o k : Nat) : Device :=
  let e := ((d.setWit o ((d.wit o).judged k)).put F.NET_WIT_STATE_VERDICT o ((d.wit o).verdict k)).put F.NET_WIT_STATE_TICK o (k % 2 ^ 24)
  if (d.wit o).verdict k = 1 then e else e.bump F.NET_WIT_CNT_COUNT o 1

/-- One output in the round of verdicts. -/
def Device.verdictStep (k o : Nat) (d : Device) : Device :=
  if d.unjudged o k then
    if !(d.wit o).first && decide (d.get F.NET_WIT_STATE_VERDICT o ≠ (d.wit o).verdict k) then (d.verdictShown o k).raise F.NET_EVENTS_WIT_CHANGE o
    else d.verdictShown o k
  else d

theorem Device.witnessVerdict_eq {d : Device} (h1 : d.inTick = true) (h2 : d.witOn = true) (h3 : 2 ≤ d.tick.num) :
    d.witnessVerdict = forN 32 (Device.verdictStep (d.tick.num - 2)) (d.waitPoint (d.get F.NET_WIT_CFG_GRACE)) := by
  have open_ : (!d.inTick || !d.witOn || decide (d.tick.num < 2)) = false := by
    simp only [h1, h2, Bool.not_true, Bool.or_self, Bool.false_or, decide_eq_false_iff_not]
    omega
  have num : (d.waitPoint (d.get F.NET_WIT_CFG_GRACE)).tick = d.tick := Device.waitUntil_tick ..
  unfold witnessVerdict
  rw [open_, if_neg Bool.false_ne_true]
  dsimp only
  rw [num]
  generalize d.waitPoint (d.get F.NET_WIT_CFG_GRACE) = e
  generalize d.tick.num - 2 = k
  congr 1
  funext o d
  unfold verdictStep verdictShown unjudged WitOut.judged
  cases hw : d.watchedOut o <;> cases hv : (d.wit o).verdicts.any (fun q => decide (q.1 = k)) <;> rfl

/-- What the witness keeps and shows of an output is the same. -/
structure Device.SameWit (o : Nat) (d e : Device) : Prop where
  wit : e.wit o = d.wit o
  verdict : e.get F.NET_WIT_STATE_VERDICT o = d.get F.NET_WIT_STATE_VERDICT o
  tick : e.get F.NET_WIT_STATE_TICK o = d.get F.NET_WIT_STATE_TICK o
  count : e.get F.NET_WIT_CNT_COUNT o = d.get F.NET_WIT_CNT_COUNT o

theorem Device.SameWit.refl (o : Nat) (d : Device) : d.SameWit o d := ⟨rfl, rfl, rfl, rfl⟩

theorem Device.SameWit.trans {o : Nat} {d e e' : Device} (h : d.SameWit o e) (h' : e.SameWit o e') : d.SameWit o e' :=
  ⟨h'.wit.trans h.wit, h'.verdict.trans h.verdict, h'.tick.trans h.tick, h'.count.trans h.count⟩

theorem Device.SameWit.raise {o : Nat} {d e : Device} (h : d.SameWit o e) (a : Nat) : d.SameWit o (e.raise F.NET_EVENTS_WIT_CHANGE a) := by
  have kept : e.keeps (e.raise F.NET_EVENTS_WIT_CHANGE a) (but [F.NET_EVENTS_WIT_CHANGE]) := Device.keeps_raise _ _ _ (by simp)
  have net : (e.raise F.NET_EVENTS_WIT_CHANGE a).net = e.net := e.raise_net ..
  exact h.trans ⟨by rw [Device.wit, net, Device.wit], kept.1 _ _ (by decide), kept.1 _ _ (by decide), kept.1 _ _ (by decide)⟩

section Step

variable (d : Device) (k o : Nat)

theorem Device.verdictShown_other {p : Nat} (hp : o ≠ p) : d.SameWit p (d.verdictShown o k) := by
  have put (d : Device) (f g : Fld) (v : Nat) : (d.put f o v).get g p = d.get g p := by rw [get_put, if_neg fun h => hp h.2]
  have other (e : Device) (he : e.net = (d.setWit o ((d.wit o).judged k)).net) : e.wit p = d.wit p := by
    rw [wit, he]
    exact Tab.get_set_other _ _ _ hp
  unfold verdictShown
  dsimp only
  split
  · exact ⟨other _ rfl, by rw [put, put]; rfl, by rw [put, put]; rfl, by rw [put, put]; rfl⟩
  · exact ⟨other _ rfl, by rw [bump, put, put, put]; rfl, by rw [bump, put, put, put]; rfl, by rw [bump, put, put, put]; rfl⟩

theorem Device.keeps_verdictShown : d.keeps (d.verdictShown o k) (but verdictFields) := by
  have put (d : Device) (f : Fld) (hf : f ∈ verdictFields) (v : Nat) : d.keeps (d.put f o v) (but verdictFields) :=
    Device.keeps_put d f o v (but_apart (List.mem_append_left _ hf))
  have shown : d.keeps (((d.setWit o ((d.wit o).judged k)).put F.NET_WIT_STATE_VERDICT o ((d.wit o).verdict k)).put F.NET_WIT_STATE_TICK o (k % 2 ^ 24))
      (but verdictFields) := Device.keeps_trans (put (d.setWit o _) _ (by simp [verdictFields]) _) (put _ _ (by simp [verdictFields]) _)
  unfold verdictShown
  dsimp only
  split
  · exact shown
  · exact Device.keeps_trans shown (put _ _ (by simp [verdictFields]) _)

theorem WitOut.verdict_lt (x : WitOut) : x.verdict k < 4 := by
  unfold WitOut.verdict
  split
  · decide
  · split_ifs <;> decide

theorem WitOut.find_judged {x : WitOut} (h : x.verdicts.any (fun q => decide (q.1 = k)) = false) :
    ((x.judged k).verdicts.find? (fun q => decide (q.1 = k))).map Prod.snd = some (x.verdict k) := by
  have none_ : (x.verdicts.drop (x.verdicts.length - 7)).find? (fun q => decide (q.1 = k)) = none := by
    rw [List.find?_eq_none]
    intro q hq
    rw [List.any_eq_false] at h
    exact h q (List.mem_of_mem_drop hq)
  rw [WitOut.judged]
  dsimp only
  rw [List.drop_append_of_le_length (Nat.sub_le ..), List.find?_append, none_]
  simp

/-- What a verdict leaves of its output. -/
theorem Device.verdictShown_shows (h : (d.wit o).verdicts.any (fun q => decide (q.1 = k)) = false) :
    (d.verdictShown o k).get F.NET_WIT_STATE_VERDICT o = (d.wit o).verdict k ∧ (d.verdictShown o k).get F.NET_WIT_STATE_TICK o = k % 2 ^ 24 ∧
    (d.verdictShown o k).get F.NET_WIT_CNT_COUNT o = (if (d.wit o).verdict k = 1 then d.get F.NET_WIT_CNT_COUNT o
      else min (d.get F.NET_WIT_CNT_COUNT o + 1) (2 ^ F.NET_WIT_CNT_COUNT.width - 1)) ∧
    (d.verdictShown o k).verdictOf o k = some ((d.wit o).verdict k) := by
  have lt := (d.wit o).verdict_lt k
  have v : (d.wit o).verdict k % 2 ^ F.NET_WIT_STATE_VERDICT.width = (d.wit o).verdict k := Nat.mod_eq_of_lt lt
  have t : k % 2 ^ 24 % 2 ^ F.NET_WIT_STATE_TICK.width = k % 2 ^ 24 := Nat.mod_mod ..
  have of_net (e : Device) (he : e.net = (d.setWit o ((d.wit o).judged k)).net) : e.verdictOf o k = some ((d.wit o).verdict k) := by
    have mine : e.wit o = (d.wit o).judged k := by
      rw [wit, he]
      exact Tab.get_set_same ..
    rw [verdictOf, mine, WitOut.find_judged k h]
  unfold verdictShown
  dsimp only
  split
  next h1 =>
    refine ⟨?_, ?_, ?_, of_net _ rfl⟩
    · rw [get_put_ne _ _ _ _ _ _ (by decide), get_put_same, v]
    · rw [get_put_same, t]
    · rw [get_put_ne _ _ _ _ _ _ (by decide), get_put_ne _ _ _ _ _ _ (by decide)]
      rfl
  next h1 =>
    refine ⟨?_, ?_, ?_, of_net _ rfl⟩
    · rw [bump, get_put_ne _ _ _ _ _ _ (by decide), get_put_ne _ _ _ _ _ _ (by decide), get_put_same, v]
    · rw [bump, get_put_ne _ _ _ _ _ _ (by decide), get_put_same, t]
    · rw [bump, get_put_same, get_put_ne _ _ _ _ _ _ (by decide), get_put_ne _ _ _ _ _ _ (by decide)]
      exact Nat.mod_eq_of_lt ((Nat.min_le_right ..).trans_lt (by decide))

theorem Device.keeps_verdictStep : d.keeps (d.verdictStep k o) (but verdictFields) := by
  unfold verdictStep
  split
  · split
    · exact Device.keeps_trans (d.keeps_verdictShown k o) (Device.keeps_raise _ _ _ (by simp [verdictFields]))
    · exact d.keeps_verdictShown k o
  · exact d.keeps_refl _

theorem Device.verdictStep_other {p : Nat} (hp : o ≠ p) : d.SameWit p (d.verdictStep k o) := by
  unfold verdictStep
  split
  · split
    · exact (d.verdictShown_other k o hp).raise o
    · exact d.verdictShown_other k o hp
  · exact .refl p d

theorem Device.verdictStep_event (h : d.get F.NET_EVENTS_WIT_CHANGE = 1) : (d.verdictStep k o).get F.NET_EVENTS_WIT_CHANGE = 1 := by
  have shown : (d.verdictShown o k).get F.NET_EVENTS_WIT_CHANGE = 1 := by
    have put (d : Device) (f : Fld) (hf : f.id ≠ F.NET_EVENTS_WIT_CHANGE.id) (v : Nat) : (d.put f o v).get F.NET_EVENTS_WIT_CHANGE = d.get F.NET_EVENTS_WIT_CHANGE :=
      get_put_ne _ _ _ _ _ _ hf
    unfold verdictShown
    dsimp only
    split
    · rw [put _ _ (by decide), put _ _ (by decide), ← h]
      rfl
    · rw [bump, put _ _ (by decide), put _ _ (by decide), put _ _ (by decide), ← h]
      rfl
  unfold verdictStep
  split
  · split
    · exact Device.get_raise_same _ _ _ (by decide)
    · exact shown
  · exact h

end Step

/-- The outcome of a round of verdicts for an output, seen from the device before the round. -/
structure Device.WitOutcome (k o : Nat) (d e : Device) : Prop where
  given : d.unjudged o k = true → e.get F.NET_WIT_STATE_VERDICT o = (d.wit o).verdict k ∧ e.get F.NET_WIT_STATE_TICK o = k % 2 ^ 24 ∧
    e.get F.NET_WIT_CNT_COUNT o = (if (d.wit o).verdict k = 1 then d.get F.NET_WIT_CNT_COUNT o
      else min (d.get F.NET_WIT_CNT_COUNT o + 1) (2 ^ F.NET_WIT_CNT_COUNT.width - 1)) ∧
    ((d.wit o).first = false → d.get F.NET_WIT_STATE_VERDICT o ≠ (d.wit o).verdict k → e.get F.NET_EVENTS_WIT_CHANGE = 1) ∧
    e.verdictOf o k = some ((d.wit o).verdict k)
  else_ : d.unjudged o k = false → d.SameWit o e

theorem Device.verdictStep_outcome (d : Device) (k o : Nat) : d.WitOutcome k o (d.verdictStep k o) := by
  refine ⟨fun h => ?_, fun h => ?_⟩
  · have awaits := h
    rw [Device.unjudged, Bool.and_eq_true, Bool.not_eq_true'] at awaits
    obtain ⟨verdict, tick, count, kept⟩ := d.verdictShown_shows k o awaits.2
    rw [verdictStep, if_pos h]
    split
    · have same := (SameWit.refl o (d.verdictShown o k)).raise o
      refine ⟨same.verdict.trans verdict, same.tick.trans tick, same.count.trans count, fun _ _ => Device.get_raise_same _ _ _ (by decide), ?_⟩
      rw [verdictOf, same.wit]
      exact kept
    next hc =>
      refine ⟨verdict, tick, count, fun h1 h2 => absurd ?_ hc, kept⟩
      simp [h1, h2]
  · rw [verdictStep, if_neg (by simp [h])]
    exact .refl o d

theorem Device.WitOutcome.later {k o : Nat} {d e e' : Device} (h : d.WitOutcome k o e) (hs : e.SameWit o e')
    (hv : e.get F.NET_EVENTS_WIT_CHANGE = 1 → e'.get F.NET_EVENTS_WIT_CHANGE = 1) : d.WitOutcome k o e' := by
  refine ⟨fun ha => ?_, fun ha => (h.else_ ha).trans hs⟩
  obtain ⟨verdict, tick, count, event, kept⟩ := h.given ha
  exact ⟨hs.verdict.trans verdict, hs.tick.trans tick, hs.count.trans count, fun h1 h2 => hv (event h1 h2), by rw [verdictOf, hs.wit]; exact kept⟩

theorem Device.WitOutcome.from {k o : Nat} {d d' e : Device} (h : d'.WitOutcome k o e) (hs : d.SameWit o d') (hw : d'.watchedOut o = d.watchedOut o) :
    d.WitOutcome k o e := by
  have awaits : d'.unjudged o k = d.unjudged o k := by rw [Device.unjudged, hw, hs.wit, Device.unjudged]
  refine ⟨fun ha => ?_, fun ha => hs.trans (h.else_ (awaits.trans ha))⟩
  have := h.given (awaits.trans ha)
  rwa [hs.wit, hs.verdict, hs.count] at this

theorem Device.watchedOut_of_keeps {d e : Device} (h : d.keeps e (but verdictFields)) (o : Nat) : e.watchedOut o = d.watchedOut o := by
  have mask : e.witMask o = d.witMask o := by rw [witMask, h.1 _ _ (by decide), witMask]
  have path (k : Nat) : e.pathEn o k = d.pathEn o k := by
    unfold pathEn on pathF
    split
    · rw [h.1 _ _ (by decide)]
    · rw [h.1 _ _ (by decide)]
  rw [watchedOut, mask, paths]
  simp only [path]
  rfl

/-- After the first `n` outputs of a round, these have their outcome, and the others are as before. -/
theorem Device.verdictRound (d : Device) (k n : Nat) : d.keeps (forN n (Device.verdictStep k) d) (but verdictFields) ∧
    ∀ o, (o < n → d.WitOutcome k o (forN n (Device.verdictStep k) d)) ∧ (n ≤ o → d.SameWit o (forN n (Device.verdictStep k) d)) := by
  induction n with
  | zero => exact ⟨d.keeps_refl _, fun o => ⟨fun h => absurd h (Nat.not_lt_zero o), fun _ => .refl o d⟩⟩
  | succ n ih =>
    obtain ⟨kept, each⟩ := ih
    rw [forN_succ]
    generalize forN n (Device.verdictStep k) d = e at *
    refine ⟨Device.keeps_trans kept (e.keeps_verdictStep k n), fun o => ⟨fun ho => ?_, fun ho => ?_⟩⟩
    · rcases Nat.lt_succ_iff_lt_or_eq.mp ho with h | rfl
      · exact ((each o).1 h).later (e.verdictStep_other k n (by omega)) (e.verdictStep_event k n)
      · exact (e.verdictStep_outcome k o).from ((each o).2 le_rfl) (Device.watchedOut_of_keeps kept o)
    · exact ((each o).2 (by omega)).trans (e.verdictStep_other k n (by omega))

theorem onDev_next {s : State} {c : Instr} {f : Device → Device} {d : Device} (hc : exec c s = onDev f s) (h : f s.chip.dev.quiet = d) :
    ∃ t, exec c s = .next t ∧ t.chip.mem = s.chip.mem ∧ t.chip.dev = d :=
  ⟨_, hc, rfl, h⟩

theorem Device.keeps_record (d : Device) (code src a b : Nat) {l : List Fld} (hl : F.BBOX_LOST_COUNT ∈ l) : d.keeps (d.record code src a b) (but l) := by
  have lost : d.keeps (d.bump F.BBOX_LOST_COUNT 0 1) (but l) := Device.keeps_put d _ _ _ (but_apart (List.mem_append_left _ hl))
  unfold record
  split
  · exact lost
  · split
    · exact Device.keeps_of_regs rfl _
    · exact lost

/-- The fields in which a second holder is reported. -/
def dualFields : List Fld := [F.PAIR_EVENTS_DUAL_HOLDER, F.BBOX_LOST_COUNT]

theorem Device.dualSeen_only (d : Device) : d.keeps d.dualSeen (but dualFields) ∧ d.dualSeen.net = d.net := by
  unfold dualSeen
  split
  · exact ⟨d.keeps_refl _, rfl⟩
  · dsimp only
    generalize hm : d.setPair (fun (p : PairX) => { p with dual := true }) = m
    have regs : m.regs = d.regs := by rw [← hm]; rfl
    have net : m.net = d.net := by rw [← hm]; rfl
    refine ⟨Device.keeps_trans (Device.keeps_of_regs regs _) (Device.keeps_trans (Device.keeps_raise _ _ _ ?_) (Device.keeps_record _ _ _ _ _ ?_)), ?_⟩
    · simp [dualFields]
    · simp [dualFields]
    · exact (Device.record_net ..).trans ((Device.raise_net ..).trans net)

theorem Device.witDual_only (d : Device) : d.keeps d.witDual (but dualFields) ∧ d.witDual.net = d.net := by
  unfold witDual
  split
  · exact d.dualSeen_only
  · exact ⟨d.keeps_refl _, rfl⟩

/-- The verdicts of a tick (R232). -/
theorem witnessVerdict_judges {s : State} (h1 : s.chip.dev.inTick = true) (h2 : s.chip.dev.witOn = true) (h3 : 2 ≤ s.chip.dev.tick.num) :
    ∃ t, exec .witnessVerdict s = .next t ∧ t.chip.mem = s.chip.mem ∧ s.chip.dev.keeps t.chip.dev (but (verdictFields ++ dualFields)) ∧
      ∀ o, o < 32 → s.chip.dev.WitOutcome (s.chip.dev.tick.num - 2) o t.chip.dev := by
  obtain ⟨e, he⟩ : ∃ e, e = s.chip.dev.quiet.waitPoint (s.chip.dev.quiet.get F.NET_WIT_CFG_GRACE) := ⟨_, rfl⟩
  have net : e.net = s.chip.dev.net := by rw [he]; exact Device.waitUntil_net ..
  have hregs : e.regs = s.chip.dev.regs := by rw [he]; exact Device.waitUntil_regs ..
  have same (o : Nat) : s.chip.dev.SameWit o e :=
    ⟨by rw [Device.wit, net, Device.wit], Device.get_congr hregs .., Device.get_congr hregs .., Device.get_congr hregs ..⟩
  obtain ⟨kept, each⟩ := e.verdictRound (s.chip.dev.tick.num - 2) 32
  have ran : s.chip.dev.quiet.witnessVerdict.witDual = (forN 32 (Device.verdictStep (s.chip.dev.tick.num - 2)) e).witDual := by
    rw [Device.witnessVerdict_eq (d := s.chip.dev.quiet) h1 h2 h3, he]
    rfl
  generalize forN 32 (Device.verdictStep (s.chip.dev.tick.num - 2)) e = f at *
  obtain ⟨dual, dualNet⟩ := f.witDual_only
  obtain ⟨t, ht, hm, hd⟩ := onDev_next (c := .witnessVerdict) (f := fun d => d.witnessVerdict.witDual) rfl ran
  refine ⟨t, ht, hm, ?_, fun o ho => ?_⟩
  · rw [hd]
    refine Device.keeps_trans (Device.keeps_of_regs hregs _) (Device.keeps_trans (Device.keeps_mono kept ?_) (Device.keeps_mono dual ?_))
    · exact but_mono fun f hf => List.mem_append_left _ hf
    · exact but_mono fun f hf => List.mem_append_right _ hf
  · rw [hd]
    have watched : e.watchedOut o = s.chip.dev.watchedOut o := Device.watchedOut_of_keeps (Device.keeps_of_regs hregs _) o
    refine (((each o).1 ho).from (same o) watched).later ⟨by rw [Device.wit, dualNet, Device.wit], ?_, ?_, ?_⟩ fun h => ?_
    · exact dual.1 _ _ (by decide)
    · exact dual.1 _ _ (by decide)
    · exact dual.1 _ _ (by decide)
    · exact (dual.1 _ _ (by decide)).trans h

/-- Settles O31: flow enables, stamps one output at a time, and a round of verdicts of which each touches its own output. -/
theorem flowsAndWitness : Obligations.FlowsAndWitness := by
  refine ⟨fun s slot f w hs hf hw => ⟨fun ha => ?_, rxFlow_conflicts hs hf hw⟩, fun s h l hc => ?_, fun s h1 h2 h3 => ?_⟩
  · obtain ⟨t, ht, hm, hregs⟩ := rxFlow_stores hs hf hw ha
    refine ⟨t, ht, hm, fun x hx hacc => ?_, fun x _ g hg => ?_, ?_⟩
    · have mine : ∀ x ∈ R.NET_RX_FLOW_CFG.flds, x.acc = .rw ∨ x.acc = .rws → x ∈ flowFields := by decide
      rw [Device.get_congr hregs]
      exact (Device.get_forL_put (by decide) _ f (mine x hx hacc) _).trans (Nat.mod_mod ..)
    · rw [Device.get_congr hregs]
      exact Device.get_forL_put_other _ _ (Ne.symm hg) x _
    · refine Device.keeps_trans ?_ (Device.keeps_of_regs hregs _)
      rw [← Device.storeWord_flow _ slot]
      exact Device.keeps_storeWord ..
  · obtain ⟨t, ht, hm, hregs, hout, hno, hyes⟩ := witnessStamp_taken (l := l) hc
    have partner : s.chip.dev.partnerStamp l = true ↔ stampIntact l = true ∧ beAt l 36 1 = 1 ∧ beAt l 37 1 = 1 - s.chip.dev.unitNo := by
      simp only [Device.partnerStamp, Bool.and_eq_true, decide_eq_true_eq, and_assoc]
    refine ⟨t, ht, hm, hregs, hout, fun hn => hno fun h => hn ?_, fun ⟨h1, h2, h3, h4⟩ => hyes (partner.mpr ⟨h1, h2, h3⟩) h4⟩
    obtain ⟨h1, h2, h3⟩ := partner.mp h.1
    exact ⟨h1, h2, h3, h.2⟩
  · obtain ⟨t, ht, hm, kept, each⟩ := witnessVerdict_judges h1 h2 h3
    refine ⟨t, ht, hm, kept, fun o ho => ?_⟩
    obtain ⟨given, other⟩ := each o ho
    have unjudged : s.chip.dev.unjudged o (s.chip.dev.tick.num - 2) = true ↔ s.chip.dev.watchedOut o = true ∧
        (s.chip.dev.wit o).verdicts.any (fun (q : Nat × Nat) => decide (q.1 = s.chip.dev.tick.num - 2)) = false := by
      rw [Device.unjudged, Bool.and_eq_true, Bool.not_eq_true']
    refine ⟨fun h => given (unjudged.mpr h), fun h => ?_⟩
    have same := other (by rw [← Bool.not_eq_true, unjudged]; exact h)
    exact ⟨same.verdict, same.wit⟩

end Sys2Proof.Machine
end

section
/-!
SUPPORT. Update commands: O51.
-/

namespace Sys2Proof.Machine

/-! ### Update commands -/

theorem updWord_reads : ∀ op < 8, ∀ unit < 3, updWord op unit < 2 ^ 32 ∧ F.UPD_CMD_OP.of (updWord op unit) = op ∧
    F.UPD_CMD_UNIT.of (updWord op unit) = unit := by decide +kernel

theorem but_of_outside {bs : List Nat} {l : List Fld} (hl : ∀ f ∈ l, bs.contains (f.id / 2097152) = true) (g : Fld) (hg : outside bs g = true) :
    but l g = true := by
  rw [outside, Bool.and_eq_true, Bool.not_eq_true'] at hg
  obtain ⟨hb, hout⟩ := hg
  have apart (f : Fld) (hf : f ∈ l ++ overflowFields) : f.id ≠ g.id := by
    rcases List.mem_append.mp hf with h | h
    · intro e
      have := hl f h
      rw [e, hout] at this
      exact Bool.false_ne_true this
    · exact but_apart (l := []) h g hb
  simp only [but, Bool.not_eq_true', List.contains_eq_mem, decide_eq_false_iff_not, List.mem_map, not_exists, not_and]
  exact fun f hf => apart f hf

/-- The fields that the answer to an update command changes. -/
def updFields : List Fld := [F.UPD_STATUS_RESULT, F.UPD_STATUS_PENDING, F.UPD_STATUS_OWNER, F.UPD_WIN_POS_POS, F.UPD_STATUS_VERIFY, F.UPD_EVENTS_BUSY]

section Device

variable (d : Device)

@[simp] theorem Device.get_setUpd (f : UpdX → UpdX) (g : Fld) (i : Nat) : (d.setUpd f).get g i = d.get g i := rfl

theorem Device.setUpd_upd (f : UpdX → UpdX) : (d.setUpd f).upd = f d.upd := rfl

/-- UPD_STATUS shows the command. -/
def Device.updShown (slot op : Nat) : Device := (d.put F.UPD_STATUS_OP 0 op).put F.UPD_STATUS_REQ_SLOT 0 slot

theorem Device.get_updShown (slot op : Nat) {f : Fld} (h1 : F.UPD_STATUS_OP.id ≠ f.id) (h2 : F.UPD_STATUS_REQ_SLOT.id ≠ f.id) (i : Nat) :
    (d.updShown slot op).get f i = d.get f i := by
  rw [updShown, get_put_ne _ _ _ _ _ _ h2, get_put_ne _ _ _ _ _ _ h1]

/-- The command of an owner, shown and counted as its access. -/
def Device.updHeard (slot op : Nat) : Device :=
  (d.updShown slot op).setUpd (fun (u : UpdX) => { u with activeAt := d.now })

theorem Device.get_updHeard (slot op : Nat) {f : Fld} (h1 : F.UPD_STATUS_OP.id ≠ f.id) (h2 : F.UPD_STATUS_REQ_SLOT.id ≠ f.id) (i : Nat) :
    (d.updHeard slot op).get f i = d.get f i := d.get_updShown slot op h1 h2 i

theorem Device.updHeard_upd (slot op : Nat) : (d.updHeard slot op).upd.job = d.upd.job ∧ (d.updHeard slot op).upd.swap = d.upd.swap ∧
    (d.updHeard slot op).upd.slot = d.upd.slot := ⟨rfl, rfl, rfl⟩

theorem Device.updHeard_hitlessOk (slot op : Nat) : (d.updHeard slot op).hitlessOk = d.hitlessOk := by
  have verify : (d.updHeard slot op).get F.UPD_STATUS_VERIFY = d.get F.UPD_STATUS_VERIFY := d.get_updHeard slot op (by decide) (by decide) 0
  unfold hitlessOk
  rw [verify]
  rfl

theorem Device.updShown_hasShadow (slot op : Nat) : (d.updShown slot op).hasShadow = d.hasShadow := by
  have role : (d.updShown slot op).holds = d.holds := by
    rw [holds, Device.role, d.get_updShown slot op (by decide) (by decide), holds, Device.role]
  have shadow : (d.updShown slot op).partnerShadow = d.partnerShadow := by
    unfold partnerShadow
    rfl
  rw [hasShadow, role, shadow]
  rfl

end Device

/-- From `d` to `e` an update command was answered: no field but `updFields`, and nothing sent. -/
def Device.UpdFrame (d e : Device) : Prop := d.keeps e (but updFields) ∧ e.out = d.out

namespace Device.UpdFrame

variable {d e : Device}

theorem refl (d : Device) : d.UpdFrame d := ⟨d.keeps_refl _, rfl⟩

theorem put (h : d.UpdFrame e) (f : Fld) (hf : f ∈ updFields) (i v : Nat) : d.UpdFrame (e.put f i v) :=
  ⟨Device.keeps_trans h.1 (Device.keeps_put e f i v (but_apart (List.mem_append_left _ hf))), h.2⟩

theorem setUpd (h : d.UpdFrame e) (f : UpdX → UpdX) : d.UpdFrame (e.setUpd f) := ⟨Device.keeps_trans h.1 (Device.keeps_of_regs rfl _), h.2⟩

theorem updEnd (h : d.UpdFrame e) (r : Nat) : d.UpdFrame (e.updEnd r) := (h.put _ (by simp [updFields]) 0 r).put _ (by simp [updFields]) 0 0

theorem updPend (h : d.UpdFrame e) : d.UpdFrame e.updPend := (h.put _ (by simp [updFields]) 0 0).put _ (by simp [updFields]) 0 1

theorem updLocked (h : d.UpdFrame e) : d.UpdFrame e.updLocked :=
  ⟨Device.keeps_trans h.1 (Device.keeps_raise e _ _ (by simp [updFields])), (raise_out ..).trans h.2⟩

theorem unlock (h : d.UpdFrame e) : d.UpdFrame (e.unlock false) := h.put _ (by simp [updFields]) 0 0xF

theorem updAct (h : d.UpdFrame e) (op : Nat) : d.UpdFrame (e.updAct op) := by
  unfold Device.updAct
  dsimp only
  split
  · exact h.updPend.put _ (by simp [updFields]) 0 1
  · split
    · exact h.updPend.setUpd _
    · exact h.updEnd _
  · split
    · exact h.updEnd _
    · split
      · exact h.updPend.setUpd _
      · exact h.updEnd _
  · split
    · exact h.updPend.setUpd _
    · exact h.updEnd _
  · split
    · exact h.updPend.setUpd _
    · exact h.updEnd _
  · exact h

end Device.UpdFrame

section Branches

variable (d : Device) (slot op unit : Nat)

/-- What follows once the command of an owner is heard. -/
def Device.updOwned (e : Device) (op unit : Nat) (pending : Bool) : Device :=
  if unit ≠ 0 && !e.hasShadow then e.put F.UPD_STATUS_RESULT 0 updRole
  else if pending then e.put F.UPD_STATUS_RESULT 0 updBusy
  else if op = 2 then (e.put F.UPD_STATUS_RESULT 0 updDone).unlock false
  else if op = 4 ∧ unit ≠ 0 ∧ e.get F.UPD_PARTNER_VERIFY ≠ 2 then e.updEnd updUnverified
  else if op = 4 && unit ≠ 0 && e.otherProto unit then e.updEnd updNotHitless
  else if unit = 1 then e.updEnd updDone
  else e.updAct op

/-- What follows once an OPEN is shown. -/
def Device.updOpens (e : Device) (slot unit : Nat) : Device :=
  if e.owner ≠ 0xF then (e.put F.UPD_STATUS_RESULT 0 updBusy).updLocked
  else if unit ≠ 0 && !e.hasShadow then e.put F.UPD_STATUS_RESULT 0 updRole
  else (((e.put F.UPD_STATUS_OWNER 0 slot).put F.UPD_WIN_POS_POS 0 0).put F.UPD_STATUS_RESULT 0 updDone).setUpd
    (fun (u : UpdX) => { u with activeAt := e.now, erased := 0 })

theorem Device.updCmd_open : d.updCmd slot 1 unit = (d.updShown slot 1).updOpens slot unit := rfl

theorem Device.updCmd_other (h0 : op ≠ 0) (h1 : op ≠ 1) : d.updCmd slot op unit =
    if d.owner ≠ slot then ((d.updShown slot op).put F.UPD_STATUS_RESULT 0 updBusy).updLocked
    else (d.updHeard slot op).updOwned op unit (d.on F.UPD_STATUS_PENDING) := by
  have owner : (d.updShown slot op).owner = d.owner := d.get_updShown slot op (by decide) (by decide) 0
  rw [← owner]
  unfold updCmd
  rw [if_neg h0]
  dsimp only
  rw [if_neg h1]
  rfl

theorem Device.updCmd_frame (h0 : op ≠ 0) : (d.updShown slot op).UpdFrame (d.updCmd slot op unit) := by
  have start : (d.updShown slot op).UpdFrame (d.updHeard slot op) := (UpdFrame.refl _).setUpd _
  by_cases h1 : op = 1
  · subst h1
    rw [updCmd_open]
    unfold updOpens
    split
    · exact ((UpdFrame.refl _).put _ (by simp [updFields]) 0 _).updLocked
    · split
      · exact (UpdFrame.refl _).put _ (by simp [updFields]) 0 _
      · exact ((((UpdFrame.refl _).put _ (by simp [updFields]) 0 _).put _ (by simp [updFields]) 0 _).put _ (by simp [updFields]) 0 _).setUpd _
  · rw [updCmd_other d slot op unit h0 h1]
    split
    · exact ((UpdFrame.refl _).put _ (by simp [updFields]) 0 _).updLocked
    · unfold updOwned
      split_ifs
      · exact start.put _ (by simp [updFields]) 0 _
      · exact start.put _ (by simp [updFields]) 0 _
      · exact (start.put _ (by simp [updFields]) 0 _).unlock
      · exact start.updEnd _
      · exact start.updEnd _
      · exact start.updEnd _
      · exact start.updAct op

/-- The answer to every command: the registers of other blocks stay, and the command is shown. -/
theorem Device.updCmd_shows (hs : slot < 8) (h0 : op ≠ 0) (h7 : op < 8) : d.keeps (d.updCmd slot op unit) (outside [14]) ∧
    (d.updCmd slot op unit).out = d.out ∧ (d.updCmd slot op unit).get F.UPD_STATUS_OP = op ∧ (d.updCmd slot op unit).get F.UPD_STATUS_REQ_SLOT = slot := by
  obtain ⟨kept, out⟩ := d.updCmd_frame slot op unit h0
  refine ⟨Device.keeps_trans ?_ (Device.keeps_mono kept (but_of_outside (by decide))), out, ?_, ?_⟩
  · have apart : ∀ g, outside [14] g = true → but [F.UPD_STATUS_OP, F.UPD_STATUS_REQ_SLOT] g = true := but_of_outside (by decide)
    exact Device.keeps_trans (d.keeps_put _ _ _ fun g hg => but_apart (by simp) g (apart g hg)) (Device.keeps_put _ _ _ _ fun g hg => but_apart (by simp) g (apart g hg))
  · rw [kept.1 _ _ (by decide), updShown, get_put_ne _ _ _ _ _ _ (by decide), get_put_same]
    exact Nat.mod_eq_of_lt (h7.trans (by decide))
  · rw [kept.1 _ _ (by decide), updShown, get_put_same]
    exact Nat.mod_eq_of_lt (hs.trans_le (by decide))

/-- Owner and result after an update command, and what goes on inside. -/
structure Device.UpdIs (e : Device) (result owner : Nat) (u : UpdX) : Prop where
  result : e.get F.UPD_STATUS_RESULT = result
  owner : e.get F.UPD_STATUS_OWNER = owner
  upd : e.upd = u

theorem Device.put_result (e : Device) {r : Nat} (hr : r < 16) : (e.put F.UPD_STATUS_RESULT 0 r).UpdIs r e.owner e.upd :=
  ⟨(get_put_same ..).trans (Nat.mod_eq_of_lt hr), get_put_ne _ _ _ _ _ _ (by decide), rfl⟩

theorem Device.updEnd_is (e : Device) {r : Nat} (hr : r < 16) : (e.updEnd r).UpdIs r e.owner e.upd := by
  refine ⟨?_, ?_, rfl⟩ <;> rw [updEnd, get_put_ne _ _ _ _ _ _ (by decide)]
  · exact (e.put_result hr).result
  · exact (e.put_result hr).owner

theorem Device.updPend_is (e : Device) : e.updPend.UpdIs 0 e.owner e.upd ∧ e.updPend.get F.UPD_STATUS_PENDING = 1 := by
  refine ⟨⟨?_, ?_, rfl⟩, (get_put_same ..).trans rfl⟩ <;> rw [updPend, get_put_ne _ _ _ _ _ _ (by decide)]
  · exact (e.put_result (by decide)).result
  · exact (e.put_result (by decide)).owner

theorem Device.updLocked_is (e : Device) {r : Nat} (hr : r < 16) : ((e.put F.UPD_STATUS_RESULT 0 r).updLocked).UpdIs r e.owner e.upd ∧
    ((e.put F.UPD_STATUS_RESULT 0 r).updLocked).get F.UPD_EVENTS_BUSY = 1 := by
  have kept : (e.put F.UPD_STATUS_RESULT 0 r).keeps (e.put F.UPD_STATUS_RESULT 0 r).updLocked (but [F.UPD_EVENTS_BUSY]) := Device.keeps_raise _ _ _ (by simp)
  have is := e.put_result hr
  exact ⟨⟨(kept.1 _ _ (by decide)).trans is.result, (kept.1 _ _ (by decide)).trans is.owner, (Device.raise_upd ..).trans is.upd⟩,
    Device.get_raise_same _ _ _ (by decide)⟩

end Branches

section Cases

variable {c : Prop} [Decidable c] {a b a' b' : Prop} (h : if c then a else b)

include h

theorem imp_ite (ha : a → a') (hb : b → b') : if c then a' else b' := by
  split at h
  next hc => rw [if_pos hc]; exact ha h
  next hc => rw [if_neg hc]; exact hb h

theorem either {p : Prop} (ha : a → p) (hb : b → p) : p := by
  split at h
  · exact ha h
  · exact hb h

end Cases

section Branches

variable {d : Device} {slot op unit : Nat}

theorem Device.owner_updShown : (d.updShown slot op).owner = d.owner := d.get_updShown slot op (by decide) (by decide) 0

theorem Device.owner_updHeard : (d.updHeard slot op).owner = d.owner := d.get_updHeard slot op (by decide) (by decide) 0

theorem Device.updHeard_hasShadow : (d.updHeard slot op).hasShadow = d.hasShadow := d.updShown_hasShadow slot op

theorem Device.no_shadow (hu : unit ≠ 0) (hsh : d.hasShadow = false) : (unit ≠ 0 && !d.hasShadow : Bool) = true := by simp [hu, hsh]

theorem Device.updOpens_takes (hs : slot < 8) (ho : d.owner = 0xF) (hu : unit = 0 ∨ d.hasShadow = true) :
    (d.updCmd slot 1 unit).UpdIs 1 slot { d.upd with activeAt := d.now, erased := 0 } ∧ (d.updCmd slot 1 unit).get F.UPD_WIN_POS_POS = 0 := by
  have owned : ¬ (d.updShown slot 1).owner ≠ 0xF := by rw [owner_updShown, ho, not_not]
  have shadow : ¬ (unit ≠ 0 && !(d.updShown slot 1).hasShadow : Bool) = true := by
    rw [updShown_hasShadow]
    rcases hu with rfl | h
    · simp
    · simp [h]
  rw [updCmd_open, updOpens, if_neg owned, if_neg shadow]
  refine ⟨⟨?_, ?_, rfl⟩, ?_⟩ <;> rw [get_setUpd]
  · exact (put_result _ (by decide)).result
  · rw [get_put_ne _ _ _ _ _ _ (by decide), get_put_ne _ _ _ _ _ _ (by decide), get_put_same]
    exact Nat.mod_eq_of_lt (hs.trans_le (by decide))
  · rw [get_put_ne _ _ _ _ _ _ (by decide), get_put_same, Nat.zero_mod]

theorem Device.updCmd_busy (h0 : op ≠ 0) (h : (op = 1 ∧ d.owner ≠ 0xF) ∨ (op ≠ 1 ∧ d.owner ≠ slot)) :
    (d.updCmd slot op unit).UpdIs 2 d.owner d.upd ∧ (d.updCmd slot op unit).get F.UPD_EVENTS_BUSY = 1 := by
  have locked := (d.updShown slot op).updLocked_is (r := updBusy) (by decide)
  rw [owner_updShown] at locked
  rcases h with ⟨rfl, h⟩ | ⟨h1, h⟩
  · rw [updCmd_open, updOpens, if_pos (by rw [owner_updShown]; exact h)]
    exact locked
  · rw [updCmd_other d slot op unit h0 h1, if_pos h]
    exact locked

theorem Device.updCmd_role (h0 : op ≠ 0) (h : (op = 1 ∧ d.owner = 0xF) ∨ (op ≠ 1 ∧ d.owner = slot)) (hu : unit ≠ 0) (hsh : d.hasShadow = false) :
    (d.updCmd slot op unit).get F.UPD_STATUS_RESULT = 8 ∧ (d.updCmd slot op unit).get F.UPD_STATUS_OWNER = d.owner ∧
    (d.updCmd slot op unit).upd.job = d.upd.job ∧ (d.updCmd slot op unit).upd.swap = d.upd.swap := by
  have shown : (d.updShown slot op).hasShadow = false := by rw [updShown_hasShadow, hsh]
  rcases h with ⟨rfl, h⟩ | ⟨h1, h⟩
  · rw [updCmd_open, updOpens, if_neg (by rw [owner_updShown, h, not_not]), if_pos (no_shadow hu shown)]
    have is := (d.updShown slot 1).put_result (r := updRole) (by decide)
    exact ⟨is.result, is.owner.trans owner_updShown, congrArg UpdX.job is.upd, congrArg UpdX.swap is.upd⟩
  · rw [updCmd_other d slot op unit h0 h1, if_neg (not_not.mpr h), updOwned, if_pos (no_shadow hu (updHeard_hasShadow.trans hsh))]
    have is := (d.updHeard slot op).put_result (r := updRole) (by decide)
    exact ⟨is.result, is.owner.trans owner_updHeard, (congrArg UpdX.job is.upd).trans rfl, (congrArg UpdX.swap is.upd).trans rfl⟩

/-- A command of the owner for its own unit. -/
theorem Device.updCmd_owned (h0 : op ≠ 0) (h1 : op ≠ 1) (h : d.owner = slot) : d.updCmd slot op 0 =
    if d.on F.UPD_STATUS_PENDING then (d.updHeard slot op).put F.UPD_STATUS_RESULT 0 updBusy
    else if op = 2 then ((d.updHeard slot op).put F.UPD_STATUS_RESULT 0 updDone).unlock false else (d.updHeard slot op).updAct op := by
  rw [updCmd_other d slot op 0 h0 h1, if_neg (not_not.mpr h), updOwned]
  cases d.on F.UPD_STATUS_PENDING <;> simp

/-- A command that goes on, with what goes on inside. -/
def Device.begins (e : Device) (job : Option FlashJob) (swap : Option Swap) : Prop :=
  (e.get F.UPD_STATUS_PENDING = 1 ∧ e.get F.UPD_STATUS_RESULT = 0) ∧ e.upd.job = job ∧ e.upd.swap = swap

/-- A command that has ended with a result and begun nothing. -/
def Device.ends (d e : Device) (r : Nat) : Prop := e.get F.UPD_STATUS_RESULT = r ∧ e.upd.job = d.upd.job ∧ e.upd.swap = d.upd.swap

theorem Device.updPend_begins (e : Device) (f : UpdX → UpdX) : (e.updPend.setUpd f).begins (f e.upd).job (f e.upd).swap :=
  ⟨⟨e.updPend_is.2, e.updPend_is.1.result⟩, rfl, rfl⟩

theorem Device.updEnd_ends (e : Device) {r : Nat} (hr : r < 16) : e.ends (e.updEnd r) r := ⟨(e.updEnd_is hr).result, rfl, rfl⟩

/-- What each command does on its own unit. -/
theorem Device.updAct_acts (e : Device) : ((e.updAct 3).begins e.upd.job e.upd.swap ∧ (e.updAct 3).get F.UPD_STATUS_VERIFY = 1) ∧
    (if e.get F.UPD_STATUS_VERIFY = 2 then (e.updAct 4).begins (some (.selector e.inactive 1 4)) e.upd.swap else e.ends (e.updAct 4) 5) ∧
    (if e.inRun = true ∧ e.on F.PAIR_CTRL_EN = true then e.ends (e.updAct 5) 3
      else if e.hitlessOk = true then (e.updAct 5).begins e.upd.job (some (Swap.mk none 0)) else e.ends (e.updAct 5) 6) ∧
    (if e.get F.UPD_STATUS_PREFERRED = e.upd.slot ∧ e.get F.UPD_STATUS_SEL_STATE = 2 then (e.updAct 6).begins (some (.selector e.upd.slot 0 6)) e.upd.swap
      else e.ends (e.updAct 6) 3) ∧
    (if (e.get F.UPD_STATUS_SEL_STATE = 1 ∨ e.get F.UPD_STATUS_SEL_STATE = 2) ∧ e.upd.slot ≤ 1 then
      (e.updAct 7).begins (some (.selector e.upd.slot 0 7)) e.upd.swap else e.ends (e.updAct 7) 3) := by
  have pend := fun f => e.updPend_begins f
  have end_ := fun {r : Nat} (hr : r < 16) => e.updEnd_ends hr
  refine ⟨⟨⟨⟨?_, ?_⟩, rfl, rfl⟩, (get_put_same ..).trans rfl⟩, ?_, ?_, ?_, ?_⟩
  · exact (get_put_ne _ _ _ _ _ _ (by decide)).trans e.updPend_is.2
  · exact (get_put_ne _ _ _ _ _ _ (by decide)).trans e.updPend_is.1.result
  · have act : e.updAct 4 = if e.get F.UPD_STATUS_VERIFY = 2 then e.updPend.setUpd (fun (u : UpdX) => { u with job := some (.selector e.inactive 1 4) })
      else e.updEnd updUnverified := rfl
    rw [act]
    split
    · exact pend _
    · exact end_ (by decide)
  · have act : e.updAct 5 = if e.inRun && e.on F.PAIR_CTRL_EN then e.updEnd updState
      else if e.hitlessOk then e.updPend.setUpd (fun (u : UpdX) => { u with swap := some ⟨none, 0⟩ }) else e.updEnd updNotHitless := rfl
    split
    next h =>
      rw [act, if_pos (by rw [h.1, h.2]; rfl)]
      exact end_ (by decide)
    next h =>
      have no : ¬(e.inRun && e.on F.PAIR_CTRL_EN) = true := by rwa [Bool.and_eq_true]
      rw [act, if_neg no]
      split
      · exact pend _
      · exact end_ (by decide)
  · have act : e.updAct 6 = if e.get F.UPD_STATUS_PREFERRED = e.upd.slot ∧ e.get F.UPD_STATUS_SEL_STATE = 2 then
      e.updPend.setUpd (fun (u : UpdX) => { u with job := some (.selector e.upd.slot 0 6) }) else e.updEnd updState := rfl
    rw [act]
    split
    · exact pend _
    · exact end_ (by decide)
  · have act : e.updAct 7 = if (e.get F.UPD_STATUS_SEL_STATE = 1 ∨ e.get F.UPD_STATUS_SEL_STATE = 2) ∧ e.upd.slot ≤ 1 then
      e.updPend.setUpd (fun (u : UpdX) => { u with job := some (.selector e.upd.slot 0 7) }) else e.updEnd updState := rfl
    rw [act]
    split
    · exact pend _
    · exact end_ (by decide)

end Branches

/-- What an admitted update command leaves. -/
theorem updCommand_runs {s : State} {slot unit op : Nat} (hs : slot < 8) (hu : unit < 3) (h0 : op ≠ 0) (h8 : op < 8)
    (ha : s.chip.admits slot R.UPD_CMD 0 (updWord op unit) = true) :
    ∃ t, writeTo slot R.UPD_CMD 0 (updWord op unit) s = .next t ∧ t.chip.mem = s.chip.mem ∧ s.chip.dev.keeps t.chip.dev (outside [14]) ∧
      t.chip.dev.out = [.result slot resOk []] ∧ t.chip.dev.get F.UPD_STATUS_OP = op ∧ t.chip.dev.get F.UPD_STATUS_REQ_SLOT = slot ∧
      t.chip.dev.regs = (s.chip.dev.quiet.updCmd slot op unit).regs ∧ t.chip.dev.upd = (s.chip.dev.quiet.updCmd slot op unit).upd := by
  obtain ⟨hw, hop, hun⟩ := updWord_reads op h8 unit hu
  obtain ⟨kept, out, showsOp, showsSlot⟩ := s.chip.dev.quiet.updCmd_shows slot op unit hs h0 h8
  obtain ⟨t, p, ht, hm, hd⟩ := writeTo_effect (m := s.chip.mem) (d := s.chip.dev.quiet.updCmd slot op unit) (by decide) hs hw rfl ha (by
    have effect (w : Nat) : s.chip.quiet.writeEffect slot R.UPD_CMD 0 w s.chip.quiet.dev =
      ⟨s.chip.mem, s.chip.dev.quiet.updCmd slot (F.UPD_CMD_OP.of w) (F.UPD_CMD_UNIT.of w)⟩ := rfl
    rw [effect, hop, hun])
  generalize s.chip.dev.quiet.updCmd slot op unit = e at *
  have hregs : t.chip.dev.regs = e.regs := by rw [hd]; rfl
  refine ⟨t, ht, hm, Device.keeps_trans kept (Device.keeps_of_regs hregs _), ?_, (Device.get_congr hregs ..).trans showsOp,
    (Device.get_congr hregs ..).trans showsSlot, hregs, by rw [hd]; rfl⟩
  rw [hd, Device.emit_out]
  exact congrArg (· ++ _) out

/-- Settles O51: the lock first, then the role, the command that is pending, and what the command itself requires. -/
theorem updateCommandsAreJudgedByLockAndStatus : Obligations.UpdateCommandsAreJudgedByLockAndStatus := by
  intro s slot unit op c hs hu hc ha d owner waits sel
  have same : exec c s = writeTo slot R.UPD_CMD 0 (updWord op unit) s ∧ 1 ≤ op ∧ op ≤ 7 := by
    simp only [List.mem_cons, Prod.mk.injEq, List.not_mem_nil, or_false] at hc
    rcases hc with ⟨rfl, rfl⟩ | ⟨rfl, rfl⟩ | ⟨rfl, rfl⟩ | ⟨rfl, rfl⟩ | ⟨rfl, rfl⟩ | ⟨rfl, rfl⟩ | ⟨rfl, rfl⟩
    all_goals exact ⟨rfl, by decide, by decide⟩
  obtain ⟨run, h1, h7⟩ := same
  obtain ⟨t, ht, hm, kept, out, showsOp, showsSlot, hregs, hupd⟩ := updCommand_runs hs hu (by omega) (by omega) ha
  refine ⟨t, run.trans ht, hm, kept, out, showsOp, showsSlot, ?_⟩
  intro e result begun
  have gets := fun f => Device.get_congr hregs f 0
  have res : result = (d.quiet.updCmd slot op unit).get F.UPD_STATUS_RESULT := gets _
  have ends_ {x : Device} {r : Nat} (h : x.ends (d.quiet.updCmd slot op unit) r) : result = r ∧ e.upd.job = x.upd.job ∧ e.upd.swap = x.upd.swap :=
    ⟨res.trans h.1, (congrArg UpdX.job hupd).trans h.2.1, (congrArg UpdX.swap hupd).trans h.2.2⟩
  have begins_ {job : Option FlashJob} {swap : Option Swap} (h : (d.quiet.updCmd slot op unit).begins job swap) :
      begun ∧ e.upd.job = job ∧ e.upd.swap = swap :=
    ⟨⟨(gets _).trans h.1.1, res.trans h.1.2⟩, (congrArg UpdX.job hupd).trans h.2.1, (congrArg UpdX.swap hupd).trans h.2.2⟩
  refine ⟨fun hop ho hsh => ?_, fun h => ?_, fun h hu0 hsh => ?_, fun h1 ho hu0 => ?_⟩
  · subst hop
    obtain ⟨is, pos⟩ := Device.updOpens_takes (d := d.quiet) hs ho hsh
    exact ⟨(gets _).trans is.owner, (gets _).trans pos, res.trans is.result, hupd.trans is.upd⟩
  · obtain ⟨is, event⟩ := Device.updCmd_busy (d := d.quiet) (unit := unit) (by omega) h
    exact ⟨res.trans is.result, (gets _).trans event, (gets _).trans is.owner, hupd.trans is.upd⟩
  · obtain ⟨r, o, job, swap⟩ := Device.updCmd_role (d := d.quiet) (by omega) h hu0 hsh
    exact ⟨res.trans r, (gets _).trans o, (congrArg UpdX.job hupd).trans job, (congrArg UpdX.swap hupd).trans swap⟩
  · subst hu0
    have owned := Device.updCmd_owned (d := d.quiet) (slot := slot) (op := op) (by omega) h1 ho
    have heard (f : Fld) (h1 : F.UPD_STATUS_OP.id ≠ f.id) (h2 : F.UPD_STATUS_REQ_SLOT.id ≠ f.id) : (d.quiet.updHeard slot op).get f = d.get f :=
      d.quiet.get_updHeard slot op h1 h2 0
    refine ⟨fun hw => ?_, fun hw => ?_⟩
    · rw [if_pos (show d.quiet.on F.UPD_STATUS_PENDING = true from hw)] at owned
      have is := (d.quiet.updHeard slot op).put_result (r := updBusy) (by decide)
      rw [← owned] at is
      have job : (d.quiet.updCmd slot op 0).upd.job = d.upd.job := (congrArg UpdX.job is.upd).trans rfl
      have swap : (d.quiet.updCmd slot op 0).upd.swap = d.upd.swap := (congrArg UpdX.swap is.upd).trans rfl
      exact ⟨res.trans is.result, ((gets _).trans is.owner).trans Device.owner_updHeard, (congrArg UpdX.job hupd).trans job,
        (congrArg UpdX.swap hupd).trans swap⟩
    · rw [if_neg (by rw [show d.quiet.on F.UPD_STATUS_PENDING = false from hw]; exact Bool.false_ne_true)] at owned
      by_cases h2 : op = 2
      · subst h2
        rw [if_pos rfl] at owned
        have o : (d.quiet.updCmd slot 2 0).get F.UPD_STATUS_OWNER = 0xF := by
          rw [owned]
          exact Device.get_put_same ..
        have r : (d.quiet.updCmd slot 2 0).get F.UPD_STATUS_RESULT = 1 := by
          rw [owned]
          exact (Device.get_put_ne _ _ _ _ _ _ (by decide)).trans ((d.quiet.updHeard slot 2).put_result (r := updDone) (by decide)).result
        have u : e.upd = (d.quiet.updHeard slot 2).upd := hupd.trans (by rw [owned]; rfl)
        exact ⟨fun _ _ _ => (congrArg UpdX.job u).trans rfl, fun _ => (congrArg UpdX.swap u).trans rfl, fun _ => ⟨(gets _).trans o, res.trans r⟩, by simp, by simp, by simp,
          by simp, by simp⟩
      · rw [if_neg h2] at owned
        obtain ⟨verify, activate, swap_, confirm, revert⟩ := (d.quiet.updHeard slot op).updAct_acts
        have inactive : (d.quiet.updHeard slot op).inactive = d.inactive := by rw [Device.inactive, heard _ (by decide) (by decide), Device.inactive]
        have en : (d.quiet.updHeard slot op).on F.PAIR_CTRL_EN = d.on F.PAIR_CTRL_EN := by
          rw [Device.on, heard _ (by decide) (by decide), Device.on]
        have run : (d.quiet.updHeard slot op).inRun = d.inRun := rfl
        have hitless : (d.quiet.updHeard slot op).hitlessOk = d.hitlessOk := d.quiet.updHeard_hitlessOk slot op
        obtain ⟨job, swap, uslot⟩ := d.quiet.updHeard_upd slot op
        rw [heard _ (by decide) (by decide), inactive, swap] at activate
        rw [run, en, hitless, job] at swap_
        rw [heard _ (by decide) (by decide), heard _ (by decide) (by decide), uslot, swap] at confirm
        rw [heard _ (by decide) (by decide), uslot, swap] at revert
        rw [job, swap] at verify
        generalize d.quiet.updHeard slot op = x at *
        obtain rfl | rfl | rfl | rfl | rfl : op = 3 ∨ op = 4 ∨ op = 5 ∨ op = 6 ∨ op = 7 := by omega
        · rw [← owned] at verify
          obtain ⟨begun', job', swap'⟩ := begins_ verify.1
          exact ⟨fun _ _ _ => job', fun _ => swap', by simp, fun _ => ⟨begun', (gets _).trans verify.2⟩, by simp, by simp, by simp, by simp⟩
        · rw [← owned] at activate
          exact ⟨by simp, fun _ => either activate (fun h => (begins_ h).2.2) fun h => (ends_ h).2.2.trans swap, by simp, by simp,
            fun _ => imp_ite activate (fun h => ⟨(begins_ h).1, (begins_ h).2.1⟩) fun h => ⟨(ends_ h).1, (ends_ h).2.1.trans job⟩, by simp, by simp, by simp⟩
        · rw [← owned] at swap_
          exact ⟨fun _ _ _ => either swap_ (fun h => (ends_ h).2.1.trans job) fun h => either h (fun h => (begins_ h).2.1) fun h => (ends_ h).2.1.trans job,
            by simp, by simp, by simp, by simp, fun _ => imp_ite swap_ (fun h => ⟨(ends_ h).1, (ends_ h).2.2.trans swap⟩) fun h =>
              imp_ite h (fun h => ⟨(begins_ h).1, (begins_ h).2.2⟩) fun h => ⟨(ends_ h).1, (ends_ h).2.2.trans swap⟩, by simp, by simp⟩
        · rw [← owned] at confirm
          exact ⟨by simp, fun _ => either confirm (fun h => (begins_ h).2.2) fun h => (ends_ h).2.2.trans swap, by simp, by simp, by simp, by simp,
            fun _ => imp_ite confirm (fun h => ⟨(begins_ h).1, (begins_ h).2.1⟩) fun h => ⟨(ends_ h).1, (ends_ h).2.1.trans job⟩, by simp⟩
        · rw [← owned] at revert
          exact ⟨by simp, fun _ => either revert (fun h => (begins_ h).2.2) fun h => (ends_ h).2.2.trans swap, by simp, by simp, by simp, by simp, by simp,
            fun _ => imp_ite revert (fun h => ⟨(begins_ h).1, (begins_ h).2.1⟩) fun h => ⟨(ends_ h).1, (ends_ h).2.1.trans job⟩⟩

end Sys2Proof.Machine
end

section
/-!
SUPPORT. Update windows, the flash and the swap: O52.
-/

namespace Sys2Proof.Machine

/-! ### Flash -/

/-- Cells taken out by address read as nothing written, the others as before. -/
theorem Cells.read_filter (z : Byte) (keep : Nat → Bool) {m : Cells} {lo : Nat} (hm : Cells.wfFrom z lo m = true) (a : Nat) :
    Cells.read z (m.filter (fun p => keep p.1)) a = if keep a then Cells.read z m a else z := by
  induction m generalizing lo with
  | nil => simp [Cells.read]
  | cons p r ih =>
    obtain ⟨b, w⟩ := p
    simp only [Cells.wfFrom, Bool.and_eq_true, decide_eq_true_eq] at hm
    obtain ⟨-, hr⟩ := hm
    have below : a ≤ b → Cells.read z r a = z := fun h => Cells.read_below z hr (by omega)
    rw [List.filter_cons]
    by_cases hb : keep b = true
    · rw [if_pos hb, Cells.read, ih hr, Cells.read]
      by_cases hba : b = a
      · subst hba
        simp [hb]
      · simp only [hba, if_false]
        split_ifs <;> rfl
    · rw [if_neg hb, ih hr, Cells.read]
      by_cases hba : b = a
      · subst hba
        simp [hb]
      · simp only [hba, if_false]
        split_ifs with h1 h2
        · exact below (by omega)
        · rfl
        · rfl

section Flash

variable {m : Flash} (hm : m.wf = true)
include hm

theorem Flash.read_filter (keep : Nat → Bool) (a : Nat) : Flash.read (m.filter (fun p => keep p.1)) a = if keep a then Flash.read m a else 0xFF :=
  Cells.read_filter 0xFF keep hm a

theorem Flash.read_writeList_outside (a : Nat) (l : List Byte) (x : Nat) (h : x < a ∨ a + l.length ≤ x) :
    Flash.read (Flash.writeList m a l) x = Flash.read m x := Cells.read_writeList_outside 0xFF l hm (Nat.zero_le a) x h

theorem Flash.read_writeList_inside (a : Nat) (l : List Byte) (k : Nat) (h : k < l.length) : Flash.read (Flash.writeList m a l) (a + k) = l[k] :=
  Cells.read_writeList_inside 0xFF l hm (Nat.zero_le a) k h

end Flash

section Erase

variable {m : Memory} (hm : m.flash.wf = true) (base a b : Nat)
include hm

theorem Memory.flashRd_eraseTo (x : Nat) : (m.eraseTo base a b).flashRd x = if base + a ≤ x ∧ x < base + b then 0xFF else m.flashRd x := by
  refine (Flash.read_filter hm (fun x => !decide (base + a ≤ x ∧ x < base + b)) x).trans ?_
  by_cases h : base + a ≤ x ∧ x < base + b
  · rw [if_pos h, if_neg (by simp [h])]
  · rw [if_neg h, if_pos (by rw [decide_eq_false h]; rfl)]
    rfl

theorem Memory.eraseTo_wf : (m.eraseTo base a b).flash.wf = true := Flash.filter_wf hm _

end Erase

/-! ### The update window -/

/-- The memory once the window has taken bytes: the sectors reached first erased, the bytes in place. -/
def Memory.windowed (m : Memory) (base erased off : Nat) (l : List Byte) : Memory :=
  let stop := (off + l.length + 65535) / 65536 * 65536
  (if erased < stop then m.eraseTo base erased stop else m).flashWr (base + off) l

section Windowed

variable {m : Memory} (hm : m.flash.wf = true) (base erased off : Nat) (l : List Byte)
include hm

theorem Memory.windowed_wf : (if erased < (off + l.length + 65535) / 65536 * 65536 then m.eraseTo base erased ((off + l.length + 65535) / 65536 * 65536)
    else m).flash.wf = true := by
  split
  · exact Memory.eraseTo_wf hm ..
  · exact hm

theorem Memory.windowed_inside (k : Nat) (h : k < l.length) : (m.windowed base erased off l).flashRd (base + off + k) = l[k] :=
  Flash.read_writeList_inside (Memory.windowed_wf hm base erased off l) _ l k h

theorem Memory.windowed_erased (x : Nat) (h1 : erased ≤ x) (h2 : x < (off + l.length + 65535) / 65536 * 65536) (h3 : x < off ∨ off + l.length ≤ x) :
    (m.windowed base erased off l).flashRd (base + x) = 0xFF := by
  refine (Flash.read_writeList_outside (Memory.windowed_wf hm base erased off l) _ l _ (by omega)).trans ?_
  rw [if_pos (by omega)]
  exact (Memory.flashRd_eraseTo hm base erased _ (base + x)).trans (if_pos (by omega))

theorem Memory.windowed_outside (x : Nat) (h : x < base + min erased off ∨ base + (off + l.length + 65535) / 65536 * 65536 ≤ x) :
    (m.windowed base erased off l).flashRd x = m.flashRd x := by
  refine (Flash.read_writeList_outside (Memory.windowed_wf hm base erased off l) _ l _ (by omega)).trans ?_
  split
  · exact (Memory.flashRd_eraseTo hm base erased _ x).trans (if_neg (by omega))
  · rfl

end Windowed

/-- The device once the window has taken bytes. -/
def Device.windowed (d : Device) (off n : Nat) : Device :=
  let e := if d.get F.UPD_STATUS_VERIFY = 1 then d.updEnd 0 else d
  let f := (e.put F.UPD_STATUS_VERIFY 0 0).put F.UPD_WIN_POS_POS 0 (off + n)
  f.setUpd (fun (u : UpdX) => { u with erased := max u.erased ((off + n + 65535) / 65536 * 65536), job := some .window, activeAt := f.now })

theorem Chip.winStore_eq (c : Chip) (off : Nat) (l : List Byte) : c.winStore off l =
    ⟨c.mem.windowed (imageBase c.dev.flashSize c.dev.inactive) c.dev.upd.erased off l, c.dev.windowed off l.length⟩ := rfl

theorem Device.windowed_shows (d : Device) {off n : Nat} (h : off + n < 2 ^ 29) : (d.windowed off n).get F.UPD_WIN_POS_POS = off + n ∧
    (d.windowed off n).get F.UPD_STATUS_VERIFY = 0 ∧ (d.windowed off n).upd.job = some .window ∧ (d.windowed off n).out = d.out := by
  refine ⟨?_, ?_, rfl, ?_⟩
  · rw [windowed, get_setUpd, get_put_same]
    exact Nat.mod_eq_of_lt h
  · rw [windowed, get_setUpd, get_put_ne _ _ _ _ _ _ (by decide), get_put_same, Nat.zero_mod]
  · unfold windowed
    dsimp only
    split <;> rfl

/-- The device of an owner whose access counts (R398). -/
def Device.accessed (d : Device) : Device := d.setUpd (fun (u : UpdX) => { u with activeAt := d.now })

section Window

variable {s : State} {slot a : Nat} {l : List Byte} (hs : slot < 8) (hon : s.chip.dev.pd1On = true) (hboot : s.chip.dev.inBoot = false)
  (hrole : s.chip.dev.roleRefuses 20 false = false) (hroom : s.chip.dev.mirrorFull l.length = false)

include hs hon

theorem winCmd_runs {c : Instr} {target code : Nat} {m : Memory} {e : Device} (hc : exec c s = onChip (Chip.winCmd slot target a l) s)
    (hw : s.chip.quiet.dpWrite slot target a l = (⟨m, e⟩, code)) :
    ∃ t, exec c s = .next t ∧ t.chip.mem = m ∧ t.chip.dev = e.emit (.result slot code []) := by
  refine onChip_next hc ?_
  have on : (!s.chip.quiet.dev.pd1On) = false := by rw [show s.chip.quiet.dev.pd1On = true from hon]; rfl
  have ran : Chip.winCmd slot target a l s.chip.quiet = (s.chip.quiet.dpWrite (slot % 8) target a l).1.answer (slot % 8)
      (s.chip.quiet.dpWrite (slot % 8) target a l).2 [] := by
    unfold Chip.winCmd
    rw [on, if_neg Bool.false_ne_true]
  refine ran.trans ?_
  rw [Nat.mod_eq_of_lt hs, hw]
  rfl

include hboot hrole hroom

omit hs hon in
/-- A permitted write to the update window comes to the window's own rules. -/
theorem Chip.dpWrite_window (hspan : a + l.length ≤ s.chip.dev.updSpan) (hperm : s.chip.dev.mayWrite slot 22 = true) :
    s.chip.quiet.dpWrite slot 2 a l = if (s.chip.quiet.winWrite slot a l).2 = resOk ∨ (s.chip.quiet.winWrite slot a l).2 = resPoison then
      ((s.chip.quiet.winWrite slot a l).1.mapDev (fun (d : Device) => d.mirrorWrite 2 a l), (s.chip.quiet.winWrite slot a l).2)
    else s.chip.quiet.winWrite slot a l := by
  have boot : s.chip.quiet.dev.inBoot = false := hboot
  have span : ¬ a + l.length > s.chip.quiet.dev.updSpan := not_lt.mpr hspan
  have perm : s.chip.quiet.dev.mayWrite slot 22 = true := hperm
  have role : s.chip.quiet.dev.roleRefuses 20 false = false := hrole
  have room : s.chip.quiet.dev.mirrorFull l.length = false := hroom
  simp only [Chip.dpWrite, boot, span, perm, Chip.dpGuard, role, room, Bool.false_eq_true, if_false, Bool.not_true]

omit hs hon in
theorem Chip.dpWrite_settings (hspan : a + l.length ≤ settingsSpan) (hperm : s.chip.dev.mayWrite slot 23 = true) :
    s.chip.quiet.dpWrite slot 3 a l = (⟨s.chip.mem, (s.chip.dev.quiet.setWrite a l).mirrorWrite 3 a l⟩, resOk) := by
  have boot : s.chip.quiet.dev.inBoot = false := hboot
  have span : ¬ a + l.length > settingsSpan := not_lt.mpr hspan
  have perm : s.chip.quiet.dev.mayWrite slot 23 = true := hperm
  have role : s.chip.quiet.dev.roleRefuses 20 false = false := hrole
  have room : s.chip.quiet.dev.mirrorFull l.length = false := hroom
  simp only [Chip.dpWrite, boot, span, perm, Chip.dpGuard, role, room, Bool.false_eq_true, if_false, Bool.not_true, true_or, if_true, Chip.mapDev]
  rfl

variable (hspan : a + l.length ≤ s.chip.dev.updSpan) (hperm : s.chip.dev.mayWrite slot 22 = true)

include hspan hperm

/-- The window is not the slot's. -/
theorem updWindowWrite_locked (ho : s.chip.dev.owner ≠ slot) : ∃ t, exec (.updWindowWrite slot a l) s = .next t ∧ t.chip.mem = s.chip.mem ∧
    t.chip.dev.out = [.result slot resBusy []] ∧ t.chip.dev.get F.UPD_EVENTS_BUSY = 1 ∧
    t.chip.dev.get F.UPD_WIN_POS_POS = s.chip.dev.get F.UPD_WIN_POS_POS := by
  have own : s.chip.quiet.dev.owner ≠ slot := ho
  have busy : s.chip.quiet.winWrite slot a l = (⟨s.chip.mem, s.chip.dev.quiet.updLocked⟩, resBusy) := if_pos own
  have write := Chip.dpWrite_window hboot hrole hroom hspan hperm
  rw [busy, if_neg (by simp [resBusy, resOk, resPoison])] at write
  obtain ⟨t, ht, hm, hd⟩ := winCmd_runs (c := .updWindowWrite slot a l) hs hon rfl write
  have kept : s.chip.dev.quiet.keeps s.chip.dev.quiet.updLocked (but [F.UPD_EVENTS_BUSY]) := Device.keeps_raise _ _ _ (by simp)
  have hregs : t.chip.dev.regs = s.chip.dev.quiet.updLocked.regs := by rw [hd]; rfl
  refine ⟨t, ht, hm, ?_, (Device.get_congr hregs ..).trans (Device.get_raise_same _ _ _ (by decide)), (Device.get_congr hregs ..).trans (kept.1 _ _ (by decide))⟩
  rw [hd, Device.emit_out, Device.updLocked, Device.raise_out]
  rfl

/-- The owner writes below the position, or while the flash is busy. -/
theorem updWindowWrite_refused (ho : s.chip.dev.owner = slot) (h : a < s.chip.dev.get F.UPD_WIN_POS_POS ∨ s.chip.dev.upd.job.isSome = true) :
    ∃ t, exec (.updWindowWrite slot a l) s = .next t ∧ t.chip.mem = s.chip.mem ∧ t.chip.dev.get F.UPD_WIN_POS_POS = s.chip.dev.get F.UPD_WIN_POS_POS ∧
    t.chip.dev.out = [.result slot (if a < s.chip.dev.get F.UPD_WIN_POS_POS then resFormat else resBusy) []] := by
  have own : ¬ s.chip.quiet.dev.owner ≠ slot := not_not.mpr ho
  have refused : s.chip.quiet.winWrite slot a l =
      (⟨s.chip.mem, s.chip.dev.quiet.accessed⟩, if a < s.chip.dev.get F.UPD_WIN_POS_POS then resFormat else resBusy) := by
    have win : s.chip.quiet.winWrite slot a l = if a < s.chip.dev.get F.UPD_WIN_POS_POS then (⟨s.chip.mem, s.chip.dev.quiet.accessed⟩, resFormat)
        else if s.chip.dev.upd.job.isSome then (⟨s.chip.mem, s.chip.dev.quiet.accessed⟩, resBusy)
        else ((⟨s.chip.mem, s.chip.dev.quiet.accessed⟩ : Chip).winStore a l, resOk) := if_neg own
    rw [win]
    by_cases hpos : a < s.chip.dev.get F.UPD_WIN_POS_POS
    · rw [if_pos hpos, if_pos hpos]
    · rw [if_neg hpos, if_neg hpos, if_pos (h.resolve_left hpos)]
  have write := Chip.dpWrite_window hboot hrole hroom hspan hperm
  rw [refused, if_neg (by dsimp only; split <;> decide)] at write
  obtain ⟨t, ht, hm, hd⟩ := winCmd_runs (c := .updWindowWrite slot a l) hs hon rfl write
  exact ⟨t, ht, hm, by rw [hd]; rfl, by rw [hd]; rfl⟩

/-- The owner's bytes are taken. -/
theorem updWindowWrite_taken (ho : s.chip.dev.owner = slot) (hpos : s.chip.dev.get F.UPD_WIN_POS_POS ≤ a) (hjob : s.chip.dev.upd.job = none) :
    ∃ t, exec (.updWindowWrite slot a l) s = .next t ∧
      t.chip.mem = s.chip.mem.windowed (imageBase s.chip.dev.flashSize s.chip.dev.inactive) s.chip.dev.upd.erased a l ∧
      t.chip.dev.out = [.result slot resOk []] ∧ t.chip.dev.get F.UPD_WIN_POS_POS = a + l.length ∧
      t.chip.dev.get F.UPD_STATUS_VERIFY = 0 ∧ t.chip.dev.upd.job = some .window := by
  have own : ¬ s.chip.quiet.dev.owner ≠ slot := not_not.mpr ho
  have lt : a + l.length < 2 ^ 29 := by
    have : s.chip.dev.updSpan ≤ 268435456 := Nat.min_le_right ..
    omega
  have stored : s.chip.quiet.winWrite slot a l =
      ((⟨s.chip.mem, s.chip.dev.quiet.accessed⟩ : Chip).winStore a l, resOk) := by
    have win : s.chip.quiet.winWrite slot a l = if a < s.chip.dev.get F.UPD_WIN_POS_POS then (⟨s.chip.mem, s.chip.dev.quiet.accessed⟩, resFormat)
        else if s.chip.dev.upd.job.isSome then (⟨s.chip.mem, s.chip.dev.quiet.accessed⟩, resBusy)
        else ((⟨s.chip.mem, s.chip.dev.quiet.accessed⟩ : Chip).winStore a l, resOk) := if_neg own
    rw [win, if_neg (not_lt.mpr hpos), hjob]
    rfl
  have write := Chip.dpWrite_window hboot hrole hroom hspan hperm
  obtain ⟨w, hw⟩ : ∃ w, w = s.chip.dev.quiet.accessed.windowed a l.length := ⟨_, rfl⟩
  obtain ⟨pos, verify, job, out⟩ := s.chip.dev.quiet.accessed.windowed_shows lt
  obtain ⟨g, p, mirror, kept⟩ := w.mirrorWrite_only 2 a l
  rw [stored, if_pos (.inl rfl), Chip.winStore_eq, Chip.mapDev, ← hw, mirror] at write
  rw [← hw] at pos verify job out
  obtain ⟨t, ht, hm, hd⟩ := winCmd_runs (c := .updWindowWrite slot a l) hs hon rfl write
  refine ⟨t, ht, hm, ?_, ?_, ?_, ?_⟩
  · rw [hd, Device.emit_out]
    exact congrArg (· ++ _) out
  · rw [hd]
    exact (kept.1 _ _ (by decide)).trans pos
  · rw [hd]
    exact (kept.1 _ _ (by decide)).trans verify
  · rw [hd]
    exact job

end Window

/-! ### The settings window -/

theorem settingsWindowWrite_stores {s : State} {slot a : Nat} {l : List Byte} (hs : slot < 8) (hon : s.chip.dev.pd1On = true) (hboot : s.chip.dev.inBoot = false)
    (hrole : s.chip.dev.roleRefuses 20 false = false) (hroom : s.chip.dev.mirrorFull l.length = false) (hspan : a + l.length ≤ settingsSpan)
    (hperm : s.chip.dev.mayWrite slot 23 = true) (hwf : Flash.wf s.chip.dev.upd.settings = true) :
    ∃ t, exec (.settingsWindowWrite slot a l) s = .next t ∧ t.chip.mem = s.chip.mem ∧ t.chip.dev.out = [.result slot resOk []] ∧
      t.chip.dev.get F.UPD_STATUS_SETTINGS_DIRTY = 1 ∧
      (∀ k, (h : k < l.length) → Flash.read t.chip.dev.upd.settings (a + k) = l[k]) ∧
      (∀ x, x < a ∨ a + l.length ≤ x → Flash.read t.chip.dev.upd.settings x = Flash.read s.chip.dev.upd.settings x) := by
  have write := Chip.dpWrite_settings hboot hrole hroom hspan hperm
  obtain ⟨w, hw⟩ : ∃ w, w = s.chip.dev.quiet.setWrite a l := ⟨_, rfl⟩
  have dirty : w.get F.UPD_STATUS_SETTINGS_DIRTY = 1 := by
    rw [hw, Device.setWrite, Device.get_put_same]
    rfl
  have settings : w.upd.settings = Flash.writeList s.chip.dev.upd.settings a l := by rw [hw]; rfl
  have out : w.out = [] := by rw [hw]; rfl
  obtain ⟨g, p, mirror, kept⟩ := w.mirrorWrite_only 3 a l
  rw [← hw, mirror] at write
  obtain ⟨t, ht, hm, hd⟩ := winCmd_runs (c := .settingsWindowWrite slot a l) hs hon rfl write
  have copy : t.chip.dev.upd.settings = Flash.writeList s.chip.dev.upd.settings a l := by
    rw [hd]
    exact settings
  refine ⟨t, ht, hm, ?_, ?_, fun k hk => ?_, fun x hx => ?_⟩
  · rw [hd, Device.emit_out]
    exact congrArg (· ++ _) out
  · rw [hd]
    exact (kept.1 _ _ (by decide)).trans dirty
  · rw [copy, Flash.read_writeList_inside hwf a l k hk]
  · rw [copy, Flash.read_writeList_outside hwf a l x hx]

/-- The cells of a list written at an offset. -/
def Cells.place (z : Byte) (base : Nat) (t m : Cells) : Cells := t.foldl (fun (l : Cells) (p : Nat × Byte) => Cells.write z l (base + p.1) p.2) m

section Place

variable (z : Byte) (base : Nat)

theorem Cells.place_above {t : Cells} {lo : Nat} (ht : Cells.wfFrom z lo t = true) {m : Cells} (hm : Cells.wfFrom z 0 m = true) {x : Nat} (hx : x < lo) :
    Cells.read z (Cells.place z base t m) (base + x) = Cells.read z m (base + x) := by
  induction t generalizing lo m with
  | nil => rfl
  | cons p r ih =>
    obtain ⟨a, b⟩ := p
    simp only [Cells.wfFrom, Bool.and_eq_true, decide_eq_true_eq] at ht
    obtain ⟨⟨ha, -⟩, hr⟩ := ht
    refine (ih hr (Cells.write_wfFrom z hm (Nat.zero_le _) b) (by omega)).trans ?_
    rw [Cells.read_write z hm, if_neg (by omega)]

/-- Where nothing stood before, the placed cells read as in their list. -/
theorem Cells.read_place {t : Cells} {lo : Nat} (ht : Cells.wfFrom z lo t = true) {m : Cells} (hm : Cells.wfFrom z 0 m = true) {x : Nat}
    (hx : Cells.read z m (base + x) = z) : Cells.read z (Cells.place z base t m) (base + x) = Cells.read z t x := by
  induction t generalizing lo m with
  | nil => exact hx
  | cons p r ih =>
    obtain ⟨a, b⟩ := p
    simp only [Cells.wfFrom, Bool.and_eq_true, decide_eq_true_eq] at ht
    obtain ⟨-, hr⟩ := ht
    have written := Cells.write_wfFrom z hm (Nat.zero_le (base + a)) b
    have placed : Cells.place z base ((a, b) :: r) m = Cells.place z base r (Cells.write z m (base + a) b) := rfl
    rw [placed, Cells.read]
    rcases lt_trichotomy x a with h | h | h
    · rw [if_neg (by omega), if_pos h, Cells.place_above z base hr written (by omega), Cells.read_write z hm, if_neg (by omega), hx]
    · rw [if_pos h.symm, Cells.place_above z base hr written (by omega), Cells.read_write z hm, if_pos (by omega)]
    · rw [if_neg (by omega), if_neg (by omega)]
      exact ih hr written (by rw [Cells.read_write z hm, if_neg (by omega), hx])

end Place

/-- A settings slot, filled anew, holds the copy. -/
theorem Memory.flashRd_fillSlot {m : Memory} (hm : m.flash.wf = true) {t : Flash} (ht : t.wf = true) (f h format : Nat) {x : Nat} (hx : x < settingsSpan) :
    (m.fillSlot f h format t).flashRd (settingsBase f h + 4096 + x) = Flash.read t x := by
  have erased : (m.eraseSlot f h).flash.wf = true := Flash.filter_wf hm _
  have len : (leBytes 4 format).length = 4 := by simp [leBytes]
  refine Cells.read_place 0xFF (settingsBase f h + 4096) ht (Flash.writeList_wf erased (settingsBase f h) (leBytes 4 format)) ?_
  refine (Flash.read_writeList_outside erased _ _ _ (by omega)).trans ?_
  refine (Flash.read_filter hm (fun x => !decide (settingsBase f h ≤ x ∧ x < settingsBase f h + slotBytes)) _).trans (if_neg ?_)
  have inside : settingsBase f h ≤ settingsBase f h + 4096 + x ∧ settingsBase f h + 4096 + x < settingsBase f h + slotBytes := by
    simp only [settingsSpan] at hx
    simp only [slotBytes]
    omega
  simp only [inside, and_self, decide_true, Bool.not_true, Bool.false_eq_true, not_false_eq_true]

theorem settingsProgram_programs {s : State} (hm : s.chip.mem.flash.wf = true) (hwf : Flash.wf s.chip.dev.upd.settings = true) :
    ∃ t, exec .settingsProgramComplete s = .next t ∧
      (s.chip.dev.upd.dirty ≠ [] → s.chip.dev.flashSize ≠ 0 → s.chip.dev.pd1On = true →
        t.chip.dev.upd.dirty = [] ∧ t.chip.dev.get F.UPD_STATUS_SETTINGS_DIRTY = 0 ∧ t.chip.mem.dram = s.chip.mem.dram ∧
        ∀ x, x < settingsSpan → t.chip.mem.flashRd (settingsBase s.chip.dev.flashSize s.chip.dev.upd.half + 4096 + x) = Flash.read s.chip.dev.upd.settings x) ∧
      (s.chip.dev.upd.dirty = [] → t.chip = s.chip.quiet) := by
  have done : s.chip.quiet.settingsDone = if s.chip.dev.upd.dirty.isEmpty || decide (s.chip.dev.flashSize = 0) || !s.chip.dev.pd1On then s.chip.quiet
    else ⟨s.chip.mem.fillSlot s.chip.dev.flashSize s.chip.dev.upd.half s.chip.dev.upd.run.schema s.chip.dev.upd.settings,
      (s.chip.dev.quiet.setUpd (fun (u : UpdX) => { u with dirty := [] })).put F.UPD_STATUS_SETTINGS_DIRTY 0 0⟩ := rfl
  refine ⟨{ s with chip := s.chip.quiet.settingsDone }, rfl, fun h1 h2 h3 => ?_, fun h => ?_⟩
  · rw [done, if_neg (by simp [h1, h2, h3])]
    exact ⟨rfl, Device.get_put_same .., rfl, fun x hx => Memory.flashRd_fillSlot hm hwf _ _ _ hx⟩
  · exact done.trans (if_pos (by simp [h]))

/-! ### VERIFY and the selector -/

/-- The fields that the end of a VERIFY changes besides its result. -/
def verifyFields : List Fld := [F.UPD_STATUS_PROTO_CHANGE, F.UPD_STATUS_OUTPUT_CHANGE, F.UPD_VERSION_STAGED_VERSION, F.UPD_STATUS_RESULT,
  F.UPD_STATUS_PENDING, F.UPD_EVENTS_VERIFY_DONE]

/-- What follows once the result of a VERIFY is shown. -/
def Device.verified (d : Device) (e : Nat) (img : Image) : Device :=
  let d := (d.flag F.UPD_STATUS_PROTO_CHANGE 0 (decide (e = 0 ∧ img.proto ≠ d.upd.run.proto))).flag
    F.UPD_STATUS_OUTPUT_CHANGE 0 (decide (e = 0 ∧ img.rev ≠ d.upd.run.rev))
  let d := if e = 0 then (d.setUpd (fun (u : UpdX) => { u with staged := img })).put F.UPD_VERSION_STAGED_VERSION 0 img.version else d
  (d.updEnd updDone).raise F.UPD_EVENTS_VERIFY_DONE

theorem Device.verified_shows (d : Device) (e : Nat) (img : Image) : d.keeps (d.verified e img) (but verifyFields) ∧
    (d.verified e img).get F.UPD_STATUS_RESULT = 1 ∧ (d.verified e img).get F.UPD_STATUS_PENDING = 0 ∧
    (d.verified e img).get F.UPD_EVENTS_VERIFY_DONE = 1 := by
  have put (d : Device) (f : Fld) (hf : f ∈ verifyFields) (v : Nat) : d.keeps (d.put f 0 v) (but verifyFields) :=
    Device.keeps_put d f 0 v (but_apart (List.mem_append_left _ hf))
  have last (x : Device) (hx : d.keeps x (but verifyFields)) : d.keeps ((x.updEnd updDone).raise F.UPD_EVENTS_VERIFY_DONE) (but verifyFields) ∧
      ((x.updEnd updDone).raise F.UPD_EVENTS_VERIFY_DONE).get F.UPD_STATUS_RESULT = 1 ∧
      ((x.updEnd updDone).raise F.UPD_EVENTS_VERIFY_DONE).get F.UPD_STATUS_PENDING = 0 ∧
      ((x.updEnd updDone).raise F.UPD_EVENTS_VERIFY_DONE).get F.UPD_EVENTS_VERIFY_DONE = 1 := by
    have raised : (x.updEnd updDone).keeps ((x.updEnd updDone).raise F.UPD_EVENTS_VERIFY_DONE) (but [F.UPD_EVENTS_VERIFY_DONE]) := Device.keeps_raise _ _ _ (by simp)
    refine ⟨?_, (raised.1 _ _ (by decide)).trans (x.updEnd_is (by decide)).result, (raised.1 _ _ (by decide)).trans (Device.get_put_same ..),
      Device.get_raise_same _ _ _ (by decide)⟩
    exact Device.keeps_trans (Device.keeps_trans hx (Device.keeps_trans (put _ _ (by simp [verifyFields]) _) (put _ _ (by simp [verifyFields]) _)))
      (Device.keeps_raise _ _ _ (by simp [verifyFields]))
  have flags (x y : Bool) : d.keeps ((d.flag F.UPD_STATUS_PROTO_CHANGE 0 x).flag F.UPD_STATUS_OUTPUT_CHANGE 0 y) (but verifyFields) :=
    Device.keeps_trans (put d _ (by simp [verifyFields]) _) (put _ _ (by simp [verifyFields]) _)
  unfold verified
  dsimp only
  split
  · exact last _ (Device.keeps_trans (flags ..) (put ((Device.flag _ _ _ _).setUpd _) _ (by simp [verifyFields]) _))
  · exact last _ (flags ..)

theorem verifyDone_ends {s : State} : ∃ t, exec .updVerifyDone s = .next t ∧ t.chip.mem = s.chip.mem ∧
    (s.chip.dev.get F.UPD_STATUS_VERIFY ≠ 1 → t.chip = s.chip.quiet) ∧
    (s.chip.dev.get F.UPD_STATUS_VERIFY = 1 →
      t.chip.dev.get F.UPD_STATUS_VERIFY = (if s.chip.verifyErr = 0 then 2 else 3) ∧
      t.chip.dev.get F.UPD_STATUS_VERIFY_ERR = s.chip.verifyErr % 16 ∧ t.chip.dev.get F.UPD_STATUS_RESULT = 1 ∧
      t.chip.dev.get F.UPD_STATUS_PENDING = 0 ∧ t.chip.dev.get F.UPD_EVENTS_VERIFY_DONE = 1 ∧ s.chip.dev.keeps t.chip.dev (outside [14])) := by
  have err : s.chip.quiet.verifyErr = s.chip.verifyErr := rfl
  obtain ⟨img, shown, hshown, done⟩ : ∃ img shown, shown = (s.chip.dev.quiet.put F.UPD_STATUS_VERIFY 0 (if s.chip.verifyErr = 0 then 2 else 3)).put
      F.UPD_STATUS_VERIFY_ERR 0 s.chip.verifyErr ∧ s.chip.quiet.verifyDone = if s.chip.dev.get F.UPD_STATUS_VERIFY ≠ 1 then s.chip.quiet
        else ⟨s.chip.mem, shown.verified s.chip.verifyErr img⟩ := by
    refine ⟨readImage (s.chip.mem.imageRd s.chip.dev.flashSize s.chip.dev.inactive), _, rfl, ?_⟩
    unfold Chip.verifyDone
    rw [err]
    rfl
  refine ⟨{ s with chip := s.chip.quiet.verifyDone }, rfl, ?_, fun h => done.trans (if_pos h), fun h => ?_⟩
  · rw [done]
    split <;> rfl
  · rw [done, if_neg (not_not.mpr h)]
    obtain ⟨kept, result, pending, event⟩ := shown.verified_shows s.chip.verifyErr img
    generalize s.chip.verifyErr = e at *
    have before : s.chip.dev.keeps shown (outside [14]) := by
      have apart : ∀ g, outside [14] g = true → but [F.UPD_STATUS_VERIFY, F.UPD_STATUS_VERIFY_ERR] g = true := but_of_outside (by decide)
      rw [hshown]
      exact Device.keeps_trans (Device.keeps_put s.chip.dev.quiet _ _ _ fun g hg => but_apart (by simp) g (apart g hg))
        (Device.keeps_put _ _ _ _ fun g hg => but_apart (by simp) g (apart g hg))
    refine ⟨?_, ?_, result, pending, event, Device.keeps_trans before (Device.keeps_mono kept (but_of_outside (by decide)))⟩
    · refine (kept.1 _ _ (by decide)).trans ?_
      rw [hshown, Device.get_put_ne _ _ _ _ _ _ (by decide), Device.get_put_same]
      split <;> rfl
    · refine (kept.1 _ _ (by decide)).trans ?_
      rw [hshown, Device.get_put_same]
      rfl

/-! ### What the flash has done -/

/-- The fields that CONFIRM changes besides the selector. -/
def confirmFields : List Fld := [F.UPD_OTP_SVN_SVN, F.UPD_EVENTS_CONFIRMED, F.BBOX_LOST_COUNT]

/-- What CONFIRM makes of a chip: the OTP values rise, and what else there is stays. -/
theorem Chip.confirmed_confirms (c : Chip) : c.confirmed.mem.dram = c.mem.dram ∧ c.confirmed.mem.otp.lc = c.mem.otp.lc ∧
    (∀ k, k < 19 → c.confirmed.mem.otp.svn k = max (c.mem.otp.svn k) (c.dev.upd.run.svns.getD k 0)) ∧
    c.dev.keeps c.confirmed.dev (but confirmFields) ∧ c.confirmed.dev.upd = c.dev.upd ∧ c.confirmed.dev.get F.UPD_EVENTS_CONFIRMED = 1 := by
  obtain ⟨svns, hsvns, hm, hd⟩ : ∃ svns, svns = (List.range 19).map (fun k => max (c.mem.otp.svn k) (c.dev.upd.run.svns.getD k 0)) ∧
      (c.confirmed.mem.otp = { c.mem.otp with svns := svns } ∧ c.confirmed.mem.dram = c.mem.dram) ∧
      c.confirmed.dev = (((forN 19 (fun (i : Nat) (d : Device) => d.put F.UPD_OTP_SVN_SVN i (svns.getD i 0)) c.dev).raise F.UPD_EVENTS_CONFIRMED).record 0x0071 14
        (forN 19 (fun (i : Nat) (d : Device) => d.put F.UPD_OTP_SVN_SVN i (svns.getD i 0)) c.dev).upd.run.version 0) := by
    refine ⟨_, rfl, ?_, rfl⟩
    unfold confirmed
    dsimp only
    split <;> exact ⟨rfl, rfl⟩
  have apart (f : Fld) (hf : f ∈ confirmFields) : ∀ g, but confirmFields g = true → f.id ≠ g.id := but_apart (List.mem_append_left _ hf)
  have kept : c.dev.keeps (forN 19 (fun (i : Nat) (d : Device) => d.put F.UPD_OTP_SVN_SVN i (svns.getD i 0)) c.dev) (but confirmFields) :=
    Device.keeps_forL (fun i d => d.keeps_put _ i _ (apart _ (by simp [confirmFields]))) _ _
  have upd : (forN 19 (fun (i : Nat) (d : Device) => d.put F.UPD_OTP_SVN_SVN i (svns.getD i 0)) c.dev).upd = c.dev.upd := by
    have all (n : Nat) : (forN n (fun (i : Nat) (d : Device) => d.put F.UPD_OTP_SVN_SVN i (svns.getD i 0)) c.dev).upd = c.dev.upd := by
      induction n with
      | zero => rfl
      | succ n ih => rw [forN_succ]; exact ih
    exact all 19
  generalize forN 19 (fun (i : Nat) (d : Device) => d.put F.UPD_OTP_SVN_SVN i (svns.getD i 0)) c.dev = e at *
  have raised : e.keeps (e.raise F.UPD_EVENTS_CONFIRMED) (but confirmFields) := Device.keeps_raise _ _ _ (by simp [confirmFields])
  have recorded := (e.raise F.UPD_EVENTS_CONFIRMED).keeps_record 0x0071 14 e.upd.run.version 0 (l := [F.BBOX_LOST_COUNT]) (by simp)
  refine ⟨hm.2, by rw [hm.1], fun k hk => ?_, ?_, ?_, ?_⟩
  · rw [hm.1]
    show svns.getD k 0 = _
    rw [hsvns, List.getD_eq_getElem?_getD, List.getElem?_map, List.getElem?_range hk]
    rfl
  · rw [hd]
    exact Device.keeps_trans kept (Device.keeps_trans raised (Device.keeps_record _ _ _ _ _ (by simp [confirmFields])))
  · rw [hd, Device.record_upd, Device.raise_upd, upd]
  · rw [hd]
    exact (recorded.1 _ _ (by decide)).trans (Device.get_raise_same _ _ _ (by decide))

/-- The device once a selector write has completed. -/
def Device.selected (d : Device) (p st : Nat) : Device :=
  let e := if d.get F.UPD_STATUS_PREFERRED = p then d.upd.erased else 0
  ((d.setUpd (fun (u : UpdX) => { u with job := none, erased := e })).showSel p st).updEnd updDone

/-- A selector write is shown, and its command has ended. -/
structure Device.ShowsSel (d : Device) (p st : Nat) : Prop where
  preferred : d.get F.UPD_STATUS_PREFERRED = p % 2
  state : d.get F.UPD_STATUS_SEL_STATE = st % 4
  result : d.get F.UPD_STATUS_RESULT = 1
  pending : d.get F.UPD_STATUS_PENDING = 0
  job : d.upd.job = none

theorem Device.ShowsSel.keeps {d e : Device} {p st : Nat} {l : List Fld} (h : d.ShowsSel p st) (hk : d.keeps e (but l)) (hu : e.upd.job = d.upd.job)
    (hl : ∀ f ∈ [F.UPD_STATUS_PREFERRED, F.UPD_STATUS_SEL_STATE, F.UPD_STATUS_RESULT, F.UPD_STATUS_PENDING], but l f = true) : e.ShowsSel p st :=
  ⟨(hk.1 _ _ (hl _ (by simp))).trans h.preferred, (hk.1 _ _ (hl _ (by simp))).trans h.state, (hk.1 _ _ (hl _ (by simp))).trans h.result,
    (hk.1 _ _ (hl _ (by simp))).trans h.pending, hu.trans h.job⟩

theorem Device.selected_shows (d : Device) (p st : Nat) : (d.selected p st).ShowsSel p st := by
  refine ⟨?_, ?_, (updEnd_is _ (by decide)).result, ?_, rfl⟩
  · rw [selected, updEnd, get_put_ne _ _ _ _ _ _ (by decide), get_put_ne _ _ _ _ _ _ (by decide), showSel, get_put_ne _ _ _ _ _ _ (by decide), get_put_same]
    rfl
  · rw [selected, updEnd, get_put_ne _ _ _ _ _ _ (by decide), get_put_ne _ _ _ _ _ _ (by decide), showSel, get_put_same]
    rfl
  · exact (get_put_same ..).trans rfl

theorem Chip.flashDone_selector {c : Chip} {p st cmd : Nat} (h : c.dev.upd.job = some (.selector p st cmd)) : c.flashDone =
    if cmd = 6 then (⟨c.mem.writeSel c.dev.flashSize p st, c.dev.selected p st⟩ : Chip).confirmed
    else if cmd = 5 then ⟨c.mem.writeSel c.dev.flashSize p st, (c.dev.selected p st).raise F.UPD_EVENTS_SWAP_DONE⟩
    else ⟨c.mem.writeSel c.dev.flashSize p st, c.dev.selected p st⟩ := by
  have size : (c.dev.selected p st).flashSize = c.dev.flashSize := rfl
  rw [← size]
  unfold Device.selected flashDone
  simp only [h, Chip.mapDev]

theorem Memory.writeSel_keeps (m : Memory) (f p st : Nat) : (m.writeSel f p st).dram = m.dram ∧ (m.writeSel f p st).otp = m.otp := by
  unfold writeSel
  generalize m.selector f = r
  cases r with
  | none => simp only [flashWr, flashErase, and_self]
  | some r =>
    dsimp only
    split
    · simp only [flashWr, flashErase, and_self]
    · simp only [flashWr, and_self]

theorem flashWrite_completes {s : State} : ∃ t, exec .updFlashWriteComplete s = .next t ∧ t.chip.mem.dram = s.chip.mem.dram ∧
    (s.chip.dev.upd.job = none → t.chip = s.chip.quiet) ∧
    (s.chip.dev.upd.job = some .window → t.chip.mem = s.chip.mem ∧
      t.chip.dev = { s.chip.dev with out := [], upd := { s.chip.dev.upd with job := none } }) ∧
    (∀ p st cmd, s.chip.dev.upd.job = some (.selector p st cmd) →
      t.chip.dev.ShowsSel p st ∧ (cmd ≠ 6 → t.chip.mem = s.chip.mem.writeSel s.chip.dev.flashSize p st) ∧
      (cmd = 5 → t.chip.dev.get F.UPD_EVENTS_SWAP_DONE = 1) ∧
      (cmd = 6 → t.chip.dev.get F.UPD_EVENTS_CONFIRMED = 1 ∧ t.chip.mem.otp.lc = s.chip.mem.otp.lc ∧
        ∀ k, k < 19 → t.chip.mem.otp.svn k = max (s.chip.mem.otp.svn k) (s.chip.dev.upd.run.svns.getD k 0))) := by
  cases hj : s.chip.dev.upd.job with
  | none =>
    have done : s.chip.quiet.flashDone = s.chip.quiet := by
      unfold Chip.flashDone
      rw [show s.chip.quiet.dev.upd.job = none from hj]
    exact ⟨{ s with chip := s.chip.quiet.flashDone }, rfl, by rw [done]; rfl, fun _ => done, by simp, by simp⟩
  | some job =>
    cases job with
    | window =>
      have done : s.chip.quiet.flashDone = ⟨s.chip.mem, { s.chip.dev with out := [], upd := { s.chip.dev.upd with job := none } }⟩ := by
        unfold Chip.flashDone
        rw [show s.chip.quiet.dev.upd.job = some .window from hj]
        rfl
      exact ⟨{ s with chip := s.chip.quiet.flashDone }, rfl, by rw [done], by simp, fun _ => by rw [done]; exact ⟨rfl, rfl⟩, by simp⟩
    | selector p st cmd =>
      have done := Chip.flashDone_selector (c := s.chip.quiet) hj
      obtain ⟨e, he⟩ : ∃ e, e = s.chip.dev.quiet.selected p st := ⟨_, rfl⟩
      have shows_ : e.ShowsSel p st := he ▸ s.chip.dev.quiet.selected_shows p st
      have run : e.upd.run = s.chip.dev.upd.run := by rw [he]; rfl
      have done' : s.chip.quiet.flashDone = if cmd = 6 then (⟨s.chip.mem.writeSel s.chip.dev.flashSize p st, e⟩ : Chip).confirmed
        else if cmd = 5 then ⟨s.chip.mem.writeSel s.chip.dev.flashSize p st, e.raise F.UPD_EVENTS_SWAP_DONE⟩
        else ⟨s.chip.mem.writeSel s.chip.dev.flashSize p st, e⟩ := he ▸ done
      obtain ⟨dram, otp⟩ := s.chip.mem.writeSel_keeps s.chip.dev.flashSize p st
      suffices h : s.chip.quiet.flashDone.mem.dram = s.chip.mem.dram ∧ s.chip.quiet.flashDone.dev.ShowsSel p st ∧
          (cmd ≠ 6 → s.chip.quiet.flashDone.mem = s.chip.mem.writeSel s.chip.dev.flashSize p st) ∧
          (cmd = 5 → s.chip.quiet.flashDone.dev.get F.UPD_EVENTS_SWAP_DONE = 1) ∧
          (cmd = 6 → s.chip.quiet.flashDone.dev.get F.UPD_EVENTS_CONFIRMED = 1 ∧ s.chip.quiet.flashDone.mem.otp.lc = s.chip.mem.otp.lc ∧
            ∀ k, k < 19 → s.chip.quiet.flashDone.mem.otp.svn k = max (s.chip.mem.otp.svn k) (s.chip.dev.upd.run.svns.getD k 0)) by
        refine ⟨{ s with chip := s.chip.quiet.flashDone }, rfl, h.1, by simp, by simp, fun p' st' cmd' hj' => ?_⟩
        obtain ⟨rfl, rfl, rfl⟩ : p = p' ∧ st = st' ∧ cmd = cmd' := by simpa using hj'
        exact h.2
      rw [done']
      clear done done' he
      generalize s.chip.mem.writeSel s.chip.dev.flashSize p st = m at *
      by_cases h6 : cmd = 6
      · rw [if_pos h6]
        obtain ⟨dram', lc, svn, kept, upd, event⟩ := (⟨m, e⟩ : Chip).confirmed_confirms
        refine ⟨dram'.trans dram, shows_.keeps kept (by rw [upd]) (by decide), fun h => absurd h6 h, fun h => absurd (h.symm.trans h6) (by decide), fun _ => ⟨event, ?_, fun k hk => ?_⟩⟩
        · exact lc.trans (by rw [otp])
        · refine (svn k hk).trans ?_
          rw [otp, run]
      · rw [if_neg h6]
        by_cases h5 : cmd = 5
        · rw [if_pos h5]
          have raised : e.keeps (e.raise F.UPD_EVENTS_SWAP_DONE) (but [F.UPD_EVENTS_SWAP_DONE]) := Device.keeps_raise _ _ _ (by simp)
          exact ⟨dram, shows_.keeps raised (by rw [Device.raise_upd]) (by decide), fun _ => rfl, fun _ => Device.get_raise_same _ _ _ (by decide), fun h => absurd h h6⟩
        · rw [if_neg h5]
          exact ⟨dram, shows_, fun _ => rfl, fun h => absurd h h5, fun h => absurd h h6⟩

/-! ### The swap -/

theorem rateND_pos (r : Nat) : 0 < (rateND r).1 ∧ 0 < (rateND r).2 := by
  unfold rateND
  split <;> exact ⟨by decide, by decide⟩

/-- The edge after the tick that holds a time is no earlier than that time. -/
theorem Device.le_edgeNs_succ (d : Device) (x : Nat) : x ≤ d.edgeNs (d.tickOf x + 1) := by
  obtain ⟨hn, hd⟩ := rateND_pos (d.get F.TICK_CTRL_RATE)
  have hD : 0 < d.nd.2 * 1000000000 := Nat.mul_pos hd (by decide)
  have tick : x * d.nd.1 < (d.tickOf x + 1) * (d.nd.2 * 1000000000) := by
    have := Nat.lt_div_mul_add (a := x * d.nd.1) hD
    rw [Nat.add_mul, Nat.one_mul]
    exact this
  unfold edgeNs
  refine (Nat.le_div_iff_mul_le hn).mpr ?_
  have pos : 0 < d.nd.1 := hn
  rw [Nat.mul_assoc _ d.nd.2]
  show x * d.nd.1 ≤ _
  omega

/-- Entries that only store leave the chip but for registers, waiting values and no field that the swap reads. -/
structure Chip.Stored (c b : Chip) : Prop where
  parts : ∃ g q, b = ⟨c.mem, { c.dev with regs := g, rwt := q }⟩
  preferred : b.dev.get F.UPD_STATUS_PREFERRED = c.dev.get F.UPD_STATUS_PREFERRED

theorem Chip.Stored.trans {a b c : Chip} (h : a.Stored b) (k : b.Stored c) : a.Stored c := by
  obtain ⟨g, q, rfl⟩ := h.parts
  obtain ⟨g', q', rfl⟩ := k.parts
  exact ⟨⟨g', q', rfl⟩, k.preferred.trans h.preferred⟩

/-- No row of RST or GPIO holds a field that the swap reads, and no field that it writes is for hosts to write. -/
theorem storeOnly_apart : ∀ b ∈ [1, 19], ∀ r ∈ regBlock b, ∀ f ∈ r.flds, f.id ≠ F.UPD_STATUS_PREFERRED.id ∧
    (f.acc = .rw → F.UPD_VERSION_RUN_VERSION.id ≠ f.id ∧ F.SYS_BOOT_STATUS_IMAGE.id ≠ f.id) := by decide +kernel

/-- An entry of RST or GPIO outside protection stores its word. -/
theorem Chip.swapEntry_stores {e : Nat × Nat} {p : RegRow × Nat} (hp : findReg e.1 = some p) (hs : storeOnly p.1 = true) (hi : inProt e.1 = false)
    (c : Chip) : c.swapEntry e = ⟨c.mem, c.dev.storeWord p.1 0 p.2 e.2⟩ := by
  obtain ⟨b, hb, hr⟩ := storeOnly_row (i := p.2) hp hs
  obtain ⟨-, -, slots, plain, -⟩ := storeOnly_rows b hb _ hr
  unfold swapEntry
  rw [hp]
  simp only [hi, slots, writeEffect_of_plain plain, Bool.false_eq_true, if_false]

theorem Chip.swapEntry_stored {e : Nat × Nat} (h : ∀ p, findReg e.1 = some p → storeOnly p.1 = true) (c : Chip) : c.Stored (c.swapEntry e) := by
  have same : c.Stored c := ⟨⟨_, _, rfl⟩, rfl⟩
  cases hp : findReg e.1 with
  | none => simpa only [swapEntry, hp] using same
  | some p =>
    cases hi : inProt e.1 with
    | true => simpa only [swapEntry, hp, hi, if_true] using same
    | false =>
      obtain ⟨b, hb, hr⟩ := storeOnly_row (i := p.2) hp (h p hp)
      obtain ⟨g, q, store⟩ := c.dev.storeWord_only p.1 0 p.2 e.2
      rw [swapEntry_stores hp (h p hp) hi]
      refine ⟨⟨g, q, by rw [store]⟩, (c.dev.keeps_storeWord p.1 0 p.2 e.2).1 _ _ ?_⟩
      have apart : ∀ f ∈ p.1.flds ++ overflowFields, f.id ≠ F.UPD_STATUS_PREFERRED.id := by
        intro f hf
        rcases List.mem_append.mp hf with hf | hf
        · exact (storeOnly_apart b hb _ hr f hf).1
        · exact (by decide : ∀ f ∈ overflowFields, f.id ≠ F.UPD_STATUS_PREFERRED.id) f hf
      refine Bool.not_eq_true' _ |>.mpr (Bool.eq_false_iff.mpr fun hc => ?_)
      obtain ⟨f, hf, e⟩ := List.mem_map.mp (List.contains_iff_mem.mp hc)
      exact apart f hf e

theorem Chip.swapEntries_stored {l : List (Nat × Nat)} (h : ∀ e ∈ l, ∀ p, findReg e.1 = some p → storeOnly p.1 = true) (c : Chip) :
    c.Stored (forL l Chip.swapEntry c) := by
  induction l generalizing c with
  | nil => exact ⟨⟨_, _, rfl⟩, rfl⟩
  | cons e l ih =>
    obtain ⟨he, hl⟩ := List.forall_mem_cons.mp h
    exact (c.swapEntry_stored he).trans (ih hl _)

/-- What the swap makes of a device. -/
theorem Device.keeps_swapImage (d : Device) : d.keeps d.swapImage (but [F.UPD_VERSION_RUN_VERSION, F.SYS_BOOT_STATUS_IMAGE]) :=
  Device.keeps_trans (Device.keeps_put (d.setUpd _) F.UPD_VERSION_RUN_VERSION 0 _ (but_apart (by simp)))
    (Device.keeps_put _ F.SYS_BOOT_STATUS_IMAGE 0 _ (but_apart (by simp)))

theorem swapLoad_swaps {s : State} {n : Nat} (hs : s.chip.dev.upd.swap = some (Swap.mk none n)) : ∃ t, exec .swapLoadComplete s = .next t ∧
    (s.chip.dev.ticking = true → t.chip.mem = s.chip.mem ∧ ∃ e, t.chip.dev.upd.swap = some (Swap.mk (some e) n) ∧
      s.chip.dev.devNs + s.chip.dev.pointNs 2 0 ≤ s.chip.dev.edgeNs e ∧ t.chip.dev.regs = s.chip.dev.regs) ∧
    (s.chip.dev.ticking = false → t.chip = s.chip.quiet.swapNow) := by
  have loaded : s.chip.quiet.swapLoaded = if !s.chip.dev.ticking then s.chip.quiet.swapNow
      else s.chip.quiet.mapDev (fun (d : Device) =>
        d.setUpd (fun (u : UpdX) => { u with swap := some ⟨some (if d.edgeNs (d.tickOf (d.devNs + d.pointNs 2 0)) ≥ d.devNs + d.pointNs 2 0
          then d.tickOf (d.devNs + d.pointNs 2 0) else d.tickOf (d.devNs + d.pointNs 2 0) + 1), n⟩ })) := by
    have hq : s.chip.quiet.dev.upd.swap = some (Swap.mk none n) := hs
    unfold Chip.swapLoaded
    simp only [hq]
    rfl
  refine ⟨{ s with chip := s.chip.quiet.swapLoaded }, rfl, fun ht => ?_, fun ht => ?_⟩
  · have edge (d : Device) (x : Nat) : x ≤ d.edgeNs (if d.edgeNs (d.tickOf x) ≥ x then d.tickOf x else d.tickOf x + 1) := by
      split
      · assumption
      · exact d.le_edgeNs_succ x
    simp only [loaded, ht, Bool.not_true, Bool.false_eq_true, if_false]
    exact ⟨rfl, _, rfl, edge s.chip.dev _, rfl⟩
  · simp only [loaded, ht, Bool.not_false, if_true]

theorem Chip.swapNow_swaps {c : Chip} (h : ∀ e ∈ newEntries c.dev.upd.staged.entries c.dev.upd.run.entries, ∀ p, findReg e.1 = some p → storeOnly p.1 = true) :
    c.swapNow.mem = c.mem ∧ c.swapNow.dev.upd = { c.dev.upd with run := c.dev.upd.staged, slot := c.dev.inactive, swap := none, job := some (.selector c.dev.inactive 2 5) } ∧
    c.swapNow.dev.get F.UPD_VERSION_RUN_VERSION = c.dev.upd.staged.version % 2 ^ 32 ∧
    (newEntries c.dev.upd.staged.entries c.dev.upd.run.entries = [] → c.dev.keeps c.swapNow.dev (but [F.UPD_VERSION_RUN_VERSION, F.SYS_BOOT_STATUS_IMAGE])) ∧
    (∀ e p f, newEntries c.dev.upd.staged.entries c.dev.upd.run.entries = [e] → findReg e.1 = some p → inProt e.1 = false → f ∈ p.1.flds → f.acc = .rw →
      c.swapNow.dev.get f p.2 = f.of e.2) := by
  have stored := c.swapEntries_stored h
  have now : c.swapNow = (forL (newEntries c.dev.upd.staged.entries c.dev.upd.run.entries) Chip.swapEntry c).mapDev Device.swapImage := rfl
  rw [now]
  refine ⟨?_, ?_, ?_, fun hn => ?_, fun e p f hn hp hi hf ha => ?_⟩
  · obtain ⟨g, q, hb⟩ := stored.parts
    rw [hb]
    rfl
  · obtain ⟨g, q, hb⟩ := stored.parts
    have pref := stored.preferred
    rw [hb] at pref ⊢
    have inactive : ({ c.dev with regs := g, rwt := q } : Device).inactive = c.dev.inactive := congrArg (1 - ·) pref
    rw [← inactive]
    rfl
  · obtain ⟨g, q, hb⟩ := stored.parts
    rw [hb]
    exact (Device.get_put_ne _ _ _ _ _ _ (by decide)).trans (Device.get_put_same ..)
  · rw [hn]
    exact Device.keeps_swapImage _
  · have hs := h e (by simp [hn]) p hp
    obtain ⟨b, hb, hr⟩ := storeOnly_row (i := p.2) hp hs
    obtain ⟨-, -, slots, -, -, -, nodup⟩ := storeOnly_rows b hb _ hr
    have taken := (Device.storeWord_hasTaken (d := c.dev) (slot := 0) (i := p.2) (w := e.2) hf nodup).1 (.inl ha)
    rw [Device.fieldOf, if_neg (by simp [slots])] at taken
    obtain ⟨version, image⟩ := (storeOnly_apart b hb _ hr f hf).2 ha
    rw [hn, forL_cons, Chip.swapEntry_stores hp hs hi]
    refine Eq.trans ?_ taken
    exact (Device.get_put_ne _ _ _ _ _ _ image).trans (Device.get_put_ne _ _ _ _ _ _ version)

theorem swapAbandon_abandons {s : State} {e : Option Nat} {n : Nat} (hs : s.chip.dev.upd.swap = some (Swap.mk e n)) :
    ∃ t, exec .swapAbandon s = .next t ∧ t.chip.mem = s.chip.mem ∧ (n < 8 → t.chip = s.chip.quiet) ∧
      (8 ≤ n → t.chip.dev.upd.swap = none ∧ t.chip.dev.get F.UPD_STATUS_RESULT = 7 ∧ t.chip.dev.get F.UPD_STATUS_PENDING = 0 ∧
        t.chip.dev.get F.UPD_EVENTS_SWAP_ABORTED = 1 ∧ s.chip.dev.keeps t.chip.dev (outside [14])) := by
  obtain ⟨u, hu⟩ : ∃ u, u = s.chip.dev.quiet.setUpd (fun (u : UpdX) => { u with swap := none }) := ⟨_, rfl⟩
  have abandon : s.chip.dev.quiet.swapAbandon = if n < 8 then s.chip.dev.quiet else (u.updEnd 7).raise F.UPD_EVENTS_SWAP_ABORTED := by
    have hq : s.chip.dev.quiet.upd.swap = some (Swap.mk e n) := hs
    unfold Device.swapAbandon
    simp only [hq, hu]
    rfl
  refine ⟨{ s with chip := ⟨s.chip.mem, s.chip.dev.quiet.swapAbandon⟩ }, rfl, rfl, fun h => ?_, fun h => ?_⟩
  · simp only [abandon, h, if_true]
    rfl
  · have none_ : u.upd.swap = none := by rw [hu]; rfl
    have kept : s.chip.dev.keeps u (outside [14]) := by rw [hu]; exact Device.keeps_of_regs rfl _
    have ended := u.updEnd_is (r := 7) (by decide)
    have raised : (u.updEnd 7).keeps ((u.updEnd 7).raise F.UPD_EVENTS_SWAP_ABORTED) (but [F.UPD_EVENTS_SWAP_ABORTED]) := Device.keeps_raise _ _ _ (by simp)
    simp only [abandon, Nat.not_lt.mpr h, if_false]
    refine ⟨?_, ?_, ?_, Device.get_raise_same _ _ _ (by decide), ?_⟩
    · rw [Device.raise_upd, ended.upd, none_]
    · exact (raised.1 _ _ (by decide)).trans ended.result
    · exact (raised.1 _ _ (by decide)).trans ((Device.get_put_same ..).trans rfl)
    · refine Device.keeps_trans kept (Device.keeps_trans ?_ (Device.keeps_mono raised (but_of_outside (by decide))))
      have apart : ∀ g, outside [14] g = true → but [F.UPD_STATUS_RESULT, F.UPD_STATUS_PENDING] g = true := but_of_outside (by decide)
      exact Device.keeps_trans (u.keeps_put _ _ _ fun g hg => but_apart (by simp) g (apart g hg))
        (Device.keeps_put _ _ _ _ fun g hg => but_apart (by simp) g (apart g hg))

theorem updTimeout_frees (s : State) : ∃ t, exec .updSessionTimeout s = .next t ∧ t.chip.mem = s.chip.mem ∧
    (s.chip.dev.owner ≤ 7 → s.chip.dev.pd1On = true → t.chip.dev.owner = 0xF ∧ t.chip.dev.get F.UPD_EVENTS_SESSION_LOST = 1 ∧
      s.chip.dev.upd.activeAt + 60000000000 ≤ t.chip.dev.now ∧ s.chip.dev.keeps t.chip.dev (outside [14])) ∧
    (8 ≤ s.chip.dev.owner ∨ s.chip.dev.pd1On = false → t.chip = s.chip.quiet) := by
  obtain ⟨end_, hend⟩ : ∃ n, n = s.chip.dev.upd.activeAt + 60000000000 := ⟨_, rfl⟩
  have timeout : s.chip.dev.quiet.updTimeoutNow = if s.chip.dev.owner ≤ 7 ∧ s.chip.dev.pd1On = true
      then (s.chip.dev.quiet.waitNow end_).unlock true else s.chip.dev.quiet := by
    have active : s.chip.dev.quiet.upd.activeAt = s.chip.dev.upd.activeAt := rfl
    have owner : s.chip.dev.quiet.owner = s.chip.dev.owner := rfl
    have on : s.chip.dev.quiet.pd1On = s.chip.dev.pd1On := rfl
    unfold Device.updTimeoutNow
    simp only [active, owner, on, ← hend, Bool.and_eq_true, decide_eq_true_eq]
  rw [← hend]
  refine ⟨{ s with chip := ⟨s.chip.mem, s.chip.dev.quiet.updTimeoutNow⟩ }, rfl, rfl, fun h hp => ?_, fun h => ?_⟩
  · have regs := s.chip.dev.quiet.waitNow_regs end_
    have now := s.chip.dev.quiet.waitNow_now end_
    simp only [timeout, h, hp, and_self, if_true]
    generalize s.chip.dev.quiet.waitNow end_ = e at regs now
    have raised : (e.put F.UPD_STATUS_OWNER 0 0xF).keeps (e.unlock true) (but [F.UPD_EVENTS_SESSION_LOST]) := Device.keeps_raise _ _ _ (by simp)
    refine ⟨(raised.1 _ _ (by decide)).trans ((Device.get_put_same ..).trans rfl), Device.get_raise_same _ _ _ (by decide), ?_, ?_⟩
    · have : (e.unlock true).now = e.now := by
        simp only [Device.unlock, if_true, Device.raise_now]
        rfl
      rw [this, now]
      exact le_max_right _ _
    · have apart : ∀ g, outside [14] g = true → but [F.UPD_STATUS_OWNER] g = true := but_of_outside (by decide)
      exact Device.keeps_trans (Device.keeps_of_regs regs _) (Device.keeps_trans (e.keeps_put _ _ _ fun g hg => but_apart (by simp) g (apart g hg))
        (Device.keeps_mono raised (but_of_outside (by decide))))
  · have : ¬ (s.chip.dev.owner ≤ 7 ∧ s.chip.dev.pd1On = true) := by
      rintro ⟨ho, hp⟩
      rcases h with h | h
      · omega
      · rw [h] at hp; exact absurd hp (by decide)
    simp only [timeout, this, if_false]
    rfl

/-- The update window writes flash alone. -/
theorem Memory.windowed_only (m : Memory) (base erased off : Nat) (l : List Byte) : ∃ g, m.windowed base erased off l = { m with flash := g } := by
  unfold windowed
  dsimp only
  split
  · exact ⟨_, rfl⟩
  · exact ⟨_, rfl⟩

/-- A permitted write of the update window, as the statement has it. -/
theorem updWindowWrite_writes {s : State} {slot a : Nat} {l : List Byte} (hs : slot < 8) (hon : s.chip.dev.pd1On = true) (hboot : s.chip.dev.inBoot = false)
    (hwf : s.chip.mem.flash.wf = true) (hrole : s.chip.dev.roleRefuses 20 false = false) (hroom : s.chip.dev.mirrorFull l.length = false)
    (hspan : a + l.length ≤ s.chip.dev.updSpan) (hperm : s.chip.dev.mayWrite slot 22 = true) :
    let d := s.chip.dev
    ∃ t, exec (.updWindowWrite slot a l) s = .next t ∧ t.chip.mem.dram = s.chip.mem.dram ∧ t.chip.mem.otp = s.chip.mem.otp ∧
      (d.owner ≠ slot → t.chip.mem = s.chip.mem ∧ t.chip.dev.out = [.result slot resBusy []] ∧ t.chip.dev.get F.UPD_EVENTS_BUSY = 1 ∧
        t.chip.dev.get F.UPD_WIN_POS_POS = d.get F.UPD_WIN_POS_POS) ∧
      (d.owner = slot → a < d.get F.UPD_WIN_POS_POS ∨ d.upd.job.isSome = true →
        t.chip.mem = s.chip.mem ∧ t.chip.dev.get F.UPD_WIN_POS_POS = d.get F.UPD_WIN_POS_POS ∧
        t.chip.dev.out = [.result slot (if a < d.get F.UPD_WIN_POS_POS then resFormat else resBusy) []]) ∧
      (d.owner = slot → d.get F.UPD_WIN_POS_POS ≤ a → d.upd.job = none →
        let base := imageBase d.flashSize d.inactive
        let stop := (a + l.length + 65535) / 65536 * 65536
        t.chip.dev.out = [.result slot resOk []] ∧ t.chip.dev.get F.UPD_WIN_POS_POS = a + l.length ∧
        t.chip.dev.get F.UPD_STATUS_VERIFY = 0 ∧ t.chip.dev.upd.job = some .window ∧
        (∀ k, (h : k < l.length) → t.chip.mem.flashRd (base + a + k) = l[k]) ∧
        (∀ x, d.upd.erased ≤ x → x < stop → x < a ∨ a + l.length ≤ x → t.chip.mem.flashRd (base + x) = 0xFF) ∧
        (∀ x, x < base + min d.upd.erased a ∨ base + stop ≤ x → t.chip.mem.flashRd x = s.chip.mem.flashRd x)) := by
  intro d
  by_cases ho : d.owner = slot
  · by_cases h : a < d.get F.UPD_WIN_POS_POS ∨ d.upd.job.isSome = true
    · obtain ⟨t, ht, hm, pos, out⟩ := updWindowWrite_refused hs hon hboot hrole hroom hspan hperm ho h
      refine ⟨t, ht, by rw [hm], by rw [hm], fun h' => absurd ho h', fun _ _ => ⟨hm, pos, out⟩, fun _ hpos hjob => ?_⟩
      rcases h with h | h
      · exact absurd h (not_lt.mpr hpos)
      · rw [hjob] at h
        exact absurd h (by decide)
    · obtain ⟨hpos, hjob⟩ := not_or.mp h
      obtain ⟨t, ht, hm, out, pos, verify, job⟩ := updWindowWrite_taken hs hon hboot hrole hroom hspan hperm ho (not_lt.mp hpos) (by simpa using hjob)
      obtain ⟨g, only⟩ := s.chip.mem.windowed_only (imageBase s.chip.dev.flashSize s.chip.dev.inactive) s.chip.dev.upd.erased a l
      refine ⟨t, ht, by rw [hm, only], by rw [hm, only], fun h' => absurd ho h', fun _ h' => absurd h' h, fun _ _ _ => ⟨out, pos, verify, job, ?_, ?_, ?_⟩⟩
      · rw [hm]
        exact Memory.windowed_inside hwf _ _ _ _
      · rw [hm]
        exact Memory.windowed_erased hwf _ _ _ _
      · rw [hm]
        exact Memory.windowed_outside hwf _ _ _ _
  · obtain ⟨t, ht, hm, out, event, pos⟩ := updWindowWrite_locked hs hon hboot hrole hroom hspan hperm ho
    exact ⟨t, ht, by rw [hm], by rw [hm], fun _ => ⟨hm, out, event, pos⟩, fun h => absurd h ho, fun h => absurd h ho⟩

/-- Settles O52: each branch of a window write, each job of the flash that ends, and the swap loaded, abandoned or never begun. -/
theorem updateWindowsAndFlashFollowTheSession : Obligations.UpdateWindowsAndFlashFollowTheSession := by
  unfold Obligations.UpdateWindowsAndFlashFollowTheSession
  refine ⟨fun s slot a l hs hon hboot _ hm hset hrole hroom => ⟨fun hspan hperm => updWindowWrite_writes hs hon hboot hm hrole hroom hspan hperm,
    fun hspan hperm => settingsWindowWrite_stores hs hon hboot hrole hroom hspan hperm hset⟩,
    fun s hm hset => ⟨settingsProgram_programs hm hset, verifyDone_ends, ?_⟩, fun s n => ⟨fun hswap => ?_, fun e he => swapAbandon_abandons he, updTimeout_frees s⟩⟩
  · obtain ⟨t, ht, hdram, idle, window, selector⟩ := flashWrite_completes (s := s)
    refine ⟨t, ht, hdram, idle, window, fun p st cmd hjob => ?_⟩
    obtain ⟨⟨preferred, state, result, pending, job⟩, mem, swapped, confirmed⟩ := selector p st cmd hjob
    exact ⟨preferred, state, result, pending, job, mem, swapped, confirmed⟩
  · obtain ⟨t, ht, ticks, now⟩ := swapLoad_swaps hswap
    refine ⟨t, ht, ticks, fun hticks hnew => ?_⟩
    obtain ⟨hm, upd, version, same, stored⟩ := Chip.swapNow_swaps (c := s.chip.quiet) hnew
    rw [now hticks]
    refine ⟨hm, ?_, ?_, ?_, ?_, version, same, fun e p f hn hp _ hi hf ha => stored e p f hn hp hi hf ha⟩ <;> rw [upd] <;> rfl

end Sys2Proof.Machine
end

section
/-!
SUPPORT. The freshness of a source: O21.
-/

namespace Sys2Proof.Machine

/-! ### The freshness of a source -/

/-- The next state is LIVE, STALE or LATCHED. -/
theorem staleNext_lt (st recov recover : Nat) (viol latch ack : Bool) : (staleNext st recov viol recover latch ack).1 < 3 := by
  unfold staleNext
  repeat' split
  all_goals exact Nat.lt_of_le_of_lt (by simp) (by decide : 2 < 3)

/-- The events of `staleNext`. -/
def staleEvents : List Fld := [F.FRS_EVENTS_SRC_STALE, F.FRS_EVENTS_SRC_LIVE, F.FRS_EVENTS_ACK_PENDING]

theorem staleNext_event {st recov recover : Nat} {viol latch ack : Bool} : ∀ f, (staleNext st recov viol recover latch ack).2.2 = some f → f ∈ staleEvents := by
  unfold staleNext staleEvents
  repeat' split
  all_goals simp_all

section Good

variable (recov recover : Nat) (latch ack : Bool)

theorem staleNext_live : staleNext 0 recov false recover latch ack = (0, recov, none) := rfl

theorem staleNext_recovering (h : recov + 1 < recover) : staleNext 1 recov false recover latch ack = (1, recov + 1, none) := by
  simp [staleNext, h]

theorem staleNext_recovered (h : recover ≤ recov + 1) : staleNext 1 recov false recover latch ack =
    if latch then (2, 0, some F.FRS_EVENTS_ACK_PENDING) else (0, 0, some F.FRS_EVENTS_SRC_LIVE) := by
  simp [staleNext, Nat.not_lt.mpr h]

theorem staleNext_latched : staleNext 2 recov false recover latch ack =
    if ack then (0, 0, some F.FRS_EVENTS_SRC_LIVE) else (2, recov, none) := by
  simp [staleNext]

end Good

/-- What the update of a source reads of the device: the step of the state machine of R51. -/
def Device.staleStep (d : Device) (s t : Nat) (ack : Bool) : Nat × Nat × Option Fld :=
  staleNext (d.get F.FRS_SRC_STATE_STATE s) (d.src s).recov (d.aged s t || d.frozen s t) (d.get F.FRS_SRC_CFG_RECOVER s) (d.on F.FRS_SRC_CFG_LATCH s) ack

section Stale

variable (d : Device) (s t : Nat) (ack : Bool)

/-- The device of a source's update before its events. -/
def Device.staleShown : Device :=
  ((({ d with srcs := Tab.set (Tab.set d.srcs s (d.src s)) s { d.src s with recov := (d.staleStep s t ack).2.1, referenced := true } } : Device).put
    F.FRS_SRC_STATE_STATE s (d.staleStep s t ack).1).flag F.FRS_SRC_STATE_AGED s (d.aged s t)).flag F.FRS_SRC_STATE_FROZEN s (d.frozen s t)

theorem Device.staleUpdate_eq : d.staleUpdate s t false false ack =
    if d.frozen s t && !d.on F.FRS_SRC_STATE_FROZEN s
    then ((d.staleShown s t ack).raiseOpt (d.staleStep s t ack).2.2 s).raise F.FRS_EVENTS_SRC_FROZEN s
    else (d.staleShown s t ack).raiseOpt (d.staleStep s t ack).2.2 s := by
  have src : (d.setSrc s (d.src s)).src s = d.src s := Tab.get_set_same ..
  have aged : (d.setSrc s (d.src s)).aged s t = d.aged s t := by
    unfold aged age
    rw [src]
    rfl
  have frozen : (d.setSrc s (d.src s)).frozen s t = d.frozen s t := by
    unfold frozen
    rw [src]
    rfl
  unfold staleUpdate
  simp only [Bool.or_false, Bool.false_eq_true, if_false, aged, frozen]
  rfl

theorem Device.staleShown_shows : (d.staleShown s t ack).get F.FRS_SRC_STATE_STATE s = (d.staleStep s t ack).1 ∧
    (d.staleShown s t ack).get F.FRS_SRC_STATE_AGED s = (if d.aged s t then 1 else 0) ∧
    ((d.staleShown s t ack).src s).recov = (d.staleStep s t ack).2.1 := by
  refine ⟨?_, ?_, ?_⟩
  · rw [staleShown, flag, get_put_ne _ _ _ _ _ _ (by decide), flag, get_put_ne _ _ _ _ _ _ (by decide), get_put_same]
    exact Nat.mod_eq_of_lt ((staleNext_lt ..).trans (by decide))
  · rw [staleShown, flag, get_put_ne _ _ _ _ _ _ (by decide), flag, get_put_same]
    split <;> rfl
  · exact congrArg Src.recov (Tab.get_set_same ..)

/-- What the update of a source shows and raises. -/
theorem Device.staleUpdate_shows : (d.staleUpdate s t false false ack).get F.FRS_SRC_STATE_STATE s = (d.staleStep s t ack).1 ∧
    ((d.staleUpdate s t false false ack).src s).recov = (d.staleStep s t ack).2.1 ∧
    (∀ f, (d.staleStep s t ack).2.2 = some f → (d.staleUpdate s t false false ack).get f = 1) ∧
    (d.staleUpdate s t false false ack).get F.FRS_SRC_STATE_AGED s = (if d.aged s t then 1 else 0) := by
  obtain ⟨state, aged, recov⟩ := d.staleShown_shows s t ack
  have event : ∀ f, (d.staleStep s t ack).2.2 = some f → f ∈ staleEvents := fun f h => staleNext_event f h
  rw [staleUpdate_eq]
  generalize d.staleShown s t ack = e at state aged recov ⊢
  obtain ⟨r, hr⟩ : ∃ r, r = e.raiseOpt (d.staleStep s t ack).2.2 s := ⟨_, rfl⟩
  rw [← hr]
  have raised : e.keeps r (but staleEvents) ∧ r.srcs = e.srcs ∧ ∀ f, (d.staleStep s t ack).2.2 = some f → r.get f = 1 := by
    rw [hr]
    cases h : (d.staleStep s t ack).2.2 with
    | none => exact ⟨e.keeps_refl _, rfl, by simp⟩
    | some f =>
      have hf := event f h
      refine ⟨e.keeps_raise f s hf, e.raise_srcs f s, fun g hg => ?_⟩
      obtain rfl : f = g := Option.some.inj hg
      refine Device.get_raise_same _ _ _ ?_
      exact (by decide : ∀ g ∈ staleEvents, 0 < g.width) f hf
  obtain ⟨kept, srcs, rose⟩ := raised
  have frozen := r.keeps_raise (l := [F.FRS_EVENTS_SRC_FROZEN]) F.FRS_EVENTS_SRC_FROZEN s (by simp)
  have src : r.src s = e.src s := by rw [src, srcs]; rfl
  split
  · refine ⟨(frozen.1 _ _ (by decide)).trans ((kept.1 _ _ (by decide)).trans state), ?_, fun f hf => (frozen.1 _ _ ?_).trans (rose f hf),
      (frozen.1 _ _ (by decide)).trans ((kept.1 _ _ (by decide)).trans aged)⟩
    · rw [Device.src, Device.raise_srcs]
      exact (congrArg Src.recov src).trans recov
    · exact (by decide : ∀ g ∈ staleEvents, but [F.FRS_EVENTS_SRC_FROZEN] g = true) f (event f hf)
  · exact ⟨(kept.1 _ _ (by decide)).trans state, (congrArg Src.recov src).trans recov, rose, (kept.1 _ _ (by decide)).trans aged⟩

end Stale

/-- A source with an age within its limit has a frame that is no older. -/
theorem Device.aged_iff (d : Device) (s t : Nat) : d.aged s t = false ↔ ∃ n, (d.src s).input = some n ∧ ticksSince t (d.berth n).capture ≤ d.limit s := by
  unfold aged age
  cases (d.src s).input with
  | none => simp
  | some n => simp

/-- A write of FRS_ACK is kept for the edge. -/
theorem ack_keeps {slot w : Nat} {s : State} {k : Tick} (hs : slot < 8) (hw : w < 2 ^ 32) (ha : s.chip.admits slot R.FRS_ACK 0 w = true)
    (he : s.chip.dev.quiet.frsWrite R.FRS_ACK w = { s.chip.dev.quiet with tick := k }) :
    ∃ t, writeTo slot R.FRS_ACK 0 w s = .next t ∧ t.chip.mem = s.chip.mem ∧ t.chip.dev.regs = s.chip.dev.regs ∧ t.chip.dev.tick = k := by
  obtain ⟨t, p, ht, hm, hd⟩ := writeTo_effect (r := R.FRS_ACK) (m := s.chip.mem) (by decide) hs hw rfl ha (congrArg (Chip.mk s.chip.mem) he)
  exact ⟨t, ht, hm, by rw [hd]; rfl, by rw [hd]; rfl⟩

/-- Settles O21: the step of `staleNext` in each state, and the two writes of FRS_ACK. -/
theorem sourceFreshnessStateMachine : Obligations.SourceFreshnessStateMachine := by
  unfold Obligations.SourceFreshnessStateMachine
  refine ⟨fun d src t ack _ => ?_, fun s slot x hs hx => ⟨fun ha => ?_, fun ha => ?_⟩⟩
  · obtain ⟨state, recov, event, aged⟩ := d.staleUpdate_shows src t ack
    dsimp only
    rw [state, recov, aged]
    have step : d.staleStep src t ack = staleNext (d.get F.FRS_SRC_STATE_STATE src) (d.src src).recov (d.aged src t || d.frozen src t)
      (d.get F.FRS_SRC_CFG_RECOVER src) (d.on F.FRS_SRC_CFG_LATCH src) ack := rfl
    have fresh := d.aged_iff src t
    generalize d.staleUpdate src t false false ack = e at event
    generalize d.get F.FRS_SRC_STATE_STATE src = st at step
    refine ⟨fun hbad => ?_, fun hgood => ⟨?_, ?_, ?_, ?_, ?_⟩, ?_, rfl⟩
    · rw [hbad] at step
      refine ⟨by rw [step]; rfl, by rw [step]; rfl, fun h => event _ ?_⟩
      rw [step, h]
      rfl
    · rintro rfl
      rw [step, hgood, staleNext_live]
    · rintro rfl h
      rw [step, hgood, staleNext_recovering _ _ _ _ h]
      exact ⟨rfl, rfl⟩
    · rintro rfl h latch
      rw [hgood, staleNext_recovered _ _ _ _ h, latch] at step
      exact ⟨by rw [step]; rfl, event _ (by rw [step]; rfl)⟩
    · rintro rfl h latch
      rw [hgood, staleNext_recovered _ _ _ _ h, latch] at step
      exact ⟨by rw [step]; rfl, event _ (by rw [step]; rfl)⟩
    · rintro rfl
      rw [step, hgood, staleNext_latched]
      cases ack with
      | false => simp
      | true => simp
    · intro live
      refine fresh.mp (Bool.eq_false_iff.mpr fun hold => ?_)
      rw [step, hold] at live
      exact absurd live Nat.one_ne_zero
  · have ack : s.chip.dev.quiet.frsWrite R.FRS_ACK (F.FRS_ACK_SOURCE.at x) =
        { s.chip.dev.quiet with tick := { s.chip.dev.tick with acks := s.chip.dev.tick.acks ++ [x] } } := by
      have all : F.FRS_ACK_ALL.of (F.FRS_ACK_SOURCE.at x) = 0 := by
        simp [Fld.of, Fld.at, F.FRS_ACK_ALL, F.FRS_ACK_SOURCE]
        omega
      have source : F.FRS_ACK_SOURCE.of (F.FRS_ACK_SOURCE.at x) = x := by
        simp [Fld.of, Fld.at, F.FRS_ACK_SOURCE]
        omega
      unfold Device.frsWrite
      rw [if_pos rfl, all, source, if_neg (by decide)]
      rfl
    exact ack_keeps hs (by simp [Fld.at, F.FRS_ACK_SOURCE]; omega) ha ack
  · have ack : s.chip.dev.quiet.frsWrite R.FRS_ACK (F.FRS_ACK_ALL.at 1) =
        { s.chip.dev.quiet with tick := { s.chip.dev.tick with ackAll := true } } := by
      unfold Device.frsWrite
      rw [if_pos rfl, if_pos (by decide)]
      rfl
    exact ack_keeps hs (by decide) ha ack

end Sys2Proof.Machine
end

section
/-!
SUPPORT. Frames received; ARP, ICMP and IGMP: O30.
-/

namespace Sys2Proof.Machine

/-! ### Frames received, and what the answers of a port read -/

/-- From `d` to `e` a frame was counted, and nothing else happened. -/
def Device.Heard (d e : Device) : Prop := ∃ p, e = { d.quiet with perf := p }

namespace Device.Heard

variable {d e : Device} (h : d.Heard e)
include h

theorem regs : e.regs = d.regs := by obtain ⟨p, rfl⟩ := h; rfl
theorem net : e.net = d.net := by obtain ⟨p, rfl⟩ := h; rfl
theorem out : e.out = [] := by obtain ⟨p, rfl⟩ := h; rfl
theorem berths : e.berths = d.berths := by obtain ⟨p, rfl⟩ := h; rfl
theorem get (f : Fld) (i : Nat := 0) : e.get f i = d.get f i := Device.get_congr h.regs f i
theorem keeps (p : Fld → Bool) : d.keeps e p := Device.keeps_of_regs h.regs p

end Device.Heard

/-- A frame of a class that its command takes is counted and handled. -/
theorem receive_handles {s : State} {h : RxHdr} {c : RxClass} {k : RxClass → Option (Device → Device)} {f : Device → Device} {i : Instr}
    (hi : exec i s = onDev (fun d => d.receive h k) s) (hc : s.chip.dev.classify h = c) (hk : k c = some f) :
    ∃ e t, s.chip.dev.Heard e ∧ exec i s = .next t ∧ t.chip.mem = s.chip.mem ∧ t.chip.dev = f e := by
  obtain ⟨p, hp⟩ := s.chip.dev.quiet.countRx_only h
  obtain ⟨e, he⟩ : ∃ e, e = ({ s.chip.dev.quiet with perf := p } : Device) := ⟨_, rfl⟩
  have aside : s.chip.dev.Aside e := ⟨[], p, s.chip.dev.host, he⟩
  have cls : e.classify h = c := by rw [aside.classify, hc]
  have ran : s.chip.dev.quiet.receive h k = f e := by
    unfold Device.receive
    rw [hp, ← he]
    simp only [cls, hk]
  obtain ⟨t, ht, hm, hd⟩ := onDev_next hi ran
  exact ⟨e, t, ⟨p, he⟩, ht, hm, hd⟩

section Reads

variable {d e : Device}

/-- The fields that say which paths lead over a port. -/
def pathFields : List Fld := [F.NET_TX_PATH_CFG_0_PORT, F.NET_TX_PATH_CFG_1_PORT, F.NET_TX_PATH_CFG_0_EN, F.NET_TX_PATH_CFG_1_EN]

theorem Device.paths_of_get (h : ∀ f ∈ pathFields, ∀ i, e.get f i = d.get f i) : e.pathPort = d.pathPort ∧ e.pathEn = d.pathEn ∧ e.paths = d.paths := by
  simp only [pathFields, List.forall_mem_cons, List.not_mem_nil, false_implies, implies_true, and_true] at h
  obtain ⟨port0, port1, en0, en1⟩ := h
  have port : e.pathPort = d.pathPort := by
    funext o k
    unfold pathPort pathF
    split
    · exact port0 o
    · exact port1 o
  have en : e.pathEn = d.pathEn := by
    funext o k
    unfold pathEn pathF on
    split
    · rw [en0]
    · rw [en1]
  refine ⟨port, en, ?_⟩
  funext o
  unfold paths
  rw [en]

/-- What the answer to an ARP request reads. -/
def arpFields : List Fld := pathFields ++ [F.NET_TX_SRCIP_VALUE, F.PAIR_STATUS_ROLE]

theorem Device.arpAnswers_of_get (h : ∀ f ∈ arpFields, ∀ i, e.get f i = d.get f i) {p : Nat} (ha : e.unitAddr p = d.unitAddr p) (ip : Nat) :
    e.arpAnswers p ip = d.arpAnswers p ip := by
  obtain ⟨port, -, paths⟩ := Device.paths_of_get fun f hf => h f (List.mem_append_left _ hf)
  have src (i : Nat) : e.get F.NET_TX_SRCIP_VALUE i = d.get F.NET_TX_SRCIP_VALUE i := h _ (by simp [arpFields]) i
  have sends : e.sends = d.sends := by
    unfold sends role
    rw [h _ (by simp [arpFields])]
  simp only [arpAnswers, ha, port, paths, src, sends]

/-- What the memberships of a port are read from. -/
def joinFields : List Fld := pathFields ++ [F.NET_RX_FLOW_CFG_EN, F.NET_RX_FLOW_CFG_PORT, F.NET_RX_FLOW_DST_VALUE, F.NET_RX_FLOW_SRCIP_VALUE,
  F.NET_WIT_CFG_EN, F.PAIR_STATUS_ROLE, F.NET_WIT_MASK_MASK, F.NET_WIT_VIDEO_MASK, F.NET_TX_PATH_STAMP_0_VALUE, F.NET_TX_PATH_STAMP_1_VALUE,
  F.NET_TX_PATH_DST_0_VALUE, F.NET_TX_PATH_DST_1_VALUE]

theorem Device.witGroups_of_get (h : ∀ f ∈ joinFields, ∀ i, e.get f i = d.get f i) : e.witGroups = d.witGroups := by
  obtain ⟨port, en, paths⟩ := Device.paths_of_get fun f hf => h f (List.mem_append_left _ hf)
  have on_ : e.witOn = d.witOn := by
    unfold witOn role on
    rw [h F.NET_WIT_CFG_EN (by simp [joinFields]), h F.PAIR_STATUS_ROLE (by simp [joinFields])]
  have mask : e.witMask = d.witMask := by
    funext o
    unfold witMask
    rw [h F.NET_WIT_MASK_MASK (by simp [joinFields])]
  have video : e.witVideo = d.witVideo := by
    funext o
    unfold witVideo
    rw [h F.NET_WIT_VIDEO_MASK (by simp [joinFields])]
  have stamp : e.pathStamp = d.pathStamp := by
    funext o k
    unfold pathStamp pathF
    split
    · exact h _ (by simp [joinFields]) o
    · exact h _ (by simp [joinFields]) o
  have dst : e.pathDst = d.pathDst := by
    funext o k
    unfold pathDst pathF
    split
    · exact h _ (by simp [joinFields]) o
    · exact h _ (by simp [joinFields]) o
  funext p
  unfold witGroups
  rw [on_, mask, video, stamp, dst, port, en, paths]

theorem Device.joined_of_get (h : ∀ f ∈ joinFields, ∀ i, e.get f i = d.get f i) (p : Nat) : e.joined p = d.joined p := by
  have en (i : Nat) : e.on F.NET_RX_FLOW_CFG_EN i = d.on F.NET_RX_FLOW_CFG_EN i := by
    unfold on
    rw [h _ (by simp [joinFields])]
  have flowPort (i : Nat) : e.get F.NET_RX_FLOW_CFG_PORT i = d.get F.NET_RX_FLOW_CFG_PORT i := h _ (by simp [joinFields]) i
  have dst (i : Nat) : e.get F.NET_RX_FLOW_DST_VALUE i = d.get F.NET_RX_FLOW_DST_VALUE i := h _ (by simp [joinFields]) i
  have src (i : Nat) : e.get F.NET_RX_FLOW_SRCIP_VALUE i = d.get F.NET_RX_FLOW_SRCIP_VALUE i := h _ (by simp [joinFields]) i
  simp only [joined, en, flowPort, dst, src, Device.witGroups_of_get h]

theorem Device.igmpAnswer_of_get (h : ∀ f ∈ joinFields, ∀ i, e.get f i = d.get f i) (p g : Nat) : e.igmpAnswer p g = d.igmpAnswer p g := by
  unfold igmpAnswer
  rw [Device.joined_of_get h]

/-- The MAC address of a port. -/
theorem Device.portMac_of_get (h : ∀ f ∈ [F.NET_MAC_BASE_LO_MAC_LO, F.NET_MAC_BASE_HI_MAC_HI], e.get f = d.get f) (p : Nat) : e.portMac p = d.portMac p := by
  simp only [List.forall_mem_cons, List.not_mem_nil, false_implies, implies_true, and_true] at h
  obtain ⟨lo, hi⟩ := h
  unfold portMac get2
  rw [lo, hi]

theorem Device.portUp_of_get (h : ∀ f ∈ [F.NET_PORT_CFG_MODE, F.NET_PORT_STATUS_STATE], ∀ i, e.get f i = d.get f i) (p : Nat) : e.portUp p = d.portUp p := by
  simp only [List.forall_mem_cons, List.not_mem_nil, false_implies, implies_true, and_true] at h
  obtain ⟨mode, state⟩ := h
  unfold portUp portExists
  rw [mode, state]

end Reads

/-! ### ARP and ICMP -/

/-- The fields that a claim of an address changes. -/
def claimFields : List Fld := [F.NET_PORT_STATUS_ADDR_CONFLICT, F.NET_EVENTS_ADDR_CONFLICT]

/-- From `d` to `e` a claim of the unit address was judged. -/
structure Device.Judged (d e : Device) (p mac ip : Nat) : Prop where
  kept : d.keeps e (but claimFields)
  raised : p < 28 ∧ ip = d.unitAddr p ∧ ip ≠ 0 ∧ mac ≠ d.portMac p →
    e.get F.NET_PORT_STATUS_ADDR_CONFLICT p = 1 ∧ e.get F.NET_EVENTS_ADDR_CONFLICT = 1
  quiet : ¬(p < 28 ∧ ip = d.unitAddr p ∧ ip ≠ 0 ∧ mac ≠ d.portMac p) → e.regs = d.regs
  berths : e.berths = d.berths

theorem Device.Judged.of_regs {d e f : Device} {p mac ip : Nat} (h : d.Judged e p mac ip) (hr : f.regs = e.regs) (hb : f.berths = e.berths) : d.Judged f p mac ip :=
  ⟨Device.keeps_trans h.kept (Device.keeps_of_regs hr _), fun hc => ⟨(Device.get_congr hr ..).trans (h.raised hc).1, (Device.get_congr hr ..).trans (h.raised hc).2⟩,
    fun hc => hr.trans (h.quiet hc), hb.trans h.berths⟩

theorem Device.arpClaim_judged (d : Device) (p mac ip : Nat) : d.Judged (d.arpClaim p mac ip) p mac ip ∧ (d.arpClaim p mac ip).net = d.net ∧
    (d.arpClaim p mac ip).out = d.out := by
  unfold arpClaim
  split
  · next h =>
    have raised : (d.put F.NET_PORT_STATUS_ADDR_CONFLICT p 1).keeps ((d.put F.NET_PORT_STATUS_ADDR_CONFLICT p 1).raise F.NET_EVENTS_ADDR_CONFLICT p)
      (but [F.NET_EVENTS_ADDR_CONFLICT]) := Device.keeps_raise _ _ _ (by simp)
    refine ⟨⟨Device.keeps_trans (d.keeps_put _ _ _ (but_apart (by simp [claimFields]))) (Device.keeps_raise _ _ _ (by simp [claimFields])),
      fun _ => ⟨(raised.1 _ _ (by decide)).trans ((get_put_same ..).trans rfl), Device.get_raise_same _ _ _ (by decide)⟩, fun hn => absurd h hn, ?_⟩, ?_, ?_⟩
    · rw [Device.raise_berths]; rfl
    · rw [Device.raise_net]; rfl
    · rw [Device.raise_out]; rfl
  · next h => exact ⟨⟨d.keeps_refl _, fun hc => absurd hc h, fun _ => rfl, rfl⟩, rfl, rfl⟩

/-- Fields outside a list are read alike. -/
theorem Device.get_of_keeps {d e : Device} {p : Fld → Bool} (h : d.keeps e p) {l : List Fld} (hl : ∀ f ∈ l, p f = true) : ∀ f ∈ l, ∀ i, e.get f i = d.get f i :=
  fun f hf i => h.1 f i (hl f hf)

/-- A message of ARP reads its addresses from registers that a claim or an event leaves. -/
theorem Device.arp_reads {d e : Device} {l : List Fld} (h : d.keeps e (but l)) (hl : ∀ f ∈ addressFields ++ arpFields ++ [F.NET_MAC_BASE_LO_MAC_LO, F.NET_MAC_BASE_HI_MAC_HI], but l f = true)
    (p : Nat) : d.SendsAs e p ∧ e.portMac p = d.portMac p ∧ ∀ ip, e.arpAnswers p ip = d.arpAnswers p ip := by
  have sends := Device.sendsAs_of_keeps h (fun f hf => hl f (List.mem_append_left _ (List.mem_append_left _ hf))) p
  refine ⟨sends, Device.portMac_of_get (fun f hf => h.1 f 0 (hl f (List.mem_append_right _ hf))) p, Device.arpAnswers_of_get (fun f hf i =>
    h.1 f i (hl f (List.mem_append_left _ (List.mem_append_right _ hf)))) sends.1⟩

theorem Device.Heard.arp_reads {d e : Device} (h : d.Heard e) (p : Nat) :
    d.SendsAs e p ∧ e.portMac p = d.portMac p ∧ ∀ ip, e.arpAnswers p ip = d.arpAnswers p ip :=
  Device.arp_reads (h.keeps (but [])) (by decide) p

theorem Device.Heard.judged {d e f : Device} {p mac ip : Nat} (h : d.Heard e) (j : e.Judged f p mac ip) : d.Judged f p mac ip := by
  obtain ⟨⟨unit, -⟩, own, -⟩ := h.arp_reads p
  obtain ⟨kept, raised, quiet, berths⟩ := j
  rw [unit, own] at raised quiet
  exact ⟨Device.keeps_trans (h.keeps _) kept, raised, fun hn => (quiet hn).trans h.regs, berths.trans h.berths⟩

theorem arpRequest_answered {s : State} {h : RxHdr} (hc : s.chip.dev.classify h = .arp) (mac sip tip : Nat) :
    ∃ t, exec (.arpRequestReceive h mac sip tip) s = .next t ∧ t.chip.mem = s.chip.mem ∧ s.chip.dev.Judged t.chip.dev h.port mac sip ∧
      t.chip.dev.net = s.chip.dev.net ∧ t.chip.dev.out =
        if s.chip.dev.arpAnswers h.port tip then [.arp h.port (s.chip.dev.txTag h.port) 2 (s.chip.dev.portMac h.port) tip mac sip] else [] := by
  obtain ⟨e, t, heard, ht, hm, hd⟩ := receive_handles (i := .arpRequestReceive h mac sip tip) rfl hc rfl
  obtain ⟨judged, net, out⟩ := e.arpClaim_judged h.port mac sip
  obtain ⟨a, ha⟩ : ∃ a, a = e.arpClaim h.port mac sip := ⟨_, rfl⟩
  rw [← ha] at judged net out
  have judged := heard.judged judged
  have ran : t.chip.dev = if a.arpAnswers h.port tip then a.emit (.arp h.port (a.txTag h.port) 2 (a.portMac h.port) tip mac sip) else a := by
    rw [hd, ha]
  obtain ⟨⟨-, tag⟩, own, answers⟩ := Device.arp_reads judged.kept (by decide) h.port
  rw [answers, tag, own] at ran
  refine ⟨t, ht, hm, ?_⟩
  rw [ran]
  split
  · refine ⟨judged.of_regs rfl rfl, net.trans heard.net, ?_⟩
    rw [Device.emit_out, out, heard.out]
    rfl
  · exact ⟨judged, net.trans heard.net, out.trans heard.out⟩

/-- The cache after an address was learned. -/
theorem Device.arpLearn_learns (d : Device) (p ip mac : Nat) : (d.arpLearn p ip mac).arpFind p ip = some mac ∧
    (∀ w ∈ (d.arpLearn p ip mac).net.arpWait, ¬(w.port = p ∧ w.ip = ip)) ∧ (d.net.arp.length ≤ 256 → (d.arpLearn p ip mac).net.arp.length ≤ 256) ∧
    (d.arpLearn p ip mac).regs = d.regs ∧ (d.arpLearn p ip mac).berths = d.berths ∧ (d.arpLearn p ip mac).out = d.out := by
  obtain ⟨l, hl⟩ : ∃ l, l = d.net.arp.filter (fun e => !(decide (e.port = p) && decide (e.ip = ip))) := ⟨_, rfl⟩
  obtain ⟨k, hk⟩ : ∃ k, k = if l.length < 256 then l else l.drop 1 := ⟨_, rfl⟩
  have learn : d.arpLearn p ip mac = { d with net := { d.net with
      arp := k ++ [⟨p, ip, mac, d.now⟩]
      arpWait := d.net.arpWait.filter (fun w => !(decide (w.port = p) && decide (w.ip = ip))) } } := by
    rw [hk, hl]
    rfl
  have other : ∀ e ∈ k, (decide (e.port = p) && decide (e.ip = ip)) = false := by
    have all : ∀ e ∈ l, (decide (e.port = p) && decide (e.ip = ip)) = false := fun e he => by
      rw [hl] at he
      exact Bool.not_eq_true' _ |>.mp (List.mem_filter.mp he).2
    intro e he
    rw [hk] at he
    split at he
    · exact all e he
    · exact all e (List.mem_of_mem_drop he)
  rw [learn]
  refine ⟨?_, fun w hw => ?_, fun hlen => ?_, rfl, rfl, rfl⟩
  · have none_ : k.find? (fun e => decide (e.port = p) && decide (e.ip = ip)) = none := List.find?_eq_none.mpr fun e he => by simp [other e he]
    simp [arpFind, List.find?_append, none_]
  · have := Bool.not_eq_true' _ |>.mp (List.mem_filter.mp hw).2
    rintro ⟨rfl, rfl⟩
    simp at this
  · have filtered : l.length ≤ d.net.arp.length := hl ▸ List.length_filter_le ..
    have short : k.length ≤ 255 := by
      rw [hk]
      split
      · omega
      · rw [List.length_drop]
        omega
    simp only [List.length_append, List.length_singleton]
    omega

theorem arpReply_learned {s : State} {h : RxHdr} (hc : s.chip.dev.classify h = .arp) (mac sip tip : Nat) :
    ∃ t, exec (.arpReplyReceive h mac sip tip) s = .next t ∧ t.chip.mem = s.chip.mem ∧ s.chip.dev.Judged t.chip.dev h.port mac sip ∧ t.chip.dev.out = [] ∧
      (tip = s.chip.dev.unitAddr h.port → sip ≠ s.chip.dev.unitAddr h.port →
        t.chip.dev.arpFind h.port sip = some mac ∧ (∀ w ∈ t.chip.dev.net.arpWait, ¬(w.port = h.port ∧ w.ip = sip)) ∧
        (s.chip.dev.net.arp.length ≤ 256 → t.chip.dev.net.arp.length ≤ 256)) ∧
      (tip ≠ s.chip.dev.unitAddr h.port → t.chip.dev.net = s.chip.dev.net) := by
  obtain ⟨e, t, heard, ht, hm, hd⟩ := receive_handles (i := .arpReplyReceive h mac sip tip) rfl hc rfl
  obtain ⟨judged, net, out⟩ := e.arpClaim_judged h.port mac sip
  obtain ⟨a, ha⟩ : ∃ a, a = e.arpClaim h.port mac sip := ⟨_, rfl⟩
  rw [← ha] at judged net out
  have judged := heard.judged judged
  have ran : t.chip.dev = if tip = a.unitAddr h.port ∧ sip ≠ a.unitAddr h.port then a.arpLearn h.port sip mac else a := by rw [hd, ha]
  obtain ⟨⟨unit, -⟩, -, -⟩ := Device.arp_reads judged.kept (by decide) h.port
  rw [unit] at ran
  refine ⟨t, ht, hm, ?_⟩
  rw [ran]
  split
  · next hl =>
    obtain ⟨find, wait, len, regs, berths, same⟩ := a.arpLearn_learns h.port sip mac
    rw [net, heard.net] at len
    exact ⟨judged.of_regs regs berths, same.trans (out.trans heard.out), fun _ _ => ⟨find, wait, len⟩, fun hn => absurd hl.1 hn⟩
  · next hl => exact ⟨judged, out.trans heard.out, fun h1 h2 => absurd ⟨h1, h2⟩ hl, fun _ => net.trans heard.net⟩

/-- The request that asks for an address. -/
def Device.asks (d : Device) (p ip : Nat) : List Out :=
  if d.portUp p = true ∨ p = 32 then [.arp p (d.txTag p) 1 (d.portMac p) (d.unitAddr p) 0 ip] else []

theorem Device.asks_of_keeps {d e : Device} (h : d.keeps e (but [F.NET_EVENTS_ARP_UNRESOLVED])) (p ip : Nat) : e.asks p ip = d.asks p ip ∧ e.portUp p = d.portUp p := by
  obtain ⟨⟨unit, tag⟩, own, -⟩ := Device.arp_reads h (by decide) p
  have up := Device.portUp_of_get (Device.get_of_keeps h (l := [F.NET_PORT_CFG_MODE, F.NET_PORT_STATUS_STATE]) (by decide)) p
  exact ⟨by rw [asks, asks, unit, tag, own, up], up⟩

/-- Time passes until a timer is due: registers, berths and what was sent stay. -/
theorem Device.elapse_until (d : Device) (x : Nat) : (d.elapse (x - d.now)).regs = d.regs ∧ (d.elapse (x - d.now)).berths = d.berths ∧
    (d.elapse (x - d.now)).out = d.out ∧ (d.elapse (x - d.now)).net = d.net ∧ x ≤ (d.elapse (x - d.now)).now := by
  obtain ⟨e, f, p, h⟩ := d.elapse_moves (x - d.now)
  rw [h]
  exact ⟨rfl, rfl, rfl, rfl, by dsimp only; omega⟩

/-- The waiting address once its request was repeated. -/
def Device.arpTried (d : Device) (p ip : Nat) : Device :=
  { d with net := { d.net with arpWait := d.net.arpWait.map (fun (v : ArpWait) =>
      if v.port = p ∧ v.ip = ip then { v with tries := if d.portUp p || decide (p = 32) then v.tries + 1 else v.tries, lastNs := d.now } else v) } }

theorem arpRetry_repeats {s : State} {p ip : Nat} {w : ArpWait}
    (hw : s.chip.dev.net.arpWait.find? (fun (x : ArpWait) => decide (x.port = p) && decide (x.ip = ip)) = some w) :
    ∃ t, exec (.arpRetryTimer p ip) s = .next t ∧ t.chip.mem = s.chip.mem ∧ t.chip.dev.berths = s.chip.dev.berths ∧ t.chip.dev.out = s.chip.dev.asks p ip ∧
      w.lastNs + 1000000000 ≤ t.chip.dev.now ∧ s.chip.dev.keeps t.chip.dev (but [F.NET_EVENTS_ARP_UNRESOLVED]) ∧
      (w.tries = 3 → s.chip.dev.portUp p = true ∨ p = 32 → t.chip.dev.get F.NET_EVENTS_ARP_UNRESOLVED = 1) ∧
      (w.tries ≠ 3 ∨ ¬(s.chip.dev.portUp p = true ∨ p = 32) → t.chip.dev.regs = s.chip.dev.regs) := by
  obtain ⟨x, hx⟩ : ∃ x, x = w.lastNs + 1000000000 := ⟨_, rfl⟩
  obtain ⟨regs, berths, out, -, now⟩ := s.chip.dev.quiet.elapse_until x
  obtain ⟨b, hb⟩ : ∃ b, b = s.chip.dev.quiet.elapse (x - s.chip.dev.quiet.now) := ⟨_, rfl⟩
  rw [← hb] at regs berths out now
  obtain ⟨a, ha, ran⟩ : ∃ a, a = b.arpTried p ip ∧ s.chip.dev.quiet.arpRetry p ip =
      if !(b.portUp p || decide (p = 32)) then a else (if w.tries = 3 then a.raise F.NET_EVENTS_ARP_UNRESOLVED p else a).arpRequest p ip := by
    have hq : s.chip.dev.quiet.net.arpWait.find? (fun (x : ArpWait) => decide (x.port = p) && decide (x.ip = ip)) = some w := hw
    refine ⟨_, rfl, ?_⟩
    unfold Device.arpRetry
    simp only [hq, ← hx, ← hb]
    rfl
  obtain ⟨t, ht, hm, hd⟩ := onDev_next (f := fun d => d.arpRetry p ip) (c := .arpRetryTimer p ip) rfl ran
  have aregs : a.regs = s.chip.dev.regs := by rw [ha]; exact regs
  have aout : a.out = [] := by rw [ha]; exact out
  have anow : x ≤ a.now := by rw [ha]; exact now
  have aberths : a.berths = s.chip.dev.berths := by rw [ha]; exact berths
  have up : b.portUp p = s.chip.dev.portUp p := (Device.asks_of_keeps (d := s.chip.dev) (Device.keeps_of_regs regs _) p ip).2
  rw [← hx]
  clear ran ha hb
  refine ⟨t, ht, hm, ?_⟩
  rw [hd, up]
  by_cases hup : s.chip.dev.portUp p = true ∨ p = 32
  · have : (!(s.chip.dev.portUp p || decide (p = 32))) = false := by
      rcases hup with h | h <;> simp [h]
    rw [this, if_neg Bool.false_ne_true]
    obtain ⟨r, hr⟩ : ∃ r, r = if w.tries = 3 then a.raise F.NET_EVENTS_ARP_UNRESOLVED p else a := ⟨_, rfl⟩
    rw [← hr]
    have raised : s.chip.dev.keeps r (but [F.NET_EVENTS_ARP_UNRESOLVED]) ∧ r.out = [] ∧ r.berths = s.chip.dev.berths ∧ x ≤ r.now ∧
        (w.tries = 3 → r.get F.NET_EVENTS_ARP_UNRESOLVED = 1) ∧ (w.tries ≠ 3 → r.regs = s.chip.dev.regs) := by
      rw [hr]
      split
      · next h3 =>
        exact ⟨Device.keeps_trans (Device.keeps_of_regs aregs _) (Device.keeps_raise _ _ _ (by simp)), by rw [Device.raise_out, aout], by rw [Device.raise_berths, aberths],
          by rw [Device.raise_now]; exact anow, fun _ => Device.get_raise_same _ _ _ (by decide), fun h => absurd h3 h⟩
      · next h3 => exact ⟨Device.keeps_of_regs aregs _, aout, aberths, anow, fun h => absurd h h3, fun _ => aregs⟩
    obtain ⟨kept, rout, rberths, rnow, event, same⟩ := raised
    obtain ⟨asks, -⟩ := Device.asks_of_keeps kept p ip
    refine ⟨rberths, ?_, rnow, Device.keeps_trans kept (Device.keeps_of_regs rfl _), fun h3 _ => event h3, fun h => same (h.resolve_right (not_not.mpr hup))⟩
    rw [← asks, Device.asks, if_pos (by rwa [(Device.asks_of_keeps kept p ip).2]), Device.arpRequest, Device.emit_out, rout]
    rfl
  · have : (!(s.chip.dev.portUp p || decide (p = 32))) = true := by simpa using hup
    rw [this, if_pos rfl]
    exact ⟨aberths, by rw [aout, Device.asks, if_neg hup], anow, Device.keeps_of_regs aregs _, fun _ h => absurd h hup, fun _ => aregs⟩

theorem arpRefresh_asks {s : State} {p ip : Nat} {e : ArpEntry}
    (he : s.chip.dev.net.arp.find? (fun (x : ArpEntry) => decide (x.port = p) && decide (x.ip = ip)) = some e) :
    ∃ t, exec (.arpRefreshTimer p ip) s = .next t ∧ t.chip.mem = s.chip.mem ∧ t.chip.dev.berths = s.chip.dev.berths ∧ t.chip.dev.out = s.chip.dev.asks p ip ∧
      e.learned + 60000000000 ≤ t.chip.dev.now ∧ t.chip.dev.regs = s.chip.dev.regs := by
  obtain ⟨x, hx⟩ : ∃ x, x = e.learned + 60000000000 := ⟨_, rfl⟩
  obtain ⟨regs, berths, out, -, now⟩ := s.chip.dev.quiet.elapse_until x
  obtain ⟨a, ha⟩ : ∃ a, a = s.chip.dev.quiet.elapse (x - s.chip.dev.quiet.now) := ⟨_, rfl⟩
  rw [← ha] at regs berths out now
  have ran : s.chip.dev.quiet.arpRefresh p ip = if a.portUp p || decide (p = 32) then a.arpRequest p ip else a := by
    have hq : s.chip.dev.quiet.net.arp.find? (fun (x : ArpEntry) => decide (x.port = p) && decide (x.ip = ip)) = some e := he
    unfold Device.arpRefresh
    simp only [hq, ha, hx]
  obtain ⟨t, ht, hm, hd⟩ := onDev_next (f := fun d => d.arpRefresh p ip) (c := .arpRefreshTimer p ip) rfl ran
  obtain ⟨asks, up⟩ := Device.asks_of_keeps (d := s.chip.dev) (Device.keeps_of_regs regs _) p ip
  rw [← hx]
  refine ⟨t, ht, hm, ?_⟩
  rw [hd]
  by_cases hup : s.chip.dev.portUp p = true ∨ p = 32
  · rw [if_pos (by rw [up]; simpa using hup)]
    refine ⟨berths, ?_, now, regs⟩
    rw [← asks, Device.asks, if_pos (by rwa [up]), Device.arpRequest, Device.emit_out, out]
    rfl
  · rw [if_neg (by rw [up]; simpa using hup)]
    exact ⟨berths, by rw [out, Device.asks, if_neg hup]; rfl, now, regs⟩

theorem icmpEcho_answered {s : State} {h : RxHdr} (hc : s.chip.dev.classify h = .icmp) (l : List Byte) :
    ∃ t, exec (.icmpEchoRequest h l) s = .next t ∧ t.chip.mem = s.chip.mem ∧ t.chip.dev.regs = s.chip.dev.regs ∧ t.chip.dev.berths = s.chip.dev.berths ∧
      t.chip.dev.out = if h.dst = s.chip.dev.unitAddr h.port then [.icmpReply h.port (s.chip.dev.txTag h.port) h.src h.dst l] else [] := by
  obtain ⟨e, t, heard, ht, hm, hd⟩ := receive_handles (i := .icmpEchoRequest h l) rfl hc rfl
  obtain ⟨⟨unit, tag⟩, -, -⟩ := heard.arp_reads h.port
  rw [unit, tag] at hd
  refine ⟨t, ht, hm, ?_⟩
  rw [hd]
  split
  · exact ⟨heard.regs, heard.berths, by rw [Device.emit_out, heard.out]; rfl⟩
  · exact ⟨heard.regs, heard.berths, heard.out⟩

/-! ### IGMP -/

/-- A frame of a class is accepted only on a port that is UP, or on the management port. -/
theorem Device.up_of_classify {d : Device} {h : RxHdr} {c : RxClass} (hc : d.classify h = c) (hi : c ≠ .ignored) : d.portUp h.port = true ∨ h.port = 32 := by
  have taken : d.accepts h = true := by
    by_contra hn
    refine hi (hc ▸ ?_)
    unfold classify
    rw [if_pos (by simp [hn])]
  by_cases h32 : h.port = 32
  · exact .inr h32
  · unfold accepts at taken
    rw [if_neg h32] at taken
    simp only [Bool.and_eq_true] at taken
    exact .inl taken.1.1.1.1

/-- The message that answers a query with records, where there are any. -/
def Device.igmpReply (d : Device) (p : Nat) (v2 : Bool) (r : List (Nat × Nat × List Nat)) : List Out :=
  if r = [] then [] else [.igmp p (d.txTag p) (d.unitAddr p) v2 r]

/-- A port that is UP sends its records, and nothing else happens. -/
theorem Device.igmpAnswer_sent {d : Device} {p : Nat} (hup : d.portUp p = true ∨ p = 32) (r : List (Nat × Nat × List Nat)) :
    (if r.isEmpty then d else d.igmpSend p r).out = d.out ++ d.igmpReply p ((d.get F.NET_IGMP_STATUS_V2_COMPAT).testBit p) r ∧
    (if r.isEmpty then d else d.igmpSend p r).regs = d.regs ∧ (if r.isEmpty then d else d.igmpSend p r).net = d.net ∧
    (if r.isEmpty then d else d.igmpSend p r).berths = d.berths := by
  cases r with
  | nil => exact ⟨(List.append_nil _).symm, rfl, rfl, rfl⟩
  | cons a l =>
    have sent : d.igmpSend p (a :: l) = d.emit (.igmp p (d.txTag p) (d.unitAddr p) ((d.get F.NET_IGMP_STATUS_V2_COMPAT).testBit p) (a :: l)) :=
      if_pos (by rcases hup with h | h <;> simp [h])
    simp only [List.isEmpty_cons, Bool.false_eq_true, if_false, sent]
    exact ⟨rfl, rfl, rfl, rfl⟩

/-- The fields that a query of version 2 changes. -/
def v2Fields : List Fld := [F.NET_IGMP_STATUS_V2_COMPAT, F.NET_EVENTS_IGMP_V2]

/-- A port enters compatibility with version 2. -/
def Device.enterV2 (d : Device) (p : Nat) : Device :=
  let e : Device := { d with net := { d.net with igmpV2 := Tab.set d.net.igmpV2 p (d.now + 260000000000) } }
  if (d.get F.NET_IGMP_STATUS_V2_COMPAT).testBit p then e
  else (e.put F.NET_IGMP_STATUS_V2_COMPAT 0 (setBit (d.get F.NET_IGMP_STATUS_V2_COMPAT) p true)).raise F.NET_EVENTS_IGMP_V2 p

theorem Device.enterV2_enters (d : Device) {p : Nat} (hp : p < 28) : d.keeps (d.enterV2 p) (but v2Fields) ∧ (d.enterV2 p).out = d.out ∧
    (d.enterV2 p).berths = d.berths ∧
    (∀ q, q < 28 → ((d.enterV2 p).get F.NET_IGMP_STATUS_V2_COMPAT).testBit q = (decide (q = p) || (d.get F.NET_IGMP_STATUS_V2_COMPAT).testBit q)) ∧
    ((d.get F.NET_IGMP_STATUS_V2_COMPAT).testBit p = false → (d.enterV2 p).get F.NET_EVENTS_IGMP_V2 = 1) := by
  obtain ⟨n, hn⟩ : ∃ n, n = d.now + 260000000000 := ⟨_, rfl⟩
  obtain ⟨e, he⟩ : ∃ e, e = ({ d with net := { d.net with igmpV2 := Tab.set d.net.igmpV2 p n } } : Device) := ⟨_, rfl⟩
  have enter : d.enterV2 p = if (d.get F.NET_IGMP_STATUS_V2_COMPAT).testBit p then e
      else (e.put F.NET_IGMP_STATUS_V2_COMPAT 0 (setBit (d.get F.NET_IGMP_STATUS_V2_COMPAT) p true)).raise F.NET_EVENTS_IGMP_V2 p := by
    rw [he, hn]
    rfl
  have regs : e.regs = d.regs := by rw [he]
  have out : e.out = d.out := by rw [he]
  have berths : e.berths = d.berths := by rw [he]
  rw [enter]
  by_cases hbit : (d.get F.NET_IGMP_STATUS_V2_COMPAT).testBit p = true
  · rw [if_pos hbit]
    refine ⟨Device.keeps_of_regs regs _, out, berths, fun q _ => ?_, fun h => absurd (h.symm.trans hbit) Bool.false_ne_true⟩
    rw [Device.get_congr regs]
    by_cases hq : q = p
    · rw [hq, hbit, Bool.or_true]
    · simp [hq]
  · rw [if_neg hbit]
    have raised := (e.put F.NET_IGMP_STATUS_V2_COMPAT 0 (setBit (d.get F.NET_IGMP_STATUS_V2_COMPAT) p true)).keeps_raise (l := [F.NET_EVENTS_IGMP_V2]) F.NET_EVENTS_IGMP_V2 p (by simp)
    refine ⟨Device.keeps_trans (Device.keeps_of_regs regs _) (Device.keeps_trans (e.keeps_put _ _ _ (but_apart (by simp [v2Fields]))) (Device.keeps_raise _ _ _ (by simp [v2Fields]))),
      (Device.raise_out ..).trans out, (Device.raise_berths ..).trans berths, fun q hq => ?_, fun _ => Device.get_raise_same _ _ _ (by decide)⟩
    have width : (d.get F.NET_IGMP_STATUS_V2_COMPAT) < 2 ^ 28 := d.get_lt ..
    rw [raised.1 _ _ (by decide), Device.get_put_same, Nat.mod_eq_of_lt (show _ < 2 ^ F.NET_IGMP_STATUS_V2_COMPAT.width from setBit_lt width hp true), testBit_setBit]
    by_cases h : q = p
    · simp [h]
    · simp [h]

theorem igmpQuery_answered {s : State} {h : RxHdr} (hc : s.chip.dev.classify h = .igmp) (v g : Nat) :
    ∃ t, exec (.igmpQueryReceive h v g) s = .next t ∧ t.chip.mem = s.chip.mem ∧ t.chip.dev.berths = s.chip.dev.berths ∧
      s.chip.dev.keeps t.chip.dev (but v2Fields) ∧
      (v = 1 → t.chip.dev.regs = s.chip.dev.regs ∧ t.chip.dev.net = s.chip.dev.net ∧ t.chip.dev.out = []) ∧
      (v = 3 → t.chip.dev.regs = s.chip.dev.regs ∧ t.chip.dev.net = s.chip.dev.net ∧ t.chip.dev.out =
        s.chip.dev.igmpReply h.port ((s.chip.dev.get F.NET_IGMP_STATUS_V2_COMPAT).testBit h.port) (s.chip.dev.igmpAnswer h.port g)) ∧
      (v = 2 → h.port < 28 →
        (∀ q, q < 28 → (t.chip.dev.get F.NET_IGMP_STATUS_V2_COMPAT).testBit q = (decide (q = h.port) || (s.chip.dev.get F.NET_IGMP_STATUS_V2_COMPAT).testBit q)) ∧
        ((s.chip.dev.get F.NET_IGMP_STATUS_V2_COMPAT).testBit h.port = false → t.chip.dev.get F.NET_EVENTS_IGMP_V2 = 1) ∧
        t.chip.dev.out = s.chip.dev.igmpReply h.port true (s.chip.dev.igmpAnswer h.port g)) := by
  obtain ⟨e, t, heard, ht, hm, hd⟩ := receive_handles (i := .igmpQueryReceive h v g) rfl hc rfl
  obtain ⟨a, ha⟩ : ∃ a, a = if v = 2 ∧ h.port < 28 then e.enterV2 h.port else e := ⟨_, rfl⟩
  have ran : t.chip.dev = if v = 2 ∨ v = 3 then (if (a.igmpAnswer h.port g).isEmpty then a else a.igmpSend h.port (a.igmpAnswer h.port g)) else e := by
    rw [hd, ha]
    rfl
  clear hd
  have entered : s.chip.dev.keeps a (but v2Fields) ∧ a.out = [] ∧ a.berths = s.chip.dev.berths ∧ (v ≠ 2 → a = e) ∧ (v = 2 → h.port < 28 →
      (∀ q, q < 28 → (a.get F.NET_IGMP_STATUS_V2_COMPAT).testBit q = (decide (q = h.port) || (s.chip.dev.get F.NET_IGMP_STATUS_V2_COMPAT).testBit q)) ∧
      ((s.chip.dev.get F.NET_IGMP_STATUS_V2_COMPAT).testBit h.port = false → a.get F.NET_EVENTS_IGMP_V2 = 1)) := by
    rw [ha]
    split
    · next hv =>
      obtain ⟨kept, out, berths, bits, event⟩ := e.enterV2_enters hv.2
      rw [heard.get] at bits event
      exact ⟨Device.keeps_trans (heard.keeps _) kept, out.trans heard.out, berths.trans heard.berths, fun hn => absurd hv.1 hn, fun _ _ => ⟨bits, event⟩⟩
    · next hv => exact ⟨heard.keeps _, heard.out, heard.berths, fun _ => rfl, fun h2 hp => absurd ⟨h2, hp⟩ hv⟩
  obtain ⟨kept, out, berths, same, bits⟩ := entered
  clear ha
  have answer : a.igmpAnswer h.port g = s.chip.dev.igmpAnswer h.port g := Device.igmpAnswer_of_get (Device.get_of_keeps kept (by decide)) _ _
  have sends := Device.sendsAs_of_keeps kept (by decide) h.port
  have up : a.portUp h.port = true ∨ h.port = 32 := by
    rw [Device.portUp_of_get (Device.get_of_keeps kept (by decide))]
    exact Device.up_of_classify hc (by simp)
  have reply (v2 : Bool) (r : List (Nat × Nat × List Nat)) : a.igmpReply h.port v2 r = s.chip.dev.igmpReply h.port v2 r := by
    rw [Device.igmpReply, Device.igmpReply, sends.1, sends.2]
  rw [answer] at ran
  obtain ⟨sent, sregs, snet, sberths⟩ := Device.igmpAnswer_sent up (s.chip.dev.igmpAnswer h.port g)
  rw [reply, out, List.nil_append] at sent
  refine ⟨t, ht, hm, ?_⟩
  by_cases hv : v = 2 ∨ v = 3
  · rw [if_pos hv] at ran
    rw [← ran] at sent sregs snet sberths
    refine ⟨sberths.trans berths, Device.keeps_trans kept (Device.keeps_of_regs sregs _), fun h1 => by omega, fun h3 => ?_, fun h2 hp => ?_⟩
    · have : a = e := same (by omega)
      rw [this] at sregs snet sent
      exact ⟨sregs.trans heard.regs, snet.trans heard.net, by rw [sent, heard.get]⟩
    · obtain ⟨bits, event⟩ := bits h2 hp
      refine ⟨fun q hq => (congrArg (Nat.testBit · q) (Device.get_congr sregs ..)).trans (bits q hq), fun hb => (Device.get_congr sregs ..).trans (event hb), ?_⟩
      rw [sent, bits _ hp]
      simp
  · rw [if_neg hv] at ran
    rw [ran]
    exact ⟨heard.berths, heard.keeps _, fun _ => ⟨heard.regs, heard.net, heard.out⟩, fun h3 => absurd (.inr h3) hv, fun h2 => absurd (.inl h2) hv⟩

theorem igmpReport_repeats {s : State} {p : Nat} {r : IgmpRepeat} (hr : s.chip.dev.net.igmpRepeat.find? (fun (x : IgmpRepeat) => decide (x.port = p)) = some r) :
    ∃ t, exec (.igmpReportRepeat p) s = .next t ∧ t.chip.mem = s.chip.mem ∧ t.chip.dev.regs = s.chip.dev.regs ∧ t.chip.dev.berths = s.chip.dev.berths ∧
      r.due ≤ t.chip.dev.now ∧ t.chip.dev.net.igmpRepeat = s.chip.dev.net.igmpRepeat.erase r ∧
      t.chip.dev.out = if s.chip.dev.portUp p = true ∨ p = 32 then
        [.igmp p (s.chip.dev.txTag p) (s.chip.dev.unitAddr p) ((s.chip.dev.get F.NET_IGMP_STATUS_V2_COMPAT).testBit p) r.records] else [] := by
  obtain ⟨regs, berths, out, net, now⟩ := s.chip.dev.quiet.elapse_until r.due
  obtain ⟨a, ha⟩ : ∃ a, a = s.chip.dev.quiet.elapse (r.due - s.chip.dev.quiet.now) := ⟨_, rfl⟩
  rw [← ha] at regs berths out net now
  obtain ⟨b, hb⟩ : ∃ b, b = ({ a with net := { a.net with igmpRepeat := a.net.igmpRepeat.erase r } } : Device) := ⟨_, rfl⟩
  have ran : s.chip.dev.quiet.igmpRepeat p = b.igmpSend p r.records := by
    have hq : s.chip.dev.quiet.net.igmpRepeat.find? (fun (x : IgmpRepeat) => decide (x.port = p)) = some r := hr
    unfold Device.igmpRepeat
    simp only [hq, ← ha, hb]
  obtain ⟨t, ht, hm, hd⟩ := onDev_next (f := fun d => d.igmpRepeat p) (c := .igmpReportRepeat p) rfl ran
  have bregs : b.regs = s.chip.dev.regs := by rw [hb]; exact regs
  have sends := Device.sendsAs_of_keeps (d := s.chip.dev) (Device.keeps_of_regs bregs (fun _ => true)) (by simp) p
  have up : b.portUp p = s.chip.dev.portUp p := Device.portUp_of_get (fun f _ i => Device.get_congr bregs f i) p
  have sent : b.igmpSend p r.records = if s.chip.dev.portUp p = true ∨ p = 32 then b.emit (.igmp p (s.chip.dev.txTag p) (s.chip.dev.unitAddr p)
      ((s.chip.dev.get F.NET_IGMP_STATUS_V2_COMPAT).testBit p) r.records) else b := by
    unfold Device.igmpSend
    rw [up, sends.1, sends.2, Device.get_congr bregs]
    simp only [Bool.or_eq_true, decide_eq_true_eq]
  refine ⟨t, ht, hm, ?_⟩
  rw [hd, sent]
  split
  · exact ⟨bregs, by rw [hb]; exact berths, by rw [hb]; exact now, by rw [hb, net]; rfl, by rw [hb, Device.emit_out, out]; rfl⟩
  · exact ⟨bregs, by rw [hb]; exact berths, by rw [hb]; exact now, by rw [hb, net]; rfl, by rw [hb, out]; rfl⟩

theorem igmpV2_ends {s : State} {p u : Nat} (hp : p < 28) (hu : Tab.find s.chip.dev.net.igmpV2 p = some u) :
    ∃ t, exec (.igmpV2Timeout p) s = .next t ∧ t.chip.mem = s.chip.mem ∧ t.chip.dev.berths = s.chip.dev.berths ∧ t.chip.dev.out = [] ∧
      u ≤ t.chip.dev.now ∧ Tab.find t.chip.dev.net.igmpV2 p = none ∧ s.chip.dev.keeps t.chip.dev (but [F.NET_IGMP_STATUS_V2_COMPAT]) ∧
      ∀ q, q < 28 → (t.chip.dev.get F.NET_IGMP_STATUS_V2_COMPAT).testBit q =
        (!decide (q = p) && (s.chip.dev.get F.NET_IGMP_STATUS_V2_COMPAT).testBit q) := by
  obtain ⟨regs, berths, out, net, now⟩ := s.chip.dev.quiet.elapse_until u
  obtain ⟨a, ha⟩ : ∃ a, a = s.chip.dev.quiet.elapse (u - s.chip.dev.quiet.now) := ⟨_, rfl⟩
  rw [← ha] at regs berths out net now
  obtain ⟨b, hb⟩ : ∃ b, b = ({ a with net := { a.net with igmpV2 := Tab.del a.net.igmpV2 p } } : Device) := ⟨_, rfl⟩
  have ran : s.chip.dev.quiet.igmpV2End p = b.put F.NET_IGMP_STATUS_V2_COMPAT 0 (setBit (b.get F.NET_IGMP_STATUS_V2_COMPAT) p false) := by
    have hq : Tab.find s.chip.dev.quiet.net.igmpV2 p = some u := hu
    unfold Device.igmpV2End
    simp only [hq, ← ha, hb]
  obtain ⟨t, ht, hm, hd⟩ := onDev_next (f := fun d => d.igmpV2End p) (c := .igmpV2Timeout p) rfl ran
  have bregs : b.regs = s.chip.dev.regs := by rw [hb]; exact regs
  have width : s.chip.dev.get F.NET_IGMP_STATUS_V2_COMPAT < 2 ^ 28 := s.chip.dev.get_lt ..
  refine ⟨t, ht, hm, ?_⟩
  rw [hd, Device.get_congr bregs]
  refine ⟨by rw [hb]; exact berths, by rw [hb]; exact out, by rw [hb]; exact now, ?_,
    Device.keeps_trans (Device.keeps_of_regs bregs _) (b.keeps_put _ _ _ (but_apart (by simp))), fun q _ => ?_⟩
  · rw [Device.put_net, hb]
    exact (Tab.find_del ..).trans (if_pos rfl)
  · rw [Device.get_put_same, Nat.mod_eq_of_lt (show _ < 2 ^ F.NET_IGMP_STATUS_V2_COMPAT.width from setBit_lt width hp false), testBit_setBit]
    by_cases h : q = p
    · simp [h]
    · simp [h]

/-- Settles O30: each query, reply and timer in turn. -/
theorem networkQueriesAreAnswered : Obligations.NetworkQueriesAreAnswered := by
  unfold Obligations.NetworkQueriesAreAnswered
  refine ⟨⟨fun s h mac sip tip hc => ⟨?_, ?_⟩, fun s p ip => ⟨fun w hw => ?_, fun e he => ?_⟩, fun s h l hc => icmpEcho_answered hc l⟩,
    fun s h v g hc => ?_, fun s r p hr => igmpReport_repeats hr, fun s p u hp hu => igmpV2_ends hp hu⟩
  · obtain ⟨t, ht, hm, ⟨kept, raised, quiet, berths⟩, net, out⟩ := arpRequest_answered hc mac sip tip
    exact ⟨t, ht, ⟨hm, berths, kept, raised, quiet⟩, net, out⟩
  · obtain ⟨t, ht, hm, ⟨kept, raised, quiet, berths⟩, out, learned, other⟩ := arpReply_learned hc mac sip tip
    exact ⟨t, ht, ⟨hm, berths, kept, raised, quiet⟩, out, learned, other⟩
  · exact arpRetry_repeats hw
  · exact arpRefresh_asks he
  · exact igmpQuery_answered hc v g

end Sys2Proof.Machine
end

section
/-!
SUPPORT. Layout requests: O25.
-/

namespace Sys2Proof.Machine

/-! ### The end of a layout request -/

/-- The fields that the end of a request changes. -/
def endFields : List Fld := [F.CMP_LAYOUT_STATUS_PENDING, F.CMP_LAYOUT_STATUS_RESULT, F.CMP_EVENTS_SWITCH_DONE, F.CMP_EVENTS_SWITCH_REFUSED,
  F.TOUCH_EVENTS_ACTION_FAIL]

/-- From `d` to `e` the pending request, if any, ended with a result. -/
structure Device.Ended (d e : Device) (r : LayoutResult) : Prop where
  request : e.layoutReq = none
  result : e.get F.CMP_LAYOUT_STATUS_RESULT = r.code
  pending : e.get F.CMP_LAYOUT_STATUS_PENDING = 0
  layout : e.layout = d.layout
  done : r = .done → e.get F.CMP_EVENTS_SWITCH_DONE = 1
  refused : r ≠ .done → e.get F.CMP_EVENTS_SWITCH_REFUSED = 1
  kept : d.keeps e (but endFields)

theorem LayoutResult.code_lt (r : LayoutResult) : r.code < 16 := by cases r <;> decide

/-- An event leaves a request as it ended. -/
theorem Device.Ended.raise {d e : Device} {r : LayoutResult} (h : d.Ended e r) {f : Fld} (hf : f ∈ [F.TOUCH_EVENTS_ACTION_FAIL, F.CMP_EVENTS_MOOR_SPILL]) (a : Nat)
    {l : List Fld} (hl : ∀ g ∈ endFields ++ [f], g ∈ l) :
    (e.raise f a).layoutReq = none ∧ (e.raise f a).get F.CMP_LAYOUT_STATUS_RESULT = r.code ∧ (e.raise f a).get F.CMP_LAYOUT_STATUS_PENDING = 0 ∧
      (e.raise f a).layout = d.layout ∧ (r = .done → (e.raise f a).get F.CMP_EVENTS_SWITCH_DONE = 1) ∧
      (r ≠ .done → (e.raise f a).get F.CMP_EVENTS_SWITCH_REFUSED = 1) ∧ d.keeps (e.raise f a) (but l) := by
  have kept := e.keeps_raise (l := [f]) f a (by simp)
  have clear : ∀ g ∈ [F.CMP_LAYOUT_STATUS_RESULT, F.CMP_LAYOUT_STATUS_PENDING, F.CMP_EVENTS_SWITCH_DONE, F.CMP_EVENTS_SWITCH_REFUSED], but [f] g = true :=
    (by decide : ∀ f ∈ [F.TOUCH_EVENTS_ACTION_FAIL, F.CMP_EVENTS_MOOR_SPILL], ∀ g ∈ [F.CMP_LAYOUT_STATUS_RESULT, F.CMP_LAYOUT_STATUS_PENDING,
      F.CMP_EVENTS_SWITCH_DONE, F.CMP_EVENTS_SWITCH_REFUSED], but [f] g = true) f hf
  exact ⟨(e.raise_layoutReq f a).trans h.request, (kept.1 _ _ (clear _ (by simp))).trans h.result, (kept.1 _ _ (clear _ (by simp))).trans h.pending,
    (e.raise_layout f a).trans h.layout, fun hr => (kept.1 _ _ (clear _ (by simp))).trans (h.done hr), fun hr => (kept.1 _ _ (clear _ (by simp))).trans (h.refused hr),
    Device.keeps_trans (Device.keeps_mono h.kept (but_mono fun g hg => hl g (by simp [hg]))) (Device.keeps_mono kept (but_mono fun g hg => hl g (by simp_all)))⟩

theorem Device.endRequest_ended (d : Device) (r : LayoutResult) : d.Ended (d.endRequest r) r := by
  obtain ⟨e, he⟩ : ∃ e, e = ({ (({ d with layoutReq := none } : Device).put F.CMP_LAYOUT_STATUS_PENDING 0 0).put F.CMP_LAYOUT_STATUS_RESULT 0 r.code with
      touch := { d.touch with recallKey := none } } : Device) := ⟨_, rfl⟩
  have ends : d.endRequest r = if r = .done then e.raise F.CMP_EVENTS_SWITCH_DONE
      else match d.touch.recallKey with
        | some k => (e.raise F.CMP_EVENTS_SWITCH_REFUSED).raise F.TOUCH_EVENTS_ACTION_FAIL k
        | none => e.raise F.CMP_EVENTS_SWITCH_REFUSED := by rw [he]; rfl
  have request : e.layoutReq = none := by rw [he]; rfl
  have layout : e.layout = d.layout := by rw [he]; rfl
  have result : e.get F.CMP_LAYOUT_STATUS_RESULT = r.code := by
    rw [he]
    exact (get_put_same ..).trans (Nat.mod_eq_of_lt r.code_lt)
  have pending : e.get F.CMP_LAYOUT_STATUS_PENDING = 0 := by
    rw [he]
    exact (get_put_ne _ _ _ _ _ _ (by decide)).trans ((get_put_same ..).trans rfl)
  have kept : d.keeps e (but endFields) := by
    rw [he]
    exact Device.keeps_trans (Device.keeps_put ({ d with layoutReq := none } : Device) _ _ _ (but_apart (by simp [endFields])))
      (Device.keeps_put _ _ _ _ (but_apart (by simp [endFields])))
  rw [ends]
  clear he ends
  by_cases hr : r = .done
  · rw [if_pos hr]
    have raised := e.keeps_raise (l := [F.CMP_EVENTS_SWITCH_DONE]) F.CMP_EVENTS_SWITCH_DONE 0 (by simp)
    exact ⟨(e.raise_layoutReq ..).trans request, (raised.1 _ _ (by decide)).trans result, (raised.1 _ _ (by decide)).trans pending, (e.raise_layout ..).trans layout,
      fun _ => Device.get_raise_same _ _ _ (by decide), fun h => absurd hr h, Device.keeps_trans kept (Device.keeps_raise _ _ _ (by simp [endFields]))⟩
  · rw [if_neg hr]
    have raised := e.keeps_raise (l := [F.CMP_EVENTS_SWITCH_REFUSED]) F.CMP_EVENTS_SWITCH_REFUSED 0 (by simp)
    have ended : d.Ended (e.raise F.CMP_EVENTS_SWITCH_REFUSED) r := ⟨(e.raise_layoutReq ..).trans request, (raised.1 _ _ (by decide)).trans result,
      (raised.1 _ _ (by decide)).trans pending, (e.raise_layout ..).trans layout, fun h => absurd h hr, fun _ => Device.get_raise_same _ _ _ (by decide),
      Device.keeps_trans kept (Device.keeps_raise _ _ _ (by simp [endFields]))⟩
    cases d.touch.recallKey with
    | none => exact ended
    | some k =>
      obtain ⟨h1, h2, h3, h4, h5, h6, h7⟩ := ended.raise (f := F.TOUCH_EVENTS_ACTION_FAIL) (by simp) k (l := endFields) (by simp [endFields])
      exact ⟨h1, h2, h3, h4, h5, h6, h7⟩

/-! ### A request is judged -/

/-- The device once a request's index and slot are shown. -/
def Device.asked (d : Device) (slot index : Nat) : Device := (d.put F.CMP_LAYOUT_SEL_INDEX 0 index).put F.CMP_LAYOUT_STATUS_REQ_SLOT 0 slot

/-- The device once a request is pending. -/
def Device.pended (a : Device) (slot index : Nat) (l : Layout) (same : Bool) : Device :=
  (({ a with layoutReq := some ⟨slot, index, a.get2 F.CMP_LAYOUT_AT_LO_AT F.CMP_LAYOUT_AT_HI_AT, l, same, same, false, 0⟩ } : Device).put
    F.CMP_LAYOUT_STATUS_PENDING 0 1).put F.CMP_LAYOUT_STATUS_PENDING_INDEX 0 index |>.put F.CMP_LAYOUT_STATUS_RESULT 0 0

/-- A judged request is told where it sent tiles to the spill region. -/
def Device.spillTold (spilled : Bool) (d : Device) : Device := if spilled then d.raise F.CMP_EVENTS_MOOR_SPILL else d

theorem Device.requestLayout_busy {d : Device} {r : LayoutReq} (h : d.layoutReq = some r) (m : Memory) (slot index : Nat) : d.requestLayout m slot index =
    ((d.asked slot index).put F.CMP_LAYOUT_STATUS_RESULT 0 LayoutResult.busy.code).raise F.CMP_EVENTS_SWITCH_REFUSED := by
  have ha : (d.asked slot index).layoutReq = some r := h
  unfold requestLayout
  unfold asked at ha ⊢
  simp only [ha]

theorem Device.requestLayout_judged {d : Device} (h : d.layoutReq = none) (m : Memory) (slot index : Nat) : d.requestLayout m slot index =
    match (d.asked slot index).judge m slot index with
    | .refused r spilled => ((d.asked slot index).endRequest r).spillTold spilled
    | .same => (d.asked slot index).pended slot index ((d.asked slot index).layout.getD ⟨index, [], 0, 0, 0, [], [], []⟩) true
    | .accepted l spilled => ((d.asked slot index).pended slot index l false).spillTold spilled := by
  have ha : (d.asked slot index).layoutReq = none := h
  unfold requestLayout spillTold pended
  unfold asked at ha ⊢
  simp only [ha] <;> rfl

/-- A verdict that refuses names a failure. -/
def Verdict.sound : Verdict → Prop
  | .refused r _ => r ≠ .done
  | _ => True

theorem Verdict.sound_ite {p : Prop} [Decidable p] {a b : Verdict} (ha : a.sound) (hb : b.sound) : (if p then a else b).sound := by
  split
  · exact ha
  · exact hb

theorem Device.judgeSpace_sound (d : Device) (m : Memory) (index : Nat) (outs : List OutRec) (t : Tables) (srcs : List Nat) :
    (d.judgeSpace m index outs t srcs).sound := by
  have named (r : LayoutResult) (hr : r ≠ .done) (b : Bool) : (Verdict.refused r b).sound := hr
  unfold judgeSpace
  dsimp only
  refine Verdict.sound_ite (named _ (by decide) _) (Verdict.sound_ite (named _ (by decide) _) ?_)
  generalize d.layoutBerths outs srcs = berths
  cases berths with
  | none => exact named _ (by decide) _
  | some b => exact Verdict.sound_ite (named _ (by decide) _) (Verdict.sound_ite (named _ (by decide) _) trivial)

/-- No request is refused with DONE. -/
theorem Device.judge_refused {d : Device} {m : Memory} {slot index : Nat} {r : LayoutResult} {b : Bool} (h : d.judge m slot index = .refused r b) : r ≠ .done := by
  have named (r : LayoutResult) (hr : r ≠ .done) : (Verdict.refused r false).sound := hr
  have sound : (d.judge m slot index).sound := by
    unfold judge
    dsimp only
    exact Verdict.sound_ite (named _ (by decide)) (Verdict.sound_ite (named _ (by decide)) (Verdict.sound_ite trivial (Verdict.sound_ite (named _ (by decide))
      (Verdict.sound_ite (named _ (by decide)) (Verdict.sound_ite (named _ (by decide)) (judgeSpace_sound ..))))))
  rw [h] at sound
  exact sound

/-- What a request shows: its index and its slot. -/
structure Device.Requested (d e : Device) (slot index : Nat) : Prop where
  layout : e.layout = d.layout
  index : e.get F.CMP_LAYOUT_SEL_INDEX = index
  slot : e.get F.CMP_LAYOUT_STATUS_REQ_SLOT = slot

/-- A request is pending. -/
structure Device.Pends (e : Device) (q : LayoutReq) : Prop where
  request : e.layoutReq = some q
  pending : e.get F.CMP_LAYOUT_STATUS_PENDING = 1
  index : e.get F.CMP_LAYOUT_STATUS_PENDING_INDEX = q.index

section Request

variable {d : Device} {slot index : Nat} (hs : slot < 8) (hi : index < 256)
include hs hi

theorem Device.asked_requested : d.Requested (d.asked slot index) slot index :=
  ⟨rfl, (get_put_ne _ _ _ _ _ _ (by decide)).trans ((get_put_same ..).trans (Nat.mod_eq_of_lt hi)), (get_put_same ..).trans (Nat.mod_eq_of_lt hs)⟩

omit hs hi in
theorem Device.Requested.keeps {e f : Device} (h : d.Requested e slot index) (hl : f.layout = e.layout) {l : List Fld} (hk : e.keeps f (but l))
    (hc : but l F.CMP_LAYOUT_SEL_INDEX = true ∧ but l F.CMP_LAYOUT_STATUS_REQ_SLOT = true) : d.Requested f slot index :=
  ⟨hl.trans h.layout, (hk.1 _ _ hc.1).trans h.index, (hk.1 _ _ hc.2).trans h.slot⟩

omit hs in
theorem Device.pended_pends (a : Device) (l : Layout) (same : Bool) :
    (a.pended slot index l same).Pends ⟨slot, index, a.get2 F.CMP_LAYOUT_AT_LO_AT F.CMP_LAYOUT_AT_HI_AT, l, same, same, false, 0⟩ ∧
    a.keeps (a.pended slot index l same) (but [F.CMP_LAYOUT_STATUS_PENDING, F.CMP_LAYOUT_STATUS_PENDING_INDEX, F.CMP_LAYOUT_STATUS_RESULT]) := by
  refine ⟨⟨rfl, ?_, ?_⟩, ?_⟩
  · exact (get_put_ne _ _ _ _ _ _ (by decide)).trans ((get_put_ne _ _ _ _ _ _ (by decide)).trans ((get_put_same ..).trans rfl))
  · exact (get_put_ne _ _ _ _ _ _ (by decide)).trans ((get_put_same ..).trans (Nat.mod_eq_of_lt hi))
  · exact Device.keeps_trans (Device.keeps_put ({ a with layoutReq := _ } : Device) _ _ _ (but_apart (by simp)))
      (Device.keeps_trans (Device.keeps_put _ _ _ _ (but_apart (by simp))) (Device.keeps_put _ _ _ _ (but_apart (by simp))))

omit hs hi in
theorem Device.spillTold_frame (e : Device) (b : Bool) : e.keeps (e.spillTold b) (but [F.CMP_EVENTS_MOOR_SPILL]) ∧ (e.spillTold b).layoutReq = e.layoutReq ∧
    (e.spillTold b).layout = e.layout := by
  unfold spillTold
  cases b with
  | false => exact ⟨e.keeps_refl _, rfl, rfl⟩
  | true => exact ⟨e.keeps_raise _ _ (by simp), e.raise_layoutReq .., e.raise_layout ..⟩

/-- The outcome of a request with none pending before. -/
theorem Device.requestLayout_outcome (h : d.layoutReq = none) (m : Memory) : d.Requested (d.requestLayout m slot index) slot index ∧
    (∀ r b, (d.asked slot index).judge m slot index = .refused r b → (d.requestLayout m slot index).layoutReq = none ∧
      (d.requestLayout m slot index).get F.CMP_LAYOUT_STATUS_RESULT = r.code ∧ (d.requestLayout m slot index).get F.CMP_LAYOUT_STATUS_PENDING = 0 ∧
      (d.requestLayout m slot index).get F.CMP_EVENTS_SWITCH_REFUSED = 1) ∧
    ((d.asked slot index).judge m slot index = .same → ∃ l, (d.requestLayout m slot index).Pends
      ⟨slot, index, d.get2 F.CMP_LAYOUT_AT_LO_AT F.CMP_LAYOUT_AT_HI_AT, l, true, true, false, 0⟩) ∧
    (∀ l b, (d.asked slot index).judge m slot index = .accepted l b → (d.requestLayout m slot index).Pends
      ⟨slot, index, d.get2 F.CMP_LAYOUT_AT_LO_AT F.CMP_LAYOUT_AT_HI_AT, l, false, false, false, 0⟩) := by
  have asked := d.asked_requested hs hi
  have at_ : (d.asked slot index).get2 F.CMP_LAYOUT_AT_LO_AT F.CMP_LAYOUT_AT_HI_AT = d.get2 F.CMP_LAYOUT_AT_LO_AT F.CMP_LAYOUT_AT_HI_AT := by
    unfold get2 Device.asked
    simp only [get_put_ne _ F.CMP_LAYOUT_STATUS_REQ_SLOT F.CMP_LAYOUT_AT_LO_AT _ _ _ (by decide), get_put_ne _ F.CMP_LAYOUT_SEL_INDEX F.CMP_LAYOUT_AT_LO_AT _ _ _ (by decide),
      get_put_ne _ F.CMP_LAYOUT_STATUS_REQ_SLOT F.CMP_LAYOUT_AT_HI_AT _ _ _ (by decide), get_put_ne _ F.CMP_LAYOUT_SEL_INDEX F.CMP_LAYOUT_AT_HI_AT _ _ _ (by decide)]
  have run := requestLayout_judged h m slot index
  obtain ⟨a, ha⟩ : ∃ a, a = d.asked slot index := ⟨_, rfl⟩
  rw [← ha] at asked at_ run ⊢
  have shown {f : Device} (hp : f.layout = a.layout) {l : List Fld} (hk : a.keeps f (but l))
      (hc : but l F.CMP_LAYOUT_SEL_INDEX = true ∧ but l F.CMP_LAYOUT_STATUS_REQ_SLOT = true) (b : Bool) : d.Requested (f.spillTold b) slot index := by
    obtain ⟨kept, -, layout⟩ := f.spillTold_frame b
    exact (asked.keeps hp hk hc).keeps layout kept (by decide)
  cases hj : a.judge m slot index with
  | refused r b =>
    have ended := a.endRequest_ended r
    obtain ⟨kept, request, -⟩ := (a.endRequest r).spillTold_frame b
    simp only [hj] at run
    rw [run]
    refine ⟨shown ended.layout ended.kept (by decide) b, ?_, by simp, by simp⟩
    intro r' b' e
    obtain ⟨rfl, rfl⟩ : r = r' ∧ b = b' := by simpa using e
    exact ⟨request.trans ended.request, (kept.1 _ _ (by decide)).trans ended.result, (kept.1 _ _ (by decide)).trans ended.pending,
      (kept.1 _ _ (by decide)).trans (ended.refused (judge_refused hj))⟩
  | same =>
    simp only [hj] at run
    obtain ⟨pends, kept⟩ := a.pended_pends (slot := slot) hi (a.layout.getD ⟨index, [], 0, 0, 0, [], [], []⟩) true
    rw [at_] at pends
    rw [run]
    exact ⟨asked.keeps (f := a.pended slot index _ true) rfl kept (by decide), by simp, fun _ => ⟨_, pends⟩, by simp⟩
  | accepted l b =>
    simp only [hj] at run
    obtain ⟨⟨request, pending, shownIndex⟩, kept⟩ := a.pended_pends (slot := slot) hi l false
    obtain ⟨told, toldRequest, -⟩ := (a.pended slot index l false).spillTold_frame b
    rw [run]
    refine ⟨shown (f := a.pended slot index l false) rfl kept (by decide) b, by simp, by simp, ?_⟩
    intro l' b' e
    obtain ⟨rfl, rfl⟩ : l = l' ∧ b = b' := by simpa using e
    exact ⟨toldRequest.trans (by rw [request, at_]), (told.1 _ _ (by decide)).trans pending, (told.1 _ _ (by decide)).trans shownIndex⟩

end Request

/-- A change of the tick's state alone. -/
def Device.TickOnly (d e : Device) : Prop := ∃ k, e = { d with tick := k }

namespace Device.TickOnly

theorem refl (d : Device) : d.TickOnly d := ⟨_, rfl⟩

theorem trans {d e f : Device} (h : d.TickOnly e) (k : e.TickOnly f) : d.TickOnly f := by
  obtain ⟨a, rfl⟩ := h
  obtain ⟨b, rfl⟩ := k
  exact ⟨b, rfl⟩

theorem ite {p : Prop} [Decidable p] {d a b : Device} (ha : d.TickOnly a) (hb : d.TickOnly b) : d.TickOnly (if p then a else b) := by
  split
  · exact ha
  · exact hb

theorem forL {β : Type} {f : β → Device → Device} (hf : ∀ b (d : Device), d.TickOnly (f b d)) (l : List β) (d : Device) : d.TickOnly (Machine.forL l f d) := by
  induction l generalizing d with
  | nil => exact refl d
  | cons b l ih => exact (hf b d).trans (ih _)

theorem evict (d : Device) (cache n : Nat) : d.TickOnly (d.evict cache n) := by
  unfold Device.evict
  exact forL (fun e d => ite (refl d) ⟨_, rfl⟩) _ d

theorem fill (d : Device) (cache i size : Nat) (put : Tick → Tick) : d.TickOnly (d.fill cache i size put) := by
  have evicted := evict d cache size
  unfold Device.fill
  dsimp only
  exact ite (evicted.trans ⟨_, rfl⟩) evicted

/-- The pager's fetches change the caches alone. -/
theorem prefetch (d : Device) (m : Memory) (t : Tables) (imgs : List Nat) : d.TickOnly (d.prefetch m t imgs) := by
  have image (i : Nat) (d : Device) : d.TickOnly (match d.staleImage m i with
      | some p => if (Tab.find d.tick.marks i).isSome then d else d.fillImage i p (fetchImage m p)
      | none => d) := by
    generalize d.staleImage m i = x
    cases x with
    | none => exact refl d
    | some p => exact ite (refl d) (fill ..)
  unfold Device.prefetch
  exact ((forL (fun p d => ite (refl d) (fill ..)) _ d).trans (forL (fun p d => ite (refl d) (fill ..)) _ _)).trans
    ((forL (fun p d => ite (refl d) (fill ..)) _ _).trans (forL image _ _))

end Device.TickOnly

/-! ### The requests as commands -/

theorem selWord : ∀ i < 256, F.CMP_LAYOUT_SEL_INDEX.at i < 2 ^ 32 ∧ F.CMP_LAYOUT_SEL_INDEX.of (F.CMP_LAYOUT_SEL_INDEX.at i) = i ∧
    F.CMP_LAYOUT_SEL_CANCEL.of (F.CMP_LAYOUT_SEL_INDEX.at i) ≠ 1 := by decide +kernel

/-- An admitted request: what it makes of the device, but for the mirror and the answer. -/
theorem layoutRequest_runs {s : State} {slot index : Nat} (hs : slot < 8) (hi : index < 256)
    (ha : s.chip.admits slot R.CMP_LAYOUT_SEL 0 (F.CMP_LAYOUT_SEL_INDEX.at index) = true) :
    ∃ t p, exec (.layoutRequest slot index) s = .next t ∧ t.chip.mem = s.chip.mem ∧
      t.chip.dev = ({ s.chip.dev.quiet.requestLayout s.chip.mem slot index with pair := p } : Device).emit (.result slot resOk []) := by
  obtain ⟨hw, hof, hcancel⟩ := selWord index hi
  obtain ⟨e, he⟩ : ∃ e, e = s.chip.dev.quiet.requestLayout s.chip.mem slot index := ⟨_, rfl⟩
  obtain ⟨f, hf, hrun⟩ : ∃ f, (∃ p, f = ({ e with pair := p } : Device)) ∧ Chip.writeEffect slot R.CMP_LAYOUT_SEL 0 (F.CMP_LAYOUT_SEL_INDEX.at index) s.chip.dev.quiet
      ⟨s.chip.mem, s.chip.dev.quiet.storeWord R.CMP_LAYOUT_SEL slot 0 (F.CMP_LAYOUT_SEL_INDEX.at index)⟩ = ⟨s.chip.mem, f⟩ := by
    obtain ⟨x, hx⟩ : ∃ x, x = s.chip.dev.quiet.storeWord R.CMP_LAYOUT_SEL slot 0 (F.CMP_LAYOUT_SEL_INDEX.at index) := ⟨_, rfl⟩
    have effect : Chip.writeEffect slot R.CMP_LAYOUT_SEL 0 (F.CMP_LAYOUT_SEL_INDEX.at index) s.chip.dev.quiet ⟨s.chip.mem, x⟩ =
        Chip.cmpWrite slot R.CMP_LAYOUT_SEL 0 (F.CMP_LAYOUT_SEL_INDEX.at index) s.chip.dev.quiet ⟨s.chip.mem, x⟩ := rfl
    rw [← hx, effect]
    unfold Chip.cmpWrite
    rw [if_pos rfl, if_neg hcancel, hof]
    dsimp only
    rw [← he]
    cases x.layoutReq.isNone with
    | true => exact ⟨_, ⟨_, rfl⟩, rfl⟩
    | false => exact ⟨e, ⟨e.pair, rfl⟩, rfl⟩
  obtain ⟨p, rfl⟩ := hf
  obtain ⟨t, p', ht, hm, hd⟩ := writeTo_acts (by decide) hs hw rfl ha hrun
  exact ⟨t, p', ht, hm, by rw [hd, he]⟩

theorem layoutCancel_cancels {s : State} {slot : Nat} (hs : slot < 8) (ha : s.chip.admits slot R.CMP_LAYOUT_SEL 0 (F.CMP_LAYOUT_SEL_CANCEL.at 1) = true) :
    ∃ t, exec (.layoutCancel slot) s = .next t ∧ t.chip.mem = s.chip.mem ∧ t.chip.dev.layout = s.chip.dev.layout ∧
      t.chip.dev.layoutReq = s.chip.dev.layoutReq.map (fun r => if r.slot = slot then { r with cancel := true } else r) := by
  have run : Chip.writeEffect slot R.CMP_LAYOUT_SEL 0 (F.CMP_LAYOUT_SEL_CANCEL.at 1) s.chip.dev.quiet
      ⟨s.chip.mem, s.chip.dev.quiet.storeWord R.CMP_LAYOUT_SEL slot 0 (F.CMP_LAYOUT_SEL_CANCEL.at 1)⟩ = ⟨s.chip.mem, s.chip.dev.quiet.cancelLayout slot⟩ := rfl
  obtain ⟨t, p, ht, hm, hd⟩ := writeTo_acts (by decide) hs (by decide) rfl ha run
  have cancelled : (s.chip.dev.quiet.cancelLayout slot).layout = s.chip.dev.layout ∧
      (s.chip.dev.quiet.cancelLayout slot).layoutReq = s.chip.dev.layoutReq.map (fun r => if r.slot = slot then { r with cancel := true } else r) := by
    have quiet : s.chip.dev.quiet.layoutReq = s.chip.dev.layoutReq := rfl
    unfold Device.cancelLayout
    cases hr : s.chip.dev.layoutReq with
    | none =>
      rw [hr] at quiet
      simp only [quiet]
      exact ⟨rfl, rfl⟩
    | some r =>
      rw [hr] at quiet
      simp only [quiet, Option.map_some]
      split
      · exact ⟨rfl, rfl⟩
      · exact ⟨rfl, quiet⟩
  exact ⟨t, ht, hm, by rw [hd]; exact cancelled.1, by rw [hd]; exact cancelled.2⟩

/-- What the model says of a request that ended, in the words of the statement. -/
theorem Device.Ended.facts {d e : Device} {r : LayoutResult} (h : d.Ended e r) (hr : r ≠ .done) :
    e.layoutReq = none ∧ e.get F.CMP_LAYOUT_STATUS_RESULT = r.code ∧ e.get F.CMP_LAYOUT_STATUS_PENDING = 0 ∧ e.get F.CMP_EVENTS_SWITCH_REFUSED = 1 ∧
      e.layout = d.layout :=
  ⟨h.request, h.result, h.pending, h.refused hr, h.layout⟩

theorem Device.spillWrite_of_addr {d e : Device} (h : e.spillAddr = d.spillAddr) : e.spillWrite = d.spillWrite := by
  funext m bs l
  induction bs generalizing m l with
  | nil => rfl
  | cons b bs ih => rw [spillWrite, spillWrite, h, ih]

section Unprepared

variable {s : State} {r : LayoutReq} (hr : s.chip.dev.layoutReq = some r) (hsame : r.same = false) (hprep : r.prepared = false)
include hr hsame hprep

theorem layoutLate_ends (hat : r.at_ ≠ 0) (hrun : s.chip.dev.tick.running = true) (hnum : r.at_ ≤ s.chip.dev.tick.num) :
    ∃ t, exec .layoutLate s = .next t ∧ t.chip.mem = s.chip.mem ∧
      s.chip.dev.quiet.Ended t.chip.dev (if r.cancel then LayoutResult.cancelled else .late) := by
  have ran : s.chip.dev.quiet.layoutLate = s.chip.dev.quiet.endRequest (if r.cancel then .cancelled else .late) := by
    have hq : s.chip.dev.quiet.layoutReq = some r := hr
    have tick : s.chip.dev.quiet.tick = s.chip.dev.tick := rfl
    unfold Device.layoutLate
    simp only [hq, tick]
    rw [if_pos ⟨by simp [hsame], by simp [hprep], hat, hrun, hnum⟩]
  obtain ⟨t, ht, hm, hd⟩ := onDev_next (c := .layoutLate) rfl ran
  exact ⟨t, ht, hm, hd ▸ Device.endRequest_ended _ _⟩

theorem layoutTimeout_ends : ∃ t, exec .layoutTimeout s = .next t ∧ t.chip.mem = s.chip.mem ∧
    (s.chip.dev.get F.CMP_SWITCH_CFG_TIMEOUT ≤ r.edges → s.chip.dev.quiet.Ended t.chip.dev (if r.cancel then LayoutResult.cancelled else .timeout)) ∧
    (r.edges < s.chip.dev.get F.CMP_SWITCH_CFG_TIMEOUT → t.chip.dev = { s.chip.dev with out := [] }) := by
  have ran : s.chip.dev.quiet.layoutTimeout = if s.chip.dev.get F.CMP_SWITCH_CFG_TIMEOUT ≤ r.edges
      then s.chip.dev.quiet.endRequest (if r.cancel then .cancelled else .timeout) else s.chip.dev.quiet := by
    have hq : s.chip.dev.quiet.layoutReq = some r := hr
    have limit : s.chip.dev.quiet.get F.CMP_SWITCH_CFG_TIMEOUT = s.chip.dev.get F.CMP_SWITCH_CFG_TIMEOUT := rfl
    unfold Device.layoutTimeout
    simp only [hq, hsame, hprep, limit, Bool.not_false, Bool.true_or, Bool.and_self, Bool.true_and, decide_eq_true_eq]
  obtain ⟨t, ht, hm, hd⟩ := onDev_next (c := .layoutTimeout) rfl ran
  refine ⟨t, ht, hm, fun h => ?_, fun h => ?_⟩
  · rw [hd, if_pos h]
    exact Device.endRequest_ended _ _
  · rw [hd, if_neg (by omega)]
    rfl

/-- Preparation in time: the new layout's tables are whole or not. -/
theorem layoutPrepare_prepares (hat : r.at_ = 0 ∨ s.chip.dev.tick.inTick = false ∨ s.chip.dev.tick.num < r.at_)
    (hedges : r.edges < s.chip.dev.get F.CMP_SWITCH_CFG_TIMEOUT) :
    let d := s.chip.dev
    let whole := d.prefetchOk s.chip.mem (d.readTables s.chip.mem r.layout.outs) (d.imageRefs (r.layout.sources (d.readTables s.chip.mem r.layout.outs).desc))
    ∃ t, exec .layoutPrepareComplete s = .next t ∧
      (whole = true → t.chip.dev.regs = d.regs ∧ t.chip.dev.layout = d.layout ∧
        t.chip.mem = { s.chip.mem with dram := d.spillAll s.chip.mem.dram d.stacksNew } ∧ t.chip.dev.layoutReq = some { r with prepared := true }) ∧
      (whole = false → t.chip.mem = s.chip.mem ∧ d.quiet.Ended t.chip.dev .descriptor) := by
  intro d whole
  obtain ⟨q, hq⟩ : ∃ q, q = ({ d.quiet with layoutReq := some { r with prepared := true } } : Device) := ⟨_, rfl⟩
  have ran : ∃ tables imgs, s.chip.quiet.prepared = if !whole then ⟨s.chip.mem, d.quiet.endRequest .descriptor⟩
      else ⟨{ s.chip.mem with dram := q.spillAll s.chip.mem.dram q.stacksNew }, q.prefetch s.chip.mem tables imgs⟩ := by
    have hreq : s.chip.quiet.dev.layoutReq = some r := hr
    have late : ¬ (decide (r.at_ ≠ 0) && s.chip.quiet.dev.tick.inTick && decide (r.at_ ≤ s.chip.quiet.dev.tick.num)) = true := by
      have tick : s.chip.quiet.dev.tick = s.chip.dev.tick := rfl
      rw [tick]
      rcases hat with h | h | h
      · simp [h]
      · simp [h]
      · simp [Nat.not_le.mpr h]
    have slow : ¬ s.chip.quiet.dev.get F.CMP_SWITCH_CFG_TIMEOUT ≤ r.edges := Nat.not_le.mpr hedges
    refine ⟨d.readTables s.chip.mem r.layout.outs, d.imageRefs (r.layout.sources (d.readTables s.chip.mem r.layout.outs).desc), ?_⟩
    unfold Chip.prepared
    simp only [hreq]
    rw [if_neg (by simp [hsame, hprep]), if_neg late, if_neg slow, hq]
    rfl
  obtain ⟨tables, imgs, ran⟩ := ran
  obtain ⟨k, hk⟩ := Device.TickOnly.prefetch q s.chip.mem tables imgs
  refine ⟨{ s with chip := s.chip.quiet.prepared }, rfl, fun h => ?_, fun h => ?_⟩
  · have spill : q.spillAll s.chip.mem.dram q.stacksNew = d.spillAll s.chip.mem.dram d.stacksNew := by
      have write : q.spillWrite = d.spillWrite := Device.spillWrite_of_addr (by rw [hq]; rfl)
      have placed : q.stacksNew = d.stacksNew := by
        have now : q.stacksNow = d.stacksNow := by rw [hq]; rfl
        have req : q.layoutReq = some { r with prepared := true } := by rw [hq]
        have old : d.layoutReq = some r := hr
        unfold Device.stacksNew
        rw [now, req, old]
      unfold Device.spillAll
      rw [placed, write]
    simp only [ran, h, Bool.not_true, Bool.false_eq_true, if_false, hk, spill]
    rw [hq]
    exact ⟨rfl, rfl, trivial, rfl⟩
  · simp only [ran, h, Bool.not_false, if_true]
    exact ⟨trivial, Device.endRequest_ended _ _⟩

end Unprepared

/-- Settles O25: the verdict of each check, the cancel, and the four ends of a request that is not prepared. -/
theorem layoutRequestsAreJudgedInOrder : Obligations.LayoutRequestsAreJudgedInOrder := by
  unfold Obligations.LayoutRequestsAreJudgedInOrder
  refine ⟨fun s slot index hs hi ha => ?_, fun s slot hs ha => layoutCancel_cancels hs ha, fun s r hr hsame hprep => ⟨fun hat hedges => ?_, ?_, ?_, ?_⟩⟩
  · obtain ⟨t, p, ht, hm, hd⟩ := layoutRequest_runs hs hi ha
    obtain ⟨e, he⟩ : ∃ e, e = s.chip.dev.quiet.requestLayout s.chip.mem slot index := ⟨_, rfl⟩
    rw [← he] at hd
    have regs (f : Fld) : t.chip.dev.get f = e.get f := by rw [hd]; rfl
    have req : t.chip.dev.layoutReq = e.layoutReq := by rw [hd]; rfl
    have lay : t.chip.dev.layout = e.layout := by rw [hd]; rfl
    have asked := Device.asked_requested (d := s.chip.dev.quiet) hs hi
    dsimp only
    refine ⟨t, ht, hm, ?_⟩
    simp only [regs, req, lay]
    clear regs req lay hd
    cases hreq : s.chip.dev.layoutReq with
    | some r =>
      have busy := Device.requestLayout_busy (d := s.chip.dev.quiet) hreq s.chip.mem slot index
      obtain ⟨a, ha⟩ : ∃ a, a = s.chip.dev.quiet.asked slot index := ⟨_, rfl⟩
      have areq : a.layoutReq = some r := by rw [ha]; exact hreq
      rw [← ha] at busy asked
      rw [← he] at busy
      have raised := (a.put F.CMP_LAYOUT_STATUS_RESULT 0 LayoutResult.busy.code).keeps_raise (l := [F.CMP_EVENTS_SWITCH_REFUSED]) F.CMP_EVENTS_SWITCH_REFUSED 0 (by simp)
      rw [← busy] at raised
      have result : e.get F.CMP_LAYOUT_STATUS_RESULT = LayoutResult.busy.code := (raised.1 _ _ (by decide)).trans ((Device.get_put_same ..).trans rfl)
      have refused : e.get F.CMP_EVENTS_SWITCH_REFUSED = 1 := busy ▸ Device.get_raise_same _ _ _ (by decide)
      refine ⟨?_, ?_, ?_, fun r' h => ?_, by simp⟩
      · rw [busy, Device.raise_layout]
        exact asked.layout
      · exact (raised.1 _ _ (by decide)).trans ((Device.get_put_ne _ _ _ _ _ _ (by decide)).trans asked.index)
      · exact (raised.1 _ _ (by decide)).trans ((Device.get_put_ne _ _ _ _ _ _ (by decide)).trans asked.slot)
      · obtain rfl : r = r' := Option.some.inj h
        refine ⟨?_, result, refused⟩
        rw [busy, Device.raise_layoutReq]
        exact areq
    | none =>
      obtain ⟨⟨layout, idx, sl⟩, refused, same, accepted⟩ := Device.requestLayout_outcome (d := s.chip.dev.quiet) hs hi hreq s.chip.mem
      rw [← he] at layout idx sl refused same accepted
      have field (f : Fld) (h1 : F.CMP_LAYOUT_STATUS_REQ_SLOT.id ≠ f.id) (h2 : F.CMP_LAYOUT_SEL_INDEX.id ≠ f.id) :
          (s.chip.dev.quiet.asked slot index).get f = s.chip.dev.get f :=
        (Device.get_put_ne _ _ _ _ _ _ h1).trans (Device.get_put_ne _ _ _ _ _ _ h2)
      have table : (s.chip.dev.quiet.asked slot index).layoutTable = s.chip.dev.layoutTable := by
        unfold Device.layoutTable Device.addr40
        rw [field _ (by decide) (by decide), field _ (by decide) (by decide)]
      have size := field F.CMP_TABLE_SIZE_LAYOUTS (by decide) (by decide)
      refine ⟨layout, idx, sl, by simp, fun _ => ⟨fun h => refused .range false ?_, fun h hok => refused .check false ?_, refused, fun h => ?_, fun l b h => ?_⟩⟩
      · unfold Device.judge
        dsimp only
        rw [if_pos (by rw [size]; exact h)]
      · unfold Device.judge
        dsimp only
        rw [if_neg (by rw [size]; omega), if_pos (by rw [table, hok]; rfl)]
      · obtain ⟨l, request, pending, -⟩ := same h
        exact ⟨l, request, pending⟩
      · obtain ⟨request, pending, shown⟩ := accepted l b h
        exact ⟨request, pending, shown⟩
  · obtain ⟨t, ht, whole, broken⟩ := layoutPrepare_prepares hr hsame hprep hat hedges
    refine ⟨fun h => ?_, fun h hc => ?_⟩
    · obtain ⟨regs, layout, mem, request⟩ := whole h
      exact ⟨t, ht, regs, layout, mem, request⟩
    · obtain ⟨mem, ended⟩ := broken h
      rw [hc]
      exact ⟨t, ht, mem, ended.facts (by decide)⟩
  · intro hat hrun hnum
    obtain ⟨t, ht, hm, ended⟩ := layoutLate_ends hr hsame hprep hat hrun hnum
    exact ⟨t, ht, hm, ended.facts (by split <;> decide)⟩
  · intro h
    obtain ⟨t, ht, hm, ended, -⟩ := layoutTimeout_ends hr hsame hprep
    exact ⟨t, ht, hm, (ended h).facts (by split <;> decide)⟩
  · intro h
    obtain ⟨t, ht, hm, -, early⟩ := layoutTimeout_ends hr hsame hprep
    exact ⟨t, ht, hm, early h⟩

end Sys2Proof.Machine
end

section
/-!
SUPPORT. The switch and the moored tiles: O26.
-/

namespace Sys2Proof.Machine

/-! ### The switch -/

/-- Which outputs are present is shown. -/
def Device.showPresent (d : Device) (new : List OutRec) (n : Nat) : Device :=
  forN n (fun o (d : Device) =>
    match new.find? (fun q => decide (q.out = o)) with
    | some b => (d.put F.CMP_OUT_STATE_PRESENT o 1).flag F.CMP_OUT_STATE_GANGED o (decide (b.shape ≠ 0))
    | none => (d.put F.CMP_OUT_STATE_PRESENT o 0).put F.CMP_OUT_STATE_GANGED o 0) d

theorem Device.showPresent_shows (d : Device) (new : List OutRec) (n : Nat) : (∃ g, d.showPresent new n = { d with regs := g }) ∧
    ∀ o, o < n → (d.showPresent new n).get F.CMP_OUT_STATE_PRESENT o = if (new.find? (fun q => decide (q.out = o))).isSome then 1 else 0 := by
  induction n with
  | zero => exact ⟨⟨d.regs, rfl⟩, by simp⟩
  | succ n ih =>
    obtain ⟨⟨g, hg⟩, shown⟩ := ih
    obtain ⟨v, w, hv, step⟩ : ∃ v w, v = (if (new.find? (fun q => decide (q.out = n))).isSome then 1 else 0) ∧
        d.showPresent new (n + 1) = ((d.showPresent new n).put F.CMP_OUT_STATE_PRESENT n v).put F.CMP_OUT_STATE_GANGED n w := by
      have succ : d.showPresent new (n + 1) = match new.find? (fun q => decide (q.out = n)) with
          | some b => ((d.showPresent new n).put F.CMP_OUT_STATE_PRESENT n 1).flag F.CMP_OUT_STATE_GANGED n (decide (b.shape ≠ 0))
          | none => ((d.showPresent new n).put F.CMP_OUT_STATE_PRESENT n 0).put F.CMP_OUT_STATE_GANGED n 0 := forN_succ ..
      generalize new.find? (fun q => decide (q.out = n)) = x at succ
      cases x with
      | none => exact ⟨0, 0, rfl, succ⟩
      | some b => exact ⟨1, _, rfl, succ⟩
    rw [step]
    refine ⟨⟨_, by rw [hg]; rfl⟩, fun o ho => ?_⟩
    rw [get_put_ne _ _ _ _ _ _ (by decide)]
    by_cases h : o = n
    · subst h
      rw [get_put_same, hv]
      split <;> rfl
    · rw [get_put, if_neg fun e => h e.2.symm]
      exact shown o (by omega)

section Removed

variable {p : Fld → Bool} (hp : ∀ g, p g = true → but berthFields g = true)

theorem Device.setOut_frame (d : Device) (o : Nat) (v : OutSt) : d.BerthFrame p (d.setOut o v) := ⟨Device.keeps_of_regs rfl p, rfl⟩

include hp

theorem Device.letFrameGo_frame (d : Device) (o : Nat) : d.BerthFrame p (d.letFrameGo o) := by
  have gone : d.BerthFrame p ((d.setOut o { d.outp o with prev := none, sending := none, stampDue := false, started := false, tail := none }).freeTail o) :=
    (d.setOut_frame o _).trans (Device.BerthFrame.releaseAll hp _ _)
  unfold letFrameGo
  dsimp only
  generalize (d.outp o).prev = x
  cases x with
  | none => exact gone
  | some q =>
    dsimp only
    generalize q.berth = n
    cases n with
    | none => exact gone
    | some n => exact gone.trans (Device.BerthFrame.settle hp _ n)

theorem Device.removeOut_frame (d : Device) (o : Nat) : d.BerthFrame p (d.removeOut o) :=
  (d.letFrameGo_frame hp o).trans (Device.setOut_frame ..)

/-- The outputs that leave, stay and come. -/
theorem Device.moveOut_frame (old new : List OutRec) (o : Nat) (d : Device) : d.BerthFrame p
    (match old.find? (fun q => decide (q.out = o)), new.find? (fun q => decide (q.out = o)) with
    | none, none => d
    | some _, none => d.removeOut o
    | none, some _ => (d.removeOut o).startOut o
    | some a, some b => if formatChanged a b then (d.removeOut o).startOut o else d.startOut o) := by
  have started (d : Device) : d.BerthFrame p (d.startOut o) := Device.setOut_frame ..
  have again := (d.removeOut_frame hp o).trans (started (d.removeOut o))
  generalize old.find? (fun q => decide (q.out = o)) = a
  generalize new.find? (fun q => decide (q.out = o)) = b
  cases a with
  | none =>
    cases b with
    | none => exact Device.BerthFrame.refl d
    | some b => exact again
  | some a =>
    cases b with
    | none => exact d.removeOut_frame hp o
    | some b =>
      dsimp only
      split
      · exact again
      · exact started d

end Removed

/-- The outputs of the layout before give way to those of the new one. -/
def Device.moveOuts (d : Device) (old new : List OutRec) : Device :=
  forN 32 (fun o (d : Device) =>
    match old.find? (fun q => decide (q.out = o)), new.find? (fun q => decide (q.out = o)) with
    | none, none => d
    | some _, none => d.removeOut o
    | none, some _ => (d.removeOut o).startOut o
    | some a, some b => if formatChanged a b then (d.removeOut o).startOut o else d.startOut o) d

theorem Device.moveOuts_layout (d : Device) (old new : List OutRec) : (d.moveOuts old new).layout = d.layout := by
  have frame : d.BerthFrame (but berthFields) (d.moveOuts old new) := Device.BerthFrame.forL (Device.moveOut_frame (fun _ h => h) old new) _ d
  have := congrArg Device.layout frame.parts
  exact this

theorem Device.dropUnreferenced_only (d : Device) : d.TickOnly d.dropUnreferenced := by
  unfold dropUnreferenced keepEntries
  exact TickOnly.forL (fun e d => TickOnly.ite (TickOnly.refl d) ⟨_, rfl⟩) _ d

theorem Device.switchLayout_eq (d : Device) (r : LayoutReq) : d.switchLayout r =
    ((((({ d with layout := some r.layout } : Device).moveOuts (match d.layout with | some l => l.outs | none => []) r.layout.outs).showPresent
      r.layout.outs 32).dropUnreferenced.put F.CMP_LAYOUT_STATUS_VALID 0 1).put F.CMP_LAYOUT_STATUS_CURRENT 0 r.index).endRequest .done := rfl

/-- What the switch puts in force and shows. -/
theorem Device.switchLayout_switches (d : Device) (r : LayoutReq) (hr : r.index < 256) : (d.switchLayout r).layout = some r.layout ∧
    (d.switchLayout r).layoutReq = none ∧ (d.switchLayout r).get F.CMP_LAYOUT_STATUS_RESULT = LayoutResult.done.code ∧
    (d.switchLayout r).get F.CMP_EVENTS_SWITCH_DONE = 1 ∧ (d.switchLayout r).get F.CMP_LAYOUT_STATUS_VALID = 1 ∧
    (d.switchLayout r).get F.CMP_LAYOUT_STATUS_CURRENT = r.index ∧
    ∀ o, o < 32 → ((d.switchLayout r).get F.CMP_OUT_STATE_PRESENT o = 1 ↔ ∃ q ∈ r.layout.outs, q.out = o) := by
  rw [switchLayout_eq]
  have moved := Device.moveOuts_layout ({ d with layout := some r.layout } : Device) (match d.layout with | some l => l.outs | none => []) r.layout.outs
  generalize ({ d with layout := some r.layout } : Device).moveOuts (match d.layout with | some l => l.outs | none => []) r.layout.outs = a at moved ⊢
  obtain ⟨⟨g, hg⟩, shown⟩ := a.showPresent_shows r.layout.outs 32
  have layout : (a.showPresent r.layout.outs 32).layout = some r.layout := by rw [hg]; exact moved
  generalize a.showPresent r.layout.outs 32 = b at shown layout ⊢
  obtain ⟨k, hk⟩ := b.dropUnreferenced_only
  obtain ⟨c, hc⟩ : ∃ c, c = b.dropUnreferenced := ⟨_, rfl⟩
  have cget (i : Nat) : c.get F.CMP_OUT_STATE_PRESENT i = b.get F.CMP_OUT_STATE_PRESENT i := by rw [hc, hk]; rfl
  have clayout : c.layout = some r.layout := by rw [hc, hk]; exact layout
  rw [← hc]
  clear hk hc
  have ended := Device.endRequest_ended ((c.put F.CMP_LAYOUT_STATUS_VALID 0 1).put F.CMP_LAYOUT_STATUS_CURRENT 0 r.index) .done
  refine ⟨ended.layout.trans clayout, ended.request, ended.result, ended.done rfl, ?_, ?_, fun o ho => ?_⟩
  · exact (ended.kept.1 _ _ (by decide)).trans ((get_put_ne _ _ _ _ _ _ (by decide)).trans ((get_put_same ..).trans rfl))
  · exact (ended.kept.1 _ _ (by decide)).trans ((get_put_same ..).trans (Nat.mod_eq_of_lt hr))
  · rw [ended.kept.1 _ _ (by decide), get_put_ne _ _ _ _ _ _ (by decide), get_put_ne _ _ _ _ _ _ (by decide), cget, shown o ho]
    have present : (r.layout.outs.find? (fun q => decide (q.out = o))).isSome = true ↔ ∃ q ∈ r.layout.outs, q.out = o := by
      rw [List.find?_isSome]
      simp
    rw [← present]
    split
    · next h => exact ⟨fun _ => h, fun _ => rfl⟩
    · next h => exact ⟨fun e => absurd e (by decide), fun e => absurd e h⟩

/-! ### Tiles that leave the spill region -/

theorem foldl_add_init {α : Type} (f : α → Nat) (l : List α) (a b : Nat) : l.foldl (fun t x => t + f x) (a + b) = l.foldl (fun t x => t + f x) a + b := by
  induction l generalizing a with
  | nil => rfl
  | cons x l ih => rw [List.foldl_cons, List.foldl_cons, ← ih, Nat.add_right_comm]

/-- The first spilled tile of a stack. -/
def spilledTile (t : MoorStore) : Option (List Nat × List Px) :=
  match t with
  | .spill b px => some (b, px)
  | _ => none

/-- The first spilled tile takes as many cache blocks as it gives back. -/
theorem moveTile_moves {l : List MoorStore} {bs : List Nat} {px : List Px} (h : l.findSome? spilledTile = some (bs, px)) (new : List Px) :
    (∀ a, (moveTile new l).foldl (fun t x => t + x.cacheBlocks) a = l.foldl (fun t x => t + x.cacheBlocks) a + bs.length) ∧
    l.flatMap MoorStore.spillBlocks = bs ++ (moveTile new l).flatMap MoorStore.spillBlocks := by
  have kept (t : MoorStore) (l : List MoorStore) (hm : moveTile new (t :: l) = t :: moveTile new l) (hs : t.spillBlocks = [])
      (ih : (∀ a, (moveTile new l).foldl (fun t x => t + x.cacheBlocks) a = l.foldl (fun t x => t + x.cacheBlocks) a + bs.length) ∧
        l.flatMap MoorStore.spillBlocks = bs ++ (moveTile new l).flatMap MoorStore.spillBlocks) :
      (∀ a, (moveTile new (t :: l)).foldl (fun t x => t + x.cacheBlocks) a = (t :: l).foldl (fun t x => t + x.cacheBlocks) a + bs.length) ∧
        (t :: l).flatMap MoorStore.spillBlocks = bs ++ (moveTile new (t :: l)).flatMap MoorStore.spillBlocks := by
    rw [hm, List.flatMap_cons, List.flatMap_cons, hs]
    exact ⟨fun a => ih.1 _, ih.2⟩
  induction l with
  | nil => simp at h
  | cons t l ih =>
    cases t with
    | spill b px' =>
      have this : some (b, px') = some (bs, px) := h
      obtain ⟨rfl, rfl⟩ : b = bs ∧ px' = px := by simpa using this
      exact ⟨fun a => foldl_add_init MoorStore.cacheBlocks l a b.length, rfl⟩
    | empty => exact kept _ _ rfl rfl (ih h)
    | solid p => exact kept _ _ rfl rfl (ih h)
    | cache n p => exact kept _ _ rfl rfl (ih h)

/-- A stack without a spilled tile has no spill blocks. -/
theorem spillBlocks_of_none {l : List MoorStore} (h : l.findSome? spilledTile = none) : l.flatMap MoorStore.spillBlocks = [] := by
  rw [List.flatMap_eq_nil_iff]
  intro t ht
  have := List.findSome?_eq_none_iff.mp h t ht
  cases t with
  | spill b px => simp [spilledTile] at this
  | empty => rfl
  | solid p => rfl
  | cache n p => rfl

theorem moveStack_moves {l : List MoorStack} {bs : List Nat} {px : List Px} (h : firstSpill l = some (bs, px)) (hbs : bs ≠ []) (new : List Px) :
    (∀ a, (moveStack new l).foldl (fun t s => t + s.cacheUsed) a = l.foldl (fun t s => t + s.cacheUsed) a + bs.length) ∧
    stacksSpill l = bs ++ stacksSpill (moveStack new l) := by
  have first : l.findSome? (fun s => s.tiles.findSome? spilledTile) = some (bs, px) := h
  clear h
  induction l with
  | nil => simp at first
  | cons s l ih =>
    rw [List.findSome?_cons] at first
    cases hs : s.tiles.findSome? spilledTile with
    | none =>
      rw [hs] at first
      obtain ⟨cache, spill⟩ := ih first
      have none_ := spillBlocks_of_none hs
      have moved : moveStack new (s :: l) = s :: moveStack new l := if_pos (by rw [none_]; rfl)
      rw [moved]
      refine ⟨fun a => cache _, ?_⟩
      unfold stacksSpill at spill ⊢
      rw [List.flatMap_cons, List.flatMap_cons, none_]
      exact spill
    | some q =>
      rw [hs] at first
      obtain rfl : q = (bs, px) := Option.some.inj first
      obtain ⟨cache, spill⟩ := moveTile_moves hs new
      have moved : moveStack new (s :: l) = { s with tiles := moveTile new s.tiles } :: l := if_neg (by rw [spill]; simp [hbs])
      rw [moved]
      refine ⟨fun a => ?_, ?_⟩
      · have used : ({ s with tiles := moveTile new s.tiles } : MoorStack).cacheUsed = s.cacheUsed + bs.length := cache 0
        rw [List.foldl_cons, List.foldl_cons, used, ← Nat.add_assoc, foldl_add_init]
      · unfold stacksSpill
        rw [List.flatMap_cons, List.flatMap_cons, spill, List.append_assoc]

/-- Settles O26: the edge for each kind of request, and the tile that leaves the spill region. -/
theorem switchEdgesPutTheLayoutInForce : Obligations.SwitchEdgesPutTheLayoutInForce := by
  unfold Obligations.SwitchEdgesPutTheLayoutInForce
  refine ⟨fun d r t hr => ?_, fun s bs px => ?_, fun d l m hl hm => ?_⟩
  · dsimp only
    refine ⟨fun hsame hprep hat hmirror hi => ?_, fun hsame hprep hcancel => ?_, fun hsame => ?_⟩
    · have edge : d.layoutEdge t = d.switchLayout r := by
        unfold Device.layoutEdge
        simp only [hr]
        rw [if_neg (by simp [hsame]), if_pos (by rcases hat with h | h <;> simp [hprep, hmirror, h])]
      rw [edge]
      exact d.switchLayout_switches r hi
    · have edge : d.layoutEdge t = d.endRequest .cancelled := by
        unfold Device.layoutEdge
        simp only [hr]
        rw [if_neg (by simp [hsame]), if_neg (by simp [hprep]), if_pos hcancel]
      rw [edge]
      have ended := d.endRequest_ended .cancelled
      exact ⟨ended.layout, ended.request, ended.result⟩
    · have edge : d.layoutEdge t = d.endRequest .done := by
        unfold Device.layoutEdge
        simp only [hr]
        rw [if_pos hsame]
      rw [edge]
      have ended := d.endRequest_ended .done
      exact ⟨ended.layout, ended.request, ended.result⟩
  · dsimp only
    intro hfirst hbs hroom
    obtain ⟨new, hnew⟩ : ∃ new, new = s.chip.dev.quiet.spillPixels s.chip.mem.dram bs px := ⟨_, rfl⟩
    have ran : s.chip.dev.quiet.moorMove s.chip.mem =
        { s.chip.dev.quiet with tick := { s.chip.dev.tick with moving := some (moveStack new (s.chip.dev.tick.moving.getD s.chip.dev.stacksNow)) } } := by
      have first : firstSpill (s.chip.dev.quiet.tick.moving.getD s.chip.dev.quiet.stacksNow) = some (bs, px) := hfirst
      have room : s.chip.dev.quiet.moorCacheUsed + bs.length ≤ 65536 := hroom
      unfold Device.moorMove
      simp only [first]
      rw [if_pos room, hnew]
      rfl
    obtain ⟨t, ht, hm, hd⟩ := onDev_next (f := fun d => d.moorMove s.chip.mem) (c := .moorSpillMoveComplete) rfl ran
    obtain ⟨cache, spill⟩ := moveStack_moves hfirst hbs new
    exact ⟨t, _, ht, hm, hd, cache 0, by rw [spill, List.drop_left]⟩
  · unfold Device.movesEdge
    simp only [hm, hl, Option.map_some]
    exact ⟨trivial, trivial⟩

end Sys2Proof.Machine
end

section
/-!
SUPPORT. Composed tiles and the pager: O22.
-/

namespace Sys2Proof.Machine

/-! ### Tiles -/

/-- From `d` to `e` a tile was counted and its ratios noted. -/
def ratioFields : List Fld := [F.PIX_EVENTS_RATIO, F.PIX_RATIO_CNT_COUNT]

/-- From `d` to `e` nothing but counters, events and the tick moved. -/
structure Device.TileFrame (d e : Device) : Prop where
  kept : d.keeps e (but ratioFields)
  outs : e.outs = d.outs

namespace Device.TileFrame

theorem refl (d : Device) : d.TileFrame d := ⟨d.keeps_refl _, rfl⟩

theorem trans {d e f : Device} (h : d.TileFrame e) (k : e.TileFrame f) : d.TileFrame f := ⟨Device.keeps_trans h.kept k.kept, k.outs.trans h.outs⟩

theorem countTile (d : Device) (ev unit n o tile : Nat) (pipe : Option Nat) : d.TileFrame (d.countTile ev unit n o tile pipe) := by
  obtain ⟨p, only⟩ := d.countTile_only ev unit n o tile pipe
  rw [only]
  exact ⟨Device.keeps_of_regs rfl _, rfl⟩

theorem forL {β : Type} {f : β → Device → Device} (hf : ∀ b (d : Device), d.TileFrame (f b d)) (l : List β) (d : Device) : d.TileFrame (Machine.forL l f d) := by
  induction l generalizing d with
  | nil => exact refl d
  | cons b l ih => exact (hf b d).trans (ih _)

theorem noted (d : Device) (k : Tick) (source : Nat) :
    d.TileFrame ((({ d with tick := k } : Device).raise F.PIX_EVENTS_RATIO source).bump F.PIX_RATIO_CNT_COUNT 0 1) := by
  refine ⟨Device.keeps_trans (Device.keeps_trans (Device.keeps_of_regs rfl _) (Device.keeps_raise { d with tick := k } _ _ (by simp [ratioFields])))
    (Device.keeps_put _ _ _ _ (but_apart (by simp [ratioFields]))), ?_⟩
  exact (Device.raise_outs ..).trans rfl

theorem ratioNote (d : Device) (r : OutRec) (ids : List (Nat × Nat)) : d.TileFrame (d.ratioNote r ids) := by
  unfold Device.ratioNote
  dsimp only
  generalize gangLead r.shape r.out = lead
  refine forL (fun q d => ?_) ids d
  split
  · exact refl d
  · exact noted d _ q.2

theorem berthAddr {d e : Device} (h : d.TileFrame e) (n : Nat) : e.berthAddr n = d.berthAddr n := by
  have get {f : Fld} (hf : but ratioFields f = true) (i : Nat) : e.get f i = d.get f i := h.kept.1 f i hf
  have first (c : Nat) : e.poolFirst c = d.poolFirst c := by simp (disch := decide) only [Device.poolFirst, poolCount, get]
  have cls (n : Nat) : e.classOf n = d.classOf n := by simp only [Device.classOf, first]
  simp (disch := decide) only [Device.berthAddr, poolBase, addr40, poolSize, get, cls, first]

end Device.TileFrame

/-! ### A tile that is composed -/

/-- The record of a composed tile. -/
def Device.tileRecord (d : Device) (m : Memory) (l : Layout) (r : OutRec) (tile : Nat) : TileRec :=
  ⟨BitVec.ofNat 32 (crc32c (d.tileLines m d.tables l r tile).flatten), d.tileStale (contributors d.tables.desc l.outs r tile), false,
    d.tileAge (contributors d.tables.desc l.outs r tile) d.tick.num⟩

/-- A composed tile stands in its berth and its record in its output. -/
theorem Chip.composeTile_composes (c : Chip) (l : Layout) (r : OutRec) (n tile pipe : Nat) (keys : List (Nat × Nat)) :
    (c.composeTile l r n tile pipe keys).dev.outs =
      Tab.set c.dev.outs r.out { c.dev.outp r.out with tiles := Tab.set (c.dev.outp r.out).tiles tile (c.dev.tileRecord c.mem l r tile) } ∧
    (c.composeTile l r n tile pipe keys).mem =
      { c.mem with dram := writeLines c.mem.dram (r.tileAddr (c.dev.berthAddr n) tile) (fmtStride r.format r.width) (c.dev.tileLines c.mem c.dev.tables l r tile) } := by
  obtain ⟨a, ha⟩ : ∃ a, a = ({ ((c.dev.setOut r.out { c.dev.outp r.out with tiles := Tab.set (c.dev.outp r.out).tiles tile (c.dev.tileRecord c.mem l r tile) }).workDone
      r.out tile) with tick := keys.foldl Tick.touch ((c.dev.setOut r.out { c.dev.outp r.out with
        tiles := Tab.set (c.dev.outp r.out).tiles tile (c.dev.tileRecord c.mem l r tile) }).workDone r.out tile).tick } : Device) := ⟨_, rfl⟩
  obtain ⟨ids, n1, n2, hc⟩ : ∃ ids n1 n2, c.composeTile l r n tile pipe keys =
      let e := ((((a.ratioNote r ids).countTile 0x03 pipe 1 r.out tile (some pipe)).countTile 0x07 pipe n1 r.out tile (some pipe)).countTile 0x08 pipe n2 r.out tile (some pipe))
      ⟨{ c.mem with dram := writeLines c.mem.dram (r.tileAddr (e.berthAddr n) tile) (fmtStride r.format r.width) (c.dev.tileLines c.mem c.dev.tables l r tile) }, e⟩ :=
    ⟨_, _, _, by rw [ha]; rfl⟩
  have frame : a.TileFrame ((((a.ratioNote r ids).countTile 0x03 pipe 1 r.out tile (some pipe)).countTile 0x07 pipe n1 r.out tile (some pipe)).countTile 0x08 pipe n2
      r.out tile (some pipe)) :=
    (Device.TileFrame.ratioNote a r ids).trans ((Device.TileFrame.countTile ..).trans ((Device.TileFrame.countTile ..).trans (Device.TileFrame.countTile ..)))
  have addr : a.berthAddr n = c.dev.berthAddr n := Device.berthAddr_of_get (fun f i => by rw [ha]; rfl) n
  rw [hc]
  dsimp only
  rw [frame.berthAddr, addr, frame.outs, ha]
  exact ⟨rfl, rfl⟩

section Blend

variable {s : State} {o tile pipe n : Nat} {l : Layout} {r : OutRec} (hl : s.chip.dev.layout = some l)
  (hr : l.outs.find? (fun q => decide (q.out = o)) = some r) (hn : (s.chip.dev.outp o).berth = some n) (hin : s.chip.dev.tick.inTick = true)
  (hpub : s.chip.dev.tick.published = true) (hseal : s.chip.dev.tick.sealRan = false) (hhand : s.chip.dev.inHand o tile = true)
include hl hr hn hin hpub hseal hhand

/-- The cases of a tile that a pipe has in hand. -/
theorem tileBlend_cases : ∃ t, exec (.tileBlendComplete o tile pipe) s = .next t ∧
    ((s.chip.dev.tileKeys s.chip.mem l r tile).all s.chip.dev.cached = true → (s.chip.dev.tileKeys s.chip.mem l r tile).any s.chip.dev.badEntry = false →
      s.chip.dev.tileCorrupt l r tile = false → (o, tile) ∉ s.chip.dev.tick.abandoned →
      t.chip = s.chip.quiet.composeTile l r n tile pipe (s.chip.dev.tileKeys s.chip.mem l r tile)) ∧
    ((s.chip.dev.tileKeys s.chip.mem l r tile).all s.chip.dev.cached = false → t.chip.mem = s.chip.mem ∧ t.chip.dev.regs = s.chip.dev.regs ∧
      t.chip.dev.outs = s.chip.dev.outs ∧ (o, tile, pipe) ∈ t.chip.dev.tick.stalled) := by
  obtain ⟨keys, hkeys⟩ : ∃ keys, keys = s.chip.dev.tileKeys s.chip.mem l r tile := ⟨_, rfl⟩
  rw [← hkeys]
  have quietKeys : s.chip.quiet.dev.tileKeys s.chip.quiet.mem l r tile = keys := by rw [hkeys]; rfl
  have ran : s.chip.quiet.tileBlend o tile pipe =
      if !(keys.filter (fun k => !s.chip.dev.cached k)).isEmpty then
        let d := forL (keys.filter (fun k => !s.chip.dev.cached k)).dedup (fun k (d : Device) => d.countTile 0x05 k.1 1 o tile (some pipe)) (s.chip.dev.quiet.workDone o tile)
        ⟨s.chip.mem, { d with tick := { d.tick with stalled := d.tick.stalled ++ [(o, tile, pipe)] } }⟩
      else if keys.any s.chip.dev.badEntry || s.chip.dev.tileCorrupt l r tile || decide ((o, tile) ∈ s.chip.dev.tick.abandoned) then
        ⟨s.chip.mem, s.chip.dev.quiet.workDone o tile⟩
      else s.chip.quiet.composeTile l r n tile pipe keys := by
    have layout : s.chip.quiet.dev.layout = some l := hl
    have berth : (s.chip.quiet.dev.outp o).berth = some n := hn
    have tick : s.chip.quiet.dev.tick = s.chip.dev.tick := rfl
    have inTick : s.chip.quiet.dev.inTick = true := hin
    have hand : s.chip.quiet.dev.inHand o tile = true := hhand
    have cached : s.chip.quiet.dev.cached = s.chip.dev.cached := rfl
    have bad : s.chip.quiet.dev.badEntry = s.chip.dev.badEntry := rfl
    have corrupt : s.chip.quiet.dev.tileCorrupt l r tile = s.chip.dev.tileCorrupt l r tile := rfl
    unfold Chip.tileBlend
    simp only [layout, hr, berth, inTick, tick, hpub, hseal, hand, quietKeys, cached, bad, corrupt, Bool.not_true, Bool.or_self, Bool.false_eq_true, if_false]
    rfl
  refine ⟨{ s with chip := s.chip.quiet.tileBlend o tile pipe }, rfl, fun hall hbad hcorrupt hab => ?_, fun hmiss => ?_⟩
  · have none_ : (keys.filter (fun k => !s.chip.dev.cached k)).isEmpty = true := by
      rw [List.isEmpty_iff, List.filter_eq_nil_iff]
      intro k hk
      simp [List.all_eq_true.mp hall k hk]
    rw [ran, if_neg (by simp [none_]), if_neg (by simp [hbad, hcorrupt, hab])]
  · have some_ : (keys.filter (fun k => !s.chip.dev.cached k)).isEmpty = false := by
      rw [← Bool.not_eq_true, List.isEmpty_iff, List.filter_eq_nil_iff]
      intro h
      obtain ⟨k, hk, hc⟩ := List.all_eq_false.mp hmiss
      exact h k hk (by simpa using hc)
    obtain ⟨p, hp⟩ := Device.forL_perf (fun k (d : Device) => d.countTile 0x05 k.1 1 o tile (some pipe)) (fun k d => d.countTile_only ..)
      (keys.filter (fun k => !s.chip.dev.cached k)).dedup (s.chip.dev.quiet.workDone o tile)
    rw [ran, if_pos (by simp [some_]), hp]
    exact ⟨rfl, rfl, rfl, by simp⟩

end Blend

/-! ### The pager -/

/-- An entry for which there is room is put into its cache. -/
theorem Device.fill_room {d : Device} {cache size : Nat} (h : d.tick.heldSize cache + size ≤ cacheCap cache) (i : Nat) (put : Tick → Tick) :
    d.fill cache i size put = { d with tick := (put d.tick).touch (cache, i) } := by
  have none_ : d.evict cache size = d := by
    unfold evict
    have all (l : List (Nat × Nat)) : forL l (fun e (d : Device) =>
        if d.tick.heldSize cache + size ≤ cacheCap cache || d.pinnedEntry e then d else { d with tick := d.tick.drop e }) d = d := by
      induction l with
      | nil => rfl
      | cons e l ih => rw [forL_cons, if_pos (by simp [h]), ih]
    exact all _
  unfold fill
  dsimp only
  rw [none_, if_pos h]

/-- The events of the pager. -/
def pagerFields : List Fld := [F.CMP_EVENTS_DESC_CHECK, F.PIX_EVENTS_LUT_CHECK]

/-- An entry that cannot be used is told. -/
theorem Device.told_frame (d : Device) {f : Fld} (hf : f ∈ pagerFields) (b : Bool) (i : Nat) :
    d.keeps (if b then d.raise f i else d) (but pagerFields) ∧ (if b then d.raise f i else d).tick = d.tick := by
  cases b with
  | false => exact ⟨d.keeps_refl _, rfl⟩
  | true => exact ⟨d.keeps_raise f i hf, d.raise_tick f i⟩

/-- What an entry takes of its cache (R37). -/
def Device.entrySize (d : Device) (m : Memory) (cache i : Nat) : Option Nat := if cache = 3 then (d.staleImage m i).map Pic.granules else some 1

/-- There is room for an entry. -/
def Device.entryFits (d : Device) (m : Memory) (cache i : Nat) : Prop := ∃ n, d.entrySize m cache i = some n ∧ d.tick.heldSize cache + n ≤ cacheCap cache

/-- The entries a cache holds depend on the tick alone. -/
theorem Device.cached_of_tick {d e : Device} (h : e.tick = d.tick) (k : Nat × Nat) : e.cached k = d.cached k := by
  unfold cached
  rw [h]

/-- An entry is filled, and told where it cannot be used. -/
theorem Device.fill_told {d : Device} {cache i size : Nat} {put : Tick → Tick} {f : Fld} (hf : f ∈ pagerFields)
    (hput : ∀ x : Device, x.tick = (put d.tick).touch (cache, i) → x.cached (cache, i) = true) (b : Bool) :
    d.keeps (if b then (d.fill cache i size put).raise f i else d.fill cache i size put) (but pagerFields) ∧
    (d.tick.heldSize cache + size ≤ cacheCap cache → (if b then (d.fill cache i size put).raise f i else d.fill cache i size put).cached (cache, i) = true) := by
  obtain ⟨kept, tick⟩ := (d.fill cache i size put).told_frame hf b i
  obtain ⟨k, hk⟩ := Device.TickOnly.fill d cache i size put
  refine ⟨Device.keeps_trans (Device.keeps_of_regs (by rw [hk]) _) kept, fun h => ?_⟩
  rw [Device.cached_of_tick tick]
  exact hput _ (by rw [Device.fill_room h])

/-- What the pager's fetch of an entry does. -/
def Device.PagerFills (d : Device) (m : Memory) (cache i : Nat) : Prop :=
  d.keeps (d.pagerFill m cache i) (but pagerFields) ∧ (d.cached (cache, i) = true ∨ d.entryFits m cache i → (d.pagerFill m cache i).cached (cache, i) = true)

theorem Device.pagerFills_of {d : Device} {m : Memory} {cache i size : Nat} {put : Tick → Tick} {f : Fld} {b : Bool} (hin : ¬ d.cached (cache, i) = true)
    (hsize : d.entrySize m cache i = some size) (hf : f ∈ pagerFields)
    (hfill : d.pagerFill m cache i = if b then (d.fill cache i size put).raise f i else d.fill cache i size put)
    (hput : ∀ x : Device, x.tick = (put d.tick).touch (cache, i) → x.cached (cache, i) = true) : d.PagerFills m cache i := by
  obtain ⟨kept, room⟩ := d.fill_told hf hput b
  unfold PagerFills
  rw [hfill]
  refine ⟨kept, fun h => room ?_⟩
  obtain ⟨n, hn, fits⟩ := h.resolve_left hin
  obtain rfl : size = n := Option.some.inj (hsize.symm.trans hn)
  exact fits

theorem Device.pagerFill_fills (d : Device) (m : Memory) {cache : Nat} (hc : cache < 4) (i : Nat) : d.PagerFills m cache i := by
  by_cases hin : d.cached (cache, i) = true
  · have same : d.pagerFill m cache i = d := if_pos hin
    unfold PagerFills
    rw [same]
    exact ⟨d.keeps_refl _, fun _ => hin⟩
  · have found {α : Type} (l : Tab Nat α) (x : α) : (Tab.find (Tab.set l i x) i).isSome = true := by rw [Tab.find_set_same]; rfl
    obtain rfl | rfl | rfl | rfl : cache = 0 ∨ cache = 1 ∨ cache = 2 ∨ cache = 3 := by omega
    · obtain ⟨x, hx⟩ : ∃ x, x = fetchDesc m (d.descTable + 256 * i) := ⟨_, rfl⟩
      refine pagerFills_of (f := F.CMP_EVENTS_DESC_CHECK) (put := fun k => { k with descs := Tab.set k.descs i x }) (size := 1)
        (b := x.isNone && (d.fillDesc i x).layout.isSome) hin rfl (by simp [pagerFields]) ?_ (fun y hy => ?_)
      · rw [hx]
        exact if_neg hin
      · unfold cached
        rw [hy]
        exact found ..
    · obtain ⟨x, hx⟩ : ∃ x, x = fetchLut m (d.lutTable + 8192 * i) := ⟨_, rfl⟩
      refine pagerFills_of (f := F.PIX_EVENTS_LUT_CHECK) (put := fun k => { k with luts := Tab.set k.luts i x }) (size := 1)
        (b := x.isNone && (d.fillLut i x).layout.isSome) hin rfl (by simp [pagerFields]) ?_ (fun y hy => ?_)
      · rw [hx]
        exact if_neg hin
      · unfold cached
        rw [hy]
        exact found ..
    · obtain ⟨x, hx⟩ : ∃ x, x = fetchCoef m (d.coefTable + 1024 * i) := ⟨_, rfl⟩
      refine pagerFills_of (f := F.CMP_EVENTS_DESC_CHECK) (put := fun k => { k with coefs := Tab.set k.coefs i x }) (size := 1)
        (b := x.isNone && (d.fillCoef i x).layout.isSome) hin rfl (by simp [pagerFields]) ?_ (fun y hy => ?_)
      · rw [hx]
        exact if_neg hin
      · unfold cached
        rw [hy]
        exact found ..
    · have fill : d.pagerFill m 3 i = match d.staleImage m i with
          | some p => (if (fetchImage m p).isNone && (d.fillImage i p (fetchImage m p)).layout.isSome
              then (d.fillImage i p (fetchImage m p)).raise F.CMP_EVENTS_DESC_CHECK i else d.fillImage i p (fetchImage m p))
          | none => d := if_neg hin
      have size : d.entrySize m 3 i = (d.staleImage m i).map Pic.granules := rfl
      cases himg : d.staleImage m i with
      | none =>
        rw [himg] at fill size
        unfold PagerFills
        rw [fill]
        refine ⟨d.keeps_refl _, fun h => ?_⟩
        obtain ⟨n, hn, -⟩ := h.resolve_left hin
        rw [size] at hn
        exact absurd hn (by simp)
      | some p =>
        rw [himg] at fill size
        obtain ⟨x, hx⟩ : ∃ x, x = fetchImage m p := ⟨_, rfl⟩
        refine pagerFills_of (f := F.CMP_EVENTS_DESC_CHECK) (put := fun k => { k with marks := Tab.set k.marks i x }) (size := p.granules)
          (b := x.isNone && (d.fillImage i p x).layout.isSome) hin size (by simp [pagerFields]) ?_ (fun y hy => ?_)
        · rw [hx]
          exact fill
        · unfold cached
          rw [hy]
          exact found ..

theorem pagerFetch_fetches (s : State) {cache : Nat} (hc : cache < 4) (i : Nat) : ∃ t, exec (.pagerFetchComplete cache i) s = .next t ∧ t.chip.mem = s.chip.mem ∧
    (s.chip.dev.cached (cache, i) = true ∨ s.chip.dev.entryFits s.chip.mem cache i → t.chip.dev.cached (cache, i) = true) ∧
    s.chip.dev.keeps t.chip.dev (but pagerFields) := by
  obtain ⟨kept, filled⟩ := s.chip.dev.quiet.pagerFill_fills s.chip.mem hc i
  obtain ⟨e, he⟩ : ∃ e, e = s.chip.dev.quiet.pagerFill s.chip.mem cache i := ⟨_, rfl⟩
  rw [← he] at kept filled
  obtain ⟨work, waits, ran⟩ : ∃ work stalled, s.chip.dev.quiet.pagerFetch s.chip.mem cache i = { e with tick := { e.tick with stalled := stalled, work := work } } := by
    unfold Device.pagerFetch
    dsimp only
    rw [← he]
    split
    · exact ⟨_, _, rfl⟩
    · exact ⟨e.tick.work, e.tick.stalled, rfl⟩
  obtain ⟨t, ht, hm, hd⟩ := onDev_next (f := fun d => d.pagerFetch s.chip.mem cache i) (c := .pagerFetchComplete cache i) rfl ran
  have same (k : Nat × Nat) : t.chip.dev.cached k = e.cached k := by rw [hd]; rfl
  have regs : t.chip.dev.regs = e.regs := by rw [hd]
  refine ⟨t, ht, hm, fun h => ?_, Device.keeps_trans (Device.keeps_trans (Device.keeps_of_regs rfl _) kept) (Device.keeps_of_regs regs _)⟩
  rw [same]
  exact filled h

theorem pageFlush_kept {s : State} {slot : Nat} (hs : slot < 8) (ha : s.chip.admits slot R.TICK_PAGE_FLUSH 0 1 = true) :
    ∃ t, exec (.tickPageFlush slot) s = .next t ∧ t.chip.mem = s.chip.mem ∧ t.chip.dev.regs = s.chip.dev.regs ∧
      t.chip.dev.tick = { s.chip.dev.tick with flush := true } := by
  have effect : s.chip.quiet.writeEffect slot R.TICK_PAGE_FLUSH 0 1 s.chip.quiet.dev =
      ⟨s.chip.mem, { s.chip.dev.quiet with tick := { s.chip.dev.tick with flush := true } }⟩ := by
    have write : s.chip.dev.quiet.tickWrite R.TICK_PAGE_FLUSH 1 = { s.chip.dev.quiet with tick := { s.chip.dev.tick with flush := true } } := if_pos ⟨rfl, rfl⟩
    exact congrArg (Chip.mk s.chip.mem) write
  obtain ⟨t, p, ht, hm, hd⟩ := writeTo_effect (r := R.TICK_PAGE_FLUSH) (by decide) hs (by decide) rfl ha effect
  exact ⟨t, ht, hm, by rw [hd]; rfl, by rw [hd]; rfl⟩

/-- Settles O22: a composed tile, a tile that stalls, a fetch of the pager and the flush. -/
theorem tilesAreRecordedAsBlended : Obligations.TilesAreRecordedAsBlended := by
  unfold Obligations.TilesAreRecordedAsBlended
  refine ⟨fun s o tile pipe n l r => ?_, fun s cache i hc => pagerFetch_fetches s hc i, fun s slot hs ha => pageFlush_kept hs ha⟩
  intro d hl hr hn hin hpub hseal hhand keys lines stored
  obtain ⟨t, ht, composed, misses⟩ := tileBlend_cases (pipe := pipe) hl hr hn hin hpub hseal hhand
  refine ⟨fun hall hbad hcorrupt hab => ?_, fun hmiss => ?_⟩
  · obtain ⟨outs, mem⟩ := s.chip.quiet.composeTile_composes l r n tile pipe (s.chip.dev.tileKeys s.chip.mem l r tile)
    rw [← composed hall hbad hcorrupt hab] at outs mem
    obtain rfl : r.out = o := by simpa using List.find?_some hr
    have mine : t.chip.dev.outp r.out = { d.outp r.out with tiles := Tab.set (d.outp r.out).tiles tile (d.tileRecord s.chip.mem l r tile) } := by
      unfold Device.outp
      rw [outs]
      exact Tab.get_set_same ..
    refine ⟨t, d.tileRecord s.chip.mem l r tile, ht, ?_, rfl, rfl, rfl, rfl, fun j hj => ?_, fun p hp => ?_, mem⟩
    · rw [mine]
      exact Tab.find_set_same ..
    · rw [mine]
      exact (Tab.find_set ..).trans (if_neg (Ne.symm hj))
    · unfold Device.outp
      rw [outs]
      exact Tab.get_set_other _ _ _ (Ne.symm hp)
  · exact ⟨t, ht, misses hmiss⟩

end Sys2Proof.Machine
end

section
/-!
SUPPORT. The queues of the memory: O43.
-/

namespace Sys2Proof.Machine

/-! ### The queues of the memory -/

theorem Device.chan_setChan_same (d : Device) (c : Nat) (x : Channel) : (d.setChan c x).chan c = x := Tab.get_set_same ..

/-- A request that reaches its queue. -/
theorem Device.enqueue_queues (d : Device) (c : Nat) (r : MemReq) : ((d.enqueue c r).chan c).queue = (d.chan c).queue ++ [r] ∧
    ((d.enqueue c r).chan c).waiting = (d.chan c).waiting ∧ (d.enqueue c r).berths = d.berths := by
  have chan : (d.enqueue c r).chan c = { d.chan c with queue := (d.chan c).queue ++ [r] } := d.chan_setChan_same c _
  rw [chan]
  exact ⟨rfl, rfl, rfl⟩

/-- What a write to a berth notes. -/
def Device.noteWrite (d : Device) (write : Bool) (use : MemUse) : Device :=
  match use with
  | .berth n => if write && decide ((d.berth n).st = BerthSt.filling) then d.setBerth n { d.berth n with unacked := (d.berth n).unacked + 1 } else d
  | _ => d

theorem Device.noteWrite_notes (d : Device) (write : Bool) (use : MemUse) : (∃ b, d.noteWrite write use = { d with berths := b }) ∧
    ∀ n, use = .berth n → ((d.noteWrite write use).berth n).unacked =
      (d.berth n).unacked + (if write = true ∧ (d.berth n).st = .filling then 1 else 0) := by
  constructor
  · cases use with
    | berth n =>
      unfold noteWrite
      dsimp only
      split
      · exact ⟨_, rfl⟩
      · exact ⟨d.berths, rfl⟩
    | _ => exact ⟨d.berths, rfl⟩
  · rintro n rfl
    unfold noteWrite
    dsimp only
    by_cases h : write = true ∧ (d.berth n).st = .filling
    · rw [if_pos (by simpa using h), if_pos h]
      exact congrArg Berth.unacked (Tab.get_set_same ..)
    · rw [if_neg (by simpa using h), if_neg h]
      rfl

theorem memRequest_queued {s : State} {a : Nat} (hon : s.chip.dev.memOn = true) (ha : a < 2 ^ 35) (write : Bool) (off : Nat) (data : List Byte)
    (who : Requester) (use : MemUse) :
    let d := s.chip.dev
    let c := (d.translate (a / 32 * 32)).1
    let r : MemReq := ⟨a / 32 * 32, write, off % 32, data.take (32 - off % 32), who, use⟩
    ∃ t, exec (.memRequest a write off data who use) s = .next t ∧ t.chip.mem = s.chip.mem ∧
      (∀ n, use = .berth n → (t.chip.dev.berth n).unacked = (d.berth n).unacked + (if write = true ∧ (d.berth n).st = .filling then 1 else 0)) ∧
      (d.chanHeld c = false → (d.chan c).queue.length < 64 →
        (t.chip.dev.chan c).queue = (d.chan c).queue ++ [r] ∧ (t.chip.dev.chan c).waiting = (d.chan c).waiting) ∧
      (d.chanHeld c = true ∨ 64 ≤ (d.chan c).queue.length →
        (t.chip.dev.chan c).queue = (d.chan c).queue ∧ (t.chip.dev.chan c).waiting = (d.chan c).waiting ++ [r]) := by
  intro d c r
  obtain ⟨⟨b, hb⟩, unacked⟩ := d.quiet.noteWrite_notes write use
  obtain ⟨e, he⟩ : ∃ e, e = d.quiet.noteWrite write use := ⟨_, rfl⟩
  rw [← he] at hb unacked
  have chan : e.chan c = d.chan c := by rw [hb]; rfl
  have held : e.chanHeld c = d.chanHeld c := by rw [hb]; rfl
  have ran : d.quiet.memRequest a write off data who use =
      if d.chanHeld c || decide ((d.chan c).queue.length ≥ 64) then e.setChan c { d.chan c with waiting := (d.chan c).waiting ++ [r] } else e.enqueue c r := by
    have on : d.quiet.memOn = true := hon
    have low : a < dramEnd := ha
    have goes : (d.quiet.translate (a / 32 * 32)).1 = c := rfl
    rw [← held, ← chan, he]
    unfold Device.memRequest
    rw [if_pos (by simp [on, low])]
    dsimp only
    rw [goes]
    rfl
  obtain ⟨t, ht, hm, hd⟩ := onDev_next (f := Device.memRequest a write off data who use) (c := .memRequest a write off data who use) rfl ran
  refine ⟨t, ht, hm, fun n hn => ?_, fun hh hq => ?_, fun h => ?_⟩
  · rw [← (show d.quiet.berth n = d.berth n from rfl), ← unacked n hn, hd]
    split
    · rfl
    · exact congrArg (fun l : Tab Nat Berth => (Tab.get l Berth.empty n).unacked) (e.enqueue_queues c r).2.2
  · obtain ⟨queue, waits, -⟩ := e.enqueue_queues c r
    rw [hd, if_neg (by simp [hh]; omega), queue, waits, chan]
    exact ⟨rfl, rfl⟩
  · rw [hd, if_pos (by rcases h with h | h <;> simp [h]), Device.chan_setChan_same]
    exact ⟨rfl, rfl⟩

/-! ### Reads and writes that the memory serves -/

/-- A request that is served leaves its queue, and the queue is filled from the interconnect. -/
theorem Device.issue_serves (d : Device) (c : Nat) (r : MemReq) : ∃ x p, x.queue = (d.chan c).queue.erase r ∧ x.waiting = (d.chan c).waiting ∧
    d.issue c r = ({ d.setChan c x with perf := p } : Device).refill c := by
  have counted (e : Device) (hit : Bool) (n : Nat) : ∃ p, (if hit then e.count 0x10 c 1 else e.count 0x0F c 1).count n c 1 = { e with perf := p } := by
    cases hit with
    | true =>
      obtain ⟨p, hp⟩ := e.count_only 0x10 c 1
      obtain ⟨q, hq⟩ := (e.count 0x10 c 1).count_only n c 1
      exact ⟨q, by rw [if_pos rfl, hq, hp]⟩
    | false =>
      obtain ⟨p, hp⟩ := e.count_only 0x0F c 1
      obtain ⟨q, hq⟩ := (e.count 0x0F c 1).count_only n c 1
      exact ⟨q, by rw [if_neg Bool.false_ne_true, hq, hp]⟩
  unfold issue
  extract_lets hit place x q run more keep open' busy late e e'
  obtain ⟨p, hp⟩ := counted e hit (if r.write then 0x0E else 0x0D)
  have he' : e' = if hit then e.count 0x10 c 1 else e.count 0x0F c 1 := rfl
  rw [he', hp]
  exact ⟨{ x with queue := q, open_ := open', postponed := late }, p, rfl, rfl, rfl⟩

theorem Device.refill_keeps (d : Device) (c : Nat) : d.keeps (d.refill c) (but [F.MEM_CH_STATUS_PEAK]) ∧ ((d.chan c).waiting = [] → d.refill c = d) := by
  unfold refill
  cases (d.chan c).waiting with
  | nil => exact ⟨d.keeps_refl _, fun _ => rfl⟩
  | cons r rest =>
    refine ⟨?_, by simp⟩
    dsimp only
    split
    · exact d.keeps_refl _
    · exact Device.keeps_trans (Device.keeps_of_regs rfl _) (Device.keeps_put _ F.MEM_CH_STATUS_PEAK c _ (but_apart (by simp)))

theorem Device.keeps_issue (d : Device) (c : Nat) (r : MemReq) : d.keeps (d.issue c r) (but [F.MEM_CH_STATUS_PEAK]) := by
  obtain ⟨x, p, -, -, issue⟩ := d.issue_serves c r
  rw [issue]
  exact Device.keeps_trans (Device.keeps_of_regs rfl _) (Device.refill_keeps _ c).1

theorem Device.issue_queue {d : Device} {c : Nat} (hw : (d.chan c).waiting = []) (r : MemReq) : ((d.issue c r).chan c).queue = (d.chan c).queue.erase r := by
  obtain ⟨x, p, queue, waits, issue⟩ := d.issue_serves c r
  have chan : ({ d.setChan c x with perf := p } : Device).chan c = x := d.chan_setChan_same c x
  rw [issue, (Device.refill_keeps _ c).2 (by rw [chan, waits, hw]), chan, queue]

/-- A corrected error is counted and told. -/
theorem Device.correctable_counts (d : Device) (c : Nat) : (d.correctable c).get F.MEM_EVENTS_CE = 1 ∧
    (d.correctable c).get F.MEM_CE_CNT_COUNT = min (d.get F.MEM_CE_CNT_COUNT + 1) (2 ^ 32 - 1) ∧ (d.correctable c).chans = d.chans := by
  obtain ⟨e, he⟩ : ∃ e, e = (d.bump F.MEM_CE_CNT_COUNT 0 1).bump F.MEM_CH_CE_COUNT c 1 := ⟨_, rfl⟩
  obtain ⟨p, hp⟩ := e.count_only 0x11 c 1
  obtain ⟨f, hf⟩ : ∃ f, f = ({ e with perf := p, ceAt := Tab.upd e.ceAt 0 e.edges (· + 1) } : Device) := ⟨_, rfl⟩
  have counted : d.correctable c = f.raise F.MEM_EVENTS_CE := by
    unfold correctable
    dsimp only
    rw [← he, hp, hf]
  have raised := f.keeps_raise (l := [F.MEM_EVENTS_CE]) F.MEM_EVENTS_CE 0 (by simp)
  have shown : f.get F.MEM_CE_CNT_COUNT = min (d.get F.MEM_CE_CNT_COUNT + 1) (2 ^ 32 - 1) := by
    have same : f.get F.MEM_CE_CNT_COUNT = e.get F.MEM_CE_CNT_COUNT := by rw [hf]; rfl
    rw [same, he, bump, get_put_ne _ _ _ _ _ _ (by decide), bump, get_put_same]
    exact Nat.mod_eq_of_lt (Nat.lt_of_le_of_lt (Nat.min_le_right ..) (by decide))
  rw [counted]
  refine ⟨Device.get_raise_same _ _ _ (by decide), (raised.1 _ _ (by decide)).trans shown, ?_⟩
  rw [Device.raise_chans, hf, he]
  rfl

/-- A burst whose address is listed is poisoned. -/
theorem Memory.burstBad_iff {m : Memory} {a : Nat} (ha : a % 32 = 0) : m.burstBad a = true ↔ a ∈ m.poison := by
  have : a / 32 * 32 = a := by omega
  rw [burstBad, this, List.contains_iff_mem]

section Served

variable {s : State} {c bits : Nat} {r : MemReq} (hc : c < 32) (hr : s.chip.dev.nextReq c = some r) (hheld : s.chip.dev.chanHeld c = false)
include hc hr hheld

theorem memRead_responds (hw : r.write = false) (addrBits : Nat) : ∃ t, exec (.memReadResponse c bits addrBits) s = .next t ∧ t.chip.mem.dram = s.chip.mem.dram ∧
    (s.chip.mem.badRead r.addr bits addrBits = false → t.chip.mem = s.chip.mem ∧
      ((s.chip.dev.chan c).waiting = [] → (t.chip.dev.chan c).queue = (s.chip.dev.chan c).queue.erase r) ∧
      (bits = 1 → t.chip.dev.get F.MEM_EVENTS_CE = 1 ∧ t.chip.dev.get F.MEM_CE_CNT_COUNT = min (s.chip.dev.get F.MEM_CE_CNT_COUNT + 1) (2 ^ 32 - 1))) ∧
    (2 ≤ bits → r.addr % 32 = 0 → t.chip.mem.burstBad r.addr = true) := by
  obtain ⟨d, hd⟩ : ∃ d, d = s.chip.dev.quiet.issue c r := ⟨_, rfl⟩
  have ran : s.chip.quiet.memRead c bits addrBits = if s.chip.mem.badRead r.addr bits addrBits
      then ⟨{ s.chip.mem with poison := if bits ≥ 2 ∧ !s.chip.mem.burstBad r.addr then s.chip.mem.poison ++ [r.addr] else s.chip.mem.poison }, d.uncorrectable r⟩
      else ⟨s.chip.mem, if bits = 1 then d.correctable c else d⟩ := by
    have ch : c % 32 = c := Nat.mod_eq_of_lt hc
    have next : s.chip.quiet.dev.nextReq c = some r := hr
    have held : s.chip.quiet.dev.chanHeld c = false := hheld
    unfold Chip.memRead
    rw [ch]
    simp only [next]
    rw [if_neg (by simp [hw, held]), hd]
    rfl
  refine ⟨{ s with chip := s.chip.quiet.memRead c bits addrBits }, rfl, ?_, fun hgood => ?_, fun h2 hal => ?_⟩
  · rw [ran]
    split <;> rfl
  · rw [ran, hgood, if_neg Bool.false_ne_true]
    have kept : s.chip.dev.keeps d (but [F.MEM_CH_STATUS_PEAK]) := by
      rw [hd]
      exact Device.keeps_trans (Device.keeps_of_regs rfl _) (Device.keeps_issue _ c r)
    obtain ⟨event, count, chans⟩ := d.correctable_counts c
    rw [kept.1 _ _ (by decide)] at count
    refine ⟨rfl, fun hwait => ?_, fun h1 => ?_⟩
    · have queue : (d.chan c).queue = (s.chip.dev.chan c).queue.erase r := by
        rw [hd]
        exact Device.issue_queue (d := s.chip.dev.quiet) hwait r
      dsimp only
      split
      · exact (congrArg (fun l : Tab Nat Channel => (Tab.get l Channel.empty c).queue) chans).trans queue
      · exact queue
    · dsimp only
      rw [if_pos h1]
      exact ⟨event, count⟩
  · have bad : s.chip.mem.badRead r.addr bits addrBits = true := by simp [Memory.badRead, h2]
    rw [ran, bad, if_pos rfl]
    refine (Memory.burstBad_iff hal).mpr ?_
    dsimp only
    split
    · simp
    · next h =>
      have : s.chip.mem.burstBad r.addr = true := by simpa [h2] using h
      exact (Memory.burstBad_iff hal).mp this

theorem memWrite_acked (hw : r.write = true) (hwf : s.chip.mem.dram.wf = true) : ∃ t, exec (.memWriteAck c bits) s = .next t ∧
    (∀ k, (h : k < r.data.length) → Dram.read t.chip.mem.dram (r.addr + r.off + k) = r.data[k]) ∧
    (∀ x, x < r.addr + r.off ∨ r.addr + r.off + r.data.length ≤ x → Dram.read t.chip.mem.dram x = Dram.read s.chip.mem.dram x) ∧
    (r.data.length = 32 → r.addr % 32 = 0 → t.chip.mem.burstBad r.addr = false) := by
  obtain ⟨p, hp, ran⟩ : ∃ p, (r.data.length = 32 → p = s.chip.mem.poison.filter (· ≠ r.addr)) ∧
      (s.chip.quiet.memAck c bits).mem = { s.chip.mem with dram := Dram.writeList s.chip.mem.dram (r.addr + r.off) r.data, poison := p } := by
    have ch : c % 32 = c := Nat.mod_eq_of_lt hc
    have next : s.chip.quiet.dev.nextReq c = some r := hr
    have held : s.chip.quiet.dev.chanHeld c = false := hheld
    refine ⟨if (!decide (r.data.length = 32) && s.chip.mem.badRead r.addr bits 0) = true ∧ !s.chip.mem.burstBad r.addr then s.chip.mem.poison ++ [r.addr]
      else if decide (r.data.length = 32) then s.chip.mem.poison.filter (· ≠ r.addr) else s.chip.mem.poison, fun h => ?_, ?_⟩
    · rw [if_neg (by simp [h]), if_pos (by simp [h])]
    · unfold Chip.memAck
      rw [ch]
      simp only [next]
      rw [if_neg (by simp [hw, held])]
      rfl
  refine ⟨{ s with chip := s.chip.quiet.memAck c bits }, rfl, ?_⟩
  simp only [ran]
  refine ⟨fun k hk => Dram.read_writeList_inside hwf _ _ k hk, fun x hx => Dram.read_writeList_outside hwf _ _ x hx, fun h hal => ?_⟩
  rw [Bool.eq_false_iff]
  intro hbad
  have : r.addr ∈ p := (Memory.burstBad_iff hal).mp hbad
  rw [hp h] at this
  simp at this

end Served

/-- Settles O43: a request joins its queue or the line before it, a response and an acknowledgement serve the next one. -/
theorem memoryRequestsAreQueuedServedAndAcknowledged : Obligations.MemoryRequestsAreQueuedServedAndAcknowledged := by
  unfold Obligations.MemoryRequestsAreQueuedServedAndAcknowledged
  exact ⟨fun s a write off data who use hon ha => memRequest_queued hon ha write off data who use,
    fun s c bits addrBits r hc hr hw hheld => memRead_responds hc hr hheld hw addrBits,
    fun s c bits r hc hr hw hheld hwf => memWrite_acked hc hr hheld hw hwf⟩

end Sys2Proof.Machine
end

section
/-!
SUPPORT. TICK_OUT, triggers and captures: O42.
-/

namespace Sys2Proof.Machine

theorem Device.on_congr {d e : Device} (h : d.regs = e.regs) (f : Fld) (i : Nat) : d.on f i = e.on f i :=
  congrArg (fun n => decide (n ≠ 0)) (Device.get_congr h f i)

/-! ### TICK_OUT -/

section TickOut

variable (d : Device)

theorem Device.tickOf_mono {a b : Nat} (h : a ≤ b) : d.tickOf a ≤ d.tickOf b :=
  Nat.div_le_div_right (Nat.mul_le_mul_right _ h)

theorem le_roundUp (n m : Nat) (hm : 0 < m) : n ≤ (n + m - 1) / m * m := by
  have h := Nat.div_add_mod (n + m - 1) m
  have hlt := Nat.mod_lt (n + m - 1) hm
  rw [Nat.mul_comm] at h
  omega

/-- The tick at whose edge TICK_OUT goes active next. -/
def Device.pulseTick : Nat :=
  let m := d.get F.TIME_TICKOUT_CFG_DIVIDE + 1
  let t := d.tickOf (d.devNs + d.periodNs)
  let first := if d.edgeNs (d.tickOf d.devNs) = d.devNs ∧ d.time.pulsed ≠ some (d.tickOf d.devNs) then d.tickOf d.devNs
    else if d.edgeNs t ≤ d.devNs then t + 1 else t
  (first + m - 1) / m * m

theorem Device.pulseTick_multiple : d.pulseTick % (d.get F.TIME_TICKOUT_CFG_DIVIDE + 1) = 0 :=
  Nat.mul_mod_left _ _

theorem Device.le_pulseTick : d.tickOf d.devNs ≤ d.pulseTick := by
  refine Nat.le_trans ?_ (le_roundUp _ _ (Nat.succ_pos _))
  have later := d.tickOf_mono (Nat.le_add_right d.devNs d.periodNs)
  split_ifs <;> omega

theorem Device.tickOutStart_pulses (hen : d.on F.TIME_TICKOUT_CFG_EN = true) (hon : d.pd1On = true) (hp : d.time.pulse = none) :
    let e := d.tickOutStart
    let k := d.pulseTick
    e.regs = d.regs ∧ e.out = d.out ++ [.pulse 0] ∧ e.time.pulsed = some k ∧
    e.time.pulse = some (d.edgeNs k + min (d.get F.TIME_TICKOUT_CFG_WIDTH * 1000) (d.periodNs / 2)) := by
  have start : d.tickOutStart =
      let e := d.waitUntil (d.edgeNs d.pulseTick)
      ({ e with time := { e.time with
        pulse := some (e.edgeNs d.pulseTick + min (e.get F.TIME_TICKOUT_CFG_WIDTH * 1000) (e.periodNs / 2)),
        pulsed := some d.pulseTick } } : Device).emit (.pulse 0) := by
    unfold Device.tickOutStart
    rw [if_neg (by simp [hen, hon, hp])]
    rfl
  obtain ⟨a, b, c, p, waited⟩ := d.waitUntil_only (d.edgeNs d.pulseTick)
  rw [start, waited]
  exact ⟨rfl, rfl, rfl, rfl⟩

theorem Device.tickOutStart_disabled (hen : d.on F.TIME_TICKOUT_CFG_EN = false) : d.tickOutStart = d := by
  unfold Device.tickOutStart
  exact if_pos (by simp [hen])

theorem Device.tickOutEnd_ends {e : Nat} (h : d.time.pulse = some e) :
    d.tickOutEnd = { d.waitUntil e with time := { d.time with pulse := none } } := by
  unfold Device.tickOutEnd
  simp only [h, Device.waitUntil_time]

end TickOut

theorem tickOutPulse_follows (s : State) :
    let d := s.chip.dev
    let pol := d.on F.TIME_TICKOUT_CFG_POL
    (d.on F.TIME_TICKOUT_CFG_EN = false → ∃ t, exec .tickOutPulseStart s = .next t ∧ t.chip = s.chip.quiet) ∧
    (d.on F.TIME_TICKOUT_CFG_EN = true → d.pd1On = true → d.time.pulse = none →
      ∃ t k, exec .tickOutPulseStart s = .next t ∧ t.chip.mem = s.chip.mem ∧ t.chip.dev.regs = d.regs ∧ t.chip.dev.out = [.pulse 0] ∧
        k % (d.get F.TIME_TICKOUT_CFG_DIVIDE + 1) = 0 ∧ d.tickOf d.devNs ≤ k ∧ t.chip.dev.time.pulsed = some k ∧
        t.chip.dev.time.pulse = some (d.edgeNs k + min (d.get F.TIME_TICKOUT_CFG_WIDTH * 1000) (d.periodNs / 2)) ∧
        t.chip.dev.tickOutPin = !pol) ∧
    (∀ e, d.time.pulse = some e → ∃ t, exec .tickOutPulseEnd s = .next t ∧ t.chip.mem = s.chip.mem ∧ t.chip.dev.regs = d.regs ∧
      t.chip.dev.time.pulse = none ∧ t.chip.dev.out = [] ∧ t.chip.dev.tickOutPin = pol) := by
  refine ⟨fun hen => ?_, fun hen hon hp => ?_, fun e he => ?_⟩
  · obtain ⟨t, ht, hm, hd⟩ := onDev_next (s := s) (c := .tickOutPulseStart) (f := Device.tickOutStart) rfl
      (s.chip.dev.quiet.tickOutStart_disabled hen)
    exact ⟨t, ht, congrArg₂ Chip.mk hm hd⟩
  · obtain ⟨regs, sent, pulsed, pulse⟩ := s.chip.dev.quiet.tickOutStart_pulses hen hon hp
    obtain ⟨t, ht, hm, hd⟩ := onDev_next (s := s) (c := .tickOutPulseStart) (f := Device.tickOutStart) rfl rfl
    rw [← hd] at regs sent pulsed pulse
    refine ⟨t, _, ht, hm, regs, sent, s.chip.dev.quiet.pulseTick_multiple, s.chip.dev.quiet.le_pulseTick, pulsed, pulse, ?_⟩
    rw [Device.tickOutPin, pulse, Device.on_congr regs]
    exact Bool.true_xor _
  · obtain ⟨t, ht, hm, hd⟩ := onDev_next (s := s) (c := .tickOutPulseEnd) (f := Device.tickOutEnd) rfl (s.chip.dev.quiet.tickOutEnd_ends he)
    have regs : t.chip.dev.regs = s.chip.dev.regs := by rw [hd]; exact s.chip.dev.quiet.waitUntil_regs e
    refine ⟨t, ht, hm, regs, by rw [hd], by rw [hd]; exact s.chip.dev.quiet.waitUntil_out e, ?_⟩
    rw [Device.tickOutPin, Device.on_congr regs, hd]
    exact Bool.false_xor _

/-! ### Triggers -/

theorem gridAfter_spec (s p t : Nat) (hp : 0 < p) :
    s ≤ gridAfter s p t ∧ t ≤ gridAfter s p t ∧ (gridAfter s p t - s) % p = 0 ∧ (gridAfter s p t = s ∨ gridAfter s p t + 1 ≤ t + p) := by
  unfold gridAfter
  split
  case isTrue h => exact ⟨le_rfl, h, by simp, .inl rfl⟩
  case isFalse h =>
    have up := le_roundUp (t - s) p hp
    have le := Nat.div_mul_le_self (t - s + p - 1) p
    refine ⟨Nat.le_add_right _ _, by omega, ?_, .inr (by omega)⟩
    rw [Nat.add_sub_cancel_left]
    exact Nat.mul_mod_left _ _

theorem findReg_trig : ∀ k < 4, findReg (R.TIME_TRIG_CFG.base + R.TIME_TRIG_CFG.stride * k) = some (R.TIME_TRIG_CFG, k) := by decide +kernel

theorem findReg_capture : ∀ k < 4, findReg (R.TIME_CAP_NS.base + R.TIME_CAP_NS.stride * k) = some (R.TIME_CAP_NS, k) := by decide +kernel

section Triggers

variable (d : Device) (k : Nat)

@[simp] theorem Device.trig_setTrig (x : Trig) : (d.setTrig k x).trig k = x := Tab.get_set_same ..
@[simp] theorem Device.caps_setCaps (l : List Capture) : (d.setCaps k l).caps k = l := Tab.get_set_same ..

/-- What a trigger, its status fields and its missed event are the only things to change. -/
def Device.TrigOnly (e : Device) : Prop :=
  d.keeps e (but [F.TIME_TRIG_STATUS_MISSED, F.TIME_TRIG_STATUS_ACTIVE, F.TIME_EVENTS_TRIG_MISSED]) ∧ e.berths = d.berths ∧ e.out = d.out

theorem Device.TrigOnly.trans {d e f : Device} (h : d.TrigOnly e) (h' : e.TrigOnly f) : d.TrigOnly f :=
  ⟨Device.keeps_trans h.1 h'.1, h'.2.1.trans h.2.1, h'.2.2.trans h.2.2⟩

theorem Device.TrigOnly.setTrig (x : Trig) : d.TrigOnly (d.setTrig k x) := ⟨d.keeps_refl _, rfl, rfl⟩

theorem Device.TrigOnly.put {f : Fld} (hf : f ∈ [F.TIME_TRIG_STATUS_MISSED, F.TIME_TRIG_STATUS_ACTIVE, F.TIME_EVENTS_TRIG_MISSED]) (v : Nat) :
    d.TrigOnly (d.put f k v) :=
  ⟨d.keeps_put f k v (but_apart (List.mem_append_left _ hf)), rfl, rfl⟩

theorem Device.TrigOnly.missed : d.TrigOnly (d.trigMissed k) := by
  refine (Device.TrigOnly.put d k (f := F.TIME_TRIG_STATUS_MISSED) (by simp) 1).trans ?_
  exact ⟨Device.keeps_raise _ _ _ (by simp), Device.raise_berths .., Device.raise_out ..⟩

theorem Device.trigMissed_shows : (d.trigMissed k).trig k = d.trig k ∧ (d.trigMissed k).get F.TIME_TRIG_STATUS_MISSED k = 1 ∧
    (d.trigMissed k).get F.TIME_EVENTS_TRIG_MISSED = 1 := by
  refine ⟨?_, ?_, Device.get_raise_same _ _ _ (by decide)⟩
  · exact congrArg (fun (x : TimeX) => Tab.get x.trigs ⟨none, none⟩ k) (Device.raise_time ..)
  · exact (Device.get_raise _ _ _ _ _ (.inl (by decide)) (.inl (by decide))).trans (Device.get_put_same ..)

theorem Device.trigDisable_shows :
    d.TrigOnly (d.trigDisable k) ∧ (d.trigDisable k).trig k = ⟨none, none⟩ ∧ (d.trigDisable k).get F.TIME_TRIG_STATUS_ACTIVE k = 0 :=
  ⟨(Device.TrigOnly.setTrig d k _).trans (Device.TrigOnly.put (d.setTrig k ⟨none, none⟩) k (by simp) 0), d.trig_setTrig k _, Device.get_put_same ..⟩

theorem Device.trigStart_of_keeps {d e : Device} {p : Fld → Bool} (h : d.keeps e p) (hp : p F.TIME_TRIG_START_SEC_LO_VALUE = true)
    (hp' : p F.TIME_TRIG_START_SEC_HI_VALUE = true) (hn : p F.TIME_TRIG_START_NS_VALUE = true) : e.trigStart k = d.trigStart k := by
  rw [Device.trigStart, h.1 _ k hp, h.1 _ k hp', h.1 _ k hn, Device.trigStart]

/-- What the enabling of a trigger comes to: `e` is the device with MISSED cleared. -/
theorem Device.trigEnable_eq : ∃ e, d.TrigOnly e ∧ e.get F.TIME_TRIG_STATUS_MISSED k = 0 ∧ d.trigEnable k =
    if d.on F.TIME_TRIG_CFG_PERIODIC k then e.setTrig k
      ⟨some (if d.devNs + 1000 ≤ d.trigStart k then d.trigStart k
        else gridAfter (d.trigStart k) (d.get F.TIME_TRIG_PERIOD_NS k) (d.devNs + 1)), none⟩
    else if d.trigStart k < d.devNs + 1000 then (e.setTrig k ⟨none, none⟩).trigMissed k
    else e.setTrig k ⟨some (d.trigStart k), none⟩ := by
  obtain ⟨e, he⟩ : ∃ e, e = d.put F.TIME_TRIG_STATUS_MISSED k 0 := ⟨_, rfl⟩
  have only : d.TrigOnly e := he ▸ Device.TrigOnly.put d k (by simp) 0
  have begins : e.trigStart k = d.trigStart k := Device.trigStart_of_keeps k only.1 (by decide) (by decide) (by decide)
  have period : e.get F.TIME_TRIG_PERIOD_NS k = d.get F.TIME_TRIG_PERIOD_NS k := only.1.1 _ k (by decide)
  have again : e.on F.TIME_TRIG_CFG_PERIODIC k = d.on F.TIME_TRIG_CFG_PERIODIC k := by rw [Device.on, only.1.1 _ k (by decide), Device.on]
  have now : e.devNs = d.devNs := by rw [he]; rfl
  refine ⟨e, only, by rw [he]; exact Device.get_put_same .., ?_⟩
  unfold Device.trigEnable
  simp only [← he, begins, period, again, now, ge_iff_le]

theorem Device.trigEnable_only : d.TrigOnly (d.trigEnable k) := by
  obtain ⟨e, only, -, eq⟩ := d.trigEnable_eq k
  rw [eq]
  split
  case isTrue => exact only.trans (.setTrig e k _)
  case isFalse =>
    split
    · exact (only.trans (.setTrig e k _)).trans (.missed _ k)
    · exact only.trans (.setTrig e k _)

theorem Device.trigEnable_shows :
    (d.devNs + 1000 ≤ d.trigStart k → (d.trigEnable k).trig k = ⟨some (d.trigStart k), none⟩ ∧
      (d.trigEnable k).get F.TIME_TRIG_STATUS_MISSED k = 0) ∧
    (d.trigStart k < d.devNs + 1000 → d.on F.TIME_TRIG_CFG_PERIODIC k = false → (d.trigEnable k).trig k = ⟨none, none⟩ ∧
      (d.trigEnable k).get F.TIME_TRIG_STATUS_MISSED k = 1 ∧ (d.trigEnable k).get F.TIME_EVENTS_TRIG_MISSED = 1) ∧
    (d.trigStart k < d.devNs + 1000 → d.on F.TIME_TRIG_CFG_PERIODIC k = true →
      (d.trigEnable k).trig k = ⟨some (gridAfter (d.trigStart k) (d.get F.TIME_TRIG_PERIOD_NS k) (d.devNs + 1)), none⟩) := by
  obtain ⟨e, -, missed, eq⟩ := d.trigEnable_eq k
  rw [eq]
  refine ⟨fun h => ?_, fun h hp => ?_, fun h hp => ?_⟩
  · rw [if_pos h, if_neg (Nat.not_lt.mpr h), ite_self]
    exact ⟨e.trig_setTrig k _, missed⟩
  · rw [if_neg (by simp [hp]), if_pos h]
    obtain ⟨same, shown, raised⟩ := (e.setTrig k ⟨none, none⟩).trigMissed_shows k
    exact ⟨same.trans (e.trig_setTrig k _), shown, raised⟩
  · rw [if_pos hp, if_neg (Nat.not_le.mpr h)]
    exact e.trig_setTrig k _

end Triggers

/-! ### The commands of triggers and captures -/

theorem Chip.writeEffect_trig (slot k w : Nat) (old e : Device) (m : Memory) :
    Chip.writeEffect slot R.TIME_TRIG_CFG k w old ⟨m, e⟩ = ⟨m, e.timeWrite R.TIME_TRIG_CFG k w old⟩ := rfl

theorem Device.timeWrite_trig (k w : Nat) (e old : Device) : e.timeWrite R.TIME_TRIG_CFG k w old =
    if e.on F.TIME_TRIG_CFG_EN k && !old.on F.TIME_TRIG_CFG_EN k then e.trigEnable k
    else if !e.on F.TIME_TRIG_CFG_EN k && old.on F.TIME_TRIG_CFG_EN k then e.trigDisable k else e := rfl

theorem trigEnableWrite_admitted {s : State} {slot k w : Nat} (hs : slot < 8) (hk : k < 4) (hw : w < 2 ^ 32)
    (ha : s.chip.admits slot R.TIME_TRIG_CFG k w = true) :
    let d := s.chip.dev
    ∀ begins per, begins = d.trigStart k → per = d.get F.TIME_TRIG_PERIOD_NS k → ∃ t, exec (.trigEnableWrite slot k w) s = .next t ∧
      (t.chip.mem = s.chip.mem ∧ t.chip.dev.berths = s.chip.dev.berths ∧ s.chip.dev.keeps t.chip.dev (outside [10])) ∧
      (∀ x ∈ R.TIME_TRIG_CFG.flds, t.chip.dev.get x k = x.of w) ∧
      (d.on F.TIME_TRIG_CFG_EN k = true → F.TIME_TRIG_CFG_EN.of w = 0 →
        t.chip.dev.trig k = ⟨none, none⟩ ∧ t.chip.dev.get F.TIME_TRIG_STATUS_ACTIVE k = 0) ∧
      (d.on F.TIME_TRIG_CFG_EN k = false → F.TIME_TRIG_CFG_EN.of w = 1 →
        (d.devNs + 1000 ≤ begins → t.chip.dev.trig k = ⟨some begins, none⟩ ∧ t.chip.dev.get F.TIME_TRIG_STATUS_MISSED k = 0) ∧
        (begins < d.devNs + 1000 → F.TIME_TRIG_CFG_PERIODIC.of w = 0 → t.chip.dev.trig k = ⟨none, none⟩ ∧
          t.chip.dev.get F.TIME_TRIG_STATUS_MISSED k = 1 ∧ t.chip.dev.get F.TIME_EVENTS_TRIG_MISSED = 1) ∧
        (begins < d.devNs + 1000 → F.TIME_TRIG_CFG_PERIODIC.of w = 1 → 0 < per →
          ∃ g, t.chip.dev.trig k = ⟨some g, none⟩ ∧ begins ≤ g ∧ d.devNs < g ∧ (g - begins) % per = 0 ∧
            (g = begins ∨ g ≤ d.devNs + per))) := by
  intro d begins per hb hper
  obtain ⟨e, he⟩ : ∃ e, e = d.quiet.storeWord R.TIME_TRIG_CFG slot k w := ⟨_, rfl⟩
  obtain ⟨g, q, shape⟩ := Device.storeWord_only (d := d.quiet) (r := R.TIME_TRIG_CFG) (slot := slot) (i := k) (w := w)
  rw [← he] at shape
  have stores : d.quiet.keeps e (but R.TIME_TRIG_CFG.flds) := he ▸ Device.keeps_storeWord ..
  have holds (x : Fld) (hx : x ∈ R.TIME_TRIG_CFG.flds) : e.get x k = x.of w := by
    have taken : e.HasTaken R.TIME_TRIG_CFG slot k w x := he ▸ Device.storeWord_hasTaken hx (by decide)
    have kind : x.acc = .rw ∨ x.acc = .rws := by clear taken; revert x; decide
    exact taken.1 kind
  have begun : e.trigStart k = begins := Device.trigStart_of_keeps k
    (Device.keeps_trans (Device.keeps_of_regs (e := d.quiet) rfl _) stores) (by decide) (by decide) (by decide) |>.trans hb.symm
  have period : e.get F.TIME_TRIG_PERIOD_NS k = per := (stores.1 _ k (by decide)).trans hper.symm
  have now : e.devNs = d.devNs := by rw [shape]; rfl
  obtain ⟨f, hf⟩ : ∃ f, f = e.timeWrite R.TIME_TRIG_CFG k w d.quiet := ⟨_, rfl⟩
  have acts : f = if e.on F.TIME_TRIG_CFG_EN k && !d.quiet.on F.TIME_TRIG_CFG_EN k then e.trigEnable k
    else if !e.on F.TIME_TRIG_CFG_EN k && d.quiet.on F.TIME_TRIG_CFG_EN k then e.trigDisable k else e := hf.trans (Device.timeWrite_trig ..)
  have only : e.TrigOnly f := by
    rw [acts]
    split_ifs
    · exact e.trigEnable_only k
    · exact (e.trigDisable_shows k).1
    · exact ⟨e.keeps_refl _, rfl, rfl⟩
  obtain ⟨t, p, ht, hm, hd⟩ := writeTo_acts (m := s.chip.mem) (d := f) (by decide) hs hw (findReg_trig k hk) ha (by rw [← he, Chip.writeEffect_trig, hf])
  have run : exec (.trigEnableWrite slot k w) s = writeTo slot R.TIME_TRIG_CFG (k % 4) w s := rfl
  rw [Nat.mod_eq_of_lt hk, ht] at run
  have regs : t.chip.dev.regs = f.regs := by rw [hd]; rfl
  have trigs : t.chip.dev.trig k = f.trig k := by rw [hd]; rfl
  have berths : t.chip.dev.berths = f.berths := by rw [hd]; rfl
  have gets (x : Fld) (i : Nat) : t.chip.dev.get x i = f.get x i := Device.get_congr regs x i
  have enabled : e.on F.TIME_TRIG_CFG_EN k = decide (F.TIME_TRIG_CFG_EN.of w ≠ 0) := by rw [Device.on, holds _ (by simp [R.TIME_TRIG_CFG])]
  refine ⟨t, run, ⟨hm, berths.trans (only.2.1.trans (by rw [shape]; rfl)), ?_⟩, fun x hx => ?_, fun hon hoff => ?_, fun hoff hon => ?_⟩
  · exact Device.keeps_trans (Device.keeps_trans (Device.keeps_mono stores (but_of_outside (by decide)))
      (Device.keeps_mono only.1 (but_of_outside (by decide)))) (Device.keeps_of_regs regs _)
  · rw [gets, only.1.1 x k ?_, holds x hx]
    revert x; decide
  · have stopped : f = e.trigDisable k := by
      rw [acts, enabled, show d.quiet.on F.TIME_TRIG_CFG_EN k = true from hon, hoff]
      exact (if_neg (by decide)).trans (if_pos (by decide))
    obtain ⟨-, trig, active⟩ := e.trigDisable_shows k
    exact ⟨trigs.trans (stopped ▸ trig), (gets ..).trans (stopped ▸ active)⟩
  · have started : f = e.trigEnable k := by
      rw [acts, enabled, show d.quiet.on F.TIME_TRIG_CFG_EN k = false from hoff, hon]
      exact if_pos (by decide)
    have periodic : e.on F.TIME_TRIG_CFG_PERIODIC k = decide (F.TIME_TRIG_CFG_PERIODIC.of w ≠ 0) := by rw [Device.on, holds _ (by simp [R.TIME_TRIG_CFG])]
    obtain ⟨early, late, grid⟩ := e.trigEnable_shows k
    rw [← started, begun, now] at early late grid
    rw [trigs, gets, gets]
    refine ⟨early, fun h hp => late h (by simp [periodic, hp]), fun h hp hpos => ⟨_, grid h (by simp [periodic, hp]), ?_⟩⟩
    obtain ⟨first, after, mult, close⟩ := gridAfter_spec begins per (d.devNs + 1) hpos
    rw [period]
    exact ⟨first, after, mult, by omega⟩

/-! ### Pulses of a trigger, capture inputs -/

section Pulses

variable (d : Device) (k : Nat)

theorem Device.trigFire_next {u : Nat} (h : (d.trig k).next = some u) :
    let later := if d.on F.TIME_TRIG_CFG_PERIODIC k then some (u + d.get F.TIME_TRIG_PERIOD_NS k) else none
    let e := d.trigFire k
    d.keeps e (but [F.TIME_TRIG_STATUS_ACTIVE]) ∧ e.berths = d.berths ∧ (e.trig k).next = later ∧
      (d.on F.TIME_TRIG_CFG_LOCKED_ONLY k = true → d.get F.TIME_STATUS_SRC ≠ 1 →
        e.regs = d.regs ∧ e.out = d.out ∧ (e.trig k).stop = (d.trig k).stop) ∧
      (d.on F.TIME_TRIG_CFG_LOCKED_ONLY k = false ∨ d.get F.TIME_STATUS_SRC = 1 →
        e.get F.TIME_TRIG_STATUS_ACTIVE k = 1 ∧ (e.trig k).stop = some (u + d.get F.TIME_TRIG_CFG_WIDTH k) ∧
        e.out = if d.sends then d.out ++ [.pulse (1 + k)] else d.out) := by
  obtain ⟨w, hw⟩ : ∃ w, w = d.waitUntil u := ⟨_, rfl⟩
  have regs : w.regs = d.regs := by rw [hw]; exact d.waitUntil_regs u
  have time : w.time = d.time := by rw [hw]; exact d.waitUntil_time u
  have out : w.out = d.out := by rw [hw]; exact d.waitUntil_out u
  have berths : w.berths = d.berths := by rw [hw]; exact d.waitUntil_berths u
  have trig : w.trig k = d.trig k := by rw [Device.trig, time, Device.trig]
  have sends (g : Device) (hg : d.keeps g (but [F.TIME_TRIG_STATUS_ACTIVE])) : g.sends = d.sends := by
    rw [Device.sends, Device.role, hg.1 _ 0 (by decide), Device.sends, Device.role]
  have ons (f : Fld) : w.on f k = d.on f k := Device.on_congr regs f k
  have gets (f : Fld) (i : Nat) : w.get f i = d.get f i := Device.get_congr regs f i
  obtain ⟨later, hl⟩ : ∃ x, x = if d.on F.TIME_TRIG_CFG_PERIODIC k then some (u + d.get F.TIME_TRIG_PERIOD_NS k) else none := ⟨_, rfl⟩
  obtain ⟨e, he⟩ : ∃ e, e = (w.setTrig k ⟨later, some (u + d.get F.TIME_TRIG_CFG_WIDTH k)⟩).put F.TIME_TRIG_STATUS_ACTIVE k 1 := ⟨_, rfl⟩
  have fired : d.trigFire k = if d.on F.TIME_TRIG_CFG_LOCKED_ONLY k && decide (d.get F.TIME_STATUS_SRC ≠ 1) then w.setTrig k { d.trig k with next := later }
      else if e.sends then e.emit (.pulse (1 + k)) else e := by
    unfold Device.trigFire
    simp only [h, ← hw, ons, gets, trig, ← hl, ← he]
  simp only [← hl]
  have waited : d.keeps w (but [F.TIME_TRIG_STATUS_ACTIVE]) := Device.keeps_of_regs regs _
  have shown : d.keeps e (but [F.TIME_TRIG_STATUS_ACTIVE]) := by
    rw [he]
    exact Device.keeps_trans waited (Device.keeps_put (w.setTrig k _) _ k 1 (but_apart (by simp)))
  rw [fired, sends e shown]
  split
  case isTrue held =>
    obtain ⟨locked, src⟩ := Bool.and_eq_true_iff.mp held
    refine ⟨waited, berths, by rw [Device.trig_setTrig], fun _ _ => ⟨regs, out, by rw [Device.trig_setTrig]⟩, fun h => ?_⟩
    rcases h with h | h
    · rw [h] at locked; exact absurd locked (by decide)
    · exact absurd h (of_decide_eq_true src)
  case isFalse free =>
    have active : e.get F.TIME_TRIG_STATUS_ACTIVE k = 1 := by rw [he]; exact Device.get_put_same ..
    have set : e.trig k = ⟨later, some (u + d.get F.TIME_TRIG_CFG_WIDTH k)⟩ := by rw [he]; exact Device.trig_setTrig ..
    have eout : e.out = d.out := by rw [he]; exact out
    have eberths : e.berths = d.berths := by rw [he]; exact berths
    have not_held (h : d.on F.TIME_TRIG_CFG_LOCKED_ONLY k = true) (h' : d.get F.TIME_STATUS_SRC ≠ 1) : False := free (by simp [h, h'])
    split
    · refine ⟨shown, eberths, congrArg Trig.next set, fun h h' => (not_held h h').elim, fun _ => ⟨active, ?_, ?_⟩⟩
      · exact congrArg Trig.stop set
      · exact congrArg (· ++ [Out.pulse (1 + k)]) eout
    · exact ⟨shown, eberths, by rw [set], fun h h' => (not_held h h').elim, fun _ => ⟨active, by rw [set], eout⟩⟩

theorem Device.trigStop_ends {e : Nat} (h : (d.trig k).stop = some e) :
    let g := d.trigStop k
    d.keeps g (but [F.TIME_TRIG_STATUS_ACTIVE]) ∧ g.berths = d.berths ∧ g.trig k = { d.trig k with stop := none } ∧
      g.get F.TIME_TRIG_STATUS_ACTIVE k = 0 := by
  obtain ⟨w, hw⟩ : ∃ w, w = d.waitUntil e := ⟨_, rfl⟩
  have regs : w.regs = d.regs := by rw [hw]; exact d.waitUntil_regs e
  have time : w.time = d.time := by rw [hw]; exact d.waitUntil_time e
  have berths : w.berths = d.berths := by rw [hw]; exact d.waitUntil_berths e
  have trig : w.trig k = d.trig k := by rw [Device.trig, time, Device.trig]
  have ended : d.trigStop k = (w.setTrig k { d.trig k with stop := none }).put F.TIME_TRIG_STATUS_ACTIVE k 0 := by
    unfold Device.trigStop
    simp only [h, ← hw, trig]
  simp only [ended]
  exact ⟨Device.keeps_trans (Device.keeps_of_regs regs _) (Device.keeps_put (w.setTrig k _) _ k 0 (but_apart (by simp))), berths,
    Device.trig_setTrig .., Device.get_put_same ..⟩

/-- A capture input that is enabled takes the edge. -/
def Device.wantsEdge (rising : Bool) : Prop :=
  d.on F.TIME_CAP_CFG_EN k = true ∧ (d.get F.TIME_CAP_CFG_EDGE k = 0 → rising = true) ∧ (d.get F.TIME_CAP_CFG_EDGE k = 1 → rising = false)

theorem Device.wantsEdge_iff (rising : Bool) : d.wantsEdge k rising ↔ ¬ (!d.on F.TIME_CAP_CFG_EN k || (decide (d.get F.TIME_CAP_CFG_EDGE k = 0) && !rising) ||
    (decide (d.get F.TIME_CAP_CFG_EDGE k = 1) && rising)) = true := by
  unfold Device.wantsEdge
  cases rising <;> simp

theorem Device.capture_passes {rising : Bool} (h : ¬ d.wantsEdge k rising) : d.capture k rising = d :=
  if_pos (not_not.mp (mt (d.wantsEdge_iff k rising).mpr h))

/-- The time that an edge is stamped with. -/
def Device.edgeStamp : Nat := d.devNs + Config.pick d.free % 11 - 5

theorem Device.edgeStamp_near : d.edgeStamp ≤ d.devNs + 5 ∧ d.devNs ≤ d.edgeStamp + 5 := by
  have := Nat.mod_lt (Config.pick d.free) (show 0 < 11 by decide)
  unfold Device.edgeStamp
  omega

theorem Device.capture_queues {rising : Bool} (h : d.wantsEdge k rising) (room : (d.caps k).length < 16) :
    d.capture k rising =
      let e := ({ d with free := d.free + 1 } : Device).setCaps k (d.caps k ++ [⟨d.edgeStamp, rising, d.get F.TIME_STATUS_STEP_COUNT⟩])
      if (d.caps k).isEmpty then e.raise F.TIME_EVENTS_CAPTURE k else e :=
  (if_neg ((d.wantsEdge_iff k rising).mp h)).trans (if_pos room)

theorem Device.capture_drops {rising : Bool} (h : d.wantsEdge k rising) (full : 16 ≤ (d.caps k).length) :
    d.capture k rising = d.bump F.TIME_CAP_DROP_COUNT k 1 :=
  (if_neg ((d.wantsEdge_iff k rising).mp h)).trans (if_neg (Nat.not_lt.mpr full))

theorem Device.capture_takes {rising : Bool} (h : d.wantsEdge k rising) (room : (d.caps k).length < 16) :
    let e := d.capture k rising
    (∃ at_, e.caps k = d.caps k ++ [⟨at_, rising, d.get F.TIME_STATUS_STEP_COUNT⟩] ∧ at_ ≤ d.devNs + 5 ∧ d.devNs ≤ at_ + 5) ∧
      (d.caps k = [] → e.get F.TIME_EVENTS_CAPTURE = 1) ∧ (d.caps k ≠ [] → e.regs = d.regs) := by
  simp only [d.capture_queues k h room]
  have caps := Device.caps_setCaps { d with free := d.free + 1 } k (d.caps k ++ [⟨d.edgeStamp, rising, d.get F.TIME_STATUS_STEP_COUNT⟩])
  by_cases empty : d.caps k = []
  · rw [if_pos (by rw [empty]; rfl)]
    exact ⟨⟨_, (congrArg (fun (x : TimeX) => Tab.get x.caps [] k) (Device.raise_time ..)).trans caps, d.edgeStamp_near⟩,
      fun _ => Device.get_raise_same _ _ _ (by decide), fun h => absurd empty h⟩
  · rw [if_neg (by simpa using empty)]
    exact ⟨⟨_, caps, d.edgeStamp_near⟩, fun h => absurd h empty, fun _ => rfl⟩

theorem Device.capture_only (rising : Bool) : (d.capture k rising).berths = d.berths ∧ d.keeps (d.capture k rising) (outside [10]) := by
  by_cases wanted : d.wantsEdge k rising
  case neg =>
    rw [d.capture_passes k wanted]
    exact ⟨rfl, d.keeps_refl _⟩
  case pos =>
    by_cases room : (d.caps k).length < 16
    · rw [d.capture_queues k wanted room]
      obtain ⟨e, he⟩ : ∃ e, e = ({ d with free := d.free + 1 } : Device).setCaps k (d.caps k ++ [⟨d.edgeStamp, rising, d.get F.TIME_STATUS_STEP_COUNT⟩]) := ⟨_, rfl⟩
      have kept : d.keeps e (outside [10]) := Device.keeps_of_regs (by rw [he]; rfl) _
      have berths : e.berths = d.berths := by rw [he]; rfl
      simp only [← he]
      split
      · exact ⟨(Device.raise_berths ..).trans berths, Device.keeps_trans kept (Device.keeps_raise_of _ (but_of_outside (by decide)) _)⟩
      · exact ⟨berths, kept⟩
    · rw [d.capture_drops k wanted (Nat.not_lt.mp room)]
      exact ⟨rfl, Device.keeps_put d _ k _ (fun g hg => but_apart (l := [F.TIME_CAP_DROP_COUNT]) (by simp) g (but_of_outside (by decide) g hg))⟩

theorem Device.capPop_takes {e : Capture} {rest : List Capture} (slot : Nat) (h : d.caps k = e :: rest) :
    (d.capPop slot k).2 = e.ns % 1000000000 ∧ (d.capPop slot k).1.regs = d.regs ∧ (d.capPop slot k).1.caps k = rest ∧ (d.capPop slot k).1.out = d.out ∧
      Tab.find (d.capPop slot k).1.latch (R.TIME_CAP_SEC_LO.key slot k) = some (e.ns / 1000000000 % 2 ^ 32) := by
  obtain ⟨tag, popped⟩ : ∃ tag, d.capPop slot k = (((d.setCaps k rest).latchWord R.TIME_CAP_SEC_LO slot k (e.ns / 1000000000 % 2 ^ 32)).latchWord
      R.TIME_CAP_SEC_HI slot k tag, e.ns % 1000000000) := by
    unfold Device.capPop
    rw [h]
    exact ⟨_, rfl⟩
  rw [popped]
  refine ⟨rfl, rfl, d.caps_setCaps k rest, rfl, (Tab.find_set _ _ _ _).trans ((if_neg ?_).trans (Tab.find_set_same ..))⟩
  simp [RegRow.key, R.TIME_CAP_SEC_HI, R.TIME_CAP_SEC_LO]

theorem Device.capPop_empty (slot : Nat) (h : d.caps k = []) : d.capPop slot k = (d, 0xFFFFFFFF) := by
  unfold Device.capPop
  rw [h]

end Pulses

theorem triggerPulse_starts (s : State) (k u : Nat) (h : (s.chip.dev.trig k).next = some u) :
    let d := s.chip.dev
    let later := if d.on F.TIME_TRIG_CFG_PERIODIC k then some (u + d.get F.TIME_TRIG_PERIOD_NS k) else none
    ∃ t, exec (.trigPulseStart k) s = .next t ∧
      (t.chip.mem = s.chip.mem ∧ t.chip.dev.berths = s.chip.dev.berths ∧ s.chip.dev.keeps t.chip.dev (outside [10])) ∧
      (t.chip.dev.trig k).next = later ∧
      (d.on F.TIME_TRIG_CFG_LOCKED_ONLY k = true → d.get F.TIME_STATUS_SRC ≠ 1 →
        t.chip.dev.regs = d.regs ∧ t.chip.dev.out = [] ∧ (t.chip.dev.trig k).stop = (d.trig k).stop) ∧
      (d.on F.TIME_TRIG_CFG_LOCKED_ONLY k = false ∨ d.get F.TIME_STATUS_SRC = 1 →
        t.chip.dev.get F.TIME_TRIG_STATUS_ACTIVE k = 1 ∧ (t.chip.dev.trig k).stop = some (u + d.get F.TIME_TRIG_CFG_WIDTH k) ∧
        t.chip.dev.out = if d.sends then [.pulse (1 + k)] else []) := by
  obtain ⟨kept, berths, rest⟩ := s.chip.dev.quiet.trigFire_next k h
  obtain ⟨t, ht, hm, hd⟩ := onDev_next (s := s) (c := .trigPulseStart k) (f := fun d => d.trigFire k) rfl rfl
  rw [← hd] at kept berths rest
  exact ⟨t, ht, ⟨hm, berths, Device.keeps_mono kept (but_of_outside (by decide))⟩, rest⟩

theorem triggerPulse_ends (s : State) (k e : Nat) (h : (s.chip.dev.trig k).stop = some e) :
    ∃ t, exec (.trigPulseEnd k) s = .next t ∧
      (t.chip.mem = s.chip.mem ∧ t.chip.dev.berths = s.chip.dev.berths ∧ s.chip.dev.keeps t.chip.dev (outside [10])) ∧
      (t.chip.dev.trig k).stop = none ∧ (t.chip.dev.trig k).next = (s.chip.dev.trig k).next ∧
      t.chip.dev.get F.TIME_TRIG_STATUS_ACTIVE k = 0 := by
  obtain ⟨kept, berths, trig, active⟩ := s.chip.dev.quiet.trigStop_ends k h
  obtain ⟨t, ht, hm, hd⟩ := onDev_next (s := s) (c := .trigPulseEnd k) (f := fun d => d.trigStop k) rfl rfl
  rw [← hd] at kept berths trig active
  exact ⟨t, ht, ⟨hm, berths, Device.keeps_mono kept (but_of_outside (by decide))⟩, by rw [trig], by rw [trig]; rfl, active⟩

theorem captureEdge_queues (s : State) (k : Nat) (rising : Bool) :
    let d := s.chip.dev
    ∃ t, exec (.captureEdge k rising) s = .next t ∧
      (t.chip.mem = s.chip.mem ∧ t.chip.dev.berths = s.chip.dev.berths ∧ s.chip.dev.keeps t.chip.dev (outside [10])) ∧
      (¬ d.wantsEdge k rising → t.chip = s.chip.quiet) ∧
      (d.wantsEdge k rising → (d.caps k).length < 16 →
        (∃ at_, t.chip.dev.caps k = d.caps k ++ [⟨at_, rising, d.get F.TIME_STATUS_STEP_COUNT⟩] ∧ at_ ≤ d.devNs + 5 ∧ d.devNs ≤ at_ + 5) ∧
        (d.caps k = [] → t.chip.dev.get F.TIME_EVENTS_CAPTURE = 1) ∧ (d.caps k ≠ [] → t.chip.dev.regs = d.regs)) ∧
      (d.wantsEdge k rising → 16 ≤ (d.caps k).length → t.chip.dev.caps k = d.caps k ∧
        t.chip.dev.get F.TIME_CAP_DROP_COUNT k = min (d.get F.TIME_CAP_DROP_COUNT k + 1) (2 ^ F.TIME_CAP_DROP_COUNT.width - 1)) := by
  obtain ⟨berths, kept⟩ := s.chip.dev.quiet.capture_only k rising
  have passes := s.chip.dev.quiet.capture_passes k (rising := rising)
  have queues := s.chip.dev.quiet.capture_takes k (rising := rising)
  have drops := s.chip.dev.quiet.capture_drops k (rising := rising)
  obtain ⟨t, ht, hm, hd⟩ := onDev_next (s := s) (c := .captureEdge k rising) (f := fun d => d.capture k rising) rfl rfl
  rw [← hd] at berths kept passes queues drops
  refine ⟨t, ht, ⟨hm, berths, kept⟩, fun h => congrArg₂ Chip.mk hm (passes h), queues, fun h full => ?_⟩
  rw [drops h full]
  exact ⟨rfl, Device.get_bump ..⟩

theorem capturePop_takes {s : State} {slot k : Nat} (hs : slot < 8) (hk : k < 4) (ha : s.chip.admitsRead slot R.TIME_CAP_NS k = true) :
    let d := s.chip.dev
    (d.caps k = [] → ∃ t, exec (.capturePop slot k) s = .next t ∧ t.chip.mem = s.chip.mem ∧ t.chip.dev.regs = d.regs ∧
      t.chip.dev.out = [.result slot resOk (beBytes 4 0xFFFFFFFF)] ∧ t.chip.dev.caps k = []) ∧
    (∀ e rest, d.caps k = e :: rest → ∃ t, exec (.capturePop slot k) s = .next t ∧ t.chip.mem = s.chip.mem ∧ t.chip.dev.regs = d.regs ∧
      t.chip.dev.caps k = rest ∧ t.chip.dev.out = [.result slot resOk (beBytes 4 (e.ns % 1000000000))] ∧
      Tab.find t.chip.dev.latch (R.TIME_CAP_SEC_LO.key slot k) = some (e.ns / 1000000000 % 2 ^ 32)) := by
  intro d
  obtain ⟨q, hq⟩ : ∃ q, q = d.quiet.capPop slot k := ⟨_, rfl⟩
  have runs : readFrom slot R.TIME_CAP_NS k s = .next { s with chip := Chip.answer slot resOk (beBytes 4 q.2) ⟨s.chip.mem, q.1⟩ } := by
    rw [hq]
    exact readFrom_admits slot R.TIME_CAP_NS k s hs (findReg_capture k hk) ha
  have run : exec (.capturePop slot k) s = readFrom slot R.TIME_CAP_NS (k % 4) s := rfl
  rw [Nat.mod_eq_of_lt hk, runs] at run
  refine ⟨fun h => ?_, fun e rest h => ?_⟩
  · rw [d.quiet.capPop_empty k slot h] at hq
    rw [hq] at run
    exact ⟨_, run, rfl, rfl, rfl, h⟩
  · obtain ⟨word, regs, caps, out, latch⟩ := d.quiet.capPop_takes k slot h
    rw [← hq] at word regs caps out latch
    rw [word] at run
    exact ⟨_, run, rfl, regs, caps, congrArg (· ++ [Out.result slot resOk (beBytes 4 (e.ns % 1000000000))]) out, latch⟩

/-- Settles O42: pulses of TICK_OUT, triggers from their enabling to the end of a pulse, and the queues of captures. -/
theorem tickOutTriggersAndCaptures : Obligations.TickOutTriggersAndCaptures :=
  ⟨tickOutPulse_follows, fun _ _ _ _ hs hk hw ha => trigEnableWrite_admitted hs hk hw ha _ _ rfl rfl, fun s k u _ h => triggerPulse_starts s k u h,
    fun s k e _ h => triggerPulse_ends s k e h, fun s _ k rising hs hk => ⟨captureEdge_queues s k rising, capturePop_takes hs hk⟩⟩

end Sys2Proof.Machine
end

section
/-!
SUPPORT. What lanes, ports, servos and touch keys leave alone.
-/

namespace Sys2Proof.Machine

/-! ### What lanes, ports, servos and touch keys leave alone -/

/-- The device without its registers, event queues and the states of ports, pair, time and touch keys, and of the lanes if asked. -/
def Device.core (lanes : Bool) (d : Device) : Device :=
  let z := State.reset.chip.dev
  { d with regs := z.regs, evq := z.evq, lanes := bif lanes then z.lanes else d.lanes, net := z.net, out := z.out, pair := z.pair, time := z.time, touch := z.touch }

/-- Only fields of the list and what `core` leaves out change. -/
def Device.Side (lanes : Bool) (l : List Fld) (d e : Device) : Prop := d.keeps e (but l) ∧ e.core lanes = d.core lanes

namespace Device.Side

variable {b : Bool} {l m : List Fld} {d e f : Device}

theorem refl (d : Device) : Side b l d d := ⟨d.keeps_refl _, rfl⟩
theorem trans (h : Side b l d e) (h' : Side b l e f) : Side b l d f := ⟨Device.keeps_trans h.1 h'.1, h'.2.trans h.2⟩
theorem mono (h : Side b l d e) (hl : ∀ f ∈ l, f ∈ m) : Side b m d e := ⟨Device.keeps_mono h.1 (but_mono hl), h.2⟩
theorem of_core (hr : e.regs = d.regs) (hc : e.core b = d.core b) : Side b l d e := ⟨Device.keeps_of_regs hr _, hc⟩


theorem put (h : Side b l d e) {f : Fld} (i v : Nat) (hf : f ∈ l) : Side b l d (e.put f i v) :=
  h.trans ⟨e.keeps_put f i v (but_apart (List.mem_append_left _ hf)), rfl⟩

theorem flag (h : Side b l d e) {f : Fld} (i : Nat) (v : Bool) (hf : f ∈ l) : Side b l d (e.flag f i v) := h.put i _ hf

theorem raise (h : Side b l d e) {f : Fld} (a : Nat) (hf : f ∈ l) : Side b l d (e.raise f a) := by
  obtain ⟨g, q, only⟩ := e.raise_only f a
  exact h.trans ⟨e.keeps_raise f a hf, by rw [only]; rfl⟩

/-- The registers stay and `core` does. -/
theorem same (h : Side b l d e) (hr : f.regs = e.regs) (hc : f.core b = e.core b) : Side b l d f := h.trans (of_core hr hc)

theorem emit (h : Side b l d e) (o : Out) : Side b l d (e.emit o) := h.same rfl rfl

theorem ite {c : Prop} [Decidable c] (h : c → Side b l d e) (h' : ¬c → Side b l d f) : Side b l d (if c then e else f) := by
  split
  · exact h ‹_›
  · exact h' ‹_›

theorem forL {β : Type} {g : β → Device → Device} (hg : ∀ x (d : Device), Side b l d (g x d)) (bs : List β) :
    ∀ d : Device, Side b l d (Machine.forL bs g d) := by
  induction bs with
  | nil => exact refl
  | cons x bs ih => exact fun d => (hg x d).trans (ih _)

theorem forN {n : Nat} {g : Nat → Device → Device} (hg : ∀ k (d : Device), Side b l d (g k d)) (d : Device) : Side b l d (Machine.forN n g d) :=
  forL hg (List.range n) d

theorem loosen (h : Side false l d e) : Side true l d e :=
  ⟨h.1, (congrArg (Device.core true) h.2 :)⟩

theorem lanes (h : Side false l d e) : e.lanes = d.lanes := (congrArg Device.lanes h.2 :)
theorem berths (h : Side b l d e) : e.berths = d.berths := (congrArg Device.berths h.2 :)
theorem get (h : Side b l d e) {f : Fld} (hf : but l f = true) (i : Nat) : e.get f i = d.get f i := h.1.1 f i hf
theorem on (h : Side b l d e) {f : Fld} (hf : but l f = true) (i : Nat) : e.on f i = d.on f i := by rw [Device.on, h.get hf, Device.on]

end Device.Side

/-! ### Servos -/

/-- The fields that the selection of a servo and the states of the servos show themselves in. -/
def servoShown : List Fld := [F.TICK_STATUS_SRC, F.TIME_STATUS_SRC, F.TIME_STATUS_DIVERGED, F.TIME_STATUS_IN_USE, F.TIME_RATE_PPB, F.TIME_EVENTS_HOLDOVER,
  F.TIME_EVENTS_SWITCH, F.TIME_UTC_OFFSET, F.TIME_UTC_VALID, F.TIME_UTC_LEAP61, F.TIME_UTC_LEAP59, F.TIME_SRV_STATE_STATE,
  F.TIME_EVENTS_SRV_LOCK, F.TIME_EVENTS_DIVERGED]

section Servos

variable {b : Bool} (d : Device)

theorem Device.rateSpan_side : Side b servoShown d d.rateSpan := by
  refine ⟨Device.keeps_of_regs ?_ _, ?_⟩ <;> (unfold rateSpan; dsimp only; split <;> rfl)

theorem Device.setRate_side (r : Int) : Side b servoShown d (d.setRate r) := d.rateSpan_side.put 0 _ (by simp [servoShown])

theorem Device.presetI_side (v : Nat) : Side b servoShown d (d.presetI v) := .of_core rfl rfl

theorem Device.utcUpdate_side : Side b servoShown d d.utcUpdate := by
  unfold utcUpdate
  split
  · exact ((((Side.refl d).put 0 _ (by simp [servoShown])).flag 0 _ (by simp [servoShown])).flag 0 _ (by simp [servoShown])).flag 0 _ (by simp [servoShown])
  · exact .refl d

theorem Device.srcUpdate_side : Side b servoShown d d.srcUpdate := by
  unfold srcUpdate
  extract_lets lock x d1 was src d2
  have shown : Side b servoShown d d2 := (((Side.refl d).same rfl rfl : Side b servoShown d d1).put 0 _ (by simp [servoShown])).put 0 _
    (by simp [servoShown]) |>.flag 0 _ (by simp [servoShown])
  exact .ite (fun _ => (shown.trans (d2.setRate_side _)).raise _ (by simp [servoShown])) fun _ => shown

theorem Device.useServo_side (v : Nat) : Side b servoShown d (d.useServo v) :=
  .ite (fun _ => .refl d) fun _ => (((d.rateSpan_side.put 0 v (by simp [servoShown])).trans (presetI_side _ v)).raise v
    (by simp [servoShown])).trans (utcUpdate_side _)

theorem Device.servoSwitch_side : Side b servoShown d d.servoSwitch := by
  unfold servoSwitch
  extract_lets cur oth sel x d1
  have start : Side b servoShown d d1 := .of_core rfl rfl
  refine start.trans ?_
  split
  · exact d1.useServo_side _
  · exact .ite (fun _ => d1.useServo_side _) fun _ => .ite (fun _ => d1.useServo_side _) fun _ => .refl _

theorem Device.clampRate_side : Side b servoShown d d.clampRate := .ite (fun _ => .refl d) fun _ => d.setRate_side _

theorem Device.afterServo_side : Side b servoShown d d.afterServo := by
  have first : Side b servoShown d (if d.ticking then d else d.servoSwitch.clampRate) :=
    .ite (fun _ => .refl d) fun _ => d.servoSwitch_side.trans (clampRate_side _)
  exact (first.trans (srcUpdate_side _)).trans (utcUpdate_side _)

theorem Device.srvTo_side (v st : Nat) : Side b servoShown d (d.srvTo v st) := by
  unfold srvTo
  extract_lets was diverges d1 d2
  have stated : Side b servoShown d d1 := d.rateSpan_side.put v st (by simp [servoShown])
  have locked : Side b servoShown d d2 := .ite (fun _ => stated.raise v (by simp [servoShown])) fun _ => stated
  exact .ite (fun _ => locked.raise v (by simp [servoShown])) fun _ => locked

theorem Device.servosRefresh_side : Side b servoShown d d.servosRefresh := by
  refine (Device.Side.forN (fun v e => ?_) d).trans (afterServo_side _)
  have set (x : Servo) : Side b servoShown e (e.setServo v x) := .of_core rfl rfl
  exact .ite (fun _ => (set _).trans (srvTo_side _ v 1)) fun _ => .ite (fun _ => (set _).trans (srvTo_side _ v 0)) fun _ => .refl e

end Servos

/-! ### Ports and lanes -/

/-- The fields that the state of a port shows itself in, with those of the servos that follow it. -/
def portShown : List Fld := servoShown ++ [F.NET_PORT_STATUS_STATE, F.NET_EVENTS_PORT_UP, F.NET_EVENTS_PORT_DOWN]

/-- The fields that the end of an eye scan shows itself in. -/
def scanShown : List Fld := [F.LANE_SCAN_RESULT_DONE, F.LANE_SCAN_RESULT_ABORTED, F.LANE_SCAN_RESULT_ERRORS, F.LANE_EVENTS_SCAN_DONE]

/-- The fields that the state of a lane shows itself in, with those of the scan that it may end. -/
def laneShown : List Fld := [F.LANE_STATUS_STATE, F.LANE_STATUS_SIGNAL, F.LANE_STATUS_FROZEN] ++ scanShown

/-- The fields that change when the lanes of a port do. -/
def startShown : List Fld := laneShown ++ portShown

theorem servoShown_port : ∀ f ∈ servoShown, f ∈ portShown := fun _ => List.mem_append_left _
theorem scanShown_lane : ∀ f ∈ scanShown, f ∈ laneShown := fun _ => List.mem_append_right _
theorem portShown_start : ∀ f ∈ portShown, f ∈ startShown := fun _ => List.mem_append_right _
theorem laneShown_start : ∀ f ∈ laneShown, f ∈ startShown := fun _ => List.mem_append_left _

section Side

variable {b : Bool} {l : List Fld} (d : Device)

theorem Device.arpNeed_side (p ip : Nat) : Side b l d (d.arpNeed p ip) := .ite (fun _ => .refl d) fun _ => .of_core rfl rfl

theorem Device.hopNeed_side (p dst : Nat) : Side b l d (d.hopNeed p dst) := by
  unfold hopNeed
  refine .ite (fun _ => .refl d) fun _ => ?_
  split
  · exact d.arpNeed_side p _
  · exact .refl d

theorem Device.hopScan_side : Side b l d d.hopScan := by
  refine .forN (fun e d => .ite (fun _ => .refl d) fun _ => .forL (fun k d => .ite (fun _ => ?_) fun _ => .refl d) _ d) d
  exact (d.hopNeed_side _ _).trans (hopNeed_side _ _ _)

theorem Device.igmpReport_side (p : Nat) (r : List (Nat × Nat × List Nat)) : Side b l d (d.igmpReport p r) :=
  .ite (fun _ => Side.same (e := d.igmpSend p r) (.ite (fun _ => .of_core rfl rfl) fun _ => .refl d) rfl rfl) fun _ => .refl d

theorem Device.igmpJoin_side (p : Nat) : Side b l d (d.igmpJoin p) := by
  unfold igmpJoin
  generalize (d.joined p).flatMap _ = r
  exact .ite (fun _ => .refl d) fun _ => d.igmpReport_side p r

/-- A port takes the state that its lanes give it, and raises what it enters or leaves. -/
theorem Device.portRefresh_shows (p : Nat) :
    let e := d.portRefresh p
    let was := d.get F.NET_PORT_STATUS_STATE p
    Side true portShown d e ∧ e.lanes.lane = d.lanes.lane ∧ e.get F.NET_PORT_STATUS_STATE p = d.portState p % 4 ∧
      (d.portState p = 2 → was ≠ 2 → e.get F.NET_EVENTS_PORT_UP = 1) ∧ (d.portState p ≠ 2 → was = 2 → e.get F.NET_EVENTS_PORT_DOWN = 1) := by
  dsimp only
  obtain ⟨g, hg⟩ : ∃ g, g = d.put F.NET_PORT_STATUS_STATE p (d.portState p) := ⟨_, rfl⟩
  have stated : Side false portShown d g := hg ▸ (Side.refl d).put p _ (by simp [portShown])
  have state : g.get F.NET_PORT_STATUS_STATE p = d.portState p % 4 := by rw [hg]; exact Device.get_put_same ..
  obtain ⟨h, hh⟩ : ∃ h, h = { g with lanes := { g.lanes with everUp := insert p g.lanes.everUp } } := ⟨_, rfl⟩
  have listed : Side true portShown g h := .of_core (by rw [hh]) (by rw [hh]; rfl)
  have refresh : d.portRefresh p = if d.portState p = 2 ∧ d.get F.NET_PORT_STATUS_STATE p ≠ 2 then
      ((h.raise F.NET_EVENTS_PORT_UP p).servosRefresh.igmpJoin p).hopScan
    else if d.portState p ≠ 2 ∧ d.get F.NET_PORT_STATUS_STATE p = 2 then (g.raise F.NET_EVENTS_PORT_DOWN p).servosRefresh else g := by
    rw [hh, hg]; rfl
  have lane : g.lanes = d.lanes := stated.lanes
  rw [refresh]
  split_ifs with up down
  case pos =>
    have rest : Side false servoShown (h.raise F.NET_EVENTS_PORT_UP p) (((h.raise F.NET_EVENTS_PORT_UP p).servosRefresh.igmpJoin p).hopScan) :=
      ((servosRefresh_side _).trans (igmpJoin_side _ p)).trans (hopScan_side _)
    have raised : Side false portShown h (h.raise F.NET_EVENTS_PORT_UP p) := (Side.refl h).raise p (by simp [portShown])
    refine ⟨((stated.loosen.trans listed).trans raised.loosen).trans (rest.mono servoShown_port).loosen, ?_, ?_, fun _ _ => ?_, fun h => absurd up.1 h⟩
    · rw [rest.lanes, raised.lanes, hh]
      exact (congrArg Lanes.lane lane :)
    · rw [rest.get (by decide), Device.get_raise _ _ _ _ _ (.inl (by decide)) (.inl (by decide)), ← state, hh]
      rfl
    · rw [rest.get (by decide)]
      exact Device.get_raise_same _ _ _ (by decide)
  case pos =>
    have rest : Side false servoShown (g.raise F.NET_EVENTS_PORT_DOWN p) (g.raise F.NET_EVENTS_PORT_DOWN p).servosRefresh := servosRefresh_side _
    have raised := stated.raise p (f := F.NET_EVENTS_PORT_DOWN) (by simp [portShown])
    refine ⟨(raised.trans (rest.mono servoShown_port)).loosen, by rw [rest.lanes, raised.lanes], ?_, fun h => absurd h down.1, fun _ _ => ?_⟩
    · rw [rest.get (by decide), Device.get_raise _ _ _ _ _ (.inl (by decide)) (.inl (by decide)), state]
    · rw [rest.get (by decide)]
      exact Device.get_raise_same _ _ _ (by decide)
  case neg => exact ⟨stated.loosen, by rw [lane], state, fun h h' => absurd ⟨h, h'⟩ up, fun h h' => absurd ⟨h, h'⟩ down⟩

theorem Device.scanEnd_side (a : Bool) (n : Nat) : Side true scanShown d (d.scanEnd a n) :=
  ((((Side.of_core rfl rfl : Side true scanShown d { d with lanes := { d.lanes with scan := none } }).put 0 1 (by simp [scanShown])).flag 0 a
    (by simp [scanShown])).put 0 _ (by simp [scanShown])).raise 0 (by simp [scanShown])

theorem Device.scanGuard_side : Side true scanShown d d.scanGuard := by
  unfold scanGuard
  split
  · exact .ite (fun _ => .refl d) fun _ => d.scanEnd_side true 0
  · exact .refl d

theorem Device.scanGuard_lanes : ∃ x, d.scanGuard.lanes = { d.lanes with scan := x } := by
  unfold scanGuard
  split
  · split
    · exact ⟨_, rfl⟩
    · unfold scanEnd
      rw [Device.raise_lanes]
      exact ⟨none, rfl⟩
  · exact ⟨_, rfl⟩

theorem Device.setLaneX_side (k : Nat) (x : LaneX) : Side true l d (d.setLaneX k x) := .of_core rfl rfl

theorem Device.setLane_side (k st : Nat) : Side true laneShown d (d.setLane k st) := by
  unfold setLane
  extract_lets x d1 d2
  have quiet : Side true laneShown d d2 := .ite (fun _ => (d.setLaneX_side k _).put k 0 (by simp [laneShown])) fun _ => d.setLaneX_side k _
  exact ((quiet.put k st (by simp [laneShown])).flag k _ (by simp [laneShown])).trans ((scanGuard_side _).mono scanShown_lane)

theorem Device.portStart_side (p : Nat) : Side true startShown d (d.portStart p) := by
  have lanes : Side true startShown d (Machine.forL (d.portLanes p) (fun l (d : Device) =>
      d.setLane l (if d.laneAlive l then (if d.portAn p then 1 else 3) else 0)) d) :=
    .forL (fun k d => (d.setLane_side k _).mono laneShown_start) _ d
  have shown := lanes.trans ((portRefresh_shows _ p).1.mono portShown_start)
  exact .ite (fun _ => shown.emit _) fun _ => shown

theorem Device.portOff_side (p : Nat) : Side true startShown d (d.portOff p) :=
  (Side.forL (fun k d => (d.setLane_side k 0).mono laneShown_start) _ d).trans
    ((portRefresh_shows _ p).1.mono portShown_start)

end Side

/-! ### The tether, all lanes, touch keys -/

/-- The fields that the tether shows itself in, with those of its lanes. -/
def tetherShown : List Fld := laneShown ++ [F.LANE_TETHER_STATUS_ATTEMPTS, F.LANE_TETHER_STATUS_TRAINED, F.LANE_TETHER_STATUS_STATE]

/-- The fields that the loss of the tether shows itself in. -/
def tetherDownShown : List Fld := [F.PAIR_STATUS_SYNC, F.PAIR_STATUS_INCONSISTENT, F.PAIR_MIRROR_STATUS_PENDING_KIB, F.PAIR_EVENTS_STATE_STALE,
  F.PAIR_EVENTS_TETHER_DOWN]

/-- The fields that change where lanes start again. -/
def againShown : List Fld := startShown ++ (tetherShown ++ (F.LANE_EVENTS_TETHER_FAIL :: tetherDownShown))

/-- The fields that the states of the touch keys show themselves in. -/
def touchShown : List Fld := [F.TOUCH_KEY_STATUS_STATE, F.TOUCH_KEY_READING_BASELINE, F.TOUCH_PRESSED_PRESSED, F.TOUCH_EVENTS_RELEASE]

/-- The fields that change when the core comes up. -/
def coreShown : List Fld := againShown ++ touchShown

theorem laneShown_tether : ∀ f ∈ laneShown, f ∈ tetherShown := fun _ => List.mem_append_left _
theorem scanShown_tether : ∀ f ∈ scanShown, f ∈ tetherShown := fun f (h : f ∈ scanShown) => laneShown_tether f (scanShown_lane f h)
theorem startShown_again : ∀ f ∈ startShown, f ∈ againShown := fun _ => List.mem_append_left _
theorem tetherShown_again : ∀ f ∈ tetherShown, f ∈ againShown := fun _ h => List.mem_append_right _ (List.mem_append_left _ h)
theorem tetherDownShown_again : ∀ f ∈ tetherDownShown, f ∈ againShown :=
  fun _ h => List.mem_append_right _ (List.mem_append_right _ (List.mem_cons_of_mem _ h))
theorem againShown_core : ∀ f ∈ againShown, f ∈ coreShown := fun _ => List.mem_append_left _
theorem touchShown_core : ∀ f ∈ touchShown, f ∈ coreShown := fun _ => List.mem_append_right _
theorem servoShown_core : ∀ f ∈ servoShown, f ∈ coreShown := fun f h => againShown_core f (startShown_again f (portShown_start f (servoShown_port f h)))

section Again

variable {b : Bool} (d : Device)

theorem Device.tetherTry_side : Side true tetherShown d d.tetherTry := by
  unfold tetherTry
  refine .ite (fun _ => ?_) fun _ => ?_
  · have lanes : Side true tetherShown d (Machine.forL tetherLanes (fun l (d : Device) =>
        (d.setLane l 2).setLaneX l { d.laneX l with retrain := 0, skip := false, locked := false, since := d.now, checking := true }) d) :=
      .forL (fun k d => ((d.setLane_side k 2).mono laneShown_tether).trans (setLaneX_side _ k _)) _ d
    generalize Machine.forL _ _ _ = e at lanes ⊢
    have shown := ((lanes.put (f := F.LANE_TETHER_STATUS_ATTEMPTS) 0 (min (e.get F.LANE_TETHER_STATUS_ATTEMPTS 0 + 1) (2 ^ F.LANE_TETHER_STATUS_ATTEMPTS.width - 1))
      (by simp [tetherShown])).put (f := F.LANE_TETHER_STATUS_TRAINED) 0 0 (by simp [tetherShown])).put (f := F.LANE_TETHER_STATUS_STATE) 0 1 (by simp [tetherShown])
    exact (shown.same rfl rfl).trans ((scanGuard_side _).mono scanShown_tether)
  · have lanes : Side true tetherShown d (Machine.forL tetherLanes (fun l (d : Device) => d.setLane l 0) d) :=
      .forL (fun k d => (d.setLane_side k 0).mono laneShown_tether) _ d
    exact ((lanes.put 0 0 (by simp [tetherShown])).put 0 0 (by simp [tetherShown])).trans ((scanGuard_side _).mono scanShown_tether)

theorem Device.stateStale_side : Side b tetherDownShown d d.stateStale := by
  unfold stateStale
  extract_lets s p x y d1
  exact .ite (fun _ => ((((Side.of_core rfl rfl : Side b tetherDownShown d d1).put 0 3 (by simp [tetherDownShown])).put 0 0
    (by simp [tetherDownShown])).raise 0 (by simp [tetherDownShown]))) fun _ => .refl d

theorem Device.tetherDown_side : Side b tetherDownShown d d.tetherDown := by
  unfold tetherDown
  extract_lets d1
  have shown : Side b tetherDownShown d d1 := Side.put (.of_core rfl rfl) 0 _ (by simp [tetherDownShown])
  exact .ite (fun _ => (shown.raise 0 (by simp [tetherDownShown])).trans (stateStale_side _)) fun _ => shown

theorem Device.tetherOff_side : Side true againShown d d.tetherOff := by
  unfold tetherOff
  extract_lets was d1 d2
  have lanes : Side true tetherShown d d1 := .forL (fun k d => (d.setLane_side k 0).mono laneShown_tether) _ d
  have off : Side true tetherShown d d2 := ((lanes.put 0 0 (by simp [tetherShown])).put 0 0 (by simp [tetherShown])).trans
    ((scanGuard_side _).mono scanShown_tether)
  exact .ite (fun _ => (off.mono tetherShown_again).trans (d2.tetherDown_side.mono tetherDownShown_again)) fun _ => off.mono tetherShown_again

/-- The media ports that start again. -/
def Device.portsAgain (f : Nat → Bool) : Device :=
  forL ((List.range 28).filter (fun p => d.portExists p && d.on F.NET_PORT_CFG_EN p && f p)) (fun p (d : Device) => d.portStart p) d

/-- The tether starts again or goes off. -/
def Device.tetherAnew : Device :=
  if d.laneAlive 28 then (if d.get F.LANE_TETHER_STATUS_STATE = 0 then d.tetherTry else d)
  else (if d.tetherIsUp then d.raise F.LANE_EVENTS_TETHER_FAIL else d).tetherOff

theorem Device.lanesAgain_eq (f : Nat → Bool) : d.lanesAgain f =
    if f 28 && (d.portsAgain f).on F.LANE_TETHER_CFG_EN then (d.portsAgain f).tetherAnew else d.portsAgain f := rfl

theorem Device.portsAgain_side (f : Nat → Bool) : Side true startShown d (d.portsAgain f) := .forL (fun p d => d.portStart_side p) _ d

theorem Device.tetherAnew_side : Side true againShown d d.tetherAnew := by
  unfold tetherAnew
  refine .ite (fun _ => .ite (fun _ => d.tetherTry_side.mono tetherShown_again) fun _ => .refl d) fun _ => ?_
  have raised : Side true againShown d (if d.tetherIsUp then d.raise F.LANE_EVENTS_TETHER_FAIL else d) :=
    .ite (fun _ => (Side.refl d).raise 0 (by simp [againShown])) fun _ => .refl d
  exact raised.trans (tetherOff_side _)

theorem Device.lanesAgain_side (f : Nat → Bool) : Side true againShown d (d.lanesAgain f) := by
  rw [d.lanesAgain_eq f]
  have ports := (d.portsAgain_side f).mono startShown_again
  generalize d.portsAgain f = e at ports ⊢
  exact .ite (fun _ => ports.trans e.tetherAnew_side) fun _ => ports

theorem Device.setTouchKey_side (k : Nat) (v : TouchKey) : Side b touchShown d (d.setTouchKey k v) := by
  unfold setTouchKey
  extract_lets _ d1 d2
  have stated : Side b touchShown d d2 := ((Side.of_core rfl rfl : Side b touchShown d d1).put k _ (by simp [touchShown])).put k _ (by simp [touchShown])
  exact stated.put 0 _ (by simp [touchShown])

theorem Device.learn_side (k : Nat) (check : Bool) : Side b touchShown d (d.learn k check) := by
  unfold learn
  extract_lets q x d1
  have shown : Side b touchShown d d1 := d.setTouchKey_side k _
  exact .ite (fun _ => shown.raise k (by simp [touchShown])) fun _ => shown

theorem Device.keyOff_side (k : Nat) : Side b touchShown d (d.keyOff k) := by
  unfold keyOff
  extract_lets q x d1
  have shown : Side b touchShown d d1 := d.setTouchKey_side k _
  exact .ite (fun _ => shown.raise k (by simp [touchShown])) fun _ => shown

theorem Device.touchRefresh_side : Side b touchShown d d.touchRefresh := by
  refine .forN (fun k d => ?_) d
  extract_lets q
  have fresh (x : List Nat) : Side b touchShown d ({ d with touch := { d.touch with fresh := x } } : Device) := .of_core rfl rfl
  exact .ite (fun _ => .ite (fun _ => (fresh _).trans (learn_side _ k _)) fun _ => .refl d) fun _ =>
    .ite (fun _ => .refl d) fun _ => d.keyOff_side k

theorem Device.coreUp_side : Side true coreShown d d.coreUp := by
  unfold coreUp
  extract_lets d1 d2
  have ports : Side true coreShown d d1 := .forN (fun p d => .ite
    (fun _ => (d.portStart_side p).mono fun f h => againShown_core f (startShown_again f h)) fun _ => .refl d) d
  have tether : Side true coreShown d d2 := .ite (fun _ => ports.trans (d1.tetherTry_side.mono fun f h => againShown_core f (tetherShown_again f h))) fun _ => ports
  exact (tether.trans (d2.touchRefresh_side.mono touchShown_core)).trans ((servosRefresh_side _).mono servoShown_core)

end Again

end Sys2Proof.Machine
end

section
/-!
SUPPORT. Upkeep of the memory: O44.
-/

namespace Sys2Proof.Machine

/-! ### Hung engines -/

section Engine

variable (d : Device)

/-- The entry that the black box is offered. -/
def Device.boxEntry (code source a b : Nat) : BbEvent := ⟨code, source, d.tickNow, if d.pd1On then d.nsPart else 0, a, b⟩

theorem Device.record_stages (code source a b : Nat) (hf : d.on F.BBOX_STATUS_FROZEN = false) (hl : d.bb.staging.length < 16) :
    d.record code source a b = { d with bb := { d.bb with staging := d.bb.staging ++ [d.boxEntry code source a b] } } :=
  (if_neg (by simp [hf])).trans (if_pos hl)

theorem Device.engineStop_shows {n : Nat} (hn : n < 16) :
    let e := d.engineStop n
    (∀ j, j < 16 → (e.get F.SYS_ENGINE_STATUS_STOPPED).testBit j = (decide (j = n) || (d.get F.SYS_ENGINE_STATUS_STOPPED).testBit j)) ∧
    e.get F.SYS_EVENTS_ENGINE_HUNG = 1 ∧ d.keeps e (but [F.SYS_ENGINE_STATUS_STOPPED, F.SYS_EVENTS_ENGINE_HUNG, F.BBOX_LOST_COUNT]) ∧
    (d.on F.BBOX_STATUS_FROZEN = false → d.bb.staging.length < 16 →
      ∃ b, e.bb.staging = d.bb.staging ++ [b] ∧ b.code = 0x0010 ∧ b.arg0 = n ∧ b.tick = d.tickNow) ∧
    (d.on F.BBOX_STATUS_FROZEN = true ∨ 16 ≤ d.bb.staging.length →
      e.bb = d.bb ∧ e.get F.BBOX_LOST_COUNT = min (d.get F.BBOX_LOST_COUNT + 1) (2 ^ F.BBOX_LOST_COUNT.width - 1)) := by
  obtain ⟨g, hg⟩ : ∃ g, g = (d.put F.SYS_ENGINE_STATUS_STOPPED 0 (setBit (d.get F.SYS_ENGINE_STATUS_STOPPED) n true)).raise F.SYS_EVENTS_ENGINE_HUNG n := ⟨_, rfl⟩
  have ends : d.engineStop n = g.record 0x0010 0 n 0 := by rw [hg]; rfl
  have word : g.get F.SYS_ENGINE_STATUS_STOPPED = setBit (d.get F.SYS_ENGINE_STATUS_STOPPED) n true := by
    rw [hg, Device.get_raise _ _ _ _ _ (.inl (by decide)) (.inl (by decide)), Device.get_put_same]
    exact Nat.mod_eq_of_lt (setBit_lt (d.get_lt _ _) hn true)
  have hung : g.get F.SYS_EVENTS_ENGINE_HUNG = 1 := by rw [hg]; exact Device.get_raise_same _ _ _ (by decide)
  have kept : d.keeps g (but [F.SYS_ENGINE_STATUS_STOPPED, F.SYS_EVENTS_ENGINE_HUNG, F.BBOX_LOST_COUNT]) := by
    rw [hg]
    exact Device.keeps_trans (d.keeps_put F.SYS_ENGINE_STATUS_STOPPED 0 _ (but_apart (by simp))) (Device.keeps_raise _ _ _ (by simp))
  have lost : g.get F.BBOX_LOST_COUNT = d.get F.BBOX_LOST_COUNT := by
    rw [hg, Device.get_raise _ _ _ _ _ (.inl (by decide)) (.inl (by decide)), Device.get_put_ne _ _ _ _ _ _ (by decide)]
  obtain ⟨r, q, only⟩ := (d.put F.SYS_ENGINE_STATUS_STOPPED 0 (setBit (d.get F.SYS_ENGINE_STATUS_STOPPED) n true)).raise_only F.SYS_EVENTS_ENGINE_HUNG n
  have box : g.bb = d.bb := by rw [hg, only]; rfl
  have tick : g.tickNow = d.tickNow := by rw [hg, only]; rfl
  have frozen : g.on F.BBOX_STATUS_FROZEN = d.on F.BBOX_STATUS_FROZEN := by rw [Device.on, kept.1 _ 0 (by decide), Device.on]
  have recorded := g.keeps_record 0x0010 0 n 0 (l := [F.BBOX_LOST_COUNT]) (by simp)
  simp only [ends]
  refine ⟨fun j _ => ?_, (recorded.1 _ 0 (by decide)).trans hung, Device.keeps_trans kept (g.keeps_record 0x0010 0 n 0 (by simp)), fun hf hl => ?_, fun h => ?_⟩
  · rw [recorded.1 _ 0 (by decide), word, testBit_setBit]
    by_cases h : j = n <;> simp [h]
  · rw [g.record_stages 0x0010 0 n 0 (frozen.trans hf) (by rwa [box]), box]
    exact ⟨_, rfl, rfl, rfl, tick⟩
  · rw [← frozen, ← box] at h
    rw [Device.record_lost _ _ _ _ h]
    exact ⟨box, by rw [Device.get_bump, lost]⟩

end Engine

theorem engineWatchdogExpire_stops (s : State) (e : Nat) (he : e < 16) :
    let d := s.chip.dev
    ∃ t, exec (.engineWatchdogExpire e) s = .next t ∧ t.chip.mem = s.chip.mem ∧
      (∀ j, j < 16 → (t.chip.dev.get F.SYS_ENGINE_STATUS_STOPPED).testBit j = (decide (j = e) || (d.get F.SYS_ENGINE_STATUS_STOPPED).testBit j)) ∧
      t.chip.dev.get F.SYS_EVENTS_ENGINE_HUNG = 1 ∧
      d.keeps t.chip.dev (but [F.SYS_ENGINE_STATUS_STOPPED, F.SYS_EVENTS_ENGINE_HUNG, F.BBOX_LOST_COUNT]) ∧
      (d.on F.BBOX_STATUS_FROZEN = false → d.bb.staging.length < 16 →
        ∃ b, t.chip.dev.bb.staging = d.bb.staging ++ [b] ∧ b.code = 0x0010 ∧ b.arg0 = e ∧ b.tick = d.tickNow) ∧
      (d.on F.BBOX_STATUS_FROZEN = true ∨ 16 ≤ d.bb.staging.length →
        t.chip.dev.bb = d.bb ∧ t.chip.dev.get F.BBOX_LOST_COUNT = min (d.get F.BBOX_LOST_COUNT + 1) (2 ^ F.BBOX_LOST_COUNT.width - 1)) := by
  have shown := s.chip.dev.quiet.engineStop_shows he
  obtain ⟨t, ht, hm, hd⟩ := onDev_next (s := s) (c := .engineWatchdogExpire e) (f := fun d => d.engineStop (e % 16)) rfl rfl
  rw [Nat.mod_eq_of_lt he] at hd
  rw [← hd] at shown
  exact ⟨t, ht, hm, shown⟩

/-! ### Refreshes, temperatures, scrub passes -/

section Refresh

variable (d : Device) {c b : Nat}

/-- A request of the channel's queue is for the bank. -/
def Device.bankAsked (c b : Nat) : Bool := (d.chan c).queue.any (fun r => decide ((d.place r).1 = b))

theorem Device.refreshDue_free (hc : c < 32) (hb : b < 64) (held : d.chanHeld c = false) : d.refreshDue c b =
    if !d.bankAsked c b then d.setChan c { d.chan c with open_ := Tab.del (d.chan c).open_ b, postponed := Tab.del (d.chan c).postponed b }
    else if Tab.get (d.chan c).postponed 0 b < 8 then d.setChan c { d.chan c with postponed := Tab.upd (d.chan c).postponed 0 b (· + 1) }
    else d.setChan c { d.chan c with open_ := Tab.del (d.chan c).open_ b } := by
  unfold Device.refreshDue
  rw [Nat.mod_eq_of_lt hc, Nat.mod_eq_of_lt hb]
  exact if_neg (by rw [held]; decide)

theorem Device.refreshDue_acts (hc : c < 32) (hb : b < 64) (held : d.chanHeld c = false) :
    let e := d.refreshDue c b
    e.regs = d.regs ∧ (e.chan c).queue = (d.chan c).queue ∧
      (d.bankAsked c b = false → Tab.find (e.chan c).open_ b = none ∧ Tab.get (e.chan c).postponed 0 b = 0) ∧
      (d.bankAsked c b = true → Tab.get (d.chan c).postponed 0 b < 8 →
        Tab.get (e.chan c).postponed 0 b = Tab.get (d.chan c).postponed 0 b + 1 ∧ (e.chan c).open_ = (d.chan c).open_) ∧
      (d.bankAsked c b = true → 8 ≤ Tab.get (d.chan c).postponed 0 b →
        (e.chan c).postponed = (d.chan c).postponed ∧ Tab.find (e.chan c).open_ b = none) := by
  have closed : Tab.find (Tab.del (d.chan c).open_ b) b = none := (Tab.find_del ..).trans (if_pos rfl)
  have forgot : Tab.get (Tab.del (d.chan c).postponed b) 0 b = 0 := (Tab.get_del ..).trans (if_pos rfl)
  have once : Tab.get (Tab.upd (d.chan c).postponed 0 b (· + 1)) 0 b = Tab.get (d.chan c).postponed 0 b + 1 := Tab.get_set_same ..
  have set (v : Channel) : (d.setChan c v).chan c = v := Tab.get_set_same ..
  simp only [d.refreshDue_free hc hb held]
  cases asked : d.bankAsked c b with
  | false =>
    rw [if_pos (by decide), set]
    exact ⟨rfl, rfl, fun _ => ⟨closed, forgot⟩, by simp, by simp⟩
  | true =>
    rw [if_neg (by decide)]
    by_cases few : Tab.get (d.chan c).postponed 0 b < 8
    · rw [if_pos few, set]
      exact ⟨rfl, rfl, by simp, fun _ _ => ⟨once, rfl⟩, fun _ h => absurd few (Nat.not_lt.mpr h)⟩
    · rw [if_neg few, set]
      exact ⟨rfl, rfl, by simp, fun _ h => absurd h few, fun _ _ => ⟨rfl, closed⟩⟩

end Refresh

theorem memRefreshDue_acts (s : State) (c b : Nat) (hc : c < 32) (hb : b < 64) (held : s.chip.dev.chanHeld c = false) :
    let d := s.chip.dev
    let asked := (d.chan c).queue.any (fun r => decide ((d.place r).1 = b))
    ∃ t, exec (.memRefreshDue c b) s = .next t ∧ t.chip.mem = s.chip.mem ∧ t.chip.dev.regs = d.regs ∧
      (t.chip.dev.chan c).queue = (d.chan c).queue ∧
      (asked = false → Tab.find (t.chip.dev.chan c).open_ b = none ∧ Tab.get (t.chip.dev.chan c).postponed 0 b = 0) ∧
      (asked = true → Tab.get (d.chan c).postponed 0 b < 8 →
        Tab.get (t.chip.dev.chan c).postponed 0 b = Tab.get (d.chan c).postponed 0 b + 1 ∧ (t.chip.dev.chan c).open_ = (d.chan c).open_) ∧
      (asked = true → 8 ≤ Tab.get (d.chan c).postponed 0 b →
        (t.chip.dev.chan c).postponed = (d.chan c).postponed ∧ Tab.find (t.chip.dev.chan c).open_ b = none) := by
  have acts := s.chip.dev.quiet.refreshDue_acts hc hb held
  obtain ⟨t, ht, hm, hd⟩ := onDev_next (s := s) (c := .memRefreshDue c b) (f := Device.refreshDue c b) rfl rfl
  rw [← hd] at acts
  exact ⟨t, ht, hm, acts⟩

/-- The field of a stack that is hot, and the one that shows its temperature. -/
def hotFld (k : Nat) : Fld := if k = 0 then F.MEM_STATUS_TEMP_HIGH_A else F.MEM_STATUS_TEMP_HIGH_B
def tempFld (k : Nat) : Fld := if k = 0 then F.MEM_TEMP_STACK_A else F.MEM_TEMP_STACK_B

theorem stackFields_apart : ∀ k < 2, (tempFld k).id ≠ (hotFld k).id ∧ F.MEM_EVENTS_TEMP_HIGH.id ≠ (hotFld k).id ∧
    F.MEM_EVENTS_TEMP_HIGH.id ≠ (tempFld k).id ∧ F.HOST_EVENTS_EVQ_OVERFLOW.id ≠ (hotFld k).id ∧ F.HOST_EVENTS_EVQ_OVERFLOW.id ≠ (tempFld k).id ∧
    (hotFld k).width = 1 ∧ (tempFld k).width = 8 := by decide

section Stack

variable (d : Device) {k temp : Nat}

theorem Device.stackTemp_eq (hk : k < 2) : d.stackTemp k temp =
    if temp > 85 then (if (d.put (tempFld k) 0 temp).on (hotFld k) then d.put (tempFld k) 0 temp
      else ((d.put (tempFld k) 0 temp).put (hotFld k) 0 1).raise F.MEM_EVENTS_TEMP_HIGH)
    else (d.put (tempFld k) 0 temp).put (hotFld k) 0 0 := by
  unfold Device.stackTemp
  rw [Nat.mod_eq_of_lt hk]
  rfl

theorem Device.stackTemp_hot (hk : k < 2) (ht : temp < 256) (hot : 85 < temp) :
    let e := d.stackTemp k temp
    e.get (tempFld k) = temp ∧ e.get (hotFld k) = 1 ∧ (d.get (hotFld k) = 0 → e.get F.MEM_EVENTS_TEMP_HIGH = 1) ∧
      d.keeps e (but [hotFld k, tempFld k, F.MEM_EVENTS_TEMP_HIGH]) := by
  obtain ⟨apart, event, event', full, full', one, eight⟩ := stackFields_apart k hk
  obtain ⟨e, he⟩ : ∃ e, e = d.put (tempFld k) 0 temp := ⟨_, rfl⟩
  have shown : e.get (tempFld k) = temp := by rw [he, Device.get_put_same, eight]; exact Nat.mod_eq_of_lt ht
  have flag : e.get (hotFld k) = d.get (hotFld k) := by rw [he]; exact Device.get_put_ne _ _ _ _ _ _ apart
  have kept : d.keeps e (but [hotFld k, tempFld k, F.MEM_EVENTS_TEMP_HIGH]) := by
    rw [he]; exact d.keeps_put _ 0 _ (but_apart (by simp))
  simp only [d.stackTemp_eq hk, ← he]
  rw [if_pos hot]
  split
  case isTrue on =>
    have high : e.get (hotFld k) = 1 := by
      have := e.get_lt (hotFld k) 0
      have := of_decide_eq_true on
      rw [one] at *
      omega
    exact ⟨shown, high, fun h => absurd (flag.symm.trans high) (by omega), kept⟩
  case isFalse =>
    refine ⟨?_, ?_, fun _ => Device.get_raise_same _ _ _ (by decide), Device.keeps_trans kept (Device.keeps_trans
      (Device.keeps_put e (hotFld k) 0 1 (but_apart (by simp))) (Device.keeps_raise _ _ _ (by simp)))⟩
    · rw [Device.get_raise _ _ _ _ _ (.inl event') (.inl full'), Device.get_put_ne _ _ _ _ _ _ apart.symm, shown]
    · rw [Device.get_raise _ _ _ _ _ (.inl event) (.inl full), Device.get_put_same, one]
      rfl

theorem Device.stackTemp_cool (hk : k < 2) (ht : temp < 256) (cool : temp ≤ 85) :
    let e := d.stackTemp k temp
    e.get (tempFld k) = temp ∧ e.get (hotFld k) = 0 ∧ e.evq = d.evq ∧ d.keeps e (but [hotFld k, tempFld k]) := by
  obtain ⟨apart, -, -, -, -, -, eight⟩ := stackFields_apart k hk
  simp only [d.stackTemp_eq hk]
  rw [if_neg (Nat.not_lt.mpr cool)]
  refine ⟨?_, (Device.get_put_same ..).trans (Nat.zero_mod _), rfl, Device.keeps_trans (d.keeps_put (tempFld k) 0 temp (but_apart (by simp)))
    (Device.keeps_put _ (hotFld k) 0 0 (but_apart (by simp)))⟩
  rw [Device.get_put_ne _ _ _ _ _ _ apart.symm, Device.get_put_same, eight]
  exact Nat.mod_eq_of_lt ht

theorem Device.scrubEnd_counts (h : d.scrubOn = true) :
    let e := d.scrubEnd
    e.get F.MEM_EVENTS_SCRUB_DONE = 1 ∧ e.scrubStart = e.now ∧ e.scrubDone = 0 ∧
      e.get F.MEM_SCRUB_STATUS_PASSES = (d.get F.MEM_SCRUB_STATUS_PASSES + 1) % 2 ^ F.MEM_SCRUB_STATUS_PASSES.width := by
  obtain ⟨w, hw⟩ : ∃ w, w = d.waitNow (d.scrubStart + (d.scrubSeconds * 1000000000 - d.scrubDone)) := ⟨_, rfl⟩
  have passes : w.get F.MEM_SCRUB_STATUS_PASSES = d.get F.MEM_SCRUB_STATUS_PASSES :=
    Device.get_congr (by rw [hw]; exact d.waitNow_regs _) _ _
  obtain ⟨e, he⟩ : ∃ e, e = ({ w with scrubStart := w.now, scrubDone := 0 } : Device).put F.MEM_SCRUB_STATUS_PASSES 0
      (d.get F.MEM_SCRUB_STATUS_PASSES + 1) := ⟨_, rfl⟩
  have ends : d.scrubEnd = e.raise F.MEM_EVENTS_SCRUB_DONE := by
    unfold Device.scrubEnd
    rw [if_pos h, ← hw, he, ← passes]
    rfl
  obtain ⟨g, q, only⟩ := e.raise_only F.MEM_EVENTS_SCRUB_DONE 0
  simp only [ends]
  refine ⟨Device.get_raise_same _ _ _ (by decide), by rw [only, he]; rfl, by rw [only, he]; rfl, ?_⟩
  rw [Device.get_raise _ _ _ _ _ (.inl (by decide)) (.inl (by decide)), he]
  exact Device.get_put_same ..

end Stack

/-! ### The end of a rate change -/

theorem forN_same {α : Type} (π : Device → α) {g : Nat → Device → Device} (hg : ∀ k d, π (g k d) = π d) (n : Nat) (d : Device) :
    π (forN n g d) = π d := by
  have key : ∀ (l : List Nat) (d : Device), π (forL l g d) = π d := by
    intro l
    induction l with
    | nil => exact fun _ => rfl
    | cons k l ih => exact fun d => (ih _).trans (hg k d)
  exact key (List.range n) d

/-- What a change of the power state looks at. -/
def Device.changing (d : Device) : Option Fchg × Option PwrChange × List Nat × Pwr := (d.fchg, d.change, d.clkWait, d.pwr)

theorem Device.Side.changing {b : Bool} {l : List Fld} {d e : Device} (h : d.Side b l e) : e.changing = d.changing :=
  (congrArg Device.changing h.2 :)

section Fchg

variable (d : Device)

theorem Device.releaseHeld_changing (c : Nat) : (d.releaseHeld c).changing = d.changing := by
  refine forN_same Device.changing (fun k d => ?_) 64 d
  unfold Device.refill
  split
  · rfl
  · split <;> rfl

theorem Device.enter_shows (p : Pwr) : (d.enter p).changing = (d.fchg, none, d.clkWait, p) ∧
    d.keeps (d.enter p) (but [F.SYS_PWR_STATUS_RESULT, F.SYS_PWR_STATUS_BUSY, F.BBOX_LOST_COUNT, F.SYS_EVENTS_PWR_DONE]) := by
  obtain ⟨e, he⟩ : ∃ e, e = ({ d with pwr := p } : Device).pwrEnd 1 := ⟨_, rfl⟩
  obtain ⟨g, q, recorded⟩ := e.record_only 0x0005 0 (d.pwr.target * 256 + p.target) 0
  obtain ⟨g', q', raised⟩ := (e.record 0x0005 0 (d.pwr.target * 256 + p.target) 0).raise_only F.SYS_EVENTS_PWR_DONE 0
  have entered : d.enter p = (e.record 0x0005 0 (d.pwr.target * 256 + p.target) 0).raise F.SYS_EVENTS_PWR_DONE := by rw [he]; rfl
  rw [entered]
  refine ⟨by rw [raised, recorded, he]; rfl, ?_⟩
  refine Device.keeps_trans (Device.keeps_trans (e := e) ?_ (e.keeps_record _ _ _ _ (by simp))) (Device.keeps_raise _ _ _ (by simp))
  rw [he]
  exact Device.keeps_trans (Device.keeps_trans (Device.keeps_of_regs rfl _) (Device.keeps_put { d with pwr := p, change := none } F.SYS_PWR_STATUS_RESULT 0 1
    (but_apart (by simp)))) (Device.keeps_put _ F.SYS_PWR_STATUS_BUSY 0 0 (but_apart (by simp)))

/-- The fields that the end of a change of the power state shows itself in. -/
def progressShown : List Fld := [F.SYS_PWR_STATUS_RESULT, F.SYS_PWR_STATUS_BUSY, F.BBOX_LOST_COUNT, F.SYS_EVENTS_PWR_DONE, F.RST_CLK_STATUS_IN_RESET] ++ coreShown

theorem coreShown_progress : ∀ f ∈ coreShown, f ∈ progressShown := fun _ => List.mem_append_right _

theorem Device.pwrProgress_standby (hc : d.change = some .toStandby) (hf : d.fchg = none) :
    d.pwrProgress.changing = (none, none, d.clkWait, .standby) ∧ d.keeps d.pwrProgress (but progressShown) := by
  obtain ⟨changing, kept⟩ := d.enter_shows .standby
  obtain ⟨e, he⟩ : ∃ e, e = (d.enter .standby).put F.RST_CLK_STATUS_IN_RESET 0 0xFF0 := ⟨_, rfl⟩
  have ends : d.pwrProgress = (e.lanesAgain (fun _ => true)).touchRefresh := by
    unfold Device.pwrProgress
    rw [hc, he]
    exact if_neg (by rw [hf]; decide)
  have rest : e.Side true coreShown (e.lanesAgain (fun _ => true)).touchRefresh :=
    ((e.lanesAgain_side _).mono againShown_core).trans ((Device.touchRefresh_side _).mono touchShown_core)
  rw [ends]
  refine ⟨rest.changing.trans ?_, Device.keeps_trans ?_ (rest.mono coreShown_progress).1⟩
  · rw [he, ← hf]; exact changing
  · rw [he]
    exact Device.keeps_trans (Device.keeps_mono kept (but_mono (by simp +contextual [progressShown])))
      (Device.keeps_put _ F.RST_CLK_STATUS_IN_RESET 0 _ (but_apart (by simp [progressShown])))

theorem Device.pwrProgress_ready (hc : d.change = some .toReady) (hf : d.fchg = none) (hw : d.clkWait = []) :
    d.pwrProgress.changing = (none, none, [], .ready) ∧ d.keeps d.pwrProgress (but progressShown) := by
  obtain ⟨e, he⟩ : ∃ e : Device, e = { d with scrubStart := d.now } := ⟨_, rfl⟩
  obtain ⟨changing, kept⟩ := e.enter_shows .ready
  have ends : d.pwrProgress = (e.enter .ready).coreUp := by
    unfold Device.pwrProgress
    rw [hc, he]
    exact if_neg (by rw [hf, hw]; decide)
  have rest := (e.enter .ready).coreUp_side
  rw [ends]
  refine ⟨rest.changing.trans (changing.trans ?_), Device.keeps_trans ?_ (rest.mono coreShown_progress).1⟩
  · rw [he, ← hf, ← hw]
  · exact Device.keeps_trans (Device.keeps_of_regs (by rw [he]) _) (Device.keeps_mono kept (but_mono (by simp +contextual [progressShown])))

theorem Device.pwrProgress_waits (h : d.change = none ∨ d.change = some .toReady ∧ d.clkWait ≠ []) : d.pwrProgress = d := by
  unfold Device.pwrProgress
  rcases h with h | ⟨h, hw⟩
  · rw [h]
  · rw [h]
    exact if_pos (by simp [hw])

/-- The rate has changed: what goes on from here. -/
theorem Device.fchgLock_goes {k : Fchg} (hk : d.fchg = some k) (hp : d.pwr ≠ .failed) :
    ∃ e : Device, e.changing = (none, d.change, d.clkWait, d.pwr) ∧ e.get F.MEM_EVENTS_FCHG_DONE = 1 ∧ e.get F.MEM_STATUS_FCHG_BUSY = 0 ∧
      d.fchgLock = e.pwrProgress := by
  obtain ⟨e, he⟩ : ∃ e, e = (({ d with fchg := none } : Device).put F.MEM_STATUS_TIMING 0 (if k = .toStandby then 1 else 0)).put
        F.MEM_SR_STATUS_SR 0 (if k = .toStandby then 0xFFFEFFFE else 0) := ⟨_, rfl⟩
  obtain ⟨f, hf⟩ : ∃ f, f = forN 32 (fun (ch : Nat) (d : Device) => d.releaseHeld ch) e := ⟨_, rfl⟩
  have changing : f.changing = (none, d.change, d.clkWait, d.pwr) := by
    rw [hf, forN_same Device.changing (fun k d => d.releaseHeld_changing k), he]
    rfl
  obtain ⟨g, q, raised⟩ := (f.put F.MEM_STATUS_FCHG_BUSY 0 0).raise_only F.MEM_EVENTS_FCHG_DONE 0
  refine ⟨(f.put F.MEM_STATUS_FCHG_BUSY 0 0).raise F.MEM_EVENTS_FCHG_DONE, by rw [raised]; exact changing, Device.get_raise_same _ _ _ (by decide), ?_, ?_⟩
  · exact (Device.get_raise _ _ _ _ _ (.inl (by decide)) (.inl (by decide))).trans (Device.get_put_same ..)
  · unfold Device.fchgLock
    simp only [hk, if_neg hp, ← he, ← hf]

end Fchg

theorem memFchgLock_ends (s : State) (k : Fchg) (hk : s.chip.dev.fchg = some k) (hp : s.chip.dev.pwr ≠ .failed) :
    let d := s.chip.dev
    ∃ t, exec .memFchgLock s = .next t ∧ t.chip.mem = s.chip.mem ∧ t.chip.dev.fchg = none ∧
      t.chip.dev.get F.MEM_EVENTS_FCHG_DONE = 1 ∧ t.chip.dev.get F.MEM_STATUS_FCHG_BUSY = 0 ∧
      (d.change = none → t.chip.dev.pwr = d.pwr) ∧
      (d.change = some .toStandby → t.chip.dev.pwr = .standby ∧ t.chip.dev.change = none) ∧
      (d.change = some .toReady → d.clkWait = [] → t.chip.dev.pwr = .ready ∧ t.chip.dev.change = none) ∧
      (d.change = some .toReady → d.clkWait ≠ [] → t.chip.dev.pwr = d.pwr ∧ t.chip.dev.change = some .toReady) := by
  intro d
  obtain ⟨e, changing, raised, busy, goes⟩ := d.quiet.fchgLock_goes hk hp
  obtain ⟨t, ht, hm, hd⟩ := onDev_next (s := s) (c := .memFchgLock) (f := Device.fchgLock) rfl goes
  simp only [Device.changing, Prod.mk.injEq] at changing
  obtain ⟨fchg, change, wait, pwr⟩ := changing
  have closed (h : e.keeps t.chip.dev (but progressShown)) : t.chip.dev.get F.MEM_EVENTS_FCHG_DONE = 1 ∧ t.chip.dev.get F.MEM_STATUS_FCHG_BUSY = 0 :=
    ⟨(h.1 _ 0 (by decide)).trans raised, (h.1 _ 0 (by decide)).trans busy⟩
  have waits (h : e.change = none ∨ e.change = some .toReady ∧ e.clkWait ≠ []) : t.chip.dev = e := hd.trans (e.pwrProgress_waits h)
  match hc : d.change with
  | none =>
    have now := waits (.inl (change.trans hc))
    obtain ⟨done, free⟩ := closed (by rw [now]; exact e.keeps_refl _)
    exact ⟨t, ht, hm, by rw [now, fchg], done, free, fun _ => by rw [now, pwr]; rfl, by simp, by simp, by simp⟩
  | some .toStandby =>
    obtain ⟨ended, kept⟩ := e.pwrProgress_standby (change.trans hc) fchg
    rw [← hd] at ended kept
    obtain ⟨done, free⟩ := closed kept
    simp only [Device.changing, Prod.mk.injEq] at ended
    obtain ⟨fchg', change', -, pwr'⟩ := ended
    exact ⟨t, ht, hm, fchg', done, free, by simp, fun _ => ⟨pwr', change'⟩, by simp, by simp⟩
  | some .toReady =>
    by_cases hw : d.clkWait = []
    · obtain ⟨ended, kept⟩ := e.pwrProgress_ready (change.trans hc) fchg (wait.trans hw)
      rw [← hd] at ended kept
      obtain ⟨done, free⟩ := closed kept
      simp only [Device.changing, Prod.mk.injEq] at ended
      obtain ⟨fchg', change', -, pwr'⟩ := ended
      exact ⟨t, ht, hm, fchg', done, free, by simp, by simp, fun _ _ => ⟨pwr', change'⟩, fun _ h => absurd hw h⟩
    · have now := waits (.inr ⟨change.trans hc, fun h => hw (wait.symm.trans h)⟩)
      obtain ⟨done, free⟩ := closed (by rw [now]; exact e.keeps_refl _)
      exact ⟨t, ht, hm, by rw [now, fchg], done, free, by simp, by simp, fun _ h => absurd h hw, fun _ _ => ⟨by rw [now, pwr]; rfl, by rw [now, change]; exact hc⟩⟩

theorem memFchgTimeout_fails (s : State) (k : Fchg) (hk : s.chip.dev.fchg = some k) (hp : s.chip.dev.pwr ≠ .failed) :
    ∃ t, exec .memFchgTimeout s = .next t ∧ t.chip.mem = s.chip.mem ∧ t.chip.dev.pwr = .failed ∧ t.chip.dev.change = none ∧
      t.chip.dev.get F.SYS_PWR_STATUS_RESULT = 6 ∧ t.chip.dev.get F.MEM_EVENTS_FCHG_FAIL = 1 ∧ t.chip.dev.get F.SYS_EVENTS_PWR_FAIL = 1 := by
  obtain ⟨e, he⟩ : ∃ e, e = ({ s.chip.dev.quiet with pwr := .failed } : Device).pwrEnd 6 := ⟨_, rfl⟩
  have fails : s.chip.dev.quiet.fchgTimeout = (e.raise F.MEM_EVENTS_FCHG_FAIL).raise F.SYS_EVENTS_PWR_FAIL := by
    rw [he]
    exact if_neg (by simp [hk, hp])
  obtain ⟨g, q, first⟩ := e.raise_only F.MEM_EVENTS_FCHG_FAIL 0
  obtain ⟨g', q', second⟩ := (e.raise F.MEM_EVENTS_FCHG_FAIL).raise_only F.SYS_EVENTS_PWR_FAIL 0
  have result : e.get F.SYS_PWR_STATUS_RESULT = 6 := by
    rw [he]
    exact (Device.get_put_ne _ _ _ _ _ _ (by decide)).trans (Device.get_put_same ..)
  obtain ⟨t, ht, hm, hd⟩ := onDev_next (s := s) (c := .memFchgTimeout) (f := Device.fchgTimeout) rfl fails
  refine ⟨t, ht, hm, by rw [hd, second, first, he]; rfl, by rw [hd, second, first, he]; rfl, ?_⟩
  rw [hd]
  refine ⟨?_, ?_, Device.get_raise_same _ _ _ (by decide)⟩
  · rw [Device.get_raise _ _ _ _ _ (.inl (by decide)) (.inl (by decide)), Device.get_raise _ _ _ _ _ (.inl (by decide)) (.inl (by decide)), result]
  · rw [Device.get_raise _ _ _ _ _ (.inl (by decide)) (.inl (by decide))]
    exact Device.get_raise_same _ _ _ (by decide)

theorem memStackTemp_shows (s : State) (k temp : Nat) (hk : k < 2) (ht : temp < 256) :
    let d := s.chip.dev
    (85 < temp → ∃ t, exec (.memStackTempHigh k temp) s = .next t ∧ t.chip.mem = s.chip.mem ∧ t.chip.dev.get (tempFld k) = temp ∧
      t.chip.dev.get (hotFld k) = 1 ∧ (d.get (hotFld k) = 0 → t.chip.dev.get F.MEM_EVENTS_TEMP_HIGH = 1) ∧
      d.keeps t.chip.dev (but [hotFld k, tempFld k, F.MEM_EVENTS_TEMP_HIGH])) ∧
    (temp ≤ 85 → ∃ t, exec (.memStackTempNormal k temp) s = .next t ∧ t.chip.mem = s.chip.mem ∧ t.chip.dev.get (tempFld k) = temp ∧
      t.chip.dev.get (hotFld k) = 0 ∧ t.chip.dev.evq = d.evq ∧ d.keeps t.chip.dev (but [hotFld k, tempFld k])) := by
  refine ⟨fun hot => ?_, fun cool => ?_⟩
  · have shows := s.chip.dev.quiet.stackTemp_hot hk ht hot
    obtain ⟨t, ran, hm, hd⟩ := onDev_next (s := s) (c := .memStackTempHigh k temp) (f := Device.stackTemp k temp) rfl rfl
    rw [← hd] at shows
    exact ⟨t, ran, hm, shows⟩
  · have shows := s.chip.dev.quiet.stackTemp_cool hk ht cool
    obtain ⟨t, ran, hm, hd⟩ := onDev_next (s := s) (c := .memStackTempNormal k temp) (f := fun d => d.stackTemp k temp) rfl rfl
    rw [← hd] at shows
    exact ⟨t, ran, hm, shows⟩

theorem memScrubPassEnd_counts (s : State) (h : s.chip.dev.scrubOn = true) :
    let d := s.chip.dev
    ∃ t, exec .memScrubPassEnd s = .next t ∧ t.chip.mem = s.chip.mem ∧ t.chip.dev.get F.MEM_EVENTS_SCRUB_DONE = 1 ∧
      t.chip.dev.scrubStart = t.chip.dev.now ∧ t.chip.dev.scrubDone = 0 ∧
      t.chip.dev.get F.MEM_SCRUB_STATUS_PASSES = (d.get F.MEM_SCRUB_STATUS_PASSES + 1) % 2 ^ F.MEM_SCRUB_STATUS_PASSES.width := by
  have counts := s.chip.dev.quiet.scrubEnd_counts h
  obtain ⟨t, ran, hm, hd⟩ := onDev_next (s := s) (c := .memScrubPassEnd) (f := Device.scrubEnd) rfl rfl
  rw [← hd] at counts
  exact ⟨t, ran, hm, counts⟩

/-- Settles O44: engines, refreshes, temperatures, scrub passes, and both ends of a rate change. -/
theorem memoryMaintenanceKeepsData : Obligations.MemoryMaintenanceKeepsData :=
  ⟨fun s e he => engineWatchdogExpire_stops s e he, fun s => ⟨fun c b hc hb held => memRefreshDue_acts s c b hc hb held,
    fun k temp hk ht => memStackTemp_shows s k temp hk ht, fun h => memScrubPassEnd_counts s h,
    fun k hk hp => ⟨memFchgLock_ends s k hk hp, memFchgTimeout_fails s k hk hp⟩⟩⟩

end Sys2Proof.Machine
end

section
/-!
SUPPORT. References, freezes and margin checks: O38.
-/

namespace Sys2Proof.Machine

/-! ### The states of lanes -/

theorem forL_indexed {α : Type} (π : Device → Nat → α) {P : Device → Prop} {g : Nat → Device → Device} {v : Nat → α}
    (hP : ∀ k d, P d → P (g k d)) (hg : ∀ k d, P d → ∀ j, π (g k d) j = if j = k then v k else π d j) (l : List Nat) :
    ∀ d, P d → P (forL l g d) ∧ ∀ j, π (forL l g d) j = if j ∈ l then v j else π d j := by
  induction l with
  | nil => exact fun d hd => ⟨hd, fun j => rfl⟩
  | cons k l ih =>
    intro d hd
    obtain ⟨holds, values⟩ := ih (g k d) (hP k d hd)
    refine ⟨holds, fun j => (values j).trans ?_⟩
    rw [hg k d hd j]
    by_cases hj : j = k
    · subst hj; simp
    · simp [hj]

/-- The fields that a lane's domain and reference stand in. -/
def aliveFields : List Fld := [F.RST_CLK_STATUS_IN_RESET, F.RST_STRAPS_CLKMODE, F.LANE_REFCLK_LOSS_LANE0, F.LANE_REFCLK_LOSS_LANE1, F.LANE_REFCLK_LOSS_SYS]

/-- The fields that say which lanes a port has and how they come up. -/
def modeFields : List Fld := [F.NET_PORT_CFG_MODE, F.NET_PORT_CFG_AN, F.NET_PORT_CFG_EN]

theorem lossFld_mem (r : Nat) : lossFld r ∈ aliveFields := by
  unfold lossFld aliveFields
  split <;> simp

section Congruence

variable {d e : Device}

theorem Device.laneRef_of_get (h : ∀ f ∈ aliveFields, e.get f = d.get f) (k : Nat) : e.laneRef k = d.laneRef k := by
  rw [laneRef, h _ (by simp [aliveFields]), laneRef]

theorem Device.laneAlive_of_get (h : ∀ f ∈ aliveFields, e.get f = d.get f) (hp : e.pwr = d.pwr) (k : Nat) : e.laneAlive k = d.laneAlive k := by
  have loss (r : Nat) : e.on (lossFld r) = d.on (lossFld r) := by rw [on, h _ (lossFld_mem r), on]
  have reset : e.get F.RST_CLK_STATUS_IN_RESET = d.get F.RST_CLK_STATUS_IN_RESET := h _ (by simp [aliveFields])
  simp only [laneAlive, inReset, pd1On, laneRef_of_get h, loss, reset, hp]

theorem Device.portLanes_of_get (h : ∀ i, e.get F.NET_PORT_CFG_MODE i = d.get F.NET_PORT_CFG_MODE i) (p : Nat) : e.portLanes p = d.portLanes p := by
  rw [portLanes, h, portLanes]

theorem Device.portExists_of_get (h : ∀ i, e.get F.NET_PORT_CFG_MODE i = d.get F.NET_PORT_CFG_MODE i) (p : Nat) : e.portExists p = d.portExists p := by
  rw [portExists, h, portExists]

theorem Device.portAn_of_get (h : ∀ i, ∀ f ∈ modeFields, e.get f i = d.get f i) (p : Nat) : e.portAn p = d.portAn p := by
  rw [portAn, on, h p _ (by simp [modeFields]), h p F.NET_PORT_CFG_MODE (by simp [modeFields]), portAn, on]

variable {b : Bool} {l : List Fld}

theorem Device.Side.pwr (h : d.Side b l e) : e.pwr = d.pwr := (congrArg Device.pwr h.2 :)
theorem Device.Side.now (h : d.Side b l e) : e.now = d.now := (congrArg Device.now h.2 :)

theorem Device.Side.laneAlive (h : d.Side b l e) (hl : ∀ f ∈ aliveFields, but l f = true) (k : Nat) : e.laneAlive k = d.laneAlive k :=
  laneAlive_of_get (fun f hf => h.get (hl f hf) 0) h.pwr k

theorem Device.Side.portLanes (h : d.Side b l e) (hl : ∀ f ∈ modeFields, but l f = true) (p : Nat) : e.portLanes p = d.portLanes p :=
  portLanes_of_get (fun i => h.get (hl _ (by simp [modeFields])) i) p

theorem Device.Side.portExists (h : d.Side b l e) (hl : ∀ f ∈ modeFields, but l f = true) (p : Nat) : e.portExists p = d.portExists p :=
  portExists_of_get (fun i => h.get (hl _ (by simp [modeFields])) i) p

theorem Device.Side.portAn (h : d.Side b l e) (hl : ∀ f ∈ modeFields, but l f = true) (p : Nat) : e.portAn p = d.portAn p :=
  portAn_of_get (fun i f hf => h.get (hl f hf) i) p

end Congruence

theorem startShown_apart : (∀ f ∈ aliveFields, but startShown f = true) ∧ ∀ f ∈ modeFields, but startShown f = true := by decide
theorem laneShown_apart : (∀ f ∈ aliveFields, but laneShown f = true) ∧ ∀ f ∈ modeFields, but laneShown f = true := by decide

section States

variable (d : Device)

/-- A lane as it enters a state. -/
def LaneX.entered (x : LaneX) (now st : Nat) : LaneX :=
  { x with locked := false, since := now, checking := false, lowTd := x.lowTd && decide (st ≠ 0), unusable := false }

theorem Device.setLane_states (l st : Nat) (hst : st < 8) (k : Nat) :
    (d.setLane l st).laneSt k = (if k = l then st else d.laneSt k) ∧
    ((d.setLane l st).laneX k = if k = l then (d.laneX l).entered d.now st else d.laneX k) ∧
    (d.setLane l st).lanes.everUp = d.lanes.everUp ∧ (d.setLane l st).lanes.failed = d.lanes.failed := by
  obtain ⟨e, he⟩ : ∃ e, e = d.setLaneX l ((d.laneX l).entered d.now st) := ⟨_, rfl⟩
  obtain ⟨f, hf⟩ : ∃ f, f = if st = 0 ∨ st = 6 ∨ st = 7 then e.put F.LANE_STATUS_SIGNAL l 0 else e := ⟨_, rfl⟩
  obtain ⟨g, hg⟩ : ∃ g, g = (f.put F.LANE_STATUS_STATE l st).laneFreeze l := ⟨_, rfl⟩
  have set : d.setLane l st = g.scanGuard := by rw [hg, hf, he]; rfl
  have quiet : f.laneSt k = d.laneSt k ∧ f.lanes = e.lanes := by
    rw [hf]
    split
    · exact ⟨(Device.get_put_ne _ _ _ _ _ _ (by decide)).trans (by rw [he]; rfl), rfl⟩
    · exact ⟨by rw [he]; rfl, rfl⟩
  have state : g.laneSt k = if k = l then st else d.laneSt k := by
    have frozen : g.laneSt k = (f.put F.LANE_STATUS_STATE l st).laneSt k := by rw [hg]; exact Device.get_put_ne _ _ _ _ _ _ (by decide)
    rw [frozen, Device.laneSt, Device.get_put]
    split
    next h => rw [if_pos h.2.symm]; exact (Nat.mod_mod _ _).trans (Nat.mod_eq_of_lt (show st < 16 by omega))
    next h => rw [if_neg fun e => h ⟨rfl, e.symm⟩]; exact quiet.1
  have lanes : g.lanes = { d.lanes with lane := Tab.set d.lanes.lane l ((d.laneX l).entered d.now st) } := by
    rw [show g.lanes = f.lanes by rw [hg]; rfl, quiet.2, he]
    rfl
  obtain ⟨x, guarded⟩ := g.scanGuard_lanes
  rw [set]
  refine ⟨((scanGuard_side g).get (by decide) k).trans state, ?_, by rw [guarded, lanes], by rw [guarded, lanes]⟩
  rw [Device.laneX, guarded, lanes, Tab.get_set]
  simp only [eq_comm, Device.laneX]

/-- What entering states leaves of the lanes' own record. -/
def Device.SameUps (d e : Device) : Prop := Side true laneShown d e ∧ e.lanes.everUp = d.lanes.everUp ∧ e.lanes.failed = d.lanes.failed

theorem Device.SameUps.setLane {e : Device} (h : d.SameUps e) (l : Nat) {st : Nat} (hst : st < 8) : d.SameUps (e.setLane l st) := by
  obtain ⟨side, ever, failed⟩ := h
  obtain ⟨-, -, ever', failed'⟩ := e.setLane_states l st hst 0
  exact ⟨side.trans (e.setLane_side l st), ever'.trans ever, failed'.trans failed⟩

/-- The lanes of a list enter states that the device itself does not change. -/
theorem Device.setLanes_states {v : Device → Nat → Nat} (hv : ∀ {d e : Device}, Side true laneShown d e → ∀ k, v e k = v d k)
    (hlt : ∀ (d : Device) k, v d k < 8) (ls : List Nat) :
    let e := forL ls (fun l (d : Device) => d.setLane l (v d l)) d
    d.SameUps e ∧ ∀ k, e.laneSt k = if k ∈ ls then v d k else d.laneSt k :=
  forL_indexed (P := d.SameUps) (g := fun l e => e.setLane l (v e l)) (v := v d) (fun j k => j.laneSt k) (fun k e h => h.setLane d k (hlt e k))
    (fun k e h j => by rw [(e.setLane_states k _ (hlt e k) j).1, hv h.1]) ls d ⟨.refl d, rfl, rfl⟩

/-- Where a lane starts its bring-up. -/
def Device.firstSt (p k : Nat) : Nat := if d.laneAlive k then (if d.portAn p then 1 else 3) else 0

theorem Device.firstSt_lt (p k : Nat) : d.firstSt p k < 8 ∧ d.firstSt p k ≠ 5 := by
  unfold firstSt
  split_ifs <;> decide

theorem Device.Side.firstSt {b : Bool} {l : List Fld} {d e : Device} (h : d.Side b l e) (hl : (∀ f ∈ aliveFields, but l f = true) ∧ ∀ f ∈ modeFields, but l f = true)
    (p k : Nat) : e.firstSt p k = d.firstSt p k := by
  rw [Device.firstSt, h.laneAlive hl.1, h.portAn hl.2, Device.firstSt]

theorem Device.portRefresh_laneSt (p k : Nat) : (d.portRefresh p).laneSt k = d.laneSt k := (d.portRefresh_shows p).1.get (by decide) k

theorem Device.portLanes_self (p : Nat) : p ∈ d.portLanes p := by
  unfold portLanes
  split <;> simp

/-- The state of a port with a lane that is not UP. -/
def Device.downState (p : Nat) : Nat :=
  if !d.on F.NET_PORT_CFG_EN p || !d.portExists p then 0
  else if decide (p ∈ d.lanes.everUp) || decide (p ∈ d.lanes.failed) then 3 else 1

theorem Device.portState_down {p k : Nat} (hk : k ∈ d.portLanes p) (h : d.laneSt k ≠ 5) : d.portState p = d.downState p := by
  have lanes : (d.portLanes p).all (fun l => decide (d.laneSt l = 5)) = false := by
    rw [List.all_eq_false]
    exact ⟨k, hk, by simpa using h⟩
  unfold portState downState
  rw [lanes, if_neg (Bool.false_ne_true)]

theorem Device.downState_lt (p : Nat) : d.downState p % 4 = d.downState p ∧ d.downState p ≠ 2 := by
  unfold downState
  split_ifs <;> decide

theorem Device.SameUps.downState {d e : Device} (h : d.SameUps e) (p : Nat) : e.downState p = d.downState p := by
  obtain ⟨side, ever, failed⟩ := h
  rw [Device.downState, ever, failed, side.on (laneShown_apart.2 _ (by simp [modeFields])), side.portExists laneShown_apart.2, Device.downState]

/-- A port whose lanes have entered states other than UP. -/
theorem Device.portRefresh_down {e : Device} {p : Nat} (h : d.SameUps e) (hst : e.laneSt p ≠ 5) :
    let g := e.portRefresh p
    g.get F.NET_PORT_STATUS_STATE p = d.downState p ∧ (d.get F.NET_PORT_STATUS_STATE p = 2 → g.get F.NET_EVENTS_PORT_DOWN = 1) := by
  obtain ⟨-, -, state, -, down⟩ := e.portRefresh_shows p
  have is : e.portState p = d.downState p := (e.portState_down (e.portLanes_self p) hst).trans (h.downState p)
  rw [is] at state down
  exact ⟨state.trans (d.downState_lt p).1, fun was => down (d.downState_lt p).2 ((h.1.get (by decide) p).trans was)⟩

theorem Device.portStart_shows (p : Nat) :
    let e := d.portStart p
    (∀ k, e.laneSt k = if k ∈ d.portLanes p then d.firstSt p k else d.laneSt k) ∧ e.get F.NET_PORT_STATUS_STATE p = d.downState p ∧
    (d.get F.NET_PORT_STATUS_STATE p = 2 → e.get F.NET_EVENTS_PORT_DOWN = 1) := by
  obtain ⟨f, hf⟩ : ∃ f, f = forL (d.portLanes p) (fun l (d : Device) => d.setLane l (d.firstSt p l)) d := ⟨_, rfl⟩
  obtain ⟨side, states⟩ := d.setLanes_states (v := fun d k => d.firstSt p k) (fun h k => h.firstSt laneShown_apart p k) (fun d k => (d.firstSt_lt p k).1) (d.portLanes p)
  rw [← hf] at side states
  have first : f.laneSt p ≠ 5 := by rw [states p, if_pos (d.portLanes_self p)]; exact (d.firstSt_lt p p).2
  have shown := d.portRefresh_down side first
  obtain ⟨g, hg⟩ : ∃ g, g = f.portRefresh p := ⟨_, rfl⟩
  have lanes (k : Nat) : g.laneSt k = f.laneSt k := by rw [hg]; exact f.portRefresh_laneSt p k
  have start : d.portStart p = if g.laneSt p = 1 then g.emit (.advertise p (g.get F.NET_PORT_CFG_MODE p)
      (decide (g.get F.NET_PORT_CFG_MODE p = 1) && g.on F.NET_PORT_CFG_FEC p)) else g := by rw [hg, hf]; rfl
  have regs : (d.portStart p).regs = g.regs := by
    rw [start]
    split <;> rfl
  rw [← hg] at shown
  have gets (f : Fld) (i : Nat) : (d.portStart p).get f i = g.get f i := Device.get_congr regs f i
  exact ⟨fun k => (gets ..).trans ((lanes k).trans (states k)), (gets ..).trans shown.1, fun was => (gets ..).trans (shown.2 was)⟩

theorem Device.portOff_shows (p : Nat) :
    let e := d.portOff p
    (∀ k, e.laneSt k = if k ∈ d.portLanes p then 0 else d.laneSt k) ∧ e.get F.NET_PORT_STATUS_STATE p = d.downState p := by
  obtain ⟨f, hf⟩ : ∃ f, f = forL (d.portLanes p) (fun l (d : Device) => d.setLane l 0) d := ⟨_, rfl⟩
  obtain ⟨side, states⟩ := d.setLanes_states (v := fun _ _ => 0) (fun _ _ => rfl) (fun _ _ => by decide) (d.portLanes p)
  rw [← hf] at side states
  have off : d.portOff p = f.portRefresh p := by rw [hf]; rfl
  simp only [off]
  exact ⟨fun k => (f.portRefresh_laneSt p k).trans (states k),
    (d.portRefresh_down side (by rw [states p, if_pos (d.portLanes_self p)]; decide)).1⟩

end States

/-! ### References of lanes -/

/-- The fields that change while media ports start again leave what says how they start. -/
theorem againShown_apart : (∀ f ∈ aliveFields, but againShown f = true) ∧ ∀ f ∈ modeFields, but againShown f = true := by decide

theorem forL_same {α β : Type} (π : Device → α) {g : β → Device → Device} (ls : List β) (hg : ∀ k ∈ ls, ∀ d, π (g k d) = π d) :
    ∀ d, π (forL ls g d) = π d := by
  induction ls with
  | nil => exact fun _ => rfl
  | cons k ls ih =>
    obtain ⟨hk, hls⟩ := List.forall_mem_cons.mp hg
    exact fun d => (ih hls _).trans (hk d)

section Ports

variable (d : Device)

/-- Two ports that exist share no lane. -/
theorem Device.portLanes_apart {p q k : Nat} (hp : d.portExists p = true) (hq : d.portExists q = true) (hk : k ∈ d.portLanes p)
    (hk' : k ∈ d.portLanes q) : p = q := by
  simp only [portExists, Bool.and_eq_true, Bool.or_eq_true, decide_eq_true_eq] at hp hq
  obtain ⟨-, hp⟩ := hp
  obtain ⟨-, hq⟩ := hq
  have quad {p : Nat} (h : p % 4 = 0 ∨ d.get F.NET_PORT_CFG_MODE (p / 4 * 4) ≠ 2) (hk : k ∈ d.portLanes p) :
      p = k ∧ (p % 4 = 0 ∨ d.get F.NET_PORT_CFG_MODE (k / 4 * 4) ≠ 2) ∨ p = k / 4 * 4 ∧ d.get F.NET_PORT_CFG_MODE (k / 4 * 4) = 2 := by
    unfold portLanes at hk
    split at hk
    next mode =>
      simp only [List.mem_cons, List.not_mem_nil, or_false] at hk
      have : p = k / 4 * 4 := by omega
      exact .inr ⟨this, this ▸ mode.1⟩
    next =>
      obtain rfl := List.mem_singleton.mp hk
      exact .inl ⟨rfl, h⟩
  rcases quad hp hk with ⟨h, m⟩ | ⟨h, m⟩ <;> rcases quad hq hk' with ⟨h', m'⟩ | ⟨h', m'⟩
  · exact h.trans h'.symm
  · rcases m with m | m
    · omega
    · exact absurd m' m
  · rcases m' with m' | m'
    · omega
    · exact absurd m m'
  · exact h.trans h'.symm

theorem Device.portLanes_quad {p k : Nat} (hp : p < 28) (hk : k ∈ d.portLanes p) : k < 28 ∧ k / 4 = p / 4 := by
  unfold portLanes at hk
  split at hk
  next h =>
    simp only [List.mem_cons, List.not_mem_nil, or_false] at hk
    omega
  next h =>
    simp only [List.mem_singleton] at hk
    omega

theorem Device.laneRef_port {p k : Nat} (hp : p < 28) (hk : k ∈ d.portLanes p) : d.laneRef k = d.laneRef p := by
  obtain ⟨hk28, quad⟩ := d.portLanes_quad hp hk
  unfold laneRef
  rw [decide_eq_false (show ¬ k ≥ 28 by omega), decide_eq_false (show ¬ p ≥ 28 by omega)]
  have side : k < 16 ↔ p < 16 := by omega
  simp only [side]

/-- The ports that start again after a change of the lanes that `f` selects. -/
def Device.chosen (f : Nat → Bool) : List Nat := (List.range 28).filter (fun p => d.portExists p && d.on F.NET_PORT_CFG_EN p && f p)

theorem Device.mem_chosen {f : Nat → Bool} {p : Nat} : p ∈ d.chosen f ↔ p < 28 ∧ d.portExists p = true ∧ d.on F.NET_PORT_CFG_EN p = true ∧ f p = true := by
  simp [chosen, and_assoc]

theorem Device.startPorts_laneSt {p k : Nat} (hk : k ∈ d.portLanes p) (hp : d.portExists p = true) :
    ∀ (ps : List Nat) {e : Device}, Side true startShown d e → (∀ q ∈ ps, d.portExists q = true) → (p ∈ ps ∨ e.laneSt k = d.firstSt p k) →
      (forL ps (fun p (d : Device) => d.portStart p) e).laneSt k = d.firstSt p k := by
  intro ps
  induction ps with
  | nil => exact fun _ _ h => h.elim (fun h => absurd h (by simp)) id
  | cons q ps ih =>
    intro e side exist h
    obtain ⟨hq, hps⟩ := List.forall_mem_cons.mp exist
    refine ih (side.trans (e.portStart_side q)) hps ?_
    by_cases hin : p ∈ ps
    · exact .inl hin
    · right
      rw [(e.portStart_shows q).1 k, side.portLanes startShown_apart.2, side.firstSt startShown_apart]
      by_cases hkq : k ∈ d.portLanes q
      · rw [if_pos hkq, d.portLanes_apart hp hq hk hkq]
      · rw [if_neg hkq]
        rcases h with h | h
        · rcases List.mem_cons.mp h with rfl | h
          · exact absurd hk hkq
          · exact absurd h hin
        · exact h

theorem Device.portsAgain_laneSt {f : Nat → Bool} {p k : Nat} (hp : p ∈ d.chosen f) (hk : k ∈ d.portLanes p) : (d.portsAgain f).laneSt k = d.firstSt p k :=
  d.startPorts_laneSt hk (d.mem_chosen.mp hp).2.1 (d.chosen f) (.refl d) (fun _ h => (d.mem_chosen.mp h).2.1) (.inl hp)

/-- The tether's lanes are the last four. -/
theorem Device.tetherAnew_laneSt {k : Nat} (hk : k < 28) : d.tetherAnew.laneSt k = d.laneSt k := by
  have apart (l : Nat) (hl : l ∈ tetherLanes) : k ≠ l := by
    simp only [tetherLanes, List.mem_cons, List.not_mem_nil, or_false] at hl
    omega
  have set (d : Device) (l st : Nat) (hst : st < 8) (hl : l ∈ tetherLanes) : (d.setLane l st).laneSt k = d.laneSt k :=
    (d.setLane_states l st hst k).1.trans (if_neg (apart l hl))
  have put (d : Device) (f : Fld) (v : Nat) (hf : f.id ≠ F.LANE_STATUS_STATE.id) : (d.put f 0 v).laneSt k = d.laneSt k := Device.get_put_ne _ _ _ _ _ _ hf
  have setX (d : Device) (l : Nat) (x : LaneX) : (d.setLaneX l x).laneSt k = d.laneSt k := rfl
  have guard (d : Device) : d.scanGuard.laneSt k = d.laneSt k := d.scanGuard_side.get (by decide) k
  have tried (d : Device) : d.tetherTry.laneSt k = d.laneSt k := by
    unfold tetherTry
    split
    · have lanes := forL_same (fun d => d.laneSt k) (g := fun l (d : Device) => (d.setLane l 2).setLaneX l
        { d.laneX l with retrain := 0, skip := false, locked := false, since := d.now, checking := true }) tetherLanes
        (fun l hl d => (setX (d.setLane l 2) l _).trans (set d l 2 (by decide) hl)) d
      generalize forL tetherLanes _ d = e at lanes ⊢
      exact (guard _).trans (((put _ _ _ (by decide)).trans ((put _ _ _ (by decide)).trans (put e _ _ (by decide)))).trans lanes)
    · have lanes := forL_same (fun d => d.laneSt k) (g := fun l (d : Device) => d.setLane l 0) tetherLanes (fun l hl d => set d l 0 (by decide) hl) d
      generalize forL tetherLanes _ d = e at lanes ⊢
      exact (guard _).trans (((put _ _ _ (by decide)).trans (put e _ _ (by decide))).trans lanes)
  have down (d : Device) : d.tetherDown.laneSt k = d.laneSt k := (d.tetherDown_side (b := true)).get (by decide) k
  have off (d : Device) : d.tetherOff.laneSt k = d.laneSt k := by
    unfold tetherOff
    extract_lets was d1 d2
    have lanes : d1.laneSt k = d.laneSt k :=
      forL_same (fun d => d.laneSt k) (g := fun l (d : Device) => d.setLane l 0) tetherLanes (fun l hl d => set d l 0 (by decide) hl) d
    have lanes2 : d2.laneSt k = d.laneSt k := (guard _).trans (((put _ _ _ (by decide)).trans (put d1 _ _ (by decide))).trans lanes)
    split
    · exact (down d2).trans lanes2
    · exact lanes2
  unfold tetherAnew
  split
  · split
    · exact tried d
    · rfl
  · refine (off _).trans ?_
    split
    · exact Device.get_raise _ _ _ _ _ (.inl (by decide)) (.inl (by decide))
    · rfl

theorem Device.lanesAgain_laneSt {f : Nat → Bool} {p k : Nat} (hp : p ∈ d.chosen f) (hk : k ∈ d.portLanes p) :
    (d.lanesAgain f).laneSt k = d.firstSt p k := by
  have ports := d.portsAgain_laneSt hp hk
  rw [d.lanesAgain_eq f]
  split
  · rw [Device.tetherAnew_laneSt _ (d.portLanes_quad (d.mem_chosen.mp hp).1 hk).1, ports]
  · exact ports

end Ports

/-! ### The loss and the return of a reference -/

theorem lossFields_apart : ∀ r < 3, (∀ f ∈ modeFields, but [lossFld r, F.LANE_EVENTS_REFCLK_LOSS] f = true) ∧
    but [lossFld r, F.LANE_EVENTS_REFCLK_LOSS] F.RST_STRAPS_CLKMODE = true ∧
    (∀ f ∈ [lossFld r, F.LANE_EVENTS_REFCLK_LOSS], [2, 8, 9, 10, 11].contains (f.id / 2097152) = true) ∧
    but againShown (lossFld r) = true ∧ F.LANE_EVENTS_REFCLK_LOSS.id ≠ (lossFld r).id ∧ F.HOST_EVENTS_EVQ_OVERFLOW.id ≠ (lossFld r).id ∧
    (lossFld r).width = 1 := by decide

section References

variable {d e : Device} {r : Nat}

/-- The field of a reference or the event of its loss has changed. -/
def Device.RefChanged (d : Device) (r : Nat) (e : Device) : Prop := Side false [lossFld r, F.LANE_EVENTS_REFCLK_LOSS] d e

theorem Device.RefChanged.laneRef (h : d.RefChanged r e) (hr : r < 3) (k : Nat) : e.laneRef k = d.laneRef k := by
  rw [Device.laneRef, h.get (lossFields_apart r hr).2.1, Device.laneRef]

theorem Device.RefChanged.chosen (h : d.RefChanged r e) (hr : r < 3) {p : Nat} (hp : p < 28) (hx : d.portExists p = true)
    (hen : d.on F.NET_PORT_CFG_EN p = true) (href : d.laneRef p = r) : p ∈ e.chosen (fun l => decide (d.laneRef l = r)) := by
  obtain ⟨modes, -⟩ := lossFields_apart r hr
  refine e.mem_chosen.mpr ⟨hp, (h.portExists modes p).trans hx, ?_, decide_eq_true href⟩
  exact (h.on (modes _ (by simp [modeFields])) p).trans hen

theorem Device.RefChanged.again (h : d.RefChanged r e) (hr : r < 3) :
    let g := e.lanesAgain (fun l => decide (d.laneRef l = r))
    g.berths = d.berths ∧ d.keeps g (outside [2, 8, 9, 10, 11]) ∧ g.get (lossFld r) = e.get (lossFld r) ∧
      (∀ k, g.laneAlive k = e.laneAlive k) ∧
      ∀ p, p < 28 ∧ d.portExists p = true ∧ d.on F.NET_PORT_CFG_EN p = true ∧ d.laneRef p = r → ∀ k ∈ d.portLanes p, g.laneSt k = e.firstSt p k := by
  obtain ⟨modes, -, blocks, stays, -⟩ := lossFields_apart r hr
  have side := e.lanesAgain_side (fun l => decide (d.laneRef l = r))
  refine ⟨side.berths.trans h.berths, ?_, side.get stays 0, side.laneAlive againShown_apart.1, fun p ⟨hp, hx, hen, href⟩ k hk => ?_⟩
  · exact Device.keeps_trans (Device.keeps_mono h.1 (but_of_outside blocks)) (Device.keeps_mono side.1 (but_of_outside (by decide)))
  · exact e.lanesAgain_laneSt (h.chosen hr hp hx hen href) (by rwa [h.portLanes modes])

theorem Device.RefChanged.off (h : d.RefChanged r e) (hr : r < 3) (lost : e.get (lossFld r) = 1) {p : Nat} (hp : p < 28) (href : d.laneRef p = r)
    (k : Nat) (hk : k ∈ d.portLanes p) : e.firstSt p k = 0 := by
  have fed : e.laneRef k = r := (h.laneRef hr k).trans ((d.laneRef_port hp hk).trans href)
  have dead : e.laneAlive k = false := by
    rw [Device.laneAlive, fed, Device.on, lost]
    simp
  exact if_neg (by rw [dead]; decide)

end References

theorem refclkLoss_shows (s : State) (r : Nat) (hr : r < 3) :
    let d := s.chip.dev
    let fed (p : Nat) : Prop := p < 28 ∧ d.portExists p = true ∧ d.on F.NET_PORT_CFG_EN p = true ∧ d.laneRef p = r
    (d.get F.RST_STRAPS_CLKMODE = 2 → r = 2) → d.on (lossFld r) = false →
      ∃ t, exec (.refclkLoss r) s = .next t ∧ t.chip.mem = s.chip.mem ∧ t.chip.dev.berths = d.berths ∧
        d.keeps t.chip.dev (outside [2, 8, 9, 10, 11]) ∧ t.chip.dev.get (lossFld r) = 1 ∧ t.chip.dev.get F.LANE_EVENTS_REFCLK_LOSS = 1 ∧
        ∀ p, fed p → ∀ k ∈ d.portLanes p, t.chip.dev.laneSt k = 0 := by
  intro d fed used hon
  obtain ⟨-, -, -, -, event, full, width⟩ := lossFields_apart r hr
  obtain ⟨e, he⟩ : ∃ e, e = (d.quiet.put (lossFld r) 0 1).raise F.LANE_EVENTS_REFCLK_LOSS := ⟨_, rfl⟩
  have changed : d.quiet.RefChanged r e := he ▸ ((Device.Side.refl d.quiet).put 0 1 (by simp)).raise 0 (by simp)
  have lost : e.get (lossFld r) = 1 := by
    rw [he, Device.get_raise _ _ _ _ _ (.inl event) (.inl full), Device.get_put_same, width]
    rfl
  have run : d.quiet.refLoss r = e.lanesAgain (fun l => decide (d.quiet.laneRef l = r)) := by
    rw [he]
    unfold Device.refLoss
    have inUse : (if d.quiet.get F.RST_STRAPS_CLKMODE = 2 then decide (r = 2) else decide (r ≤ 2)) = true := by
      split
      next h => exact decide_eq_true (used h)
      next => exact decide_eq_true (by omega)
    rw [inUse]
    exact if_neg (by rw [show d.quiet.on (lossFld r) = false from hon]; decide)
  obtain ⟨berths, kept, shown, -, states⟩ := changed.again hr
  have events : (e.lanesAgain (fun l => decide (d.quiet.laneRef l = r))).get F.LANE_EVENTS_REFCLK_LOSS = 1 :=
    ((e.lanesAgain_side _).get (by decide) 0).trans (by rw [he]; exact Device.get_raise_same _ _ _ (by decide))
  obtain ⟨t, ht, hm, hd⟩ := onDev_next (s := s) (c := .refclkLoss r) (f := fun d => d.refLoss r) rfl run
  rw [← hd] at berths kept shown states events
  exact ⟨t, ht, hm, berths, kept, shown.trans lost, events, fun p hp k hk => (states p hp k hk).trans (changed.off hr lost hp.1 hp.2.2.2 k hk)⟩

theorem refclkRecover_shows (s : State) (r : Nat) (hr : r < 3) :
    let d := s.chip.dev
    let fed (p : Nat) : Prop := p < 28 ∧ d.portExists p = true ∧ d.on F.NET_PORT_CFG_EN p = true ∧ d.laneRef p = r
    d.on (lossFld r) = true →
      ∃ t, exec (.refclkRecover r) s = .next t ∧ t.chip.mem = s.chip.mem ∧ t.chip.dev.berths = d.berths ∧
        d.keeps t.chip.dev (outside [2, 8, 9, 10, 11]) ∧ t.chip.dev.get (lossFld r) = 0 ∧
        ∀ p, fed p → ∀ k ∈ d.portLanes p,
          t.chip.dev.laneSt k = if t.chip.dev.laneAlive k then (if d.portAn p then 1 else 3) else 0 := by
  intro d fed hon
  obtain ⟨modes, -⟩ := lossFields_apart r hr
  obtain ⟨e, he⟩ : ∃ e, e = d.quiet.put (lossFld r) 0 0 := ⟨_, rfl⟩
  have changed : d.quiet.RefChanged r e := he ▸ (Device.Side.refl d.quiet).put 0 0 (by simp)
  have back : e.get (lossFld r) = 0 := by rw [he, Device.get_put_same, Nat.zero_mod]
  have run : d.quiet.refBack r = e.lanesAgain (fun l => decide (d.quiet.laneRef l = r)) := by
    rw [he]
    exact if_neg (by rw [show d.quiet.on (lossFld r) = true from hon]; decide)
  obtain ⟨berths, kept, shown, alive, states⟩ := changed.again hr
  obtain ⟨t, ht, hm, hd⟩ := onDev_next (s := s) (c := .refclkRecover r) (f := fun d => d.refBack r) rfl run
  rw [← hd] at berths kept shown alive states
  refine ⟨t, ht, hm, berths, kept, shown.trans back, fun p hp k hk => (states p hp k hk).trans ?_⟩
  rw [Device.firstSt, alive k, changed.portAn modes]
  rfl

/-! ### Freezes and margin checks -/

section Freezes

variable (d : Device) (l : Nat)

@[simp] theorem Device.laneX_setLaneX (x : LaneX) : (d.setLaneX l x).laneX l = x := Tab.get_set_same ..

theorem Device.get_flag_same {f : Fld} (i : Nat) (v : Bool) (hf : 0 < f.width) : (d.flag f i v).on f i = v := by
  have one : 1 % 2 ^ f.width = 1 := Nat.mod_eq_of_lt (Nat.one_lt_two_pow (by omega))
  rw [Device.on, Device.flag, Device.get_put_same]
  cases v <;> simp [one]

/-- A lane that shows its signal and follows its freeze. -/
def Device.adapted (low sig : Bool) : Device :=
  ((d.setLaneX l { d.laneX l with lowTd := low }).flag F.LANE_STATUS_SIGNAL l sig).laneFreeze l

theorem Device.adapted_shows (low sig : Bool) :
    let e := d.adapted l low sig
    d.keeps e (but [F.LANE_STATUS_FROZEN, F.LANE_STATUS_SIGNAL]) ∧ (∀ k, k ≠ l → e.get F.LANE_STATUS_FROZEN k = d.get F.LANE_STATUS_FROZEN k) ∧
      e.on F.LANE_STATUS_FROZEN l = (decide (d.laneSt l = 6) || decide (d.laneSt l = 7) || low) ∧ e.on F.LANE_STATUS_SIGNAL l = sig ∧
      e.laneX l = { d.laneX l with lowTd := low } ∧ e.now = d.now := by
  obtain ⟨x, hx⟩ : ∃ x, x = { d.laneX l with lowTd := low } := ⟨_, rfl⟩
  obtain ⟨g, hg⟩ : ∃ g, g = (d.setLaneX l x).flag F.LANE_STATUS_SIGNAL l sig := ⟨_, rfl⟩
  have state : g.laneSt l = d.laneSt l := by rw [hg]; exact Device.get_put_ne _ _ _ _ _ _ (by decide)
  have lane : g.laneX l = x := by rw [hg]; exact d.laneX_setLaneX l x
  have frozen : d.adapted l low sig = g.flag F.LANE_STATUS_FROZEN l (decide (d.laneSt l = 6) || decide (d.laneSt l = 7) || low) := by
    unfold Device.adapted Device.laneFreeze
    rw [← hx, ← hg, state, lane, hx]
  have kept : d.keeps g (but [F.LANE_STATUS_FROZEN, F.LANE_STATUS_SIGNAL]) := by
    rw [hg]
    exact Device.keeps_trans (Device.keeps_of_regs rfl _) (Device.keeps_put (d.setLaneX l x) F.LANE_STATUS_SIGNAL l _ (but_apart (by simp)))
  simp only [frozen]
  refine ⟨Device.keeps_trans kept (Device.keeps_put g F.LANE_STATUS_FROZEN l _ (but_apart (by simp))), fun k hk => ?_, g.get_flag_same l _ (by decide), ?_,
    by rw [← hx]; exact lane, by rw [hg]; rfl⟩
  · rw [Device.flag, Device.get_put, if_neg fun h => hk h.2.symm, hg]
    exact Device.get_put_ne _ _ _ _ _ _ (by decide)
  · rw [Device.on, Device.flag, Device.get_put_ne _ _ _ _ _ _ (by decide), hg]
    exact (d.setLaneX l x).get_flag_same l sig (by decide)

theorem Device.adaptOff_eq (sig : Bool) (h : d.laneSt l ≠ 0) : d.adaptOff l sig = d.adapted l true sig := if_neg h

theorem Device.adaptOn_eq (h : d.laneSt l ≠ 0) : d.adaptOn l =
    if d.on F.LANE_STATUS_FROZEN l && !(d.adapted l false true).on F.LANE_STATUS_FROZEN l && decide (l < 28) then (d.adapted l false true).checkStart l
    else d.adapted l false true := if_neg h

end Freezes

theorem freezes_show (s : State) (l : Nat) (sig : Bool) (h : s.chip.dev.laneSt l ≠ 0) :
    let d := s.chip.dev
    let still := d.laneSt l = 6 ∨ d.laneSt l = 7
    let shown (t : State) : Prop := t.chip.mem = s.chip.mem ∧ d.keeps t.chip.dev (but [F.LANE_STATUS_FROZEN, F.LANE_STATUS_SIGNAL]) ∧
      (∀ k, k ≠ l → t.chip.dev.get F.LANE_STATUS_FROZEN k = d.get F.LANE_STATUS_FROZEN k)
    (∃ t, exec (.adaptFreeze l sig) s = .next t ∧ shown t ∧ t.chip.dev.on F.LANE_STATUS_FROZEN l = true ∧
      t.chip.dev.on F.LANE_STATUS_SIGNAL l = sig) ∧
    (∃ t, exec (.adaptResume l) s = .next t ∧ shown t ∧ (t.chip.dev.on F.LANE_STATUS_FROZEN l = true ↔ still) ∧
      t.chip.dev.on F.LANE_STATUS_SIGNAL l = true ∧
      (d.on F.LANE_STATUS_FROZEN l = true → ¬still → l < 28 → (t.chip.dev.laneX l).checking = true ∧ (t.chip.dev.laneX l).checkAt = d.now + 100000000) ∧
      (28 ≤ l → (t.chip.dev.laneX l).checking = (d.laneX l).checking)) := by
  intro d still shown
  constructor
  · obtain ⟨kept, others, frozen, signal, -⟩ := d.quiet.adapted_shows l true sig
    obtain ⟨t, ht, hm, hd⟩ := onDev_next (s := s) (c := .adaptFreeze l sig) (f := fun d => d.adaptOff l sig) rfl (d.quiet.adaptOff_eq l sig h)
    rw [← hd] at kept others frozen signal
    exact ⟨t, ht, ⟨hm, kept, others⟩, by rw [frozen, Bool.or_true], signal⟩
  · obtain ⟨g, hg⟩ : ∃ g, g = d.quiet.adapted l false true := ⟨_, rfl⟩
    obtain ⟨kept, others, frozen, signal, lane, now⟩ := d.quiet.adapted_shows l false true
    rw [← hg] at kept others frozen signal lane now
    have idle : g.on F.LANE_STATUS_FROZEN l = true ↔ still := by
      rw [frozen, Bool.or_false, Bool.or_eq_true, decide_eq_true_eq, decide_eq_true_eq]
      exact Iff.rfl
    obtain ⟨t, ht, hm, hd⟩ := onDev_next (s := s) (c := .adaptResume l) (f := fun d => d.adaptOn l) rfl (d.quiet.adaptOn_eq l h)
    rw [← hg] at hd
    have regs : t.chip.dev.regs = g.regs := by rw [hd]; split <;> rfl
    have gets (f : Fld) (i : Nat) : t.chip.dev.get f i = g.get f i := Device.get_congr regs f i
    refine ⟨t, ht, ⟨hm, Device.keeps_trans kept (Device.keeps_of_regs regs _), fun k hk => (gets ..).trans (others k hk)⟩,
      by rw [Device.on_congr regs]; exact idle, (Device.on_congr regs ..).trans signal, fun was hs hl => ?_, fun hl => ?_⟩
    · have free : g.on F.LANE_STATUS_FROZEN l = false := Bool.eq_false_iff.mpr (mt idle.mp hs)
      rw [hd, if_pos (by rw [free, show d.quiet.on F.LANE_STATUS_FROZEN l = true from was, decide_eq_true hl]; rfl), Device.checkStart, Device.laneX_setLaneX]
      exact ⟨rfl, congrArg (· + 100000000) now⟩
    · rw [hd, if_neg (by rw [decide_eq_false (Nat.not_lt.mpr hl), Bool.and_false]; decide), lane]
      rfl

theorem marginCheckTimer_starts (s : State) (l : Nat) (hl : l < 28) (hst : s.chip.dev.laneSt l = 5) :
    ∃ t, exec (.marginCheckTimer l) s = .next t ∧ t.chip.mem = s.chip.mem ∧ t.chip.dev.regs = s.chip.dev.regs ∧
      (t.chip.dev.laneX l).checking = true ∧ (s.chip.dev.laneX l).checkAt ≤ t.chip.dev.now := by
  obtain ⟨w, hw⟩ : ∃ w, w = s.chip.dev.quiet.waitNow (s.chip.dev.laneX l).checkAt := ⟨_, rfl⟩
  have run : s.chip.dev.quiet.checkTimer l = w.checkStart l := by
    rw [hw]
    exact if_pos (by rw [decide_eq_true hl, decide_eq_true (show s.chip.dev.quiet.laneSt l = 5 from hst)]; rfl)
  obtain ⟨t, ht, hm, hd⟩ := onDev_next (s := s) (c := .marginCheckTimer l) (f := fun d => d.checkTimer l) rfl run
  refine ⟨t, ht, hm, ?_, ?_, ?_⟩
  · rw [hd]
    exact (congrArg Device.regs hw).trans (s.chip.dev.quiet.waitNow_regs _)
  · rw [hd, Device.checkStart, Device.laneX_setLaneX]
  · rw [hd]
    have reached : w.now = max s.chip.dev.now (s.chip.dev.laneX l).checkAt := by rw [hw]; exact s.chip.dev.quiet.waitNow_now _
    exact (le_max_right _ _).trans reached.ge

section Margin

variable (d : Device) (l corners : Nat)

/-- The fields that the end of a margin check shows itself in. -/
def marginShown : List Fld := [F.LANE_STATUS_DEGRADED, F.LANE_STATUS_FAIL_CORNERS, F.LANE_CNT_MCHK_FAIL_COUNT, F.LANE_EVENTS_DEGRADED]

/-- A check without a failing corner. -/
def Device.checkPassed : Device :=
  let e := d.setLaneX l { d.laneX l with checking := false, passes := (d.laneX l).passes + 1 }
  if (d.laneX l).passes + 1 ≥ 3 then e.put F.LANE_STATUS_DEGRADED l 0 else e

/-- A check with failing corners: what it shows first. -/
def Device.checkFailed : Device :=
  ((d.setLaneX l { d.laneX l with checking := false, passes := 0 }).put F.LANE_STATUS_FAIL_CORNERS l corners).bump F.LANE_CNT_MCHK_FAIL_COUNT l 1

theorem Tab.set_set {κ α : Type} [DecidableEq κ] (t : Tab κ α) (k : κ) (v w : α) : Tab.set (Tab.set t k v) k w = Tab.set t k w := by
  induction t with
  | nil => simp [Tab.set]
  | cons p t ih =>
    obtain ⟨a, b⟩ := p
    by_cases h : a = k <;> simp [Tab.set, h, ih]

theorem Device.setLaneX_setLaneX (x y : LaneX) : (d.setLaneX l x).setLaneX l y = d.setLaneX l y := by
  unfold Device.setLaneX
  simp only [Tab.set_set]

theorem Device.checkDone_passed (h : (d.laneX l).checking = true) : d.checkDone l 0 = d.checkPassed l := by
  refine (if_neg (by rw [h]; decide)).trans ((if_pos rfl).trans ?_)
  simp only [Device.laneX_setLaneX, Device.setLaneX_setLaneX]
  rfl

theorem Device.checkDone_failed (h : (d.laneX l).checking = true) (hc : corners ≠ 0) : d.checkDone l corners =
    let e := d.checkFailed l corners
    if l < 28 then (e.put F.LANE_STATUS_DEGRADED l 1).raise F.LANE_EVENTS_DEGRADED l
    else if !e.tetherIsUp then e.setLaneX l { e.laneX l with checking := true }
    else if (d.laneX l).retrain = 0 then e.setLaneX l { e.laneX l with retrain := 1 } else e := by
  refine (if_neg (by rw [h]; decide)).trans ((if_neg hc).trans ?_)
  simp only [Device.laneX_setLaneX, Device.setLaneX_setLaneX]
  rfl

theorem Device.checkPassed_shows :
    let e := d.checkPassed l
    d.keeps e (but marginShown) ∧ e.laneX l = { d.laneX l with checking := false, passes := (d.laneX l).passes + 1 } ∧
      e.get F.LANE_CNT_MCHK_FAIL_COUNT l = d.get F.LANE_CNT_MCHK_FAIL_COUNT l ∧
      e.get F.LANE_STATUS_DEGRADED l = if (d.laneX l).passes + 1 ≥ 3 then 0 else d.get F.LANE_STATUS_DEGRADED l := by
  obtain ⟨e, he⟩ : ∃ e, e = d.setLaneX l { d.laneX l with checking := false, passes := (d.laneX l).passes + 1 } := ⟨_, rfl⟩
  have regs : e.regs = d.regs := by rw [he]; rfl
  have lane : e.laneX l = { d.laneX l with checking := false, passes := (d.laneX l).passes + 1 } := by rw [he]; exact d.laneX_setLaneX l _
  have passed : d.checkPassed l = if (d.laneX l).passes + 1 ≥ 3 then e.put F.LANE_STATUS_DEGRADED l 0 else e := by rw [he]; rfl
  simp only [passed]
  split
  · exact ⟨Device.keeps_trans (Device.keeps_of_regs regs _) (Device.keeps_put e F.LANE_STATUS_DEGRADED l 0 (but_apart (by simp [marginShown]))), lane,
      (Device.get_put_ne _ _ _ _ _ _ (by decide)).trans (Device.get_congr regs ..), Device.get_put_same ..⟩
  · exact ⟨Device.keeps_of_regs regs _, lane, Device.get_congr regs .., Device.get_congr regs ..⟩

theorem Device.checkFailed_shows (hc : corners < 16) :
    let e := d.checkFailed l corners
    d.keeps e (but [F.LANE_STATUS_FAIL_CORNERS, F.LANE_CNT_MCHK_FAIL_COUNT]) ∧ e.laneX l = { d.laneX l with checking := false, passes := 0 } ∧
      e.get F.LANE_STATUS_FAIL_CORNERS l = corners ∧
      e.get F.LANE_CNT_MCHK_FAIL_COUNT l = min (d.get F.LANE_CNT_MCHK_FAIL_COUNT l + 1) (2 ^ F.LANE_CNT_MCHK_FAIL_COUNT.width - 1) := by
  obtain ⟨e, he⟩ : ∃ e, e = (d.setLaneX l { d.laneX l with checking := false, passes := 0 }).put F.LANE_STATUS_FAIL_CORNERS l corners := ⟨_, rfl⟩
  have failed : d.checkFailed l corners = e.bump F.LANE_CNT_MCHK_FAIL_COUNT l 1 := by rw [he]; rfl
  have lane : e.laneX l = { d.laneX l with checking := false, passes := 0 } := by rw [he]; exact d.laneX_setLaneX l _
  have count : e.get F.LANE_CNT_MCHK_FAIL_COUNT l = d.get F.LANE_CNT_MCHK_FAIL_COUNT l := by rw [he]; exact Device.get_put_ne _ _ _ _ _ _ (by decide)
  have shown : e.get F.LANE_STATUS_FAIL_CORNERS l = corners := by
    rw [he, Device.get_put_same]
    exact Nat.mod_eq_of_lt hc
  have kept : d.keeps e (but [F.LANE_STATUS_FAIL_CORNERS, F.LANE_CNT_MCHK_FAIL_COUNT]) := by
    rw [he]
    exact Device.keeps_put (d.setLaneX l { d.laneX l with checking := false, passes := 0 }) F.LANE_STATUS_FAIL_CORNERS l corners (but_apart (by simp))
  simp only [failed]
  refine ⟨Device.keeps_trans kept (Device.keeps_put e F.LANE_CNT_MCHK_FAIL_COUNT l _ (but_apart (by simp))), lane,
    (Device.get_put_ne _ _ _ _ _ _ (by decide)).trans shown, ?_⟩
  rw [Device.get_bump, count]

theorem Device.checkDone_fails (h : (d.laneX l).checking = true) (hc : corners ≠ 0) (hlt : corners < 16) :
    let x := d.laneX l
    let e := d.checkDone l corners
    (l < 28 ∨ d.tetherIsUp = true → (e.laneX l).checking = false) ∧ d.keeps e (but marginShown) ∧ (e.laneX l).passes = 0 ∧
      e.get F.LANE_STATUS_FAIL_CORNERS l = corners ∧
      e.get F.LANE_CNT_MCHK_FAIL_COUNT l = min (d.get F.LANE_CNT_MCHK_FAIL_COUNT l + 1) (2 ^ F.LANE_CNT_MCHK_FAIL_COUNT.width - 1) ∧
      (l < 28 → e.get F.LANE_STATUS_DEGRADED l = 1 ∧ e.get F.LANE_EVENTS_DEGRADED = 1) ∧
      (28 ≤ l → e.get F.LANE_STATUS_DEGRADED l = d.get F.LANE_STATUS_DEGRADED l ∧
        (d.tetherIsUp = false → (e.laneX l).checking = true) ∧ (d.tetherIsUp = true → x.retrain = 0 → (e.laneX l).retrain = 1)) := by
  obtain ⟨e, he⟩ : ∃ e, e = d.checkFailed l corners := ⟨_, rfl⟩
  obtain ⟨kept, lane, cornersShown, count⟩ := d.checkFailed_shows l corners hlt
  have done := d.checkDone_failed l corners h hc
  rw [← he] at kept lane cornersShown count
  simp only [← he] at done
  have up : e.tetherIsUp = d.tetherIsUp := by rw [Device.tetherIsUp, kept.1 _ 0 (by decide), Device.tetherIsUp]
  have degraded : e.get F.LANE_STATUS_DEGRADED l = d.get F.LANE_STATUS_DEGRADED l := kept.1 _ l (by decide)
  have kept' : d.keeps e (but marginShown) := Device.keeps_mono kept (but_mono (by simp [marginShown]))
  have set (x : LaneX) : d.keeps (e.setLaneX l x) (but marginShown) := Device.keeps_trans kept' (Device.keeps_of_regs rfl _)
  simp only [done, up]
  by_cases media : l < 28
  case pos =>
    rw [if_pos media]
    have raised (f : Fld) (hf : F.LANE_EVENTS_DEGRADED.id ≠ f.id) (ho : F.HOST_EVENTS_EVQ_OVERFLOW.id ≠ f.id) :
        ((e.put F.LANE_STATUS_DEGRADED l 1).raise F.LANE_EVENTS_DEGRADED l).get f l = (e.put F.LANE_STATUS_DEGRADED l 1).get f l :=
      Device.get_raise _ _ _ _ _ (.inl hf) (.inl ho)
    have lane' : ((e.put F.LANE_STATUS_DEGRADED l 1).raise F.LANE_EVENTS_DEGRADED l).laneX l = e.laneX l :=
      congrArg (fun (x : Lanes) => Tab.get x.lane LaneX.empty l) (Device.raise_lanes ..)
    rw [lane', lane]
    refine ⟨fun _ => rfl, Device.keeps_trans (Device.keeps_trans kept' (Device.keeps_put e F.LANE_STATUS_DEGRADED l 1 (but_apart (by simp [marginShown]))))
      (Device.keeps_raise _ _ _ (by simp [marginShown])), rfl, ?_, ?_, fun _ => ⟨?_, Device.get_raise_same _ _ _ (by decide)⟩, fun h => absurd media (Nat.not_lt.mpr h)⟩
    · rw [raised _ (by decide) (by decide), Device.get_put_ne _ _ _ _ _ _ (by decide), cornersShown]
    · rw [raised _ (by decide) (by decide), Device.get_put_ne _ _ _ _ _ _ (by decide), count]
    · rw [raised _ (by decide) (by decide), Device.get_put_same]
      rfl
  case neg =>
    rw [if_neg media]
    cases tether : d.tetherIsUp with
    | false =>
      rw [if_pos (by decide), Device.laneX_setLaneX, lane]
      exact ⟨fun h => (h.elim media (by simp)).elim, set _, rfl, cornersShown, count, fun h => absurd h media, fun _ => ⟨degraded, fun _ => rfl, by simp⟩⟩
    | true =>
      rw [if_neg (by decide)]
      split
      next idle =>
        rw [Device.laneX_setLaneX, lane]
        exact ⟨fun _ => rfl, set _, rfl, cornersShown, count, fun h => absurd h media, fun _ => ⟨degraded, by simp, fun _ _ => rfl⟩⟩
      next busy =>
        rw [lane]
        exact ⟨fun _ => rfl, kept', rfl, cornersShown, count, fun h => absurd h media, fun _ => ⟨degraded, by simp, fun _ h => absurd h busy⟩⟩

end Margin

theorem marginCheckComplete_shows (s : State) (l corners : Nat) (hc : corners < 16) :
    let d := s.chip.dev
    let x := d.laneX l
    (x.checking = false → ∃ t, exec (.marginCheckComplete l corners) s = .next t ∧ t.chip = s.chip.quiet) ∧
    (x.checking = true → ∃ t, exec (.marginCheckComplete l corners) s = .next t ∧ t.chip.mem = s.chip.mem ∧
      (corners = 0 ∨ l < 28 ∨ d.tetherIsUp = true → (t.chip.dev.laneX l).checking = false) ∧ d.keeps t.chip.dev (but marginShown) ∧
      (corners = 0 → (t.chip.dev.laneX l).passes = x.passes + 1 ∧
        t.chip.dev.get F.LANE_CNT_MCHK_FAIL_COUNT l = d.get F.LANE_CNT_MCHK_FAIL_COUNT l ∧
        t.chip.dev.get F.LANE_STATUS_DEGRADED l = if x.passes + 1 ≥ 3 then 0 else d.get F.LANE_STATUS_DEGRADED l) ∧
      (corners ≠ 0 → (t.chip.dev.laneX l).passes = 0 ∧ t.chip.dev.get F.LANE_STATUS_FAIL_CORNERS l = corners ∧
        t.chip.dev.get F.LANE_CNT_MCHK_FAIL_COUNT l =
          min (d.get F.LANE_CNT_MCHK_FAIL_COUNT l + 1) (2 ^ F.LANE_CNT_MCHK_FAIL_COUNT.width - 1) ∧
        (l < 28 → t.chip.dev.get F.LANE_STATUS_DEGRADED l = 1 ∧ t.chip.dev.get F.LANE_EVENTS_DEGRADED = 1) ∧
        (28 ≤ l → t.chip.dev.get F.LANE_STATUS_DEGRADED l = d.get F.LANE_STATUS_DEGRADED l ∧
          (d.tetherIsUp = false → (t.chip.dev.laneX l).checking = true) ∧
          (d.tetherIsUp = true → x.retrain = 0 → (t.chip.dev.laneX l).retrain = 1)))) := by
  intro d x
  refine ⟨fun h => ?_, fun h => ?_⟩
  · obtain ⟨t, ht, hm, hd⟩ := onDev_next (s := s) (c := .marginCheckComplete l corners) (f := fun d => d.checkDone l corners) rfl rfl
    exact ⟨t, ht, congrArg₂ Chip.mk hm (hd.trans (if_pos (by rw [show (d.quiet.laneX l).checking = false from h]; rfl)))⟩
  · obtain ⟨t, ht, hm, hd⟩ := onDev_next (s := s) (c := .marginCheckComplete l corners) (f := fun d => d.checkDone l corners) rfl rfl
    by_cases zero : corners = 0
    · obtain ⟨kept, lane, count, degraded⟩ := d.quiet.checkPassed_shows l
      rw [zero, d.quiet.checkDone_passed l h] at hd
      rw [← hd] at kept lane count degraded
      exact ⟨t, ht, hm, fun _ => by rw [lane], kept, fun _ => ⟨by rw [lane]; rfl, count, degraded⟩, fun h => absurd zero h⟩
    · obtain ⟨free, kept, rest⟩ := d.quiet.checkDone_fails l corners h zero hc
      rw [← hd] at free kept rest
      exact ⟨t, ht, hm, fun h => free (h.resolve_left zero), kept, fun h => absurd h zero, fun _ => rest⟩

/-- Settles O38: references, freezes, and margin checks. -/
theorem referencesFreezesAndMargins : Obligations.ReferencesFreezesAndMargins :=
  ⟨fun s r hr => ⟨refclkLoss_shows s r hr, refclkRecover_shows s r hr⟩, fun s l sig h => freezes_show s l sig h,
    fun s l hl h => marginCheckTimer_starts s l hl h, fun s l corners _ hc => marginCheckComplete_shows s l corners hc⟩

end Sys2Proof.Machine
end

section
/-!
SUPPORT. Bring-up of media ports: O37.
-/

namespace Sys2Proof.Machine

/-! ### A media port is enabled and disabled -/

theorem findReg_port : ∀ p < 28, findReg (R.NET_PORT_CFG.base + R.NET_PORT_CFG.stride * p) = some (R.NET_PORT_CFG, p) := by decide +kernel

theorem enWord_port {word v : Nat} (hw : word < 2 ^ 32) (hv : v < 2) :
    enWord F.NET_PORT_CFG_EN word v < 2 ^ 32 ∧ F.NET_PORT_CFG_EN.of (enWord F.NET_PORT_CFG_EN word v) = v := by
  simp only [enWord, Fld.of, Fld.at, F.NET_PORT_CFG_EN]
  omega

theorem Device.igmpUpdate_side {b : Bool} {l : List Fld} (d : Device) (before : Nat → List (Nat × List Nat)) : Side b l d (d.igmpUpdate before) := by
  refine .forN (fun p d => ?_) d
  dsimp only
  generalize List.flatMap _ _ = r
  split
  · exact .refl d
  · exact d.igmpReport_side p r

/-- An admitted write to a port's configuration: the word, its effect, and what the network sends for it. -/
theorem portWrite_runs {s : State} {slot p w : Nat} (hs : slot < 8) (hp : p < 28) (hw : w < 2 ^ 32)
    (ha : s.chip.admits slot R.NET_PORT_CFG p w = true) :
    ∃ t, writeTo slot R.NET_PORT_CFG p w s = .next t ∧ t.chip.mem = s.chip.mem ∧
      Device.Side false [] ((s.chip.dev.quiet.storeWord R.NET_PORT_CFG slot p w).netWrite R.NET_PORT_CFG p s.chip.dev.quiet) t.chip.dev := by
  have haq : s.chip.quiet.admits slot R.NET_PORT_CFG p w = true := ha
  obtain ⟨-, -, -, -, hown, hres, hbusy⟩ := Chip.admits_conditions haq
  have reach := Chip.doWrite_admitted (hwSet := 0) haq hs hw
  obtain ⟨e, he⟩ : ∃ e, e = (s.chip.dev.quiet.storeWord R.NET_PORT_CFG slot p w).netWrite R.NET_PORT_CFG p s.chip.dev.quiet := ⟨_, rfl⟩
  have effect : Chip.writeEffect slot R.NET_PORT_CFG p w s.chip.quiet.dev ⟨s.chip.quiet.mem, s.chip.quiet.dev.storeWords [(R.NET_PORT_CFG, w)] R.NET_PORT_CFG slot p⟩ =
      ⟨s.chip.mem, e⟩ := by rw [he]; rfl
  rw [Chip.regWrite_net (findReg_port p hp) (by decide) (by decide) (by decide) hown hres hbusy, effect, Chip.mapDev, Device.setAgain_of_no_w1c (by decide)] at reach
  dsimp only at reach
  generalize (fun p => s.chip.quiet.dev.memberships.getD p []) = j at reach
  obtain ⟨g, hg⟩ : ∃ g, g = (e.igmpUpdate j).hopScan := ⟨_, rfl⟩
  have told : Device.Side false [] e g := hg ▸ (e.igmpUpdate_side j).trans (Device.hopScan_side _)
  obtain ⟨q, hq⟩ := g.logWrite_only slot (R.NET_PORT_CFG.base + R.NET_PORT_CFG.stride * p) w
  rw [← hg, hq] at reach
  have run : writeTo slot R.NET_PORT_CFG p w s = .next { s with chip := _ } :=
    congrArg (fun c : Chip => (.next { s with chip := c } : Host.Outcome State Fault Refusal)) reach
  have sent : Device.Side false [] e (({ g with pair := q } : Device).emit (.result slot resOk [])) :=
    Device.Side.emit (told.same (f := { g with pair := q }) rfl rfl) _
  exact ⟨_, run, rfl, by rw [← he]; exact sent⟩

/-- A stored port configuration. -/
theorem Device.storePort_eq (d : Device) (slot p w : Nat) : d.storeWord R.NET_PORT_CFG slot p w =
    (((d.put F.NET_PORT_CFG_EN p (F.NET_PORT_CFG_EN.of w)).put F.NET_PORT_CFG_AN p (F.NET_PORT_CFG_AN.of w)).put F.NET_PORT_CFG_FEC p
      (F.NET_PORT_CFG_FEC.of w)).put F.NET_PORT_CFG_MODE p (F.NET_PORT_CFG_MODE.of w) := rfl

theorem Device.storePort_side (d : Device) (slot p w : Nat) : Side false R.NET_PORT_CFG.flds d (d.storeWord R.NET_PORT_CFG slot p w) := by
  rw [d.storePort_eq slot p w]
  exact ((((Side.refl d).put p _ (by simp [R.NET_PORT_CFG])).put p _ (by simp [R.NET_PORT_CFG])).put p _ (by simp [R.NET_PORT_CFG])).put p _ (by simp [R.NET_PORT_CFG])

/-- The port exists as it did before: another port's mode says so. -/
theorem Device.storePort_shows (d : Device) (slot p w : Nat) :
    let e := d.storeWord R.NET_PORT_CFG slot p w
    e.get F.NET_PORT_CFG_EN p = F.NET_PORT_CFG_EN.of w ∧ e.portExists p = d.portExists p := by
  rw [d.storePort_eq slot p w]
  constructor
  · rw [Device.get_put_ne _ _ _ _ _ _ (by decide), Device.get_put_ne _ _ _ _ _ _ (by decide), Device.get_put_ne _ _ _ _ _ _ (by decide), Device.get_put_same]
    exact Nat.mod_mod _ _
  · by_cases first : p % 4 = 0
    · rw [Device.portExists, Device.portExists, decide_eq_true first, Bool.true_or, Bool.true_or]
    · have other (e : Device) (f : Fld) (v : Nat) : (e.put f p v).get F.NET_PORT_CFG_MODE (p / 4 * 4) = e.get F.NET_PORT_CFG_MODE (p / 4 * 4) := by
        rw [Device.get_put, if_neg fun h => by omega]
      rw [Device.portExists, other, other, other, other, Device.portExists]

theorem Device.netWrite_port (e old : Device) (p : Nat) : Device.netWrite R.NET_PORT_CFG p e old =
    if e.on F.NET_PORT_CFG_EN p && !old.on F.NET_PORT_CFG_EN p then e.portUpStart p
    else if !e.on F.NET_PORT_CFG_EN p && old.on F.NET_PORT_CFG_EN p then e.portOff p else e := rfl

/-- The fields that a port's configuration and its start change. -/
def enableShown : List Fld := R.NET_PORT_CFG.flds ++ startShown

/-- An admitted port exists: the mode of its quad does not hide it. -/
theorem portExists_of_admits {c : Chip} {slot p w : Nat} (ha : c.admits slot R.NET_PORT_CFG p w = true) : c.dev.portExists p = true := by
  obtain ⟨-, -, -, -, hown, -⟩ := Chip.admits_conditions ha
  by_contra none
  have hides : c.dev.hidden R.NET_PORT_CFG p = true := by
    unfold Device.hidden
    rw [(Bool.not_eq_true _).mp none, Bool.or_eq_true]
    exact .inr (by decide)
  rw [Device.ownDrop, if_pos hides] at hown
  exact absurd hown (by decide)

section Enable

variable {s : State} {slot p word : Nat}

/-- The lanes of a port as they begin. -/
def Device.begun (d : Device) (p : Nat) : Prop := ∀ k ∈ d.portLanes p, d.laneSt k = if d.laneAlive k then (if d.portAn p then 1 else 3) else 0

theorem Device.Side.begun {b : Bool} {l : List Fld} {d e : Device} (h : d.Side b l e)
    (hl : (∀ f ∈ aliveFields, but l f = true) ∧ ∀ f ∈ modeFields, but l f = true) (hs : but l F.LANE_STATUS_STATE = true) {p : Nat} (hb : d.begun p) : e.begun p := by
  intro k hk
  rw [h.portLanes hl.2] at hk
  rw [Device.laneSt, h.get hs, h.laneAlive hl.1, h.portAn hl.2]
  exact hb k hk

theorem Device.portStart_begun (d : Device) (p : Nat) : (d.portStart p).begun p := by
  have side := d.portStart_side p
  intro k hk
  rw [side.portLanes startShown_apart.2] at hk
  rw [(d.portStart_shows p).1 k, if_pos hk, side.laneAlive startShown_apart.1, side.portAn startShown_apart.2]
  rfl

theorem portEnable_starts (hs : slot < 8) (hp : p < 28) (hw : word < 2 ^ 32)
    (ha : s.chip.admits slot R.NET_PORT_CFG p (enWord F.NET_PORT_CFG_EN word 1) = true) (hoff : s.chip.dev.on F.NET_PORT_CFG_EN p = false) :
    ∃ t, exec (.portEnable slot p word) s = .next t ∧
      (t.chip.mem = s.chip.mem ∧ t.chip.dev.berths = s.chip.dev.berths ∧ s.chip.dev.keeps t.chip.dev (outside [2, 8, 9, 10])) ∧
      t.chip.dev.begun p ∧ t.chip.dev.get F.NET_PORT_CFG_EN p = 1 ∧ t.chip.dev.get F.NET_PORT_STATUS_STATE p = 1 := by
  obtain ⟨hw', hen⟩ := enWord_port hw (show 1 < 2 by decide)
  obtain ⟨t, ht, hm, told⟩ := portWrite_runs hs hp hw' ha
  have run : exec (.portEnable slot p word) s = writeTo slot R.NET_PORT_CFG (p % 28) (enWord F.NET_PORT_CFG_EN word 1) s := rfl
  rw [Nat.mod_eq_of_lt hp, ht] at run
  obtain ⟨e, he⟩ : ∃ e, e = s.chip.dev.quiet.storeWord R.NET_PORT_CFG slot p (enWord F.NET_PORT_CFG_EN word 1) := ⟨_, rfl⟩
  have stored := s.chip.dev.quiet.storePort_side slot p (enWord F.NET_PORT_CFG_EN word 1)
  obtain ⟨enabled, exists'⟩ := s.chip.dev.quiet.storePort_shows slot p (enWord F.NET_PORT_CFG_EN word 1)
  rw [← he] at told stored enabled exists'
  rw [hen] at enabled
  have on : e.on F.NET_PORT_CFG_EN p = true := by rw [Device.on, enabled]; rfl
  have here : e.portExists p = true := exists'.trans (portExists_of_admits ha)
  obtain ⟨g, hg⟩ : ∃ g : Device, g = { e with lanes := { e.lanes with everUp := e.lanes.everUp.filter (· ≠ p), failed := e.lanes.failed.filter (· ≠ p) } } := ⟨_, rfl⟩
  have fresh : Device.Side true R.NET_PORT_CFG.flds e g := .of_core (by rw [hg]) (by rw [hg]; rfl)
  have effect : Device.netWrite R.NET_PORT_CFG p e s.chip.dev.quiet = g.portStart p := by
    rw [Device.netWrite_port, on, show s.chip.dev.quiet.on F.NET_PORT_CFG_EN p = false from hoff, hg]
    exact if_pos (by decide)
  rw [effect] at told
  have started := g.portStart_side p
  obtain ⟨-, state, -⟩ := g.portStart_shows p
  have first : g.downState p = 1 := by
    have same : g.on F.NET_PORT_CFG_EN p = true ∧ g.portExists p = true := by rw [hg]; exact ⟨on, here⟩
    rw [Device.downState, same.1, same.2, hg]
    simp
  have whole : Device.Side true enableShown s.chip.dev.quiet t.chip.dev := ((stored.loosen.trans fresh).mono fun _ => List.mem_append_left _).trans
    ((started.mono fun _ => List.mem_append_right _).trans (told.loosen.mono (by simp)))
  refine ⟨t, run, ⟨hm, whole.berths, Device.keeps_mono whole.1 (but_of_outside (by decide))⟩, ?_, ?_, ?_⟩
  · exact told.begun (by decide) (by decide) (g.portStart_begun p)
  · rw [told.get (by decide), started.get (by decide), Device.get_congr (e := e) (by rw [hg]), enabled]
  · rw [told.get (by decide), state, first]

theorem portDisable_stops (hs : slot < 8) (hp : p < 28) (hw : word < 2 ^ 32)
    (ha : s.chip.admits slot R.NET_PORT_CFG p (enWord F.NET_PORT_CFG_EN word 0) = true) (hon : s.chip.dev.on F.NET_PORT_CFG_EN p = true) :
    ∃ t, exec (.portDisable slot p word) s = .next t ∧
      (t.chip.mem = s.chip.mem ∧ t.chip.dev.berths = s.chip.dev.berths ∧ s.chip.dev.keeps t.chip.dev (outside [2, 8, 9, 10])) ∧
      t.chip.dev.get F.NET_PORT_CFG_EN p = 0 ∧ t.chip.dev.get F.NET_PORT_STATUS_STATE p = 0 ∧ ∀ k ∈ t.chip.dev.portLanes p, t.chip.dev.laneSt k = 0 := by
  obtain ⟨hw', hen⟩ := enWord_port hw (show 0 < 2 by decide)
  obtain ⟨t, ht, hm, told⟩ := portWrite_runs hs hp hw' ha
  have run : exec (.portDisable slot p word) s = writeTo slot R.NET_PORT_CFG (p % 28) (enWord F.NET_PORT_CFG_EN word 0) s := rfl
  rw [Nat.mod_eq_of_lt hp, ht] at run
  obtain ⟨e, he⟩ : ∃ e, e = s.chip.dev.quiet.storeWord R.NET_PORT_CFG slot p (enWord F.NET_PORT_CFG_EN word 0) := ⟨_, rfl⟩
  have stored := s.chip.dev.quiet.storePort_side slot p (enWord F.NET_PORT_CFG_EN word 0)
  obtain ⟨disabled, -⟩ := s.chip.dev.quiet.storePort_shows slot p (enWord F.NET_PORT_CFG_EN word 0)
  rw [← he] at told stored disabled
  rw [hen] at disabled
  have off : e.on F.NET_PORT_CFG_EN p = false := by rw [Device.on, disabled]; rfl
  have effect : Device.netWrite R.NET_PORT_CFG p e s.chip.dev.quiet = e.portOff p := by
    rw [Device.netWrite_port, off, show s.chip.dev.quiet.on F.NET_PORT_CFG_EN p = true from hon]
    exact (if_neg (by decide)).trans (if_pos (by decide))
  rw [effect] at told
  have ended := e.portOff_side p
  obtain ⟨lanes, state⟩ := e.portOff_shows p
  have down : e.downState p = 0 := by
    rw [Device.downState, off]
    rfl
  have whole : Device.Side true enableShown s.chip.dev.quiet t.chip.dev := (stored.loosen.mono fun _ => List.mem_append_left _).trans
    ((ended.mono fun _ => List.mem_append_right _).trans (told.loosen.mono (by simp)))
  refine ⟨t, run, ⟨hm, whole.berths, Device.keeps_mono whole.1 (but_of_outside (by decide))⟩, ?_, ?_, fun k hk => ?_⟩
  · rw [told.get (by decide), ended.get (by decide), disabled]
  · rw [told.get (by decide), state, down]
  · rw [told.portLanes (by decide), ended.portLanes startShown_apart.2] at hk
    rw [Device.laneSt, told.get (by decide)]
    exact (lanes k).trans (if_pos hk)

end Enable

/-! ### The steps of bring-up -/

/-- The fields that the steps of bring-up change. -/
def stepShown : List Fld := startShown ++ [F.LANE_STATUS_POL_INV, F.LANE_EVENTS_POLARITY, F.LANE_EVENTS_REVERSAL, F.LANE_QUAD_STATUS_RX_MAP,
  F.LANE_QUAD_STATUS_TX_REVERSED, F.LANE_CNT_LOCK_COUNT]

theorem startShown_step : ∀ f ∈ startShown, f ∈ stepShown := fun _ => List.mem_append_left _
theorem laneShown_step : ∀ f ∈ laneShown, f ∈ stepShown := fun f h => startShown_step f (laneShown_start f h)
theorem portShown_step : ∀ f ∈ portShown, f ∈ stepShown := fun f h => startShown_step f (portShown_start f h)

theorem stepShown_apart : (∀ f ∈ aliveFields, but stepShown f = true) ∧ (∀ f ∈ modeFields, but stepShown f = true) ∧ but stepShown F.LANE_CFG_RX_POL = true ∧
    but stepShown F.NET_PORT_CFG_FEC = true := by decide

section Steps

variable (d : Device)

theorem Device.heard_side {d e : Device} {l : List Fld} (h : Side true l d e) (k : Nat) (hl : F.LANE_STATUS_SIGNAL ∈ l) : Side true l d (e.heard k) := h.put k 1 hl

theorem Device.laneSt_heard (k j : Nat) : (d.heard k).laneSt j = d.laneSt j := Device.get_put_ne _ _ _ _ _ _ (by decide)

theorem Device.portAll_iff (p st : Nat) : d.portAll p st = true ↔ ∀ k ∈ d.portLanes p, d.laneSt k = st := by
  simp [portAll]

theorem Device.anComplete_trains {p : Nat} (hp : d.portExists p = true) (h : d.portAll p 1 = true) :
    Side true stepShown d (d.anComplete p) ∧ (d.anComplete p).portAll p 2 = true := by
  obtain ⟨e, he⟩ : ∃ e, e = forL (d.portLanes p) (fun l (d : Device) => (d.setLane l 2).heard l) d := ⟨_, rfl⟩
  have run : d.anComplete p = e.portRefresh p := by
    rw [he]
    exact if_pos (by rw [hp, h]; rfl)
  obtain ⟨side, states⟩ := forL_indexed (P := Side true laneShown d) (g := fun l (d : Device) => (d.setLane l 2).heard l) (v := fun _ => 2) (fun d k => d.laneSt k)
    (fun k e h => heard_side (h.trans (e.setLane_side k 2)) k (by simp [laneShown]))
    (fun k e _ j => (laneSt_heard _ k j).trans (e.setLane_states k 2 (by decide) j).1) (d.portLanes p) d (.refl d)
  rw [← he] at side states
  have whole : Side true stepShown d (e.portRefresh p) := (side.mono laneShown_step).trans ((e.portRefresh_shows p).1.mono portShown_step)
  rw [run]
  refine ⟨whole, (portAll_iff ..).mpr fun k hk => ?_⟩
  rw [whole.portLanes stepShown_apart.2.1] at hk
  rw [e.portRefresh_laneSt, states k, if_pos hk]

/-- The polarity that a lane takes: a fixed one, or the one decided. -/
def Device.polarity (l : Nat) (inverted : Bool) : Bool := if d.get F.LANE_CFG_RX_POL l = 0 then inverted else decide (d.get F.LANE_CFG_RX_POL l = 2)

theorem Device.setPolarity_shows (l : Nat) (inverted : Bool) :
    Side false [F.LANE_STATUS_POL_INV, F.LANE_EVENTS_POLARITY] d (d.setPolarity l inverted) ∧
    ∀ j, (d.setPolarity l inverted).on F.LANE_STATUS_POL_INV j = if j = l then d.polarity l inverted else d.on F.LANE_STATUS_POL_INV j := by
  have flagged (v : Bool) (j : Nat) : (d.flag F.LANE_STATUS_POL_INV l v).on F.LANE_STATUS_POL_INV j = if j = l then v else d.on F.LANE_STATUS_POL_INV j := by
    split
    next h => rw [h]; exact d.get_flag_same l v (by decide)
    next h => rw [Device.on, Device.flag, Device.get_put, if_neg fun e => h e.2.symm, Device.on]
  have stored (v : Bool) : Side false [F.LANE_STATUS_POL_INV, F.LANE_EVENTS_POLARITY] d (d.flag F.LANE_STATUS_POL_INV l v) := (Side.refl d).flag l v (by simp)
  have raised (e : Device) (j : Nat) : (e.raise F.LANE_EVENTS_POLARITY l).on F.LANE_STATUS_POL_INV j = e.on F.LANE_STATUS_POL_INV j := by
    rw [Device.on, Device.get_raise _ _ _ _ _ (.inl (by decide)) (.inl (by decide)), Device.on]
  unfold setPolarity polarity
  split
  next h =>
    rw [if_pos h]
    dsimp only
    split
    · exact ⟨(stored inverted).raise l (by simp), fun j => (raised _ j).trans (flagged inverted j)⟩
    · exact ⟨stored inverted, flagged inverted⟩
  next v h =>
    rw [if_neg (by simpa using h)]
    exact ⟨stored _, flagged _⟩

theorem Device.trainComplete_hunts {p : Nat} (inv : List Bool) (hp : d.portExists p = true) (h : d.portAll p 2 = true) :
    let e := d.trainComplete p inv
    Side true stepShown d e ∧ e.portAll p 3 = true ∧
      ∀ k ∈ d.portLanes p, d.get F.LANE_CFG_RX_POL k = 0 → e.on F.LANE_STATUS_POL_INV k = inv.getD (k - p) false := by
  obtain ⟨g, hg⟩ : ∃ g, g = fun l (d : Device) => ((d.setPolarity l (inv.getD (l - p) false)).setLane l 3).heard l := ⟨_, rfl⟩
  obtain ⟨e, he⟩ : ∃ e, e = forL (d.portLanes p) g d := ⟨_, rfl⟩
  have run : d.trainComplete p inv = e.portRefresh p := by
    rw [he, hg]
    exact if_pos (by rw [hp, h]; rfl)
  have steps (k : Nat) (e : Device) : Side true stepShown e (g k e) := by
    rw [hg]
    exact heard_side ((((e.setPolarity_shows k _).1.loosen).mono (by simp [stepShown])).trans ((setLane_side _ k 3).mono laneShown_step)) k (by simp [stepShown, startShown, laneShown])
  have state (k : Nat) (e : Device) (j : Nat) : (g k e).laneSt j = if j = k then 3 else e.laneSt j := by
    rw [hg]
    refine (laneSt_heard _ k j).trans ((setLane_states _ k 3 (by decide) j).1.trans ?_)
    rw [Device.laneSt, (e.setPolarity_shows k _).1.get (by decide), Device.laneSt]
  have polar (k : Nat) (e : Device) (j : Nat) : (g k e).on F.LANE_STATUS_POL_INV j = if j = k then e.polarity k (inv.getD (k - p) false) else e.on F.LANE_STATUS_POL_INV j := by
    rw [hg]
    have heard (e : Device) : (e.heard k).on F.LANE_STATUS_POL_INV j = e.on F.LANE_STATUS_POL_INV j := by
      rw [Device.on, Device.heard, Device.get_put_ne _ _ _ _ _ _ (by decide), Device.on]
    exact (heard _).trans (((setLane_side _ k 3).on (by decide) j).trans ((e.setPolarity_shows k _).2 j))
  obtain ⟨side, states⟩ := forL_indexed (P := Side true stepShown d) (g := g) (v := fun _ => 3) (fun d k => d.laneSt k)
    (fun k e h => h.trans (steps k e)) (fun k e _ j => state k e j) (d.portLanes p) d (.refl d)
  obtain ⟨-, polars⟩ := forL_indexed (P := Side true stepShown d) (g := g) (v := fun k => d.polarity k (inv.getD (k - p) false)) (fun d k => d.on F.LANE_STATUS_POL_INV k)
    (fun k e h => h.trans (steps k e)) (fun k e h j => by rw [polar k e j, Device.polarity, h.get stepShown_apart.2.2.1, Device.polarity]) (d.portLanes p) d (.refl d)
  rw [← he] at side states polars
  have refresh := (e.portRefresh_shows p).1
  have whole : Side true stepShown d (e.portRefresh p) := side.trans (refresh.mono portShown_step)
  simp only [run]
  refine ⟨whole, (portAll_iff ..).mpr fun k hk => ?_, fun k hk h0 => ?_⟩
  · rw [whole.portLanes stepShown_apart.2.1] at hk
    rw [e.portRefresh_laneSt, states k, if_pos hk]
  · rw [refresh.on (by decide), polars k, if_pos hk, Device.polarity, if_pos h0]

/-- The time that an attempt has left its port in. -/
def Device.attemptLimit (p : Nat) : Nat :=
  if d.laneSt p = 2 then 500000000 else if d.laneSt p = 3 ∧ d.portAn p = false then 100000000 else if d.laneSt p = 4 then 10000000 else 0

theorem Device.attemptTimeout_fails {p : Nat} (hp : d.portExists p = true) (hen : d.on F.NET_PORT_CFG_EN p = true) (hst : d.laneSt p ≠ 0)
    (hup : d.portAll p 5 = false) :
    let e := d.attemptTimeout p
    d.keeps e (but startShown) ∧ e.berths = d.berths ∧ e.begun p ∧ e.get F.NET_PORT_STATUS_STATE p = 3 ∧ (d.laneX p).since + d.attemptLimit p ≤ e.now := by
  obtain ⟨t, ht⟩ : ∃ t, t = (d.laneX p).since + d.attemptLimit p := ⟨_, rfl⟩
  obtain ⟨w, hw⟩ : ∃ w, w = d.waitNow t := ⟨_, rfl⟩
  obtain ⟨g, hg⟩ : ∃ g : Device, g = { w with lanes := { w.lanes with failed := insert p w.lanes.failed } } := ⟨_, rfl⟩
  have run : d.attemptTimeout p = g.portStart p := by
    unfold Device.attemptTimeout
    dsimp only
    rw [if_neg (by simp [hp, hen, hst, hup]), hg, hw, ht]
    simp only [Bool.not_eq_true']
    rfl
  have regs : g.regs = d.regs := by rw [hg, hw]; exact d.waitNow_regs t
  have berths : g.berths = d.berths := by rw [hg, hw]; exact d.waitNow_berths t
  have now : t ≤ g.now := by rw [hg, hw]; exact (le_max_right d.now t).trans (d.waitNow_now t).ge
  have started := g.portStart_side p
  obtain ⟨-, state, -⟩ := g.portStart_shows p
  have again : g.downState p = 3 := by
    have on : g.on F.NET_PORT_CFG_EN p = true := (Device.on_congr regs ..).trans hen
    have here : g.portExists p = true := (Device.portExists_of_get (fun i => Device.get_congr regs _ i) p).trans hp
    have listed : p ∈ g.lanes.failed := by rw [hg]; exact List.mem_insert_self
    rw [Device.downState, on, here, decide_eq_true listed, Bool.or_true]
    rfl
  simp only [run, ← ht]
  exact ⟨Device.keeps_trans (Device.keeps_of_regs regs _) started.1, started.berths.trans berths, g.portStart_begun p, state.trans again, now.trans started.now.ge⟩

end Steps

/-! ### Lock, alignment, loss of lock -/

section Lock

variable (d : Device)

/-- A lane enters a state with its lock kept. -/
def Device.lockedIn (st k : Nat) (d : Device) : Device :=
  (d.setLane k st).setLaneX k { (d.setLane k st).laneX k with locked := true, checkAt := (d.setLane k st).now + 100000000 }

theorem Device.lockedIn_shows {st : Nat} (hst : st < 8) (k : Nat) :
    Side true laneShown d (Device.lockedIn st k d) ∧ (∀ j, (Device.lockedIn st k d).laneSt j = if j = k then st else d.laneSt j) ∧
    ∀ j, ((Device.lockedIn st k d).laneX j).locked = if j = k then true else (d.laneX j).locked := by
  refine ⟨(d.setLane_side k st).trans (setLaneX_side _ k _), fun j => (d.setLane_states k st hst j).1, fun j => ?_⟩
  obtain ⟨e, he⟩ : ∃ e, e = d.setLane k st := ⟨_, rfl⟩
  have other := (d.setLane_states k st hst j).2.1
  rw [Device.lockedIn, ← he]
  rw [← he] at other
  split
  next h => rw [h, Device.laneX_setLaneX]
  next h =>
    rw [if_neg h] at other
    rw [← other, Device.laneX, Device.setLaneX, Device.laneX]
    exact congrArg LaneX.locked (Tab.get_set_other _ _ _ (Ne.symm h))

/-- The lanes of a port enter a state with their locks, and the port's state follows. -/
theorem Device.lockedPort_shows {st : Nat} (hst : st < 8) (p : Nat) :
    let e := (forL (d.portLanes p) (Device.lockedIn st) d).portRefresh p
    Side true startShown d e ∧ (∀ k ∈ d.portLanes p, e.laneSt k = st ∧ (e.laneX k).locked = true) ∧
      (st = 5 → d.on F.NET_PORT_CFG_EN p = true → d.portExists p = true → e.get F.NET_PORT_STATUS_STATE p = 2 ∧
        (d.get F.NET_PORT_STATUS_STATE p ≠ 2 → e.get F.NET_EVENTS_PORT_UP = 1)) := by
  obtain ⟨f, hf⟩ : ∃ f, f = forL (d.portLanes p) (Device.lockedIn st) d := ⟨_, rfl⟩
  obtain ⟨side, states⟩ := forL_indexed (P := Side true laneShown d) (g := Device.lockedIn st) (v := fun _ => st) (fun d k => d.laneSt k)
    (fun k e h => h.trans (e.lockedIn_shows hst k).1) (fun k e _ => (e.lockedIn_shows hst k).2.1) (d.portLanes p) d (.refl d)
  obtain ⟨-, locks⟩ := forL_indexed (P := Side true laneShown d) (g := Device.lockedIn st) (v := fun _ => true) (fun d k => (d.laneX k).locked)
    (fun k e h => h.trans (e.lockedIn_shows hst k).1) (fun k e _ => (e.lockedIn_shows hst k).2.2) (d.portLanes p) d (.refl d)
  obtain ⟨refresh, lane, state, up, -⟩ := f.portRefresh_shows p
  simp only [← hf] at side states locks ⊢
  refine ⟨(side.mono laneShown_start).trans (refresh.mono portShown_start), fun k hk => ⟨?_, ?_⟩, fun h5 hen hx => ?_⟩
  · rw [f.portRefresh_laneSt, states k, if_pos hk]
  · rw [Device.laneX, lane]
    exact (locks k).trans (if_pos hk)
  · have all : (f.portLanes p).all (fun l => decide (f.laneSt l = 5)) = true := by
      rw [List.all_eq_true]
      intro k hk
      rw [side.portLanes laneShown_apart.2] at hk
      exact decide_eq_true (by rw [states k, if_pos hk, h5])
    have two : f.portState p = 2 := by
      rw [Device.portState, side.on (laneShown_apart.2 _ (by simp [modeFields])), hen, side.portExists laneShown_apart.2, hx, all]
      rfl
    rw [two] at state up
    exact ⟨state, fun was => up rfl fun h => was ((side.get (by decide) p).symm.trans h)⟩

/-- A lane with lock and polarity. -/
def Device.laneLocked (l : Nat) (inv : Bool) : Device :=
  let e := if d.portAn (d.lanePort l) && decide (inv = d.on F.LANE_STATUS_POL_INV l) then d else d.setPolarity l inv
  (e.setLaneX l { e.laneX l with locked := true }).heard l

/-- The polarity that is decided is one that the lane takes. -/
theorem Device.polarity_decided {l p n i : Nat} {m inv : Bool} (h : d.decide244 l p n i m = some inv) :
    d.polarity l inv = inv ∨ d.portAn p = true ∧ inv = d.on F.LANE_STATUS_POL_INV l := by
  unfold decide244 at h
  unfold polarity
  by_cases fixed : d.get F.LANE_CFG_RX_POL l = 0
  · exact .inl (if_pos fixed)
  · rw [if_neg fixed]
    split_ifs at h with fec marks an
    · obtain rfl := Option.some.inj h
      exact .inl (marks.resolve_left fixed).symm
    · exact .inr ⟨an, (Option.some.inj h).symm⟩
    · exact .inl (Option.some.inj h)

/-- The fields that a lane's lock changes. -/
def lockShown : List Fld := [F.LANE_STATUS_POL_INV, F.LANE_EVENTS_POLARITY, F.LANE_STATUS_SIGNAL]

theorem lockShown_step : ∀ f ∈ lockShown, f ∈ stepShown := by simp [lockShown, stepShown, startShown, laneShown]

theorem Device.laneLocked_shows {l n i : Nat} {m inv : Bool} (h : d.decide244 l (d.lanePort l) n i m = some inv) :
    let e := d.laneLocked l inv
    Side true lockShown d e ∧ e.on F.LANE_STATUS_POL_INV l = inv ∧ (∀ k, e.laneSt k = d.laneSt k) ∧
      (∀ k, (e.laneX k).locked = if k = l then true else (d.laneX k).locked) := by
  obtain ⟨f, hf⟩ : ∃ f, f = if d.portAn (d.lanePort l) && decide (inv = d.on F.LANE_STATUS_POL_INV l) then d else d.setPolarity l inv := ⟨_, rfl⟩
  have first : Side false [F.LANE_STATUS_POL_INV, F.LANE_EVENTS_POLARITY] d f ∧ f.on F.LANE_STATUS_POL_INV l = inv := by
    rw [hf]
    split
    next same =>
      simp only [Bool.and_eq_true, decide_eq_true_eq] at same
      exact ⟨.refl d, same.2.symm⟩
    next other =>
      obtain ⟨side, polar⟩ := d.setPolarity_shows l inv
      refine ⟨side, (polar l).trans ((if_pos rfl).trans ((d.polarity_decided h).resolve_right fun ⟨an, same⟩ => other ?_))⟩
      rw [an, decide_eq_true same]
      rfl
  obtain ⟨side, polar⟩ := first
  have got : d.laneLocked l inv = (f.setLaneX l { f.laneX l with locked := true }).heard l := by rw [hf]; rfl
  have lane (k : Nat) : f.laneX k = d.laneX k := by rw [Device.laneX, side.lanes, Device.laneX]
  simp only [got]
  refine ⟨heard_side ((side.loosen.mono (by simp [lockShown])).trans (setLaneX_side _ l _)) l (by simp [lockShown]), ?_, fun k => ?_, fun k => ?_⟩
  · rw [Device.on, Device.heard, Device.get_put_ne _ _ _ _ _ _ (by decide)]
    exact polar
  · rw [laneSt_heard]
    exact side.get (by decide) k
  · have set : ((f.setLaneX l { f.laneX l with locked := true }).heard l).laneX k = if l = k then { f.laneX l with locked := true } else f.laneX k := Tab.get_set ..
    rw [set, lane k]
    by_cases hk : k = l
    · rw [if_pos hk.symm, if_pos hk]
    · rw [if_neg (Ne.symm hk), if_neg hk]

theorem Device.lockAcquired_eq {l n i : Nat} {m : Bool} (hl : l < 28) (hst : d.laneSt l = 3) (hx : (d.laneX l).locked = false) :
    d.lockAcquired l n i m = match d.decide244 l (d.lanePort l) n i m with
      | none => d
      | some inv =>
        let e := d.laneLocked l inv
        let p := d.lanePort l
        if (e.portLanes p).all (fun k => (e.laneX k).locked && decide (e.laneSt k = 3)) then
          (forL (e.portLanes p) (Device.lockedIn (if e.get F.NET_PORT_CFG_MODE p = 2 then 4 else 5)) e).portRefresh p
        else e := by
  refine Eq.trans (if_neg ?_) rfl
  simp [hl, hst, hx]

end Lock

section Ports

variable {s : State} {l n i : Nat} {m : Bool}

/-- What a step of bring-up leaves alone. -/
theorem Device.Side.apart {d e : Device} (h : d.Side true stepShown e) : e.berths = d.berths ∧ d.keeps e (outside [2, 8, 9, 10]) :=
  ⟨h.berths, Device.keeps_mono h.1 (but_of_outside (by decide))⟩

theorem Device.portExists_single (d : Device) (hl : l < 28) (hq : d.get F.NET_PORT_CFG_MODE (l / 4 * 4) ≠ 2) : d.portExists l = true := by
  rw [Device.portExists, decide_eq_true hl, decide_eq_true hq, Bool.or_true, Bool.and_true]

theorem laneLock_single (hl : l < 28) (hq : s.chip.dev.get F.NET_PORT_CFG_MODE (l / 4 * 4) ≠ 2) (hm : s.chip.dev.get F.NET_PORT_CFG_MODE l ≠ 2)
    (hen : s.chip.dev.on F.NET_PORT_CFG_EN l = true) (hst : s.chip.dev.laneSt l = 3) (hx : (s.chip.dev.laneX l).locked = false) :
    let d := s.chip.dev
    (d.decide244 l l n i m = none → ∃ t, exec (.laneLockAcquired l n i m) s = .next t ∧ t.chip = s.chip.quiet) ∧
    (∀ inv, d.decide244 l l n i m = some inv →
      ∃ t, exec (.laneLockAcquired l n i m) s = .next t ∧
        (t.chip.mem = s.chip.mem ∧ t.chip.dev.berths = s.chip.dev.berths ∧ s.chip.dev.keeps t.chip.dev (outside [2, 8, 9, 10])) ∧
        t.chip.dev.laneSt l = 5 ∧ t.chip.dev.on F.LANE_STATUS_POL_INV l = inv ∧ t.chip.dev.get F.NET_PORT_STATUS_STATE l = 2 ∧
        (d.get F.NET_PORT_STATUS_STATE l ≠ 2 → t.chip.dev.get F.NET_EVENTS_PORT_UP = 1)) := by
  intro d
  have port : d.quiet.lanePort l = l := if_neg hq
  have eq := d.quiet.lockAcquired_eq (n := n) (i := i) (m := m) hl hst hx
  rw [port] at eq
  obtain ⟨t, ht, hmem, hd⟩ := onDev_next (s := s) (c := .laneLockAcquired l n i m) (f := fun d => d.lockAcquired l n i m) rfl eq
  refine ⟨fun none => ?_, fun inv some => ?_⟩
  · rw [show d.quiet.decide244 l l n i m = _ from none] at hd
    exact ⟨t, ht, congrArg₂ Chip.mk hmem hd⟩
  · obtain ⟨e, he⟩ : ∃ e, e = d.quiet.laneLocked l inv := ⟨_, rfl⟩
    obtain ⟨side, polar, states, locks⟩ := d.quiet.laneLocked_shows (l := l) (n := n) (i := i) (m := m) (inv := inv) (by rw [port]; exact some)
    rw [show d.quiet.decide244 l l n i m = _ from some] at hd
    rw [← he] at side polar states locks
    simp only [← he] at hd
    have mode : e.get F.NET_PORT_CFG_MODE l = d.quiet.get F.NET_PORT_CFG_MODE l := side.get (by decide) l
    have lanes : e.portLanes l = [l] := by
      rw [side.portLanes (by decide)]
      exact if_neg fun h => hm h.1
    have st : e.laneSt l = 3 := (states l).trans hst
    rw [lanes, if_pos (by simp [locks, st]), if_neg (by rw [mode]; exact hm), ← lanes] at hd
    obtain ⟨whole, all, state⟩ := e.lockedPort_shows (st := 5) (by decide) l
    rw [← hd] at whole all state
    obtain ⟨berths, kept⟩ := ((side.mono lockShown_step).trans (whole.mono startShown_step)).apart
    obtain ⟨up, event⟩ := state rfl ((side.on (by decide) l).trans hen)
      ((side.portExists (by decide) l).trans (d.quiet.portExists_single hl hq))
    exact ⟨t, ht, ⟨hmem, berths, kept⟩, (all l (by rw [lanes]; simp)).1, (whole.on (by decide) l).trans polar, up,
      fun was => event fun h => was ((side.get (by decide) l).symm.trans h)⟩

theorem laneLock_quad {inv : Bool} (hl : l < 28) (hq : s.chip.dev.get F.NET_PORT_CFG_MODE (l / 4 * 4) = 2) (hst : s.chip.dev.laneSt l = 3)
    (hx : (s.chip.dev.laneX l).locked = false) (decided : s.chip.dev.decide244 l (l / 4 * 4) n i m = some inv) :
    let d := s.chip.dev
    let q := l / 4 * 4
    ∃ t, exec (.laneLockAcquired l n i m) s = .next t ∧
      (t.chip.mem = s.chip.mem ∧ t.chip.dev.berths = s.chip.dev.berths ∧ s.chip.dev.keeps t.chip.dev (outside [2, 8, 9, 10])) ∧
      t.chip.dev.on F.LANE_STATUS_POL_INV l = inv ∧ (t.chip.dev.laneX l).locked = true ∧
      ((∀ k ∈ d.portLanes q, k ≠ l → d.laneSt k = 3 ∧ (d.laneX k).locked = true) → t.chip.dev.portAll q 4 = true) ∧
      ((∃ k ∈ d.portLanes q, k ≠ l ∧ (d.laneX k).locked = false) → ∀ k ∈ d.portLanes q, t.chip.dev.laneSt k = d.laneSt k) := by
  intro d q
  have port : d.quiet.lanePort l = q := if_pos hq
  have eq := d.quiet.lockAcquired_eq (n := n) (i := i) (m := m) hl hst hx
  rw [port] at eq
  obtain ⟨t, ht, hmem, hd⟩ := onDev_next (s := s) (c := .laneLockAcquired l n i m) (f := fun d => d.lockAcquired l n i m) rfl eq
  obtain ⟨e, he⟩ : ∃ e, e = d.quiet.laneLocked l inv := ⟨_, rfl⟩
  obtain ⟨side, polar, states, locks⟩ := d.quiet.laneLocked_shows (l := l) (n := n) (i := i) (m := m) (inv := inv) (by rw [port]; exact decided)
  rw [show d.quiet.decide244 l q n i m = _ from decided] at hd
  rw [← he] at side polar states locks
  simp only [← he] at hd
  have lanes : e.portLanes q = d.portLanes q := side.portLanes (by decide) q
  have mode : e.get F.NET_PORT_CFG_MODE q = 2 := (side.get (by decide) q).trans hq
  have own : l ∈ d.portLanes q := by
    unfold Device.portLanes
    rw [if_pos ⟨hq, by omega⟩]
    simp only [List.mem_cons, List.not_mem_nil, or_false]
    omega
  rw [if_pos mode] at hd
  by_cases all : (e.portLanes q).all (fun k => (e.laneX k).locked && decide (e.laneSt k = 3)) = true
  case pos =>
    rw [if_pos all] at hd
    obtain ⟨whole, raised, -⟩ := e.lockedPort_shows (st := 4) (by decide) q
    rw [← hd] at whole raised
    rw [lanes] at raised
    have total := (side.mono lockShown_step).trans (whole.mono startShown_step)
    obtain ⟨berths, kept⟩ := total.apart
    refine ⟨t, ht, ⟨hmem, berths, kept⟩, (whole.on (by decide) l).trans polar, (raised l own).2, fun _ => (Device.portAll_iff ..).mpr fun k hk => ?_, ?_⟩
    · exact (raised k (by rwa [total.portLanes stepShown_apart.2.1] at hk)).1
    · rintro ⟨k, hk, hkl, free⟩
      have := List.all_eq_true.mp all k (by rwa [lanes])
      rw [locks k, if_neg hkl, show (d.quiet.laneX k).locked = false from free] at this
      exact absurd this (by simp)
  case neg =>
    rw [if_neg all] at hd
    obtain ⟨berths, kept⟩ := (side.mono lockShown_step).apart
    rw [← hd] at berths kept polar states locks
    refine ⟨t, ht, ⟨hmem, berths, kept⟩, polar, (locks l).trans (if_pos rfl), fun rest => (all ?_).elim, fun _ k _ => states k⟩
    rw [List.all_eq_true]
    intro k hk
    rw [lanes] at hk
    rw [hd] at locks states
    by_cases hkl : k = l
    · rw [locks k, if_pos hkl, states k, hkl, show d.quiet.laneSt l = 3 from hst]
      rfl
    · obtain ⟨three, lock⟩ := rest k hk hkl
      rw [locks k, if_neg hkl, states k, show d.quiet.laneSt k = 3 from three, show (d.quiet.laneX k).locked = true from lock]
      rfl

theorem laneAlign_up {q map : Nat} (hq : q < 7) (hmap : map < 256) (hm : s.chip.dev.get F.NET_PORT_CFG_MODE (4 * q) = 2)
    (hall : s.chip.dev.portAll (4 * q) 4 = true) (hen : s.chip.dev.on F.NET_PORT_CFG_EN (4 * q) = true) :
    let d := s.chip.dev
    ∃ t, exec (.laneAlignComplete q map) s = .next t ∧
      (t.chip.mem = s.chip.mem ∧ t.chip.dev.berths = s.chip.dev.berths ∧ s.chip.dev.keeps t.chip.dev (outside [2, 8, 9, 10])) ∧
      t.chip.dev.portAll (4 * q) 5 = true ∧ t.chip.dev.get F.LANE_QUAD_STATUS_RX_MAP q = map ∧ t.chip.dev.get F.NET_PORT_STATUS_STATE (4 * q) = 2 ∧
      (t.chip.dev.get F.LANE_QUAD_STATUS_TX_REVERSED q = 1 ↔
        (d.get F.LANE_QUAD_CFG_TX_MAP q = 0 ∧ map = 0x1B) ∨ d.get F.LANE_QUAD_CFG_TX_MAP q = 2) := by
  intro d
  obtain ⟨rev, hrev⟩ : ∃ rev, rev = if d.get F.LANE_QUAD_CFG_TX_MAP q = 0 then decide (map = 0x1B) else decide (d.get F.LANE_QUAD_CFG_TX_MAP q = 2) := ⟨_, rfl⟩
  obtain ⟨f, hf⟩ : ∃ f, f = (d.quiet.put F.LANE_QUAD_STATUS_RX_MAP q map).flag F.LANE_QUAD_STATUS_TX_REVERSED q rev := ⟨_, rfl⟩
  obtain ⟨e, he⟩ : ∃ e, e = if d.get F.LANE_QUAD_CFG_TX_MAP q = 0 ∧ rev ≠ d.on F.LANE_QUAD_STATUS_TX_REVERSED q then f.raise F.LANE_EVENTS_REVERSAL (4 * q) else f := ⟨_, rfl⟩
  have run : d.quiet.alignComplete q map = (forL (e.portLanes (4 * q)) (Device.lockedIn 5) e).portRefresh (4 * q) := by
    rw [he, hf, hrev]
    refine Eq.trans (if_neg ?_) rfl
    rw [show d.quiet.get F.NET_PORT_CFG_MODE (4 * q) = 2 from hm, show d.quiet.portAll (4 * q) 4 = true from hall]
    decide
  have stored : Device.Side false stepShown d.quiet f := hf ▸ ((Device.Side.refl d.quiet).put q map (by simp [stepShown])).flag q rev (by simp [stepShown])
  have side : Device.Side false stepShown d.quiet e := he ▸ .ite (fun _ => stored.raise _ (by simp [stepShown])) fun _ => stored
  have gets (g : Fld) (i : Nat) (hg : F.LANE_EVENTS_REVERSAL.id ≠ g.id) (ho : F.HOST_EVENTS_EVQ_OVERFLOW.id ≠ g.id) : e.get g i = f.get g i := by
    rw [he]
    split
    · exact Device.get_raise _ _ _ _ _ (.inl hg) (.inl ho)
    · rfl
  have mapped : e.get F.LANE_QUAD_STATUS_RX_MAP q = map := by
    rw [gets _ _ (by decide) (by decide), hf, Device.flag, Device.get_put_ne _ _ _ _ _ _ (by decide), Device.get_put_same]
    exact Nat.mod_eq_of_lt hmap
  have reversed : e.get F.LANE_QUAD_STATUS_TX_REVERSED q = if rev then 1 else 0 := by
    rw [gets _ _ (by decide) (by decide), hf, Device.flag, Device.get_put_same]
    cases rev <;> rfl
  obtain ⟨whole, raised, state⟩ := e.lockedPort_shows (st := 5) (by decide) (4 * q)
  obtain ⟨t, ht, hmem, hd⟩ := onDev_next (s := s) (c := .laneAlignComplete q map) (f := fun d => d.alignComplete q map) rfl run
  rw [← hd] at whole raised state
  have total := side.loosen.trans (whole.mono startShown_step)
  obtain ⟨berths, kept⟩ := total.apart
  have here : e.portExists (4 * q) = true := by
    rw [side.portExists stepShown_apart.2.1, Device.portExists, decide_eq_true (show 4 * q < 28 by omega), decide_eq_true (show 4 * q % 4 = 0 by omega)]
    rfl
  refine ⟨t, ht, ⟨hmem, berths, kept⟩, (Device.portAll_iff ..).mpr fun k hk => ?_, (whole.get (by decide) q).trans mapped,
    (state rfl ((side.on (by decide) _).trans hen) here).1, ?_⟩
  · exact (raised k (by rwa [whole.portLanes startShown_apart.2] at hk)).1
  · rw [whole.get (by decide), reversed, hrev]
    by_cases h0 : d.get F.LANE_QUAD_CFG_TX_MAP q = 0
    · simp [h0]
    · simp [h0]

theorem laneLockLoss_restarts (hl : l < 28) (hst : s.chip.dev.laneSt l = 5) :
    let d := s.chip.dev
    let p := d.lanePort l
    ∃ t, exec (.laneLockLoss l) s = .next t ∧
      (t.chip.mem = s.chip.mem ∧ t.chip.dev.berths = s.chip.dev.berths ∧ s.chip.dev.keeps t.chip.dev (outside [2, 8, 9, 10])) ∧
      t.chip.dev.begun p ∧ t.chip.dev.get F.NET_PORT_STATUS_STATE p ≠ 2 ∧
      t.chip.dev.get F.LANE_CNT_LOCK_COUNT l = min (d.get F.LANE_CNT_LOCK_COUNT l + 1) (2 ^ F.LANE_CNT_LOCK_COUNT.width - 1) ∧
      (d.get F.NET_PORT_STATUS_STATE p = 2 → t.chip.dev.get F.NET_EVENTS_PORT_DOWN = 1) := by
  intro d p
  obtain ⟨e, he⟩ : ∃ e, e = d.quiet.bump F.LANE_CNT_LOCK_COUNT l 1 := ⟨_, rfl⟩
  have run : d.quiet.lockLoss l = e.portStart p := by
    rw [he]
    refine (if_pos hl).trans (if_pos ?_)
    rw [show d.quiet.laneSt l = 5 from hst]
    rfl
  have counted : Device.Side false [F.LANE_CNT_LOCK_COUNT] d.quiet e := he ▸ (Device.Side.refl d.quiet).put l _ (by simp)
  have count : e.get F.LANE_CNT_LOCK_COUNT l = min (d.get F.LANE_CNT_LOCK_COUNT l + 1) (2 ^ F.LANE_CNT_LOCK_COUNT.width - 1) := by
    rw [he]; exact Device.get_bump ..
  have side := e.portStart_side p
  obtain ⟨-, state, down⟩ := e.portStart_shows p
  have begun := e.portStart_begun p
  obtain ⟨t, ht, hmem, hd⟩ := onDev_next (s := s) (c := .laneLockLoss l) (f := fun d => d.lockLoss l) rfl run
  rw [← hd] at side state down begun
  obtain ⟨berths, kept⟩ := ((counted.loosen.mono (by simp [stepShown])).trans (side.mono startShown_step)).apart
  exact ⟨t, ht, ⟨hmem, berths, kept⟩, begun, by rw [state]; exact (e.downState_lt p).2, (side.get (by decide) l).trans count,
    fun was => down ((counted.get (by decide) p).trans was)⟩

theorem laneAnComplete_trains {p : Nat} (hp : s.chip.dev.portExists p = true) (h : s.chip.dev.portAll p 1 = true) :
    ∃ t, exec (.laneAnComplete p) s = .next t ∧
      (t.chip.mem = s.chip.mem ∧ t.chip.dev.berths = s.chip.dev.berths ∧ s.chip.dev.keeps t.chip.dev (outside [2, 8, 9, 10])) ∧
      t.chip.dev.portAll p 2 = true := by
  obtain ⟨side, all⟩ := s.chip.dev.quiet.anComplete_trains hp h
  obtain ⟨t, ht, hmem, hd⟩ := onDev_next (s := s) (c := .laneAnComplete p) (f := fun d => d.anComplete p) rfl rfl
  rw [← hd] at side all
  exact ⟨t, ht, ⟨hmem, side.apart⟩, all⟩

theorem laneTrainComplete_hunts {p : Nat} (inv : List Bool) (hp : s.chip.dev.portExists p = true) (h : s.chip.dev.portAll p 2 = true) :
    ∃ t, exec (.laneTrainComplete p inv) s = .next t ∧
      (t.chip.mem = s.chip.mem ∧ t.chip.dev.berths = s.chip.dev.berths ∧ s.chip.dev.keeps t.chip.dev (outside [2, 8, 9, 10])) ∧
      t.chip.dev.portAll p 3 = true ∧
      ∀ k ∈ s.chip.dev.portLanes p, s.chip.dev.get F.LANE_CFG_RX_POL k = 0 → t.chip.dev.on F.LANE_STATUS_POL_INV k = inv.getD (k - p) false := by
  obtain ⟨side, all, polar⟩ := s.chip.dev.quiet.trainComplete_hunts inv hp h
  obtain ⟨t, ht, hmem, hd⟩ := onDev_next (s := s) (c := .laneTrainComplete p inv) (f := fun d => d.trainComplete p inv) rfl rfl
  rw [← hd] at side all polar
  exact ⟨t, ht, ⟨hmem, side.apart⟩, all, polar⟩

theorem laneAttemptTimeout_fails {p : Nat} (hp : s.chip.dev.portExists p = true) (hen : s.chip.dev.on F.NET_PORT_CFG_EN p = true)
    (hst : s.chip.dev.laneSt p ≠ 0) (hup : s.chip.dev.portAll p 5 = false) :
    ∃ t, exec (.laneAttemptTimeout p) s = .next t ∧
      (t.chip.mem = s.chip.mem ∧ t.chip.dev.berths = s.chip.dev.berths ∧ s.chip.dev.keeps t.chip.dev (outside [2, 8, 9, 10])) ∧
      t.chip.dev.begun p ∧ t.chip.dev.get F.NET_PORT_STATUS_STATE p = 3 ∧
      (s.chip.dev.laneX p).since + s.chip.dev.attemptLimit p ≤ t.chip.dev.now := by
  obtain ⟨kept, berths, rest⟩ := s.chip.dev.quiet.attemptTimeout_fails hp hen hst hup
  obtain ⟨t, ht, hmem, hd⟩ := onDev_next (s := s) (c := .laneAttemptTimeout p) (f := fun d => d.attemptTimeout p) rfl rfl
  rw [← hd] at kept berths rest
  exact ⟨t, ht, ⟨hmem, berths, Device.keeps_mono kept (but_of_outside (by decide))⟩, rest⟩

end Ports

/-- Settles O37: a port's lanes from their start to UP, their loss, and an attempt that runs out of time. -/
theorem mediaPortsComeUpByTheirSteps : Obligations.MediaPortsComeUpByTheirSteps :=
  ⟨fun _ _ _ _ hs hp hw => ⟨portEnable_starts hs hp hw, portDisable_stops hs hp hw⟩,
    fun _ _ inv hp => ⟨laneAnComplete_trains hp, laneTrainComplete_hunts inv hp, fun hen hst hup => laneAttemptTimeout_fails hp hen hst hup⟩,
    fun _ _ _ _ _ hl hq hm hen hst hx => laneLock_single hl hq hm hen hst hx, fun _ _ _ _ _ _ hl hq hst hx decided => laneLock_quad hl hq hst hx decided,
    fun _ _ _ hq hmap hm hall hen => laneAlign_up hq hmap hm hall hen, fun _ _ hl hst => laneLockLoss_restarts hl hst⟩

end Sys2Proof.Machine
end

section
/-!
SUPPORT. Clocks of domains and boot: O46.
-/

namespace Sys2Proof.Machine

/-! ### Clocks of the domains -/

section Clocks

variable (c : Chip) (pd : Nat)

theorem Chip.clocksGo_waits (h : c.dev.clkWait ≠ []) : c.clocksGo = c := if_pos (by simp [h])

/-- The device after the clock of a domain has locked. -/
def Device.outOfReset (d : Device) (pd : Nat) : Device :=
  ({ d with clkWait := d.clkWait.erase pd } : Device).put F.RST_CLK_STATUS_IN_RESET 0 (setBit (d.get F.RST_CLK_STATUS_IN_RESET) pd false)

theorem Device.outOfReset_inReset (d : Device) (pd : Nat) : (d.outOfReset pd).inReset pd = false := by
  rw [Device.inReset, Device.outOfReset, Device.get_put_same, Nat.testBit_mod_two_pow, testBit_setBit, if_pos rfl, Bool.and_false]

theorem Chip.clockLock_awaited (h : c.dev.awaits pd = true) : c.clockLock pd =
    (if pd = 1 then Chip.fuses ⟨c.mem, c.dev.outOfReset pd⟩ else ⟨c.mem, c.dev.outOfReset pd⟩).clocksGo := if_neg (by simp [h])

theorem domainClockLock_clears {s : State} {pd : Nat} (ha : s.chip.dev.awaits pd = true) (more : s.chip.dev.clkWait.erase pd ≠ []) (h1 : pd ≠ 1) :
    let d := s.chip.dev
    ∃ t, exec (.domainClockLock pd) s = .next t ∧ t.chip.mem = s.chip.mem ∧ t.chip.dev.inReset pd = false ∧
      t.chip.dev.clkWait = d.clkWait.erase pd ∧ t.chip.dev.pwr = d.pwr := by
  intro d
  have run : s.chip.quiet.clockLock pd = ⟨s.chip.mem, d.quiet.outOfReset pd⟩ := by
    rw [Chip.clockLock_awaited _ _ (show s.chip.quiet.dev.awaits pd = true from ha), if_neg h1]
    exact Chip.clocksGo_waits _ more
  obtain ⟨t, ht, hm, hd⟩ := onChip_next (s := s) (c := .domainClockLock pd) (f := Chip.clockLock pd) rfl run
  exact ⟨t, ht, hm, by rw [hd]; exact d.quiet.outOfReset_inReset pd, by rw [hd]; rfl, by rw [hd]; rfl⟩

theorem Chip.fuses_runs : ∃ f, c.fuses = ⟨c.mem, f⟩ ∧
    Device.Side false [F.UPD_OTP_SVN_SVN] (c.dev.put F.HOST_LC_STATUS_STATE 0 c.mem.otp.lc) f :=
  ⟨_, rfl, .forN (fun i d => (Device.Side.refl d).put i _ (by simp)) _⟩

theorem Chip.fuses_shows (hl : c.mem.otp.lc < 4) : ∃ f, c.fuses = ⟨c.mem, f⟩ ∧
    f.clkWait = c.dev.clkWait ∧ f.pwr = c.dev.pwr ∧ (∀ k, f.inReset k = c.dev.inReset k) ∧
      f.get F.SYS_BOOT_STATUS_STEP = c.dev.get F.SYS_BOOT_STATUS_STEP ∧ f.get F.HOST_LC_STATUS_STATE = c.mem.otp.lc := by
  obtain ⟨f, hf, shown⟩ := c.fuses_runs
  obtain ⟨e, he⟩ : ∃ e, e = c.dev.put F.HOST_LC_STATUS_STATE 0 c.mem.otp.lc := ⟨_, rfl⟩
  have first : Device.Side false [F.HOST_LC_STATUS_STATE] c.dev e := he ▸ (Device.Side.refl c.dev).put 0 _ (by simp)
  have lc : e.get F.HOST_LC_STATUS_STATE = c.mem.otp.lc := by
    rw [he, Device.get_put_same]
    exact Nat.mod_eq_of_lt hl
  rw [← he] at shown
  refine ⟨f, hf, ?_, shown.pwr.trans first.pwr, fun k => ?_, (shown.get (by decide) 0).trans (first.get (by decide) 0),
    (shown.get (by decide) 0).trans lc⟩
  · exact (congrArg Device.clkWait shown.2 :).trans (congrArg Device.clkWait first.2 :)
  · rw [Device.inReset, shown.get (by decide), first.get (by decide), Device.inReset]

theorem domainClockLock_pd1 {s : State} (ha : s.chip.dev.awaits 1 = true) (hw : s.chip.dev.clkWait = [1]) (hp : s.chip.dev.pwr = .boot)
    (hst : s.chip.dev.get F.SYS_BOOT_STATUS_STEP = 0) (hl : s.chip.mem.otp.lc < 4) :
    ∃ t, exec (.domainClockLock 1) s = .next t ∧ t.chip.mem = s.chip.mem ∧ t.chip.dev.inReset 1 = false ∧
      t.chip.dev.get F.HOST_LC_STATUS_STATE = s.chip.mem.otp.lc := by
  obtain ⟨e, he⟩ : ∃ e, e = s.chip.dev.quiet.outOfReset 1 := ⟨_, rfl⟩
  obtain ⟨f, hf, wait, pwr, reset, step, lc⟩ := Chip.fuses_shows ⟨s.chip.mem, e⟩ hl
  have none : e.clkWait = [] := by rw [he, show s.chip.dev.quiet.outOfReset 1 = _ from rfl]; exact congrArg (List.erase · 1) hw
  have boot : e.pwr = .boot := by rw [he]; exact hp
  have zero : e.get F.SYS_BOOT_STATUS_STEP = 0 := by rw [he]; exact (Device.get_put_ne _ _ _ _ _ _ (by decide)).trans hst
  have goes : Chip.clocksGo ⟨s.chip.mem, f⟩ = ⟨s.chip.mem, f⟩ := by
    unfold Chip.clocksGo
    simp [wait, none, pwr, boot, step, zero]
  have run : s.chip.quiet.clockLock 1 = ⟨s.chip.mem, f⟩ := by
    rw [Chip.clockLock_awaited _ _ (show s.chip.quiet.dev.awaits 1 = true from ha), if_pos rfl]
    rw [show (⟨s.chip.quiet.mem, s.chip.quiet.dev.outOfReset 1⟩ : Chip) = ⟨s.chip.mem, e⟩ by rw [he]; rfl, hf]
    exact goes
  obtain ⟨t, ht, hm, hd⟩ := onChip_next (s := s) (c := .domainClockLock 1) (f := Chip.clockLock 1) rfl run
  rw [← hd] at reset lc
  refine ⟨t, ht, hm, ?_, lc⟩
  rw [reset, he]
  exact s.chip.dev.quiet.outOfReset_inReset 1

/-- The device after the clock of a domain has not come up. -/
def Device.clockLate (d : Device) (pd : Nat) : Device :=
  let e := ({ d with clkWait := d.clkWait.erase pd, heldAfterTimeout := d.heldAfterTimeout ++ [pd] } : Device).put F.RST_CLK_STATUS_TIMEOUT 0
    (setBit (d.get F.RST_CLK_STATUS_TIMEOUT) pd true)
  e.record 0x0012 1 (e.wordOf R.RST_CLK_STATUS) 0

theorem Device.clockLate_shows (d : Device) {pd : Nat} (hpd : pd < 12) :
    ((d.clockLate pd).get F.RST_CLK_STATUS_TIMEOUT).testBit pd = true ∧ (d.clockLate pd).heldAfterTimeout = d.heldAfterTimeout ++ [pd] ∧
      (d.clockLate pd).pwr = d.pwr ∧ (d.clockLate pd).clkWait = d.clkWait.erase pd := by
  obtain ⟨e, he⟩ : ∃ e, e = ({ d with clkWait := d.clkWait.erase pd, heldAfterTimeout := d.heldAfterTimeout ++ [pd] } : Device).put F.RST_CLK_STATUS_TIMEOUT 0
    (setBit (d.get F.RST_CLK_STATUS_TIMEOUT) pd true) := ⟨_, rfl⟩
  have late : d.clockLate pd = e.record 0x0012 1 (e.wordOf R.RST_CLK_STATUS) 0 := by rw [he]; rfl
  obtain ⟨g, q, recorded⟩ := e.record_only 0x0012 1 (e.wordOf R.RST_CLK_STATUS) 0
  rw [late]
  refine ⟨?_, by rw [recorded, he]; rfl, by rw [recorded, he]; rfl, by rw [recorded, he]; rfl⟩
  rw [(e.keeps_record 0x0012 1 (e.wordOf R.RST_CLK_STATUS) 0 (l := [F.BBOX_LOST_COUNT]) (by simp)).1 _ 0 (by decide), he, Device.get_put_same,
    Nat.testBit_mod_two_pow, testBit_setBit, if_pos rfl, Bool.and_true]
  exact decide_eq_true (show pd < 12 from hpd)

theorem Chip.clockTimeout_awaited (h : c.dev.awaits pd = true) : c.clockTimeout pd =
    if pd = 1 then ⟨c.mem, { c.dev.clockLate pd with pwr := .halted, clkWait := [] }⟩
    else if pd < 4 then ⟨c.mem, ((c.dev.clockLate pd).bootFail (c.dev.clockLate pd).boot.image errMemory).bootHalt⟩
    else Chip.clocksGo ⟨c.mem, c.dev.clockLate pd⟩ := if_neg (by simp [h])

theorem domainClockTimeout_holds {s : State} {pd : Nat} (hpd : pd < 12) (ha : s.chip.dev.awaits pd = true) (h4 : 4 ≤ pd)
    (more : s.chip.dev.clkWait.erase pd ≠ []) :
    let d := s.chip.dev
    ∃ t, exec (.domainClockTimeout pd) s = .next t ∧ t.chip.mem = s.chip.mem ∧ (t.chip.dev.get F.RST_CLK_STATUS_TIMEOUT).testBit pd = true ∧
      t.chip.dev.heldAfterTimeout = d.heldAfterTimeout ++ [pd] ∧ t.chip.dev.pwr = d.pwr := by
  intro d
  obtain ⟨bit, held, pwr, wait⟩ := d.quiet.clockLate_shows hpd
  have run : s.chip.quiet.clockTimeout pd = ⟨s.chip.mem, d.quiet.clockLate pd⟩ := by
    rw [Chip.clockTimeout_awaited _ _ (show s.chip.quiet.dev.awaits pd = true from ha), if_neg (by omega), if_neg (by omega)]
    exact Chip.clocksGo_waits _ (fun h => more (wait.symm.trans h))
  obtain ⟨t, ht, hm, hd⟩ := onChip_next (s := s) (c := .domainClockTimeout pd) (f := Chip.clockTimeout pd) rfl run
  rw [← hd] at bit held pwr
  exact ⟨t, ht, hm, bit, held, pwr⟩

theorem domainClockTimeout_halts {s : State} (ha : s.chip.dev.awaits 1 = true) :
    ∃ t, exec (.domainClockTimeout 1) s = .next t ∧ t.chip.mem = s.chip.mem ∧ t.chip.dev.pwr = .halted := by
  have run := (Chip.clockTimeout_awaited s.chip.quiet 1 ha).trans (if_pos rfl)
  obtain ⟨t, ht, hm, hd⟩ := onChip_next (s := s) (c := .domainClockTimeout 1) (f := Chip.clockTimeout 1) rfl run
  exact ⟨t, ht, hm, by rw [hd]⟩

end Clocks

/-! ### The start of boot and the push -/

section Boot

variable (d : Device)

theorem Device.bootHalt_shows : d.bootHalt.pwr = .halted ∧ d.keeps d.bootHalt (but [F.RST_CLK_STATUS_IN_RESET, F.BBOX_LOST_COUNT]) ∧
    d.bootHalt.host = d.host := by
  obtain ⟨e, he⟩ : ∃ e, e = ({ d with pwr := .halted, clkWait := [] } : Device).put F.RST_CLK_STATUS_IN_RESET 0 0xFFC := ⟨_, rfl⟩
  have halted : d.bootHalt = e.record 0x0003 0 (e.wordOf R.SYS_BOOT_STATUS) 0 := by rw [he]; rfl
  obtain ⟨g, q, recorded⟩ := e.record_only 0x0003 0 (e.wordOf R.SYS_BOOT_STATUS) 0
  rw [halted]
  refine ⟨by rw [recorded, he]; rfl, Device.keeps_trans ?_ (e.keeps_record _ _ _ _ (by simp)), by rw [recorded, he]; rfl⟩
  rw [he]
  exact Device.keeps_put { d with pwr := .halted, clkWait := [] } F.RST_CLK_STATUS_IN_RESET 0 _ (but_apart (by simp))

/-- Boot as it begins. -/
def Device.bootBegun (trained octal : Bool) (size : Nat) : Device :=
  ({ d with flashSize := size, boot := { BootX.empty with begun := true, trained := trained, octal := octal } } : Device).put F.SYS_BOOT_STATUS_STEP 0 1

/-- Boot once its straps are known. -/
def Device.bootRead (octal : Bool) : Device :=
  (d.put F.SYS_BOOT_STATUS_STEP 0 2).flag F.SYS_BOOT_STATUS_SLOW 0 (decide (d.get F.RST_STRAPS_BOOT = 0) && !octal)

theorem Chip.bootStart_begins {c : Chip} {trained octal : Bool} {size : Nat} (hp : c.dev.pwr = .boot) (hb : c.dev.boot.begun = false)
    (hr : c.dev.inReset 1 = false) (hl : c.dev.pinLow = false) (ho : c.dev.porLow = false) : c.bootStart trained octal size =
    let d := c.dev.bootBegun trained octal size
    if 3 ≤ d.get F.RST_STRAPS_BOOT ∨ d.get F.RST_STRAPS_CLKMODE = 3 then ⟨c.mem, (d.bootFail 0 errStrap).bootHalt⟩
    else
      let e := d.bootRead octal
      if d.get F.RST_STRAPS_BOOT = 2 then
        ⟨c.mem, (({ e with boot := { e.boot with image := 2 } } : Device).put F.SYS_BOOT_STATUS_PUSH 0 1).put F.SYS_BOOT_STATUS_STEP 0 3⟩
      else if size = 0 then ⟨c.mem, ((e.bootFail 0 errFlash).bootFail 1 errFlash).bootHalt⟩
      else Chip.bootImage 2 (Chip.bootSelect ⟨c.mem, e⟩).2 (Chip.bootSelect ⟨c.mem, e⟩).1 :=
  if_neg (by simp [hp, hb, hr, hl, ho])

end Boot

theorem boot_begins (s : State) (trained octal : Bool) (size : Nat) (hp : s.chip.dev.pwr = .boot) (hb : s.chip.dev.boot.begun = false)
    (hr : s.chip.dev.inReset 1 = false) (hl : s.chip.dev.pinLow = false) (ho : s.chip.dev.porLow = false) :
    let d := s.chip.dev
    ∃ t, exec (.boot trained octal size) s = .next t ∧
      (3 ≤ d.get F.RST_STRAPS_BOOT ∨ d.get F.RST_STRAPS_CLKMODE = 3 →
        t.chip.dev.pwr = .halted ∧ t.chip.dev.get F.SYS_BOOT_STATUS_ERROR_A = errStrap ∧ t.chip.mem = s.chip.mem) ∧
      (d.get F.RST_STRAPS_BOOT < 2 → d.get F.RST_STRAPS_CLKMODE ≠ 3 → size = 0 →
        t.chip.dev.pwr = .halted ∧ t.chip.dev.get F.SYS_BOOT_STATUS_ERROR_A = errFlash ∧
        t.chip.dev.get F.SYS_BOOT_STATUS_ERROR_B = errFlash ∧ t.chip.mem = s.chip.mem) ∧
      (d.get F.RST_STRAPS_BOOT = 2 → d.get F.RST_STRAPS_CLKMODE ≠ 3 →
        t.chip.dev.pwr = .boot ∧ t.chip.dev.get F.SYS_BOOT_STATUS_PUSH = 1 ∧ t.chip.dev.get F.SYS_BOOT_STATUS_STEP = 3 ∧
        t.chip.dev.boot.push = [] ∧ t.chip.mem = s.chip.mem) := by
  intro d
  obtain ⟨e, he⟩ : ∃ e, e = d.quiet.bootBegun trained octal size := ⟨_, rfl⟩
  have straps : e.get F.RST_STRAPS_BOOT = d.get F.RST_STRAPS_BOOT ∧ e.get F.RST_STRAPS_CLKMODE = d.get F.RST_STRAPS_CLKMODE := by
    rw [he]
    exact ⟨Device.get_put_ne _ _ _ _ _ _ (by decide), Device.get_put_ne _ _ _ _ _ _ (by decide)⟩
  have boot : e.boot.push = [] ∧ e.pwr = .boot := by rw [he]; exact ⟨rfl, hp⟩
  have begins := Chip.bootStart_begins (c := s.chip.quiet) (trained := trained) (octal := octal) (size := size) hp hb hr hl ho
  rw [show s.chip.quiet.dev.bootBegun trained octal size = e from he.symm] at begins
  simp only [straps.1, straps.2] at begins
  obtain ⟨t, ht, hm, hd⟩ := onChip_next (s := s) (c := .boot trained octal size) (f := Chip.bootStart trained octal size) rfl rfl
  have chip : t.chip = s.chip.quiet.bootStart trained octal size := congrArg₂ Chip.mk hm hd
  rw [begins] at chip
  refine ⟨t, ht, fun bad => ?_, fun flash mode none => ?_, fun push mode => ?_⟩
  · rw [if_pos bad] at chip
    obtain ⟨pwr, kept, -⟩ := (e.bootFail 0 errStrap).bootHalt_shows
    rw [chip]
    exact ⟨pwr, (kept.1 _ 0 (by decide)).trans (Device.get_put_same ..), rfl⟩
  · have fine : ¬ (3 ≤ d.get F.RST_STRAPS_BOOT ∨ d.get F.RST_STRAPS_CLKMODE = 3) := fun h => h.elim (by omega) mode
    rw [if_neg fine, if_neg (by omega), if_pos none] at chip
    obtain ⟨pwr, kept, -⟩ := (((e.bootRead octal).bootFail 0 errFlash).bootFail 1 errFlash).bootHalt_shows
    rw [chip]
    refine ⟨pwr, (kept.1 _ 0 (by decide)).trans ?_, (kept.1 _ 0 (by decide)).trans (Device.get_put_same ..), rfl⟩
    exact (Device.get_put_ne _ _ _ _ _ _ (by decide)).trans (Device.get_put_same ..)
  · have fine : ¬ (3 ≤ d.get F.RST_STRAPS_BOOT ∨ d.get F.RST_STRAPS_CLKMODE = 3) := fun h => h.elim (by omega) mode
    rw [if_neg fine, if_pos push] at chip
    rw [chip]
    exact ⟨boot.2, (Device.get_put_ne _ _ _ _ _ _ (by decide)).trans (Device.get_put_same ..), Device.get_put_same .., boot.1, rfl⟩

section Push

variable {c : Chip} {addr : Nat} {data : List Byte}

/-- The last result of the SPI port. -/
def Device.spiSaid (d : Device) (r : Nat) : Device := { d with host := { d.host with spi := { d.host.spi with last := r } } }

theorem Device.spiSaid_shows (d : Device) (r : Nat) :
    (d.spiSaid r).host.spi.last = r ∧ (d.spiSaid r).pwr = d.pwr ∧ (d.spiSaid r).boot = d.boot ∧
      ∀ f, (d.spiSaid r).get f = d.get f :=
  ⟨rfl, rfl, rfl, fun _ => rfl⟩

theorem Chip.bootPush_wrong (hp : c.dev.pwr = .boot) (hon : c.dev.on F.SYS_BOOT_STATUS_PUSH = true) (hw : c.dev.clkWait = [])
    (hst : c.dev.get F.SYS_BOOT_STATUS_STEP < 8) (ha : addr ≠ c.dev.boot.push.length) :
    c.bootPush addr data = ⟨c.mem, ((c.dev.bootFail 2 errPush).bootHalt).spiSaid resFormat⟩ :=
  (if_neg (by simp [hp, hon])).trans ((if_neg (by simp [hw, hst])).trans (if_pos (.inl ha)))

theorem Chip.bootPush_goes_on (hp : c.dev.pwr = .boot) (hon : c.dev.on F.SYS_BOOT_STATUS_PUSH = true) (hw : c.dev.clkWait = [])
    (hst : c.dev.get F.SYS_BOOT_STATUS_STEP < 8) (ha : addr = c.dev.boot.push.length) (hl : (c.dev.boot.push ++ data).length < 8192) :
    c.bootPush addr data = ⟨c.mem, ({ c.dev with boot := { c.dev.boot with push := c.dev.boot.push ++ data } } : Device).spiSaid resOk⟩ :=
  (if_neg (by simp [hp, hon])).trans ((if_neg (by simp [hw, hst])).trans
    ((if_neg (fun h => h.elim (fun h => h ha) fun h => by omega)).trans (if_pos hl)))

end Push

theorem hostPushWrite_shows (s : State) (addr : Nat) (data : List Byte) (hp : s.chip.dev.pwr = .boot) (hon : s.chip.dev.on F.SYS_BOOT_STATUS_PUSH = true)
    (hw : s.chip.dev.clkWait = []) (hst : s.chip.dev.get F.SYS_BOOT_STATUS_STEP < 8) :
    let old := s.chip.dev.boot.push
    ∃ t, exec (.hostPushWrite addr data) s = .next t ∧
      (addr = old.length → (old ++ data).length < 8192 →
        t.chip.dev.boot.push = old ++ data ∧ t.chip.dev.host.spi.last = resOk ∧ t.chip.dev.pwr = .boot ∧ t.chip.mem = s.chip.mem) ∧
      (addr ≠ old.length →
        t.chip.dev.pwr = .halted ∧ t.chip.dev.host.spi.last = resFormat ∧
        t.chip.dev.get F.SYS_BOOT_STATUS_ERROR_A = errPush ∧ t.chip.mem = s.chip.mem) := by
  intro old
  obtain ⟨t, ht, hm, hd⟩ := onChip_next (s := s) (c := .hostPushWrite addr data) (f := Chip.bootPush addr data) rfl rfl
  have chip : t.chip = s.chip.quiet.bootPush addr data := congrArg₂ Chip.mk hm hd
  refine ⟨t, ht, fun ha hl => ?_, fun ha => ?_⟩
  · rw [chip, Chip.bootPush_goes_on (c := s.chip.quiet) hp hon hw hst ha hl]
    exact ⟨rfl, rfl, hp, rfl⟩
  · obtain ⟨pwr, kept, -⟩ := (s.chip.dev.quiet.bootFail 2 errPush).bootHalt_shows
    obtain ⟨last, power, -, shows⟩ := (s.chip.dev.quiet.bootFail 2 errPush).bootHalt.spiSaid_shows resFormat
    rw [chip, Chip.bootPush_wrong (c := s.chip.quiet) hp hon hw hst ha]
    refine ⟨power.trans pwr, last, (shows _).trans ?_, rfl⟩
    exact (kept.1 _ 0 (by decide)).trans (Device.get_put_same ..)

/-- Settles O46: clocks that lock or fail to, the start of boot, and the push. -/
theorem domainsAndBootFollowResetAndStraps : Obligations.DomainsAndBootFollowResetAndStraps :=
  ⟨fun _ _ hpd ha => ⟨fun more h1 => domainClockLock_clears ha more h1, fun hw hp hst h1 hl => domainClockLock_pd1 (h1 ▸ ha) hw hp hst hl,
    fun h4 more => domainClockTimeout_holds hpd ha h4 more, fun h1 => domainClockTimeout_halts (h1 ▸ ha)⟩,
    fun s trained octal size hp hb hr hl ho => boot_begins s trained octal size hp hb hr hl ho,
    fun s addr data hp hon hw hst => hostPushWrite_shows s addr data hp hon hw hst⟩

end Sys2Proof.Machine
end

section
/-!
SUPPORT. Pictures coded row by row: O35.
-/

namespace Sys2Proof.Machine

/-! ### What the end of a coded picture leaves alone -/

/-- Only fields of the list change, and no encode session. -/
def Device.EncSame (l : List Fld) (d e : Device) : Prop := d.keeps e (but l) ∧ e.encs = d.encs

namespace Device.EncSame

variable {l : List Fld} {d e f : Device}

theorem refl (d : Device) : EncSame l d d := ⟨d.keeps_refl _, rfl⟩
theorem trans (h : EncSame l d e) (h' : EncSame l e f) : EncSame l d f := ⟨Device.keeps_trans h.1 h'.1, h'.2.trans h.2⟩
theorem of_regs (hr : e.regs = d.regs) (he : e.encs = d.encs) : EncSame l d e := ⟨Device.keeps_of_regs hr _, he⟩
theorem put (h : EncSame l d e) {f : Fld} (i v : Nat) (hf : f ∈ l) : EncSame l d (e.put f i v) :=
  h.trans ⟨e.keeps_put f i v (but_apart (List.mem_append_left _ hf)), rfl⟩
theorem bump (h : EncSame l d e) {f : Fld} (i n : Nat) (hf : f ∈ l) : EncSame l d (e.bump f i n) := h.put i _ hf
theorem raise (h : EncSame l d e) {f : Fld} (a : Nat) (hf : f ∈ l) : EncSame l d (e.raise f a) :=
  h.trans ⟨e.keeps_raise f a hf, e.raise_encs f a⟩
theorem get (h : EncSame l d e) {f : Fld} (hf : but l f = true) (i : Nat) : e.get f i = d.get f i := h.1.1 f i hf
theorem enc (h : EncSame l d e) (n : Nat) : e.enc n = d.enc n := by rw [Device.enc, h.2, Device.enc]

theorem retire (h : EncSame l d e) (n : Nat) (hl : F.CMP_EVENTS_BERTH_RETIRED ∈ l) : EncSame l d (e.retire n) := by
  let cleared : Device := { e with retiredAt := e.retiredAt ++ [(e.berthAddr n, e.poolSize (e.classOf n))], berths := Tab.del e.berths n }
  have same : EncSame l e cleared := of_regs rfl rfl
  exact h.trans (same.raise n hl)

theorem settle (h : EncSame l d e) (n : Nat) (hl : F.CMP_EVENTS_BERTH_RETIRED ∈ l) : EncSame l d (e.settle n) := by
  refine h.trans ?_
  unfold Device.settle
  extract_lets b
  split
  · split
    · exact (refl e).retire n hl
    · split
      · exact refl e
      · exact of_regs rfl rfl
  · exact refl e

theorem release (h : EncSame l d e) (n : Nat) (w : Holder) (hl : F.CMP_EVENTS_BERTH_RETIRED ∈ l) : EncSame l d (e.release n w) := by
  have same : EncSame l e (e.setBerth n { e.berth n with refs := (e.berth n).refs.erase w }) := of_regs rfl rfl
  exact h.trans (same.settle n hl)

end Device.EncSame

theorem Device.enc_setEnc (d : Device) (n : Nat) (x : EncSess) : (d.setEnc n x).enc n = x := Tab.get_set_same ..

theorem Device.setEnc_setEnc (d : Device) (n : Nat) (x y : EncSess) : (d.setEnc n x).setEnc n y = d.setEnc n y :=
  congrArg (fun t => ({ d with encs := t } : Device)) (Tab.set_set ..)

/-! ### The turn of the next picture -/

section Turn

variable (d : Device) (m : Memory) (n : Nat)

/-- The fields that the turn of a picture shows itself in. -/
def turnShown : List Fld := [F.ENC_EVENTS_REFRESH_RESTART, F.SYS_EVENTS_CFG_DROPPED]

theorem Device.encBegin_shows (j : EncJob) : d.keeps (d.encBegin m n j) (but turnShown) ∧
    ∃ k q, (d.encBegin m n j).enc n = { d.enc n with jobs := k :: (d.enc n).jobs.tail, q := q, restart := false } := by
  unfold encBegin
  extract_lets x b s se cap lo t per sei job d1 d2
  have first : EncSame turnShown d1 d2 := by
    unfold d2
    split
    · exact (EncSame.refl d1).raise n (by simp [turnShown])
    · exact .refl d1
  have last : EncSame turnShown d1 (if sei.2 = true then d2.raise F.SYS_EVENTS_CFG_DROPPED else d2) := by
    split
    · exact first.raise 0 (by simp [turnShown])
    · exact first
  have begun : d1.enc n = { d.enc n with jobs := job :: (d.enc n).jobs.tail, q := per.2.1, restart := false } := Device.enc_setEnc ..
  exact ⟨Device.keeps_trans (Device.keeps_of_regs rfl _) last.1, job, per.2.1, (last.enc n).trans begun⟩

theorem Device.encMissing_shows (j : EncJob) : d.keeps (d.encMissing n j) (but [F.ENC_SESS_FULLNESS_BITS]) ∧
    ((d.encMissing n j).enc n).p = (d.enc n).p := by
  unfold encMissing
  extract_lets x v feed
  obtain ⟨y, hy⟩ : ∃ y : EncSess, y = { x with v := v, jobs := x.jobs.tail, feeds := x.feeds ++ [feed] } := ⟨_, rfl⟩
  rw [← hy]
  have put : EncSame [F.ENC_SESS_FULLNESS_BITS] (d.setEnc n y) ((d.setEnc n y).put F.ENC_SESS_FULLNESS_BITS n v) := (EncSame.refl _).put n v (by simp)
  exact ⟨Device.keeps_trans (Device.keeps_of_regs rfl _) put.1, by rw [put.enc, Device.enc_setEnc, hy]⟩

theorem Device.encTurn_shows (k : Nat) : ∀ d : Device, d.keeps (d.encTurn m n k) (but (F.ENC_SESS_FULLNESS_BITS :: turnShown)) ∧
    ((d.encTurn m n k).enc n).p = (d.enc n).p := by
  induction k with
  | zero => exact fun d => ⟨d.keeps_refl _, rfl⟩
  | succ k ih =>
    intro d
    rw [encTurn]
    split
    · exact ⟨d.keeps_refl _, rfl⟩
    · rename_i j _ _
      split
      · exact ⟨d.keeps_refl _, rfl⟩
      · split
        · obtain ⟨kept, same⟩ := d.encMissing_shows n j
          obtain ⟨kept', same'⟩ := ih (d.encMissing n j)
          exact ⟨Device.keeps_trans (Device.keeps_mono kept (but_mono (by simp))) kept', same'.trans same⟩
        · obtain ⟨kept, job, q, shown⟩ := d.encBegin_shows m n j
          exact ⟨Device.keeps_mono kept (but_mono (by simp +contextual)), by rw [shown]⟩

/-- Where a picture waits first, its rate control begins and the session is else as it was. -/
theorem Device.encTurn_waiting (k : Nat) (head : ∀ q, (d.enc n).jobs.head? = some q → q.missing = false) :
    d.keeps (d.encTurn m n k) (but turnShown) ∧ ((d.encTurn m n k).enc n).v = (d.enc n).v ∧ ((d.encTurn m n k).enc n).p = (d.enc n).p ∧
    ((d.encTurn m n k).enc n).rec0 = (d.enc n).rec0 ∧ ((d.encTurn m n k).enc n).rec1 = (d.enc n).rec1 ∧
    ((d.encTurn m n k).enc n).jobs.length = (d.enc n).jobs.length := by
  cases k with
  | zero => exact ⟨d.keeps_refl _, rfl, rfl, rfl, rfl, rfl⟩
  | succ k =>
    rw [encTurn]
    split
    · exact ⟨d.keeps_refl _, rfl, rfl, rfl, rfl, rfl⟩
    · rename_i j rest jobs
      split
      · exact ⟨d.keeps_refl _, rfl, rfl, rfl, rfl, rfl⟩
      · rw [if_neg (by rw [head j (by rw [jobs]; rfl)]; simp)]
        obtain ⟨kept, job, q, shown⟩ := d.encBegin_shows m n j
        refine ⟨kept, by rw [shown], by rw [shown], by rw [shown], by rw [shown], ?_⟩
        rw [shown, jobs]
        rfl

end Turn

/-! ### The end of a picture -/

section Close

/-- The fields that the end of a picture shows itself in. -/
def closeShown : List Fld := [F.CMP_EVENTS_BERTH_RETIRED, F.ENC_SESS_FULLNESS_BITS, F.ENC_SESS_LAST_BITS_BITS, F.ENC_SESS_STATE_PERIOD_POS,
  F.ENC_SESS_CNT_CODED_COUNT, F.ENC_SESS_CNT_RATE_FLOOR_COUNT, F.ENC_EVENTS_RATE_FLOOR, F.ENC_SESS_CNT_TIME_FLOOR_COUNT, F.ENC_EVENTS_TIME_FLOOR]

/-- The bits of a picture with its filler. -/
def Device.paidBits (d : Device) (n : Nat) (j : EncJob) : Nat :=
  j.spent + (if d.get F.ENC_SESS_CFG_RC n = 0 then j.b - (d.enc n).v - j.spent else 0)

/-- The counts and events of a picture that has run out of rate or time. -/
def Device.floorNotes (d : Device) (n : Nat) (j : EncJob) : Device :=
  let e := if j.floorMode then (d.bump F.ENC_SESS_CNT_RATE_FLOOR_COUNT n 1).raise F.ENC_EVENTS_RATE_FLOOR n else d
  if j.timeFloor then (e.bump F.ENC_SESS_CNT_TIME_FLOOR_COUNT n 1).raise F.ENC_EVENTS_TIME_FLOOR n else e

/-- The registers of a session whose picture is closed. -/
def Device.closeNotes (d : Device) (n : Nat) (j : EncJob) (v p : Nat) : Device :=
  ((((d.put F.ENC_SESS_FULLNESS_BITS n v).put F.ENC_SESS_LAST_BITS_BITS n p).put F.ENC_SESS_STATE_PERIOD_POS n j.pos).bump
    F.ENC_SESS_CNT_CODED_COUNT n 1).floorNotes n j

variable (d : Device) (n : Nat) (j : EncJob)

theorem Device.floorNotes_side : Device.EncSame [F.ENC_SESS_CNT_RATE_FLOOR_COUNT, F.ENC_EVENTS_RATE_FLOOR, F.ENC_SESS_CNT_TIME_FLOOR_COUNT,
    F.ENC_EVENTS_TIME_FLOOR] d (d.floorNotes n j) := by
  unfold floorNotes
  extract_lets e
  have first : Device.EncSame [F.ENC_SESS_CNT_RATE_FLOOR_COUNT, F.ENC_EVENTS_RATE_FLOOR, F.ENC_SESS_CNT_TIME_FLOOR_COUNT,
      F.ENC_EVENTS_TIME_FLOOR] d e := by
    unfold e
    split
    · exact ((EncSame.refl d).bump n 1 (by simp)).raise n (by simp)
    · exact .refl d
  split
  · exact (first.bump n 1 (by simp)).raise n (by simp)
  · exact first

theorem Device.floorNotes_late (late : j.timeFloor = true) : (d.floorNotes n j).get F.ENC_EVENTS_TIME_FLOOR = 1 ∧
    (d.floorNotes n j).get F.ENC_SESS_CNT_TIME_FLOOR_COUNT n =
      min (d.get F.ENC_SESS_CNT_TIME_FLOOR_COUNT n + 1) (2 ^ F.ENC_SESS_CNT_TIME_FLOOR_COUNT.width - 1) := by
  unfold floorNotes
  extract_lets e
  have first : EncSame [F.ENC_SESS_CNT_RATE_FLOOR_COUNT, F.ENC_EVENTS_RATE_FLOOR] d e := by
    unfold e
    split
    · exact ((EncSame.refl d).bump n 1 (by simp)).raise n (by simp)
    · exact .refl d
  rw [if_pos late]
  refine ⟨Device.get_raise_same _ _ _ (by decide) , ?_⟩
  rw [Device.get_raise _ _ _ _ _ (.inl (by decide)) (.inl (by decide)), Device.get_bump, first.get (by decide)]

theorem Device.closeNotes_shows (v p : Nat) : Device.EncSame closeShown d (d.closeNotes n j v p) ∧
    (d.closeNotes n j v p).get F.ENC_SESS_FULLNESS_BITS n = v % 2 ^ F.ENC_SESS_FULLNESS_BITS.width ∧
    (d.closeNotes n j v p).get F.ENC_SESS_LAST_BITS_BITS n = p % 2 ^ F.ENC_SESS_LAST_BITS_BITS.width ∧
    (d.closeNotes n j v p).get F.ENC_SESS_CNT_CODED_COUNT n =
      min (d.get F.ENC_SESS_CNT_CODED_COUNT n + 1) (2 ^ F.ENC_SESS_CNT_CODED_COUNT.width - 1) := by
  obtain ⟨e, he⟩ : ∃ e, e = (((d.put F.ENC_SESS_FULLNESS_BITS n v).put F.ENC_SESS_LAST_BITS_BITS n p).put F.ENC_SESS_STATE_PERIOD_POS n j.pos) := ⟨_, rfl⟩
  have notes : d.closeNotes n j v p = (e.bump F.ENC_SESS_CNT_CODED_COUNT n 1).floorNotes n j := by rw [he]; rfl
  have floors := (e.bump F.ENC_SESS_CNT_CODED_COUNT n 1).floorNotes_side n j
  have first : EncSame closeShown d e :=
    he ▸ ((((EncSame.refl d).put n v (by simp [closeShown])).put n p (by simp [closeShown])).put n j.pos (by simp [closeShown]))
  have counted := first.bump (f := F.ENC_SESS_CNT_CODED_COUNT) n 1 (by simp [closeShown])
  rw [notes]
  refine ⟨counted.trans ⟨Device.keeps_mono floors.1 (but_mono (by simp +contextual [closeShown])), floors.2⟩, ?_, ?_, ?_⟩
  · rw [floors.get (by decide), Device.bump, Device.get_put_ne _ _ _ _ _ _ (by decide), he, Device.get_put_ne _ _ _ _ _ _ (by decide),
      Device.get_put_ne _ _ _ _ _ _ (by decide), Device.get_put_same]
  · rw [floors.get (by decide), Device.bump, Device.get_put_ne _ _ _ _ _ _ (by decide), he, Device.get_put_ne _ _ _ _ _ _ (by decide),
      Device.get_put_same]
  · rw [floors.get (by decide), Device.get_bump, he, Device.get_put_ne _ _ _ _ _ _ (by decide), Device.get_put_ne _ _ _ _ _ _ (by decide),
      Device.get_put_ne _ _ _ _ _ _ (by decide)]

theorem Device.closeNotes_late (v p : Nat) (late : j.timeFloor = true) : (d.closeNotes n j v p).get F.ENC_EVENTS_TIME_FLOOR = 1 ∧
    (d.closeNotes n j v p).get F.ENC_SESS_CNT_TIME_FLOOR_COUNT n =
      min (d.get F.ENC_SESS_CNT_TIME_FLOOR_COUNT n + 1) (2 ^ F.ENC_SESS_CNT_TIME_FLOOR_COUNT.width - 1) := by
  obtain ⟨e, he⟩ : ∃ e, e = ((((d.put F.ENC_SESS_FULLNESS_BITS n v).put F.ENC_SESS_LAST_BITS_BITS n p).put F.ENC_SESS_STATE_PERIOD_POS n j.pos).bump
    F.ENC_SESS_CNT_CODED_COUNT n 1) := ⟨_, rfl⟩
  have notes : d.closeNotes n j v p = e.floorNotes n j := by rw [he]; rfl
  have first : EncSame [F.ENC_SESS_FULLNESS_BITS, F.ENC_SESS_LAST_BITS_BITS, F.ENC_SESS_STATE_PERIOD_POS, F.ENC_SESS_CNT_CODED_COUNT] d e :=
    he ▸ (((((EncSame.refl d).put n v (by simp)).put n p (by simp)).put n j.pos (by simp)).bump n 1 (by simp))
  obtain ⟨event, counted⟩ := e.floorNotes_late n j late
  rw [notes]
  exact ⟨event, by rw [counted, first.get (by decide)]⟩

/-- A session as its picture leaves it. -/
def EncSess.closed (x : EncSess) (j : EncJob) (v : Nat) (feeds : List Feed) (checks : List FeedCheck) : EncSess :=
  { x with v := v, p := x.p + 1, hist := j.hist, jobs := x.jobs.tail, feeds := feeds, rec0 := x.rec1, rec1 := x.rec0, checks := checks }

/-- The end of a picture: its session is closed but for the turn of the next, its registers show it, and the next has its turn. -/
theorem Chip.encClose_runs (c : Chip) : let d := c.dev
    let x := d.enc n
    let p := d.paidBits n j
    let v := x.v + p - j.b
    ∃ ring feeds checks e mem k,
    c.encClose n j = ⟨mem, (e.closeNotes n j v p).encTurn mem n k⟩ ∧ mem = { c.mem with dram := mem.dram } ∧
      Device.EncSame [F.CMP_EVENTS_BERTH_RETIRED] (d.setEnc n ({ x with ringPos := ring }.closed j v feeds checks)) e := by
  unfold encClose
  intro d x p v
  extract_lets y fill paid left ring e z recs dram shut freed d5 d6 d7 d8 src mem
  obtain ⟨feeds, checks, hshut⟩ : ∃ f k, shut = e.setEnc n (z.closed j left f k) := ⟨_, _, rfl⟩
  have shutIs : shut = d.setEnc n ({ x with ringPos := z.ringPos }.closed j v feeds checks) := by
    have ringed : e = d.setEnc n { x with ringPos := (x.ringPos + (fillerNal fill).flatten.length) % 16777216 } := rfl
    have same : z = { x with ringPos := z.ringPos } := by simp only [z, ringed, Device.enc_setEnc]
    have again (w : EncSess) : e.setEnc n w = d.setEnc n w := by rw [ringed, Device.setEnc_setEnc]
    rw [← same]
    exact hshut.trans (again _)
  have closed : Device.EncSame [F.CMP_EVENTS_BERTH_RETIRED] shut freed := by
    unfold freed
    split
    · exact (Device.EncSame.refl shut).release _ _ (by simp)
    · exact .refl shut
  exact ⟨z.ringPos, feeds, checks, freed, mem, z.jobs.length, rfl, rfl, shutIs ▸ closed⟩

/-- What the end of a picture shows, whatever comes next. -/
theorem Chip.encClose_ends (c : Chip) : (c.encClose n j).mem = { c.mem with dram := (c.encClose n j).mem.dram } ∧
    ((c.encClose n j).dev.enc n).p = (c.dev.enc n).p + 1 ∧
    (j.timeFloor = true → (c.encClose n j).dev.get F.ENC_EVENTS_TIME_FLOOR = 1 ∧
      (c.encClose n j).dev.get F.ENC_SESS_CNT_TIME_FLOOR_COUNT n =
        min (c.dev.get F.ENC_SESS_CNT_TIME_FLOOR_COUNT n + 1) (2 ^ F.ENC_SESS_CNT_TIME_FLOOR_COUNT.width - 1)) := by
  obtain ⟨ring, feeds, checks, e, mem, k, runs, memory, shut⟩ := Chip.encClose_runs n j c
  rw [runs]
  generalize (c.dev.enc n).v + c.dev.paidBits n j - j.b = v at shut ⊢
  have notes := (e.closeNotes_shows n j v (c.dev.paidBits n j)).1
  have late := e.closeNotes_late n j v (c.dev.paidBits n j)
  generalize e.closeNotes n j v (c.dev.paidBits n j) = g at notes late ⊢
  obtain ⟨kept, same⟩ := Device.encTurn_shows mem n k g
  refine ⟨memory, same.trans ?_, fun h => ?_⟩
  · rw [notes.enc, shut.enc, Device.enc_setEnc]
    rfl
  · obtain ⟨event, counted⟩ := late h
    refine ⟨(kept.1 _ 0 (by decide)).trans event, (kept.1 _ n (by decide)).trans (counted.trans ?_)⟩
    rw [shut.get (by decide)]
    rfl

/-- What it shows where the next picture has an input. -/
theorem Chip.encClose_shows (c : Chip) (head : ∀ q, (c.dev.enc n).jobs.tail.head? = some q → q.missing = false) :
    let x := c.dev.enc n
    let p := c.dev.paidBits n j
    let d := (c.encClose n j).dev
    (d.enc n).jobs.length = x.jobs.tail.length ∧ (d.enc n).v = x.v + p - j.b ∧
      d.get F.ENC_SESS_FULLNESS_BITS n = (x.v + p - j.b) % 2 ^ F.ENC_SESS_FULLNESS_BITS.width ∧
      d.get F.ENC_SESS_LAST_BITS_BITS n = p % 2 ^ F.ENC_SESS_LAST_BITS_BITS.width ∧
      d.get F.ENC_SESS_CNT_CODED_COUNT n = min (c.dev.get F.ENC_SESS_CNT_CODED_COUNT n + 1) (2 ^ F.ENC_SESS_CNT_CODED_COUNT.width - 1) ∧
      (d.enc n).rec0 = x.rec1 ∧ (d.enc n).rec1 = x.rec0 ∧ (d.enc n).p = x.p + 1 := by
  intro x p d
  obtain ⟨ring, feeds, checks, e, mem, k, runs, memory, shut⟩ := Chip.encClose_runs n j c
  rw [show d = _ from congrArg Chip.dev runs]
  generalize (c.dev.enc n).v + c.dev.paidBits n j - j.b = v at shut ⊢
  obtain ⟨notes, full, last, coded⟩ := e.closeNotes_shows n j v (c.dev.paidBits n j)
  generalize e.closeNotes n j v (c.dev.paidBits n j) = g at notes full last coded ⊢
  have sess : g.enc n = ({ x with ringPos := ring }.closed j v feeds checks) := by rw [notes.enc, shut.enc, Device.enc_setEnc]
  obtain ⟨kept, v', p', rec0, rec1, jobs⟩ := g.encTurn_waiting mem n k (fun q hq => head q (by rw [sess] at hq; exact hq))
  rw [sess] at v' p' rec0 rec1 jobs
  refine ⟨jobs, v', (kept.1 _ n (by decide)).trans full, (kept.1 _ n (by decide)).trans last,
    (kept.1 _ n (by decide)).trans (coded.trans ?_), rec0, rec1, p'⟩
  rw [shut.get (by decide)]
  rfl

end Close

/-! ### Rows of a picture -/

theorem ringWrite_outside (base size : Nat) (l : List Byte) : ∀ (m : Dram) (p : Nat), m.wf = true → 0 < size →
    ∀ y, y < base ∨ base + size ≤ y → Dram.read (ringWrite m base size p l) y = Dram.read m y := by
  induction l with
  | nil => exact fun _ _ _ _ _ _ => rfl
  | cons b l ih =>
    intro m p hm hs y hy
    have := Nat.mod_lt p hs
    rw [ringWrite, ih _ _ (Dram.write_wf hm ..) hs y hy, Dram.read_write hm, if_neg (by omega)]

section Row

variable {d : Device} {m : Memory} {n : Nat} {j k : EncJob} {e : EncRow} {stop : Nat}

/-- A row that is delivered takes the picture one row on. -/
theorem Device.encRow_advances (h : d.encRow m n j e stop = some k) : k.row = j.row + 1 ∧ k.b = j.b ∧ k.timeFloor = j.timeFloor := by
  unfold encRow at h
  extract_lets w hh rows first nonVcl ovh s0 qp k0 r src hash j' at h
  obtain ⟨-, same⟩ := Option.ite_none_right_eq_some.mp h
  have row : j' = k := Option.some.inj same
  rw [← row]
  exact ⟨rfl, rfl, rfl⟩

variable (c : Chip)

/-- A row before the last: memory outside the ring, registers and the session but for its pictures and packets stay. -/
theorem Chip.encRowOut_shows (old : EncJob) :
    let base := c.dev.addr40 F.ENC_BS_BASE_LO_ADDR_LO F.ENC_BS_BASE_HI_ADDR_HI + n * 16777216
    let f := c.encRowOut n old j e
    f.mem = { c.mem with dram := f.mem.dram } ∧ f.dev.regs = c.dev.regs ∧
      (∃ feeds ring, f.dev.enc n = { c.dev.enc n with jobs := j :: (c.dev.enc n).jobs.tail, feeds := feeds, ringPos := ring }) ∧
      (c.mem.dram.wf = true → ∀ y, y < base ∨ base + 16777216 ≤ y → Dram.read f.mem.dram y = Dram.read c.mem.dram y) := by
  intro base f
  have hf : f = c.encRowOut n old j e := rfl
  unfold encRowOut at hf
  extract_lets new ring was x core feeds d2 at hf
  have sess : x = { c.dev.enc n with ringPos := x.ringPos } := by
    have : x = { c.dev.enc n with ringPos := ((c.dev.enc n).ringPos + new.flatten.length) % 16777216 } := Device.enc_setEnc ..
    rw [this]
  have regs : d2.regs = c.dev.regs := by
    rw [show d2 = _ from rfl, Device.count_regs, Device.count_regs]
    rfl
  rw [hf]
  refine ⟨rfl, regs, ⟨feeds, x.ringPos, ?_⟩, fun wf y hy => ringWrite_outside _ _ _ _ _ wf (by decide) y hy⟩
  refine (Device.enc_setEnc ..).trans ?_
  rw [sess]

/-- The chip after a row has been delivered: with the last row the picture is closed. -/
def Chip.rowDone (c : Chip) (n : Nat) (j : EncJob) (e : EncRow) (k : EncJob) : Chip :=
  if ctuRows ((c.encRowOut n j k e).dev.encH n) ≤ k.row then (c.encRowOut n j k e).encClose n k else c.encRowOut n j k e

theorem Chip.encDo_runs {rest : List EncJob} (jobs : (c.dev.enc n).jobs = j :: rest) :
    c.encDo n e stop = (c.dev.encRow c.mem n j e (if j.memFloor then 0 else stop)).map (c.rowDone n j e) := by
  unfold encDo
  rw [jobs]
  rfl

theorem Chip.encRowOut_get (old : EncJob) (f : Fld) (i : Nat) : (c.encRowOut n old j e).dev.get f i = c.dev.get f i :=
  Device.get_congr (c.encRowOut_shows old).2.1 f i

theorem Chip.rowDone_between (more : k.row < ctuRows (c.dev.encH n)) : c.rowDone n j e k = c.encRowOut n j k e :=
  if_neg (by rw [Device.encH, Chip.encRowOut_get]; exact Nat.not_le.mpr more)

theorem Chip.rowDone_last (last : ctuRows (c.dev.encH n) ≤ k.row) : c.rowDone n j e k = (c.encRowOut n j k e).encClose n k :=
  if_pos (by rw [Device.encH, Chip.encRowOut_get]; exact last)

theorem Chip.rowDone_mem : (c.rowDone n j e k).mem = { c.mem with dram := (c.rowDone n j e k).mem.dram } := by
  have out := (c.encRowOut_shows (n := n) (j := k) (e := e) j).1
  unfold rowDone
  split
  · rw [((c.encRowOut n j k e).encClose_ends n k).1, out]
  · exact out

end Row

/-! ### The row that comes next -/

section Start

variable {s : State} {n : Nat}

/-- A row may start: the tick's seals have run, or every tile that holds a line of it is composed or replaced. -/
def Device.rowReady (d : Device) (n : Nat) (j : EncJob) (r : OutRec) : Prop :=
  j.admitted < d.edges ∨ d.tick.sealRan = true ∨ ∀ i, i < 256 →
    d.get F.ENC_SESS_ORIGIN_Y n + 64 * j.ready < tileY r.height (i / 16 + 1) →
    tileY r.height (i / 16) < d.get F.ENC_SESS_ORIGIN_Y n + min (64 * (j.ready + 1)) (d.encH n) →
    (Tab.find (d.outp (d.get F.ENC_SESS_CFG_ID n)).tiles i).isSome = true

theorem Device.encRowStart_runs {d : Device} {j : EncJob} {r : OutRec} [Decidable (j.started = true ∧ d.rowReady n j r)]
    (hj : (d.enc n).jobs.find? (fun k => k.ctuRow && !k.missing && decide (k.ready < ctuRows (d.encH n))) = some j)
    (hr : d.outRec? (d.get F.ENC_SESS_CFG_ID n) = some r) : d.encRowStart n =
    if j.started = true ∧ d.rowReady n j r then
      d.setEnc n { d.enc n with jobs := (d.enc n).jobs.map (fun k => if k = j then { j with ready := j.ready + 1 } else k) }
    else d := by
  unfold encRowStart
  extract_lets x o
  rw [hj]
  dsimp only
  rw [hr]
  dsimp only
  refine if_congr (and_congr_right fun _ => ?_) rfl rfl
  rw [Device.rowReady, or_assoc]
  refine or_congr_right (or_congr_right ?_)
  simp only [List.all_eq_true, List.mem_filter, List.mem_range, Bool.and_eq_true, decide_eq_true_eq, and_imp]
  exact ⟨fun h i hi h1 h2 => h i hi h2 h1, fun h i hi h1 h2 => h i hi h2 h1⟩

theorem encCtuRowStart_shows (s : State) (n : Nat) (j : EncJob) (r : OutRec) :
    let d := s.chip.dev
    let x := d.enc n
    x.jobs.find? (fun (k : EncJob) => k.ctuRow && !k.missing && decide (k.ready < ctuRows (d.encH n))) = some j →
    d.outRec? (d.get F.ENC_SESS_CFG_ID n) = some r →
    ∃ t, exec (.encCtuRowStart n) s = .next t ∧ t.chip.mem = s.chip.mem ∧ t.chip.dev.regs = d.regs ∧
      (j.started = true → d.rowReady n j r →
        (t.chip.dev.enc n).jobs = x.jobs.map (fun (k : EncJob) => if k = j then { k with ready := j.ready + 1 } else k)) ∧
      (j.started = false ∨ ¬d.rowReady n j r → t.chip.dev = d.quiet) := by
  classical
  intro d x hj hr
  have run := Device.encRowStart_runs (d := d.quiet) hj hr
  obtain ⟨t, ht, hm, hd⟩ := onDev_next (s := s) (c := .encCtuRowStart n) (f := fun d => d.encRowStart n) rfl run
  refine ⟨t, ht, hm, ?_, fun started ready => ?_, fun stays => ?_⟩
  · rw [hd]
    split <;> rfl
  · rw [hd, if_pos ⟨started, ready⟩, Device.enc_setEnc]
    refine List.map_congr_left fun k _ => ?_
    by_cases same : k = j
    · rw [if_pos same, if_pos same, same]
    · rw [if_neg same, if_neg same]
  · rw [hd]
    exact if_neg fun h => stays.elim (fun no => by simp [no] at h) fun no => no h.2

end Start

/-! ### A row is delivered, or the deadline comes -/

section Slice

variable {s : State} {n : Nat} {e : EncRow} {j : EncJob} {rest : List EncJob}

theorem encSliceComplete_refused (no : s.chip.dev.encMay n = false) : ∃ t, exec (.encSliceComplete n e) s = .next t ∧ t.chip = s.chip.quiet := by
  have run : s.chip.quiet.encSlice n e = s.chip.quiet := if_neg (by rw [show s.chip.quiet.dev.encMay n = false from no]; simp)
  obtain ⟨t, ht, hm, hd⟩ := onChip_next (s := s) (c := .encSliceComplete n e) (f := fun c => c.encSlice n e) rfl run
  exact ⟨t, ht, congrArg₂ Chip.mk hm hd⟩

theorem encSliceComplete_runs (jobs : (s.chip.dev.enc n).jobs = j :: rest) (may : s.chip.dev.encMay n = true) :
    ∃ t, exec (.encSliceComplete n e) s = .next t ∧
      t.chip = ((s.chip.dev.encRow s.chip.mem n j e (if j.memFloor then 0 else 2 ^ 32)).map (s.chip.quiet.rowDone n j e)).getD s.chip.quiet := by
  obtain ⟨stop, hstop⟩ : ∃ k, k = 2 ^ 32 := ⟨_, rfl⟩
  have run : s.chip.quiet.encSlice n e =
      ((s.chip.dev.encRow s.chip.mem n j e (if j.memFloor then 0 else 2 ^ 32)).map (s.chip.quiet.rowDone n j e)).getD s.chip.quiet := by
    refine (if_pos (show s.chip.quiet.dev.encMay n = true from may)).trans ?_
    rw [← hstop, Chip.encDo_runs s.chip.quiet (show (s.chip.quiet.dev.enc n).jobs = j :: rest from jobs)]
    rfl
  obtain ⟨t, ht, hm, hd⟩ := onChip_next (s := s) (c := .encSliceComplete n e) (f := fun c => c.encSlice n e) rfl run
  exact ⟨t, ht, congrArg₂ Chip.mk hm hd⟩

theorem encSliceComplete_shows (s : State) (n : Nat) (e : EncRow) (j : EncJob) (rest : List EncJob) (wf : s.chip.mem.dram.wf = true)
    (jobs : (s.chip.dev.enc n).jobs = j :: rest) (may : s.chip.dev.encMay n = true) :
    let d := s.chip.dev
    let x := d.enc n
    let base := d.addr40 F.ENC_BS_BASE_LO_ADDR_LO F.ENC_BS_BASE_HI_ADDR_HI + n * 16777216
    let row := d.encRow s.chip.mem n j e (if j.memFloor then 0 else 2 ^ 32)
    ∃ t, exec (.encSliceComplete n e) s = .next t ∧ t.chip.mem = { s.chip.mem with dram := t.chip.mem.dram } ∧
      (row = none → t.chip = s.chip.quiet) ∧
      (∀ k, row = some k → j.row + 1 < ctuRows (d.encH n) →
        (t.chip.dev.enc n).jobs = k :: rest ∧ k.row = j.row + 1 ∧ (t.chip.dev.enc n).v = x.v ∧ t.chip.dev.regs = d.regs ∧
        (∀ y, y < base ∨ base + 16777216 ≤ y → Dram.read t.chip.mem.dram y = Dram.read s.chip.mem.dram y)) ∧
      (∀ k, row = some k → ctuRows (d.encH n) ≤ j.row + 1 → (∀ q, rest.head? = some q → q.missing = false) →
        let p := k.spent + (if d.get F.ENC_SESS_CFG_RC n = 0 then k.b - x.v - k.spent else 0)
        (t.chip.dev.enc n).jobs.length = rest.length ∧ (t.chip.dev.enc n).v = x.v + p - k.b ∧
        t.chip.dev.get F.ENC_SESS_FULLNESS_BITS n = (x.v + p - k.b) % 2 ^ F.ENC_SESS_FULLNESS_BITS.width ∧
        t.chip.dev.get F.ENC_SESS_LAST_BITS_BITS n = p % 2 ^ F.ENC_SESS_LAST_BITS_BITS.width ∧
        t.chip.dev.get F.ENC_SESS_CNT_CODED_COUNT n =
          min (d.get F.ENC_SESS_CNT_CODED_COUNT n + 1) (2 ^ F.ENC_SESS_CNT_CODED_COUNT.width - 1) ∧
        (t.chip.dev.enc n).rec0 = x.rec1 ∧ (t.chip.dev.enc n).rec1 = x.rec0 ∧ (t.chip.dev.enc n).p = x.p + 1) := by
  intro d x base row
  obtain ⟨t, ht, chip⟩ := encSliceComplete_runs (e := e) jobs may
  rw [show s.chip.dev.encRow s.chip.mem n j e (if j.memFloor then 0 else 2 ^ 32) = row from rfl] at chip
  have quiet : (s.chip.quiet.dev.enc n) = x := rfl
  refine ⟨t, ht, ?_, fun none => ?_, fun k some more => ?_, fun k some last head => ?_⟩
  · rw [chip]
    cases row with
    | none => rfl
    | some k => exact s.chip.quiet.rowDone_mem
  · rw [chip, none]
    rfl
  · obtain ⟨hrow, -, -⟩ := Device.encRow_advances some
    rw [some] at chip
    have out : t.chip = s.chip.quiet.encRowOut n j k e := chip.trans (Chip.rowDone_between _ (by rw [hrow]; exact more))
    obtain ⟨-, regs, ⟨feeds, ring, sess⟩, dram⟩ := s.chip.quiet.encRowOut_shows (n := n) (j := k) (e := e) j
    rw [out]
    refine ⟨?_, hrow, ?_, regs, dram wf⟩
    · rw [sess, quiet, jobs]
      rfl
    · rw [sess, quiet]
  · obtain ⟨hrow, -, -⟩ := Device.encRow_advances some
    rw [some] at chip
    have out : t.chip = (s.chip.quiet.encRowOut n j k e).encClose n k := chip.trans (Chip.rowDone_last _ (by rw [hrow]; exact last))
    obtain ⟨-, -, ⟨feeds, ring, sess⟩, -⟩ := s.chip.quiet.encRowOut_shows (n := n) (j := k) (e := e) j
    have got (f : Fld) : (s.chip.quiet.encRowOut n j k e).dev.get f n = d.get f n := Chip.encRowOut_get ..
    rw [out]
    generalize s.chip.quiet.encRowOut n j k e = f at sess got
    have tail : (f.dev.enc n).jobs.tail = rest := by rw [sess, quiet, jobs]; rfl
    have v : (f.dev.enc n).v = x.v := by rw [sess, quiet]
    have shows := f.encClose_shows n k (by rw [tail]; exact head)
    dsimp only at shows
    rw [tail, v, Device.paidBits, v, got, got] at shows
    obtain ⟨jobs', v', full, last', coded, rec0, rec1, p⟩ := shows
    exact ⟨jobs', v', full, last', coded, by rw [rec0, sess, quiet], by rw [rec1, sess, quiet], by rw [p, sess, quiet]⟩

theorem Chip.encLeft_cons (c : Chip) (n stop : Nat) (e : EncRow) (rows : List EncRow) :
    c.encLeft n stop (e :: rows) = (c.encDo n e stop).bind (fun f => f.encLeft n stop rows) := by
  have stays : ∀ l : List EncRow, l.foldl (fun (o : Option Chip) e => o.bind (fun c => c.encDo n e stop)) none = none := by
    intro l
    induction l with
    | nil => rfl
    | cons e l ih => exact ih
  rw [encLeft, List.foldl_cons, Option.bind_some]
  cases c.encDo n e stop with
  | none => exact stays rows
  | some f => rfl

/-- The rows that are left of a picture end it, late. -/
theorem Chip.encLeft_ends (stop : Nat) (rows : List EncRow) : ∀ {c f : Chip} {j : EncJob} {rest : List EncJob},
    (c.dev.enc n).jobs = j :: rest → j.timeFloor = true → rows ≠ [] → j.row + rows.length = ctuRows (c.dev.encH n) →
    c.encLeft n stop rows = some f → (f.dev.enc n).p = (c.dev.enc n).p + 1 ∧ f.dev.get F.ENC_EVENTS_TIME_FLOOR = 1 ∧
      f.dev.get F.ENC_SESS_CNT_TIME_FLOOR_COUNT n =
        min (c.dev.get F.ENC_SESS_CNT_TIME_FLOOR_COUNT n + 1) (2 ^ F.ENC_SESS_CNT_TIME_FLOOR_COUNT.width - 1) := by
  induction rows with
  | nil => exact fun _ _ none => absurd rfl none
  | cons e rows ih =>
    intro c f j rest jobs late _ count left
    rw [Chip.encLeft_cons, Chip.encDo_runs c jobs] at left
    obtain ⟨g, done, left⟩ := Option.bind_eq_some_iff.mp left
    obtain ⟨k, row, done⟩ := Option.map_eq_some_iff.mp done
    obtain ⟨hrow, -, hlate⟩ := Device.encRow_advances row
    obtain ⟨-, -, ⟨feeds, ring, sess⟩, -⟩ := c.encRowOut_shows (n := n) (j := k) (e := e) j
    have got (f : Fld) (i : Nat) : (c.encRowOut n j k e).dev.get f i = c.dev.get f i := Chip.encRowOut_get ..
    rw [List.length_cons] at count
    cases rows with
    | nil =>
      rw [Chip.rowDone_last c (by rw [hrow, ← count]; simp)] at done
      obtain ⟨-, p, ended⟩ := (c.encRowOut n j k e).encClose_ends n k
      obtain ⟨event, counted⟩ := ended (hlate.trans late)
      rw [← Option.some.inj left, ← done]
      exact ⟨by rw [p, sess], event, by rw [counted, got]⟩
    | cons e' rows =>
      rw [Chip.rowDone_between c (by rw [hrow, ← count, List.length_cons]; omega)] at done
      rw [done] at sess got
      have jobs' : (g.dev.enc n).jobs = k :: rest := by rw [sess, jobs]; rfl
      obtain ⟨p, event, counted⟩ := ih jobs' (hlate.trans late) (by simp) (by rw [hrow, Device.encH, got, ← Device.encH, ← count]; omega) left
      exact ⟨by rw [p, sess], event, by rw [counted, got]⟩

theorem encDeadline_refused (coded : Nat) (rows : List EncRow) (jobs : (s.chip.dev.enc n).jobs = j :: rest) (no : (j.begun && j.started) = false) :
    ∃ t, exec (.encDeadline n coded rows) s = .next t ∧ t.chip = s.chip.quiet := by
  have run : s.chip.quiet.encDeadline n coded rows = s.chip.quiet := by
    unfold Chip.encDeadline
    rw [show (s.chip.quiet.dev.enc n).jobs = j :: rest from jobs]
    exact if_pos (by simp [no])
  obtain ⟨t, ht, hm, hd⟩ := onChip_next (s := s) (c := .encDeadline n coded rows) (f := fun c => c.encDeadline n coded rows) rfl run
  exact ⟨t, ht, congrArg₂ Chip.mk hm hd⟩

/-- A session whose first picture has run out of time. -/
def EncSess.due (x : EncSess) (j : EncJob) (rows : Nat) : EncSess := { x with jobs := { j with timeFloor := true, ready := rows } :: x.jobs.tail }

theorem Device.deadlineStart_shows (d : Device) (n : Nat) (j : EncJob) : (d.deadlineStart n j).regs = d.regs ∧
    (d.deadlineStart n j).enc n = (d.enc n).due j (ctuRows (d.encH n)) := by
  unfold deadlineStart
  extract_lets e
  obtain ⟨t, ht⟩ : ∃ t, e = d.waitUntil t := by
    unfold e
    split
    · exact ⟨_, rfl⟩
    · exact ⟨_, rfl⟩
  have regs : e.regs = d.regs := by rw [ht, Device.waitUntil_regs]
  have enc : e.enc n = d.enc n := by rw [ht, Device.enc, Device.waitUntil_encs, Device.enc]
  have size : e.encH n = d.encH n := Device.get_congr regs F.ENC_SESS_SIZE_H n
  have due : (e.enc n).due j (ctuRows (e.encH n)) = (d.enc n).due j (ctuRows (d.encH n)) := by rw [enc, size]
  exact ⟨regs, (Device.enc_setEnc ..).trans due⟩

theorem encDeadline_ends (coded : Nat) (rows : List EncRow) (jobs : (s.chip.dev.enc n).jobs = j :: rest) :
    let d := s.chip.dev
    let cols := ctuCols (d.encW n)
    let c := s.chip.quiet.mapDev (fun (d : Device) => d.deadlineStart n j)
    (j.begun && j.started) = true → j.row < ctuRows (d.encH n) → rows.length = ctuRows (d.encH n) - j.row →
      (c.encLeft n (j.row * cols + min coded cols) rows).isSome = true →
      ∃ t, exec (.encDeadline n coded rows) s = .next t ∧ some t.chip = c.encLeft n (j.row * cols + min coded cols) rows ∧
        (t.chip.dev.enc n).p = (d.enc n).p + 1 ∧ t.chip.dev.get F.ENC_EVENTS_TIME_FLOOR = 1 ∧
        t.chip.dev.get F.ENC_SESS_CNT_TIME_FLOOR_COUNT n =
          min (d.get F.ENC_SESS_CNT_TIME_FLOOR_COUNT n + 1) (2 ^ F.ENC_SESS_CNT_TIME_FLOOR_COUNT.width - 1) := by
  intro d cols c begun hrow len some
  obtain ⟨f, hf⟩ := Option.isSome_iff_exists.mp some
  have run : s.chip.quiet.encDeadline n coded rows = f := by
    unfold Chip.encDeadline
    rw [show (s.chip.quiet.dev.enc n).jobs = j :: rest from jobs]
    refine (if_neg ?_).trans (congrArg (Option.getD · s.chip.quiet) hf)
    rw [show ctuRows (s.chip.quiet.dev.encH n) = ctuRows (d.encH n) from rfl]
    simp [begun, len]
  obtain ⟨regs, sess⟩ := d.quiet.deadlineStart_shows n j
  have got (g : Fld) (i : Nat) : c.dev.get g i = d.get g i := Device.get_congr regs g i
  have sess' : c.dev.enc n = (d.enc n).due j (ctuRows (d.encH n)) := sess
  have size : c.dev.encH n = d.encH n := got F.ENC_SESS_SIZE_H n
  obtain ⟨p, event, counted⟩ := Chip.encLeft_ends (n := n) (j.row * cols + min coded cols) rows (c := c) (f := f)
    (congrArg EncSess.jobs sess') rfl (fun none => by rw [none] at len; simp at len; omega)
    (by rw [size, len]; exact Nat.add_sub_cancel' (le_of_lt hrow)) hf
  obtain ⟨t, ht, hm, hd⟩ := onChip_next (s := s) (c := .encDeadline n coded rows) (f := fun c => c.encDeadline n coded rows) rfl run
  have chip : t.chip = f := congrArg₂ Chip.mk hm hd
  rw [← chip] at hf p event counted
  exact ⟨t, ht, hf.symm, by rw [p, sess']; rfl, event, by rw [counted, got]⟩

end Slice

/-- Settles O35: a row may start, is delivered, ends its picture, or is left to the deadline. -/
theorem picturesAreCodedRowByRow : Obligations.PicturesAreCodedRowByRow :=
  ⟨fun s n j r => encCtuRowStart_shows s n j r, fun _ _ _ no => encSliceComplete_refused no,
    fun s n e j rest wf _ jobs may => encSliceComplete_shows s n e j rest wf jobs may,
    fun _ _ coded rows _ _ _ jobs => ⟨fun no => encDeadline_refused coded rows jobs no, encDeadline_ends coded rows jobs⟩⟩

end Sys2Proof.Machine
end

section
/-!
SUPPORT. The tick edge: O19.
-/

namespace Sys2Proof.Machine

/-! ### What the work of a tick leaves alone -/

/-- The state of the tick in progress, and what waits for its edge. -/
structure Beat where
  pwr : Pwr
  edges : Nat
  rwt : Tab Key Nat
  devNs : Nat
  deferred : List (Nat × Nat × Nat)
  late : List Instr
  layout : Option Layout
  num : Nat
  flags : List Bool

/-- What the edge itself sets and the work admitted at it leaves. -/
def Device.beat : Device → Beat
  | ⟨_, _, rwt, _, _, deferred, _, _, devNs, _, pwr, _, _, _, _, _, _, _, _, _, layout, _, _, _, k, _, _, _, _, _, _, _, _, edges, _, _, _, _, _, _, _, _, _, _, _, _, _, _, _, _, host, _, _, _⟩ =>
    ⟨pwr, edges, rwt, devNs, deferred, host.late, layout, k.num,
      [k.running, k.inTick, k.gap, k.published, k.sealRan, k.judged, k.cert, k.prevCert, k.leave]⟩

@[simp] theorem Device.beat_mk : type_of% @Device.beat.eq_1 := Device.beat.eq_1

@[simp] theorem Device.beat_eta (d : Device) : (⟨d.pwr, d.edges, d.rwt, d.devNs, d.deferred, d.host.late, d.layout, d.tick.num,
    [d.tick.running, d.tick.inTick, d.tick.gap, d.tick.published, d.tick.sealRan, d.tick.judged, d.tick.cert, d.tick.prevCert,
      d.tick.leave]⟩ : Beat) = d.beat := rfl

theorem beat_ite (c : Prop) [Decidable c] (a b : Device) : (if c then a else b).beat = if c then a.beat else b.beat := by split <;> rfl

theorem beat_forL {β : Type} {f : β → Device → Device} (hf : ∀ b d, (f b d).beat = d.beat) (l : List β) :
    ∀ d : Device, (forL l f d).beat = d.beat := by
  induction l with
  | nil => exact fun _ => rfl
  | cons b r ih => exact fun d => (ih _).trans (hf b d)

theorem beat_forN {f : Nat → Device → Device} (hf : ∀ k d, (f k d).beat = d.beat) (n : Nat) (d : Device) :
    (forN n f d).beat = d.beat := beat_forL hf (List.range n) d

theorem beat_foldl {β : Type} {f : Device → β → Device} (hf : ∀ b d, (f d b).beat = d.beat) (l : List β)
    (d : Device) : (l.foldl f d).beat = d.beat := beat_forL (f := fun b d => f d b) hf l d

theorem beat_foldl_fst {β γ : Type} {f : Device × γ → β → Device × γ} (hf : ∀ b a, (f a b).1.beat = a.1.beat) (l : List β) :
    ∀ a : Device × γ, (l.foldl f a).1.beat = a.1.beat := by
  induction l with
  | nil => exact fun _ => rfl
  | cons b r ih => exact fun a => (ih _).trans (hf b a)

@[simp] theorem Device.put_beat (d : Device) (f : Fld) (i : Nat) (v : Nat) :
    (Device.put d f i v).beat = d.beat := by
  simp [Device.put]

@[simp] theorem Device.putS_beat (d : Device) (f : Fld) (slot i v : Nat) :
    (Device.putS d f slot i v).beat = d.beat := by
  simp [Device.putS]

@[simp] theorem Device.flag_beat (d : Device) (f : Fld) (i : Nat) (b : Bool) :
    (Device.flag d f i b).beat = d.beat := by
  simp [Device.flag]

@[simp] theorem Device.bump_beat (d : Device) (f : Fld) (i n : Nat) :
    (Device.bump d f i n).beat = d.beat := by
  simp [Device.bump]

@[simp] theorem Device.put2_beat (d : Device) (lo hi : Fld) (i v : Nat) :
    (Device.put2 d lo hi i v).beat = d.beat := by
  simp [Device.put2]

@[simp] theorem Device.count_beat (d : Device) (ev unit n : Nat) :
    (Device.count d ev unit n).beat = d.beat := by
  simp [Device.count, beat_ite]

@[simp] theorem Device.setSrc_beat (d : Device) (s : Nat) (v : Src) :
    (Device.setSrc d s v).beat = d.beat := by
  simp [Device.setSrc]

@[simp] theorem Device.setOut_beat (d : Device) (o : Nat) (v : OutSt) :
    (Device.setOut d o v).beat = d.beat := by
  simp [Device.setOut]

@[simp] theorem Device.setBerth_beat (d : Device) (n : Nat) (v : Berth) :
    (Device.setBerth d n v).beat = d.beat := by
  simp [Device.setBerth]

@[simp] theorem Device.setDec_beat (d : Device) (n : Nat) (v : DecSess) :
    (Device.setDec d n v).beat = d.beat := by
  simp [Device.setDec]

@[simp] theorem Device.emit_beat (d : Device) (o : Out) :
    (Device.emit d o).beat = d.beat := by
  simp [Device.emit]

@[simp] theorem Device.offerAll_beat (d : Device) (e : EvEntry) : (Device.offerAll d e).1.beat = d.beat := by
  obtain ⟨g, q, h⟩ := d.offerAll_only e
  exact (congrArg Device.beat h).trans rfl

@[simp] theorem Device.raise_beat (d : Device) (f : Fld) (arg : Nat) :
    (Device.raise d f arg).beat = d.beat := by
  simp [Device.raise, beat_ite]

@[simp] theorem Device.record_beat (d : Device) (code source arg0 arg1 : Nat) :
    (Device.record d code source arg0 arg1).beat = d.beat := by
  simp [Device.record, beat_ite]

@[simp] theorem Device.alloc_beat (d : Device) (c kind prod : Nat) :
    (Device.alloc d c kind prod).1.beat = d.beat := by
  unfold Device.alloc
  dsimp only
  repeat' split
  all_goals simp

@[simp] theorem Device.allocFor_beat (d : Device) (bytes kind prod : Nat) :
    (Device.allocFor d bytes kind prod).1.beat = d.beat := by
  unfold Device.allocFor
  split <;> simp

@[simp] theorem Device.retire_beat (d : Device) (n : Nat) :
    (Device.retire d n).beat = d.beat := by
  simp [Device.retire]

@[simp] theorem Device.settle_beat (d : Device) (n : Nat) :
    (Device.settle d n).beat = d.beat := by
  simp [Device.settle, beat_ite]

@[simp] theorem Device.hold_beat (d : Device) (n : Nat) (h : Holder) :
    (Device.hold d n h).beat = d.beat := by
  simp [Device.hold]

@[simp] theorem Device.release_beat (d : Device) (n : Nat) (h : Holder) :
    (Device.release d n h).beat = d.beat := by
  simp [Device.release]

@[simp] theorem Device.releaseAll_beat (d : Device) (p : Holder → Bool) :
    (Device.releaseAll d p).beat = d.beat := by
  simp [Device.releaseAll, beat_forL]

@[simp] theorem Device.discard_beat (d : Device) (n : Nat) :
    (Device.discard d n).beat = d.beat := by
  simp [Device.discard, beat_ite]

@[simp] theorem Device.corrupt_beat (d : Device) (n : Nat) :
    (Device.corrupt d n).beat = d.beat := by
  simp [Device.corrupt, beat_ite]

@[simp] theorem Device.unpin_beat (d : Device) (slot : Nat) :
    (Device.unpin d slot).beat = d.beat := by
  simp [Device.unpin, beat_ite]

@[simp] theorem Device.pinAct_beat (d : Device) (slot op id : Nat) :
    (Device.pinAct d slot op id).beat = d.beat := by
  unfold Device.pinAct
  dsimp only
  repeat' split
  all_goals simp

@[simp] theorem Device.pinEdge_beat (d : Device) :
    (Device.pinEdge d).beat = d.beat := by
  simp [Device.pinEdge, beat_forL]

@[simp] theorem Device.raiseOpt_beat (d : Device) (f : Option Fld) (arg : Nat) :
    (Device.raiseOpt d f arg).beat = d.beat := by
  unfold Device.raiseOpt
  split <;> simp

@[simp] theorem Device.staleUpdate_beat (d : Device) (s t : Nat) (entered fresh ack : Bool) :
    (Device.staleUpdate d s t entered fresh ack).beat = d.beat := by
  simp [Device.staleUpdate, beat_ite]

@[simp] theorem Device.staleOutside_beat (d : Device) (s : Nat) :
    (Device.staleOutside d s).beat = d.beat := by
  simp [Device.staleOutside]

@[simp] theorem Device.transport_beat (d : Device) (s : Nat) :
    (Device.transport d s).beat = d.beat := by
  simp [Device.transport, beat_ite]

@[simp] theorem Device.transportOff_beat (d : Device) (s : Nat) :
    (Device.transportOff d s).beat = d.beat := by
  simp [Device.transportOff]

@[simp] theorem Device.ageRegs_beat (d : Device) (s t : Nat) :
    (Device.ageRegs d s t).beat = d.beat := by
  unfold Device.ageRegs
  dsimp only
  repeat' split
  all_goals simp

@[simp] theorem Device.frsEdge_beat (d : Device) (t : Nat) (refs restart : List Nat) :
    (Device.frsEdge d t refs restart).beat = d.beat := by
  simp [Device.frsEdge, beat_ite, beat_forL]

@[simp] theorem Device.shiftTicks_beat (d : Device) (delta : Int) :
    (Device.shiftTicks d delta).beat = d.beat := by
  simp [Device.shiftTicks]

@[simp] theorem Device.ackSource_beat (d : Device) (s : Nat) :
    (Device.ackSource d s).beat = d.beat := by
  simp [Device.ackSource]

@[simp] theorem Device.ackAllSources_beat (d : Device) :
    (Device.ackAllSources d).beat = d.beat := by
  simp [Device.ackAllSources]

@[simp] theorem Device.endRequest_beat (d : Device) (r : LayoutResult) :
    (Device.endRequest d r).beat = d.beat := by
  unfold Device.endRequest
  dsimp only
  repeat' split
  all_goals simp

@[simp] theorem Device.requestLayout_beat (d : Device) (m : Memory) (slot index : Nat) :
    (Device.requestLayout d m slot index).beat = d.beat := by
  unfold Device.requestLayout
  dsimp only
  repeat' split
  all_goals simp

@[simp] theorem Device.keepEntries_beat (d : Device) (keep : Nat × Nat → Bool) : (Device.keepEntries d keep).beat = d.beat := by
  refine beat_forL (fun e d => ?_) _ d
  split
  · rfl
  · unfold Tick.drop
    split <;> rfl

@[simp] theorem Device.dropUnreferenced_beat (d : Device) :
    (Device.dropUnreferenced d).beat = d.beat := by
  simp [Device.dropUnreferenced]

@[simp] theorem Device.flushEdge_beat (d : Device) :
    (Device.flushEdge d).beat = d.beat := by
  simp [Device.flushEdge, beat_ite]

@[simp] theorem Device.freeTail_beat (d : Device) (o : Nat) :
    (Device.freeTail d o).beat = d.beat := by
  simp [Device.freeTail]

@[simp] theorem Device.letFrameGo_beat (d : Device) (o : Nat) :
    (Device.letFrameGo d o).beat = d.beat := by
  unfold Device.letFrameGo
  dsimp only
  repeat' split
  all_goals simp

@[simp] theorem Device.removeOut_beat (d : Device) (o : Nat) :
    (Device.removeOut d o).beat = d.beat := by
  simp [Device.removeOut]

@[simp] theorem Device.startOut_beat (d : Device) (o : Nat) :
    (Device.startOut d o).beat = d.beat := by
  simp [Device.startOut]

@[simp] theorem Device.matEdge_beat (d : Device) :
    (Device.matEdge d).beat = d.beat := by
  simp [Device.matEdge, beat_forL]

@[simp] theorem Device.setPair_beat (d : Device) (f : PairX → PairX) :
    (Device.setPair d f).beat = d.beat := by
  simp [Device.setPair]

@[simp] theorem Device.gratuitousArp_beat (d : Device) :
    (Device.gratuitousArp d).beat = d.beat := by
  simp [Device.gratuitousArp, beat_ite, beat_forL]

@[simp] theorem Device.igmpSend_beat (d : Device) (p : Nat) (r : List (Nat × Nat × List Nat)) :
    (Device.igmpSend d p r).beat = d.beat := by
  simp [Device.igmpSend, beat_ite]

@[simp] theorem Device.igmpReport_beat (d : Device) (p : Nat) (r : List (Nat × Nat × List Nat)) :
    (Device.igmpReport d p r).beat = d.beat := by
  simp [Device.igmpReport, beat_ite]

@[simp] theorem Device.igmpUpdate_beat (d : Device) (before : Nat → List (Nat × List Nat)) :
    (Device.igmpUpdate d before).beat = d.beat := by
  simp [Device.igmpUpdate, beat_ite, beat_forN]

@[simp] theorem Device.dropBad_beat (d : Device) :
    (Device.dropBad d).beat = d.beat := by
  simp [Device.dropBad]

@[simp] theorem Device.setExt_beat (d : Device) (e v : Nat) :
    (Device.setExt d e v).beat = d.beat := by
  simp [Device.setExt]

@[simp] theorem Device.setTail_beat (d : Device) (o : Nat) (t : Option OutTail) :
    (Device.setTail d o t).beat = d.beat := by
  simp [Device.setTail]

@[simp] theorem Device.tailBack_beat (d : Device) (o : Nat) (t : OutTail) :
    (Device.tailBack d o t).beat = d.beat := by
  simp [Device.tailBack, beat_ite]

@[simp] theorem Device.markTail_beat (leaving : Bool) (o : Nat) (d : Device) :
    (Device.markTail leaving o d).beat = d.beat := by
  unfold Device.markTail
  dsimp only
  repeat' split
  all_goals simp

@[simp] theorem Device.markTails_beat (leaving : Bool) (d : Device) :
    (Device.markTails leaving d).beat = d.beat := by
  simp [Device.markTails, beat_forN]

@[simp] theorem Device.decErr_beat (d : Device) (n cls : Nat) :
    (Device.decErr d n cls).beat = d.beat := by
  simp [Device.decErr, beat_ite]

@[simp] theorem Device.decDamaged_beat (d : Device) (n : Nat) (referable : Bool) :
    (Device.decDamaged d n referable).beat = d.beat := by
  simp [Device.decDamaged, beat_ite]

@[simp] theorem Device.decNever_beat (d : Device) (n k : Nat) (referable : Bool) :
    (Device.decNever d n k referable).beat = d.beat := by
  simp [Device.decNever]

@[simp] theorem Device.dpbRelease_beat (d : Device) (n : Nat) (p : DpbPic) :
    (Device.dpbRelease d n p).beat = d.beat := by
  simp [Device.dpbRelease, beat_ite]

@[simp] theorem Device.dpbCount_beat (d : Device) (n : Nat) :
    (Device.dpbCount d n).beat = d.beat := by
  simp [Device.dpbCount]

@[simp] theorem Device.decClear_beat (d : Device) (n : Nat) :
    (Device.decClear d n).beat = d.beat := by
  unfold Device.decClear
  extract_lets x d1 d2
  have h1 : d1.beat = d.beat := by
    refine beat_forL (fun j d => ?_) x.running d
    split <;> simp
  have h2 : d2.beat = d1.beat := beat_forL (fun p d => by simp) x.dpb d1
  simpa [h2] using h1

@[simp] theorem Device.decSync_beat (d : Device) (n : Nat) :
    (Device.decSync d n).beat = d.beat := by
  simp [Device.decSync]

@[simp] theorem Device.decCloseNow_beat (d : Device) (n : Nat) :
    (Device.decCloseNow d n).beat = d.beat := by
  simp [Device.decCloseNow, beat_ite, beat_forL]

@[simp] theorem Device.decOpenNow_beat (d : Device) (n : Nat) :
    (Device.decOpenNow d n).beat = d.beat := by
  simp [Device.decOpenNow]

@[simp] theorem Device.decEffect_beat (d : Device) (c : SessCmd) :
    (Device.decEffect d c).beat = d.beat := by
  unfold Device.decEffect
  split <;> simp

@[simp] theorem Device.decEdgeCmd_beat (d : Device) :
    (Device.decEdgeCmd d).beat = d.beat := by
  unfold Device.decEdgeCmd
  split <;> simp

@[simp] theorem Device.auJob_beat (d : Device) (n : Nat) (a : AccessUnit) (next : Option Nat) :
    (Device.auJob d n a next).beat = d.beat := by
  unfold Device.auJob
  repeat' split
  all_goals simp [beat_ite]

@[simp] theorem Device.auJobs_beat (n : Nat) (rest : List AccessUnit) (l : List AccessUnit) :
    ∀ d : Device, (d.auJobs n rest l).beat = d.beat := by
  induction l with
  | nil => intro d; rfl
  | cons a r ih => intro d; rw [Device.auJobs, ih, Device.auJob_beat]

@[simp] theorem Device.decUnitsEdge_beat (d : Device) (n : Nat) :
    (Device.decUnitsEdge d n).beat = d.beat := by
  unfold Device.decUnitsEdge
  extract_lets x done rest back d1 stop d2
  have h1 : d1.beat = d.beat := by
    refine beat_forL (fun j d => ?_) _ d
    split <;> simp
  have h2 : d2.beat = d.beat := h1
  split <;> simp [h2]

@[simp] theorem Device.decStart_beat (d : Device) (n : Nat) :
    (Device.decStart d n).1.beat = d.beat := by
  unfold Device.decStart
  dsimp only
  repeat' split
  all_goals simp

@[simp] theorem Device.decAdmit_beat (n k : Nat) :
    ∀ (d : Device) (b : DecBudget), (d.decAdmit n k b).1.beat = d.beat := by
  induction k with
  | zero => intro d b; rfl
  | succ k ih =>
    intro d b
    unfold Device.decAdmit
    split
    · rfl
    · dsimp only
      split
      · rfl
      · split <;> simp [ih]

@[simp] theorem Device.decAdmission_beat (d : Device) :
    (Device.decAdmission d).beat = d.beat := by
  unfold Device.decAdmission
  extract_lets order first late free rest d1 lateAll d2 left d3
  have h1 : first.1.beat = d.beat := by
    refine beat_foldl_fst (fun n a => ?_) order (d, [])
    exact Device.decAdmit_beat ..
  have h2 : rest.1.beat = first.1.beat := by
    refine beat_foldl_fst (fun n a => ?_) order (first.1, _)
    exact Device.decAdmit_beat ..
  have h3 : d3.beat = d.beat := by
    rw [← h1, ← h2]
    exact (rfl : d3.beat = d1.beat)
  clear_value d3
  split <;> simp [h3]

@[simp] theorem Device.setEnc_beat (d : Device) (n : Nat) (v : EncSess) :
    (Device.setEnc d n v).beat = d.beat := by
  simp [Device.setEnc]

@[simp] theorem Device.encStop_beat (d : Device) (n : Nat) :
    (Device.encStop d n).beat = d.beat := by
  simp [Device.encStop]

@[simp] theorem Device.encOpenNow_beat (d : Device) (n : Nat) :
    (Device.encOpenNow d n).beat = d.beat := by
  simp [Device.encOpenNow]

@[simp] theorem Device.encCloseNow_beat (d : Device) (n : Nat) :
    (Device.encCloseNow d n).beat = d.beat := by
  unfold Device.encCloseNow
  extract_lets x d1 d2
  have h1 : d1.beat = d.beat := d.encStop_beat n
  have h2 : d2.beat = d1.beat := by
    refine beat_foldl (fun o d => ?_) _ d1
    split <;> simp
  simp [h2, h1]

@[simp] theorem Device.encEffect_beat (d : Device) (c : SessCmd) :
    (Device.encEffect d c).beat = d.beat := by
  unfold Device.encEffect
  split <;> simp

@[simp] theorem Device.encEdgeCmd_beat (d : Device) :
    (Device.encEdgeCmd d).beat = d.beat := by
  unfold Device.encEdgeCmd
  split <;> simp

@[simp] theorem Device.encLeaveRun_beat (d : Device) :
    (Device.encLeaveRun d).beat = d.beat := by
  simp [Device.encLeaveRun, beat_ite, beat_forN]

@[simp] theorem Device.encBegin_beat (d : Device) (m : Memory) (n : Nat) (j : EncJob) :
    (Device.encBegin d m n j).beat = d.beat := by
  simp [Device.encBegin, beat_ite]

@[simp] theorem Device.encMissing_beat (d : Device) (n : Nat) (j : EncJob) :
    (Device.encMissing d n j).beat = d.beat := by
  simp [Device.encMissing]

@[simp] theorem Device.encTurn_beat (m : Memory) (n k : Nat) :
    ∀ d : Device, (d.encTurn m n k).beat = d.beat := by
  induction k with
  | zero => intro d; rfl
  | succ k ih =>
    intro d
    unfold Device.encTurn
    split
    · rfl
    · split
      · rfl
      · split <;> simp [ih]

@[simp] theorem Device.encTick_beat (d : Device) (m : Memory) (n tick : Nat) (inp : Option EncInput) :
    (Device.encTick d m n tick inp).beat = d.beat := by
  unfold Device.encTick
  extract_lets x row j d1 d2 d3
  have h2 : d2.beat = d.beat := by
    unfold d2
    split <;> simp [d1]
  have h3 : d3.beat = d.beat := by simp [d3, beat_ite, h2]
  simp [h3]

@[simp] theorem Device.encEdge_beat (d : Device) (m : Memory) (t : Nat) :
    (Device.encEdge d m t).beat = d.beat := by
  simp [Device.encEdge, beat_ite, beat_forN]

@[simp] theorem Device.encRateEdge_beat (d : Device) (n : Nat) :
    (Device.encRateEdge d n).beat = d.beat := by
  simp [Device.encRateEdge]

@[simp] theorem Device.encPeriodEdge_beat (d : Device) (n : Nat) :
    (Device.encPeriodEdge d n).beat = d.beat := by
  simp [Device.encPeriodEdge, beat_ite]

@[simp] theorem Device.setServo_beat (d : Device) (v : Nat) (x : Servo) :
    (Device.setServo d v x).beat = d.beat := by
  simp [Device.setServo]

@[simp] theorem Device.presetI_beat (d : Device) (v : Nat) :
    (Device.presetI d v).beat = d.beat := by
  simp [Device.presetI]

@[simp] theorem Device.rateSpan_beat (d : Device) :
    (Device.rateSpan d).beat = d.beat := by
  simp [Device.rateSpan, beat_ite]

@[simp] theorem Device.setRate_beat (d : Device) (r : Int) :
    (Device.setRate d r).beat = d.beat := by
  simp [Device.setRate]

@[simp] theorem Device.clampRate_beat (d : Device) :
    (Device.clampRate d).beat = d.beat := by
  simp [Device.clampRate, beat_ite]

@[simp] theorem Device.srcUpdate_beat (d : Device) :
    (Device.srcUpdate d).beat = d.beat := by
  simp [Device.srcUpdate, beat_ite]

@[simp] theorem Device.utcUpdate_beat (d : Device) :
    (Device.utcUpdate d).beat = d.beat := by
  unfold Device.utcUpdate
  split <;> simp

@[simp] theorem Device.useServo_beat (d : Device) (v : Nat) :
    (Device.useServo d v).beat = d.beat := by
  simp [Device.useServo, beat_ite]

@[simp] theorem Device.servoSwitch_beat (d : Device) :
    (Device.servoSwitch d).beat = d.beat := by
  unfold Device.servoSwitch
  dsimp only
  repeat' split
  all_goals simp

@[simp] theorem Device.servoEdge_beat (d : Device) :
    (Device.servoEdge d).beat = d.beat := by
  simp [Device.servoEdge]

@[simp] theorem Device.srvTo_beat (d : Device) (v st : Nat) :
    (Device.srvTo d v st).beat = d.beat := by
  simp [Device.srvTo, beat_ite]

@[simp] theorem Device.setTrig_beat (d : Device) (k : Nat) (x : Trig) :
    (Device.setTrig d k x).beat = d.beat := by
  simp [Device.setTrig]

@[simp] theorem Device.trigMissed_beat (d : Device) (k : Nat) :
    (Device.trigMissed d k).beat = d.beat := by
  simp [Device.trigMissed]

@[simp] theorem Device.trigStep_beat (d : Device) (ns : Int) :
    (Device.trigStep d ns).beat = d.beat := by
  refine beat_forN (fun k d => ?_) 4 d
  dsimp only
  split <;> simp [beat_ite]

@[simp] theorem Device.setCaps_beat (d : Device) (k : Nat) (l : List Capture) :
    (Device.setCaps d k l).beat = d.beat := by
  simp [Device.setCaps]

@[simp] theorem Device.capture_beat (d : Device) (k : Nat) (rising : Bool) :
    (Device.capture d k rising).beat = d.beat := by
  simp [Device.capture, beat_ite]

@[simp] theorem Device.perfSnap_beat (d : Device) :
    (Device.perfSnap d).beat = d.beat := by
  simp [Device.perfSnap]

@[simp] theorem Device.perfAct_beat (d : Device) (op : Nat) :
    (Device.perfAct d op).beat = d.beat := by
  unfold Device.perfAct
  split <;> simp

@[simp] theorem Device.perfEdge_beat (d : Device) :
    (Device.perfEdge d).beat = d.beat := by
  simp [Device.perfEdge, beat_ite, beat_forL]

@[simp] theorem Device.setTouchKey_beat (d : Device) (k : Nat) (v : TouchKey) :
    (Device.setTouchKey d k v).beat = d.beat := by
  simp [Device.setTouchKey]

@[simp] theorem Device.touchAction_beat (m : Memory) (d : Device) (k : Nat) :
    (Device.touchAction m d k).beat = d.beat := by
  unfold Device.touchAction
  split <;> simp [beat_ite]

@[simp] theorem Device.touchEdge_beat (m : Memory) (d : Device) :
    (Device.touchEdge m d).beat = d.beat := by
  simp [Device.touchEdge, beat_ite, beat_forL]

@[simp] theorem Device.touchTake_beat (d : Device) :
    (Device.touchTake d).beat = d.beat := by
  simp [Device.touchTake, beat_ite, beat_forL]

@[simp] theorem Device.setRein_beat (d : Device) (f : Rein → Rein) :
    (Device.setRein d f).beat = d.beat := by
  simp [Device.setRein]

@[simp] theorem Device.setCmp_beat (d : Device) (f : Compare → Compare) :
    (Device.setCmp d f).beat = d.beat := by
  simp [Device.setCmp]

@[simp] theorem Device.setRole_beat (d : Device) (r : Nat) :
    (Device.setRole d r).beat = d.beat := by
  simp [Device.setRole, beat_ite]

@[simp] theorem Device.setSync_beat (d : Device) (s : Nat) :
    (Device.setSync d s).beat = d.beat := by
  simp [Device.setSync, beat_ite]

@[simp] theorem Device.renew_beat (d : Device) (t : Nat) :
    (Device.renew d t).beat = d.beat := by
  simp [Device.renew]

@[simp] theorem Device.reinEdge_beat (d : Device) (t u : Nat) :
    (Device.reinEdge d t u).beat = d.beat := by
  simp [Device.reinEdge, beat_ite]

@[simp] theorem Device.reinStop_beat (d : Device) :
    (Device.reinStop d).beat = d.beat := by
  simp [Device.reinStop, beat_ite]

@[simp] theorem Device.evqTake_beat (d : Device) :
    (Device.evqTake d).beat = d.beat := by
  simp [Device.evqTake, beat_ite, beat_forL]

@[simp] theorem Device.sessTake_beat (d : Device) :
    (Device.sessTake d).beat = d.beat := by
  exact beat_forL (f := fun (p : Nat × FuhelSess) (d : Device) =>
    ({ d with host := { d.host with sess := Tab.set d.host.sess p.1 { p.2 with lastNs := d.now } } } : Device).putS
      F.HOST_SLOT_STATUS_SESSION p.1 0 1) (fun p d => by simp) _ _

@[simp] theorem Device.encTake_beat (d : Device) :
    (Device.encTake d).beat = d.beat := by
  simp [Device.encTake, beat_ite, beat_forN]

@[simp] theorem Device.updTake_beat (d : Device) :
    (Device.updTake d).beat = d.beat := by
  simp [Device.updTake, beat_ite]

@[simp] theorem Device.take_beat (d : Device) :
    (Device.take d).beat = d.beat := by
  simp [Device.take, beat_ite, beat_forN]

@[simp] theorem Device.sendFrame_beat (d : Device) (lane index : Nat) (b : TetherBody) :
    (Device.sendFrame d lane index b).beat = d.beat := by
  simp [Device.sendFrame, beat_ite]

@[simp] theorem Device.sendBoth_beat (d : Device) (index : Nat) (b : TetherBody) :
    (Device.sendBoth d index b).beat = d.beat := by
  simp [Device.sendBoth]

@[simp] theorem Device.pwrEnd_beat (d : Device) (r : Nat) :
    (Device.pwrEnd d r).beat = d.beat := by
  simp [Device.pwrEnd]

@[simp] theorem Device.unlock_beat (d : Device) (lost : Bool) :
    (Device.unlock d lost).beat = d.beat := by
  simp [Device.unlock, beat_ite]

@[simp] theorem Device.beginSync_beat (d : Device) :
    (Device.beginSync d).beat = d.beat := by
  simp [Device.beginSync]

@[simp] theorem Device.startResync_beat (d : Device) :
    (Device.startResync d).beat = d.beat := by
  simp [Device.startResync]

@[simp] theorem Device.ownerShadow_beat (d : Device) :
    (Device.ownerShadow d).beat = d.beat := by
  simp [Device.ownerShadow, beat_ite]

@[simp] theorem Device.pairEnd_beat (d : Device) (r : Nat) :
    (Device.pairEnd d r).beat = d.beat := by
  simp [Device.pairEnd]

@[simp] theorem Device.handoverStep_beat (d : Device) :
    (Device.handoverStep d).1.beat = d.beat := by
  unfold Device.handoverStep
  dsimp only
  repeat' split
  all_goals simp

@[simp] theorem Device.resyncEdge_beat (d : Device) :
    (Device.resyncEdge d).beat = d.beat := by
  simp [Device.resyncEdge, beat_ite]

@[simp] theorem Device.activeEdge_beat (d : Device) (t u : Nat) :
    (Device.activeEdge d t u).beat = d.beat := by
  simp [Device.activeEdge, beat_ite]

@[simp] theorem Device.standbyEdge_beat (d : Device) (t u : Nat) :
    (Device.standbyEdge d t u).beat = d.beat := by
  simp [Device.standbyEdge, beat_ite]

@[simp] theorem Device.roleEdge_beat (d : Device) (t u : Nat) :
    (Device.roleEdge d t u).beat = d.beat := by
  unfold Device.roleEdge
  dsimp only
  repeat' split
  all_goals simp

@[simp] theorem Device.pairEdge_beat (d : Device) (t u : Nat) :
    (Device.pairEdge d t u).beat = d.beat := by
  simp [Device.pairEdge, beat_ite]

@[simp] theorem Device.heartbeats_beat (d : Device) (t : Nat) :
    (Device.heartbeats d t).beat = d.beat := by
  simp [Device.heartbeats]

@[simp] theorem Device.reportJump_beat (d : Device) (delta : Option Int) :
    (Device.reportJump d delta).beat = d.beat := by
  unfold Device.reportJump
  split <;> simp

@[simp] theorem Device.livePins_beat (d : Device) (first : Bool) :
    (Device.livePins d first).beat = d.beat := by
  simp [Device.livePins, beat_ite]

@[simp] theorem Device.clearOuts_beat (d : Device) :
    (Device.clearOuts d).beat = d.beat := by
  unfold Device.clearOuts
  extract_lets d1
  rw [← d.releaseAll_beat]
  refine beat_forN (fun o d => ?_) 32 d1
  extract_lets x d'
  have h : d'.beat = d.beat := by
    unfold d'
    split <;> simp
  rw [← h]
  split <;> rfl

@[simp] theorem Device.markDiscont_beat (d : Device) :
    (Device.markDiscont d).beat = d.beat := by
  simp [Device.markDiscont, beat_ite, beat_forN]

@[simp] theorem Device.composeEdge_beat (d : Device) :
    (Device.composeEdge d).beat = d.beat := by
  unfold Device.composeEdge
  split <;> simp [beat_forL]

@[simp] theorem Device.codecEdge_beat (m : Memory) (t : Nat) (d : Device) :
    (Device.codecEdge m t d).beat = d.beat := by
  simp [Device.codecEdge, beat_ite, beat_forN]

/-! ### The opening of an edge -/

/-- The fields that the opening of an edge shows itself in. -/
def openShown : List Fld := [F.TICK_DISCONT_DELTA_LO_DELTA, F.TICK_DISCONT_DELTA_HI_DELTA, F.TICK_EVENTS_DISCONT] ++ berthFields

/-- Nothing of the update session changes, and of the registers only the fields shown. -/
def Device.Opens (d e : Device) : Prop := d.keeps e (but openShown) ∧ e.upd = d.upd

namespace Device.Opens

variable {d e f : Device}

theorem refl (d : Device) : d.Opens d := ⟨d.keeps_refl _, rfl⟩
theorem trans (h : d.Opens e) (h' : e.Opens f) : d.Opens f := ⟨Device.keeps_trans h.1 h'.1, h'.2.trans h.2⟩
theorem of_regs (hr : e.regs = d.regs) (hu : e.upd = d.upd) : d.Opens e := ⟨Device.keeps_of_regs hr _, hu⟩
theorem of_berths (h : d.BerthFrame (but openShown) e) : d.Opens e := ⟨h.fields, by
  have := congrArg Device.upd h.parts
  exact this⟩

theorem ite {c : Prop} [Decidable c] (h : d.Opens e) (h' : d.Opens f) : d.Opens (if c then e else f) := by
  split
  · exact h
  · exact h'

theorem forN {n : Nat} {g : Nat → Device → Device} (hg : ∀ k (d : Device), d.Opens (g k d)) (d : Device) : d.Opens (Machine.forN n g d) := by
  unfold Machine.forN
  induction List.range n generalizing d with
  | nil => exact refl d
  | cons k l ih => exact (hg k d).trans (ih _)

theorem role (h : d.Opens e) : e.role = d.role := h.1.1 F.PAIR_STATUS_ROLE 0 (by decide)
theorem follows (h : d.Opens e) : e.follows = d.follows := by rw [Device.follows, h.role, Device.follows]

end Device.Opens

section Opening

variable (d : Device)

theorem Device.settle_opens (n : Nat) : d.Opens (d.settle n) :=
  .of_berths (.settle (but_mono fun _ hf => List.mem_append_right _ hf) d n)

theorem Device.freeTail_opens (o : Nat) : d.Opens (d.freeTail o) :=
  .of_berths (.releaseAll (but_mono fun _ hf => List.mem_append_right _ hf) d _)

theorem Device.letFrameGo_opens (o : Nat) : d.Opens (d.letFrameGo o) := by
  unfold letFrameGo
  extract_lets x e
  have freed : d.Opens e := Opens.trans (.of_regs rfl rfl) (Device.freeTail_opens _ o)
  split
  · split
    · exact freed.trans (Device.settle_opens _ _)
    · exact freed
  · exact freed

theorem Device.markTail_opens (leaving : Bool) (o : Nat) : d.Opens (d.markTail leaving o) := by
  unfold markTail
  extract_lets e x goes base
  have freed : d.Opens e := by
    unfold e
    split
    · rename_i t _
      have back : d.Opens (if (t.failed || t.gone) = true then d else d.tailBack o t) := .ite (.refl d) (.ite (.of_regs rfl rfl) (.refl d))
      exact (back.trans (.of_regs rfl rfl)).trans (Device.freeTail_opens _ o)
    · exact .refl d
  refine freed.trans ?_
  split
  · exact .refl e
  · rename_i q _
    refine .ite (.refl e) ?_
    extract_lets t last inTime f g
    have marked : e.Opens f := by
      unfold f
      split <;> exact .of_regs rfl rfl
    exact marked.trans (.of_regs rfl rfl)

theorem Device.markTails_opens (leaving : Bool) : d.Opens (d.markTails leaving) := .forN (fun o d => d.markTail_opens leaving o) d

theorem Device.waitUntil_opens (t : Nat) : d.Opens (d.waitUntil t) := by
  obtain ⟨a, b, c, p, h⟩ := d.waitUntil_only t
  rw [h]
  exact .of_regs rfl rfl

theorem Device.discont_opens (v : Nat) :
    d.Opens ((d.put2 F.TICK_DISCONT_DELTA_LO_DELTA F.TICK_DISCONT_DELTA_HI_DELTA 0 v).raise F.TICK_EVENTS_DISCONT) := by
  have lo := d.keeps_put F.TICK_DISCONT_DELTA_LO_DELTA 0 v (p := but openShown) (but_apart (by simp [openShown]))
  have hi (e : Device) : e.keeps (e.put F.TICK_DISCONT_DELTA_HI_DELTA 0 (v / 2 ^ 32)) (but openShown) := e.keeps_put _ _ _ (but_apart (by simp [openShown]))
  have put : d.Opens (d.put2 F.TICK_DISCONT_DELTA_LO_DELTA F.TICK_DISCONT_DELTA_HI_DELTA 0 v) := ⟨Device.keeps_trans lo (hi _), rfl⟩
  exact put.trans ⟨Device.keeps_raise _ _ 0 (by simp [openShown]), Device.raise_upd ..⟩

theorem Device.reportJump_opens (delta : Option Int) : d.Opens (d.reportJump delta) := by
  unfold reportJump
  extract_lets src e
  have told : d.Opens e := .of_regs rfl rfl
  split
  · rename_i v
    have shifted : e.Opens (e.shiftTicks v) := .of_regs rfl rfl
    exact (told.trans shifted).trans (Device.discont_opens _ _)
  · exact told

/-- An edge once its time has come. -/
def Device.edgeBegun (d : Device) (t err : Nat) : Device :=
  let f := { d with tick := d.tick.begin t err d.now, edges := d.edges + 1 }
  ((f.setPair (fun (p : PairX) => { p with edges := (t :: p.edges).take 8, since := p.since + 1 })).heartbeats t).reportJump (d.discontinuity t)

theorem Device.edgeStart_eq (t err : Nat) : d.edgeStart t err = (d.waitUntil (d.edgeNs t)).edgeBegun t err := rfl

theorem Device.edgeBegun_opens (t err : Nat) : d.Opens (d.edgeBegun t err) := by
  unfold edgeBegun
  extract_lets f
  have begun : d.Opens f := .of_regs rfl rfl
  have paired (p : PairX → PairX) : f.Opens (f.setPair p) := .of_regs rfl rfl
  have beats (e : Device) : e.Opens (e.heartbeats t) := .of_regs rfl rfl
  exact ((begun.trans (paired _)).trans (beats _)).trans (Device.reportJump_opens _ _)

theorem Device.edgeStart_opens (t err : Nat) : d.Opens (d.edgeStart t err) := by
  rw [Device.edgeStart_eq]
  exact (d.waitUntil_opens _).trans (Device.edgeBegun_opens _ t err)

/-! ### The state of the tick at its edge -/

/-- Device time is another. -/
def Beat.timed (b : Beat) (n : Nat) : Beat := { b with devNs := n }

/-- The written values are in force. -/
def Beat.forced (b : Beat) : Beat := { b with rwt := [] }

/-- The layout is another. -/
def Beat.laidOut (b : Beat) (l : Option Layout) : Beat := { b with layout := l }

/-- The power state is another. -/
def Beat.powered (b : Beat) (p : Pwr) : Beat := { b with pwr := p }

/-- A tick begins. -/
def Beat.begun (b : Beat) (t : Nat) : Beat :=
  { b with edges := b.edges + 1, num := t, flags := [true, true, false, false, false, false, false, b.flags.getD 6 false, b.flags.getD 8 false] }

theorem Device.cycles_beat (k : Nat) : (d.cycles k).beat = d.beat := by
  obtain ⟨p, only⟩ := d.cycles_only k
  rw [only]
  rfl

theorem Device.elapse_beat (k : Nat) : (d.elapse k).beat =
    d.beat.timed (d.devNs + (d.devFrac + (if d.pd1On then k * (1000000000 + d.ppb).toNat else 0)) / 1000000000) := by
  unfold elapse
  extract_lets total e
  have moved : e.beat = d.beat.timed (d.devNs + total / 1000000000) := rfl
  have counted : (e.cycles k).beat = e.beat := e.cycles_beat k
  rw [beat_ite, counted]
  split <;> exact moved

/-- Device time passes, and reaches a time to come while the clock runs. -/
theorem Device.waitUntil_beat (t : Nat) : ∃ n, d.devNs ≤ n ∧ (d.waitUntil t).beat = d.beat.timed n ∧
    (d.pd1On = true → 0 < 1000000000 + d.ppb → t ≤ n) := by
  obtain ⟨r, hr⟩ : ∃ r, r = (1000000000 + d.ppb).toNat := ⟨_, rfl⟩
  unfold waitUntil
  extract_lets r'
  rw [show r' = r from hr.symm]
  split
  · rename_i stays
    exact ⟨d.devNs, Nat.le_refl _, rfl, fun _ fast => by omega⟩
  · rename_i waits
    obtain ⟨k, hk⟩ : ∃ k, k = ((t - d.devNs) * 1000000000 - d.devFrac + r - 1) / r := ⟨_, rfl⟩
    rw [← hk]
    refine ⟨d.devNs + (d.devFrac + (if d.pd1On then k * r else 0)) / 1000000000, Nat.le_add_right .., ?_, fun on _ => ?_⟩
    · rw [hr]
      exact d.elapse_beat k
    · rw [if_pos on]
      have enough : (t - d.devNs) * 1000000000 - d.devFrac ≤ k * r := by
        rw [hk, Nat.mul_comm _ r]
        have := Nat.div_add_mod ((t - d.devNs) * 1000000000 - d.devFrac + r - 1) r
        have := Nat.mod_lt ((t - d.devNs) * 1000000000 - d.devFrac + r - 1) (show 0 < r by omega)
        omega
      omega

theorem Device.edgeBegun_beat (t err : Nat) : (d.edgeBegun t err).beat = d.beat.begun t := by
  unfold edgeBegun
  rw [Device.reportJump_beat, Device.heartbeats_beat, Device.setPair_beat]
  rfl

theorem Device.edgeStart_beat (t err : Nat) : ∃ n, d.devNs ≤ n ∧ (d.edgeStart t err).beat = (d.beat.timed n).begun t := by
  obtain ⟨n, hn, waited, -⟩ := d.waitUntil_beat (d.edgeNs t)
  exact ⟨n, hn, by rw [Device.edgeStart_eq, Device.edgeBegun_beat, waited]⟩

/-! ### The work of an edge -/

theorem Device.applyRwt_beat : d.applyRwt.beat = d.beat.forced := by
  unfold applyRwt
  extract_lets e
  exact (beat_forL (f := fun (p : Key × Nat) (d : Device) => { d with regs := Tab.set d.regs p.1 p.2 }) (fun _ _ => rfl) d.rwt e).trans rfl

theorem Device.rwtEdge_beat : d.rwtEdge.beat = d.beat.forced := by
  unfold rwtEdge
  extract_lets written rates periods e
  have applied : e.beat = d.beat.forced := (Device.igmpUpdate_beat _ _).trans d.applyRwt_beat
  rw [Device.matEdge_beat, beat_forL (fun n d => d.encPeriodEdge_beat n), beat_forL (fun n d => d.encRateEdge_beat n), applied]

theorem Device.movesEdge_beat : ∃ l, d.movesEdge.beat = d.beat.laidOut l := by
  unfold movesEdge
  split
  · exact ⟨d.layout, rfl⟩
  · exact ⟨_, rfl⟩

theorem Device.switchLayout_beat (r : LayoutReq) : (d.switchLayout r).beat = d.beat.laidOut (some r.layout) := by
  unfold switchLayout
  extract_lets old new e f g
  have left : f.beat = e.beat := by
    refine beat_forN (fun o d => ?_) 32 e
    split
    · rfl
    · exact d.removeOut_beat o
    · exact (Device.startOut_beat _ o).trans (d.removeOut_beat o)
    · split
      · exact (Device.startOut_beat _ o).trans (d.removeOut_beat o)
      · exact d.startOut_beat o
  have shown : g.beat = f.beat := by
    refine beat_forN (fun o d => ?_) 32 f
    split <;> rfl
  simp only [Device.endRequest_beat, Device.put_beat, Device.dropUnreferenced_beat, shown, left]
  rfl

theorem Device.layoutEdge_beat (t : Nat) : ∃ l, (d.layoutEdge t).beat = d.beat.laidOut l := by
  unfold layoutEdge
  split
  · exact ⟨d.layout, rfl⟩
  · rename_i r _
    have ends (v : LayoutResult) : ∃ l, (d.endRequest v).beat = d.beat.laidOut l := ⟨d.layout, d.endRequest_beat v⟩
    split
    · exact ends _
    · split
      · exact ⟨_, d.switchLayout_beat r⟩
      · split
        · exact ends _
        · split
          · exact ends _
          · split
            · exact ends _
            · exact ⟨d.layout, rfl⟩

theorem Device.layoutOf_beat (t : Nat) : ∃ l, (d.layoutOf t).beat = d.beat.laidOut l := by
  obtain ⟨l, moved⟩ := Device.movesEdge_beat { d with layoutPrev := d.layout }
  obtain ⟨l', edged⟩ := Device.layoutEdge_beat ({ d with layoutPrev := d.layout } : Device).movesEdge t
  refine ⟨l', ?_⟩
  unfold layoutOf
  extract_lets e f
  have marked : f.beat = e.beat := by simp [f, beat_ite]
  rw [Device.pinEdge_beat, marked]
  exact edged.trans (by rw [moved]; rfl)

theorem Device.netEdge_beat : d.netEdge.beat = d.beat := by
  simp [Device.netEdge, beat_forN, beat_ite, Device.setWit]

theorem Device.admitWork_beat (m : Memory) (t : Nat) (restart : List Nat) : (d.admitWork m t restart).beat = d.beat := by
  simp [Device.admitWork, Device.netEdge_beat]

theorem Device.infoEdge_beat (t : Nat) : (d.infoEdge t).beat = d.beat := by
  simp [Device.infoEdge]

theorem Device.enter_beat (p : Pwr) : (d.enter p).beat = d.beat.powered p := by
  unfold enter
  extract_lets old
  rw [Device.raise_beat, Device.record_beat, Device.pwrEnd_beat]
  rfl

/-- Ticks are counted on a new scale. -/
def Device.rescaled (d : Device) : Device := { d with tick := { d.tick with told := false, scale := d.tick.scale + 1 } }

theorem Device.rescaled_beat : d.rescaled.beat = d.beat := rfl

/-- Servos, triggers and what shows the time after a step of device time by `o`. -/
def Device.stepped (d : Device) (v : Nat) (o : Int) (fresh : Bool) : Device :=
  let d := (d.setServo 0 ((d.servo 0).shift o)).setServo 1 ((d.servo 1).shift o)
  let d := { d with time := { d.time with
      stepped := true, relock := none, due := none, relockDue := false, dueFresh := false
      pulse := d.time.pulse.map (fun t => ((t : Int) - o / 65536).toNat) } }
  let d := (d.put F.TIME_STATUS_STEP_COUNT 0 (d.get F.TIME_STATUS_STEP_COUNT + 1)).put F.TIME_STATUS_RELOCK_PENDING 0 0
  let d := if d.srvSt v = 0 then d else d.srvTo v 4
  let d := d.useServo v
  let d := ((if fresh then d.presetI v else d).trigStep (o / 65536)).rescaled
  let d := d.raise F.TIME_EVENTS_STEP v
  (d.record 0x60 10 v (d.get2 F.TICK_DISCONT_DELTA_LO_DELTA F.TICK_DISCONT_DELTA_HI_DELTA)).srcUpdate.utcUpdate

theorem Device.stepped_beat (v : Nat) (o : Int) (fresh : Bool) : (d.stepped v o fresh).beat = d.beat := by
  unfold stepped
  extract_lets e x f g h i j k
  have shifted : e.beat = d.beat := by simp only [e, Device.setServo_beat]
  have noted : f.beat = e.beat := rfl
  have counted : g.beat = f.beat := by simp only [g, Device.put_beat]
  have tracking : h.beat = g.beat := by
    refine (beat_ite ..).trans ?_
    split
    · rfl
    · exact g.srvTo_beat ..
  have used : i.beat = h.beat := h.useServo_beat v
  have armed : j.beat = i.beat := by
    refine (Device.rescaled_beat _).trans ((Device.trigStep_beat ..).trans ((beat_ite ..).trans ?_))
    split
    · exact i.presetI_beat v
    · rfl
  have told : k.beat = j.beat := j.raise_beat _ v
  rw [Device.utcUpdate_beat, Device.srcUpdate_beat, Device.record_beat, told, armed, used, tracking, counted, noted, shifted]

theorem Device.stepNow_beat (v : Nat) (fresh : Bool) : ∃ n, (d.stepNow v fresh).beat = d.beat.timed n := by
  have split : ∃ a b, d.stepNow v fresh = ({ d with devNs := a, devFrac := b } : Device).stepped v (d.offsetQ v) fresh := ⟨_, _, rfl⟩
  obtain ⟨a, b, runs⟩ := split
  refine ⟨a, ?_⟩
  rw [runs, Device.stepped_beat]
  rfl

theorem Device.stepLeft_beat : ∃ n, d.stepLeft.beat = d.beat.timed n := by
  unfold stepLeft
  split
  · exact d.stepNow_beat _ _
  · exact ⟨d.devNs, rfl⟩

/-- No tick runs, and the device is not to leave RUN. -/
def Beat.stilled (b : Beat) : Beat :=
  { b with flags := false :: b.flags.getD 1 false :: false :: false :: (b.flags.drop 4).take 4 ++ [false] }

/-- No tick runs any more. -/
def Device.readied (d : Device) : Device :=
  { d with
    staleLow := false, pair := { d.pair with cmd := none, handover := none, resync := false }
    tick := { d.tick with leave := false, running := false, gap := false, published := false, publishedOk := false, work := [],
                          scale := d.tick.scale + 1 } }

theorem Device.readied_beat : d.readied.beat = d.beat.stilled := rfl

theorem Device.leaveRun_beat : ∃ n, d.leaveRun.beat = (d.beat.stilled.timed n).powered .ready := by
  unfold leaveRun
  extract_lets e f g h i j k p m
  have synced : e.beat = d.beat := by
    refine beat_forN (fun n d => ?_) 256 d
    split
    · rfl
    · exact d.decSync_beat n
  have stopped : f.beat = e.beat := (Device.reinStop_beat _).trans e.encLeaveRun_beat
  have alone : g.beat = f.beat := by
    unfold g
    split <;> exact f.setRole_beat _
  have shown : h.beat = g.beat := by simp only [h, Device.put_beat]
  have freed : i.beat = h.beat := by
    unfold i
    split
    · exact h.put_beat _ _ _
    · rfl
  have ended : j.beat = i.beat := by
    unfold j
    split
    · exact (Device.put_beat ..).trans (i.put_beat _ _ _)
    · rfl
  have stilled : m.beat = j.beat.stilled := j.readied_beat
  obtain ⟨n, left⟩ := m.stepLeft_beat
  refine ⟨n, ?_⟩
  rw [Device.enter_beat, left, stilled, ended, freed, shown, alone, stopped, synced]

/-- The tick in progress is over. -/
def Beat.closed (b : Beat) : Beat := { b with flags := b.flags.getD 0 false :: false :: b.flags.drop 2 }

theorem Device.lastEdge_beat : ∃ n, d.lastEdge.beat = ((d.beat.stilled.timed n).powered .ready).closed := by
  unfold lastEdge
  extract_lets e f k
  have marked : e.beat = d.beat := by
    unfold e
    split
    · exact d.markDiscont_beat
    · rfl
  obtain ⟨n, left⟩ := ((e.setRein (fun (r : Rein) => { r with edge := e.now, period := e.periodNs })).clearOuts).leaveRun_beat
  refine ⟨n, ?_⟩
  rw [Device.clearOuts_beat, Device.setRein_beat, marked] at left
  rw [Device.flushEdge_beat]
  have closed (g : Device) : ({ g with tick := { g.tick with inTick := false } } : Device).beat = g.beat.closed := rfl
  exact (closed f).trans (congrArg Beat.closed left)

end Opening

/-! ### A tick edge -/

theorem Device.devNs_of_beat {d : Device} {b : Beat} (h : d.beat = b) : d.devNs = b.devNs := congrArg Beat.devNs h
theorem Device.pwr_of_beat {d : Device} {b : Beat} (h : d.beat = b) : d.pwr = b.pwr := congrArg Beat.pwr h
theorem Device.edges_of_beat {d : Device} {b : Beat} (h : d.beat = b) : d.edges = b.edges := congrArg Beat.edges h
theorem Device.rwt_of_beat {d : Device} {b : Beat} (h : d.beat = b) : d.rwt = b.rwt := congrArg Beat.rwt h
theorem Device.num_of_beat {d : Device} {b : Beat} (h : d.beat = b) : d.tick.num = b.num := congrArg Beat.num h
theorem Device.layout_of_beat {d : Device} {b : Beat} (h : d.beat = b) : d.layout = b.layout := congrArg Beat.layout h
theorem Device.deferred_of_beat {d : Device} {b : Beat} (h : d.beat = b) : d.deferred = b.deferred := congrArg Beat.deferred h
theorem Device.late_of_beat {d : Device} {b : Beat} (h : d.beat = b) : d.host.late = b.late := congrArg Beat.late h

theorem Device.flags_of_beat {d : Device} {b : Beat} (h : d.beat = b) : [d.tick.running, d.tick.inTick, d.tick.gap, d.tick.published, d.tick.sealRan,
    d.tick.judged, d.tick.cert, d.tick.prevCert, d.tick.leave] = b.flags := congrArg Beat.flags h

theorem Device.leave_of_beat {d : Device} {b : Beat} (h : d.beat = b) : d.tick.leave = b.flags.getD 8 false :=
  congrArg (fun l : List Bool => l.getD 8 false) (Device.flags_of_beat h)

section Edge

variable (c : Chip)

theorem Chip.burstEdge_alone (u : Nat) (alone : c.dev.follows = false) : c.burstEdge u =
    c.mapDev (fun (d : Device) => d.setPair (fun (p : PairX) => { p with burst := [], ready := none, got := [], inStep := false })) := by
  unfold burstEdge
  extract_lets p e d miss hit items
  exact if_pos (by rw [show d.follows = c.dev.follows from rfl, alone]; rfl)

theorem Chip.swapEdge_none (t : Nat) (saved : Bool) (no : c.dev.upd.swap = none) : c.swapEdge t saved = c := by
  unfold swapEdge
  rw [no]

/-- The writes kept for the edge and the messages kept for later are none. -/
theorem Chip.edge_settles (hd : c.dev.deferred = []) (hl : c.dev.host.late = []) : c.deferredEdge.fuhelLate = c := by
  have kept : c.deferredEdge = c := by
    have same : c.mapDev (fun (d : Device) => { d with deferred := [] }) = c :=
      congrArg (fun l => (⟨c.mem, { c.dev with deferred := l }⟩ : Chip)) hd.symm
    unfold deferredEdge
    extract_lets l
    rw [show l = [] from hd]
    exact same
  rw [kept]
  unfold fuhelLate
  split
  · have same : c.mapDev (fun (d : Device) => { d with host := { d.host with late := [] } }) = c :=
      congrArg (fun l => (⟨c.mem, { c.dev with host := { c.dev.host with late := l } }⟩ : Chip)) hl.symm
    rw [hl]
    exact same
  · rfl

/-- The device at the edge of tick `t`, before its work. -/
def Device.edgeOpened (d : Device) (t err : Nat) : Device :=
  let e := ((d.waitUntil (d.edgeNs t)).markTails d.tick.leave).edgeStart t err
  if !d.tick.everEdge then forN 32 (fun (o : Nat) (d : Device) => d.letFrameGo o) e else e

/-- The work of the edge of tick `t`, after `u`. -/
def Device.edgeWorked (m : Memory) (t u : Nat) (first : Bool) (d : Device) : Device :=
  let restart := d.detectNew
  let d := (d.rwtEdge.decEdgeCmd.encEdgeCmd.perfEdge.servoEdge).infoEdge t
  if d.tick.leave then d.lastEdge
  else
    let d := (d.pairEdge t u).layoutOf t
    let d := (d.livePins first).admitWork m t restart
    { d with ceAt := d.ceAt.filter (fun p => decide (d.edges ≤ p.1 + 600)) }

variable {c} {err : Nat} {saved : Bool}

theorem Chip.tickEdge_stays (h : c.dev.inRun = false) : c.tickEdge err saved = c := if_pos (by simp [h])

/-- The tick whose work an edge ends. -/
def Device.edgeAfter (d : Device) : Nat := if !d.tick.everEdge then d.nextTick - 1 else d.tick.num

theorem Chip.tickEdge_begins (hrun : c.dev.inRun = true) (hw : c.dev.stepWaits = false) : c.tickEdge err saved =
    let t := c.dev.nextTick
    let b := ((Chip.mk c.mem (c.dev.edgeOpened t err)).burstEdge c.dev.edgeAfter).swapEdge t saved
    (b.mapDev (Device.edgeWorked b.mem t c.dev.edgeAfter (!c.dev.tick.everEdge))).deferredEdge.fuhelLate :=
  if_neg (by simp [hrun, hw])

end Edge

section Opened

variable (d : Device)

theorem Device.edgeOpened_opens (t err : Nat) : d.Opens (d.edgeOpened t err) := by
  unfold edgeOpened
  extract_lets e
  have started : d.Opens e := ((d.waitUntil_opens _).trans (Device.markTails_opens _ _)).trans (Device.edgeStart_opens _ t err)
  exact .ite (started.trans (.forN (fun o d => d.letFrameGo_opens o) e)) started

theorem Device.edgeOpened_beat (t err : Nat) : ∃ n, (d.edgeOpened t err).beat = (d.beat.timed n).begun t ∧
    (d.pd1On = true → 0 < 1000000000 + d.ppb → d.edgeNs t ≤ n) := by
  obtain ⟨n, hn, waited, reached⟩ := d.waitUntil_beat (d.edgeNs t)
  unfold edgeOpened
  generalize d.waitUntil (d.edgeNs t) = w at waited
  obtain ⟨k, hk, started⟩ := (w.markTails d.tick.leave).edgeStart_beat t err
  rw [Device.markTails_beat, waited] at started
  have later : n ≤ k := by
    have kept : (w.markTails d.tick.leave).devNs = n := Device.devNs_of_beat ((w.markTails_beat d.tick.leave).trans waited)
    omega
  generalize (w.markTails d.tick.leave).edgeStart t err = e at started
  refine ⟨k, ?_, fun on fast => (reached on fast).trans later⟩
  refine (beat_ite ..).trans ?_
  rw [beat_forN (fun o e => e.letFrameGo_beat o)]
  split <;> exact started

theorem Device.edgeWorked_beat (m : Memory) (t u : Nat) (first : Bool) :
    (d.tick.leave = false → ∃ l, (d.edgeWorked m t u first).beat = d.beat.forced.laidOut l) ∧
    (d.tick.leave = true → ∃ n, (d.edgeWorked m t u first).beat = ((d.beat.forced.stilled.timed n).powered .ready).closed) := by
  unfold edgeWorked
  extract_lets restart e f g
  have worked : e.beat = d.beat.forced := by
    rw [Device.infoEdge_beat, Device.servoEdge_beat, Device.perfEdge_beat, Device.encEdgeCmd_beat, Device.decEdgeCmd_beat, Device.rwtEdge_beat]
  have leave : e.tick.leave = d.tick.leave := Device.leave_of_beat worked
  refine ⟨fun stays => ?_, fun leaves => ?_⟩
  · rw [if_neg (by simp [leave, stays])]
    obtain ⟨l, laid⟩ := (e.pairEdge t u).layoutOf_beat t
    have admitted : g.beat = f.beat := (Device.admitWork_beat ..).trans (f.livePins_beat first)
    refine ⟨l, ?_⟩
    have kept (x : Device) (q : List (Nat × Nat)) : ({ x with ceAt := q } : Device).beat = x.beat := rfl
    rw [kept, admitted, show f.beat = _ from laid, Device.pairEdge_beat, worked]
  · rw [if_pos (by simp [leave, leaves])]
    obtain ⟨n, last⟩ := e.lastEdge_beat
    exact ⟨n, by rw [last, worked]⟩

theorem Device.edgeWorked_waits (m : Memory) (t u : Nat) (first : Bool) :
    (d.edgeWorked m t u first).deferred = d.deferred ∧ (d.edgeWorked m t u first).host.late = d.host.late := by
  obtain ⟨stays, leaves⟩ := d.edgeWorked_beat m t u first
  generalize d.edgeWorked m t u first = w at stays leaves ⊢
  cases h : d.tick.leave with
  | false =>
    obtain ⟨l, beat⟩ := stays h
    exact ⟨Device.deferred_of_beat beat, Device.late_of_beat beat⟩
  | true =>
    obtain ⟨n, beat⟩ := leaves h
    exact ⟨Device.deferred_of_beat beat, Device.late_of_beat beat⟩

end Opened

section TickEdge

variable {s : State} {err : Nat} {saved : Bool}

theorem tickEdge_stays (h : s.chip.dev.pwr ≠ .run) :
    ∃ t, exec (.tickEdge err saved) s = .next t ∧ t.chip.mem = s.chip.mem ∧ t.chip.dev = { s.chip.dev with out := [] } := by
  have run : s.chip.quiet.tickEdge err saved = s.chip.quiet := Chip.tickEdge_stays (decide_eq_false h)
  obtain ⟨t, ht, hm, hd⟩ := onChip_next (s := s) (c := .tickEdge err saved) (f := Chip.tickEdge err saved) rfl run
  exact ⟨t, ht, hm, hd⟩

/-- An edge in RUN opens tick `nextTick` and does its work. -/
theorem tickEdge_runs (hrun : s.chip.dev.pwr = .run) (hw : s.chip.dev.stepWaits = false) (hf : s.chip.dev.follows = false)
    (hd : s.chip.dev.deferred = []) (hl : s.chip.dev.host.late = []) (hs : s.chip.dev.upd.swap = none) :
    ∃ (t : State) (e : Device) (u : Nat) (first : Bool), exec (.tickEdge err saved) s = .next t ∧ t.chip.mem = s.chip.mem ∧
      e.beat = (s.chip.dev.quiet.edgeOpened s.chip.dev.nextTick err).beat ∧
      t.chip.dev = e.edgeWorked s.chip.mem s.chip.dev.nextTick u first := by
  obtain ⟨d, hdev⟩ : ∃ d, d = s.chip.dev.quiet := ⟨_, rfl⟩
  obtain ⟨k, hk⟩ : ∃ k, k = d.nextTick := ⟨_, rfl⟩
  obtain ⟨o, ho⟩ : ∃ o, o = d.edgeOpened k err := ⟨_, rfl⟩
  have opens : d.Opens o := ho ▸ d.edgeOpened_opens k err
  obtain ⟨n, opened, -⟩ := d.edgeOpened_beat k err
  rw [← ho] at opened
  obtain ⟨e, he⟩ : ∃ e, e = o.setPair (fun (p : PairX) => { p with burst := [], ready := none, got := [], inStep := false }) := ⟨_, rfl⟩
  have paired : e.beat = o.beat := he ▸ o.setPair_beat _
  have burst : (Chip.mk s.chip.mem o).burstEdge d.edgeAfter = ⟨s.chip.mem, e⟩ :=
    (Chip.burstEdge_alone ⟨s.chip.mem, o⟩ _ (by rw [opens.follows, hdev]; exact hf)).trans (by rw [he]; rfl)
  have swap : (Chip.mk s.chip.mem e).swapEdge k saved = ⟨s.chip.mem, e⟩ :=
    Chip.swapEdge_none _ _ _ (show e.upd.swap = none by rw [show e.upd = o.upd by rw [he]; rfl, opens.2, hdev]; exact hs)
  obtain ⟨w, hw'⟩ : ∃ w, w = e.edgeWorked s.chip.mem k d.edgeAfter (!d.tick.everEdge) := ⟨_, rfl⟩
  have settled : w.deferred = [] ∧ w.host.late = [] := by
    obtain ⟨hdef, hlate⟩ := e.edgeWorked_waits s.chip.mem k d.edgeAfter (!d.tick.everEdge)
    rw [← hw', Device.deferred_of_beat (paired.trans opened)] at hdef
    rw [← hw', Device.late_of_beat (paired.trans opened)] at hlate
    exact ⟨hdef.trans (show d.deferred = [] by rw [hdev]; exact hd), hlate.trans (show d.host.late = [] by rw [hdev]; exact hl)⟩
  have run : s.chip.quiet.tickEdge err saved = ⟨s.chip.mem, w⟩ := by
    have begins := Chip.tickEdge_begins (c := s.chip.quiet) (err := err) (saved := saved) (decide_eq_true hrun) hw
    rw [show s.chip.quiet.dev = d from hdev.symm] at begins
    dsimp only at begins
    rw [← hk, ← ho, show s.chip.quiet.mem = s.chip.mem from rfl, burst, swap] at begins
    rw [begins]
    exact (congrArg (fun v : Device => (Chip.mk s.chip.mem v).deferredEdge.fuhelLate) hw'.symm).trans
      (Chip.edge_settles ⟨s.chip.mem, w⟩ settled.1 settled.2)
  obtain ⟨t, ht, hm, hd'⟩ := onChip_next (s := s) (c := .tickEdge err saved) (f := Chip.tickEdge err saved) rfl run
  have next : s.chip.dev.nextTick = k := by rw [hk, hdev]; rfl
  refine ⟨t, e, d.edgeAfter, !d.tick.everEdge, ht, hm, ?_, ?_⟩
  · rw [paired, ho, hdev, next]
  · rw [hd', hw', next]

theorem tickEdge_begins (hrun : s.chip.dev.pwr = .run) (hw : s.chip.dev.stepWaits = false) (hf : s.chip.dev.follows = false)
    (hd : s.chip.dev.deferred = []) (hl : s.chip.dev.host.late = []) (hv : s.chip.dev.tick.leave = false) (hs : s.chip.dev.upd.swap = none) :
    let d := s.chip.dev
    ∃ t, exec (.tickEdge err saved) s = .next t ∧ t.chip.mem = s.chip.mem ∧ t.chip.dev.pwr = .run ∧
      t.chip.dev.tick.num = d.nextTick ∧ t.chip.dev.tick.running = true ∧ t.chip.dev.tick.inTick = true ∧
      t.chip.dev.tick.gap = false ∧ t.chip.dev.tick.published = false ∧ t.chip.dev.tick.sealRan = false ∧
      t.chip.dev.tick.judged = false ∧ t.chip.dev.tick.cert = false ∧ t.chip.dev.tick.prevCert = d.tick.cert ∧
      t.chip.dev.edges = d.edges + 1 ∧ t.chip.dev.rwt = [] ∧
      (d.pd1On = true → 0 < 1000000000 + d.ppb → d.edgeNs d.nextTick ≤ t.chip.dev.devNs) := by
  intro d
  obtain ⟨t, e, u, first, ht, hm, opened, worked⟩ := tickEdge_runs (err := err) (saved := saved) hrun hw hf hd hl hs
  obtain ⟨n, begun, reached⟩ := s.chip.dev.quiet.edgeOpened_beat d.nextTick err
  have start : e.beat = (d.beat.timed n).begun d.nextTick := opened.trans begun
  obtain ⟨l, beat⟩ := (e.edgeWorked_beat s.chip.mem d.nextTick u first).1 ((Device.leave_of_beat start).trans hv)
  rw [← worked, start] at beat
  have flags : _ = [true, true, false, false, false, false, false, d.tick.cert, d.tick.leave] := Device.flags_of_beat beat
  simp only [List.cons.injEq] at flags
  obtain ⟨running, inTick, gap, published, sealed, judged, cert, prev, -⟩ := flags
  exact ⟨t, ht, hm, (Device.pwr_of_beat beat).trans hrun, Device.num_of_beat beat, running, inTick, gap, published, sealed, judged, cert, prev,
    Device.edges_of_beat beat, Device.rwt_of_beat beat, fun on fast => (reached on fast).trans_eq (Device.devNs_of_beat beat).symm⟩

theorem tickEdge_leaves (hrun : s.chip.dev.pwr = .run) (hw : s.chip.dev.stepWaits = false) (hf : s.chip.dev.follows = false)
    (hd : s.chip.dev.deferred = []) (hl : s.chip.dev.host.late = []) (hv : s.chip.dev.tick.leave = true) (hs : s.chip.dev.upd.swap = none) :
    let d := s.chip.dev
    ∃ t, exec (.tickEdge err saved) s = .next t ∧ t.chip.mem = s.chip.mem ∧ t.chip.dev.pwr = .ready ∧
      t.chip.dev.tick.num = d.nextTick ∧ t.chip.dev.tick.running = false ∧ t.chip.dev.tick.inTick = false ∧
      t.chip.dev.tick.leave = false ∧ t.chip.dev.rwt = [] ∧ t.chip.dev.layout = d.layout := by
  intro d
  obtain ⟨t, e, u, first, ht, hm, opened, worked⟩ := tickEdge_runs (err := err) (saved := saved) hrun hw hf hd hl hs
  obtain ⟨n, begun, -⟩ := s.chip.dev.quiet.edgeOpened_beat d.nextTick err
  have start : e.beat = (d.beat.timed n).begun d.nextTick := opened.trans begun
  obtain ⟨l, beat⟩ := (e.edgeWorked_beat s.chip.mem d.nextTick u first).2 ((Device.leave_of_beat start).trans hv)
  rw [← worked, start] at beat
  have flags : _ = [false, false, false, false, false, false, false, d.tick.cert, false] := Device.flags_of_beat beat
  simp only [List.cons.injEq] at flags
  obtain ⟨running, inTick, -, -, -, -, -, -, leave, -⟩ := flags
  exact ⟨t, ht, hm, Device.pwr_of_beat beat, Device.num_of_beat beat, running, inTick, leave, Device.rwt_of_beat beat, Device.layout_of_beat beat⟩

end TickEdge

/-- Settles O19: an edge begins the next tick, or ends RUN; outside RUN there is none. -/
theorem tickEdgesBeginTicks : Obligations.TickEdgesBeginTicks :=
  fun _ _ _ => ⟨tickEdge_stays, fun hrun hw hf hd hl => ⟨fun hv hs => tickEdge_begins hrun hw hf hd hl hv hs,
    fun hv hs => tickEdge_leaves hrun hw hf hd hl hv hs⟩⟩

end Sys2Proof.Machine
end

section
/-!
SUPPORT. Messages of PTP: O40.
-/

namespace Sys2Proof.Machine

/-! ### What a servo keeps while time is steered -/

/-- What of a servo only messages change: its masters and its path delays. -/
def Servo.heard (x : Servo) : List Foreign × Option PtpAnnounce × List Int := (x.foreign, x.master, x.delays)

/-- Only fields of the list change, no berth, and of the servos nothing that messages told them. -/
structure Device.Steers (l : List Fld) (d e : Device) : Prop where
  fields : d.keeps e (but l)
  berths : e.berths = d.berths
  heard : ∀ v, (e.servo v).heard = (d.servo v).heard

theorem Device.servo_setServo (d : Device) (v u : Nat) (x : Servo) : (d.setServo v x).servo u = if v = u then x else d.servo u := by
  unfold servo setServo
  by_cases h : v = u
  · rw [if_pos h, ← h]
    exact Tab.get_set_same ..
  · rw [if_neg h]
    exact Tab.get_set_other _ _ _ h

theorem Device.servo_setServo_same (d : Device) (v : Nat) (x : Servo) : (d.setServo v x).servo v = x := by
  rw [Device.servo_setServo, if_pos rfl]

namespace Device.Steers

variable {l m : List Fld} {d e f : Device}

theorem refl (d : Device) : Steers l d d := ⟨d.keeps_refl _, rfl, fun _ => rfl⟩
theorem trans (h : Steers l d e) (h' : Steers l e f) : Steers l d f :=
  ⟨Device.keeps_trans h.fields h'.fields, h'.berths.trans h.berths, fun v => (h'.heard v).trans (h.heard v)⟩
theorem mono (h : Steers l d e) (hl : ∀ f ∈ l, f ∈ m) : Steers m d e := ⟨Device.keeps_mono h.fields (but_mono hl), h.berths, h.heard⟩
theorem of_servos (hr : e.regs = d.regs) (hb : e.berths = d.berths) (hs : e.time.servos = d.time.servos) : Steers l d e :=
  ⟨Device.keeps_of_regs hr _, hb, fun v => by rw [Device.servo, hs, Device.servo]⟩
theorem same (h : Steers l d e) (hr : f.regs = e.regs) (hb : f.berths = e.berths) (hs : f.time.servos = e.time.servos) : Steers l d f :=
  h.trans (of_servos hr hb hs)
theorem put (h : Steers l d e) {f : Fld} (i v : Nat) (hf : f ∈ l) : Steers l d (e.put f i v) :=
  h.trans ⟨e.keeps_put f i v (but_apart (List.mem_append_left _ hf)), rfl, fun _ => rfl⟩
theorem flag (h : Steers l d e) {f : Fld} (i : Nat) (b : Bool) (hf : f ∈ l) : Steers l d (e.flag f i b) := h.put i _ hf
theorem bump (h : Steers l d e) {f : Fld} (i n : Nat) (hf : f ∈ l) : Steers l d (e.bump f i n) := h.put i _ hf
theorem raise (h : Steers l d e) {f : Fld} (a : Nat) (hf : f ∈ l) : Steers l d (e.raise f a) := by
  obtain ⟨g, q, only⟩ := e.raise_only f a
  exact h.trans ⟨e.keeps_raise f a hf, by rw [only], fun v => by rw [only]; rfl⟩
theorem setServo (h : Steers l d e) (v : Nat) {x : Servo} (hx : x.heard = (e.servo v).heard) : Steers l d (e.setServo v x) :=
  h.trans ⟨Device.keeps_of_regs rfl _, rfl, fun u => by
    rw [Device.servo_setServo]
    split
    · rename_i same
      rw [hx, same]
    · rfl⟩
theorem ite {c : Prop} [Decidable c] (h : c → Steers l d e) (h' : ¬c → Steers l d f) : Steers l d (if c then e else f) := by
  split
  · exact h ‹_›
  · exact h' ‹_›
theorem forN {n : Nat} {g : Nat → Device → Device} (hg : ∀ k (d : Device), Steers l d (g k d)) (d : Device) : Steers l d (Machine.forN n g d) := by
  unfold Machine.forN
  induction List.range n generalizing d with
  | nil => exact refl d
  | cons k r ih => exact (hg k d).trans (ih _)
theorem get (h : Steers l d e) {f : Fld} (hf : but l f = true) (i : Nat) : e.get f i = d.get f i := h.fields.1 f i hf
theorem foreign (h : Steers l d e) (v : Nat) : (e.servo v).foreign = (d.servo v).foreign := congrArg Prod.fst (h.heard v)
theorem master (h : Steers l d e) (v : Nat) : (e.servo v).master = (d.servo v).master := congrArg (fun p => p.2.1) (h.heard v)
theorem delays (h : Steers l d e) (v : Nat) : (e.servo v).delays = (d.servo v).delays := congrArg (fun p => p.2.2) (h.heard v)

end Device.Steers

/-! ### The choice of the servo in use -/

/-- The fields that the choice of the servo in use shows itself in. -/
def chosenShown : List Fld := [F.TICK_STATUS_SRC, F.TIME_STATUS_SRC, F.TIME_STATUS_DIVERGED, F.TIME_STATUS_IN_USE, F.TIME_RATE_PPB, F.TIME_EVENTS_HOLDOVER,
  F.TIME_EVENTS_SWITCH, F.TIME_UTC_OFFSET, F.TIME_UTC_VALID, F.TIME_UTC_LEAP61, F.TIME_UTC_LEAP59]

section Choice

variable (d : Device)

theorem Device.rateSpan_steers {l : List Fld} : Steers l d d.rateSpan := by
  unfold rateSpan
  extract_lets n src e
  have spanned : Steers l d e := .of_servos rfl rfl rfl
  exact .ite (fun _ => spanned.same rfl rfl rfl) fun _ => spanned

theorem Device.setRate_steers (r : Int) : Steers chosenShown d (d.setRate r) := d.rateSpan_steers.put 0 _ (by simp [chosenShown])

theorem Device.presetI_steers {l : List Fld} (v : Nat) : Steers l d (d.presetI v) := (Steers.refl d).setServo v rfl

theorem Device.utcUpdate_steers : Steers chosenShown d d.utcUpdate := by
  unfold utcUpdate
  split
  · exact ((((Steers.refl d).put 0 _ (by simp [chosenShown])).flag 0 _ (by simp [chosenShown])).flag 0 _ (by simp [chosenShown])).flag 0 _
      (by simp [chosenShown])
  · exact .refl d

theorem Device.srcUpdate_steers : Steers chosenShown d d.srcUpdate := by
  unfold srcUpdate
  extract_lets lock x d1 was src d2
  have start : Steers chosenShown d d1 := .of_servos rfl rfl rfl
  have shown : Steers chosenShown d d2 := ((start.put 0 _ (by simp [chosenShown])).put 0 _ (by simp [chosenShown])).flag 0 _ (by simp [chosenShown])
  exact .ite (fun _ => (shown.trans (d2.setRate_steers _)).raise _ (by simp [chosenShown])) fun _ => shown

theorem Device.useServo_steers (v : Nat) : Steers chosenShown d (d.useServo v) :=
  .ite (fun _ => .refl d) fun _ => (((d.rateSpan_steers.put 0 v (by simp [chosenShown])).trans (presetI_steers _ v)).raise v
    (by simp [chosenShown])).trans (utcUpdate_steers _)

theorem Device.servoSwitch_steers : Steers chosenShown d d.servoSwitch := by
  unfold servoSwitch
  extract_lets cur oth sel x d1
  have start : Steers chosenShown d d1 := .of_servos rfl rfl rfl
  refine start.trans ?_
  split
  · exact d1.useServo_steers _
  · exact .ite (fun _ => d1.useServo_steers _) fun _ => .ite (fun _ => d1.useServo_steers _) fun _ => .refl _

theorem Device.clampRate_steers : Steers chosenShown d d.clampRate := .ite (fun _ => .refl d) fun _ => d.setRate_steers _

theorem Device.afterServo_steers : Steers chosenShown d d.afterServo := by
  have first : Steers chosenShown d (if d.ticking then d else d.servoSwitch.clampRate) :=
    .ite (fun _ => .refl d) fun _ => d.servoSwitch_steers.trans (clampRate_steers _)
  exact (first.trans (srcUpdate_steers _)).trans (utcUpdate_steers _)

end Choice

/-! ### States, steps and steering -/

/-- The fields that the work of a servo on its samples shows itself in. -/
def steerShown : List Fld := [F.TIME_SRV_STATE_STATE, F.TIME_EVENTS_SRV_LOCK, F.TIME_EVENTS_DIVERGED, F.TIME_STATUS_STEP_COUNT, F.TIME_STATUS_RELOCK_PENDING,
  F.TIME_EVENTS_STEP, F.TIME_TRIG_STATUS_MISSED, F.TIME_EVENTS_TRIG_MISSED, F.BBOX_LOST_COUNT] ++ chosenShown

/-- The fields that the state of a servo shows itself in. -/
def stateShown : List Fld := [F.TIME_SRV_STATE_STATE, F.TIME_EVENTS_SRV_LOCK, F.TIME_EVENTS_DIVERGED]

section Steering

variable (d : Device)

theorem Device.Steers.chosen {e : Device} (h : Steers chosenShown d e) : Steers steerShown d e := h.mono fun _ hf => List.mem_append_right _ hf

theorem Device.srvTo_steers (v st : Nat) : Steers stateShown d (d.srvTo v st) := by
  unfold srvTo
  extract_lets was diverges d1 d2
  have stated : Steers stateShown d d1 := d.rateSpan_steers.put v st (by simp [stateShown])
  have locked : Steers stateShown d d2 := .ite (fun _ => stated.raise v (by simp [stateShown])) fun _ => stated
  exact .ite (fun _ => locked.raise v (by simp [stateShown])) fun _ => locked

theorem Device.Steers.state {e : Device} (h : Steers stateShown d e) : Steers steerShown d e := h.mono (by simp +contextual [stateShown, steerShown])

theorem Device.rateNow_steers (v : Nat) : Steers chosenShown d (d.rateNow v) := d.setRate_steers _

theorem Device.steerBy_steers (v dt : Nat) : Steers chosenShown d (d.steerBy v dt) := by
  unfold steerBy
  extract_lets x o bw i r
  have kept : Steers chosenShown d (d.setServo v { x with integ := i }) := (Steers.refl d).setServo v rfl
  exact .ite (fun _ => kept.trans (setRate_steers _ _)) fun _ => d.rateNow_steers v

theorem Device.trigStep_steers (ns : Int) : Steers steerShown d (d.trigStep ns) := by
  refine .forN (fun k e => ?_) d
  extract_lets x y
  have set (e : Device) (t : Trig) : Steers steerShown e (e.setTrig k t) := .of_servos rfl rfl rfl
  have missed (e : Device) : Steers steerShown e (e.trigMissed k) := ((Steers.refl e).put k 1 (by simp [steerShown])).raise k (by simp [steerShown])
  split
  · exact set e _
  · exact .ite (fun _ => set e _) fun _ => .ite (fun _ => (set e _).trans (missed _)) fun _ => set e _

theorem Device.rescaled_steers {l : List Fld} : Steers l d d.rescaled := .of_servos rfl rfl rfl

theorem Device.stepped_steers (v : Nat) (o : Int) (fresh : Bool) : Steers steerShown d (d.stepped v o fresh) := by
  unfold stepped
  extract_lets e x f g h i j k
  have first : Steers steerShown d (d.setServo 0 ((d.servo 0).shift o)) := (Steers.refl d).setServo 0 rfl
  have shifted : Steers steerShown d e := first.setServo 1 (first.heard 1).symm
  have noted : Steers steerShown d f := shifted.same rfl rfl rfl
  have counted : Steers steerShown d g := (noted.put 0 _ (by simp [steerShown])).put 0 _ (by simp [steerShown])
  have tracking : Steers steerShown d h := .ite (fun _ => counted) fun _ => counted.trans (g.srvTo_steers v 4).state
  have used : Steers steerShown d i := tracking.trans (h.useServo_steers v).chosen
  have preset : Steers steerShown d (if fresh then i.presetI v else i) := .ite (fun _ => used.trans (i.presetI_steers v)) fun _ => used
  have armed : Steers steerShown d j := (preset.trans (Device.trigStep_steers _ _)).trans (rescaled_steers _)
  have told : Steers steerShown d k := armed.raise v (by simp [steerShown])
  have recorded (a b c n : Nat) : Steers steerShown k (k.record a b c n) := by
    obtain ⟨r, q, only⟩ := k.record_only a b c n
    exact ⟨k.keeps_record _ _ _ _ (by simp [steerShown]), by rw [only], fun v => by rw [only]; rfl⟩
  exact ((told.trans (recorded ..)).trans (srcUpdate_steers _).chosen).trans (utcUpdate_steers _).chosen

theorem Device.stepNow_steers (v : Nat) (fresh : Bool) : Steers steerShown d (d.stepNow v fresh) := by
  have split : ∃ a b, d.stepNow v fresh = ({ d with devNs := a, devFrac := b } : Device).stepped v (d.offsetQ v) fresh := ⟨_, _, rfl⟩
  obtain ⟨a, b, runs⟩ := split
  have timed : Steers steerShown d { d with devNs := a, devFrac := b } := .of_servos rfl rfl rfl
  rw [runs]
  exact timed.trans (stepped_steers _ _ _ _)

theorem Device.stepDue_steers (v : Nat) (fresh : Bool) : Steers steerShown d (d.stepDue v fresh) := by
  unfold stepDue
  refine .ite (fun _ => d.stepNow_steers v fresh) fun _ => ?_
  extract_lets x e
  have noted : Steers steerShown d e := .of_servos rfl rfl rfl
  split
  · exact noted
  · exact noted.same rfl rfl rfl

theorem Device.acquired_steers (v : Nat) : Steers steerShown d (d.acquired v) := by
  unfold acquired
  extract_lets x o win step tracks e f
  have locked : Steers steerShown d e := (d.srvTo_steers v _).state.trans (presetI_steers _ v)
  have rated : Steers steerShown d f := .ite (fun _ => locked.trans (e.rateNow_steers v).chosen) fun _ => locked
  exact .ite (fun _ => (d.srvTo_steers v 5).state) fun _ => .ite (fun _ => rated.trans (f.stepDue_steers v true)) fun _ => rated

theorem Device.tracking_steers (v : Nat) : Steers steerShown d (d.tracking v) := by
  unfold tracking
  extract_lets x st
  have far : Steers steerShown d (d.setServo v { x with far := 0 }) := (Steers.refl d).setServo v rfl
  exact .ite (fun _ => far.trans (srvTo_steers _ v 5).state) fun _ => .ite (fun _ => (d.srvTo_steers v 4).state) fun _ =>
    .ite (fun _ => (d.srvTo_steers v 3).state) fun _ => .refl d

end Steering

/-! ### Messages of the master -/

/-- The time and memory that a message of a servo leaves alone. -/
def ptpSame (s t : State) : Prop :=
  t.chip.mem = s.chip.mem ∧ t.chip.dev.berths = s.chip.dev.berths ∧ s.chip.dev.keeps t.chip.dev (outside [2, 10, 17])

/-- The master of a servo is lost. -/
def ptpLost (s : State) (v : Nat) (t : State) : Prop := ptpSame s t ∧ t.chip.dev.srvSt v = 1 ∧ (t.chip.dev.servo v).master = none ∧
  t.chip.dev.get F.TIME_SRV_CNT_LOSS_COUNT v =
    min (s.chip.dev.get F.TIME_SRV_CNT_LOSS_COUNT v + 1) (2 ^ F.TIME_SRV_CNT_LOSS_COUNT.width - 1) ∧
  t.chip.dev.get F.TIME_EVENTS_SRV_LOSS = 1

/-- The selected master of a servo is the sender. -/
def Servo.follows (x : Servo) (p : PtpId) : Prop := x.master.map (fun (y : PtpAnnounce) => y.sender) = some p

section Loss

variable (d : Device) (v : Nat)

/-- The fields that the loss of a master shows itself in. -/
def lossShown : List Fld := [F.TIME_SRV_CNT_LOSS_COUNT, F.TIME_EVENTS_SRV_LOSS] ++ stateShown ++ chosenShown

theorem Device.srvTo_state (st : Nat) : (d.srvTo v st).srvSt v = st % 2 ^ F.TIME_SRV_STATE_STATE.width := by
  unfold srvTo
  extract_lets was diverges d1 d2
  have raised (e : Device) (f : Fld) (hf : f.id ≠ F.TIME_SRV_STATE_STATE.id) : (e.raise f v).srvSt v = e.srvSt v :=
    Device.get_raise _ _ _ _ _ (.inl hf) (.inl (by decide))
  have stated : d1.srvSt v = st % 2 ^ F.TIME_SRV_STATE_STATE.width := Device.get_put_same ..
  have locked : d2.srvSt v = d1.srvSt v := by
    unfold d2
    split
    · exact raised _ _ (by decide)
    · rfl
  split
  · rw [raised _ _ (by decide), locked, stated]
  · rw [locked, stated]

theorem Device.servoLoss_shows : (d.servoLoss v).srvSt v = 1 ∧ ((d.servoLoss v).servo v).master = none ∧
    (d.servoLoss v).get F.TIME_SRV_CNT_LOSS_COUNT v = min (d.get F.TIME_SRV_CNT_LOSS_COUNT v + 1) (2 ^ F.TIME_SRV_CNT_LOSS_COUNT.width - 1) ∧
    (d.servoLoss v).get F.TIME_EVENTS_SRV_LOSS = 1 ∧ d.keeps (d.servoLoss v) (but lossShown) ∧ (d.servoLoss v).berths = d.berths := by
  unfold servoLoss
  extract_lets x fresh y
  obtain ⟨e, he⟩ : ∃ e, e = (d.setServo v y).srvTo v 1 := ⟨_, rfl⟩
  obtain ⟨f, hf⟩ : ∃ f, f = (e.bump F.TIME_SRV_CNT_LOSS_COUNT v 1).raise F.TIME_EVENTS_SRV_LOSS v := ⟨_, rfl⟩
  have first : Steers stateShown (d.setServo v y) e := he ▸ (d.setServo v y).srvTo_steers v 1
  have set : d.keeps (d.setServo v y) (but lossShown) := Device.keeps_of_regs rfl _
  have counted : Steers lossShown e f := hf ▸ ((Steers.refl e).bump v 1 (by simp [lossShown])).raise v (by simp [lossShown])
  have after := f.afterServo_steers
  rw [← he, ← hf]
  have kept := Device.keeps_trans set (Device.keeps_trans (Device.keeps_mono first.fields (but_mono (by simp +contextual [lossShown])))
    (Device.keeps_trans counted.fields (Device.keeps_mono after.fields (but_mono (by simp +contextual [lossShown])))))
  refine ⟨?_, ?_, ?_, ?_, kept, (after.berths.trans counted.berths).trans first.berths⟩
  · rw [Device.srvSt, after.get (by decide), hf, Device.get_raise _ _ _ _ _ (.inl (by decide)) (.inl (by decide)), Device.bump,
      Device.get_put_ne _ _ _ _ _ _ (by decide), ← Device.srvSt, he, Device.srvTo_state]
    rfl
  · rw [after.master, counted.master, first.master, Device.servo_setServo_same]
  · rw [after.get (by decide), hf, Device.get_raise _ _ _ _ _ (.inl (by decide)) (.inl (by decide)), Device.get_bump, first.get (by decide)]
    rfl
  · rw [after.get (by decide), hf]
    exact Device.get_raise_same _ _ _ (by decide)

end Loss

/-! ### Messages that come -/

section Receive

variable {s : State} {h : RxHdr} {i : Instr} {domain : Nat} {g : Nat → Device → Device}

/-- A message of PTP reaches the servos that listen. -/
theorem ptp_reaches (hi : exec i s = onDev (fun d => d.ptp h domain g) s) (hc : s.chip.dev.classify h = .ptp) :
    ∃ e t, s.chip.dev.Heard e ∧ exec i s = .next t ∧ t.chip.mem = s.chip.mem ∧ t.chip.dev = forL (s.chip.dev.listeners h domain) g e := by
  obtain ⟨e, t, heard, ht, hm, hd⟩ := receive_handles hi hc rfl
  have same : e.listeners h domain = s.chip.dev.listeners h domain := by
    have get (f : Fld) (i : Nat) : e.get f i = s.chip.dev.get f i := heard.get f i
    exact List.filter_congr fun v _ => by rw [Device.srvSt, get, get, get, Device.srvSt]
  exact ⟨e, t, heard, ht, hm, by rw [hd, same]⟩

/-- A message that no servo listens to changes nothing of time. -/
theorem ptp_unheard (hi : exec i s = onDev (fun d => d.ptp h domain g) s) (hc : s.chip.dev.classify h = .ptp)
    (none : s.chip.dev.listeners h domain = []) :
    ∃ t, exec i s = .next t ∧ t.chip.mem = s.chip.mem ∧ t.chip.dev.regs = s.chip.dev.regs ∧ t.chip.dev.time = s.chip.dev.time ∧ t.chip.dev.out = [] := by
  obtain ⟨e, t, ⟨p, heard⟩, ht, hm, hd⟩ := ptp_reaches hi hc
  rw [none] at hd
  have dev : t.chip.dev = e := hd
  rw [heard] at dev
  exact ⟨t, ht, hm, by rw [dev]; rfl, by rw [dev]; rfl, by rw [dev]; rfl⟩

/-- The one servo that listens takes the message. -/
theorem ptp_heard {v : Nat} (hi : exec i s = onDev (fun d => d.ptp h domain g) s) (hc : s.chip.dev.classify h = .ptp)
    (one : s.chip.dev.listeners h domain = [v]) :
    ∃ e t, exec i s = .next t ∧ t.chip.mem = s.chip.mem ∧ t.chip.dev = g v e ∧ e.regs = s.chip.dev.regs ∧ e.berths = s.chip.dev.berths ∧
      e.time = s.chip.dev.time ∧ e.now = s.chip.dev.now := by
  obtain ⟨e, t, ⟨p, heard⟩, ht, hm, hd⟩ := ptp_reaches hi hc
  rw [one] at hd
  exact ⟨e, t, ht, hm, hd, by rw [heard]; rfl, by rw [heard]; rfl, by rw [heard]; rfl, by rw [heard]; rfl⟩

end Receive


/-! ### Announces -/

section Announce

variable (d : Device) (v : Nat) (g : Foreign)

/-- The fields that the selection of a master shows itself in. -/
def masterShown : List Fld := [F.TIME_SRV_GM_LO_ID, F.TIME_SRV_GM_HI_ID, F.TIME_SRV_MASTER_LO_ID, F.TIME_SRV_MASTER_HI_ID,
  F.TIME_SRV_STATE_MASTER_PORT, F.TIME_SRV_STATE_STEPS_REMOVED] ++ chosenShown

theorem Device.masterRegs_steers (m : PtpAnnounce) : Steers masterShown d (d.masterRegs v m) := by
  have puts := (((((Steers.refl (l := masterShown) d).put (f := F.TIME_SRV_GM_LO_ID) v m.gm (by simp [masterShown])).put (f := F.TIME_SRV_GM_HI_ID) v
    (m.gm / 2 ^ 32) (by simp [masterShown])).put (f := F.TIME_SRV_MASTER_LO_ID) v m.sender.clock (by simp [masterShown])).put
    (f := F.TIME_SRV_MASTER_HI_ID) v (m.sender.clock / 2 ^ 32) (by simp [masterShown])).put (f := F.TIME_SRV_STATE_MASTER_PORT) v m.sender.port
    (by simp [masterShown]) |>.put (f := F.TIME_SRV_STATE_STEPS_REMOVED) v (min m.steps 255) (by simp [masterShown])
  exact puts.trans ((Device.utcUpdate_steers _).mono fun _ hf => List.mem_append_right _ hf)

theorem Device.masterRegs_shows (m : PtpAnnounce) :
    (d.masterRegs v m).get F.TIME_SRV_STATE_STEPS_REMOVED v = min m.steps 255 ∧
    (m.gm < 2 ^ 64 → (d.masterRegs v m).get2 F.TIME_SRV_GM_LO_ID F.TIME_SRV_GM_HI_ID v = m.gm) := by
  unfold masterRegs
  obtain ⟨a, ha⟩ : ∃ a, a = (d.put2 F.TIME_SRV_GM_LO_ID F.TIME_SRV_GM_HI_ID v m.gm) := ⟨_, rfl⟩
  obtain ⟨b, hb⟩ : ∃ b, b = ((a.put2 F.TIME_SRV_MASTER_LO_ID F.TIME_SRV_MASTER_HI_ID v m.sender.clock).put F.TIME_SRV_STATE_MASTER_PORT v m.sender.port) := ⟨_, rfl⟩
  have after := (b.put F.TIME_SRV_STATE_STEPS_REMOVED v (min m.steps 255)).utcUpdate_steers
  rw [← ha, ← hb]
  refine ⟨?_, fun h => ?_⟩
  · rw [after.get (by decide), Device.get_put_same]
    exact Nat.mod_eq_of_lt (show min m.steps 255 < 256 by omega)
  · have later (f : Fld) (hf : f = F.TIME_SRV_GM_LO_ID ∨ f = F.TIME_SRV_GM_HI_ID) : b.get f v = a.get f v := by
      rw [hb, Device.put2]
      rcases hf with rfl | rfl <;>
        rw [Device.get_put_ne _ _ _ _ _ _ (by decide), Device.get_put_ne _ _ _ _ _ _ (by decide), Device.get_put_ne _ _ _ _ _ _ (by decide)]
    rw [Device.get2, after.get (by decide), after.get (by decide), Device.get_put_ne _ _ _ _ _ _ (by decide),
      Device.get_put_ne _ _ _ _ _ _ (by decide), later _ (.inl rfl), later _ (.inr rfl), ha, Device.put2,
      Device.get_put_ne _ _ _ _ _ _ (by decide), Device.get_put_same, Device.get_put_same]
    show m.gm % 2 ^ 32 + 2 ^ 32 * (m.gm / 2 ^ 32 % 2 ^ 32) = m.gm
    omega

/-- The servo after the selection of a master, the same or another. -/
def Servo.selected (x : Servo) (m : PtpAnnounce) (same : Bool) (now last : Nat) : Servo :=
  { (if same then x else { x.fresh with syncAt := now, annAt := last }) with master := some m }

/-- The device after a servo has selected its one master. -/
def Device.mastered (same : Bool) (last : Nat) : Device :=
  let e := d.setServo v ((d.servo v).selected g.msg same d.now last)
  ((if same then e else e.srvTo v 2).masterRegs v g.msg).afterServo

theorem Device.mastered_shows (same : Bool) (last : Nat) :
    let e := d.mastered v g same last
    d.keeps e (but (stateShown ++ masterShown)) ∧ e.berths = d.berths ∧ (e.servo v).master = some g.msg ∧ (e.servo v).foreign = (d.servo v).foreign ∧
      (same = true → e.srvSt v = d.srvSt v) ∧ (same = false → e.srvSt v = 2) ∧ e.get F.TIME_SRV_STATE_STEPS_REMOVED v = min g.msg.steps 255 ∧
      (g.msg.gm < 2 ^ 64 → e.get2 F.TIME_SRV_GM_LO_ID F.TIME_SRV_GM_HI_ID v = g.msg.gm) := by
  intro e
  obtain ⟨b, hb⟩ : ∃ b, b = d.setServo v ((d.servo v).selected g.msg same d.now last) := ⟨_, rfl⟩
  obtain ⟨c, hc⟩ : ∃ c, c = if same then b else b.srvTo v 2 := ⟨_, rfl⟩
  have he : e = (c.masterRegs v g.msg).afterServo := by rw [hc, hb]; rfl
  have stated : Steers stateShown b c := hc ▸ .ite (fun _ => .refl b) fun _ => b.srvTo_steers v 2
  have regs := c.masterRegs_steers v g.msg
  obtain ⟨steps, gm⟩ := c.masterRegs_shows v g.msg
  have after := (c.masterRegs v g.msg).afterServo_steers
  rw [← he] at after
  generalize c.masterRegs v g.msg = f at regs steps gm after
  have servo : b.servo v = (d.servo v).selected g.msg same d.now last := by rw [hb, Device.servo_setServo_same]
  have state : e.srvSt v = c.srvSt v := (after.get (by decide) v).trans (regs.get (by decide) v)
  have start : d.keeps b (but (stateShown ++ masterShown)) := by rw [hb]; exact Device.keeps_of_regs rfl _
  refine ⟨?_, ?_, ?_, ?_, fun h => ?_, fun h => ?_, (after.get (by decide) v).trans steps, fun h => ?_⟩
  · exact Device.keeps_trans start (Device.keeps_trans (Device.keeps_mono stated.fields (but_mono (by simp +contextual)))
      (Device.keeps_trans (Device.keeps_mono regs.fields (but_mono (by simp +contextual)))
        (Device.keeps_mono after.fields (but_mono (by simp +contextual [masterShown])))))
  · rw [after.berths, regs.berths, stated.berths, hb]
    rfl
  · rw [after.master, regs.master, stated.master, servo]
    rfl
  · rw [after.foreign, regs.foreign, stated.foreign, servo, Servo.selected]
    cases same <;> rfl
  · rw [state, hc, if_pos h, hb]
    rfl
  · rw [state, hc, if_neg (by simp [h]), Device.srvTo_state]
    rfl
  · rw [Device.get2, after.get (by decide), after.get (by decide)]
    exact gm h

/-- The servo may select a master: its announces qualify it, or the servo follows it and it is fit. -/
def Device.selectable : Bool :=
  d.qualified g || (g.fit && decide (some g.msg.sender = (d.servo v).master.map (fun m => m.sender)))

theorem Device.selectMaster_selects (one : (d.servo v).foreign = [g]) (good : d.selectable v g = true) : ∃ last,
    d.selectMaster v = d.mastered v g (decide (some g.msg.sender = (d.servo v).master.map (fun m => m.sender))) last := by
  unfold selectMaster
  extract_lets x cand
  have single : cand = [g.msg] := by
    show (List.filter (d.selectable v) (d.servo v).foreign).map _ = _
    rw [one, List.filter_cons_of_pos good]
    rfl
  rw [single]
  exact ⟨_, rfl⟩

theorem Device.selectMaster_else (one : (d.servo v).foreign = [g]) (bad : d.selectable v g = false) :
    d.selectMaster v = if (d.servo v).master.isSome then d.servoLoss v else d := by
  unfold selectMaster
  extract_lets x cand
  have empty : cand = [] := by
    show (List.filter (d.selectable v) (d.servo v).foreign).map _ = _
    rw [one, List.filter_cons_of_neg (by simp [bad])]
    rfl
  rw [empty]

end Announce

section Take

variable {s t : State} {d e : Device} {v : Nat}

/-- Fields of the lists that the servos show themselves in lie in LANE, TIME, TICK and their events. -/
theorem ptpSame_of {l : List Fld} (hm : t.chip.mem = s.chip.mem) (hr : e.regs = s.chip.dev.regs) (hb : e.berths = s.chip.dev.berths)
    (kept : e.keeps t.chip.dev (but l)) (berths : t.chip.dev.berths = e.berths)
    (hl : ∀ f, outside [2, 10, 17] f = true → but l f = true) : ptpSame s t :=
  ⟨hm, berths.trans hb, Device.keeps_trans (Device.keeps_of_regs hr _) (Device.keeps_mono kept hl)⟩

theorem Device.servo_congr (h : e.time = d.time) (v : Nat) : e.servo v = d.servo v := by
  rw [Device.servo, h, Device.servo]

theorem Device.qualified_congr (h : e.now = d.now) (g : Foreign) : e.qualified g = d.qualified g := by
  rw [Device.qualified, h, Device.qualified]

/-- The entry of the one foreign master that announces again. -/
def Foreign.again (f : Foreign) (m : PtpAnnounce) (ip now : Nat) : Foreign := ⟨m, ip, (f.times ++ [now]).drop (f.times.length + 1 - 8)⟩

/-- The servo that has heard its one foreign master again. -/
def Servo.announced (x : Servo) (g : Foreign) (now : Nat) : Servo :=
  { x with
    foreign := [g]
    annAt := if x.master.map (fun (y : PtpAnnounce) => y.sender) = some g.msg.sender then now else x.annAt }

theorem announce_body {f : Foreign} {m : PtpAnnounce} (ip : Nat) (one : (d.servo v).foreign = [f]) (same : f.msg.sender = m.sender) :
    (let x := d.servo v
     let old := x.foreign.find? (fun f => decide (f.msg.sender = m.sender))
     let times := match old with | some f => (f.times ++ [d.now]).drop (f.times.length + 1 - 8) | none => [d.now]
     let x := { x with
       foreign := x.foreign.filter (fun f => f.msg.sender ≠ m.sender) ++ [⟨m, ip, times⟩]
       annAt := if x.master.map (fun y => y.sender) = some m.sender then d.now else x.annAt }
     (d.setServo v x).selectMaster v) = (d.setServo v ((d.servo v).announced (f.again m ip d.now) d.now)).selectMaster v := by
  have found : [f].find? (fun f => decide (f.msg.sender = m.sender)) = some f := by simp [same]
  have rest : [f].filter (fun f => f.msg.sender ≠ m.sender) = [] := by simp [same]
  simp only [one, found, rest]
  rfl

end Take

section Announced

variable {s : State} {h : RxHdr} {m : PtpAnnounce} {v : Nat} {f : Foreign}

theorem announce_runs (hc : s.chip.dev.classify h = .ptp) (one : s.chip.dev.listeners h m.domain = [v])
    (known : (s.chip.dev.servo v).foreign = [f]) (sender : f.msg.sender = m.sender) :
    ∃ (e : Device) (t : State), exec (.ptpAnnounceReceive h m) s = .next t ∧ t.chip.mem = s.chip.mem ∧ t.chip.dev = e.selectMaster v ∧
      e.regs = s.chip.dev.regs ∧ e.berths = s.chip.dev.berths ∧ e.now = s.chip.dev.now ∧
      e.servo v = (s.chip.dev.servo v).announced (f.again m h.src s.chip.dev.now) s.chip.dev.now := by
  obtain ⟨e, t, ht, hm, hd, hr, hb, htime, hnow⟩ := ptp_heard (i := .ptpAnnounceReceive h m) rfl hc one
  dsimp only at hd
  have servo := Device.servo_congr htime v
  have hd := hd.trans (announce_body h.src (servo ▸ known) sender)
  refine ⟨_, t, ht, hm, hd, hr, hb, hnow, ?_⟩
  rw [Device.servo_setServo_same, servo, hnow]

/-- An Announce that qualifies the one foreign master selects it, and one that makes it unfit loses it. -/
theorem announce_taken (hc : s.chip.dev.classify h = .ptp) (one : s.chip.dev.listeners h m.domain = [v])
    (known : (s.chip.dev.servo v).foreign = [f]) (sender : f.msg.sender = m.sender) :
    let d := s.chip.dev
    let g : Foreign := f.again m h.src d.now
    let mine := (d.servo v).follows m.sender
    ∃ t, exec (.ptpAnnounceReceive h m) s = .next t ∧ ptpSame s t ∧
      (d.qualified g = true → (t.chip.dev.servo v).master = some m ∧ (t.chip.dev.servo v).foreign = [g] ∧
        (mine → t.chip.dev.srvSt v = d.srvSt v) ∧ (¬mine → t.chip.dev.srvSt v = 2) ∧
        t.chip.dev.get F.TIME_SRV_STATE_STEPS_REMOVED v = min m.steps 255 ∧
        (m.gm < 2 ^ 64 → t.chip.dev.get2 F.TIME_SRV_GM_LO_ID F.TIME_SRV_GM_HI_ID v = m.gm)) ∧
      ((d.servo v).master = none → d.qualified g = false → t.chip.dev.regs = d.regs ∧ (t.chip.dev.servo v).foreign = [g] ∧
        (t.chip.dev.servo v).master = none) ∧
      (mine → g.fit = false → ptpLost s v t) := by
  intro d g mine
  obtain ⟨e, t, ht, hm, hd, hr, hb, hnow, hs⟩ := announce_runs hc one known sender
  have only : (e.servo v).foreign = [g] := congrArg Servo.foreign hs
  have master : (e.servo v).master = (d.servo v).master := (congrArg Servo.master hs).trans rfl
  have qualified : e.qualified g = d.qualified g := Device.qualified_congr hnow g
  have same (he : e.keeps (e.selectMaster v) (outside [2, 10, 17]) ∧ (e.selectMaster v).berths = e.berths) : ptpSame s t :=
    ⟨hm, (congrArg Device.berths hd).trans (he.2.trans hb), hd ▸ Device.keeps_trans (Device.keeps_of_regs hr _) he.1⟩
  have get (f : Fld) : e.get f v = d.get f v := Device.get_congr hr f v
  have sender : (some m.sender = (e.servo v).master.map (fun m => m.sender)) ↔ mine := by
    rw [master]
    exact eq_comm
  by_cases hq : e.selectable v g = true
  · obtain ⟨last, selects⟩ := e.selectMaster_selects v g only hq
    obtain ⟨kept, berths, mastered, foreign, stays, acquires, steps, gm⟩ := e.mastered_shows v g
      (decide (some g.msg.sender = (e.servo v).master.map (fun m => m.sender))) last
    rw [← selects] at kept berths mastered foreign stays acquires steps gm
    rw [← hd] at mastered foreign stays acquires steps gm
    refine ⟨t, ht, same ⟨Device.keeps_mono kept (but_of_outside (by decide)), berths⟩, fun _ => ⟨mastered, foreign.trans only, fun hmine => ?_,
      fun hmine => ?_, steps, gm⟩, fun hnone h => ?_, fun _ h => ?_⟩
    · exact (stays (decide_eq_true (sender.mpr hmine))).trans (get _)
    · exact acquires (decide_eq_false fun same => hmine (sender.mp same))
    · simp [Device.selectable, qualified, h, master, hnone] at hq
    · simp [Device.selectable, Device.qualified, h] at hq
  · have unchosen : e.selectable v g = false := Bool.eq_false_iff.mpr hq
    have bad : ¬d.qualified g = true := fun h => hq (by simp [Device.selectable, qualified, h])
    have els := e.selectMaster_else v g only unchosen
    by_cases hmaster : (e.servo v).master.isSome = true
    · rw [if_pos hmaster] at els
      obtain ⟨state, lost, count, event, kept, berths⟩ := e.servoLoss_shows v
      rw [← els] at state lost count event kept berths
      have stays := same ⟨Device.keeps_mono kept (but_of_outside (by decide)), berths⟩
      rw [← hd] at state lost count event
      refine ⟨t, ht, stays, fun h => absurd h bad, fun h => ?_, fun _ _ => ⟨stays, state, lost, count.trans (by rw [get]), event⟩⟩
      simp [master, h] at hmaster
    · rw [if_neg hmaster] at els
      have none : (e.servo v).master = none := by simpa using hmaster
      refine ⟨t, ht, same ⟨by rw [els]; exact e.keeps_refl _, by rw [els]⟩, fun h => absurd h bad, fun _ _ => ?_, fun hmine _ => ?_⟩
      · rw [hd, els]
        exact ⟨hr, only, none⟩
      · exact absurd (sender.mpr hmine) (by simp [none])

end Announced

/-! ### Samples of offset and path delay -/

section Sample

variable (d : Device) (v : Nat)

/-- The fields that an offset sample shows itself in. -/
def offsetShown : List Fld := [F.TIME_SRV_OFFSET_NS, F.TIME_SRV_CNT_OUTLIER_COUNT] ++ steerShown

/-- The fields that a Sync shows itself in. -/
def syncShown : List Fld := F.TIME_SRV_DELAY_NS :: offsetShown

theorem Device.Steers.offset {d e : Device} (h : Steers steerShown d e) : Steers offsetShown d e := h.mono fun _ hf => List.mem_append_right _ hf

/-- What follows an offset sample that counts. -/
def Device.offsetUsed (t2 dt acqN acqAt acqD : Nat) : Device :=
  if d.srvSt v = 2 then
    (if acqN ≥ 16 ∧ t2 ≥ acqAt + 1000000000 ∧ acqD ≥ 4 then d.acquired v else d).afterServo
  else if d.srvLocked v then
    ((if d.inUse = v then d.steerBy v dt else d).tracking v).afterServo
  else d

theorem Device.offsetUsed_steers (t2 dt acqN acqAt acqD : Nat) : Steers steerShown d (d.offsetUsed v t2 dt acqN acqAt acqD) := by
  have acquires : Steers steerShown d (if acqN ≥ 16 ∧ t2 ≥ acqAt + 1000000000 ∧ acqD ≥ 4 then d.acquired v else d) :=
    .ite (fun _ => d.acquired_steers v) fun _ => .refl d
  have steers : Steers steerShown d (if d.inUse = v then d.steerBy v dt else d) := .ite (fun _ => (d.steerBy_steers v dt).chosen) fun _ => .refl d
  exact .ite (fun _ => acquires.trans (afterServo_steers _).chosen) fun _ =>
    .ite (fun _ => (steers.trans (tracking_steers _ v)).trans (afterServo_steers _).chosen) fun _ => .refl d

/-- The servo that took an offset sample into its window. -/
def Servo.offsetTaken (x : Servo) (again : Bool) (t2 : Nat) (o : Int) (win : Nat) : Servo :=
  let n := if again then 0 else x.acqN
  { x with
    offs := last16 (if again then [(t2, o)] else x.offs ++ [(t2, o)])
    lastO := o
    rejO := 0
    acqN := n + 1
    acqAt := if n = 0 then t2 else x.acqAt
    inWin := if o.natAbs ≤ win then x.inWin + 1 else 0
    outWin := if o.natAbs ≤ win then 0 else x.outWin + 1
    far := if o.natAbs > secQ.toNat then x.far + 1 else 0 }

/-- The offset sample with the servo `y` that took it into its window. -/
def Device.offsetTook (t2 dt : Nat) (o : Int) (y : Servo) : Device :=
  ((d.setServo v y).put F.TIME_SRV_OFFSET_NS v (offsetReg o)).offsetUsed v t2 dt y.acqN y.acqAt y.acqD

theorem Device.offsetTook_steers (t2 dt : Nat) (o : Int) {y : Servo} (hy : y.heard = (d.servo v).heard) : Steers offsetShown d (d.offsetTook v t2 dt o y) :=
  (((Steers.refl d).setServo v hy).put v _ (by simp [offsetShown])).trans (Device.offsetUsed_steers _ v t2 dt y.acqN y.acqAt y.acqD).offset

theorem Device.offsetTook_shows (t2 dt : Nat) (o : Int) (y : Servo) : (d.offsetTook v t2 dt o y).get F.TIME_SRV_OFFSET_NS v = offsetReg o := by
  rw [offsetTook, (Device.offsetUsed_steers _ v t2 dt y.acqN y.acqAt y.acqD).get (by decide) v, Device.get_put_same]
  exact Nat.mod_eq_of_lt (by unfold offsetReg; show _ < 2 ^ 32; omega)

/-- The offset sample after its judgement: `ok`, and `again` where the window starts again. -/
def Device.offsetJudged (t2 : Nat) (o : Int) (ok again : Bool) : Device :=
  let x := d.servo v
  if !ok then (d.setServo v { x with rejO := x.rejO + 1 }).bump F.TIME_SRV_CNT_OUTLIER_COUNT v 1
  else d.offsetTook v t2 (match x.offs.getLast? with | some p => t2 - p.1 | none => 0) o
    (x.offsetTaken again t2 o (d.get F.TIME_SRV_WINDOW_WINDOW_NS v * 65536))

/-- The judgement of an offset sample. -/
def Device.judgeOffset (o : Int) : Bool × Bool :=
  let x := d.servo v
  sampleOk (d.outlierQ v) x.rejO (Config.servoPrediction 1 x.offs) o x.offs.isEmpty

theorem Device.offsetSample_eq (t2 : Nat) (o : Int) :
    d.offsetSample v t2 o = d.offsetJudged v t2 o (d.judgeOffset v o).1 (d.judgeOffset v o).2 := rfl

theorem Device.offsetSample_steers (t2 : Nat) (o : Int) : Steers offsetShown d (d.offsetSample v t2 o) := by
  rw [offsetSample_eq]
  have rejected (x : Servo) (hx : x.heard = (d.servo v).heard) : Steers offsetShown d ((d.setServo v x).bump F.TIME_SRV_CNT_OUTLIER_COUNT v 1) :=
    ((Steers.refl d).setServo v hx).bump v 1 (by simp [offsetShown])
  exact .ite (fun _ => rejected _ rfl) fun _ => d.offsetTook_steers v t2 _ o rfl

theorem Device.offsetSample_shows (t2 : Nat) (o : Int) (first : (d.servo v).offs = []) :
    (d.offsetSample v t2 o).get F.TIME_SRV_OFFSET_NS v = offsetReg o := by
  have taken : (d.judgeOffset v o).1 = true := by
    simp [judgeOffset, sampleOk, first]
  rw [offsetSample_eq, offsetJudged, taken]
  exact d.offsetTook_shows v t2 _ o _

/-- The servo that took a path delay sample. -/
def Servo.delayed (x : Servo) (l : List Int) : Servo := { x with delays := l, rejD := 0, acqD := x.acqD + 1 }

/-- The path delay sample after its judgement. -/
def Device.delayJudged (s : Int) (ok again : Bool) : Device :=
  let x := d.servo v
  if ok then
    let y := x.delayed (last16 (if again then [s] else x.delays ++ [s]))
    (d.setServo v y).put F.TIME_SRV_DELAY_NS v ((y.meanDelay / 65536) % 2 ^ 32).toNat
  else (d.setServo v { x with rejD := x.rejD + 1 }).bump F.TIME_SRV_CNT_OUTLIER_COUNT v 1

/-- The judgement of a path delay sample. -/
def Device.judgeDelay (s : Int) : Bool × Bool :=
  let x := d.servo v
  sampleOk (d.outlierQ v) x.rejD (Config.servoPrediction 0 (x.delays.map (fun y => (0, y)))) s x.delays.isEmpty

theorem Device.delaySample_eq (s : Int) : d.delaySample v s = d.delayJudged v s (d.judgeDelay v s).1 (d.judgeDelay v s).2 := rfl

theorem Servo.meanDelay_one (x : Servo) (s : Int) : (x.delayed [s]).meanDelay = s := by
  show (s + 0) / 1 = s
  omega

theorem Device.delaySample_first (s : Int) (first : (d.servo v).delays = []) :
    d.delaySample v s = (d.setServo v ((d.servo v).delayed [s])).put F.TIME_SRV_DELAY_NS v ((s / 65536) % 2 ^ 32).toNat := by
  have taken : d.judgeDelay v s = (true, false) := by simp [judgeDelay, sampleOk, first]
  have window : last16 ((d.servo v).delays ++ [s]) = [s] := by
    rw [first]
    rfl
  rw [delaySample_eq, taken, delayJudged]
  simp only [if_true, Bool.false_eq_true, if_false, window, Servo.meanDelay_one]

theorem Device.delaySample_keeps (s : Int) : d.keeps (d.delaySample v s) (but syncShown) ∧ (d.delaySample v s).berths = d.berths := by
  have set (y : Servo) (f : Fld) (n : Nat) (hf : f ∈ syncShown) :
      d.keeps ((d.setServo v y).put f v n) (but syncShown) ∧ ((d.setServo v y).put f v n).berths = d.berths :=
    ⟨Device.keeps_trans (Device.keeps_of_regs rfl _) (Device.keeps_put _ _ _ _ (but_apart (List.mem_append_left _ hf))), rfl⟩
  rw [delaySample_eq, delayJudged]
  split
  · exact set _ _ _ (by simp [syncShown])
  · exact set _ _ _ (by simp [syncShown, offsetShown])

/-- The device whose servo notes the time of a complete Sync. -/
def Device.synced : Device := d.setServo v { d.servo v with syncAt := d.now, waitFollow := none }

/-- The device whose servo took the path delay sample that a complete Sync gives. -/
def Device.syncDelay (t1 t2 : Nat) (cs : Int) : Device :=
  match (d.servo v).pair with
  | some (t3, t4, cd) => d.delaySample v (pathDelay t1 t2 cs t3 t4 cd)
  | none => d

/-- The offset that a Sync shows with a mean path delay. -/
def Device.syncOffset (t1 t2 : Nat) (cs mean : Int) : Int :=
  ((t2 : Int) - t1) * 65536 - cs - (mean + signedOf 32 (d.get F.TIME_SRV_ASYM_ASYM v) * 65536)

/-- The device after the offset sample of a Sync, where a mean path delay is known. -/
def Device.syncMeasured (t1 t2 : Nat) (cs : Int) : Device :=
  if (d.servo v).delays.isEmpty then d else d.offsetSample v t2 (d.syncOffset v t1 t2 cs (d.servo v).meanDelay)

theorem Device.syncDone_eq (t1 t2 : Nat) (cs : Int) : d.syncDone v t1 t2 cs = ((d.synced v).syncDelay v t1 t2 cs).syncMeasured v t1 t2 cs := rfl

theorem Device.syncMeasured_steers (t1 t2 : Nat) (cs : Int) : Steers offsetShown d (d.syncMeasured v t1 t2 cs) :=
  .ite (fun _ => .refl d) fun _ => d.offsetSample_steers v t2 _

theorem Device.syncMeasured_shows (t1 t2 : Nat) (cs : Int) (known : (d.servo v).delays ≠ []) (first : (d.servo v).offs = []) :
    (d.syncMeasured v t1 t2 cs).get F.TIME_SRV_OFFSET_NS v = offsetReg (d.syncOffset v t1 t2 cs (d.servo v).meanDelay) := by
  rw [syncMeasured, if_neg (by simpa using known)]
  exact d.offsetSample_shows v t2 _ first

end Sample

/-- What a complete Sync makes of its servo. -/
def syncShows (d : Device) (v : Nat) (y : Servo) (t1 t2 : Nat) (cs : Int) (e : Device) : Prop :=
  let offset (mean : Int) : Int := d.syncOffset v t1 t2 cs mean
  (y.pair = none → y.delays = [] → e.regs = d.regs ∧ e.servo v = { y with syncAt := d.now, waitFollow := none }) ∧
  (y.pair = none → y.delays ≠ [] → y.offs = [] → e.get F.TIME_SRV_OFFSET_NS v = offsetReg (offset y.meanDelay)) ∧
  (∀ t3 t4 cd, y.pair = some (t3, t4, cd) → y.delays = [] →
    let sample := pathDelay t1 t2 cs t3 t4 cd
    (e.servo v).delays = [sample] ∧ e.get F.TIME_SRV_DELAY_NS v = ((sample / 65536) % 2 ^ 32).toNat ∧
    (y.offs = [] → e.get F.TIME_SRV_OFFSET_NS v = offsetReg (offset sample)))

section Done

variable (d : Device) (v t1 t2 : Nat) (cs : Int)

theorem Device.syncDelay_keeps : d.keeps (d.syncDelay v t1 t2 cs) (but syncShown) ∧ (d.syncDelay v t1 t2 cs).berths = d.berths := by
  unfold syncDelay
  split
  · exact d.delaySample_keeps v _
  · exact ⟨d.keeps_refl _, rfl⟩

theorem Device.syncDone_keeps : d.keeps (d.syncDone v t1 t2 cs) (but syncShown) ∧ (d.syncDone v t1 t2 cs).berths = d.berths := by
  rw [syncDone_eq]
  obtain ⟨kept, berths⟩ := (d.synced v).syncDelay_keeps v t1 t2 cs
  have measured := ((d.synced v).syncDelay v t1 t2 cs).syncMeasured_steers v t1 t2 cs
  exact ⟨Device.keeps_trans (Device.keeps_of_regs rfl _) (Device.keeps_trans kept (Device.keeps_mono measured.fields
    (but_mono fun _ hf => List.mem_cons_of_mem _ hf))), measured.berths.trans berths⟩

theorem Device.syncDone_shows : syncShows d v (d.servo v) t1 t2 cs (d.syncDone v t1 t2 cs) := by
  rw [syncDone_eq]
  obtain ⟨e, he⟩ : ∃ e, e = d.synced v := ⟨_, rfl⟩
  have servo : e.servo v = { d.servo v with syncAt := d.now, waitFollow := none } := by rw [he, synced, Device.servo_setServo_same]
  have regs : e.regs = d.regs := by rw [he]; rfl
  have offset (f : Device) (mean : Int) (hf : f.get F.TIME_SRV_ASYM_ASYM v = e.get F.TIME_SRV_ASYM_ASYM v) :
      f.syncOffset v t1 t2 cs mean = d.syncOffset v t1 t2 cs mean := by
    rw [syncOffset, hf, Device.get_congr regs, syncOffset]
  rw [← he]
  refine ⟨fun hp hd => ?_, fun hp hd ho => ?_, fun t3 t4 cd hp hd => ?_⟩
  · have none : e.syncDelay v t1 t2 cs = e := by rw [syncDelay, servo, hp]
    rw [none, syncMeasured, if_pos (by simp [servo, hd])]
    exact ⟨regs, servo⟩
  · have none : e.syncDelay v t1 t2 cs = e := by rw [syncDelay, servo, hp]
    rw [none, e.syncMeasured_shows v t1 t2 cs (by rw [servo]; exact hd) (by rw [servo]; exact ho), offset _ _ rfl, servo]
    rfl
  · intro sample
    have delayed : e.syncDelay v t1 t2 cs = (e.setServo v ((e.servo v).delayed [sample])).put F.TIME_SRV_DELAY_NS v
        ((sample / 65536) % 2 ^ 32).toNat := by
      rw [syncDelay, servo, hp]
      have first := e.delaySample_first v sample (by rw [servo]; exact hd)
      rw [servo] at first
      exact first
    obtain ⟨f, hf⟩ : ∃ f, f = e.syncDelay v t1 t2 cs := ⟨_, rfl⟩
    have taken : f.servo v = (e.servo v).delayed [sample] := by
      rw [hf, delayed]
      exact Device.servo_setServo_same ..
    have measured := f.syncMeasured_steers v t1 t2 cs
    rw [← hf]
    refine ⟨?_, ?_, fun ho => ?_⟩
    · rw [measured.delays, taken]
      rfl
    · rw [measured.get (by decide), hf, delayed, Device.get_put_same]
      exact Nat.mod_eq_of_lt (by show _ < 2 ^ 32; omega)
    · have asym : f.get F.TIME_SRV_ASYM_ASYM v = e.get F.TIME_SRV_ASYM_ASYM v := by
        rw [hf, delayed, Device.get_put_ne _ _ _ _ _ _ (by decide)]
        rfl
      rw [f.syncMeasured_shows v t1 t2 cs (by rw [taken]; exact List.cons_ne_nil _ _) (by rw [taken, servo]; exact ho), offset _ _ asym, taken]
      rw [Servo.meanDelay_one]

end Done

section Syncs

variable {s : State} {h : RxHdr} {m : PtpSync} {v : Nat}

/-- A Sync came less than 7.8 ms before `t2`. -/
def Servo.near (x : Servo) (t2 : Nat) : Prop := ∃ b, x.syncRx = some b ∧ t2 < b + 7800000

/-- The model's test for a Sync that comes too soon. -/
def Servo.soon (x : Servo) (t2 : Nat) : Bool := match x.syncRx with | some t => decide (t2 < t + 7800000) | none => false

theorem Servo.soon_iff (x : Servo) (t2 : Nat) : x.soon t2 = true ↔ x.near t2 := by
  unfold soon near
  cases x.syncRx <;> simp

/-- A Sync of timestamp `t2` at a servo that listens. -/
def Device.syncHeard (d : Device) (v t2 : Nat) (m : PtpSync) : Device :=
  if ((d.servo v).master.map (fun y => y.sender) ≠ some m.sender || (d.servo v).soon t2) = true then d
  else if m.twoStep then d.setServo v { d.servo v with syncRx := some t2, waitFollow := some (m.seq, t2, m.corr) }
  else (d.setServo v { d.servo v with syncRx := some t2 }).syncDone v m.origin t2 m.corr

theorem Device.sync_eq (d : Device) (h : RxHdr) (m : PtpSync) :
    d.sync h m = d.ptp h m.domain (fun v e => e.syncHeard v (d.rxTime h) m) := rfl

theorem Device.rxTime_quiet (d : Device) (h : RxHdr) : d.quiet.rxTime h = d.rxTime h := rfl

theorem sync_runs (s : State) (h : RxHdr) (m : PtpSync) :
    exec (.ptpSyncReceive h m) s = onDev (fun d => d.ptp h m.domain (fun v e => e.syncHeard v (s.chip.dev.rxTime h) m)) s := by
  have runs : exec (.ptpSyncReceive h m) s = onDev (fun d => d.sync h m) s := rfl
  rw [runs]
  simp only [onDev, Device.sync_eq, Device.rxTime_quiet]

/-- A message that its servo takes leaves memory and what is not of time alone, and the Sync is complete where it is. -/
theorem sync_completes {t : State} {e : Device} {y : Servo} {t1 t2 : Nat} {cs : Int} (hm : t.chip.mem = s.chip.mem) (hr : e.regs = s.chip.dev.regs)
    (hb : e.berths = s.chip.dev.berths) (hn : e.now = s.chip.dev.now) (hy : e.servo v = y) (hd : t.chip.dev = e.syncDone v t1 t2 cs) :
    ptpSame s t ∧ syncShows s.chip.dev v y t1 t2 cs t.chip.dev := by
  obtain ⟨kept, berths⟩ := e.syncDone_keeps v t1 t2 cs
  have shows := e.syncDone_shows v t1 t2 cs
  rw [← hd] at kept berths shows
  have offset (mean : Int) : e.syncOffset v t1 t2 cs mean = s.chip.dev.syncOffset v t1 t2 cs mean := by
    rw [Device.syncOffset, Device.get_congr hr, Device.syncOffset]
  rw [hy, syncShows, hr, hn] at shows
  simp only [offset] at shows
  exact ⟨ptpSame_of hm hr hb kept berths (but_of_outside (by decide)), shows⟩

theorem ptpSame_of_regs {t : State} (hm : t.chip.mem = s.chip.mem) (hr : t.chip.dev.regs = s.chip.dev.regs) (hb : t.chip.dev.berths = s.chip.dev.berths) : ptpSame s t :=
  ⟨hm, hb, Device.keeps_of_regs hr _⟩

/-- A Sync of the master is taken no earlier than 7.8 ms after the one before. -/
theorem sync_taken (hc : s.chip.dev.classify h = .ptp) (one : s.chip.dev.listeners h m.domain = [v]) :
    let d := s.chip.dev
    let x := d.servo v
    let t2 := d.rxTime h
    let mine := x.follows m.sender
    ∃ t, exec (.ptpSyncReceive h m) s = .next t ∧ ptpSame s t ∧
      (¬mine ∨ x.near t2 → (t.chip.mem = s.chip.mem ∧ t.chip.dev.regs = d.regs) ∧ t.chip.dev.servo v = x) ∧
      (mine → ¬x.near t2 → m.twoStep = true → (t.chip.mem = s.chip.mem ∧ t.chip.dev.regs = d.regs) ∧
        t.chip.dev.servo v = { x with syncRx := some t2, waitFollow := some (m.seq, t2, m.corr) }) ∧
      (mine → ¬x.near t2 → m.twoStep = false → syncShows d v { x with syncRx := some t2 } m.origin t2 m.corr t.chip.dev) := by
  intro d x t2 mine
  obtain ⟨e, t, ht, hm, hd, hr, hb, htime, hnow⟩ := ptp_heard (i := .ptpSyncReceive h m) (sync_runs s h m) hc one
  have servo : e.servo v = x := Device.servo_congr htime v
  rw [Device.syncHeard, servo] at hd
  by_cases taken : mine ∧ ¬x.near t2
  · obtain ⟨hmine, hfar⟩ := taken
    have cond : ¬(decide (x.master.map (fun y => y.sender) ≠ some m.sender) || x.soon t2) = true := by
      simp only [Bool.or_eq_true, decide_eq_true_eq, Servo.soon_iff]
      exact not_or.mpr ⟨not_not.mpr hmine, hfar⟩
    rw [if_neg cond] at hd
    have neither : ¬(¬mine ∨ x.near t2) := not_or.mpr ⟨not_not.mpr hmine, hfar⟩
    cases htwo : m.twoStep with
    | true =>
      rw [htwo, if_pos rfl] at hd
      have regs : t.chip.dev.regs = d.regs := by rw [hd]; exact hr
      refine ⟨t, ht, ptpSame_of_regs hm regs (by rw [hd]; exact hb), fun h => absurd h neither, fun _ _ _ => ⟨⟨hm, regs⟩, ?_⟩, by simp⟩
      rw [hd, Device.servo_setServo_same]
    | false =>
      rw [htwo, if_neg (by simp)] at hd
      obtain ⟨same, shows⟩ := sync_completes (y := { x with syncRx := some t2 }) hm (e := e.setServo v { x with syncRx := some t2 }) hr hb hnow
        (Device.servo_setServo_same ..) hd
      exact ⟨t, ht, same, fun h => absurd h neither, by simp, fun _ _ _ => shows⟩
  · have cond : (decide (x.master.map (fun y => y.sender) ≠ some m.sender) || x.soon t2) = true := by
      simp only [Bool.or_eq_true, decide_eq_true_eq, Servo.soon_iff]
      exact (not_and_or.mp taken).imp_right not_not.mp
    rw [if_pos cond] at hd
    have regs : t.chip.dev.regs = d.regs := by rw [hd]; exact hr
    exact ⟨t, ht, ptpSame_of_regs hm regs (by rw [hd]; exact hb), fun _ => ⟨⟨hm, regs⟩, by rw [hd, servo]⟩, fun h h' => absurd ⟨h, h'⟩ taken,
      fun h h' => absurd ⟨h, h'⟩ taken⟩

/-- A Follow_Up of the master completes the Sync that waits for it. -/
theorem followUp_taken (hc : s.chip.dev.classify h = .ptp) (one : s.chip.dev.listeners h m.domain = [v]) :
    let d := s.chip.dev
    let x := d.servo v
    let mine := x.follows m.sender
    ∃ t, exec (.ptpFollowUpReceive h m) s = .next t ∧ ptpSame s t ∧
      ((∀ b c, x.waitFollow ≠ some (m.seq, b, c)) ∨ ¬mine → (t.chip.mem = s.chip.mem ∧ t.chip.dev.regs = d.regs) ∧ t.chip.dev.servo v = x) ∧
      (∀ b c, mine → x.waitFollow = some (m.seq, b, c) → syncShows d v x m.origin b (c + m.corr) t.chip.dev) := by
  intro d x mine
  obtain ⟨e, t, ht, hm, hd, hr, hb, htime, hnow⟩ := ptp_heard (i := .ptpFollowUpReceive h m) rfl hc one
  have servo : e.servo v = x := Device.servo_congr htime v
  dsimp only at hd
  rw [servo] at hd
  by_cases taken : mine ∧ ∃ b c, x.waitFollow = some (m.seq, b, c)
  · obtain ⟨hmine, b, c, waits⟩ := taken
    rw [waits] at hd
    dsimp only at hd
    have hd := hd.trans (if_pos ⟨hmine, rfl⟩)
    obtain ⟨same, shows⟩ := sync_completes hm hr hb hnow servo hd
    refine ⟨t, ht, same, fun h => ?_, fun b' c' _ h => ?_⟩
    · rcases h with h | h
      · exact absurd waits (h b c)
      · exact absurd hmine h
    · obtain ⟨rfl, rfl⟩ : b = b' ∧ c = c' := by simpa [waits] using h
      exact shows
  · have stays : t.chip.dev = e := by
      rw [hd]
      cases hw : x.waitFollow with
      | none => rfl
      | some w =>
        obtain ⟨seq, b, c⟩ := w
        refine if_neg fun ⟨h, h'⟩ => taken ⟨h, b, c, ?_⟩
        rw [hw, h']
    have regs : t.chip.dev.regs = d.regs := by rw [stays]; exact hr
    exact ⟨t, ht, ptpSame_of_regs hm regs (by rw [stays]; exact hb), fun _ => ⟨⟨hm, regs⟩, by rw [stays, servo]⟩,
      fun b c h h' => absurd ⟨h, b, c, h'⟩ taken⟩

/-- A Delay_Resp of the master to the latest request completes its pair. -/
theorem delayResp_taken {m : PtpDelayResp} (hc : s.chip.dev.classify h = .ptp) (one : s.chip.dev.listeners h m.domain = [v]) :
    let d := s.chip.dev
    let x := d.servo v
    let mine := x.follows m.sender ∧ m.mine = true
    ∃ t, exec (.ptpDelayRespReceive h m) s = .next t ∧ t.chip.mem = s.chip.mem ∧ t.chip.dev.regs = d.regs ∧
      (¬mine ∨ (∀ t3, x.reqAt ≠ some (m.seq, t3)) → t.chip.dev.servo v = x) ∧
      (∀ t3, mine → x.reqAt = some (m.seq, t3) →
        t.chip.dev.servo v = { x with reqAt := none, reqLog := some m.logInterval, pair := some (t3, m.received, m.corr) }) := by
  intro d x mine
  obtain ⟨e, t, ht, hm, hd, hr, hb, htime, hnow⟩ := ptp_heard (i := .ptpDelayRespReceive h m) rfl hc one
  have servo : e.servo v = x := Device.servo_congr htime v
  dsimp only at hd
  rw [servo] at hd
  have cond : (decide (x.master.map (fun y => y.sender) ≠ some m.sender) || !m.mine) = true ↔ ¬mine := by
    simp only [Bool.or_eq_true, decide_eq_true_eq, Bool.not_eq_true', mine, Servo.follows, not_and_or, Bool.not_eq_true]
  by_cases taken : mine ∧ ∃ t3, x.reqAt = some (m.seq, t3)
  · obtain ⟨hmine, t3, asked⟩ := taken
    rw [if_neg (fun h => cond.mp h hmine), asked] at hd
    dsimp only at hd
    rw [if_neg (by simp)] at hd
    refine ⟨t, ht, hm, by rw [hd]; exact hr, fun h => ?_, fun t3' _ h => ?_⟩
    · rcases h with h | h
      · exact absurd hmine h
      · exact absurd asked (h t3)
    · obtain rfl : t3 = t3' := by simpa [asked] using h
      rw [hd, Device.servo_setServo_same]
  · have stays : t.chip.dev = e := by
      rw [hd]
      split
      · rfl
      · next hmine =>
        cases hw : x.reqAt with
        | none => rfl
        | some w =>
          obtain ⟨seq, t3⟩ := w
          refine if_pos fun h => taken ⟨not_not.mp fun h => hmine (cond.mpr h), t3, ?_⟩
          rw [hw, h]
    exact ⟨t, ht, hm, by rw [stays]; exact hr, fun _ => by rw [stays, servo], fun t3 h h' => absurd ⟨h, t3, h'⟩ taken⟩

end Syncs

/-! ### Requests and timeouts -/

section Send

variable (d : Device) (v : Nat)

/-- The request of a servo goes out. -/
def Device.delayAsk : Device :=
  let p := d.get F.TIME_SRV_CFG_PORT v
  let x := d.servo v
  let seq := (x.reqSeq + 1) % 65536
  let uni := d.on F.TIME_SRV_CFG_DELAY_UNICAST v
  let tag := d.txTag p
  let next := d.now + Config.delayDraw d.free % (2 * x.reqNs + 1)
  let d : Device := { d with free := d.free + 1 }
  let d := d.setServo v { x with reqSeq := seq, reqAt := some (seq, (d.devNs : Int) + d.txCorr p), reqNext := next }
  (d.countTx p (frameLen tag.isSome 44)).emit
    (.ptpDelayReq v p tag seq (d.unitAddr p) (if uni then x.masterIp else 0xE0000181) (if uni then 64 else 1))

theorem Device.delayReq_eq : d.delayReq v = if (d.srvSt v < 2 || !d.portUp (d.get F.TIME_SRV_CFG_PORT v)) = true then d
    else (d.waitNow (d.servo v).reqNext).delayAsk v := by
  have port : (d.waitNow (d.servo v).reqNext).get F.TIME_SRV_CFG_PORT v = d.get F.TIME_SRV_CFG_PORT v :=
    Device.get_congr (d.waitNow_regs _) _ _
  simp only [delayReq, delayAsk, port]

theorem Device.delayAsk_shows :
    let e := d.delayAsk v
    let p := d.get F.TIME_SRV_CFG_PORT v
    let x := d.servo v
    let direct := d.on F.TIME_SRV_CFG_DELAY_UNICAST v
    e.regs = d.regs ∧ e.now = d.now ∧ ∃ q, e.out = d.out ++ [.ptpDelayReq v p (d.txTag p) q (d.unitAddr p) (if direct then x.masterIp else 0xE0000181)
        (if direct then 64 else 1)] ∧ (e.servo v).reqAt = some (q, (e.devNs : Int) + d.txCorr p) ∧ d.now ≤ (e.servo v).reqNext ∧
      (e.servo v).reqNext ≤ d.now + 2 * x.reqNs := by
  intro e p x direct
  obtain ⟨y, hy⟩ : ∃ y : Servo, y = { x with
    reqSeq := (x.reqSeq + 1) % 65536
    reqAt := some ((x.reqSeq + 1) % 65536, (d.devNs : Int) + d.txCorr p)
    reqNext := d.now + Config.delayDraw d.free % (2 * x.reqNs + 1) } := ⟨_, rfl⟩
  obtain ⟨b, hb⟩ : ∃ b, b = ({ d with free := d.free + 1 } : Device).setServo v y := ⟨_, rfl⟩
  obtain ⟨q, counted⟩ := b.countTx_only p (frameLen (d.txTag p).isSome 44)
  have ran : e = ({ b with perf := q } : Device).emit (.ptpDelayReq v p (d.txTag p) ((x.reqSeq + 1) % 65536) (b.unitAddr p)
      (if direct then x.masterIp else 0xE0000181) (if direct then 64 else 1)) := by
    rw [← counted, hb, hy]
    rfl
  have servo : e.servo v = y := by
    rw [ran, hb]
    exact Device.servo_setServo_same ..
  have addr : b.unitAddr p = d.unitAddr p := by rw [hb]; rfl
  refine ⟨by rw [ran, hb]; rfl, by rw [ran, hb]; rfl, (x.reqSeq + 1) % 65536, ?_, ?_, ?_, ?_⟩
  · rw [ran, addr, hb]
    rfl
  · rw [servo, hy, ran, hb]
    rfl
  · rw [servo, hy]
    exact Nat.le_add_right ..
  · rw [servo, hy]
    exact Nat.add_le_add_left (Nat.lt_succ_iff.mp (Nat.mod_lt _ (Nat.succ_pos _))) _

theorem Device.servoLoss_now : (d.servoLoss v).now = d.now := by
  unfold servoLoss
  extract_lets x fresh y
  obtain ⟨l, hl⟩ : ∃ l : List Fld, l = [F.TIME_SRV_CNT_LOSS_COUNT, F.TIME_EVENTS_SRV_LOSS] ++ servoShown := ⟨_, rfl⟩
  have sub : ∀ f ∈ servoShown, f ∈ l := by
    intro f hf
    rw [hl]
    exact List.mem_append_right _ hf
  have set : Side true l d (d.setServo v y) := .of_core rfl rfl
  have stated : Side true l d ((d.setServo v y).srvTo v 1) := set.trans (Side.mono (srvTo_side _ _ _) sub)
  have counted : Side true l d ((((d.setServo v y).srvTo v 1).bump F.TIME_SRV_CNT_LOSS_COUNT v 1).raise F.TIME_EVENTS_SRV_LOSS v) :=
    (stated.put v _ (by simp [hl])).raise v (by simp [hl])
  exact (counted.trans (Side.mono (afterServo_side _) sub)).now

end Send

section Commands

variable {s : State} {v : Nat}

/-- Without a state or a port for it no request goes out. -/
theorem delayReq_idle (idle : s.chip.dev.srvSt v < 2 ∨ s.chip.dev.portUp (s.chip.dev.get F.TIME_SRV_CFG_PORT v) = false) :
    ∃ t, exec (.ptpDelayReqSend v) s = .next t ∧ t.chip = s.chip.quiet := by
  have runs : exec (.ptpDelayReqSend v) s = onDev (fun d => d.delayReq v) s := rfl
  have stays : s.chip.dev.quiet.delayReq v = s.chip.dev.quiet := by
    rw [Device.delayReq_eq]
    refine if_pos ?_
    rw [Bool.or_eq_true, decide_eq_true_eq, Bool.not_eq_true']
    exact idle
  exact ⟨_, runs.trans (by rw [onDev, stays]), rfl⟩

/-- A request goes out no earlier than the time drawn before, and draws the next. -/
theorem delayReq_goes (ready : 2 ≤ s.chip.dev.srvSt v) (up : s.chip.dev.portUp (s.chip.dev.get F.TIME_SRV_CFG_PORT v) = true) :
    let d := s.chip.dev
    let p := d.get F.TIME_SRV_CFG_PORT v
    let x := d.servo v
    let direct := d.on F.TIME_SRV_CFG_DELAY_UNICAST v
    ∃ t q, exec (.ptpDelayReqSend v) s = .next t ∧ t.chip.mem = s.chip.mem ∧
      t.chip.dev.regs = d.regs ∧ t.chip.dev.out = [.ptpDelayReq v p (d.txTag p) q (d.unitAddr p) (if direct then x.masterIp else 0xE0000181)
        (if direct then 64 else 1)] ∧
      (t.chip.dev.servo v).reqAt = some (q, (t.chip.dev.devNs : Int) + d.txCorr p) ∧ x.reqNext ≤ t.chip.dev.now ∧
      t.chip.dev.now ≤ (t.chip.dev.servo v).reqNext ∧ (t.chip.dev.servo v).reqNext ≤ t.chip.dev.now + 2 * x.reqNs := by
  intro d p x direct
  obtain ⟨w, hw⟩ : ∃ w, w = s.chip.dev.quiet.waitNow x.reqNext := ⟨_, rfl⟩
  obtain ⟨t, ht, hm, hd⟩ := onDev_next (s := s) (c := .ptpDelayReqSend v) (f := fun d => d.delayReq v) rfl rfl
  have goes : t.chip.dev = w.delayAsk v := by
    rw [hd, Device.delayReq_eq, hw]
    refine if_neg ?_
    rw [Bool.or_eq_true, decide_eq_true_eq, Bool.not_eq_true', not_or, Bool.not_eq_false]
    exact ⟨not_lt.mpr ready, up⟩
  have reached : x.reqNext ≤ w.now := by
    rw [hw, Device.waitNow_now]
    exact le_max_right ..
  obtain ⟨a, b, c, q, waited⟩ := s.chip.dev.quiet.waitNow_only x.reqNext
  have hw := hw.trans waited
  have port : w.get F.TIME_SRV_CFG_PORT v = p := by rw [hw]; rfl
  have servo : w.servo v = x := by rw [hw]; rfl
  have tag : w.txTag p = d.txTag p := by rw [hw]; rfl
  have corr : w.txCorr p = d.txCorr p := by rw [hw]; rfl
  have addr : w.unitAddr p = d.unitAddr p := by rw [hw]; rfl
  have uni : w.on F.TIME_SRV_CFG_DELAY_UNICAST v = direct := by rw [hw]; rfl
  have out : w.out = [] := by rw [hw]; rfl
  obtain ⟨regs, now, seq, sent, asked, lower, upper⟩ := w.delayAsk_shows v
  rw [← goes] at regs now sent asked lower upper
  simp only [port, servo, tag, corr, addr, uni, out, List.nil_append] at sent asked upper
  refine ⟨t, seq, ht, hm, regs.trans (by rw [hw]; rfl), sent, asked, ?_, ?_, ?_⟩
  · rw [now]; exact reached
  · rw [now]; exact lower
  · rw [now]; exact upper

/-- A servo whose time ran out loses its master. -/
theorem loss_runs {i : Instr} {n : Nat} (hi : exec i s = onDev (fun d => (d.waitNow n).servoLoss v) s) :
    ∃ t, exec i s = .next t ∧ ptpLost s v t ∧ n ≤ t.chip.dev.now := by
  obtain ⟨t, ht, hm, hd⟩ := onDev_next hi rfl
  obtain ⟨w, hw⟩ : ∃ w, w = s.chip.dev.quiet.waitNow n := ⟨_, rfl⟩
  rw [← hw] at hd
  have regs : w.regs = s.chip.dev.regs := by rw [hw]; exact s.chip.dev.quiet.waitNow_regs n
  have reached : n ≤ w.now := by
    rw [hw, Device.waitNow_now]
    exact le_max_right ..
  obtain ⟨state, lost, count, event, kept, berths⟩ := w.servoLoss_shows v
  have now := w.servoLoss_now v
  have still : w.berths = s.chip.dev.berths := by
    obtain ⟨a, b, c, q, waited⟩ := s.chip.dev.quiet.waitNow_only n
    rw [hw, waited]
    rfl
  rw [← hd] at state lost count event kept berths now
  exact ⟨t, ht, ⟨ptpSame_of hm regs still kept berths (but_of_outside (by decide)), state, lost,
    count.trans (by rw [Device.get_congr regs]), event⟩, by rw [now]; exact reached⟩

theorem announceTimeout_runs {m : PtpAnnounce} (ready : 2 ≤ s.chip.dev.srvSt v) (hm : (s.chip.dev.servo v).master = some m) :
    exec (.ptpAnnounceTimeout v) s = onDev (fun d => (d.waitNow ((s.chip.dev.servo v).annAt +
      s.chip.dev.get F.TIME_SRV_CFG_ANN_TIMEOUT v * logNs m.logInterval)).servoLoss v) s := by
  have runs : exec (.ptpAnnounceTimeout v) s = onDev (fun d => d.announceTimeout v) s := rfl
  have lost (d : Device) (hd : 2 ≤ d.srvSt v) (master : (d.servo v).master = some m) :
      d.announceTimeout v = (d.waitNow ((d.servo v).annAt + d.get F.TIME_SRV_CFG_ANN_TIMEOUT v * logNs m.logInterval)).servoLoss v := by
    rw [Device.announceTimeout, if_neg (not_lt.mpr hd), master]
  rw [runs, onDev, lost s.chip.dev.quiet ready hm]
  rfl

theorem syncTimeout_runs (ready : 2 ≤ s.chip.dev.srvSt v) :
    exec (.ptpSyncTimeout v) s = onDev (fun d => (d.waitNow ((s.chip.dev.servo v).syncAt + 2000000000)).servoLoss v) s := by
  have runs : exec (.ptpSyncTimeout v) s = onDev (fun d => d.syncTimeout v) s := rfl
  have lost (d : Device) (hd : 2 ≤ d.srvSt v) : d.syncTimeout v = (d.waitNow ((d.servo v).syncAt + 2000000000)).servoLoss v := by
    rw [Device.syncTimeout, if_neg (not_lt.mpr hd)]
  have servo : s.chip.dev.quiet.servo v = s.chip.dev.servo v := rfl
  rw [runs, onDev, onDev, lost s.chip.dev.quiet ready, servo]

end Commands

/-- Settles O40: each message reaches the servos that listen, and of the one that listens every clause follows from the
selection of masters, the samples of a Sync and the loss of a master. -/
theorem ptpMessagesReachTheirServo : Obligations.PtpMessagesReachTheirServo := by
  unfold Obligations.PtpMessagesReachTheirServo
  intro same lost
  refine ⟨fun s h a y q hc => ⟨fun none => ?_, fun none => ⟨?_, ?_⟩, fun none => ?_⟩, fun s h m v f hc _ one known sender => ?_,
    fun s h m v hc _ one => ⟨?_, ?_⟩, fun s h m v hc _ one => ?_, fun s v _ => ⟨fun idle => ?_, fun ready up => ?_, fun m ready hm => ?_, fun ready => ?_⟩⟩
  · exact ptp_unheard (i := .ptpAnnounceReceive h a) rfl hc none
  · exact ptp_unheard (i := .ptpSyncReceive h y) (sync_runs s h y) hc none
  · exact ptp_unheard (i := .ptpFollowUpReceive h y) rfl hc none
  · exact ptp_unheard (i := .ptpDelayRespReceive h q) rfl hc none
  · exact announce_taken hc one known sender
  · obtain ⟨t, ht, kept, quiet, waits, completes⟩ := sync_taken hc one
    refine ⟨t, ht, kept, quiet, waits, fun mine far single => ?_⟩
    obtain ⟨timed, offset, delay⟩ := completes mine far single
    exact ⟨fun hp hd => ⟨⟨kept.1, (timed hp hd).1⟩, (timed hp hd).2⟩, offset, delay⟩
  · obtain ⟨t, ht, kept, quiet, completes⟩ := followUp_taken hc one
    refine ⟨t, ht, kept, quiet, fun b c mine waits => ?_⟩
    obtain ⟨timed, offset, delay⟩ := completes b c mine waits
    exact ⟨fun hp hd => ⟨⟨kept.1, (timed hp hd).1⟩, (timed hp hd).2⟩, offset, delay⟩
  · exact delayResp_taken hc one
  · exact delayReq_idle idle
  · exact delayReq_goes ready up
  · exact loss_runs (announceTimeout_runs ready hm)
  · exact loss_runs (syncTimeout_runs ready)

end Sys2Proof.Machine
end

section
/-!
SUPPORT. Tether frames: O49.
-/

namespace Sys2Proof.Machine

/-! ### The judgement of tether frames (R284) -/

section Judge

variable (d : Device) (ty : Nat) (h : TetherHdr)

/-- The fields that a discarded frame shows itself in. -/
def frameShown : List Fld := [F.PAIR_CNT_FRAME_ERR_COUNT, F.PAIR_EVENTS_PROTO_MISMATCH, F.PAIR_EVENTS_UNIT_CLASH, F.PAIR_EVENTS_TICK_MISMATCH,
  F.PAIR_STATUS_TICK_MISMATCH]

/-- A discarded frame is counted, and nothing of the pair changes. -/
structure Device.Discards (d e : Device) : Prop where
  pair : e.pair = d.pair
  fields : d.keeps e (but frameShown)
  counted : e.get F.PAIR_CNT_FRAME_ERR_COUNT = min (d.get F.PAIR_CNT_FRAME_ERR_COUNT + 1) (2 ^ F.PAIR_CNT_FRAME_ERR_COUNT.width - 1)

theorem Device.Discards.of_frameErr {d e : Device} (pair : e.pair = d.pair) (fields : d.keeps e (but frameShown))
    (count : e.get F.PAIR_CNT_FRAME_ERR_COUNT = d.get F.PAIR_CNT_FRAME_ERR_COUNT) : d.Discards (e.frameErr 1) :=
  ⟨pair, Device.keeps_trans fields (Device.keeps_put _ _ _ _ (but_apart (by simp [frameShown]))), by rw [frameErr, Device.get_bump, count]⟩

theorem Device.Discards.raised {d : Device} (f : Fld) (hf : f ∈ frameShown) (hid : f.id ≠ F.PAIR_CNT_FRAME_ERR_COUNT.id) (hw : 0 < f.width) :
    d.Discards ((d.raise f 0).frameErr 1) ∧ ((d.raise f 0).frameErr 1).get f = 1 := by
  obtain ⟨g, q, only⟩ := d.raise_only f 0
  refine ⟨.of_frameErr (by rw [only]) (d.keeps_raise f 0 hf) (Device.get_raise _ _ _ _ _ (.inl hid) (.inl (by decide))), ?_⟩
  rw [frameErr, Device.bump, Device.get_put_ne _ _ _ _ _ _ fun h => hid h.symm, Device.get_raise_same _ _ _ hw]

/-- The unit does not listen. -/
def Device.deaf : Bool := decide (d.role = 0) || !d.inRun || !d.ticking || d.tick.gap || !d.tetherHears (28 + h.lane % 4)

theorem Device.deaf_eq : d.deaf h = !d.listensOn h := by
  simp only [deaf, listensOn, Bool.not_and, Bool.not_not, decide_not]

theorem Device.frameIn_deaf (hl : d.listensOn h = false) : d.frameIn ty h = (d, false) :=
  if_pos (show d.deaf h = true by rw [deaf_eq, hl]; rfl)

/-- The judgement of a frame that the unit listens to, whose CRC is right and which is of the protocol in force. -/
def Device.frameOf : Device × Bool :=
  let own := d.get F.PAIR_CTRL_UNIT
  if h.unit = own then ((d.raise F.PAIR_EVENTS_UNIT_CLASH).frameErr 1, false)
  else if h.unit ≠ 1 - own then (d.frameErr 1, false)
  else if h.tick ≠ d.tick.num then
    let d := if d.on F.PAIR_STATUS_TICK_MISMATCH then d else d.raise F.PAIR_EVENTS_TICK_MISMATCH
    ((d.put F.PAIR_STATUS_TICK_MISMATCH 0 1).frameErr 1, false)
  else
    let d := d.put F.PAIR_STATUS_TICK_MISMATCH 0 0
    let k := (ty, h.lane)
    let diff := match Tab.find d.pair.rxAlive k with
      | some a => (h.alive + 256 - a) % 256
      | none => 1
    if diff = 0 ∨ diff > 128 then (d.frameErr 1, false)
    else
      let d := if diff > 1 then d.frameErr (diff - 1) else d
      let d := (d.setPair (fun (p : PairX) => { p with rxAlive := Tab.set p.rxAlive k h.alive })).seeEpoch h.epoch
      if h.lane < 2 then (d, true)
      else if (ty, h.index) ∈ d.pair.got then (d, false)
      else (d.setPair (fun (p : PairX) => { p with got := (ty, h.index) :: p.got }), true)

section Heard

variable {d h} (hl : d.listensOn h = true)
include hl

theorem Device.frameIn_crc (crc : h.crcOk = false) : d.frameIn ty h = (d.frameErr 1, false) :=
  (if_neg (show ¬d.deaf h = true by rw [deaf_eq, hl]; decide)).trans (if_pos (by simp [crc]))

theorem Device.frameIn_proto (crc : h.crcOk = true) (proto : h.proto ≠ d.upd.run.proto) :
    d.frameIn ty h = ((d.raise F.PAIR_EVENTS_PROTO_MISMATCH).frameErr 1, false) :=
  (if_neg (show ¬d.deaf h = true by rw [deaf_eq, hl]; decide)).trans ((if_neg (by simp [crc])).trans (if_pos proto))

theorem Device.frameIn_of (crc : h.crcOk = true) (proto : h.proto = d.upd.run.proto) : d.frameIn ty h = d.frameOf ty h :=
  (if_neg (show ¬d.deaf h = true by rw [deaf_eq, hl]; decide)).trans ((if_neg (by simp [crc])).trans (if_neg (by simp [proto])))

end Heard

/-- How far the ALIVE counter of a frame has moved since the last one of its type and lane. -/
def Device.aliveMoved : Nat :=
  match Tab.find d.pair.rxAlive (ty, h.lane) with
  | some a => (h.alive + 256 - a) % 256
  | none => 1

/-- The device that has judged the tick of a frame right. -/
def Device.tickAgreed : Device := d.put F.PAIR_STATUS_TICK_MISMATCH 0 0

/-- A frame of this tick after its ALIVE test. -/
def Device.frameKept : Device × Bool :=
  let moved := d.aliveMoved ty h
  let d := if moved > 1 then d.frameErr (moved - 1) else d
  let d := (d.setPair (fun (p : PairX) => { p with rxAlive := Tab.set p.rxAlive (ty, h.lane) h.alive })).seeEpoch h.epoch
  if h.lane < 2 then (d, true)
  else if (ty, h.index) ∈ d.pair.got then (d, false)
  else (d.setPair (fun (p : PairX) => { p with got := (ty, h.index) :: p.got }), true)

section Unit

variable {d h}

theorem Device.frameOf_clash (unit : h.unit = d.get F.PAIR_CTRL_UNIT) : d.frameOf ty h = ((d.raise F.PAIR_EVENTS_UNIT_CLASH).frameErr 1, false) :=
  if_pos unit

theorem Device.frameOf_stranger (clash : h.unit ≠ d.get F.PAIR_CTRL_UNIT) (unit : h.unit ≠ 1 - d.get F.PAIR_CTRL_UNIT) :
    d.frameOf ty h = (d.frameErr 1, false) := (if_neg clash).trans (if_pos unit)

theorem Device.frameOf_tick (clash : h.unit ≠ d.get F.PAIR_CTRL_UNIT) (unit : h.unit = 1 - d.get F.PAIR_CTRL_UNIT) (tick : h.tick ≠ d.tick.num) :
    d.frameOf ty h = (((if d.on F.PAIR_STATUS_TICK_MISMATCH then d else d.raise F.PAIR_EVENTS_TICK_MISMATCH).put F.PAIR_STATUS_TICK_MISMATCH 0 1).frameErr 1,
      false) := (if_neg clash).trans ((if_neg (not_not.mpr unit)).trans (if_pos tick))

theorem Device.frameOf_agrees (clash : h.unit ≠ d.get F.PAIR_CTRL_UNIT) (unit : h.unit = 1 - d.get F.PAIR_CTRL_UNIT) (tick : h.tick = d.tick.num) :
    d.frameOf ty h = if d.tickAgreed.aliveMoved ty h = 0 ∨ d.tickAgreed.aliveMoved ty h > 128 then (d.tickAgreed.frameErr 1, false)
      else d.tickAgreed.frameKept ty h := (if_neg clash).trans ((if_neg (not_not.mpr unit)).trans (if_neg (not_not.mpr tick)))

end Unit

theorem Device.tickAgreed_discards : d.Discards (d.tickAgreed.frameErr 1) :=
  .of_frameErr rfl (Device.keeps_put _ _ _ _ (but_apart (by simp [frameShown]))) (Device.get_put_ne _ _ _ _ _ _ (by decide))

theorem Device.tickMissed_discards :
    let e := ((if d.on F.PAIR_STATUS_TICK_MISMATCH then d else d.raise F.PAIR_EVENTS_TICK_MISMATCH).put F.PAIR_STATUS_TICK_MISMATCH 0 1).frameErr 1
    d.Discards e ∧ e.get F.PAIR_STATUS_TICK_MISMATCH = 1 ∧ (d.get F.PAIR_STATUS_TICK_MISMATCH = 0 → e.get F.PAIR_EVENTS_TICK_MISMATCH = 1) := by
  intro e
  obtain ⟨f, hf⟩ : ∃ f, f = if d.on F.PAIR_STATUS_TICK_MISMATCH then d else d.raise F.PAIR_EVENTS_TICK_MISMATCH := ⟨_, rfl⟩
  have he : e = (f.put F.PAIR_STATUS_TICK_MISMATCH 0 1).frameErr 1 := by rw [hf]
  have first : f.pair = d.pair ∧ d.keeps f (but frameShown) ∧ f.get F.PAIR_CNT_FRAME_ERR_COUNT = d.get F.PAIR_CNT_FRAME_ERR_COUNT := by
    rw [hf]
    split
    · exact ⟨rfl, d.keeps_refl _, rfl⟩
    · obtain ⟨g, q, only⟩ := d.raise_only F.PAIR_EVENTS_TICK_MISMATCH 0
      exact ⟨by rw [only], d.keeps_raise _ _ (by simp [frameShown]), Device.get_raise _ _ _ _ _ (.inl (by decide)) (.inl (by decide))⟩
  obtain ⟨pair, kept, count⟩ := first
  refine ⟨he ▸ .of_frameErr pair (Device.keeps_trans kept (Device.keeps_put _ _ _ _ (but_apart (by simp [frameShown]))))
    ((Device.get_put_ne _ _ _ _ _ _ (by decide)).trans count), ?_, fun quiet => ?_⟩
  · rw [he, frameErr, Device.bump, Device.get_put_ne _ _ _ _ _ _ (by decide), Device.get_put_same]
    rfl
  · rw [he, frameErr, Device.bump, Device.get_put_ne _ _ _ _ _ _ (by decide), Device.get_put_ne _ _ _ _ _ _ (by decide), hf,
      if_neg (by simp [Device.on, quiet])]
    exact Device.get_raise_same _ _ _ (by decide)

/-- What every frame that is not right is judged to be. -/
structure Device.Misjudged (d : Device) (ty : Nat) (h : TetherHdr) : Prop where
  crc : h.crcOk = false → ∃ e, d.frameIn ty h = (e, false) ∧ d.Discards e
  proto : h.crcOk = true → h.proto ≠ d.upd.run.proto → ∃ e, d.frameIn ty h = (e, false) ∧ d.Discards e ∧ e.get F.PAIR_EVENTS_PROTO_MISMATCH = 1
  clash : h.crcOk = true → h.proto = d.upd.run.proto → h.unit = d.get F.PAIR_CTRL_UNIT →
    ∃ e, d.frameIn ty h = (e, false) ∧ d.Discards e ∧ e.get F.PAIR_EVENTS_UNIT_CLASH = 1
  stranger : h.crcOk = true → h.proto = d.upd.run.proto → h.unit ≠ d.get F.PAIR_CTRL_UNIT → h.unit ≠ 1 - d.get F.PAIR_CTRL_UNIT →
    ∃ e, d.frameIn ty h = (e, false) ∧ d.Discards e
  tick : h.crcOk = true → h.proto = d.upd.run.proto → h.unit ≠ d.get F.PAIR_CTRL_UNIT → h.unit = 1 - d.get F.PAIR_CTRL_UNIT → h.tick ≠ d.tick.num →
    ∃ e, d.frameIn ty h = (e, false) ∧ d.Discards e ∧ e.get F.PAIR_STATUS_TICK_MISMATCH = 1 ∧
      (d.get F.PAIR_STATUS_TICK_MISMATCH = 0 → e.get F.PAIR_EVENTS_TICK_MISMATCH = 1)
  alive : h.crcOk = true → h.proto = d.upd.run.proto → h.unit ≠ d.get F.PAIR_CTRL_UNIT → h.unit = 1 - d.get F.PAIR_CTRL_UNIT → h.tick = d.tick.num →
    ∀ a, Tab.find d.pair.rxAlive (ty, h.lane) = some a → (h.alive + 256 - a) % 256 = 0 ∨ 128 < (h.alive + 256 - a) % 256 →
      ∃ e, d.frameIn ty h = (e, false) ∧ d.Discards e

variable {d h} in
theorem Device.frameIn_misjudged (hl : d.listensOn h = true) : d.Misjudged ty h := by
  have plain : d.Discards (d.frameErr 1) := .of_frameErr rfl (d.keeps_refl _) rfl
  refine ⟨fun crc => ⟨_, Device.frameIn_crc ty hl crc, plain⟩, fun crc proto => ⟨_, Device.frameIn_proto ty hl crc proto, ?_⟩,
    fun crc proto clash => ⟨_, (Device.frameIn_of ty hl crc proto).trans (Device.frameOf_clash ty clash), ?_⟩,
    fun crc proto clash unit => ⟨_, (Device.frameIn_of ty hl crc proto).trans (Device.frameOf_stranger ty clash unit), plain⟩,
    fun crc proto clash unit tick => ⟨_, (Device.frameIn_of ty hl crc proto).trans (Device.frameOf_tick ty clash unit tick), d.tickMissed_discards⟩,
    fun crc proto clash unit tick a last moved => ⟨_, ?_, d.tickAgreed_discards⟩⟩
  · exact Discards.raised _ (by simp [frameShown]) (by decide) (by decide)
  · exact Discards.raised _ (by simp [frameShown]) (by decide) (by decide)
  · rw [Device.frameIn_of ty hl crc proto, Device.frameOf_agrees ty clash unit tick]
    have alive : d.tickAgreed.aliveMoved ty h = (h.alive + 256 - a) % 256 := by
      have found : Tab.find d.tickAgreed.pair.rxAlive (ty, h.lane) = some a := last
      rw [aliveMoved, found]
    exact if_pos (by rw [alive]; exact moved)

end Judge

/-! ### Frames that are not taken -/

/-- A frame that its judgement does not take leaves the chip to what the judgement left. -/
theorem tetherFrame_untaken {s : State} {c : Instr} {ty : Nat} {h : TetherHdr} {e : Device} (hc : tetherFrame c = some (ty, h))
    (judged : s.chip.dev.quiet.frameIn ty h = (e, false)) :
    ∃ t, exec c s = .next t ∧ t.chip = { s.chip.quiet with dev := e } := by
  have onDev_runs (f : Device → Device) (hf : exec c s = onDev f s) (g : Device → Device) (hg : ∀ d, f d = d.frameThen ty h g) :
      ∃ t, exec c s = .next t ∧ t.chip = { s.chip.quiet with dev := e } := by
    have runs : f s.chip.dev.quiet = e := by rw [hg, Device.frameThen, judged]; rfl
    exact ⟨_, hf, by rw [← runs]; rfl⟩
  have onChip_runs (f : Chip → Chip) (hf : exec c s = onChip f s) (hg : f s.chip.quiet = { s.chip.quiet with dev := e }) :
      ∃ t, exec c s = .next t ∧ t.chip = { s.chip.quiet with dev := e } := ⟨_, hf, by rw [← hg]⟩
  unfold tetherFrame at hc
  split at hc
  case h_11 => exact absurd hc (by simp)
  all_goals
    obtain ⟨rfl, rfl⟩ := Prod.mk.inj (Option.some.inj hc)
  case h_2 => exact onChip_runs _ rfl (by simp only [Chip.mirrorIn]; rw [show s.chip.quiet.dev = s.chip.dev.quiet from rfl, judged]; rfl)
  case h_4 => exact onChip_runs _ rfl (by simp only [Chip.syncIn]; rw [show s.chip.quiet.dev = s.chip.dev.quiet from rfl, judged]; rfl)
  all_goals exact onDev_runs _ rfl _ fun _ => rfl

/-! ### Frames that are taken -/

section Taken

variable (d : Device) (ty : Nat) (h : TetherHdr)

/-- The device that has taken a frame. -/
def Device.framed (a : Tab (Nat × Nat) Nat) (n : Nat) (g : List (Nat × Nat)) : Device :=
  { d.tickAgreed with pair := { d.pair with rxAlive := a, seenEpoch := n, got := g } }

/-- A frame of this tick whose ALIVE counter moved by one, and of which no copy was taken. -/
structure Device.Right (d : Device) (ty : Nat) (h : TetherHdr) : Prop where
  listens : d.listensOn h = true
  crc : h.crcOk = true
  proto : h.proto = d.upd.run.proto
  unit : h.unit = 1 - d.get F.PAIR_CTRL_UNIT
  other : h.unit ≠ d.get F.PAIR_CTRL_UNIT
  tick : h.tick = d.tick.num
  alive : ∀ a, Tab.find d.pair.rxAlive (ty, h.lane) = some a → (h.alive + 256 - a) % 256 = 1
  once : 2 ≤ h.lane → (ty, h.index) ∉ d.pair.got

variable {d ty h}

theorem Device.frameIn_right (right : d.Right ty h) : ∃ a n g, d.frameIn ty h = (d.framed a n g, true) := by
  have moved : d.tickAgreed.aliveMoved ty h = 1 := by
    unfold aliveMoved
    split
    · next found => exact right.alive _ found
    · rfl
  have kept : d.frameIn ty h = d.tickAgreed.frameKept ty h := by
    rw [frameIn_of ty right.listens right.crc right.proto, frameOf_agrees ty right.other right.unit right.tick, moved]
    exact if_neg (by decide)
  have once : (if 1 > 1 then d.tickAgreed.frameErr (1 - 1) else d.tickAgreed) = d.tickAgreed := if_neg (by decide)
  rw [kept, frameKept, moved]
  simp only [once]
  by_cases low : h.lane < 2
  · exact ⟨_, _, _, if_pos low⟩
  · exact ⟨_, _, _, (if_neg low).trans (if_neg (right.once (not_lt.mp low)))⟩

theorem Device.frameThen_right (right : d.Right ty h) (f : Device → Device) : ∃ a n g, d.frameThen ty h f = f (d.framed a n g) := by
  obtain ⟨a, n, g, ran⟩ := d.frameIn_right right
  exact ⟨a, n, g, by rw [frameThen, ran]; rfl⟩

/-- A command of the tether whose frame is taken. -/
theorem frameThen_next {s : State} {c : Instr} {f : Device → Device} (hc : exec c s = onDev (fun d => d.frameThen ty h f) s)
    (right : s.chip.dev.Right ty h) :
    ∃ a n g t, exec c s = .next t ∧ t.chip.mem = s.chip.mem ∧ t.chip.dev = f (s.chip.dev.quiet.framed a n g) := by
  have quiet : s.chip.dev.quiet.Right ty h :=
    ⟨right.listens, right.crc, right.proto, right.unit, right.other, right.tick, right.alive, right.once⟩
  obtain ⟨a, n, g, ran⟩ := s.chip.dev.quiet.frameThen_right quiet f
  obtain ⟨t, ht, hm, hd⟩ := onDev_next hc ran
  exact ⟨a, n, g, t, ht, hm, hd⟩

theorem Device.framed_get {f : Fld} (a : Tab (Nat × Nat) Nat) (n : Nat) (g : List (Nat × Nat)) (i : Nat) (hf : F.PAIR_STATUS_TICK_MISMATCH.id ≠ f.id) :
    (d.framed a n g).get f i = d.get f i := Device.get_put_ne d _ _ _ _ _ hf

@[simp] theorem Device.framed_role (a : Tab (Nat × Nat) Nat) (n : Nat) (g : List (Nat × Nat)) : (d.quiet.framed a n g).role = d.role :=
  Device.framed_get (d := d.quiet) (f := F.PAIR_STATUS_ROLE) a n g 0 (by decide)

@[simp] theorem Device.framed_syncSt (a : Tab (Nat × Nat) Nat) (n : Nat) (g : List (Nat × Nat)) : (d.quiet.framed a n g).syncSt = d.syncSt :=
  Device.framed_get (d := d.quiet) (f := F.PAIR_STATUS_SYNC) a n g 0 (by decide)

end Taken

/-! ### What each frame does -/

section Burst

variable {s : State} {h : TetherHdr}

theorem tetherState_taken (items : List CtlItem) (right : s.chip.dev.Right 0x01 h) (follows : s.chip.dev.role = 3 ∨ s.chip.dev.role = 4) :
    ∃ t, exec (.tetherStateReceive h items) s = .next t ∧ t.chip.mem = s.chip.mem ∧
      t.chip.dev.pair.burst = s.chip.dev.pair.burst ++ [(h.index, items)] ∧
      (excluding items = true → s.chip.dev.tick.num ∈ t.chip.dev.pair.cmp.excluded) := by
  obtain ⟨a, n, g, t, ht, hm, hd⟩ := frameThen_next (c := .tetherStateReceive h items) rfl right
  have takes : (s.chip.dev.quiet.framed a n g).follows = true := by
    simp only [Device.follows, Device.framed_role, Bool.or_eq_true, decide_eq_true_eq]
    exact follows
  rw [if_pos takes] at hd
  refine ⟨t, ht, hm, by rw [hd]; rfl, fun out => ?_⟩
  have excluded : t.chip.dev.pair.cmp.excluded = if excluding items then s.chip.dev.tick.num :: s.chip.dev.pair.cmp.excluded
      else s.chip.dev.pair.cmp.excluded := by rw [hd]; rfl
  rw [excluded, if_pos out]
  exact List.mem_cons_self

theorem tetherStateEnd_taken (n : Nat) (right : s.chip.dev.Right 0x03 h) (follows : s.chip.dev.role = 3 ∨ s.chip.dev.role = 4)
    (full : ∀ i, i < n → s.chip.dev.pair.burst.any (fun (q : Nat × List CtlItem) => decide (q.1 = i)) = true) :
    ∃ t l, exec (.tetherStateEndReceive h n true) s = .next t ∧ t.chip.mem = s.chip.mem ∧
      t.chip.dev.pair.ready = some (s.chip.dev.tick.num, l) ∧
      (∀ i items, i < n → s.chip.dev.pair.burst.find? (fun (q : Nat × List CtlItem) => decide (q.1 = i)) = some (i, items) → ∀ x ∈ items, x ∈ l) := by
  obtain ⟨a, m, g, t, ht, hm, hd⟩ := frameThen_next (c := .tetherStateEndReceive h n true) rfl right
  have takes : (s.chip.dev.quiet.framed a m g).follows = true := by
    simp only [Device.follows, Device.framed_role, Bool.or_eq_true, decide_eq_true_eq]
    exact follows
  have whole : (List.range n).all (fun i => (s.chip.dev.quiet.framed a m g).pair.burst.any (fun q => decide (q.1 = i))) = true :=
    List.all_eq_true.mpr fun i hi => full i (List.mem_range.mp hi)
  have all : ((s.chip.dev.quiet.framed a m g).follows && true &&
      (List.range n).all (fun i => (s.chip.dev.quiet.framed a m g).pair.burst.any (fun q => decide (q.1 = i)))) = true := by
    rw [takes, whole]
    rfl
  have hd := hd.trans (if_pos all)
  refine ⟨t, _, ht, hm, (congrArg (fun d => d.pair.ready) hd).trans rfl, fun i items hi found x hx => ?_⟩
  refine List.mem_flatMap.mpr ⟨i, List.mem_range.mpr hi, ?_⟩
  have found : (s.chip.dev.quiet.framed a m g).pair.burst.find? (fun q => decide (q.1 = i)) = some (i, items) := found
  rw [found]
  exact hx

theorem leaseCommit_taken (edge : Nat) (right : s.chip.dev.Right 0x11 h) (standby : s.chip.dev.role = 3) :
    ∃ t, exec (.leaseCommitReceive h edge) s = .next t ∧ t.chip.mem = s.chip.mem ∧ t.chip.dev.pair.commitRx = some edge := by
  obtain ⟨a, n, g, t, ht, hm, hd⟩ := frameThen_next (c := .leaseCommitReceive h edge) rfl right
  rw [if_pos (by simpa using standby)] at hd
  exact ⟨t, ht, hm, by rw [hd]; rfl⟩

theorem leaseRevert_taken (right : s.chip.dev.Right 0x11 h) (holder : s.chip.dev.role = 2) (idle : s.chip.dev.pair.handover = none)
    (uncommitted : s.chip.dev.pair.commitTx = none) :
    ∃ t, exec (.leaseRevertReceive h) s = .next t ∧ t.chip.mem = s.chip.mem ∧ t.chip.dev.pair.handover = some (s.chip.dev.tick.num, none) := by
  obtain ⟨a, n, g, t, ht, hm, hd⟩ := frameThen_next (c := .leaseRevertReceive h) rfl right
  have handover : (s.chip.dev.quiet.framed a n g).pair.handover = none := idle
  have commit : (s.chip.dev.quiet.framed a n g).pair.commitTx = none := uncommitted
  rw [if_pos (by simp [Device.holds, holder, handover, commit])] at hd
  exact ⟨t, ht, hm, by rw [hd]; rfl⟩

theorem leaseRetrain_taken (lane : Nat) (right : s.chip.dev.Right 0x11 h) (low : 28 ≤ lane) (high : lane < 32)
    (unasked : (s.chip.dev.laneX lane).retrain < 2) :
    ∃ t, exec (.leaseRetrainReceive h lane) s = .next t ∧ t.chip.mem = s.chip.mem ∧ (t.chip.dev.laneX lane).retrain = 2 := by
  obtain ⟨a, n, g, t, ht, hm, hd⟩ := frameThen_next (c := .leaseRetrainReceive h lane) rfl right
  have lanes : (s.chip.dev.quiet.framed a n g).laneX lane = s.chip.dev.laneX lane := rfl
  rw [Device.retrainAgreed, lanes, if_pos (by simp [low, high, unasked])] at hd
  refine ⟨t, ht, hm, ?_⟩
  rw [hd]
  exact congrArg LaneX.retrain (Tab.get_set_same ..)

theorem tetherDecision_taken (gives : Bool) (right : s.chip.dev.Right 0x21 h) (standby : s.chip.dev.role = 3) :
    ∃ t, exec (.tetherDecisionReceive h gives) s = .next t ∧ t.chip.mem = s.chip.mem ∧
      (gives = true → t.chip.dev.pair.yieldRx = some s.chip.dev.tick.num) ∧
      (gives = false → t.chip.dev.pair.yieldRx = s.chip.dev.pair.yieldRx) := by
  obtain ⟨a, n, g, t, ht, hm, hd⟩ := frameThen_next (c := .tetherDecisionReceive h gives) rfl right
  refine ⟨t, ht, hm, fun yes => ?_, fun no => ?_⟩
  · rw [if_pos (by simp [yes, standby])] at hd
    rw [hd]
    rfl
  · rw [if_neg (by simp [no])] at hd
    rw [hd]
    rfl

end Burst

/-! ### Words of the partner -/

section Words

variable (d : Device)

/-- What is known of the partner stays. -/
def Device.KnowsSame (d e : Device) : Prop :=
  e.partnerHealth = d.partnerHealth ∧ e.pair.partner = d.pair.partner ∧ e.pair.healthTick = d.pair.healthTick

namespace Device.KnowsSame

variable {d e f : Device}

theorem refl (d : Device) : KnowsSame d d := ⟨rfl, rfl, rfl⟩
theorem trans (h : KnowsSame d e) (h' : KnowsSame e f) : KnowsSame d f := ⟨h'.1.trans h.1, h'.2.1.trans h.2.1, h'.2.2.trans h.2.2⟩
theorem put (h : KnowsSame d e) {f : Fld} (i v : Nat) (lo : f.id ≠ F.PAIR_PARTNER_HEALTH_LO_HEALTH.id) (hi : f.id ≠ F.PAIR_PARTNER_HEALTH_HI_HEALTH.id) :
    KnowsSame d (e.put f i v) :=
  h.trans ⟨by rw [partnerHealth, get2, Device.get_put_ne _ _ _ _ _ _ lo, Device.get_put_ne _ _ _ _ _ _ hi]; rfl, rfl, rfl⟩
theorem setMirror (h : KnowsSame d e) (g : Mirror → Mirror) : KnowsSame d (e.setMirror g) := h.trans ⟨rfl, rfl, rfl⟩
theorem ite {c : Prop} [Decidable c] (h : KnowsSame d e) (h' : KnowsSame d f) : KnowsSame d (if c then e else f) := by
  split
  · exact h
  · exact h'

end Device.KnowsSame

theorem Device.mirrorShow_knows : d.KnowsSame d.mirrorShow := (KnowsSame.refl d).put 0 _ (by decide) (by decide)

theorem Device.beginCopy_knows (n : Nat) : d.KnowsSame (d.beginCopy n) := ((KnowsSame.refl d).setMirror _).trans (mirrorShow_knows _)

theorem Device.copyOver_knows (h : HealthMsg) : d.KnowsSame (d.copyOver h) := by
  unfold copyOver
  split
  · exact .ite ((KnowsSame.refl d).setMirror _) (d.beginCopy_knows _)
  · exact .refl d

theorem Device.holderHealth_knows (h : HealthMsg) : d.KnowsSame (d.holderHealth h) := by
  unfold holderHealth
  extract_lets e sync f g k
  have acked : d.KnowsSame e := by
    unfold e
    split
    · exact (KnowsSame.refl d).setMirror _
    · exact .refl d
  have emptied : d.KnowsSame f := .ite acked (acked.setMirror _)
  have begun : d.KnowsSame g := .ite (emptied.trans (f.beginCopy_knows _)) emptied
  have ended : d.KnowsSame k := .ite (begun.trans (g.copyOver_knows h)) begun
  exact ended.trans k.mirrorShow_knows

theorem Device.dualSeen_knows : d.KnowsSame d.dualSeen := by
  unfold dualSeen
  split
  · exact .refl d
  · obtain ⟨e, he⟩ : ∃ e, e = d.setPair (fun (p : PairX) => { p with dual := true }) := ⟨_, rfl⟩
    have marked : d.KnowsSame e := by rw [he]; exact ⟨rfl, rfl, rfl⟩
    rw [← he]
    have raised : e.KnowsSame (e.raise F.PAIR_EVENTS_DUAL_HOLDER) := by
      obtain ⟨g, q, only⟩ := e.raise_only F.PAIR_EVENTS_DUAL_HOLDER 0
      refine ⟨?_, by rw [only], by rw [only]⟩
      rw [partnerHealth, get2, Device.get_raise _ _ _ _ _ (.inl (by decide)) (.inl (by decide)),
        Device.get_raise _ _ _ _ _ (.inl (by decide)) (.inl (by decide))]
      rfl
    have recorded (f : Device) (a b : Nat) : f.KnowsSame (f.record 0x0042 11 a b) := by
      obtain ⟨g, q, only⟩ := f.record_only 0x0042 11 a b
      have kept := f.keeps_record 0x0042 11 a b (l := [F.BBOX_LOST_COUNT]) (by simp)
      refine ⟨?_, by rw [only], by rw [only]⟩
      rw [partnerHealth, get2, kept.1 _ _ (by decide), kept.1 _ _ (by decide)]
      rfl
    exact (marked.trans raised).trans (recorded _ _ _)

theorem Device.partnerWord_shows (w : Nat) (hw : w < 2 ^ 64) : (d.partnerWord w).partnerHealth = w := by
  rw [partnerHealth, partnerWord, put2, get2, Device.get_put_ne _ _ _ _ _ _ (by decide), Device.get_put_same, Device.get_put_same]
  show w % 2 ^ 32 + 2 ^ 32 * (w / 2 ^ 32 % 2 ^ 32) = w
  omega

/-- What a unit does with a HEALTH frame. -/
def Device.healthHeard (h : HealthMsg) : Device :=
  let d := (d.setPair (fun (p : PairX) => { p with healthTick := some d.tick.num, partner := some h })).partnerWord h.word
  let d := (((d.put F.UPD_PARTNER_VERIFY 0 h.upd.verify).put F.UPD_PARTNER_VERIFY_ERR 0 h.upd.verifyErr).put
    F.UPD_PARTNER_SEL_STATE 0 h.upd.selState)
  let d := (d.put F.UPD_PARTNER_PROTO 0 h.upd.proto).put F.UPD_PARTNER_OUTPUT_REV 0 h.upd.rev
  if d.holds then
    let d : Device := { d with touch := { d.touch with toDo := d.touch.toDo ++ h.presses } }
    let d := d.holderHealth h
    if h.role = 2 then d.dualSeen else d
  else d

theorem Device.healthHeard_shows (h : HealthMsg) (hw : h.word < 2 ^ 64) :
    (d.healthHeard h).partnerHealth = h.word ∧ (d.healthHeard h).pair.partner = some h ∧ (d.healthHeard h).pair.healthTick = some d.tick.num := by
  unfold healthHeard
  extract_lets e f g touch k m
  have shown : e.partnerHealth = h.word := partnerWord_shows _ _ hw
  have reported : e.KnowsSame g := (((((KnowsSame.refl e).put 0 _ (by decide) (by decide)).put 0 _ (by decide) (by decide)).put 0 _ (by decide)
    (by decide)).put 0 _ (by decide) (by decide)).put 0 _ (by decide) (by decide)
  have pressed : e.KnowsSame k := reported.trans ⟨rfl, rfl, rfl⟩
  have held : e.KnowsSame m := pressed.trans (k.holderHealth_knows h)
  have all : e.KnowsSame (if g.holds then (if h.role = 2 then m.dualSeen else m) else g) :=
    .ite (.ite (held.trans m.dualSeen_knows) held) reported
  obtain ⟨word, partner, tick⟩ := all
  exact ⟨word.trans shown, partner, tick⟩

theorem Device.compareOne_regs (a b : Digest) : (d.compareOne a b).regs = d.regs := by
  unfold compareOne
  extract_lets e l same bad f x
  split
  · split <;> rfl
  · split <;> rfl

end Words

section Said

variable {s : State} {h : TetherHdr}

theorem tetherHealth_taken (msg : HealthMsg) (right : s.chip.dev.Right 0x10 h) (word : msg.word < 2 ^ 64) :
    ∃ t, exec (.tetherHealthReceive h msg) s = .next t ∧ t.chip.mem = s.chip.mem ∧ t.chip.dev.partnerHealth = msg.word ∧
      t.chip.dev.pair.partner = some msg ∧ t.chip.dev.pair.healthTick = some s.chip.dev.tick.num := by
  obtain ⟨a, n, g, t, ht, hm, hd⟩ := frameThen_next (c := .tetherHealthReceive h msg) (f := fun d => d.healthHeard msg) rfl right
  obtain ⟨shown, partner, tick⟩ := (s.chip.dev.quiet.framed a n g).healthHeard_shows msg word
  rw [← hd] at shown partner tick
  exact ⟨t, ht, hm, shown, partner, tick⟩

theorem tetherDigest_taken (g : Digest) (right : s.chip.dev.Right 0x20 h) (word : g.word < 2 ^ 64) :
    ∃ t, exec (.tetherDigestReceive h g) s = .next t ∧ t.chip.mem = s.chip.mem ∧ t.chip.dev.partnerHealth = g.word ∧
      t.chip.dev.get F.PAIR_STATUS_MISMATCH = s.chip.dev.get F.PAIR_STATUS_MISMATCH := by
  obtain ⟨a, n, q, t, ht, hm, hd⟩ := frameThen_next (c := .tetherDigestReceive h g) rfl right
  obtain ⟨e, he⟩ : ∃ e, e = (s.chip.dev.quiet.framed a n q).partnerWord g.word := ⟨_, rfl⟩
  have regs : t.chip.dev.regs = e.regs := by
    rw [hd]
    dsimp only
    rw [← he]
    split
    · rfl
    · split
      · exact e.compareOne_regs _ _
      · rfl
  refine ⟨t, ht, hm, ?_, ?_⟩
  · rw [Device.partnerHealth, Device.get2, Device.get_congr regs, Device.get_congr regs, he]
    exact Device.partnerWord_shows _ _ word
  · rw [Device.get_congr regs, he, Device.partnerWord, Device.put2, Device.get_put_ne _ _ _ _ _ _ (by decide), Device.get_put_ne _ _ _ _ _ _ (by decide)]
    exact Device.framed_get (d := s.chip.dev.quiet) a n q 0 (by decide)

end Said

/-! ### Mirrored writes and pages of a resync -/

/-- A mirrored write that follows in sequence is carried out. -/
def Chip.mirrorStep (e : MirrorEntry) (c : Chip) : Chip :=
  match c.dev.pair.mirror.recv with
  | some r =>
    if e.seq = r + 1 then (c.mirrorDo e).mapDev (fun (d : Device) => d.setMirror (fun (m : Mirror) => { m with recv := some e.seq }))
    else c
  | none => c

theorem Device.mirrorReached_recv (d : Device) : d.mirrorReached.pair.mirror.recv = d.pair.mirror.recv := by
  unfold mirrorReached
  split
  · split <;> rfl
  · rfl

theorem Chip.mirrorDo_memory {c : Chip} {e : MirrorEntry} (h : e.target = 0) : (c.mirrorDo e).mem = (c.mem.writePort e.addr e.data).1 := by
  unfold mirrorDo
  split
  · rfl
  · next two => exact absurd (h.symm.trans two) (by decide)
  · next other _ => exact absurd h other

section Chips

variable {s : State} {h : TetherHdr}

theorem Device.Right.quiet {d : Device} {ty : Nat} (right : d.Right ty h) : d.quiet.Right ty h :=
  ⟨right.listens, right.crc, right.proto, right.unit, right.other, right.tick, right.alive, right.once⟩

theorem tetherMirror_runs (e : MirrorEntry) (right : s.chip.dev.Right 0x02 h) (follows : s.chip.dev.role = 3 ∨ s.chip.dev.role = 4) :
    ∃ (c : Chip) (t : State), exec (.tetherMirrorReceive h [e]) s = .next t ∧ c.mem = s.chip.mem ∧
      c.dev.pair.mirror.recv = s.chip.dev.pair.mirror.recv ∧ t.chip = (c.mirrorStep e).mapDev Device.mirrorReached := by
  obtain ⟨a, n, g, ran⟩ := s.chip.dev.quiet.frameIn_right right.quiet
  have takes : (s.chip.dev.quiet.framed a n g).follows = true := by
    simp only [Device.follows, Device.framed_role, Bool.or_eq_true, decide_eq_true_eq]
    exact follows
  have runs : exec (.tetherMirrorReceive h [e]) s = onChip (Chip.mirrorIn h [e]) s := rfl
  have body : Chip.mirrorIn h [e] s.chip.quiet =
      ((⟨s.chip.mem, s.chip.dev.quiet.framed a n g⟩ : Chip).mirrorStep e).mapDev Device.mirrorReached := by
    unfold Chip.mirrorIn
    rw [show s.chip.quiet.dev = s.chip.dev.quiet from rfl, ran]
    dsimp only
    rw [if_neg (by simp [takes])]
    rfl
  exact ⟨⟨s.chip.mem, s.chip.dev.quiet.framed a n g⟩, _, runs.trans (by rw [onChip, body]), rfl, rfl, rfl⟩

theorem tetherMirror_taken (e : MirrorEntry) (r : Nat) (right : s.chip.dev.Right 0x02 h) (follows : s.chip.dev.role = 3 ∨ s.chip.dev.role = 4)
    (reached : s.chip.dev.pair.mirror.recv = some r) :
    ∃ t, exec (.tetherMirrorReceive h [e]) s = .next t ∧
      (e.seq ≠ r + 1 → t.chip.mem = s.chip.mem ∧ t.chip.dev.pair.mirror.recv = some r) ∧
      (e.seq = r + 1 → t.chip.dev.pair.mirror.recv = some e.seq ∧
        (e.target = 0 → t.chip.mem = (s.chip.mem.writePort e.addr e.data).1)) := by
  obtain ⟨c, t, ht, mem, recv, ran⟩ := tetherMirror_runs e right follows
  have recv := recv.trans reached
  refine ⟨t, ht, fun other => ?_, fun next => ⟨?_, fun dram => ?_⟩⟩
  · have stays : c.mirrorStep e = c := by rw [Chip.mirrorStep, recv]; exact if_neg other
    rw [ran, stays]
    exact ⟨mem, c.dev.mirrorReached_recv.trans recv⟩
  · have goes : c.mirrorStep e = (c.mirrorDo e).mapDev (fun (d : Device) => d.setMirror (fun (m : Mirror) => { m with recv := some e.seq })) := by
      rw [Chip.mirrorStep, recv]
      exact if_pos next
    rw [ran, goes]
    exact Device.mirrorReached_recv _
  · have goes : c.mirrorStep e = (c.mirrorDo e).mapDev (fun (d : Device) => d.setMirror (fun (m : Mirror) => { m with recv := some e.seq })) := by
      rw [Chip.mirrorStep, recv]
      exact if_pos next
    rw [ran, goes, ← mem]
    exact Chip.mirrorDo_memory dram

/-- The copy after pages of a resync. -/
def Chip.pagesIn (pages : List (Nat × List Byte)) (total : Nat) (endSeq : Option Nat) (c : Chip) : Chip :=
  let m := forL pages (fun (q : Nat × List Byte) (m : Memory) => (m.writePort (q.1 * 4096) (q.2.take 4096)).1) c.mem
  let old : List Nat := match c.dev.pair.mirror.copy with
    | some x => x.1
    | none => []
  let got := (old ++ pages.map Prod.fst).dedup
  let d := forL pages (fun (q : Nat × List Byte) (d : Device) => d.pageNote 0 (q.1 * 4096) 4096) c.dev
  let d := d.put F.PAIR_SYNC_PROGRESS_PAGES 0 (total - got.length)
  { mem := m
    dev := d.setMirror (fun (x : Mirror) => { x with
      copy := some (got, 0, 0)
      recv := match x.recv, endSeq with
        | none, some e => some e
        | r, _ => r
      whole := x.whole || (endSeq.isSome && decide (total ≤ got.length)) }) }

theorem Chip.pagesIn_page (c : Chip) (p : Nat) (l : List Byte) (total : Nat) (endSeq : Option Nat) (whole : l.length = 4096) :
    (c.pagesIn [(p, l)] total endSeq).mem = (c.mem.writePort (p * 4096) l).1 ∧ (c.pagesIn [(p, l)] total endSeq).dev.role = c.dev.role ∧
      (c.pagesIn [(p, l)] total endSeq).dev.syncSt = c.dev.syncSt := by
  have all : l.take 4096 = l := List.take_of_length_le (le_of_eq whole)
  refine ⟨?_, ?_, ?_⟩
  · show (c.mem.writePort (p * 4096) (l.take 4096)).1 = _
    rw [all]
  · exact Device.get_put_ne (c.dev.pageNote 0 (p * 4096) 4096) F.PAIR_SYNC_PROGRESS_PAGES F.PAIR_STATUS_ROLE 0 0 _ (by decide)
  · exact Device.get_put_ne (c.dev.pageNote 0 (p * 4096) 4096) F.PAIR_SYNC_PROGRESS_PAGES F.PAIR_STATUS_SYNC 0 0 _ (by decide)

theorem tetherSync_taken (p : Nat) (l : List Byte) (total : Nat) (right : s.chip.dev.Right 0x04 h) (standby : s.chip.dev.role = 3)
    (syncing : s.chip.dev.syncSt = 1) (whole : l.length = 4096) :
    ∃ t, exec (.tetherSyncReceive h [(p, l)] total none) s = .next t ∧ t.chip.mem = (s.chip.mem.writePort (p * 4096) l).1 ∧
      t.chip.dev.role = 3 ∧ t.chip.dev.syncSt = 1 := by
  obtain ⟨a, n, g, ran⟩ := s.chip.dev.quiet.frameIn_right right.quiet
  have role : (s.chip.dev.quiet.framed a n g).role = 3 := (Device.framed_role a n g).trans standby
  have sync : (s.chip.dev.quiet.framed a n g).syncSt = 1 := (Device.framed_syncSt a n g).trans syncing
  generalize s.chip.dev.quiet.framed a n g = e at ran role sync
  have runs : exec (.tetherSyncReceive h [(p, l)] total none) s = onChip (Chip.syncIn h [(p, l)] total none) s := rfl
  have body : Chip.syncIn h [(p, l)] total none s.chip.quiet = (⟨s.chip.mem, e⟩ : Chip).pagesIn [(p, l)] total none := by
    unfold Chip.syncIn
    rw [show s.chip.quiet.dev = s.chip.dev.quiet from rfl, ran]
    dsimp only
    rw [if_neg (by simp [role, sync]), if_neg (by simp [sync])]
    rfl
  obtain ⟨mem, roles, syncs⟩ := (⟨s.chip.mem, e⟩ : Chip).pagesIn_page p l total none whole
  exact ⟨_, runs.trans (by rw [onChip, body]), mem, roles.trans role, syncs.trans sync⟩

end Chips

/-- What a command whose frame is discarded answers. -/
theorem tetherFrame_discarded {s : State} {c : Instr} {ty : Nat} {h : TetherHdr} {e : Device} (hc : tetherFrame c = some (ty, h))
    (judged : s.chip.dev.quiet.frameIn ty h = (e, false)) (discards : s.chip.dev.quiet.Discards e) {t : State} (ht : exec c s = .next t) :
    t.chip.dev = e ∧ t.chip.mem = s.chip.mem ∧ t.chip.dev.pair = s.chip.dev.pair ∧ s.chip.dev.keeps t.chip.dev (but frameShown) ∧
      t.chip.dev.get F.PAIR_CNT_FRAME_ERR_COUNT =
        min (s.chip.dev.get F.PAIR_CNT_FRAME_ERR_COUNT + 1) (2 ^ F.PAIR_CNT_FRAME_ERR_COUNT.width - 1) := by
  obtain ⟨u, hu, chip⟩ := tetherFrame_untaken hc judged
  obtain rfl : u = t := Host.Outcome.next.inj (hu.symm.trans ht)
  have dev : u.chip.dev = e := by rw [chip]
  exact ⟨dev, by rw [chip]; rfl, by rw [dev]; exact discards.pair, by rw [dev]; exact discards.fields, by rw [dev]; exact discards.counted⟩

/-- Settles O49: a frame is not taken where one check of R284 fails, and a taken one does what its type says. -/
theorem tetherFramesAreJudgedAndTaken : Obligations.TetherFramesAreJudgedAndTaken := by
  unfold Obligations.TetherFramesAreJudgedAndTaken
  refine ⟨fun s c ty h hc => ?_, fun s h listens crc proto unit other tick => ?_⟩
  · intro d own discarded
    obtain ⟨t, ht⟩ : ∃ t, exec c s = .next t := by
      obtain ⟨t, ht, _⟩ := everyCommandAnswersANextState c s
      exact ⟨t, ht⟩
    have discards {e : Device} (judged : s.chip.dev.quiet.frameIn ty h = (e, false)) (kept : s.chip.dev.quiet.Discards e) :
        t.chip.dev = e ∧ discarded t := tetherFrame_discarded hc judged kept ht
    refine ⟨t, ht, fun deaf => ?_, fun listens => ?_⟩
    · obtain ⟨u, hu, chip⟩ := tetherFrame_untaken hc (s.chip.dev.quiet.frameIn_deaf ty h deaf)
      obtain rfl : u = t := Host.Outcome.next.inj (hu.symm.trans ht)
      exact chip
    · have judged : s.chip.dev.quiet.Misjudged ty h := Device.frameIn_misjudged ty (d := s.chip.dev.quiet) listens
      refine ⟨fun crc => ?_, fun crc proto => ?_, fun crc proto => ⟨fun clash => ?_, fun clash unit => ?_, fun clash unit => ⟨fun tick => ?_,
        fun a tick last moved => ?_⟩⟩⟩
      · obtain ⟨e, out, kept⟩ := judged.crc crc
        exact (discards out kept).2
      · obtain ⟨e, out, kept, event⟩ := judged.proto crc proto
        obtain ⟨dev, gone⟩ := discards out kept
        exact ⟨gone, by rw [dev]; exact event⟩
      · obtain ⟨e, out, kept, event⟩ := judged.clash crc proto clash
        obtain ⟨dev, gone⟩ := discards out kept
        exact ⟨gone, by rw [dev]; exact event⟩
      · obtain ⟨e, out, kept⟩ := judged.stranger crc proto clash unit
        exact (discards out kept).2
      · obtain ⟨e, out, kept, status, event⟩ := judged.tick crc proto clash unit tick
        obtain ⟨dev, gone⟩ := discards out kept
        exact ⟨gone, by rw [dev]; exact status, by rw [dev]; exact event⟩
      · obtain ⟨e, out, kept⟩ := judged.alive crc proto clash unit tick a last moved
        exact (discards out kept).2
  · intro d role fresh shown
    have right {ty : Nat} (new : fresh ty) : s.chip.dev.Right ty h := ⟨listens, crc, proto, unit, other, tick, new.1, new.2⟩
    exact ⟨fun items new follows => tetherState_taken items (right new) follows,
      fun n new follows full => tetherStateEnd_taken n (right new) follows full,
      fun e r new follows reached => tetherMirror_taken e r (right new) follows reached,
      fun p l total new standby syncing whole => tetherSync_taken p l total (right new) standby syncing whole,
      fun msg new word => tetherHealth_taken msg (right new) word,
      fun edge new standby => leaseCommit_taken edge (right new) standby,
      fun new holder idle uncommitted => leaseRevert_taken (right new) holder idle uncommitted,
      fun lane new low high unasked => leaseRetrain_taken lane (right new) low high unasked,
      fun g new word => tetherDigest_taken g (right new) word,
      fun gives new standby => tetherDecision_taken gives (right new) standby⟩

end Sys2Proof.Machine
end

section
/-!
SUPPORT. Roles, the halter and the rein: O48.
-/

namespace Sys2Proof.Machine

/-! ### The rein lines (R285 to R287) -/

section Out

variable {s : State}

theorem reinOutRelease_ends {p : Nat × Nat} (hp : s.chip.dev.pair.rein.pulse = some p) :
    ∃ t, exec .reinOutRelease s = .next t ∧ t.chip.mem = s.chip.mem ∧ t.chip.dev.regs = s.chip.dev.regs ∧
      t.chip.dev.pair.rein.pulse = none ∧ p.2 ≤ t.chip.dev.now := by
  obtain ⟨t, ht, hm, hd⟩ := onDev_next (s := s) (c := .reinOutRelease) (f := Device.reinRelease) rfl rfl
  obtain ⟨w, hw⟩ : ∃ w, w = s.chip.dev.quiet.waitNow p.2 := ⟨_, rfl⟩
  have ends : t.chip.dev = w.setRein (fun (r : Rein) => { r with pulse := none }) := by
    rw [hd, Device.reinRelease, show s.chip.dev.quiet.pair.rein.pulse = some p from hp, hw]
  refine ⟨t, ht, hm, ?_, by rw [ends]; rfl, ?_⟩
  · rw [ends]
    exact (congrArg Device.regs hw).trans (s.chip.dev.quiet.waitNow_regs _)
  · rw [ends]
    show p.2 ≤ w.now
    rw [hw, Device.waitNow_now]
    exact le_max_right ..

/-- The tick after the last edge in whose predicted start the owed RELEASE goes out. -/
def releaseTick (now first period : Nat) : Nat := if now ≤ first then 0 else (now - first + period - 1) / period

theorem releaseTick_reaches {now first period : Nat} (h : period ≠ 0) : now ≤ first + releaseTick now first period * period := by
  unfold releaseTick
  split
  · omega
  · have := Nat.div_add_mod (now - first + period - 1) period
    have := Nat.mod_lt (now - first + period - 1) (Nat.pos_of_ne_zero h)
    rw [Nat.mul_comm]
    omega

theorem reinReleasePattern_sends (owed : s.chip.dev.pair.rein.owed = true) (period : s.chip.dev.pair.rein.period ≠ 0) :
    let d := s.chip.dev
    let r := d.pair.rein
    ∃ t n, exec .reinReleasePattern s = .next t ∧ t.chip.mem = s.chip.mem ∧ t.chip.dev.regs = d.regs ∧
      d.now ≤ r.edge + r.period / 10 + n * r.period ∧ r.edge + r.period / 10 + n * r.period ≤ t.chip.dev.now ∧
      t.chip.dev.pair.rein.owed = false ∧
      t.chip.dev.pair.rein.pulse = some (r.edge + r.period / 10 + n * r.period, r.edge + r.period / 10 + n * r.period + 200000) := by
  intro d r
  obtain ⟨n, hn⟩ : ∃ n, n = releaseTick d.now (r.edge + r.period / 10) r.period := ⟨_, rfl⟩
  obtain ⟨at_, hat⟩ : ∃ k, k = r.edge + r.period / 10 + n * r.period := ⟨_, rfl⟩
  obtain ⟨t, ht, hm, hd⟩ := onDev_next (s := s) (c := .reinReleasePattern) (f := Device.reinPattern) rfl rfl
  obtain ⟨w, hw⟩ : ∃ w, w = s.chip.dev.quiet.waitNow at_ := ⟨_, rfl⟩
  have sends : t.chip.dev = w.setRein (fun (r : Rein) => { r with owed := false, pulse := some (at_, at_ + 200000) }) := by
    have due : ¬(!s.chip.dev.pair.rein.owed || decide (s.chip.dev.pair.rein.period = 0)) = true := by
      rw [owed]
      simpa using period
    rw [hd, hw, hat, hn]
    exact if_neg due
  refine ⟨t, n, ht, hm, ?_, ?_, ?_, by rw [sends]; rfl, by rw [sends, hat]; rfl⟩
  · rw [sends]
    exact (congrArg Device.regs hw).trans (s.chip.dev.quiet.waitNow_regs _)
  · rw [hn]
    exact releaseTick_reaches period
  · rw [← hat, sends]
    show at_ ≤ w.now
    rw [hw, Device.waitNow_now]
    exact le_max_right ..

theorem pairReinStuck_raises (paired : s.chip.dev.role ≠ 0) (free : s.chip.dev.pair.rein.stuck = false) :
    ∃ t, exec .pairReinStuck s = .next t ∧ t.chip.mem = s.chip.mem ∧ s.chip.dev.keeps t.chip.dev (but [F.PAIR_EVENTS_REIN_STUCK]) ∧
      t.chip.dev.get F.PAIR_EVENTS_REIN_STUCK = 1 ∧ t.chip.dev.pair.rein = { s.chip.dev.pair.rein with stuck := true } := by
  obtain ⟨t, ht, hm, hd⟩ := onDev_next (s := s) (c := .pairReinStuck) (f := Device.reinStuck) rfl rfl
  obtain ⟨e, he⟩ : ∃ e, e = s.chip.dev.quiet.setRein (fun (r : Rein) => { r with stuck := true }) := ⟨_, rfl⟩
  have raises : t.chip.dev = e.raise F.PAIR_EVENTS_REIN_STUCK := by
    rw [hd, he]
    have listens : ¬(decide (s.chip.dev.role = 0) || s.chip.dev.pair.rein.stuck) = true := by
      rw [free]
      simpa using paired
    exact if_neg listens
  have regs : e.regs = s.chip.dev.regs := by rw [he]; rfl
  obtain ⟨g, q, only⟩ := e.raise_only F.PAIR_EVENTS_REIN_STUCK 0
  refine ⟨t, ht, hm, ?_, ?_, ?_⟩
  · rw [raises]
    exact Device.keeps_trans (Device.keeps_of_regs regs _) (e.keeps_raise _ _ (by simp))
  · rw [raises]
    exact e.get_raise_same _ _ (by decide)
  · rw [raises, only, he]
    rfl

theorem pairReinStuck_quiet (h : s.chip.dev.role = 0 ∨ s.chip.dev.pair.rein.stuck = true) :
    ∃ t, exec .pairReinStuck s = .next t ∧ t.chip = s.chip.quiet := by
  have stays : s.chip.dev.quiet.reinStuck = s.chip.dev.quiet := if_pos (by
    rw [Bool.or_eq_true, decide_eq_true_eq]
    exact h)
  have runs : exec .pairReinStuck s = onDev Device.reinStuck s := rfl
  exact ⟨_, runs.trans (by rw [onDev, stays]), rfl⟩

end Out

/-! ### Pulses of the partner -/

section Pulse

/-- A width that a renewal with mark `m` may have. -/
def nearRenewal (w m : Nat) : Prop := 10 * (1 + m) ≤ w + 2 ∧ w ≤ 10 * (1 + m) + 2

theorem renewalOf_any {w m : Nat} (hm : m < 4) (near : nearRenewal w m) : renewalOf none w = some m := by
  obtain ⟨low, high⟩ := near
  obtain rfl | rfl | rfl | rfl : m = 0 ∨ m = 1 ∨ m = 2 ∨ m = 3 := by omega
  all_goals
    simp only [renewalOf, List.find?_cons]
    grind

theorem renewalOf_next {w m : Nat} (near : nearRenewal w m) : renewalOf (some m) w = some m := by
  obtain ⟨low, high⟩ := near
  simp only [renewalOf, List.find?_cons, decide_eq_true (And.intro low high)]

theorem renewalOf_none {expect : Option Nat} {w : Nat}
    (h : ∀ m, m < 4 → nearRenewal w m → ∃ k, expect = some k ∧ m ≠ k) (he : ∀ k, expect = some k → k < 4) : renewalOf expect w = none := by
  unfold renewalOf
  rw [List.find?_eq_none]
  intro m hm
  rw [decide_eq_true_eq]
  intro near
  cases expect with
  | none =>
    obtain ⟨k, hk, _⟩ := h m (by simp at hm; omega) near
    cases hk
  | some k =>
    obtain rfl : m = k := by simpa using hm
    obtain ⟨k', hk, other⟩ := h m (he m rfl) near
    exact other (Option.some.inj hk)

variable (d : Device) (us w : Nat)

/-- The mark that the next renewal has, where one came in the last ticks. -/
def Device.reinExpects : Option Nat :=
  let r := d.pair.rein
  let recent := match r.valid with
    | some v => decide (v ∈ d.pair.edges.take 4)
    | none => false
  if recent then some ((r.m + 1) % 4) else none

/-- A unit that judges the pulses of its partner. -/
def Device.judgesRein : Bool := !(decide (d.role = 0) || !d.inRun || !d.ticking || decide (w > 1000))

/-- The line is not stuck low. -/
def Device.reinFree : Device := d.setRein (fun (r : Rein) => { r with stuck := false })

/-- A renewal with mark `m` was seen in this tick. -/
def Device.reinRenewed (m : Nat) : Device :=
  let e := d.setRein (fun (r : Rein) => { r with valid := some d.tick.num, m := m, release := none })
  if e.holds && decide (d.pair.rein.renewed = some d.tick.num) then e.dualSeen else e

/-- A pulse that starts in the window and is no RELEASE. -/
def Device.reinJudged : Device :=
  match renewalOf d.reinExpects w with
  | some m => d.reinRenewed m
  | none => d.bump F.PAIR_CNT_REIN_MISS_COUNT 0 1

theorem Device.reinPulse_eq : d.reinPulse us w = if !d.reinFree.judgesRein w then d.reinFree
    else if !d.reinFree.inWindow us then d.reinFree.bump F.PAIR_CNT_REIN_MISS_COUNT 0 1
    else if 190 ≤ w ∧ w ≤ 210 then d.reinFree.setRein (fun (r : Rein) => { r with release := some d.tick.num })
    else d.reinFree.reinJudged w := by
  rw [judgesRein, Bool.not_not]
  rfl

end Pulse

section Pulse

variable (d : Device) (us w : Nat)

/-- The fields that a pulse of the partner shows itself in. -/
def pulseShown : List Fld := [F.PAIR_CNT_REIN_MISS_COUNT, F.PAIR_EVENTS_DUAL_HOLDER, F.BBOX_LOST_COUNT]

theorem Device.dualSeen_shows : d.keeps d.dualSeen (but pulseShown) ∧ d.dualSeen.pair.rein = d.pair.rein ∧
    (d.pair.dual = false → d.dualSeen.get F.PAIR_EVENTS_DUAL_HOLDER = 1) := by
  unfold dualSeen
  split
  · next dual => exact ⟨d.keeps_refl _, rfl, fun h => absurd dual (by simp [h])⟩
  · obtain ⟨e, he⟩ : ∃ e, e = d.setPair (fun (p : PairX) => { p with dual := true }) := ⟨_, rfl⟩
    have regs : e.regs = d.regs := by rw [he]; rfl
    have rein : e.pair.rein = d.pair.rein := by rw [he]; rfl
    rw [← he]
    obtain ⟨g, q, only⟩ := e.raise_only F.PAIR_EVENTS_DUAL_HOLDER 0
    obtain ⟨f, hf⟩ : ∃ f, f = e.raise F.PAIR_EVENTS_DUAL_HOLDER := ⟨_, rfl⟩
    have raised : e.keeps f (but pulseShown) := hf ▸ e.keeps_raise _ _ (by simp [pulseShown])
    rw [← hf]
    dsimp only
    obtain ⟨g', q', only'⟩ := f.record_only 0x0042 11 f.pair.seenEpoch (f.get F.PAIR_EPOCH_EPOCH)
    refine ⟨?_, ?_, fun _ => ?_⟩
    · exact Device.keeps_trans (Device.keeps_of_regs regs _) (Device.keeps_trans raised (f.keeps_record _ _ _ _ (by simp [pulseShown])))
    · rw [only', hf, only]
      exact rein
    · rw [(f.keeps_record 0x0042 11 f.pair.seenEpoch (f.get F.PAIR_EPOCH_EPOCH) (l := [F.BBOX_LOST_COUNT]) (by simp)).1 _ _ (by decide), hf]
      exact e.get_raise_same _ _ (by decide)

theorem Device.reinRenewed_shows (m : Nat) :
    let e := d.reinRenewed m
    d.keeps e (but pulseShown) ∧ e.pair.rein = { d.pair.rein with valid := some d.tick.num, m := m, release := none } ∧
      (d.holds = true → d.pair.rein.renewed = some d.tick.num → d.pair.dual = false → e.get F.PAIR_EVENTS_DUAL_HOLDER = 1) := by
  intro e
  obtain ⟨f, hf⟩ : ∃ f, f = d.setRein (fun (r : Rein) => { r with valid := some d.tick.num, m := m, release := none }) := ⟨_, rfl⟩
  have regs : f.regs = d.regs := by rw [hf]; rfl
  have rein : f.pair.rein = { d.pair.rein with valid := some d.tick.num, m := m, release := none } := by rw [hf]; rfl
  have dual : f.pair.dual = d.pair.dual := by rw [hf]; rfl
  have holds : f.holds = d.holds := by rw [hf]; rfl
  have he : e = if f.holds && decide (d.pair.rein.renewed = some d.tick.num) then f.dualSeen else f := by rw [hf]; rfl
  obtain ⟨kept, same, event⟩ := f.dualSeen_shows
  rw [he]
  split
  · exact ⟨Device.keeps_trans (Device.keeps_of_regs regs _) kept, same.trans rein, fun _ _ h => event (dual.trans h)⟩
  · next not => exact ⟨Device.keeps_of_regs regs _, rein, fun h h' _ => absurd (by simp [holds, h, h']) not⟩

/-- What a unit makes of a pulse that it does not count as a renewal or a release. -/
def Device.misses (d e : Device) : Prop :=
  e.pair = { d.pair with rein := { d.pair.rein with stuck := false } } ∧
    e.get F.PAIR_CNT_REIN_MISS_COUNT = min (d.get F.PAIR_CNT_REIN_MISS_COUNT + 1) (2 ^ F.PAIR_CNT_REIN_MISS_COUNT.width - 1)

theorem Device.reinFree_misses : d.misses (d.reinFree.bump F.PAIR_CNT_REIN_MISS_COUNT 0 1) := ⟨rfl, Device.get_bump _ _ _ _⟩

theorem Device.judgesRein_iff : d.judgesRein w = true ↔ d.role ≠ 0 ∧ d.pwr = .run ∧ d.ticking = true ∧ w ≤ 1000 := by
  simp only [judgesRein, inRun, Bool.not_eq_true', Bool.or_eq_false_iff, decide_eq_false_iff_not, Bool.not_eq_false', decide_eq_true_eq, not_lt, and_assoc]

/-- A renewal came in one of the last four ticks. -/
def Device.reinRecent : Prop := ∃ v, d.pair.rein.valid = some v ∧ v ∈ d.pair.edges.take 4

theorem Device.reinExpects_recent (h : d.reinRecent) : d.reinExpects = some ((d.pair.rein.m + 1) % 4) := by
  obtain ⟨v, hv, recent⟩ := h
  rw [reinExpects]
  simp [hv, recent]

theorem Device.reinExpects_long (h : ¬d.reinRecent) : d.reinExpects = none := by
  have late (v : Nat) (hv : d.pair.rein.valid = some v) : v ∉ d.pair.edges.take 4 := fun h' => h ⟨v, hv, h'⟩
  rw [reinExpects]
  cases hv : d.pair.rein.valid with
  | none => rfl
  | some v =>
    exact if_neg (by simpa using late v hv)

theorem Device.reinFree_expects : d.reinFree.reinExpects = d.reinExpects := rfl

/-- Which pulses are renewals, releases and misses. -/
theorem Device.reinPulse_shows :
    let e := d.reinPulse us w
    let r := d.pair.rein
    let judged := d.role ≠ 0 ∧ d.pwr = .run ∧ d.ticking = true ∧ w ≤ 1000
    let free : Rein := { r with stuck := false }
    d.keeps e (but pulseShown) ∧
      (¬judged → e.pair = { d.pair with rein := free } ∧ e.regs = d.regs) ∧
      (judged → d.inWindow us = false → d.misses e) ∧
      (judged → d.inWindow us = true → 190 ≤ w → w ≤ 210 → e.pair.rein = { free with release := some d.tick.num } ∧ e.regs = d.regs) ∧
      (∀ m, judged → d.inWindow us = true → m < 4 → nearRenewal w m → (d.reinRecent → m = (r.m + 1) % 4) →
        e.pair.rein = { free with valid := some d.tick.num, m := m, release := none } ∧
        (d.holds = true → r.renewed = some d.tick.num → d.pair.dual = false → e.get F.PAIR_EVENTS_DUAL_HOLDER = 1)) ∧
      (judged → d.inWindow us = true → ¬(190 ≤ w ∧ w ≤ 210) → (∀ m, m < 4 → nearRenewal w m → d.reinRecent ∧ m ≠ (r.m + 1) % 4) → d.misses e) := by
  intro e r judged free
  have he : e = _ := d.reinPulse_eq us w
  have freed : d.keeps d.reinFree (but pulseShown) := Device.keeps_of_regs rfl _
  have counted (f : Device) : f.keeps (f.bump F.PAIR_CNT_REIN_MISS_COUNT 0 1) (but pulseShown) :=
    Device.keeps_put _ _ _ _ (but_apart (by simp [pulseShown]))
  have judges : d.reinFree.judgesRein w = true ↔ judged := d.judgesRein_iff w
  by_cases hj : judged
  · rw [if_neg (by simp [judges.mpr hj])] at he
    cases window : d.inWindow us with
    | false =>
      rw [if_pos (show (!d.reinFree.inWindow us) = true from (congrArg not window : (!d.inWindow us) = true))] at he
      rw [he]
      exact ⟨Device.keeps_trans freed (counted _), fun h => absurd hj h, fun _ _ => d.reinFree_misses, by simp, by simp, by simp⟩
    | true =>
      rw [if_neg (show ¬(!d.reinFree.inWindow us) = true from fun h => absurd (window.symm.trans (Bool.not_eq_true' _ ▸ h : d.inWindow us = false)) (by decide))] at he
      by_cases release : 190 ≤ w ∧ w ≤ 210
      · rw [if_pos release] at he
        rw [he]
        refine ⟨Device.keeps_trans freed (Device.keeps_of_regs rfl _), fun h => absurd hj h, by simp, fun _ _ _ _ => ⟨rfl, rfl⟩,
          fun m _ _ hm near => absurd near.2 ?_, fun _ _ h => absurd release h⟩
        omega
      · rw [if_neg release] at he
        rw [he]
        have renewed (m : Nat) (hm : renewalOf d.reinExpects w = some m) : d.reinFree.reinJudged w = d.reinFree.reinRenewed m := by
          rw [reinJudged, d.reinFree_expects, hm]
        have missed (hm : renewalOf d.reinExpects w = none) : d.reinFree.reinJudged w = d.reinFree.bump F.PAIR_CNT_REIN_MISS_COUNT 0 1 := by
          rw [reinJudged, d.reinFree_expects, hm]
        refine ⟨?_, fun h => absurd hj h, by simp, fun _ _ h h' => absurd ⟨h, h'⟩ release, fun m _ _ hm near next => ?_, fun _ _ _ far => ?_⟩
        · cases hm : renewalOf d.reinExpects w with
          | none => rw [missed hm]; exact Device.keeps_trans freed (counted _)
          | some m => rw [renewed m hm]; exact Device.keeps_trans freed (d.reinFree.reinRenewed_shows m).1
        · have found : renewalOf d.reinExpects w = some m := by
            by_cases recent : d.reinRecent
            · rw [d.reinExpects_recent recent, ← next recent]
              exact renewalOf_next near
            · rw [d.reinExpects_long recent]
              exact renewalOf_any hm near
          obtain ⟨-, rein, dual⟩ := d.reinFree.reinRenewed_shows m
          rw [renewed m found]
          exact ⟨rein, dual⟩
        · have none : renewalOf d.reinExpects w = none := by
            refine renewalOf_none (fun m hm near => ?_) fun k hk => ?_
            · obtain ⟨recent, other⟩ := far m hm near
              exact ⟨_, d.reinExpects_recent recent, other⟩
            · by_cases recent : d.reinRecent
              · rw [d.reinExpects_recent recent] at hk
                obtain rfl := Option.some.inj hk
                exact Nat.mod_lt _ (by decide)
              · rw [d.reinExpects_long recent] at hk
                cases hk
          rw [missed none]
          exact d.reinFree_misses
  · rw [if_pos (by simp [Bool.eq_false_iff.mpr (fun h => hj (judges.mp h))])] at he
    rw [he]
    exact ⟨freed, fun _ => ⟨rfl, rfl⟩, fun h => absurd h hj, fun h => absurd h hj, fun _ h => absurd h hj, fun h => absurd h hj⟩

end Pulse

/-! ### Writes to the registers of the pair -/

section Sent

variable (d : Device)

theorem Device.pair_forL {β : Type} {f : β → Device → Device} (hf : ∀ b (d : Device), (f b d).pair = d.pair) (l : List β) :
    ∀ d : Device, (forL l f d).pair = d.pair := by
  induction l with
  | nil => exact fun _ => rfl
  | cons b r ih => exact fun d => (ih _).trans (hf b d)

theorem Device.igmpUpdate_pair (before : Nat → List (Nat × List Nat)) : (d.igmpUpdate before).pair = d.pair := by
  have sent (p : Nat) (r : List (Nat × Nat × List Nat)) (d : Device) : (d.igmpReport p r).pair = d.pair := by
    unfold igmpReport igmpSend
    split
    · split <;> rfl
    · rfl
  refine Device.pair_forL (fun p d => ?_) (List.range 28) d
  dsimp only
  split
  · rfl
  · exact sent p _ d

theorem Device.hopNeed_pair (p dst : Nat) : (d.hopNeed p dst).pair = d.pair := by
  have need (ip : Nat) : (d.arpNeed p ip).pair = d.pair := by
    unfold arpNeed
    split <;> rfl
  unfold hopNeed
  split
  · rfl
  · split
    · exact need _
    · rfl

theorem Device.hopScan_pair : d.hopScan.pair = d.pair := by
  refine Device.pair_forL (fun e d => ?_) (List.range 64) d
  split
  · rfl
  · refine Device.pair_forL (fun k d => ?_) _ d
    split
    · exact (Device.hopNeed_pair ..).trans (d.hopNeed_pair ..)
    · rfl

theorem Device.logWrite_pair (slot w : Nat) {a : Nat} (h : a / 65536 = 11) : d.logWrite slot a w = d := by
  have own : carried a = false := by simp [carried, h]
  exact if_neg (by simp [own])

end Sent

/-- An admitted write to a row of PAIR that is no half: the word stored, its effect, then the reports and addresses that the change needs. -/
theorem Chip.regWrite_pair {c : Chip} {slot i w hwSet a : Nat} {r : RegRow} (hf : findReg a = some (r, i)) (hlo : r.isLo = false)
    (hhi : r.lowOf = none) (h11 : r.base / 65536 = 11) (hown : (c.dev.ownDrop r i w).1 = false) (hres : c.dev.reservedWrite r i w = false)
    (hbusy : c.dev.busyWrite r slot i w = false) : c.regWrite slot a w hwSet =
    ((⟨c.mem, c.dev.storeWords [(r, w)] r slot i⟩ : Chip).writeEffect slot r i w c.dev).mapDev
      (fun d => ((((d.setAgain r slot i hwSet).igmpUpdate (fun p => c.dev.memberships.getD p [])).hopScan).logWrite slot (r.base + r.stride * i) w)) := by
  have words : c.dev.writeWords r slot i w = [(r, w)] := by simp only [Device.writeWords, hhi]
  simp [regWrite, hf, hown, hlo, words, hres, hbusy, c.dev.unhold_of_no_low hhi, h11, mapDev]

/-- An admitted write to a row of PAIR: the word, its effect, and what the network sends for it. -/
theorem pairWrite_runs {s : State} {slot w : Nat} {r : RegRow} (hr : r = R.PAIR_CTRL ∨ r = R.PAIR_CMD) (hs : slot < 8) (hw : w < 2 ^ 32)
    (ha : s.chip.admits slot r 0 w = true) :
    ∃ t, writeTo slot r 0 w s = .next t ∧ t.chip.mem = s.chip.mem ∧
      t.chip.dev.regs = ((s.chip.dev.quiet.storeWord r slot 0 w).pairWrite slot r w s.chip.dev.quiet).regs ∧
      t.chip.dev.pair = ((s.chip.dev.quiet.storeWord r slot 0 w).pairWrite slot r w s.chip.dev.quiet).pair := by
  have haq : s.chip.quiet.admits slot r 0 w = true := ha
  obtain ⟨-, -, -, -, hown, hres, hbusy⟩ := Chip.admits_conditions haq
  have reach := Chip.doWrite_admitted (hwSet := 0) haq hs hw
  have found : findReg (r.base + r.stride * 0) = some (r, 0) := by rcases hr with rfl | rfl <;> decide +kernel
  have low : r.isLo = false := by rcases hr with rfl | rfl <;> decide
  have high : r.lowOf = none := by rcases hr with rfl | rfl <;> decide
  have block : r.base / 65536 = 11 := by rcases hr with rfl | rfl <;> decide
  have plain : ∀ f ∈ r.flds, f.acc ≠ .w1c := by rcases hr with rfl | rfl <;> decide
  obtain ⟨e, he⟩ : ∃ e, e = (s.chip.dev.quiet.storeWord r slot 0 w).pairWrite slot r w s.chip.dev.quiet := ⟨_, rfl⟩
  have effect : Chip.writeEffect slot r 0 w s.chip.quiet.dev ⟨s.chip.quiet.mem, s.chip.quiet.dev.storeWords [(r, w)] r slot 0⟩ = ⟨s.chip.mem, e⟩ := by
    rw [he]
    rcases hr with rfl | rfl <;> rfl
  rw [Chip.regWrite_pair found low high block hown hres hbusy, effect, Chip.mapDev, Device.setAgain_of_no_w1c plain] at reach
  dsimp only at reach
  generalize (fun p => s.chip.quiet.dev.memberships.getD p []) = j at reach
  obtain ⟨g, hg⟩ : ∃ g, g = (e.igmpUpdate j).hopScan := ⟨_, rfl⟩
  rw [← hg, Device.logWrite_pair _ _ _ (by rw [Nat.mul_zero, Nat.add_zero]; exact block)] at reach
  rw [← he]
  have regs : g.regs = e.regs := by rw [hg, Device.hopScan_regs, Device.igmpUpdate_regs]
  have pair : g.pair = e.pair := by rw [hg, Device.hopScan_pair, Device.igmpUpdate_pair]
  exact ⟨_, congrArg (fun c : Chip => (.next { s with chip := c } : Host.Outcome State Fault Refusal)) reach, rfl, regs, pair⟩

section Role

variable (d : Device)

/-- The fields that a change of role shows itself in. -/
def roleShown : List Fld := [F.PAIR_STATUS_ROLE, F.PAIR_LAST_CHANGE_LO_TICK, F.PAIR_LAST_CHANGE_HI_TICK, F.BBOX_LOST_COUNT]

theorem Device.setRole_shows {r : Nat} (hr : r < 8) : (d.setRole r).role = r ∧ d.keeps (d.setRole r) (but roleShown) ∧
    ∃ g q, d.setRole r = { d with regs := g, bb := q } := by
  unfold setRole
  extract_lets old e
  by_cases same : old = r
  · rw [if_pos same]
    exact ⟨same, d.keeps_refl _, d.regs, d.bb, rfl⟩
  · rw [if_neg same]
    have shown : d.keeps e (but roleShown) := by
      have put (e : Device) (f : Fld) (v : Nat) (hf : f ∈ roleShown) : e.keeps (e.put f 0 v) (but roleShown) :=
        Device.keeps_put e f 0 v (but_apart (List.mem_append_left _ hf))
      exact Device.keeps_trans (put _ _ _ (by simp [roleShown])) (Device.keeps_trans (put _ _ _ (by simp [roleShown])) (put _ _ _ (by simp [roleShown])))
    have kept := e.keeps_record 0x0040 11 (old * 256 + r) (e.get F.PAIR_EPOCH_EPOCH) (l := [F.BBOX_LOST_COUNT]) (by simp)
    obtain ⟨g, q, only⟩ := e.record_only 0x0040 11 (old * 256 + r) (e.get F.PAIR_EPOCH_EPOCH)
    refine ⟨?_, Device.keeps_trans shown (e.keeps_record _ _ _ _ (by simp [roleShown])), g, q, only⟩
    rw [Device.role, kept.1 _ _ (by decide)]
    show ((d.put F.PAIR_STATUS_ROLE 0 r).put2 _ _ 0 d.tickNow).get F.PAIR_STATUS_ROLE 0 = r
    rw [Device.put2, Device.get_put_ne _ _ _ _ _ _ (by decide), Device.get_put_ne _ _ _ _ _ _ (by decide), Device.get_put_same]
    exact Nat.mod_eq_of_lt hr

end Role

section Ctrl

variable {s : State} {slot w : Nat}

theorem Device.storeCtrl_shows (d : Device) (slot w : Nat) :
    let e := d.storeWord R.PAIR_CTRL slot 0 w
    e.get F.PAIR_CTRL_EN = F.PAIR_CTRL_EN.of w ∧ e.get F.PAIR_CTRL_UNIT = F.PAIR_CTRL_UNIT.of w ∧ d.keeps e (but R.PAIR_CTRL.flds) := by
  have taken {f : Fld} (hf : f ∈ R.PAIR_CTRL.flds) (acc : f.acc = .rws) : (d.storeWord R.PAIR_CTRL slot 0 w).get f = f.of w :=
    (Device.storeWord_hasTaken (d := d) (slot := slot) (i := 0) (w := w) hf (by decide)).1 (.inr acc)
  exact ⟨taken (by simp [R.PAIR_CTRL]) rfl, taken (by simp [R.PAIR_CTRL]) rfl, d.keeps_storeWord ..⟩

/-- An admitted write that changes PAIR_CTRL.EN finds the unit outside RUN. -/
theorem pairEn_idle (ha : s.chip.admits slot R.PAIR_CTRL 0 w = true) (h : F.PAIR_CTRL_EN.of w ≠ s.chip.dev.get F.PAIR_CTRL_EN) : s.chip.dev.pwr ≠ .run := by
  obtain ⟨-, -, -, -, -, -, busy⟩ := Chip.admits_conditions ha
  intro run
  have field : s.chip.dev.fieldOf R.PAIR_CTRL slot 0 F.PAIR_CTRL_EN = s.chip.dev.get F.PAIR_CTRL_EN := rfl
  have idle : s.chip.dev.idle R.PAIR_CTRL 0 = false := (show s.chip.dev.idle R.PAIR_CTRL 0 = decide (s.chip.dev.pwr ≠ .run) from rfl).trans (by simp [run])
  rw [Device.busyWrite, idle, Bool.not_false, Bool.true_and, List.any_eq_false] at busy
  refine busy F.PAIR_CTRL_EN (by simp [R.PAIR_CTRL]) ?_
  rw [field, decide_eq_true h]
  rfl

theorem pairEn_writes (hs : slot < 8) (hw : w < 2 ^ 32) (ha : s.chip.admits slot R.PAIR_CTRL 0 w = true) :
    let d := s.chip.dev
    ∃ t, exec (.pairEnWrite slot w) s = .next t ∧ t.chip.mem = s.chip.mem ∧ t.chip.dev.get F.PAIR_CTRL_EN = F.PAIR_CTRL_EN.of w ∧
      t.chip.dev.get F.PAIR_CTRL_UNIT = F.PAIR_CTRL_UNIT.of w ∧ d.keeps t.chip.dev (outside [11, 17]) ∧
      (F.PAIR_CTRL_EN.of w = d.get F.PAIR_CTRL_EN → t.chip.dev.role = d.role) ∧
      (F.PAIR_CTRL_EN.of w ≠ d.get F.PAIR_CTRL_EN → d.pwr ≠ .run ∧ t.chip.dev.role = F.PAIR_CTRL_EN.of w) := by
  intro d
  obtain ⟨t, ht, hm, regs, -⟩ := pairWrite_runs (.inl rfl) hs hw ha
  obtain ⟨en, unit, stored⟩ := s.chip.dev.quiet.storeCtrl_shows slot w
  generalize s.chip.dev.quiet.storeWord R.PAIR_CTRL slot 0 w = e at en unit stored regs
  have effect : e.pairWrite slot R.PAIR_CTRL w s.chip.dev.quiet =
      if e.on F.PAIR_CTRL_EN = d.on F.PAIR_CTRL_EN then e else e.setRole (if e.on F.PAIR_CTRL_EN then 1 else 0) := rfl
  rw [effect] at regs
  have apart {f : Device} (h : e.keeps f (but roleShown)) : d.keeps f (outside [11, 17]) :=
    Device.keeps_trans (Device.keeps_mono stored (but_of_outside (by decide))) (Device.keeps_mono h (but_of_outside (by decide)))
  have bit : F.PAIR_CTRL_EN.of w < 2 := Nat.mod_lt _ (by decide)
  have bit' : d.get F.PAIR_CTRL_EN < 2 := d.get_lt _ _
  by_cases same : F.PAIR_CTRL_EN.of w = d.get F.PAIR_CTRL_EN
  · rw [if_pos (by rw [Device.on, Device.on, en, same])] at regs
    have get (f : Fld) : t.chip.dev.get f = e.get f := Device.get_congr regs f 0
    exact ⟨t, ht, hm, (get _).trans en, (get _).trans unit, Device.keeps_trans (apart (e.keeps_refl _)) (Device.keeps_of_regs regs _),
      fun _ => (get _).trans (stored.1 _ _ (by decide)), fun h => absurd same h⟩
  · have differs : e.on F.PAIR_CTRL_EN ≠ d.on F.PAIR_CTRL_EN := by
      rw [Device.on, Device.on, en]
      intro h
      rw [decide_eq_decide] at h
      omega
    have target : (if e.on F.PAIR_CTRL_EN then 1 else 0) = F.PAIR_CTRL_EN.of w := by
      rw [Device.on, en]
      split
      · next h =>
        have := of_decide_eq_true h
        omega
      · next h =>
        rw [decide_eq_true_eq] at h
        omega
    rw [if_neg differs, target] at regs
    obtain ⟨role, kept, -⟩ := e.setRole_shows (show F.PAIR_CTRL_EN.of w < 8 by omega)
    have get (f : Fld) : t.chip.dev.get f = (e.setRole (F.PAIR_CTRL_EN.of w)).get f := Device.get_congr regs f 0
    exact ⟨t, ht, hm, (get _).trans ((kept.1 _ _ (by decide)).trans en), (get _).trans ((kept.1 _ _ (by decide)).trans unit),
      Device.keeps_trans (apart kept) (Device.keeps_of_regs regs _), fun h => absurd h same, fun _ => ⟨pairEn_idle ha same, (get _).trans role⟩⟩

end Ctrl

/-! ### HANDOVER and RESYNC (R304, R308) -/

section Command

variable (d : Device) (slot op : Nat)

/-- The fields that a command of the pair shows itself in. -/
def cmdShown : List Fld := [F.PAIR_CMD_STATUS_OP, F.PAIR_CMD_STATUS_REQ_SLOT, F.PAIR_CMD_STATUS_RESULT, F.PAIR_CMD_STATUS_PENDING]

/-- A command of the pair shows its operation and its slot. -/
def Device.cmdNamed : Device := (d.put F.PAIR_CMD_STATUS_OP 0 op).put F.PAIR_CMD_STATUS_REQ_SLOT 0 slot

/-- A command of the pair waits. -/
def Device.cmdWaits : Device :=
  ((d.setPair (fun (p : PairX) => { p with cmd := some (op, slot) })).put F.PAIR_CMD_STATUS_PENDING 0 1).put F.PAIR_CMD_STATUS_RESULT 0 0

/-- Another command or a handover waits. -/
def Device.pairBusy : Prop := d.pair.cmd.isSome = true ∨ d.pair.handover.isSome = true

/-- The role fits the command. -/
def Device.pairFits : Prop := d.pwr = .run ∧ ((op = 1 ∧ d.role = 2) ∨ (op = 2 ∧ (d.role = 3 ∨ d.role = 4)))

/-- A FAULTED unit whose health word still shows a fault. -/
def Device.pairSick : Prop := d.role = 4 ∧ faulty d.health = true

variable {d op} in
theorem Device.pairCmd_fits (hb : ¬d.pairBusy) (fits : d.pairFits op) (well : ¬d.pairSick) :
    d.pairCmd slot op = ((d.cmdNamed slot op).setPair (fun (p : PairX) =>
      if op = 1 then { p with handover := some (d.tick.num, some slot) } else { p with resync := true })).cmdWaits slot op := by
  have idle : ¬(d.pair.cmd.isSome || d.pair.handover.isSome) = true := by simpa [pairBusy] using hb
  have role : (d.cmdNamed slot op).role = d.role := by
    rw [Device.role, cmdNamed, Device.get_put_ne _ _ _ _ _ _ (by decide), Device.get_put_ne _ _ _ _ _ _ (by decide), Device.role]
  have health : (d.cmdNamed slot op).health = d.health := by
    rw [Device.health, Device.get2, cmdNamed]
    repeat rw [Device.get_put_ne _ _ _ _ _ _ (by decide), Device.get_put_ne _ _ _ _ _ _ (by decide)]
    rfl
  obtain ⟨run, ⟨rfl, holder⟩ | ⟨rfl, standby⟩⟩ := fits
  · have holds : (d.cmdNamed slot 1).inRun = true ∧ (d.cmdNamed slot 1).holds = true :=
      ⟨decide_eq_true run, decide_eq_true (role.trans holder)⟩
    unfold pairCmd
    exact (if_neg (by decide)).trans ((if_neg idle).trans (if_pos (by
      rw [← cmdNamed, holds.1, holds.2]
      rfl)))
  · have inRun : (d.cmdNamed slot 2).inRun = true := decide_eq_true run
    unfold pairCmd
    refine (if_neg (by decide)).trans ((if_neg idle).trans ((if_neg (by simp)).trans ?_))
    rw [← cmdNamed, inRun, role]
    rcases standby with h | h
    · exact if_pos (by rw [h]; decide)
    · refine (if_neg (by rw [h]; decide)).trans ((if_pos (by rw [h]; decide)).trans (if_neg ?_))
      rw [health]
      exact fun sick => well ⟨h, sick⟩

variable {d op} in
theorem Device.pairCmd_busy (h0 : op ≠ 0) (hb : d.pairBusy) : d.pairCmd slot op = (d.cmdNamed slot op).put F.PAIR_CMD_STATUS_RESULT 0 2 :=
  (if_neg h0).trans (if_pos (by rw [Bool.or_eq_true]; exact hb))

variable {d op} in
theorem Device.pairCmd_refused (h0 : op ≠ 0) (hb : ¬d.pairBusy) (fits : ¬d.pairFits op) :
    d.pairCmd slot op = (d.cmdNamed slot op).put F.PAIR_CMD_STATUS_RESULT 0 3 := by
  have idle : ¬(d.pair.cmd.isSome || d.pair.handover.isSome) = true := by simpa [pairBusy] using hb
  have role : (d.cmdNamed slot op).role = d.role := by
    rw [Device.role, cmdNamed, Device.get_put_ne _ _ _ _ _ _ (by decide), Device.get_put_ne _ _ _ _ _ _ (by decide), Device.role]
  have run : (d.cmdNamed slot op).inRun = decide (d.pwr = .run) := rfl
  have holds : (d.cmdNamed slot op).holds = decide (d.role = 2) := by rw [Device.holds, role]
  unfold pairCmd
  refine (if_neg h0).trans ((if_neg idle).trans ?_)
  rw [← cmdNamed, run, holds, role]
  have no (h : d.pwr = .run ∧ ((op = 1 ∧ d.role = 2) ∨ (op = 2 ∧ (d.role = 3 ∨ d.role = 4)))) : False := fits h
  refine (if_neg fun h => no ?_).trans ((if_neg fun h => no ?_).trans (if_neg fun h => no ?_)) <;>
    simp only [Bool.and_eq_true, decide_eq_true_eq] at h <;> tauto

variable {d op} in
theorem Device.pairCmd_sick (hb : ¬d.pairBusy) (fits : d.pairFits op) (sick : d.pairSick) :
    d.pairCmd slot op = (d.cmdNamed slot op).put F.PAIR_CMD_STATUS_RESULT 0 5 := by
  have idle : ¬(d.pair.cmd.isSome || d.pair.handover.isSome) = true := by simpa [pairBusy] using hb
  have role : (d.cmdNamed slot op).role = d.role := by
    rw [Device.role, cmdNamed, Device.get_put_ne _ _ _ _ _ _ (by decide), Device.get_put_ne _ _ _ _ _ _ (by decide), Device.role]
  have health : (d.cmdNamed slot op).health = d.health := by
    rw [Device.health, Device.get2, cmdNamed]
    repeat rw [Device.get_put_ne _ _ _ _ _ _ (by decide), Device.get_put_ne _ _ _ _ _ _ (by decide)]
    rfl
  obtain ⟨faulted, fault⟩ := sick
  obtain ⟨run, ⟨-, holder⟩ | ⟨rfl, -⟩⟩ := fits
  · exact absurd (holder.symm.trans faulted) (by decide)
  · have inRun : (d.cmdNamed slot 2).inRun = true := decide_eq_true run
    unfold pairCmd
    refine (if_neg (by decide)).trans ((if_neg idle).trans ((if_neg (by simp)).trans ?_))
    rw [← cmdNamed, inRun, role]
    exact (if_neg (by rw [faulted]; decide)).trans ((if_pos (by rw [faulted]; decide)).trans (if_pos (health ▸ fault)))

variable {d slot op} in
/-- What every answer to a command shows. -/
theorem Device.cmdNamed_shows (hs : slot < 8) (ho : op < 4) {e : Device} {p : PairX}
    (he : ∃ n v, e = ((({ d.cmdNamed slot op with pair := p } : Device).put F.PAIR_CMD_STATUS_PENDING 0 v).put F.PAIR_CMD_STATUS_RESULT 0 n) ∨
      e = (({ d.cmdNamed slot op with pair := p } : Device).put F.PAIR_CMD_STATUS_RESULT 0 n)) :
    e.role = d.role ∧ e.get F.PAIR_CMD_STATUS_OP = op ∧ e.get F.PAIR_CMD_STATUS_REQ_SLOT = slot ∧ d.keeps e (outside [11]) ∧ e.pair = p := by
  obtain ⟨b, hb⟩ : ∃ b, b = ({ d.cmdNamed slot op with pair := p } : Device) := ⟨_, rfl⟩
  have put (e : Device) (f : Fld) (v : Nat) (hf : f ∈ cmdShown) : e.keeps (e.put f 0 v) (but cmdShown) :=
    Device.keeps_put e f 0 v (but_apart (List.mem_append_left _ hf))
  have named : d.keeps b (but cmdShown) := by
    rw [hb]
    exact Device.keeps_trans (put d F.PAIR_CMD_STATUS_OP op (by simp [cmdShown])) (put _ _ _ (by simp [cmdShown]))
  have result : b.get F.PAIR_CMD_STATUS_OP = op ∧ b.get F.PAIR_CMD_STATUS_REQ_SLOT = slot := by
    have regs : b.regs = (d.cmdNamed slot op).regs := by rw [hb]
    rw [Device.get_congr regs, Device.get_congr regs, cmdNamed, Device.get_put_same, Device.get_put_ne _ _ _ _ _ _ (by decide), Device.get_put_same]
    exact ⟨Nat.mod_eq_of_lt ho, Nat.mod_eq_of_lt hs⟩
  have pair : b.pair = p := by rw [hb]
  have after : b.keeps e (but [F.PAIR_CMD_STATUS_RESULT, F.PAIR_CMD_STATUS_PENDING]) ∧ e.pair = b.pair := by
    obtain ⟨n, v, h | h⟩ := he <;> rw [h, ← hb]
    · exact ⟨Device.keeps_trans (Device.keeps_put _ _ _ _ (but_apart (by simp))) (Device.keeps_put _ _ _ _ (but_apart (by simp))), rfl⟩
    · exact ⟨Device.keeps_put _ _ _ _ (but_apart (by simp)), rfl⟩
  obtain ⟨kept, same⟩ := after
  exact ⟨(kept.1 _ _ (by decide)).trans (named.1 _ _ (by decide)), (kept.1 _ _ (by decide)).trans result.1, (kept.1 _ _ (by decide)).trans result.2,
    Device.keeps_trans (Device.keeps_mono named (but_of_outside (by decide))) (Device.keeps_mono kept (but_of_outside (by decide))), same.trans pair⟩

/-- The answers to a command of the pair. -/
theorem Device.pairCmd_shows (hs : slot < 8) (hop : op = 1 ∨ op = 2) :
    let e := d.pairCmd slot op
    e.role = d.role ∧ e.get F.PAIR_CMD_STATUS_OP = op ∧ e.get F.PAIR_CMD_STATUS_REQ_SLOT = slot ∧ d.keeps e (outside [11]) ∧
      (d.pairBusy → e.get F.PAIR_CMD_STATUS_RESULT = 2 ∧ e.pair = d.pair) ∧
      (¬d.pairBusy → ¬d.pairFits op → e.get F.PAIR_CMD_STATUS_RESULT = 3 ∧ e.pair = d.pair) ∧
      (¬d.pairBusy → d.pairFits op → d.pairSick → e.get F.PAIR_CMD_STATUS_RESULT = 5 ∧ e.pair = d.pair) ∧
      (¬d.pairBusy → d.pairFits op → ¬d.pairSick → e.get F.PAIR_CMD_STATUS_RESULT = 0 ∧ e.get F.PAIR_CMD_STATUS_PENDING = 1 ∧
        e.pair.cmd = some (op, slot) ∧ (op = 1 → e.pair.handover = some (d.tick.num, some slot)) ∧ (op = 2 → e.pair.resync = true)) := by
  intro e
  have h0 : op ≠ 0 := by omega
  have ho : op < 4 := by omega
  have answered {n : Nat} (hn : n < 16) (he : e = (d.cmdNamed slot op).put F.PAIR_CMD_STATUS_RESULT 0 n) :
      (e.role = d.role ∧ e.get F.PAIR_CMD_STATUS_OP = op ∧ e.get F.PAIR_CMD_STATUS_REQ_SLOT = slot ∧ d.keeps e (outside [11])) ∧
        e.get F.PAIR_CMD_STATUS_RESULT = n ∧ e.pair = d.pair := by
    obtain ⟨role, shown, by_, kept, pair⟩ := Device.cmdNamed_shows (e := e) (p := d.pair) hs ho ⟨n, 0, .inr he⟩
    exact ⟨⟨role, shown, by_, kept⟩, by rw [he, Device.get_put_same]; exact Nat.mod_eq_of_lt hn, pair⟩
  by_cases hb : d.pairBusy
  · obtain ⟨⟨role, shown, by_, kept⟩, result⟩ := answered (by decide) (Device.pairCmd_busy slot h0 hb)
    exact ⟨role, shown, by_, kept, fun _ => result, fun h => absurd hb h, fun h => absurd hb h, fun h => absurd hb h⟩
  · by_cases fits : d.pairFits op
    · by_cases sick : d.pairSick
      · obtain ⟨⟨role, shown, by_, kept⟩, result⟩ := answered (by decide) (Device.pairCmd_sick slot hb fits sick)
        exact ⟨role, shown, by_, kept, fun h => absurd h hb, fun _ h => absurd fits h, fun _ _ _ => result, fun _ _ h => absurd sick h⟩
      · have he : e = _ := Device.pairCmd_fits slot hb fits sick
        obtain ⟨p, hp⟩ : ∃ p, p = ({ (if op = 1 then { d.pair with handover := some (d.tick.num, some slot) } else { d.pair with resync := true }) with
          cmd := some (op, slot) } : PairX) := ⟨_, rfl⟩
        have waits : e = ((({ d.cmdNamed slot op with pair := p } : Device).put F.PAIR_CMD_STATUS_PENDING 0 1).put F.PAIR_CMD_STATUS_RESULT 0 0) := by
          rw [he, hp]
          rfl
        obtain ⟨role, shown, by_, kept, pair⟩ := Device.cmdNamed_shows hs ho ⟨0, 1, .inl waits⟩
        refine ⟨role, shown, by_, kept, fun h => absurd h hb, fun _ h => absurd fits h, fun _ _ h => absurd h sick, fun _ _ _ => ⟨?_, ?_, ?_, ?_, ?_⟩⟩
        · rw [waits, Device.get_put_same]
          rfl
        · rw [waits, Device.get_put_ne _ _ _ _ _ _ (by decide), Device.get_put_same]
          rfl
        · rw [pair, hp]
        · intro one
          rw [pair, hp, if_pos one]
        · intro two
          rw [pair, hp, if_neg (by omega)]
    · obtain ⟨⟨role, shown, by_, kept⟩, result⟩ := answered (by decide) (Device.pairCmd_refused slot h0 hb fits)
      exact ⟨role, shown, by_, kept, fun h => absurd h hb, fun _ _ => result, fun _ h => absurd h fits, fun _ h => absurd h fits⟩

end Command

section Runs

variable {s : State} {slot op : Nat}

theorem pairCmd_word (hop : op = 1 ∨ op = 2) : F.PAIR_CMD_OP.at op < 2 ^ 32 ∧ F.PAIR_CMD_OP.of (F.PAIR_CMD_OP.at op) = op := by
  rcases hop with rfl | rfl <;> decide

theorem pairCmd_runs (hs : slot < 8) (hop : op = 1 ∨ op = 2) (ha : s.chip.admits slot R.PAIR_CMD 0 (F.PAIR_CMD_OP.at op) = true) :
    ∃ t, exec (if op = 1 then .pairHandover slot else .pairResync slot) s = .next t ∧ t.chip.mem = s.chip.mem ∧
      t.chip.dev.regs = (s.chip.dev.quiet.pairCmd slot op).regs ∧ t.chip.dev.pair = (s.chip.dev.quiet.pairCmd slot op).pair := by
  obtain ⟨small, word⟩ := pairCmd_word hop
  obtain ⟨t, ht, hm, regs, pair⟩ := pairWrite_runs (.inr rfl) hs small ha
  have stored : s.chip.dev.quiet.storeWord R.PAIR_CMD slot 0 (F.PAIR_CMD_OP.at op) = s.chip.dev.quiet :=
    Device.storeWord_of_commands (by decide) _ _ _ _
  have effect : s.chip.dev.quiet.pairWrite slot R.PAIR_CMD (F.PAIR_CMD_OP.at op) s.chip.dev.quiet = s.chip.dev.quiet.pairCmd slot op := by
    rw [← word]
    exact (if_neg (by decide)).trans (by rw [word, word]; exact if_pos rfl)
  rw [stored, effect] at regs pair
  refine ⟨t, ?_, hm, regs, pair⟩
  rcases hop with rfl | rfl
  · exact ht
  · exact ht

end Runs

/-! ### Shadow and stale -/

section Sync

variable (d : Device)

/-- The fields that the end of a resync shows itself in. -/
def shadowShown : List Fld := [F.PAIR_STATUS_SYNC, F.UPD_STATUS_OWNER, F.UPD_EVENTS_SESSION_LOST, F.PAIR_EVENTS_SYNCED, F.PAIR_SYNC_PROGRESS_PAGES]

theorem Device.ownerShadow_shows : d.keeps d.ownerShadow (but [F.UPD_STATUS_OWNER, F.UPD_EVENTS_SESSION_LOST]) ∧ d.ownerShadow.get F.UPD_STATUS_OWNER = 8 := by
  obtain ⟨e, he⟩ : ∃ e, e = if d.owner ≤ 7 then d.unlock true else d := ⟨_, rfl⟩
  have freed : d.keeps e (but [F.UPD_STATUS_OWNER, F.UPD_EVENTS_SESSION_LOST]) := by
    rw [he]
    split
    · exact Device.keeps_trans (Device.keeps_put _ _ _ _ (but_apart (by simp))) (Device.keeps_raise _ _ _ (by simp))
    · exact d.keeps_refl _
  rw [ownerShadow, ← he]
  exact ⟨Device.keeps_trans freed (Device.keeps_put _ _ _ _ (but_apart (by simp))), (Device.get_put_same ..).trans rfl⟩

theorem Device.resyncDone_shows (standby : d.role = 3) (syncing : d.syncSt = 1) (inStep : d.pair.inStep = true) :
    d.resyncDone.syncSt = 2 ∧ d.resyncDone.role = 3 ∧ d.resyncDone.get F.PAIR_EVENTS_SYNCED = 1 ∧
      d.resyncDone.get F.PAIR_SYNC_PROGRESS_PAGES = 0 ∧ d.resyncDone.get F.UPD_STATUS_OWNER = 8 := by
  obtain ⟨a, ha⟩ : ∃ a, a = (d.setSync 2).ownerShadow := ⟨_, rfl⟩
  have shows : d.resyncDone.regs = ((a.raise F.PAIR_EVENTS_SYNCED).put F.PAIR_SYNC_PROGRESS_PAGES 0 0).regs := by
    rw [resyncDone, if_pos ⟨standby, syncing, inStep⟩, ha]
    rfl
  have get (f : Fld) (hp : F.PAIR_SYNC_PROGRESS_PAGES.id ≠ f.id) : d.resyncDone.get f = (a.raise F.PAIR_EVENTS_SYNCED).get f :=
    (Device.get_congr shows f 0).trans (Device.get_put_ne _ _ _ _ _ _ hp)
  have early (f : Fld) (hf : F.PAIR_EVENTS_SYNCED.id ≠ f.id) (ho : F.HOST_EVENTS_EVQ_OVERFLOW.id ≠ f.id) :
      (a.raise F.PAIR_EVENTS_SYNCED).get f = a.get f := Device.get_raise _ _ _ _ _ (.inl hf) (.inl ho)
  obtain ⟨kept, owner⟩ := (d.setSync 2).ownerShadow_shows
  rw [← ha] at kept owner
  have state : (d.setSync 2).get F.PAIR_STATUS_SYNC = 2 ∧ (d.setSync 2).get F.PAIR_STATUS_ROLE = d.role :=
    ⟨Device.get_put_same .., Device.get_put_ne _ _ _ _ _ _ (by decide)⟩
  refine ⟨?_, ?_, ?_, ?_, ?_⟩
  · rw [Device.syncSt, get _ (by decide), early _ (by decide) (by decide), kept.1 _ _ (by decide)]
    exact state.1
  · rw [Device.role, get _ (by decide), early _ (by decide) (by decide), kept.1 _ _ (by decide)]
    exact state.2.trans standby
  · rw [get _ (by decide)]
    exact Device.get_raise_same _ _ _ (by decide)
  · rw [Device.get_congr shows, Device.get_put_same]
    rfl
  · rw [get _ (by decide), early _ (by decide) (by decide)]
    exact owner

theorem Device.stateStale_shows (standby : d.role = 3) (sync : d.syncSt = 1 ∨ d.syncSt = 2) :
    d.stateStale.syncSt = 3 ∧ d.stateStale.get F.PAIR_EVENTS_STATE_STALE = 1 ∧ d.stateStale.pair.mirror.recv = none := by
  obtain ⟨a, ha⟩ : ∃ a, a = ({ d with pair := { d.pair with
      cmp := { d.pair.cmp with settle := 0, shadowTick := none }
      mirror := { d.pair.mirror with recv := none, whole := false, need := none }
      burst := [], ready := none, missed := 0 } } : Device) := ⟨_, rfl⟩
  have runs : d.stateStale = ((a.put F.PAIR_STATUS_SYNC 0 3).put F.PAIR_STATUS_INCONSISTENT 0 0).raise F.PAIR_EVENTS_STATE_STALE := by
    rw [ha]
    exact if_pos ⟨standby, sync⟩
  have lost : a.pair.mirror.recv = none := by rw [ha]
  rw [runs]
  refine ⟨?_, Device.get_raise_same _ _ _ (by decide), ?_⟩
  · rw [Device.syncSt, Device.get_raise _ _ _ _ _ (.inl (by decide)) (.inl (by decide)), Device.get_put_ne _ _ _ _ _ _ (by decide), Device.get_put_same]
    rfl
  · obtain ⟨g, q, only⟩ := ((a.put F.PAIR_STATUS_SYNC 0 3).put F.PAIR_STATUS_INCONSISTENT 0 0).raise_only F.PAIR_EVENTS_STATE_STALE 0
    rw [only]
    exact lost

end Sync

/-! ### The halter is taken (R282, R304) -/

/-- The fields of other blocks that a unit changes when it takes over what its predecessor held. -/
def takeShown : List Fld := [F.HOST_SLOT_STATUS_SESSION, F.UPD_STATUS_OWNER, F.TOUCH_KEY_STATUS_STATE, F.TOUCH_KEY_READING_BASELINE,
  F.TOUCH_PRESSED_PRESSED, F.HOST_EVENTS_EVQ_OVERFLOW]

/-- What was held passes on: few registers change, and neither the tick, the layout of the tick before nor what its stamps were sent with. -/
structure Device.Passes (d e : Device) : Prop where
  fields : d.keeps e (but takeShown)
  tick : e.tick = d.tick
  layout : e.layoutPrev = d.layoutPrev
  sent : ∀ o l, (e.outp o).sentWith l = (d.outp o).sentWith l

namespace Device.Passes

variable {d e f : Device}

theorem refl (d : Device) : Passes d d := ⟨d.keeps_refl _, rfl, rfl, fun _ _ => rfl⟩
theorem trans (h : Passes d e) (h' : Passes e f) : Passes d f :=
  ⟨Device.keeps_trans h.fields h'.fields, h'.tick.trans h.tick, h'.layout.trans h.layout, fun o l => (h'.sent o l).trans (h.sent o l)⟩
theorem of_regs (hr : e.regs = d.regs) (ht : e.tick = d.tick) (hl : e.layoutPrev = d.layoutPrev) (ho : e.outs = d.outs) : Passes d e :=
  ⟨Device.keeps_of_regs hr _, ht, hl, fun o l => by rw [Device.outp, ho, Device.outp]⟩
theorem ite {c : Prop} [Decidable c] (h : Passes d e) (h' : Passes d f) : Passes d (if c then e else f) := by
  split
  · exact h
  · exact h'
theorem forL {β : Type} {g : β → Device → Device} (hg : ∀ b (d : Device), Passes d (g b d)) (l : List β) (d : Device) :
    Passes d (Machine.forL l g d) := by
  induction l generalizing d with
  | nil => exact refl d
  | cons b r ih => exact (hg b d).trans (ih _)

end Device.Passes

section Take

variable (d : Device)

theorem Device.Passes.putS {d e : Device} (h : Passes d e) {f : Fld} (slot i v : Nat) (hf : f ∈ takeShown ++ overflowFields) : Passes d (e.putS f slot i v) :=
  h.trans ⟨Device.keeps_putS _ _ _ _ _ (but_apart hf), rfl, rfl, fun _ _ => rfl⟩

theorem Device.Passes.put {d e : Device} (h : Passes d e) {f : Fld} (i v : Nat) (hf : f ∈ takeShown ++ overflowFields) : Passes d (e.put f i v) :=
  h.trans ⟨Device.keeps_put _ _ _ _ (but_apart hf), rfl, rfl, fun _ _ => rfl⟩

theorem Device.evqTake_passes : Passes d d.evqTake := by
  have start : Passes d { d with evqRecv := [] } := .of_regs rfl rfl rfl rfl
  unfold evqTake
  refine start.trans (.forL (fun p e => ?_) _ _)
  extract_lets all lost f n
  have queued : Passes e f := .of_regs rfl rfl rfl rfl
  refine .ite queued ?_
  obtain ⟨a, ha⟩ : ∃ a, a = (f.putS F.HOST_EVQ_STATUS_OVERFLOW p.1 0 1).putS F.HOST_EVQ_STATUS_DROPPED p.1 0 (min (n + lost) 0xFFFF) := ⟨_, rfl⟩
  have counted : Passes e a := by
    rw [ha]
    exact (queued.putS _ _ _ (by simp [overflowFields])).putS _ _ _ (by simp [overflowFields])
  rw [← ha]
  obtain ⟨g, q, only⟩ := a.raise_only F.HOST_EVENTS_EVQ_OVERFLOW 0
  exact counted.trans ⟨a.keeps_raise _ _ (by simp [takeShown]), by rw [only], by rw [only], fun _ _ => by rw [only]; rfl⟩

theorem Device.sessTake_passes : Passes d d.sessTake := by
  have start : Passes d { d with host := { d.host with sessRecv := [] } } := .of_regs rfl rfl rfl rfl
  unfold sessTake
  refine start.trans (.forL (fun p e => ?_) _ _)
  have kept (x : HostX) : Passes e { e with host := x } := .of_regs rfl rfl rfl rfl
  exact (kept _).putS _ _ _ (by simp [takeShown])

theorem Device.encTake_passes : Passes d d.encTake := by
  refine .forL (fun n e => ?_) (List.range 32) d
  exact .ite (.of_regs rfl rfl rfl rfl) (.refl e)

theorem Device.setTouchKey_passes (k : Nat) (v : TouchKey) : Passes d (d.setTouchKey k v) := by
  have start : Passes d { d with touch := { d.touch with keys := Tab.set d.touch.keys k v } } := .of_regs rfl rfl rfl rfl
  exact ((start.put _ _ (by simp [takeShown])).put _ _ (by simp [takeShown])).put _ _ (by simp [takeShown])

theorem Device.touchTake_passes : Passes d d.touchTake := by
  have start : Passes d { d with touch := { d.touch with recv := [], toSend := [] } } := .of_regs rfl rfl rfl rfl
  unfold touchTake
  refine start.trans (.forL (fun p e => ?_) _ _)
  exact .ite (e.setTouchKey_passes _ _) (.refl e)

theorem Device.updTake_passes : Passes d d.updTake := by
  have start (x : UpdX) : Passes d { d with upd := x } := .of_regs rfl rfl rfl rfl
  exact .ite ((start _).put _ _ (by simp [takeShown])) (.refl d)

/-- Every output that sends is noted as taken over. -/
def Device.outsTake : Device :=
  forN 64 (fun (e : Nat) (d : Device) => if d.on F.NET_TX_CFG_EN e then d.setOut e { d.outp e with handover := true } else d) d

theorem Device.outsTake_passes : Passes d d.outsTake := by
  refine .forL (fun k e => ?_) (List.range 64) d
  refine .ite ⟨Device.keeps_of_regs rfl _, rfl, rfl, fun o l => ?_⟩ (.refl e)
  by_cases h : k = o
  · have same : (e.setOut k { e.outp k with handover := true }).outp o = { e.outp o with handover := true } := by
      rw [← h]
      exact Tab.get_set_same ..
    rw [same]
    rfl
  · have other : (e.setOut k { e.outp k with handover := true }).outp o = e.outp o := Tab.get_set_other _ _ _ h
    rw [other]

theorem Device.gratuitousArp_passes : Passes d d.gratuitousArp := by
  unfold gratuitousArp
  refine .forL (fun q e => ?_) _ d
  exact .ite (.of_regs rfl rfl rfl rfl) (.refl e)

end Take

section Take

variable (d : Device)

/-- The epoch of a unit that takes the halter. -/
def Device.nextEpoch : Nat := 1 + max (max (d.get F.PAIR_EPOCH_EPOCH) d.pair.seenEpoch) (d.net.witEpoch.getD 0)

/-- The pair of a unit that has taken the halter. -/
def PairX.taken (p : PairX) : PairX := { p with
  commitRx := none, gave := none, yieldRx := none, rein := { p.rein with count := 0 }
  mirror := { p.mirror with issued := max p.mirror.issued (p.mirror.recv.getD 0), queue := [], copy := none, recv := none, whole := false, need := none } }

/-- A unit in its new role, which has not yet taken over what its predecessor held. -/
def Device.crowned : Device :=
  (((d.put F.PAIR_EPOCH_EPOCH 0 d.nextEpoch).setRole 2).setPair PairX.taken).put F.PAIR_STATUS_INCONSISTENT 0 0

/-- What the predecessor held passes on. -/
def Device.inherits : Device := d.evqTake.sessTake.encTake.touchTake.updTake.outsTake.gratuitousArp

theorem Device.take_eq : d.take = d.crowned.inherits.raise F.PAIR_EVENTS_TAKEOVER := rfl

theorem Device.inherits_passes : Passes d d.inherits :=
  (((((d.evqTake_passes.trans (sessTake_passes _)).trans (encTake_passes _)).trans (touchTake_passes _)).trans (updTake_passes _)).trans
    (outsTake_passes _)).trans (gratuitousArp_passes _)

theorem Device.crowned_shows : d.crowned.role = 2 ∧ d.crowned.get F.PAIR_EPOCH_EPOCH = d.nextEpoch % 2 ^ 32 ∧
    d.keeps d.crowned (but (F.PAIR_EPOCH_EPOCH :: F.PAIR_STATUS_INCONSISTENT :: roleShown)) ∧ d.crowned.tick = d.tick ∧
    d.crowned.layoutPrev = d.layoutPrev ∧ d.crowned.outs = d.outs := by
  obtain ⟨a, ha⟩ : ∃ a, a = d.put F.PAIR_EPOCH_EPOCH 0 d.nextEpoch := ⟨_, rfl⟩
  have epoch : a.get F.PAIR_EPOCH_EPOCH = d.nextEpoch % 2 ^ 32 := by rw [ha]; exact Device.get_put_same ..
  have first : d.keeps a (but (F.PAIR_EPOCH_EPOCH :: F.PAIR_STATUS_INCONSISTENT :: roleShown)) := by
    rw [ha]
    exact Device.keeps_put _ _ _ _ (but_apart (by simp))
  have rest : a.tick = d.tick ∧ a.layoutPrev = d.layoutPrev ∧ a.outs = d.outs := by rw [ha]; exact ⟨rfl, rfl, rfl⟩
  obtain ⟨role, kept, g, q, only⟩ := a.setRole_shows (show 2 < 8 by decide)
  have runs : d.crowned = ((a.setRole 2).setPair PairX.taken).put F.PAIR_STATUS_INCONSISTENT 0 0 := by rw [ha]; rfl
  obtain ⟨tick, layout, outs⟩ := rest
  obtain ⟨b, hb⟩ : ∃ b, b = a.setRole 2 := ⟨_, rfl⟩
  rw [← hb] at role kept only runs
  have get (f : Fld) (hf : F.PAIR_STATUS_INCONSISTENT.id ≠ f.id) : d.crowned.get f = b.get f := by
    rw [runs, Device.get_put_ne _ _ _ _ _ _ hf]
    rfl
  refine ⟨(get _ (by decide)).trans role, (get _ (by decide)).trans ((kept.1 _ _ (by decide)).trans epoch), ?_, ?_, ?_, ?_⟩
  · rw [runs]
    exact Device.keeps_trans first (Device.keeps_trans (Device.keeps_mono kept (but_mono (by simp +contextual)))
      (Device.keeps_trans (Device.keeps_of_regs rfl _) (Device.keeps_put _ _ _ _ (but_apart (by simp)))))
  · rw [runs]
    exact (congrArg Device.tick only).trans tick
  · rw [runs]
    exact (congrArg Device.layoutPrev only).trans layout
  · rw [runs]
    exact (congrArg Device.outs only).trans outs

/-- A unit that has taken the halter and renewed. -/
structure Device.Holds (d e : Device) : Prop where
  role : e.role = 2
  takeover : e.get F.PAIR_EVENTS_TAKEOVER = 1
  renewed : e.pair.rein.renewed = some d.tick.num
  epoch : e.get F.PAIR_EPOCH_EPOCH = d.nextEpoch % 2 ^ 32

theorem Device.takeNow_shows : d.Holds d.takeNow ∧
    d.takeNow.liveOuts.any (fun o => !(d.takeNow.outp o).sentWith [0]) = d.liveOuts.any (fun o => !(d.outp o).sentWith [0]) := by
  obtain ⟨role, epoch, kept, tick, layout, outs⟩ := d.crowned_shows
  obtain ⟨b, hb⟩ : ∃ b, b = d.crowned.inherits := ⟨_, rfl⟩
  have passed : Passes d.crowned b := hb ▸ d.crowned.inherits_passes
  obtain ⟨g, q, only⟩ := b.raise_only F.PAIR_EVENTS_TAKEOVER 0
  obtain ⟨c, hc⟩ : ∃ c, c = d.take := ⟨_, rfl⟩
  have took : c = b.raise F.PAIR_EVENTS_TAKEOVER := by rw [hc, take_eq, hb]
  have get (f : Fld) (hf : F.PAIR_EVENTS_TAKEOVER.id ≠ f.id) (ho : F.HOST_EVENTS_EVQ_OVERFLOW.id ≠ f.id) (hp : but takeShown f = true) :
      c.get f = d.crowned.get f := by
    rw [took, Device.get_raise _ _ _ _ _ (.inl hf) (.inl ho)]
    exact passed.fields.1 f 0 hp
  have now : d.takeNow = c.renew d.tick.num := by rw [hc]; rfl
  have after (f : Fld) : d.takeNow.get f = c.get f := by rw [now]; rfl
  refine ⟨⟨?_, ?_, ?_, ?_⟩, ?_⟩
  · exact (after _).trans ((get F.PAIR_STATUS_ROLE (by decide) (by decide) (by decide)).trans role)
  · rw [after, took]
    exact Device.get_raise_same _ _ _ (by decide)
  · rw [now]
    rfl
  · exact (after _).trans ((get _ (by decide) (by decide) (by decide)).trans epoch)
  · have mask : d.takeNow.get F.FRS_LIVE_MASK_MASK = d.get F.FRS_LIVE_MASK_MASK :=
      (after _).trans ((get _ (by decide) (by decide) (by decide)).trans (kept.1 _ _ (by decide)))
    have prev : d.takeNow.layoutPrev = d.layoutPrev := by
      rw [now]
      show c.layoutPrev = d.layoutPrev
      rw [took, only]
      exact passed.layout.trans layout
    have sent (o : Nat) : (d.takeNow.outp o).sentWith [0] = (d.outp o).sentWith [0] := by
      have same : d.takeNow.outp o = b.outp o := by
        rw [now]
        show c.outp o = b.outp o
        rw [took, only]
        rfl
      rw [same, passed.sent, Device.outp, outs, Device.outp]
    have live : d.takeNow.liveOuts = d.liveOuts := by rw [liveOuts, liveOuts, prev, mask]
    simp only [live, sent]

variable {d}

theorem Device.joinTimeout_takes (run : d.pwr = .run) (joining : d.role = 1) (edge : d.atEdge = true)
    (waited : (if d.get F.PAIR_CTRL_UNIT = 0 then 4 else 8) < d.pair.since) (lease : d.lease = 0 ∨ d.lease = 3) (fresh : d.noFresh = true)
    (cert : d.tick.prevCert = true) : d.joinTimeout = d.takeNow := by
  refine if_pos ?_
  have inRun : d.inRun = true := decide_eq_true run
  simp only [inRun, joining, edge, waited, fresh, cert, decide_true, Bool.true_and, Bool.and_true, Bool.or_eq_true, decide_eq_true_eq]
  exact lease

theorem Device.joinTimeout_waits (h : d.role ≠ 1 ∨ d.pwr ≠ .run ∨ d.lease = 1 ∨ d.lease = 2 ∨ d.pair.since ≤ 4) : d.joinTimeout = d := by
  refine if_neg fun ready => ?_
  simp only [Bool.and_eq_true, Bool.or_eq_true, decide_eq_true_eq, inRun] at ready
  obtain ⟨⟨⟨⟨⟨⟨run, joining⟩, -⟩, waited⟩, lease⟩, -⟩, -⟩ := ready
  have late : 4 < d.pair.since := lt_of_le_of_lt (by split <;> omega) waited
  rcases h with h | h | h | h | h
  · exact h joining
  · exact h run
  · omega
  · omega
  · omega

theorem Device.takeback_takes {g : Nat} (gave : d.pair.gave = some g) (run : d.pwr = .run) (standby : d.role = 3) (edge : d.atEdge = true)
    (before : d.tickBefore d.tick.num = g) (unrenewed : d.pair.rein.valid ≠ some g) (cert : d.tick.prevCert = true) :
    d.takeback = { d.takeNow.raise F.PAIR_EVENTS_HANDOVER_ABORTED with
      staleLow := (d.takeNow.raise F.PAIR_EVENTS_HANDOVER_ABORTED).liveOuts.any
        (fun o => !((d.takeNow.raise F.PAIR_EVENTS_HANDOVER_ABORTED).outp o).sentWith [0]) } := by
  have inRun : d.inRun = true := decide_eq_true run
  unfold takeback
  rw [gave]
  exact if_pos (by simp [inRun, standby, edge, before, unrenewed, cert])

end Take

section Commands

variable {s : State}

/-- A command that leaves its device as it is answers the quiet chip. -/
theorem onDev_stays {c : Instr} {f : Device → Device} (hc : exec c s = onDev f s) (h : f s.chip.dev.quiet = s.chip.dev.quiet) :
    ∃ t, exec c s = .next t ∧ t.chip = s.chip.quiet := ⟨_, hc.trans (by rw [onDev, h]), rfl⟩

theorem reinPulse_judged (us w : Nat) :
    let d := s.chip.dev
    let r := d.pair.rein
    let judged := d.role ≠ 0 ∧ d.pwr = .run ∧ d.ticking = true ∧ w ≤ 1000
    let free : Rein := { r with stuck := false }
    ∃ t, exec (.reinPulseReceive us w) s = .next t ∧ t.chip.mem = s.chip.mem ∧
      d.keeps t.chip.dev (but pulseShown) ∧
      (¬judged → t.chip.dev.pair = { d.pair with rein := free } ∧ t.chip.dev.regs = d.regs) ∧
      (judged → d.inWindow us = false → d.misses t.chip.dev) ∧
      (judged → d.inWindow us = true → 190 ≤ w → w ≤ 210 → t.chip.dev.pair.rein = { free with release := some d.tick.num } ∧
        t.chip.dev.regs = d.regs) ∧
      (∀ m, judged → d.inWindow us = true → m < 4 → nearRenewal w m → (d.reinRecent → m = (r.m + 1) % 4) →
        t.chip.dev.pair.rein = { free with valid := some d.tick.num, m := m, release := none } ∧
        (d.holds = true → r.renewed = some d.tick.num → d.pair.dual = false → t.chip.dev.get F.PAIR_EVENTS_DUAL_HOLDER = 1)) ∧
      (judged → d.inWindow us = true → ¬(190 ≤ w ∧ w ≤ 210) → (∀ m, m < 4 → nearRenewal w m → d.reinRecent ∧ m ≠ (r.m + 1) % 4) →
        d.misses t.chip.dev) := by
  obtain ⟨t, ht, hm, hd⟩ := onDev_next (s := s) (c := .reinPulseReceive us w) (f := Device.reinPulse us w) rfl rfl
  have shows := s.chip.dev.quiet.reinPulse_shows us w
  rw [← hd] at shows
  exact ⟨t, ht, hm, shows⟩

theorem pairCmd_answers {slot op : Nat} (hs : slot < 8) (hop : op = 1 ∨ op = 2) (ha : s.chip.admits slot R.PAIR_CMD 0 (F.PAIR_CMD_OP.at op) = true) :
    let d := s.chip.dev
    ∃ t, exec (if op = 1 then .pairHandover slot else .pairResync slot) s = .next t ∧ t.chip.mem = s.chip.mem ∧ t.chip.dev.role = d.role ∧
      t.chip.dev.get F.PAIR_CMD_STATUS_OP = op ∧ t.chip.dev.get F.PAIR_CMD_STATUS_REQ_SLOT = slot ∧ d.keeps t.chip.dev (outside [11]) ∧
      (d.pairBusy → t.chip.dev.get F.PAIR_CMD_STATUS_RESULT = 2 ∧ t.chip.dev.pair = d.pair) ∧
      (¬d.pairBusy → ¬d.pairFits op → t.chip.dev.get F.PAIR_CMD_STATUS_RESULT = 3 ∧ t.chip.dev.pair = d.pair) ∧
      (¬d.pairBusy → d.pairFits op → d.pairSick → t.chip.dev.get F.PAIR_CMD_STATUS_RESULT = 5 ∧ t.chip.dev.pair = d.pair) ∧
      (¬d.pairBusy → d.pairFits op → ¬d.pairSick → t.chip.dev.get F.PAIR_CMD_STATUS_RESULT = 0 ∧
        t.chip.dev.get F.PAIR_CMD_STATUS_PENDING = 1 ∧ t.chip.dev.pair.cmd = some (op, slot) ∧
        (op = 1 → t.chip.dev.pair.handover = some (d.tick.num, some slot)) ∧ (op = 2 → t.chip.dev.pair.resync = true)) := by
  intro d
  obtain ⟨t, ht, hm, regs, pair⟩ := pairCmd_runs hs hop ha
  obtain ⟨role, shown, by_, kept, busy, refused, sick, waits⟩ := s.chip.dev.quiet.pairCmd_shows slot op hs hop
  generalize s.chip.dev.quiet.pairCmd slot op = e at regs pair role shown by_ kept busy refused sick waits
  have get (f : Fld) : t.chip.dev.get f = e.get f := Device.get_congr regs f 0
  rw [← pair] at busy refused sick waits
  rw [← get] at shown by_ busy refused sick waits
  rw [← get] at waits
  exact ⟨t, ht, hm, (get _).trans role, shown, by_, Device.keeps_trans kept (Device.keeps_of_regs regs _), busy, refused, sick, waits⟩

theorem resyncComplete_ends (standby : s.chip.dev.role = 3) (syncing : s.chip.dev.syncSt = 1) (inStep : s.chip.dev.pair.inStep = true) :
    ∃ t, exec .resyncComplete s = .next t ∧ t.chip.mem = s.chip.mem ∧
      t.chip.dev.syncSt = 2 ∧ t.chip.dev.role = 3 ∧ t.chip.dev.get F.PAIR_EVENTS_SYNCED = 1 ∧ t.chip.dev.get F.PAIR_SYNC_PROGRESS_PAGES = 0 ∧
      t.chip.dev.get F.UPD_STATUS_OWNER = 8 := by
  obtain ⟨t, ht, hm, hd⟩ := onDev_next (s := s) (c := .resyncComplete) (f := Device.resyncDone) rfl rfl
  have shows := s.chip.dev.quiet.resyncDone_shows standby syncing inStep
  rw [← hd] at shows
  exact ⟨t, ht, hm, shows⟩

theorem pairStateStale_leaves (missed : 3 ≤ s.chip.dev.pair.missed) (standby : s.chip.dev.role = 3)
    (sync : s.chip.dev.syncSt = 1 ∨ s.chip.dev.syncSt = 2) :
    ∃ t, exec .pairStateStale s = .next t ∧ t.chip.mem = s.chip.mem ∧
      t.chip.dev.syncSt = 3 ∧ t.chip.dev.get F.PAIR_EVENTS_STATE_STALE = 1 ∧ t.chip.dev.pair.mirror.recv = none := by
  obtain ⟨t, ht, hm, hd⟩ := onDev_next (s := s) (c := .pairStateStale) (f := fun d => if 3 ≤ d.pair.missed then d.stateStale else d) rfl
    (if_pos missed)
  have shows := s.chip.dev.quiet.stateStale_shows standby sync
  rw [← hd] at shows
  exact ⟨t, ht, hm, shows⟩

end Commands

/-- Settles O48: the rein lines, the commands and the events by which a unit of a pair joins, follows, takes and takes back the
halter do what R282 to R309 say. -/
theorem rolesHalterAndRein : Obligations.RolesHalterAndRein := by
  unfold Obligations.RolesHalterAndRein
  refine ⟨fun s => ⟨fun p hp => reinOutRelease_ends hp, fun owed period => reinReleasePattern_sends owed period,
    fun paired free => pairReinStuck_raises paired free, fun h => pairReinStuck_quiet h⟩, fun s us w => reinPulse_judged us w,
    fun s slot w hs hw ha => pairEn_writes hs hw ha, fun s slot op hs hop ha => pairCmd_answers hs hop ha, fun s => ?_⟩
  intro d taken
  have holds {t : State} (mem : t.chip.mem = s.chip.mem) (h : s.chip.dev.quiet.Holds t.chip.dev) : taken t :=
    ⟨mem, h.role, h.takeover, h.renewed, h.epoch⟩
  refine ⟨resyncComplete_ends, fun h => onDev_stays (f := Device.resyncDone) rfl (if_neg h), pairStateStale_leaves,
    fun h => onDev_stays (f := fun d => if 3 ≤ d.pair.missed then d.stateStale else d) rfl (if_neg (not_le.mpr h)),
    fun run joining edge waited lease fresh cert => ?_, fun h => onDev_stays (f := Device.joinTimeout) rfl (Device.joinTimeout_waits h),
    fun g gave run standby edge before unrenewed cert => ?_, fun h => onDev_stays (f := Device.takeback) rfl ?_⟩
  · obtain ⟨t, ht, hm, hd⟩ := onDev_next (s := s) (c := .joiningTimeout) (f := Device.joinTimeout) rfl
      (Device.joinTimeout_takes run joining edge waited lease fresh cert)
    exact ⟨t, ht, holds hm (hd ▸ s.chip.dev.quiet.takeNow_shows.1)⟩
  · obtain ⟨t, ht, hm, hd⟩ := onDev_next (s := s) (c := .handoverTakeback) (f := Device.takeback) rfl
      (Device.takeback_takes gave run standby edge before unrenewed cert)
    obtain ⟨held, stale⟩ := s.chip.dev.quiet.takeNow_shows
    generalize s.chip.dev.quiet.takeNow = e at hd held stale
    obtain ⟨g', q, only⟩ := e.raise_only F.PAIR_EVENTS_HANDOVER_ABORTED 0
    have raised : e.keeps (e.raise F.PAIR_EVENTS_HANDOVER_ABORTED) (but [F.PAIR_EVENTS_HANDOVER_ABORTED]) := e.keeps_raise _ _ (by simp)
    have get (f : Fld) : t.chip.dev.get f = (e.raise F.PAIR_EVENTS_HANDOVER_ABORTED).get f := by rw [hd]; rfl
    refine ⟨t, ht, holds hm ⟨?_, ?_, ?_, ?_⟩, ?_, ?_⟩
    · exact (get _).trans ((raised.1 _ _ (by decide)).trans held.role)
    · exact (get _).trans ((raised.1 _ _ (by decide)).trans held.takeover)
    · rw [hd, only]
      exact held.renewed
    · exact (get _).trans ((raised.1 _ _ (by decide)).trans held.epoch)
    · exact (get _).trans (e.get_raise_same _ _ (by decide))
    · rw [hd]
      refine Eq.trans ?_ stale
      have live : (e.raise F.PAIR_EVENTS_HANDOVER_ABORTED).liveOuts = e.liveOuts := by
        rw [Device.liveOuts, Device.liveOuts, raised.1 _ _ (by decide), only]
      have outs (o : Nat) : (e.raise F.PAIR_EVENTS_HANDOVER_ABORTED).outp o = e.outp o := by rw [only]; rfl
      simp only [live, outs]
  · rw [Device.takeback, show s.chip.dev.quiet.pair.gave = none from h]

end Sys2Proof.Machine
end

section
/-!
SUPPORT. Streams and decoded pictures: O33.
-/

namespace Sys2Proof.Machine

/-! ### Rings and access units -/

/-- Bytes that do not come round to a place of the ring leave it. -/
theorem ringWrite_before (base size : Nat) (l : List Byte) (j : Nat) : ∀ (m : Dram) (p : Nat), m.wf = true → j < p → p + l.length ≤ j + size →
    Dram.read (ringWrite m base size p l) (base + j % size) = Dram.read m (base + j % size) := by
  induction l with
  | nil => exact fun _ _ _ _ _ => rfl
  | cons b l ih =>
    intro m p wf later fits
    rw [List.length_cons] at fits
    have other : base + j % size ≠ base + p % size := by
      intro same
      have same : j % size = p % size := by omega
      have gap := (Nat.modEq_iff_dvd' (le_of_lt later)).mp same
      have := Nat.le_of_dvd (by omega) gap
      omega
    rw [ringWrite, ih _ _ (Dram.write_wf wf ..) (by omega) (by omega), Dram.read_write wf, if_neg other]

theorem ringWrite_inside (base size : Nat) (l : List Byte) : ∀ (m : Dram) (p : Nat), m.wf = true → l.length ≤ size →
    ∀ k, (hk : k < l.length) → Dram.read (ringWrite m base size p l) (base + (p + k) % size) = l[k] := by
  induction l with
  | nil => exact fun _ _ _ _ k hk => absurd hk (Nat.not_lt_zero k)
  | cons b l ih =>
    intro m p wf fits k hk
    rw [List.length_cons] at fits
    rw [ringWrite]
    cases k with
    | zero =>
      have first := ringWrite_before base size l p (m.write (base + p % size) b) (p + 1) (Dram.write_wf wf ..) (Nat.lt_succ_self p) (by omega)
      show Dram.read _ (base + p % size) = b
      rw [first, Dram.read_write wf, if_pos rfl]
    | succ k =>
      have moved : p + (k + 1) = p + 1 + k := by omega
      rw [moved, ih _ _ (Dram.write_wf wf ..) (by omega) k (by simpa using hk)]
      rfl

theorem endOpen_ended (e : Nat) (l : List AccessUnit) : ∀ a ∈ endOpen e l, a.ended.isSome = true := by
  intro a ha
  obtain ⟨b, -, rfl⟩ := List.mem_map.mp ha
  split
  · rfl
  · next h => exact Option.isSome_iff_ne_none.mpr (by simpa using h)

theorem endOpen_ts {e : Nat} {l : List AccessUnit} {ts : Nat} (h : ∀ a ∈ l, a.ts ≠ ts) : ∀ a ∈ endOpen e l, a.ts ≠ ts := by
  intro a ha
  obtain ⟨b, hb, rfl⟩ := List.mem_map.mp ha
  split <;> exact h b hb

/-- What the access units of a ring hold. -/
def auBytes (t : Nat) (a : AccessUnit) : Nat := if a.overflow then t else t + a.size

theorem endOpen_bytes (e : Nat) (l : List AccessUnit) (t : Nat) : (endOpen e l).foldl auBytes t = l.foldl auBytes t := by
  have same (t : Nat) (a : AccessUnit) : auBytes t (if a.ended.isNone then { a with ended := some e } else a) = auBytes t a := by split <;> rfl
  rw [endOpen, List.foldl_map]
  simp only [same]

theorem DecSess.ringUsed_opened (x : DecSess) (e : Nat) {a : AccessUnit} (size : a.size = 0) :
    ({ x with aus := endOpen e x.aus ++ [a] } : DecSess).ringUsed = x.ringUsed := by
  have bytes : (endOpen e x.aus ++ [a]).foldl auBytes 0 = x.aus.foldl auBytes 0 := by
    rw [List.foldl_append, endOpen_bytes]
    show auBytes _ a = _
    rw [auBytes, size]
    split <;> rfl
  show (endOpen e x.aus ++ [a]).foldl auBytes 0 + _ = x.aus.foldl auBytes 0 + _
  rw [bytes]

/-! ### What a packet leaves alone -/

theorem Device.dec_setDec (d : Device) (n m : Nat) (x : DecSess) : (d.setDec n x).dec m = if n = m then x else d.dec m := by
  unfold dec setDec
  by_cases h : n = m
  · rw [if_pos h, ← h]
    exact Tab.get_set_same ..
  · rw [if_neg h]
    exact Tab.get_set_other _ _ _ h

theorem Device.dec_setDec_same (d : Device) (n : Nat) (x : DecSess) : (d.setDec n x).dec n = x := by
  rw [Device.dec_setDec, if_pos rfl]

/-- Only DRAM, registers and the session `n` change, and whether it is quiet stays. -/
structure Chip.Streams (n : Nat) (c e : Chip) : Prop where
  memory : e.mem = { c.mem with dram := e.mem.dram }
  berths : e.dev.berths = c.dev.berths
  srcs : e.dev.srcs = c.dev.srcs
  others : ∀ m, m ≠ n → e.dev.dec m = c.dev.dec m
  quiet : (e.dev.dec n).quiet = (c.dev.dec n).quiet

namespace Chip.Streams

variable {n : Nat} {c e f : Chip}

theorem refl (c : Chip) : Streams n c c := ⟨rfl, rfl, rfl, fun _ _ => rfl, rfl⟩
theorem trans (h : Streams n c e) (h' : Streams n e f) : Streams n c f :=
  ⟨by rw [h'.memory, h.memory], h'.berths.trans h.berths, h'.srcs.trans h.srcs, fun m hm => (h'.others m hm).trans (h.others m hm),
    h'.quiet.trans h.quiet⟩
theorem of_dev (hm : e.mem = { c.mem with dram := e.mem.dram }) (hb : e.dev.berths = c.dev.berths) (hs : e.dev.srcs = c.dev.srcs)
    (hd : e.dev.decs = c.dev.decs) : Streams n c e :=
  ⟨hm, hb, hs, fun m _ => by rw [Device.dec, hd, Device.dec], by rw [Device.dec, hd, Device.dec]⟩
theorem setDec (h : Streams n c e) {x : DecSess} (hx : x.quiet = (e.dev.dec n).quiet) : Streams n c { e with dev := e.dev.setDec n x } :=
  h.trans ⟨rfl, rfl, rfl, fun m hm => by rw [Device.dec_setDec, if_neg (Ne.symm hm)], by rw [Device.dec_setDec_same, hx]⟩
theorem ite {p : Prop} [Decidable p] (h : p → Streams n c e) (h' : ¬p → Streams n c f) : Streams n c (if p then e else f) := by
  split
  · exact h ‹_›
  · exact h' ‹_›

end Chip.Streams

section Units

variable (c : Chip) (n : Nat)

theorem Device.decErr_only (d : Device) (cls : Nat) : ∃ g, d.decErr n cls = { d with regs := g } := by
  unfold decErr
  extract_lets e f
  split
  · exact ⟨_, rfl⟩
  · exact ⟨_, rfl⟩

theorem Chip.auPut_streams (sel : AccessUnit → Bool) (data : List Byte) (head : Option PicHead) (errs : List Nat) (seq : Option Nat) :
    Streams n c (c.auPut n sel data head errs seq) := by
  unfold auPut
  extract_lets d x
  split
  · exact .refl c
  · extract_lets o a' y e f
    have set : Streams n c { c with dev := e } := (Streams.refl c).setDec rfl
    have noted : Streams n c { c with dev := f } := by
      refine set.trans ?_
      unfold f
      split
      · obtain ⟨g, only⟩ := e.decErr_only n 8
        exact .of_dev rfl (by rw [only]) (by rw [only]) (by rw [only])
      · exact .refl _
    refine noted.trans (.of_dev ?_ rfl rfl rfl)
    dsimp only
    split <;> rfl

theorem Device.tsPsi_streams (m : Memory) (d : Device) (pid : Nat) (t : Psi) : Chip.Streams n ⟨m, d⟩ ⟨m, d.tsPsi n pid t⟩ := by
  have set {x : DecSess} (hx : x.quiet = (d.dec n).quiet) : Chip.Streams n ⟨m, d⟩ ⟨m, d.setDec n x⟩ := (Chip.Streams.refl ⟨m, d⟩).setDec hx
  unfold tsPsi
  cases t with
  | pat l =>
    dsimp only
    generalize (if d.get F.DEC_SESS_TS_PROGRAM n = 0 then l.head? else _) = pm
    split
    · exact .refl _
    · exact set rfl
  | pmt prog l =>
    dsimp only
    split
    · exact set rfl
    · exact .refl _

theorem Chip.tsCell_streams (capture rtpTs : Nat) (gap : Bool) (t : TsCell) : Streams n c (c.tsCell n capture rtpTs gap t) := by
  unfold tsCell
  extract_lets d lost x isOpen opened ts fresh hurt aus errs e f
  have tables : Streams n c { c with dev := d } := by
    unfold d
    split
    · exact c.dev.tsPsi_streams n c.mem t.pid _
    · exact .refl c
  refine .ite (fun _ => tables) fun _ => ?_
  have cells : Streams n c { c with dev := e } := tables.setDec rfl
  have put : Streams n c f := cells.trans (Chip.auPut_streams _ n _ _ _ _ _)
  refine put.trans ?_
  by_cases h : t.pesEnd = true
  · have ends : f.mapDev (fun (d : Device) => if t.pesEnd then d.setDec n { d.dec n with aus := endOpen d.edges (d.dec n).aus } else d) =
        { f with dev := f.dev.setDec n { f.dev.dec n with aus := endOpen f.dev.edges (f.dev.dec n).aus } } := by
      rw [Chip.mapDev, if_pos h]
    rw [ends]
    exact (Streams.refl f).setDec rfl
  · have stays : f.mapDev (fun (d : Device) => if t.pesEnd then d.setDec n { d.dec n with aus := endOpen d.edges (d.dec n).aus } else d) = f := by
      rw [Chip.mapDev, if_neg h]
    rw [stays]
    exact .refl f

theorem Chip.tsCells_streams (capture rtpTs : Nat) (l : List TsCell) : ∀ (c : Chip) (gap : Bool), Streams n c (c.tsCells n capture rtpTs gap l) := by
  induction l with
  | nil => exact fun c _ => .refl c
  | cons t l ih => exact fun c gap => (c.tsCell_streams n capture rtpTs gap t).trans (ih _ _)

end Units

/-! ### The first packet of an access unit -/

section Put

variable {c : Chip} {n : Nat} {sel : AccessUnit → Bool} {l : List AccessUnit} {a : AccessUnit}

/-- The access unit that took the bytes of a packet. -/
def AccessUnit.fed (a : AccessUnit) (len : Nat) (head : Option PicHead) (errs : List Nat) (seq : Option Nat) : AccessUnit :=
  { a with size := a.size + len, head := a.head <|> head, errs := a.errs ++ errs, seqs := a.seqs ++ seq.toList }

theorem Chip.auPut_fits (data : List Byte) (head : Option PicHead) (errs : List Nat) (seq : Option Nat) (aus : (c.dev.dec n).aus = l ++ [a])
    (others : ∀ b ∈ l, sel b = false) (own : sel a = true) (whole : a.overflow = false) (fits : c.dev.auFull (c.dev.dec n) a data.length = false) :
    c.auPut n sel data head errs seq = ⟨{ c.mem with dram := ringWrite c.mem.dram (c.dev.ringBase n) c.dev.ringSize (c.dev.dec n).ringPos data },
      c.dev.setDec n { c.dev.dec n with aus := l ++ [a.fed data.length head errs seq], ringPos := (c.dev.dec n).ringPos + data.length }⟩ := by
  have found : (c.dev.dec n).aus.find? sel = some a := by
    rw [aus, List.find?_append, List.find?_eq_none.mpr (fun b hb => by simp [others b hb])]
    simp [own]
  have room : (a.overflow || c.dev.auFull (c.dev.dec n) a data.length) = false := by rw [whole, fits]; rfl
  have same : (a.fed data.length head errs seq).overflow = false := whole
  have mapped (a' : AccessUnit) : (c.dev.dec n).aus.map (fun b => if sel b then a' else b) = l ++ [a'] := by
    rw [aus, List.map_append, List.map_congr_left (g := id) (fun b hb => by simp [others b hb]), List.map_id, List.map_singleton, own]
    rfl
  unfold auPut
  dsimp only
  rw [found]
  dsimp only
  simp only [room, mapped, Bool.false_eq_true, if_false, Bool.false_and]
  have unit : ({ a with size := a.size + data.length, overflow := false, head := a.head <|> head, errs := a.errs ++ errs, seqs := a.seqs ++ seq.toList } :
      AccessUnit) = a.fed data.length head errs seq := by
    rw [AccessUnit.fed, ← whole]
  rw [unit]
  rfl

end Put

section Unit

variable (c : Chip) (n : Nat) (p : StreamPkt) (ext cap : Nat)

/-- The access unit that an RTP packet begins. -/
def unitBegun (d : Device) (p : StreamPkt) (cap : Nat) (start : Bool) : AccessUnit :=
  ⟨p.ts, cap, d.tick.scale, [], 0, none, [], false, start, false, none⟩

/-- The access unit of a marked packet ends. -/
def AccessUnit.closed (a : AccessUnit) (marker : Bool) (e : Nat) : AccessUnit :=
  if marker then { a with marked := true, ended := a.ended <|> some e } else a

/-- The access units of the timestamp of a marked packet end. -/
def Device.unitsMarked (d : Device) (n : Nat) (p : StreamPkt) : Device :=
  if p.marker then d.setDec n { d.dec n with aus := (d.dec n).aus.map (fun a => if decide (a.ts = p.ts) then
    { a with marked := true, ended := a.ended <|> some d.edges } else a) }
  else d

theorem Device.unitsMarked_dec (d : Device) {l : List AccessUnit} {a : AccessUnit} (aus : (d.dec n).aus = l ++ [a]) (others : ∀ b ∈ l, b.ts ≠ p.ts)
    (own : a.ts = p.ts) : (d.unitsMarked n p).dec n = { d.dec n with aus := l ++ [a.closed p.marker d.edges] } := by
  have mapped (a' : AccessUnit) (f : AccessUnit → AccessUnit) (hf : f a = a') :
      (l ++ [a]).map (fun b => if decide (b.ts = p.ts) then f b else b) = l ++ [a'] := by
    rw [List.map_append, List.map_congr_left (g := id) (fun b hb => by simp [others b hb]), List.map_id, List.map_singleton, own, ← hf]
    simp
  unfold unitsMarked AccessUnit.closed
  cases p.marker with
  | true =>
    rw [if_pos rfl, if_pos rfl, Device.dec_setDec_same, aus]
    rw [mapped { a with marked := true, ended := a.ended <|> some d.edges } (fun a => { a with marked := true, ended := a.ended <|> some d.edges }) rfl]
  | false =>
    rw [if_neg (by simp), if_neg (by simp), ← aus]

theorem Device.unitsMarked_regs (d : Device) : (d.unitsMarked n p).regs = d.regs := by
  unfold unitsMarked
  split <;> rfl

/-- The packet is not of an access unit that became a job. -/
def DecSess.lateFor (x : DecSess) (ext : Nat) : Bool := match x.lastEnd with | some e => decide (ext ≤ e.1) | none => false

/-- The chip that has put a packet into its access unit. -/
def Chip.rtpPut : Chip :=
  let d := c.dev
  let x := d.dec n
  let take := rtpAccepts (d.get F.DEC_SESS_CFG_CODEC n) p
  let aus := if x.aus.any (fun a => decide (a.ts = p.ts)) then x.aus else endOpen d.edges x.aus ++ [unitBegun d p cap (take && p.head.isSome)]
  let use := take && !(p.redundant && decide (d.get F.DEC_SESS_CFG_CODEC n = 1))
  ({ c with dev := d.setDec n { x with aus := aus } } : Chip).auPut n (fun a => decide (a.ts = p.ts)) (if use then p.data else [])
    (if use then p.head else none) (if take && !p.truncated then [] else [1]) (some ext)

theorem Chip.rtpUnit_eq : c.rtpUnit n p ext cap = if (c.dev.dec n).lateFor ext then c else (c.rtpPut n p ext cap).mapDev (fun d => d.unitsMarked n p) := rfl

theorem Chip.rtpUnit_streams : Streams n c (c.rtpUnit n p ext cap) := by
  rw [rtpUnit_eq]
  refine .ite (fun _ => .refl c) fun _ => ?_
  have put : Streams n c (c.rtpPut n p ext cap) := by
    unfold rtpPut
    extract_lets d x take aus use
    have opened : Streams n c { c with dev := d.setDec n { x with aus := aus } } := (Streams.refl c).setDec rfl
    exact opened.trans (Chip.auPut_streams _ n _ _ _ _ _)
  generalize c.rtpPut n p ext cap = e at put
  refine put.trans ?_
  unfold Chip.mapDev Device.unitsMarked
  split
  · exact (Streams.refl e).setDec rfl
  · exact .refl e

/-- A packet that may begin an access unit. -/
structure Chip.Begins (c : Chip) (n : Nat) (p : StreamPkt) (ext : Nat) : Prop where
  later : ∀ e, (c.dev.dec n).lastEnd = some e → e.1 < ext
  accepts : rtpAccepts (c.dev.codec n) p = true
  full : p.truncated = false
  useful : p.redundant = true → c.dev.codec n = 0
  new : ∀ a ∈ (c.dev.dec n).aus, a.ts ≠ p.ts
  half : 2 * p.data.length ≤ c.dev.ringSize
  room : (c.dev.dec n).ringUsed + p.data.length ≤ c.dev.ringSize

/-- What the first packet of an access unit leaves. -/
structure Chip.Begun (c : Chip) (n : Nat) (p : StreamPkt) (ext : Nat) (e : Chip) : Prop where
  regs : e.dev.regs = c.dev.regs
  memory : e.mem = { c.mem with dram := ringWrite c.mem.dram (c.dev.ringBase n) c.dev.ringSize (c.dev.dec n).ringPos p.data }
  ended : ∀ a ∈ (e.dev.dec n).aus, a.ts ≠ p.ts → a.ended.isSome = true
  unit : ∃ a ∈ (e.dev.dec n).aus, a.ts = p.ts ∧ a.seqs = [ext] ∧ a.size = p.data.length ∧ a.head = p.head ∧ a.errs = [] ∧
    (a.ended.isSome = true ↔ p.marker = true)
  pos : (e.dev.dec n).ringPos = (c.dev.dec n).ringPos + p.data.length

variable {c n p ext}

theorem Chip.rtpPut_begins (b : c.Begins n p ext) : ∃ a, a = unitBegun c.dev p cap (p.head.isSome) ∧
    c.rtpPut n p ext cap = ⟨{ c.mem with dram := ringWrite c.mem.dram (c.dev.ringBase n) c.dev.ringSize (c.dev.dec n).ringPos p.data },
      (c.dev.setDec n { c.dev.dec n with aus := endOpen c.dev.edges (c.dev.dec n).aus ++ [a] }).setDec n
        { c.dev.dec n with aus := endOpen c.dev.edges (c.dev.dec n).aus ++ [a.fed p.data.length p.head [] (some ext)],
                           ringPos := (c.dev.dec n).ringPos + p.data.length }⟩ := by
  refine ⟨_, rfl, ?_⟩
  have takes : rtpAccepts (c.dev.get F.DEC_SESS_CFG_CODEC n) p = true := b.accepts
  have unknown : (c.dev.dec n).aus.any (fun a => decide (a.ts = p.ts)) = false := List.any_eq_false.mpr fun a ha => by simpa using b.new a ha
  have uses : (true && !(p.redundant && decide (c.dev.get F.DEC_SESS_CFG_CODEC n = 1))) = true := by
    have codec := b.useful
    rw [Device.codec] at codec
    cases h : p.redundant with
    | false => rfl
    | true => simp [codec h]
  obtain ⟨e, he⟩ : ∃ e, e = c.dev.setDec n { c.dev.dec n with
      aus := endOpen c.dev.edges (c.dev.dec n).aus ++ [unitBegun c.dev p cap (p.head.isSome)] } := ⟨_, rfl⟩
  have sess : e.dec n = { c.dev.dec n with aus := endOpen c.dev.edges (c.dev.dec n).aus ++ [unitBegun c.dev p cap (p.head.isSome)] } := by
    rw [he, Device.dec_setDec_same]
  have size : e.ringSize = c.dev.ringSize := by rw [he]; rfl
  have base : e.ringBase n = c.dev.ringBase n := by rw [he]; rfl
  have fits : e.auFull (e.dec n) (unitBegun c.dev p cap (p.head.isSome)) p.data.length = false := by
    have used : (e.dec n).ringUsed = (c.dev.dec n).ringUsed := by
      rw [sess]
      exact DecSess.ringUsed_opened _ _ rfl
    rw [Device.auFull, size, used, Bool.or_eq_false_iff, decide_eq_false_iff_not, decide_eq_false_iff_not, not_lt, not_lt]
    have empty : (unitBegun c.dev p cap (p.head.isSome)).size = 0 := rfl
    rw [empty, Nat.zero_add]
    exact ⟨b.half, b.room⟩
  have put := Chip.auPut_fits (c := ⟨c.mem, e⟩) (n := n) (sel := fun a => decide (a.ts = p.ts)) p.data p.head [] (some ext)
    (congrArg DecSess.aus sess) (fun a ha => decide_eq_false (endOpen_ts b.new a ha)) (decide_eq_true rfl) rfl fits
  unfold rtpPut
  dsimp only
  rw [takes, unknown, uses, b.full]
  simp only [Bool.false_eq_true, if_false, if_true, Bool.true_and, Bool.not_false]
  rw [← he]
  refine put.trans ?_
  simp only [size, base, sess]

theorem Chip.rtpUnit_begins (b : c.Begins n p ext) : c.Begun n p ext (c.rtpUnit n p ext cap) := by
  obtain ⟨a, ha, put⟩ := Chip.rtpPut_begins cap b
  have early : (c.dev.dec n).lateFor ext = false := by
    unfold DecSess.lateFor
    split
    · next e he => exact decide_eq_false (not_le.mpr (b.later e he))
    · rfl
  rw [rtpUnit_eq, if_neg (by rw [early]; decide), put]
  obtain ⟨e, he⟩ : ∃ e, e = (c.dev.setDec n { c.dev.dec n with aus := endOpen c.dev.edges (c.dev.dec n).aus ++ [a] }).setDec n
        { c.dev.dec n with aus := endOpen c.dev.edges (c.dev.dec n).aus ++ [a.fed p.data.length p.head [] (some ext)],
                           ringPos := (c.dev.dec n).ringPos + p.data.length } := ⟨_, rfl⟩
  have sess : e.dec n = { c.dev.dec n with
      aus := endOpen c.dev.edges (c.dev.dec n).aus ++ [a.fed p.data.length p.head [] (some ext)],
      ringPos := (c.dev.dec n).ringPos + p.data.length } := by rw [he, Device.dec_setDec_same]
  have regs : e.regs = c.dev.regs := by rw [he]; rfl
  have stamp : (a.fed p.data.length p.head [] (some ext)).ts = p.ts := by rw [ha]; rfl
  have ends : ∀ b ∈ endOpen c.dev.edges (c.dev.dec n).aus, b.ts ≠ p.ts := endOpen_ts b.new
  have marked := e.unitsMarked_dec n p (congrArg DecSess.aus sess) ends stamp
  have aus : ((e.unitsMarked n p).dec n).aus = endOpen c.dev.edges (c.dev.dec n).aus ++
      [(a.fed p.data.length p.head [] (some ext)).closed p.marker e.edges] := by rw [marked]
  rw [← he]
  refine ⟨(e.unitsMarked_regs n p).trans regs, rfl, fun q hq other => ?_,
    ⟨(a.fed p.data.length p.head [] (some ext)).closed p.marker e.edges, ?_, ?_⟩, ?_⟩
  · have hq : q ∈ ((e.unitsMarked n p).dec n).aus := hq
    rw [aus] at hq
    rcases List.mem_append.mp hq with h | h
    · exact endOpen_ended _ _ q h
    · refine absurd ?_ other
      rw [List.mem_singleton.mp h, ← stamp]
      unfold AccessUnit.closed
      split <;> rfl
  · show _ ∈ ((e.unitsMarked n p).dec n).aus
    rw [aus]
    exact List.mem_append_right _ (List.mem_singleton_self _)
  · rw [ha]
    unfold AccessUnit.closed
    cases p.marker <;> simp [AccessUnit.fed, unitBegun]
  · show ((e.unitsMarked n p).dec n).ringPos = _
    rw [marked, sess]

end Unit

/-! ### A packet of a compressed flow -/

section Stream

variable (c : Chip) (h : RxHdr) (f : Nat) (p : StreamPkt)

/-- The source of a flow. -/
def Device.flowSource (d : Device) (f : Nat) : Nat := d.get F.NET_RX_FLOW_CFG_SOURCE f

/-- The form of a flow. -/
def Device.flowForm (d : Device) (f : Nat) : Nat := d.get F.NET_RX_FLOW_CFG_FORM f

/-- The session that took note of a packet. -/
def DecSess.noted (x : DecSess) (form ext : Nat) (adv : Bool) : DecSess :=
  { x with seen := if form = 2 then [] else (x.seen ++ [ext]).drop (x.seen.length - 1023),
           maxSeq := if form = 2 then none else if adv then some ext else x.maxSeq, quiet := false, idle := false }

/-- The session and the source took note of a packet. -/
def Device.streamNoted (d : Device) (n s form ext : Nat) (adv : Bool) : Device := (d.setDec n ((d.dec n).noted form ext adv)).streamSeen s adv

/-- A packet that is no copy reaches its session. -/
def Chip.streamTake (n s form ext cap : Nat) (adv gap : Bool) : Chip :=
  let d := c.dev.streamNoted n s form ext adv
  if d.stopped (n % 8) || decide (d.decState n = 0) then { c with dev := d }
  else if form = 1 then ({ c with dev := d } : Chip).rtpUnit n p ext cap
  else ({ c with dev := d } : Chip).tsCells n cap p.ts gap p.cells

/-- A packet advances its stream. -/
def DecSess.advances (x : DecSess) (form ext : Nat) : Bool := match x.maxSeq with | some m => decide (m < ext) || decide (form = 2) | none => true

/-- A packet leaves a gap before it. -/
def DecSess.skips (x : DecSess) (form ext : Nat) : Bool := match x.maxSeq with | some m => decide (form = 3) && decide (m + 1 < ext) | none => false

/-- A packet of a flow that was noted. -/
def Chip.streamHeard : Chip :=
  let d := c.dev
  let s := d.flowSource f
  let form := d.flowForm f
  if !streamOk p form then { c with dev := d.bump F.NET_DROP_MALFORMED_COUNT 0 1 }
  else
    match d.sessionOf s with
    | none => { c with dev := d.streamSeen s true }
    | some n =>
      let x := d.dec n
      let ext := extendSeq x.maxSeq p.seq
      if form ≠ 2 ∧ ext ∈ x.seen then { c with dev := (d.setDec n { x with quiet := false, idle := false }).streamSeen s false }
      else c.streamTake p n s form ext (d.tickOf (d.rxTime h)) (x.advances form ext) (x.skips form ext)

theorem Chip.stream_eq : c.stream h f p = ({ c with dev := c.dev.flowSeen f } : Chip).streamHeard h f p := rfl

theorem Device.flowSeen_only (d : Device) : ∃ x, d.flowSeen f = { d with net := x } := by
  unfold flowSeen
  split
  · exact ⟨d.net, rfl⟩
  · exact ⟨_, rfl⟩

/-- The command counts the frame and notes its flow. -/
theorem streamPacket_runs {s : State} (hc : s.chip.dev.classify h = .flow f) :
    ∃ (e : Device) (t : State), (∃ q x, e = { s.chip.dev.quiet with perf := q, net := x }) ∧ exec (.streamPacketReceive h p) s = .next t ∧
      t.chip = (⟨s.chip.mem, e⟩ : Chip).streamHeard h f p := by
  obtain ⟨q, counted⟩ := s.chip.dev.quiet.countRx_only h
  obtain ⟨e, he⟩ : ∃ e, e = ({ s.chip.dev.quiet with perf := q } : Device) := ⟨_, rfl⟩
  have aside : s.chip.dev.Aside e := ⟨[], q, s.chip.dev.host, he⟩
  have cls : e.classify h = .flow f := by rw [aside.classify, hc]
  obtain ⟨x, noted⟩ := e.flowSeen_only f
  have runs : exec (.streamPacketReceive h p) s = onChip (fun c => c.streamRx h p) s := rfl
  have body : s.chip.quiet.streamRx h p = (⟨s.chip.mem, e.flowSeen f⟩ : Chip).streamHeard h f p := by
    unfold Chip.streamRx
    rw [show s.chip.quiet.dev = s.chip.dev.quiet from rfl, counted, ← he]
    dsimp only
    rw [cls]
    rfl
  exact ⟨e.flowSeen f, _, ⟨q, x, by rw [noted, he]⟩, runs.trans (by rw [onChip, body]), rfl⟩

section Cases

variable {c f p} {n : Nat}

theorem Chip.stream_rejects (bad : streamOk p (c.dev.flowForm f) = false) :
    c.streamHeard h f p = { c with dev := c.dev.bump F.NET_DROP_MALFORMED_COUNT 0 1 } := if_pos (by rw [bad]; rfl)

theorem Chip.stream_unopened (ok : streamOk p (c.dev.flowForm f) = true) (none : c.dev.sessionOf (c.dev.flowSource f) = none) :
    c.streamHeard h f p = { c with dev := c.dev.streamSeen (c.dev.flowSource f) true } := by
  refine (if_neg (by rw [ok]; decide)).trans ?_
  rw [none]

theorem Chip.stream_copies (ok : streamOk p (c.dev.flowForm f) = true) (open_ : c.dev.sessionOf (c.dev.flowSource f) = some n)
    (form : c.dev.flowForm f ≠ 2) (seen : extendSeq (c.dev.dec n).maxSeq p.seq ∈ (c.dev.dec n).seen) :
    c.streamHeard h f p =
      { c with dev := (c.dev.setDec n { c.dev.dec n with quiet := false, idle := false }).streamSeen (c.dev.flowSource f) false } := by
  refine (if_neg (by rw [ok]; decide)).trans ?_
  rw [open_]
  exact if_pos ⟨form, seen⟩

theorem Chip.stream_takes (ok : streamOk p (c.dev.flowForm f) = true) (open_ : c.dev.sessionOf (c.dev.flowSource f) = some n)
    (new : ¬(c.dev.flowForm f ≠ 2 ∧ extendSeq (c.dev.dec n).maxSeq p.seq ∈ (c.dev.dec n).seen)) :
    ∃ cap adv gap, c.streamHeard h f p = c.streamTake p n (c.dev.flowSource f) (c.dev.flowForm f) (extendSeq (c.dev.dec n).maxSeq p.seq) cap adv gap := by
  refine ⟨c.dev.tickOf (c.dev.rxTime h), (c.dev.dec n).advances (c.dev.flowForm f) (extendSeq (c.dev.dec n).maxSeq p.seq),
    (c.dev.dec n).skips (c.dev.flowForm f) (extendSeq (c.dev.dec n).maxSeq p.seq), (if_neg (by rw [ok]; decide)).trans ?_⟩
  rw [open_]
  exact if_neg new

end Cases

section Noted

variable (d : Device) (n s form ext : Nat) (adv : Bool)

theorem Device.streamSeen_src (u : Nat) : (d.streamSeen s adv).src u = if s = u then { d.src s with pktSeen := true, advSeen := (d.src s).advSeen || adv } else d.src u := by
  unfold streamSeen src setSrc
  by_cases h : s = u
  · rw [if_pos h, ← h]
    exact Tab.get_set_same ..
  · rw [if_neg h]
    exact Tab.get_set_other _ _ _ h

theorem Device.streamSeen_dec (m : Nat) : (d.streamSeen s adv).dec m = d.dec m := rfl

theorem Device.streamNoted_dec (m : Nat) : (d.streamNoted n s form ext adv).dec m = if n = m then (d.dec n).noted form ext adv else d.dec m :=
  d.dec_setDec n m _

theorem Device.streamNoted_src (u : Nat) : (d.streamNoted n s form ext adv).src u =
    if s = u then { d.src s with pktSeen := true, advSeen := (d.src s).advSeen || adv } else d.src u :=
  Device.streamSeen_src (d.setDec n ((d.dec n).noted form ext adv)) s adv u

end Noted

/-- Only the session `n` and the source `s` change, beside DRAM and registers: the source has seen a packet, and the session is not quiet. -/
structure Chip.Taken (n s : Nat) (c e : Chip) : Prop where
  memory : e.mem = { c.mem with dram := e.mem.dram }
  berths : e.dev.berths = c.dev.berths
  decs : ∀ m, m ≠ n → e.dev.dec m = c.dev.dec m
  srcs : ∀ u, u ≠ s → e.dev.src u = c.dev.src u
  seen : (e.dev.src s).pktSeen = true
  quiet : (e.dev.dec n).quiet = false

variable {p} in
theorem Chip.streamTake_taken (n s form ext cap : Nat) (adv gap : Bool) : Taken n s c (c.streamTake p n s form ext cap adv gap) := by
  obtain ⟨e, he⟩ : ∃ e, e = c.dev.streamNoted n s form ext adv := ⟨_, rfl⟩
  have noted : Taken n s c { c with dev := e } := by
    rw [he]
    refine ⟨rfl, rfl, fun m hm => ?_, fun u hu => ?_, ?_, ?_⟩
    · exact (c.dev.streamNoted_dec n s form ext adv m).trans (if_neg (Ne.symm hm))
    · exact (c.dev.streamNoted_src n s form ext adv u).trans (if_neg (Ne.symm hu))
    · exact congrArg Src.pktSeen ((c.dev.streamNoted_src n s form ext adv s).trans (if_pos rfl))
    · exact congrArg DecSess.quiet ((c.dev.streamNoted_dec n s form ext adv n).trans (if_pos rfl))
  have after {t : Chip} (streams : Streams n { c with dev := e } t) : Taken n s c t :=
    ⟨by rw [streams.memory], streams.berths.trans noted.berths, fun m hm => (streams.others m hm).trans (noted.decs m hm),
      fun u hu => (by rw [Device.src, streams.srcs, Device.src] : t.dev.src u = e.src u).trans (noted.srcs u hu),
      by rw [Device.src, streams.srcs]; exact noted.seen, streams.quiet.trans noted.quiet⟩
  unfold streamTake
  rw [← he]
  dsimp only
  split
  · exact noted
  · split
    · exact after (Chip.rtpUnit_streams _ _ _ _ _)
    · exact after (Chip.tsCells_streams n _ _ _ _ _)

/-- What the first packet of an access unit leaves of a running session. -/
theorem Chip.streamTake_begins {n s ext cap : Nat} {adv gap : Bool} (runs : c.dev.stopped (n % 8) = false) (opened : c.dev.decState n ≠ 0)
    (b : c.Begins n p ext) : c.Begun n p ext (c.streamTake p n s 1 ext cap adv gap) := by
  obtain ⟨e, he⟩ : ∃ e, e = c.dev.streamNoted n s 1 ext adv := ⟨_, rfl⟩
  have regs : e.regs = c.dev.regs := by rw [he]; rfl
  have sess : e.dec n = (c.dev.dec n).noted 1 ext adv := by rw [he]; exact (c.dev.streamNoted_dec n s 1 ext adv n).trans (if_pos rfl)
  have size : e.ringSize = c.dev.ringSize := by rw [Device.ringSize, Device.get_congr regs, Device.ringSize]
  have base : e.ringBase n = c.dev.ringBase n := by rw [he]; rfl
  have codec : e.codec n = c.dev.codec n := Device.get_congr regs _ _
  have ready : ({ c with dev := e } : Chip).Begins n p ext := by
    refine ⟨?_, ?_, b.full, ?_, ?_, ?_, ?_⟩ <;> dsimp only
    · rw [sess]; exact b.later
    · rw [codec]; exact b.accepts
    · rw [codec]; exact b.useful
    · rw [sess]; exact b.new
    · rw [size]; exact b.half
    · rw [size, sess]; exact b.room
  have begun := Chip.rtpUnit_begins cap ready
  have state : (e.stopped (n % 8) || decide (e.decState n = 0)) = false := by
    rw [Device.stopped, Device.get_congr regs, Device.decState, Device.get_congr regs, Bool.or_eq_false_iff, decide_eq_false_iff_not]
    exact ⟨runs, opened⟩
  have ran : c.streamTake p n s 1 ext cap adv gap = ({ c with dev := e } : Chip).rtpUnit n p ext cap := by
    unfold streamTake
    rw [← he]
    dsimp only
    rw [if_neg (by rw [state]; decide), if_pos rfl]
  rw [ran]
  refine ⟨begun.regs.trans regs, begun.memory.trans ?_, begun.ended, begun.unit, begun.pos.trans (by dsimp only; rw [sess]; rfl)⟩
  dsimp only
  rw [base, size, sess]
  rfl

end Stream

/-! ### What a packet of a compressed flow leaves -/

section Heard

variable (c : Chip) (h : RxHdr) (f : Nat) (p : StreamPkt)

/-- Only DRAM, registers, the session `o` and the source `s` change. -/
structure Chip.StreamFrame (o : Option Nat) (s : Nat) (c e : Chip) : Prop where
  memory : e.mem = { c.mem with dram := e.mem.dram }
  berths : e.dev.berths = c.dev.berths
  decs : ∀ m, o ≠ some m → e.dev.dec m = c.dev.dec m
  srcs : ∀ u, u ≠ s → e.dev.src u = c.dev.src u

theorem Device.streamSeen_srcs (d : Device) {s u : Nat} (adv : Bool) (hu : u ≠ s) : (d.streamSeen s adv).src u = d.src u :=
  (d.streamSeen_src s adv u).trans (if_neg (Ne.symm hu))

theorem Device.streamSeen_pktSeen (d : Device) (s : Nat) (adv : Bool) : ((d.streamSeen s adv).src s).pktSeen = true :=
  congrArg Src.pktSeen ((d.streamSeen_src s adv s).trans (if_pos rfl))

theorem Chip.streamHeard_frame : StreamFrame (c.dev.sessionOf (c.dev.flowSource f)) (c.dev.flowSource f) c (c.streamHeard h f p) := by
  by_cases ok : streamOk p (c.dev.flowForm f) = true
  · rcases hn : c.dev.sessionOf (c.dev.flowSource f) with _ | n
    · rw [Chip.stream_unopened h ok hn]
      exact ⟨rfl, rfl, fun _ _ => rfl, fun u hu => c.dev.streamSeen_srcs _ hu⟩
    · by_cases seen : c.dev.flowForm f ≠ 2 ∧ extendSeq (c.dev.dec n).maxSeq p.seq ∈ (c.dev.dec n).seen
      · rw [Chip.stream_copies h ok hn seen.1 seen.2]
        refine ⟨rfl, rfl, fun m hm => ?_, fun u hu => Device.streamSeen_srcs _ _ hu⟩
        have other : n ≠ m := fun same => hm (congrArg some same)
        rw [Device.streamSeen_dec, Device.dec_setDec, if_neg other]
      · obtain ⟨cap, adv, gap, took⟩ := Chip.stream_takes h ok hn seen
        have taken := c.streamTake_taken (p := p) n (c.dev.flowSource f) (c.dev.flowForm f) (extendSeq (c.dev.dec n).maxSeq p.seq) cap adv gap
        rw [took]
        exact ⟨taken.memory, taken.berths, fun m hm => taken.decs m fun same => hm (congrArg some same.symm), taken.srcs⟩
  · rw [Chip.stream_rejects h (Bool.eq_false_of_not_eq_true ok)]
    exact ⟨rfl, rfl, fun _ _ => rfl, fun _ _ => rfl⟩

variable {c f p}

theorem Chip.streamHeard_pktSeen (ok : streamOk p (c.dev.flowForm f) = true) : ((c.streamHeard h f p).dev.src (c.dev.flowSource f)).pktSeen = true := by
  rcases hn : c.dev.sessionOf (c.dev.flowSource f) with _ | n
  · rw [Chip.stream_unopened h ok hn]
    exact c.dev.streamSeen_pktSeen _ _
  · by_cases seen : c.dev.flowForm f ≠ 2 ∧ extendSeq (c.dev.dec n).maxSeq p.seq ∈ (c.dev.dec n).seen
    · rw [Chip.stream_copies h ok hn seen.1 seen.2]
      exact Device.streamSeen_pktSeen _ _ _
    · obtain ⟨cap, adv, gap, took⟩ := Chip.stream_takes h ok hn seen
      rw [took]
      exact (c.streamTake_taken n _ _ _ cap adv gap).seen

theorem Chip.streamHeard_quiet {n : Nat} (ok : streamOk p (c.dev.flowForm f) = true) (hn : c.dev.sessionOf (c.dev.flowSource f) = some n) :
    ((c.streamHeard h f p).dev.dec n).quiet = false := by
  by_cases seen : c.dev.flowForm f ≠ 2 ∧ extendSeq (c.dev.dec n).maxSeq p.seq ∈ (c.dev.dec n).seen
  · rw [Chip.stream_copies h ok hn seen.1 seen.2, Device.streamSeen_dec, Device.dec_setDec_same]
  · obtain ⟨cap, adv, gap, took⟩ := Chip.stream_takes h ok hn seen
    rw [took]
    exact (c.streamTake_taken n _ _ _ cap adv gap).quiet

/-- The bytes of the packet that begins an access unit stand in the ring. -/
theorem Chip.Begun.reads {n ext : Nat} {e : Chip} (b : Begun c n p ext e) (wf : c.mem.dram.wf = true) (fits : p.data.length ≤ c.dev.ringSize) :
    (∀ k, (hk : k < p.data.length) →
      Dram.read e.mem.dram (c.dev.ringBase n + ((c.dev.dec n).ringPos + k) % c.dev.ringSize) = p.data[k]) ∧
    (∀ y, y < c.dev.ringBase n ∨ c.dev.ringBase n + c.dev.ringSize ≤ y → Dram.read e.mem.dram y = Dram.read c.mem.dram y) := by
  rw [b.memory]
  refine ⟨ringWrite_inside _ _ _ _ _ wf fits, fun y hy => ?_⟩
  rcases Nat.eq_zero_or_pos c.dev.ringSize with none | some
  · rw [List.eq_nil_of_length_eq_zero (by omega : p.data.length = 0)]
    rfl
  · exact ringWrite_outside _ _ _ _ _ wf some y hy

/-- The packet that begins an access unit of a running session. -/
theorem Chip.streamHeard_begins {n : Nat} (form : c.dev.flowForm f = 1) (version : p.version = 2)
    (hn : c.dev.sessionOf (c.dev.flowSource f) = some n) (new : extendSeq (c.dev.dec n).maxSeq p.seq ∉ (c.dev.dec n).seen)
    (runs : c.dev.stopped (n % 8) = false) (opened : c.dev.decState n ≠ 0) (b : c.Begins n p (extendSeq (c.dev.dec n).maxSeq p.seq)) :
    c.Begun n p (extendSeq (c.dev.dec n).maxSeq p.seq) (c.streamHeard h f p) := by
  have ok : streamOk p (c.dev.flowForm f) = true := by
    rw [form]
    exact decide_eq_true version
  obtain ⟨cap, adv, gap, took⟩ := Chip.stream_takes h ok hn fun seen => new seen.2
  rw [took, form]
  exact Chip.streamTake_begins c p runs opened b

/-- The packets that R468 takes. -/
theorem streamOk_iff (form : Nat) : streamOk p form = true ↔
    (form = 1 ∧ p.version = 2) ∨ (form = 2 ∧ cellsOk p.cells = true) ∨ (form = 3 ∧ p.version = 2 ∧ cellsOk p.cells = true) := by
  unfold streamOk
  split <;> simp_all

end Heard

/-! ### What a silent tick leaves -/

theorem Device.idleClose_open {d : Device} {n : Nat} (h : (d.dec n).idle = false ∨ d.inTick = false) : d.idleClose n = d := by
  unfold idleClose
  exact if_neg (by rcases h with h | h <;> simp [h])

theorem Device.idleClose_ends {d : Device} {n : Nat} (idle : (d.dec n).idle = true) (tick : d.inTick = true) :
    d.idleClose n = d.setDec n { d.dec n with aus := endOpen d.edges (d.dec n).aus } := by
  unfold idleClose
  exact if_pos (by simp [idle, tick])

/-! ### What the end of a picture moves -/

/-- From `d` to `e` only register fields of `l` move, and the running jobs of every session stay. -/
structure Device.Pictured (l : List Fld) (d e : Device) : Prop where
  fields : d.keeps e (but l)
  running : ∀ m, (e.dec m).running = (d.dec m).running

namespace Device.Pictured

variable {l : List Fld} {d e e' : Device}

theorem refl (d : Device) : d.Pictured l d := ⟨Device.keeps_refl d _, fun _ => rfl⟩

theorem trans (h : d.Pictured l e) (h' : e.Pictured l e') : d.Pictured l e' :=
  ⟨Device.keeps_trans h.fields h'.fields, fun m => (h'.running m).trans (h.running m)⟩

theorem of_eq (hr : e.regs = d.regs) (hd : e.decs = d.decs) : d.Pictured l e :=
  ⟨Device.keeps_of_regs hr _, fun m => by rw [Device.dec, hd, Device.dec]⟩

theorem ite {p : Prop} [Decidable p] (h : p → d.Pictured l e) (h' : ¬p → d.Pictured l e') : d.Pictured l (if p then e else e') := by
  split
  · exact h ‹_›
  · exact h' ‹_›

theorem put (h : d.Pictured l e) {f : Fld} (hf : f ∈ l) (i v : Nat) : d.Pictured l (e.put f i v) :=
  h.trans ⟨Device.keeps_put e f i v (but_apart (List.mem_append_left _ hf)), fun _ => rfl⟩

theorem raise (h : d.Pictured l e) {f : Fld} (hf : f ∈ l) (a : Nat) : d.Pictured l (e.raise f a) := by
  obtain ⟨g, q, only⟩ := e.raise_only f a
  exact h.trans ⟨Device.keeps_raise e f a hf, fun m => by rw [only]; rfl⟩

theorem count (h : d.Pictured l e) (ev u n : Nat) : d.Pictured l (e.count ev u n) := by
  obtain ⟨q, only⟩ := e.count_only ev u n
  exact h.trans (of_eq (by rw [only]) (by rw [only]))

theorem of_berths (h : d.BerthFrame (but l) e) : d.Pictured l e := by
  have decs := congrArg Device.decs h.parts
  have decs : e.decs = d.decs := decs
  exact ⟨h.fields, fun m => by rw [Device.dec, decs, Device.dec]⟩

theorem setBerth (h : d.Pictured l e) (n : Nat) (b : Berth) : d.Pictured l (e.setBerth n b) := h.trans (of_eq rfl rfl)

theorem setSrc (h : d.Pictured l e) (s : Nat) (x : Src) : d.Pictured l (e.setSrc s x) := h.trans (of_eq rfl rfl)

theorem setDec (h : d.Pictured l e) {n : Nat} {x : DecSess} (hx : x.running = (e.dec n).running) : d.Pictured l (e.setDec n x) := by
  refine h.trans ⟨Device.keeps_of_regs rfl _, fun m => ?_⟩
  rw [Device.dec_setDec]
  split
  · next same => rw [hx, same]
  · rfl

theorem forL {β : Type} {f : β → Device → Device} (hf : ∀ b (d : Device), d.Pictured l (f b d)) (t : List β) (d : Device) :
    d.Pictured l (Sys2Proof.Machine.forL t f d) := by
  induction t generalizing d with
  | nil => exact refl d
  | cons b r ih => exact (hf b d).trans (ih (f b d))

end Device.Pictured

/-- The register fields that change after a picture's own result is known. -/
def pictureFields : List Fld := [F.NET_SRC_CNT_DISCARD_COUNT, F.DEC_LATE_PICTURES_COUNT, F.DEC_EVENTS_LATE, F.DEC_SESS_STATE_TEN_BIT,
  F.DEC_SESS_CNT_HELD_COUNT, F.DEC_SESS_STATE_DPB_USED, F.NET_SRC_CNT_FRAMES_COUNT, F.DEC_SESS_CNT_SEALED_COUNT] ++ berthFields

section Berths

variable (d : Device) (n s : Nat)

theorem pictureFields_berths : ∀ g, but pictureFields g = true → but berthFields g = true :=
  but_mono fun _ hf => List.mem_append_right _ hf

theorem Device.discard_pictured : d.Pictured pictureFields (d.discard n) := .of_berths (.discard pictureFields_berths d n)

theorem Device.settle_pictured : d.Pictured pictureFields (d.settle n) := .of_berths (.settle pictureFields_berths d n)

theorem Device.dpbRelease_pictured (p : DpbPic) : d.Pictured pictureFields (d.dpbRelease n p) := by
  unfold dpbRelease release
  dsimp only
  exact .ite (fun _ => d.discard_pictured _) fun _ => ((Pictured.refl d).setBerth _ _).trans (Device.settle_pictured _ _)

theorem Device.dpbUpdate_pictured (j : DecJob) (b : Nat) (clean sealed : Bool) : d.Pictured pictureFields (d.dpbUpdate n j b clean sealed) := by
  unfold dpbUpdate
  extract_lets x gone e y keep f g
  have freed : d.Pictured pictureFields e := .forL (fun p d => d.dpbRelease_pictured n p) gone d
  refine .ite (fun _ => ?_) fun _ => ?_
  · have held : d.Pictured pictureFields f := .ite (fun _ => freed.setBerth _ _) fun _ => freed
    refine held.setDec ?_
    show y.running = _
    unfold f
    split <;> rfl
  · have kept : d.Pictured pictureFields g := freed.setDec rfl
    exact .ite (fun _ => kept) fun _ => kept.trans (g.discard_pictured b)

theorem Device.dropLate_pictured : d.Pictured pictureFields (d.dropLate n s) := by
  have counted : d.Pictured pictureFields (d.bump F.NET_SRC_CNT_DISCARD_COUNT s 1) := (Pictured.refl d).put (by simp [pictureFields]) ..
  unfold dropLate
  exact .ite (fun _ => counted.setBerth _ _) fun _ => counted.trans (Device.discard_pictured _ n)

theorem Device.orderNote_pictured : d.Pictured pictureFields (d.orderNote n s) := by
  unfold orderNote
  dsimp only
  split
  · split
    · exact (Pictured.refl d).setDec rfl
    · exact .refl d
  · exact (Pictured.refl d).setSrc _ _

theorem Device.sealRole_pictured : d.Pictured pictureFields (d.sealRole n s) := by
  unfold sealRole
  extract_lets b x chg y e f
  have marked : d.Pictured pictureFields e := (Pictured.refl d).setBerth _ _
  refine .ite (fun _ => (marked.setSrc s y).trans (Device.settle_pictured _ n)) fun _ => ?_
  have role : d.Pictured pictureFields f := marked.setSrc _ _
  split
  · exact role.trans (Device.settle_pictured _ _)
  · exact role

theorem Device.finishSource_pictured : d.Pictured pictureFields (d.finishSource n s) := by
  have sealed : d.Pictured pictureFields (d.sealSource n s) := by
    unfold sealSource
    refine .ite (fun _ => d.dropLate_pictured n s) fun _ => ?_
    have counted : d.Pictured pictureFields (((d.orderNote n s).sealRole n s).bump F.NET_SRC_CNT_FRAMES_COUNT s 1) :=
      ((d.orderNote_pictured n s).trans (Device.sealRole_pictured _ n s)).put (by simp [pictureFields]) ..
    exact .ite (fun _ => counted.put (by simp [pictureFields]) ..) fun _ => counted
  unfold finishSource
  exact .ite (fun _ => sealed) fun _ => (Pictured.refl d).setBerth _ _

end Berths

/-! ### A decoded picture -/

section Parts

variable (d : Device) (n : Nat)

/-- The classes of a job's faults are recorded. -/
def Device.pictureErrs (errs : List Nat) : Device := forL errs (fun (e : Nat) (d : Device) => if e = 1 then d else d.decErr n e) d

/-- The session's state after a picture. -/
def Device.pictureTurned (st : Nat) (rp : Option Nat) (clean referable : Bool) : Device :=
  if rp.isSome ∧ st = 1 then (d.put F.DEC_SESS_STATE_STATE n 2).raise F.DEC_EVENTS_SYNCED n
  else if rp.isSome ∧ st = 3 then (d.put F.DEC_SESS_STATE_STATE n 2).raise F.DEC_EVENTS_RECOVERED n
  else if clean then d else d.decDamaged n referable

/-- Every picture that a picture references is clean. -/
def DecSess.refsClean (x : DecSess) (j : DecJob) : Bool := j.head.refs.all (fun p => x.dpb.any (fun q => decide (q.poc = p) && q.clean))

/-- The session after a picture, and the access unit from which its pictures are clean again. -/
def Device.pictureFound (j : DecJob) (rest : List DecJob) (r : DecResult) : DecSess × Option Nat :=
  (d.dec n).pictureDone ((d.pictureErrs n (d.ownErrs n j r)).codec n) ((d.pictureErrs n (d.ownErrs n j r)).decState n) j (d.ownErrs n j r).isEmpty rest

/-- The picture is clean. -/
def Device.pictureClean (j : DecJob) (rest : List DecJob) (r : DecResult) : Bool :=
  (d.ownErrs n j r).isEmpty && ((d.dec n).refsClean j || (d.pictureFound n j rest r).2.isSome)

/-- The device that has judged a picture. -/
def Device.pictureJudged (j : DecJob) (rest : List DecJob) (r : DecResult) : Device :=
  ((d.pictureErrs n (d.ownErrs n j r)).setDec n (d.pictureFound n j rest r).1).pictureTurned n ((d.pictureErrs n (d.ownErrs n j r)).decState n)
    (d.pictureFound n j rest r).2 (d.pictureClean n j rest r)
    (picReferable j.head (((d.pictureErrs n (d.ownErrs n j r)).setDec n (d.pictureFound n j rest r).1).codec n))

variable (b : Nat) (j : DecJob)

/-- The berth of a picture says what it holds. -/
def Device.pictureStored (m : Memory) (cvs : Nat) : Device :=
  let h := j.head.sps
  let fmt := headFmt j.head
  let stride := fmtStride fmt h.codedW
  d.setBerth b { d.berth b with width := h.w, height := h.h, stride := stride, format := fmt, capture := j.capture, scale := j.scale,
                                rtpTs := j.ts, sigs := picSigs m.rd ⟨d.berthAddr b, fmt, h.w, h.h, stride⟩, order := some (cvs, j.head.poc) }

/-- A picture is counted and shown in the session's registers. -/
def Device.pictureCounted (s : Nat) (shown seals : Bool) : Device :=
  let d := if shown ∧ !seals then d.bump F.NET_SRC_CNT_DISCARD_COUNT s 1 else d
  let lateJob := decide (j.admitted < d.edges) || (decide (j.admitted = d.edges) && d.tick.sealRan)
  let d := if lateJob then (d.bump F.DEC_LATE_PICTURES_COUNT 0 1).raise F.DEC_EVENTS_LATE n else d
  ((d.flag F.DEC_SESS_STATE_TEN_BIT n (decide (headFmt j.head = 9))).put F.DEC_SESS_PIC_WIDTH n j.head.sps.w).put F.DEC_SESS_PIC_HEIGHT n j.head.sps.h

/-- A picture goes to the DPB and, where it is shown, to its source. -/
def Device.pictureSealed (s : Nat) (clean seals : Bool) : Device :=
  let d := if seals then d.count 0x09 (d.get F.DEC_SESS_STATE_CORE n) 1 else d.bump F.DEC_SESS_CNT_HELD_COUNT n 1
  let d := (d.dpbUpdate n j b clean seals).dpbCount n
  if seals then d.finishSource b s else d

/-- The device that a judged picture leaves. -/
def Device.pictureLeft (m : Memory) (cvs : Nat) (clean : Bool) : Device :=
  let s := d.decSource n
  let d := d.pictureStored b j m cvs
  let shown := clean && decide (d.decState n = 2) && j.head.outFlag
  let seals := shown && !d.outOfOrder b s
  (d.pictureCounted n j s shown seals).pictureSealed n b j s clean seals

end Parts

/-- The memory in which a picture's lines stand. -/
def Memory.withPicture (m : Memory) (a : Nat) (r : DecResult) (j : DecJob) : Memory :=
  { m with dram := writeLines m.dram a (fmtStride (headFmt j.head) j.head.sps.codedW) (decLines r j.head) }

/-- The chip that a started picture leaves. -/
def Chip.pictureDone (c : Chip) (n b : Nat) (r : DecResult) (j : DecJob) (rest : List DecJob) : Chip :=
  let d := c.dev.pictureJudged n j rest r
  let m := c.mem.withPicture (d.berthAddr b) r j
  { c with mem := m, dev := d.pictureLeft n b j m (c.dev.pictureFound n j rest r).1.cvs (c.dev.pictureClean n j rest r) }

theorem Chip.decodeDone_eq (c : Chip) (n : Nat) (r : DecResult) : c.decodeDone n r =
    match (c.dev.dec n).running with
    | [] => c
    | j :: rest =>
      match j.berth with
      | none => c
      | some b => if !j.started then c else c.pictureDone n b r j rest := rfl

theorem Chip.decodeDone_started {c : Chip} {n b : Nat} {r : DecResult} {j : DecJob} {rest : List DecJob}
    (running : (c.dev.dec n).running = j :: rest) (berth : j.berth = some b) (started : j.started = true) :
    c.decodeDone n r = c.pictureDone n b r j rest := by
  rw [decodeDone_eq, running]
  dsimp only
  rw [berth]
  dsimp only
  rw [started]
  rfl

namespace Device.Pictured

theorem mono {l m : List Fld} {d e : Device} (h : d.Pictured l e) (hl : ∀ f ∈ l, f ∈ m) : d.Pictured m e :=
  ⟨Device.keeps_mono h.fields (but_mono hl), h.running⟩

end Device.Pictured

/-- The register fields that judging a picture changes. -/
def judgedFields : List Fld := [F.DEC_SESS_STATE_LAST_ERR, F.DEC_SESS_ERR_SEEN_CLASSES, F.DEC_SESS_CNT_LOSS_COUNT, F.DEC_SESS_STATE_STATE,
  F.DEC_EVENTS_SYNCED, F.DEC_EVENTS_RECOVERED, F.DEC_EVENTS_PICTURE_DAMAGED]

theorem Device.berthAddr_judged {d e : Device} (h : d.keeps e (but judgedFields)) (b : Nat) : e.berthAddr b = d.berthAddr b := by
  have get {f : Fld} (hf : but judgedFields f = true) (i : Nat) : e.get f i = d.get f i := h.1 f i hf
  have first (c : Nat) : e.poolFirst c = d.poolFirst c := by
    simp (disch := decide) only [Device.poolFirst, poolCount, get]
  have cls : e.classOf b = d.classOf b := by simp only [Device.classOf, first]
  simp (disch := decide) only [Device.berthAddr, poolBase, addr40, poolSize, get, cls, first]

section Judged

variable (d : Device) (n : Nat)

theorem Device.decErr_pictured (e : Nat) : d.Pictured judgedFields (d.decErr n e) := by
  unfold decErr
  extract_lets f g
  have seen : d.Pictured judgedFields g := ((Pictured.refl d).put (by simp [judgedFields]) n e).put (by simp [judgedFields]) ..
  exact .ite (fun _ => seen.put (by simp [judgedFields]) ..) fun _ => seen

/-- A class that was seen stays seen, and one that is recorded is seen. -/
theorem Device.decErr_seen {e k : Nat} (hk : k < 8) (h : (d.get F.DEC_SESS_ERR_SEEN_CLASSES n).testBit k = true ∨ e = k + 1) :
    ((d.decErr n e).get F.DEC_SESS_ERR_SEEN_CLASSES n).testBit k = true := by
  unfold decErr
  extract_lets f g
  have seen : (g.get F.DEC_SESS_ERR_SEEN_CLASSES n).testBit k = true := by
    have last : f.get F.DEC_SESS_ERR_SEEN_CLASSES n = d.get F.DEC_SESS_ERR_SEEN_CLASSES n := Device.get_put_ne _ _ _ _ _ _ (by decide)
    have now : g.get F.DEC_SESS_ERR_SEEN_CLASSES n = (f.get F.DEC_SESS_ERR_SEEN_CLASSES n ||| 2 ^ (e - 1)) % 2 ^ 8 := Device.get_put_same ..
    rw [now, last, Nat.testBit_mod_two_pow, Nat.testBit_or]
    rcases h with h | h
    · simp [h, hk]
    · simp [h, hk, Nat.testBit_two_pow_self]
  split
  · have stays : (g.bump F.DEC_SESS_CNT_LOSS_COUNT n 1).get F.DEC_SESS_ERR_SEEN_CLASSES n = g.get F.DEC_SESS_ERR_SEEN_CLASSES n :=
      Device.get_put_ne _ _ _ _ _ _ (by decide)
    rw [stays]
    exact seen
  · exact seen

theorem Device.pictureErrs_pictured (errs : List Nat) : d.Pictured judgedFields (d.pictureErrs n errs) :=
  .forL (fun e d => .ite (fun _ => .refl d) fun _ => d.decErr_pictured n e) errs d

theorem Device.pictureErrs_seen {errs : List Nat} {k : Nat} (hk : k < 8) (other : k ≠ 0) : ∀ d : Device,
    (d.get F.DEC_SESS_ERR_SEEN_CLASSES n).testBit k = true ∨ k + 1 ∈ errs →
    ((d.pictureErrs n errs).get F.DEC_SESS_ERR_SEEN_CLASSES n).testBit k = true := by
  induction errs with
  | nil => exact fun d h => h.resolve_right (List.not_mem_nil)
  | cons e errs ih =>
    intro d h
    refine ih (if e = 1 then d else d.decErr n e) ?_
    rcases h with h | h
    · refine .inl ?_
      split
      · exact h
      · exact d.decErr_seen n hk (.inl h)
    · rcases List.mem_cons.mp h with rfl | h
      · refine .inl ?_
        rw [if_neg (by omega)]
        exact d.decErr_seen n hk (.inr rfl)
      · exact .inr h

theorem Device.pictureTurned_pictured (st : Nat) (rp : Option Nat) (clean referable : Bool) :
    d.Pictured (judgedFields.drop 3) (d.pictureTurned n st rp clean referable) := by
  have ran : d.Pictured (judgedFields.drop 3) (d.put F.DEC_SESS_STATE_STATE n 2) := (Pictured.refl d).put (by simp [judgedFields]) ..
  unfold pictureTurned
  refine .ite (fun _ => ran.raise (by simp [judgedFields]) n) fun _ => .ite (fun _ => ran.raise (by simp [judgedFields]) n) fun _ =>
    .ite (fun _ => .refl d) fun _ => ?_
  unfold decDamaged
  have told : d.Pictured (judgedFields.drop 3) (d.raise F.DEC_EVENTS_PICTURE_DAMAGED n) := (Pictured.refl d).raise (by simp [judgedFields]) n
  exact .ite (fun _ => .ite (fun _ => told.put (by simp [judgedFields]) ..) fun _ => told) fun _ => .refl d

variable (j : DecJob) (rest : List DecJob) (r : DecResult)

theorem Device.pictureFound_running : (d.pictureFound n j rest r).1.running = rest := rfl

theorem Device.pictureJudged_running : ((d.pictureJudged n j rest r).dec n).running = rest := by
  refine ((Device.pictureTurned_pictured _ n _ _ _ _).running n).trans ?_
  rw [Device.dec_setDec_same]
  exact d.pictureFound_running n j rest r

theorem Device.pictureJudged_keeps : d.keeps (d.pictureJudged n j rest r) (but judgedFields) := by
  have turned := (Device.pictureTurned_pictured ((d.pictureErrs n (d.ownErrs n j r)).setDec n (d.pictureFound n j rest r).1) n
    ((d.pictureErrs n (d.ownErrs n j r)).decState n) (d.pictureFound n j rest r).2 (d.pictureClean n j rest r)
    (picReferable j.head (((d.pictureErrs n (d.ownErrs n j r)).setDec n (d.pictureFound n j rest r).1).codec n))).mono
      (fun _ hf => List.mem_of_mem_drop hf)
  exact Device.keeps_trans (d.pictureErrs_pictured n _).fields turned.fields

variable {n j r} in
theorem Device.pictureJudged_seen (syntax_ : r.syntax_ = true) :
    ((d.pictureJudged n j rest r).get F.DEC_SESS_ERR_SEEN_CLASSES n).testBit 1 = true := by
  have own : 1 + 1 ∈ d.ownErrs n j r := by
    unfold ownErrs
    rw [if_pos syntax_]
    simp
  have seen := Device.pictureErrs_seen n (k := 1) (by omega) (by omega) d (.inr own)
  have kept : (d.pictureJudged n j rest r).get F.DEC_SESS_ERR_SEEN_CLASSES n =
      (d.pictureErrs n (d.ownErrs n j r)).get F.DEC_SESS_ERR_SEEN_CLASSES n :=
    (Device.pictureTurned_pictured _ n _ _ _ _).fields.1 _ n (by decide)
  rw [kept]
  exact seen

variable {n j r} in
/-- An IRAP picture without a fault of its own begins or resumes a session. -/
theorem Device.pictureJudged_syncs (own : d.ownErrs n j r = []) (irap : picIrap j.head (d.codec n) = true) :
    (d.decState n = 1 → (d.pictureJudged n j rest r).decState n = 2 ∧ (d.pictureJudged n j rest r).get F.DEC_EVENTS_SYNCED = 1) ∧
    (d.decState n = 3 → (d.pictureJudged n j rest r).decState n = 2 ∧ (d.pictureJudged n j rest r).get F.DEC_EVENTS_RECOVERED = 1) := by
  have found : (d.pictureFound n j rest r).2.isSome = true := by
    unfold pictureFound
    rw [own]
    show (recoveryFrom _ (d.codec n) j true).isSome = true
    unfold recoveryFrom
    rw [if_neg (by decide), if_pos irap]
    rfl
  have state : (d.pictureErrs n (d.ownErrs n j r)).decState n = d.decState n := by rw [own]; rfl
  have ran (e : Device) (f : Fld) (hf : F.DEC_SESS_STATE_STATE.id ∉ (f :: overflowFields).map Fld.id) (w : 0 < f.width) :
      ((e.put F.DEC_SESS_STATE_STATE n 2).raise f n).decState n = 2 ∧ ((e.put F.DEC_SESS_STATE_STATE n 2).raise f n).get f = 1 := by
    refine ⟨?_, Device.get_raise_same _ f n w⟩
    have kept := (Device.keeps_raise (l := [f]) (e.put F.DEC_SESS_STATE_STATE n 2) f n (List.mem_singleton_self f)).1 F.DEC_SESS_STATE_STATE n (by
      simp only [but, Bool.not_eq_true', List.contains_eq_mem, decide_eq_false_iff_not]
      exact hf)
    refine kept.trans ((Device.get_put_same ..).trans ?_)
    decide
  unfold pictureJudged
  rw [state]
  refine ⟨fun h => ?_, fun h => ?_⟩
  · unfold pictureTurned
    rw [if_pos ⟨found, h⟩]
    exact ran _ _ (by decide) (by decide)
  · unfold pictureTurned
    rw [if_neg (by omega), if_pos ⟨found, h⟩]
    exact ran _ _ (by decide) (by decide)

end Judged

/-! ### What a judged picture leaves -/

section Left

variable (d : Device) (n b : Nat) (j : DecJob)

/-- The fields that change after a picture is judged. -/
def leftFields : List Fld := [F.DEC_SESS_PIC_WIDTH, F.DEC_SESS_PIC_HEIGHT] ++ pictureFields

theorem Device.pictureCounted_shows (s : Nat) (shown seals : Bool) : d.Pictured leftFields (d.pictureCounted n j s shown seals) ∧
    (d.pictureCounted n j s shown seals).get F.DEC_SESS_PIC_WIDTH n = j.head.sps.w % 2 ^ F.DEC_SESS_PIC_WIDTH.width ∧
    (d.pictureCounted n j s shown seals).get F.DEC_SESS_PIC_HEIGHT n = j.head.sps.h % 2 ^ F.DEC_SESS_PIC_HEIGHT.width := by
  unfold pictureCounted
  extract_lets e lateJob f
  have dropped : d.Pictured leftFields e := .ite (fun _ => (Pictured.refl d).put (by simp [leftFields, pictureFields]) ..) fun _ => .refl d
  have late : d.Pictured leftFields f := .ite (fun _ => (dropped.put (by simp [leftFields, pictureFields]) ..).raise
    (by simp [leftFields, pictureFields]) n) fun _ => dropped
  refine ⟨((late.put (by simp [leftFields, pictureFields]) ..).put (by simp [leftFields]) ..).put (by simp [leftFields]) .., ?_, Device.get_put_same ..⟩
  exact (Device.get_put_ne _ _ _ _ _ _ (by decide)).trans (Device.get_put_same ..)

theorem Device.pictureSealed_pictured (s : Nat) (clean seals : Bool) : d.Pictured pictureFields (d.pictureSealed n b j s clean seals) := by
  unfold pictureSealed dpbCount
  extract_lets e f
  have counted : d.Pictured pictureFields e :=
    .ite (fun _ => (Pictured.refl d).count ..) fun _ => (Pictured.refl d).put (by simp [pictureFields]) ..
  have kept : d.Pictured pictureFields f := (counted.trans (e.dpbUpdate_pictured n j b clean seals)).put (by simp [pictureFields]) ..
  exact .ite (fun _ => kept.trans (f.finishSource_pictured b s)) fun _ => kept

theorem Device.pictureLeft_shows (m : Memory) (cvs : Nat) (clean : Bool) : d.Pictured leftFields (d.pictureLeft n b j m cvs clean) ∧
    (d.pictureLeft n b j m cvs clean).get F.DEC_SESS_PIC_WIDTH n = j.head.sps.w % 2 ^ F.DEC_SESS_PIC_WIDTH.width ∧
    (d.pictureLeft n b j m cvs clean).get F.DEC_SESS_PIC_HEIGHT n = j.head.sps.h % 2 ^ F.DEC_SESS_PIC_HEIGHT.width := by
  unfold pictureLeft
  extract_lets s e shown seals
  have stored : d.Pictured leftFields e := (Pictured.refl d).setBerth _ _
  obtain ⟨counted, width, height⟩ := e.pictureCounted_shows n j s shown seals
  have left := (e.pictureCounted n j s shown seals).pictureSealed_pictured n b j s clean seals
  exact ⟨(stored.trans counted).trans (left.mono fun _ hf => List.mem_append_right _ hf),
    (left.fields.1 _ n (by decide)).trans width, (left.fields.1 _ n (by decide)).trans height⟩

end Left

/-! ### Lines in a berth -/

theorem writeLines_outside (stride : Nat) (l : List (List Byte)) : ∀ (m : Dram) (a : Nat), m.wf = true → (∀ q ∈ l, q.length ≤ stride) →
    ∀ y, y < a ∨ a + stride * l.length ≤ y → Dram.read (writeLines m a stride l) y = Dram.read m y := by
  induction l with
  | nil => exact fun _ _ _ _ _ _ => rfl
  | cons q l ih =>
    intro m a wf fits y hy
    have first := fits q List.mem_cons_self
    rw [List.length_cons, Nat.mul_succ] at hy
    rw [writeLines, ih _ _ (Dram.writeList_wf wf ..) (fun q hq => fits q (List.mem_cons_of_mem _ hq)) y (by omega),
      Dram.read_writeList_outside wf _ _ _ (by omega)]

theorem writeLines_inside (stride : Nat) (l : List (List Byte)) : ∀ (m : Dram) (a : Nat), m.wf = true → (∀ q ∈ l, q.length ≤ stride) →
    ∀ k, (hk : k < l.length) → ∀ x, (hx : x < l[k].length) → Dram.read (writeLines m a stride l) (a + stride * k + x) = l[k][x] := by
  induction l with
  | nil => exact fun _ _ _ _ k hk => absurd hk (Nat.not_lt_zero k)
  | cons q l ih =>
    intro m a wf fits k hk x hx
    have first := fits q List.mem_cons_self
    have rest : ∀ q ∈ l, q.length ≤ stride := fun q hq => fits q (List.mem_cons_of_mem _ hq)
    rw [writeLines]
    cases k with
    | zero =>
      have hx : x < q.length := hx
      have place : a + stride * 0 + x = a + x := by omega
      rw [place, writeLines_outside stride l _ _ (Dram.writeList_wf wf ..) rest _ (.inl (by omega)), Dram.read_writeList_inside wf]
      rfl
    | succ k =>
      have place : a + stride * (k + 1) + x = a + stride + stride * k + x := by rw [Nat.mul_succ]; omega
      rw [place, ih _ _ (Dram.writeList_wf wf ..) rest k (Nat.lt_of_succ_lt_succ hk) x hx]
      rfl

/-- The bytes of a sample. -/
def sampleBytes (fmt : Nat) : Nat := if fmt = 8 then 1 else 2

theorem sampleLine_length (fmt : Nat) (l : List Nat) : (sampleLine fmt l).length = l.length * sampleBytes fmt := by
  simp [sampleLine, leBytes, List.length_flatMap, sampleBytes]

theorem greyPlane_width {depth w h : Nat} {l : List (List (Option Nat))} : ∀ q ∈ greyPlane depth w h l, q.length = w := by
  intro q hq
  obtain ⟨y, -, rfl⟩ := List.mem_map.mp hq
  rw [List.length_map, List.length_range]

/-- The stride of a decoded picture holds each of its lines. -/
theorem fmtStride_holds (h : PicHead) (w n : Nat) (fits : n ≤ (w + 1) / 2 * 2) : n * sampleBytes (headFmt h) ≤ fmtStride (headFmt h) w := by
  have up (x : Nat) : x ≤ roundUp x 64 := by
    unfold roundUp
    omega
  refine le_trans ?_ (up _)
  unfold headFmt fmtLine sampleBytes
  split <;> simp <;> omega

/-- No line of a decoded picture is longer than its stride. -/
theorem decLines_fit (r : DecResult) (h : PicHead) : ∀ q ∈ decLines r h, q.length ≤ fmtStride (headFmt h) h.sps.codedW := by
  have luma : ∀ q ∈ (decPlanes r h.sps).1.map (sampleLine (headFmt h)), q.length ≤ fmtStride (headFmt h) h.sps.codedW := by
    intro q hq
    obtain ⟨p, hp, rfl⟩ := List.mem_map.mp hq
    have wide : p.length = h.sps.codedW := greyPlane_width p hp
    rw [sampleLine_length]
    exact fmtStride_holds h _ _ (by omega)
  have chroma : ∀ q ∈ (List.zip (decPlanes r h.sps).2.1 (decPlanes r h.sps).2.2).map (fun q =>
      sampleLine (headFmt h) ((List.zip q.1 q.2).flatMap (fun v => [v.1, v.2]))), q.length ≤ fmtStride (headFmt h) h.sps.codedW := by
    intro q hq
    obtain ⟨p, hp, rfl⟩ := List.mem_map.mp hq
    have wide : p.1.length = (h.sps.codedW + 1) / 2 := greyPlane_width p.1 (List.of_mem_zip hp).1
    have pairs : ((List.zip p.1 p.2).flatMap (fun v => [v.1, v.2])).length ≤ (h.sps.codedW + 1) / 2 * 2 := by
      simp only [List.length_flatMap, List.length_cons, List.length_nil, List.map_const', List.sum_replicate, List.length_zip, smul_eq_mul]
      omega
    rw [sampleLine_length]
    exact fmtStride_holds h _ _ pairs
  intro q hq
  unfold decLines at hq
  simp only [List.mem_append] at hq
  rcases hq with ((hq | hq) | hq) | hq
  · exact luma q (List.mem_of_mem_take hq)
  · exact chroma q (List.mem_of_mem_take hq)
  · exact luma q (List.mem_of_mem_drop hq)
  · exact chroma q (List.mem_of_mem_drop hq)

/-! ### Streams and pictures by their commands -/

section Picture

variable {c : Chip} (n b : Nat) (r : DecResult) (j : DecJob) (rest : List DecJob)

theorem Chip.pictureDone_lines (wf : c.mem.dram.wf = true) :
    (∀ k, (hk : k < (decLines r j.head).length) → ∀ x, (hx : x < (decLines r j.head)[k].length) →
      Dram.read (c.pictureDone n b r j rest).mem.dram (c.dev.berthAddr b + fmtStride (headFmt j.head) j.head.sps.codedW * k + x) =
        (decLines r j.head)[k][x]) ∧
    (∀ y, y < c.dev.berthAddr b ∨ c.dev.berthAddr b + fmtStride (headFmt j.head) j.head.sps.codedW * (decLines r j.head).length ≤ y →
      Dram.read (c.pictureDone n b r j rest).mem.dram y = Dram.read c.mem.dram y) := by
  have place : (c.dev.pictureJudged n j rest r).berthAddr b = c.dev.berthAddr b := Device.berthAddr_judged (c.dev.pictureJudged_keeps n j rest r) b
  have stands : (c.pictureDone n b r j rest).mem.dram =
      writeLines c.mem.dram (c.dev.berthAddr b) (fmtStride (headFmt j.head) j.head.sps.codedW) (decLines r j.head) := by rw [← place]; rfl
  rw [stands]
  exact ⟨writeLines_inside _ _ _ _ wf (decLines_fit r j.head), writeLines_outside _ _ _ _ wf (decLines_fit r j.head)⟩

/-- What the session shows after a picture. -/
theorem Chip.pictureDone_shows : ((c.pictureDone n b r j rest).dev.dec n).running = rest ∧
    (c.pictureDone n b r j rest).dev.get F.DEC_SESS_PIC_WIDTH n = j.head.sps.w % 2 ^ F.DEC_SESS_PIC_WIDTH.width ∧
    (c.pictureDone n b r j rest).dev.get F.DEC_SESS_PIC_HEIGHT n = j.head.sps.h % 2 ^ F.DEC_SESS_PIC_HEIGHT.width ∧
    (c.dev.ownErrs n j r = [] → picIrap j.head (c.dev.codec n) = true →
      (c.dev.decState n = 1 → (c.pictureDone n b r j rest).dev.decState n = 2 ∧ (c.pictureDone n b r j rest).dev.get F.DEC_EVENTS_SYNCED = 1) ∧
      (c.dev.decState n = 3 → (c.pictureDone n b r j rest).dev.decState n = 2 ∧ (c.pictureDone n b r j rest).dev.get F.DEC_EVENTS_RECOVERED = 1)) ∧
    (r.syntax_ = true → ((c.pictureDone n b r j rest).dev.get F.DEC_SESS_ERR_SEEN_CLASSES n).testBit 1 = true) := by
  obtain ⟨e, he⟩ : ∃ e, e = c.dev.pictureJudged n j rest r := ⟨_, rfl⟩
  obtain ⟨f, hf⟩ : ∃ f, f = (c.pictureDone n b r j rest).dev := ⟨_, rfl⟩
  obtain ⟨left, width, height⟩ : e.Pictured leftFields f ∧ f.get F.DEC_SESS_PIC_WIDTH n = j.head.sps.w % 2 ^ F.DEC_SESS_PIC_WIDTH.width ∧
      f.get F.DEC_SESS_PIC_HEIGHT n = j.head.sps.h % 2 ^ F.DEC_SESS_PIC_HEIGHT.width := by
    rw [hf, he]
    exact Device.pictureLeft_shows ..
  have state : f.decState n = e.decState n := left.fields.1 _ n (by decide)
  have synced : f.get F.DEC_EVENTS_SYNCED = e.get F.DEC_EVENTS_SYNCED := left.fields.1 _ 0 (by decide)
  have recovered : f.get F.DEC_EVENTS_RECOVERED = e.get F.DEC_EVENTS_RECOVERED := left.fields.1 _ 0 (by decide)
  have seen : f.get F.DEC_SESS_ERR_SEEN_CLASSES n = e.get F.DEC_SESS_ERR_SEEN_CLASSES n := left.fields.1 _ n (by decide)
  rw [← hf, state, synced, recovered, seen, he]
  refine ⟨?_, width, height, fun own irap => c.dev.pictureJudged_syncs rest own irap, fun syntax_ => c.dev.pictureJudged_seen rest syntax_⟩
  rw [left.running n, he]
  exact c.dev.pictureJudged_running n j rest r

end Picture

/-- A silent tick ends what is open, and changes nothing else. -/
theorem Device.idleClose_shows (d : Device) (n : Nat) : (d.idleClose n).regs = d.regs ∧ (∀ m, m ≠ n → (d.idleClose n).dec m = d.dec m) ∧
    ((d.idleClose n).dec n).aus.length = (d.dec n).aus.length ∧
    ((d.dec n).idle = true → d.inTick = true → ∀ a ∈ ((d.idleClose n).dec n).aus, a.ended.isSome = true) ∧
    (((d.dec n).idle = false ∨ d.inTick = false) → (d.idleClose n).decs = d.decs) := by
  by_cases h : (d.dec n).idle = false ∨ d.inTick = false
  · rw [Device.idleClose_open h]
    refine ⟨rfl, fun _ _ => rfl, rfl, fun idle tick => ?_, fun _ => rfl⟩
    rcases h with h | h
    · exact absurd (h.symm.trans idle) (by decide)
    · exact absurd (h.symm.trans tick) (by decide)
  · obtain ⟨idle, tick⟩ : (d.dec n).idle = true ∧ d.inTick = true := by simpa using h
    rw [Device.idleClose_ends idle tick]
    refine ⟨rfl, fun m hm => ?_, ?_, fun _ _ => ?_, fun h' => absurd h' h⟩
    · rw [Device.dec_setDec, if_neg (Ne.symm hm)]
    · rw [Device.dec_setDec_same]
      exact List.length_map _
    · rw [Device.dec_setDec_same]
      exact endOpen_ended _ _

/-- Settles O33: the packet by whether it is whole, has a session, is a copy or begins an access unit; the silent tick; and the
picture by its judgement, its lines and what is left of it. -/
theorem streamsFillRingsAndPictures : Obligations.StreamsFillRingsAndPictures := by
  unfold Obligations.StreamsFillRingsAndPictures
  refine ⟨fun s h p f wf flow => ?_, fun s n => ?_, fun s n b r j rest wf _ running berth started => ?_⟩
  · dsimp only
    obtain ⟨e, t, ⟨q, x, he⟩, run, heard⟩ := streamPacket_runs h f p flow
    have regs : e.regs = s.chip.dev.regs := by rw [he]; rfl
    have decs : e.decs = s.chip.dev.decs := by rw [he]; rfl
    have srcs : e.srcs = s.chip.dev.srcs := by rw [he]; rfl
    have get (g : Fld) (i : Nat) : e.get g i = s.chip.dev.get g i := Device.get_congr regs g i
    have form : e.flowForm f = s.chip.dev.get F.NET_RX_FLOW_CFG_FORM f := get _ _
    have source : e.flowSource f = s.chip.dev.get F.NET_RX_FLOW_CFG_SOURCE f := get _ _
    have sess (n : Nat) : e.dec n = s.chip.dev.dec n := by rw [Device.dec, decs, Device.dec]
    have opened (u : Nat) : e.sessionOf u = s.chip.dev.sessionOf u := by rw [he]; rfl
    have frame := Chip.streamHeard_frame ⟨s.chip.mem, e⟩ h f p
    have berths : e.berths = s.chip.dev.berths := by rw [he]; rfl
    have stopped (n : Nat) : e.stopped n = s.chip.dev.stopped n := by rw [Device.stopped, get, Device.stopped]
    have size : e.ringSize = s.chip.dev.ringSize := by rw [Device.ringSize, get, Device.ringSize]
    have base (n : Nat) : e.ringBase n = s.chip.dev.ringBase n := by rw [he]; rfl
    have src (u : Nat) : e.src u = s.chip.dev.src u := by rw [Device.src, srcs, Device.src]
    clear he
    refine ⟨t, run, ?_⟩
    rw [heard, ← form, ← source, ← opened, ← streamOk_iff]
    refine ⟨frame.memory, frame.berths.trans berths, fun m hm => (frame.decs m hm).trans (sess m), fun u hu => (frame.srcs u hu).trans (src u),
      fun bad => ?_, fun ok => Chip.streamHeard_pktSeen h ok, fun ok none => ?_, fun n ok open_ => ?_⟩
    · rw [Chip.stream_rejects h (Bool.eq_false_of_not_eq_true bad)]
      exact ⟨rfl, decs, srcs, Device.keeps_trans (Device.keeps_of_regs regs _) (Device.keeps_put e _ _ _ (but_apart (by simp))),
        (Device.get_bump ..).trans (by rw [get])⟩
    · rw [Chip.stream_unopened h ok none]
      exact ⟨rfl, regs⟩
    · rw [← sess]
      refine ⟨Chip.streamHeard_quiet h ok open_, fun two seen => ?_, fun one new runs on later accepts full useful other half room => ?_⟩
      · rw [Chip.stream_copies h ok open_ two seen]
        exact ⟨rfl, regs, Device.dec_setDec_same ..⟩
      · rw [← size] at half room
        have codec : e.codec n = s.chip.dev.codec n := get _ _
        have version : p.version = 2 := by
          rw [one] at ok
          exact of_decide_eq_true ok
        have begun := Chip.streamHeard_begins (c := ⟨s.chip.mem, e⟩) h one version open_ new ((stopped _).trans runs) ((get _ _).trans_ne on)
          ⟨later, codec ▸ accepts, full, codec ▸ useful, other, half, room⟩
        obtain ⟨reads, outside⟩ := begun.reads wf (le_trans (Nat.le_mul_of_pos_left _ (by decide)) half)
        rw [← size, ← base]
        exact ⟨begun.regs.trans regs, reads, outside, begun.ended, begun.unit, begun.pos⟩
  · obtain ⟨t, run, mem, dev⟩ := onDev_next (f := fun d => d.idleClose n) (c := .accessUnitIdleClose n) (s := s) rfl rfl
    refine ⟨t, run, mem, ?_⟩
    rw [dev]
    exact Device.idleClose_shows s.chip.dev.quiet n
  · dsimp only
    obtain ⟨t, run, mem, dev⟩ := onChip_next (f := fun c => c.decodeDone n r) (c := .decodePictureComplete n r) (s := s) rfl
      (Chip.decodeDone_started (c := s.chip.quiet) running berth started)
    obtain ⟨lines, others⟩ := Chip.pictureDone_lines (c := s.chip.quiet) n b r j rest wf
    refine ⟨t, run, ?_⟩
    rw [mem, dev]
    exact ⟨rfl, lines, others, Chip.pictureDone_shows (c := s.chip.quiet) n b r j rest⟩

end Sys2Proof.Machine
end
